-- ==== Sys2Proof/Word.lean ====
section
/-! DEFINITION. The plain data the model is written in: bytes, byte strings and finite maps keyed by number.
Multi-byte numbers are little-endian (R19, Table 3-1) unless a name says big-endian. -/

namespace Sys2Proof

/-- One byte, as Table 3-1 and every frame and record layout of the manual count them. -/
abbrev Byte := BitVec 8

/-- A byte string, the byte of lowest address or first transmission first. -/
abbrev Bytes := List Byte

/-- A 32-bit register or ring word (R19). -/
abbrev Word := BitVec 32

/-- A finite map from numbers: pairs in strictly rising key order. -/
abbrev NMap (α : Type) := List (Nat × α)

/-- The number a little-endian byte string spells (Table 3-1). -/
def leNat : Bytes → Nat
  | [] => 0
  | b :: bs => b.toNat + 256 * leNat bs

/-- The `n` low bytes of a number, least significant first (Table 3-1). -/
def toLE : Nat → Nat → Bytes
  | 0, _ => []
  | n + 1, v => BitVec.ofNat 8 v :: toLE n (v / 256)

/-- The number a big-endian byte string spells (Table 3-6, R249). -/
def beNat (bs : Bytes) : Nat := leNat bs.reverse

/-- The `n` low bytes of a number, most significant first. -/
def toBE (n v : Nat) : Bytes := (toLE n v).reverse

/-- Bits `[hi:lo]` of a number (R20). -/
def bitsOf (v hi lo : Nat) : Nat := (v / 2 ^ lo) % 2 ^ (hi + 1 - lo)

/-- Bit `b` of a number. -/
def bitAt (v b : Nat) : Bool := v / 2 ^ b % 2 == 1

/-- ⌈a / b⌉. -/
def ceilDiv (a b : Nat) : Nat := (a + b - 1) / b

end Sys2Proof
end

