-- ==== Sys2Proof/Syntax.lean ====
section
/-! DEFINITION. The commands of the block: one constructor per row of spec/opcode_table.json, in its order,
those without operands last.
Operands that only the outside world knows (the received frame, a converted voltage, a message) come with the
command; everything else a command needs is state. Numbers are Nat; WellFormed states their ranges. -/

namespace Sys2Proof

/-- The frame formats of Table 4-1 and Ethernet. -/
inductive FrameFmt where
  | cc | fd | xl | lin | eth
  deriving DecidableEq, Repr

/-- A frame as a port controller hands it over: Classical CAN, CAN FD, CAN XL (R103–R105), LIN (R126) or Ethernet (R143).
`id` is the CAN identifier, the CAN XL priority identifier or the LIN identifier. An Ethernet frame is its bytes from
the destination address on, without FCS. `dlc` is the data length code of a Classical CAN frame where its data bytes do not give it: that of a remote
frame, or 9 to 15 with eight bytes (R103, R104). -/
structure Frame where
  fmt : FrameFmt
  id : Nat := 0
  ext : Bool := false
  rtr : Bool := false
  brs : Bool := false
  esi : Bool := false
  sec : Bool := false
  rrs : Bool := false
  sdt : Nat := 0
  vcid : Nat := 0
  af : Nat := 0
  data : Bytes := []
  dlc : Option Nat := none
  deriving DecidableEq, Repr

/-- The supplies of Table 16-3. -/
inductive Supply where
  | vaon | vana | vioM
  | vcore (die : Nat) | vsds (die : Nat) | vsdsio (die : Nat) | vioBus (die : Nat) | vioGen (die : Nat)
  deriving DecidableEq, Repr

/-- How a CAN transmission ends on an error (R112): a bus error, a missing acknowledgement, or a loop delay above 127 periods, which is a bit
error (R108). -/
inductive CanTxError where
  | bit | stuff | form | ack | loopDelay
  deriving DecidableEq, Repr

/-- How Saffron's work on a seal ends (R335): signed, checked and stored, a signature whose check failed, or a seal that was not stored. -/
inductive SealResult where
  | stored | checkFailed | notStored
  deriving DecidableEq, Repr

/-- The errors a CAN receiver detects (R113). -/
inductive CanRxError where
  | crc | stuff | form
  deriving DecidableEq, Repr

/-- How a LIN response ends (Table 4-11): with the checksum byte that was received, or with a framing error. -/
inductive LinCheck where
  | sum (received : Nat) | framing
  deriving DecidableEq, Repr

/-- What a switch die reports on control lane 0 (R276). -/
inductive HealthReport where
  | alive
  | fault (cls unit : Nat)
  | cleared (cls : Nat)
  deriving DecidableEq, Repr

/-- What a scrub pass finds in a table (R285). -/
inductive ScrubResult where
  | clean | single | multi
  deriving DecidableEq, Repr

/-- A change of the gPTP state of D0 (R323): synchronised, lost, or another grandmaster. -/
inductive GptpChange where
  | synced | lost | grandmaster (identity : Nat)
  deriving DecidableEq, Repr

/-- The two interval timers of a PTP port (R159). -/
inductive GptpTimer where
  | sync | pdelay
  deriving DecidableEq, Repr

/-- What happens to a bridge transfer on its way (R421, R424): it goes through; the far die has started a transfer toward this one at the same
instant; nothing answers; or it arrives with a parity or ECC error. -/
inductive BridgeWay where
  | through | contended | silent | damaged
  deriving DecidableEq, Repr

/-- Why an Ethernet or trunk port sees its link lost (R142, R168): synchronisation lost (on the trunk no block lock, or hi_ber), or, on the trunk, local
fault or remote fault received. -/
inductive LinkFault where
  | sync | localFault | remoteFault
  deriving DecidableEq, Repr

/-- How a link is lost (R168, R169): why, and whether a frame was in reception. -/
structure LaneLoss where
  fault : LinkFault
  receiving : Bool
  deriving DecidableEq, Repr

/-- How a link comes up (R141, R168): its slot, and whether the partner advertises full duplex. -/
structure LaneUp where
  slot : Nat
  partnerFull : Bool
  deriving DecidableEq, Repr

/-- How an Anise datagram arrived (R79): its port and realm, source MAC address, tag (TCI), IPv4 addresses and UDP ports. -/
structure AniseEnv where
  slot : Nat
  realm : Nat := 0
  mac : Nat := 0
  tci : Option Nat := none
  srcIp : Nat := 0
  srcPort : Nat := 0
  dstIp : Nat := 0
  dstPort : Nat := 47110
  deriving DecidableEq, Repr

/-- An Anise request (R80): how it arrived, the fields of its header, the request bytes and the tag that came with it. `status` and `spare` are bytes 19
and 26 to 27. -/
structure AniseMsg where
  env : AniseEnv
  magic : Nat := 0x41
  version : Nat := 1
  flags : Nat := 0
  sid : Nat
  seq : Nat
  index : Nat
  sub : Nat
  offset : Nat := 0
  length : Nat := 0
  data : Bytes := []
  tag : Bytes := []
  status : Nat := 0
  spare : Nat := 0
  deriving DecidableEq, Repr

/-- The commands. -/
inductive Instr where
  /-- A supply stays below its falling threshold for 2 us, with the reset or loss effect of Table 16-3 (R453). -/
  | supplyOutOfRange (sup : Supply)
  /-- The supplies a block or die waits for rise above their thresholds, and it is released from reset (R392). -/
  | suppliesInRange (die : Nat)
  /-- A switch die whose supplies are not in range 20 ms after t1 is declared LOST, and the other dies start without it (R393). -/
  | switchDieSupplyTimeout (die : Nat)
  /-- The boot ROM has verified the guard slot and the guard firmware runs, then resolves the store and the configuration (R447). -/
  | guardFirmwareVerified (flash : List Bytes)
  /-- VCORE falls below 0.69 V in RUN and the die sends a VCORE-low health report on lane 0 (R49). -/
  | vcoreLow (die : Nat)
  /-- VCORE rises above 0.70 V again and the die clears its VCORE-low report (R49). -/
  | vcoreRestored (die : Nat)
  /-- VCORE stays below the reset threshold for 2 us; the die enters reset and loses its image (R49). -/
  | vcoreBelowReset (die : Nat)
  /-- REFCLK_IN stops or a bank PLL unlocks; the bank's ports go recessive and enter FAULT with queues parked (R110). -/
  | bankClockFail (die : Nat)
  /-- The bank clock has been stable for 1 ms and each enabled port passes through ENABLING (R110). -/
  | bankClockStable (die : Nat)
  /-- D0 receives a switch-die health report on lane 0 and updates the die's state, leaving ISOLATED when applicable (R276). -/
  | healthReport (die : Nat) (report : HealthReport)
  /-- D0 receives nothing from a die for 300 us and marks it ISOLATED (R276). -/
  | controlLinkSilent (die : Nat)
  /-- Every 10 ms D0 resets the control link of an ISOLATED die until reports return (R276). -/
  | controlLinkReset (die : Nat)
  /-- A stage holds pending data with no completed handshake for 100 us, a fatal fault of the die (R277). -/
  | stageStall (die : Nat)
  /-- A cell arrives on a fabric link end; it is CRC-checked, relayed in transit or stored at stage 10 (R35). -/
  | fabricCellReceive (die e : Nat) (crcOk : Bool)
  /-- An idle link end sends a keep-alive word at least every 1 us (R275). -/
  | keepAlive (die e : Nat)
  /-- A cell or keep-alive stays unacknowledged for 4 us, or one cell fails CRC 8 times; the link is reported failed (R275). -/
  | linkEndFail (die e : Nat)
  /-- After 1 s of error-free keep-alives in both directions a failed link end returns to up (R275). -/
  | linkEndRecover (die e : Nat)
  /-- The egress die acknowledges the path marker and the ingress die releases held cells onto the new path (R281). -/
  | pathMarkerAck (src dst cls : Nat)
  /-- A CAN controller accepts a valid frame, which runs through stages 1 to 7 of the forwarding path (R38). -/
  | canFrameReceive (slot : Nat) (frame : Frame)
  /-- A frame of a format the port excludes is a protocol exception; it is counted and the port waits for bus integration (R106). -/
  | canProtocolException (slot : Nat)
  /-- An ENABLING CAN port sees 11 recessive bits and becomes ENABLED (R130). -/
  | canBusIntegration (slot : Nat)
  /-- A free egress point takes the head copy of its highest class, discarding copies past their residence limit (R227). -/
  | portDequeue (die q : Nat)
  /-- A CAN frame is sent and its copy releases its charges (R111). -/
  | canTransmitComplete (slot delay : Nat)
  /-- The port loses arbitration, counts it and reselects the frame to try next (R111). -/
  | canArbitrationLost (slot : Nat)
  /-- A transmission ends on an error; the frame is retried or dropped as one-shot (R112). -/
  | canTransmitError (slot : Nat) (err : CanTxError)
  /-- busOffRestart elapses after bus-off and the recovery sequence starts (R114). -/
  | busOffRestartTimeout (slot : Nat)
  /-- 128 occurrences of 11 recessive bits complete; TEC and REC clear and the port returns to ENABLED (R114). -/
  | recoverySequenceComplete (slot : Nat)
  /-- A LIN header is received or sent; a responder checks its sync field and a published identifier sends its buffer (R125). -/
  | linHeader (slot id : Nat) (syncOk readBackOk : Bool)
  /-- A complete subscribed response with a valid checksum enters stage 1 as a kind 3 frame (R126). -/
  | linResponseReceive (slot id : Nat) (data : Bytes) (check : LinCheck)
  /-- A response is not complete within its bound after the header and is counted as no-response (R125). -/
  | linNoResponse (slot : Nat)
  /-- A commander's schedule slot duration ends and the next slot runs (R128). -/
  | linScheduleSlot (slot : Nat)
  /-- LINk_RX stays dominant for more than 20 ms and the port enters BUS_FAULT (R129). -/
  | linBusStuck (slot : Nat)
  /-- LINk_RX stays recessive for 10 ms and the port returns to ENABLED (R129). -/
  | linBusRecover (slot : Nat)
  /-- An Ethernet or trunk frame completes and passes the receive checks, then the forwarding stages (R143). -/
  | ethFrameReceive (slot : Nat) (bytes : Bytes) (fcsOk : Bool)
  /-- An Ethernet copy finishes transmission and releases its charges (R219). -/
  | ethTransmitComplete (slot : Nat)
  /-- drainTimeout elapses; remaining frames are flushed and the port leaves DRAINING (R131). -/
  | drainTimeout (slot : Nat)
  /-- A parked port's hold time ends; every parked copy is flushed and new copies are refused (R232). -/
  | holdTimeExpiry (slot : Nat)
  /-- A member die returns ATOMIC credit to the replication die after a copy releases its charges (R230). -/
  | atomicCreditReturn (group member cells : Nat)
  /-- An SGMII control word sets link, speed and duplex, or keeps the port out of ENABLED (R141). -/
  | sgmiiControlWord (slot : Nat) (up fullDuplex : Bool) (speed : Nat)
  /-- Loss of lane synchronisation, link-down control word or trunk fault is detected within 10 us (R168). -/
  | linkLoss (slot : Nat) (loss : LaneLoss)
  /-- The loss persists for linkDownDelay; the port enters LINK_DOWN, parks queues and requests evidence (R168). -/
  | linkDownDelayExpiry (slot : Nat)
  /-- The link has been up for linkUpDelay and the port returns to ENABLED (R168). -/
  | linkUpDelayExpiry (slot : Nat)
  /-- A received pause timer reaches zero and the port or class may send again (R154). -/
  | pauseTimerExpiry (slot cls : Nat)
  /-- The pause watchdog runs out; the pause is cleared, a pause storm counted and a penalty starts (R156). -/
  | pauseWatchdogExpiry (slot cls : Nat)
  /-- The pause penalty elapses and received pause is obeyed again (R156). -/
  | pausePenaltyEnd (slot cls : Nat)
  /-- Half the sent pause time elapses and the port refreshes its pause or PFC frame (R157). -/
  | pauseRefresh (slot cls : Nat)
  /-- A configuration parity fault in a port controller puts its port into FAULT and raises source 48 (R134). -/
  | configParityFault (slot : Nat)
  /-- phy.mdio.op 1 runs a Clause 22 read (R174). -/
  | mdioC22Read (sess slot : Nat)
  /-- phy.mdio.op 2 runs a Clause 22 write (R174). -/
  | mdioC22Write (sess slot : Nat)
  /-- phy.mdio.op 3 runs a Clause 45 read (R174). -/
  | mdioC45Read (sess slot : Nat)
  /-- phy.mdio.op 4 runs a Clause 45 write (R174). -/
  | mdioC45Write (sess slot : Nat)
  /-- The MDIO frames complete; the write is acknowledged and source 15 is raised (R174). -/
  | mdioOperationComplete (die data : Nat) (answered : Bool)
  /-- D0 receives a LISTEN wake-pattern report and treats it as wake code 8 (R173). -/
  | wakePatternReport (slot pattern : Nat)
  /-- The learning engine decides the next queued learn request under Table 6-7 (R203). -/
  | learnRequest (die : Nat)
  /-- The sweeper visits a bucket or stash entry, ageing or removing learned entries (R207). -/
  | sweeperVisit (die : Nat)
  /-- A tunnel engine takes a native copy and appends its message to the open PDU (R255). -/
  | tunnelEngineTake (die engine : Nat)
  /-- A row's flush timer reaches batch.flushTimer and its open PDU is closed (R255). -/
  | flushTimerExpiry (row : Nat)
  /-- The engine checks a steered frame and turns each valid message into a native frame (R259). -/
  | tunnelDecapsulate (die : Nat)
  /-- resyncTime passes without an accepted PDU and the row's synced flag clears (R260). -/
  | resyncTimeout (row : Nat)
  /-- An evidence limiter interval ends and a summary request is sent if events are outstanding (R116). -/
  | evidenceIntervalEnd (limiter : Nat)
  /-- D0 detects a fault: health map, fault log, source 69, health evidence and SAFE_N policy (R278). -/
  | faultDetected (cls die unit : Nat)
  /-- A write of health.die.readmit puts a LOST die into READMITTING and resets it (R283). -/
  | readmit (sess die : Nat)
  /-- D0 has reset the readmitted die and sent its images (R283). -/
  | readmitImagesSent (die : Nat) (ok : Bool)
  /-- The die passes its start self-test, enters OK and starts a recomputation (R283). -/
  | readmitSelfTestComplete (die : Nat) (ok : Bool)
  /-- A write of safe.release raises SAFE_N in latched mode when no condition holds (R288). -/
  | safeRelease (sess value : Nat)
  /-- A class 0x0F or 0x14 fault has not recovered after 1 s and SAFE_N is driven low (R287). -/
  | safeNRecoveryTimeout (cls : Nat)
  /-- A reset runtime pair has its image re-verified and restarts (R285). -/
  | runtimePairRestartComplete (die : Nat)
  /-- A scrub pass reads table words, correcting single-bit and detecting multi-bit errors (R285). -/
  | tableScrub (die table : Nat) (err : ScrubResult)
  /-- The runtime rewrites a damaged table half from the committed configuration (R285). -/
  | tableHalfRewrite (die table : Nat)
  /-- An enabled multifunction input is converted, updating its value and diagnostics (R294). -/
  | miConversion (input : Nat) (microVolt : Int)
  /-- A frequency or duty gate ends and the input's value is computed (R294). -/
  | miGateEnd (input : Nat)
  /-- The open-load source is switched in for 200 us and a slot conversion is taken (R296). -/
  | miDiagnosticSlot (input : Nat) (microVolt : Int)
  /-- A counted edge on a speed input updates count, speed and frequency (R298). -/
  | spdCountedEdge (input highTicks : Nat)
  /-- Every 1 ms with an overdue edge the speed is recomputed from the time since the last edge (R299). -/
  | spdDecelerationUpdate (input : Nat)
  /-- No edge for zeroTimeout and the speed and frequency become 0 (R299). -/
  | spdZeroTimeout (input : Nat)
  /-- Both lines stay near the bias for 100 ms and the input reports open (R301). -/
  | spdOpen (input : Nat) (absent : Bool)
  /-- A write of spd.distanceReset zeroes the count and produces a record (R302). -/
  | distanceReset (sess input value : Nat)
  /-- VBATP is converted every 1 ms and its mean updated (R303). -/
  | vbatpConversion (microVolt : Int)
  /-- The wake input levels are sampled every 1 ms (R304). -/
  | wkLevelSample (levels : Nat)
  /-- D0 receives a tap value, keeps it if newer and evaluates dependent rules (R307). -/
  | tapValueReceive (die : Nat)
  /-- A tap's minInterval ends and its held latest value is sent (R307). -/
  | tapIntervalEnd (die row : Nat)
  /-- A rule's persistence or release timer expires and it re-evaluates (R310). -/
  | ruleTimerExpiry (row : Nat)
  /-- An evidence request reaches D0 and enters the append queue (R324). -/
  | evidenceRequest (src : Nat)
  /-- Room returns and the source sends its coalesced entries and overflow record (R325). -/
  | coalesceTableSend (src : Nat)
  /-- Saffron completes the signature, checks it, stores the seal and offers it to the FIFO (R335). -/
  | sealSigned (result : SealResult)
  /-- Evidence port NOP returns STATUS only (R346). -/
  | evNop (word : Word)
  /-- Evidence port READ returns n words and advances the read position (R346). -/
  | evRead (n : Nat)
  /-- Evidence port CLEAR clears the named sticky STATUS bits (R346). -/
  | evClear (mask : Nat)
  /-- Evidence port FETCH_RECORD starts loading a journal record into the fetch buffer (R347). -/
  | evFetchRecord (seq : Nat)
  /-- Evidence port FETCH_SEAL starts loading a stored seal into the fetch buffer (R347). -/
  | evFetchSeal (number : Nat)
  /-- Evidence port READ_FETCH reads words from the fetch buffer (R346). -/
  | evReadFetch (n : Nat)
  /-- A write of seal.now makes a seal due under trigger 2 (R332). -/
  | sealNowEntry (sess value : Nat)
  /-- A write of journal.ack sets the delivered bit of every record up to the value (R330). -/
  | journalAck (sess seq : Nat)
  /-- gPTP gains or loses sync or changes grandmaster and a TIME record is requested (R323). -/
  | gptpSyncStateChange (change : GptpChange)
  /-- A write of lifecycle.request draws a token for a transition (R358). -/
  | lifecycleRequest (sess value : Nat)
  /-- A correct token confirms the transition: seal, fuse burns, erasures, records and session end (R359). -/
  | lifecycleConfirm (sess : Nat) (value : Bytes)
  /-- A valid provisioning blob in BLANK moves the device to PROVISIONED and opens the chain (R370). -/
  | provisionBlob (sess : Nat) (blob : Bytes)
  /-- Key operation DERIVE writes a family or derived leaf record into an empty slot (R366). -/
  | keyDerive (sess : Nat)
  /-- Key operation IMPORT writes a leaf from an encrypted blob into an empty slot (R366). -/
  | keyImport (sess : Nat)
  /-- Key operation INVALIDATE advances a family or root generation, invalidating descendants (R368). -/
  | keyInvalidate (sess : Nat)
  /-- Key operation ERASE clears a slot and overwrites its material (R366). -/
  | keyErase (sess : Nat)
  /-- A challenge write computes the tagged attestation response (R372). -/
  | attestChallenge (sess : Nat) (challenge : Bytes)
  /-- A write of power.request 1 starts the entry sequence to LISTEN (R378). -/
  | powerRequestListen (sess : Nat)
  /-- A write of power.request 2 starts the entry sequence to STANDBY (R378). -/
  | powerRequestStandby (sess : Nat)
  /-- A decoder in mode 2 sees a complete wake-up pattern and wakes the device (R388). -/
  | canWakeUpPattern (slot : Nat)
  /-- A decoder in mode 3 decodes a frame, updating its error counter and matching the wake-up frame (R388). -/
  | canDecoderFrame (slot : Nat) (frame : Frame) (err : Bool)
  /-- A dominant RXD held for 10 us in mode 1 wakes the device (R388). -/
  | canRxdWake (slot : Nat)
  /-- A selected edge on a WK input holds for wk.filter and is a wake event (R382). -/
  | wkEdge (input : Nat) (rising : Bool)
  /-- A tamper loop is sampled; two consecutive results confirm or restore an event (R384). -/
  | tamperSample (loop : Nat) (level : Bool)
  /-- In LISTEN a dominant LIN level held 150 us is a wake pulse (R386). -/
  | linWakePulse (slot : Nat)
  /-- A write of SYS_CTRL turns the watchdog on, after which it stays on (R404). -/
  | sysCtrlWrite (die : Nat) (value : Word)
  /-- A write of 0x0000_C3A5 restarts the watchdog; other values set KICK_ERR (R404). -/
  | sysWdtKick (die : Nat) (value : Word)
  /-- The application watchdog expires and the pair is reset (R428). -/
  | appWatchdogExpiry (die : Nat)
  /-- A write of app.restart resets the application pair (R428). -/
  | appRestart (sess die value : Nat)
  /-- app.restartDelay passes and D0 reloads the application image, or holds the pair after its limit (R428). -/
  | appRestartDelayExpiry (die : Nat)
  /-- A source message reaches the interrupt controller and sets pending or LOST (R406). -/
  | interruptSourceFire (die source target : Nat)
  /-- A write of 128 to 255 raises that software source (R410). -/
  | intcDoorbell (die : Nat) (value : Word)
  /-- A bridge write raises source 70 + m and stores the value (R410). -/
  | intcRdoorbell (die sender : Nat) (value : Word)
  /-- A write sets pending bits as if the sources had fired (R410). -/
  | intcSetpend (die word : Nat) (value : Word)
  /-- A read returns the best qualifying source and moves it to active (R409). -/
  | intcClaim (die : Nat)
  /-- A write ends service of an active source (R409). -/
  | intcComplete (die : Nat) (value : Word)
  /-- A write with EN 1 loads COUNT and starts the timer; EN 0 stops it (R405). -/
  | tmrCtrlWrite (die timer : Nat) (value : Word)
  /-- A timer reaches 0, sets EXP, raises its source and reloads or stops (R405). -/
  | timerExpiry (die timer : Nat)
  /-- TMR_OWN CMD 1 claims a timer (R426). -/
  | tmrClaim (die timer pair : Nat)
  /-- TMR_OWN CMD 2 releases a disabled timer (R426). -/
  | tmrRelease (die timer pair : Nat)
  /-- PIN_OWN CMD 1 claims a pin (R426). -/
  | pinClaim (die pin pair : Nat)
  /-- PIN_OWN CMD 2 releases a disabled pin (R426). -/
  | pinRelease (die pin pair : Nat)
  /-- A write sets output levels of owned pins and ignores others (R426). -/
  | pinsDoutWrite (die pair : Nat) (value : Word)
  /-- MBX_OP READ starts an OD read request through the mailbox (R419). -/
  | mbxRead (die : Nat) (staged : Bool)
  /-- MBX_OP WRITE starts an OD write request through the mailbox (R419). -/
  | mbxWrite (die : Nat) (staged : Bool)
  /-- The mailbox request is served; BUSY clears, DONE sets and source 41 may rise (R419). -/
  | mailboxComplete (die : Nat)
  /-- A non-posted read through a window to another die (R420). -/
  | bridgeWindowRead (die window offset : Nat) (way : BridgeWay)
  /-- A posted write through a window carries a tag to another die (R420). -/
  | bridgePostedWrite (die window offset : Nat) (value : Word) (way : BridgeWay)
  /-- A read returns after all earlier posted writes completed, giving the fence count (R423). -/
  | bridgeFence (die : Nat)
  /-- A write sets the fence count to 0 (R423). -/
  | bridgePfclr (die : Nat) (value : Word)
  /-- A test-and-set read of a semaphore (R425). -/
  | bridgeSemRead (die sem sender : Nat)
  /-- A write of 0 by the holder releases a semaphore (R425). -/
  | bridgeSemWrite (die sem sender : Nat) (value : Word)
  /-- A failed posted write is logged and source 70 sets PFSRC and the fence count (R422). -/
  | bridgePostedFail (die : Nat)
  /-- After a back-off of 64 handshakes a NACKed transfer retries, failing after 256 NACKs (R424). -/
  | bridgeNackRetry (die : Nat) (accepted : Bool)
  /-- A bridge transfer gets no response within 1 ms and fails with cause 0x06 (R421). -/
  | bridgeResponseTimeout (die : Nat)
  /-- A semaphore of a lost or reset holder is released, setting SEMREL and raising source 42 (R425). -/
  | semaphoreFailureRelease (die sem : Nat)
  /-- A write of EN 1 resets the positions, or is refused with CFG_BAD (R417). -/
  | qpEnable (die qp : Nat)
  /-- A write of EN 0 starts DISABLING (R417). -/
  | qpDisable (die qp : Nat)
  /-- The item in progress completes and remaining items are discarded (R417). -/
  | qpDisablingEnd (die qp : Nat)
  /-- A write advances the RX read position by n words (R416). -/
  | qpRxadv (die qp : Nat) (value : Word)
  /-- QP_RXCMD 1 sets the mark to the read position (R340). -/
  | qpMark (die qp : Nat)
  /-- QP_RXCMD 2 returns the read position to the mark (R340). -/
  | qpRewind (die qp : Nat)
  /-- QP_RXCMD 3 frees RX words before the read position (R340). -/
  | qpRelease (die qp : Nat)
  /-- A write pushes one word into the TX ring (R416). -/
  | qpTxpush (die qp : Nat) (value : Word)
  /-- The switch takes a TX item, checks it and lets it enter stage 3 on PRC1 (R414). -/
  | qpTxItemTake (die : Nat)
  /-- A copy for PRC1 is written whole as an RX item into its QP ring (R413). -/
  | qpRxItemWrite (die : Nat)
  /-- A write consumes capture records, or is ignored and sets BADIDX (R418). -/
  | capRdcntWrite (die : Nat) (value : Word)
  /-- A write to a bit-plane alias acts atomically on one register bit (R402). -/
  | bitPlaneAliasWrite (die addr : Nat) (value : Word)
  /-- A read of a 64-bit low word latches the high word into the core's shadow (R401). -/
  | lowWordRead (die addr core : Nat)
  /-- A read returns and clears the corrected SRAM error count (R404). -/
  | sysEccCorrRead (die : Nat)
  /-- A read returns and clears the discarded TX item count (R414). -/
  | qpTxerrRead (die qp : Nat)
  /-- A read returns and clears the back-off count (R424). -/
  | bridgeRetryRead (die : Nat)
  /-- A write to a register without its own row, obeying the configuration and access rules (R398). -/
  | registerWrite (die addr : Nat) (value : Word)
  /-- A block's work finishes; it stops, or restarts on a pending re-enable (R399). -/
  | blockDisablingEnd (die addr : Nat)
  /-- A configuration register fails parity; the block stops and raises source 48 (R400). -/
  | registerParityMismatch (die addr : Nat)
  /-- A piece of a Vinum delta is written to update.delta (R439). -/
  | updateDeltaWrite (sess offset : Nat) (bytes : Bytes)
  /-- Action CHECK checks the delta against gates and the active slot (R440). -/
  | updateCheck (sess : Nat)
  /-- Action APPLY starts erasing and writing the inactive slot (R441). -/
  | updateApply (sess : Nat)
  /-- APPLY finishes with the slot BUILT, or fails and returns to IDLE (R441). -/
  | updateApplyComplete (ok : Bool)
  /-- Action START begins the trial of the built image (R443). -/
  | updateStart (sess : Nat)
  /-- Action ABANDON stops writing and marks the inactive slot invalid (R439). -/
  | updateAbandon (sess : Nat)
  /-- Action REJECT falls back from the trial at once (R445). -/
  | updateReject (sess : Nat)
  /-- A write of the new version confirms the trial and raises the floor (R444). -/
  | updateConfirm (sess version : Nat)
  /-- Commit action 1 validates the staging image without change (R88). -/
  | commitValidate (sess : Nat)
  /-- Commit action 2 starts validation, placement, store and apply (R89). -/
  | commitStart (sess : Nat)
  /-- Commit action 3 discards the staging image and releases the lock (R88). -/
  | commitDiscard (sess : Nat)
  /-- Commit action 4 stages effective defaults of every persistent entry in the store (R88). -/
  | restoreDefaults (sess : Nat)
  /-- Commit action 5 discards another session's staging and releases its lock (R88). -/
  | discardLockHolder (sess : Nat)
  /-- All three store copies are written and read back at t3 (R94). -/
  | storeWriteComplete (ok : Bool)
  /-- A staged or live write to an entry without its own row (R63). -/
  | odEntryWrite (sess index sub : Nat) (value : Bytes)
  /-- A relayed OD request returns from its serving die on lane 3 (R67). -/
  | odRelayResponse (sess : Nat)
  /-- Row action 1 stages valid false and resets the cursor row (R64). -/
  | rowAction (sess index value : Nat)
  /-- A write of a cnt.clear entry sets its counters to 0 (R137). -/
  | counterClear (sess index sub : Nat)
  /-- A write of port.can.recover starts bus-off recovery when manual (R114). -/
  | canRecover (sess slot value : Nat)
  /-- A write of idGuard.clearBlock lifts a rule-placed block (R117). -/
  | clearBlock (sess row : Nat)
  /-- A write of fdb.flush removes learned entries of a realm or all (R206). -/
  | fdbFlush (sess value : Nat)
  /-- A write of time.rtc.seconds sets the RTC and makes it valid (R100). -/
  | rtcWrite (sess value : Nat)
  /-- An SDO expedited or segmented download request (R76). -/
  | sdoDownloadInitiate (slot : Nat) (msg : Bytes)
  /-- An SDO download segment (R76). -/
  | sdoDownloadSegment (slot : Nat) (msg : Bytes)
  /-- An SDO block download request or block (R76). -/
  | sdoBlockDownload (slot : Nat) (msg : Bytes)
  /-- An SDO expedited or segmented upload request (R76). -/
  | sdoUploadInitiate (slot : Nat) (msg : Bytes)
  /-- An SDO upload segment request (R76). -/
  | sdoUploadSegment (slot : Nat) (msg : Bytes)
  /-- An SDO block upload request (R76). -/
  | sdoBlockUpload (slot : Nat) (msg : Bytes)
  /-- A write of requestLevel draws N_d for a pending opening (R78). -/
  | sdoRequestLevel (sess level : Nat)
  /-- A write of the client nonce for an opening (R78). -/
  | sdoClientNonce (sess : Nat) (nonce : Bytes)
  /-- A write of P opens the service-channel session or counts a failure (R78). -/
  | sdoProof (sess : Nat) (proof : Bytes)
  /-- A write of close ends the channel's session (R78). -/
  | sdoClose (sess value : Nat)
  /-- Anise READ returns an entry value (R81). -/
  | aniseRead (m : AniseMsg)
  /-- Anise WRITE writes an entry value (R81). -/
  | aniseWrite (m : AniseMsg)
  /-- Anise OPEN creates a pending session and returns sid and N_d (R81). -/
  | aniseOpen (m : AniseMsg)
  /-- Anise AUTH opens the pending session or fails authentication (R81). -/
  | aniseAuth (m : AniseMsg)
  /-- Anise CLOSE ends the session (R81). -/
  | aniseClose (m : AniseMsg)
  /-- Anise ECHO returns the same bytes (R81). -/
  | aniseEcho (m : AniseMsg)
  /-- No valid AUTH within 10 s and the pending session lapses (R81). -/
  | pendingSessionLapse (row : Nat)
  /-- A session idles for idleTimeout and ends, discarding its staging (R72). -/
  | sessionIdleTimeout (sess : Nat)
  /-- A lockout time ends and the failure count starts again (R73). -/
  | lockoutEnd (ap : Nat)
  /-- The test access port loads SAMPLE/PRELOAD, effective only in reset and early states (R479). -/
  | jtagSamplePreload (cells : Nat)
  /-- The test access port loads EXTEST, effective only in reset and early states (R479). -/
  | jtagExtest (cells : Nat)
  /-- An Ethernet or trunk lane regains synchronisation, block lock or auto-negotiated link, which starts linkUpDelay, ends ENABLING waiting, or is a wake match in LISTEN (R168). -/
  | linkUp (lane : LaneUp)
  /-- A CAN controller detects a CRC, stuff or form error while receiving, raising REC, counting cnt.rxError and possibly changing its error state (R113). -/
  | canReceiveError (slot : Nat) (err : CanRxError)
  /-- A rising or falling edge passes the glitch filter on a multifunction input in frequency or duty mode and is timestamped for the next gate (R294). -/
  | miEdge (input : Nat) (rising : Bool)
  /-- A multifunction input in digital mode stays beyond its threshold for mi.debounce and its value changes, possibly waking the device in LISTEN (R294). -/
  | miDebounceExpiry (input : Nat)
  /-- The logSyncInterval or logPdelayReqInterval timer of a PTP port runs out and the time unit sends its Sync or Pdelay_Req message (R159). -/
  | gptpIntervalExpiry (slot : Nat) (kind : GptpTimer)
  /-- D0 has reloaded and verified the application image after a restart or trial start and the application pair starts again (R428). -/
  | appImageReloaded (die : Nat)
  /-- The 1 ms wake pulse of a propagating LIN port ends, and 100 ms later a commander starts slot 0 of its schedule (R391). -/
  | wakePulseEnd (slot : Nat)
  /-- VAON rises from OFF past its power-on threshold; the island activates INH and the cold start sequence begins (R393). -/
  | powerOn
  /-- RESET_N goes low; every block except the always-on island is held in reset, with INH active and SAFE_N low (R393). -/
  | resetNAssert
  /-- RESET_N is released and the device runs the start sequence of Table 13-4 from t1 (R393). -/
  | resetNRelease
  /-- VAON falls below its power-on threshold and the device enters OFF from any mode (R394). -/
  | vaonLoss
  /-- Verified switch-die images have crossed lane 3 and the runtime pairs run (R33). -/
  | switchImagesLoaded
  /-- Tables and keys are applied on the switch dies and every enabled port enters ENABLING (R389). -/
  | tablesApplied
  /-- A summary interval ends; changed masked classes are reported or the device becomes quiet (R278). -/
  | healthSummaryIntervalEnd
  /-- A health-triggered placement recomputation completes (R280). -/
  | recomputationComplete
  /-- The recomputed placement is applied at one instant on every die (R280). -/
  | placementApply
  /-- 32 RTC periods pass without a refresh; the island drives SAFE_N low and the supervisor is restarted (R289). -/
  | supervisorWatchdogExpiry
  /-- The restarted supervisor fails to refresh within 50 ms and the event becomes a class 0x0F fault (R289). -/
  | supervisorRefreshTimeout
  /-- The security core has reloaded verified guard firmware and D0 services return (R285). -/
  | securityCoreRestartComplete
  /-- Every 1 s D0 writes the pulse counts and reversed states to MRAM (R302). -/
  | distanceStore
  /-- Every 1 s D0 writes the latest freshness values to MRAM (R122). -/
  | freshnessStore
  /-- Every 1 ms each rule is evaluated and moves between states (R309). -/
  | ruleEvaluation
  /-- Saffron writes the next record to the journal, advances the chain and offers it to the FIFO (R328). -/
  | recordAppend
  /-- 1 s after a loss range opened, JOURNAL_LOSS is appended (R331). -/
  | lossRangeTimeout
  /-- seal.period passes and a periodic seal is due (R332). -/
  | sealPeriodExpiry
  /-- seal.minSpacing ends and deferred triggers produce one seal (R332). -/
  | sealSpacingEnd
  /-- Background generation of the next lower tree completes (R337). -/
  | nextTreeReady
  /-- The active tree is regenerated after a start and waiting seals proceed (R337). -/
  | activeTreeReady
  /-- Evidence port MARK sets the mark to the read position (R340). -/
  | evMark
  /-- Evidence port REWIND returns the read position to the mark (R340). -/
  | evRewind
  /-- Evidence port RELEASE frees words before the read position and sets delivered bits (R340). -/
  | evRelease
  /-- The fetch ends with FETCH_READY or FETCH_ERR set (R347). -/
  | evFetchComplete
  /-- Evidence port ACK_FETCH sets the delivered bit of the fetched record (R346). -/
  | evAckFetch
  /-- Evidence port SEAL_NOW makes a seal due under trigger 2 (R346). -/
  | evSealNow
  /-- Evidence port FILL returns the held and unread word counts (R346). -/
  | evFill
  /-- serviceTimeout elapses in SERVICE and D0 returns the device to FIELD (R360). -/
  | serviceTimeout
  /-- The RETIRED-pending record is delivered or lost and D0 burns RET into all copies (R356). -/
  | retiredPendingBurn
  /-- At the end of each second, autoSleep requests its mode when the idle conditions have held (R378). -/
  | autoSleepCheck
  /-- Every port is DISABLED and the pairs halt; MRAM writes, POWER record and seal follow (R379). -/
  | powerEntryPortsDisabled
  /-- SAFE_N goes low and the VSEL pin falls or INH is released (R379). -/
  | powerEntryComplete
  /-- The RTC reaches power.rtcAlarm and wakes the device (R385). -/
  | rtcAlarm
  /-- power.rtcPeriod elapses and wakes the device (R385). -/
  | rtcPeriod
  /-- Every 4 s the island calibrates the decoder delay lines against the RTC (R388). -/
  | delayLineCalibration
  /-- The trial window ends unconfirmed and the device falls back (R445). -/
  | trialWindowEnd
  /-- Validation completes at t1 and the commit goes to PLACING or is refused (R89). -/
  | validationComplete
  /-- Sumac placement completes at t2 or the commit is refused (R89). -/
  | placementComplete
  /-- The last die switches to the new tables at t4 (R89). -/
  | applyInstant
  /-- The commit reaches DONE, discarding the staging and releasing the lock (R89). -/
  | commitDone
  /-- The next segment or block does not arrive within segmentTimeout and the transfer aborts (R76). -/
  | sdoSegmentTimeout
  /-- The test access port loads BYPASS (R479). -/
  | jtagBypass
  /-- TRST_N low holds the port in Test-Logic-Reset (R479). -/
  | jtagTestLogicReset
  /-- The package supervisor refreshes the always-on island watchdog, and after a restart this first refresh lets SAFE_N rise under R288 (R289). -/
  | supervisorWatchdogRefresh
  deriving DecidableEq, Repr

end Sys2Proof
end

