-- ==== Sys2Proof/Decode.lean ====
section
/-! DEFINITION. Reading a command from the table's bits: no row of spec/opcode_table.json gives any. -/

namespace Sys2Proof

/-- The command a word spells by the table's bits. The table gives no row bits, so no word spells a command. -/
def decodeTableWord (_nbits _w : Nat) : Option Instr := none

end Sys2Proof
end

