-- ==== Sys2Proof/Config.lean ====
section
/-! DEFINITION. What a part fixes outside the machine's state, and the model's free values. Every constant
here is opaque: it has no body, so no proof can learn its value. -/

namespace Sys2Proof.Config

/-- The true random number generator (R23): its `n`-th 256-bit draw. The manual states no value. -/
opaque trng : Nat → BitVec 256

/-- XRTC_IN has an edge within a tick of REFCLK_IN (Table 2-2): the phase of one crystal against the other is open. -/
opaque xrtcEdge : Nat → Bool

/-- SHA-256 of the byte string that a function names (R327, R432, R271); the manual names the function and leaves its definition to its standard. The
digest of a whole configuration (R271) is thus an expression that a run need not spell out. -/
opaque sha256Of : (Unit → Bytes) → BitVec 256

/-- SHA-256 of a byte string. -/
def sha256 (b : Bytes) : BitVec 256 := sha256Of (fun _ => b)

/-- HMAC-SHA-256 with a key (R69, R80, R372). -/
opaque hmacSha256 : Bytes → Bytes → BitVec 256

/-- The SP 800-108 counter-mode KDF with HMAC-SHA-256 of R70: key, label, context and number of output bytes. -/
opaque kdf : Bytes → Bytes → Bytes → Nat → Bytes

/-- AES-CMAC under a key (R119). -/
opaque aesCmac : Bytes → Bytes → BitVec 128

/-- The AES-GCM key stream of counter-mode encryption: key, IV, position (R123, R162, R363); the manual names AES-GCM and leaves its definition to its standard. -/
opaque gcmStream : Bytes → Bytes → Nat → Byte

/-- The AES-GCM tag: key, IV, additional data, ciphertext (R123, R162, R363). -/
opaque gcmTag : Bytes → Bytes → Bytes → Bytes → BitVec 128

/-- How far a store write had come when it was cut off: a number whose remainder by 7 is 2 × (copies complete) + (1 when the next copy is torn) (R92, R94). -/
opaque storeProgress : Nat → Nat

/-- LMS signature check: public key, message, signature (R432, R434). -/
opaque lmsVerify : Bytes → Bytes → Bytes → Bool

/-- LM-OTS and LMS of RFC 8554 under a tree's seed and I (R334): the one-time signature of leaf `q` over a message behind its type code (2,176 bytes), the
authentication path of a leaf (480 bytes), and the root (32 bytes). -/
opaque lmsOts : Bytes → Bytes → Nat → Bytes → Bytes
opaque lmsPath : Bytes → Bytes → Nat → Bytes
opaque lmsRoot : Bytes → Bytes → Bytes

/-- The Gilon image key fixed in the boot ROM (R434). -/
opaque gilonKey : Bytes

/-- Fused serial number (R361, `0x1001:06`), 16 bytes as a little-endian number. -/
opaque serial : BitVec 128

/-- The part's temperature grade is Q2 and not Q1 (R7, `0x1001:04`). -/
opaque gradeTwo : Bool

/-- The bits that differ from part to part in the fused base MAC address (`0x1001:09`). -/
opaque macBits : BitVec 38

/-- Fused base MAC address (`0x1001:09`), first byte least significant: a universally administered unicast address, so the two low bits of its first byte
are 0, and its last byte is 0x00 (R97). -/
def macBase : BitVec 40 := macBits ++ 0#2

/-- TRANSPORT_KEY and DUK, the fuse regions burnt at wafer test (R361). -/
opaque transportKey : BitVec 256
opaque duk : BitVec 256

/-- What gPTP measures in its `n`-th exchange, in ns (R159): a peer delay or an offset from the grandmaster. -/
opaque gptpMeasure : Nat → Nat

/-- A 16-bit draw of a die's RED generator (R223): its seed, which comes from the TRNG at each start, and the draw number. -/
opaque redDraw : BitVec 256 → Nat → BitVec 16

/-- Copies of a virtual channel that a link's buffer holds beside the first (R35); the manual states no capacity. -/
opaque vcMore : Nat

/-- The credit pool of a virtual channel, in copies: at least one (R35). -/
def vcCapacity : Nat := vcMore + 1

/-- How far an append (R328) and the burning of a transition (R355) had come when power was lost, at the `n`-th look (logs 99 and 44). -/
opaque appendProgress : Nat → Nat
opaque burnProgress : Nat → Nat

/-- A bit of the tamper sampler's pseudo-random sequence (R384): its seed, which comes from the TRNG at each start, and the bit's number. -/
opaque tamperBit : BitVec 256 → Nat → Bool

/-- What CANsec's per-frame nonce and layout (CiA 613-2) protects a frame to: key, whether the channel has confidentiality, the header fields, freshness
value, clear data (R123, R124). -/
opaque cansecProtect : Bytes → Bool → Bytes → Nat → Bytes → Bytes

/-- CANsec verification: key, whether the channel has confidentiality, the header fields, received data; freshness value and clear data (R123, R124). -/
opaque cansecVerify : Bytes → Bool → Bytes → Bytes → Option (Nat × Bytes)

/-- A frame is being received on a port at the instant a lane is lost, at the `n`-th look (R169). -/
opaque midFrame : Nat → Bool

/-- The bytes after the header of the `n`-th gPTP message that a port sends (R159); the manual leaves them to IEEE 802.1AS-2020. -/
opaque gptpBody : Nat → Bytes

/-- The type of service, identification and time to live of the IPv4 header of an Anise response: R79 states none of them. -/
opaque ipHeader : Nat → BitVec 32

/-- What REC of an error-passive receiver becomes after a valid frame: ISO 11898-1 lets it be 119 to 127 (R113). -/
opaque recAfterSuccess : Nat → Nat

/-- The level on a GPIO ball that the part does not drive, at the `n`-th look (PINS_DIN, R427). -/
opaque ballLevel : Nat → Bool

/-- The bytes that a complete placement result is digested as (R271); the manual states no encoding. -/
opaque placementBytes : List (List Nat) → Bytes

/-- The boundary cells' captured levels at the `n`-th capture (R479). -/
opaque boundary : Nat → Nat

/-- The order of a part's boundary cells (R479), as picks from those that remain: the BSDL file gives it. -/
opaque cellOrder : Nat → Nat → Nat

/-- Whether the new runtime's migration of the settings fails (R446), by the layouts from and to, and the write sequence of the store migrated: how it converts a record,
and when that fails, is stated nowhere. -/
opaque migrationFails : Nat → Nat → Nat → Bool

/-- Messages a control-lane buffer of a switch die holds beside the first (R31); the manual states no capacity. -/
opaque laneMore : Nat

/-- Messages a control-lane buffer of a switch die holds: at least one (R31). -/
def laneCapacity : Nat := laneMore + 1

/-- Whether the greater of a number and a value that is none is none, and the binary32 encoding written for no number (R309): IEEE 754's editions differ. -/
opaque maxKeepsNan : Bool
opaque nanWord : BitVec 32

/-- The session ID of the `n`-th Anise session (R81); the manual states no value. -/
opaque sid : Nat → BitVec 32

end Sys2Proof.Config
end

