-- ==== Sys2Proof/Machine/Float.lean ====
section
/-! DEFINITION. IEEE 754 arithmetic as the manual uses it (R294, R299, R306, R309): exact rationals, rounded to binary32 or binary64, to
nearest with ties to even (PRESUMED, log 10). A finite value is an integer numerator over a positive denominator. -/

namespace Sys2Proof.Machine
open Sys2Proof

/-- An exact value: numerator and denominator. -/
structure Exact where
  num : Int
  den : Nat
  deriving DecidableEq, Repr

def Exact.ofNat (n : Nat) : Exact := ⟨n, 1⟩
def Exact.mul (a b : Exact) : Exact := ⟨a.num * b.num, a.den * b.den⟩
def Exact.add (a b : Exact) : Exact := ⟨a.num * b.den + b.num * a.den, a.den * b.den⟩
def Exact.sub (a b : Exact) : Exact := ⟨a.num * b.den - b.num * a.den, a.den * b.den⟩
def Exact.abs (a : Exact) : Exact := ⟨a.num.natAbs, a.den⟩
def Exact.le (a b : Exact) : Bool := decide (a.num * b.den ≤ b.num * a.den)
def Exact.lt (a b : Exact) : Bool := decide (a.num * b.den < b.num * a.den)
def Exact.max (a b : Exact) : Exact := if a.le b then b else a

/-- a / b rounded to an integer, ties to even. -/
def roundEven (a b : Nat) : Nat :=
  let q := a / b
  let r := a % b
  if 2 * r < b then q else if b < 2 * r then q + 1 else if q % 2 == 0 then q else q + 1

/-- ⌊log2 (a / b)⌋ plus a bias of `off`, for a, b > 0 and a / b ≥ 2^−off. -/
def floorLog (a b off : Nat) : Nat := Nat.log2 (a * 2 ^ off / b)

/-- The magnitude a / b rounded to `p` significant bits, no finer than 2^−`low`: m and t with value m × 2^(t − low). -/
def roundMag (p low a b : Nat) : Nat × Nat :=
  let t := floorLog a b (low + p) - (2 * p - 1)
  (roundEven (a * 2 ^ low) (b * 2 ^ t), t)

/-- A value rounded to binary64: 53 bits, no finer than 2^−1074. -/
def roundF64 (x : Exact) : Exact :=
  let r := roundMag 53 1074 x.num.natAbs x.den
  ⟨if x.num < 0 then -((r.1 * 2 ^ r.2 : Nat) : Int) else ((r.1 * 2 ^ r.2 : Nat) : Int), 2 ^ 1074⟩

/-- The encoding of a value rounded to binary32; a magnitude past the largest finite value is infinity. -/
def encodeF32 (x : Exact) : Nat :=
  let sign := if x.num < 0 then 2 ^ 31 else 0
  let r := roundMag 24 149 x.num.natAbs x.den
  -- the value is r.1 × 2^(r.2 − 149)
  let m := if r.1 == 2 ^ 24 then 2 ^ 23 else r.1
  let e := if r.1 == 2 ^ 24 then r.2 + 1 else r.2
  if m < 2 ^ 23 then sign + m
  else if 254 ≤ e then sign + 0x7F800000
  else sign + (e + 1) * 2 ^ 23 + (m - 2 ^ 23)

/-- The value a binary32 encoding stands for. An infinity stands as a magnitude past every finite value. -/
def decodeF32 (w : Nat) : Exact :=
  let e := w / 2 ^ 23 % 256
  let f := w % 2 ^ 23
  let m : Nat := if e == 255 then 2 ^ 277 else if e == 0 then f else (f + 2 ^ 23) * 2 ^ (e - 1)
  ⟨if w / 2 ^ 31 % 2 == 1 then -(m : Int) else (m : Int), 2 ^ 149⟩

/-- A quotient of naturals as a value. -/
def ratio (a b : Nat) : Exact := ⟨a, max 1 b⟩

/-- A binary64 value of the rule engine (R309): an infinite tap or constant, and a constant that is no number, count as IEEE 754 has them. -/
inductive F64 where
  | fin (x : Exact)
  | inf (neg : Bool)
  | nan
  deriving DecidableEq, Repr

/-- The value of a binary32 encoding. -/
def F64.ofF32 (w : Nat) : F64 :=
  if w / 2 ^ 23 % 256 != 255 then .fin (decodeF32 w) else if w % 2 ^ 23 == 0 then .inf (w / 2 ^ 31 % 2 == 1) else .nan

def F64.neg : F64 → F64
  | .fin x => .fin ⟨-x.num, x.den⟩
  | .inf n => .inf (!n)
  | .nan => .nan

def F64.abs : F64 → F64
  | .fin x => .fin x.abs
  | .inf _ => .inf false
  | .nan => .nan

def F64.add : F64 → F64 → F64
  | .nan, _ | _, .nan => .nan
  | .inf m, .inf n => if m == n then .inf m else .nan
  | .inf m, .fin _ => .inf m
  | .fin _, .inf n => .inf n
  | .fin x, .fin y => .fin (roundF64 (x.add y))

def F64.sub (a b : F64) : F64 := a.add b.neg

/-- A finite factor that is not negative times a value that is not negative. -/
def F64.scale (k : Exact) : F64 → F64
  | .fin x => .fin (roundF64 (k.mul x))
  | .inf n => if k.num == 0 then .nan else .inf n
  | .nan => .nan

/-- Less than: false of a value that is no number. -/
def F64.lt : F64 → F64 → Bool
  | .nan, _ | _, .nan => false
  | .inf m, .inf n => m && !n
  | .inf m, .fin _ => m
  | .fin _, .inf n => !n
  | .fin x, .fin y => x.lt y

/-- The greater of two values. Whether it is a number when one of them is none, the manual does not say: a free value (log 10). -/
def F64.max (a b : F64) : F64 :=
  match a, b with
  | .nan, x | x, .nan => if Config.maxKeepsNan then .nan else x
  | x, y => if x.lt y then y else x

/-- The binary32 encoding; which of the encodings of no number is free (log 10). -/
def F64.encode : F64 → Nat
  | .fin x => encodeF32 x
  | .inf n => 0x7F800000 + (if n then 2 ^ 31 else 0)
  | .nan => Config.nanWord.toNat

end Sys2Proof.Machine
end

