-- ==== Sys2Proof/Machine/Crc.lean ====
section
/-! DEFINITION. The cyclic redundancy checks the manual names: CRC-32 of IEEE 802.3 (R93, R148), CRC-32C (R197) and the CRC-16 of
CiA 301 block transfer (R76). -/

namespace Sys2Proof.Machine
open Sys2Proof

/-- One bit of a reflected 32-bit CRC. -/
def crcBit (poly : BitVec 32) (c : BitVec 32) : BitVec 32 :=
  if c.getLsbD 0 then (c >>> 1) ^^^ poly else c >>> 1

/-- One byte of a reflected 32-bit CRC. -/
def crcByte (poly : BitVec 32) (c : BitVec 32) (b : Byte) : BitVec 32 :=
  let f := crcBit poly
  f (f (f (f (f (f (f (f (c ^^^ b.setWidth 32))))))))

/-- CRC-32 of IEEE 802.3: reflected, initial value all ones, final complement. -/
def crc32 (bs : Bytes) : Nat := (~~~ (bs.foldl (crcByte 0xEDB88320#32) 0xFFFFFFFF#32)).toNat

/-- CRC-32C: polynomial 0x1EDC6F41, reflected, initial value all ones, final complement. -/
def crc32c (bs : Bytes) : Nat := (~~~ (bs.foldl (crcByte 0x82F63B78#32) 0xFFFFFFFF#32)).toNat

/-- Bit order reversed: the coefficient of x^31 as bit 31 (R148). -/
def mirror32 (n : Nat) : Nat := (List.range 32).foldl (fun a i => if bitAt n i then a + 2 ^ (31 - i) else a) 0

/-- The CRC of R148 with the coefficient of x^31 as bit 31. -/
def crc32Msb (bs : Bytes) : Nat := mirror32 (crc32 bs)

/-- One byte of the CRC-16 with polynomial x^16 + x^12 + x^5 + 1, most significant bit first, initial value 0. -/
def crc16Byte (c : BitVec 16) (b : Byte) : BitVec 16 :=
  let f (c : BitVec 16) : BitVec 16 := if c.getLsbD 15 then (c <<< 1) ^^^ 0x1021#16 else c <<< 1
  f (f (f (f (f (f (f (f (c ^^^ (b.setWidth 16 <<< 8)))))))))

/-- The block transfer CRC of CiA 301. -/
def crc16 (bs : Bytes) : Nat := (bs.foldl crc16Byte 0#16).toNat

end Sys2Proof.Machine
end

