-- ==== Sys2Proof/Machine/OdNames.lean ====
section
/-! DEFINITION. The names the OD tables give their entries: index × 256 + subindex of the first entry of that name
(add slot × 256, or (n − 1) × 256, where an object stands once per slot or per die). -/

namespace Sys2Proof.Machine.E
abbrev identityDeviceType : Nat := 0x100000
abbrev identityOrderCode : Nat := 0x100101
abbrev identityDieCount : Nat := 0x100102
abbrev identitySwitchDies : Nat := 0x100103
abbrev identityGrade : Nat := 0x100104
abbrev identitySiliconRev : Nat := 0x100105
abbrev identitySerial : Nat := 0x100106
abbrev identityHssPublicKey : Nat := 0x100107
abbrev identityIdDigest : Nat := 0x100108
abbrev identityMacBase : Nat := 0x100109
abbrev identityDeviceName : Nat := 0x100800
abbrev versionGuard : Nat := 0x101001
abbrev versionRuntime : Nat := 0x101002
abbrev versionApplication : Nat := 0x101003
abbrev versionOdDefaults : Nat := 0x101004
abbrev versionSettingsLayout : Nat := 0x101005
abbrev versionActiveSlots : Nat := 0x101006
abbrev lifecycleState : Nat := 0x102001
abbrev lifecycleFuseCopies : Nat := 0x102002
abbrev accessSdoEnable : Nat := 0x110001
abbrev accessSdoNodeId : Nat := 0x110002
abbrev accessSdoPortSlot : Nat := 0x110003
abbrev accessSdoSegmentTimeout : Nat := 0x110004
abbrev accessSdoBlockSize : Nat := 0x110005
abbrev accessAniseEnable : Nat := 0x111001
abbrev accessAniseIpv4 : Nat := 0x111002
abbrev accessAniseRealm : Nat := 0x111003
abbrev accessAniseHostDie : Nat := 0x111004
abbrev accessAniseMaxSessions : Nat := 0x111006
abbrev sessionIdleTimeout : Nat := 0x112001
abbrev sessionLockoutBase : Nat := 0x112002
abbrev sessionFailLimit : Nat := 0x112003
abbrev sessionTableValid : Nat := 0x112101
abbrev sessionTableLevel : Nat := 0x112102
abbrev sessionTableSid : Nat := 0x112103
abbrev sessionTablePeer : Nat := 0x112104
abbrev sessionTableIdle : Nat := 0x112105
abbrev sessionTableHoldsStaging : Nat := 0x112106
abbrev sessionSdoRequestLevel : Nat := 0x112201
abbrev sessionSdoDeviceNonce : Nat := 0x112202
abbrev sessionSdoClientNonce : Nat := 0x112203
abbrev sessionSdoProof : Nat := 0x112204
abbrev sessionSdoClose : Nat := 0x112205
abbrev sessionLevel : Nat := 0x112206
abbrev sessionLastStatus : Nat := 0x112207
abbrev accessCntAccepted : Nat := 0x112301
abbrev accessCntDropped : Nat := 0x112302
abbrev accessCntReplay : Nat := 0x112303
abbrev accessCntAuthFail : Nat := 0x112304
abbrev accessCntSdoIgnored : Nat := 0x112305
abbrev accessCntClearance : Nat := 0x112306
abbrev accessLockoutRemaining : Nat := 0x112307
abbrev accessMailboxLevel : Nat := 0x113001
abbrev commitAction : Nat := 0x120001
abbrev commitState : Nat := 0x120002
abbrev commitResult : Nat := 0x120003
abbrev commitFailEntry : Nat := 0x120004
abbrev commitFailRow : Nat := 0x120005
abbrev commitGeneration : Nat := 0x120006
abbrev commitLastInterrupted : Nat := 0x120007
abbrev commitStagedBytes : Nat := 0x120008
abbrev commitReadView : Nat := 0x120009
abbrev storeCapacity : Nat := 0x121001
abbrev storeUsed : Nat := 0x121002
abbrev storeWriteSeq : Nat := 0x121003
abbrev storeLastResolution : Nat := 0x121004
abbrev storeActiveBank : Nat := 0x121005
abbrev storeBootResult : Nat := 0x121007
abbrev timeGptpEnable : Nat := 0x130001
abbrev timeGptpDomain : Nat := 0x130002
abbrev timeGptpGmCapable : Nat := 0x130003
abbrev timeGptpPriority1 : Nat := 0x130004
abbrev timeGptpPriority2 : Nat := 0x130005
abbrev timeGptpLogSyncInterval : Nat := 0x130006
abbrev timeGptpNow : Nat := 0x130101
abbrev timeGptpSynced : Nat := 0x130102
abbrev timeGptpOffset : Nat := 0x130103
abbrev timeGptpGmIdentity : Nat := 0x130104
abbrev timeRtcSeconds : Nat := 0x131001
abbrev timeRtcValid : Nat := 0x131002
abbrev timeSpreadFlClk : Nat := 0x132001
abbrev timeSpreadMdc : Nat := 0x132002
abbrev portCanEnable : Nat := 0x200001
abbrev portCanRealm : Nat := 0x200002
abbrev portCanFormat : Nat := 0x200003
abbrev portCanMode : Nat := 0x200004
abbrev portCanNominalBrp : Nat := 0x200005
abbrev portCanNominalTseg1 : Nat := 0x200006
abbrev portCanNominalTseg2 : Nat := 0x200007
abbrev portCanNominalSjw : Nat := 0x200008
abbrev portCanDataFdBrp : Nat := 0x200009
abbrev portCanDataFdTseg1 : Nat := 0x20000A
abbrev portCanDataFdTseg2 : Nat := 0x20000B
abbrev portCanDataFdSjw : Nat := 0x20000C
abbrev portCanDataXlBrp : Nat := 0x20000D
abbrev portCanDataXlTseg1 : Nat := 0x20000E
abbrev portCanDataXlTseg2 : Nat := 0x20000F
abbrev portCanDataXlSjw : Nat := 0x200010
abbrev portCanTdcMode : Nat := 0x200011
abbrev portCanTdcOffset : Nat := 0x200012
abbrev portCanTdcFilter : Nat := 0x200013
abbrev portCanPwmEnable : Nat := 0x200014
abbrev portCanPwmShort : Nat := 0x200015
abbrev portCanPwmLong : Nat := 0x200016
abbrev portCanPwmOffset : Nat := 0x200017
abbrev portCanAutoRetransmit : Nat := 0x200018
abbrev portCanBusOffRestart : Nat := 0x200019
abbrev portCanDrainTimeout : Nat := 0x20001A
abbrev portCanRecover : Nat := 0x20001B
abbrev portCanTdcXlOffset : Nat := 0x20001C
abbrev portCanTdcXlFilter : Nat := 0x20001D
abbrev portLinEnable : Nat := 0x200001
abbrev portLinRealm : Nat := 0x200002
abbrev portLinRole : Nat := 0x200003
abbrev portLinBitRate : Nat := 0x200004
abbrev portLinBreakLength : Nat := 0x200005
abbrev portLinDrainTimeout : Nat := 0x200006
abbrev portLinSlot : Nat := 0x200040
abbrev portLinId : Nat := 0x200080
abbrev portCanState : Nat := 0x210001
abbrev portCanPendingReEnable : Nat := 0x210002
abbrev portCanErrorState : Nat := 0x210003
abbrev portCanTec : Nat := 0x210004
abbrev portCanRec : Nat := 0x210005
abbrev portCanTdcMeasured : Nat := 0x210006
abbrev portCanCntCfgIgnored : Nat := 0x210008
abbrev portCanCntClear : Nat := 0x21000F
abbrev portCanCntRxFrames : Nat := 0x210010
abbrev portCanCntTxFrames : Nat := 0x210011
abbrev portCanCntRxError : Nat := 0x210012
abbrev portCanCntTxError : Nat := 0x210013
abbrev portCanCntArbLost : Nat := 0x210014
abbrev portCanCntBusOff : Nat := 0x210015
abbrev portCanCntProtocolException : Nat := 0x210016
abbrev portCanCntRxFormatDiscard : Nat := 0x210017
abbrev portCanCntIdGuardDrop : Nat := 0x210018
abbrev portCanCntIdGuardMonitor : Nat := 0x210019
abbrev portCanCntAuthFail : Nat := 0x21001A
abbrev portCanCntAuthStale : Nat := 0x21001B
abbrev portCanCntTxRefused : Nat := 0x21001C
abbrev portCanCntTxAuthRefused : Nat := 0x21001D
abbrev portCanCntRxDiscardDraining : Nat := 0x21001E
abbrev portCanCntDrainFlushed : Nat := 0x21001F
abbrev portCanCntTdcFail : Nat := 0x210020
abbrev portCanCntOneShotDrop : Nat := 0x210021
abbrev portLinState : Nat := 0x210001
abbrev portLinPendingReEnable : Nat := 0x210002
abbrev portLinLastError : Nat := 0x210003
abbrev portLinCntCfgIgnored : Nat := 0x210008
abbrev portLinCntClear : Nat := 0x21000F
abbrev portLinCntRxFrames : Nat := 0x210010
abbrev portLinCntTxFrames : Nat := 0x210011
abbrev portLinCntChecksumError : Nat := 0x210012
abbrev portLinCntNoResponse : Nat := 0x210013
abbrev portLinCntFramingError : Nat := 0x210014
abbrev portLinCntBitError : Nat := 0x210015
abbrev portLinCntSyncReject : Nat := 0x210016
abbrev portLinCntResponseOverwritten : Nat := 0x210017
abbrev portLinCntNoData : Nat := 0x210018
abbrev portLinCntTxRefused : Nat := 0x210019
abbrev portLinCntBusFault : Nat := 0x21001A
abbrev portLinCntRxDiscardDraining : Nat := 0x21001B
abbrev portLinCntDrainFlushed : Nat := 0x21001C
abbrev portSecIdGuardMode : Nat := 0x220001
abbrev portSecIdGuardUnlisted : Nat := 0x220002
abbrev portSecIdGuardEvidenceInterval : Nat := 0x220003
abbrev portSecIdGuardBlocked : Nat := 0x220004
abbrev portSecIdGuardClearBlock : Nat := 0x220005
abbrev portSecProfEnable : Nat := 0x220010
abbrev portSecProfKeySlot : Nat := 0x220011
abbrev portSecProfMatchValue : Nat := 0x220012
abbrev portSecProfMatchLength : Nat := 0x220013
abbrev portSecProfMatchKind : Nat := 0x220014
abbrev portSecProfMacBits : Nat := 0x220015
abbrev portSecProfFvBits : Nat := 0x220016
abbrev portSecProfWindow : Nat := 0x220017
abbrev portSecProfEgressMode : Nat := 0x220018
abbrev portSecProfFailAction : Nat := 0x220019
abbrev portSecProfTxCounter : Nat := 0x22001A
abbrev portSecCansecEnable : Nat := 0x220060
abbrev portSecCansecReplayWindow : Nat := 0x220061
abbrev portSecCansecChannel : Nat := 0x220070
abbrev portEthEnable : Nat := 0x200001
abbrev portEthRealm : Nat := 0x200002
abbrev portEthSerdesMode : Nat := 0x200003
abbrev portEthAnEnable : Nat := 0x200004
abbrev portEthMaxFrame : Nat := 0x200005
abbrev portEthMacAddress : Nat := 0x200006
abbrev portEthRxGroupFilter : Nat := 0x200007
abbrev portEthRxGroupHash : Nat := 0x200008
abbrev portEthRxLinkLocalToApp : Nat := 0x200009
abbrev portEthVlanDefaultVid : Nat := 0x20000A
abbrev portEthVlanDefaultPcp : Nat := 0x20000B
abbrev portEthVlanIngressFilter : Nat := 0x20000C
abbrev portEthVlanPcpToTc : Nat := 0x20000D
abbrev portEthVlanTcToPcp : Nat := 0x20000E
abbrev portEthTxTagMode : Nat := 0x20000F
abbrev portEthTxFcsMode : Nat := 0x200010
abbrev portEthRxPauseMode : Nat := 0x200011
abbrev portEthTxPauseMode : Nat := 0x200012
abbrev portEthTxPauseQuanta : Nat := 0x200013
abbrev portEthPauseWatchdog : Nat := 0x200014
abbrev portEthPausePenalty : Nat := 0x200015
abbrev portEthDrainTimeout : Nat := 0x200016
abbrev portEthLinkUpDelay : Nat := 0x200017
abbrev portEthLinkDownDelay : Nat := 0x200018
abbrev portEthSgmiiSpeed : Nat := 0x200019
abbrev portEthSerdesTxInvert : Nat := 0x20001A
abbrev portEthSerdesRxInvert : Nat := 0x20001B
abbrev portEthVlanRealmMap : Nat := 0x200020
abbrev portEthGptpEnable : Nat := 0x200030
abbrev portEthGptpLogPdelayReqInterval : Nat := 0x200031
abbrev portEthGptpNeighborPropDelayThresh : Nat := 0x200032
abbrev portEthGptpPhyRxDelay : Nat := 0x200033
abbrev portEthGptpPhyTxDelay : Nat := 0x200034
abbrev portEthWakeEnable : Nat := 0x200040
abbrev portEthWakePatternEnable : Nat := 0x200041
abbrev portEthWakeOnLinkUp : Nat := 0x200042
abbrev portEthWakePatternOffset : Nat := 0x200048
abbrev portEthWakePatternValue : Nat := 0x200049
abbrev portEthWakePatternMask : Nat := 0x20004A
abbrev portEthPhyMdioPhyAddress : Nat := 0x200060
abbrev portEthPhyMdioDevad : Nat := 0x200061
abbrev portEthPhyMdioRegister : Nat := 0x200062
abbrev portEthPhyMdioData : Nat := 0x200063
abbrev portEthPhyMdioOp : Nat := 0x200064
abbrev portEthPhyMdioClockDivider : Nat := 0x200066
abbrev portEthState : Nat := 0x210001
abbrev portEthPendingReEnable : Nat := 0x210002
abbrev portEthLinkRate : Nat := 0x210003
abbrev portEthPausedClasses : Nat := 0x210004
abbrev portEthPausingClasses : Nat := 0x210005
abbrev portEthPenaltyActive : Nat := 0x210006
abbrev portEthCntCfgIgnored : Nat := 0x210008
abbrev portEthGptpAsCapable : Nat := 0x210009
abbrev portEthGptpNeighborPropDelay : Nat := 0x21000A
abbrev portEthCntClear : Nat := 0x21000F
abbrev portEthCntRxFrames : Nat := 0x210010
abbrev portEthCntTxFrames : Nat := 0x210011
abbrev portEthCntRxOctets : Nat := 0x210012
abbrev portEthCntTxOctets : Nat := 0x210013
abbrev portEthCntRxFcsError : Nat := 0x210014
abbrev portEthCntRxRunt : Nat := 0x210015
abbrev portEthCntRxOversize : Nat := 0x210016
abbrev portEthCntRxGroupFiltered : Nat := 0x210017
abbrev portEthCntRxVlanFiltered : Nat := 0x210018
abbrev portEthCntRxControlDrop : Nat := 0x210019
abbrev portEthCntRxPauseFrames : Nat := 0x21001A
abbrev portEthCntTxPauseFrames : Nat := 0x21001B
abbrev portEthCntPauseStorm : Nat := 0x21001C
abbrev portEthCntPauseIgnored : Nat := 0x21001D
abbrev portEthCntLinkDown : Nat := 0x21001E
abbrev portEthCntRxAbort : Nat := 0x21001F
abbrev portEthCntTxRequeued : Nat := 0x210020
abbrev portEthCntTxRefused : Nat := 0x210021
abbrev portEthCntTxOversize : Nat := 0x210022
abbrev portEthCntTxFcsStomp : Nat := 0x210023
abbrev portEthCntRxDiscardDraining : Nat := 0x210024
abbrev portEthCntDrainFlushed : Nat := 0x210025
abbrev portEthCntMacsecRxNotValid : Nat := 0x210026
abbrev portEthCntMacsecRxLate : Nat := 0x210027
abbrev portEthCntMacsecRxNoSa : Nat := 0x210028
abbrev portEthCntMacsecRxUntagged : Nat := 0x210029
abbrev portEthCntMacsecTxPnExhausted : Nat := 0x21002A
abbrev portEthCntWakeMatches : Nat := 0x21002B
abbrev portSecMacsecEnable : Nat := 0x220001
abbrev portSecMacsecCipherSuite : Nat := 0x220002
abbrev portSecMacsecValidateFrames : Nat := 0x220003
abbrev portSecMacsecReplayProtect : Nat := 0x220004
abbrev portSecMacsecReplayWindow : Nat := 0x220005
abbrev portSecMacsecConfidentiality : Nat := 0x220006
abbrev portSecMacsecTxIncludeSci : Nat := 0x220007
abbrev portSecMacsecPtpBypass : Nat := 0x220008
abbrev portSecMacsecTxAn : Nat := 0x220009
abbrev portSecMacsecTxSsci : Nat := 0x22000A
abbrev portSecMacsecTxSalt : Nat := 0x22000B
abbrev portSecMacsecEvidenceInterval : Nat := 0x22000C
abbrev portSecMacsecTxSa : Nat := 0x220010
abbrev portSecMacsecTxNextPn : Nat := 0x220018
abbrev portSecMacsecRxEnable : Nat := 0x220020
abbrev portSecMacsecRxSci : Nat := 0x220021
abbrev portSecMacsecRxSsci : Nat := 0x220022
abbrev portSecMacsecRxSalt : Nat := 0x220023
abbrev portSecMacsecRxSa : Nat := 0x220024
abbrev portSecMacsecRxNextPn : Nat := 0x220028
abbrev routeValid : Nat := 0x240001
abbrev routeRealm : Nat := 0x240002
abbrev routeKind : Nat := 0x240003
abbrev routeValue : Nat := 0x240004
abbrev routeLength : Nat := 0x240005
abbrev routeScope : Nat := 0x240006
abbrev routeDest : Nat := 0x240007
abbrev routeClass : Nat := 0x240008
abbrev routePolicer : Nat := 0x240009
abbrev routeNextHopMac : Nat := 0x24000A
abbrev routeVid : Nat := 0x24000B
abbrev route6Valid : Nat := 0x240101
abbrev route6Realm : Nat := 0x240102
abbrev route6Address : Nat := 0x240103
abbrev route6Length : Nat := 0x240104
abbrev route6Scope : Nat := 0x240105
abbrev route6Dest : Nat := 0x240106
abbrev route6Class : Nat := 0x240107
abbrev route6Policer : Nat := 0x240108
abbrev route6NextHopMac : Nat := 0x240109
abbrev route6Vid : Nat := 0x24010A
abbrev idguardValid : Nat := 0x240201
abbrev idguardRealm : Nat := 0x240202
abbrev idguardKind : Nat := 0x240203
abbrev idguardValue : Nat := 0x240204
abbrev idguardLength : Nat := 0x240205
abbrev idguardOwner : Nat := 0x240206
abbrev fdbStaticValid : Nat := 0x241001
abbrev fdbStaticRealm : Nat := 0x241002
abbrev fdbStaticMac : Nat := 0x241003
abbrev fdbStaticDest : Nat := 0x241004
abbrev fdbStaticLockSource : Nat := 0x241005
abbrev fdbViewValid : Nat := 0x241101
abbrev fdbViewRealm : Nat := 0x241102
abbrev fdbViewMac : Nat := 0x241103
abbrev fdbViewDest : Nat := 0x241104
abbrev fdbViewStatic : Nat := 0x241105
abbrev fdbViewHit : Nat := 0x241106
abbrev fdbViewIdle : Nat := 0x241107
abbrev fdbViewSource : Nat := 0x241108
abbrev fdbViewSinceLearn : Nat := 0x241109
abbrev fdbViewHome : Nat := 0x24110A
abbrev groupValid : Nat := 0x242001
abbrev groupRealm : Nat := 0x242002
abbrev groupMacValid : Nat := 0x242003
abbrev groupMac : Nat := 0x242004
abbrev groupPorts : Nat := 0x242005
abbrev groupInternal : Nat := 0x242006
abbrev groupTunnel : Nat := 0x242007
abbrev groupAtomic : Nat := 0x24200F
abbrev realmValid : Nat := 0x243001
abbrev realmRouterMac : Nat := 0x243002
abbrev realmFloodGroup : Nat := 0x243003
abbrev realmLearning : Nat := 0x243004
abbrev realmClassKey : Nat := 0x243005
abbrev fdbAgingPeriod : Nat := 0x244001
abbrev fdbMoveHoldDown : Nat := 0x244002
abbrev fdbFlush : Nat := 0x244003
abbrev routeDieDefault : Nat := 0x244010
abbrev dieFdbEntries : Nat := 0x245001
abbrev dieFdbStashUsed : Nat := 0x245002
abbrev dieCntClear : Nat := 0x24500F
abbrev dieCntLearns : Nat := 0x245010
abbrev dieCntStationMoves : Nat := 0x245011
abbrev dieCntMoveContention : Nat := 0x245012
abbrev dieCntLearnDropped : Nat := 0x245013
abbrev dieCntLearnTableFull : Nat := 0x245014
abbrev dieCntLearnEvicted : Nat := 0x245015
abbrev dieCntStaticConflict : Nat := 0x245016
abbrev dieCntLockedSourceDrop : Nat := 0x245017
abbrev dieCntRelocations : Nat := 0x245018
abbrev dieCntAgedOut : Nat := 0x245019
abbrev dieCntSameportFiltered : Nat := 0x24501A
abbrev dieCntUnknownFlooded : Nat := 0x24501B
abbrev dieCntUnknownDropped : Nat := 0x24501C
abbrev dieCntRouteDrop : Nat := 0x24501D
abbrev dieCntDefaultHits : Nat := 0x24501E
abbrev dieCntIpHeaderDrop : Nat := 0x24501F
abbrev dieCntTtlDrop : Nat := 0x245020
abbrev classLossless : Nat := 0x250001
abbrev classResidenceLimit : Nat := 0x250002
abbrev bufferHeadroom : Nat := 0x250801
abbrev bufferXonGap : Nat := 0x250802
abbrev bufferMinShared : Nat := 0x250803
abbrev bufferDefaultGuarantee : Nat := 0x250804
abbrev bufferDefaultSharedLimit : Nat := 0x250805
abbrev bufferDefaultRedProfile : Nat := 0x250806
abbrev policerValid : Nat := 0x251001
abbrev policerCir : Nat := 0x251002
abbrev policerCbs : Nat := 0x251003
abbrev policerPir : Nat := 0x251004
abbrev policerPbs : Nat := 0x251005
abbrev policerColourAware : Nat := 0x251006
abbrev policerRedAction : Nat := 0x251007
abbrev policerStValid : Nat := 0x251101
abbrev policerStDie : Nat := 0x251102
abbrev policerCntGreen : Nat := 0x251103
abbrev policerCntYellow : Nat := 0x251104
abbrev policerCntRed : Nat := 0x251105
abbrev policerCntRedDropped : Nat := 0x251106
abbrev policerCntClear : Nat := 0x251107
abbrev redValid : Nat := 0x251801
abbrev redWeight : Nat := 0x251802
abbrev redGreenMin : Nat := 0x251803
abbrev redGreenMax : Nat := 0x251804
abbrev redGreenMaxP : Nat := 0x251805
abbrev redYellowMin : Nat := 0x251806
abbrev redYellowMax : Nat := 0x251807
abbrev redYellowMaxP : Nat := 0x251808
abbrev redRedMin : Nat := 0x251809
abbrev redRedMax : Nat := 0x25180A
abbrev redRedMaxP : Nat := 0x25180B
abbrev rsvValid : Nat := 0x252001
abbrev rsvRouteIndex : Nat := 0x252002
abbrev rsvRouteRow : Nat := 0x252003
abbrev rsvDest : Nat := 0x252004
abbrev rsvCells : Nat := 0x252005
abbrev groupAdmValid : Nat := 0x252801
abbrev groupAdmAtomicCells : Nat := 0x252802
abbrev groupCntDelivered : Nat := 0x252803
abbrev groupCntAtomicDrop : Nat := 0x252804
abbrev groupCntPartialLoss : Nat := 0x252805
abbrev groupCntClear : Nat := 0x252806
abbrev queueValid : Nat := 0x253001
abbrev queueGuarantee : Nat := 0x253002
abbrev queueSharedLimit : Nat := 0x253003
abbrev queueRedProfile : Nat := 0x253004
abbrev portHoldValid : Nat := 0x253801
abbrev portHoldTime : Nat := 0x253802
abbrev queueStValid : Nat := 0x254001
abbrev queueStCells : Nat := 0x254002
abbrev queueStAvg : Nat := 0x254003
abbrev queueCntAdmitted : Nat := 0x254004
abbrev queueCntRedDropGreen : Nat := 0x254005
abbrev queueCntRedDropYellow : Nat := 0x254006
abbrev queueCntRedDropRed : Nat := 0x254007
abbrev queueCntLimitDrop : Nat := 0x254008
abbrev queueCntHeadroomDrop : Nat := 0x254009
abbrev queueCntResidenceExpired : Nat := 0x25400A
abbrev queueCntParkFlushed : Nat := 0x25400B
abbrev queueStHeadroomUsed : Nat := 0x25400C
abbrev queueStBackPressure : Nat := 0x25400D
abbrev queueCntBpAssertions : Nat := 0x25400E
abbrev queueCntClear : Nat := 0x25400F
abbrev dieBufFreeCells : Nat := 0x254801
abbrev dieBufPoolSize : Nat := 0x254802
abbrev dieBufSharedUsed : Nat := 0x254803
abbrev dieBufHeadroomSize : Nat := 0x254804
abbrev dieBufHeadroomUsed : Nat := 0x254805
abbrev dieBufReserved : Nat := 0x254806
abbrev dieBufReceiveReserve : Nat := 0x254807
abbrev dieBufCntClear : Nat := 0x25480F
abbrev dieBufCntStalePathDrop : Nat := 0x254810
abbrev sampleValid : Nat := 0x255001
abbrev sampleN : Nat := 0x255002
abbrev sampleMirror : Nat := 0x255003
abbrev sampleSequence : Nat := 0x255004
abbrev captureEnable : Nat := 0x255801
abbrev captureBase : Nat := 0x255802
abbrev captureSlots : Nat := 0x255803
abbrev captureWatermark : Nat := 0x255804
abbrev captureClass : Nat := 0x255805
abbrev captureMirrorSlot : Nat := 0x255806
abbrev captureMirrorMac : Nat := 0x255807
abbrev captureMirrorEtherType : Nat := 0x255808
abbrev captureStDie : Nat := 0x255901
abbrev captureCntSamples : Nat := 0x255902
abbrev captureCntRingFull : Nat := 0x255903
abbrev captureCntReserveDrop : Nat := 0x255904
abbrev captureCntMirrored : Nat := 0x255905
abbrev captureCntClear : Nat := 0x25590F
abbrev tunnelValid : Nat := 0x260001
abbrev tunnelDirection : Nat := 0x260002
abbrev tunnelPduFormat : Nat := 0x260003
abbrev tunnelMsgFormat : Nat := 0x260004
abbrev tunnelBusId : Nat := 0x260005
abbrev tunnelTxStreamId : Nat := 0x260006
abbrev tunnelEgressSlot : Nat := 0x260007
abbrev tunnelDstMac : Nat := 0x260008
abbrev tunnelVid : Nat := 0x260009
abbrev tunnelPcp : Nat := 0x26000A
abbrev tunnelClass : Nat := 0x26000B
abbrev tunnelMtu : Nat := 0x26000C
abbrev tunnelBatchMax : Nat := 0x26000D
abbrev tunnelBatchFlushTimer : Nat := 0x26000E
abbrev tunnelBatchUrgentClass : Nat := 0x26000F
abbrev tunnelRxStreamId : Nat := 0x260010
abbrev tunnelRxSlot : Nat := 0x260011
abbrev tunnelRxDstMac : Nat := 0x260012
abbrev tunnelRealm : Nat := 0x260013
abbrev tunnelRxFormats : Nat := 0x260014
abbrev tunnelMaxAge : Nat := 0x260015
abbrev tunnelResyncTime : Nat := 0x260016
abbrev tunnelPinDie : Nat := 0x260017
abbrev tunnelLossEvidence : Nat := 0x260018
abbrev tunnelEvidenceInterval : Nat := 0x260019
abbrev tunnelStValid : Nat := 0x260101
abbrev tunnelStDie : Nat := 0x260102
abbrev tunnelStEngine : Nat := 0x260103
abbrev tunnelStTxSeq : Nat := 0x260104
abbrev tunnelStRxLast : Nat := 0x260105
abbrev tunnelStRxSynced : Nat := 0x260106
abbrev tunnelCntClear : Nat := 0x26010F
abbrev tunnelCntTxMessages : Nat := 0x260110
abbrev tunnelCntTxPdus : Nat := 0x260111
abbrev tunnelCntEncapOversize : Nat := 0x260112
abbrev tunnelCntRxPdus : Nat := 0x260113
abbrev tunnelCntRxMessages : Nat := 0x260114
abbrev tunnelCntLostPdus : Nat := 0x260115
abbrev tunnelCntDupPdus : Nat := 0x260116
abbrev tunnelCntLatePdus : Nat := 0x260117
abbrev tunnelCntHeaderError : Nat := 0x260118
abbrev tunnelCntMessageError : Nat := 0x260119
abbrev tunnelCntFormatRefused : Nat := 0x26011A
abbrev tunnelCntBusIdMismatch : Nat := 0x26011B
abbrev tunnelCntStale : Nat := 0x26011C
abbrev placementState : Nat := 0x270001
abbrev placementGeneration : Nat := 0x270002
abbrev placementInputDigest : Nat := 0x270003
abbrev placementOutputDigest : Nat := 0x270004
abbrev placementRefusalCause : Nat := 0x270005
abbrev placementRefusalIndex : Nat := 0x270006
abbrev placementRefusalRow : Nat := 0x270007
abbrev placementUnplaced : Nat := 0x270008
abbrev placementHealthGeneration : Nat := 0x270009
abbrev placementLastTrigger : Nat := 0x27000A
abbrev pinValid : Nat := 0x270201
abbrev pinIndex : Nat := 0x270202
abbrev pinRow : Nat := 0x270203
abbrev pinDie : Nat := 0x270204
abbrev placedValid : Nat := 0x270301
abbrev placedIndex : Nat := 0x270302
abbrev placedRow : Nat := 0x270303
abbrev placedDie : Nat := 0x270304
abbrev placedUnit : Nat := 0x270305
abbrev placedState : Nat := 0x270306
abbrev pathValid : Nat := 0x270401
abbrev pathPrimary : Nat := 0x270402
abbrev pathAlternate : Nat := 0x270403
abbrev pathActive : Nat := 0x270404
abbrev pathGeneration : Nat := 0x270405
abbrev pathCntSwitches : Nat := 0x270406
abbrev healthDieValid : Nat := 0x271001
abbrev healthDieState : Nat := 0x271002
abbrev healthDieDegradedCause : Nat := 0x271003
abbrev healthDieCntFaults : Nat := 0x271004
abbrev healthDieCntUnreachableDrop : Nat := 0x271005
abbrev healthDieReadmit : Nat := 0x271006
abbrev healthDieLastChange : Nat := 0x271007
abbrev healthLinkValid : Nat := 0x271101
abbrev healthLinkState : Nat := 0x271102
abbrev healthLinkPartner : Nat := 0x271103
abbrev healthLinkCntResends : Nat := 0x271104
abbrev healthLinkCntFailures : Nat := 0x271105
abbrev healthLinkCntCellsLost : Nat := 0x271106
abbrev faultValid : Nat := 0x272001
abbrev faultSequence : Nat := 0x272002
abbrev faultClass : Nat := 0x272003
abbrev faultDie : Nat := 0x272004
abbrev faultUnit : Nat := 0x272005
abbrev faultTime : Nat := 0x272006
abbrev faultRtc : Nat := 0x272007
abbrev faultSafeN : Nat := 0x272008
abbrev faultCntClass : Nat := 0x272201
abbrev faultCntClear : Nat := 0x27221F
abbrev safePolicy : Nat := 0x273001
abbrev safeReleaseMode : Nat := 0x273002
abbrev safeRelease : Nat := 0x273003
abbrev safeSummaryInterval : Nat := 0x273004
abbrev safeState : Nat := 0x273005
abbrev miMode : Nat := 0x300001
abbrev miSampleInterval : Nat := 0x300002
abbrev miAverage : Nat := 0x300003
abbrev miThresholdHigh : Nat := 0x300004
abbrev miThresholdLow : Nat := 0x300005
abbrev miDebounce : Nat := 0x300006
abbrev miGate : Nat := 0x300007
abbrev miDiagOpenEnable : Nat := 0x300008
abbrev miDiagOpenThreshold : Nat := 0x300009
abbrev miDiagLowLimit : Nat := 0x30000A
abbrev miDiagHighLimit : Nat := 0x30000B
abbrev miDiagPersistence : Nat := 0x30000C
abbrev miDiagInterval : Nat := 0x30000D
abbrev miValue : Nat := 0x301001
abbrev miValid : Nat := 0x301002
abbrev miDiag : Nat := 0x301003
abbrev miTimestamp : Nat := 0x301004
abbrev miCntClear : Nat := 0x30100F
abbrev miCntDiagEvents : Nat := 0x301010
abbrev spdMode : Nat := 0x302001
abbrev spdPolarity : Nat := 0x302002
abbrev spdPulsesPerKm : Nat := 0x302003
abbrev spdThresholdHigh : Nat := 0x302004
abbrev spdThresholdLow : Nat := 0x302005
abbrev spdZeroTimeout : Nat := 0x302006
abbrev spdSpeedAverage : Nat := 0x302007
abbrev spdSpeed : Nat := 0x302801
abbrev spdFrequency : Nat := 0x302802
abbrev spdDistancePulses : Nat := 0x302803
abbrev spdDistance : Nat := 0x302804
abbrev spdReversed : Nat := 0x302805
abbrev spdState : Nat := 0x302806
abbrev spdLastEdge : Nat := 0x302807
abbrev spdDistanceReset : Nat := 0x302808
abbrev spdCntClear : Nat := 0x30280F
abbrev spdCntReversals : Nat := 0x302810
abbrev spdCntOverrange : Nat := 0x302811
abbrev spdCntOpen : Nat := 0x302812
abbrev vbatVoltage : Nat := 0x303001
abbrev vbatSystem : Nat := 0x303002
abbrev vbatTimestamp : Nat := 0x303003
abbrev wkLevels : Nat := 0x303004
abbrev motionSpdInput : Nat := 0x304001
abbrev motionBusRule : Nat := 0x304002
abbrev motionSpdSpeed : Nat := 0x304003
abbrev motionSpdValid : Nat := 0x304004
abbrev motionBusSpeed : Nat := 0x304005
abbrev motionBusCorroborated : Nat := 0x304006
abbrev tapValid : Nat := 0x310001
abbrev tapRealm : Nat := 0x310002
abbrev tapKind : Nat := 0x310003
abbrev tapValue : Nat := 0x310004
abbrev tapLength : Nat := 0x310005
abbrev tapSlot : Nat := 0x310006
abbrev tapBitOffset : Nat := 0x310007
abbrev tapBitLength : Nat := 0x310008
abbrev tapFormat : Nat := 0x310009
abbrev tapScale : Nat := 0x31000A
abbrev tapOffset : Nat := 0x31000B
abbrev tapMinInterval : Nat := 0x31000C
abbrev tapMaxAge : Nat := 0x31000D
abbrev tapStValid : Nat := 0x310101
abbrev tapStValue : Nat := 0x310102
abbrev tapStTimestamp : Nat := 0x310103
abbrev tapStSlot : Nat := 0x310104
abbrev tapStStale : Nat := 0x310105
abbrev tapCntClear : Nat := 0x31010F
abbrev tapCntValues : Nat := 0x310110
abbrev tapCntShort : Nat := 0x310111
abbrev tapCntSuperseded : Nat := 0x310112
abbrev ruleValid : Nat := 0x311001
abbrev ruleA : Nat := 0x311002
abbrev ruleB : Nat := 0x311003
abbrev ruleBConstant : Nat := 0x311004
abbrev ruleCompare : Nat := 0x311005
abbrev ruleAbsTol : Nat := 0x311006
abbrev ruleRelTol : Nat := 0x311007
abbrev ruleGate : Nat := 0x311008
abbrev rulePersistence : Nat := 0x311009
abbrev ruleReleaseTime : Nat := 0x31100A
abbrev ruleActions : Nat := 0x31100B
abbrev ruleStValid : Nat := 0x311101
abbrev ruleStState : Nat := 0x311102
abbrev ruleStA : Nat := 0x311103
abbrev ruleStB : Nat := 0x311104
abbrev ruleStSince : Nat := 0x311105
abbrev ruleStOffendingSlot : Nat := 0x311106
abbrev ruleStInputStale : Nat := 0x311107
abbrev ruleCntClear : Nat := 0x31110F
abbrev ruleCntFired : Nat := 0x311110
abbrev ruleCntReleased : Nat := 0x311111
abbrev ruleCntStaleEntries : Nat := 0x311112
abbrev sealPeriod : Nat := 0x320001
abbrev sealUrgentMask : Nat := 0x320002
abbrev sealMinSpacing : Nat := 0x320003
abbrev evidencePortEnable : Nat := 0x320004
abbrev fifoHighMark : Nat := 0x320005
abbrev fifoLowMark : Nat := 0x320006
abbrev sealNow : Nat := 0x320007
abbrev chainLastSeq : Nat := 0x320101
abbrev chainHead : Nat := 0x320102
abbrev sealLastNumber : Nat := 0x320103
abbrev sealRemaining : Nat := 0x320104
abbrev sealLastTime : Nat := 0x320105
abbrev journalFloor : Nat := 0x320106
abbrev evidenceLossCount : Nat := 0x320107
abbrev fifoHeld : Nat := 0x320108
abbrev fifoUnread : Nat := 0x320109
abbrev fifoOvr : Nat := 0x32010A
abbrev evidenceState : Nat := 0x32010B
abbrev evidenceBootCount : Nat := 0x32010C
abbrev sealNextTreeReady : Nat := 0x32010D
abbrev evidenceCntClear : Nat := 0x32010F
abbrev evidenceCntRecords : Nat := 0x320110
abbrev evidenceCntSeals : Nat := 0x320111
abbrev evidenceCntItemsNotWritten : Nat := 0x320112
abbrev evidenceCntGaps : Nat := 0x320113
abbrev evidenceCntCoalesced : Nat := 0x320114
abbrev evidenceCntDeferredSeals : Nat := 0x320115
abbrev journalSelect : Nat := 0x321001
abbrev journalRecord : Nat := 0x321002
abbrev journalAck : Nat := 0x321003
abbrev sealStoreSelect : Nat := 0x321201
abbrev sealStoreSeal : Nat := 0x321202
abbrev sealStoreOldest : Nat := 0x321203
abbrev lifecycleRequest : Nat := 0x330001
abbrev lifecycleToken : Nat := 0x330002
abbrev lifecycleConfirm : Nat := 0x330003
abbrev lifecycleLastResult : Nat := 0x330004
abbrev lifecycleServiceVisitsLeft : Nat := 0x330005
abbrev lifecycleServiceTimeout : Nat := 0x330006
abbrev lifecycleServiceRemaining : Nat := 0x330007
abbrev lifecycleProvisionBlob : Nat := 0x330101
abbrev rootGenerationMfg : Nat := 0x330201
abbrev rootGenerationField : Nat := 0x330202
abbrev rootGenerationService : Nat := 0x330203
abbrev rootSelected : Nat := 0x330204
abbrev attestRelation : Nat := 0x332001
abbrev attestChallenge : Nat := 0x332002
abbrev attestResponse : Nat := 0x332003
abbrev cryptoCntClear : Nat := 0x33300F
abbrev attestCntResponses : Nat := 0x333010
abbrev attestCntRefused : Nat := 0x333011
abbrev keyCntFirstUseFailures : Nat := 0x333012
abbrev keyValid : Nat := 0x331001
abbrev keyKind : Nat := 0x331002
abbrev keyRoot : Nat := 0x331003
abbrev keyParent : Nat := 0x331004
abbrev keyParentGen : Nat := 0x331005
abbrev keyOwnGen : Nat := 0x331006
abbrev keyUsage : Nat := 0x331007
abbrev keyBlocks : Nat := 0x331008
abbrev keyDies : Nat := 0x331009
abbrev keyLength : Nat := 0x33100A
abbrev keyOrigin : Nat := 0x33100B
abbrev keyRelation : Nat := 0x33100C
abbrev keyLabel : Nat := 0x33100D
abbrev keyKcv : Nat := 0x33100E
abbrev keyStatus : Nat := 0x331010
abbrev keycmdSlot : Nat := 0x331101
abbrev keycmdKind : Nat := 0x331102
abbrev keycmdParent : Nat := 0x331103
abbrev keycmdUsage : Nat := 0x331104
abbrev keycmdBlocks : Nat := 0x331105
abbrev keycmdDies : Nat := 0x331106
abbrev keycmdLength : Nat := 0x331107
abbrev keycmdRelation : Nat := 0x331108
abbrev keycmdLabel : Nat := 0x331109
abbrev keycmdBlob : Nat := 0x33110A
abbrev keycmdOp : Nat := 0x33110B
abbrev keycmdStatus : Nat := 0x33110C
abbrev powerLastMode : Nat := 0x340001
abbrev powerLastWakeSource : Nat := 0x340002
abbrev powerLastWakeDetail : Nat := 0x340003
abbrev powerRequest : Nat := 0x340004
abbrev powerAutoSleep : Nat := 0x340005
abbrev powerAutoSleepMode : Nat := 0x340006
abbrev powerIdleTime : Nat := 0x340007
abbrev powerKeepAwake : Nat := 0x340008
abbrev powerVselPin : Nat := 0x340009
abbrev powerRtcAlarm : Nat := 0x34000A
abbrev powerRtcPeriod : Nat := 0x34000B
abbrev powerMiWakeMask : Nat := 0x34000C
abbrev powerCntClear : Nat := 0x34000F
abbrev powerCntWakeEvents : Nat := 0x340010
abbrev powerCntEntriesAborted : Nat := 0x340011
abbrev powerCntHeldOverflow : Nat := 0x340012
abbrev wkEdges : Nat := 0x340101
abbrev wkFilter : Nat := 0x340102
abbrev tamperEnable : Nat := 0x340201
abbrev tamperInterval : Nat := 0x340202
abbrev tamperWake : Nat := 0x340203
abbrev tamperState : Nat := 0x340204
abbrev tamperCntClear : Nat := 0x34020F
abbrev tamperCntEvents : Nat := 0x340210
abbrev pwrValid : Nat := 0x341001
abbrev swMode : Nat := 0x341002
abbrev swBitRate : Nat := 0x341003
abbrev swId : Nat := 0x341004
abbrev swIdMask : Nat := 0x341005
abbrev swDlc : Nat := 0x341006
abbrev swDataMask : Nat := 0x341007
abbrev swErrorWake : Nat := 0x341008
abbrev swWupTimeout : Nat := 0x341009
abbrev wakeFrameId : Nat := 0x34100A
abbrev wakeFrameDlc : Nat := 0x34100B
abbrev wakeFrameData : Nat := 0x34100C
abbrev linSleepOnEntry : Nat := 0x34100D
abbrev linWakeDetect : Nat := 0x34100E
abbrev propValid : Nat := 0x342001
abbrev propPorts : Nat := 0x342002
abbrev appEnable : Nat := 0x360001
abbrev appRestartLimit : Nat := 0x360002
abbrev appRestartDelay : Nat := 0x360003
abbrev appIrqRoute : Nat := 0x360101
abbrev qpRealm : Nat := 0x360201
abbrev qpRxClass0 : Nat := 0x360211
abbrev qpRxClass1 : Nat := 0x360212
abbrev qpRxClass2 : Nat := 0x360213
abbrev qpRxClass3 : Nat := 0x360214
abbrev qpRxClass4 : Nat := 0x360215
abbrev qpRxClass5 : Nat := 0x360216
abbrev qpRxClass6 : Nat := 0x360217
abbrev qpRxClass7 : Nat := 0x360218
abbrev appState : Nat := 0x361001
abbrev appRestarts : Nat := 0x361002
abbrev appLastResetCause : Nat := 0x361003
abbrev appRestart : Nat := 0x361004
abbrev appCntClear : Nat := 0x36100F
abbrev appCntWatchdog : Nat := 0x361010
abbrev appCntTxItems : Nat := 0x361011
abbrev appCntRxItems : Nat := 0x361012
abbrev appCntTxErr : Nat := 0x361013
abbrev appCntEccCorrected : Nat := 0x361014
abbrev updateState : Nat := 0x350001
abbrev updateAction : Nat := 0x350002
abbrev updatePart : Nat := 0x350003
abbrev updateStatus : Nat := 0x350004
abbrev updateNewVersion : Nat := 0x350005
abbrev updateTrialRemaining : Nat := 0x350006
abbrev updateTrialWindow : Nat := 0x350007
abbrev updateReceived : Nat := 0x350008
abbrev updateDelta : Nat := 0x350101
abbrev updateOwnerLock : Nat := 0x351001
abbrev updateSpeedThreshold : Nat := 0x351002
abbrev updateVbatMin12 : Nat := 0x351003
abbrev updateVbatMin24 : Nat := 0x351004
abbrev updateUnknownMotion : Nat := 0x351005
abbrev updateGateState : Nat := 0x351006
abbrev updateConfirm : Nat := 0x352001
abbrev updateOemKey : Nat := 0x353001
abbrev slotValid : Nat := 0x354001
abbrev slotState : Nat := 0x354002
abbrev slotVersion : Nat := 0x354003
abbrev slotSecVersion : Nat := 0x354004
abbrev slotMeasurement : Nat := 0x354005
abbrev updateFloor : Nat := 0x354101

end Sys2Proof.Machine.E
end

