-- ==== Sys2Proof/Machine/OdTypes.lean ====
section
/-! DEFINITION. The shape of an object-dictionary entry (R58–R64, R484): what the chapters' OD tables state in their columns. -/

namespace Sys2Proof.Machine
open Sys2Proof

/-- Entry types (Table 3-1). -/
inductive OdType where
  | bool | u8 | u16 | u32 | u64 | i8 | i64 | f32
  | str | oct (n : Nat) | dom (n : Nat)
  deriving DecidableEq, Repr

/-- Access codes (Table 3-2). -/
inductive Access where
  | const | ro | rw | wo
  deriving DecidableEq, Repr

/-- The single-entry condition of R484 that an entry's Description states. -/
inductive Check where
  /-- every encoding of the type -/
  | any
  /-- a numeric range -/
  | range (lo hi : Nat)
  /-- a numeric range of a signed type -/
  | srange (lo hi : Int)
  /-- a numeric range and one code beside it -/
  | rangeOr (lo hi extra : Nat)
  /-- a list of codes -/
  | codes (l : List Nat)
  /-- bits marked "write 0" -/
  | mask (m : Nat)
  /-- a range, multiples of 8 only -/
  | mul8 (lo hi : Nat)
  /-- a die number 1 to N_C -/
  | die1
  /-- a die number 0 to N_C -/
  | die0
  /-- a destination code of Table 6-4 (R183) -/
  | dest
  /-- `fdb.flush` (R206): a realm or 0xFFFF -/
  | flush
  /-- a LIN schedule slot (R128) -/
  | linSlot
  /-- a LIN identifier's configuration (R126) -/
  | linId
  /-- an identifier word of the wake table, or 0xFFFF_FFFF (R391) -/
  | wakeId
  /-- finite binary32 -/
  | f32Finite
  /-- finite, not zero -/
  | f32NonZero
  /-- an operand source code of Table 10-3 -/
  | operand
  /-- binary32, at least 0 -/
  | f32Min0
  /-- a range of binary32 values given by their encodings -/
  | f32Range (lo hi : Nat)
  deriving DecidableEq, Repr

/-- One row of an OD table: the subindices `lo` to `hi` it covers, its type, access, read and write levels (9: nobody),
the check of R484, whether its description begins "Live.", whether it is persistent, and its Default column. -/
structure OdEntry where
  lo : Nat
  hi : Nat
  ty : OdType
  acc : Access
  rl : Nat
  wl : Nat
  chk : Check
  live : Bool
  pers : Bool
  dflt : Nat
  deriving DecidableEq, Repr

/-- Which indices an object stands at: one, one per CAN, LIN or Ethernet slot (base + slot), one per switch die
(base + n − 1), or a fixed number. -/
inductive IdxClass where
  | one | canSlot | linSlot | ethSlot | perDie | count (n : Nat)
  deriving DecidableEq, Repr

/-- One OD object. `cap` is the TABLE capacity, 0 for a VAR or RECORD; `capDie` says that it is per switch die. -/
structure OdObject where
  base : Nat
  cls : IdxClass
  cap : Nat
  capDie : Bool
  entries : List OdEntry
  deriving DecidableEq, Repr

end Sys2Proof.Machine
end

