-- ==== Sys2Proof/Machine/OdTablesField.lean ====
section
/-! DEFINITION. Object dictionary 0x3000 to 0x31FF: measurement, taps and rules (10), as the OD tables of the chapters list it. -/

namespace Sys2Proof.Machine
open Sys2Proof

/-- The object at 0x3000 (10_measurement_plausibility.md, R316). -/
def obj3000 : OdObject := ⟨0x3000, .count 16, 0, false, [
  ⟨0x01, 0x01, .u8, .rw, 0, 3, .codes [0, 1, 2, 3, 4], false, true, 0⟩,
  ⟨0x02, 0x02, .u16, .rw, 0, 3, .range 1 1000, false, true, 10⟩,
  ⟨0x03, 0x03, .u8, .rw, 0, 3, .range 0 7, false, true, 2⟩,
  ⟨0x04, 0x04, .u16, .rw, 0, 3, .range 100 40000, false, true, 7000⟩,
  ⟨0x05, 0x05, .u16, .rw, 0, 3, .range 0 39900, false, true, 4000⟩,
  ⟨0x06, 0x06, .u16, .rw, 0, 3, .any, false, true, 1000⟩,
  ⟨0x07, 0x07, .u16, .rw, 0, 3, .range 10 10000, false, true, 100⟩,
  ⟨0x08, 0x08, .bool, .rw, 0, 3, .codes [0, 1], false, true, 0⟩,
  ⟨0x09, 0x09, .u16, .rw, 0, 3, .range 1000 6000, false, true, 5000⟩,
  ⟨0x0A, 0x0A, .u16, .rw, 0, 3, .any, false, true, 0⟩,
  ⟨0x0B, 0x0B, .u16, .rw, 0, 3, .any, false, true, 0⟩,
  ⟨0x0C, 0x0C, .u16, .rw, 0, 3, .range 1 10000, false, true, 50⟩,
  ⟨0x0D, 0x0D, .u16, .rw, 0, 3, .range 10 10000, false, true, 100⟩]⟩

/-- The object at 0x3010 (10_measurement_plausibility.md, R316). -/
def obj3010 : OdObject := ⟨0x3010, .count 16, 0, false, [
  ⟨0x01, 0x01, .f32, .ro, 0, 9, .any, false, false, 0⟩,
  ⟨0x02, 0x02, .bool, .ro, 0, 9, .any, false, false, 0⟩,
  ⟨0x03, 0x03, .u8, .ro, 0, 9, .any, false, false, 0⟩,
  ⟨0x04, 0x04, .u64, .ro, 0, 9, .any, false, false, 0⟩,
  ⟨0x0F, 0x0F, .u8, .wo, 9, 2, .any, false, false, 0⟩,
  ⟨0x10, 0x10, .u32, .ro, 1, 9, .any, false, false, 0⟩]⟩

/-- The object at 0x3020 (10_measurement_plausibility.md, R317). -/
def obj3020 : OdObject := ⟨0x3020, .count 4, 0, false, [
  ⟨0x01, 0x01, .u8, .rw, 0, 3, .codes [0, 1, 2], false, true, 0⟩,
  ⟨0x02, 0x02, .u8, .rw, 0, 3, .codes [0, 1, 2], false, true, 0⟩,
  ⟨0x03, 0x03, .u32, .rw, 0, 3, .range 100 100000, false, true, 8000⟩,
  ⟨0x04, 0x04, .u16, .rw, 0, 3, .any, false, true, 2500⟩,
  ⟨0x05, 0x05, .u16, .rw, 0, 3, .any, false, true, 1500⟩,
  ⟨0x06, 0x06, .u16, .rw, 0, 3, .range 100 10000, false, true, 1000⟩,
  ⟨0x07, 0x07, .u8, .rw, 0, 3, .range 1 64, false, true, 8⟩]⟩

/-- The object at 0x3028 (10_measurement_plausibility.md, R317). -/
def obj3028 : OdObject := ⟨0x3028, .count 4, 0, false, [
  ⟨0x01, 0x01, .f32, .ro, 0, 9, .any, false, false, 0⟩,
  ⟨0x02, 0x02, .f32, .ro, 0, 9, .any, false, false, 0⟩,
  ⟨0x03, 0x03, .u64, .ro, 0, 9, .any, false, false, 0⟩,
  ⟨0x04, 0x04, .u64, .ro, 0, 9, .any, false, false, 0⟩,
  ⟨0x05, 0x05, .bool, .ro, 0, 9, .any, false, false, 0⟩,
  ⟨0x06, 0x06, .u8, .ro, 0, 9, .any, false, false, 0⟩,
  ⟨0x07, 0x07, .u64, .ro, 0, 9, .any, false, false, 0⟩,
  ⟨0x08, 0x08, .u8, .wo, 9, 3, .any, false, false, 0⟩,
  ⟨0x0F, 0x0F, .u8, .wo, 9, 2, .any, false, false, 0⟩,
  ⟨0x10, 0x10, .u32, .ro, 1, 9, .any, false, false, 0⟩,
  ⟨0x11, 0x11, .u32, .ro, 1, 9, .any, false, false, 0⟩,
  ⟨0x12, 0x12, .u32, .ro, 1, 9, .any, false, false, 0⟩]⟩

/-- The object at 0x3030 (10_measurement_plausibility.md, R318). -/
def obj3030 : OdObject := ⟨0x3030, .one, 0, false, [
  ⟨0x01, 0x01, .f32, .ro, 0, 9, .any, false, false, 0⟩,
  ⟨0x02, 0x02, .u8, .ro, 0, 9, .any, false, false, 0⟩,
  ⟨0x03, 0x03, .u64, .ro, 0, 9, .any, false, false, 0⟩,
  ⟨0x04, 0x04, .u8, .ro, 0, 9, .any, false, false, 0⟩]⟩

/-- The object at 0x3040 (10_measurement_plausibility.md, R318). -/
def obj3040 : OdObject := ⟨0x3040, .one, 0, false, [
  ⟨0x01, 0x01, .u8, .rw, 0, 3, .rangeOr 0 3 255, false, true, 0⟩,
  ⟨0x02, 0x02, .u8, .rw, 0, 3, .rangeOr 0 63 255, false, true, 255⟩,
  ⟨0x03, 0x03, .f32, .ro, 0, 9, .any, false, false, 0⟩,
  ⟨0x04, 0x04, .bool, .ro, 0, 9, .any, false, false, 0⟩,
  ⟨0x05, 0x05, .f32, .ro, 0, 9, .any, false, false, 0⟩,
  ⟨0x06, 0x06, .bool, .ro, 0, 9, .any, false, false, 0⟩]⟩

/-- The object at 0x3100 (10_measurement_plausibility.md, R319). -/
def obj3100 : OdObject := ⟨0x3100, .one, 256, false, [
  ⟨0x01, 0x01, .bool, .rw, 1, 3, .codes [0, 1], false, true, 0⟩,
  ⟨0x02, 0x02, .u8, .rw, 1, 3, .any, false, true, 0⟩,
  ⟨0x03, 0x03, .u8, .rw, 1, 3, .range 0 5, false, true, 0⟩,
  ⟨0x04, 0x04, .u32, .rw, 1, 3, .any, false, true, 0⟩,
  ⟨0x05, 0x05, .u8, .rw, 1, 3, .any, false, true, 0⟩,
  ⟨0x06, 0x06, .u16, .rw, 1, 3, .any, false, true, 65535⟩,
  ⟨0x07, 0x07, .u32, .rw, 1, 3, .range 0 73727, false, true, 0⟩,
  ⟨0x08, 0x08, .u8, .rw, 1, 3, .range 1 32, false, true, 8⟩,
  ⟨0x09, 0x09, .u8, .rw, 1, 3, .mask 0xFC, false, true, 0⟩,
  ⟨0x0A, 0x0A, .f32, .rw, 1, 3, .f32NonZero, false, true, 1065353216⟩,
  ⟨0x0B, 0x0B, .f32, .rw, 1, 3, .f32Finite, false, true, 0⟩,
  ⟨0x0C, 0x0C, .u16, .rw, 1, 3, .range 0 10000, false, true, 10⟩,
  ⟨0x0D, 0x0D, .u16, .rw, 1, 3, .range 10 60000, false, true, 500⟩]⟩

/-- The object at 0x3101 (10_measurement_plausibility.md, R319). -/
def obj3101 : OdObject := ⟨0x3101, .one, 256, false, [
  ⟨0x01, 0x01, .bool, .ro, 1, 9, .any, false, false, 0⟩,
  ⟨0x02, 0x02, .f32, .ro, 0, 9, .any, false, false, 0⟩,
  ⟨0x03, 0x03, .u64, .ro, 0, 9, .any, false, false, 0⟩,
  ⟨0x04, 0x04, .u16, .ro, 1, 9, .any, false, false, 65535⟩,
  ⟨0x05, 0x05, .bool, .ro, 0, 9, .any, false, false, 1⟩,
  ⟨0x0F, 0x0F, .u8, .wo, 9, 2, .any, false, false, 0⟩,
  ⟨0x10, 0x10, .u64, .ro, 1, 9, .any, false, false, 0⟩,
  ⟨0x11, 0x11, .u32, .ro, 1, 9, .any, false, false, 0⟩,
  ⟨0x12, 0x12, .u32, .ro, 1, 9, .any, false, false, 0⟩]⟩

/-- The object at 0x3110 (10_measurement_plausibility.md, R320). -/
def obj3110 : OdObject := ⟨0x3110, .one, 64, false, [
  ⟨0x01, 0x01, .bool, .rw, 1, 3, .codes [0, 1], false, true, 0⟩,
  ⟨0x02, 0x02, .u16, .rw, 1, 3, .operand, false, true, 0⟩,
  ⟨0x03, 0x03, .u16, .rw, 1, 3, .operand, false, true, 0⟩,
  ⟨0x04, 0x04, .f32, .rw, 1, 3, .any, false, true, 0⟩,
  ⟨0x05, 0x05, .u8, .rw, 1, 3, .codes [0, 1, 2], false, true, 0⟩,
  ⟨0x06, 0x06, .f32, .rw, 1, 3, .f32Min0, false, true, 0⟩,
  ⟨0x07, 0x07, .u16, .rw, 1, 3, .range 0 10000, false, true, 0⟩,
  ⟨0x08, 0x08, .f32, .rw, 1, 3, .f32Min0, false, true, 0⟩,
  ⟨0x09, 0x09, .u32, .rw, 1, 3, .range 0 3600000, false, true, 2000⟩,
  ⟨0x0A, 0x0A, .u32, .rw, 1, 3, .range 0 3600000, false, true, 2000⟩,
  ⟨0x0B, 0x0B, .u8, .rw, 1, 3, .mask 0xC0, false, true, 19⟩]⟩

/-- The object at 0x3111 (10_measurement_plausibility.md, R320). -/
def obj3111 : OdObject := ⟨0x3111, .one, 64, false, [
  ⟨0x01, 0x01, .bool, .ro, 1, 9, .any, false, false, 0⟩,
  ⟨0x02, 0x02, .u8, .ro, 0, 9, .any, false, false, 0⟩,
  ⟨0x03, 0x03, .f32, .ro, 1, 9, .any, false, false, 0⟩,
  ⟨0x04, 0x04, .f32, .ro, 1, 9, .any, false, false, 0⟩,
  ⟨0x05, 0x05, .u64, .ro, 1, 9, .any, false, false, 0⟩,
  ⟨0x06, 0x06, .u16, .ro, 1, 9, .any, false, false, 65535⟩,
  ⟨0x07, 0x07, .bool, .ro, 1, 9, .any, false, false, 1⟩,
  ⟨0x0F, 0x0F, .u8, .wo, 9, 2, .any, false, false, 0⟩,
  ⟨0x10, 0x10, .u32, .ro, 1, 9, .any, false, false, 0⟩,
  ⟨0x11, 0x11, .u32, .ro, 1, 9, .any, false, false, 0⟩,
  ⟨0x12, 0x12, .u32, .ro, 1, 9, .any, false, false, 0⟩]⟩

/-- The objects of this range. -/
def odField : List OdObject := [
  obj3000, obj3010, obj3020, obj3028, obj3030, obj3040, obj3100, obj3101, obj3110, obj3111]

end Sys2Proof.Machine
end

