-- ==== Sys2Proof/Machine/OdTablesGeneral.lean ====
section
/-! DEFINITION. Object dictionary 0x1000 to 0x13FF: identity, access, commit, store and time (03), as the OD tables of the chapters list it. -/

namespace Sys2Proof.Machine
open Sys2Proof

/-- The object at 0x1000 (03_object_dictionary.md, R97). -/
def obj1000 : OdObject := ⟨0x1000, .one, 0, false, [
  ⟨0x00, 0x00, .u32, .const, 0, 9, .any, false, false, 33024⟩]⟩

/-- The object at 0x1001 (03_object_dictionary.md, R97). -/
def obj1001 : OdObject := ⟨0x1001, .one, 0, false, [
  ⟨0x01, 0x01, .str, .const, 0, 9, .any, false, false, 0⟩,
  ⟨0x02, 0x02, .u8, .const, 0, 9, .any, false, false, 0⟩,
  ⟨0x03, 0x03, .u8, .const, 0, 9, .any, false, false, 0⟩,
  ⟨0x04, 0x04, .u8, .const, 0, 9, .any, false, false, 0⟩,
  ⟨0x05, 0x05, .str, .const, 0, 9, .any, false, false, 0⟩,
  ⟨0x06, 0x06, .oct 16, .const, 0, 9, .any, false, false, 0⟩,
  ⟨0x07, 0x07, .oct 60, .const, 0, 9, .any, false, false, 0⟩,
  ⟨0x08, 0x08, .oct 32, .const, 0, 9, .any, false, false, 0⟩,
  ⟨0x09, 0x09, .oct 6, .const, 0, 9, .any, false, false, 0⟩]⟩

/-- The object at 0x1008 (03_object_dictionary.md, R97). -/
def obj1008 : OdObject := ⟨0x1008, .one, 0, false, [
  ⟨0x00, 0x00, .str, .const, 0, 9, .any, false, false, 0⟩]⟩

/-- The object at 0x1010 (03_object_dictionary.md, R97). -/
def obj1010 : OdObject := ⟨0x1010, .one, 0, false, [
  ⟨0x01, 0x01, .u32, .ro, 0, 9, .any, false, false, 0⟩,
  ⟨0x02, 0x02, .u32, .ro, 0, 9, .any, false, false, 0⟩,
  ⟨0x03, 0x03, .u32, .ro, 0, 9, .any, false, false, 0⟩,
  ⟨0x04, 0x04, .u32, .ro, 0, 9, .any, false, false, 0⟩,
  ⟨0x05, 0x05, .u16, .ro, 0, 9, .any, false, false, 0⟩,
  ⟨0x06, 0x06, .u8, .ro, 0, 9, .any, false, false, 0⟩]⟩

/-- The object at 0x1020 (03_object_dictionary.md, R97). -/
def obj1020 : OdObject := ⟨0x1020, .one, 0, false, [
  ⟨0x01, 0x01, .u8, .ro, 0, 9, .any, false, false, 0⟩,
  ⟨0x02, 0x02, .u8, .ro, 1, 9, .any, false, false, 0⟩]⟩

/-- The object at 0x1100 (03_object_dictionary.md, R98). -/
def obj1100 : OdObject := ⟨0x1100, .one, 0, false, [
  ⟨0x01, 0x01, .bool, .rw, 0, 3, .codes [0, 1], false, true, 1⟩,
  ⟨0x02, 0x02, .u8, .rw, 0, 3, .range 1 127, false, true, 16⟩,
  ⟨0x03, 0x03, .u16, .rw, 0, 3, .any, false, true, 0⟩,
  ⟨0x04, 0x04, .u16, .rw, 0, 2, .range 100 10000, false, true, 1000⟩,
  ⟨0x05, 0x05, .u8, .rw, 0, 2, .range 1 127, false, true, 127⟩]⟩

/-- The object at 0x1110 (03_object_dictionary.md, R98). -/
def obj1110 : OdObject := ⟨0x1110, .one, 0, false, [
  ⟨0x01, 0x01, .bool, .rw, 0, 3, .codes [0, 1], false, true, 0⟩,
  ⟨0x02, 0x02, .u32, .rw, 0, 3, .any, false, true, 0⟩,
  ⟨0x03, 0x03, .u8, .rw, 0, 3, .any, false, true, 0⟩,
  ⟨0x04, 0x04, .u8, .rw, 0, 3, .die1, false, true, 1⟩,
  ⟨0x06, 0x06, .u8, .rw, 1, 3, .range 1 4, false, true, 4⟩]⟩

/-- The object at 0x1120 (03_object_dictionary.md, R98). -/
def obj1120 : OdObject := ⟨0x1120, .one, 0, false, [
  ⟨0x01, 0x01, .u16, .rw, 0, 3, .range 10 3600, false, true, 300⟩,
  ⟨0x02, 0x02, .u16, .rw, 0, 3, .range 10 3600, false, true, 60⟩,
  ⟨0x03, 0x03, .u8, .rw, 0, 3, .range 1 20, false, true, 5⟩]⟩

/-- The object at 0x1121 (03_object_dictionary.md, R98). -/
def obj1121 : OdObject := ⟨0x1121, .one, 12, false, [
  ⟨0x01, 0x01, .bool, .ro, 1, 9, .any, false, false, 0⟩,
  ⟨0x02, 0x02, .u8, .ro, 1, 9, .any, false, false, 0⟩,
  ⟨0x03, 0x03, .u32, .ro, 1, 9, .any, false, false, 0⟩,
  ⟨0x04, 0x04, .u32, .ro, 1, 9, .any, false, false, 0⟩,
  ⟨0x05, 0x05, .u16, .ro, 1, 9, .any, false, false, 0⟩,
  ⟨0x06, 0x06, .bool, .ro, 1, 9, .any, false, false, 0⟩]⟩

/-- The object at 0x1122 (03_object_dictionary.md, R98). -/
def obj1122 : OdObject := ⟨0x1122, .one, 0, false, [
  ⟨0x01, 0x01, .u8, .wo, 0, 0, .range 1 4, false, false, 0⟩,
  ⟨0x02, 0x02, .oct 32, .ro, 0, 9, .any, false, false, 0⟩,
  ⟨0x03, 0x03, .oct 32, .wo, 0, 0, .any, false, false, 0⟩,
  ⟨0x04, 0x04, .oct 32, .wo, 0, 0, .any, false, false, 0⟩,
  ⟨0x05, 0x05, .u8, .wo, 0, 0, .any, false, false, 0⟩,
  ⟨0x06, 0x06, .u8, .ro, 0, 9, .any, false, false, 0⟩,
  ⟨0x07, 0x07, .u8, .ro, 0, 9, .any, false, false, 0⟩]⟩

/-- The object at 0x1123 (03_object_dictionary.md, R98). -/
def obj1123 : OdObject := ⟨0x1123, .one, 0, false, [
  ⟨0x01, 0x01, .u32, .ro, 1, 9, .any, false, false, 0⟩,
  ⟨0x02, 0x02, .u32, .ro, 1, 9, .any, false, false, 0⟩,
  ⟨0x03, 0x03, .u32, .ro, 1, 9, .any, false, false, 0⟩,
  ⟨0x04, 0x04, .u32, .ro, 1, 9, .any, false, false, 0⟩,
  ⟨0x05, 0x05, .u32, .ro, 1, 9, .any, false, false, 0⟩,
  ⟨0x06, 0x06, .u32, .ro, 1, 9, .any, false, false, 0⟩,
  ⟨0x07, 0x07, .u16, .ro, 0, 9, .any, false, false, 0⟩]⟩

/-- The object at 0x1130 (03_object_dictionary.md, R98). -/
def obj1130 : OdObject := ⟨0x1130, .one, 0, false, [
  ⟨0x01, 0x01, .u8, .rw, 1, 3, .range 0 3, false, true, 1⟩]⟩

/-- The object at 0x1200 (03_object_dictionary.md, R99). -/
def obj1200 : OdObject := ⟨0x1200, .one, 0, false, [
  ⟨0x01, 0x01, .u8, .wo, 9, 1, .codes [1, 2, 3, 4, 5], false, false, 0⟩,
  ⟨0x02, 0x02, .u8, .ro, 0, 9, .any, false, false, 0⟩,
  ⟨0x03, 0x03, .u8, .ro, 0, 9, .any, false, false, 0⟩,
  ⟨0x04, 0x04, .u32, .ro, 1, 9, .any, false, false, 0⟩,
  ⟨0x05, 0x05, .u32, .ro, 1, 9, .any, false, false, 4294967295⟩,
  ⟨0x06, 0x06, .u32, .ro, 0, 9, .any, false, false, 0⟩,
  ⟨0x07, 0x07, .bool, .ro, 0, 9, .any, false, false, 0⟩,
  ⟨0x08, 0x08, .u32, .ro, 1, 9, .any, false, false, 0⟩,
  ⟨0x09, 0x09, .u8, .rw, 0, 1, .codes [0, 1], true, false, 0⟩]⟩

/-- The object at 0x1210 (03_object_dictionary.md, R99). -/
def obj1210 : OdObject := ⟨0x1210, .one, 0, false, [
  ⟨0x01, 0x01, .u32, .const, 1, 9, .any, false, false, 32748⟩,
  ⟨0x02, 0x02, .u32, .ro, 1, 9, .any, false, false, 0⟩,
  ⟨0x03, 0x03, .u32, .ro, 1, 9, .any, false, false, 0⟩,
  ⟨0x04, 0x04, .u8, .ro, 1, 9, .any, false, false, 0⟩,
  ⟨0x05, 0x05, .u8, .ro, 1, 9, .any, false, false, 0⟩,
  ⟨0x07, 0x07, .u8, .ro, 1, 9, .any, false, false, 0⟩]⟩

/-- The object at 0x1300 (03_object_dictionary.md, R100). -/
def obj1300 : OdObject := ⟨0x1300, .one, 0, false, [
  ⟨0x01, 0x01, .bool, .rw, 0, 3, .codes [0, 1], false, true, 1⟩,
  ⟨0x02, 0x02, .u8, .rw, 0, 3, .range 0 127, false, true, 0⟩,
  ⟨0x03, 0x03, .bool, .rw, 0, 3, .codes [0, 1], false, true, 0⟩,
  ⟨0x04, 0x04, .u8, .rw, 0, 3, .any, false, true, 255⟩,
  ⟨0x05, 0x05, .u8, .rw, 0, 3, .any, false, true, 248⟩,
  ⟨0x06, 0x06, .i8, .rw, 0, 3, .srange (-5) 0, false, true, 253⟩]⟩

/-- The object at 0x1301 (03_object_dictionary.md, R100). -/
def obj1301 : OdObject := ⟨0x1301, .one, 0, false, [
  ⟨0x01, 0x01, .u64, .ro, 0, 9, .any, false, false, 0⟩,
  ⟨0x02, 0x02, .bool, .ro, 0, 9, .any, false, false, 0⟩,
  ⟨0x03, 0x03, .i64, .ro, 1, 9, .any, false, false, 0⟩,
  ⟨0x04, 0x04, .oct 8, .ro, 0, 9, .any, false, false, 0⟩]⟩

/-- The object at 0x1310 (03_object_dictionary.md, R100). -/
def obj1310 : OdObject := ⟨0x1310, .one, 0, false, [
  ⟨0x01, 0x01, .u32, .rw, 0, 2, .any, true, false, 0⟩,
  ⟨0x02, 0x02, .bool, .ro, 0, 9, .any, false, false, 0⟩]⟩

/-- The object at 0x1320 (03_object_dictionary.md, R100). -/
def obj1320 : OdObject := ⟨0x1320, .one, 0, false, [
  ⟨0x01, 0x01, .bool, .rw, 0, 3, .codes [0, 1], false, true, 1⟩,
  ⟨0x02, 0x02, .bool, .rw, 0, 3, .codes [0, 1], false, true, 1⟩]⟩

/-- The objects of this range. -/
def odGeneral : List OdObject := [
  obj1000, obj1001, obj1008, obj1010, obj1020, obj1100, obj1110, obj1120, obj1121, obj1122, obj1123, obj1130, obj1200, obj1210, obj1300, obj1301, obj1310, obj1320]

end Sys2Proof.Machine
end

