-- ==== Sys2Proof/Machine/OdTablesPorts.lean ====
section
/-! DEFINITION. Object dictionary 0x2000 to 0x22FF: ports (04, 05), as the OD tables of the chapters list it. -/

namespace Sys2Proof.Machine
open Sys2Proof

/-- Rows of the object at 0x2000. -/
def obj2000CanRows0 : List OdEntry := [
  ⟨0x01, 0x01, .bool, .rw, 0, 2, .codes [0, 1], false, true, 0⟩,
  ⟨0x02, 0x02, .u8, .rw, 0, 3, .any, false, true, 0⟩,
  ⟨0x03, 0x03, .u8, .rw, 0, 3, .codes [0, 1, 2, 3], false, true, 1⟩,
  ⟨0x04, 0x04, .u8, .rw, 0, 3, .codes [0, 1, 2], false, true, 0⟩,
  ⟨0x05, 0x05, .u8, .rw, 0, 3, .range 1 32, false, true, 2⟩,
  ⟨0x06, 0x06, .u16, .rw, 0, 3, .range 2 256, false, true, 127⟩,
  ⟨0x07, 0x07, .u8, .rw, 0, 3, .range 1 128, false, true, 32⟩,
  ⟨0x08, 0x08, .u8, .rw, 0, 3, .range 1 128, false, true, 32⟩,
  ⟨0x09, 0x09, .u8, .rw, 0, 3, .range 1 32, false, true, 2⟩,
  ⟨0x0A, 0x0A, .u8, .rw, 0, 3, .range 1 64, false, true, 29⟩,
  ⟨0x0B, 0x0B, .u8, .rw, 0, 3, .range 1 32, false, true, 10⟩,
  ⟨0x0C, 0x0C, .u8, .rw, 0, 3, .range 1 32, false, true, 10⟩,
  ⟨0x0D, 0x0D, .u8, .rw, 0, 3, .range 1 32, false, true, 2⟩,
  ⟨0x0E, 0x0E, .u8, .rw, 0, 3, .range 1 64, false, true, 5⟩,
  ⟨0x0F, 0x0F, .u8, .rw, 0, 3, .range 1 32, false, true, 2⟩,
  ⟨0x10, 0x10, .u8, .rw, 0, 3, .range 1 32, false, true, 2⟩,
  ⟨0x11, 0x11, .u8, .rw, 0, 3, .codes [0, 1, 2], false, true, 1⟩,
  ⟨0x12, 0x12, .u8, .rw, 0, 3, .range 0 127, false, true, 60⟩,
  ⟨0x13, 0x13, .u8, .rw, 0, 3, .range 0 127, false, true, 0⟩,
  ⟨0x14, 0x14, .bool, .rw, 0, 3, .codes [0, 1], false, true, 0⟩,
  ⟨0x15, 0x15, .u8, .rw, 0, 3, .range 1 63, false, true, 4⟩,
  ⟨0x16, 0x16, .u8, .rw, 0, 3, .range 1 63, false, true, 12⟩,
  ⟨0x17, 0x17, .u8, .rw, 0, 3, .range 0 63, false, true, 0⟩,
  ⟨0x18, 0x18, .bool, .rw, 0, 3, .codes [0, 1], false, true, 1⟩,
  ⟨0x19, 0x19, .u16, .rw, 0, 3, .range 0 10000, false, true, 10⟩]

/-- Rows of the object at 0x2000. -/
def obj2000CanRows1 : List OdEntry := [
  ⟨0x1A, 0x1A, .u16, .rw, 0, 3, .range 0 10000, false, true, 100⟩,
  ⟨0x1B, 0x1B, .u8, .wo, 0, 2, .any, false, false, 0⟩,
  ⟨0x1C, 0x1C, .u8, .rw, 0, 3, .range 0 127, false, true, 12⟩,
  ⟨0x1D, 0x1D, .u8, .rw, 0, 3, .range 0 127, false, true, 0⟩]

/-- The object at 0x2000 (04_can_lin_ports.md, R135). -/
def obj2000Can : OdObject := ⟨0x2000, .canSlot, 0, false, obj2000CanRows0 ++ obj2000CanRows1⟩

/-- The object at 0x2000 (04_can_lin_ports.md, R136). -/
def obj2000Lin : OdObject := ⟨0x2000, .linSlot, 0, false, [
  ⟨0x01, 0x01, .bool, .rw, 0, 2, .codes [0, 1], false, true, 0⟩,
  ⟨0x02, 0x02, .u8, .rw, 0, 3, .any, false, true, 0⟩,
  ⟨0x03, 0x03, .u8, .rw, 0, 3, .codes [0, 1], false, true, 0⟩,
  ⟨0x04, 0x04, .u16, .rw, 0, 3, .range 1000 20000, false, true, 19200⟩,
  ⟨0x05, 0x05, .u8, .rw, 0, 3, .range 13 26, false, true, 13⟩,
  ⟨0x06, 0x06, .u16, .rw, 0, 3, .range 0 10000, false, true, 100⟩,
  ⟨0x40, 0x7F, .u32, .rw, 0, 3, .linSlot, false, true, 0⟩,
  ⟨0x80, 0xBF, .u16, .rw, 0, 3, .linId, false, true, 0⟩]⟩

/-- Rows of the object at 0x2100. -/
def obj2100CanRows0 : List OdEntry := [
  ⟨0x01, 0x01, .u8, .ro, 0, 9, .any, false, false, 0⟩,
  ⟨0x02, 0x02, .bool, .ro, 0, 9, .any, false, false, 0⟩,
  ⟨0x03, 0x03, .u8, .ro, 0, 9, .any, false, false, 0⟩,
  ⟨0x04, 0x04, .u16, .ro, 0, 9, .any, false, false, 0⟩,
  ⟨0x05, 0x05, .u8, .ro, 0, 9, .any, false, false, 0⟩,
  ⟨0x06, 0x06, .u8, .ro, 0, 9, .any, false, false, 0⟩,
  ⟨0x08, 0x08, .u32, .ro, 1, 9, .any, false, false, 0⟩,
  ⟨0x0F, 0x0F, .u8, .wo, 9, 2, .any, false, false, 0⟩,
  ⟨0x10, 0x10, .u64, .ro, 1, 9, .any, false, false, 0⟩,
  ⟨0x11, 0x11, .u64, .ro, 1, 9, .any, false, false, 0⟩,
  ⟨0x12, 0x12, .u32, .ro, 1, 9, .any, false, false, 0⟩,
  ⟨0x13, 0x13, .u32, .ro, 1, 9, .any, false, false, 0⟩,
  ⟨0x14, 0x14, .u32, .ro, 1, 9, .any, false, false, 0⟩,
  ⟨0x15, 0x15, .u32, .ro, 1, 9, .any, false, false, 0⟩,
  ⟨0x16, 0x16, .u32, .ro, 1, 9, .any, false, false, 0⟩,
  ⟨0x17, 0x17, .u32, .ro, 1, 9, .any, false, false, 0⟩,
  ⟨0x18, 0x18, .u32, .ro, 1, 9, .any, false, false, 0⟩,
  ⟨0x19, 0x19, .u32, .ro, 1, 9, .any, false, false, 0⟩,
  ⟨0x1A, 0x1A, .u32, .ro, 1, 9, .any, false, false, 0⟩,
  ⟨0x1B, 0x1B, .u32, .ro, 1, 9, .any, false, false, 0⟩,
  ⟨0x1C, 0x1C, .u32, .ro, 1, 9, .any, false, false, 0⟩,
  ⟨0x1D, 0x1D, .u32, .ro, 1, 9, .any, false, false, 0⟩,
  ⟨0x1E, 0x1E, .u32, .ro, 1, 9, .any, false, false, 0⟩,
  ⟨0x1F, 0x1F, .u32, .ro, 1, 9, .any, false, false, 0⟩,
  ⟨0x20, 0x20, .u32, .ro, 1, 9, .any, false, false, 0⟩]

/-- Rows of the object at 0x2100. -/
def obj2100CanRows1 : List OdEntry := [
  ⟨0x21, 0x21, .u32, .ro, 1, 9, .any, false, false, 0⟩]

/-- The object at 0x2100 (04_can_lin_ports.md, R137). -/
def obj2100Can : OdObject := ⟨0x2100, .canSlot, 0, false, obj2100CanRows0 ++ obj2100CanRows1⟩

/-- The object at 0x2100 (04_can_lin_ports.md, R137). -/
def obj2100Lin : OdObject := ⟨0x2100, .linSlot, 0, false, [
  ⟨0x01, 0x01, .u8, .ro, 0, 9, .any, false, false, 0⟩,
  ⟨0x02, 0x02, .bool, .ro, 0, 9, .any, false, false, 0⟩,
  ⟨0x03, 0x03, .u8, .ro, 0, 9, .any, false, false, 0⟩,
  ⟨0x08, 0x08, .u32, .ro, 1, 9, .any, false, false, 0⟩,
  ⟨0x0F, 0x0F, .u8, .wo, 9, 2, .any, false, false, 0⟩,
  ⟨0x10, 0x10, .u64, .ro, 1, 9, .any, false, false, 0⟩,
  ⟨0x11, 0x11, .u64, .ro, 1, 9, .any, false, false, 0⟩,
  ⟨0x12, 0x12, .u32, .ro, 1, 9, .any, false, false, 0⟩,
  ⟨0x13, 0x13, .u32, .ro, 1, 9, .any, false, false, 0⟩,
  ⟨0x14, 0x14, .u32, .ro, 1, 9, .any, false, false, 0⟩,
  ⟨0x15, 0x15, .u32, .ro, 1, 9, .any, false, false, 0⟩,
  ⟨0x16, 0x16, .u32, .ro, 1, 9, .any, false, false, 0⟩,
  ⟨0x17, 0x17, .u32, .ro, 1, 9, .any, false, false, 0⟩,
  ⟨0x18, 0x18, .u32, .ro, 1, 9, .any, false, false, 0⟩,
  ⟨0x19, 0x19, .u32, .ro, 1, 9, .any, false, false, 0⟩,
  ⟨0x1A, 0x1A, .u32, .ro, 1, 9, .any, false, false, 0⟩,
  ⟨0x1B, 0x1B, .u32, .ro, 1, 9, .any, false, false, 0⟩,
  ⟨0x1C, 0x1C, .u32, .ro, 1, 9, .any, false, false, 0⟩]⟩

/-- Rows of the object at 0x2200. -/
def obj2200CanRows0 : List OdEntry := [
  ⟨0x01, 0x01, .u8, .rw, 1, 3, .codes [0, 1, 2], false, true, 1⟩,
  ⟨0x02, 0x02, .u8, .rw, 1, 3, .codes [0, 1], false, true, 0⟩,
  ⟨0x03, 0x03, .u16, .rw, 1, 3, .range 100 60000, false, true, 1000⟩,
  ⟨0x04, 0x04, .bool, .ro, 1, 9, .any, false, false, 0⟩,
  ⟨0x05, 0x05, .u8, .wo, 9, 2, .any, false, false, 0⟩,
  ⟨0x10, 0x10, .bool, .rw, 1, 3, .codes [0, 1], false, true, 0⟩,
  ⟨0x20, 0x20, .bool, .rw, 1, 3, .codes [0, 1], false, true, 0⟩,
  ⟨0x30, 0x30, .bool, .rw, 1, 3, .codes [0, 1], false, true, 0⟩,
  ⟨0x40, 0x40, .bool, .rw, 1, 3, .codes [0, 1], false, true, 0⟩,
  ⟨0x11, 0x11, .u8, .rw, 1, 3, .any, false, true, 0⟩,
  ⟨0x21, 0x21, .u8, .rw, 1, 3, .any, false, true, 0⟩,
  ⟨0x31, 0x31, .u8, .rw, 1, 3, .any, false, true, 0⟩,
  ⟨0x41, 0x41, .u8, .rw, 1, 3, .any, false, true, 0⟩,
  ⟨0x12, 0x12, .u32, .rw, 1, 3, .any, false, true, 0⟩,
  ⟨0x22, 0x22, .u32, .rw, 1, 3, .any, false, true, 0⟩,
  ⟨0x32, 0x32, .u32, .rw, 1, 3, .any, false, true, 0⟩,
  ⟨0x42, 0x42, .u32, .rw, 1, 3, .any, false, true, 0⟩,
  ⟨0x13, 0x13, .u8, .rw, 1, 3, .range 0 32, false, true, 0⟩,
  ⟨0x23, 0x23, .u8, .rw, 1, 3, .range 0 32, false, true, 0⟩,
  ⟨0x33, 0x33, .u8, .rw, 1, 3, .range 0 32, false, true, 0⟩,
  ⟨0x43, 0x43, .u8, .rw, 1, 3, .range 0 32, false, true, 0⟩,
  ⟨0x14, 0x14, .u8, .rw, 1, 3, .codes [0, 1], false, true, 0⟩,
  ⟨0x24, 0x24, .u8, .rw, 1, 3, .codes [0, 1], false, true, 0⟩,
  ⟨0x34, 0x34, .u8, .rw, 1, 3, .codes [0, 1], false, true, 0⟩,
  ⟨0x44, 0x44, .u8, .rw, 1, 3, .codes [0, 1], false, true, 0⟩]

/-- Rows of the object at 0x2200. -/
def obj2200CanRows1 : List OdEntry := [
  ⟨0x15, 0x15, .u8, .rw, 1, 3, .mul8 24 64, false, true, 32⟩,
  ⟨0x25, 0x25, .u8, .rw, 1, 3, .mul8 24 64, false, true, 32⟩,
  ⟨0x35, 0x35, .u8, .rw, 1, 3, .mul8 24 64, false, true, 32⟩,
  ⟨0x45, 0x45, .u8, .rw, 1, 3, .mul8 24 64, false, true, 32⟩,
  ⟨0x16, 0x16, .u8, .rw, 1, 3, .mul8 8 64, false, true, 8⟩,
  ⟨0x26, 0x26, .u8, .rw, 1, 3, .mul8 8 64, false, true, 8⟩,
  ⟨0x36, 0x36, .u8, .rw, 1, 3, .mul8 8 64, false, true, 8⟩,
  ⟨0x46, 0x46, .u8, .rw, 1, 3, .mul8 8 64, false, true, 8⟩,
  ⟨0x17, 0x17, .u32, .rw, 1, 3, .range 1 2147483648, false, true, 2048⟩,
  ⟨0x27, 0x27, .u32, .rw, 1, 3, .range 1 2147483648, false, true, 2048⟩,
  ⟨0x37, 0x37, .u32, .rw, 1, 3, .range 1 2147483648, false, true, 2048⟩,
  ⟨0x47, 0x47, .u32, .rw, 1, 3, .range 1 2147483648, false, true, 2048⟩,
  ⟨0x18, 0x18, .u8, .rw, 1, 3, .codes [0, 1], false, true, 0⟩,
  ⟨0x28, 0x28, .u8, .rw, 1, 3, .codes [0, 1], false, true, 0⟩,
  ⟨0x38, 0x38, .u8, .rw, 1, 3, .codes [0, 1], false, true, 0⟩,
  ⟨0x48, 0x48, .u8, .rw, 1, 3, .codes [0, 1], false, true, 0⟩,
  ⟨0x19, 0x19, .u8, .rw, 1, 3, .codes [0, 1], false, true, 0⟩,
  ⟨0x29, 0x29, .u8, .rw, 1, 3, .codes [0, 1], false, true, 0⟩,
  ⟨0x39, 0x39, .u8, .rw, 1, 3, .codes [0, 1], false, true, 0⟩,
  ⟨0x49, 0x49, .u8, .rw, 1, 3, .codes [0, 1], false, true, 0⟩,
  ⟨0x1A, 0x1A, .u64, .ro, 1, 9, .any, false, false, 0⟩,
  ⟨0x2A, 0x2A, .u64, .ro, 1, 9, .any, false, false, 0⟩,
  ⟨0x3A, 0x3A, .u64, .ro, 1, 9, .any, false, false, 0⟩,
  ⟨0x4A, 0x4A, .u64, .ro, 1, 9, .any, false, false, 0⟩,
  ⟨0x60, 0x60, .bool, .rw, 1, 3, .codes [0, 1], false, true, 0⟩]

/-- Rows of the object at 0x2200. -/
def obj2200CanRows2 : List OdEntry := [
  ⟨0x61, 0x61, .u32, .rw, 1, 3, .range 1 2147483648, false, true, 2048⟩,
  ⟨0x70, 0x7F, .u32, .rw, 1, 3, .mask 0x3F00FF00, false, true, 0⟩]

/-- The object at 0x2200 (04_can_lin_ports.md, R138). -/
def obj2200Can : OdObject := ⟨0x2200, .canSlot, 0, false, obj2200CanRows0 ++ obj2200CanRows1 ++ obj2200CanRows2⟩

/-- Rows of the object at 0x2000. -/
def obj2000EthRows0 : List OdEntry := [
  ⟨0x01, 0x01, .bool, .rw, 0, 2, .codes [0, 1], false, true, 0⟩,
  ⟨0x02, 0x02, .u8, .rw, 0, 3, .any, false, true, 0⟩,
  ⟨0x03, 0x03, .u8, .rw, 0, 3, .codes [0, 1, 2], false, true, 0⟩,
  ⟨0x04, 0x04, .bool, .rw, 0, 3, .codes [0, 1], false, true, 1⟩,
  ⟨0x05, 0x05, .u16, .rw, 0, 3, .range 1518 9216, false, true, 1522⟩,
  ⟨0x06, 0x06, .oct 6, .rw, 0, 3, .any, false, true, 0⟩,
  ⟨0x07, 0x07, .u8, .rw, 0, 3, .codes [0, 1], false, true, 0⟩,
  ⟨0x08, 0x08, .oct 64, .rw, 0, 3, .any, false, true, 0⟩,
  ⟨0x09, 0x09, .bool, .rw, 0, 3, .codes [0, 1], false, true, 0⟩,
  ⟨0x0A, 0x0A, .u16, .rw, 0, 3, .range 1 4094, false, true, 1⟩,
  ⟨0x0B, 0x0B, .u8, .rw, 0, 3, .range 0 7, false, true, 0⟩,
  ⟨0x0C, 0x0C, .bool, .rw, 0, 3, .codes [0, 1], false, true, 0⟩,
  ⟨0x0D, 0x0D, .u32, .rw, 0, 3, .mask 0x88888888, false, true, 1985229328⟩,
  ⟨0x0E, 0x0E, .u32, .rw, 0, 3, .mask 0x88888888, false, true, 1985229328⟩,
  ⟨0x0F, 0x0F, .u8, .rw, 0, 3, .codes [0, 1, 2, 3], false, true, 0⟩,
  ⟨0x10, 0x10, .u8, .rw, 0, 3, .codes [0, 1], false, true, 0⟩,
  ⟨0x11, 0x11, .u8, .rw, 0, 3, .codes [0, 1, 2], false, true, 0⟩,
  ⟨0x12, 0x12, .u8, .rw, 0, 3, .codes [0, 1, 2], false, true, 0⟩,
  ⟨0x13, 0x13, .u16, .rw, 0, 3, .range 1 65535, false, true, 65535⟩,
  ⟨0x14, 0x14, .u16, .rw, 0, 3, .range 1 10000, false, true, 100⟩,
  ⟨0x15, 0x15, .u16, .rw, 0, 3, .range 10 60000, false, true, 1000⟩,
  ⟨0x16, 0x16, .u16, .rw, 0, 3, .range 0 10000, false, true, 100⟩,
  ⟨0x17, 0x17, .u16, .rw, 0, 3, .range 0 1000, false, true, 10⟩,
  ⟨0x18, 0x18, .u16, .rw, 0, 3, .range 0 1000, false, true, 0⟩,
  ⟨0x19, 0x19, .u8, .rw, 0, 3, .codes [0, 1, 2], false, true, 2⟩]

/-- Rows of the object at 0x2000. -/
def obj2000EthRows1 : List OdEntry := [
  ⟨0x1A, 0x1A, .bool, .rw, 0, 3, .codes [0, 1], false, true, 0⟩,
  ⟨0x1B, 0x1B, .bool, .rw, 0, 3, .codes [0, 1], false, true, 0⟩,
  ⟨0x20, 0x2F, .u32, .rw, 0, 3, .mask 0x7000FF00, false, true, 0⟩,
  ⟨0x30, 0x30, .bool, .rw, 0, 3, .codes [0, 1], false, true, 1⟩,
  ⟨0x31, 0x31, .i8, .rw, 0, 3, .srange (-3) 3, false, true, 0⟩,
  ⟨0x32, 0x32, .u32, .rw, 0, 3, .any, false, true, 800⟩,
  ⟨0x33, 0x33, .u16, .rw, 0, 3, .range 0 2000, false, true, 0⟩,
  ⟨0x34, 0x34, .u16, .rw, 0, 3, .range 0 2000, false, true, 0⟩,
  ⟨0x40, 0x40, .bool, .rw, 0, 3, .codes [0, 1], false, true, 0⟩,
  ⟨0x41, 0x41, .u8, .rw, 0, 3, .mask 0xF0, false, true, 0⟩,
  ⟨0x42, 0x42, .bool, .rw, 0, 3, .codes [0, 1], false, true, 0⟩,
  ⟨0x48, 0x48, .u8, .rw, 0, 3, .range 0 96, false, true, 0⟩,
  ⟨0x4C, 0x4C, .u8, .rw, 0, 3, .range 0 96, false, true, 0⟩,
  ⟨0x50, 0x50, .u8, .rw, 0, 3, .range 0 96, false, true, 0⟩,
  ⟨0x54, 0x54, .u8, .rw, 0, 3, .range 0 96, false, true, 0⟩,
  ⟨0x49, 0x49, .oct 32, .rw, 0, 3, .any, false, true, 0⟩,
  ⟨0x4D, 0x4D, .oct 32, .rw, 0, 3, .any, false, true, 0⟩,
  ⟨0x51, 0x51, .oct 32, .rw, 0, 3, .any, false, true, 0⟩,
  ⟨0x55, 0x55, .oct 32, .rw, 0, 3, .any, false, true, 0⟩,
  ⟨0x4A, 0x4A, .oct 32, .rw, 0, 3, .any, false, true, 0⟩,
  ⟨0x4E, 0x4E, .oct 32, .rw, 0, 3, .any, false, true, 0⟩,
  ⟨0x52, 0x52, .oct 32, .rw, 0, 3, .any, false, true, 0⟩,
  ⟨0x56, 0x56, .oct 32, .rw, 0, 3, .any, false, true, 0⟩,
  ⟨0x60, 0x60, .u8, .rw, 1, 3, .range 0 31, true, false, 0⟩,
  ⟨0x61, 0x61, .u8, .rw, 1, 3, .range 0 31, true, false, 0⟩]

/-- Rows of the object at 0x2000. -/
def obj2000EthRows2 : List OdEntry := [
  ⟨0x62, 0x62, .u16, .rw, 1, 3, .any, true, false, 0⟩,
  ⟨0x63, 0x63, .u16, .rw, 1, 3, .any, true, false, 0⟩,
  ⟨0x64, 0x64, .u8, .wo, 9, 3, .codes [1, 2, 3, 4], false, false, 0⟩,
  ⟨0x66, 0x66, .u8, .rw, 0, 3, .range 8 255, false, true, 8⟩]

/-- The object at 0x2000 (05_ethernet_ports.md, R175). -/
def obj2000Eth : OdObject := ⟨0x2000, .ethSlot, 0, false, obj2000EthRows0 ++ obj2000EthRows1 ++ obj2000EthRows2⟩

/-- Rows of the object at 0x2100. -/
def obj2100EthRows0 : List OdEntry := [
  ⟨0x01, 0x01, .u8, .ro, 0, 9, .any, false, false, 0⟩,
  ⟨0x02, 0x02, .bool, .ro, 0, 9, .any, false, false, 0⟩,
  ⟨0x03, 0x03, .u8, .ro, 0, 9, .any, false, false, 0⟩,
  ⟨0x04, 0x04, .u8, .ro, 0, 9, .any, false, false, 0⟩,
  ⟨0x05, 0x05, .u8, .ro, 0, 9, .any, false, false, 0⟩,
  ⟨0x06, 0x06, .u8, .ro, 0, 9, .any, false, false, 0⟩,
  ⟨0x08, 0x08, .u32, .ro, 1, 9, .any, false, false, 0⟩,
  ⟨0x09, 0x09, .bool, .ro, 0, 9, .any, false, false, 0⟩,
  ⟨0x0A, 0x0A, .u32, .ro, 0, 9, .any, false, false, 0⟩,
  ⟨0x0F, 0x0F, .u8, .wo, 9, 2, .any, false, false, 0⟩,
  ⟨0x10, 0x10, .u64, .ro, 1, 9, .any, false, false, 0⟩,
  ⟨0x11, 0x11, .u64, .ro, 1, 9, .any, false, false, 0⟩,
  ⟨0x12, 0x12, .u64, .ro, 1, 9, .any, false, false, 0⟩,
  ⟨0x13, 0x13, .u64, .ro, 1, 9, .any, false, false, 0⟩,
  ⟨0x14, 0x14, .u32, .ro, 1, 9, .any, false, false, 0⟩,
  ⟨0x15, 0x15, .u32, .ro, 1, 9, .any, false, false, 0⟩,
  ⟨0x16, 0x16, .u32, .ro, 1, 9, .any, false, false, 0⟩,
  ⟨0x17, 0x17, .u32, .ro, 1, 9, .any, false, false, 0⟩,
  ⟨0x18, 0x18, .u32, .ro, 1, 9, .any, false, false, 0⟩,
  ⟨0x19, 0x19, .u32, .ro, 1, 9, .any, false, false, 0⟩,
  ⟨0x1A, 0x1A, .u32, .ro, 1, 9, .any, false, false, 0⟩,
  ⟨0x1B, 0x1B, .u32, .ro, 1, 9, .any, false, false, 0⟩,
  ⟨0x1C, 0x1C, .u32, .ro, 1, 9, .any, false, false, 0⟩,
  ⟨0x1D, 0x1D, .u32, .ro, 1, 9, .any, false, false, 0⟩,
  ⟨0x1E, 0x1E, .u32, .ro, 1, 9, .any, false, false, 0⟩]

/-- Rows of the object at 0x2100. -/
def obj2100EthRows1 : List OdEntry := [
  ⟨0x1F, 0x1F, .u32, .ro, 1, 9, .any, false, false, 0⟩,
  ⟨0x20, 0x20, .u32, .ro, 1, 9, .any, false, false, 0⟩,
  ⟨0x21, 0x21, .u32, .ro, 1, 9, .any, false, false, 0⟩,
  ⟨0x22, 0x22, .u32, .ro, 1, 9, .any, false, false, 0⟩,
  ⟨0x23, 0x23, .u32, .ro, 1, 9, .any, false, false, 0⟩,
  ⟨0x24, 0x24, .u32, .ro, 1, 9, .any, false, false, 0⟩,
  ⟨0x25, 0x25, .u32, .ro, 1, 9, .any, false, false, 0⟩,
  ⟨0x26, 0x26, .u32, .ro, 1, 9, .any, false, false, 0⟩,
  ⟨0x27, 0x27, .u32, .ro, 1, 9, .any, false, false, 0⟩,
  ⟨0x28, 0x28, .u32, .ro, 1, 9, .any, false, false, 0⟩,
  ⟨0x29, 0x29, .u32, .ro, 1, 9, .any, false, false, 0⟩,
  ⟨0x2A, 0x2A, .u32, .ro, 1, 9, .any, false, false, 0⟩,
  ⟨0x2B, 0x2B, .u32, .ro, 1, 9, .any, false, false, 0⟩]

/-- The object at 0x2100 (05_ethernet_ports.md, R176). -/
def obj2100Eth : OdObject := ⟨0x2100, .ethSlot, 0, false, obj2100EthRows0 ++ obj2100EthRows1⟩

/-- Rows of the object at 0x2200. -/
def obj2200EthRows0 : List OdEntry := [
  ⟨0x01, 0x01, .bool, .rw, 1, 3, .codes [0, 1], false, true, 0⟩,
  ⟨0x02, 0x02, .u8, .rw, 1, 3, .codes [0, 1, 2, 3], false, true, 2⟩,
  ⟨0x03, 0x03, .u8, .rw, 1, 3, .codes [0, 1, 2], false, true, 2⟩,
  ⟨0x04, 0x04, .bool, .rw, 1, 3, .codes [0, 1], false, true, 1⟩,
  ⟨0x05, 0x05, .u32, .rw, 1, 3, .range 0 2147483648, false, true, 64⟩,
  ⟨0x06, 0x06, .u8, .rw, 1, 3, .codes [0, 1, 2, 3], false, true, 1⟩,
  ⟨0x07, 0x07, .bool, .rw, 1, 3, .codes [0, 1], false, true, 1⟩,
  ⟨0x08, 0x08, .bool, .rw, 1, 3, .codes [0, 1], false, true, 1⟩,
  ⟨0x09, 0x09, .u8, .rw, 1, 3, .range 0 3, false, true, 0⟩,
  ⟨0x0A, 0x0A, .u32, .rw, 1, 3, .any, false, true, 1⟩,
  ⟨0x0B, 0x0B, .oct 12, .rw, 1, 3, .any, false, true, 0⟩,
  ⟨0x0C, 0x0C, .u16, .rw, 1, 3, .range 100 60000, false, true, 1000⟩,
  ⟨0x10, 0x13, .u32, .rw, 1, 3, .mask 0x7FFFFF00, false, true, 0⟩,
  ⟨0x18, 0x1B, .u64, .ro, 1, 9, .any, false, false, 0⟩,
  ⟨0x20, 0x20, .bool, .rw, 1, 3, .codes [0, 1], false, true, 0⟩,
  ⟨0x30, 0x30, .bool, .rw, 1, 3, .codes [0, 1], false, true, 0⟩,
  ⟨0x40, 0x40, .bool, .rw, 1, 3, .codes [0, 1], false, true, 0⟩,
  ⟨0x50, 0x50, .bool, .rw, 1, 3, .codes [0, 1], false, true, 0⟩,
  ⟨0x60, 0x60, .bool, .rw, 1, 3, .codes [0, 1], false, true, 0⟩,
  ⟨0x70, 0x70, .bool, .rw, 1, 3, .codes [0, 1], false, true, 0⟩,
  ⟨0x80, 0x80, .bool, .rw, 1, 3, .codes [0, 1], false, true, 0⟩,
  ⟨0x90, 0x90, .bool, .rw, 1, 3, .codes [0, 1], false, true, 0⟩,
  ⟨0x21, 0x21, .oct 8, .rw, 1, 3, .any, false, true, 0⟩,
  ⟨0x31, 0x31, .oct 8, .rw, 1, 3, .any, false, true, 0⟩,
  ⟨0x41, 0x41, .oct 8, .rw, 1, 3, .any, false, true, 0⟩]

/-- Rows of the object at 0x2200. -/
def obj2200EthRows1 : List OdEntry := [
  ⟨0x51, 0x51, .oct 8, .rw, 1, 3, .any, false, true, 0⟩,
  ⟨0x61, 0x61, .oct 8, .rw, 1, 3, .any, false, true, 0⟩,
  ⟨0x71, 0x71, .oct 8, .rw, 1, 3, .any, false, true, 0⟩,
  ⟨0x81, 0x81, .oct 8, .rw, 1, 3, .any, false, true, 0⟩,
  ⟨0x91, 0x91, .oct 8, .rw, 1, 3, .any, false, true, 0⟩,
  ⟨0x22, 0x22, .u32, .rw, 1, 3, .any, false, true, 0⟩,
  ⟨0x32, 0x32, .u32, .rw, 1, 3, .any, false, true, 0⟩,
  ⟨0x42, 0x42, .u32, .rw, 1, 3, .any, false, true, 0⟩,
  ⟨0x52, 0x52, .u32, .rw, 1, 3, .any, false, true, 0⟩,
  ⟨0x62, 0x62, .u32, .rw, 1, 3, .any, false, true, 0⟩,
  ⟨0x72, 0x72, .u32, .rw, 1, 3, .any, false, true, 0⟩,
  ⟨0x82, 0x82, .u32, .rw, 1, 3, .any, false, true, 0⟩,
  ⟨0x92, 0x92, .u32, .rw, 1, 3, .any, false, true, 0⟩,
  ⟨0x23, 0x23, .oct 12, .rw, 1, 3, .any, false, true, 0⟩,
  ⟨0x33, 0x33, .oct 12, .rw, 1, 3, .any, false, true, 0⟩,
  ⟨0x43, 0x43, .oct 12, .rw, 1, 3, .any, false, true, 0⟩,
  ⟨0x53, 0x53, .oct 12, .rw, 1, 3, .any, false, true, 0⟩,
  ⟨0x63, 0x63, .oct 12, .rw, 1, 3, .any, false, true, 0⟩,
  ⟨0x73, 0x73, .oct 12, .rw, 1, 3, .any, false, true, 0⟩,
  ⟨0x83, 0x83, .oct 12, .rw, 1, 3, .any, false, true, 0⟩,
  ⟨0x93, 0x93, .oct 12, .rw, 1, 3, .any, false, true, 0⟩,
  ⟨0x24, 0x27, .u32, .rw, 1, 3, .mask 0x7FFFFF00, false, true, 0⟩,
  ⟨0x34, 0x37, .u32, .rw, 1, 3, .mask 0x7FFFFF00, false, true, 0⟩,
  ⟨0x44, 0x47, .u32, .rw, 1, 3, .mask 0x7FFFFF00, false, true, 0⟩,
  ⟨0x54, 0x57, .u32, .rw, 1, 3, .mask 0x7FFFFF00, false, true, 0⟩]

/-- Rows of the object at 0x2200. -/
def obj2200EthRows2 : List OdEntry := [
  ⟨0x64, 0x67, .u32, .rw, 1, 3, .mask 0x7FFFFF00, false, true, 0⟩,
  ⟨0x74, 0x77, .u32, .rw, 1, 3, .mask 0x7FFFFF00, false, true, 0⟩,
  ⟨0x84, 0x87, .u32, .rw, 1, 3, .mask 0x7FFFFF00, false, true, 0⟩,
  ⟨0x94, 0x97, .u32, .rw, 1, 3, .mask 0x7FFFFF00, false, true, 0⟩,
  ⟨0x28, 0x2B, .u64, .ro, 1, 9, .any, false, false, 0⟩,
  ⟨0x38, 0x3B, .u64, .ro, 1, 9, .any, false, false, 0⟩,
  ⟨0x48, 0x4B, .u64, .ro, 1, 9, .any, false, false, 0⟩,
  ⟨0x58, 0x5B, .u64, .ro, 1, 9, .any, false, false, 0⟩,
  ⟨0x68, 0x6B, .u64, .ro, 1, 9, .any, false, false, 0⟩,
  ⟨0x78, 0x7B, .u64, .ro, 1, 9, .any, false, false, 0⟩,
  ⟨0x88, 0x8B, .u64, .ro, 1, 9, .any, false, false, 0⟩,
  ⟨0x98, 0x9B, .u64, .ro, 1, 9, .any, false, false, 0⟩]

/-- The object at 0x2200 (05_ethernet_ports.md, R177). -/
def obj2200Eth : OdObject := ⟨0x2200, .ethSlot, 0, false, obj2200EthRows0 ++ obj2200EthRows1 ++ obj2200EthRows2⟩

/-- The objects of this range. -/
def odPorts : List OdObject := [
  obj2000Can, obj2000Lin, obj2100Can, obj2100Lin, obj2200Can, obj2000Eth, obj2100Eth, obj2200Eth]

end Sys2Proof.Machine
end

