-- ==== Sys2Proof/Machine/OdTablesSwitch.lean ====
section
/-! DEFINITION. Object dictionary 0x2400 to 0x27FF: forwarding, switch core, tunnels, placement and health (06 to 09), as the OD tables of the chapters list it. -/

namespace Sys2Proof.Machine
open Sys2Proof

/-- The object at 0x2400 (06_route_keys_lookup_learning.md, R211). -/
def obj2400 : OdObject := ⟨0x2400, .one, 16384, false, [
  ⟨0x01, 0x01, .bool, .rw, 1, 3, .codes [0, 1], false, true, 0⟩,
  ⟨0x02, 0x02, .u8, .rw, 1, 3, .any, false, true, 0⟩,
  ⟨0x03, 0x03, .u8, .rw, 1, 3, .range 0 5, false, true, 0⟩,
  ⟨0x04, 0x04, .u32, .rw, 1, 3, .any, false, true, 0⟩,
  ⟨0x05, 0x05, .u8, .rw, 1, 3, .range 0 32, false, true, 0⟩,
  ⟨0x06, 0x06, .u16, .rw, 1, 3, .dest, false, true, 65535⟩,
  ⟨0x07, 0x07, .u16, .rw, 1, 3, .dest, false, true, 65534⟩,
  ⟨0x08, 0x08, .u8, .rw, 1, 3, .rangeOr 0 7 255, false, true, 255⟩,
  ⟨0x09, 0x09, .u16, .rw, 1, 3, .any, false, true, 65535⟩,
  ⟨0x0A, 0x0A, .oct 6, .rw, 1, 3, .any, false, true, 0⟩,
  ⟨0x0B, 0x0B, .u16, .rw, 1, 3, .range 0 4094, false, true, 0⟩]⟩

/-- The object at 0x2401 (06_route_keys_lookup_learning.md, R211). -/
def obj2401 : OdObject := ⟨0x2401, .one, 1024, false, [
  ⟨0x01, 0x01, .bool, .rw, 1, 3, .codes [0, 1], false, true, 0⟩,
  ⟨0x02, 0x02, .u8, .rw, 1, 3, .any, false, true, 0⟩,
  ⟨0x03, 0x03, .oct 16, .rw, 1, 3, .any, false, true, 0⟩,
  ⟨0x04, 0x04, .u8, .rw, 1, 3, .range 0 128, false, true, 0⟩,
  ⟨0x05, 0x05, .u16, .rw, 1, 3, .dest, false, true, 65535⟩,
  ⟨0x06, 0x06, .u16, .rw, 1, 3, .dest, false, true, 65534⟩,
  ⟨0x07, 0x07, .u8, .rw, 1, 3, .rangeOr 0 7 255, false, true, 255⟩,
  ⟨0x08, 0x08, .u16, .rw, 1, 3, .any, false, true, 65535⟩,
  ⟨0x09, 0x09, .oct 6, .rw, 1, 3, .any, false, true, 0⟩,
  ⟨0x0A, 0x0A, .u16, .rw, 1, 3, .range 0 4094, false, true, 0⟩]⟩

/-- The object at 0x2402 (06_route_keys_lookup_learning.md, R212). -/
def obj2402 : OdObject := ⟨0x2402, .one, 8192, false, [
  ⟨0x01, 0x01, .bool, .rw, 1, 3, .codes [0, 1], false, true, 0⟩,
  ⟨0x02, 0x02, .u8, .rw, 1, 3, .any, false, true, 0⟩,
  ⟨0x03, 0x03, .u8, .rw, 1, 3, .range 0 2, false, true, 0⟩,
  ⟨0x04, 0x04, .u32, .rw, 1, 3, .any, false, true, 0⟩,
  ⟨0x05, 0x05, .u8, .rw, 1, 3, .range 0 32, false, true, 0⟩,
  ⟨0x06, 0x06, .u16, .rw, 1, 3, .any, false, true, 65535⟩]⟩

/-- The object at 0x2410 (06_route_keys_lookup_learning.md, R212). -/
def obj2410 : OdObject := ⟨0x2410, .one, 1024, false, [
  ⟨0x01, 0x01, .bool, .rw, 1, 3, .codes [0, 1], false, true, 0⟩,
  ⟨0x02, 0x02, .u8, .rw, 1, 3, .any, false, true, 0⟩,
  ⟨0x03, 0x03, .oct 6, .rw, 1, 3, .any, false, true, 0⟩,
  ⟨0x04, 0x04, .u16, .rw, 1, 3, .dest, false, true, 65534⟩,
  ⟨0x05, 0x05, .bool, .rw, 1, 3, .codes [0, 1], false, true, 0⟩]⟩

/-- The object at 0x2411 (06_route_keys_lookup_learning.md, R212). -/
def obj2411 : OdObject := ⟨0x2411, .one, 65536, true, [
  ⟨0x01, 0x01, .bool, .ro, 1, 9, .any, false, false, 0⟩,
  ⟨0x02, 0x02, .u8, .ro, 1, 9, .any, false, false, 0⟩,
  ⟨0x03, 0x03, .oct 6, .ro, 1, 9, .any, false, false, 0⟩,
  ⟨0x04, 0x04, .u16, .ro, 1, 9, .any, false, false, 0⟩,
  ⟨0x05, 0x05, .bool, .ro, 1, 9, .any, false, false, 0⟩,
  ⟨0x06, 0x06, .bool, .ro, 1, 9, .any, false, false, 0⟩,
  ⟨0x07, 0x07, .u8, .ro, 1, 9, .any, false, false, 0⟩,
  ⟨0x08, 0x08, .u8, .ro, 1, 9, .any, false, false, 0⟩,
  ⟨0x09, 0x09, .u32, .ro, 1, 9, .any, false, false, 0⟩,
  ⟨0x0A, 0x0A, .u8, .ro, 1, 9, .any, false, false, 0⟩]⟩

/-- The object at 0x2420 (06_route_keys_lookup_learning.md, R212). -/
def obj2420 : OdObject := ⟨0x2420, .one, 1024, false, [
  ⟨0x01, 0x01, .bool, .rw, 1, 3, .codes [0, 1], false, true, 0⟩,
  ⟨0x02, 0x02, .u8, .rw, 1, 3, .any, false, true, 0⟩,
  ⟨0x03, 0x03, .bool, .rw, 1, 3, .codes [0, 1], false, true, 0⟩,
  ⟨0x04, 0x04, .oct 6, .rw, 1, 3, .any, false, true, 0⟩,
  ⟨0x05, 0x05, .oct 28, .rw, 1, 3, .any, false, true, 0⟩,
  ⟨0x06, 0x06, .u16, .rw, 1, 3, .mask 0xC000, false, true, 0⟩,
  ⟨0x07, 0x0E, .u16, .rw, 1, 3, .any, false, true, 65535⟩,
  ⟨0x0F, 0x0F, .bool, .rw, 1, 3, .codes [0, 1], false, true, 0⟩]⟩

/-- The object at 0x2430 (06_route_keys_lookup_learning.md, R213). -/
def obj2430 : OdObject := ⟨0x2430, .one, 256, false, [
  ⟨0x01, 0x01, .bool, .rw, 1, 3, .codes [0, 1], false, true, 0⟩,
  ⟨0x02, 0x02, .oct 6, .rw, 1, 3, .any, false, true, 0⟩,
  ⟨0x03, 0x03, .u16, .rw, 1, 3, .any, false, true, 65535⟩,
  ⟨0x04, 0x04, .bool, .rw, 1, 3, .codes [0, 1], false, true, 1⟩,
  ⟨0x05, 0x05, .bool, .rw, 1, 3, .codes [0, 1], false, true, 0⟩]⟩

/-- The object at 0x2440 (06_route_keys_lookup_learning.md, R213). -/
def obj2440 : OdObject := ⟨0x2440, .one, 0, false, [
  ⟨0x01, 0x01, .u16, .rw, 1, 3, .range 1 3600, false, true, 300⟩,
  ⟨0x02, 0x02, .u16, .rw, 1, 3, .range 0 1000, false, true, 10⟩,
  ⟨0x03, 0x03, .u16, .wo, 9, 2, .flush, false, false, 0⟩,
  ⟨0x10, 0x16, .u16, .rw, 1, 3, .dest, false, true, 65534⟩]⟩

/-- The object at 0x2450 (06_route_keys_lookup_learning.md, R213). -/
def obj2450PerDie : OdObject := ⟨0x2450, .perDie, 0, false, [
  ⟨0x01, 0x01, .u32, .ro, 1, 9, .any, false, false, 0⟩,
  ⟨0x02, 0x02, .u8, .ro, 1, 9, .any, false, false, 0⟩,
  ⟨0x0F, 0x0F, .u8, .wo, 9, 2, .any, false, false, 0⟩,
  ⟨0x10, 0x10, .u32, .ro, 1, 9, .any, false, false, 0⟩,
  ⟨0x11, 0x11, .u32, .ro, 1, 9, .any, false, false, 0⟩,
  ⟨0x12, 0x12, .u32, .ro, 1, 9, .any, false, false, 0⟩,
  ⟨0x13, 0x13, .u32, .ro, 1, 9, .any, false, false, 0⟩,
  ⟨0x14, 0x14, .u32, .ro, 1, 9, .any, false, false, 0⟩,
  ⟨0x15, 0x15, .u32, .ro, 1, 9, .any, false, false, 0⟩,
  ⟨0x16, 0x16, .u32, .ro, 1, 9, .any, false, false, 0⟩,
  ⟨0x17, 0x17, .u32, .ro, 1, 9, .any, false, false, 0⟩,
  ⟨0x18, 0x18, .u32, .ro, 1, 9, .any, false, false, 0⟩,
  ⟨0x19, 0x19, .u32, .ro, 1, 9, .any, false, false, 0⟩,
  ⟨0x1A, 0x1A, .u32, .ro, 1, 9, .any, false, false, 0⟩,
  ⟨0x1B, 0x1B, .u32, .ro, 1, 9, .any, false, false, 0⟩,
  ⟨0x1C, 0x1C, .u32, .ro, 1, 9, .any, false, false, 0⟩,
  ⟨0x1D, 0x1D, .u32, .ro, 1, 9, .any, false, false, 0⟩,
  ⟨0x1E, 0x1E, .u32, .ro, 1, 9, .any, false, false, 0⟩,
  ⟨0x1F, 0x1F, .u32, .ro, 1, 9, .any, false, false, 0⟩,
  ⟨0x20, 0x20, .u32, .ro, 1, 9, .any, false, false, 0⟩]⟩

/-- The object at 0x2500 (07_switch_core_buffers.md, R237). -/
def obj2500Class : OdObject := ⟨0x2500, .count 8, 0, false, [
  ⟨0x01, 0x01, .bool, .rw, 0, 3, .codes [0, 1], false, true, 0⟩,
  ⟨0x02, 0x02, .u16, .rw, 0, 3, .range 0 10000, false, true, 50⟩]⟩

/-- The object at 0x2508 (07_switch_core_buffers.md, R237). -/
def obj2508 : OdObject := ⟨0x2508, .one, 0, false, [
  ⟨0x01, 0x01, .u16, .rw, 0, 3, .range 0 1024, false, true, 48⟩,
  ⟨0x02, 0x02, .u16, .rw, 0, 3, .range 16 4096, false, true, 256⟩,
  ⟨0x03, 0x03, .u16, .rw, 0, 3, .range 0 16384, false, true, 2048⟩,
  ⟨0x04, 0x04, .u16, .rw, 0, 3, .range 0 4096, false, true, 16⟩,
  ⟨0x05, 0x05, .u16, .rw, 0, 3, .range 0 24576, false, true, 8192⟩,
  ⟨0x06, 0x06, .u8, .rw, 0, 3, .rangeOr 0 31 255, false, true, 255⟩]⟩

/-- The object at 0x2510 (07_switch_core_buffers.md, R238). -/
def obj2510 : OdObject := ⟨0x2510, .one, 4096, true, [
  ⟨0x01, 0x01, .bool, .rw, 1, 3, .codes [0, 1], false, true, 0⟩,
  ⟨0x02, 0x02, .u32, .rw, 1, 3, .range 1 10000000, false, true, 1000⟩,
  ⟨0x03, 0x03, .u32, .rw, 1, 3, .range 64 16777216, false, true, 16384⟩,
  ⟨0x04, 0x04, .u32, .rw, 1, 3, .range 1 10000000, false, true, 2000⟩,
  ⟨0x05, 0x05, .u32, .rw, 1, 3, .range 64 16777216, false, true, 32768⟩,
  ⟨0x06, 0x06, .bool, .rw, 1, 3, .codes [0, 1], false, true, 0⟩,
  ⟨0x07, 0x07, .u8, .rw, 1, 3, .codes [0, 1], false, true, 0⟩]⟩

/-- The object at 0x2511 (07_switch_core_buffers.md, R238). -/
def obj2511 : OdObject := ⟨0x2511, .one, 4096, true, [
  ⟨0x01, 0x01, .bool, .ro, 1, 9, .any, false, false, 0⟩,
  ⟨0x02, 0x02, .u8, .ro, 1, 9, .any, false, false, 0⟩,
  ⟨0x03, 0x03, .u64, .ro, 1, 9, .any, false, false, 0⟩,
  ⟨0x04, 0x04, .u64, .ro, 1, 9, .any, false, false, 0⟩,
  ⟨0x05, 0x05, .u64, .ro, 1, 9, .any, false, false, 0⟩,
  ⟨0x06, 0x06, .u64, .ro, 1, 9, .any, false, false, 0⟩,
  ⟨0x07, 0x07, .u8, .wo, 9, 2, .any, false, false, 0⟩]⟩

/-- The object at 0x2518 (07_switch_core_buffers.md, R239). -/
def obj2518 : OdObject := ⟨0x2518, .one, 32, false, [
  ⟨0x01, 0x01, .bool, .rw, 0, 3, .codes [0, 1], false, true, 0⟩,
  ⟨0x02, 0x02, .u8, .rw, 0, 3, .range 0 15, false, true, 4⟩,
  ⟨0x03, 0x03, .u16, .rw, 0, 3, .any, false, true, 0⟩,
  ⟨0x04, 0x04, .u16, .rw, 0, 3, .any, false, true, 0⟩,
  ⟨0x05, 0x05, .u16, .rw, 0, 3, .range 1 256, false, true, 256⟩,
  ⟨0x06, 0x06, .u16, .rw, 0, 3, .any, false, true, 0⟩,
  ⟨0x07, 0x07, .u16, .rw, 0, 3, .any, false, true, 0⟩,
  ⟨0x08, 0x08, .u16, .rw, 0, 3, .range 1 256, false, true, 256⟩,
  ⟨0x09, 0x09, .u16, .rw, 0, 3, .any, false, true, 0⟩,
  ⟨0x0A, 0x0A, .u16, .rw, 0, 3, .any, false, true, 0⟩,
  ⟨0x0B, 0x0B, .u16, .rw, 0, 3, .range 1 256, false, true, 256⟩]⟩

/-- The object at 0x2520 (07_switch_core_buffers.md, R240). -/
def obj2520 : OdObject := ⟨0x2520, .one, 1024, false, [
  ⟨0x01, 0x01, .bool, .rw, 1, 3, .codes [0, 1], false, true, 0⟩,
  ⟨0x02, 0x02, .u16, .rw, 1, 3, .codes [9216, 9217], false, true, 9216⟩,
  ⟨0x03, 0x03, .u32, .rw, 1, 3, .any, false, true, 0⟩,
  ⟨0x04, 0x04, .u16, .rw, 1, 3, .dest, false, true, 65534⟩,
  ⟨0x05, 0x05, .u16, .rw, 1, 3, .range 1 4096, false, true, 16⟩]⟩

/-- The object at 0x2528 (07_switch_core_buffers.md, R240). -/
def obj2528 : OdObject := ⟨0x2528, .one, 1024, false, [
  ⟨0x01, 0x01, .bool, .rw, 1, 3, .codes [0, 1], false, true, 0⟩,
  ⟨0x02, 0x02, .u16, .rw, 1, 3, .range 1 1024, false, true, 36⟩,
  ⟨0x03, 0x03, .u64, .ro, 1, 9, .any, false, false, 0⟩,
  ⟨0x04, 0x04, .u32, .ro, 1, 9, .any, false, false, 0⟩,
  ⟨0x05, 0x05, .u32, .ro, 1, 9, .any, false, false, 0⟩,
  ⟨0x06, 0x06, .u8, .wo, 9, 2, .any, false, false, 0⟩]⟩

/-- The object at 0x2530 (07_switch_core_buffers.md, R241). -/
def obj2530 : OdObject := ⟨0x2530, .one, 256, true, [
  ⟨0x01, 0x01, .bool, .rw, 0, 3, .codes [0, 1], false, true, 0⟩,
  ⟨0x02, 0x02, .u16, .rw, 0, 3, .range 0 4096, false, true, 16⟩,
  ⟨0x03, 0x03, .u16, .rw, 0, 3, .range 0 24576, false, true, 8192⟩,
  ⟨0x04, 0x04, .u8, .rw, 0, 3, .rangeOr 0 31 255, false, true, 255⟩]⟩

/-- The object at 0x2538 (07_switch_core_buffers.md, R241). -/
def obj2538 : OdObject := ⟨0x2538, .one, 224, false, [
  ⟨0x01, 0x01, .bool, .rw, 0, 3, .codes [0, 1], false, true, 0⟩,
  ⟨0x02, 0x02, .u16, .rw, 0, 3, .range 0 1000, false, true, 20⟩]⟩

/-- The object at 0x2540 (07_switch_core_buffers.md, R242). -/
def obj2540 : OdObject := ⟨0x2540, .one, 256, true, [
  ⟨0x01, 0x01, .bool, .ro, 1, 9, .any, false, false, 0⟩,
  ⟨0x02, 0x02, .u32, .ro, 1, 9, .any, false, false, 0⟩,
  ⟨0x03, 0x03, .u32, .ro, 1, 9, .any, false, false, 0⟩,
  ⟨0x04, 0x04, .u64, .ro, 1, 9, .any, false, false, 0⟩,
  ⟨0x05, 0x05, .u32, .ro, 1, 9, .any, false, false, 0⟩,
  ⟨0x06, 0x06, .u32, .ro, 1, 9, .any, false, false, 0⟩,
  ⟨0x07, 0x07, .u32, .ro, 1, 9, .any, false, false, 0⟩,
  ⟨0x08, 0x08, .u32, .ro, 1, 9, .any, false, false, 0⟩,
  ⟨0x09, 0x09, .u32, .ro, 1, 9, .any, false, false, 0⟩,
  ⟨0x0A, 0x0A, .u32, .ro, 1, 9, .any, false, false, 0⟩,
  ⟨0x0B, 0x0B, .u32, .ro, 1, 9, .any, false, false, 0⟩,
  ⟨0x0C, 0x0C, .u16, .ro, 1, 9, .any, false, false, 0⟩,
  ⟨0x0D, 0x0D, .bool, .ro, 1, 9, .any, false, false, 0⟩,
  ⟨0x0E, 0x0E, .u32, .ro, 1, 9, .any, false, false, 0⟩,
  ⟨0x0F, 0x0F, .u8, .wo, 9, 2, .any, false, false, 0⟩]⟩

/-- The object at 0x2548 (07_switch_core_buffers.md, R242). -/
def obj2548PerDie : OdObject := ⟨0x2548, .perDie, 0, false, [
  ⟨0x01, 0x01, .u32, .ro, 1, 9, .any, false, false, 0⟩,
  ⟨0x02, 0x02, .u32, .ro, 1, 9, .any, false, false, 0⟩,
  ⟨0x03, 0x03, .u32, .ro, 1, 9, .any, false, false, 0⟩,
  ⟨0x04, 0x04, .u32, .ro, 1, 9, .any, false, false, 0⟩,
  ⟨0x05, 0x05, .u32, .ro, 1, 9, .any, false, false, 0⟩,
  ⟨0x06, 0x06, .u32, .ro, 1, 9, .any, false, false, 0⟩,
  ⟨0x07, 0x07, .u32, .ro, 1, 9, .any, false, false, 0⟩,
  ⟨0x0F, 0x0F, .u8, .wo, 9, 2, .any, false, false, 0⟩,
  ⟨0x10, 0x10, .u32, .ro, 1, 9, .any, false, false, 0⟩]⟩

/-- The object at 0x2550 (07_switch_core_buffers.md, R243). -/
def obj2550 : OdObject := ⟨0x2550, .one, 448, false, [
  ⟨0x01, 0x01, .bool, .rw, 1, 3, .codes [0, 1], false, true, 0⟩,
  ⟨0x02, 0x02, .u32, .rw, 1, 3, .range 2 65536, false, true, 1024⟩,
  ⟨0x03, 0x03, .bool, .rw, 1, 3, .codes [0, 1], false, true, 0⟩,
  ⟨0x04, 0x04, .u16, .ro, 1, 9, .any, false, false, 0⟩]⟩

/-- The object at 0x2558 (07_switch_core_buffers.md, R243). -/
def obj2558 : OdObject := ⟨0x2558, .one, 0, false, [
  ⟨0x01, 0x01, .bool, .rw, 1, 3, .codes [0, 1], false, true, 0⟩,
  ⟨0x02, 0x02, .u32, .rw, 1, 3, .any, false, true, 655360⟩,
  ⟨0x03, 0x03, .u16, .rw, 1, 3, .range 16 4096, false, true, 512⟩,
  ⟨0x04, 0x04, .u16, .rw, 1, 3, .any, false, true, 384⟩,
  ⟨0x05, 0x05, .u8, .rw, 1, 3, .range 0 7, false, true, 0⟩,
  ⟨0x06, 0x06, .u16, .rw, 1, 3, .any, false, true, 65535⟩,
  ⟨0x07, 0x07, .oct 6, .rw, 1, 3, .any, false, true, 0⟩,
  ⟨0x08, 0x08, .u16, .rw, 1, 3, .any, false, true, 34997⟩]⟩

/-- The object at 0x2559 (07_switch_core_buffers.md, R243). -/
def obj2559 : OdObject := ⟨0x2559, .one, 0, false, [
  ⟨0x01, 0x01, .u8, .ro, 1, 9, .any, false, false, 0⟩,
  ⟨0x02, 0x02, .u64, .ro, 1, 9, .any, false, false, 0⟩,
  ⟨0x03, 0x03, .u32, .ro, 1, 9, .any, false, false, 0⟩,
  ⟨0x04, 0x04, .u32, .ro, 1, 9, .any, false, false, 0⟩,
  ⟨0x05, 0x05, .u64, .ro, 1, 9, .any, false, false, 0⟩,
  ⟨0x0F, 0x0F, .u8, .wo, 9, 2, .any, false, false, 0⟩]⟩

/-- The object at 0x2600 (08_tunnels.md, R264). -/
def obj2600 : OdObject := ⟨0x2600, .one, 1024, false, [
  ⟨0x01, 0x01, .bool, .rw, 1, 3, .codes [0, 1], false, true, 0⟩,
  ⟨0x02, 0x02, .u8, .rw, 1, 3, .mask 0xFC, false, true, 3⟩,
  ⟨0x03, 0x03, .u8, .rw, 1, 3, .codes [0, 1], false, true, 0⟩,
  ⟨0x04, 0x04, .u8, .rw, 1, 3, .codes [0, 1], false, true, 0⟩,
  ⟨0x05, 0x05, .u8, .rw, 1, 3, .range 0 31, false, true, 0⟩,
  ⟨0x06, 0x06, .oct 8, .rw, 1, 3, .any, false, true, 0⟩,
  ⟨0x07, 0x07, .u16, .rw, 1, 3, .any, false, true, 65535⟩,
  ⟨0x08, 0x08, .oct 6, .rw, 1, 3, .any, false, true, 0⟩,
  ⟨0x09, 0x09, .u16, .rw, 1, 3, .range 0 4094, false, true, 0⟩,
  ⟨0x0A, 0x0A, .u8, .rw, 1, 3, .range 0 7, false, true, 0⟩,
  ⟨0x0B, 0x0B, .u8, .rw, 1, 3, .rangeOr 0 7 255, false, true, 255⟩,
  ⟨0x0C, 0x0C, .u16, .rw, 1, 3, .range 128 9216, false, true, 1522⟩,
  ⟨0x0D, 0x0D, .u8, .rw, 1, 3, .range 1 32, false, true, 1⟩,
  ⟨0x0E, 0x0E, .u16, .rw, 1, 3, .range 1 10000, false, true, 500⟩,
  ⟨0x0F, 0x0F, .u8, .rw, 1, 3, .range 0 8, false, true, 8⟩,
  ⟨0x10, 0x10, .oct 8, .rw, 1, 3, .any, false, true, 0⟩,
  ⟨0x11, 0x11, .u16, .rw, 1, 3, .any, false, true, 65535⟩,
  ⟨0x12, 0x12, .oct 6, .rw, 1, 3, .any, false, true, 0⟩,
  ⟨0x13, 0x13, .u8, .rw, 1, 3, .any, false, true, 0⟩,
  ⟨0x14, 0x14, .u8, .rw, 1, 3, .mask 0xF0, false, true, 15⟩,
  ⟨0x15, 0x15, .u32, .rw, 1, 3, .range 0 10000000, false, true, 0⟩,
  ⟨0x16, 0x16, .u16, .rw, 1, 3, .range 1 10000, false, true, 1000⟩,
  ⟨0x17, 0x17, .u8, .rw, 1, 3, .die0, false, true, 0⟩,
  ⟨0x18, 0x18, .bool, .rw, 1, 3, .codes [0, 1], false, true, 1⟩,
  ⟨0x19, 0x19, .u16, .rw, 1, 3, .range 100 60000, false, true, 1000⟩]⟩

/-- The object at 0x2601 (08_tunnels.md, R265). -/
def obj2601 : OdObject := ⟨0x2601, .one, 1024, false, [
  ⟨0x01, 0x01, .bool, .ro, 1, 9, .any, false, false, 0⟩,
  ⟨0x02, 0x02, .u8, .ro, 1, 9, .any, false, false, 0⟩,
  ⟨0x03, 0x03, .u8, .ro, 1, 9, .any, false, false, 0⟩,
  ⟨0x04, 0x04, .u8, .ro, 1, 9, .any, false, false, 0⟩,
  ⟨0x05, 0x05, .u8, .ro, 1, 9, .any, false, false, 0⟩,
  ⟨0x06, 0x06, .bool, .ro, 1, 9, .any, false, false, 0⟩,
  ⟨0x0F, 0x0F, .u8, .wo, 9, 2, .any, false, false, 0⟩,
  ⟨0x10, 0x10, .u64, .ro, 1, 9, .any, false, false, 0⟩,
  ⟨0x11, 0x11, .u64, .ro, 1, 9, .any, false, false, 0⟩,
  ⟨0x12, 0x12, .u32, .ro, 1, 9, .any, false, false, 0⟩,
  ⟨0x13, 0x13, .u64, .ro, 1, 9, .any, false, false, 0⟩,
  ⟨0x14, 0x14, .u64, .ro, 1, 9, .any, false, false, 0⟩,
  ⟨0x15, 0x15, .u32, .ro, 1, 9, .any, false, false, 0⟩,
  ⟨0x16, 0x16, .u32, .ro, 1, 9, .any, false, false, 0⟩,
  ⟨0x17, 0x17, .u32, .ro, 1, 9, .any, false, false, 0⟩,
  ⟨0x18, 0x18, .u32, .ro, 1, 9, .any, false, false, 0⟩,
  ⟨0x19, 0x19, .u32, .ro, 1, 9, .any, false, false, 0⟩,
  ⟨0x1A, 0x1A, .u32, .ro, 1, 9, .any, false, false, 0⟩,
  ⟨0x1B, 0x1B, .u32, .ro, 1, 9, .any, false, false, 0⟩,
  ⟨0x1C, 0x1C, .u32, .ro, 1, 9, .any, false, false, 0⟩]⟩

/-- The object at 0x2700 (09_placement_and_faults.md, R290). -/
def obj2700 : OdObject := ⟨0x2700, .one, 0, false, [
  ⟨0x01, 0x01, .u8, .ro, 0, 9, .any, false, false, 0⟩,
  ⟨0x02, 0x02, .u32, .ro, 0, 9, .any, false, false, 0⟩,
  ⟨0x03, 0x03, .oct 32, .ro, 0, 9, .any, false, false, 0⟩,
  ⟨0x04, 0x04, .oct 32, .ro, 0, 9, .any, false, false, 0⟩,
  ⟨0x05, 0x05, .u8, .ro, 1, 9, .any, false, false, 0⟩,
  ⟨0x06, 0x06, .u16, .ro, 1, 9, .any, false, false, 0⟩,
  ⟨0x07, 0x07, .u32, .ro, 1, 9, .any, false, false, 4294967295⟩,
  ⟨0x08, 0x08, .u16, .ro, 1, 9, .any, false, false, 0⟩,
  ⟨0x09, 0x09, .u32, .ro, 0, 9, .any, false, false, 0⟩,
  ⟨0x0A, 0x0A, .u8, .ro, 1, 9, .any, false, false, 0⟩]⟩

/-- The object at 0x2702 (09_placement_and_faults.md, R290). -/
def obj2702 : OdObject := ⟨0x2702, .one, 256, false, [
  ⟨0x01, 0x01, .bool, .rw, 1, 3, .codes [0, 1], false, true, 0⟩,
  ⟨0x02, 0x02, .u16, .rw, 1, 3, .codes [9488, 9248, 9560], false, true, 9488⟩,
  ⟨0x03, 0x03, .u32, .rw, 1, 3, .any, false, true, 0⟩,
  ⟨0x04, 0x04, .u8, .rw, 1, 3, .die1, false, true, 1⟩]⟩

/-- The object at 0x2703 (09_placement_and_faults.md, R290). -/
def obj2703 : OdObject := ⟨0x2703, .one, 32768, false, [
  ⟨0x01, 0x01, .bool, .ro, 1, 9, .any, false, false, 0⟩,
  ⟨0x02, 0x02, .u16, .ro, 1, 9, .any, false, false, 0⟩,
  ⟨0x03, 0x03, .u32, .ro, 1, 9, .any, false, false, 0⟩,
  ⟨0x04, 0x04, .u8, .ro, 1, 9, .any, false, false, 0⟩,
  ⟨0x05, 0x05, .u8, .ro, 1, 9, .any, false, false, 0⟩,
  ⟨0x06, 0x06, .u8, .ro, 1, 9, .any, false, false, 0⟩]⟩

/-- The object at 0x2704 (09_placement_and_faults.md, R290). -/
def obj2704 : OdObject := ⟨0x2704, .one, 56, false, [
  ⟨0x01, 0x01, .bool, .ro, 1, 9, .any, false, false, 0⟩,
  ⟨0x02, 0x02, .u32, .ro, 1, 9, .any, false, false, 0⟩,
  ⟨0x03, 0x03, .u32, .ro, 1, 9, .any, false, false, 0⟩,
  ⟨0x04, 0x04, .u8, .ro, 1, 9, .any, false, false, 0⟩,
  ⟨0x05, 0x05, .u16, .ro, 1, 9, .any, false, false, 0⟩,
  ⟨0x06, 0x06, .u32, .ro, 1, 9, .any, false, false, 0⟩]⟩

/-- The object at 0x2710 (09_placement_and_faults.md, R291). -/
def obj2710 : OdObject := ⟨0x2710, .one, 8, false, [
  ⟨0x01, 0x01, .bool, .ro, 0, 9, .any, false, false, 0⟩,
  ⟨0x02, 0x02, .u8, .ro, 0, 9, .any, false, false, 0⟩,
  ⟨0x03, 0x03, .u8, .ro, 1, 9, .any, false, false, 0⟩,
  ⟨0x04, 0x04, .u32, .ro, 1, 9, .any, false, false, 0⟩,
  ⟨0x05, 0x05, .u32, .ro, 1, 9, .any, false, false, 0⟩,
  ⟨0x06, 0x06, .u8, .wo, 9, 2, .any, false, false, 0⟩,
  ⟨0x07, 0x07, .u64, .ro, 1, 9, .any, false, false, 0⟩]⟩

/-- The object at 0x2711 (09_placement_and_faults.md, R291). -/
def obj2711 : OdObject := ⟨0x2711, .one, 28, false, [
  ⟨0x01, 0x01, .bool, .ro, 0, 9, .any, false, false, 0⟩,
  ⟨0x02, 0x02, .u8, .ro, 0, 9, .any, false, false, 0⟩,
  ⟨0x03, 0x03, .u8, .ro, 0, 9, .any, false, false, 0⟩,
  ⟨0x04, 0x04, .u32, .ro, 1, 9, .any, false, false, 0⟩,
  ⟨0x05, 0x05, .u32, .ro, 1, 9, .any, false, false, 0⟩,
  ⟨0x06, 0x06, .u32, .ro, 1, 9, .any, false, false, 0⟩]⟩

/-- The object at 0x2720 (09_placement_and_faults.md, R292). -/
def obj2720 : OdObject := ⟨0x2720, .one, 64, false, [
  ⟨0x01, 0x01, .bool, .ro, 1, 9, .any, false, false, 0⟩,
  ⟨0x02, 0x02, .u32, .ro, 1, 9, .any, false, false, 0⟩,
  ⟨0x03, 0x03, .u8, .ro, 1, 9, .any, false, false, 0⟩,
  ⟨0x04, 0x04, .u8, .ro, 1, 9, .any, false, false, 0⟩,
  ⟨0x05, 0x05, .u16, .ro, 1, 9, .any, false, false, 0⟩,
  ⟨0x06, 0x06, .u64, .ro, 1, 9, .any, false, false, 0⟩,
  ⟨0x07, 0x07, .u32, .ro, 1, 9, .any, false, false, 0⟩,
  ⟨0x08, 0x08, .bool, .ro, 1, 9, .any, false, false, 0⟩]⟩

/-- The object at 0x2722 (09_placement_and_faults.md, R292). -/
def obj2722 : OdObject := ⟨0x2722, .one, 0, false, [
  ⟨0x01, 0x15, .u32, .ro, 1, 9, .any, false, false, 0⟩,
  ⟨0x1F, 0x1F, .u8, .wo, 9, 2, .any, false, false, 0⟩]⟩

/-- The object at 0x2730 (09_placement_and_faults.md, R292). -/
def obj2730 : OdObject := ⟨0x2730, .one, 0, false, [
  ⟨0x01, 0x01, .u32, .rw, 1, 3, .mask 0xFFC10000, false, true, 3180544⟩,
  ⟨0x02, 0x02, .u8, .rw, 1, 3, .codes [0, 1], false, true, 1⟩,
  ⟨0x03, 0x03, .u8, .wo, 9, 2, .any, false, false, 0⟩,
  ⟨0x04, 0x04, .u16, .rw, 1, 3, .range 1 3600, false, true, 60⟩,
  ⟨0x05, 0x05, .bool, .ro, 0, 9, .any, false, false, 0⟩]⟩

/-- The objects of this range. -/
def odSwitch : List OdObject := [
  obj2400, obj2401, obj2402, obj2410, obj2411, obj2420, obj2430, obj2440, obj2450PerDie, obj2500Class, obj2508, obj2510, obj2511, obj2518, obj2520, obj2528, obj2530, obj2538, obj2540, obj2548PerDie, obj2550, obj2558, obj2559, obj2600, obj2601, obj2700, obj2702, obj2703, obj2704, obj2710, obj2711, obj2720, obj2722, obj2730]

end Sys2Proof.Machine
end

