-- ==== Sys2Proof/Machine/OdTablesSystem.lean ====
section
/-! DEFINITION. Object dictionary 0x3200 to 0x36FF: evidence, keys, power, update, application pair (11 to 15), as the OD tables of the chapters list it. -/

namespace Sys2Proof.Machine
open Sys2Proof

/-- The object at 0x3200 (11_evidence.md, R350). -/
def obj3200 : OdObject := ⟨0x3200, .one, 0, false, [
  ⟨0x01, 0x01, .u16, .rw, 0, 3, .range 1 3600, false, true, 60⟩,
  ⟨0x02, 0x02, .u32, .rw, 0, 3, .mask 0x80C081, false, true, 1933049860⟩,
  ⟨0x03, 0x03, .u16, .rw, 0, 3, .range 100 60000, false, true, 1000⟩,
  ⟨0x04, 0x04, .bool, .rw, 0, 3, .codes [0, 1], false, true, 1⟩,
  ⟨0x05, 0x05, .u16, .rw, 0, 3, .range 16 16384, false, true, 12288⟩,
  ⟨0x06, 0x06, .u16, .rw, 0, 3, .range 0 16368, false, true, 4096⟩,
  ⟨0x07, 0x07, .u8, .wo, 9, 1, .any, false, false, 0⟩]⟩

/-- The object at 0x3201 (11_evidence.md, R350). -/
def obj3201 : OdObject := ⟨0x3201, .one, 0, false, [
  ⟨0x01, 0x01, .u64, .ro, 0, 9, .any, false, false, 0⟩,
  ⟨0x02, 0x02, .oct 32, .ro, 0, 9, .any, false, false, 0⟩,
  ⟨0x03, 0x03, .u32, .ro, 0, 9, .any, false, false, 0⟩,
  ⟨0x04, 0x04, .u32, .ro, 0, 9, .any, false, false, 0⟩,
  ⟨0x05, 0x05, .u64, .ro, 0, 9, .any, false, false, 0⟩,
  ⟨0x06, 0x06, .u64, .ro, 0, 9, .any, false, false, 0⟩,
  ⟨0x07, 0x07, .u32, .ro, 0, 9, .any, false, false, 0⟩,
  ⟨0x08, 0x08, .u16, .ro, 1, 9, .any, false, false, 0⟩,
  ⟨0x09, 0x09, .u16, .ro, 1, 9, .any, false, false, 0⟩,
  ⟨0x0A, 0x0A, .bool, .ro, 1, 9, .any, false, false, 0⟩,
  ⟨0x0B, 0x0B, .u8, .ro, 0, 9, .any, false, false, 0⟩,
  ⟨0x0C, 0x0C, .u32, .ro, 0, 9, .any, false, false, 0⟩,
  ⟨0x0D, 0x0D, .bool, .ro, 1, 9, .any, false, false, 0⟩,
  ⟨0x0F, 0x0F, .u8, .wo, 9, 2, .any, false, false, 0⟩,
  ⟨0x10, 0x10, .u64, .ro, 1, 9, .any, false, false, 0⟩,
  ⟨0x11, 0x11, .u32, .ro, 1, 9, .any, false, false, 0⟩,
  ⟨0x12, 0x12, .u32, .ro, 1, 9, .any, false, false, 0⟩,
  ⟨0x13, 0x13, .u32, .ro, 1, 9, .any, false, false, 0⟩,
  ⟨0x14, 0x14, .u32, .ro, 1, 9, .any, false, false, 0⟩,
  ⟨0x15, 0x15, .u32, .ro, 1, 9, .any, false, false, 0⟩]⟩

/-- The object at 0x3210 (11_evidence.md, R351). -/
def obj3210 : OdObject := ⟨0x3210, .one, 0, false, [
  ⟨0x01, 0x01, .u64, .rw, 1, 1, .any, true, false, 0⟩,
  ⟨0x02, 0x02, .oct 64, .ro, 1, 9, .any, false, false, 0⟩,
  ⟨0x03, 0x03, .u64, .wo, 9, 1, .any, false, false, 0⟩]⟩

/-- The object at 0x3212 (11_evidence.md, R351). -/
def obj3212 : OdObject := ⟨0x3212, .one, 0, false, [
  ⟨0x01, 0x01, .u32, .rw, 0, 0, .any, true, false, 0⟩,
  ⟨0x02, 0x02, .dom 5516, .ro, 0, 9, .any, false, false, 0⟩,
  ⟨0x03, 0x03, .u32, .ro, 0, 9, .any, false, false, 0⟩]⟩

/-- The object at 0x3300 (12_keys_lifecycle_attestation.md, R374). -/
def obj3300 : OdObject := ⟨0x3300, .one, 0, false, [
  ⟨0x01, 0x01, .u8, .wo, 9, 2, .any, false, false, 0⟩,
  ⟨0x02, 0x02, .u32, .ro, 2, 9, .any, false, false, 0⟩,
  ⟨0x03, 0x03, .u32, .wo, 9, 2, .any, false, false, 0⟩,
  ⟨0x04, 0x04, .u8, .ro, 0, 9, .any, false, false, 0⟩,
  ⟨0x05, 0x05, .u8, .ro, 0, 9, .any, false, false, 0⟩,
  ⟨0x06, 0x06, .u16, .rw, 1, 3, .range 60 10080, false, true, 1440⟩,
  ⟨0x07, 0x07, .u32, .ro, 0, 9, .any, false, false, 0⟩]⟩

/-- The object at 0x3301 (12_keys_lifecycle_attestation.md, R374). -/
def obj3301 : OdObject := ⟨0x3301, .one, 0, false, [
  ⟨0x01, 0x01, .oct 148, .wo, 9, 4, .any, false, false, 0⟩]⟩

/-- The object at 0x3302 (12_keys_lifecycle_attestation.md, R374). -/
def obj3302 : OdObject := ⟨0x3302, .one, 0, false, [
  ⟨0x01, 0x01, .u32, .ro, 1, 9, .any, false, false, 0⟩,
  ⟨0x02, 0x02, .u32, .ro, 1, 9, .any, false, false, 0⟩,
  ⟨0x03, 0x03, .u32, .ro, 1, 9, .any, false, false, 0⟩,
  ⟨0x04, 0x04, .u8, .ro, 0, 9, .any, false, false, 0⟩]⟩

/-- The object at 0x3320 (12_keys_lifecycle_attestation.md, R374). -/
def obj3320 : OdObject := ⟨0x3320, .one, 0, false, [
  ⟨0x01, 0x01, .u8, .rw, 0, 0, .range 1 3, true, false, 1⟩,
  ⟨0x02, 0x02, .oct 32, .wo, 9, 0, .any, false, false, 0⟩,
  ⟨0x03, 0x03, .oct 240, .ro, 0, 9, .any, false, false, 0⟩]⟩

/-- The object at 0x3330 (12_keys_lifecycle_attestation.md, R374). -/
def obj3330 : OdObject := ⟨0x3330, .one, 0, false, [
  ⟨0x0F, 0x0F, .u8, .wo, 9, 2, .any, false, false, 0⟩,
  ⟨0x10, 0x10, .u32, .ro, 1, 9, .any, false, false, 0⟩,
  ⟨0x11, 0x11, .u32, .ro, 1, 9, .any, false, false, 0⟩,
  ⟨0x12, 0x12, .u32, .ro, 1, 9, .any, false, false, 0⟩]⟩

/-- The object at 0x3310 (12_keys_lifecycle_attestation.md, R375). -/
def obj3310 : OdObject := ⟨0x3310, .one, 256, false, [
  ⟨0x01, 0x01, .bool, .ro, 1, 9, .any, false, false, 0⟩,
  ⟨0x02, 0x02, .u8, .ro, 1, 9, .any, false, false, 0⟩,
  ⟨0x03, 0x03, .u8, .ro, 1, 9, .any, false, false, 0⟩,
  ⟨0x04, 0x04, .u8, .ro, 1, 9, .any, false, false, 0⟩,
  ⟨0x05, 0x05, .u32, .ro, 1, 9, .any, false, false, 0⟩,
  ⟨0x06, 0x06, .u32, .ro, 1, 9, .any, false, false, 0⟩,
  ⟨0x07, 0x07, .u8, .ro, 1, 9, .any, false, false, 0⟩,
  ⟨0x08, 0x08, .u8, .ro, 1, 9, .any, false, false, 0⟩,
  ⟨0x09, 0x09, .u8, .ro, 1, 9, .any, false, false, 0⟩,
  ⟨0x0A, 0x0A, .u8, .ro, 1, 9, .any, false, false, 0⟩,
  ⟨0x0B, 0x0B, .u8, .ro, 1, 9, .any, false, false, 0⟩,
  ⟨0x0C, 0x0C, .u8, .ro, 1, 9, .any, false, false, 0⟩,
  ⟨0x0D, 0x0D, .oct 16, .ro, 1, 9, .any, false, false, 0⟩,
  ⟨0x0E, 0x0E, .oct 4, .ro, 1, 9, .any, false, false, 0⟩,
  ⟨0x10, 0x10, .u8, .ro, 1, 9, .any, false, false, 0⟩]⟩

/-- The object at 0x3311 (12_keys_lifecycle_attestation.md, R375). -/
def obj3311 : OdObject := ⟨0x3311, .one, 0, false, [
  ⟨0x01, 0x01, .u8, .rw, 3, 3, .any, true, false, 0⟩,
  ⟨0x02, 0x02, .u8, .rw, 3, 3, .any, true, false, 1⟩,
  ⟨0x03, 0x03, .u8, .rw, 3, 3, .any, true, false, 0⟩,
  ⟨0x04, 0x04, .u8, .rw, 3, 3, .any, true, false, 0⟩,
  ⟨0x05, 0x05, .u8, .rw, 3, 3, .any, true, false, 0⟩,
  ⟨0x06, 0x06, .u8, .rw, 3, 3, .any, true, false, 0⟩,
  ⟨0x07, 0x07, .u8, .rw, 3, 3, .codes [16, 32], true, false, 16⟩,
  ⟨0x08, 0x08, .u8, .rw, 3, 3, .any, true, false, 0⟩,
  ⟨0x09, 0x09, .oct 16, .rw, 3, 3, .any, true, false, 0⟩,
  ⟨0x0A, 0x0A, .oct 60, .rw, 3, 3, .any, true, false, 0⟩,
  ⟨0x0B, 0x0B, .u8, .wo, 9, 3, .codes [1, 2, 3, 4], false, false, 0⟩,
  ⟨0x0C, 0x0C, .u8, .ro, 3, 9, .any, false, false, 0⟩]⟩

/-- The object at 0x3400 (13_power_wake.md, R395). -/
def obj3400 : OdObject := ⟨0x3400, .one, 0, false, [
  ⟨0x01, 0x01, .u8, .ro, 0, 9, .any, false, false, 0⟩,
  ⟨0x02, 0x02, .u8, .ro, 0, 9, .any, false, false, 0⟩,
  ⟨0x03, 0x03, .u32, .ro, 0, 9, .any, false, false, 0⟩,
  ⟨0x04, 0x04, .u8, .wo, 9, 1, .codes [1, 2], false, false, 0⟩,
  ⟨0x05, 0x05, .bool, .rw, 0, 3, .codes [0, 1], false, true, 0⟩,
  ⟨0x06, 0x06, .u8, .rw, 0, 3, .codes [1, 2], false, true, 2⟩,
  ⟨0x07, 0x07, .u16, .rw, 0, 3, .range 1 3600, false, true, 300⟩,
  ⟨0x08, 0x08, .u8, .rw, 0, 3, .any, false, true, 0⟩,
  ⟨0x09, 0x09, .u8, .rw, 0, 3, .rangeOr 0 7 255, false, true, 255⟩,
  ⟨0x0A, 0x0A, .u32, .rw, 1, 2, .any, true, false, 0⟩,
  ⟨0x0B, 0x0B, .u32, .rw, 1, 3, .rangeOr 60 604800 0, false, true, 0⟩,
  ⟨0x0C, 0x0C, .u16, .rw, 0, 3, .any, false, true, 0⟩,
  ⟨0x0F, 0x0F, .u8, .wo, 9, 2, .any, false, false, 0⟩,
  ⟨0x10, 0x10, .u32, .ro, 1, 9, .any, false, false, 0⟩,
  ⟨0x11, 0x11, .u32, .ro, 1, 9, .any, false, false, 0⟩,
  ⟨0x12, 0x12, .u32, .ro, 1, 9, .any, false, false, 0⟩]⟩

/-- The object at 0x3401 (13_power_wake.md, R395). -/
def obj3401 : OdObject := ⟨0x3401, .one, 0, false, [
  ⟨0x01, 0x01, .u16, .rw, 0, 3, .any, false, true, 0⟩,
  ⟨0x02, 0x02, .u16, .rw, 0, 3, .range 10 10000, false, true, 100⟩]⟩

/-- The object at 0x3402 (13_power_wake.md, R395). -/
def obj3402 : OdObject := ⟨0x3402, .one, 0, false, [
  ⟨0x01, 0x01, .u8, .rw, 1, 3, .mask 0xFC, false, true, 0⟩,
  ⟨0x02, 0x02, .u16, .rw, 1, 3, .range 32 8000, false, true, 250⟩,
  ⟨0x03, 0x03, .bool, .rw, 1, 3, .codes [0, 1], false, true, 1⟩,
  ⟨0x04, 0x04, .u8, .ro, 0, 9, .any, false, false, 0⟩,
  ⟨0x0F, 0x0F, .u8, .wo, 9, 3, .any, false, false, 0⟩,
  ⟨0x10, 0x10, .u32, .ro, 1, 9, .any, false, false, 0⟩]⟩

/-- The object at 0x3410 (13_power_wake.md, R395). -/
def obj3410 : OdObject := ⟨0x3410, .one, 224, false, [
  ⟨0x01, 0x01, .bool, .rw, 0, 3, .codes [0, 1], false, true, 0⟩,
  ⟨0x02, 0x02, .u8, .rw, 0, 3, .codes [0, 1, 2, 3], false, true, 0⟩,
  ⟨0x03, 0x03, .u8, .rw, 0, 3, .codes [0, 1, 2, 3], false, true, 2⟩,
  ⟨0x04, 0x04, .u32, .rw, 0, 3, .mask 0x60000000, false, true, 0⟩,
  ⟨0x05, 0x05, .u32, .rw, 0, 3, .any, false, true, 536870911⟩,
  ⟨0x06, 0x06, .u8, .rw, 0, 3, .range 0 8, false, true, 0⟩,
  ⟨0x07, 0x07, .oct 8, .rw, 0, 3, .any, false, true, 0⟩,
  ⟨0x08, 0x08, .bool, .rw, 0, 3, .codes [0, 1], false, true, 1⟩,
  ⟨0x09, 0x09, .u8, .rw, 0, 3, .range 1 10, false, true, 2⟩,
  ⟨0x0A, 0x0A, .u32, .rw, 0, 3, .wakeId, false, true, 4294967295⟩,
  ⟨0x0B, 0x0B, .u8, .rw, 0, 3, .range 0 8, false, true, 0⟩,
  ⟨0x0C, 0x0C, .oct 8, .rw, 0, 3, .any, false, true, 0⟩,
  ⟨0x0D, 0x0D, .bool, .rw, 0, 3, .codes [0, 1], false, true, 0⟩,
  ⟨0x0E, 0x0E, .bool, .rw, 0, 3, .codes [0, 1], false, true, 0⟩]⟩

/-- The object at 0x3420 (13_power_wake.md, R395). -/
def obj3420 : OdObject := ⟨0x3420, .one, 10, false, [
  ⟨0x01, 0x01, .bool, .rw, 0, 3, .codes [0, 1], false, true, 0⟩,
  ⟨0x02, 0x02, .oct 28, .rw, 0, 3, .any, false, true, 0⟩]⟩

/-- The object at 0x3600 (14_application_pair_registers.md, R429). -/
def obj3600 : OdObject := ⟨0x3600, .one, 0, false, [
  ⟨0x01, 0x01, .bool, .rw, 0, 3, .codes [0, 1], false, true, 1⟩,
  ⟨0x02, 0x02, .u8, .rw, 0, 3, .range 0 10, false, true, 3⟩,
  ⟨0x03, 0x03, .u16, .rw, 0, 3, .range 0 10000, false, true, 100⟩]⟩

/-- The object at 0x3601 (14_application_pair_registers.md, R429). -/
def obj3601 : OdObject := ⟨0x3601, .one, 0, false, [
  ⟨0x01, 0x01, .oct 32, .rw, 0, 3, .any, false, true, 115792089237316195423570985008687907852929702298719625878207218685964852330496⟩]⟩

/-- The object at 0x3602 (14_application_pair_registers.md, R429). -/
def obj3602 : OdObject := ⟨0x3602, .one, 0, false, [
  ⟨0x01, 0x10, .u8, .rw, 1, 3, .any, false, true, 0⟩,
  ⟨0x11, 0x11, .u8, .rw, 1, 3, .range 0 15, false, true, 0⟩,
  ⟨0x12, 0x12, .u8, .rw, 1, 3, .range 0 15, false, true, 1⟩,
  ⟨0x13, 0x13, .u8, .rw, 1, 3, .range 0 15, false, true, 2⟩,
  ⟨0x14, 0x14, .u8, .rw, 1, 3, .range 0 15, false, true, 3⟩,
  ⟨0x15, 0x15, .u8, .rw, 1, 3, .range 0 15, false, true, 4⟩,
  ⟨0x16, 0x16, .u8, .rw, 1, 3, .range 0 15, false, true, 5⟩,
  ⟨0x17, 0x17, .u8, .rw, 1, 3, .range 0 15, false, true, 6⟩,
  ⟨0x18, 0x18, .u8, .rw, 1, 3, .range 0 15, false, true, 7⟩]⟩

/-- The object at 0x3610 (14_application_pair_registers.md, R429). -/
def obj3610PerDie : OdObject := ⟨0x3610, .perDie, 0, false, [
  ⟨0x01, 0x01, .u8, .ro, 0, 9, .any, false, false, 0⟩,
  ⟨0x02, 0x02, .u32, .ro, 1, 9, .any, false, false, 0⟩,
  ⟨0x03, 0x03, .u8, .ro, 1, 9, .any, false, false, 0⟩,
  ⟨0x04, 0x04, .u8, .wo, 9, 2, .any, false, false, 0⟩,
  ⟨0x0F, 0x0F, .u8, .wo, 9, 2, .any, false, false, 0⟩,
  ⟨0x10, 0x10, .u32, .ro, 1, 9, .any, false, false, 0⟩,
  ⟨0x11, 0x11, .u64, .ro, 1, 9, .any, false, false, 0⟩,
  ⟨0x12, 0x12, .u64, .ro, 1, 9, .any, false, false, 0⟩,
  ⟨0x13, 0x13, .u32, .ro, 1, 9, .any, false, false, 0⟩,
  ⟨0x14, 0x14, .u32, .ro, 1, 9, .any, false, false, 0⟩]⟩

/-- The object at 0x3500 (15_update.md, R450). -/
def obj3500 : OdObject := ⟨0x3500, .one, 0, false, [
  ⟨0x01, 0x01, .u8, .ro, 0, 9, .any, false, false, 0⟩,
  ⟨0x02, 0x02, .u8, .wo, 9, 3, .codes [1, 2, 3, 4, 5], false, false, 0⟩,
  ⟨0x03, 0x03, .u8, .ro, 0, 9, .any, false, false, 255⟩,
  ⟨0x04, 0x04, .u8, .ro, 0, 9, .any, false, false, 0⟩,
  ⟨0x05, 0x05, .u32, .ro, 0, 9, .any, false, false, 0⟩,
  ⟨0x06, 0x06, .u16, .ro, 0, 9, .any, false, false, 0⟩,
  ⟨0x07, 0x07, .u16, .rw, 0, 3, .range 10 900, false, true, 120⟩,
  ⟨0x08, 0x08, .u32, .ro, 1, 9, .any, false, false, 0⟩]⟩

/-- The object at 0x3501 (15_update.md, R450). -/
def obj3501 : OdObject := ⟨0x3501, .one, 0, false, [
  ⟨0x01, 0x01, .dom 1048576, .wo, 9, 3, .any, true, false, 0⟩]⟩

/-- The object at 0x3510 (15_update.md, R450). -/
def obj3510 : OdObject := ⟨0x3510, .one, 0, false, [
  ⟨0x01, 0x01, .bool, .rw, 0, 1, .codes [0, 1], false, true, 0⟩,
  ⟨0x02, 0x02, .f32, .rw, 0, 3, .f32Range 1056964608 1101004800, false, true, 1077936128⟩,
  ⟨0x03, 0x03, .f32, .rw, 0, 3, .f32Range 1091567616 1096810496, false, true, 1093664768⟩,
  ⟨0x04, 0x04, .f32, .rw, 0, 3, .f32Range 1099956224 1105199104, false, true, 1102053376⟩,
  ⟨0x05, 0x05, .u8, .rw, 0, 3, .codes [0, 1], false, true, 0⟩,
  ⟨0x06, 0x06, .u8, .ro, 0, 9, .any, false, false, 0⟩]⟩

/-- The object at 0x3520 (15_update.md, R450). -/
def obj3520 : OdObject := ⟨0x3520, .one, 0, false, [
  ⟨0x01, 0x01, .u32, .wo, 9, 1, .any, false, false, 0⟩]⟩

/-- The object at 0x3530 (15_update.md, R450). -/
def obj3530 : OdObject := ⟨0x3530, .one, 0, false, [
  ⟨0x01, 0x01, .oct 56, .rw, 0, 3, .any, false, false, 0⟩]⟩

/-- The object at 0x3540 (15_update.md, R450). -/
def obj3540 : OdObject := ⟨0x3540, .one, 8, false, [
  ⟨0x01, 0x01, .bool, .ro, 0, 9, .any, false, false, 0⟩,
  ⟨0x02, 0x02, .u8, .ro, 0, 9, .any, false, false, 0⟩,
  ⟨0x03, 0x03, .u32, .ro, 0, 9, .any, false, false, 0⟩,
  ⟨0x04, 0x04, .u32, .ro, 0, 9, .any, false, false, 0⟩,
  ⟨0x05, 0x05, .oct 32, .ro, 0, 9, .any, false, false, 0⟩]⟩

/-- The object at 0x3541 (15_update.md, R450). -/
def obj3541 : OdObject := ⟨0x3541, .one, 0, false, [
  ⟨0x01, 0x04, .u32, .ro, 0, 9, .any, false, false, 0⟩]⟩

/-- The objects of this range. -/
def odSystem : List OdObject := [
  obj3200, obj3201, obj3210, obj3212, obj3300, obj3301, obj3302, obj3320, obj3330, obj3310, obj3311, obj3400, obj3401, obj3402, obj3410, obj3420, obj3600, obj3601, obj3602, obj3610PerDie, obj3500, obj3501, obj3510, obj3520, obj3530, obj3540, obj3541]

end Sys2Proof.Machine
end

