-- ==== Sys2Proof/Machine/Maps.lean ====
section
/-! DEFINITION. Finite maps in one canonical form: keys strictly rising, no entry equal to the default of its key.
Every map of the state is read and written through these operations. -/

namespace Sys2Proof.Machine
open Sys2Proof

/-- The value at a key, the default where nothing is listed. -/
def mget (d : α) : NMap α → Nat → α
  | [], _ => d
  | (k, v) :: m, i => if i = k then v else if i < k then d else mget d m i

/-- The value at a key, if listed. -/
def mfind : NMap α → Nat → Option α
  | [], _ => none
  | (k, v) :: m, i => if i = k then some v else if i < k then none else mfind m i

/-- The map with a key listed at a value. -/
def mput : NMap α → Nat → α → NMap α
  | [], i, v => [(i, v)]
  | (k, w) :: m, i, v => if i = k then (i, v) :: m else if i < k then (i, v) :: (k, w) :: m else (k, w) :: mput m i v

/-- The map with a key not listed. In a map in order only that key goes; in any list every other key reads as before. -/
def mdel : NMap α → Nat → NMap α
  | [], _ => []
  | (k, w) :: m, i => if i = k then m.dropWhile (fun p => p.1 ≤ i) else if i < k then (k, w) :: m else (k, w) :: mdel m i

/-- Write: a value equal to the default removes the entry, so that equal maps are equal data. -/
def mset [DecidableEq α] (d : α) (m : NMap α) (i : Nat) (v : α) : NMap α :=
  if v = d then mdel m i else mput m i v

/-- Keys strictly rising from a lower bound. -/
def mrising (lo : Nat) : NMap α → Bool
  | [] => true
  | (k, _) :: m => decide (lo ≤ k) && mrising (k + 1) m

/-- The canonical form of a map with one default. -/
def mwf [DecidableEq α] (d : α) (m : NMap α) : Bool :=
  mrising 0 m && m.all (fun p => decide (p.2 ≠ d))

/-- Entries whose keys satisfy a test. -/
def mfilter (p : Nat → α → Bool) (m : NMap α) : NMap α := m.filter (fun e => p e.1 e.2)

end Sys2Proof.Machine
end

