-- ==== Sys2Proof/Machine/State.lean ====
section
/-! DEFINITION. Everything the AZ8100 holds, as plain data, and the machine right after reset. -/

namespace Sys2Proof.Machine
open Sys2Proof

/-- Why a command stops the model: no command does. The spec gives every command an effect or none (log 6), so no meaning raises a fault, and the type has no
constructor. Safe: nothing is ruled out by a stop. -/
inductive Fault where
  deriving DecidableEq, Repr

/-- Why the model gives a command no meaning. -/
inductive Refusal where
  /-- The command has no meaning yet. Raised by Dispatch alone. Safe: nothing is proved about it. -/
  | notModelled (mnemonic : String)
  deriving DecidableEq, Repr

/-- The parts of the family (R1). -/
inductive Variant where
  | az8102 | az8104 | az8108
  deriving DecidableEq, Repr

/-- The gPTP time unit, the RTC and REFCLK_IN (R50, R100, R159). `ticks` counts 25 ns periods. -/
structure Clock where
  ticks : Nat
  gptpBase : Nat
  rtcBase : Nat
  xrtc : Nat
  rtcTick : Nat
  rtcValid : Bool
  synced : Bool
  gmOffset : Nat
  gmIdentity : Nat
  deriving DecidableEq, Repr

/-- The object dictionary's images (R62, R63, R86): active values, staged values, the OD defaults image, and the values only
the device changes. A key is (index × 256 + subindex) × 2^32 + row; an absent key reads its default. -/
structure OdStore where
  active : NMap Nat
  staging : NMap Nat
  defaultsImg : NMap Nat
  stat : NMap Nat
  deriving DecidableEq, Repr

/-- One copy of the persistent store (Table 3-13): its magic, layout version, bank, copy number 1 to 3, wseq, plen, payload records and CRC. -/
structure StoreCopy where
  magic : Nat
  layout : Nat
  bank : Nat
  copy : Nat
  wseq : Nat
  plen : Nat
  payload : NMap Nat
  crc : Nat
  deriving DecidableEq, Repr

/-- Where a commit stands (Table 3-11). -/
inductive CommitPhase where
  | idle | validating | placing | storing | applying | applied
  deriving DecidableEq, Repr

/-- The running or last commit (R89): its phase, whether it is action 1, its session and that session's level, the image it
took at t0, whether the session has ended meanwhile (R72), and whether power was lost during one (R92). -/
structure Commit where
  phase : CommitPhase
  validateOnly : Bool
  sess : Nat
  level : Nat
  image : NMap Nat
  sessionEnded : Bool
  deriving DecidableEq, Repr

/-- A session of an access point (R68–R84): its level, Anise sid and peer, the instant of its last accepted request, row
cursors, last status, pending opening, the Anise replay record, and its own values of the live entries that belong to a session. -/
structure Session where
  valid : Bool := false
  pending : Bool := false
  level : Nat := 0
  sid : Nat := 0
  peer : Nat := 0
  last : Nat := 0
  cursors : NMap Nat := []
  lastStatus : Nat := 0
  reqLevel : Nat := 0
  nd : Nat := 0
  nc : Nat := 0
  ks : Bytes := []
  sMax : Nat := 0
  window : Nat := 0
  cache : List (Bytes × Bytes) := []
  live : NMap Nat := []
  deriving DecidableEq, Repr

/-- The lockout of an access point (R73): consecutive failures, whether it is locked out and until which tick, and the next
lockout time in seconds. -/
structure Lockout where
  fails : Nat := 0
  locked : Bool := false
  untilTick : Nat := 0
  nextTime : Nat := 0
  deriving DecidableEq, Repr

/-- The SDO transfer in progress (R76), at the entry `mux` (index + sub × 2^16): a download, with the announced size, the bytes so far and the toggle expected
next; an upload, with the bytes not yet sent; a block download, with the segments of the block so far, whether the CRC is used, and whether the
last segment has come; a block upload, with the position of the block in hand, its size and the segments sent, and its stage (0 not started, 1 a block sent, 2 the end
sent). -/
inductive SdoTransfer where
  | none
  | segDown (mux : Nat) (size : Option Nat) (data : Bytes) (toggle : Bool)
  | segUp (mux : Nat) (rest : Bytes) (toggle : Bool)
  | blkDown (mux : Nat) (size : Option Nat) (data : Bytes) (seqNo blksize : Nat) (crc ending : Bool)
  | blkUp (mux : Nat) (data : Bytes) (pos blksize sent : Nat) (crc : Bool) (stage : Nat)
  deriving DecidableEq, Repr

/-- An evidence request (R324–R326): type, unit, detecting die, event time and RTC seconds, deferred flag, gPTP and RTC
flags at the event, number of events, payload. -/
structure EvReq where
  type : Nat
  unit : Nat
  die : Nat
  time : Nat
  rtc : Nat
  deferred : Bool
  synced : Bool
  rtcOk : Bool
  count : Nat
  payload : Bytes
  deriving DecidableEq, Repr

/-- A source's coalescing table (R325): entries in the order of their first events, and the overflow count. -/
structure Coalesce where
  entries : List EvReq := []
  overflow : Nat := 0
  deriving DecidableEq, Repr

/-- A journal entry (R328, R330): the record's 64 bytes, its sequence, its delivered bit, whether it reads back intact, and whether it is counted as lost
already (R331). -/
structure JEntry where
  seq : Nat
  bytes : Bytes
  delivered : Bool
  intact : Bool
  lost : Bool := false
  deriving DecidableEq, Repr

/-- One copy of the chain head (R328). -/
structure Head where
  n : Nat
  h : BitVec 256
  boot : Nat
  intact : Bool
  deriving DecidableEq, Repr

/-- One word of the evidence FIFO, and the sequence number of the record it ends, 0 where it ends none (R339, R340). -/
structure FifoWord where
  word : Word
  ends : Nat
  deriving DecidableEq, Repr

/-- A seal frozen at t_f and not yet signed (R332, R333): trigger, flags, coverage and chain value of its body. -/
structure SealJob where
  standby : Bool := false
  life : Bool := false
  trigger : Nat
  flags : Nat
  lastSeq : Nat
  floor : Nat
  time : Nat
  rtc : Nat
  loss : Nat
  chain : BitVec 256
  retried : Bool
  deriving DecidableEq, Repr

/-- What the fetch buffer is doing (R347). -/
inductive Fetch where
  | idle
  | loadingRecord (seq : Nat)
  | loadingSeal (number : Nat)
  deriving DecidableEq, Repr

/-- Saffron (chapter 11). `open` says that the chain is open; MRAM holds the head copies, boot count, journal, loss count,
seal store, seal numbers and limits; the rest lasts one start. `waiting` keeps the deferred requests that may not precede this start's START (R326), `started` says that it
has been appended, and `ident` is the seed and identity that the start read from the fuses, with which seals are signed until power falls (R359). -/
structure Evidence where
  chainOpen : Bool := false
  closed : Bool := false
  hashingStopped : Bool := false
  running : Bool := false
  head0 : Head := ⟨0, 0, 0, false⟩
  head1 : Head := ⟨0, 0, 0, false⟩
  lastSeq : Nat := 0
  h : BitVec 256 := 0
  bootCount : Nat := 0
  journal : NMap JEntry := []
  queue : List EvReq := []
  waiting : List EvReq := []
  started : Bool := false
  ident : Nat := 0
  coal : Coalesce := {}
  lossFirst : Nat := 0
  lossLast : Nat := 0
  lossCount : Nat := 0
  lossTotal : Nat := 0
  due : List Nat := []
  spacing : Bool := false
  period : Bool := false
  job : Option SealJob := none
  nextSeal : Nat := 0
  sealLimit : Nat := 0
  topReserved : Nat := 0
  prevLastSeq : Nat := 0
  lastSealNumber : Nat := 0
  anySeal : Bool := false
  lastSealTime : Nat := 0
  store : List (Nat × Bytes) := []
  badSeals : List Nat := []
  trees : NMap Bytes := []
  startTree : Bool := false
  activeTree : Bool := false
  nextTree : Bool := false
  raised338 : Bool := false
  fifo : List FifoWord := []
  readPos : Nat := 0
  markPos : Nat := 0
  hi : Bool := false
  ovr : Bool := false
  cmdErr : Bool := false
  fetchErr : Bool := false
  underrun : Bool := false
  gapPending : Bool := false
  gapFirst : Nat := 0
  gapLast : Nat := 0
  gapSeal : Nat := 0
  gapSeals : Nat := 0
  gapItems : Nat := 0
  fetch : Fetch := .idle
  fetchReady : Bool := false
  fetchBuf : List Word := []
  fetchPos : Nat := 0
  fetchSeq : Nat := 0
  deriving DecidableEq, Repr

/-- The account a stored copy charges (Table 7-2): its queue's cells U, up to the guarantee and above it the shared pool, a flow reservation row, the
headroom of a port and class, the ATOMIC credit of a group, or the sampler reserve. -/
inductive Charge where
  | unit (cells : Nat)
  | reservation (row : Nat)
  | headroom (slot cls : Nat)
  | atomic (group : Nat)
  | sampler
  deriving DecidableEq, Repr

/-- What a copy that crosses the fabric still needs at the die it goes to (Table 1-5): delivery to members there, policing
(stage 5), replication (stage 7), or the tunnel engine (stage 8). -/
inductive Stage where
  | deliver | police | replicate
  deriving DecidableEq, Repr

/-- What a copy is: a frame, an Ethernet frame on its way to decapsulation (R258), a sample record on its way to the capture ring (R235), a
mirror frame (R236), or a port's own wake frame (R391). -/
inductive CopyKind where
  | frame | decap | sample | mirror | wake
  deriving DecidableEq, Repr

/-- A stored copy: the frame as stored, its ingress code, realm, internal VID and PCP, class, colour (0 green, 1 yellow, 2 red),
ingress timestamp, whether gPTP was synced then (R252), cells, the destinations it serves, the route row that selected it (0 none), policer (0xFFFF none), ATOMIC group
plus 1 (0 none), routed-frame rewrite, whether its bytes changed since receive, the path generation and source die, the
frame it belongs to, the account it charges, whether it is being sent, what it is, what the
policing or replication die still has to deliver (ATOMIC group plus 1 or 0, and its members), the frame as the port sends it (R150, R121),
the received FCS (R146), the route key of stage 3 (realm, kind, value),
the fabric path it takes (R268), the instant its transmission started, whether MACsec worked on the port it arrived on (R152), and the die whose
ATOMIC account it charges, 0 before it charges one (R281). -/
structure Copy where
  frame : Frame
  ingress : Nat
  realm : Nat := 0
  vid : Nat := 0
  pcp : Nat := 0
  dei : Bool := false
  cls : Nat := 0
  colour : Nat := 0
  ts : Nat := 0
  tsSynced : Bool := false
  cells : Nat := 1
  dests : List Nat := []
  stage : Stage := .deliver
  target : Nat := 0
  route : Nat := 0
  policer : Nat := 0xFFFF
  atomic : Nat := 0
  routed : Bool := false
  nextHop : Nat := 0
  rvid : Nat := 0
  changed : Bool := false
  learn : Bool := false
  srcDie : Nat := 0
  gen : Nat := 0
  fid : Nat := 0
  source : Nat := 0
  fvBits : Nat := 0
  macBits : Nat := 0
  charge : Charge := .unit 0
  sending : Bool := false
  kind : CopyKind := .frame
  batches : List (Nat × List Nat) := []
  prepared : Option Frame := none
  fcs : Nat := 0
  key : Option (Nat × Nat × Nat) := none
  path : Nat := 0
  started : Nat := 0
  secIn : Bool := false
  acct : Nat := 0
  deriving DecidableEq, Repr

/-- Back-pressure of one (source, class) (R224): the queue rows whose shared limit asserted it. -/
structure BackPressure where
  queues : List Nat := []
  deriving DecidableEq, Repr

/-- A policer's buckets (R221) in units of 1/320,000 B, so that one kbit/s adds one unit per 25 ns step, and the tick of the last refill. -/
structure Policer where
  tc : Nat
  tp : Nat
  since : Nat
  deriving DecidableEq, Repr

/-- An entry of the forwarding database (R197): realm, MAC, destination, static flag with its lock, hit bit, idle count, instant of
the last learn or move in ticks, and where it was learned (Table 6-14 source). -/
structure FdbEntry where
  realm : Nat
  mac : Nat
  dest : Nat
  isStatic : Bool
  lock : Bool
  hit : Bool
  idle : Nat
  since : Nat
  source : Nat
  deriving DecidableEq, Repr

/-- A learn request (R201, R202). -/
structure LearnReq where
  realm : Nat
  mac : Nat
  dest : Nat
  fabric : Bool
  deriving DecidableEq, Repr

/-- A message of control lane 2 (Table 1-3): an evidence request or a signal-tap value (R306). -/
inductive Lane2 where
  | ev (r : EvReq)
  | tap (row : Nat) (value : Nat) (ts : Nat) (slot : Nat)
  deriving DecidableEq, Repr

/-- What the part has sent out: the model's own record, newest first. -/
inductive Out where
  | odResponse (sess status : Nat) (value : Bytes)
  | canTx (slot : Nat) (frame : Frame)
  | canPwm (slot short long offset : Nat)
  | linTx (slot : Nat) (frame : Frame) (check : Nat)
  | linHeader (slot breakBits : Nat) (bytes : Bytes)
  | linPulse (slot : Nat)
  | ethTx (slot : Nat) (bytes : Bytes) (fcsOk : Bool)
  | gptpTx (slot kind : Nat) (bytes : Bytes)
  | controlWordAck (slot : Nat)
  | advertise (slot : Nat) (fullDuplex rxPause txPause : Bool)
  | linkFault (slot signal : Nat)
  | mdio (slot op phy devad reg data : Nat)
  | sdo (slot : Nat) (frame : Frame)
  | anise (env : AniseEnv) (msg : Bytes)
  | evStatus (status : Word) (words : List Word)
  | doorbell (die source : Nat)
  | regRead (die core addr value : Nat)
  | accessFault (die core addr : Nat)
  | jtag (shifted : Nat)
  deriving DecidableEq, Repr

/-- An MDIO operation (R174): slot, operation 1 to 4, PHY address, device, register, write data, the session that asked and the answer it gets at the end, none where its
mailbox waits. -/
structure MdioOp where
  slot : Nat
  op : Nat
  phy : Nat
  devad : Nat
  reg : Nat
  data : Nat
  sess : Nat
  answer : Option Out
  deriving DecidableEq, Repr

/-- What one tap has pending at a die (R307): the instant of the value last sent and the value held for the end of minInterval. -/
structure TapHold where
  lastSent : Nat := 0
  everSent : Bool := false
  held : Option (Nat × Nat × Nat) := none
  deriving DecidableEq, Repr

/-- A switch die's own state (R27, R274): health state of Table 9-3, the fault classes in force on it, whether its image is loaded and it
is in reset, its runtime pair, its bank clock, the fault messages (class and unit) that wait for its control link on lane 0 (R32, R276) and the doorbells that wait to cross it to the die (`bells`), lane 2 buffer and coalescing table, the held events its last health report stated,
learning, forwarding database, damaged tables (R285), RED seed and draws (R223), the SRAM of its runtime pair by word (R2, R27), whether its VIO_BUS is in range (R456), MDIO, tap holds, producers held by
back-pressure and the frames of its PRC ports that wait for it (R224), and whether it waits for the apply that brings its tables back (R283). -/
structure Die where
  state : Nat := 1
  causes : List Nat := []
  image : Bool := false
  inReset : Bool := true
  supplied : Bool := false
  runtimeUp : Bool := false
  vcoreLow : Bool := false
  clockOk : Bool := true
  linkReset : Bool := false
  lane0 : List (Nat × Nat) := []
  bells : List Nat := []
  lane2 : List Lane2 := []
  coal : Coalesce := {}
  lastHeld : Nat := 0
  learnQ : List LearnReq := []
  fdb : NMap FdbEntry := []
  sweep : Nat := 0
  damaged : List Nat := []
  redSeed : BitVec 256 := 0
  redDraws : Nat := 0
  rtSram : NMap Nat := []
  busUp : Bool := false
  mdio : List MdioOp := []
  taps : NMap TapHold := []
  held : List (Nat × Copy) := []
  decapRest : Option (Copy × Nat) := none
  prcWait : List (Nat × Nat × Bytes) := []
  wakeReports : List (Nat × Nat) := []
  joining : Bool := false
  deriving DecidableEq, Repr

/-- A fabric link end (R35, R36, R275): whether it has failed, the copies on their way over it, oldest first (the class, the copy itself
where it is in transit and has no place in this die's buffer, and how many of its cells the far end has acknowledged), the transit copies waiting in its link buffers, and the CRC failures in a row
of the cell being sent. -/
structure LinkEnd where
  failed : Bool := false
  inFlight : List (Nat × Option Copy × Nat) := []
  transit : List Copy := []
  crcRow : Nat := 0
  keepAlives : Nat := 0
  deriving DecidableEq, Repr

/-- The CTRL and STATUS fields every register block shares (Table 14-2), and the pending re-enable of R399. -/
structure Block where
  en : Bool := false
  disabling : Bool := false
  again : Bool := false
  cfgIgn : Bool := false
  parErr : Bool := false
  fault : Bool := false
  conflict : Bool := false
  cfgBad : Bool := false
  deriving DecidableEq, Repr

/-- One target's half of a die's interrupt controller (R406 to R411): pending, active, LOST and enable bits by source number, priorities in
nibbles by source, threshold, remote messages by sender, and the block's own bits. -/
structure IntcTarget where
  pend : Nat := 0
  active : Nat := 0
  lost : Nat := 0
  enable : Nat := 0
  prio : Nat := 0
  thresh : Nat := 0
  rmsg : NMap Nat := []
  blk : Block := {}
  cplRej : Bool := false
  dbRej : Bool := false
  deriving DecidableEq, Repr

/-- A queue pair (Table 14-7). Positions count words since the pair was enabled (R416); `discard` is the rest of an oversize item (R414). -/
structure Qp where
  blk : Block := {}
  itemIe : Bool := false
  holdIe : Bool := false
  txIe : Bool := false
  rxBase : Nat := 0
  rxSize : Nat := 0
  txBase : Nat := 0
  txSize : Nat := 0
  rxMarks : Nat := 0xFFFF0000
  txMarks : Nat := 0xFFFF0000
  rxWr : Nat := 0
  rxRd : Nat := 0
  rxRel : Nat := 0
  rxMk : Nat := 0
  txWr : Nat := 0
  txTaken : Nat := 0
  txErrs : Nat := 0
  txOvr : Bool := false
  txHi : Bool := false
  txErr : Bool := false
  rxHold : Bool := false
  rxUnder : Bool := false
  discard : Nat := 0
  deriving DecidableEq, Repr

/-- A timer (Table 14-5): `count` is COUNT at tick `since`. Owners: 0 none, 1 runtime pair, 2 application pair, 3 D0. -/
structure Timer where
  blk : Block := {}
  ie : Bool := false
  periodic : Bool := false
  load : Nat := 0
  count : Nat := 0
  since : Nat := 0
  owner : Nat := 0
  exp : Bool := false
  missed : Bool := false
  deriving DecidableEq, Repr

/-- A GPIO pin (Table 14-5); `toggled` is its timer output (FUNC 2). -/
structure Pin where
  blk : Block := {}
  timer : Nat := 0
  slew : Nat := 0
  pull : Nat := 0
  func : Nat := 0
  owner : Nat := 0
  toggled : Bool := false
  deriving DecidableEq, Repr

/-- The mailbox (R419): `op` is the OD request being served (operation, staged). -/
structure Mailbox where
  blk : Block := { en := true }
  ie : Bool := false
  coll : Bool := false
  done : Bool := false
  busy : Bool := false
  result : Nat := 0
  op : Nat := 0
  staged : Bool := false
  index : Nat := 0
  row : Nat := 0xFFFFFFFF
  len : Nat := 0
  data : NMap Nat := []
  deriving DecidableEq, Repr

/-- Where a bridge transfer stands (R420 to R424): on its way; NACKed, with its NACKs so far; without an answer; or failed with a cause of
Table 14-10. -/
inductive Way where
  | go | nacked (n : Nat) | silent | failed (cause : Nat)
  deriving DecidableEq, Repr

/-- A posted write not yet applied or not yet reported, or a read that waits (R420): far die, address in its map, value, tag. -/
structure Transfer where
  die : Nat
  addr : Nat
  value : Nat
  tag : Nat
  way : Way
  deriving DecidableEq, Repr

/-- What the bridge keeps per core (Table 14-3): failed-write bits, tag of the last posted write and the next tag, last failed read, back-offs,
fence count, posted writes in issue order, the read that waits, and whether a fence waits. -/
structure BridgeCore where
  pfsrc : Nat := 0
  lastTag : Nat := 0
  tags : Nat := 0
  errStat : Nat := 0
  errAddr : Nat := 0
  retry : Nat := 0
  fence : Nat := 0
  posted : List Transfer := []
  read : Option Transfer := none
  fencing : Bool := false
  deriving DecidableEq, Repr

/-- The bridge of a die (R420 to R425): per core, semaphore holders (die × 16 + core, plus 1), semaphores whose holder's pair has been reset,
SEMREL, failure log. -/
structure Bridge where
  blk : Block := { en := true }
  cores : NMap BridgeCore := []
  sems : NMap Nat := []
  orphans : Nat := 0
  semRel : Nat := 0
  logNext : Nat := 0
  logAddr : NMap Nat := []
  logInfo : NMap Nat := []
  deriving DecidableEq, Repr

/-- The capture ring's registers on a die (R418). -/
structure Capture where
  blk : Block := {}
  badIdx : Bool := false
  wr : Nat := 0
  rd : Nat := 0
  deriving DecidableEq, Repr

/-- A die's application pair and the registers of its map (R396 to R428). -/
structure App where
  running : Bool := false
  sys : Block := {}
  kickErr : Bool := false
  resetCause : Nat := 0
  wdtTimeout : Nat := 1000
  kicked : Nat := 0
  eccCorr : Nat := 0
  eccAddr : Nat := 0
  sram : NMap Nat := []
  timers : NMap Timer := []
  pins : NMap Pin := []
  dout : Nat := 0
  qps : NMap Qp := []
  turn : Nat := 0
  mbx : Mailbox := {}
  bridge : Bridge := {}
  cap : Capture := {}
  shadows : NMap Nat := []
  restarts : List Nat := []
  delayArmed : Bool := false
  reloading : Bool := false
  started : Nat := 0
  deriving DecidableEq, Repr

/-- A tunnel row's engine state (R253 to R262): next sequence number, receive rule, and the open PDU: its messages and count, class of its
first message, worst colour, first message's timestamp, route row and ingress, and whether the flush timer runs. -/
structure Tunnel where
  txSeq : Nat := 0
  rxLast : Nat := 0
  synced : Bool := false
  isOpen : Bool := false
  msgs : Bytes := []
  count : Nat := 0
  cls : Nat := 0
  colour : Nat := 0
  ts : Nat := 0
  route : Nat := 0
  timer : Bool := false
  deriving DecidableEq, Repr

/-- A placement result (R267 to R272): route rows in each port bank (key: port code) and slice memory (key: 2 × (n − 1) + slice),
policer dies, replication points (key: row key), tunnel dies and engines, paths (primary, alternate by R268 encoding; key (a − 1) × 8 +
(b − 1)), static FDB rows per die, taps per die, capture die, pool sizes, ATOMIC credit groups, the placed list of 0x2703, and the unplaced items with how many they are (R282). -/
structure Placement where
  banks : NMap (List Nat) := []
  tcams : NMap (List Nat) := []
  policers : NMap Nat := []
  replication : NMap Nat := []
  tunnels : NMap (Nat × Nat) := []
  paths : NMap (Nat × Nat) := []
  statics : NMap (List Nat) := []
  taps : NMap (List Nat) := []
  capture : Nat := 0
  pools : NMap Nat := []
  resv : NMap (List Nat) := []
  placed : List (Nat × Nat × Nat × Nat × Nat) := []
  unplaced : Nat := 0
  missed : List (Nat × Nat) := []
  deriving DecidableEq, Repr

/-- The placement engine (R273, R280): the placement in force, the one each ISOLATED die keeps, the result waiting for its apply, and
whether a health recomputation is running, with its trigger. -/
structure Sumac where
  inForce : Placement := {}
  perDie : NMap Placement := []
  waiting : Option Placement := none
  computing : Bool := false
  interrupted : Bool := false
  trigger : Nat := 0
  healthChanged : Bool := false
  deriving DecidableEq, Repr

/-- An evidence limiter (R116): whether its interval runs, and the outstanding events: how many, the first one's request, and the gPTP
time of the last. -/
structure Limiter where
  running : Bool := false
  outstanding : Nat := 0
  first : Option EvReq := none
  last : Nat := 0
  deriving DecidableEq, Repr

/-- A port's own state beside its OD values (chapters 4, 5): parking and hold timer (R231), bus integration (R106), bus-off recovery (R114), rule
blocks by rule row (R117), the cause of FAULT and the instant of the last parity fault (R110, R134, R285), LIN schedule, header and response
buffers (R126 to R128), go-to-sleep sent (R379), wake frame or pulse (R391), link, its delay timers, speed and duplex (R141, R168), received
pause by class and penalties (R154 to R156), asserted classes (R157), PN warnings by AN (R165), the drain timer (R131), a reconfiguration that
waits for the frame in transmission (R133), another node's frame in reception since arbitration was lost to it (R111, R133), the last loop delay of FD and of
XL frames and the secondary sample point of the last such frame (R108), the fault that a trunk signals (R142: 1 local, 2 remote), pause frames that wait for a frame
boundary (R157), peer delay requests without an answer (R159), and the entries whose committed change the block has not taken (R132, R133), at their old values. -/
structure Port where
  parked : Bool := false
  holdRunning : Bool := false
  holdExpired : Bool := false
  integrating : Bool := false
  restartArmed : Bool := false
  recovering : Bool := false
  blocks : List Nat := []
  clockStopped : Bool := false
  parityFault : Bool := false
  lastParity : Option Nat := none
  linPos : Nat := 0
  linBuf : NMap Copy := []
  linHeader : Option Nat := none
  linAwait : Option Nat := none
  sleepSent : Bool := false
  wakePending : Bool := false
  pulse : Bool := false
  scheduleDelayed : Bool := false
  linkUp : Bool := false
  downTimer : Bool := false
  upTimer : Bool := false
  speed : Nat := 2
  halfDuplex : Bool := false
  pauseHeld : Nat := 0
  penalty : Nat := 0
  asserted : Nat := 0
  pnWarned : Nat := 0
  drainTimer : Bool := false
  reconfigure : Bool := false
  rxBusy : Bool := false
  tdcFd : Nat := 0
  tdcXl : Nat := 0
  ssp : Option Nat := none
  txFault : Nat := 0
  pauseOut : List Bytes := []
  pdelayLost : Nat := 0
  kept : NMap Nat := []
  deriving DecidableEq, Repr

/-- What D0 keeps in MRAM beside the evidence, store and key records: freshness values and PN state written every second, and the reserved
limits of transmit counters (R122, R165), pulse counts and reversed states (R302), the last placement and its digest (R390), the life-cycle pair
last recorded (R355), and state and offending slot of the rules (R313). -/
structure Mram where
  latest : NMap Nat := []
  reserved : NMap Nat := []
  spdCounts : NMap Nat := []
  spdReversed : Nat := 0
  spdRtc : Nat := 0
  lastWriteRtc : Nat := 0
  placement : Placement := {}
  placementDigest : Option Nat := none
  lifecycle : Nat := 0
  lifecycleCopies : Nat := 3
  commitPhase : Bool := false
  commitWseq : Nat := 0
  rules : NMap (Nat × Nat) := []
  deriving DecidableEq, Repr

/-- The power modes of Table 13-1, with the start sequence of Table 13-4 and the entry sequence of Table 13-2 between them. -/
inductive PMode where
  | off | starting | run | entering | listen | standby
  deriving DecidableEq, Repr

/-- How far a start has come (Table 13-4): waiting for supplies, for the guard firmware, for the switch-die images, for tables and keys. -/
inductive StartPhase where
  | supplies | firmware | images | tables
  deriving DecidableEq, Repr

/-- The power-state controller (R376 to R394). `guardSupplied` is that VANA and VIO_M are in range, `vioM` that VIO_M is; `flash8D` is that the xSPI flash stands
in 8D-8D-8D mode (R470), `noGuard` that the boot ROM found no guard image (R447). `target` is the mode an entry goes to (1 LISTEN, 2 STANDBY), `halted` that its t1 has
passed, `enabled` the slots enabled at its t0; `cause` is the START cause, `left` the mode left, `wakeSeen` that a wake event has
started this return. -/
structure Power where
  mode : PMode := .off
  phase : StartPhase := .supplies
  resetN : Bool := true
  inh : Bool := false
  vsel : Bool := false
  guardSupplied : Bool := false
  vioM : Bool := false
  flash8D : Bool := false
  noGuard : Bool := false
  target : Nat := 0
  halted : Bool := false
  enabled : List Nat := []
  cause : Nat := 0
  left : Nat := 3
  wakeSeen : Bool := false
  wakePort : Nat := 0xFFFF
  idleFrom : Nat := 0
  deriving DecidableEq, Repr

/-- An entry the always-on island holds (R387). -/
structure IslandEntry where
  type : Nat
  unit : Nat
  payload : Bytes
  rtc : Nat
  count : Nat
  deriving DecidableEq, Repr

/-- A tamper loop (R384): the event in force (0 intact), and the last sample: whether B matched A, and B. -/
structure TamperLoop where
  state : Nat := 0
  lastMatch : Bool := true
  lastB : Bool := false
  deriving DecidableEq, Repr

/-- The always-on island (R26, R387, R388). -/
structure Island where
  held : List IslandEntry := []
  overflow : Nat := 0
  decErr : NMap Nat := []
  loops : NMap TamperLoop := []
  tamperSeed : BitVec 256 := 0
  tamperIndex : Nat := 0
  calibratedAt : Nat := 0
  deriving DecidableEq, Repr

/-- SAFE_N, the supervisor and the fault log (R278, R286 to R289, R292, R369): whether the start configuration has been applied, whether a fault or condition has driven
SAFE_N low and it has not risen again, the conditions that still hold, the supervisor's watchdog, the engines out of service, and the SRAM of the security core
pair by word (R23). -/
structure Safe where
  applied : Bool := false
  driven : Bool := false
  conds : List Nat := []
  supervisorStopped : Bool := false
  refreshedAt : Nat := 0
  supervisorRestarting : Bool := false
  securityDown : Bool := false
  noSha : Bool := false
  noAes : Bool := false
  noTrng : Bool := false
  summaryRunning : Bool := false
  summaryMask : Nat := 0
  summarySum : Nat := 0
  faultSeq : Nat := 0
  engines : NMap Nat := []
  coreSram : NMap Nat := []
  deriving DecidableEq, Repr

/-- A key record (Table 12-7). `iv` and `boxed` are the wrapped material (IV, ciphertext and tag); `intact` is false once its CRC or its MRAM
words no longer check (R368). -/
structure KeyRecord where
  kind : Nat
  root : Nat
  parent : Nat
  parentGen : Nat
  ownGen : Nat
  usage : Nat
  blocks : Nat
  dies : Nat
  length : Nat
  origin : Nat
  relation : Nat
  label : Nat
  kcv : Nat
  iv : Bytes
  boxed : Bytes
  crc : Nat := 0
  intact : Bool
  deriving DecidableEq, Repr

/-- The key store (R364, R368, R369): records by slot, the generations of the three roots, the slots whose first failure after their last change
has been recorded, and the slots whose material the port blocks hold. -/
structure KeyStore where
  records : NMap KeyRecord := []
  genMfg : Nat := 0
  genField : Nat := 0
  genService : Nat := 0
  failed : List Nat := []
  held : List Nat := []
  deriving DecidableEq, Repr

/-- The fuse regions a part burns in use (Tables 12-1, 12-4): the three life-cycle copies, the roots, the identity seed (SEED and I as one number),
which of them are written, how many regions of a blob a cut provisioning left burnt (R371), and the lock bits. -/
structure Fuses where
  copy1 : Nat := 0
  copy2 : Nat := 0
  copy3 : Nat := 0
  mfgRoot : Nat := 0
  fieldRoot : Nat := 0
  serviceRoot : Nat := 0
  seed : Nat := 0
  rootsWritten : Bool := false
  burnt : Nat := 0
  seedWritten : Bool := false
  lockTransport : Bool := false
  lockDuk : Bool := false
  lockMfg : Bool := false
  lockRoots : Bool := false
  lockSeed : Bool := false
  deriving DecidableEq, Repr

/-- A life-cycle request not yet confirmed (R358): session, target, token, and the tick of the first write. -/
structure LifeRequest where
  sess : Nat
  target : Nat
  token : Nat
  since : Nat
  deriving DecidableEq, Repr

/-- A transition that has been confirmed and waits for its first seal (R359): target, access point code and level of the session. -/
structure LifeChange where
  target : Nat
  ap : Nat
  level : Nat
  deriving DecidableEq, Repr

/-- The life cycle (R354 to R360): state (0 BLANK, 1 PROVISIONED, 2 FIELD, 3 SERVICE, 4 RETIRED, 5 RETIRED-pending), agreeing copies, pending request,
transition under way, the record that RETIRED-pending waits for, when SERVICE began with its timeout in seconds, and the instants of the challenges of the last
second (R373); `barred` lasts from a start in SERVICE that the return to FIELD is due at until that return (R360). -/
structure Life where
  state : Nat := 0
  agree : Nat := 3
  request : Option LifeRequest := none
  change : Option LifeChange := none
  pendingSeq : Nat := 0
  serviceFrom : Nat := 0
  serviceTime : Nat := 0
  barred : Bool := false
  challenges : List Nat := []
  deriving DecidableEq, Repr

/-- One condition of Table 10-2 on an input: whether it is confirmed, and since when and how often in a row the opposite has been observed. -/
structure DiagCond where
  on : Bool := false
  run : Nat := 0
  since : Nat := 0
  deriving DecidableEq, Repr

/-- A multifunction input (R294 to R296): its last conversions in µV, newest first, the comparator's level, the digital value that waits out its
debounce, the reference edge, rising edges (newest first) and high ticks of the running gate, and its diagnostics by code. -/
structure MiInput where
  convs : List Int := []
  lastConv : Int := 0
  level : Bool := false
  has : Bool := false
  debounce : Bool := false
  ref : Option Nat := none
  rises : List Nat := []
  rise : Nat := 0
  high : Nat := 0
  highDone : Nat := 0
  edgeOver : Bool := false
  diags : NMap DiagCond := []
  deriving DecidableEq, Repr

/-- A speed input (R298 to R302): pulse count, reversed state, its validity, overrange and open states, counted edges since it became valid
(newest first), the reference edge of the new kind after a reversal, periods in a row that are good or too long high, and whether the next edge becomes
that reference. -/
structure SpdInput where
  count : Nat := 0
  reversed : Bool := false
  valid : Bool := false
  overrange : Bool := false
  isOpen : Bool := false
  edges : List Nat := []
  ref : Option Nat := none
  good : Nat := 0
  longRun : Nat := 0
  refNext : Bool := false
  deriving DecidableEq, Repr

/-- A plausibility rule (Table 10-4): state, whether its timer runs, when PENDING was entered (gPTP), and the offending slot. -/
structure RuleSt where
  state : Nat := 0
  timer : Bool := false
  pendingAt : Nat := 0
  slot : Nat := 0xFFFF
  deriving DecidableEq, Repr

/-- The guard die's measurements (chapter 10): multifunction and speed inputs, the last 16 conversions of VBATP in µV and how many there have been
since the start, the sampled WK levels, the held value of each tap (value, ingress timestamp, slot), and the rules. -/
structure Measure where
  mi : NMap MiInput := []
  spd : NMap SpdInput := []
  vbat : List Int := []
  vbatSum : Int := 0
  vbatCount : Nat := 0
  wk : Option Nat := none
  taps : NMap (Nat × Nat × Nat) := []
  rules : NMap RuleSt := []
  deriving DecidableEq, Repr

/-- Update (chapter 15): the flash's images by row (part × 2 + slot) and its delta area; D0's slot record in MRAM (R431): active slots, slot states,
measurements, floors, and the part in trial; the OEM key; which of the three MRAM copies of each part's record (part × 3 + copy) and of the key (12 + copy) are
damaged; the state of Table 15-6 and its part; the parts loaded at this start; whether the trial
window runs, and from which tick. -/
structure Update where
  images : NMap Bytes := []
  delta : Bytes := []
  active : NMap Nat := []
  slotState : NMap Nat := []
  meas : NMap Nat := []
  floors : NMap Nat := []
  badCopies : List Nat := []
  trial : Option Nat := none
  oemKey : Nat := 0
  state : Nat := 0
  part : Nat := 0xFF
  loaded : List Nat := []
  window : Bool := false
  windowFrom : Nat := 0
  migrated : Bool := false
  deriving DecidableEq, Repr

/-- The IEEE 1149.1 port (R479): the selected instruction (0 BYPASS, 1 SAMPLE/PRELOAD, 2 EXTEST), and the boundary cells' update values. -/
structure Jtag where
  instr : Nat := 0
  cells : Nat := 0
  deriving DecidableEq, Repr

/-- The output balls whose level follows the state (R286, R341, R456, R470, R479): EV_DAT, EV_HI, SAFE_N low, and whether D0 drives it; whether D0's other type D
outputs are driven, and its FL_ outputs, which a device without a guard image keeps in high impedance (R447); the dies whose type D outputs are driven, and those that drive CAN TXD and LIN TX, high (recessive) where the port is not transmitting;
FL_RESET_N low; and, while EXTEST is in force, the cells that drive the balls of the chain in place of all these. -/
structure Pins where
  evDat : Bool
  evHi : Bool
  safeLow : Bool
  safeDriven : Bool := false
  d0Out : Bool := false
  flOut : Bool := false
  diesOut : List Nat := []
  busOut : List Nat := []
  flResetLow : Bool := false
  extest : Option Nat := none
  deriving DecidableEq, Repr

/-- The machine. -/
structure State where
  variant : Variant
  clock : Clock
  od : OdStore
  sessions : NMap Session
  lockouts : NMap Lockout
  sidZero : List Nat
  relays : NMap (List Out)
  lockHolder : Option Nat
  commit : Commit
  bankStore : NMap StoreCopy
  sdo : SdoTransfer
  ev : Evidence
  power : Power
  island : Island
  safe : Safe
  dies : NMap Die
  queues : NMap (List Copy)
  bp : NMap BackPressure
  policers : NMap Policer
  credits : NMap Nat
  links : NMap LinkEnd
  markers : NMap Nat
  ports : NMap Port
  limiters : NMap Limiter
  fresh64 : NMap Nat
  txCounters : NMap Nat
  mram : Mram
  lastGen : NMap Nat
  sumac : Sumac
  intc : NMap IntcTarget
  apps : NMap App
  tunnels : NMap Tunnel
  creditDue : NMap Nat
  samples : NMap Nat
  keys : KeyStore
  fuses : Fuses
  life : Life
  measure : Measure
  update : Update
  jtag : Jtag
  nextFid : Nat
  pins : Pins
  fresh : Nat
  out : List Out
  pending : List Instr
  deriving DecidableEq, Repr

/-- The machine before VAON rises (R393): nothing stored, nothing running. The variant is DESIGN CHOICE (log 2). -/
def State.reset : State where
  variant := .az8108
  clock := ⟨0, 0, 0, 0, 0, false, false, 0, 0⟩
  od := ⟨[], [], [], []⟩
  sessions := []
  lockouts := []
  sidZero := []
  relays := []
  lockHolder := none
  commit := ⟨.idle, false, 0, 0, [], false⟩
  bankStore := []
  sdo := .none
  ev := {}
  power := {}
  island := {}
  safe := {}
  dies := []
  queues := []
  bp := []
  policers := []
  credits := []
  links := []
  markers := []
  ports := []
  limiters := []
  fresh64 := []
  txCounters := []
  mram := {}
  lastGen := []
  sumac := {}
  intc := []
  apps := []
  tunnels := []
  creditDue := []
  samples := []
  keys := {}
  fuses := {}
  life := {}
  measure := {}
  update := {}
  jtag := {}
  nextFid := 1
  pins := { evDat := false, evHi := false, safeLow := true }
  fresh := 0
  out := []
  pending := []

end Sys2Proof.Machine
end

