-- ==== Sys2Proof/Machine/Od.lean ====
section
/-! DEFINITION. Reading and writing the object dictionary's images by entry, row, slot and die (R58 to R66). -/

namespace Sys2Proof.Machine
open Sys2Proof

/-- Switch dies of a part (R1). -/
def Variant.nc : Variant → Nat
  | .az8102 => 1
  | .az8104 => 3
  | .az8108 => 7

/-- The die of a slot (R16). -/
def slotDie (slot : Nat) : Nat := slot / 32 + 1
/-- The local number of a slot (R16). -/
def slotLocal (slot : Nat) : Nat := slot % 32
def isCan (slot : Nat) : Bool := slotLocal slot < 8
def isLin (slot : Nat) : Bool := 8 ≤ slotLocal slot && slotLocal slot < 12
def isEth (slot : Nat) : Bool := 16 ≤ slotLocal slot && slotLocal slot < 21
def isTrunk (slot : Nat) : Bool := slotLocal slot == 20
/-- A slot names a port of the part (R16, R17). -/
def Variant.hasSlot (v : Variant) (slot : Nat) : Bool :=
  slotDie slot ≤ v.nc && (isCan slot || isLin slot || isEth slot)
/-- A number names a switch die of the part. -/
def Variant.hasDie (v : Variant) (n : Nat) : Bool := 1 ≤ n && n ≤ v.nc

/-- The row word of an entry outside a TABLE (Table 3-13). -/
def noRow : Nat := 0xFFFFFFFF

/-- The key of an entry (index × 256 + subindex) and row. -/
def okey (e row : Nat) : Nat := e * 4294967296 + row
def keyEntry (k : Nat) : Nat := k / 4294967296
def keyRow (k : Nat) : Nat := k % 4294967296
def keyIndex (k : Nat) : Nat := k / 1099511627776
def keySub (k : Nat) : Nat := keyEntry k % 256

/-- Every object (R66). -/
def odAll : List OdObject :=
  odGeneral ++ odPorts ++ odSwitch ++ odField ++ odSystem

/-- An object stands at an index on a part (R17, R66). -/
def OdObject.covers (v : Variant) (o : OdObject) (idx : Nat) : Bool :=
  decide (o.base ≤ idx) &&
  match o.cls with
  | .one => idx == o.base
  | .canSlot => v.hasSlot (idx - o.base) && isCan (idx - o.base)
  | .linSlot => v.hasSlot (idx - o.base) && isLin (idx - o.base)
  | .ethSlot => v.hasSlot (idx - o.base) && isEth (idx - o.base)
  | .perDie => decide (idx - o.base < v.nc)
  | .count n => decide (idx - o.base < n)

/-- The object at an index. -/
def odObject (v : Variant) (idx : Nat) : Option OdObject := odAll.find? (fun o => o.covers v idx)

/-- An entry exists on this part beside its table row: die default routes end at N_C (R213), a clock divider exists
in the ETH0 slots alone (R174). -/
def odEntryPresent (v : Variant) (idx sub : Nat) : Bool :=
  if idx == 0x2440 && decide (0x10 ≤ sub) then decide (sub - 0x0F ≤ v.nc)
  else if decide (0x2000 ≤ idx) && decide (idx < 0x2100) && isEth (idx - 0x2000) && sub == 0x66 then slotLocal (idx - 0x2000) == 16
  else true

/-- The table row of an entry. -/
def odEntry (v : Variant) (e : Nat) : Option OdEntry :=
  match odObject v (e / 256) with
  | none => none
  | some o => if odEntryPresent v (e / 256) (e % 256) then o.entries.find? (fun x => x.lo ≤ e % 256 && e % 256 ≤ x.hi) else none

/-- Rows of a TABLE on this part, 0 for a VAR or RECORD. -/
def OdObject.rows (v : Variant) (o : OdObject) : Nat := if o.capDie then o.cap * v.nc else o.cap

/-- The number of bytes of a type's values, `none` where it varies (Table 3-1). -/
def OdType.size : OdType → Option Nat
  | .bool | .u8 | .i8 => some 1
  | .u16 => some 2
  | .u32 | .f32 => some 4
  | .u64 | .i64 => some 8
  | .oct n => some n
  | .str | .dom _ => none

/-- The Default column of an entry, with the defaults that depend on the part: a port's MAC address (R97, Table 5-7) and a
trunk's lane mode. -/
def odDefault (v : Variant) (e : Nat) : Nat :=
  let idx := e / 256
  let sub := e % 256
  if decide (0x2000 ≤ idx) && decide (idx < 0x2100) && isEth (idx - 0x2000) && sub == 0x06 then
    Config.macBase.toNat + (idx - 0x2000) * 2 ^ 40
  else if decide (0x2000 ≤ idx) && decide (idx < 0x2100) && isTrunk (idx - 0x2000) && sub == 0x03 then 2
  else match odEntry v e with
    | some x => x.dflt
    | none => 0

/-- The effective default of a key (R62). -/
def State.effDefault (s : State) (k : Nat) : Nat :=
  match mfind s.od.defaultsImg k with
  | some x => x
  | none => odDefault s.variant (keyEntry k)

/-- The active value of a row field (R62). -/
def State.cfgRow (s : State) (e row : Nat) : Nat :=
  match mfind s.od.active (okey e row) with
  | some x => x
  | none => odDefault s.variant e

/-- The active value of an entry outside a TABLE. -/
def State.cfg (s : State) (e : Nat) : Nat := s.cfgRow e noRow
/-- The value of a port's entry, named by its entry at slot 0, as the port block uses it: the active value, or the value the block still holds
(R132, R133). -/
def State.cfgSlot (s : State) (e slot : Nat) : Nat :=
  match mfind (mget {} s.ports slot).kept (e + slot * 256) with
  | some v => v
  | none => s.cfg (e + slot * 256)
/-- A boolean entry. -/
def State.cfgOn (s : State) (e : Nat) : Bool := s.cfg e == 1
def State.cfgSlotOn (s : State) (e slot : Nat) : Bool := s.cfgSlot e slot == 1
def State.cfgRowOn (s : State) (e row : Nat) : Bool := s.cfgRow e row == 1

/-- A value only the device changes: status and counters. -/
def State.stRow (s : State) (e row : Nat) : Nat := mget (odDefault s.variant e) s.od.stat (okey e row)
def State.st (s : State) (e : Nat) : Nat := s.stRow e noRow
def State.stSlot (s : State) (e slot : Nat) : Nat := s.st (e + slot * 256)

/-- Set a status value; a value equal to the Default column leaves the key unlisted. -/
def State.setRow (s : State) (e row v : Nat) : State :=
  { s with od := { s.od with stat := mset (odDefault s.variant e) s.od.stat (okey e row) v } }
def State.set (s : State) (e v : Nat) : State := s.setRow e noRow v
def State.setSlot (s : State) (e slot v : Nat) : State := s.set (e + slot * 256) v

/-- Set an active value (an apply, R89, or a live write, R63). -/
def State.setCfgRow (s : State) (e row v : Nat) : State :=
  { s with od := { s.od with active := mset (odDefault s.variant e) s.od.active (okey e row) v } }
def State.setCfg (s : State) (e v : Nat) : State := s.setCfgRow e noRow v

/-- The value after the largest of an entry's type, at which its counter wraps (R137). -/
def odModulus (v : Variant) (e : Nat) : Nat :=
  match odEntry v e with
  | some x => 256 ^ (x.ty.size.getD 8)
  | none => 4294967296

/-- Count events: counters wrap at their maximum (R137). -/
def State.countRow (s : State) (e row : Nat) (n : Nat := 1) : State :=
  s.setRow e row ((s.stRow e row + n) % odModulus s.variant e)
def State.count (s : State) (e : Nat) (n : Nat := 1) : State := s.countRow e noRow n
def State.countSlot (s : State) (e slot : Nat) (n : Nat := 1) : State := s.count (e + slot * 256) n
/-- Count in a per-die record: base + (n − 1). -/
def State.countDie (s : State) (e n : Nat) (k : Nat := 1) : State := s.count (e + (n - 1) * 256) k
def State.cfgDie (s : State) (e n : Nat) : Nat := s.cfg (e + (n - 1) * 256)
def State.stDie (s : State) (e n : Nat) : Nat := s.st (e + (n - 1) * 256)
def State.setDie (s : State) (e n v : Nat) : State := s.set (e + (n - 1) * 256) v

/-- Rows of a TABLE whose field `valid` (sub 0x01, entry `e`) is true in the active image, in rising order. -/
def State.validRows (s : State) (e : Nat) : List Nat :=
  (s.od.active.filterMap (fun p => if keyEntry p.1 == e && p.2 == 1 then some (keyRow p.1) else none))

end Sys2Proof.Machine
end

