-- ==== Sys2Proof/Machine/Ops.lean ====
section
/-! DEFINITION. Named operations over the state that every chapter uses: outcomes, time, outputs, dies, interrupts,
doorbells and evidence requests. -/

namespace Sys2Proof.Machine
open Sys2Proof

abbrev Result := Host.Outcome State Fault Refusal


/-- An effect under a condition; the state unchanged otherwise (an event that does not apply, log 6). -/
def State.when (s : State) (c : Bool) (f : State → State) : State := if c then f s else s

/-- gPTP time in ns (R159): the base plus 25 ns a tick. -/
def State.gptp (s : State) : Nat := (s.clock.gptpBase + 25 * s.clock.ticks) % 2 ^ 64

/-- RTC seconds (R100). -/
def State.rtc (s : State) : Nat := (s.clock.rtcBase + (s.clock.xrtc - s.clock.rtcTick) / 32768) % 2 ^ 32

/-- Ticks of a number of milliseconds. -/
def msTicks (ms : Nat) : Nat := ms * 40000

/-- Record an output. -/
def State.emit (s : State) (o : Out) : State := { s with out := o :: s.out }

/-- A switch die's own state. -/
def State.die (s : State) (n : Nat) : Die := mget {} s.dies n
def State.setDieState (s : State) (n : Nat) (d : Die) : State := { s with dies := mset {} s.dies n d }
def State.updDie (s : State) (n : Nat) (f : Die → Die) : State := s.setDieState n (f (s.die n))

/-- The switch dies of the part. -/
def State.dieList (s : State) : List Nat := (List.range s.variant.nc).map (· + 1)

/-- A die is healthy when OK or DEGRADED (R267). -/
def State.healthy (s : State) (n : Nat) : Bool := s.variant.hasDie n && ((s.die n).state == 1 || (s.die n).state == 2)

/-- A die is out of service: LOST or READMITTING (Table 9-3). -/
def State.lostDie (s : State) (n : Nat) : Bool := (s.die n).state == 4 || (s.die n).state == 5

/-- A die runs: its image is loaded and it is not in reset. -/
def State.dieRuns (s : State) (n : Nat) : Bool := s.variant.hasDie n && (s.die n).image && !(s.die n).inReset && !s.lostDie n

/-- D0 is in RUN, the entry sequence included: the blocks of D0 that Table 1-1 powers in RUN work. -/
def State.inRun (s : State) : Bool := s.power.mode == .run || s.power.mode == .entering

/-- A die's control link carries messages to D0 (R31, R276). -/
def State.linkTo (s : State) (n : Nat) : Bool := s.dieRuns n && (s.die n).state != 3

/-- Apply an effect for every member of a list, in order. -/
def State.forAll (s : State) (l : List Nat) (f : State → Nat → State) : State := l.foldl f s

/-- One target's interrupt state; target 0 is the runtime pair, 1 the application pair. -/
def State.intcTarget (s : State) (die target : Nat) : IntcTarget := mget {} s.intc (die * 2 + target)
def State.setIntc (s : State) (die target : Nat) (t : IntcTarget) : State := { s with intc := mset {} s.intc (die * 2 + target) t }

/-- Set bit `b` of a number. -/
def setBit (v b : Nat) : Nat := if bitAt v b then v else v + 2 ^ b
/-- Clear bit `b` of a number. -/
def clearBit (v b : Nat) : Nat := if bitAt v b then v - 2 ^ b else v

/-- A source fires for a target (R411): pending, or LOST when it is pending or active already. -/
def State.fire (s : State) (die target src : Nat) : State :=
  let t := s.intcTarget die target
  if bitAt t.pend src || bitAt t.active src then s.setIntc die target { t with lost := setBit t.lost src }
  else s.setIntc die target { t with pend := setBit t.pend src }

/-- A hardware source of a die (R406, R407): the runtime pair always, the application pair when its route bit is set. -/
def State.raiseSource (s : State) (die src : Nat) : State :=
  let s1 := s.fire die 0 src
  if bitAt (s.cfg E.appIrqRoute) src then s1.fire die 1 src else s1

/-- Doorbell of sources 64 to 69 (Table 1-3) on every reachable switch die. -/
def State.doorbell (s : State) (src : Nat) : State :=
  s.forAll (s.dieList.filter s.dieRuns) (fun s n =>
    if (s.die n).state == 3 then s.updDie n (fun d => { d with bells := d.bells ++ [src] }) else (s.raiseSource n src).emit (.doorbell n src))

/-- Saffron runs (R321, R326). -/
def State.saffronRuns (s : State) : Bool := s.ev.running

/-- Payload bytes: a list of bytes padded with zeros to 32 (R322). -/
def pad (n : Nat) (b : Bytes) : Bytes := (b ++ List.replicate n 0).take n

/-- A request made now by a die (R322, R326). -/
def State.evReq (s : State) (die type unit : Nat) (payload : Bytes) (count : Nat := 1) : EvReq :=
  { type := type, unit := unit % 65536, die := die, time := s.gptp, rtc := s.rtc, deferred := !s.saffronRuns,
    synced := s.clock.synced, rtcOk := s.clock.rtcValid, count := count, payload := pad 32 payload }

/-- The payload bytes that Table 11-2 names as "last", as a first and a following place: an entry takes them from the latest request (R325). -/
def lastField (type : Nat) : Nat × Nat :=
  if type == 0x08 then (8, 16) else if type == 0x0C then (4, 5) else if type == 0x11 then (4, 8) else if type == 0x13 then (24, 28) else (0, 0)

/-- A payload with the fields that Table 11-2 names as "last" from a later one. -/
def withLast (type : Nat) (first later : Bytes) : Bytes :=
  let f := lastField type
  first.take f.1 ++ (later.drop f.1).take (f.2 - f.1) ++ first.drop f.2

/-- Merge a request into a source's coalescing table of 64 entries keyed by type and unit (R325). -/
def Coalesce.add (c : Coalesce) (r : EvReq) : Coalesce :=
  if c.entries.any (fun e => e.type == r.type && e.unit == r.unit) then
    let excess := c.entries.foldl (fun n e => if e.type == r.type && e.unit == r.unit then n + (e.count + r.count - 65535) else n) 0
    { entries := c.entries.map (fun e => if e.type == r.type && e.unit == r.unit then
        { e with count := min 65535 (e.count + r.count),
                 payload := withLast r.type e.payload r.payload } else e),
      overflow := c.overflow + excess }
  else if c.entries.length < 64 then { c with entries := c.entries ++ [r] }
  else { c with overflow := c.overflow + r.count }

/-- The source's table is empty: requests pass directly (R325). -/
def Coalesce.idle (c : Coalesce) : Bool := c.entries.isEmpty && c.overflow == 0

/-- D0 offers a request to the append queue of 256 (R324, R325). -/
def State.requestD0 (s : State) (r : EvReq) : State :=
  if s.ev.coal.idle && s.ev.queue.length < 256 then { s with ev := { s.ev with queue := s.ev.queue ++ [r] } }
  else { s with ev := { s.ev with coal := s.ev.coal.add r } }

/-- A switch die puts a message on its lane 2 when the buffer has room (R31, R32). -/
def State.laneRoom (s : State) (n : Nat) : Bool := (s.die n).lane2.length < Config.laneCapacity

/-- A switch die offers a request on its lane 2, or coalesces it (R325). -/
def State.requestDie (s : State) (n : Nat) (r : EvReq) : State :=
  if (s.die n).coal.idle && s.laneRoom n then s.updDie n (fun d => { d with lane2 := d.lane2 ++ [.ev r] })
  else s.updDie n (fun d => { d with coal := d.coal.add r })

/-- An evidence request of a die, 0 for D0 (R325). -/
def State.evidence (s : State) (die type unit : Nat) (payload : Bytes) (count : Nat := 1) : State :=
  if die == 0 then s.requestD0 (s.evReq die type unit payload count) else s.requestDie die (s.evReq die type unit payload count)

/-- D0 writes its MRAM: the RTC of the last write stands there for the next START record (Table 11-2). -/
def State.mramWrite (s : State) : State := { s with mram := { s.mram with lastWriteRtc := s.rtc } }

/-- The next free value index (log 3). -/
def State.draw (s : State) : State := { s with fresh := s.fresh + 1 }

end Sys2Proof.Machine
end

