-- ==== Sys2Proof/Machine/Evidence.lean ====
section
/-! DEFINITION. Saffron: records, the hash chain, the journal, the evidence FIFO and seals (R321 to R343). -/

namespace Sys2Proof.Machine
open Sys2Proof

/-- The bytes of a 256-bit value, most significant first. -/
def bytes256 (h : BitVec 256) : Bytes := toBE 32 h.toNat

/-- The ASCII bytes of a label. -/
def ascii (t : String) : Bytes := t.toList.map (fun c => BitVec.ofNat 8 c.toNat)

/-- The identity digest `0x1001:08` (R327). -/
def State.idDigest (s : State) : Bytes := bytes256 (Config.sha256 (toLE 60 (s.st E.identityHssPublicKey)))

/-- A record's 64 bytes (Table 11-1). -/
def recordBytes (r : EvReq) (boot seq : Nat) : Bytes :=
  toLE 2 r.type ++ toLE 1 ((if r.deferred then 4 else 0) + (if r.synced then 2 else 0) + (if r.rtcOk then 1 else 0)) ++ toLE 1 r.die ++
  toLE 4 boot ++ toLE 8 seq ++ toLE 8 (if r.deferred then 0 else r.time) ++ toLE 4 r.rtc ++ toLE 2 r.unit ++ toLE 2 r.count ++ pad 32 r.payload

/-- Bytes as 32-bit words, byte 4k of an item at bits [7:0] of word k (R344). -/
def toWords : Bytes → List Word
  | a :: b :: c :: d :: l => BitVec.ofNat 32 (leNat [a, b, c, d]) :: toWords l
  | _ => []

/-- The items of the FIFO as words, the last one marked with the record it ends (R339, R340). -/
def fifoWords (ws : List Word) (seq : Nat) : List FifoWord :=
  ws.dropLast.map (⟨·, 0⟩) ++ (ws.getLast?.map (⟨·, seq⟩)).toList

/-- Words the FIFO holds when full (R339). -/
def fifoSize : Nat := 16384

def Evidence.held (e : Evidence) : Nat := e.fifo.length
def Evidence.unread (e : Evidence) : Nat := e.fifo.length - e.readPos
def Evidence.free (e : Evidence) : Nat := fifoSize - e.fifo.length
def Evidence.full (e : Evidence) : Bool := e.free < 16

def State.updEv (s : State) (f : Evidence → Evidence) : State := { s with ev := f s.ev }

/-- The Evidence port is on (R339). -/
def State.evPortOn (s : State) : Bool := s.cfgOn E.evidencePortEnable

/-- EV_HI follows the held words with hysteresis; its assertion raises source 65 (R341, R343). -/
def State.fifoFlow (s : State) : State :=
  if s.evPortOn then
    if !s.ev.hi && decide (s.cfg E.fifoHighMark ≤ s.ev.held) then (s.updEv (fun e => { e with hi := true })).doorbell 65
    else if s.ev.hi && decide (s.ev.held ≤ s.cfg E.fifoLowMark) then s.updEv (fun e => { e with hi := false })
    else s
  else s.updEv (fun e => { e with hi := false })

/-- The GAP item (R342), as words. -/
def State.gapWords (s : State) : List Word :=
  let r : EvReq := ⟨0xFE, 0, 0, s.gptp, s.rtc, false, s.clock.synced, s.clock.rtcValid, 1,
    toLE 8 s.ev.gapLast ++ toLE 4 s.ev.gapSeal ++ toLE 4 s.ev.gapSeals ++ toLE 4 s.ev.gapItems⟩
  toWords (recordBytes r s.ev.bootCount s.ev.gapFirst)

/-- An item that is not written: the overrun and the range of the next GAP (R339, R342). -/
def State.notWritten (s : State) (seq : Nat) (sealNo : Option Nat) : State :=
  let s1 := s.count E.evidenceCntItemsNotWritten
  let s2 := if s1.ev.ovr then s1 else (s1.updEv (fun e => { e with ovr := true })).doorbell 65
  s2.updEv (fun e => match sealNo with
    | some n => { e with gapPending := true, gapItems := e.gapItems + 1,
                         gapSeal := if e.gapSeals == 0 then n else e.gapSeal, gapSeals := e.gapSeals + 1 }
    | none => { e with gapPending := true, gapItems := e.gapItems + 1,
                       gapFirst := if e.gapFirst == 0 then seq else e.gapFirst, gapLast := seq })

/-- An item that is not written while the port is off (R339, R342): the GAP after the enable counts it. -/
def Evidence.unwritten (e : Evidence) (sealNo : Option Nat) : Evidence :=
  match sealNo with
  | some n => { e with gapItems := e.gapItems + 1, gapSeal := if e.gapSeals == 0 then n else e.gapSeal, gapSeals := e.gapSeals + 1 }
  | none => { e with gapItems := e.gapItems + 1 }

/-- Offer an item to the FIFO (R339, R342): a record with its sequence, or a seal with its number. -/
def State.offer (s : State) (ws : List Word) (seq : Nat) (sealNo : Option Nat) : State :=
  if !s.evPortOn then s.updEv (·.unwritten sealNo)
  else
    let gap := if s.ev.gapPending then 16 else 0
    if s.ev.free < ws.length + gap then (s.notWritten seq sealNo)
    else
      let s1 := if s.ev.gapPending then
          (s.updEv (fun e => { e with fifo := e.fifo ++ fifoWords s.gapWords 0, gapPending := false, gapFirst := 0, gapLast := 0,
                                      gapSeal := 0, gapSeals := 0, gapItems := 0 })).count E.evidenceCntGaps
        else s
      (s1.updEv (fun e => { e with fifo := e.fifo ++ fifoWords ws seq })).fifoFlow

/-- The lowest sequence the journal holds (R330). -/
def Evidence.floor (e : Evidence) : Nat := max 1 (e.lastSeq - 4095)

/-- The number of seal numbers (R338). -/
def sealNumbers : Nat := 2 ^ 30

/-- The end of the block that a seal number lies in (R336). -/
def sealBlockEnd (n : Nat) : Nat := (n / 64 + 1) * 64

/-- Before the first number of a block is signed its end is written as the reserved limit (R336); source 65 is raised once when the numbers neither used nor
reserved fall to 2^20 (R338). -/
def State.reserveSeal (s : State) : State :=
  let n := s.ev.nextSeal
  let s1 := if s.ev.sealLimit ≤ n then (s.updEv (fun e => { e with sealLimit := sealBlockEnd n })).mramWrite else s
  if !s1.ev.raised338 && sealNumbers - max n s1.ev.sealLimit ≤ 2 ^ 20 then (s1.updEv (fun e => { e with raised338 := true })).doorbell 65 else s1

/-- Freeze the seal of the highest pending trigger (R332) when none is being signed, the active tree is ready, and the spacing has
ended or the trigger is exempt. -/
def State.sealTry (s : State) : State :=
  let e := s.ev
  if e.due.isEmpty || e.job.isSome || !e.activeTree || !e.running || decide (sealNumbers ≤ e.nextSeal) then s
  else if e.spacing && e.due.all (· < 3) then s
  else State.reserveSeal <| s.updEv (fun e => { e with
    job := some { standby := e.due.contains 3, life := s.life.change.isSome && e.due.contains 4, trigger := e.due.foldl max 0, flags := (if s.clock.synced then 2 else 0) + (if s.clock.rtcValid then 1 else 0),
                  lastSeq := e.lastSeq, floor := e.floor, time := s.gptp, rtc := s.rtc, loss := e.lossTotal, chain := e.h, retried := false },
    due := [], spacing := true, period := true, lastSealTime := s.gptp })

/-- A seal trigger (R332): deferred while the spacing lasts, except triggers 3 and 4. -/
def State.trigger (s : State) (code : Nat) : State :=
  if !s.ev.running then s
  else
    let s1 := if s.ev.spacing && decide (code < 3) then s.count E.evidenceCntDeferredSeals else s
    (s1.updEv (fun e => { e with due := e.due ++ [code] })).sealTry

/-- Set the delivered bit of one record (R330). -/
def Evidence.deliver (e : Evidence) (seq : Nat) : Evidence :=
  match mfind e.journal (seq % 4096) with
  | some j => if j.seq == seq then { e with journal := mput e.journal (seq % 4096) { j with delivered := true } } else e
  | none => e

/-- Add a lost record to the open loss range (R331). -/
def State.lose (s : State) (seq : Nat) : State :=
  (s.updEv (fun e => { e with lossTotal := (e.lossTotal + 1) % 2 ^ 32, lossFirst := if e.lossCount == 0 then seq else min e.lossFirst seq,
                              lossLast := if e.lossCount == 0 then seq else max e.lossLast seq, lossCount := e.lossCount + 1 }))

/-- The next record's 64 bytes (R322). -/
def State.nextRecord (s : State) (r : EvReq) : Bytes := recordBytes r s.ev.bootCount (s.ev.lastSeq + 1)

/-- Step 1 of R328: the record stands in its journal entry; one whose record is neither delivered nor counted as lost is lost (R331). -/
def State.journalStep (s : State) (r : EvReq) : State :=
  let n := s.ev.lastSeq + 1
  let s1 := match mfind s.ev.journal (n % 4096) with
    | some j => if j.delivered || j.lost then s else s.lose j.seq
    | none => s
  (s1.updEv (fun e => { e with journal := mput e.journal (n % 4096) ⟨n, s.nextRecord r, false, true, false⟩ })).mramWrite

/-- The older head copy takes a value (R328). -/
def Evidence.olderHead (e : Evidence) (hd : Head) : Evidence :=
  { e with head0 := if e.head0.n ≤ e.head1.n then hd else e.head0, head1 := if e.head0.n ≤ e.head1.n then e.head1 else hd }

/-- Steps 2 and 3 of R328: the chain value and the older head copy. -/
def Evidence.headStep (e : Evidence) (b : Bytes) : Evidence :=
  let h := Config.sha256 (bytes256 e.h ++ b)
  { e.olderHead ⟨e.lastSeq + 1, h, e.bootCount, true⟩ with lastSeq := e.lastSeq + 1, h := h }

/-- Write one record (R328): journal, chain, older head copy, FIFO; then what its type calls for: an urgent seal (R332) and
source 65 (R343). -/
def State.appendOne (s : State) (r : EvReq) : State :=
  let b := s.nextRecord r
  let s2 := (s.journalStep r).updEv (·.headStep b)
  let s3 := (s2.count E.evidenceCntRecords).when (decide (1 < r.count)) (·.count E.evidenceCntCoalesced)
  let s4 := (s3.offer (toWords b) (s.ev.lastSeq + 1) none).when (bitAt (s.cfg E.sealUrgentMask) r.type) (·.trigger 1)
  s4.when (r.type == 0x1D || r.type == 0x1E || r.type == 0x1F) (·.doorbell 65)

/-- Append JOURNAL_LOSS for the open loss range (R331). -/
def State.closeLoss (s : State) : State :=
  if s.ev.lossCount == 0 then s
  else
    let e := s.ev
    let r := s.evReq 0 0x1D 0 (toLE 8 e.lossFirst ++ toLE 8 e.lossLast ++ toLE 4 e.lossCount ++ toLE 4 e.lossTotal)
    (s.updEv (fun e => { e with lossCount := 0 })).appendOne r

/-- Append a record, and JOURNAL_LOSS when the range holds 256 records or the overwritten entry was delivered (R331). -/
def State.append (s : State) (r : EvReq) : State :=
  let n := s.ev.lastSeq + 1
  let wasDelivered := match mfind s.ev.journal (n % 4096) with
    | some j => j.delivered
    | none => false
  let s1 := s.appendOne r
  if decide (256 ≤ s1.ev.lossCount) || (wasDelivered && decide (0 < s1.ev.lossCount)) then s1.closeLoss else s1

/-- A record found damaged is lost (R331), unless it is delivered or counted already; JOURNAL_LOSS follows when the range holds 256. -/
def State.damagedEntry (s : State) (j : JEntry) : State :=
  if j.delivered || j.lost then s
  else
    let s1 := (s.updEv (fun e => { e with journal := mput e.journal (j.seq % 4096) { j with intact := false, lost := true } })).lose j.seq
    s1.when (decide (256 ≤ s1.ev.lossCount) && s1.ev.running) State.closeLoss

/-- The journal entry of a sequence the journal holds (R330). -/
def Evidence.entry (e : Evidence) (seq : Nat) : Option JEntry :=
  if decide (1 ≤ seq) && decide (e.lastSeq < seq + 4096) && decide (seq ≤ e.lastSeq) then
    (mfind e.journal (seq % 4096)).bind (fun j => if j.seq == seq then some j else none)
  else none

/-- A seal of the store (R335), and whether it reads back intact. -/
def Evidence.sealHeld (e : Evidence) (n : Nat) : Option (Bytes × Bool) := (e.store.find? (·.1 == n)).map (fun x => (x.2, !e.badSeals.contains n))

/-- SEED and I as the security core reads them: zero behind their lock bit (R361). Saffron reads them when it starts, and signs with what it read: the last seal of a
device that retires comes after the lock bit is burnt (R359; DEDUCED, log 44). -/
def Fuses.identity (f : Fuses) : Bytes := toLE 48 (if f.lockSeed then 0 else f.seed)
def Evidence.identity (e : Evidence) : Bytes := toLE 48 e.ident

/-- An LMS signature (R334, RFC 8554): leaf, LM-OTS type 3 and signature, LMS type 7 and path. -/
def lmsSign (seed ident : Bytes) (q : Nat) (msg : Bytes) : Bytes :=
  toBE 4 q ++ toBE 4 3 ++ pad 2176 (Config.lmsOts seed ident q msg) ++ toBE 4 7 ++ pad 480 (Config.lmsPath seed ident q)

/-- An LMS public key (Table 11-4, RFC 8554): type, otstype, I and root. -/
def lmsPublic (seed ident : Bytes) : Bytes := toBE 4 7 ++ toBE 4 3 ++ pad 16 ident ++ pad 32 (Config.lmsRoot seed ident)

/-- The public key of the HSS top tree with its L = 2 (R334, R371, RFC 8554). -/
def hssPublic (ident : Bytes) : Bytes := toBE 4 2 ++ lmsPublic (ident.take 32) (ident.drop 32)

/-- Seed and I of lower tree j (Table 12-6). -/
def lowerSecret (ident : Bytes) (j : Nat) : Bytes := Config.kdf (ident.take 32) (ascii "AZ8100-HSS-LOWER") (toLE 4 j) 48

/-- What MRAM keeps of lower tree j (R337): the top tree's signature over its public key, by leaf j, and that key, as Table 11-4 lays them out. -/
def lowerTree (ident : Bytes) (j : Nat) : Bytes :=
  let k := lowerSecret ident j
  let pub := lmsPublic (k.take 32) (k.drop 32)
  lmsSign (ident.take 32) (ident.drop 32) j pub ++ pub

/-- A lower tree has been generated (R336, R337): where MRAM does not hold it yet, its top-tree leaf is reserved, then signs its public key. -/
def State.treeMade (s : State) (j : Nat) : State :=
  if (mfind s.ev.trees j).isSome then s
  else (s.updEv (fun e => { e with
    topReserved := max e.topReserved (j + 1)
    trees := mput (e.trees.filter (fun x => e.nextSeal / 32768 ≤ x.1)) j (lowerTree s.ev.identity j) })).mramWrite

/-- The signature of seal `number` over its body (Table 11-4). -/
def State.sealSignature (s : State) (number : Nat) (body : Bytes) : Bytes :=
  let j := number / 32768
  let k := lowerSecret s.ev.identity j
  toBE 4 1 ++ mget (lowerTree s.ev.identity j) s.ev.trees j ++ lmsSign (k.take 32) (k.drop 32) (number % 32768) body

/-- A seal's 5,516 bytes (R333, R334): body and signature. -/
def State.sealBytes (s : State) (j : SealJob) (number : Nat) : Bytes :=
  let body := toLE 4 0x4C414553 ++ toLE 2 1 ++ toLE 1 j.trigger ++ toLE 1 j.flags ++ toLE 4 number ++ toLE 4 s.ev.bootCount ++
    toLE 8 j.lastSeq ++ toLE 8 s.ev.prevLastSeq ++ toLE 8 j.floor ++ toLE 8 j.time ++ toLE 4 j.rtc ++ toLE 4 j.loss ++
    bytes256 j.chain ++ s.idDigest
  body ++ s.sealSignature number body

/-- The chain's start value H_0 (R327). -/
def State.chainStart (s : State) : BitVec 256 := Config.sha256 (ascii "AZ8100-EVIDENCE" ++ s.idDigest)

/-- The break value of R329. -/
def State.chainBreak (s : State) (boot : Nat) : BitVec 256 :=
  Config.sha256 (ascii "AZ8100-EVIDENCE-BREAK" ++ s.idDigest ++ toLE 4 boot)

/-- The end of the chain (R321, R359). -/
def State.chainOver (s : State) : State := s.updEv (fun e => { e with closed := true, running := false, due := [], job := none })

/-- `evidence.state` (Table 11-8). -/
def State.evState (s : State) : Nat :=
  if s.ev.closed then 5 else if !s.ev.chainOpen then 0 else if decide (sealNumbers ≤ s.ev.nextSeal) then 4
  else if s.ev.hashingStopped then 3 else if !s.ev.activeTree then 2 else 1

/-- The lowest journal record whose delivered bit is clear and that is not counted as lost. -/
def Evidence.lowestUndelivered (e : Evidence) : Option Nat :=
  e.journal.foldl (fun acc p => if p.2.delivered || p.2.lost then acc else match acc with
    | none => some p.2.seq
    | some m => some (min m p.2.seq)) none

/-- The range of the GAP that follows a start or an enable (R342): from the lowest undelivered record to `last`. -/
def Evidence.gapFrom (e : Evidence) (last : Nat) (always : Bool) : Evidence :=
  match e.lowestUndelivered with
  | some m => if m ≤ last then { e with gapPending := true, gapFirst := m, gapLast := last }
      else if always then { e with gapPending := true } else e
  | none => if always then { e with gapPending := true } else e

end Sys2Proof.Machine
end

