-- ==== Sys2Proof/Machine/Settle.lean ====
section
/-! DEFINITION. The output balls that follow the state, brought up to date at the end of every command (R286, R341). -/

namespace Sys2Proof.Machine
open Sys2Proof

/-- SAFE_N is low in every mode but RUN, until the start configuration is applied, while RESET_N is low, and while a fault holds it
low (R286, R287, R376). -/
def State.safeLow (s : State) : Bool :=
  !s.power.resetN || !s.safe.applied || s.safe.driven || !(s.power.mode == .run || s.power.mode == .entering)

/-- EV_DAT is high while unread words exist and the port is on (R339, R341). -/
def State.evDat (s : State) : Bool := s.inRun && s.evPortOn && decide (0 < s.ev.unread)

/-- EV_HI (R341). -/
def State.evHi (s : State) : Bool := s.inRun && s.evPortOn && s.ev.hi

/-- A condition that drove SAFE_N low still holds (R287, R288): a fault class in force, or 0x100, no switch die in OK, DEGRADED or ISOLATED. -/
def State.condHolds (s : State) (k : Nat) : Bool :=
  if k == 0x0A then s.dieList.any (fun n => (s.die n).state == 3)
  else if k == 0x0B then s.dieList.any s.lostDie
  else if k == 0x0F then s.safe.securityDown
  else if k == 0x10 then s.safe.supervisorStopped || s.safe.supervisorRestarting
  else if k == 0x14 then s.safe.noSha || s.safe.noAes || s.safe.noTrng
  else if k == 0x15 then s.life.agree == 0
  else if k == 0x100 then !s.dieList.any (fun n => 1 ≤ (s.die n).state && (s.die n).state ≤ 3)
  else s.dieList.any (fun n => (s.die n).causes.contains k)

/-- No condition that drove SAFE_N low still holds (R288). -/
def State.safeClear (s : State) : Bool := s.safe.conds.all (fun k => !s.condHolds k)

/-- SAFE_N rises at once in release mode 0 (R288). -/
def State.autoRelease (s : State) : State :=
  if s.safe.driven && s.cfg E.safeReleaseMode == 0 && s.safeClear then { s with safe := { s.safe with driven := false, conds := [] } } else s

/-- SAMPLE/PRELOAD and EXTEST take effect (R479): in BLANK or PROVISIONED, while RESET_N is low, with the port's bank supplied. -/
def State.scanOpen (s : State) : Bool := s.power.mode != .off && s.power.vioM && !s.power.resetN && s.life.state ≤ 1

/-- The balls that follow the state (R286, R341, R456, R470, R479). In OFF SAFE_N is not driven, and reads low through the pull-down fitted. -/
def State.pinsNow (s : State) : Pins :=
  { evDat := s.evDat, evHi := s.evHi, safeLow := s.safeLow
    safeDriven := s.power.mode != .off
    d0Out := s.power.guardSupplied && s.power.resetN
    flOut := s.power.guardSupplied && s.power.resetN && !s.power.noGuard
    diesOut := s.dieList.filter (fun n => (s.die n).supplied && !(s.die n).inReset)
    busOut := s.dieList.filter (fun n => (s.die n).busUp)
    flResetLow := s.power.vioM && !(s.power.guardSupplied && s.power.resetN)
    extest := if s.scanOpen && s.jtag.instr == 2 then some s.jtag.cells else none }

/-- The balls brought up to date. -/
def State.settle (s : State) : State := { s.autoRelease with pins := s.autoRelease.pinsNow }

/-- The outcome of a command: the state it leaves, with the balls following it. -/
def done (s : State) : Result := .next s.settle

/-- The outcome of an event at a unit: the state `t` it leaves, or, at a unit that the part does not have (R1, R16, R17), where nothing can take place, `s`
itself (log 6). -/
def doneIf (s : State) (present : Bool) (t : State) : Result := done (if present then t else s)

end Sys2Proof.Machine
end

