-- ==== Sys2Proof/Machine/Fdb.lean ====
section
/-! DEFINITION. The forwarding database of a switch die: lookup, learning, moves, flushing and ageing (R197 to R208). Position 4 × b + w is
way w of bucket b, position 32,768 + i is stash entry i (R212). A MAC address is the number whose low byte is sent first. -/

namespace Sys2Proof.Machine
open Sys2Proof

/-- The seven hashed bytes (R197). -/
def fdbBytes (realm mac : Nat) : Bytes := BitVec.ofNat 8 realm :: toLE 6 mac

/-- The two candidate buckets (R197). -/
def fdbH1 (realm mac : Nat) : Nat := crc32Msb (fdbBytes realm mac) % 8192
def fdbH2 (realm mac : Nat) : Nat :=
  let h := crc32c (fdbBytes realm mac) % 8192
  if h == fdbH1 realm mac then h.xor 1 else h

/-- The other candidate bucket of an entry that stands in bucket `b`. -/
def FdbEntry.other (e : FdbEntry) (b : Nat) : Nat :=
  if fdbH1 e.realm e.mac == b then fdbH2 e.realm e.mac else fdbH1 e.realm e.mac

abbrev Fdb := NMap FdbEntry

/-- The lowest free way of a bucket. -/
def fdbFreeWay (t : Fdb) (b : Nat) : Option Nat := ([0, 1, 2, 3].map (4 * b + ·)).find? (fun p => (mfind t p).isNone)

/-- The lowest free stash position. -/
def fdbFreeStash (t : Fdb) : Option Nat := ((List.range 16).map (32768 + ·)).find? (fun p => (mfind t p).isNone)

/-- The places an entry for a realm and MAC can stand: both buckets, then the stash (R198). -/
def fdbPlaces (realm mac : Nat) : List Nat :=
  let h1 := fdbH1 realm mac
  let h2 := fdbH2 realm mac
  [4 * h1, 4 * h1 + 1, 4 * h1 + 2, 4 * h1 + 3, 4 * h2, 4 * h2 + 1, 4 * h2 + 2, 4 * h2 + 3] ++ (List.range 16).map (32768 + ·)

/-- The position of the entry for a realm and MAC (R198). -/
def fdbFind (t : Fdb) (realm mac : Nat) : Option Nat :=
  (fdbPlaces realm mac).find? (fun p => match mfind t p with
    | some e => e.realm == realm && e.mac == mac
    | none => false)

/-- The entry for a realm and MAC. -/
def fdbLookup (t : Fdb) (realm mac : Nat) : Option FdbEntry := (fdbFind t realm mac).bind (mfind t)

/-- An entry as a move leaves it (R199): the instant of its last learn or move, which R203 means of the address, stays (DESIGN CHOICE, log 107). -/
def FdbEntry.moved (e : FdbEntry) : FdbEntry := { e with hit := true, idle := 0 }

/-- The occupants of a path of positions move, the one nearest the free way first (R199). -/
def fdbMoves (t : Fdb) : List Nat → Nat → Fdb
  | [], _ => t
  | p :: ps, free =>
    -- the path is listed from its last position back to its first
    match mfind t p with
    | some e => fdbMoves (mdel (mput t free e.moved) p) ps p
    | none => fdbMoves t ps p

/-- The bucket the occupant of a position would move to. -/
def fdbNext (t : Fdb) (p : Nat) : Option Nat := (mfind t p).map (fun e => e.other (p / 4))

/-- Breadth-first search over paths of occupants (each listed from its last position back), for the first free way (R199). -/
def fdbSearch (t : Fdb) : Nat → List (List Nat) → Option (List Nat × Nat)
  | 0, _ => none
  | d + 1, paths =>
    match paths.findSome? (fun path => (path.head?.bind (fdbNext t)).bind (fun b => (fdbFreeWay t b).map (fun w => (path, w)))) with
    | some r => some r
    | none => fdbSearch t d (paths.flatMap (fun path => match path.head?.bind (fdbNext t) with
        | some b => [4 * b :: path, (4 * b + 1) :: path, (4 * b + 2) :: path, (4 * b + 3) :: path]
        | none => []))

/-- Insertion (R199): the database with the entry and the number of moves, or none when it is refused. -/
def fdbInsert (t : Fdb) (e : FdbEntry) : Option (Fdb × Nat) :=
  let h1 := fdbH1 e.realm e.mac
  let h2 := fdbH2 e.realm e.mac
  match (fdbFreeWay t h1).orElse (fun _ => fdbFreeWay t h2) with
  | some p => some (mput t p e, 0)
  | none =>
    match fdbSearch t 4 [[4 * h1], [4 * h1 + 1], [4 * h1 + 2], [4 * h1 + 3], [4 * h2], [4 * h2 + 1], [4 * h2 + 2], [4 * h2 + 3]] with
    | some (path, free) => some (mput (fdbMoves t path free) (path.getLastD free) e, path.length)
    | none => (fdbFreeStash t).map (fun p => (mput t p e, 0))

/-- Move stash entries into freed ways of their candidate buckets, the lowest stash entry first (R200); the moves are counted. -/
def fdbDrainStash (t : Fdb) : Fdb × Nat :=
  (List.range 16).foldl (fun r i =>
    match mfind r.1 (32768 + i) with
    | some e =>
      match (fdbFreeWay r.1 (fdbH1 e.realm e.mac)).orElse (fun _ => fdbFreeWay r.1 (fdbH2 e.realm e.mac)) with
      | some p => (mdel (mput r.1 p e.moved) (32768 + i), r.2 + 1)
      | none => r
    | none => r) (t, 0)

/-- A die's database, written back, and the relocations counted (Table 6-17). -/
def State.setFdb (s : State) (n : Nat) (t : Fdb) (moves : Nat) : State :=
  (s.updDie n (fun d => { d with fdb := t })).countDie E.dieCntRelocations n moves

/-- Remove entries of a die that satisfy a test, then relocate the stash (R200, R206). -/
def State.fdbRemove (s : State) (n : Nat) (p : FdbEntry → Bool) : State :=
  let t := (s.die n).fdb.filter (fun x => !p x.2)
  if t.length == (s.die n).fdb.length then s
  else
    let r := fdbDrainStash t
    s.setFdb n r.1 r.2

/-- The die a destination code lies on: a slot's or an internal port's die, 0 for others (Table 6-4). -/
def codeDie (c : Nat) : Nat := if c < 0xE0 then slotDie c else if 0x100 ≤ c && c < 0x10E then (c - 0x100) / 2 + 1 else 0

/-- Remove the learned entries that name a LOST die's slots or internal ports, on every other die (R206). -/
def State.forgetDie (s : State) (lost : Nat) : State :=
  s.forAll (s.dieList.filter (· != lost)) (fun s n => s.fdbRemove n (fun e => !e.isStatic && codeDie e.dest == lost))

/-- `fdb.flush` (R206): the learned entries of one realm, or all with 0xFFFF, on every die. -/
def State.flushFdb (s : State) (v : Nat) : State :=
  s.forAll s.dieList (fun s n => s.fdbRemove n (fun e => !e.isStatic && (v == 0xFFFF || e.realm == v)))

/-- The learning engine's decision on a request (Table 6-7); the hold-down runs in steps of 1 µs (R203). The frame of a locked source was dropped at stage 4, so the engine does nothing. -/
def State.learn (s : State) (n : Nat) (r : LearnReq) : State :=
  let t := (s.die n).fdb
  let fresh : FdbEntry := ⟨r.realm, r.mac, r.dest, false, false, true, 0, s.clock.ticks, if r.fabric then 1 else 0⟩
  match fdbFind t r.realm r.mac with
  | none =>
    match fdbInsert t fresh with
    | some (u, moves) => (s.setFdb n u moves).countDie E.dieCntLearns n
    | none => s.countDie E.dieCntLearnTableFull n
  | some p =>
    match mfind t p with
    | none => s
    | some e =>
      if e.isStatic then if e.dest == r.dest || e.lock then s else s.countDie E.dieCntStaticConflict n
      else if e.dest == r.dest then s.updDie n (fun d => { d with fdb := mput t p { e with hit := true } })
      else if s.clock.ticks / 40 - e.since / 40 < 1000 * s.cfg E.fdbMoveHoldDown then s.countDie E.dieCntMoveContention n
      else (s.updDie n (fun d => { d with fdb := mput t p fresh })).countDie E.dieCntStationMoves n

/-- LEARN_REQUEST (R202, R203): the request at the front of the queue. -/
def State.learnNext (s : State) (n : Nat) : State :=
  match (s.die n).learnQ with
  | r :: rest => (s.updDie n (fun d => { d with learnQ := rest })).learn n r
  | [] => s

def execLearnRequest (die : Nat) (s : State) : Result :=
  doneIf s (s.variant.hasDie die) (s.when (s.inRun && s.dieRuns die) (·.learnNext die))

/-- Enqueue a learn request in the die's queue of 64 (R202). -/
def State.learnEnqueue (s : State) (n : Nat) (r : LearnReq) : State :=
  if (s.die n).learnQ.length < 64 then s.updDie n (fun d => { d with learnQ := d.learnQ ++ [r] })
  else s.countDie E.dieCntLearnDropped n

/-- One learned entry at a sweeper visit (R207); none removes it. -/
def FdbEntry.age (e : FdbEntry) : Option FdbEntry :=
  if e.isStatic then some e
  else if e.hit then some { e with hit := false, idle := 0 }
  else if e.idle + 1 == 2 then none else some { e with idle := e.idle + 1 }

/-- SWEEPER_VISIT (R207): bucket `sweep`, or stash entry `sweep` − 8,192; then stash entries move into freed ways (R200). -/
def State.sweep (s : State) (n : Nat) : State :=
  let d := s.die n
  let places := if d.sweep < 8192 then [4 * d.sweep, 4 * d.sweep + 1, 4 * d.sweep + 2, 4 * d.sweep + 3] else [32768 + (d.sweep - 8192)]
  let t := places.foldl (fun t p => match mfind t p with
    | some e => (match e.age with
      | some e' => mput t p e'
      | none => mdel t p)
    | none => t) d.fdb
  let gone := d.fdb.length - t.length
  let s1 := s.updDie n (fun d => { d with sweep := (d.sweep + 1) % 8208, fdb := t })
  if gone == 0 then s1
  else
    let r := fdbDrainStash t
    (s1.setFdb n r.1 r.2).countDie E.dieCntAgedOut n gone

def execSweeperVisit (die : Nat) (s : State) : Result :=
  doneIf s (s.variant.hasDie die) (s.when (s.inRun && s.dieRuns die) (·.sweep die))

/-- Insert a static row into a die's database, removing learned entries to make room (R205). A learned entry for the same address is
replaced, and so is the entry of an earlier row with the same realm and MAC (DESIGN CHOICE, log 111). None when it cannot be placed. -/
def fdbInsertStatic (t : Fdb) (e : FdbEntry) : Option (Fdb × Nat × Nat) :=
  let t0 := match fdbFind t e.realm e.mac with
    | some p => mdel t p
    | none => t
  match fdbInsert t0 e with
  | some (u, m) => some (u, m, 0)
  | none =>
    match (fdbPlaces e.realm e.mac).find? (fun p => match mfind t0 p with
        | some x => !x.isStatic
        | none => false) with
    | some p => some (mput t0 p e, 0, 1)
    | none => none

end Sys2Proof.Machine
end

