-- ==== Sys2Proof/Machine/Buffer.lean ====
section
/-! DEFINITION. The switch core of a die: queues, accounts, admission, RED, policers, back-pressure and pause (R214 to R227, R153, R157). A
queue is named by its status row (n − 1) × 256 + q × 8 + c (R241). A source of copies is a slot, an internal port code, 0x200 + n (the tunnel
decapsulation producer of Dn), 0x300 + (n − 1) × 4 + e (link end Le of Dn) or 0x400 + a tunnel row (its encapsulated frames). -/

namespace Sys2Proof.Machine
open Sys2Proof

/-- A queue's row (R241). -/
def queueRow (n q c : Nat) : Nat := (n - 1) * 256 + q * 8 + c
def rowDie (row : Nat) : Nat := row / 256 + 1

/-- The copies of a queue, oldest first. -/
def State.queue (s : State) (row : Nat) : List Copy := mget [] s.queues row
def State.setQueue (s : State) (row : Nat) (l : List Copy) : State := { s with queues := mset [] s.queues row l }

/-- Cells a copy charges to its queue's guarantee and the shared pool (R217). -/
def Charge.cellsU : Charge → Nat
  | .unit k => k
  | _ => 0

/-- U(q, c) and Q(q, c) (R217). -/
def State.qU (s : State) (row : Nat) : Nat := ((s.queue row).map (·.charge.cellsU)).sum
def State.qCells (s : State) (row : Nat) : Nat := ((s.queue row).map (·.cells)).sum

/-- All copies stored on a die. -/
def State.dieCopies (s : State) (n : Nat) : List Copy :=
  (s.queues.filter (fun p => rowDie p.1 == n)).flatMap (·.2)

/-- Cells of copies on a die that charge an account. -/
def State.charged (s : State) (n : Nat) (c : Charge) : Nat := (((s.dieCopies n).filter (·.charge == c)).map (·.cells)).sum

/-- The placement a die works with: an ISOLATED die keeps its last one (R276). -/
def State.placementOf (s : State) (n : Nat) : Placement := (mfind s.sumac.perDie n).getD s.sumac.inForce

/-- P of a die (R216). -/
def State.poolSize (s : State) (n : Nat) : Nat := mget 0 (s.placementOf n).pools n

/-- G, shared limit and RED profile of a queue (R241, Table 7-5). -/
def State.guarantee (s : State) (row : Nat) : Nat :=
  if s.cfgRowOn E.queueValid row then s.cfgRow E.queueGuarantee row else s.cfg E.bufferDefaultGuarantee
def State.sharedLimit (s : State) (row : Nat) : Nat :=
  if s.cfgRowOn E.queueValid row then s.cfgRow E.queueSharedLimit row else s.cfg E.bufferDefaultSharedLimit
def State.redProfile (s : State) (row : Nat) : Nat :=
  if s.cfgRowOn E.queueValid row then s.cfgRow E.queueRedProfile row else s.cfg E.bufferDefaultRedProfile

/-- S: cells charged to the die's shared pool: of every queue the cells of U above its guarantee (Table 7-2, R217). -/
def State.sharedUsed (s : State) (n : Nat) : Nat :=
  ((s.queues.filter (fun p => rowDie p.1 == n)).map (fun p => s.qU p.1 - s.guarantee p.1)).sum

/-- A port's own state. -/
def State.port (s : State) (slot : Nat) : Port := mget {} s.ports slot
def State.setPort (s : State) (slot : Nat) (p : Port) : State := { s with ports := mset {} s.ports slot p }
def State.updPort (s : State) (slot : Nat) (f : Port → Port) : State := s.setPort slot (f (s.port slot))

/-- A port's state of Table 4-3 or 5-6. -/
def State.portState (s : State) (slot : Nat) : Nat := s.stSlot E.portCanState slot
def State.setPortState (s : State) (slot v : Nat) : State := s.setSlot E.portCanState slot v

/-- A port's MAC address as bytes. -/
def macBytes (m : Nat) : Bytes := toLE 6 m

/-- A MAC control frame (IEEE 802.3): pause with one quanta value, or PFC with the priorities of `vec`, without FCS. -/
def pauseFrame (src : Nat) (pfc : Bool) (vec quanta : Nat) : Bytes :=
  let body := if pfc then toBE 2 0x0101 ++ toBE 2 vec ++ (List.range 8).flatMap (fun p => toBE 2 (if bitAt vec p then quanta else 0))
    else toBE 2 0x0001 ++ toBE 2 quanta
  pad 60 (toBE 6 0x0180C2000001 ++ macBytes src ++ toBE 2 0x8808 ++ body)

/-- The PCP a class maps to on a port (Table 5-7). -/
def State.tcToPcp (s : State) (slot c : Nat) : Nat := bitsOf (s.cfgSlot E.portEthVlanTcToPcp slot) (4 * c + 2) (4 * c)

/-- The priorities of a set of classes (R157). -/
def State.prioVec (s : State) (slot classes : Nat) : Nat :=
  (List.range 8).foldl (fun v c => if bitAt classes c then setBit v (s.tcToPcp slot c) else v) 0

/-- The queue rows of a port, highest class first. -/
def portRows (slot : Nat) : List Nat := (List.range 8).reverse.map (fun c => queueRow (slotDie slot) (slotLocal slot) c)

/-- The class whose queue holds the copy being sent on a port. -/
def State.sendingRow (s : State) (slot : Nat) : Option Nat := (portRows slot).find? (fun row => (s.queue row).any (·.sending))

/-- A pause or PFC frame leaves and is counted (R157). -/
def State.emitPause (s : State) (slot : Nat) (d : Bytes) : State := (s.emit (.ethTx slot d true)).countSlot E.portEthCntTxPauseFrames slot

/-- The port sends a pause or PFC frame for a set of classes (R157): at once where it is between two frames, else at the end of the frame in transmission.
Only a port that is ENABLED or DRAINING on a link sends (Table 5-6). -/
def State.sendPause (s : State) (slot vec quanta : Nat) : State :=
  let d := pauseFrame (s.cfgSlot E.portEthMacAddress slot) (s.cfgSlot E.portEthTxPauseMode slot == 2) vec quanta
  if !(s.port slot).linkUp || !(s.portState slot == 2 || s.portState slot == 3) then s
  else if (s.sendingRow slot).isSome then s.updPort slot (fun p => { p with pauseOut := p.pauseOut ++ [d] })
  else s.emitPause slot d

/-- The pause frames that waited for a frame boundary leave, ahead of every queued frame (R157). -/
def State.flushPause (s : State) (slot : Nat) : State :=
  (s.port slot).pauseOut.foldl (fun s d => s.emitPause slot d) (s.updPort slot (fun p => { p with pauseOut := [] }))

/-- The asserted classes of a port change (R157): pause for what is asserted, 0 quanta for what is released. -/
def State.setAsserted (s : State) (slot classes : Nat) : State :=
  let was := (s.port slot).asserted
  let s1 := (s.updPort slot (fun p => { p with asserted := classes })).setSlot E.portEthPausingClasses slot classes
  let q := s.cfgSlot E.portEthTxPauseQuanta slot
  if was == classes then s
  else if s.cfgSlot E.portEthTxPauseMode slot == 1 then
    if was == 0 then s1.sendPause slot 0 q else if classes == 0 then s1.sendPause slot 0 0 else s1
  else
    let v0 := s.prioVec slot was
    let v1 := s.prioVec slot classes
    let gone := (List.range 8).foldl (fun v p => if bitAt v0 p && !bitAt v1 p then setBit v p else v) 0
    let new := (List.range 8).foldl (fun v p => if bitAt v1 p && !bitAt v0 p then setBit v p else v) 0
    (s1.when (new != 0) (·.sendPause slot v1 q)).when (gone != 0) (·.sendPause slot gone 0)

/-- The die and queue point of a source of back-pressure. -/
def sourceDie (src : Nat) : Nat :=
  if src < 0x100 then slotDie src else if src < 0x200 then (src - 0x100) / 2 + 1 else if src < 0x300 then src - 0x200 else (src - 0x300) / 4 + 1
def sourcePoint (src : Nat) : Nat :=
  if src < 0x100 then slotLocal src else if src < 0x200 then 22 + (src - 0x100) % 2 else if src < 0x300 then 28 else 24 + (src - 0x300) % 4

/-- Back-pressure asserted for a source and class (R224). -/
def State.bpOn (s : State) (src c : Nat) : Bool := (mfind s.bp (src * 8 + c)).isSome

/-- A source can be held (R224): an Ethernet or trunk port with a non-zero `tx.pauseMode`, a producer, or a link end. -/
def State.canHold (s : State) (src : Nat) : Bool :=
  if src < 0x100 then isEth src && s.cfgSlot E.portEthTxPauseMode src != 0 else decide (src < 0x400)

/-- A copy is lossless (R224): its class is lossless, its source can be held, and it did not enter on a CAN or LIN port. -/
def State.lossless (s : State) (cp : Copy) : Bool :=
  s.cfg (E.classLossless + cp.cls * 256) == 1 && s.canHold cp.source && !(decide (cp.ingress < 0x100) && !isEth cp.ingress)

/-- Assert back-pressure for a source and class (R224), naming the queue when its shared limit asserted it. -/
def State.bpAssert (s : State) (src c row : Nat) (byLimit : Bool) : State :=
  let old := (mfind s.bp (src * 8 + c)).getD {}
  let qs := if byLimit && !old.queues.contains row then old.queues ++ [row] else old.queues
  let s1 := { s with bp := mput s.bp (src * 8 + c) ⟨qs⟩ }
  if s.bpOn src c then s1
  else
    let s2 := s1.countRow E.queueCntBpAssertions (queueRow (sourceDie src) (sourcePoint src) c)
    if src < 0x100 then s2.setAsserted src (setBit (s2.port src).asserted c) else s2

/-- Back-pressure of a source and class may end (R224). -/
def State.bpMayEnd (s : State) (n : Nat) (b : BackPressure) : Bool :=
  decide (s.sharedUsed n + s.cfg E.bufferXonGap ≤ s.poolSize n) &&
  b.queues.all (fun row => decide (s.qU row + s.cfg E.bufferXonGap ≤ s.guarantee row + s.sharedLimit row))

/-- After charges are released on a die, end every back-pressure whose conditions hold (R224). -/
def State.bpSettle (s : State) (n : Nat) : State :=
  s.bp.foldl (fun s p =>
    if sourceDie (p.1 / 8) == n && s.bpMayEnd n p.2 then
      let s1 := { s with bp := mdel s.bp p.1 }
      if p.1 / 8 < 0x100 then s1.setAsserted (p.1 / 8) (clearBit (s1.port (p.1 / 8)).asserted (p.1 % 8)) else s1
    else s) s

/-- What admission decides for one copy: stored, refused (and counted), or held with its source. -/
inductive Verdict where
  | stored | refused | held
  deriving DecidableEq, Repr

/-- Store a copy at the end of a queue, charging an account. -/
def State.store (s : State) (row : Nat) (cp : Copy) (ch : Charge) : State :=
  (s.setQueue row (s.queue row ++ [{ cp with charge := ch, sending := false }])).countRow E.queueCntAdmitted row

/-- The action of Table 7-3 for a lossless copy that finds the pool or the shared limit exhausted. -/
def State.bpAct (s : State) (n row : Nat) (cp : Copy) (byLimit : Bool) : State × Verdict :=
  let s1 := s.bpAssert cp.source cp.cls row byLimit
  if cp.source < 0x100 then
    if s1.charged n (.headroom cp.source cp.cls) + cp.cells ≤ s1.cfg E.bufferHeadroom then
      (s1.store row cp (.headroom cp.source cp.cls), .stored)
    else (s1.countRow E.queueCntHeadroomDrop row, .refused)
  else (s1, .held)

/-- The queue's RED average after an admission attempt (R223). -/
def redAverage (q avg w : Nat) : Nat :=
  let a : Int := if q == 0 then 0 else avg
  (a + (256 * q - a) / (2 ^ w : Nat)).toNat

/-- Whether RED drops a copy (R223): `r` is the 16-bit draw. -/
def redDrops (avg min max maxP r : Nat) : Bool :=
  if max == 0 then false else if avg < 256 * min then false else if 256 * max ≤ avg then true
  else decide (r * (max - min) < maxP * (avg - 256 * min))

/-- RED at an admission attempt (R223): the average moves, a draw is taken, and a dropped copy is counted by colour. -/
def State.red (s : State) (n row : Nat) (cp : Copy) : State × Bool :=
  let p := s.redProfile row
  if p < 32 && s.cfgRowOn E.redValid p then
    let avg := redAverage (s.qCells row) (s.stRow E.queueStAvg row) (s.cfgRow E.redWeight p)
    let f := 3 * cp.colour
    let r := (Config.redDraw (s.die n).redSeed (s.die n).redDraws).toNat
    let s1 := (s.setRow E.queueStAvg row avg).updDie n (fun d => { d with redDraws := d.redDraws + 1 })
    if redDrops avg (s.cfgRow (E.redGreenMin + f) p) (s.cfgRow (E.redGreenMax + f) p) (s.cfgRow (E.redGreenMaxP + f) p) r then
      (s1.countRow (E.queueCntRedDropGreen + cp.colour) row, true)
    else (s1, false)
  else (s, false)

/-- The members of a group row (Table 6-15): external ports, internal ports, tunnels. -/
def State.groupMembers (s : State) (g : Nat) : List Nat :=
  (List.range 224).filter (fun i => bitAt (s.cfgRow E.groupPorts g) i) ++
  ((List.range 14).filter (fun i => bitAt (s.cfgRow E.groupInternal g) i)).map (0x100 + ·) ++
  ((List.range 8).map (fun i => s.cfgRow (E.groupTunnel + i) g)).filterMap (fun t => if t == 0xFFFF then none else some (0x400 + t))

/-- A destination of a reservation is one of a copy's (R218): the destination itself, a group with a member among them, or, for the frames that a tunnel
engine builds, the tunnel row. -/
def State.rsvCovers (s : State) (dest : Nat) (cp : Copy) : Bool :=
  if 0x8000 ≤ dest && dest < 0x8400 then (s.groupMembers (dest - 0x8000)).any cp.dests.contains
  else cp.dests.contains dest || (0x400 ≤ dest && dest < 0x800 && cp.frame.fmt == .eth && cp.ingress == dest)

/-- The flow reservation of a copy on a die that has room for it (R218): a valid 0x2520 row placed there for its route row and one of its
destinations. -/
def State.reservation (s : State) (n : Nat) (cp : Copy) : Option Nat :=
  ((s.placementOf n).resv.find? (fun p => p.2.contains n &&
    okey (s.cfgRow E.rsvRouteIndex p.1 * 256) (s.cfgRow E.rsvRouteRow p.1) == cp.route && cp.route != 0 &&
    s.rsvCovers (s.cfgRow E.rsvDest p.1) cp &&
    decide (s.charged n (.reservation p.1) + cp.cells ≤ s.cfgRow E.rsvCells p.1))).map (·.1)

/-- The part of a copy's cells above the queue's guarantee (R217). -/
def aboveGuarantee (u n g : Nat) : Nat := u + n - max u g

/-- Admission of one copy to a queue (R217). ATOMIC copies are charged to their credit (R230). -/
def State.enqueue (s : State) (n q : Nat) (cp : Copy) : State × Verdict :=
  let row := queueRow n q cp.cls
  if cp.atomic != 0 then (s.store row cp (.atomic (cp.atomic - 1)), .stored)
  else match s.reservation n cp with
    | some f => (s.store row cp (.reservation f), .stored)
    | none =>
      let ll := s.lossless cp
      if ll && s.bpOn cp.source cp.cls then s.bpAct n row cp false
      else
        let u := s.qU row
        let g := s.guarantee row
        let d := aboveGuarantee u cp.cells g
        if d == 0 then (s.store row cp (.unit cp.cells), .stored)
        else if g + s.sharedLimit row < u + cp.cells then
          if ll then s.bpAct n row cp true else (s.countRow E.queueCntLimitDrop row, .refused)
        else
          let r := if ll then (s, false) else s.red n row cp
          if r.2 then (r.1, .refused)
          else if r.1.sharedUsed n + d ≤ r.1.poolSize n then (r.1.store row cp (.unit cp.cells), .stored)
          else if ll then r.1.bpAct n row cp false
          else (r.1.countRow E.queueCntLimitDrop row, .refused)

/-- A port counter by port kind: entries for CAN, LIN and Ethernet slots. -/
def State.countPort (s : State) (slot can lin eth : Nat) (k : Nat := 1) : State :=
  s.countSlot (if isCan slot then can else if isLin slot then lin else eth) slot k

def State.countTxRefused (s : State) (slot : Nat) : State :=
  s.countPort slot E.portCanCntTxRefused E.portLinCntTxRefused E.portEthCntTxRefused

/-- A frame's format fits a port (R105, R106). -/
def State.formatFits (s : State) (slot : Nat) (f : Frame) : Bool :=
  if isCan slot then
    let fmt := s.cfgSlot E.portCanFormat slot
    s.cfgSlot E.portCanMode slot == 0 &&
    match f.fmt with
    | .cc => fmt != 3
    | .fd => fmt == 1 || fmt == 2
    | .xl => fmt == 2 || fmt == 3
    | _ => false
  else if isLin slot then f.fmt == .lin
  else f.fmt == .eth

/-- The port refuses new copies (Tables 4-3, 5-6, R105, R232). -/
def State.portRefuses (s : State) (slot : Nat) (f : Frame) : Bool :=
  s.portState slot == 0 || s.portState slot == 3 || (s.port slot).holdExpired || !s.formatFits slot f

/-- Release a copy's charges: an ATOMIC member's die returns credit through ATOMIC_CREDIT_RETURN, every other account follows from the
stored copies (R219); back-pressure may end. -/
def State.released (s : State) (n : Nat) : State := s.bpSettle n

/-- Take the copy being sent out of a queue. -/
def State.takeSending (s : State) (row : Nat) : Option (Copy × State) :=
  (s.queue row).find? (·.sending) |>.map (fun cp =>
    (cp, (s.setQueue row (s.queue row |>.eraseIdx (((s.queue row).findIdx? (·.sending)).getD 0)))))

/-- The loss of an ATOMIC copy counts in its group (R230). -/
def State.lossOf (s : State) (cp : Copy) : State :=
  if cp.atomic == 0 then s else s.countRow E.groupCntPartialLoss (cp.atomic - 1)

/-- The policer of a row: full buckets where it has not run (R221). -/
def State.policer (s : State) (row : Nat) : Policer :=
  (mfind s.policers row).getD ⟨s.cfgRow E.policerCbs row * 320000, s.cfgRow E.policerPbs row * 320000, s.clock.ticks⟩

/-- The buckets refilled up to now (R221). -/
def State.refilled (s : State) (row : Nat) : Policer :=
  let p := s.policer row
  let steps := s.clock.ticks - p.since
  ⟨min (s.cfgRow E.policerCbs row * 320000) (p.tc + steps * s.cfgRow E.policerCir row),
   min (s.cfgRow E.policerPbs row * 320000) (p.tp + steps * s.cfgRow E.policerPir row), s.clock.ticks⟩

/-- The two-rate three-colour marking of R221: colour and buckets after a frame of `b` bytes; `yellow` is its pre-colour. -/
def mark2698 (p : Policer) (b : Nat) (yellow : Bool) : Nat × Policer :=
  let c := b * 320000
  if p.tp < c then (2, p)
  else if yellow || decide (p.tc < c) then (1, { p with tp := p.tp - c })
  else (0, { p with tp := p.tp - c, tc := p.tc - c })

/-- A frame's stored length (R103, R146): 16 bytes and the data, or the Ethernet frame with its FCS. -/
def frameLength (f : Frame) : Nat := if f.fmt == .eth then f.data.length + 4 else 16 + f.data.length

/-- Cells of a stored length (R9). -/
def cellsOf (len : Nat) : Nat := max 1 (ceilDiv len 256)

/-- Police a copy at stage 5 (R221): its colour, counted; a red frame under `redAction` 0 is dropped (none). -/
def State.police (s : State) (cp : Copy) : State × Option Copy :=
  if cp.policer == 0xFFFF then (s, some { cp with colour := 0 })
  else
    let row := cp.policer
    let yellow := s.cfgRowOn E.policerColourAware row && cp.dei
    let r := mark2698 (s.refilled row) (frameLength cp.frame) yellow
    let s1 := { s with policers := mput s.policers row r.2 }
    let s2 := s1.countRow (E.policerCntGreen + r.1) row
    if r.1 == 2 && s.cfgRow E.policerRedAction row == 0 then (s2.countRow E.policerCntRedDropped row, none)
    else (s2, some { cp with colour := r.1, policer := 0xFFFF })

end Sys2Proof.Machine
end

