-- ==== Sys2Proof/Machine/Lookup.lean ====
section
/-! DEFINITION. Frames as the lookup unit sees them: Ethernet fields, route keys, routes, and the search of a port's bank and its slice's
associative memory (R149, R178 to R196, R213). -/

namespace Sys2Proof.Machine
open Sys2Proof

/-- A byte of a list, 0 past its end. -/
def byteAt (l : Bytes) (i : Nat) : Nat := ((l.drop i).headD 0).toNat

/-- Destination and source address of an Ethernet frame, as numbers whose low byte is sent first. -/
def ethDst (d : Bytes) : Nat := leNat (d.take 6)
def ethSrc (d : Bytes) : Nat := leNat ((d.drop 6).take 6)

/-- The frame is tagged (R149). -/
def ethTagged (d : Bytes) : Bool := beNat ((d.drop 12).take 2) == 0x8100

/-- The tag's control information. -/
def ethTci (d : Bytes) : Nat := beNat ((d.drop 14).take 2)

/-- The EtherType after any tag (R186). -/
def ethType (d : Bytes) : Nat := if ethTagged d then beNat ((d.drop 16).take 2) else beNat ((d.drop 12).take 2)

/-- What follows the EtherType. -/
def ethPayload (d : Bytes) : Bytes := if ethTagged d then d.drop 18 else d.drop 14

/-- A group address, and the broadcast address. -/
def isGroupMac (m : Nat) : Bool := m % 2 == 1
def broadcastMac : Nat := 2 ^ 48 - 1

/-- Kind and value of the route key of a CAN or LIN frame (Table 6-2). -/
def frameKey (f : Frame) : Nat × Nat :=
  match f.fmt with
  | .xl => (2, f.id % 2048 * 2 ^ 21 + f.sdt % 256 * 2 ^ 13 + f.vcid % 256 * 2 ^ 5)
  | .lin => (3, f.id % 64 * 2 ^ 26)
  | _ => if f.ext then (1, f.id % 2 ^ 29 * 8) else (0, f.id % 2048 * 2 ^ 21)

/-- The maximum prefix length of a kind (Table 6-2). -/
def kindLength (k : Nat) : Nat :=
  match k with
  | 0 => 11
  | 1 => 29
  | 2 => 27
  | 3 => 6
  | 4 => 32
  | _ => 15

/-- The prefix rule (R181): the `len` leading bits of two values of `width` bits agree. -/
def prefixEq (width len a b : Nat) : Bool := a / 2 ^ (width - len) == b / 2 ^ (width - len)

/-- A value masked to its `len` leading bits of 32. -/
def maskTo (len v : Nat) : Nat := v / 2 ^ (32 - len) * 2 ^ (32 - len)

/-- A route as a search finds it: where it stands (index and row as an OD key, 0 for the implicit Anise route), realm, kind (14 for IPv6), value,
length, scope, and its result (R181, R185, R187). -/
structure Route where
  place : Nat
  realm : Nat
  kind : Nat
  value : Nat
  len : Nat
  scope : Nat
  dest : Nat
  cls : Nat
  policer : Nat
  nextHop : Nat
  vid : Nat
  deriving DecidableEq, Repr

/-- The number that stands for the implicit Anise route in a memory; IPv6 row r is 65,536 + r. -/
def aniseRoute : Nat := 0x20000

/-- The internal port Dn.PRCk (Table 6-4). -/
def prc (n k : Nat) : Nat := 0x100 + 2 * (n - 1) + k

/-- A routing entry as its placed copy holds it. IPv6 addresses are in network byte order (Table 6-11). -/
def State.route (s : State) (r : Nat) : Route :=
  if r == aniseRoute then
    ⟨0, s.cfg E.accessAniseRealm, 4, s.cfg E.accessAniseIpv4, 32, 0xFFFF, prc (s.cfg E.accessAniseHostDie) 0, 0xFF, 0xFFFF, 0, 0⟩
  else if 0x10000 ≤ r then
    let x := r - 0x10000
    ⟨okey (0x2401 * 256) x, s.cfgRow E.route6Realm x, 14, beNat (toLE 16 (s.cfgRow E.route6Address x)), s.cfgRow E.route6Length x, s.cfgRow E.route6Scope x,
      s.cfgRow E.route6Dest x, s.cfgRow E.route6Class x, s.cfgRow E.route6Policer x, s.cfgRow E.route6NextHopMac x, s.cfgRow E.route6Vid x⟩
  else
    ⟨okey (0x2400 * 256) r, s.cfgRow E.routeRealm r, s.cfgRow E.routeKind r, s.cfgRow E.routeValue r, s.cfgRow E.routeLength r, s.cfgRow E.routeScope r,
      s.cfgRow E.routeDest r, s.cfgRow E.routeClass r, s.cfgRow E.routePolicer r, s.cfgRow E.routeNextHopMac r, s.cfgRow E.routeVid r⟩

/-- A route matches a key from an ingress port (R181, R182); `code` 0xFFFF stands for a port that no scope names (R263). -/
def Route.fits (r : Route) (realm kind value code : Nat) : Bool :=
  r.realm == realm && r.kind == kind && prefixEq (if kind == 14 then 128 else 32) r.len r.value value &&
  (r.scope == 0xFFFF || r.scope == code)

/-- The better of two matching routes in one memory: the longer, then the scoped (R182, R195). -/
def Route.better (a b : Route) : Route :=
  if a.len < b.len then b else if b.len < a.len then a else if b.scope != 0xFFFF && a.scope == 0xFFFF then b else a

/-- The best of a list of routes. -/
def bestRoute : List Route → Option Route
  | [] => none
  | r :: rs => some (rs.foldl Route.better r)

/-- The hash of a bank entry or probe (R191). -/
def bankHash (realm kind len value : Nat) : Nat :=
  crc32Msb (toLE 1 realm ++ toLE 1 (kind * 16) ++ toLE 1 len ++ toBE 4 (maskTo len value))

/-- Bucket and filter bit of a hash (R191). -/
def bankBucket (c : Nat) : Nat := bitsOf c 19 10
def bankFilter (c : Nat) : Nat := bitsOf c 9 0

/-- The buckets that a probe sequence reads, from length 32 down to `stop` (R192). -/
def bankReads (entries : List Route) (realm kind value stop : Nat) : List Nat :=
  ((List.range 33).reverse.filter (fun len => stop ≤ len && entries.any (fun e => e.kind == kind && e.len == len))).filterMap (fun len =>
    let c := bankHash realm kind len value
    if entries.any (fun e => bankFilter (bankHash e.realm e.kind e.len e.value) == bankFilter c) then some (bankBucket c) else none)

/-- What stage 4 finds: a route, nothing, a damaged word (R285, class 0x03), or that the route which answers is unplaced (R282). -/
inductive Found where
  | hit (r : Route)
  | miss
  | damaged
  | missing (r : Route)
  deriving DecidableEq, Repr

/-- Numbers of a die's tables for the scrubber (R285): bank of the port with local number p (22, 23 for the internal ports), 32 and 33 the slice
memories, 34 the ID guard table, 35 the forwarding database; a word of bucket b of table t is t + 64 × b. -/
def tableWord (t b : Nat) : Nat := t + 64 * b
def Die.damagedAny (d : Die) (t : Nat) : Bool := d.damaged.any (fun x => x % 64 == t)

/-- Local number of a port code for its bank, and its slice (R28, Table 6-6). -/
def codeLocal (c : Nat) : Nat := if c < 0x100 then slotLocal c else 22 + c % 2
def codeSlice (c : Nat) : Nat :=
  if c < 0x100 then (let l := slotLocal c; if l < 4 || l == 8 || l == 9 || l == 16 || l == 17 then 0 else 1) else c % 2

/-- The routes that a placement left unplaced (R282). -/
def State.missedRoutes (s : State) (pl : Placement) : List Route :=
  pl.missed.filterMap (fun x =>
    if x.1 == 0x2400 then some (s.route x.2) else if x.1 == 0x2401 then some (s.route (0x10000 + x.2)) else if x.1 == 0x1110 then some (s.route aniseRoute) else none)

/-- What the memories found, unless a route that is unplaced would have answered before it (R282). -/
def Found.orMissing (f : Found) (missed : List Route) : Found :=
  match bestRoute missed, f with
  | some u, .hit r => if u.better r == u && r.better u == u then .missing u else f
  | some u, .miss => .missing u
  | _, _ => f

/-- Bank and associative memory in parallel (R28, R192, R195, R196): `port` names the bank and slice searched, `code` the scope it carries. -/
def State.search (s : State) (n port code realm kind value : Nat) : Found :=
  let pl := s.placementOf n
  let bank := (mget [] pl.banks port).map s.route
  let tcam := (mget [] pl.tcams (2 * (n - 1) + codeSlice port)).map s.route
  let bankHit := bestRoute (bank.filter (·.fits realm kind value code))
  let tcamHit := bestRoute (tcam.filter (·.fits realm kind value code))
  let reads := bankReads bank realm kind value (match bankHit with
    | some r => r.len
    | none => 0)
  if (s.die n).damagedAny (32 + codeSlice port) || reads.any (fun b => (s.die n).damaged.contains (tableWord (codeLocal port) b)) then .damaged
  else
    (match bankHit, tcamHit with
    | some b, some t => .hit (if b.len < t.len then t else b)
    | some b, none => .hit b
    | none, some t => .hit t
    | none, none => .miss : Found).orMissing ((s.missedRoutes pl).filter (·.fits realm kind value code))

/-- The die default route (R182, R213). -/
def State.defaultRoute (s : State) (n : Nat) : Route := ⟨0, 0, 0, 0, 0, 0xFFFF, s.cfg (E.routeDieDefault + (n - 1)), 0xFF, 0xFFFF, 0, 0⟩

/-- A batch of destinations: 0 or an ATOMIC group plus 1, and the member codes. -/
abbrev Batch := Nat × List Nat

/-- The batch a destination code names (Table 6-4, R230). -/
def State.batchOf (s : State) (dest : Nat) : Batch :=
  if 0x8000 ≤ dest && dest < 0x8400 then
    (if s.cfgRowOn E.groupAtomic (dest - 0x8000) then dest - 0x8000 + 1 else 0, s.groupMembers (dest - 0x8000))
  else (0, [dest])

/-- Remove the ingress port's own code from a batch, counting it once in `sameportFiltered` (R182). -/
def State.ownOut (s : State) (n own : Nat) (b : Batch) : State × Batch :=
  if b.2.contains own then (s.countDie E.dieCntSameportFiltered n, (b.1, b.2.filter (· != own))) else (s, b)

/-- A result of stage 4: what the copies inherit, and the batches they go to; none drops the frame. -/
structure Decision where
  route : Nat := 0
  cls : Nat := 0xFF
  policer : Nat := 0xFFFF
  routed : Bool := false
  nextHop : Nat := 0
  rvid : Nat := 0
  batches : List Batch := []
  deriving DecidableEq, Repr

/-- The decision a route gives. -/
def State.decide1 (s : State) (n own : Nat) (r : Route) : State × Decision :=
  let d : Decision := { route := r.place, cls := r.cls, policer := r.policer, nextHop := r.nextHop, rvid := r.vid }
  if r.dest == 0xFFFE then (s.countDie E.dieCntRouteDrop n, d)
  else if r.dest == 0xFFFF then (s, d)
  else
    let x := s.ownOut n own (s.batchOf r.dest)
    (x.1, { d with batches := [x.2] })

/-- A drop counted in `0x2710[n]:05` (R277, R279, R282, R285). -/
def State.countUnreachable (s : State) (n : Nat) (k : Nat := 1) : State := s.countRow E.healthDieCntUnreachableDrop n k

/-- Forwarding by route of a key (R182): the best route, or the die default route; none when a damaged word was read, or the route that answers is unplaced (R282). -/
def State.byRoute (s : State) (n port code own realm kind value : Nat) : State × Option Decision :=
  match s.search n port code realm kind value with
  | .damaged | .missing _ => (s.countUnreachable n, none)
  | .hit r =>
    let x := s.decide1 n own r
    (x.1, some x.2)
  | .miss =>
    let x := (s.countDie E.dieCntDefaultHits n).decide1 n own (s.defaultRoute n)
    (x.1, some x.2)

/-- One's complement sum of 16-bit big-endian words. -/
def onesSum : Bytes → Nat
  | a :: b :: l => a.toNat * 256 + b.toNat + onesSum l
  | [a] => a.toNat * 256
  | [] => 0

/-- Fold a sum into 16 bits with end-around carry. -/
def foldSum (n : Nat) : Nat := let a := n % 65536 + n / 65536; let b := a % 65536 + a / 65536; b % 65536 + b / 65536

/-- The checks of a routed IPv4 header (R187): 0 good, 1 header, 2 TTL. -/
def ipv4Check (p : Bytes) : Nat :=
  let ihl := byteAt p 0 % 16
  let total := beNat ((p.drop 2).take 2)
  if p.length < 20 || byteAt p 0 / 16 != 4 || ihl < 5 || p.length < total || p.length < 4 * ihl || foldSum (onesSum (p.take (4 * ihl))) != 0xFFFF then 1
  else if byteAt p 8 ≤ 1 then 2 else 0

/-- The checks of a routed IPv6 header (R187). -/
def ipv6Check (p : Bytes) : Nat :=
  if p.length < 40 || byteAt p 0 / 16 != 6 || p.length < 40 + beNat ((p.drop 4).take 2) then 1
  else if byteAt p 7 ≤ 1 then 2 else 0

/-- A realm's row, 0 and false where it is not valid (R213). -/
def State.routerMac (s : State) (realm : Nat) : Nat := if s.cfgRowOn E.realmValid realm then s.cfgRow E.realmRouterMac realm else 0
def State.classKeys (s : State) (realm : Nat) : Bool := s.cfgRowOn E.realmValid realm && s.cfgRowOn E.realmClassKey realm
def State.learns (s : State) (realm : Nat) : Bool := s.cfgRowOn E.realmValid realm && s.cfgRowOn E.realmLearning realm

/-- The valid group row that answers a group address (R188). -/
def State.groupRow (s : State) (realm mac : Nat) : Option Nat :=
  (s.validRows E.groupValid).find? (fun g => s.cfgRowOn E.groupMacValid g && s.cfgRow E.groupRealm g == realm && s.cfgRow E.groupMac g == mac)

/-- The flood group of a realm (R188). -/
def State.floodGroup (s : State) (realm : Nat) : Option Nat :=
  if s.cfgRowOn E.realmValid realm && s.cfgRow E.realmFloodGroup realm != 0xFFFF then some (s.cfgRow E.realmFloodGroup realm) else none

/-- Flooding (R188): the flood group's batch, or a counted drop. -/
def State.flood (s : State) (n realm : Nat) : State × List Batch :=
  match s.floodGroup realm with
  | some g => (s.countDie E.dieCntUnknownFlooded n, [s.batchOf (0x8000 + g)])
  | none => (s.countDie E.dieCntUnknownDropped n, [])

/-- A static row of an address of a realm that the die's placement left unplaced on it (R205, R282). -/
def State.missedStatic (s : State) (n realm mac : Nat) : Bool :=
  let pl := s.placementOf n
  pl.missed.any (fun x => x.1 == 0x2410 && s.cfgRow E.fdbStaticRealm x.2 == realm && s.cfgRow E.fdbStaticMac x.2 == mac && !(mget [] pl.statics n).contains x.2)

/-- The bridged destinations of a frame (R188). A destination of 0xFFFE in a static entry drops the frame, counted in `routeDrop`; the copy that an unplaced static
row would make is not made, and counts (R282). -/
def State.bridge (s : State) (n realm dst : Nat) : State × List Batch :=
  if isGroupMac dst then
    match (if dst == broadcastMac then none else s.groupRow realm dst) with
    | some g => (s, [s.batchOf (0x8000 + g)])
    | none => s.flood n realm
  else if s.missedStatic n realm dst then (s.countUnreachable n, [])
  else match fdbLookup (s.die n).fdb realm dst with
    | some e => if e.dest == 0xFFFE then (s.countDie E.dieCntRouteDrop n, []) else (s, [(0, [e.dest])])
    | none => s.flood n realm

/-- A lookup of the forwarding database reads a damaged word (R198, R285). -/
def State.fdbDamaged (s : State) (n realm dst : Nat) : Bool :=
  let d := (s.die n).damaged
  !isGroupMac dst && (d.contains (tableWord 35 (fdbH1 realm dst)) || d.contains (tableWord 35 (fdbH2 realm dst)) ||
    (List.range 16).any (fun i => d.contains (tableWord 35 (8192 + i))))

/-- Remove own code from every batch; the frame counts once (R182, R188). -/
def State.ownOutAll (s : State) (n own : Nat) (l : List Batch) : State × List Batch :=
  if l.any (fun b => b.2.contains own) then
    (s.countDie E.dieCntSameportFiltered n, l.map (fun b => (b.1, b.2.filter (· != own))))
  else (s, l)

/-- An ARP request for the Anise address in the Anise realm (R79, R190). -/
def State.isAniseArp (s : State) (realm : Nat) (d : Bytes) : Bool :=
  let p := ethPayload d
  s.cfgOn E.accessAniseEnable && realm == s.cfg E.accessAniseRealm && ethType d == 0x0806 && decide (28 ≤ p.length) && beNat ((p.drop 6).take 2) == 1 &&
  beNat ((p.drop 24).take 4) == s.cfg E.accessAniseIpv4

/-- What a kind 5 route adds to bridged destinations (R189). -/
def State.overlay (s : State) (base : List Batch) (r : Route) : List Batch :=
  if r.dest == 0xFFFF then []
  else [((s.batchOf r.dest).1, (s.batchOf r.dest).2.filter (fun c => !base.any (fun y => y.2.contains c)))]

/-- A bridged frame with its class-key overlay (R188 to R190); none where it is dropped whole. -/
def State.bridged (s : State) (n port code own realm vid pcp : Nat) (d : Bytes) : State × Option Decision :=
  let dst := ethDst d
  let k5 := if s.classKeys realm then s.search n port code realm 5 (vid % 4096 * 2 ^ 20 + pcp % 8 * 2 ^ 17) else .miss
  let plain (dec : Decision) (more : List Batch → List Batch) : State × Option Decision :=
    let b := s.bridge n realm dst
    let base := b.2 ++ (if s.isAniseArp realm d then [((0 : Nat), [prc (s.cfg E.accessAniseHostDie) 0])] else [])
    let x := b.1.ownOutAll n own (base ++ more base)
    (x.1, some { dec with batches := x.2 })
  if s.fdbDamaged n realm dst then (s.countUnreachable n, none)
  else match k5 with
    | .damaged => (s.countUnreachable n, none)
    | .miss => plain {} (fun _ => [])
    | .missing r => -- DEDUCED, log 138
      if r.dest == 0xFFFE then (s.countUnreachable n, none)
      else
        let x := plain { route := r.place, cls := r.cls, policer := r.policer } (fun _ => [])
        (x.1.when (r.dest != 0xFFFF) (·.countUnreachable n), x.2)
    | .hit r =>
      if r.dest == 0xFFFE then (s.countDie E.dieCntRouteDrop n, some {})
      else plain { route := r.place, cls := r.cls, policer := r.policer } (fun base => s.overlay base r)

/-- Stage 4 of an Ethernet frame (Table 6-5): the decision, and whether the frame was bridged. -/
def State.ethDecide (s : State) (n port code own realm vid pcp : Nat) (d : Bytes) : State × Option Decision × Bool :=
  let rm := s.routerMac realm
  let ip (chk : Nat) (kind value : Nat) : State × Option Decision × Bool :=
    if chk == 1 then (s.countDie E.dieCntIpHeaderDrop n, none, false)
    else if chk == 2 then (s.countDie E.dieCntTtlDrop n, none, false)
    else
      let x := s.byRoute n port code own realm kind value
      (x.1, x.2.map (fun y => { y with routed := true }), false)
  if rm != 0 && ethDst d == rm then
    if ethType d == 0x0800 then ip (ipv4Check (ethPayload d)) 4 (beNat (((ethPayload d).drop 16).take 4))
    else if ethType d == 0x86DD then ip (ipv6Check (ethPayload d)) 14 (beNat (((ethPayload d).drop 24).take 16))
    else
      let x := s.ownOutAll n own [(0, [prc n 0])]
      (x.1, some { batches := x.2 }, false)
  else
    let x := s.bridged n port code own realm vid pcp d
    (x.1, x.2, true)

/-- The route key an Ethernet frame builds (R186, R189), for signal taps (R305). -/
def State.ethKey (s : State) (realm vid pcp : Nat) (d : Bytes) : Option (Nat × Nat × Nat) :=
  let rm := s.routerMac realm
  if rm != 0 && ethDst d == rm then
    if ethType d == 0x0800 then some (realm, 4, beNat (((ethPayload d).drop 16).take 4)) else none
  else if s.classKeys realm then some (realm, 5, vid % 4096 * 2 ^ 20 + pcp % 8 * 2 ^ 17) else none

end Sys2Proof.Machine
end

