-- ==== Sys2Proof/Machine/Limiters.lean ====
section
/-! DEFINITION. Limited evidence requests (R116), port interrupt sources (Table 14-8) and the application pair's stored words. A limiter is named
slot (ID guard), 0x100 + slot (frame authentication), 0x200 + slot (MACsec) or 0x400 + tunnel row. -/

namespace Sys2Proof.Machine
open Sys2Proof

/-- A limiter's state, quiet where nothing is listed. -/
def State.limiter (s : State) (k : Nat) : Limiter := mget {} s.limiters k
def State.setLimiter (s : State) (k : Nat) (l : Limiter) : State := { s with limiters := mset {} s.limiters k l }

/-- The die whose lane 2 carries a limiter's requests. -/
def State.limiterDie (s : State) (k : Nat) : Nat :=
  if k < 0x400 then slotDie (k % 256) else ((mfind s.sumac.inForce.tunnels (k - 0x400)).map (·.1)).getD 1

/-- An event of a limiter (R116): a request at once when it is quiet, else one more outstanding. -/
def State.limited (s : State) (k type unit : Nat) (payload : Bytes) : State :=
  let n := s.limiterDie k
  let l := s.limiter k
  if l.running then
    s.setLimiter k ⟨true, l.outstanding + 1, some (l.first.getD (s.evReq n type unit payload)), s.gptp⟩
  else (s.setLimiter k { l with running := true }).evidence n type unit payload

/-- The summary request of the outstanding events (R116). -/
def Limiter.summary (l : Limiter) : Option EvReq :=
  l.first.map (fun r =>
    let p := if r.type == 0x08 then r.payload.take 8 ++ toLE 8 l.last ++ r.payload.drop 16 else r.payload
    { r with count := min 65535 l.outstanding, payload := p })

/-- EVIDENCE_INTERVAL_END (R116): what exceeds the summary's count goes to the die's overflow count (R325). -/
def State.intervalEnd (s : State) (k : Nat) : State :=
  let l := s.limiter k
  match l.running, l.summary with
  | true, some r => ((s.setLimiter k { running := true }).requestDie (s.limiterDie k) r).updDie (s.limiterDie k) (fun d =>
      { d with coal := { d.coal with overflow := d.coal.overflow + (l.outstanding - 65535) } })
  | true, none => s.setLimiter k {}
  | false, _ => s

def execEvidenceIntervalEnd (limiter : Nat) (s : State) : Result := done (s.intervalEnd limiter)

/-- The interrupt source of a port block (Table 14-8). -/
def portSource (slot : Nat) : Nat :=
  let l := slotLocal slot
  if l < 8 then l else if l < 10 then 8 else if l < 12 then 9 else if l < 20 then l - 6 else 14

/-- A port raises its source (R113, R156, R168). -/
def State.raisePort (s : State) (slot : Nat) : State := s.raiseSource (slotDie slot) (portSource slot)

/-- A PORT_STATE request (R113, R156, R168): cause, class of a pause storm, and the event's counter after the event. -/
def State.portEvidence (s : State) (slot cause cls counter : Nat) : State :=
  s.evidence (slotDie slot) 0x0B slot ([BitVec.ofNat 8 cause, BitVec.ofNat 8 (s.portState slot), BitVec.ofNat 8 cls, 0] ++ toLE 4 counter)

/-- A die's application pair. -/
def State.app (s : State) (n : Nat) : App := mget {} s.apps n
def State.setApp (s : State) (n : Nat) (a : App) : State := { s with apps := mset {} s.apps n a }
def State.updApp (s : State) (n : Nat) (f : App → App) : State := s.setApp n (f (s.app n))

/-- A queue pair. -/
def App.qp (a : App) (k : Nat) : Qp := mget {} a.qps k
def App.setQp (a : App) (k : Nat) (q : Qp) : App := { a with qps := mset {} a.qps k q }
def State.qp (s : State) (n k : Nat) : Qp := (s.app n).qp k
def State.updQp (s : State) (n k : Nat) (f : Qp → Qp) : State := s.updApp n (fun a => a.setQp k (f (a.qp k)))

/-- Words of the application SRAM, by word number; what nothing has written reads 0 (DESIGN CHOICE, log 9). -/
def App.word (a : App) (i : Nat) : Nat := mget 0 a.sram i
def App.setWord (a : App) (i v : Nat) : App := { a with sram := mset 0 a.sram i (v % 2 ^ 32) }

/-- Write bytes at a word-aligned SRAM byte offset. -/
def App.store (a : App) (off : Nat) (bs : Bytes) : App :=
  ((toWords bs).foldl (fun (p : App × Nat) w => (p.1.setWord p.2 w.toNat, p.2 + 1)) (a, off / 4)).1

end Sys2Proof.Machine
end

