-- ==== Sys2Proof/Machine/KeyUse.lean ====
section
/-! DEFINITION. The key store as the blocks that use keys see it (R362 to R369, Tables 12-5, 12-7, 12-10). -/

namespace Sys2Proof.Machine
open Sys2Proof

/-- Counter-mode encryption or decryption inside AES-GCM: each byte exclusive-or the key stream (R123, R367; PRESUMED of NIST SP 800-38D, log 27). -/
def gcmCtr (key iv text : Bytes) : Bytes := text.zipIdx.map (fun x => x.1 ^^^ Config.gcmStream key iv x.2)

/-- Authenticated encryption by AES-GCM: ciphertext and the 16-byte tag over additional data and ciphertext (R123, R162, R363, log 27). -/
def gcmSeal (key iv aad text : Bytes) : Bytes :=
  let c := gcmCtr key iv text
  c ++ toBE 16 (Config.gcmTag key iv aad c).toNat

/-- AES-GCM opening: the plaintext when the 16-byte tag verifies (R124, R163, R367, log 27). -/
def gcmOpen (key iv aad sealed : Bytes) : Option Bytes :=
  let n := sealed.length - 16
  let c := sealed.take n
  if 16 ≤ sealed.length && sealed.drop n == toBE 16 (Config.gcmTag key iv aad c).toNat then some (gcmCtr key iv c) else none

/-- The serial number as 16 bytes (R361). -/
def serialBytes : Bytes := toLE 16 Config.serial.toNat

/-- The generation of a root: 1 MFG, 2 FIELD, 3 SERVICE (R362). -/
def KeyStore.gen (k : KeyStore) (root : Nat) : Nat := if root == 1 then k.genMfg else if root == 2 then k.genField else k.genService

/-- A root's value; a locked or unwritten region reads as zero (R361). -/
def Fuses.root (f : Fuses) (r : Nat) : Nat :=
  if r == 1 then (if f.lockMfg then 0 else f.mfgRoot)
  else if f.lockRoots then 0 else if r == 2 then f.fieldRoot else f.serviceRoot

/-- TRANSPORT_KEY and DUK as the security core reads them: zero behind their lock bits (R361). -/
def Fuses.transportBytes (f : Fuses) : Bytes := toLE 32 (if f.lockTransport then 0 else Config.transportKey.toNat)
def Fuses.dukBytes (f : Fuses) : Bytes := toLE 32 (if f.lockDuk then 0 else Config.duk.toNat)

/-- The root a life-cycle state selects, 0 none (Table 12-5). -/
def selectedRoot (state : Nat) : Nat := if state == 1 then 1 else if state == 2 then 2 else if state == 3 then 3 else 0

/-- A record's root is usable in a state (Table 12-5). -/
def rootUsable (state root : Nat) : Bool := (state == 1 && root == 1) || (state == 2 && root == 2) || (state == 3 && (root == 2 || root == 3))

/-- A family record belongs to its root's present generation (R368). -/
def KeyStore.familyOk (k : KeyStore) (r : KeyRecord) : Bool := r.kind == 0 && r.parentGen == k.gen r.root

/-- A record's generation is valid (R368). -/
def KeyStore.genOk (k : KeyStore) (r : KeyRecord) : Bool :=
  if r.kind == 0 then k.familyOk r
  else match mfind k.records r.parent with
    | some p => k.familyOk p && r.parentGen == p.ownGen
    | none => false

/-- Bytes 0 to 39 of a record (Table 12-7). -/
def KeyRecord.header (r : KeyRecord) (slot : Nat) : Bytes :=
  toLE 1 slot ++ toLE 1 r.kind ++ toLE 1 r.root ++ toLE 1 r.parent ++ toLE 4 r.parentGen ++ toLE 4 r.ownGen ++ toLE 1 r.usage ++ toLE 1 r.blocks ++
  toLE 1 r.dies ++ toLE 1 r.length ++ toLE 1 r.origin ++ toLE 1 r.relation ++ [0, 0] ++ toLE 16 r.label ++ toLE 4 r.kcv

/-- Bytes 100 to 103 of a record (Table 12-7): the CRC-32 over the others. -/
def KeyRecord.check (r : KeyRecord) (slot : Nat) : Nat := crc32 (r.header slot ++ r.iv ++ r.boxed)

/-- A record that checks (R364, R368): its words, and its CRC. -/
def KeyRecord.sane (r : KeyRecord) (slot : Nat) : Bool := r.intact && r.crc == r.check slot

/-- A record's material, unwrapped under DUK (Table 12-6). -/
def State.material (s : State) (slot : Nat) (r : KeyRecord) : Option Bytes :=
  if s.fuses.lockDuk then none
  else (gcmOpen s.fuses.dukBytes r.iv (r.header slot) r.boxed).map (·.take r.length)

/-- The status of a use (Table 12-10, in its order): usage bits, block bits, and the die, 0 for D0. 0 is usable. A port block uses the material that an apply or a
start sent it (R369): without it the record has the status of an empty slot there, which the manual does not say (DESIGN CHOICE, log 112). -/
def State.keyStatus (s : State) (slot usage blocks die : Nat) : Nat :=
  match mfind s.keys.records slot with
  | none => 0x31
  | some r =>
    if !rootUsable s.life.state r.root then 0x33
    else if !s.keys.genOk r then 0x32
    else if r.usage &&& usage != usage then 0x34
    else if r.blocks &&& blocks != blocks || (die != 0 && !bitAt r.dies die) then 0x35
    else if !r.sane slot || (s.material slot r).isNone then 0x36
    else if s.keys.held.contains slot then 0
    else if s.safe.noAes then 0x37
    else if die != 0 then 0x31
    else 0

/-- The key of a usable record. -/
def State.keyBytes (s : State) (slot : Nat) : Bytes :=
  match mfind s.keys.records slot with
  | some r => (s.material slot r).getD []
  | none => []

/-- A KEY record (Table 11-2). -/
def State.keyEvidence (s : State) (slot event gen : Nat) : State := s.evidence 0 0x1A slot ([BitVec.ofNat 8 event, 0] ++ toLE 2 gen)

/-- A failed use (R368): counted, and the first failure of a record after each change appends a KEY record with the status as event code. -/
def State.keyFailed (s : State) (slot status : Nat) : State :=
  if s.keys.failed.contains slot then s
  else
    let gen := match mfind s.keys.records slot with
      | some r => r.parentGen
      | none => 0
    (({ s with keys := { s.keys with failed := s.keys.failed ++ [slot] } }).count E.keyCntFirstUseFailures).keyEvidence slot status gen

/-- The key for a use: its bytes, or the state after the failed use (R368). -/
def State.keyFor (s : State) (slot usage blocks die : Nat) : State × Option Bytes :=
  let st := s.keyStatus slot usage blocks die
  if st == 0 then (s, some (s.keyBytes slot)) else (s.keyFailed slot st, none)

/-- Usage and block bits (Table 12-7). -/
def useMacGen : Nat := 1
def useMacVerify : Nat := 2
def useEncrypt : Nat := 4
def useDecrypt : Nat := 8
def useDerive : Nat := 16
def useAttest : Nat := 32
def blkCmac : Nat := 1
def blkCansec : Nat := 2
def blkMacsec : Nat := 4
def blkAttest : Nat := 8
def blkStore : Nat := 16

/-- A transmit counter reserved in MRAM in blocks (R122, R165): the value to use, with the state after it. -/
def State.takeCounter (s : State) (key block : Nat) : Nat × State :=
  let n := mget 0 s.txCounters key
  let lim := mget 0 s.mram.reserved key
  let s1 := { s with txCounters := mset 0 s.txCounters key (n + 1) }
  (n, if n < lim then s1 else { s1 with mram := { s1.mram with reserved := mset 0 s1.mram.reserved key ((n / block + 1) * block) } })

end Sys2Proof.Machine
end

