-- ==== Sys2Proof/Machine/Auth.lean ====
section
/-! DEFINITION. Frame authentication on CAN: the truncated CMAC profile (R118 to R122) and CANsec (R123, R124). A freshness sequence is named
slot × 32 + p for profile p and slot × 32 + 16 + c for CANsec channel c; the same names serve the transmit counters. -/

namespace Sys2Proof.Machine
open Sys2Proof

/-- The entry of a profile's field (Table 4-12). -/
def profEntry (e slot p : Nat) : Nat := e + slot * 256 + 16 * p

/-- The value of a profile's field as the port block uses it (R132). -/
def State.prof (s : State) (e slot p : Nat) : Nat := s.cfgSlot (e + 16 * p) slot

/-- The word of a CANsec channel as the port block uses it (R123, R132). -/
def State.cansecWord (s : State) (slot c : Nat) : Nat := s.cfgSlot (E.portSecCansecChannel + c) slot

/-- The header fields of an XL frame that its protection covers beside its data (R123): identifier, SDT, VCID and AF. -/
def xlHeader (f : Frame) : Bytes := toBE 2 f.id ++ toBE 1 f.sdt ++ toBE 1 f.vcid ++ toBE 4 f.af

/-- The profile that covers a CC or FD frame (R118): the longer match, then the lower number. -/
def State.profileOf (s : State) (slot : Nat) (f : Frame) : Option Nat :=
  if f.fmt == .cc || f.fmt == .fd then
    let k := frameKey f
    let fits := [0, 1, 2, 3].filter (fun p => s.prof E.portSecProfEnable slot p == 1 && s.prof E.portSecProfMatchKind slot p == k.1 &&
      prefixEq 32 (s.prof E.portSecProfMatchLength slot p) (s.prof E.portSecProfMatchValue slot p) k.2)
    fits.foldl (fun best p => match best with
      | none => some p
      | some b => if s.prof E.portSecProfMatchLength slot b < s.prof E.portSecProfMatchLength slot p then some p else some b) none
  else none

/-- The identifier word of R119. -/
def macId (f : Frame) : Bytes := toBE 4 ((if f.ext then 2 ^ 31 else 0) + f.id)

/-- TMAC: the leftmost `macBits` of AES-CMAC over id, payload and freshness value (R119). -/
def tmac (key : Bytes) (f : Frame) (payload : Bytes) (fv macBits : Nat) : Bytes :=
  (toBE 16 (Config.aesCmac key (macId f ++ payload ++ toBE 8 fv)).toNat).take (macBits / 8)

/-- The candidate freshness value (R120). -/
def freshCandidate (latest tfv t : Nat) : Nat :=
  if t == 64 then tfv
  else
    let c := latest / 2 ^ t * 2 ^ t + tfv
    if c ≤ latest then c + 2 ^ t else c

/-- A freshness sequence's latest accepted value. -/
def State.latest (s : State) (k : Nat) : Nat := mget 0 s.fresh64 k
def State.setLatest (s : State) (k v : Nat) : State := { s with fresh64 := mset 0 s.fresh64 k v }

/-- A frame authentication failure (R120, R124): counted, and a limited FRAME_AUTH request: what failed, how, profile or channel, candidate. -/
def State.authFailed (s : State) (slot mech how which cand : Nat) (f : Frame) (stale : Bool) : State :=
  (s.countSlot (if stale then E.portCanCntAuthStale else E.portCanCntAuthFail) slot).limited (0x100 + slot) 0x09 slot
    ([BitVec.ofNat 8 mech, BitVec.ofNat 8 how, BitVec.ofNat 8 which, 0] ++ toLE 4 ((if f.ext then 2 ^ 31 else 0) + f.id) ++ toLE 8 cand)

/-- The outcome of stage 1 verification: the frame in clear and the bits it was verified with, or dropped. -/
structure Verified where
  frame : Frame
  fvBits : Nat := 0
  macBits : Nat := 0
  deriving DecidableEq, Repr

/-- Verify a covered frame (R120): pass, or fail with the failure action of the profile. -/
def State.verifyCmac (s : State) (slot p : Nat) (f : Frame) : State × Option Verified :=
  let fv := s.prof E.portSecProfFvBits slot p
  let mb := s.prof E.portSecProfMacBits slot p
  let seqName := slot * 32 + p
  let n := f.data.length
  let k := (fv + mb) / 8
  let after (s : State) : State × Option Verified := if s.prof E.portSecProfFailAction slot p == 1 then (s, some ⟨f, 0, 0⟩) else (s, none)
  match s.keyFor (s.prof E.portSecProfKeySlot slot p) useMacVerify blkCmac (slotDie slot) with
  | (s1, none) => after (s1.authFailed slot 1 5 p 0 f false)
  | (s1, some key) =>
    if n < k then after (s1.authFailed slot 1 3 p 0 f false)
    else
      let payload := f.data.take (n - k)
      let cand := freshCandidate (s.latest seqName) (beNat ((f.data.drop (n - k)).take (fv / 8))) fv
      if cand ≤ s.latest seqName || s.prof E.portSecProfWindow slot p < cand - s.latest seqName then after (s1.authFailed slot 1 2 p cand f true)
      else if f.data.drop (n - k + fv / 8) != tmac key f payload cand mb then after (s1.authFailed slot 1 1 p cand f false)
      else (s1.setLatest seqName cand, some ⟨f, fv, mb⟩)

/-- The enabled CANsec channel of a VCID (R123). -/
def State.channelOf (s : State) (slot vcid : Nat) : Option Nat :=
  if s.cfgSlotOn E.portSecCansecEnable slot then
    (List.range 16).find? (fun c => bitAt (s.cansecWord slot c) 31 && bitsOf (s.cansecWord slot c) 23 16 == vcid)
  else none

/-- What a CANsec channel asks of its key (Table 12-8). -/
def channelUsage (w : Nat) : Nat := useMacGen + useMacVerify + (if bitAt w 30 then useEncrypt + useDecrypt else 0)

/-- CANsec at stage 1 (R124). Layout and nonce are CiA 613-2's (Config.cansecVerify); the freshness window is R120's. -/
def State.verifyCansec (s : State) (slot : Nat) (f : Frame) : State × Option Verified :=
  match s.channelOf slot f.vcid with
  | none => if f.sec then (s.authFailed slot 2 4 0 0 f false, none) else (s, some ⟨f, 0, 0⟩)
  | some c =>
    let w := s.cansecWord slot c
    let seqName := slot * 32 + 16 + c
    match s.keyFor (w % 256) (channelUsage w) blkCansec (slotDie slot) with
    | (s1, none) => (s1.authFailed slot 2 5 c 0 f false, none)
    | (s1, some key) =>
      if !f.sec then (s1.authFailed slot 2 1 c 0 f false, none)
      else match Config.cansecVerify key (bitAt w 30) (xlHeader f) f.data with
        | none => (s1.authFailed slot 2 1 c 0 f false, none)
        | some (fv, clear) =>
          if fv ≤ s.latest seqName || s.cfgSlot E.portSecCansecReplayWindow slot < fv - s.latest seqName then (s1.authFailed slot 2 2 c fv f true, none)
          else (s1.setLatest seqName fv, some ⟨{ f with data := clear, sec := false }, 0, 0⟩)

/-- Frame authentication at stage 1 of a CAN port (R118 to R124). -/
def State.verifyFrame (s : State) (slot : Nat) (f : Frame) : State × Option Verified :=
  if f.fmt == .xl then s.verifyCansec slot f
  else match s.profileOf slot f with
    | some p => s.verifyCmac slot p f
    | none => (s, some ⟨f, 0, 0⟩)

/-- Stage 11 of a CAN copy (R104, R121, R124): the frame to send, or none where it may not leave; the authenticator is replaced, or the XL frame
protected. `fv` and `mb` are the bits it was verified with at its ingress. A frame whose egress profile or channel has no usable key is dropped and
counted in `cnt.txAuthRefused`: the manual names no counter for it (DESIGN CHOICE, log 74). -/
def State.protectFrame (s : State) (slot : Nat) (f : Frame) (fv mb : Nat) : State × Option Frame :=
  if f.fmt == .xl then
    match s.channelOf slot f.vcid with
    | none => (s, some f)
    | some c =>
      let w := s.cansecWord slot c
      match s.keyFor (w % 256) (channelUsage w) blkCansec (slotDie slot) with
      | (s1, none) => (s1.countSlot E.portCanCntTxAuthRefused slot, none)
      | (s1, some key) =>
        let t := s1.takeCounter (slot * 32 + 16 + c) 1024
        (t.2, some { f with data := Config.cansecProtect key (bitAt w 30) (xlHeader f) t.1 f.data, sec := true })
  else match s.profileOf slot f with
    | none => (s, some f)
    | some p =>
      if s.prof E.portSecProfEgressMode slot p == 0 then (s, some f)
      else
        let efv := s.prof E.portSecProfFvBits slot p
        let emb := s.prof E.portSecProfMacBits slot p
        if fv == 0 || fv != efv || mb != emb then (s.countSlot E.portCanCntTxAuthRefused slot, none)
        else match s.keyFor (s.prof E.portSecProfKeySlot slot p) useMacGen blkCmac (slotDie slot) with
          | (s1, none) => (s1.countSlot E.portCanCntTxAuthRefused slot, none)
          | (s1, some key) =>
            let t := s1.takeCounter (slot * 32 + p) 1024
            let payload := f.data.take (f.data.length - (fv + mb) / 8)
            (t.2, some { f with data := payload ++ toBE (fv / 8) (t.1 % 2 ^ fv) ++ tmac key f payload t.1 mb })

end Sys2Proof.Machine
end

