-- ==== Sys2Proof/Machine/Forward.lean ====
section
/-! DEFINITION. The forwarding path of a die from stage 3 on: signal taps, sampling, policing, replication, admission at the members' queues, the way to
another die, and held producers (R38 to R41, R217 to R236, R277 to R282, R305 to R307). -/

namespace Sys2Proof.Machine
open Sys2Proof

/-- The partner of a link end (Table 1-4): die and link end. -/
def Variant.partner (v : Variant) (n e : Nat) : Option (Nat × Nat) :=
  match v with
  | .az8102 => none
  | .az8104 => if 4 ≤ e then none else some ((n - 1 + (if e % 2 == 0 then 1 else 2)) % 3 + 1, if e % 2 == 0 then e + 1 else e - 1)
  | .az8108 => if 4 ≤ e then none else some ((n - 1 + (match e with
      | 0 => 1
      | 1 => 6
      | 2 => 3
      | _ => 4)) % 7 + 1, if e % 2 == 0 then e + 1 else e - 1)

/-- A link end's state. -/
def linkKey (n e : Nat) : Nat := (n - 1) * 4 + e
def State.link (s : State) (n e : Nat) : LinkEnd := mget {} s.links (linkKey n e)
def State.setLink (s : State) (n e : Nat) (l : LinkEnd) : State := { s with links := mset {} s.links (linkKey n e) l }
def State.updLink (s : State) (n e : Nat) (f : LinkEnd → LinkEnd) : State := s.setLink n e (f (s.link n e))

/-- A path's hops (R268): the die reached and the link end left. -/
def pathHops (p : Nat) : List (Nat × Nat) :=
  ((List.range (bitsOf p 31 24)).map (fun i => bitsOf p (23 - 8 * i) (16 - 8 * i))).map (fun b => (b / 16, b % 16))

/-- The path a pair uses now (R279, Table 9-5); 0 none. -/
def State.pathNow (s : State) (a b : Nat) : Nat :=
  let row := (a - 1) * 8 + (b - 1)
  let p := (mfind (s.placementOf a).paths row).getD (0, 0)
  match s.stRow E.pathActive row with
  | 0 => p.1
  | 1 => p.2
  | _ => 0

/-- The path generation of a pair (R228). -/
def State.pathGen (s : State) (a b : Nat) : Nat := s.stRow E.pathGeneration ((a - 1) * 8 + (b - 1))

/-- The hosts of a destination code, as die Dn sees it (Table 6-4): its die, 0 for an unplaced tunnel row. -/
def State.hostOf (s : State) (n code : Nat) : Nat :=
  if 0x400 ≤ code && code < 0x800 then ((mfind (s.placementOf n).tunnels (code - 0x400)).map (·.1)).getD 0 else codeDie code

/-- The queue pair of a class on a die can be given copies (R413). -/
def State.qpOpen (s : State) (n c : Nat) : Bool :=
  (s.app n).running && (s.qp n (s.cfg (E.qpRxClass0 + c))).blk.en

/-- A parked port within its hold time, or one that is up or coming up (R230). -/
def State.memberAccepts (s : State) (code : Nat) (cls : Nat) : Bool :=
  if code < 0x100 then
    let st := s.portState code
    !s.lostDie (slotDie code) && (st == 1 || st == 2 || (decide (4 ≤ st) && !(s.port code).holdExpired))
  else if code < 0x200 then !s.lostDie (codeDie code) && (if code % 2 == 0 then (s.die (codeDie code)).runtimeUp else s.qpOpen (codeDie code) cls)
  else true

/-- The ATOMIC account of a group's member on a die (R230, R281). -/
def acctKey (g member die : Nat) : Nat := (g * 65536 + member) * 8 + die

/-- The size of a group's ATOMIC accounts (`0x2528[row]:02`). -/
def State.atomicSize (s : State) (g : Nat) : Nat := if s.cfgRowOn E.groupAdmValid g then s.cfgRow E.groupAdmAtomicCells g else 36

/-- Credit of an ATOMIC member on a die (R230): what its queue may still take, its account less the cells that it holds charged. -/
def State.credit (s : State) (g member die : Nat) : Nat := s.atomicSize g - mget 0 s.credits (acctKey g member die)

/-- Cells charged to an ATOMIC account (R230). -/
def State.chargeAcct (s : State) (g member die cells : Nat) : State :=
  { s with credits := mset 0 s.credits (acctKey g member die) (mget 0 s.credits (acctKey g member die) + cells) }

/-- Cells released at a member whose credit is still to be returned (R230). -/
def State.owe (s : State) (g member die cells : Nat) : State :=
  { s with creditDue := mset 0 s.creditDue (acctKey g member die) (mget 0 s.creditDue (acctKey g member die) + cells) }

/-- An ATOMIC copy's credit goes back when it releases its charges at its member queues, to the account that it was charged to (R219, R230, R281). -/
def State.oweCopy (s : State) (cp : Copy) : State :=
  if cp.atomic == 0 then s else s.forAll cp.dests (fun s m => s.owe (cp.atomic - 1) m cp.acct cp.cells)

/-- An ATOMIC copy that is lost on its way counts in its group and gives its credit back (R230). -/
def State.loseCopy (s : State) (cp : Copy) : State := (s.lossOf cp).oweCopy cp

/-- Admission of a copy that may be held with its producer (R224); a mirror copy that its port stores counts in `mirrored` (R236). -/
def State.admitHold (s : State) (n q : Nat) (cp : Copy) : State :=
  match s.enqueue n q cp with
  | (s1, .held) => s1.updDie n (fun d => { d with held := d.held ++ [(q, cp)] })
  | (s1, .stored) => s1.when (cp.kind == .mirror && q < 21) (·.count E.captureCntMirrored)
  | (s1, .refused) => s1

/-- Count a copy that its queue refuses because nothing can serve it (R413, R285 class 0x06). -/
def State.countLimit (s : State) (n q c : Nat) : State := s.countRow E.queueCntLimitDrop (queueRow n q c)

/-- Send a copy to another die (stage 9): its fabric queue on the path in use, or a counted loss (R277, R279). -/
def State.sendTo (s : State) (n d : Nat) (cp : Copy) : State :=
  let p := s.pathNow n d
  match pathHops p with
  | (_, e) :: _ =>
    if s.lostDie d || (s.die d).state == 0 then (s.loseCopy cp).countUnreachable n
    else s.admitHold n (24 + e) { cp with target := d, srcDie := n, path := p, gen := s.pathGen n d }
  | [] => (s.loseCopy cp).countUnreachable n

/-- Deliver a copy to a destination on its own die (stages 6 and 10): the egress port's refusal (R105, R232), the processor ports' (R413, R285) and
admission; a copy for a tunnel row that has moved goes on to its new die (R281). An ATOMIC copy is never refused (R230), but for a format its port cannot send. -/
def State.deliver (s : State) (n code : Nat) (cp : Copy) : State :=
  let c := { cp with dests := [code], batches := [], stage := .deliver }
  if code < 0x100 then
    if c.atomic == 0 && s.portRefuses code c.frame then s.countTxRefused code
    else if c.atomic != 0 && !s.formatFits code c.frame then (s.countTxRefused code).owe (c.atomic - 1) code c.acct c.cells
    else s.admitHold n (slotLocal code) c
  else if code < 0x200 then
    if code % 2 == 0 then (if (s.die n).runtimeUp || c.atomic != 0 then s.admitHold n 22 c else s.countLimit n 22 c.cls)
    else if s.qpOpen n c.cls || c.atomic != 0 then s.admitHold n 23 c else s.countLimit n 23 c.cls
  else if s.hostOf n code == n then s.admitHold n 28 c
  else if s.hostOf n code == 0 then (s.loseCopy c).countUnreachable n
  else s.sendTo n (s.hostOf n code) c

/-- One batch outside an ATOMIC group (R229): a copy per local member, one copy per other die. -/
def State.replicatePlain (s : State) (n : Nat) (cp : Copy) (members : List Nat) : State :=
  let lost := members.filter (fun m => s.hostOf n m == 0)
  let s0 := s.when (!lost.isEmpty) (·.countUnreachable n lost.length)
  let s1 := s0.forAll (members.filter (fun m => s.hostOf n m == n)) (fun s m => s.deliver n m { cp with acct := n })
  s1.forAll (s.dieList.filter (fun d => d != n && members.any (fun m => s.hostOf n m == d))) (fun s d =>
    s.sendTo n d { cp with stage := .deliver, batches := [], acct := d, dests := members.filter (fun m => s.hostOf n m == d) })

/-- One ATOMIC batch at its replication die (R230). -/
def State.replicateAtomic (s : State) (n : Nat) (cp : Copy) (g : Nat) (members : List Nat) : State :=
  if members.isEmpty then s
  else if members.all (fun m => s.memberAccepts m cp.cls && s.hostOf n m != 0 && decide (cp.cells ≤ s.credit g m (s.hostOf n m))) then
    let s1 := s.forAll members (fun s m => s.chargeAcct g m (s.hostOf n m) cp.cells)
    (s1.countRow E.groupCntDelivered g).replicatePlain n { cp with atomic := g + 1 } members
  else s.countRow E.groupCntAtomicDrop g

/-- The die of a member where a tunnel row lies on the die of its `egressSlot` (R267). -/
def State.egressDie (s : State) (code : Nat) : Nat :=
  if 0x400 ≤ code && code < 0x800 then slotDie (s.cfgRow E.tunnelEgressSlot (code - 0x400)) else codeDie code

/-- The die that replicates for an ATOMIC group: its replication point, or the one die that all its members lie on (R267); none while it is unplaced. -/
def State.replicationDie (s : State) (n : Nat) (b : Batch) : Option Nat :=
  match mfind (s.placementOf n).replication (b.1 - 1) with
  | some d => some d
  | none => match (b.2.map s.egressDie).eraseDups with
    | [d] => some d
    | _ => none

/-- Stage 7 of one batch: at this die, or at the die that replicates for its ATOMIC group (R229, R267, R282). -/
def State.replicate (s : State) (n : Nat) (cp : Copy) (b : Batch) : State :=
  if b.1 == 0 then s.replicatePlain n cp b.2
  else
    match s.replicationDie n b with
    | none => s.countUnreachable n
    | some d =>
      if d == n then s.replicateAtomic n cp (b.1 - 1) b.2
      else s.sendTo n d { cp with stage := .replicate, batches := [b], dests := b.2 }

/-- The batches of a frame with those outside an ATOMIC group as one, so that a die with several of their members gets one copy (R229). -/
def joinPlain (bs : List Batch) : List Batch := ((0 : Nat), ((bs.filter (·.1 == 0)).flatMap (·.2)).eraseDups) :: bs.filter (·.1 != 0)

/-- Stages 6 and 7 of every batch (R229). -/
def State.replicateAll (s : State) (n : Nat) (cp : Copy) (bs : List Batch) : State := (joinPlain bs).foldl (fun s b => s.replicate n cp b) s

/-- Stage 5 (R221, R222, R282): police here, or send one green copy to the policing die. -/
def State.stage5 (s : State) (n : Nat) (cp : Copy) (bs : List Batch) : State :=
  if bs.all (fun b => b.2.isEmpty) then s
  else if cp.policer == 0xFFFF then s.replicateAll n cp bs
  else match mfind (s.placementOf n).policers cp.policer with
    | none => s.countUnreachable n
    | some d =>
      if d == n then
        match s.police cp with
        | (s1, some cp1) => s1.replicateAll n cp1 bs
        | (s1, none) => s1
      else s.sendTo n d { cp with stage := .police, batches := bs, dests := bs.flatMap (·.2) }

/-- The bytes a tap or the sampler reads (R306, R234): data bytes, or the stored Ethernet bytes with the received FCS. -/
def storedBytes (f : Frame) (fcs : Nat) : Bytes := if f.fmt == .eth then f.data ++ toLE 4 fcs else f.data

/-- The raw field of a tap (R306): offset, length, format; none when the data ends before it. -/
def tapField (d : Bytes) (off len fmt : Nat) : Option Int :=
  if 8 * d.length < off + len then none
  else
    let raw := if bitAt fmt 0 then beNat d / 2 ^ (8 * d.length - off - len) % 2 ^ len else leNat d / 2 ^ off % 2 ^ len
    some (if bitAt fmt 1 && bitAt raw (len - 1) then (raw : Int) - (2 ^ len : Nat) else raw)

/-- The tap's value (R306): raw × scale + offset in binary64, rounded to f32. -/
def tapValue (raw : Int) (scale offset : Nat) : Nat :=
  encodeF32 (roundF64 ((roundF64 ((Exact.mk raw 1).mul (decodeF32 scale))).add (decodeF32 offset)))

/-- Send a tap value on lane 2, or keep it as the latest while the lane is full or the interval lasts (R307, R32). -/
def State.sendTap (s : State) (n row : Nat) (v : Nat × Nat × Nat) : State :=
  if s.laneRoom n then
    s.updDie n (fun d => { d with lane2 := d.lane2 ++ [.tap row v.1 v.2.1 v.2.2], taps := mput d.taps row ⟨s.clock.ticks, true, none⟩ })
  else s.updDie n (fun d => { d with taps := mput d.taps row { (mget {} d.taps row) with held := some v } })

/-- A value of a tap on a die (R307). -/
def State.tapEvent (s : State) (n row : Nat) (v : Nat × Nat × Nat) : State :=
  let h := mget {} (s.die n).taps row
  if !h.everSent || decide (msTicks (s.cfgRow E.tapMinInterval row) ≤ s.clock.ticks - h.lastSent) then s.sendTap n row v
  else s.updDie n (fun d => { d with taps := mput d.taps row { h with held := some v } })

/-- One tap reads a frame (R305, R306): `slot` is 0xFFFF for a decapsulated frame. -/
def State.tapOne (s : State) (n slot ts : Nat) (key : Nat × Nat × Nat) (data : Bytes) (row : Nat) : State :=
  if s.cfgRowOn E.tapValid row && s.cfgRow E.tapRealm row == key.1 && s.cfgRow E.tapKind row == key.2.1 &&
     prefixEq 32 (s.cfgRow E.tapLength row) (s.cfgRow E.tapValue row) key.2.2 && (s.cfgRow E.tapSlot row == 0xFFFF || s.cfgRow E.tapSlot row == slot) then
    match tapField data (s.cfgRow E.tapBitOffset row) (s.cfgRow E.tapBitLength row) (s.cfgRow E.tapFormat row) with
    | none => s.countRow E.tapCntShort row
    | some raw => s.tapEvent n row (tapValue raw (s.cfgRow E.tapScale row) (s.cfgRow E.tapOffset row), ts, slot)
  else s

/-- Signal-tap extraction at stage 3 (R40, R305). -/
def State.tapsRead (s : State) (n slot ts : Nat) (key : Option (Nat × Nat × Nat)) (data : Bytes) : State :=
  match key with
  | none => s
  | some k => s.forAll (mget [] (s.placementOf n).taps n) (fun s row => s.tapOne n slot ts k data row)

/-- TAP_INTERVAL_END (R307): the held latest value is sent. -/
def State.tapIntervalEnd (s : State) (n row : Nat) : State :=
  match (mget {} (s.die n).taps row).held with
  | some v => s.sendTap n row v
  | none => s

def execTapIntervalEnd (die row : Nat) (s : State) : Result :=
  doneIf s (s.variant.hasDie die) (s.when (s.inRun && s.dieRuns die) (·.tapIntervalEnd die row))

/-- The ring writer of a die (R235): one record. -/
def State.ringWrite (s : State) (n : Nat) (r : Bytes) : State :=
  let c := (s.app n).cap
  let slots := s.cfg E.captureSlots
  let fill := (c.wr + 2 ^ 32 - c.rd) % 2 ^ 32
  if slots ≤ fill then s.count E.captureCntRingFull
  else
    let s1 := (s.updApp n (fun a => { (a.store (s.cfg E.captureBase + c.wr % slots * 144) r) with cap := { c with wr := (c.wr + 1) % 2 ^ 32 } })).count E.captureCntSamples
    s1.when (c.blk.en && fill + 1 == s.cfg E.captureWatermark) (·.raiseSource n 32)

/-- The format code of a frame (Tables 7-4, 14-9). -/
def fmtCode : FrameFmt → Nat
  | .eth => 0
  | .cc => 1
  | .fd => 2
  | .xl => 3
  | .lin => 4

/-- A sample record (R234, Table 7-4). -/
def sampleRecord (f : Frame) (fcs ts slot dir colour cls seqNo : Nat) : Bytes :=
  let len := if f.fmt == .eth then f.data.length + 4 else f.data.length
  let body := if f.fmt == .eth then (storedBytes f fcs).take 128
    else toLE 4 ((if f.ext then 2 ^ 31 else 0) + f.id) ++ toLE 1 (if f.fmt == .xl then f.sdt else 0) ++ toLE 1 (if f.fmt == .xl then f.vcid else 0) ++
      toLE 2 f.data.length ++ f.data.take 120
  let cut := if f.fmt == .eth then decide (128 < len) else decide (120 < len)
  toLE 8 ts ++ toLE 2 slot ++ toLE 1 (dir * 128 + (if cut then 64 else 0) + colour * 16 + cls) ++ toLE 1 (fmtCode f.fmt) ++ toLE 2 len ++ toLE 2 seqNo ++ pad 128 body

/-- A sample travels to the ring's die: written there, or sent as a one-cell copy charged to the sampler reserve of 32 cells (R235). -/
def State.sampleOut (s : State) (n slot : Nat) (r : Bytes) : State :=
  let d := (s.placementOf n).capture
  if d == n then s.ringWrite n r
  else if d == 0 then s.countUnreachable n
  else
    let p := s.pathNow n d
    match pathHops p with
    | (_, e) :: _ =>
      if s.lostDie d then s.countUnreachable n
      else if 32 ≤ s.charged n .sampler then s.count E.captureCntReserveDrop
      else
        let cp : Copy := { frame := { fmt := .eth, data := r }, ingress := slot, kind := .sample, cls := s.cfg E.captureClass, ts := s.gptp, target := d, srcDie := n, path := p,
                           gen := s.pathGen n d, source := slot, charge := .sampler, fid := s.nextFid }
        { s with nextFid := s.nextFid + 1 }.store (queueRow n (24 + e) cp.cls) cp .sampler
    | [] => s.countUnreachable n

/-- The mirror frame of a sample (R236), admitted at the mirror port's queue like any copy; a copy stored there counts in `mirrored`. -/
def State.mirrorDeliver (s : State) (n : Nat) (cp : Copy) : State :=
  let slot := s.cfg E.captureMirrorSlot
  if s.portRefuses slot cp.frame then s.countTxRefused slot else s.admitHold n (slotLocal slot) { cp with dests := [slot] }

/-- A sample leaves as a mirror copy (R236). Its source in the sampling die is the sampled slot, whose headroom it may charge (R224; DESIGN CHOICE, log 110). -/
def State.mirrorOut (s : State) (n slot : Nat) (r : Bytes) (payload : Nat) : State :=
  let m := s.cfg E.captureMirrorSlot
  if m == 0xFFFF then s
  else
    let f : Frame := { fmt := .eth, data := toLE 6 (s.cfg E.captureMirrorMac) ++ toLE 6 (s.cfgSlot E.portEthMacAddress m) ++ toBE 2 (s.cfg E.captureMirrorEtherType) ++
      (r.take payload ++ List.replicate (46 - payload) 0) }
    let cp : Copy := { frame := f, ingress := slot, kind := .mirror, cls := s.cfg E.captureClass, ts := s.gptp, cells := 1, vid := s.cfgSlot E.portEthVlanDefaultVid m,
                       pcp := s.cfgSlot E.portEthVlanDefaultPcp m, changed := true, source := slot, dests := [m], fid := s.nextFid }
    let s1 := { s with nextFid := s.nextFid + 1 }
    if slotDie m == n then s1.mirrorDeliver n cp else s1.sendTo n (slotDie m) cp

/-- A frame at a sampling point, receive (0) or transmit (1) (R233, R234). -/
def State.samplePoint (s : State) (slot dir : Nat) (f : Frame) (fcs ts colour cls : Nat) : State :=
  let row := slot * 2 + dir
  if !(s.cfgOn E.captureEnable && s.cfgRowOn E.sampleValid row) then s
  else
    let k := mget 0 s.samples row + 1
    if k < s.cfgRow E.sampleN row then { s with samples := mset 0 s.samples row k }
    else
      let q := (s.stRow E.sampleSequence row + 1) % 65536
      let n := slotDie slot
      let r := sampleRecord f fcs ts slot dir (if dir == 0 then 0 else colour) cls q
      let got := if f.fmt == .eth then min (f.data.length + 4) 128 else 8 + min f.data.length 120
      let s1 := ({ s with samples := mset 0 s.samples row 0 }.setRow E.sampleSequence row q).sampleOut n slot r
      s1.when (s.cfgRowOn E.sampleMirror row) (·.mirrorOut n slot r (16 + got))

/-- A learn request of a bridged frame (R201). -/
def State.learnFrom (s : State) (n realm src dest : Nat) (fabric : Bool) : State :=
  s.when (s.learns realm && !isGroupMac src && src != 0) (·.learnEnqueue n ⟨realm, src, dest, fabric⟩)

/-- The source of a bridged frame is locked to another destination (Table 6-7, last row): the frame makes a learn request (R201, R202), and the request meets a
locked static entry. -/
def State.lockedOut (s : State) (n realm src dest : Nat) : Bool :=
  s.learns realm && !isGroupMac src && src != 0 && decide ((s.die n).learnQ.length < 64) &&
  match fdbLookup (s.die n).fdb realm src with
  | some e => e.isStatic && e.lock && e.dest != dest
  | none => false

/-- Apply a decision to a copy and go on with stage 5. -/
def State.decided (s : State) (n : Nat) (cp : Copy) (d : Decision) : State :=
  s.stage5 n { cp with cls := if d.cls < 8 then d.cls else cp.cls, route := d.route, policer := d.policer, routed := d.routed, nextHop := d.nextHop, rvid := d.rvid } d.batches

/-- Stages 4 on of a CAN or LIN frame entering at `port` (R182); `code` is its scope code and `own` its own destination code. -/
def State.forwardNative (s : State) (n port code own : Nat) (cp : Copy) : State :=
  let k := frameKey cp.frame
  match s.byRoute n port code own cp.realm k.1 k.2 with
  | (s1, some d) => s1.decided n { cp with key := some (cp.realm, k.1, k.2) } d
  | (s1, none) => s1

/-- Stages 4 on of an Ethernet frame; `learn` when it entered an external port (R201). -/
def State.forwardEth (s : State) (n port code own : Nat) (cp : Copy) (learn : Bool) : State :=
  let d := cp.frame.data
  let src := ethSrc d
  let isBridged := !(s.routerMac cp.realm != 0 && ethDst d == s.routerMac cp.realm)
  if learn && isBridged && s.lockedOut n cp.realm src own then s.countDie E.dieCntLockedSourceDrop n
  else
    let x := s.ethDecide n port code own cp.realm cp.vid cp.pcp d
    let s1 := x.1.when (learn && x.2.2) (·.learnFrom n cp.realm src own false)
    match x.2.1 with
    | some dec => s1.decided n { cp with learn := learn && x.2.2 } dec
    | none => s1

/-- A producer is held for a class: its next frame waits (R224, R415). -/
def State.producerHeld (s : State) (n src : Nat) : Bool := (s.die n).held.any (fun x => x.2.source == src)

/-- Enter a frame from an internal port of a die at stage 3 (R79, R153): its VID, PCP and DEI come from its tag. It feeds no tap: R305 gives taps the frames of stages
1 and 2, and R414 names PRC1 alone (DESIGN CHOICE, log 124). -/
def State.enterInternal (s : State) (n k realm : Nat) (d : Bytes) : State :=
  let vid := if ethTagged d then ethTci d % 4096 else 0
  let pcp := if ethTagged d then ethTci d / 8192 else 0
  let cp : Copy := { frame := { fmt := .eth, data := d }, ingress := prc n k, realm := realm, vid := vid, pcp := pcp, dei := ethTagged d && bitAt (ethTci d) 12,
                     ts := s.gptp, cells := cellsOf (d.length + 4), srcDie := n, fid := s.nextFid, source := prc n k, fcs := crc32 d, changed := true,
                     key := s.ethKey realm vid pcp d }
  { s with nextFid := s.nextFid + 1 }.forwardEth n (prc n k) (prc n k) (prc n k) cp false

/-- A frame that an internal port of a die sends: while the producer is held, it waits for it (R224). -/
def State.sendInternal (s : State) (n k realm : Nat) (d : Bytes) : State :=
  if s.producerHeld n (prc n k) then s.updDie n (fun x => { x with prcWait := x.prcWait ++ [(k, realm, d)] })
  else s.enterInternal n k realm d

/-- The frames that waited for their producer try again, in their order (R224). -/
def State.retryWaiting (s : State) (n : Nat) : State :=
  let l := (s.die n).prcWait
  if l.isEmpty then s else l.foldl (fun s x => s.sendInternal n x.1 x.2.1 x.2.2) (s.updDie n (fun d => { d with prcWait := [] }))

/-- A held copy tries again: one for another die takes the path then in use, with its generation (R228, R279). -/
def State.retryOne (s : State) (n : Nat) (x : Nat × Copy) : State :=
  if s.bpOn x.2.source x.2.cls then s.updDie n (fun d => { d with held := d.held ++ [x] })
  else if 24 ≤ x.1 && x.1 < 28 then s.sendTo n x.2.target x.2
  else s.admitHold n x.1 x.2

/-- Held producers try again once back-pressure has ended (R224). -/
def State.retryHeld (s : State) (n : Nat) : State :=
  let l := (s.die n).held
  let s1 := if l.isEmpty then s else l.foldl (fun s x => s.retryOne n x) (s.updDie n (fun d => { d with held := [] }))
  s1.retryWaiting n

/-- After charges are released on a die: back-pressure may end, and held copies try again (R219, R224). -/
def State.freed (s : State) (n : Nat) : State := (s.bpSettle n).retryHeld n

end Sys2Proof.Machine
end

