-- ==== Sys2Proof/Machine/Ports.lean ====
section
/-! DEFINITION. What the ports of every kind share: port states, parking, draining, flushing, selection of the next copy, and what happens when a
port becomes ENABLED (R130 to R134, R167 to R171, R226, R227, R231, R232, R391). -/

namespace Sys2Proof.Machine
open Sys2Proof

/-- A copy is older than its class's residence limit (R227). -/
def State.aged (s : State) (cp : Copy) : Bool :=
  let lim := s.cfg (E.classResidenceLimit + cp.cls * 256)
  lim != 0 && decide (lim * 1000000 < s.gptp - cp.ts)

/-- Split off the aged copies at the front of what a queue may send: the copies that stay, and the aged ones. Copies that may not leave are passed over. -/
def dropAged (may aged : Copy → Bool) : List Copy → List Copy × List Copy
  | [] => ([], [])
  | cp :: l =>
    if !may cp then (cp :: (dropAged may aged l).1, (dropAged may aged l).2)
    else if aged cp then ((dropAged may aged l).1, cp :: (dropAged may aged l).2)
    else (cp :: l, [])

/-- Discard the aged copies that a taker would meet first among those it may take, each counted in `residenceExpired` (R227). -/
def State.purgeWhere (s : State) (row : Nat) (may : Copy → Bool) : State :=
  let r := dropAged may s.aged (s.queue row)
  if r.2.isEmpty then s
  else (r.2.foldl State.loseCopy ((s.setQueue row r.1).countRow E.queueCntResidenceExpired row r.2.length)).freed (rowDie row)

/-- Discard the aged copies at the head of a queue as long as its taker would take them, each counted in `residenceExpired` (R227). -/
def State.purgeTaken (s : State) (row : Nat) (may : Copy → Bool) : State :=
  let l := (s.queue row).takeWhile (fun cp => may cp && s.aged cp)
  if l.isEmpty then s
  else (l.foldl State.loseCopy ((s.setQueue row ((s.queue row).drop l.length)).countRow E.queueCntResidenceExpired row l.length)).freed (rowDie row)

/-- Discard aged copies from the head of a queue (R227). -/
def State.purge (s : State) (row : Nat) : State := s.purgeWhere row (fun cp => !cp.sending)

/-- The highest class with a copy to take at a queue point, aged copies discarded on the way (R226, R227). -/
def State.select (s : State) (n q : Nat) (ok : State → Nat → Bool) : State × Option Nat :=
  (List.range 8).reverse.foldl (fun r c =>
    if r.2.isSome || !ok r.1 c then r
    else
      let s1 := r.1.purge (queueRow n q c)
      if (s1.queue (queueRow n q c)).isEmpty then (s1, none) else (s1, some c)) (s, none)

/-- Every queue of a port is empty. -/
def State.portEmpty (s : State) (slot : Nat) : Bool := (portRows slot).all (fun row => (s.queue row).isEmpty)

/-- The copy being sent returns to its place in its queue (R111, R113, R169). -/
def State.unsend (s : State) (slot : Nat) (keep : Bool) : State :=
  match s.sendingRow slot with
  | none => s
  | some row => s.setQueue row ((s.queue row).map (fun cp => if cp.sending then { cp with sending := false, prepared := if keep then cp.prepared else none } else cp))

/-- Mark the head copy of a row as being sent, as the given frame. -/
def State.startSending (s : State) (row : Nat) (f : Option Frame) (start : Nat) : State :=
  match s.queue row with
  | cp :: rest => s.setQueue row ({ cp with sending := true, prepared := f, started := start } :: rest)
  | [] => s

/-- The head copy of a row leaves its queue and releases its charges (R219). -/
def State.dropHead (s : State) (row : Nat) : State :=
  match s.queue row with
  | cp :: rest => ((s.setQueue row rest).oweCopy cp).freed (rowDie row)
  | [] => s

/-- Flush the copies of a port's queues that are not being sent: counted by `count`, losses of ATOMIC copies in their group (R230 to R232). -/
def State.flushPort (s : State) (slot : Nat) (count : State → Nat → Nat → State) : State :=
  let s1 := (portRows slot).foldl (fun s row =>
    let gone := (s.queue row).filter (fun cp => !cp.sending)
    if gone.isEmpty then s
    else
      let s2 := count (s.setQueue row ((s.queue row).filter (·.sending))) row (gone.filter (·.kind != .wake)).length
      gone.foldl (fun s cp => (s.lossOf cp).oweCopy cp) s2) s
  s1.freed (slotDie slot)

def State.countParkFlushed (s : State) (row k : Nat) : State := s.countRow E.queueCntParkFlushed row k
def State.countDrainFlushed (s : State) (slot k : Nat) : State :=
  s.countPort slot E.portCanCntDrainFlushed E.portLinCntDrainFlushed E.portEthCntDrainFlushed k

/-- The hold time of a port (R231, R241). -/
def State.holdTime (s : State) (slot : Nat) : Nat := if s.cfgRowOn E.portHoldValid slot then s.cfgRow E.portHoldTime slot else 20

/-- The hold time ends (R232). -/
def State.endHold (s : State) (slot : Nat) : State :=
  (s.updPort slot (fun p => { p with holdRunning := false, holdExpired := true })).flushPort slot State.countParkFlushed

/-- A frame made ready for an attempt is made anew after a port has left its bus. -/
def State.unprepare (s : State) (slot : Nat) : State :=
  (portRows slot).foldl (fun s row => s.setQueue row ((s.queue row).map (fun cp => { cp with prepared := none }))) s

/-- Park a port's queues in a new state (R231): a port already parked keeps its hold timer; a hold time of 0 flushes at once (R232). -/
def State.park (s : State) (slot : Nat) : State :=
  let s1 := (s.unsend slot false).unprepare slot
  if (s1.port slot).parked then s1
  else if s1.holdTime slot == 0 then (s1.updPort slot (fun p => { p with parked := true })).endHold slot
  else s1.updPort slot (fun p => { p with parked := true, holdRunning := true })

/-- HOLD_TIME_EXPIRY (R232). -/
def execHoldTimeExpiry (slot : Nat) (s : State) : Result :=
  doneIf s (s.variant.hasSlot slot) (s.when ((s.port slot).parked && (s.port slot).holdRunning) (·.endHold slot))

/-- A port resumes its queues (R232). -/
def State.unpark (s : State) (slot : Nat) : State :=
  s.updPort slot (fun p => { p with parked := false, holdRunning := false, holdExpired := false })

/-- A schedule slot of a LIN commander (R128): action and identifier. -/
def State.linSlot (s : State) (slot pos : Nat) : Nat := s.cfgSlot (E.portLinSlot + pos) slot
def linAction (w : Nat) : Nat := bitsOf w 7 6
def linIdOf (w : Nat) : Nat := w % 64

/-- The protected identifier of a LIN header: the identifier and its two parity bits, as ISO 17987 defines them (R125, PRESUMED, log 75). -/
def linPid (id : Nat) : Nat :=
  let b (k : Nat) : Nat := if bitAt id k then 1 else 0
  id % 64 + (b 0 + b 1 + b 2 + b 4) % 2 * 64 + (1 + b 1 + b 3 + b 4 + b 5) % 2 * 128

/-- A sum with the carries added back, as LIN checksums form it (ISO 17987, PRESUMED, log 75). -/
def carrySum (l : List Nat) : Nat := l.foldl (fun a x => if 256 ≤ a + x then a + x - 255 else a + x) 0

/-- The checksum of a LIN response (R102, R126): enhanced over the protected identifier and the data, classic over the data alone; 0x3C and 0x3D are
always classic. -/
def linChecksum (enhanced : Bool) (id : Nat) (data : Bytes) : Nat :=
  255 - carrySum ((if enhanced && id != 0x3C && id != 0x3D then [linPid id] else []) ++ data.map (·.toNat))

/-- The checksum of an identifier's response on a port (R126): bit 13 of its configuration selects the enhanced one. -/
def State.linCheckOf (s : State) (slot id : Nat) (data : Bytes) : Nat := linChecksum (bitAt (s.cfgSlot (E.portLinId + id) slot) 13) id data

/-- The commander sends a header (R125): a break of `breakLength` bits, the sync byte and the protected identifier. -/
def State.sendHeader (s : State) (slot id : Nat) : State :=
  s.emit (.linHeader slot (s.cfgSlot E.portLinBreakLength slot) [0x55, BitVec.ofNat 8 (linPid id)])

/-- Run a schedule slot (R128): an end slot returns to slot 0, a frame slot sends a header, a gap slot only waits. After slot 63 the schedule returns to slot
0 too, where the manual speaks of end slots alone (DESIGN CHOICE, log 76). -/
def State.linRun (s : State) (slot pos : Nat) : State :=
  let p := if 64 ≤ pos || linAction (s.linSlot slot pos) == 0 then 0 else pos
  let w := s.linSlot slot p
  let s1 := s.updPort slot (fun x => { x with linPos := p, linHeader := if linAction w == 1 then some (linIdOf w) else none })
  s1.when (linAction w == 1) (·.sendHeader slot (linIdOf w))

/-- The wake frame of a CAN port, as a TC7 copy ahead of every queued frame (R391). -/
def State.wakeCopy (s : State) (slot : Nat) : Copy :=
  let id := s.cfgRow E.wakeFrameId slot
  { frame := { fmt := .cc, id := id % 2 ^ 29, ext := bitAt id 31, data := (toLE 8 (s.cfgRow E.wakeFrameData slot)).take (s.cfgRow E.wakeFrameDlc slot) },
    ingress := slot, kind := .wake, cls := 7, ts := s.gptp, cells := 0, source := slot }

/-- Wake propagation at ENABLED (R391); a row of 0x3410 that is not in use has no wake frame. -/
def State.propagate (s : State) (slot : Nat) : State :=
  if !(s.port slot).wakePending then s
  else
    let s1 := s.updPort slot (fun p => { p with wakePending := false })
    if isCan slot && !s.cfgRowOn E.pwrValid slot then s1
    else if isCan slot then
      let row := queueRow (slotDie slot) (slotLocal slot) 7
      s1.setQueue row (s1.wakeCopy slot :: s1.queue row)
    else ((s1.updPort slot (fun p => { p with pulse := true })).emit (.linPulse slot)).countSlot E.portLinCntTxFrames slot

/-- The classes that the switch core holds an Ethernet port's source for are asserted anew, and their pause or PFC frame leaves (R157). -/
def State.assertAnew (s : State) (slot : Nat) : State :=
  let held := (List.range 8).foldl (fun v c => if s.bpOn slot c then setBit v c else v) 0
  let s1 := (s.updPort slot (fun p => { p with asserted := 0 })).setSlot E.portEthPausingClasses slot 0
  s1.setAsserted slot (if s.cfgSlot E.portEthTxPauseMode slot == 0 then 0 else held)

/-- A port becomes ENABLED (R130, R168, R232): its queues resume, its wake frame or pulse leaves, a LIN commander's schedule starts, and an Ethernet port
sends the pause it owes (R157). -/
def State.portUp (s : State) (slot : Nat) : State :=
  let s1 := (((s.setPortState slot 2).unpark slot).propagate slot).when (isEth slot) (·.assertAnew slot)
  s1.when (isLin slot && s1.cfgSlot E.portLinRole slot == 0 && !(s1.port slot).pulse) (·.linRun slot 0)

/-- The rate code of a link (Table 5-8). -/
def State.linkRate (s : State) (slot : Nat) : Nat :=
  match s.cfgSlot E.portEthSerdesMode slot with
  | 0 => 1 + (if s.cfgSlotOn E.portEthAnEnable slot then (s.port slot).speed else s.cfgSlot E.portEthSgmiiSpeed slot)
  | 1 => 4
  | _ => 5

/-- A port that trains its link in 2500BASE-X with `an.enable` advertises full duplex and the pause abilities its pause modes select (R141). -/
def State.advertise (s : State) (slot : Nat) : State :=
  s.when (s.cfgSlot E.portEthSerdesMode slot == 1 && s.cfgSlotOn E.portEthAnEnable slot)
    (·.emit (.advertise slot true (s.cfgSlot E.portEthRxPauseMode slot == 1) (s.cfgSlot E.portEthTxPauseMode slot == 1)))

/-- The fault that the trunk signals to its partner (R142): 0 none, 1 local fault, 2 remote fault. In DISABLED and FAULT its transmitter sends idle (Table 5-6,
R171), so it signals none there (DESIGN CHOICE, log 105). -/
def State.signalFault (s : State) (slot signal : Nat) : State :=
  let idle := s.portState slot == 0 || s.portState slot == 5
  let f := if idle then 0 else signal
  s.when (isTrunk slot && (s.port slot).txFault != f) (fun s => (s.updPort slot (fun p => { p with txFault := f })).when (!idle) (·.emit (.linkFault slot f)))

/-- An Ethernet port enters ENABLING (R168, R141): a link that is up counts towards `linkUpDelay` from now; a trunk without block lock sends local fault (R142). -/
def State.enablingEth (s : State) (slot : Nat) : State :=
  let s1 := (s.advertise slot).updPort slot (fun p => { p with upTimer := p.linkUp && !p.halfDuplex })
  (s1.setSlot E.portEthLinkRate slot (if (s1.port slot).linkUp then s1.linkRate slot else 0)).signalFault slot (if (s1.port slot).linkUp then 0 else 1)

/-- A lane that a commit changes takes its link down and trains it again (R170). -/
def State.retrain (s : State) (slot : Nat) : State :=
  (s.updPort slot (fun p => { p with linkUp := false, upTimer := false, halfDuplex := false })).enablingEth slot

/-- An Ethernet port is no PTP port any more, or one whose peer delay has to be measured anew (R159). -/
def State.ptpAnew (s : State) (slot : Nat) : State :=
  (s.updPort slot (fun p => { p with pdelayLost := 0 })).setSlot E.portEthGptpAsCapable slot 0

/-- A port enters ENABLING (R130): it takes its active configuration; a LIN commander waits for nothing, an Ethernet port for its link. TEC, REC and the
error state of a CAN port start at 0 each time: the manual says so of the recovery sequence alone (DESIGN CHOICE, log 77). -/
def State.enabling (s : State) (slot : Nat) : State :=
  let s1 := (s.updPort slot (fun p => { p with kept := [], integrating := false, restartArmed := false, recovering := false, reconfigure := false, drainTimer := false,
                                               rxBusy := false, linPos := 0, linHeader := none, linAwait := none, sleepSent := false })).setPortState slot 1
  let s2 := if isCan slot then ((s1.setSlot E.portCanTec slot 0).setSlot E.portCanRec slot 0).setSlot E.portCanErrorState slot 0 else s1
  if isLin slot && s2.cfgSlot E.portLinRole slot == 0 then s2.portUp slot
  else s2.when (isEth slot) (·.enablingEth slot)

/-- Received pause state ends (R158). -/
def State.clearPause (s : State) (slot : Nat) : State :=
  (s.updPort slot (fun p => { p with pauseHeld := 0 })).setSlot E.portEthPausedClasses slot 0

/-- The lane of a port that is DISABLED or in FAULT is idle, so its link is down and has no rate (Table 5-6, R171, R176); one that wakes the device stays on while the device
enters LISTEN (R173). -/
def State.laneIdle (s : State) (slot : Nat) : State :=
  if s.power.mode == .entering && s.power.target == 1 && s.cfgSlotOn E.portEthWakeEnable slot then s
  else (s.updPort slot (fun p => { p with linkUp := false, halfDuplex := false })).setSlot E.portEthLinkRate slot 0

/-- A port is DISABLED: LIN buffers empty (R127), pause state ends (R158), and a pending re-enable starts it again (R131, R132). -/
def State.disable (s : State) (slot : Nat) : State :=
  let s1 := (s.flushPort slot (fun s _ k => s.countDrainFlushed slot k)).setPortState slot 0
  let s2 := s1.updPort slot (fun p => { p with parked := false, holdRunning := false, holdExpired := false, kept := [], linBuf := [], linHeader := none, linAwait := none,
                                               integrating := false, restartArmed := false, recovering := false, drainTimer := false, reconfigure := false,
                                               downTimer := false, upTimer := false, parityFault := false, rxBusy := false, pauseOut := [], asserted := 0 })
  let s3 := s2.when (isEth slot) (fun s => ((((s.clearPause slot).setSlot E.portEthPausingClasses slot 0).ptpAnew slot).laneIdle slot).signalFault slot 0)
  if s3.stSlot E.portCanPendingReEnable slot == 1 then (s3.setSlot E.portCanPendingReEnable slot 0).enabling slot else s3

/-- The go-to-sleep command (R379). -/
def sleepFrame : Frame := { fmt := .lin, id := 0x3C, data := 0#8 :: List.replicate 7 0xFF#8 }

/-- A LIN commander with `lin.sleepOnEntry` sends the go-to-sleep command during a power entry before it leaves DRAINING (R379). -/
def State.goToSleep (s : State) (slot : Nat) : State :=
  s.when (isLin slot && s.power.mode == .entering && s.cfgSlot E.portLinRole slot == 0 && s.cfgRowOn E.pwrValid slot && s.cfgRowOn E.linSleepOnEntry slot && !(s.port slot).sleepSent) (fun s =>
    ((s.sendHeader slot 0x3C).emit (.linTx slot sleepFrame (linChecksum false 0x3C sleepFrame.data))).updPort slot (fun p => { p with sleepSent := true }))

/-- A LIN commander's frame is in transmission: its header, or the response to it (R125, R131, R133). -/
def State.linSending (s : State) (slot : Nat) : Bool :=
  isLin slot && ((s.port slot).linHeader.isSome || (s.cfgSlot E.portLinRole slot == 0 && (s.port slot).linAwait.isSome))

/-- A DRAINING port whose queues are empty leaves DRAINING (R131), a LIN commander once its frame is complete. -/
def State.drainCheck (s : State) (slot : Nat) : State :=
  s.when (s.portState slot == 3 && s.portEmpty slot && !s.linSending slot) (fun s => (s.goToSleep slot).disable slot)

/-- A frame has passed stage 1: the idle time of R378 starts again. -/
def State.stirred (s : State) : State := { s with power := { s.power with idleFrom := s.clock.ticks } }

/-- Send 0 quanta for every class the port holds paused (R158). -/
def State.releasePaused (s : State) (slot : Nat) : State :=
  s.when ((s.port slot).asserted != 0) (·.sendPause slot (s.prioVec slot (s.port slot).asserted) 0)

/-- A DRAINING port, whose received frames are discarded, holds no partner: what it held is released (R158). -/
def State.releaseAll (s : State) (slot : Nat) : State :=
  (((s.releasePaused slot).clearPause slot).updPort slot (fun p => { p with asserted := 0 })).setSlot E.portEthPausingClasses slot 0

/-- The drain timeout has elapsed and the frame that was in transmission then has had its attempt (R131): the port leaves DRAINING. -/
def State.drainOver (s : State) (slot : Nat) : State :=
  s.when (s.portState slot == 3 && !(s.port slot).drainTimer && (s.sendingRow slot).isNone && !s.linSending slot) (·.disable slot)

/-- A port enters DRAINING (R131, R158, R170, R232): one that cannot send, an Ethernet port without link among them, leaves it at once. -/
def State.drain (s : State) (slot : Nat) : State :=
  let st := s.portState slot
  let s1 := s.when (isEth slot) (fun s => (s.releaseAll slot).ptpAnew slot)
  if st == 2 && isEth slot && !(s.port slot).linkUp then (s1.setPortState slot 3).disable slot
  else if st == 2 then
    let s2 := (s1.setPortState slot 3).updPort slot (fun p => { p with drainTimer := true })
    s2.drainCheck slot
  else if st == 4 || st == 5 then (s1.setPortState slot 3).disable slot
  else if st == 1 then s1.disable slot
  else s1

/-- DRAIN_TIMEOUT (R131): what is still queued is flushed; a frame in transmission completes first. -/
def State.drainTimeout (s : State) (slot : Nat) : State :=
  if s.portState slot == 3 && (s.port slot).drainTimer then
    if (s.sendingRow slot).isSome || s.linSending slot then
      (s.updPort slot (fun p => { p with drainTimer := false })).flushPort slot (fun s _ k => s.countDrainFlushed slot k)
    else s.disable slot
  else s

def execDrainTimeout (slot : Nat) (s : State) : Result := doneIf s (s.variant.hasSlot slot) (s.drainTimeout slot)

/-- The new configuration is written and the port passes ENABLING (R133, last two steps); its queues stay parked meanwhile. An Ethernet port's link goes
down and trains again (R170). -/
def State.reconfigured (s : State) (slot : Nat) : State :=
  let s1 := (s.updPort slot (fun p => { p with reconfigure := false, linkUp := p.linkUp && !isEth slot, halfDuplex := p.halfDuplex && !isEth slot, downTimer := false, pauseOut := [] })).park slot
  (s1.when (isEth slot) (fun s => (s.clearPause slot).ptpAnew slot)).enabling slot

/-- No frame is in transmission or, as far as the port has taken part in it, in reception (R133). -/
def State.busFree (s : State) (slot : Nat) : Bool := (s.sendingRow slot).isNone && (s.port slot).linAwait.isNone && (s.port slot).linHeader.isNone && !(s.port slot).rxBusy

/-- A reconfiguration that waited for the frame on the bus, which has ended (R133). -/
def State.reconfigureNow (s : State) (slot : Nat) : State :=
  s.when ((s.port slot).reconfigure && s.portState slot == 2 && s.busFree slot) (·.reconfigured slot)

/-- An attempt to send has ended without success (R131, R133): a drain whose time is over ends, and a waiting reconfiguration is taken. -/
def State.attemptOver (s : State) (slot : Nat) : State := (s.drainOver slot).reconfigureNow slot

/-- A LIN frame has ended (R131, R133): a drain that waited for it ends, or a waiting reconfiguration is taken. -/
def State.linOver (s : State) (slot : Nat) : State := ((s.drainCheck slot).drainOver slot).reconfigureNow slot

/-- A port's `enable` entry is true in the active configuration. -/
def State.enabled (s : State) (slot : Nat) : Bool := s.cfgOn (E.portCanEnable + slot * 256)

/-- A port's clock or configuration fails (R110, R134, R171): it leaves its bus, parks its queues and stands in FAULT, whatever state it was in; a drain ends
without a flush (DEDUCED, log 34). -/
def State.toFault (s : State) (slot : Nat) : State :=
  let s1 := s.updPort slot (fun p => { p with integrating := false, restartArmed := false, recovering := false, reconfigure := false, drainTimer := false, kept := [],
                                              linHeader := none, linAwait := none, rxBusy := false, downTimer := false, upTimer := false, pauseOut := [], asserted := 0 })
  let s2 := s1.when (isEth slot) (fun s => (((s.clearPause slot).setSlot E.portEthPausingClasses slot 0).ptpAnew slot).laneIdle slot)
  ((s2.park slot).setPortState slot 5).signalFault slot 0

/-- A port leaves FAULT once nothing holds it there: through ENABLING where it is enabled, else DISABLED (R110, R134, log 34). -/
def State.leaveFault (s : State) (slot : Nat) : State :=
  let s1 := s.setSlot E.portCanPendingReEnable slot 0
  if s.enabled slot then s1.enabling slot else s1.disable slot

/-- The copy that was being sent on a port has left it (R219): its queue, the drain and a waiting reconfiguration follow. -/
def State.sentCopy (s : State) (slot row : Nat) : State :=
  match s.takeSending row with
  | none => s
  | some (cp, s1) =>
    let s2 := (s1.oweCopy cp).freed (slotDie slot)
    if s2.portState slot == 3 then s2.drainCheck slot
    else s2.reconfigureNow slot

/-- Commands on a port need the port, its die and RUN. -/
def State.portRuns (s : State) (slot : Nat) : Bool := s.inRun && s.dieRuns (slotDie slot)

end Sys2Proof.Machine
end

