-- ==== Sys2Proof/Machine/Session.lean ====
section
/-! DEFINITION. Access points and sessions: openings, proofs, lockout, the staging lock and what ends a session (R68 to R73, R78, R86). Session row
0 is the service channel's, 1 to 4 are Anise, 5 + (n − 1) the mailbox of Dn (Table 3-16). -/

namespace Sys2Proof.Machine
open Sys2Proof

/-- Access point code of a session row (Table 3-5). -/
def apCode (row : Nat) : Nat := if row == 0 then 1 else if row < 5 then 2 else 3

/-- The row that stands for an Anise request without a session (R82). -/
def noSession : Nat := 16

def State.sess (s : State) (row : Nat) : Session := mget {} s.sessions row
def State.setSess (s : State) (row : Nat) (x : Session) : State := { s with sessions := mset {} s.sessions row x }
def State.updSess (s : State) (row : Nat) (f : Session → Session) : State := s.setSess row (f (s.sess row))

/-- The level of every request of a session (R68). -/
def State.sessLevel (s : State) (row : Nat) : Nat :=
  if row == noSession then 0 else if 5 ≤ row then s.cfg E.accessMailboxLevel else if (s.sess row).valid then (s.sess row).level else 0

/-- A request that counts as accepted for the idle time (R72). -/
def State.touch (s : State) (row : Nat) : State := s.updSess row (fun x => { x with last := s.clock.ticks })

/-- A commit runs, between t0 and t5 (R89). -/
def State.committing (s : State) : Bool := s.commit.phase != .idle

/-- The staging image is discarded and its lock released (R86). -/
def State.dropStaging (s : State) : State := { s with od := { s.od with staging := [] }, lockHolder := none }

/-- What a session stages is discarded; during its own commit that waits for the commit's end (R72). -/
def State.releaseStaging (s : State) (row : Nat) : State :=
  if s.lockHolder != some row then s
  else if s.committing then { s with commit := { s.commit with sessionEnded := true } }
  else s.dropStaging

/-- A session ends (R72); the mailbox's own never does, but its staging goes. A life-cycle request of the session goes with it (R358). -/
def State.endSession (s : State) (row : Nat) : State :=
  let s1 := s.releaseStaging row
  if 5 ≤ row then s1
  else { s1 with
    sessions := mdel s1.sessions row
    life := { s1.life with request := s1.life.request.filter (fun r => r.sess != row) } }

/-- Every session ends (R72: a life-cycle transition or a restart). -/
def State.endSessions (s : State) : State := (List.range 12).foldl State.endSession s

/-- The sessions of one access point end (R72: a commit that changes its settings). -/
def State.endAccessPoint (s : State) (ap : Nat) : State := ((List.range 5).filter (fun r => apCode r == ap)).foldl State.endSession s

/-- The access key of a level in the present state (R71, R362). -/
def State.accessKey (s : State) (level : Nat) : Option Bytes :=
  let key (root : Bytes) (g : Nat) : Bytes := Config.kdf root (ascii "AZ8100-ACCESS") (toLE 1 level ++ toLE 4 g ++ serialBytes) 32
  match s.life.state with
  | 0 => if level == 4 && !s.fuses.lockTransport then some (key (toLE 32 Config.transportKey.toNat) 0) else none
  | 1 => if 1 ≤ level && level ≤ 4 then some (key (toLE 32 (s.fuses.root 1)) (s.keys.gen 1)) else none
  | 2 => if 1 ≤ level && level ≤ 3 then some (key (toLE 32 (s.fuses.root 2)) (s.keys.gen 2)) else none
  | 3 => if 1 ≤ level && level ≤ 4 then some (key (toLE 32 (s.fuses.root 3)) (s.keys.gen 3)) else none
  | _ => none

/-- The proof of an opening (R69). -/
def State.accessProof (s : State) (key : Bytes) (ap level sid nd nc : Nat) : Bytes :=
  bytes256 (Config.hmacSha256 key (ascii "AZ8100-ACCESS-PROOF" ++ toLE 1 ap ++ toLE 1 level ++ toBE 4 sid ++ toLE 32 nd ++ toLE 32 nc ++ s.idDigest))

/-- The session key of an Anise session (R70). -/
def sessionKey (key : Bytes) (sid nd nc : Nat) : Bytes := Config.kdf key (ascii "AZ8100-ANISE-SESSION") (toBE 4 sid ++ toLE 32 nd ++ toLE 32 nc) 32

def State.lockout (s : State) (ap : Nat) : Lockout := mget {} s.lockouts ap

/-- A failed opening (R73): counted, recorded, and at the limit the start of a lockout. -/
def State.openFailed (s : State) (ap level peer sid : Nat) : State :=
  let l := s.lockout ap
  let n := l.fails + 1
  let starts := s.cfg E.sessionFailLimit ≤ n
  let time := if l.nextTime == 0 then s.cfg E.sessionLockoutBase else l.nextTime
  let l1 : Lockout := if starts then { fails := n, locked := true, untilTick := s.clock.ticks + msTicks (1000 * time), nextTime := min 3600 (2 * time) }
    else { l with fails := n }
  ({ s with lockouts := mset {} s.lockouts ap l1 }.count E.accessCntAuthFail).evidence 0 0x03 ap
    ([BitVec.ofNat 8 level, if starts then 0x13 else 0x12] ++ toLE 2 n ++ toLE 4 peer ++ toLE 4 sid ++ toLE 4 (if starts then time else 0))

/-- A successful opening (R73): the count and the doubling start again; a session of C2 or above is recorded (Table 11-2). -/
def State.openDone (s : State) (ap level peer sid : Nat) : State :=
  { s with lockouts := mset {} s.lockouts ap {} }.when (2 ≤ level) (·.evidence 0 0x04 ap ([BitVec.ofNat 8 level, 0, 0, 0] ++ toLE 4 peer ++ toLE 4 sid))

/-- A nonce from the TRNG, and the state after the draw (R69). -/
def State.drawNonce (s : State) : Nat × State := ((Config.trng s.fresh).toNat, s.draw)

/-- SESSION_IDLE_TIMEOUT (R72). -/
def execSessionIdleTimeout (sess : Nat) (s : State) : Result := done (s.when (5 ≤ sess || (s.sess sess).valid) (·.endSession sess))

/-- PENDING_SESSION_LAPSE (R81): no valid AUTH arrived within 10 s. -/
def execPendingSessionLapse (row : Nat) (s : State) : Result :=
  done (s.when (1 ≤ row && row < 5 && (s.sess row).pending) (fun s => { s with sessions := mdel s.sessions row }))

/-- LOCKOUT_END (R73): openings are served again; the doubling continues. -/
def execLockoutEnd (ap : Nat) (s : State) : Result :=
  done (s.when (s.lockout ap).locked (fun s =>
    { s with lockouts := mset {} s.lockouts ap { (s.lockout ap) with fails := 0, locked := false, untilTick := 0 } }))

end Sys2Proof.Machine
end

