-- ==== Sys2Proof/Machine/Faults.lean ====
section
/-! DEFINITION. The fault log, the health map, SAFE_N, lost and isolated dies, and failed fabric links (R274 to R279, R285 to R288, R292). -/

namespace Sys2Proof.Machine
open Sys2Proof

/-- SAFE_N is driven low by a condition (R287). -/
def State.driveSafe (s : State) (k : Nat) : State :=
  { s with safe := { s.safe with driven := true, conds := if s.safe.conds.contains k then s.safe.conds else s.safe.conds ++ [k] } }

/-- The health map's state of a die (R274): D0 for 0, ABSENT for a die that the part does not have. -/
def State.healthState (s : State) (n : Nat) : Nat :=
  if n == 0 then (if s.safe.securityDown || s.safe.supervisorStopped || s.safe.noSha || s.safe.noAes || s.safe.noTrng then 2 else 1)
  else if s.variant.hasDie n then (s.die n).state else 0

/-- Classes that are masked (R278). -/
def maskedClass (c : Nat) : Bool := c == 1 || c == 8 || c == 0x11 || c == 0x12

/-- No engine of a kind remains in service (R369): 0 SHA-256, 1 AES, 2 TRNG. -/
def Safe.noEngine (x : Safe) (kind : Nat) : Bool := if kind == 0 then x.noSha else if kind == 1 then x.noAes else x.noTrng

/-- The policy bit of a class acts on this fault (R287): class 0x14, whose unit is the engine's kind × 16 and its number, only where no engine of its kind remains. -/
def State.policyActs (s : State) (cls unit : Nat) : Bool :=
  cls == 0x10 || (bitAt (s.cfg E.safePolicy) cls && (cls != 0x14 || s.safe.noEngine (unit / 16)))

/-- A masked fault (R278): counted; the next one in quiet asks for a summary and starts an interval. Its class's bit drives SAFE_N low (R287). -/
def State.maskedFault (s : State) (cls : Nat) : State :=
  let s1 := (s.when (s.policyActs cls 0) (·.driveSafe cls)).count (E.faultCntClass + (cls - 1))
  if s.safe.summaryRunning then
    { s1 with safe := { s1.safe with summaryMask := setBit s1.safe.summaryMask cls, summarySum := s1.safe.summarySum + 1 } }
  else { s1 with safe := { s1.safe with summaryRunning := true } }.evidence 0 0x10 0 (toLE 4 (2 ^ cls) ++ toLE 4 1)

/-- D0 takes a detected fault (R278, R292): counted, logged, doorbell 69, a HEALTH record and the SAFE_N policy. The loss of the last switch die drives SAFE_N low
whatever the policy (R287). -/
def State.logFault (s : State) (cls die unit : Nat) : State :=
  let low := s.policyActs cls unit || (cls == 0x0B && s.condHolds 0x100)
  let s1 := if low then s.driveSafe cls else s
  let q := s.safe.faultSeq + 1
  let row := (q - 1) % 64
  let s2 := ({ s1 with safe := { s1.safe with faultSeq := q } }.count (E.faultCntClass + (cls - 1))).countRow E.healthDieCntFaults die
  let s3 := ((((((((s2.setRow E.faultValid row 1).setRow E.faultSequence row (q % 2 ^ 32)).setRow E.faultClass row cls).setRow E.faultDie row die).setRow E.faultUnit row (unit % 65536)).setRow
    E.faultTime row s.gptp).setRow E.faultRtc row s.rtc).setRow E.faultSafeN row (if low then 1 else 0))
  (s3.doorbell 69).evidence 0 0x10 cls ([BitVec.ofNat 8 cls, BitVec.ofNat 8 die] ++ toLE 2 unit ++ [BitVec.ofNat 8 (s.healthState die), if low then 1 else 0])

/-- D0 takes a fault of a class (R278). -/
def State.takeFault (s : State) (cls die unit : Nat) : State := if maskedClass cls then s.maskedFault cls else s.logFault cls die unit

/-- A die that finds a fault sends it to D0 on control lane 0, which never drops a message: behind a control link that is lost it waits (R32, R276). D0 finds the
loss of a link or of a die itself. -/
def State.fault (s : State) (cls die unit : Nat) : State :=
  if (s.die die).state == 3 && cls != 0x0A && cls != 0x0B then s.updDie die (fun d => { d with lane0 := d.lane0 ++ [(cls, unit)] })
  else s.takeFault cls die unit

/-- A detected fault (R278). -/
def State.detectedFault (s : State) (cls die unit : Nat) : State := s.fault cls die unit

/-- A health change (R273, R280): a commit between t1 and t4 is refused when it comes to its next step; otherwise the recomputation starts anew,
or waits for the security core (class 0x0F). Before RUN there is no placement to recompute. -/
def State.healthChange (s : State) : State :=
  let s1 := s.count E.placementHealthGeneration
  if !s.inRun then s1
  else if s.commit.phase == .placing || s.commit.phase == .storing || s.commit.phase == .applying then
    { s1 with sumac := { s1.sumac with healthChanged := true, trigger := 1 } }
  else if s.safe.securityDown then { s1 with sumac := { s1.sumac with interrupted := true, trigger := 1 } }
  else ({ s1 with sumac := { s1.sumac with computing := true, waiting := none, trigger := 1 } }).set E.placementState 1

/-- Classes that make a die DEGRADED (Table 9-3). -/
def degradeClass (c : Nat) : Bool := c == 3 || c == 5 || c == 6 || c == 7 || c == 9 || c == 0x0C || c == 0x0D

/-- The state that a die's causes imply (R276). -/
def Die.implied (d : Die) : Nat := if d.causes.any degradeClass then 2 else 1

/-- A die's state changes (R274, R291); no switch die in OK, DEGRADED or ISOLATED drives SAFE_N low (R287). -/
def State.setHealth (s : State) (n st : Nat) : State :=
  let d := s.die n
  if d.state == st then s.setRow E.healthDieDegradedCause n (if st == 2 then (d.causes.find? degradeClass).getD 0 else 0)
  else
    let s1 := (s.setDieState n { d with state := st }).setRow E.healthDieLastChange n s.gptp
    let s2 := (s1.setRow E.healthDieDegradedCause n (if st == 2 then (d.causes.find? degradeClass).getD 0 else 0)).healthChange
    if s2.condHolds 0x100 then s2.driveSafe 0x100 else s2

/-- The fault class that makes D0 DEGRADED (R274, R291), 0 for none. -/
def State.guardCause (s : State) : Nat :=
  if s.safe.securityDown then 0x0F else if s.safe.supervisorStopped then 0x10 else if s.safe.noSha || s.safe.noAes || s.safe.noTrng then 0x14 else 0

/-- D0's row of the health map after an event: `old` is its state before it (R274, R280, R291). -/
def State.guardHealth (s : State) (old : Nat) : State :=
  let s1 := s.setRow E.healthDieDegradedCause 0 s.guardCause
  if s.healthState 0 == old then s1 else (s1.setRow E.healthDieLastChange 0 s.gptp).healthChange

/-- A cause of a die comes into force, or ends; an OK or DEGRADED die follows its causes. -/
def State.addCause (s : State) (n cls : Nat) : State :=
  let s1 := s.updDie n (fun d => { d with causes := if d.causes.contains cls then d.causes else d.causes ++ [cls] })
  if s1.healthy n then s1.setHealth n (s1.die n).implied else s1
def State.dropCause (s : State) (n cls : Nat) : State :=
  let s1 := s.updDie n (fun d => { d with causes := d.causes.filter (· != cls) })
  if s1.healthy n then s1.setHealth n (s1.die n).implied else s1

/-- Events that a die holds and has not sent (R277): requests of its lane 2 buffer and its coalescing table. -/
def Die.heldEvents (d : Die) : Nat :=
  (d.lane2.map (fun m => match m with
    | .ev r => r.count
    | .tap .. => 0)).sum + (d.coal.entries.map (·.count)).sum + d.coal.overflow

/-- Everything a die holds is gone: its queues, ports, tables, lanes, pairs and link buffers. The rule blocks of its ports stand on D0 (R311). -/
def State.clearDie (s : State) (n : Nat) : State :=
  let d := s.die n
  let gone : Die := { state := d.state, causes := [], supplied := d.supplied, lastHeld := d.lastHeld, redDraws := d.redDraws, clockOk := d.clockOk, busUp := d.busUp }
  { (s.setDieState n gone) with
    queues := s.queues.filter (fun p => rowDie p.1 != n)
    ports := (s.ports.filter (fun p => slotDie p.1 != n || !p.2.blocks.isEmpty)).map (fun p =>
      if slotDie p.1 == n then (p.1, { blocks := p.2.blocks }) else p)
    apps := mdel s.apps n
    tunnels := s.tunnels.filter (fun p => s.hostOf n (0x400 + p.1) != n)
    intc := mdel (mdel s.intc (n * 2)) (n * 2 + 1)
    links := s.links.filter (fun p => p.1 / 4 + 1 != n || p.2.failed)
    bp := s.bp.filter (fun p => sourceDie (p.1 / 8) != n)
    od := { s.od with stat := s.od.stat.filter (fun p =>
      !(keyRow p.1 == noRow && 0x2100 ≤ keyIndex p.1 && keyIndex p.1 < 0x2200 && slotDie (keyIndex p.1 - 0x2100) == n &&
        (keySub p.1 < 0x08 || keySub p.1 == 0x09 || keySub p.1 == 0x0A))) } }

/-- The copy that a crossing carries: a transit copy, or the one a queue of the die is sending. -/
def State.crossingCopy (s : State) (n e : Nat) (x : Nat × Option Copy × Nat) : Option Copy :=
  match x.2.1 with
  | some cp => some cp
  | none => (s.queue (queueRow n (24 + e) x.1)).find? (·.sending)

/-- The egress die discards each copy of which only some cells have crossed a link end that is lost, and counts it (R279). -/
def State.incomplete (s : State) (n e : Nat) : State :=
  (s.link n e).inFlight.foldl (fun t x => match s.crossingCopy n e x with
    | some cp => t.when (decide (0 < x.2.2)) (·.countDie E.dieBufCntStalePathDrop cp.target)
    | none => t) s

/-- The ATOMIC copies that a die holds in its queues, its receive reserve and its link buffers (R230). -/
def State.atomicCopies (s : State) (n : Nat) : List Copy :=
  (s.dieCopies n ++ (s.die n).held.map (·.2) ++ [0, 1, 2, 3].flatMap (fun e => (s.link n e).transit ++ (s.link n e).inFlight.filterMap (·.2.1))).filter (·.atomic != 0)

/-- A die is declared LOST (R277): each ATOMIC copy that it holds is lost with it (R230). -/
def State.loseDie (s : State) (n : Nat) : State :=
  if !s.variant.hasDie n || s.lostDie n then s
  else
    let held := (s.die n).lastHeld
    let s0 := s.forAll [0, 1, 2, 3] (fun s e => s.incomplete n e)
    let s1 := (((((s0.atomicCopies n).foldl State.loseCopy s0).releaseStaging (5 + (n - 1))).clearDie n).setHealth n 4).forgetDie n
    let s2 := s1.detectedFault 0x0B n 0xFFFF
    s2.when (decide (0 < held)) (·.evidence 0 0x0D n (toLE 4 held ++ [1#8]))

/-- The link end is connected (R34). -/
def State.connected (s : State) (n e : Nat) : Bool := s.variant.hasDie n && (s.variant.partner n e).isSome

/-- Every connected link end of a die has failed (R277); an AZ8102 has none. -/
def State.linksGone (s : State) (n : Nat) : Bool := [0, 1, 2, 3].all (fun e => !s.connected n e || (s.link n e).failed)

/-- The link ends a path leaves by, from its first die on. -/
def pathEnds (a p : Nat) : List (Nat × Nat) := ((pathHops p).foldl (fun r h => (h.1, r.2 ++ [(r.1, h.2)])) (a, [])).2

/-- A path crosses a failed link (R279). -/
def State.pathBroken (s : State) (a p : Nat) : Bool :=
  p == 0 || (pathEnds a p).any (fun x => (s.link x.1 x.2).failed || (match s.variant.partner x.1 x.2 with
    | some y => (s.link y.1 y.2).failed
    | none => true))

/-- The copies of one pair that wait in its fabric queues and are not on their way move to the path now in use, with its generation; without one they
are lost and counted (R279). -/
def State.repath (s : State) (a b oldEnd : Nat) : State :=
  (List.range 8).foldl (fun s c =>
    let row := queueRow a (24 + oldEnd) c
    let mine := (s.queue row).filter (fun cp => cp.target == b && cp.srcDie == a && !cp.sending)
    if mine.isEmpty then s
    else
      let s1 := s.setQueue row ((s.queue row).filter (fun cp => !(cp.target == b && cp.srcDie == a && !cp.sending)))
      let p := s.pathNow a b
      match pathHops p with
      | (_, e) :: _ =>
        let dst := queueRow a (24 + e) c
        (s1.setQueue dst (s1.queue dst ++ mine.map (fun cp => { cp with path := p, gen := s.pathGen a b }))).freed a
      | [] => (mine.foldl State.loseCopy (s1.countUnreachable a mine.length)).freed a) s

/-- A pair leaves a broken path (R279): its alternate where it has a working one; the generation advances (R228). -/
def State.switchPair (s : State) (a b : Nat) : State :=
  let row := (a - 1) * 8 + (b - 1)
  let old := s.pathNow a b
  if old == 0 || !s.pathBroken a old then s
  else
    let alt := ((mfind (s.placementOf a).paths row).getD (0, 0)).2
    let act := if s.stRow E.pathActive row == 0 && !s.pathBroken a alt then 1 else 2
    let s1 := ((s.setRow E.pathActive row act).countRow E.pathGeneration row).countRow E.pathCntSwitches row
    match pathHops old with
    | (_, e) :: _ => s1.repath a b e
    | [] => s1

/-- Every pair that uses a failed link switches (R279). -/
def State.switchPaths (s : State) : State :=
  s.forAll s.dieList (fun s a => s.forAll (s.dieList.filter (· != a)) (fun s b => s.switchPair a b))

/-- Cells not acknowledged on a failed link end are discarded and counted, and the egress die discards the copies it holds a part of (R279): the copies on their
way and the transit copies waiting for it. -/
def State.discardCells (s : State) (n e : Nat) : State :=
  let own := (List.range 8).flatMap (fun c => (s.queue (queueRow n (24 + e) c)).filter (·.sending))
  let carried := ((s.link n e).inFlight.filterMap (·.2.1)) ++ (s.link n e).transit
  let s1 := (s.incomplete n e).countRow E.healthLinkCntCellsLost (linkKey n e) (((own ++ carried).map (·.cells)).sum - ((s.link n e).inFlight.map (·.2.2)).sum)
  let s2 := (List.range 8).foldl (fun s c => s.setQueue (queueRow n (24 + e) c) ((s.queue (queueRow n (24 + e) c)).filter (fun cp => !cp.sending))) s1
  let s3 := (own ++ carried).foldl State.loseCopy s2
  (s3.updLink n e (fun x => { x with inFlight := [], transit := [], crcRow := 0 })).freed n

/-- One end of a link is failed (R275, R279). -/
def State.failEnd (s : State) (n e : Nat) : State :=
  if s.lostDie n then s.updLink n e (fun x => { x with failed := true })
  else ((((s.updLink n e (fun x => { x with failed := true })).countRow E.healthLinkCntFailures (linkKey n e)).discardCells n e).addCause n 9)

/-- A fabric link fails (R275, R277, R279): both ends, the pairs that used it, and a die none of whose link ends is left. -/
def State.failLink (s : State) (n e : Nat) : State :=
  match s.variant.partner n e with
  | none => s
  | some (m, f) =>
    if (s.link n e).failed then s
    else
      let s0 := (((s.failEnd n e).failEnd m f).switchPaths).healthChange
      let s1 := if (s.die n).state == 3 then s0.detectedFault 9 m (linkKey m f) else s0.detectedFault 9 n (linkKey n e)
      let s2 := s1.when (s1.linksGone n) (·.loseDie n)
      s2.when (s2.linksGone m) (·.loseDie m)

/-- A failed link returns to up (R275). -/
def State.restoreLink (s : State) (n e : Nat) : State :=
  match s.variant.partner n e with
  | none => s
  | some (m, f) =>
    if !(s.link n e).failed then s
    else
      let s1 := (s.updLink n e (fun x => { x with failed := false })).updLink m f (fun x => { x with failed := false })
      let clear (s : State) (k : Nat) : State := if [0, 1, 2, 3].any (fun i => (s.link k i).failed) then s else s.dropCause k 9
      (clear (clear s1 n) m).healthChange

/-- D0 hears nothing from a die (R276, R277). -/
def State.isolate (s : State) (n : Nat) : State :=
  if !s.healthy n then s
  else if s.linksGone n then s.loseDie n
  else
    let s1 := { s with sumac := { s.sumac with perDie := mput s.sumac.perDie n (s.placementOf n) } }
    ((s1.updDie n (fun d => { d with linkReset := false })).setHealth n 3).detectedFault 0x0A n 0xFFFF

def execControlLinkSilent (die : Nat) (s : State) : Result :=
  doneIf s (s.variant.hasDie die) (s.when s.inRun (·.isolate die))

/-- CONTROL_LINK_RESET (R276). -/
def execControlLinkReset (die : Nat) (s : State) : Result :=
  doneIf s (s.variant.hasDie die) (s.when (s.inRun && (s.die die).state == 3) (·.updDie die (fun d => { d with linkReset := true })))

/-- STAGE_STALL (R277): a fatal fault of the die. -/
def execStageStall (die : Nat) (s : State) : Result :=
  doneIf s (s.variant.hasDie die) (s.when (s.inRun && s.dieRuns die) (·.loseDie die))

/-- KEEP_ALIVE (R275): an idle link end sends a keep-alive word. -/
def execKeepAlive (die e : Nat) (s : State) : Result :=
  doneIf s (s.connected die e) (s.when (s.dieRuns die && (s.link die e).inFlight.isEmpty) (·.updLink die e (fun x => { x with keepAlives := x.keepAlives + 1 })))

/-- LINK_END_FAIL (R275, R277, R279). -/
def execLinkEndFail (die e : Nat) (s : State) : Result := doneIf s (s.connected die e) (s.when s.inRun (·.failLink die e))

/-- LINK_END_RECOVER (R275). -/
def execLinkEndRecover (die e : Nat) (s : State) : Result := doneIf s (s.connected die e) (s.when s.inRun (·.restoreLink die e))

/-- HEALTH_SUMMARY_INTERVAL_END (R278). -/
def State.summaryEnd (s : State) : State :=
  if s.safe.summarySum == 0 then { s with safe := { s.safe with summaryRunning := false } }
  else { s with safe := { s.safe with summaryMask := 0, summarySum := 0 } }.evidence 0 0x10 0 (toLE 4 s.safe.summaryMask ++ toLE 4 s.safe.summarySum)

def execHealthSummaryIntervalEnd (s : State) : Result := done (s.when s.safe.summaryRunning State.summaryEnd)

end Sys2Proof.Machine
end

