-- ==== Sys2Proof/Machine/Can.lean ====
section
/-! DEFINITION. The CAN controllers: reception with stages 1 to 3, error confinement, bus-off, and transmission (R101 to R124, R130, R209). -/

namespace Sys2Proof.Machine
open Sys2Proof

/-- A CAN port of a die that runs. -/
def State.canPort (s : State) (slot : Nat) : Bool := s.portRuns slot && isCan slot

/-- The port is on its bus and takes part in it (Table 4-3). -/
def State.canOnBus (s : State) (slot : Nat) : Bool :=
  s.canPort slot && (s.portState slot == 2 || s.portState slot == 3) && !(s.port slot).integrating && !(s.port slot).clockStopped

/-- TEC and REC as set, and the error state they give (R113). -/
def State.setErrors (s : State) (slot tec rec_ : Nat) : State :=
  ((s.setSlot E.portCanTec slot (min tec 256)).setSlot E.portCanRec slot (min rec_ 255)).setSlot E.portCanErrorState slot
    (if 255 < tec then 2 else if 127 < tec || 127 < rec_ then 1 else 0)

/-- Bus-off (R113, R131): a DRAINING port ends its drain; another parks its queues, takes the configuration that waited for the frame (R133), and may start its
restart time (R114). -/
def State.busOff (s : State) (slot : Nat) : State :=
  let s1 := (s.unsend slot false).countSlot E.portCanCntBusOff slot
  let s2 :=
    if s1.portState slot == 3 then s1.disable slot
    else
      let s2 := (s1.when (s1.port slot).reconfigure (·.updPort slot (fun p => { p with reconfigure := false, kept := [] }))).updPort slot (fun p => { p with rxBusy := false })
      ((s2.setPortState slot 4).park slot).updPort slot (fun p => { p with restartArmed := true, recovering := false })
  (s2.raisePort slot).portEvidence slot 1 0 (s2.stSlot E.portCanCntBusOff slot)

/-- TEC and REC after an event; TEC above 255 is bus-off (R113). -/
def State.errors (s : State) (slot tec rec_ : Nat) : State :=
  (s.setErrors slot tec rec_).when (decide (255 < tec)) (·.busOff slot)

/-- TEC after a transmission succeeds, REC after a reception succeeds, as ISO 11898-1 defines them (PRESUMED, log 11). -/
def State.txSuccess (s : State) (slot : Nat) : State := s.errors slot (s.stSlot E.portCanTec slot - 1) (s.stSlot E.portCanRec slot)
def State.rxSuccess (s : State) (slot : Nat) : State :=
  let r := s.stSlot E.portCanRec slot
  if s.cfgSlot E.portCanMode slot != 0 then s
  else if r ≤ 127 then s.errors slot (s.stSlot E.portCanTec slot) (r - 1)
  else (s.errors slot (s.stSlot E.portCanTec slot) (119 + Config.recAfterSuccess s.fresh % 9)).draw

/-- An ID guard row matches a key (R209). -/
def State.guardFits (s : State) (r realm kind value : Nat) : Bool :=
  s.cfgRow E.idguardRealm r == realm && s.cfgRow E.idguardKind r == kind && prefixEq 32 (s.cfgRow E.idguardLength r) (s.cfgRow E.idguardValue r) value

/-- The owner that the longest matching ID guard row names (R209). -/
def State.guardOwner (s : State) (realm kind value : Nat) : Option Nat :=
  (((s.validRows E.idguardValid).filter (fun r => s.guardFits r realm kind value)).foldl (fun best r => match best with
    | none => some r
    | some b => if s.cfgRow E.idguardLength b < s.cfgRow E.idguardLength r then some r else some b) none).map (s.cfgRow E.idguardOwner ·)

/-- The identifiers that the tap of a rule's A matches (R117, R311). -/
def State.ruleTapFits (s : State) (rule realm kind value : Nat) : Bool :=
  let t := s.cfgRow E.ruleA rule % 4096
  s.cfgRow E.ruleA rule / 4096 == 1 && s.cfgRow E.tapRealm t == realm && s.cfgRow E.tapKind t == kind &&
  prefixEq 32 (s.cfgRow E.tapLength t) (s.cfgRow E.tapValue t) value

/-- What stage 2 decides of a frame (R115, R117): pass, or an event with its IDGUARD code and whether the frame is dropped. -/
inductive Guard where
  | pass
  | event (code : Nat) (drop : Bool)
  | damaged
  deriving DecidableEq, Repr

/-- The ID guard check. A block makes the port non-owning: it drops in ENFORCE and is only counted in MONITOR (DEDUCED, log 12). -/
def State.guard (s : State) (slot : Nat) (f : Frame) : Guard :=
  let mode := s.cfgSlot E.portSecIdGuardMode slot
  let realm := s.cfgSlot E.portCanRealm slot
  let k := frameKey f
  if mode == 0 then .pass
  else if (s.die (slotDie slot)).damagedAny 34 then .damaged
  else if (s.port slot).blocks.any (fun r => s.ruleTapFits r realm k.1 k.2) then
    if mode == 1 then .event 3 true else .event 2 false
  else match s.guardOwner realm k.1 k.2 with
    | some o => if o == 0xFFFF || o == slot then .pass else if mode == 1 then .event 1 true else .event 2 false
    | none => if s.cfgSlot E.portSecIdGuardUnlisted slot == 0 then .event 1 true else .event 2 false

/-- The count and the limited request of an ID guard event (R115, R116). -/
def State.guardEvent (s : State) (slot : Nat) (f : Frame) (code : Nat) (drop : Bool) : State :=
  (s.countSlot (if drop then E.portCanCntIdGuardDrop else E.portCanCntIdGuardMonitor) slot).limited slot 0x08 slot
    ([BitVec.ofNat 8 code, BitVec.ofNat 8 (frameKey f).1, BitVec.ofNat 8 (s.cfgSlot E.portCanRealm slot), 0] ++
      toLE 4 ((if f.ext then 2 ^ 31 else 0) + f.id) ++ toLE 8 s.gptp)

/-- A frame of the service channel's identifier on the service port (R75). With `0x1100:01` false the channel is off and reserves no identifier: the manual
does not say so (DESIGN CHOICE, log 78). -/
def State.serviceId (s : State) (slot : Nat) (f : Frame) : Bool :=
  s.cfgOn E.accessSdoEnable && s.cfg E.accessSdoPortSlot == slot && !f.ext && f.fmt != .xl && f.id == 0x600 + s.cfg E.accessSdoNodeId ||
  s.cfgOn E.accessSdoEnable && s.cfg E.accessSdoPortSlot == slot && f.fmt == .xl && f.id == 0x600 + s.cfg E.accessSdoNodeId

/-- The frame the service channel serves (R75). -/
def isSdoFrame (f : Frame) : Bool := f.fmt == .cc && !f.rtr && f.data.length == 8 && f.dlc.isNone

/-- The copy of a frame that enters the switch at a CAN or LIN port. -/
def State.nativeCopy (s : State) (slot realm : Nat) (f : Frame) (fv mb : Nat) : Copy :=
  { frame := f, ingress := slot, realm := realm, ts := s.gptp, tsSynced := s.clock.synced, cells := cellsOf (16 + f.data.length), srcDie := slotDie slot, fid := s.nextFid, source := slot, fvBits := fv, macBits := mb }

/-- Stages 3 to 7 of a frame from a CAN or LIN port (R38, R40, R180, R233). -/
def State.enterNative (s : State) (slot realm : Nat) (f : Frame) (fv mb : Nat) : State :=
  let n := slotDie slot
  let cp := s.nativeCopy slot realm f fv mb
  let k := frameKey f
  let s1 := ({ s with nextFid := s.nextFid + 1 }.samplePoint slot 0 f 0 s.gptp 0 0).tapsRead n slot s.gptp (some (realm, k.1, k.2)) f.data
  s1.forwardNative n slot slot slot cp

/-- Stages 2 to 7 of a verified CAN frame (R40, R75, R115). -/
def State.canStage2 (s : State) (slot : Nat) (v : Verified) : State :=
  let f := v.frame
  if s.serviceId slot f then (if isSdoFrame f then s else s.count E.accessCntSdoIgnored)
  else
    let go (s : State) : State := s.enterNative slot (s.cfgSlot E.portCanRealm slot) f v.fvBits v.macBits
    match s.guard slot f with
    | .pass => go s
    | .damaged => s.countUnreachable (slotDie slot)
    | .event c true => s.guardEvent slot f c true
    | .event c false => go (s.guardEvent slot f c false)

/-- A protocol exception (R106): counted, and the port waits for bus integration. -/
def State.protocolException (s : State) (slot : Nat) : State :=
  ((s.countSlot E.portCanCntProtocolException slot).updPort slot (fun p => { p with integrating := true, rxBusy := false })).attemptOver slot

/-- The frame in reception has ended (R133). -/
def State.rxOver (s : State) (slot : Nat) : State := (s.updPort slot (fun p => { p with rxBusy := false })).reconfigureNow slot

/-- A valid frame on the bus (R38, R105, R106, Table 4-3). -/
def State.canReceive (s : State) (slot : Nat) (f : Frame) : State :=
  let fmt := s.cfgSlot E.portCanFormat slot
  if !s.canOnBus slot || f.fmt == .lin || f.fmt == .eth then s
  else if (fmt == 0 && f.fmt != .cc) || (fmt == 1 && f.fmt == .xl) then s.protocolException slot
  else
    let s1 := (s.rxSuccess slot).countSlot E.portCanCntRxFrames slot
    if fmt == 3 && f.fmt != .xl then s1.countSlot E.portCanCntRxFormatDiscard slot
    else if s1.portState slot == 3 then s1.countSlot E.portCanCntRxDiscardDraining slot
    else match s1.verifyFrame slot f with
      | (s2, none) => s2
      | (s2, some v) => s2.stirred.canStage2 slot v

/-- CAN_FRAME_RECEIVE (R38): a reconfiguration that waited for the frame follows it (R133). -/
def execCanFrameReceive (slot : Nat) (frame : Frame) (s : State) : Result :=
  doneIf s (s.variant.hasSlot slot && isCan slot) ((s.canReceive slot frame).rxOver slot)

/-- CAN_PROTOCOL_EXCEPTION (R106). -/
def execCanProtocolException (slot : Nat) (s : State) : Result :=
  doneIf s (s.variant.hasSlot slot && isCan slot) (s.when (s.canOnBus slot) (fun s => (s.unsend slot true).protocolException slot))

/-- CAN_BUS_INTEGRATION (R106, R130). -/
def State.busIntegration (s : State) (slot : Nat) : State :=
  if !s.canPort slot then s
  else if s.portState slot == 1 then s.portUp slot
  else s.updPort slot (fun p => { p with integrating := false })

def execCanBusIntegration (slot : Nat) (s : State) : Result :=
  doneIf s (s.variant.hasSlot slot && isCan slot) (s.busIntegration slot)

/-- CAN_RECEIVE_ERROR (R101, R113): counted in `cnt.rxError`; REC rises by 1 (ISO 11898-1, PRESUMED, log 11). -/
def State.canRxError (s : State) (slot : Nat) : State :=
  if !s.canOnBus slot then s
  else (s.countSlot E.portCanCntRxError slot).when (s.cfgSlot E.portCanMode slot == 0) (fun s =>
    s.errors slot (s.stSlot E.portCanTec slot) (s.stSlot E.portCanRec slot + 1))

def execCanReceiveError (slot : Nat) (_err : CanRxError) (s : State) : Result :=
  doneIf s (s.variant.hasSlot slot && isCan slot) ((s.canRxError slot).rxOver slot)

/-- The frame a CAN copy goes on the bus as (R104, R121, R124): made once, kept for further attempts; none where it may not leave. -/
def State.canPrepare (s : State) (slot : Nat) (cp : Copy) : State × Option Frame :=
  let esi := s.stSlot E.portCanErrorState slot == 1
  match cp.prepared with
  | some f => (s, some { f with esi := esi && f.fmt == .fd })
  | none =>
    if cp.kind == .wake then (s, some cp.frame)
    else if !s.formatFits slot cp.frame then (s.countTxRefused slot, none)
    else match s.protectFrame slot cp.frame cp.fvBits cp.macBits with
      | (s1, some f) => (s1, some { f with esi := esi && f.fmt == .fd })
      | (s1, none) => (s1, none)

/-- PORT_DEQUEUE at a CAN port (R111, R226, R227). -/
def State.canDequeue (s : State) (slot : Nat) : State :=
  if !s.canOnBus slot || s.cfgSlot E.portCanMode slot != 0 || (s.sendingRow slot).isSome then s
  else
    let n := slotDie slot
    match s.select n (slotLocal slot) (fun _ _ => true) with
    | (s1, none) => s1.drainCheck slot
    | (s1, some c) =>
      let row := queueRow n (slotLocal slot) c
      match s1.queue row with
      | [] => s1
      | cp :: _ =>
        match s1.canPrepare slot cp with
        | (s2, some f) => s2.startSending row (some f) s2.gptp
        | (s2, none) => ((s2.lossOf cp).dropHead row).drainCheck slot

/-- The loop delay is measured in a frame (R108): FD and XL frames in mode 1. -/
def State.tdcMeasures (s : State) (slot : Nat) (f : Frame) : Bool := (f.fmt == .fd || f.fmt == .xl) && s.cfgSlot E.portCanTdcMode slot == 1

/-- The loop delay a sent FD or XL frame measured, in f_CAN periods, and its secondary sample point (R108): a measurement below the filter of the format is
discarded and the previous one of that format counts, 0 before the first (DESIGN CHOICE, log 102); mode 2 samples at the offset alone, mode 0 has no secondary sample point. -/
def State.loopDelay (s : State) (slot delay : Nat) (f : Frame) : State :=
  let fd := f.fmt == .fd
  let filter := if fd then s.cfgSlot E.portCanTdcFilter slot else s.cfgSlot E.portCanTdcXlFilter slot
  let offset := if fd then s.cfgSlot E.portCanTdcOffset slot else s.cfgSlot E.portCanTdcXlOffset slot
  let last := if fd then (s.port slot).tdcFd else (s.port slot).tdcXl
  if !(fd || f.fmt == .xl) then s
  else if s.cfgSlot E.portCanTdcMode slot == 1 then
    let m := if delay < filter then last else delay
    (s.updPort slot (fun p => { p with tdcFd := if fd then m else p.tdcFd, tdcXl := if fd then p.tdcXl else m, ssp := some (m + offset) })).when (filter ≤ delay)
      (·.setSlot E.portCanTdcMeasured slot delay)
  else s.updPort slot (fun p => { p with ssp := if s.cfgSlot E.portCanTdcMode slot == 2 then some offset else none })

/-- The data phase of an XL frame goes out as PWM symbols, and the transceiver changes its mode, where `pwm.enable` is true (R109). -/
def State.pwmCode (s : State) (slot : Nat) (f : Frame) : State :=
  s.when (f.fmt == .xl && s.cfgSlotOn E.portCanPwmEnable slot)
    (·.emit (.canPwm slot (s.cfgSlot E.portCanPwmShort slot) (s.cfgSlot E.portCanPwmLong slot) (s.cfgSlot E.portCanPwmOffset slot)))

/-- The frame in transmission from a queue row. -/
def State.sentFrame (s : State) (row : Nat) : Frame :=
  match (s.queue row).find? (·.sending) with
  | some cp => cp.prepared.getD cp.frame
  | none => { fmt := .cc }

/-- A one-shot frame that suffered an error is dropped (R112). -/
def State.oneShot (s : State) (slot row : Nat) : State :=
  match s.takeSending row with
  | some (cp, s1) => ((((s1.countSlot E.portCanCntOneShotDrop slot).lossOf cp).oweCopy cp).freed (slotDie slot)).drainCheck slot
  | none => s

/-- A transmission ends on an error (R108, R112, R113): TEC rises by 8, but for a missing acknowledgement in error-passive (ISO 11898-1, PRESUMED, log 11). At
bus-off the frame returns to its queue, a one-shot frame too (DEDUCED, log 79). A loop delay ends only a frame in which it is measured. -/
def State.canTxError (s : State) (slot : Nat) (err : CanTxError) : State :=
  if !s.canPort slot then s
  else match s.sendingRow slot with
    | none => s
    | some row =>
      if err == .loopDelay && !s.tdcMeasures slot (s.sentFrame row) then s else
      let s1 := (s.when (err == .bit || err == .ack || err == .loopDelay) (·.countSlot E.portCanCntTxError slot)).when (err == .loopDelay) (·.countSlot E.portCanCntTdcFail slot)
      let tec := s.stSlot E.portCanTec slot + (if err == .ack && s.stSlot E.portCanErrorState slot == 1 then 0 else 8)
      let s2 := s1.errors slot tec (s.stSlot E.portCanRec slot)
      if 255 < tec then s2
      else if s.cfgSlotOn E.portCanAutoRetransmit slot then s2.unsend slot true
      else s2.oneShot slot row

/-- CAN_TRANSMIT_ERROR (R112). -/
def execCanTransmitError (slot : Nat) (err : CanTxError) (s : State) : Result :=
  doneIf s (s.variant.hasSlot slot && isCan slot) ((s.canTxError slot err).attemptOver slot)

/-- A frame has been sent (R108, R111, R219, R233): its transmit sample takes it as it was sent, with its authenticator and CANsec data (DESIGN CHOICE, log 109); or its loop delay above 127 periods aborts it with a bit error. -/
def State.canSent (s : State) (slot delay : Nat) : State :=
  if !s.canPort slot then s
  else match s.sendingRow slot with
    | none => s
    | some row =>
      match (s.queue row).find? (·.sending) with
      | none => s
      | some cp =>
        let f := cp.prepared.getD cp.frame
        if s.tdcMeasures slot f && 127 < delay then (s.canTxError slot .loopDelay).attemptOver slot else
        let s1 := ((((s.pwmCode slot f).emit (.canTx slot f)).countSlot E.portCanCntTxFrames slot).loopDelay slot delay f).txSuccess slot
        (s1.when (cp.kind == .frame) (·.samplePoint slot 1 f 0 cp.started cp.colour cp.cls)).sentCopy slot row

/-- CAN_TRANSMIT_COMPLETE (R111). -/
def execCanTransmitComplete (slot delay : Nat) (s : State) : Result :=
  doneIf s (s.variant.hasSlot slot && isCan slot) (s.canSent slot delay)

/-- Arbitration is lost (R111, R112): counted; the frame returns to the head of its queue, and the port receives the winner's (R133). -/
def State.arbLost (s : State) (slot : Nat) : State :=
  (((s.countSlot E.portCanCntArbLost slot).unsend slot true).updPort slot (fun p => { p with rxBusy := true })).drainOver slot

/-- CAN_ARBITRATION_LOST (R111, R112). -/
def execCanArbitrationLost (slot : Nat) (s : State) : Result :=
  doneIf s (s.variant.hasSlot slot && isCan slot)
    (s.when (s.canPort slot && (s.sendingRow slot).isSome) (·.arbLost slot))

/-- The recovery sequence starts (R114). -/
def State.startRecovery (s : State) (slot : Nat) : State := s.updPort slot (fun p => { p with restartArmed := false, recovering := true })

/-- BUS_OFF_RESTART_TIMEOUT (R114). -/
def execBusOffRestartTimeout (slot : Nat) (s : State) : Result :=
  doneIf s (s.variant.hasSlot slot && isCan slot)
    (s.when (s.canPort slot && s.portState slot == 4 && (s.port slot).restartArmed && decide (0 < s.cfgSlot E.portCanBusOffRestart slot)) (·.startRecovery slot))

/-- RECOVERY_SEQUENCE_COMPLETE (R114). -/
def State.recovered (s : State) (slot : Nat) : State :=
  ((s.updPort slot (fun p => { p with recovering := false })).setErrors slot 0 0).portUp slot

def execRecoverySequenceComplete (slot : Nat) (s : State) : Result :=
  doneIf s (s.variant.hasSlot slot && isCan slot)
    (s.when (s.canPort slot && s.portState slot == 4 && (s.port slot).recovering) (·.recovered slot))

/-- A written `port.can.recover` (R114, Table 4-8): it starts the sequence where `busOffRestart` is 0. -/
def State.canRecover (s : State) (slot : Nat) : State :=
  s.when (s.portState slot == 4 && s.cfgSlot E.portCanBusOffRestart slot == 0) (·.startRecovery slot)

end Sys2Proof.Machine
end

