-- ==== Sys2Proof/Machine/Lin.lean ====
section
/-! DEFINITION. The LIN controllers: headers, responses, the response buffers, the schedule and the stuck bus (R125 to R129). -/

namespace Sys2Proof.Machine
open Sys2Proof

/-- A LIN port of a die that runs. -/
def State.linPort (s : State) (slot : Nat) : Bool := s.portRuns slot && isLin slot

/-- The port sends and receives (Table 4-3). -/
def State.linOnBus (s : State) (slot : Nat) : Bool := s.linPort slot && (s.portState slot == 2 || s.portState slot == 3) && !(s.port slot).clockStopped

/-- The configuration of an identifier (R126): publish, subscribe, length. -/
def State.linId (s : State) (slot id : Nat) : Nat := s.cfgSlot (E.portLinId + id) slot
def linPublish (w : Nat) : Bool := bitAt w 15
def linSubscribe (w : Nat) : Bool := bitAt w 14
def linLength (w : Nat) : Nat := w % 16

/-- A bit that the port sent reads back differently (Table 4-11). -/
def State.linBitError (s : State) (slot : Nat) : State := (s.countSlot E.portLinCntBitError slot).setSlot E.portLinLastError slot 4

/-- The port sends the response of a published identifier, or has no data (R127); a bit that reads back differently ends it (Table 4-11). A sent
response counts at the transmit sampling point (R233). -/
def State.linRespond (s : State) (slot id : Nat) (readBackOk : Bool) : State :=
  match mfind (s.port slot).linBuf id with
  | none => s.countSlot E.portLinCntNoData slot
  | some cp =>
    let s1 := s.updPort slot (fun p => { p with linBuf := mdel p.linBuf id })
    if readBackOk then ((s1.emit (.linTx slot cp.frame (s.linCheckOf slot id cp.frame.data))).countSlot E.portLinCntTxFrames slot).samplePoint slot 1 cp.frame 0 s.gptp cp.colour cp.cls
    else s1.linBitError slot

/-- A LIN copy leaves its queue for the response buffer of its identifier (R127). -/
def State.linBuffer (s : State) (slot row : Nat) (cp : Copy) : State :=
  let id := cp.frame.id % 64
  let w := s.linId slot id
  if !linPublish w || linLength w != cp.frame.data.length then ((s.countTxRefused slot).lossOf cp).dropHead row
  else
    let s1 := s.when (mfind (s.port slot).linBuf id).isSome (·.countSlot E.portLinCntResponseOverwritten slot)
    (s1.updPort slot (fun p => { p with linBuf := mput p.linBuf id cp })).dropHead row

/-- Every queued copy that is not too old leaves for its response buffer (R127): a port that comes on the bus takes what it held at once. -/
def State.linTakeAll (s : State) (slot : Nat) : State :=
  (List.range 8).reverse.foldl (fun s c =>
    let row := queueRow (slotDie slot) (slotLocal slot) c
    ((s.purge row).queue row).foldl (fun s cp => s.linBuffer slot row cp) (s.purge row)) s

/-- What a header asks of the port (R126, R127). A commander's header in which a bit reads back differently counts as an error of its own where no response of the port
follows whose bits count it. -/
def State.linHeaderDone (s : State) (slot id : Nat) (readBackOk : Bool) : State :=
  let w := s.linId slot id
  let answers := linPublish w && (mfind (s.port slot).linBuf id).isSome
  let s1 := s.updPort slot (fun p => { p with linHeader := none, linAwait := if linPublish w then none else some id })
  (s1.when (s.cfgSlot E.portLinRole slot == 0 && !readBackOk && !answers) (·.linBitError slot)).when (linPublish w) (·.linRespond slot id readBackOk)

/-- LIN_HEADER (R125, R127, R130, R133): a commander's own header, or a header a responder measures; the first valid break enables an ENABLING responder, whose held
copies are in their buffers before it answers. A header that ends the frame a reconfiguration waited for is not received, because the port leaves the bus. -/
def State.linHeaderEvent (s : State) (slot id : Nat) (syncOk readBackOk : Bool) : State :=
  if !s.linPort slot then s
  else if s.cfgSlot E.portLinRole slot == 0 then
    s.when (s.linOnBus slot && (s.port slot).linHeader == some id) (fun s => (s.linHeaderDone slot id readBackOk).linOver slot)
  else
    let s1 := s.when (s.portState slot == 1) (fun s => (s.portUp slot).linTakeAll slot)
    if !s1.linOnBus slot then s1
    else if (s1.port slot).reconfigure && (s1.port slot).linAwait.isSome then (s1.updPort slot (fun p => { p with linAwait := none })).linOver slot
    else if syncOk then (s1.linHeaderDone slot id readBackOk).linOver slot
    else (s1.countSlot E.portLinCntSyncReject slot).setSlot E.portLinLastError slot 5

def execLinHeader (slot id : Nat) (syncOk readBackOk : Bool) (s : State) : Result :=
  doneIf s (s.variant.hasSlot slot && isLin slot) (s.linHeaderEvent slot id syncOk readBackOk)

/-- A no-response event (R125). -/
def State.linNoResponse (s : State) (slot : Nat) : State := (s.countSlot E.portLinCntNoResponse slot).setSlot E.portLinLastError slot 2

/-- A complete response of a subscribed identifier (R126, Table 4-3). -/
def State.linAccept (s : State) (slot id : Nat) (data : Bytes) : State :=
  if s.portState slot == 3 then s.countSlot E.portLinCntRxDiscardDraining slot
  else ((s.countSlot E.portLinCntRxFrames slot).stirred).enterNative slot (s.cfgSlot E.portLinRealm slot) { fmt := .lin, id := id, data := data } 0 0

/-- LIN_RESPONSE_RECEIVE (R125, R126), with the classic or enhanced checksum that the identifier uses: fewer bytes than the identifier's length are no complete response; more leave no valid checksum. -/
def State.linResponse (s : State) (slot id : Nat) (data : Bytes) (check : LinCheck) : State :=
  if !s.linOnBus slot || (s.port slot).linAwait != some id then s
  else
    let w := s.linId slot id
    let s1 := s.updPort slot (fun p => { p with linAwait := none })
    if !linSubscribe w then s1
    else if data.length < linLength w then s1.linNoResponse slot
    else if check == .framing then (s1.countSlot E.portLinCntFramingError slot).setSlot E.portLinLastError slot 3
    else if check != .sum (s.linCheckOf slot id data) || decide (linLength w < data.length) then (s1.countSlot E.portLinCntChecksumError slot).setSlot E.portLinLastError slot 1
    else s1.linAccept slot id data

def execLinResponseReceive (slot id : Nat) (data : Bytes) (check : LinCheck) (s : State) : Result :=
  doneIf s (s.variant.hasSlot slot && isLin slot) ((s.linResponse slot id data check).linOver slot)

/-- LIN_NO_RESPONSE (R125): no node answered the header in time. -/
def execLinNoResponse (slot : Nat) (s : State) : Result :=
  doneIf s (s.variant.hasSlot slot && isLin slot)
    (s.when (s.linOnBus slot && (s.port slot).linAwait.isSome) (fun s => ((s.updPort slot (fun p => { p with linAwait := none })).linNoResponse slot).linOver slot))

/-- LIN_SCHEDULE_SLOT (R128, R391): the slot's duration has elapsed and the next slot runs; or the 100 ms after a wake pulse have passed and slot 0
runs. While the pulse lasts nothing runs. A reconfiguration or a drain that waited for the slot's frame is taken in place of the next slot (R131, R133). -/
def State.linNextSlot (s : State) (slot : Nat) : State :=
  if (s.port slot).pulse then s
  else if (s.port slot).reconfigure || (s.portState slot == 3 && !(s.port slot).drainTimer) then
    (s.updPort slot (fun p => { p with linHeader := none, linAwait := none })).linOver slot
  else if (s.port slot).scheduleDelayed then (s.updPort slot (fun p => { p with scheduleDelayed := false })).linRun slot 0
  else s.linRun slot ((s.port slot).linPos + 1)

def execLinScheduleSlot (slot : Nat) (s : State) : Result :=
  doneIf s (s.variant.hasSlot slot && isLin slot)
    (s.when (s.linOnBus slot && s.cfgSlot E.portLinRole slot == 0) (·.linNextSlot slot))

/-- LIN_BUS_STUCK (R127, R129). On a DRAINING port it has no effect: the manual gives a drain no such end (DESIGN CHOICE, log 80). -/
def State.linStuck (s : State) (slot : Nat) : State :=
  let s1 := (s.setPortState slot 4).updPort slot (fun p => { p with linBuf := [], linHeader := none, linAwait := none, reconfigure := false, kept := [] })
  ((s1.park slot).countSlot E.portLinCntBusFault slot).raisePort slot

def execLinBusStuck (slot : Nat) (s : State) : Result :=
  doneIf s (s.variant.hasSlot slot && isLin slot)
    (s.when (s.linPort slot && (s.portState slot == 1 || s.portState slot == 2)) (·.linStuck slot))

/-- LIN_BUS_RECOVER (R129). -/
def execLinBusRecover (slot : Nat) (s : State) : Result :=
  doneIf s (s.variant.hasSlot slot && isLin slot) (s.when (s.linPort slot && s.portState slot == 4) (·.portUp slot))

/-- PORT_DEQUEUE at a LIN port (R127, R226, R227). -/
def State.linDequeue (s : State) (slot : Nat) : State :=
  if !s.linOnBus slot then s
  else
    let n := slotDie slot
    match s.select n (slotLocal slot) (fun _ _ => true) with
    | (s1, none) => s1.drainCheck slot
    | (s1, some c) =>
      let row := queueRow n (slotLocal slot) c
      match s1.queue row with
      | [] => s1
      | cp :: _ => (s1.linBuffer slot row cp).drainCheck slot

/-- WAKE_PULSE_END (R391): the pulse ends; a commander's schedule waits 100 ms more. -/
def State.wakePulseEnd (s : State) (slot : Nat) : State :=
  s.updPort slot (fun p => { p with pulse := false, scheduleDelayed := s.cfgSlot E.portLinRole slot == 0 })

def execWakePulseEnd (slot : Nat) (s : State) : Result :=
  doneIf s (s.variant.hasSlot slot && isLin slot) (s.when (s.linOnBus slot && (s.port slot).pulse) (·.wakePulseEnd slot))

end Sys2Proof.Machine
end

