-- ==== Sys2Proof/Machine/Macsec.lean ====
section
/-! DEFINITION. MACsec at an Ethernet or trunk port (R162 to R166). The SecTAG, the IV and what is authenticated are those of IEEE 802.1AE, which R162
names (PRESUMED, log 13). Receive state and transmit counters are named slot × 32 + 4 × channel + AN and slot × 32 + AN. -/

namespace Sys2Proof.Machine
open Sys2Proof

/-- XPN suites, and the key length of a suite (R162). -/
def State.xpn (s : State) (slot : Nat) : Bool := decide (2 ≤ s.cfgSlot E.portSecMacsecCipherSuite slot)

/-- The confidentiality offset of R162 where a frame is encrypted. -/
def confOffset (c : Nat) : Nat := if c == 2 then 30 else if c == 3 then 50 else 0

/-- The 12 bytes of two byte strings exclusive-ored. -/
def xorBytes : Bytes → Bytes → Bytes
  | a :: l, b :: m => (a ^^^ b) :: xorBytes l m
  | _, _ => []

/-- The IV: SCI and PN, or salt exclusive-or SSCI and PN under an XPN suite. -/
def State.macsecIv (s : State) (slot ssci salt : Nat) (sci : Bytes) (pn : Nat) : Bytes :=
  if s.xpn slot then xorBytes (toLE 12 salt) (toBE 4 ssci ++ toBE 8 pn) else sci ++ toBE 4 pn

/-- A SecTAG: its EtherType, TCI and AN, short length, the low 32 bits of the PN, and the SCI where it is carried. -/
def secTag (encrypt sc : Bool) (an sl pn : Nat) (sci : Bytes) : Bytes :=
  toBE 2 0x88E5 ++ toBE 1 ((if sc then 32 else 0) + (if encrypt then 12 else 0) + an) ++ toBE 1 sl ++ toBE 4 (pn % 2 ^ 32) ++ (if sc then sci else [])

/-- Protected bytes: addresses, SecTAG, clear offset bytes, ciphertext and ICV. -/
def State.macsecWrap (s : State) (slot an pn : Nat) (key d : Bytes) : Bytes :=
  let conf := s.cfgSlot E.portSecMacsecConfidentiality slot
  let sci := macBytes (s.cfgSlot E.portEthMacAddress slot) ++ [0#8, 1#8]
  let secure := d.drop 12
  let tag := secTag (conf != 0) (s.cfgSlotOn E.portSecMacsecTxIncludeSci slot) an (if secure.length < 48 then secure.length else 0) pn sci
  let iv := s.macsecIv slot (s.cfgSlot E.portSecMacsecTxSsci slot) (s.cfgSlot E.portSecMacsecTxSalt slot) sci pn
  let open_ := if conf == 0 then secure.length else min (confOffset conf) secure.length
  let aad := d.take 12 ++ tag ++ secure.take open_
  d.take 12 ++ tag ++ secure.take open_ ++ gcmSeal key iv aad (secure.drop open_)

/-- A frame that MACsec leaves in clear (R163): MAC control, and gPTP with `ptpBypass`. -/
def State.macsecExempt (s : State) (slot : Nat) (d : Bytes) : Bool :=
  beNat ((d.drop 12).take 2) == 0x8808 || (beNat ((d.drop 12).take 2) == 0x88F7 && s.cfgSlotOn E.portSecMacsecPtpBypass slot)

/-- The values of a PN: 2^32, or 2^64 under an XPN suite (R165). -/
def State.pnSpace (s : State) (slot : Nat) : Nat := if s.xpn slot then 2 ^ 64 else 2 ^ 32

/-- The bytes a port sends for a clear frame (R163, R165, R166): protected under the transmit SA, or none where the PN space is exhausted or the key
is not usable. -/
def State.macsecProtect (s : State) (slot : Nat) (d : Bytes) : State × Option Bytes :=
  if !s.cfgSlotOn E.portSecMacsecEnable slot || s.macsecExempt slot d then (s, some d)
  else
    let an := s.cfgSlot E.portSecMacsecTxAn slot
    let sa := s.cfgSlot (E.portSecMacsecTxSa + an) slot
    if !bitAt sa 31 || s.pnSpace slot ≤ mget 0 s.txCounters (slot * 32 + an) + 1 then (s.countSlot E.portEthCntMacsecTxPnExhausted slot, none)
    else match s.keyFor (sa % 256) (useMacGen + if s.cfgSlot E.portSecMacsecConfidentiality slot != 0 then useEncrypt else 0) blkMacsec (slotDie slot) with
      | (s1, none) => (s1.countSlot E.portEthCntMacsecTxPnExhausted slot, none)
      | (s1, some key) =>
        let t := s1.takeCounter (slot * 32 + an) 65536
        let pn := t.1 + 1
        let s2 := t.2
        let warn := decide (s.pnSpace slot / 4 * 3 < pn + 1) && !bitAt (s.port slot).pnWarned an
        (s2.when warn (fun s => (s.updPort slot (fun p => { p with pnWarned := setBit p.pnWarned an })).raisePort slot), some (s.macsecWrap slot an pn key d))

/-- A MACsec failure (R164): counted, and a limited MACSEC request: what failed, AN, SCI, PN. -/
def State.macsecFailed (s : State) (slot e code an : Nat) (sci : Bytes) (pn : Nat) : State :=
  (s.countSlot e slot).limited (0x200 + slot) 0x0A slot ([BitVec.ofNat 8 code, BitVec.ofNat 8 an] ++ List.replicate 6 0 ++ pad 8 sci ++ toLE 8 pn)

/-- The enabled receive channel of an SCI (R164). -/
def State.rxChannel (s : State) (slot : Nat) (sci : Bytes) : Option Nat :=
  (List.range 8).find? (fun c => s.cfgSlot (E.portSecMacsecRxEnable + 16 * c) slot == 1 && toLE 8 (s.cfgSlot (E.portSecMacsecRxSci + 16 * c) slot) == sci)

/-- The SCI of a received frame: carried, formed from the source address of an end station, or the channel of a point-to-point link. -/
def State.rxSci (s : State) (slot : Nat) (d : Bytes) : Bytes :=
  let tci := byteAt d 14
  if bitAt tci 5 then (d.drop 20).take 8
  else if bitAt tci 6 then (d.drop 6).take 6 ++ [0#8, 1#8]
  else match (List.range 8).find? (fun c => s.cfgSlot (E.portSecMacsecRxEnable + 16 * c) slot == 1) with
    | some c => toLE 8 (s.cfgSlot (E.portSecMacsecRxSci + 16 * c) slot)
    | none => []

/-- The PN of a received frame: its 32 bits, completed from the next expected PN under an XPN suite. -/
def State.rxPn (s : State) (slot next low : Nat) : Nat :=
  if !s.xpn slot then low
  else if bitAt next 31 && !bitAt low 31 then (next / 2 ^ 32 + 1) * 2 ^ 32 + low else next / 2 ^ 32 * 2 ^ 32 + low

/-- The clear frame under a tag whose ICV does not verify, as an integrity-only frame carries it. -/
def strippedFrame (d : Bytes) : Bytes :=
  let body := d.drop (if bitAt (byteAt d 14) 5 then 28 else 20)
  d.take 12 ++ body.take (body.length - 16)

/-- Verify and decrypt a protected frame under a key (R163); the clear frame where the ICV verifies. -/
def State.macsecUnwrap (s : State) (slot c pn : Nat) (key d sci : Bytes) : Option Bytes :=
  let hdr := if bitAt (byteAt d 14) 5 then 28 else 20
  let all := d.drop hdr
  let sl := byteAt d 15 % 64
  let secure := if sl == 0 then all else all.take (sl + 16)
  let enc := bitAt (byteAt d 14) 3
  let n := secure.length - 16
  let open_ := if enc then min (confOffset (s.cfgSlot E.portSecMacsecConfidentiality slot)) n else n
  let iv := s.macsecIv slot (s.cfgSlot (E.portSecMacsecRxSsci + 16 * c) slot) (s.cfgSlot (E.portSecMacsecRxSalt + 16 * c) slot) sci pn
  (gcmOpen key iv (d.take hdr ++ secure.take open_) (secure.drop open_)).map (fun x => d.take 12 ++ secure.take open_ ++ x)

/-- Receive check 5 of Table 5-2 (R163, R164, R166): the frame in clear, or dropped. -/
def State.macsecVerify (s : State) (slot : Nat) (d : Bytes) : State × Option Bytes :=
  let mode := s.cfgSlot E.portSecMacsecValidateFrames slot
  if !s.cfgSlotOn E.portSecMacsecEnable slot || mode == 0 then (s, some d)
  else if beNat ((d.drop 12).take 2) != 0x88E5 then
    if mode == 1 || s.macsecExempt slot d then (s, some d)
    else (s.macsecFailed slot E.portEthCntMacsecRxUntagged 4 0 [] 0, none)
  else
    let an := byteAt d 14 % 4
    let low := beNat ((d.drop 16).take 4)
    let sci := s.rxSci slot d
    let keep (s : State) : State × Option Bytes := if mode == 1 && !bitAt (byteAt d 14) 3 then (s, some (strippedFrame d)) else (s, none)
    match s.rxChannel slot sci with
    | none => keep (s.macsecFailed slot E.portEthCntMacsecRxNoSa 3 an sci low)
    | some c =>
      let sa := s.cfgSlot (E.portSecMacsecRxSa + 16 * c + an) slot
      let name := slot * 32 + 4 * c + an
      let next := max 1 (s.latest name)
      let pn := s.rxPn slot next low
      if !bitAt sa 31 then keep (s.macsecFailed slot E.portEthCntMacsecRxNoSa 3 an sci low)
      else match s.keyFor (sa % 256) (useMacVerify + if s.cfgSlot E.portSecMacsecConfidentiality slot != 0 then useDecrypt else 0) blkMacsec (slotDie slot) with
        | (s1, none) => (s1.macsecFailed slot E.portEthCntMacsecRxNoSa 3 an sci low, none)
        | (s1, some key) =>
          if s1.cfgSlotOn E.portSecMacsecReplayProtect slot && pn + s1.cfgSlot E.portSecMacsecReplayWindow slot < next then
            (s1.macsecFailed slot E.portEthCntMacsecRxLate 2 an sci pn, none)
          else match s1.macsecUnwrap slot c pn key d sci with
            | none => keep (s1.macsecFailed slot E.portEthCntMacsecRxNotValid 1 an sci pn)
            | some clear => (s1.setLatest name (max next (pn + 1)), some clear)

end Sys2Proof.Machine
end

