-- ==== Sys2Proof/Machine/Eth.lean ====
section
/-! DEFINITION. The Ethernet and trunk ports: receive checks, classification, pause, the Anise endpoint's ARP, link states, wake patterns and what a port
sends (R140 to R173, R79, R187, R190, R258). -/

namespace Sys2Proof.Machine
open Sys2Proof

/-- An Ethernet or trunk port of a die that runs. -/
def State.ethPort (s : State) (slot : Nat) : Bool := s.portRuns slot && isEth slot

/-- The port receives and sends (Table 5-6). -/
def State.ethOnLink (s : State) (slot : Nat) : Bool :=
  s.ethPort slot && (s.port slot).linkUp && (s.portState slot == 2 || s.portState slot == 3)

/-- The classes a set of priorities holds (R155). -/
def State.classesOf (s : State) (slot vec : Nat) : Nat :=
  (List.range 8).foldl (fun v c => if bitAt vec (s.tcToPcp slot c) then setBit v c else v) 0

/-- Classes held by received pause (Table 5-8). -/
def State.setHeld (s : State) (slot classes : Nat) : State :=
  (s.updPort slot (fun p => { p with pauseHeld := classes })).setSlot E.portEthPausedClasses slot classes

/-- One set of classes obeys a pause of some quanta (R154): classes under a penalty ignore it (R156). -/
def State.pauseClasses (s : State) (slot classes : Nat) (hold : Bool) : State :=
  let p := s.port slot
  s.setHeld slot ((List.range 8).foldl (fun v c =>
    if bitAt classes c && !bitAt p.penalty c then (if hold then setBit v c else clearBit v c) else v) p.pauseHeld)

/-- A received pause or PFC frame (R154, R155, R156). -/
def State.pauseReceive (s : State) (slot : Nat) (d : Bytes) : State :=
  let s1 := s.countSlot E.portEthCntRxPauseFrames slot
  let op := beNat ((d.drop 14).take 2)
  let mode := s.cfgSlot E.portEthRxPauseMode slot
  let pen := (s.port slot).penalty
  if op == 1 && mode == 1 then
    if pen != 0 then s1.countSlot E.portEthCntPauseIgnored slot
    else s1.pauseClasses slot 0xFF (beNat ((d.drop 16).take 2) != 0)
  else if op == 0x0101 && mode == 2 then
    let vec := beNat ((d.drop 16).take 2) % 256
    let s2 := s1.when (s.classesOf slot vec &&& pen != 0) (·.countSlot E.portEthCntPauseIgnored slot)
    (List.range 8).foldl (fun s p => if bitAt vec p then s.pauseClasses slot (s.classesOf slot (2 ^ p)) (beNat ((d.drop (18 + 2 * p)).take 2) != 0) else s) s2
  else s1

/-- A gPTP message of a port (R159): its header with the domain of `0x1300:02`, and what IEEE 802.1AS-2020 lays down behind it (Config.gptpBody), an Announce
with the priorities of `0x1300:04` and `:05` at bytes 47 and 52 of the message (layout PRESUMED, log 81). -/
def State.gptpFrame (s : State) (slot kind : Nat) : Bytes :=
  let b := Config.gptpBody s.fresh
  let body := if kind == 0x0B then pad 41 b ++ toBE 1 (s.cfg E.timeGptpPriority1) ++ pad 4 (b.drop 41) ++ toBE 1 (s.cfg E.timeGptpPriority2) ++ b.drop 45 else b
  toBE 6 0x0180C200000E ++ macBytes (s.cfgSlot E.portEthMacAddress slot) ++ toBE 2 0x88F7 ++ toBE 1 (0x10 + kind) ++ toBE 1 0x12 ++ toBE 2 (6 + body.length) ++
    toBE 1 (s.cfg E.timeGptpDomain) ++ toBE 1 0 ++ body

/-- The time unit sends a gPTP message on a port (R159), counted (R176), protected where MACsec works there and `macsec.ptpBypass` is false (R163). A received
pause does not hold it: it has no class, and the manual's list of R154 names pause and PFC frames alone (DESIGN CHOICE, log 104). -/
def State.gptpSend (s : State) (slot kind : Nat) : State :=
  match s.draw.macsecProtect slot (s.gptpFrame slot kind) with
  | (s1, some wire) => ((s1.emit (.gptpTx slot kind wire)).countSlot E.portEthCntTxFrames slot).countSlot E.portEthCntTxOctets slot (wire.length + 4)
  | (s1, none) => s1

/-- Pdelay requests without an answer after which a port is not asCapable (IEEE 802.1AS-2020, PRESUMED, log 81). -/
def allowedLostResponses : Nat := 9

/-- gPTP messages (R159) of the domain of `0x1300:02`: a Pdelay_Req is answered, a response measures the peer delay, a Follow_Up the offset from the grandmaster. Values
are what the protocol measures (Config.gptpMeasure, log 14). -/
def State.gptpReceive (s : State) (slot : Nat) (d : Bytes) : State :=
  let kind := byteAt d 14 % 16
  if !s.cfgOn E.timeGptpEnable || byteAt d 18 != s.cfg E.timeGptpDomain then s
  else if kind == 2 then (s.gptpSend slot 3).gptpSend slot 0x0A
  else if kind == 0x0A then
    let delay := Config.gptpMeasure s.fresh % 2 ^ 32
    (((s.updPort slot (fun p => { p with pdelayLost := 0 })).setSlot E.portEthGptpNeighborPropDelay slot delay).setSlot E.portEthGptpAsCapable slot
      (if delay ≤ s.cfgSlot E.portEthGptpNeighborPropDelayThresh slot then 1 else 0)).draw
  else if kind == 8 then { s with clock := { s.clock with gmOffset := Config.gptpMeasure s.fresh } }.draw
  else s

/-- GPTP_INTERVAL_EXPIRY (R159): the time unit of an asCapable port passes the time on with Sync and Follow_Up, where the device has a grandmaster or may be one
(`0x1300:03`), with an Announce in the latter case; or it sends its Pdelay_Req, and too many without an answer end asCapable (log 81). -/
def State.gptpInterval (s : State) (slot : Nat) (kind : GptpTimer) : State :=
  match kind with
  | .sync => s.when (s.stSlot E.portEthGptpAsCapable slot == 1 && (s.clock.synced || s.cfgOn E.timeGptpGmCapable)) (fun s =>
      ((s.gptpSend slot 0).gptpSend slot 8).when (s.cfgOn E.timeGptpGmCapable) (·.gptpSend slot 0x0B))
  | .pdelay =>
    let s1 := (s.gptpSend slot 2).updPort slot (fun p => { p with pdelayLost := p.pdelayLost + 1 })
    s1.when (allowedLostResponses < (s1.port slot).pdelayLost) (·.setSlot E.portEthGptpAsCapable slot 0)

def execGptpIntervalExpiry (slot : Nat) (kind : GptpTimer) (s : State) : Result :=
  doneIf s (s.variant.hasSlot slot && isEth slot)
    (s.when (s.ethOnLink slot && s.portState slot == 2 && s.cfgOn E.timeGptpEnable && s.cfgSlotOn E.portEthGptpEnable slot) (·.gptpInterval slot kind))

/-- A frame's VID, PCP, DEI, realm and class (R149), and whether its VID matched a realm map row. -/
structure VlanClass where
  vid : Nat
  pcp : Nat
  dei : Bool
  realm : Nat
  cls : Nat
  mapped : Bool
  deriving DecidableEq, Repr

def State.classify (s : State) (slot : Nat) (d : Bytes) : VlanClass :=
  let tagged := ethTagged d
  let tci := ethTci d
  let vid := if tagged && tci % 4096 != 0 then tci % 4096 else s.cfgSlot E.portEthVlanDefaultVid slot
  let pcp := if tagged then tci / 8192 else s.cfgSlot E.portEthVlanDefaultPcp slot
  let row := (List.range 16).find? (fun i =>
    bitAt (s.cfgSlot (E.portEthVlanRealmMap + i) slot) 31 && bitsOf (s.cfgSlot (E.portEthVlanRealmMap + i) slot) 27 16 == vid)
  { vid := vid, pcp := pcp, dei := tagged && bitAt tci 12,
    realm := match row with
      | some i => s.cfgSlot (E.portEthVlanRealmMap + i) slot % 256
      | none => s.cfgSlot E.portEthRealm slot,
    cls := bitsOf (s.cfgSlot E.portEthVlanPcpToTc slot) (4 * pcp + 2) (4 * pcp), mapped := row.isSome }

/-- The group-address filter (R148). -/
def State.groupPasses (s : State) (slot : Nat) (d : Bytes) : Bool :=
  let dst := ethDst d
  !isGroupMac dst || dst == broadcastMac || s.cfgSlot E.portEthRxGroupFilter slot == 0 ||
  bitAt (s.cfgSlot E.portEthRxGroupHash slot) (bitsOf (crc32Msb (d.take 6)) 31 23)

/-- The tunnel row a received frame is steered to (R258). -/
def State.steerRow (s : State) (slot : Nat) (d : Bytes) : Option Nat :=
  let p := ethPayload d
  if ethType d != 0x22F0 || !(byteAt p 0 == 0x82 || byteAt p 0 == 5) || !bitAt (byteAt p 1) 7 then none
  else (s.validRows E.tunnelValid).find? (fun r =>
    bitAt (s.cfgRow E.tunnelDirection r) 1 && ethDst d == s.cfgRow E.tunnelRxDstMac r && (s.cfgRow E.tunnelRxSlot r == 0xFFFF || s.cfgRow E.tunnelRxSlot r == slot) &&
    leNat ((p.drop 4).take 8) == s.cfgRow E.tunnelRxStreamId r)

/-- A steered frame goes to the tunnel input queue of its row's engine die (R258). -/
def State.steer (s : State) (n row : Nat) (cp : Copy) : State :=
  let c := { cp with kind := .decap, dests := [0x400 + row] }
  let d := s.hostOf n (0x400 + row)
  if d == 0 then s.countUnreachable n else if d == n then s.deliver n (0x400 + row) c else s.sendTo n d c

/-- The ingress timestamp of a frame (R160): the time at the balls less the PHY's delay. -/
def State.rxStamp (s : State) (slot : Nat) : Nat := (s.gptp + 2 ^ 64 - s.cfgSlot E.portEthGptpPhyRxDelay slot) % 2 ^ 64

/-- The transmit timestamp of a frame that starts now (R160). -/
def State.txStamp (s : State) (slot : Nat) : Nat := if isEth slot then (s.gptp + s.cfgSlot E.portEthGptpPhyTxDelay slot) % 2 ^ 64 else s.gptp

/-- The copy of a received frame; `fcs` is the FCS it was received with (R146). -/
def State.ethCopy (s : State) (slot fcs : Nat) (d : Bytes) (v : VlanClass) : Copy :=
  { frame := { fmt := .eth, data := d }, ingress := slot, realm := v.realm, vid := v.vid, pcp := v.pcp, dei := v.dei, cls := v.cls, ts := s.rxStamp slot, tsSynced := s.clock.synced,
    cells := cellsOf (d.length + 4), srcDie := slotDie slot, fid := s.nextFid, source := slot, fcs := fcs, secIn := s.cfgSlotOn E.portSecMacsecEnable slot,
    key := s.ethKey v.realm v.vid v.pcp d }

/-- A copy that is forwarded without lookup to one internal port (R147). -/
def State.ethDirect (s : State) (n code : Nat) (cp : Copy) : State := s.stage5 n cp [((0 : Nat), [code])]

/-- Stages 3 to 7 of a frame that passed stage 1 (R38, R40, R233, R258). -/
def State.enterEth (s : State) (slot fcs : Nat) (d : Bytes) (v : VlanClass) (toApp : Bool) : State :=
  let n := slotDie slot
  let cp := s.ethCopy slot fcs d v
  let s1 := { s with nextFid := s.nextFid + 1 }.samplePoint slot 0 cp.frame cp.fcs cp.ts 0 v.cls
  match (if toApp then none else s.steerRow slot d) with
  | some row => s1.steer n row cp
  | none =>
    let s2 := s1.tapsRead n slot cp.ts cp.key (storedBytes cp.frame cp.fcs)
    if toApp then s2.ethDirect n (prc n 1) cp else s2.forwardEth n slot slot slot cp true

/-- An ARP reply for the Anise address (RFC 826, R79, R190), with the request's VLAN. -/
def State.arpReply (s : State) (req : Bytes) : Bytes :=
  let p := ethPayload req
  let me := macBytes (s.routerMac (s.cfg E.accessAniseRealm))
  let tag := if ethTagged req then (req.drop 12).take 4 else []
  (req.drop 6).take 6 ++ me ++ tag ++ toBE 2 0x0806 ++ toBE 2 1 ++ toBE 2 0x0800 ++ [6#8, 4#8] ++ toBE 2 2 ++ me ++ toBE 4 (s.cfg E.accessAniseIpv4) ++ (p.drop 8).take 10

/-- An IPv4 datagram that the endpoint drops (R79): a fragment, or one with options. -/
def aniseBad (p : Bytes) : Bool := byteAt p 0 % 16 != 5 || beNat ((p.drop 6).take 2) % 16384 != 0

/-- A copy at PRC0 that the endpoint takes at once: 1 an ARP request it answers, 2 a datagram it drops, 0 none. -/
def State.endpointTakes (s : State) (cp : Copy) : Nat :=
  let d := cp.frame.data
  if cp.frame.fmt != .eth || !s.cfgOn E.accessAniseEnable || cp.realm != s.cfg E.accessAniseRealm then 0
  else if s.isAniseArp cp.realm d then 1
  else if ethType d == 0x0800 && beNat (((ethPayload d).drop 16).take 4) == s.cfg E.accessAniseIpv4 && aniseBad (ethPayload d) then 2
  else 0

/-- The Anise endpoint serves what stands at the head of its PRC0's queues (R79, R228, ARP_ANSWER). -/
def State.endpoint (s : State) : State :=
  let n := s.cfg E.accessAniseHostDie
  if !s.cfgOn E.accessAniseEnable || !s.dieRuns n then s
  else (List.range 8).foldl (fun s c =>
    let row := queueRow n 22 c
    let took := (s.queue row).takeWhile (fun cp => s.endpointTakes cp != 0)
    if took.isEmpty then s
    else
      let s1 := (took.foldl State.oweCopy (s.setQueue row ((s.queue row).drop took.length))).freed n
      took.foldl (fun t cp => if s.aged cp then (t.countRow E.queueCntResidenceExpired row).lossOf cp
        else if s.endpointTakes cp == 1 then t.sendInternal n 0 cp.realm (s.arpReply cp.frame.data) else t.count E.accessCntDropped) s1) s

/-- A frame that passed every check of Table 5-2: counted, discarded in DRAINING, or forwarded. -/
def State.ethAccept (s : State) (slot wire fcs : Nat) (d : Bytes) (toApp : Bool) : State :=
  let s1 := ((s.countSlot E.portEthCntRxFrames slot).countSlot E.portEthCntRxOctets slot wire).stirred
  if s.portState slot == 3 then s1.countSlot E.portEthCntRxDiscardDraining slot
  else (s1.enterEth slot fcs d (s.classify slot d) toApp).endpoint

/-- Receive checks 6 to 8 (R147 to R149). -/
def State.ethCheck6 (s : State) (slot wire fcs : Nat) (d : Bytes) : State :=
  let reserved := beNat (d.take 6) / 16 == 0x0180C200000
  let typ := beNat ((d.drop 12).take 2)
  if reserved then
    if typ == 0x8808 then
      if beNat ((d.drop 14).take 2) == 1 || beNat ((d.drop 14).take 2) == 0x0101 then s.pauseReceive slot d else s.countSlot E.portEthCntRxControlDrop slot
    else if typ == 0x88F7 && beNat (d.take 6) == 0x0180C200000E then
      if s.portState slot == 3 then s.countSlot E.portEthCntRxDiscardDraining slot
      else if s.cfgSlotOn E.portEthGptpEnable slot then s.gptpReceive slot d else s.countSlot E.portEthCntRxControlDrop slot
    else if s.cfgSlotOn E.portEthRxLinkLocalToApp slot then s.ethAccept slot wire fcs d true
    else s.countSlot E.portEthCntRxControlDrop slot
  else if !s.groupPasses slot d then s.countSlot E.portEthCntRxGroupFiltered slot
  else
    let v := s.classify slot d
    if s.cfgSlotOn E.portEthVlanIngressFilter slot && !v.mapped && v.vid != s.cfgSlot E.portEthVlanDefaultVid slot then s.countSlot E.portEthCntRxVlanFiltered slot
    else s.ethAccept slot wire fcs d false

/-- A pattern of R172 matches a frame. -/
def State.patternFits (s : State) (slot i : Nat) (d : Bytes) : Bool :=
  let off := s.cfgSlot (E.portEthWakePatternOffset + 4 * i) slot
  let mask := s.cfgSlot (E.portEthWakePatternMask + 4 * i) slot
  bitAt (s.cfgSlot E.portEthWakePatternEnable slot) i && decide (off + 32 ≤ d.length) &&
  (leNat ((d.drop off).take 32) &&& mask) == (s.cfgSlot (E.portEthWakePatternValue + 4 * i) slot &&& mask)

/-- A wake match (R172, R173): counted, and a report on lane 1. -/
def State.wakeMatch (s : State) (slot pattern : Nat) : State :=
  (s.countSlot E.portEthCntWakeMatches slot).updDie (slotDie slot) (fun d => { d with wakeReports := d.wakeReports ++ [(slot, pattern)] })

/-- The wake detectors of LISTEN work on a port (R172). -/
def State.listens (s : State) (slot : Nat) : Bool := s.power.mode == .listen && isEth slot && s.dieRuns (slotDie slot) && s.cfgSlotOn E.portEthWakeEnable slot

/-- Receive checks 2 to 4 (R143 to R145): the counter of the check a frame fails. -/
def State.ethLengthFcs (s : State) (slot wire : Nat) (fcsOk : Bool) : Option Nat :=
  if wire < 64 then some E.portEthCntRxRunt
  else if s.cfgSlot E.portEthMaxFrame slot < wire then some E.portEthCntRxOversize
  else if !fcsOk then some E.portEthCntRxFcsError
  else none

/-- ETH_FRAME_RECEIVE (R143, R172): `d` is the frame without its FCS. A frame that several enabled patterns match counts once and reports the lowest of them
(DESIGN CHOICE, log 103). -/
def State.ethReceive (s : State) (slot : Nat) (d : Bytes) (fcsOk : Bool) : State :=
  let wire := d.length + 4
  if s.listens slot then
    if !(s.port slot).linkUp then s
    else match s.ethLengthFcs slot wire fcsOk with
      | some e => s.countSlot e slot
      | none => match (List.range 4).find? (fun i => s.patternFits slot i d) with
        | some i => s.wakeMatch slot i
        | none => s
  else if !s.ethOnLink slot then s
  else match s.ethLengthFcs slot wire fcsOk with
    | some e => s.countSlot e slot
    | none => match s.macsecVerify slot d with
      | (s1, none) => s1
      | (s1, some clear) => s1.ethCheck6 slot wire (crc32 d) clear

def execEthFrameReceive (slot : Nat) (bytes : Bytes) (fcsOk : Bool) (s : State) : Result :=
  doneIf s (s.variant.hasSlot slot && isEth slot) (s.ethReceive slot bytes fcsOk)

/-- PAUSE_TIMER_EXPIRY (R154, R155). -/
def State.pauseEnd (s : State) (slot c : Nat) : State :=
  if s.cfgSlot E.portEthRxPauseMode slot == 2 then s.pauseClasses slot (s.classesOf slot (2 ^ s.tcToPcp slot c)) false else s.setHeld slot 0

def execPauseTimerExpiry (slot cls : Nat) (s : State) : Result :=
  doneIf s (s.variant.hasSlot slot && isEth slot) (s.when (s.ethPort slot && bitAt (s.port slot).pauseHeld cls) (·.pauseEnd slot cls))

/-- A frame of a class waits at the head of its queue (R156). -/
def State.headWaits (s : State) (slot c : Nat) : Bool :=
  match s.queue (queueRow (slotDie slot) (slotLocal slot) c) with
  | cp :: _ => !cp.sending
  | [] => false

/-- A pause storm (R156): the held state ends, a penalty starts, and the event is counted and reported. -/
def State.pauseStorm (s : State) (slot c : Nat) : State :=
  let all := s.cfgSlot E.portEthRxPauseMode slot == 1
  let s1 := s.setHeld slot (if all then 0 else clearBit (s.port slot).pauseHeld c)
  let pen := if all then 0xFF else setBit (s.port slot).penalty c
  let s2 := (((s1.updPort slot (fun p => { p with penalty := pen })).setSlot E.portEthPenaltyActive slot pen).countSlot E.portEthCntPauseStorm slot).raisePort slot
  s2.portEvidence slot 3 c (s2.stSlot E.portEthCntPauseStorm slot)

/-- PAUSE_WATCHDOG_EXPIRY (R156). -/
def execPauseWatchdogExpiry (slot cls : Nat) (s : State) : Result :=
  doneIf s (s.variant.hasSlot slot && isEth slot)
    (s.when (s.ethPort slot && bitAt (s.port slot).pauseHeld cls && s.headWaits slot cls) (·.pauseStorm slot cls))

/-- PAUSE_PENALTY_END (R156). -/
def State.penaltyEnd (s : State) (slot c : Nat) : State :=
  let pen := if (s.port slot).penalty == 0xFF && s.cfgSlot E.portEthRxPauseMode slot == 1 then 0 else clearBit (s.port slot).penalty c
  (s.updPort slot (fun p => { p with penalty := pen })).setSlot E.portEthPenaltyActive slot pen

def execPausePenaltyEnd (slot cls : Nat) (s : State) : Result :=
  doneIf s (s.variant.hasSlot slot && isEth slot) (s.when (s.ethPort slot && bitAt (s.port slot).penalty cls) (·.penaltyEnd slot cls))

/-- PAUSE_REFRESH (R157). -/
def execPauseRefresh (slot cls : Nat) (s : State) : Result :=
  doneIf s (s.variant.hasSlot slot && isEth slot)
    (s.when (s.ethOnLink slot && bitAt (s.port slot).asserted cls) (fun s =>
      s.sendPause slot (s.prioVec slot (s.port slot).asserted) (s.cfgSlot E.portEthTxPauseQuanta slot)))

/-- A link comes up (R168, R172), or its rate changes while it is up (R141). An ENABLED port whose link returns sends the pause it owes (R157). -/
def State.linkUpEvent (s : State) (slot : Nat) : State :=
  if (s.port slot).linkUp then s.setSlot E.portEthLinkRate slot (s.linkRate slot)
  else
    let st := s.portState slot
    let s1 := (s.updPort slot (fun p => { p with linkUp := true, downTimer := false, upTimer := (st == 1 || st == 4) && !p.halfDuplex })).setSlot E.portEthLinkRate slot (s.linkRate slot)
    (s1.when (st == 2) (·.assertAnew slot)).when (s.listens slot && s.cfgSlotOn E.portEthWakeOnLinkUp slot) (·.wakeMatch slot 0xFF)

/-- A port keeps its lane up: in RUN, and in LISTEN where it listens (R173). -/
def State.laneUp (s : State) (slot : Nat) : Bool := s.ethPort slot && s.portState slot != 0 && s.portState slot != 5 || s.listens slot


/-- A link is lost (R158, R168 to R170): reception aborts, the frame being sent returns to its queue, pause state and penalties end; DRAINING ends, and a lane
commit that waited for the frame is taken. -/
def State.linkLost (s : State) (slot : Nat) (receiving : Bool) : State :=
  if !(s.port slot).linkUp then s
  else
    let s1 := (s.when (receiving && (s.portState slot == 2 || s.portState slot == 3 || s.listens slot)) (·.countSlot E.portEthCntRxAbort slot)).when (s.sendingRow slot).isSome (fun s => (s.countSlot E.portEthCntTxRequeued slot).unsend slot false)
    let s2 := (((((s1.updPort slot (fun p => { p with linkUp := false, upTimer := false, penalty := 0, pauseOut := [], downTimer := s.portState slot == 2 })).setSlot
      E.portEthLinkRate slot 0).setSlot E.portEthPenaltyActive slot 0).ptpAnew slot).clearPause slot)
    (s2.when (s2.portState slot == 3) (·.disable slot)).reconfigureNow slot

/-- The trunk tells its partner why it sees no link (R142): local fault without block lock, remote fault on receiving local fault. -/
def faultSignal : LinkFault → Nat
  | .sync => 1
  | .localFault => 2
  | .remoteFault => 0

/-- LINK_LOSS (R142, R168, R169). -/
def execLinkLoss (slot : Nat) (loss : LaneLoss) (s : State) : Result :=
  doneIf s (s.variant.hasSlot slot && isEth slot)
    (s.when (s.ethPort slot || s.listens slot) (fun s => (s.signalFault slot (faultSignal loss.fault)).linkLost slot loss.receiving))

/-- A link is lost at an instant that the command does not tie to a frame (R169): whether one was in reception is open (Config.midFrame, log 3). -/
def State.linkCut (s : State) (slot : Nat) : State := ((s.signalFault slot 1).linkLost slot (Config.midFrame s.fresh)).draw

/-- The link of a port trains (R141, R142). In SGMII with `an.enable` the port takes its link from the PHY's control word, so a lane that synchronises is no link
yet. A 2500BASE-X partner that does not advertise full duplex keeps the port out of ENABLED. -/
def State.linkTrained (s : State) (slot : Nat) (partnerFull : Bool) : State :=
  let mode := s.cfgSlot E.portEthSerdesMode slot
  let an := s.cfgSlotOn E.portEthAnEnable slot
  let half := an && mode == 1 && !partnerFull
  let s1 := s.updPort slot (fun p => { p with halfDuplex := half })
  if an && mode == 0 then s else if half then s1.linkCut slot else (s1.signalFault slot 0).linkUpEvent slot

/-- LINK_UP (R141, R142, R168, R172). -/
def execLinkUp (lane : LaneUp) (s : State) : Result :=
  doneIf s (s.variant.hasSlot lane.slot && isEth lane.slot) (s.when (s.laneUp lane.slot) (·.linkTrained lane.slot lane.partnerFull))

/-- SGMII_CONTROL_WORD (R141): the port acknowledges the word and takes link, speed and duplex from it. -/
def State.sgmiiWord (s : State) (slot : Nat) (up full : Bool) (speed : Nat) : State :=
  let s1 := (s.updPort slot (fun p => { p with halfDuplex := up && !full, speed := speed % 3 })).emit (.controlWordAck slot)
  if !up then s1.linkCut slot
  else if !full then (s1.countSlot E.portEthCntLinkDown slot).linkCut slot
  else s1.linkUpEvent slot

def execSgmiiControlWord (slot : Nat) (up fullDuplex : Bool) (speed : Nat) (s : State) : Result :=
  doneIf s (s.variant.hasSlot slot && isEth slot)
    (s.when (s.laneUp slot && s.cfgSlot E.portEthSerdesMode slot == 0 && s.cfgSlotOn E.portEthAnEnable slot) (·.sgmiiWord slot up fullDuplex speed))

/-- The port enters LINK_DOWN (R168). -/
def State.linkDown (s : State) (slot : Nat) : State :=
  let s1 := ((s.updPort slot (fun p => { p with downTimer := false })).setPortState slot 4).park slot
  let s2 := (s1.countSlot E.portEthCntLinkDown slot).raisePort slot
  s2.portEvidence slot 2 0 (s2.stSlot E.portEthCntLinkDown slot)

/-- LINK_DOWN_DELAY_EXPIRY (R168). -/
def execLinkDownDelayExpiry (slot : Nat) (s : State) : Result :=
  doneIf s (s.variant.hasSlot slot && isEth slot)
    (s.when (s.ethPort slot && (s.port slot).downTimer && s.portState slot == 2) (·.linkDown slot))

/-- LINK_UP_DELAY_EXPIRY (R168). -/
def execLinkUpDelayExpiry (slot : Nat) (s : State) : Result :=
  doneIf s (s.variant.hasSlot slot && isEth slot)
    (s.when (s.ethPort slot && (s.port slot).upTimer && (s.portState slot == 1 || s.portState slot == 4)) (fun s =>
      (s.updPort slot (fun p => { p with upTimer := false })).portUp slot))

/-- The incremental update of an IPv4 header checksum (RFC 1624) for a TTL that falls by 1. -/
def ttlChecksum (c : Nat) : Nat := 0xFFFF - foldSum ((0xFFFF - c) + 0xFEFF)

/-- A routed frame as it leaves an external port (R187). -/
def State.rewriteRouted (s : State) (cp : Copy) : Bytes :=
  let d := cp.frame.data
  let mac := (if cp.nextHop != 0 then macBytes cp.nextHop else d.take 6) ++ macBytes (s.routerMac cp.realm)
  let head := mac ++ (if ethTagged d then (d.drop 12).take 6 else (d.drop 12).take 2)
  let p := ethPayload d
  if ethType d == 0x0800 then
    head ++ p.take 8 ++ [BitVec.ofNat 8 (byteAt p 8 - 1)] ++ (p.drop 9).take 1 ++ toBE 2 (ttlChecksum (beNat ((p.drop 10).take 2))) ++ p.drop 12
  else head ++ p.take 7 ++ [BitVec.ofNat 8 (byteAt p 7 - 1)] ++ p.drop 8

/-- The VID of step 1 of R150 (R151, R153, R187). -/
def State.egressVid (s : State) (slot : Nat) (cp : Copy) : Nat :=
  let own := if cp.ingress < 0x100 then cp.vid else if ethTagged cp.frame.data then ethTci cp.frame.data % 4096 else s.cfgSlot E.portEthVlanDefaultVid slot
  if cp.routed && cp.rvid != 0 then cp.rvid else own

/-- The tag operation of Table 5-3. -/
def tagOp (mode v p : Nat) (d : Bytes) : Bytes :=
  let tag := toBE 2 0x8100 ++ toBE 2 (p * 8192 + v)
  if mode == 1 then (if ethTagged d then d.take 12 ++ d.drop 16 else d)
  else if mode == 2 then (if ethTagged d then d else d.take 12 ++ tag ++ d.drop 12)
  else if mode == 3 then
    if ethTagged d then d.take 14 ++ toBE 2 (p * 8192 + ethTci d / 4096 % 2 * 4096 + v) ++ d.drop 16 else d.take 12 ++ tag ++ d.drop 12
  else d

/-- What an Ethernet port sends for a copy (R150 to R153): its bytes, and whether they differ from the stored ones before protection. -/
def State.ethClear (s : State) (slot : Nat) (cp : Copy) : Bytes × Bool :=
  let d0 := if cp.routed && cp.kind == .frame then s.rewriteRouted cp else cp.frame.data
  let d1 := tagOp (s.cfgSlot E.portEthTxTagMode slot) (s.egressVid slot cp) (s.tcToPcp slot cp.cls) d0
  let d2 := d1 ++ List.replicate (60 - d1.length) 0
  (d2, cp.routed || d2 != cp.frame.data)

/-- MACsec protects a frame that the port sends (R163). -/
def State.macsecCovers (s : State) (slot : Nat) (d : Bytes) : Bool := s.cfgSlotOn E.portSecMacsecEnable slot && !s.macsecExempt slot d

/-- The stored FCS is sent (R152): its first three conditions; `d` is the frame after the tag operation and padding. -/
def State.preserves (s : State) (slot : Nat) (cp : Copy) (d : Bytes) (changed : Bool) : Bool :=
  s.cfgSlot E.portEthTxFcsMode slot == 1 && decide (cp.ingress < 0x100) && isEth cp.ingress && !cp.secIn && cp.kind == .frame && !cp.changed && !changed &&
  !s.macsecCovers slot d

/-- The frame an Ethernet port makes of a copy, or none where it is dropped (R150). A stomped frame carries `sec`. -/
def State.ethPrepare (s : State) (slot : Nat) (cp : Copy) : State × Option Frame :=
  let x := s.ethClear slot cp
  let stomp := s.preserves slot cp x.1 x.2 && cp.fcs != crc32 cp.frame.data
  match s.macsecProtect slot x.1 with
  | (s1, none) => (s1, none)
  | (s1, some wire) =>
    if s.cfgSlot E.portEthMaxFrame slot < wire.length + 4 then (s1.countSlot E.portEthCntTxOversize slot, none)
    else if stomp then
      ((s1.countSlot E.portEthCntTxFcsStomp slot).detectedFault 2 (slotDie slot) slot, some { fmt := .eth, data := wire, sec := true })
    else (s1, some { fmt := .eth, data := wire })

/-- PORT_DEQUEUE at an Ethernet port (R154, R155, R226, R227). -/
def State.ethDequeue (s : State) (slot : Nat) : State :=
  if !s.ethOnLink slot || (s.sendingRow slot).isSome then s
  else
    let n := slotDie slot
    match s.select n (slotLocal slot) (fun s c => !bitAt (s.port slot).pauseHeld c) with
    | (s1, none) => s1.drainCheck slot
    | (s1, some c) =>
      let row := queueRow n (slotLocal slot) c
      match s1.queue row with
      | [] => s1
      | cp :: _ =>
        match s1.ethPrepare slot cp with
        | (s2, some f) => s2.startSending row (some f) (s2.txStamp slot)
        | (s2, none) => ((s2.lossOf cp).dropHead row).drainCheck slot

/-- ETH_TRANSMIT_COMPLETE (R219, R233). -/
def State.ethSent (s : State) (slot : Nat) : State :=
  if !s.ethPort slot then s
  else match s.sendingRow slot with
    | none => s
    | some row =>
      match (s.queue row).find? (·.sending) with
      | none => s
      | some cp =>
        let f := cp.prepared.getD cp.frame
        let s1 := ((s.emit (.ethTx slot f.data (!f.sec))).countSlot E.portEthCntTxFrames slot).countSlot E.portEthCntTxOctets slot (f.data.length + 4)
        ((s1.samplePoint slot 1 cp.frame cp.fcs cp.started cp.colour cp.cls).flushPause slot).sentCopy slot row

def execEthTransmitComplete (slot : Nat) (s : State) : Result :=
  doneIf s (s.variant.hasSlot slot && isEth slot) (s.ethSent slot)

end Sys2Proof.Machine
end

