-- ==== Sys2Proof/Machine/Fabric.lean ====
section
/-! DEFINITION. The fabric: sending and relaying copies, arrival at stage 10, path markers, ATOMIC credit return, and PORT_DEQUEUE at every queue point
(R35 to R38, R57, R226 to R230, R275, R281). -/

namespace Sys2Proof.Machine
open Sys2Proof

/-- The key of a pair and class (R281). -/
def pairKey (a b c : Nat) : Nat := ((a - 1) * 8 + (b - 1)) * 8 + c

/-- A copy of a pair waits behind a path marker: it belongs to the new path (R281). -/
def State.marked (s : State) (n : Nat) (cp : Copy) : Bool :=
  (mfind s.markers (pairKey n cp.target cp.cls)).isSome && cp.srcDie == n && cp.gen == s.pathGen n cp.target

/-- A class of a link end has a copy on its way. -/
def LinkEnd.busy (l : LinkEnd) (c : Nat) : Bool := l.inFlight.any (fun x => x.1 == c)

/-- The far end's buffer of a virtual channel has room for one more copy (R35): the copies on their way and those that wait in transit at the far die, having
come by this link, are within the pool. -/
def State.vcCredit (s : State) (n e c : Nat) : Bool :=
  match s.variant.partner n e with
  | none => false
  | some (m, f) =>
    let waits := [0, 1, 2, 3].map (fun k => ((s.link m k).transit.filter (fun cp => cp.cls == c && cp.source == 0x300 + linkKey m f)).length)
    decide (((s.link n e).inFlight.filter (·.1 == c)).length + waits.sum < Config.vcCapacity)

/-- The turn of a class at a link end (R35, R36, R226, R227): nothing while it has a copy on its way or no credit; else the oldest transit copy, or the position of the
first own copy that may leave, aged ones discarded. -/
def State.fabricTurn (s : State) (n e c : Nat) : State × Option (Option Copy × Nat) :=
  let row := queueRow n (24 + e) c
  if (s.link n e).busy c || !s.vcCredit n e c then (s, none)
  else match (s.link n e).transit.find? (fun cp => cp.cls == c) with
    | some cp => (s, some (some cp, 0))
    | none =>
      let s1 := s.purgeWhere row (fun cp => !s.marked n cp)
      (s1, ((s1.queue row).findIdx? (fun cp => !s1.marked n cp)).map (fun i => (none, i)))

/-- The highest class with something to send over a link end, and what it sends. -/
def State.fabricPick (s : State) (n e : Nat) : State × Option (Nat × Option Copy × Nat) :=
  (List.range 8).reverse.foldl (fun r c =>
    if r.2.isSome then r
    else
      let t := r.1.fabricTurn n e c
      (t.1, t.2.map (fun x => (c, x.1, x.2)))) (s, none)

/-- Send a copy of a class over a link end (R35). -/
def State.fabricSend (s : State) (n e c : Nat) (x : Option Copy × Nat) : State :=
  match x with
  | (some cp, _) => s.updLink n e (fun l => { l with inFlight := l.inFlight ++ [(c, some cp, 0)], transit := l.transit.erase cp })
  | (none, i) =>
    let row := queueRow n (24 + e) c
    (s.setQueue row ((s.queue row).modify i (fun cp => { cp with sending := true, started := s.gptp }))).updLink n e (fun l => { l with inFlight := l.inFlight ++ [(c, none, 0)] })

/-- PORT_DEQUEUE at a fabric port (R226, R227). Bridge transfers, on VC9 and VC8, never wait behind a copy here (log 82). -/
def State.fabricDequeue (s : State) (n e : Nat) : State :=
  if !s.dieRuns n || !s.connected n e || (s.link n e).failed then s
  else match s.fabricPick n e with
    | (s1, some x) => s1.fabricSend n e x.1 x.2
    | (s1, none) => s1

/-- The egress die has already accepted a newer generation of the same ingress die and class (R228). -/
def State.stale (s : State) (n : Nat) (cp : Copy) : Bool :=
  match mfind s.lastGen (pairKey cp.srcDie n cp.cls) with
  | some g => (cp.gen + 65536 - g) % 65536 ≥ 32768
  | none => false

/-- Stage 10 of a copy at the die it was sent to (R228, R229, R258): `e` is the link end it came by. A bridged copy teaches the die where the die stores it
(R201). -/
def State.arrive (s : State) (n e : Nat) (cp : Copy) : State :=
  if s.stale n cp then (s.countDie E.dieBufCntStalePathDrop n).loseCopy cp
  else
    let s1 := { s with lastGen := mput s.lastGen (pairKey cp.srcDie n cp.cls) cp.gen }
    let c := { cp with source := 0x300 + linkKey n e, sending := false }
    match cp.kind with
    | .sample => s1.ringWrite n cp.frame.data
    | .mirror => s1.mirrorDeliver n c
    | _ =>
      let s2 := match cp.stage with
        | .deliver => s1.forAll cp.dests (fun s m => s.deliver n m c)
        | .police => (match s1.police c with
          | (s3, some c1) => s3.replicateAll n c1 c1.batches
          | (s3, none) => s3)
        | .replicate => s1.replicateAll n c c.batches
      s2.when (cp.learn && decide ((s1.dieCopies n).length < (s2.dieCopies n).length)) (·.learnFrom n cp.realm (ethSrc cp.frame.data) cp.ingress true)

/-- A copy that crosses a die on its way (R36): it waits for the link end its path leaves by. -/
def State.relay (s : State) (n e : Nat) (cp : Copy) : State :=
  match (pathEnds cp.srcDie cp.path).find? (fun x => x.1 == n) with
  | some (_, f) => s.updLink n f (fun l => { l with transit := l.transit ++ [{ cp with source := 0x300 + linkKey n e, sending := false }] })
  | none => (s.loseCopy cp).countUnreachable n

/-- A copy received on a link end goes on (R35, R36). -/
def State.landed (s : State) (n e : Nat) (cp : Copy) : State :=
  if cp.target == n then (s.arrive n e cp).endpoint else s.relay n e cp

/-- The first copy on its way to a link end that does not withhold the credit of its class (R35, R224). -/
def State.incoming (s : State) (n e m f : Nat) : Option (Nat × Option Copy × Nat) :=
  (s.link m f).inFlight.find? (fun x => !s.bpOn (0x300 + linkKey n e) x.1)

/-- The last cell of a crossing copy arrives, and the copy goes on. -/
def State.crossing (s : State) (n e m f : Nat) (x : Nat × Option Copy × Nat) : State :=
  let s1 := s.updLink m f (fun l => { l with inFlight := l.inFlight.erase x, crcRow := 0 })
  match x.2.1 with
  | some cp => s1.landed n e cp
  | none => match s1.takeSending (queueRow m (24 + f) x.1) with
    | some (cp, s2) => (s2.freed m).landed n e cp
    | none => s1

/-- A link end withholds the credit of a class (R224): back-pressure of the end as `t` has it, counted. -/
def State.withhold (s t : State) (n e c : Nat) : State :=
  let k := (0x300 + linkKey n e) * 8 + c
  { s with bp := mput s.bp k ((mfind t.bp k).getD {}) }.countRow E.queueCntBpAssertions (queueRow n (24 + e) c)

/-- The last cell of a crossing copy: it arrives, or, where a queue of this die would hold a lossless copy, the link end withholds the credit of its class and the copy
waits in the partner's link buffer with what it charges there (Table 7-3). -/
def State.crossed (s : State) (n e m f : Nat) (x : Nat × Option Copy × Nat) : State :=
  let t := s.crossing n e m f x
  if (t.die n).held.any (fun h => h.2.source == 0x300 + linkKey n e) then s.withhold t n e x.1 else t

/-- FABRIC_CELL_RECEIVE (R35, R57): the next cell of the oldest copy on the way arrives, and the copy goes on with its last cell; a CRC failure is sent again and
counted. R57 counts it "in the link counters" and
does not say at which end: the sending end's row counts it (DESIGN CHOICE, log 83). -/
def State.cellReceive (s : State) (n e : Nat) (crcOk : Bool) : State :=
  match s.variant.partner n e with
  | none => s
  | some (m, f) =>
    if (s.link n e).failed || (s.link m f).failed || !s.dieRuns n then s
    else match s.incoming n e m f with
      | none => s
      | some x =>
        if !crcOk then
          (((s.updLink m f (fun l => { l with crcRow := l.crcRow + 1 })).countRow E.healthLinkCntResends (linkKey m f))).fault 8 m 0
        else
          if x.2.2 + 1 < ((s.crossingCopy m f x).map (·.cells)).getD 1 then
            s.updLink m f (fun l => { l with inFlight := l.inFlight.map (fun y => if y == x then (x.1, x.2.1, x.2.2 + 1) else y), crcRow := 0 })
          else s.crossed n e m f x

def execFabricCellReceive (die e : Nat) (crcOk : Bool) (s : State) : Result :=
  doneIf s (s.connected die e) (s.when s.inRun (·.cellReceive die e crcOk))

/-- Copies of a pair and class that still travel on the old path (R281). -/
def State.oldCells (s : State) (a b c : Nat) : Bool :=
  let old (cp : Copy) : Bool := cp.srcDie == a && cp.target == b && cp.cls == c && cp.gen != s.pathGen a b
  [0, 1, 2, 3].any (fun e => (s.queue (queueRow a (24 + e) c)).any old) ||
  s.links.any (fun l => l.2.transit.any old || l.2.inFlight.any (fun x => match x.2.1 with
    | some cp => old cp
    | none => false))

/-- PATH_MARKER_ACK (R281): the egress die has received the marker behind the last cell of the old path. -/
def execPathMarkerAck (src dst cls : Nat) (s : State) : Result :=
  doneIf s (s.variant.hasDie src && s.variant.hasDie dst)
    (s.when (s.inRun && !s.oldCells src dst cls) (fun s => { s with markers := mdel s.markers (pairKey src dst cls) }))

/-- ATOMIC_CREDIT_RETURN (R230): cells that a member's queue has released go back to the counter of an account on a die. -/
def State.creditReturn (s : State) (g member die cells : Nat) : State :=
  let k := acctKey g member die
  let n := min cells (mget 0 s.creditDue k)
  { s with
    creditDue := mset 0 s.creditDue k (mget 0 s.creditDue k - n)
    credits := mset 0 s.credits k (mget 0 s.credits k - n) }

/-- The lowest-numbered die that owes credit of a member (R230, R281); after a move of the member's host it is two of them. -/
def State.creditDie (s : State) (g member : Nat) : Option Nat := (List.range 8).find? (fun d => 0 < mget 0 s.creditDue (acctKey g member d))

def execAtomicCreditReturn (group member cells : Nat) (s : State) : Result :=
  done (match s.creditDie group member with
    | some d => s.creditReturn group member d cells
    | none => s)

/-- PORT_DEQUEUE at PRC0 (Table 7-1): the runtime pair takes the head copy. -/
def State.runtimeDequeue (s : State) (n : Nat) : State :=
  if !(s.die n).runtimeUp then s
  else match s.select n 22 (fun _ _ => true) with
    | (s1, some c) => (s1.dropHead (queueRow n 22 c)).endpoint
    | (s1, none) => s1

/-- PORT_DEQUEUE (R226, R227): a port, PRC0, or a fabric port of a die. PRC1's queues are served by QP_RX_ITEM_WRITE and the tunnel queue by
TUNNEL_ENGINE_TAKE and TUNNEL_DECAPSULATE, so nothing is taken from them here. -/
def State.dequeue (s : State) (n q : Nat) : State :=
  let slot := (n - 1) * 32 + q
  if !s.dieRuns n || !s.inRun then s
  else if q < 21 then
    if isCan slot then s.canDequeue slot else if isLin slot then s.linDequeue slot else if isEth slot then s.ethDequeue slot else s
  else if q == 22 then s.runtimeDequeue n
  else if 24 ≤ q && q < 28 then s.fabricDequeue n (q - 24)
  else s

def execPortDequeue (die q : Nat) (s : State) : Result := doneIf s (s.variant.hasDie die && decide (q < 29)) (s.dequeue die q)

end Sys2Proof.Machine
end

