-- ==== Sys2Proof/Machine/Tunnel.lean ====
section
/-! DEFINITION. The tunnel engines: messages, PDUs, encapsulation, and decapsulation with its checks (R247 to R263). -/

namespace Sys2Proof.Machine
open Sys2Proof

/-- A message with its header, its payload and zero bytes to a whole number of quadlets; `b2` and `rest` are header bytes 2 and 3 onward (R249). -/
def acfMessage (kind b2 : Nat) (rest payload : Bytes) : Bytes :=
  let size := 3 + rest.length + payload.length
  let padLen := (4 - size % 4) % 4
  toBE 2 (kind * 512 + (size + padLen) / 4) ++ [BitVec.ofNat 8 (padLen * 64 + b2)] ++ rest ++ payload ++ List.replicate padLen 0

def boolNat (b : Bool) : Nat := if b then 1 else 0

/-- The messages of a native frame (R248 to R252): one, or an XL head with its tail; none for an Ethernet frame. -/
def nativeMessages (f : Frame) (brief : Bool) (bus ts : Nat) (mtv : Bool) : Option (List Bytes) :=
  let stamp := toBE 8 (if mtv then ts else 0)
  let m := boolNat mtv * 32
  match f.fmt with
  | .cc | .fd =>
    let fd := f.fmt == .fd
    let b2 := m + boolNat (f.rtr && !fd) * 16 + boolNat f.ext * 8 + boolNat (fd && f.brs) * 4 + boolNat fd * 2 + boolNat (fd && f.esi)
    let payload := if f.rtr && !fd then [] else f.data
    some [acfMessage (if brief then 2 else 1) b2 ([BitVec.ofNat 8 bus] ++ (if brief then [] else stamp) ++ toBE 4 (f.id % 2 ^ 29)) payload]
  | .lin => some [acfMessage 3 (m + bus) ([BitVec.ofNat 8 (linPid f.id)] ++ stamp) f.data]
  | .xl =>
    let more := decide (2020 < f.data.length)
    let head := acfMessage 0x7A (m + bus) ([BitVec.ofNat 8 (boolNat f.sec * 128 + boolNat more * 64)] ++ stamp ++ toBE 2 (f.id % 2048) ++ toBE 1 f.sdt ++ toBE 1 f.vcid ++ toBE 4 f.af ++
      toBE 2 f.data.length ++ [0#8, 0#8]) (f.data.take 2020)
    some (if more then [head, acfMessage 0x7B 0 [0#8] (f.data.drop 2020)] else [head])
  | .eth => none

/-- A tunnel row's engine state. -/
def State.tunnel (s : State) (row : Nat) : Tunnel := mget {} s.tunnels row
def State.setTunnel (s : State) (row : Nat) (t : Tunnel) : State := { s with tunnels := mset {} s.tunnels row t }

/-- M_max (R254, Table 8-4). -/
def State.tunnelRoom (s : State) (row : Nat) : Nat :=
  let overhead := (if s.cfgRow E.tunnelPduFormat row == 0 then 30 else 42) + (if s.cfgRow E.tunnelVid row == 0 then 0 else 4)
  let m := (s.cfgRow E.tunnelMtu row - overhead) / 4 * 4
  if s.cfgRow E.tunnelPduFormat row == 0 then min m 2044 else m

/-- The PDU header of R253. -/
def pduHeader (tscf : Bool) (seq stream len : Nat) : Bytes :=
  if tscf then [0x05#8, 0x80#8, BitVec.ofNat 8 seq, 0#8] ++ toLE 8 stream ++ List.replicate 8 0 ++ toBE 2 len ++ [0#8, 0#8]
  else [0x82#8, BitVec.ofNat 8 (128 + len / 256), BitVec.ofNat 8 (len % 256), BitVec.ofNat 8 seq] ++ toLE 8 stream

/-- The Ethernet frame of a closed PDU (R253). -/
def State.pduFrame (s : State) (row : Nat) (t : Tunnel) : Bytes :=
  let vid := s.cfgRow E.tunnelVid row
  let tag := if vid == 0 then [] else toBE 2 0x8100 ++ toBE 2 (s.cfgRow E.tunnelPcp row * 8192 + vid)
  macBytes (s.cfgRow E.tunnelDstMac row) ++ macBytes (s.cfgSlot E.portEthMacAddress (s.cfgRow E.tunnelEgressSlot row)) ++ tag ++ toBE 2 0x22F0 ++
  pduHeader (s.cfgRow E.tunnelPduFormat row == 1) t.txSeq (s.cfgRow E.tunnelTxStreamId row) t.msgs.length ++ t.msgs

/-- The open PDU of a row is closed on its engine's die (R253, R255, R256). -/
def State.closePdu (s : State) (n row : Nat) : State :=
  let t := s.tunnel row
  if !t.isOpen then s
  else
    let d := s.pduFrame row t
    let cls := if s.cfgRow E.tunnelClass row < 8 then s.cfgRow E.tunnelClass row else t.cls
    let cp : Copy := { frame := { fmt := .eth, data := d }, ingress := 0x400 + row, cls := cls, colour := t.colour, ts := t.ts, cells := cellsOf (d.length + 4), route := t.route, srcDie := n,
                       fid := s.nextFid, source := 0x400 + row, fcs := crc32 d, changed := true }
    let s1 := { s with nextFid := s.nextFid + 1 }.setTunnel row { t with txSeq := (t.txSeq + 1) % 256, isOpen := false, msgs := [], count := 0, timer := false }
    ((s1.countRow E.tunnelCntTxPdus row).countRow E.tunnelCntTxMessages row t.count).replicatePlain n cp [s.cfgRow E.tunnelEgressSlot row]

/-- A row's open PDU takes messages (R255). -/
def State.appendMessages (s : State) (n row : Nat) (cp : Copy) (m : Bytes) : State :=
  let s1 := s.when ((s.tunnel row).isOpen && decide (s.tunnelRoom row < (s.tunnel row).msgs.length + m.length)) (·.closePdu n row)
  let t := s1.tunnel row
  let t1 : Tunnel := if t.isOpen then t
    else { t with isOpen := true, msgs := [], count := 0, cls := cp.cls, colour := 0, ts := cp.ts, route := cp.route, timer := s.cfgRow E.tunnelBatchMax row != 1 }
  let t2 : Tunnel := { t1 with msgs := t1.msgs ++ m, count := t1.count + 1, colour := max t1.colour cp.colour }
  (s1.setTunnel row t2).when (t2.count == s.cfgRow E.tunnelBatchMax row || decide (s.cfgRow E.tunnelBatchUrgentClass row ≤ cp.cls)) (·.closePdu n row)

/-- The messages of a copy for a row (R244, R248): none for a row that does not encapsulate, or a frame that no message carries. -/
def State.rowMessages (s : State) (row : Nat) (cp : Copy) : Option (List Bytes) :=
  if bitAt (s.cfgRow E.tunnelDirection row) 0 then
    nativeMessages cp.frame (s.cfgRow E.tunnelMsgFormat row == 1) (s.cfgRow E.tunnelBusId row) cp.ts cp.tsSynced
  else none

/-- One native copy at its engine (R254, R255). A copy that is not wrapped, because its row does not encapsulate or Table 8-1 gives an Ethernet frame no message, is
dropped like one that does not fit (DESIGN CHOICE, log 15). -/
def State.encapsulate (s : State) (n row : Nat) (cp : Copy) : State :=
  match s.rowMessages row cp with
  | none => (s.countRow E.tunnelCntEncapOversize row).lossOf cp
  | some ms => if s.tunnelRoom row < ms.flatten.length then (s.countRow E.tunnelCntEncapOversize row).lossOf cp else s.appendMessages n row cp ms.flatten

/-- The row of a copy at the tunnel input. -/
def Copy.tunnelRow (cp : Copy) : Nat := (cp.dests.headD 0x400) - 0x400

/-- The first copy of the tunnel input, highest class first, that satisfies a test (R226): its queue row and position. Aged copies that the taker meets first are
discarded (R227). -/
def State.tunnelPick (s : State) (n : Nat) (p : Copy → Bool) : State × Option (Nat × Nat) :=
  (List.range 8).reverse.foldl (fun r c =>
    let row := queueRow n 28 c
    let s1 := r.1.purgeWhere row p
    if r.2.isSome then r else (s1, ((s1.queue row).findIdx? p).map (fun i => (row, i)))) (s, none)

/-- Take a copy out of the tunnel input; its charges are released (R219). -/
def State.tunnelRemove (s : State) (n : Nat) (x : Nat × Nat) : State := (s.setQueue x.1 ((s.queue x.1).eraseIdx x.2)).freed n

/-- TUNNEL_ENGINE_TAKE (R226, R255). -/
def State.engineTake (s : State) (n engine : Nat) : State :=
  match s.tunnelPick n (fun cp => cp.kind != .decap && mfind (s.placementOf n).tunnels cp.tunnelRow == some (n, engine)) with
  | (s1, none) => s1
  | (s1, some x) => match (s1.queue x.1)[x.2]? with
    | some cp => ((s1.tunnelRemove n x).oweCopy cp).encapsulate n cp.tunnelRow cp
    | none => s1

def execTunnelEngineTake (die engine : Nat) (s : State) : Result :=
  doneIf s (s.variant.hasDie die && decide (engine < 8)) (s.when (s.inRun && s.dieRuns die) (·.engineTake die engine))

/-- FLUSH_TIMER_EXPIRY (R255). -/
def execFlushTimerExpiry (row : Nat) (s : State) : Result :=
  done (s.when (s.inRun && (s.tunnel row).timer) (fun s => match mfind s.sumac.inForce.tunnels row with
    | some (n, _) => s.when (s.dieRuns n) (·.closePdu n row)
    | none => s))

/-- The sequence rule of R260: accepted, with the PDUs lost, or the counter of the discard. -/
def Tunnel.accepts (t : Tunnel) (seq : Nat) : Nat ⊕ Nat :=
  let d := (seq + 256 - t.rxLast) % 256
  if !t.synced then .inl 0
  else if d == 0 then .inr E.tunnelCntDupPdus
  else if d ≤ 128 then .inl (d - 1)
  else .inr E.tunnelCntLatePdus

/-- What a message of a PDU is: its bytes, and the tail that goes with an XL head. -/
structure AcfMsg where
  bytes : Bytes
  tail : Option Bytes
  deriving DecidableEq, Repr

def acfType (m : Bytes) : Nat := byteAt m 0 / 2
def acfLength (m : Bytes) : Nat := 4 * ((byteAt m 0 % 2) * 256 + byteAt m 1)
/-- The header length of a message type (R249 to R251); an unknown type has at least one quadlet. -/
def acfHeader (t : Nat) : Nat :=
  match t with
  | 1 => 16
  | 2 => 8
  | 3 => 12
  | 0x7A => 24
  | _ => 4

/-- Check 3 of Table 8-5, message by message; false where the check fails and the rest is discarded. -/
def splitMessages : Nat → Bytes → List AcfMsg × Bool
  | 0, _ => ([], true)
  | k + 1, l =>
    let len := acfLength l
    if l.isEmpty then ([], true)
    else if l.length < 4 || len < acfHeader (acfType l) || l.length < len then ([], false)
    else if acfType l == 0x7A && bitAt (byteAt l 3) 6 then
      let r := l.drop len
      let len2 := acfLength r
      if r.length < 4 || acfType r != 0x7B || len2 < 4 || r.length < len2 then ([], false)
      else
        let x := splitMessages k (r.drop len2)
        (⟨l.take len, some (r.take len2)⟩ :: x.1, x.2)
    else
      let x := splitMessages k (l.drop len)
      (⟨l.take len, none⟩ :: x.1, x.2)

/-- A message's pad lies behind its header (R249). -/
def acfPadFits (m : Bytes) : Bool := decide (byteAt m 2 / 64 ≤ (m.drop (acfHeader (acfType m))).length)

/-- The payload of a message behind its header, without its pad bytes (R249). -/
def acfPayload (m : Bytes) : Bytes :=
  let b := m.drop (acfHeader (acfType m))
  b.take (b.length - byteAt m 2 / 64)

/-- What a message carries: bus, whether its timestamp is valid, the timestamp, and the frame where its fields are valid (R261). -/
structure AcfContent where
  bus : Nat
  mtv : Bool
  ts : Nat
  frame : Option Frame
  deriving DecidableEq, Repr

def fdLengths : List Nat := [0, 1, 2, 3, 4, 5, 6, 7, 8, 12, 16, 20, 24, 32, 48, 64]

def canContent (m : Bytes) (brief : Bool) : AcfContent :=
  let b2 := byteAt m 2
  let at4 := beNat ((m.drop (if brief then 4 else 12)).take 4)
  let p := acfPayload m
  let fd := bitAt b2 1
  let rtr := bitAt b2 4
  let eff := bitAt b2 3
  let id := at4 % 2 ^ 29
  let ok := acfPadFits m && (if fd then fdLengths.contains p.length && !rtr else decide (p.length ≤ 8) && !bitAt b2 2 && !bitAt b2 0) && (!rtr || p.isEmpty) && (eff || decide (id ≤ 0x7FF))
  { bus := byteAt m 3 % 32, mtv := !brief && bitAt b2 5, ts := beNat ((m.drop 4).take 8),
    frame := if ok then some { fmt := if fd then .fd else .cc, id := id, ext := eff, rtr := rtr, brs := bitAt b2 2, esi := bitAt b2 0, data := p } else none }

def linContent (m : Bytes) : AcfContent :=
  let p := acfPayload m
  { bus := byteAt m 2 % 32, mtv := bitAt (byteAt m 2) 5, ts := beNat ((m.drop 4).take 8),
    frame := if decide (1 ≤ p.length) && decide (p.length ≤ 8) then some { fmt := .lin, id := byteAt m 3 % 64, data := p } else none }

def xlContent (x : AcfMsg) : AcfContent :=
  let m := x.bytes
  let d := acfPayload m ++ (match x.tail with
    | some t => acfPayload t
    | none => [])
  let len := beNat ((m.drop 20).take 2)
  { bus := byteAt m 2 % 32, mtv := bitAt (byteAt m 2) 5, ts := beNat ((m.drop 4).take 8),
    frame := if acfPadFits m && x.tail.all acfPadFits && decide (1 ≤ len) && decide (len ≤ 2048) && d.length == len then
        some { fmt := .xl, id := beNat ((m.drop 12).take 2) % 2048, sec := bitAt (byteAt m 3) 7, sdt := byteAt m 14, vcid := byteAt m 15, af := beNat ((m.drop 16).take 4), data := d }
      else none }

/-- A decapsulated frame enters stage 3 (R263): global routes only, its own row excluded. Its timestamp, and whether that is a synchronised one (R252), are those
of the frame that carried it. -/
def State.enterTunnel (s : State) (n row : Nat) (carrier : Copy) (f : Frame) : State :=
  let realm := s.cfgRow E.tunnelRealm row
  let k := frameKey f
  let cp : Copy := { frame := f, ingress := 0x400 + row, realm := realm, ts := carrier.ts, tsSynced := carrier.tsSynced, cells := cellsOf (16 + f.data.length), srcDie := n, fid := s.nextFid,
                     source := 0x200 + n }
  let s1 := ({ s with nextFid := s.nextFid + 1 }.countRow E.tunnelCntRxMessages row).tapsRead n 0xFFFF carrier.ts (some (realm, k.1, k.2)) f.data
  s1.forwardNative n (prc n 0) 0xFFFF (0x400 + row) cp

/-- One message of an accepted PDU: checks 4 to 6 of Table 8-5 (R259, R261, R262). A type that R248 does not name is skipped. -/
def State.message (s : State) (n row : Nat) (carrier : Copy) (x : AcfMsg) : State :=
  let t := acfType x.bytes
  let fit := s.cfgRow E.tunnelRxFormats row
  let go (bit : Nat) (c : AcfContent) : State :=
    if !bitAt fit bit then s.countRow E.tunnelCntFormatRefused row
    else if c.bus != s.cfgRow E.tunnelBusId row then s.countRow E.tunnelCntBusIdMismatch row
    else match c.frame with
      | none => s.countRow E.tunnelCntMessageError row
      | some f =>
        let age := s.cfgRow E.tunnelMaxAge row * 1000
        if age != 0 && c.mtv && s.clock.synced && decide (c.ts + age < s.gptp) then s.countRow E.tunnelCntStale row
        else s.enterTunnel n row carrier f
  match t with
  | 1 => go 0 (canContent x.bytes false)
  | 2 => go 1 (canContent x.bytes true)
  | 3 => go 2 (linContent x.bytes)
  | 0x7A => go 3 (xlContent x)
  | 0x7B => s.countRow (if bitAt fit 3 then E.tunnelCntMessageError else E.tunnelCntFormatRefused) row
  | _ => s

/-- The PDUs lost before an accepted one (R260). -/
def State.pdusLost (s : State) (row lost last seq : Nat) : State :=
  if lost == 0 then s
  else (s.countRow E.tunnelCntLostPdus row lost).when (s.cfgRowOn E.tunnelLossEvidence row) (·.limited (0x400 + row) 0x0C row
    (toLE 4 lost ++ [BitVec.ofNat 8 last, BitVec.ofNat 8 seq]))

/-- The length of a PDU's header, and of its messages (R253). -/
def pduLengths (tscf : Bool) (p : Bytes) : Nat × Nat := if tscf then (24, beNat ((p.drop 20).take 2)) else (12, byteAt p 1 % 8 * 256 + byteAt p 2)

/-- The messages of a steered frame, and whether check 3 of Table 8-5 holds for all of them. -/
def State.pduMessages (s : State) (row : Nat) (cp : Copy) : List AcfMsg × Bool :=
  let p := ethPayload cp.frame.data
  let x := pduLengths (s.cfgRow E.tunnelPduFormat row == 1) p
  splitMessages x.2 ((p.drop x.1).take x.2)

/-- The messages of a PDU in their order (R263): where the producer is held (R224), those that are left, as a number, wait at the die with their PDU. -/
def State.produce (s : State) (n row : Nat) (cp : Copy) : List AcfMsg → State
  | [] => s
  | m :: l =>
    if s.producerHeld n (0x200 + n) then s.updDie n (fun d => { d with decapRest := some (cp, l.length + 1) })
    else (s.message n row cp m).produce n row cp l

/-- A steered frame at its engine (R259, R260). -/
def State.decapsulate (s : State) (n row : Nat) (cp : Copy) : State :=
  let p := ethPayload cp.frame.data
  let tscf := s.cfgRow E.tunnelPduFormat row == 1
  let seq := if tscf then byteAt p 2 else byteAt p 3
  let x := pduLengths tscf p
  if byteAt p 0 != (if tscf then 5 else 0x82) || byteAt p 1 / 16 % 8 != 0 || p.length < x.1 + x.2 then s.countRow E.tunnelCntHeaderError row
  else
    let t := s.tunnel row
    match t.accepts seq with
    | .inr e => s.countRow e row
    | .inl lost =>
      let s1 := ((s.pdusLost row lost t.rxLast seq).setTunnel row { t with synced := true, rxLast := seq }).countRow E.tunnelCntRxPdus row
      let m := s.pduMessages row cp
      (s1.when (!m.2) (·.countRow E.tunnelCntMessageError row)).produce n row cp m.1

/-- The messages of a PDU that waited for the producer (R224, R263). -/
def State.decapAgain (s : State) (n : Nat) (cp : Copy) (left : Nat) : State :=
  let l := (s.pduMessages cp.tunnelRow cp).1
  (s.updDie n (fun d => { d with decapRest := none })).produce n cp.tunnelRow cp (l.drop (l.length - left))

/-- TUNNEL_DECAPSULATE (R226, R259): the producer is not held (R224). What is left of a PDU goes first. -/
def State.decapTake (s : State) (n : Nat) : State :=
  if s.producerHeld n (0x200 + n) then s
  else match (s.die n).decapRest with
  | some (cp, left) => (s.decapAgain n cp left).endpoint
  | none =>
    match s.tunnelPick n (fun cp => cp.kind == .decap) with
    | (s1, none) => s1
    | (s1, some x) => match (s1.queue x.1)[x.2]? with
      | some cp => ((s1.tunnelRemove n x).decapsulate n cp.tunnelRow cp).endpoint
      | none => s1

def execTunnelDecapsulate (die : Nat) (s : State) : Result :=
  doneIf s (s.variant.hasDie die) (s.when (s.inRun && s.dieRuns die) (·.decapTake die))

/-- RESYNC_TIMEOUT (R260). -/
def execResyncTimeout (row : Nat) (s : State) : Result :=
  done (s.when (s.tunnel row).synced (fun s => s.setTunnel row { s.tunnel row with synced := false }))

end Sys2Proof.Machine
end

