-- ==== Sys2Proof/Machine/Blocks.lean ====
section
/-! DEFINITION. The register blocks of a die: what their CTRL and STATUS share, the interrupt controller, the timers, and the pins (R398 to R411, R426). -/

namespace Sys2Proof.Machine
open Sys2Proof

/-- What a CTRL write asks of its block (R398, R399). -/
inductive CtrlAct where
  | ignored | fields | start | stop
  deriving DecidableEq, Repr

/-- A CTRL write (R398 to R400): `changed` says that it changes a Cfg field of CTRL. A write of EN = 0 takes back a pending re-enable. -/
def Block.ctrl (b : Block) (en changed : Bool) : Block × CtrlAct :=
  if en then
    if b.parErr || ((b.en || b.disabling) && changed) then ({ b with cfgIgn := true }, .ignored)
    else if b.en then (b, .ignored)
    else if b.disabling then ({ b with again := true }, .ignored)
    else ({ b with en := true }, .start)
  else if b.en then ({ b with en := false, again := false }, .stop)
  else ({ b with again := false }, .fields)

/-- A configuration register may be written (R398, R399). -/
def Block.open1 (b : Block) : Bool := !b.en && !b.disabling

/-- A parity mismatch (R400). -/
def Block.parity (b : Block) : Block := { b with en := false, disabling := false, again := false, parErr := true, fault := true }

def flag (c : Bool) (k : Nat) : Nat := if c then 2 ^ k else 0

/-- The common STATUS bits (Table 14-2). -/
def Block.status (b : Block) : Nat :=
  flag b.cfgIgn 31 + flag b.parErr 30 + flag b.fault 29 + flag b.conflict 28 + flag b.cfgBad 27 + flag b.disabling 26

/-- Ones written to the common STATUS bits (Table 14-2, R400). -/
def Block.w1c (b : Block) (v : Nat) : Block :=
  { b with cfgIgn := b.cfgIgn && !bitAt v 31, parErr := b.parErr && !bitAt v 30, fault := b.fault && !bitAt v 30,
           conflict := b.conflict && !bitAt v 28, cfgBad := b.cfgBad && !bitAt v 27 }

/-- A die's register blocks work: it runs in RUN and its processor pairs are not halted (R48, R376, R379). -/
def State.pairsRun (s : State) (n : Nat) : Bool := s.inRun && s.dieRuns n && !s.power.halted

/-- A command on a die's registers needs the die. -/
def State.onDie (s : State) (n : Nat) (f : State → State) : Result := doneIf s (s.variant.hasDie n) (s.when (s.pairsRun n) f)

/-- Table 14-8 names the source. -/
def sourceKnown (src : Nat) : Bool := src ≤ 42 || src == 48 || src == 49 || (64 ≤ src && src ≤ 77) || (128 ≤ src && src < 256)

/-- The owner of a timer: 0 none, 1 runtime pair, 2 application pair, 3 D0. -/
def App.timer (a : App) (t : Nat) : Timer := mget {} a.timers t
def App.pin (a : App) (p : Nat) : Pin := mget {} a.pins p
def State.updTimer (s : State) (n t : Nat) (f : Timer → Timer) : State := s.updApp n (fun a => { a with timers := mset {} a.timers t (f (a.timer t)) })
def State.updPin (s : State) (n p : Nat) (f : Pin → Pin) : State := s.updApp n (fun a => { a with pins := mset {} a.pins p (f (a.pin p)) })

/-- A source message may reach a target (R406, R407): timer sources the owners of their timers, source 70 the initiating core, others by route bit. -/
def State.reaches (s : State) (n src target : Nat) : Bool :=
  if !sourceKnown src || (71 ≤ src && src ≤ 77 && (src - 70 == n || !s.variant.hasDie (src - 70))) then false
  else if 33 ≤ src && src ≤ 40 then ((s.app n).timer (2 * (src - 33))).owner == target + 1 || ((s.app n).timer (2 * (src - 33) + 1)).owner == target + 1
  else target == 0 || src == 70 || bitAt (s.cfg E.appIrqRoute) src

/-- INTERRUPT_SOURCE_FIRE (R406, R407, R411). -/
def execInterruptSourceFire (die source target : Nat) (s : State) : Result :=
  s.onDie die (fun s => s.when (s.reaches die source target) (·.fire die target source))

def State.updIntc (s : State) (n target : Nat) (f : IntcTarget → IntcTarget) : State := s.setIntc n target (f (s.intcTarget n target))

/-- The priority of a source (Table 14-3). -/
def IntcTarget.prioOf (t : IntcTarget) (src : Nat) : Nat := bitsOf t.prio (4 * src + 3) (4 * src)

/-- The sources that meet the three conditions of R408. -/
def IntcTarget.qualifies (t : IntcTarget) (src : Nat) : Bool :=
  bitAt t.pend src && bitAt t.enable src && decide (t.thresh ≤ t.prioOf src) &&
  (List.range 256).all (fun a => !bitAt t.active a || decide (t.prioOf a < t.prioOf src))

/-- The source a claim takes (R409): highest priority, then lowest number. -/
def IntcTarget.best (t : IntcTarget) : Option Nat :=
  ((List.range 256).filter t.qualifies).foldl (fun b k => match b with
    | none => some k
    | some j => if t.prioOf j < t.prioOf k then some k else some j) none

/-- The machine external interrupt (R408). -/
def IntcTarget.irq (t : IntcTarget) : Bool := t.blk.en && t.best.isSome

/-- A register value goes to the core that reads it. -/
def State.give (s : State) (n core addr value : Nat) : State := s.emit (.regRead n core addr value)

/-- Claim a source (R409): its number, or 0x100. -/
def IntcTarget.claim (t : IntcTarget) : Nat × IntcTarget :=
  match t.best with
  | some k => (k, { t with pend := clearBit t.pend k, active := setBit t.active k })
  | none => (0x100, t)

/-- INTC_CLAIM (R409). -/
def execIntcClaim (die : Nat) (s : State) : Result :=
  s.onDie die (fun s => (s.updIntc die 1 (fun t => t.claim.2)).give die 1 0x40001010 (s.intcTarget die 1).claim.1)

/-- End a source's service (R409). -/
def IntcTarget.complete (t : IntcTarget) (src : Nat) : IntcTarget :=
  if bitAt t.active src then { t with active := clearBit t.active src } else { t with cplRej := true }

/-- INTC_COMPLETE (R409). -/
def execIntcComplete (die : Nat) (value : Word) (s : State) : Result :=
  s.onDie die (·.updIntc die 1 (·.complete (value.toNat % 256)))

/-- A local doorbell (R410). -/
def State.softDoorbell (s : State) (n v : Nat) : State :=
  if 128 ≤ v % 256 then s.raiseSource n (v % 256) else s.updIntc n 1 (fun t => { t with dbRej := true })

/-- INTC_DOORBELL (R410). -/
def execIntcDoorbell (die : Nat) (value : Word) (s : State) : Result := s.onDie die (·.softDoorbell die value.toNat)

/-- A remote doorbell at one target (R410, R411): its value is stored unless the event is lost. -/
def State.remoteAt (s : State) (n m v target : Nat) : State :=
  let t := s.intcTarget n target
  if bitAt t.pend (70 + m) || bitAt t.active (70 + m) then s.fire n target (70 + m)
  else (s.fire n target (70 + m)).updIntc n target (fun t => { t with rmsg := mset 0 t.rmsg m v })

/-- The dies reached from some over links whose both ends are up and through dies that run, in so many hops (R36). -/
def State.reached (s : State) : Nat → List Nat → List Nat
  | 0, l => l
  | k + 1, l => s.reached k (s.dieList.filter (fun m => l.contains m || s.dieRuns m && (List.range 4).any (fun e =>
      match s.variant.partner m e with
      | some (n, f) => l.contains n && !(s.link m e).failed && !(s.link n f).failed
      | none => false)))

/-- Bridge traffic between two switch dies travels on links only (R35): some way leads from the one to the other. -/
def State.bridgeWay (s : State) (n m : Nat) : Bool := (s.reached 7 [n]).contains m

/-- A doorbell that arrives through the bridge from Dm (R410); one from the die itself is a local write. -/
def State.remoteDoorbell (s : State) (n m v : Nat) : State :=
  if m == n then s.updIntc n 1 (fun t => { t with dbRej := true })
  else (s.remoteAt n m v 0).when (bitAt (s.cfg E.appIrqRoute) (70 + m)) (·.remoteAt n m v 1)

/-- INTC_RDOORBELL (R410). -/
def execIntcRdoorbell (die sender : Nat) (value : Word) (s : State) : Result :=
  doneIf s (s.variant.hasDie die && s.variant.hasDie sender) (s.when (s.pairsRun die && (sender == die || s.pairsRun sender && s.bridgeWay sender die)) (·.remoteDoorbell die sender value.toNat))

/-- Pending bits written as one word (R410): each acts as if its source had fired for the application target. -/
def State.setPending (s : State) (n w v : Nat) : State :=
  s.forAll ((List.range 32).filter (bitAt v)) (fun s b => s.fire n 1 (32 * w + b))

/-- INTC_SETPEND (R410, R411). -/
def execIntcSetpend (die word : Nat) (value : Word) (s : State) : Result :=
  s.onDie die (fun s => s.when (word < 8) (·.setPending die word value.toNat))

/-- COUNT of a timer now (R405). -/
def State.timerCount (s : State) (t : Timer) : Nat := if t.blk.en then t.count - (s.clock.ticks - t.since) else t.count

/-- A timer's COUNT loads from LOAD (Table 14-5). -/
def Timer.reload (t : Timer) (now : Nat) : Timer := { t with count := max 1 t.load, since := now }

/-- A write of a TMR_CTRL word by the pair `owner` (R398, R405, R426): each EN of 1 that is not ignored loads COUNT (Table 14-5). -/
def State.timerCtrl (s : State) (n t owner v : Nat) : State :=
  let x := (s.app n).timer t
  if x.owner != owner then s.updTimer n t (fun x => { x with blk := { x.blk with conflict := true } })
  else
    let r := x.blk.ctrl (bitAt v 0) (x.ie != bitAt v 2 || x.periodic != bitAt v 1)
    let set (x : Timer) : Timer := { x with blk := r.1, ie := bitAt v 2, periodic := bitAt v 1 }
    match r.2 with
    | .ignored => if x.blk.en && !x.blk.parErr && bitAt v 2 == x.ie && bitAt v 1 == x.periodic then s.updTimer n t (·.reload s.clock.ticks)
      else s.updTimer n t (fun x => { x with blk := r.1 })
    | .fields => s.updTimer n t set
    | .start => s.updTimer n t (fun x => (set x).reload s.clock.ticks)
    | .stop => s.updTimer n t (fun x => { (set x) with count := s.timerCount x })

/-- TMR_CTRL_WRITE (R405): by the application pair. -/
def execTmrCtrlWrite (die timer : Nat) (value : Word) (s : State) : Result :=
  s.onDie die (fun s => s.when (timer < 16) (·.timerCtrl die timer 2 value.toNat))

/-- A timer reaches 0 (R405): EXP, MISSED, its source, reload or stop, and the pins that follow it (Table 14-5). -/
def State.timerExpire (s : State) (n t : Nat) : State :=
  let x := (s.app n).timer t
  if !x.blk.en then s
  else
    let s1 := s.updTimer n t (fun x =>
      let y := { x with missed := x.missed || x.exp, exp := true }
      if x.periodic then y.reload s.clock.ticks else { y with blk := { y.blk with en := false }, count := 0 })
    let s2 := s1.updApp n (fun a => { a with pins := a.pins.map (fun p => if p.2.blk.en && p.2.func == 2 && p.2.timer == t then (p.1, { p.2 with toggled := !p.2.toggled }) else p) })
    s2.when (x.ie && (x.owner == 1 || x.owner == 2)) (·.fire n (x.owner - 1) (33 + t / 2))

/-- TIMER_EXPIRY (R405). -/
def execTimerExpiry (die timer : Nat) (s : State) : Result :=
  s.onDie die (fun s => s.when (timer < 16) (·.timerExpire die timer))

/-- A TMR_OWN command of a pair (R426): 1 claim, 2 release. -/
def State.timerOwn (s : State) (n t owner cmd : Nat) : State :=
  let x := (s.app n).timer t
  if cmd == 1 then
    if x.owner == 0 then s.updTimer n t (fun x => { x with owner := owner })
    else s.when (x.owner != owner) (·.updTimer n t (fun x => { x with blk := { x.blk with conflict := true } }))
  else if cmd == 2 && x.owner == owner then
    if x.blk.en then s.updTimer n t (fun x => { x with blk := { x.blk with cfgIgn := true } })
    else s.updTimer n t (fun x => { x with owner := 0 })
  else s

/-- A PIN_OWN command of a pair (R426). -/
def State.pinOwn (s : State) (n p owner cmd : Nat) : State :=
  let x := (s.app n).pin p
  if cmd == 1 then
    if x.owner == 0 then s.updPin n p (fun x => { x with owner := owner })
    else s.when (x.owner != owner) (·.updPin n p (fun x => { x with blk := { x.blk with conflict := true } }))
  else if cmd == 2 && x.owner == owner then
    if x.blk.en then s.updPin n p (fun x => { x with blk := { x.blk with cfgIgn := true } })
    else s.updPin n p (fun x => { x with owner := 0 })
  else s

/-- The owner code of a pair that claims: 1 runtime pair, 2 application pair, 3 D0. -/
def ownerOk (pair : Nat) : Bool := 1 ≤ pair && pair ≤ 3

/-- A claim or release by the owner `pair`. D0 and the runtime pairs also claim while the runtime pairs start; the application pair claims after it starts (R427). -/
def State.onStarted (s : State) (n pair : Nat) (f : State → State) : Result :=
  doneIf s (s.variant.hasDie n) (s.when (s.pairsRun n || (pair != 2 && s.power.mode == .starting && s.power.phase == .tables && s.dieRuns n)) f)

/-- TMR_CLAIM (R426). -/
def execTmrClaim (die timer pair : Nat) (s : State) : Result :=
  s.onStarted die pair (fun s => s.when (timer < 16 && ownerOk pair) (·.timerOwn die timer pair 1))

/-- TMR_RELEASE (R426). -/
def execTmrRelease (die timer pair : Nat) (s : State) : Result :=
  s.onStarted die pair (fun s => s.when (timer < 16 && ownerOk pair) (·.timerOwn die timer pair 2))

/-- PIN_CLAIM (R426). -/
def execPinClaim (die pin pair : Nat) (s : State) : Result :=
  s.onStarted die pair (fun s => s.when (pin < 8 && ownerOk pair) (·.pinOwn die pin pair 1))

/-- PIN_RELEASE (R426). -/
def execPinRelease (die pin pair : Nat) (s : State) : Result :=
  s.onStarted die pair (fun s => s.when (pin < 8 && ownerOk pair) (·.pinOwn die pin pair 2))

/-- A write of a PIN_CTRL word by the pair `owner` (R398, R426): FUNC 2 needs its timer owned by the pin's owner. -/
def State.pinCtrl (s : State) (n p owner v : Nat) : State :=
  let x := (s.app n).pin p
  let conflict (s : State) : State := s.updPin n p (fun x => { x with blk := { x.blk with conflict := true } })
  if x.owner != owner then conflict s
  else
    let changed := x.timer != bitsOf v 11 8 || x.slew != bitsOf v 7 6 || x.pull != bitsOf v 5 4 || x.func != bitsOf v 3 1
    let r := x.blk.ctrl (bitAt v 0) changed
    let set (x : Pin) : Pin := { x with blk := r.1, timer := bitsOf v 11 8, slew := bitsOf v 7 6, pull := bitsOf v 5 4, func := bitsOf v 3 1 }
    match r.2 with
    | .ignored => s.updPin n p (fun x => { x with blk := r.1 })
    | .start => if bitsOf v 3 1 == 2 && ((s.app n).timer (bitsOf v 11 8)).owner != owner then conflict s else s.updPin n p set
    | _ => s.updPin n p set

/-- A PINS_DOUT word of a pair (R426): the levels of its own pins; a change of another pin's bit sets that pin's OWNER_CONFLICT. -/
def State.doutWrite (s : State) (n owner v : Nat) : State :=
  s.forAll (List.range 8) (fun s p =>
    if ((s.app n).pin p).owner == owner then s.updApp n (fun a => { a with dout := if bitAt v p then setBit a.dout p else clearBit a.dout p })
    else s.when (bitAt v p != bitAt (s.app n).dout p) (·.updPin n p (fun x => { x with blk := { x.blk with conflict := true } })))

/-- PINS_DOUT_WRITE (R426). -/
def execPinsDoutWrite (die pair : Nat) (value : Word) (s : State) : Result :=
  s.onDie die (fun s => s.when (ownerOk pair) (·.doutWrite die pair value.toNat))

/-- The level a pin shows (R427): what it drives as an output, or its ball. FUNC 4 is D0's alone (Table 14-5): in a pair's pin it drives nothing, like a FUNC that
the table does not list (DESIGN CHOICE, log 115). -/
def State.pinLevel (s : State) (n p : Nat) : Bool :=
  let x := (s.app n).pin p
  if !x.blk.en || x.func == 0 || 4 < x.func || (x.func == 4 && x.owner != 3) then Config.ballLevel (s.fresh + p)
  else if x.func == 1 then bitAt (s.app n).dout p
  else if x.func == 2 then x.toggled
  else if x.func == 3 then decide (s.gptp % 1000000000 < 100000000)
  else s.power.vsel

/-- Claims of a pair end (R426): its timers stop with the COUNT they have now, its pins become inputs without pull. -/
def App.releaseClaims (a : App) (owner now : Nat) : App :=
  { a with timers := a.timers.map (fun t => if t.2.owner == owner then
             (t.1, { t.2 with owner := 0, count := if t.2.blk.en then t.2.count - (now - t.2.since) else t.2.count, blk := { t.2.blk with en := false } }) else t),
           pins := a.pins.map (fun p => if p.2.owner == owner then (p.1, { p.2 with owner := 0, pull := 0, func := 0, blk := { p.2.blk with en := false } }) else p) }

end Sys2Proof.Machine
end

