-- ==== Sys2Proof/Machine/Qp.lean ====
section
/-! DEFINITION. Queue pairs: RX and TX items, positions, watermarks, enabling and disabling (R412 to R417, R339 to R341). -/

namespace Sys2Proof.Machine
open Sys2Proof

/-- Positions count modulo 2^32 (R416). -/
def sub32 (a b : Nat) : Nat := (a + 2 ^ 32 - b) % 2 ^ 32
def add32 (a b : Nat) : Nat := (a + b) % 2 ^ 32

def Qp.rxHeld (q : Qp) : Nat := sub32 q.rxWr q.rxRel
def Qp.rxUnread (q : Qp) : Nat := sub32 q.rxWr q.rxRd
def Qp.rxFree (q : Qp) : Nat := q.rxSize - q.rxHeld
def Qp.txHeld (q : Qp) : Nat := sub32 q.txWr q.txTaken
/-- TX_FULL (Table 14-7): a ring without a size, as after reset, has no words at all and reads 0. -/
def Qp.txFull (q : Qp) : Bool := decide (0 < q.txSize) && q.txHeld == q.txSize

/-- A watermark state (R341): `marks` holds the high mark at [31:16] and the low mark at [15:0]. -/
def watermark (was : Bool) (held marks : Nat) : Bool :=
  if bitsOf marks 31 16 ≤ held then true else if held ≤ bitsOf marks 15 0 then false else was

/-- The watermark states follow the held words; RX_HOLD's assertion and TX_HI's end raise source 16 + k (Table 14-7). -/
def State.qpFlow (s : State) (n k : Nat) : State :=
  let q := s.qp n k
  let hold := watermark q.rxHold q.rxHeld q.rxMarks
  let hi := watermark q.txHi q.txHeld q.txMarks
  let s1 := s.updQp n k (fun q => { q with rxHold := hold, txHi := hi })
  s1.when ((q.holdIe && hold && !q.rxHold) || (q.txIe && q.txHi && !hi)) (·.raiseSource n (16 + k))

/-- An SRAM word number of a ring position (R416). -/
def ringWord (base size p : Nat) : Nat := base / 4 + p % size

/-- Write words into a ring from a position on. -/
def App.ringStore (a : App) (base size p : Nat) (ws : List Nat) : App :=
  (ws.foldl (fun (x : App × Nat) w => (x.1.setWord (ringWord base size x.2) w, add32 x.2 1)) (a, p)).1

/-- The words of data bytes, the last one filled with zeros (R412). -/
def dataWords (d : Bytes) : List Nat := (toWords (d ++ List.replicate ((4 - d.length % 4) % 4) 0)).map (·.toNat)

/-- An RX item (Table 14-9). -/
def rxItem (cp : Copy) : List Nat :=
  let f := cp.frame
  let d := storedBytes f cp.fcs
  let id := match f.fmt with
    | .eth => cp.pcp % 8 * 4096 + cp.vid % 4096
    | _ => (if f.ext then 2 ^ 31 else 0) + f.id
  [cp.cls * 2 ^ 29 + cp.colour * 2 ^ 27 + fmtCode f.fmt * 2 ^ 24 + cp.realm * 65536 + d.length, id,
   f.vcid * 65536 + f.sdt * 256 + flag f.sec 3 + flag f.esi 2 + flag f.brs 1 + flag f.rtr 0, if f.fmt == .xl then f.af else 0, cp.ingress, 0,
   cp.ts % 2 ^ 32, cp.ts / 2 ^ 32] ++ dataWords d

/-- A QP can take a copy (R413). -/
def State.qpTakes (s : State) (n k : Nat) (cp : Copy) : Bool :=
  let q := s.qp n k
  q.blk.en && !q.rxHold && decide ((rxItem cp).length ≤ q.rxFree)

/-- The QP of a class (Table 14-11). -/
def State.qpOf (s : State) (c : Nat) : Nat := s.cfg (E.qpRxClass0 + c)

/-- The highest class at queue point 23 whose head copy its QP can take; aged copies leave first (R413, R227). -/
def State.qpPick (s : State) (n : Nat) : State × Option (Nat × Copy) :=
  (List.range 8).reverse.foldl (fun r c =>
    if r.2.isSome then r
    else
      let s1 := r.1.purgeTaken (queueRow n 23 c) (r.1.qpTakes n (r.1.qpOf c))
      match s1.queue (queueRow n 23 c) with
      | cp :: _ => if s1.qpTakes n (s1.qpOf c) cp then (s1, some (c, cp)) else (s1, none)
      | [] => (s1, none)) (s, none)

/-- A copy is written whole as an RX item (R413, R416); its queue releases it (R219). -/
def State.rxWrite (s : State) (n c : Nat) (cp : Copy) : State :=
  let k := s.qpOf c
  let q := s.qp n k
  let item := rxItem cp
  let s1 := s.updApp n (fun a => (a.ringStore q.rxBase q.rxSize q.rxWr item).setQp k { q with rxWr := add32 q.rxWr item.length })
  let s2 := (s1.countDie E.appCntRxItems n).when (q.itemIe && q.rxUnread == 0) (·.raiseSource n (16 + k))
  (s2.qpFlow n k).dropHead (queueRow n 23 c)

/-- QP_RX_ITEM_WRITE (R413). -/
def State.rxItemWrite (s : State) (n : Nat) : State :=
  if !(s.app n).running then s
  else match s.qpPick n with
    | (s1, some (c, cp)) => s1.rxWrite n c cp
    | (s1, none) => s1

def execQpRxItemWrite (die : Nat) (s : State) : Result := s.onDie die (·.rxItemWrite die)

/-- A word of the TX ring, counted from the first word not yet taken. -/
def State.txWord (s : State) (n k i : Nat) : Nat :=
  let q := s.qp n k
  (s.app n).word (ringWord q.txBase q.txSize (add32 q.txTaken i))

/-- The lengths a CAN FD item may have (R414). -/
def fdLength (n : Nat) : Bool := n ≤ 8 || [12, 16, 20, 24, 32, 48, 64].contains n

/-- The checks of R414 on the eight header words of a TX item. A bit that no field of Table 14-9 names counts as reserved, and so does a set
bit of a field marked "write 0". -/
def txHeaderOk (w : List Nat) : Bool :=
  let g (i : Nat) : Nat := w.getD i 0
  let fmt := bitsOf (g 0) 26 24
  let len := bitsOf (g 0) 15 0
  let id := g 1
  let fl := g 2
  bitsOf (g 0) 28 27 == 0 && fmt ≤ 4 &&
  (match fmt with
   | 0 => 14 ≤ len && len ≤ 9212
   | 1 => len ≤ 8
   | 2 => fdLength len
   | 3 => 1 ≤ len && len ≤ 2048
   | _ => 1 ≤ len && len ≤ 8) &&
  (match fmt with
   | 0 => id == 0
   | 3 => id ≤ 0x7FF
   | 4 => id ≤ 0x3F
   | _ => bitsOf id 30 29 == 0 && (bitAt id 31 || id ≤ 0x7FF)) &&
  bitsOf fl 31 24 == 0 && bitsOf fl 7 4 == 0 && !bitAt fl 2 && (!bitAt fl 0 || fmt == 1) && (!bitAt fl 1 || fmt == 2) && (!bitAt fl 3 || fmt == 3) &&
  (g 3 == 0 || fmt == 3) && g 4 == 0 && g 5 == 0 && g 6 == 0 && g 7 == 0

/-- The frame a TX item spells (Table 14-9). -/
def txFrame (w : List Nat) (d : Bytes) : Frame :=
  let g (i : Nat) : Nat := w.getD i 0
  match bitsOf (g 0) 26 24 with
  | 0 => { fmt := .eth, data := d }
  | 1 => { fmt := .cc, id := g 1 % 2 ^ 29, ext := bitAt (g 1) 31, rtr := bitAt (g 2) 0, data := d }
  | 2 => { fmt := .fd, id := g 1 % 2 ^ 29, ext := bitAt (g 1) 31, brs := bitAt (g 2) 1, data := d }
  | 3 => { fmt := .xl, id := g 1 % 2048, sec := bitAt (g 2) 3, sdt := bitsOf (g 2) 15 8, vcid := bitsOf (g 2) 23 16, af := g 3, data := d }
  | _ => { fmt := .lin, id := g 1 % 64, data := d }

/-- A TX item enters stage 3 on PRC1 (R414). The key of an untagged frame has VID 0 and PCP 0, as no egress port's default is known there (DESIGN CHOICE, log 108). -/
def State.enterItem (s : State) (n realm cls : Nat) (f : Frame) : State :=
  let isE := f.fmt == .eth
  let vid := if isE && ethTagged f.data then ethTci f.data % 4096 else 0
  let pcp := if isE && ethTagged f.data then ethTci f.data / 8192 else 0
  let cp : Copy := { frame := f, ingress := prc n 1, realm := realm, vid := vid, pcp := pcp, dei := isE && ethTagged f.data && bitAt (ethTci f.data) 12, cls := cls, ts := s.gptp, tsSynced := s.clock.synced,
                     cells := cellsOf (frameLength f), srcDie := n, fid := s.nextFid, source := prc n 1, fcs := if isE then crc32 f.data else 0, changed := isE,
                     key := if isE then s.ethKey realm vid pcp f.data else none }
  let s1 := { s with nextFid := s.nextFid + 1 }
  (if isE then s1.forwardEth n (prc n 1) (prc n 1) (prc n 1) cp false else s1.forwardNative n (prc n 1) (prc n 1) (prc n 1) cp).endpoint

/-- TX_HOLD (R415): back-pressure holds PRC1 for the class of the head item. -/
def State.txHold (s : State) (n k : Nat) : Bool :=
  decide (0 < (s.qp n k).txHeld) && s.bpOn (prc n 1) (bitsOf (s.txWord n k 0) 31 29)

/-- Words of the head item (R412). -/
def State.txItemWords (s : State) (n k : Nat) : Nat := 8 + ceilDiv (bitsOf (s.txWord n k 0) 15 0) 4

/-- A QP has an item that the switch can take now (R414, R415). -/
def State.txReady (s : State) (n k : Nat) : Bool :=
  let q := s.qp n k
  q.blk.en && q.discard == 0 && decide (0 < q.txHeld) && !s.txHold n k && (decide (q.txSize < s.txItemWords n k) || decide (s.txItemWords n k ≤ q.txHeld))

/-- An item is discarded (R414). -/
def State.txDiscard (s : State) (n k : Nat) : State :=
  let q := s.qp n k
  ((s.updQp n k (fun q => { q with txErrs := add32 q.txErrs 1, txErr := true })).countDie E.appCntTxErr n).when (q.txIe && !q.txErr) (·.raiseSource n (16 + k))

/-- Free words of the TX ring. -/
def State.txFree (s : State) (n k words : Nat) : State := s.updQp n k (fun q => { q with txTaken := add32 q.txTaken words })

/-- Take the head item of a QP (R414). -/
def State.txTake (s : State) (n k : Nat) : State :=
  let q := s.qp n k
  let words := s.txItemWords n k
  let s1 := s.countDie E.appCntTxItems n
  if q.txSize < words then
    let have1 := min q.txHeld words
    ((((s1.txDiscard n k).txFree n k have1).updQp n k (fun q => { q with discard := words - have1 }))).qpFlow n k
  else
    let w := (List.range words).map (s.txWord n k)
    if !txHeaderOk (w.take 8) then ((s1.txDiscard n k).txFree n k words).qpFlow n k
    else
      let d := ((w.drop 8).flatMap (toLE 4)).take (bitsOf (w.headD 0) 15 0)
      (((s1.enterItem n (s.cfg (E.qpRealm + k)) (bitsOf (w.headD 0) 31 29) (txFrame w d)).txFree n k words).qpFlow n k)

/-- QP_TX_ITEM_TAKE (R414): the next QP in turn with an item. -/
def State.txItemTake (s : State) (n : Nat) : State :=
  match ((List.range 16).map (fun i => ((s.app n).turn + i) % 16)).find? (s.txReady n) with
  | some k => (s.txTake n k).updApp n (fun a => { a with turn := (k + 1) % 16 })
  | none => s

def execQpTxItemTake (die : Nat) (s : State) : Result := s.onDie die (·.txItemTake die)

/-- A command on a QP register needs the QP. -/
def State.onQp (s : State) (n k : Nat) (f : State → State) : Result := s.onDie n (fun s => s.when (k < 16) f)

/-- A push (R416), without effect but TX_OVR where no word is free, as in a ring that is off; the pushed words of an oversize item are consumed as they come (R414). -/
def State.txPush (s : State) (n k v : Nat) : State :=
  let q := s.qp n k
  if 0 < q.discard then s.updQp n k (fun q => { q with discard := q.discard - 1, txWr := add32 q.txWr 1, txTaken := add32 q.txTaken 1 })
  else if q.txHeld == q.txSize then (s.updQp n k (fun q => { q with txOvr := true })).when (q.txIe && !q.txOvr) (·.raiseSource n (16 + k))
  else (s.updApp n (fun a => (a.ringStore q.txBase q.txSize q.txWr [v]).setQp k { q with txWr := add32 q.txWr 1 })).qpFlow n k

/-- QP_TXPUSH (R416). -/
def execQpTxpush (die qp : Nat) (value : Word) (s : State) : Result := s.onQp die qp (·.txPush die qp value.toNat)

/-- An advance (R416). -/
def Qp.advance (q : Qp) (n : Nat) : Qp := if q.rxUnread < n then { q with rxUnder := true } else { q with rxRd := add32 q.rxRd n }

/-- QP_RXADV (R416). -/
def execQpRxadv (die qp : Nat) (value : Word) (s : State) : Result := s.onQp die qp (·.updQp die qp (·.advance (value.toNat % 65536)))

/-- MARK, REWIND and RELEASE of an RX ring (R340). -/
def Qp.mark (q : Qp) : Qp := { q with rxMk := q.rxRd }
def Qp.rewind (q : Qp) : Qp := { q with rxRd := q.rxMk }
def Qp.release (q : Qp) : Qp := { q with rxRel := q.rxRd, rxMk := q.rxRd }

def execQpMark (die qp : Nat) (s : State) : Result := s.onQp die qp (·.updQp die qp Qp.mark)
/-- REWIND (R340): source 16 + k where the ring turns from no unread words to some (Table 14-7). -/
def State.qpRewind (s : State) (n k : Nat) : State :=
  (s.updQp n k Qp.rewind).when ((s.qp n k).itemIe && (s.qp n k).rxUnread == 0 && decide (0 < (s.qp n k).rewind.rxUnread)) (·.raiseSource n (16 + k))

def execQpRewind (die qp : Nat) (s : State) : Result := s.onQp die qp (·.qpRewind die qp)
def execQpRelease (die qp : Nat) (s : State) : Result := s.onQp die qp (fun s => (s.updQp die qp Qp.release).qpFlow die qp)

/-- The capture ring stands on a die (R418). -/
def State.capActive (s : State) (n : Nat) : Bool := s.cfgOn E.captureEnable && (s.placementOf n).capture == n

/-- Two byte ranges meet. -/
def rangesMeet (a la b lb : Nat) : Bool := 0 < la && 0 < lb && a < b + lb && b < a + la

/-- EN is refused (R417). -/
def State.qpBad (s : State) (n k : Nat) : Bool :=
  let q := s.qp n k
  let ring (b l : Nat) : Bool := b % 64 != 0 || (l != 0 && l < 2312) || 0xC0000 < b + 4 * l ||
    (s.capActive n && rangesMeet b (4 * l) (s.cfg E.captureBase) (144 * s.cfg E.captureSlots))
  ring q.rxBase q.rxSize || ring q.txBase q.txSize || rangesMeet q.rxBase (4 * q.rxSize) q.txBase (4 * q.txSize) ||
  bitsOf q.rxMarks 31 16 ≤ bitsOf q.rxMarks 15 0 || bitsOf q.txMarks 31 16 ≤ bitsOf q.txMarks 15 0

/-- Positions and states as they are when a QP is enabled (R417), or has discarded what its rings held. -/
def Qp.cleared (q : Qp) : Qp :=
  { q with rxWr := 0, rxRd := 0, rxRel := 0, rxMk := 0, txWr := 0, txTaken := 0, rxHold := false, txHi := false, discard := 0 }

/-- TX_HI of a QP falls with its TX ring emptied: source 16 + k with TXIE (R415, Table 14-7). -/
def State.txFalls (s : State) (n k : Nat) : State := s.when ((s.qp n k).txIe && (s.qp n k).txHi) (·.raiseSource n (16 + k))

/-- Start a QP whose EN has been written 1 (R417). -/
def State.qpStart (s : State) (n k : Nat) : State :=
  if s.qpBad n k then s.updQp n k (fun q => { q with blk := { q.blk with en := false, cfgBad := true } })
  else (s.txFalls n k).updQp n k (fun q => { q.cleared with blk := { q.blk with en := true } })

/-- A QP_CTRL write (R398, R399, R417). -/
def State.qpCtrl (s : State) (n k v : Nat) : State :=
  let q := s.qp n k
  let r := q.blk.ctrl (bitAt v 0) (q.itemIe != bitAt v 3 || q.holdIe != bitAt v 2 || q.txIe != bitAt v 1)
  let set (q : Qp) : Qp := { q with blk := r.1, itemIe := bitAt v 3, holdIe := bitAt v 2, txIe := bitAt v 1 }
  match r.2 with
  | .ignored => s.updQp n k (fun q => { q with blk := r.1 })
  | .fields => s.updQp n k set
  | .start => (s.updQp n k set).qpStart n k
  | .stop => s.updQp n k (fun q => { (set q) with blk := { r.1 with disabling := true } })

/-- A QP_CTRL word with the fields as they stand. -/
def Qp.ctrlWord (q : Qp) (en : Bool) : Nat := flag q.itemIe 3 + flag q.holdIe 2 + flag q.txIe 1 + flag en 0

/-- QP_ENABLE (R417). -/
def execQpEnable (die qp : Nat) (s : State) : Result := s.onQp die qp (fun s => s.qpCtrl die qp ((s.qp die qp).ctrlWord true))

/-- QP_DISABLE (R417). -/
def execQpDisable (die qp : Nat) (s : State) : Result := s.onQp die qp (fun s => s.qpCtrl die qp ((s.qp die qp).ctrlWord false))

/-- What a QP's rings still hold is discarded (R400, R417); TX_HI's end raises source 16 + k (Table 14-7). -/
def State.qpEmptied (s : State) (n k : Nat) : State :=
  (s.updQp n k (fun q => { q with rxRd := q.rxWr, rxRel := q.rxWr, rxMk := q.rxWr, txTaken := q.txWr, rxHold := false, txHi := false, discard := 0 })).when
    ((s.qp n k).txIe && (s.qp n k).txHi) (·.raiseSource n (16 + k))

/-- DISABLING ends (R399, R417): items left are discarded; a pending re-enable starts the QP. -/
def State.qpEnd (s : State) (n k : Nat) : State :=
  let q := s.qp n k
  if !q.blk.disabling then s
  else
    let s1 := (s.qpEmptied n k).updQp n k (fun q => { q with blk := { q.blk with disabling := false, again := false } })
    s1.when q.blk.again (·.qpStart n k)

/-- QP_DISABLING_END (R417). -/
def execQpDisablingEnd (die qp : Nat) (s : State) : Result := s.onQp die qp (·.qpEnd die qp)

/-- QP_TXERR_READ (R414): the count, which the read clears. -/
def execQpTxerrRead (die qp : Nat) (s : State) : Result :=
  s.onQp die qp (fun s => (s.updQp die qp (fun q => { q with txErrs := 0 })).give die 1 (0x4001004C + 0x100 * qp) (s.qp die qp).txErrs)

end Sys2Proof.Machine
end

