-- ==== Sys2Proof/Machine/Regs.lean ====
section
/-! DEFINITION. The register map of a die: which register an address names, its value, and what reading and writing it does (R396 to R405, R416 to R419,
Tables 14-1 to 14-7). -/

namespace Sys2Proof.Machine
open Sys2Proof

/-- The registers of Tables 14-3 and 14-7. `qpCfg k j` is QP_RXBASE, RXSIZE, TXBASE, TXSIZE, RXMARKS, TXMARKS for j = 0 to 5; `qpPos k j` is QP_RXWR, RXRD,
RXREL, RXMK for j = 0 to 3. -/
inductive Reg where
  | sysCtrl | sysStatus | sysId | sysResetCause | wdtTimeout | wdtKick | eccCorr | eccAddr | nowLo | nowHi
  | intcCtrl | intcStatus | doorbell | thresh | claim | complete | rdoorbell | rmsg (m : Nat) | pend (w : Nat) | active (w : Nat) | lost (w : Nat)
  | setpend (w : Nat) | enable (w : Nat) | route (w : Nat) | prio (v : Nat)
  | ticksLo | ticksHi | tmrCtrl (t : Nat) | tmrStatus (t : Nat) | tmrLoad (t : Nat) | tmrCount (t : Nat) | tmrOwn (t : Nat)
  | mbxCtrl | mbxStatus | mbxOp | mbxIndex | mbxRow | mbxLen | mbxData (i : Nat)
  | brCtrl | brStatus | brFence | pfsrc | pfclr | lastTag | errStat | errAddr | retry | semRel | pfNext | sem (i : Nat) | pfAddr (i : Nat) | pfInfo (i : Nat)
  | qpCtrl (k : Nat) | qpStatus (k : Nat) | qpCfg (k j : Nat) | qpPos (k j : Nat) | rxAdv (k : Nat) | rxCmd (k : Nat) | txPush (k : Nat) | txWr (k : Nat)
  | txTaken (k : Nat) | txErr (k : Nat)
  | capCtrl | capStatus | capBase | capSlots | capMark | capWr | capRd
  | din | dout | pinCtrl (p : Nat) | pinStatus (p : Nat) | pinOwn (p : Nat)
  deriving DecidableEq, Repr

/-- SYS registers by offset (Table 14-3). -/
def sysReg (o : Nat) : Option Reg :=
  [(0x00, Reg.sysCtrl), (0x04, .sysStatus), (0x08, .sysId), (0x0C, .sysResetCause), (0x10, .wdtTimeout), (0x14, .wdtKick), (0x18, .eccCorr), (0x1C, .eccAddr),
   (0x20, .nowLo), (0x24, .nowHi)].lookup o

/-- INTC registers by offset. -/
def intcReg (o : Nat) : Option Reg :=
  if o < 0x20 then [(0x00, Reg.intcCtrl), (0x04, .intcStatus), (0x08, .doorbell), (0x0C, .thresh), (0x10, .claim), (0x14, .complete), (0x18, .rdoorbell)].lookup o
  else if 0x44 ≤ o && o ≤ 0x5C then some (.rmsg ((o - 0x40) / 4))
  else if 0x80 ≤ o && o < 0xA0 then some (.pend ((o - 0x80) / 4))
  else if 0xA0 ≤ o && o < 0xC0 then some (.active ((o - 0xA0) / 4))
  else if 0xC0 ≤ o && o < 0xE0 then some (.lost ((o - 0xC0) / 4))
  else if 0xE0 ≤ o && o < 0x100 then some (.setpend ((o - 0xE0) / 4))
  else if 0x100 ≤ o && o < 0x120 then some (.enable ((o - 0x100) / 4))
  else if 0x120 ≤ o && o < 0x140 then some (.route ((o - 0x120) / 4))
  else if 0x200 ≤ o && o < 0x280 then some (.prio ((o - 0x200) / 4))
  else none

/-- TIMERS registers by offset. -/
def timerReg (o : Nat) : Option Reg :=
  if o == 0 then some .ticksLo else if o == 4 then some .ticksHi
  else if 0x100 ≤ o && o < 0x300 then
    let t := (o - 0x100) / 0x20
    match (o - 0x100) % 0x20 with
    | 0x00 => some (.tmrCtrl t)
    | 0x04 => some (.tmrStatus t)
    | 0x08 => some (.tmrLoad t)
    | 0x0C => some (.tmrCount t)
    | 0x10 => some (.tmrOwn t)
    | _ => none
  else none

/-- MAILBOX registers by offset. -/
def mbxReg (o : Nat) : Option Reg :=
  if 0x400 ≤ o && o < 0x800 then some (.mbxData ((o - 0x400) / 4))
  else [(0x00, Reg.mbxCtrl), (0x04, .mbxStatus), (0x08, .mbxOp), (0x0C, .mbxIndex), (0x10, .mbxRow), (0x14, .mbxLen)].lookup o

/-- BRIDGE registers by offset. -/
def bridgeReg (o : Nat) : Option Reg :=
  if 0x80 ≤ o && o < 0x100 then some (.sem ((o - 0x80) / 4))
  else if 0x100 ≤ o && o < 0x180 then some (if o % 8 == 0 then .pfAddr ((o - 0x100) / 8) else .pfInfo ((o - 0x100) / 8))
  else [(0x00, Reg.brCtrl), (0x04, .brStatus), (0x08, .brFence), (0x0C, .pfsrc), (0x10, .pfclr), (0x30, .lastTag), (0x34, .errStat), (0x38, .errAddr), (0x3C, .retry),
        (0x40, .semRel), (0x44, .pfNext)].lookup o

/-- Registers of QPk by offset (Table 14-7). -/
def qpReg (k o : Nat) : Option Reg :=
  if 0x08 ≤ o && o ≤ 0x1C then some (.qpCfg k ((o - 0x08) / 4))
  else if 0x20 ≤ o && o ≤ 0x2C then some (.qpPos k ((o - 0x20) / 4))
  else [(0x00, Reg.qpCtrl k), (0x04, .qpStatus k), (0x30, .rxAdv k), (0x34, .rxCmd k), (0x40, .txPush k), (0x44, .txWr k), (0x48, .txTaken k), (0x4C, .txErr k)].lookup o

/-- CAPTURE registers by offset. -/
def capReg (o : Nat) : Option Reg :=
  [(0x00, Reg.capCtrl), (0x04, .capStatus), (0x08, .capBase), (0x0C, .capSlots), (0x10, .capMark), (0x14, .capWr), (0x18, .capRd)].lookup o

/-- PINS registers by offset. -/
def pinsReg (o : Nat) : Option Reg :=
  if o == 0 then some .din else if o == 4 then some .dout
  else if 0x100 ≤ o && o < 0x180 then
    let p := (o - 0x100) / 0x10
    match (o - 0x100) % 0x10 with
    | 0x0 => some (.pinCtrl p)
    | 0x4 => some (.pinStatus p)
    | 0x8 => some (.pinOwn p)
    | _ => none
  else none

/-- The register at an address of Table 14-1; none where none lies or the access is not aligned (R397). -/
def regOf (a : Nat) : Option Reg :=
  if a % 4 != 0 || a < 0x40000000 || 0x40100000 ≤ a then none
  else
    let o := a % 0x1000
    match (a - 0x40000000) / 0x1000 with
    | 0x00 => sysReg o
    | 0x01 => intcReg o
    | 0x02 => timerReg o
    | 0x03 => mbxReg o
    | 0x04 => bridgeReg o
    | 0x10 => qpReg (o / 0x100) (o % 0x100)
    | 0x20 => capReg o
    | 0x30 => pinsReg o
    | _ => none

/-- The blocks of R398. -/
inductive BlockId where
  | sys | intc | mbx | bridge | cap | qp (k : Nat) | timer (t : Nat) | pin (p : Nat)
  deriving DecidableEq, Repr

/-- The block a register belongs to. -/
def Reg.block : Reg → Option BlockId
  | .sysCtrl | .sysStatus | .sysId | .sysResetCause | .wdtTimeout | .wdtKick | .eccCorr | .eccAddr | .nowLo | .nowHi => some .sys
  | .intcCtrl | .intcStatus | .doorbell | .thresh | .claim | .complete | .rdoorbell | .rmsg _ | .pend _ | .active _ | .lost _ | .setpend _ | .enable _
  | .route _ | .prio _ => some .intc
  | .ticksLo | .ticksHi | .din | .dout => none
  | .tmrCtrl t | .tmrStatus t | .tmrLoad t | .tmrCount t | .tmrOwn t => some (.timer t)
  | .mbxCtrl | .mbxStatus | .mbxOp | .mbxIndex | .mbxRow | .mbxLen | .mbxData _ => some .mbx
  | .brCtrl | .brStatus | .brFence | .pfsrc | .pfclr | .lastTag | .errStat | .errAddr | .retry | .semRel | .pfNext | .sem _ | .pfAddr _ | .pfInfo _ => some .bridge
  | .qpCtrl k | .qpStatus k | .qpCfg k _ | .qpPos k _ | .rxAdv k | .rxCmd k | .txPush k | .txWr k | .txTaken k | .txErr k => some (.qp k)
  | .capCtrl | .capStatus | .capBase | .capSlots | .capMark | .capWr | .capRd => some .cap
  | .pinCtrl p | .pinStatus p | .pinOwn p => some (.pin p)

/-- Registers that hold configuration ("Cfg") and carry parity (R398, R400). -/
def Reg.isCfg : Reg → Bool
  | .wdtTimeout | .prio _ | .tmrCtrl _ | .tmrLoad _ | .mbxCtrl | .qpCtrl _ | .qpCfg _ _ | .pinCtrl _ => true
  | _ => false

/-- A block's common bits. -/
def State.blockOf (s : State) (n : Nat) : BlockId → Block
  | .sys => (s.app n).sys
  | .intc => (s.intcTarget n 1).blk
  | .mbx => (s.app n).mbx.blk
  | .bridge => (s.app n).bridge.blk
  | .cap => (s.app n).cap.blk
  | .qp k => (s.qp n k).blk
  | .timer t => ((s.app n).timer t).blk
  | .pin p => ((s.app n).pin p).blk

def State.updBlock (s : State) (n : Nat) (b : BlockId) (f : Block → Block) : State :=
  match b with
  | .sys => s.updApp n (fun a => { a with sys := f a.sys })
  | .intc => s.updIntc n 1 (fun t => { t with blk := f t.blk })
  | .mbx => s.updApp n (fun a => { a with mbx := { a.mbx with blk := f a.mbx.blk } })
  | .bridge => s.updApp n (fun a => { a with bridge := { a.bridge with blk := f a.bridge.blk } })
  | .cap => s.updApp n (fun a => { a with cap := { a.cap with blk := f a.cap.blk } })
  | .qp k => s.updQp n k (fun q => { q with blk := f q.blk })
  | .timer t => s.updTimer n t (fun x => { x with blk := f x.blk })
  | .pin p => s.updPin n p (fun x => { x with blk := f x.blk })

/-- Gate of a configuration write (R398): the write, or CFG_IGN. -/
def State.cfgWrite (s : State) (n : Nat) (b : BlockId) (f : State → State) : State :=
  if (s.blockOf n b).open1 then f s else s.updBlock n b (fun x => { x with cfgIgn := true })

/-- A core's bridge state. -/
def Bridge.core (b : Bridge) (c : Nat) : BridgeCore := mget {} b.cores c
def State.bridgeCore (s : State) (n c : Nat) : BridgeCore := (s.app n).bridge.core c
def State.updBridge (s : State) (n : Nat) (f : Bridge → Bridge) : State := s.updApp n (fun a => { a with bridge := f a.bridge })
def State.updCore (s : State) (n c : Nat) (f : BridgeCore → BridgeCore) : State :=
  s.updBridge n (fun b => { b with cores := mset {} b.cores c (f (b.core c)) })

/-- Word `w` of a 256-bit register set. -/
def word32 (v w : Nat) : Nat := bitsOf v (32 * w + 31) (32 * w)
def setWord32 (v w x : Nat) : Nat := v - word32 v w * 2 ^ (32 * w) + x % 2 ^ 32 * 2 ^ (32 * w)

/-- Ticks since the die's application pair and timers started (TIMERS_NOW). -/
def State.dieTicks (s : State) (n : Nat) : Nat := s.clock.ticks - (s.app n).started

/-- A shadow's name (R401): the register and the core that reads it. -/
def shadowKey (addr who : Nat) : Nat := addr * 256 + who

/-- The value a read returns, before any effect of reading (Tables 14-3 to 14-7). `core` names the bridge registers, `who` (die × 16 + core) the shadow. -/
def State.regPeek (s : State) (n core who : Nat) (r : Reg) : Nat :=
  let a := s.app n
  let t := s.intcTarget n 1
  let b := a.bridge.core core
  let hi (addr live : Nat) : Nat := (mfind a.shadows (shadowKey addr who)).getD live
  match r with
  | .sysCtrl => flag a.sys.en 0
  | .sysStatus => a.sys.status + flag a.kickErr 0
  | .sysId => 0x81000041 + n * 4096 + s.variant.nc * 256
  | .sysResetCause => a.resetCause
  | .wdtTimeout => a.wdtTimeout
  | .eccCorr => a.eccCorr
  | .eccAddr => a.eccAddr
  | .nowLo => s.gptp % 2 ^ 32
  | .nowHi => hi 0x40000020 (s.gptp / 2 ^ 32)
  | .intcCtrl => flag t.blk.en 0
  | .intcStatus => t.blk.status + flag t.cplRej 1 + flag t.dbRej 0
  | .thresh => t.thresh
  | .claim => t.claim.1
  | .rmsg m => mget 0 t.rmsg m
  | .pend w => word32 t.pend w
  | .active w => word32 t.active w
  | .lost w => word32 t.lost w
  | .enable w => word32 t.enable w
  | .route w => word32 (s.cfg E.appIrqRoute) w
  | .prio v => word32 t.prio v
  | .ticksLo => s.dieTicks n % 2 ^ 32
  | .ticksHi => hi 0x40002000 (s.dieTicks n / 2 ^ 32 % 2 ^ 32)
  | .tmrCtrl k => let x := a.timer k; flag x.ie 2 + flag x.periodic 1 + flag x.blk.en 0
  | .tmrStatus k => let x := a.timer k; x.blk.status + flag x.missed 1 + flag x.exp 0
  | .tmrLoad k => (a.timer k).load
  | .tmrCount k => s.timerCount (a.timer k)
  | .tmrOwn k => (a.timer k).owner * 256
  | .mbxCtrl => flag a.mbx.ie 1 + flag a.mbx.blk.en 0
  | .mbxStatus => a.mbx.blk.status + flag a.mbx.coll 25 + flag a.mbx.done 9 + flag a.mbx.busy 8 + a.mbx.result
  | .mbxIndex => a.mbx.index
  | .mbxRow => a.mbx.row
  | .mbxLen => a.mbx.len
  | .mbxData i => mget 0 a.mbx.data i
  | .brCtrl => flag a.bridge.blk.en 0
  | .brStatus => a.bridge.blk.status
  | .brFence => b.fence
  | .pfsrc => b.pfsrc
  | .lastTag => b.lastTag
  | .errStat => b.errStat
  | .errAddr => b.errAddr
  | .retry => b.retry
  | .semRel => a.bridge.semRel
  | .pfNext => a.bridge.logNext
  | .sem i => (match mfind a.bridge.sems i with
    | some h => 0x80000000 + (h - 1)
    | none => 0)
  | .pfAddr i => mget 0 a.bridge.logAddr i
  | .pfInfo i => mget 0 a.bridge.logInfo i
  | .qpCtrl k => (a.qp k).ctrlWord (a.qp k).blk.en
  | .qpStatus k =>
    let q := a.qp k
    q.blk.status + flag q.txFull 15 + flag q.txOvr 14 + flag q.txHi 13 + flag (s.txHold n k) 12 + flag q.txErr 11 + flag q.rxHold 6 + flag (0 < q.rxUnread) 5 + flag q.rxUnder 4
  | .qpCfg k j => let q := a.qp k; [q.rxBase, q.rxSize, q.txBase, q.txSize, q.rxMarks, q.txMarks].getD j 0
  | .qpPos k j => let q := a.qp k; [q.rxWr, q.rxRd, q.rxRel, q.rxMk].getD j 0
  | .txWr k => (a.qp k).txWr
  | .txTaken k => (a.qp k).txTaken
  | .txErr k => (a.qp k).txErrs
  | .capCtrl => flag a.cap.blk.en 0
  | .capStatus => a.cap.blk.status + flag (s.capActive n) 8 + flag (sub32 a.cap.wr a.cap.rd == s.cfg E.captureSlots) 1 + flag a.cap.badIdx 0
  | .capBase => s.cfg E.captureBase
  | .capSlots => s.cfg E.captureSlots
  | .capMark => s.cfg E.captureWatermark
  | .capWr => a.cap.wr
  | .capRd => a.cap.rd
  | .din => ((List.range 8).map (fun p => flag (s.pinLevel n p) p)).sum
  | .dout => a.dout
  | .pinCtrl p => let x := a.pin p; x.timer * 256 + x.slew * 64 + x.pull * 16 + x.func * 2 + flag x.blk.en 0
  | .pinStatus p => (a.pin p).blk.status
  | .pinOwn p => (a.pin p).owner * 256
  | .wdtKick | .doorbell | .complete | .rdoorbell | .setpend _ | .mbxOp | .pfclr | .rxAdv _ | .rxCmd _ | .txPush _ => 0

/-- A test-and-set read of a semaphore (R425). -/
def State.semTake (s : State) (n i who : Nat) : State :=
  match mfind (s.app n).bridge.sems i with
  | some _ => s
  | none => s.updBridge n (fun b => { b with sems := mput b.sems i (who + 1) })

/-- What reading a register does (R401, R404, R409, R425): counts clear, a claim is taken, a shadow latches or is used up, a semaphore is taken. -/
def State.regReadEffect (s : State) (n core who : Nat) (r : Reg) : State :=
  match r with
  | .eccCorr => s.updApp n (fun a => { a with eccCorr := 0 })
  | .claim => s.updIntc n 1 (fun t => t.claim.2)
  | .nowLo => s.updApp n (fun a => { a with shadows := mput a.shadows (shadowKey 0x40000020 who) (s.gptp / 2 ^ 32) })
  | .nowHi => s.updApp n (fun a => { a with shadows := mdel a.shadows (shadowKey 0x40000020 who) })
  | .ticksLo => s.updApp n (fun a => { a with shadows := mput a.shadows (shadowKey 0x40002000 who) (s.dieTicks n / 2 ^ 32 % 2 ^ 32) })
  | .ticksHi => s.updApp n (fun a => { a with shadows := mdel a.shadows (shadowKey 0x40002000 who) })
  | .retry => s.updCore n core (fun b => { b with retry := 0 })
  | .txErr k => s.updQp n k (fun q => { q with txErrs := 0 })
  | .sem i => s.semTake n i who
  | .din => { s with fresh := s.fresh + 8 }
  | _ => s

/-- A write of a semaphore (R425). -/
def State.semGive (s : State) (n i who v : Nat) : State :=
  if v == 0 && mfind (s.app n).bridge.sems i == some (who + 1) then
    s.updBridge n (fun b => { b with sems := mdel b.sems i, orphans := clearBit b.orphans i })
  else s.updBlock n .bridge (fun x => { x with conflict := true })

/-- A write of SYS_CTRL (Table 14-3): once on, the watchdog stays on. -/
def State.sysCtrlWrite (s : State) (n v : Nat) : State :=
  let b := (s.app n).sys
  if bitAt v 0 then
    if b.parErr then s.updBlock n .sys (fun x => { x with cfgIgn := true })
    else if b.en then s
    else s.updApp n (fun a => { a with sys := { a.sys with en := true }, kicked := s.clock.ticks })
  else s.when b.en (·.updBlock n .sys (fun x => { x with cfgIgn := true }))

/-- SYS_CTRL_WRITE (R404). -/
def execSysCtrlWrite (die : Nat) (value : Word) (s : State) : Result := s.onDie die (·.sysCtrlWrite die value.toNat)

/-- A write of SYS_WDT_KICK (Table 14-3). -/
def State.kick (s : State) (n v : Nat) : State :=
  if v == 0xC3A5 then s.updApp n (fun a => { a with kicked := s.clock.ticks }) else s.updApp n (fun a => { a with kickErr := true })

/-- SYS_WDT_KICK (R404). -/
def execSysWdtKick (die : Nat) (value : Word) (s : State) : Result := s.onDie die (·.kick die value.toNat)

/-- The mailbox takes a register write: while a request is being served it is ignored and sets COLL (R419). -/
def State.mbxWrite (s : State) (n : Nat) (f : Mailbox → Mailbox) : State :=
  s.updApp n (fun a => { a with mbx := if a.mbx.busy then { a.mbx with coll := true } else f a.mbx })

/-- A write of MBX_OP (R419): READ or WRITE starts a request; other operations start none. While BUSY is set it collides; else it is ignored while EN is 0. -/
def State.mbxStart (s : State) (n op : Nat) (staged : Bool) : State :=
  let m := (s.app n).mbx
  if !m.busy && !m.blk.en then s
  else s.mbxWrite n (fun m => if op == 1 || op == 2 then { m with busy := true, op := op, staged := staged } else m)

/-- MBX_READ (R419). -/
def execMbxRead (die : Nat) (staged : Bool) (s : State) : Result := s.onDie die (·.mbxStart die 1 staged)

/-- MBX_WRITE (R419). -/
def execMbxWrite (die : Nat) (staged : Bool) (s : State) : Result := s.onDie die (·.mbxStart die 2 staged)

/-- A write of CAP_RDCNT (R418). -/
def State.capRead (s : State) (n v : Nat) : State :=
  s.updApp n (fun a => if sub32 v a.cap.rd ≤ sub32 a.cap.wr a.cap.rd then { a with cap := { a.cap with rd := v } } else { a with cap := { a.cap with badIdx := true } })

/-- CAP_RDCNT_WRITE (R418). -/
def execCapRdcntWrite (die : Nat) (value : Word) (s : State) : Result := s.onDie die (·.capRead die value.toNat)

/-- A CTRL write of a block that has no Cfg field there and stops at once: INTC and CAPTURE. -/
def State.plainCtrl (s : State) (n : Nat) (b : BlockId) (v : Nat) : State := s.updBlock n b (fun x => (x.ctrl (bitAt v 0) false).1)

/-- A CTRL write of MAILBOX (R399): a request in progress makes it DISABLING. -/
def State.mbxCtrl (s : State) (n v : Nat) : State :=
  let m := (s.app n).mbx
  let r := m.blk.ctrl (bitAt v 0) (m.ie != bitAt v 1)
  s.updApp n (fun a => { a with mbx := { a.mbx with
    blk := if r.2 == .stop && m.busy then { r.1 with disabling := true } else r.1
    ie := if r.2 == .ignored then m.ie else bitAt v 1 } })

/-- Transfers of a die's bridge are still under way (R399). -/
def Bridge.working (b : Bridge) : Bool := b.cores.any (fun c => !c.2.posted.isEmpty || c.2.read.isSome || c.2.fencing)

/-- A CTRL write of BRIDGE (R399). -/
def State.bridgeCtrl (s : State) (n v : Nat) : State :=
  let b := (s.app n).bridge
  let r := b.blk.ctrl (bitAt v 0) false
  s.updBlock n .bridge (fun _ => if r.2 == .stop && b.working then { r.1 with disabling := true } else r.1)

/-- What writing a register does. `core` is the writing core of the die whose registers these are; `who` (die × 16 + core) the initiator. Writes to
read-only registers have no effect. -/
def State.regWrite (s : State) (n core who : Nat) (r : Reg) (v : Nat) : State :=
  match r with
  | .sysCtrl => s.sysCtrlWrite n v
  | .sysStatus => (s.updBlock n .sys (·.w1c v)).updApp n (fun a => { a with kickErr := a.kickErr && !bitAt v 0 })
  | .wdtTimeout => s.cfgWrite n .sys (·.updApp n (fun a => { a with wdtTimeout := v % 65536 }))
  | .wdtKick => s.kick n v
  | .intcCtrl => s.plainCtrl n .intc v
  | .intcStatus => s.updIntc n 1 (fun t => { t with blk := t.blk.w1c v, cplRej := t.cplRej && !bitAt v 1, dbRej := t.dbRej && !bitAt v 0 })
  | .doorbell => s.softDoorbell n v
  | .thresh => s.updIntc n 1 (fun t => { t with thresh := v % 16 })
  | .complete => s.updIntc n 1 (·.complete (v % 256))
  | .rdoorbell => s.remoteDoorbell n (who / 16) v
  | .lost w => s.updIntc n 1 (fun t => { t with lost := setWord32 t.lost w (word32 t.lost w - (word32 t.lost w &&& v)) })
  | .setpend w => s.setPending n w v
  | .enable w => s.updIntc n 1 (fun t => { t with enable := setWord32 t.enable w v })
  | .prio k => s.cfgWrite n .intc (·.updIntc n 1 (fun t => { t with prio := setWord32 t.prio k v }))
  | .tmrCtrl t => s.timerCtrl n t (core + 1) v
  | .tmrStatus t => s.updTimer n t (fun x => { x with blk := x.blk.w1c v, missed := x.missed && !bitAt v 1, exp := x.exp && !bitAt v 0 })
  | .tmrLoad t => s.cfgWrite n (.timer t) (·.updTimer n t (fun x => { x with load := v }))
  | .tmrOwn t => s.timerOwn n t (core + 1) (v % 4)
  | .mbxCtrl => s.mbxCtrl n v
  | .mbxStatus => s.updApp n (fun a => { a with mbx := { a.mbx with blk := a.mbx.blk.w1c v, coll := a.mbx.coll && !bitAt v 25, done := a.mbx.done && !bitAt v 9 } })
  | .mbxOp => s.mbxStart n (v % 256) (bitAt v 8)
  | .mbxIndex => s.mbxWrite n (fun m => { m with index := v % 2 ^ 24 })
  | .mbxRow => s.mbxWrite n (fun m => { m with row := v })
  | .mbxLen => s.mbxWrite n (fun m => { m with len := v % 2048 })
  | .mbxData i => s.mbxWrite n (fun m => { m with data := mset 0 m.data i v })
  | .brCtrl => s.bridgeCtrl n v
  | .brStatus => s.updBlock n .bridge (·.w1c v)
  | .pfsrc => s.updCore n core (fun b => { b with pfsrc := b.pfsrc - (b.pfsrc &&& v) })
  | .pfclr => s.updCore n core (fun b => { b with fence := 0 })
  | .semRel => s.updBridge n (fun b => { b with semRel := b.semRel - (b.semRel &&& v) })
  | .sem i => s.semGive n i who v
  | .qpCtrl k => s.qpCtrl n k v
  | .qpStatus k => s.updQp n k (fun q => { q with blk := q.blk.w1c v, txOvr := q.txOvr && !bitAt v 14, txErr := q.txErr && !bitAt v 11, rxUnder := q.rxUnder && !bitAt v 4 })
  | .qpCfg k j => s.cfgWrite n (.qp k) (·.updQp n k (fun q => match j with
    | 0 => { q with rxBase := v }
    | 1 => { q with rxSize := v % 65536 }
    | 2 => { q with txBase := v }
    | 3 => { q with txSize := v % 65536 }
    | 4 => { q with rxMarks := v }
    | _ => { q with txMarks := v }))
  | .rxAdv k => s.updQp n k (·.advance (v % 65536))
  | .rxCmd k => (match v % 4 with
    | 1 => s.updQp n k Qp.mark
    | 2 => s.qpRewind n k
    | 3 => (s.updQp n k Qp.release).qpFlow n k
    | _ => s)
  | .txPush k => s.txPush n k v
  | .capCtrl => s.plainCtrl n .cap v
  | .capStatus => s.updApp n (fun a => { a with cap := { a.cap with blk := a.cap.blk.w1c v, badIdx := a.cap.badIdx && !bitAt v 0 } })
  | .capRd => s.capRead n v
  | .dout => s.doutWrite n (core + 1) v
  | .pinCtrl p => s.pinCtrl n p (core + 1) v
  | .pinStatus p => s.updPin n p (fun x => { x with blk := x.blk.w1c v })
  | .pinOwn p => s.pinOwn n p (core + 1) (v % 4)
  | _ => s

/-- RW bits of a register (R402). -/
def Reg.rwMask : Reg → Nat
  | .sysCtrl | .intcCtrl | .brCtrl | .capCtrl => 1
  | .wdtTimeout => 0xFFFF
  | .thresh => 0xF
  | .enable _ | .prio _ | .tmrLoad _ | .mbxRow | .mbxData _ | .qpCfg _ _ | .capRd => 0xFFFFFFFF
  | .tmrCtrl _ => 7
  | .mbxCtrl => 3
  | .mbxIndex => 0xFFFFFF
  | .mbxLen => 0x7FF
  | .qpCtrl _ => 0xF
  | .dout => 0xFF
  | .pinCtrl _ => 0xFFF
  | _ => 0

/-- W1C, W1S and WO bits of a register (R402). -/
def Reg.oneMask : Reg → Nat
  | .sysStatus => 0xC0000001
  | .intcStatus => 0xC0000003
  | .mbxStatus => 0xC2000200
  | .brStatus => 0xD0000000
  | .tmrStatus _ => 0xD0000003
  | .pinStatus _ => 0xD0000000
  | .qpStatus _ => 0xC8004810
  | .capStatus => 0xC0000001
  | .wdtKick | .lost _ | .setpend _ | .pfsrc | .pfclr | .semRel | .txPush _ | .rdoorbell => 0xFFFFFFFF
  | .doorbell | .complete => 0xFF
  | .tmrOwn _ | .pinOwn _ | .rxCmd _ => 3
  | .mbxOp => 0x1FF
  | .rxAdv _ => 0xFFFF
  | _ => 0

/-- The block whose CTRL register a register is. -/
def Reg.ctrlOf : Reg → Option BlockId
  | .sysCtrl => some .sys
  | .intcCtrl => some .intc
  | .tmrCtrl t => some (.timer t)
  | .mbxCtrl => some .mbx
  | .brCtrl => some .bridge
  | .qpCtrl k => some (.qp k)
  | .capCtrl => some .cap
  | .pinCtrl p => some (.pin p)
  | _ => none

/-- A pair that does not own a timer or pin writes its CTRL (R426). -/
def State.foreign (s : State) (n owner : Nat) : BlockId → Bool
  | .timer t => ((s.app n).timer t).owner != owner
  | .pin p => ((s.app n).pin p).owner != owner
  | _ => false

/-- A Cfg bit of a CTRL register written through its alias (R398, R402): with EN at 1 a change is ignored and sets CFG_IGN, and the same value does nothing; else the bit
takes its value, and EN and a pending re-enable stay as they are. -/
def State.ctrlBit (s : State) (n core : Nat) (r : Reg) (id : BlockId) (old new : Nat) : State :=
  let blk := s.blockOf n id
  if s.foreign n (core + 1) id || !blk.en then (s.regWrite n core (n * 16 + core) r new).updBlock n id (fun x => { x with again := blk.again })
  else if new == old then s
  else s.updBlock n id (fun x => { x with cfgIgn := true })

/-- An alias write of bit `b` (R402). -/
def State.aliasWrite (s : State) (n core : Nat) (r : Reg) (b v : Nat) : State :=
  let who := n * 16 + core
  if bitAt r.rwMask b then
    let old := s.regPeek n core who r
    let new := if bitAt v 0 then setBit old b else clearBit old b
    match r.ctrlOf with
    | some id => if b == 0 then s.regWrite n core who r new else s.ctrlBit n core r id old new
    | none => s.regWrite n core who r new
  else s.when (bitAt r.oneMask b && bitAt v 0) (·.regWrite n core who r (2 ^ b))

/-- An access that fails (R397). -/
def State.accessFault (s : State) (n addr : Nat) : State := s.emit (.accessFault n 1 addr)

/-- A write to a bit-plane alias (R402). -/
def State.planeWrite (s : State) (n addr v : Nat) : State :=
  let o := addr - 0x48000000
  match (if 0x48000000 ≤ addr && addr < 0x4A000000 then regOf (0x40000000 + o % 0x100000) else none) with
  | some r => s.aliasWrite n 1 r (o / 0x100000) v
  | none => s.accessFault n addr

/-- BIT_PLANE_ALIAS_WRITE (R402). -/
def execBitPlaneAliasWrite (die addr : Nat) (value : Word) (s : State) : Result := s.onDie die (·.planeWrite die addr value.toNat)

/-- SYS_ECC_CORR_READ (R404): the count, which the read clears. -/
def execSysEccCorrRead (die : Nat) (s : State) : Result :=
  s.onDie die (fun s => (s.updApp die (fun a => { a with eccCorr := 0 })).give die 1 0x40000018 (s.app die).eccCorr)

/-- A block's work in progress has been finished (R399). -/
def State.blockIdle (s : State) (n : Nat) : BlockId → Bool
  | .mbx => !(s.app n).mbx.busy
  | .bridge => !(s.app n).bridge.working
  | _ => true

/-- BLOCK_DISABLING_END (R399): the block stops, or restarts on a pending re-enable. -/
def State.blockEnd (s : State) (n : Nat) (b : BlockId) : State :=
  match b with
  | .qp k => s.qpEnd n k
  | _ =>
    if (s.blockOf n b).disabling && s.blockIdle n b then
      s.updBlock n b (fun x => { x with disabling := false, again := false, en := x.again })
    else s

def execBlockDisablingEnd (die addr : Nat) (s : State) : Result :=
  s.onDie die (fun s => match (regOf addr).bind Reg.block with
    | some b => s.blockEnd die b
    | none => s)

/-- A configuration register fails parity (R400): the block stops as if DISABLING had ended, source 48 and fault class 0x05 follow. -/
def State.regParity (s : State) (n : Nat) (b : BlockId) : State :=
  let s1 := s.updBlock n b Block.parity
  let s2 := match b with
    | .qp k => s1.qpEmptied n k
    | .timer t => s1.updTimer n t (fun x => { x with count := s.timerCount ((s.app n).timer t) })
    | _ => s1
  (s2.raiseSource n 48).fault 5 n 1

/-- REGISTER_PARITY_MISMATCH (R400). -/
def execRegisterParityMismatch (die addr : Nat) (s : State) : Result :=
  s.onDie die (fun s => match regOf addr with
    | some r => (match r.block with
      | some b => s.when r.isCfg (·.regParity die b)
      | none => s)
    | none => s)

end Sys2Proof.Machine
end

