-- ==== Sys2Proof/Machine/Bridge.lean ====
section
/-! DEFINITION. The inter-die bridge as the application pair of a die uses it: windows, posted writes, fences, back-off, failures, semaphores (R420 to R425). -/

namespace Sys2Proof.Machine
open Sys2Proof

/-- The bridge cannot reach a die: LOST, ISOLATED or in reset (Table 14-10, cause 0x03). -/
def State.bridgeCut (s : State) (m : Nat) : Bool := !s.dieRuns m || (s.die m).state == 3

/-- An address of a far die's map: a register's, or an SRAM word's. -/
def farAddr (offset : Nat) : Nat := if offset < 0x800000 then 0x40000000 + offset else offset - 0x800000

/-- The window offset of an address in the far die's map. -/
def farOffset (addr : Nat) : Nat := if 0x40000000 ≤ addr then addr - 0x40000000 else addr + 0x800000

/-- SRAM of a far die (Table 14-1). -/
def farSram (addr : Nat) : Bool := addr < 0xC0000

/-- Registers that a window does not show (R397). -/
def Reg.hiddenRead : Reg → Bool
  | .claim | .complete | .wdtKick => true
  | _ => false
def Reg.hiddenWrite : Reg → Bool
  | .claim | .complete | .tmrOwn _ | .pinOwn _ | .wdtKick => true
  | _ => false

/-- Why an access at a far die fails, 0 where it does not (Table 14-10). -/
def State.farCause (s : State) (m addr : Nat) (write : Bool) : Nat :=
  if s.bridgeCut m then 3
  else if farSram addr then 0
  else match regOf addr with
    | none => 1
    | some r =>
      if (if write then r.hiddenWrite else r.hiddenRead) then 1
      else match r.block with
        | some b => if (s.blockOf m b).fault then 2 else 0
        | none => 0

/-- A posted write is applied at its die, or its cause of failure is found there (R420, R421). -/
def State.farWrite (s : State) (n : Nat) (t : Transfer) : State × Nat :=
  let c := s.farCause t.die t.addr true
  if c != 0 then (s, c)
  else if farSram t.addr then (s.updApp t.die (fun a => a.setWord (t.addr / 4) t.value), 0)
  else match regOf t.addr with
    | some r => (s.regWrite t.die 1 (n * 16 + 1) r t.value, 0)
    | none => (s, 1)

/-- The value and effect of a read at a far die (R420). -/
def State.farRead (s : State) (n : Nat) (t : Transfer) : State × Nat :=
  if farSram t.addr then (s, (s.app t.die).word (t.addr / 4))
  else match regOf t.addr with
    | some r => (s.regReadEffect t.die 1 (n * 16 + 1) r, s.regPeek t.die 1 (n * 16 + 1) r)
    | none => (s, 0)

/-- A transfer has neither been applied nor failed. -/
def Transfer.waiting (t : Transfer) : Bool :=
  match t.way with
  | .failed _ => false
  | _ => true

/-- Posted writes of a core apply in issue order at each die (R420). -/
def State.postedRun (s : State) (n : Nat) : State :=
  let r := (s.bridgeCore n 1).posted.foldl (fun (x : State × List Transfer) t =>
    if t.way == .go && !x.2.any (fun u => u.die == t.die && u.waiting) then
      match x.1.farWrite n t with
      | (s1, 0) => (s1, x.2)
      | (s1, c) => (s1, x.2 ++ [{ t with way := .failed c }])
    else (x.1, x.2 ++ [t])) (s, [])
  r.1.updCore n 1 (fun b => { b with posted := r.2 })

/-- A read fails (R421): a load access fault, with BRIDGE_ERRSTAT and BRIDGE_ERRADDR. -/
def State.readFail (s : State) (n : Nat) (t : Transfer) (cause : Nat) : State :=
  (s.updCore n 1 (fun b => { b with read := none, errStat := t.die * 2 ^ 28 + cause * 65536, errAddr := t.addr })).accessFault n t.addr

/-- The waiting read completes after the earlier posted writes to its die (R420); one of a far BRIDGE_FENCE, which reads the count that the far die's own pair would
read (R397), after every earlier posted write of the reading core (R423). -/
def State.readRun (s : State) (n : Nat) : State :=
  let b := s.bridgeCore n 1
  match b.read with
  | none => s
  | some t => match t.way with
    | .failed c => s.readFail n t c
    | .go =>
      if b.posted.any (fun u => u.die == t.die && u.waiting) || (t.addr == 0x40004008 && !b.posted.isEmpty) then s
      else
        let c := s.farCause t.die t.addr false
        if c != 0 then s.readFail n t c
        else
          let r := s.farRead n t
          (r.1.updCore n 1 (fun b => { b with read := none })).give n 1 t.addr r.2
    | _ => s

/-- A waiting fence returns once every posted write has been applied or has been reported (R423). -/
def State.fenceRun (s : State) (n : Nat) : State :=
  let b := s.bridgeCore n 1
  if b.fencing && b.posted.isEmpty then (s.updCore n 1 (fun b => { b with fencing := false })).give n 1 0x40004008 b.fence else s

/-- What can complete on a die's bridge completes. -/
def State.bridgeRun (s : State) (n : Nat) : State := ((s.postedRun n).readRun n).fenceRun n

/-- An access a window takes (R397, Table 14-3): aligned, to another die of the part, with BRIDGE_CTRL.EN = 1. -/
def State.windowOpen (s : State) (n w offset : Nat) : Bool :=
  (s.app n).bridge.blk.en && s.variant.hasDie w && w != n && offset % 4 == 0 && offset < 0x1000000

/-- How a transfer begins (R421, R424): the side with the higher die index backs off. -/
def startWay (n w : Nat) : BridgeWay → Way
  | .through => .go
  | .contended => if w < n then .nacked 1 else .go
  | .silent => .silent
  | .damaged => .failed 5

/-- How a transfer begins on the links as they are (R35): one that no link can carry to a die in service gets no response (cause 0x06). -/
def State.transferWay (s : State) (n w : Nat) (how : BridgeWay) : Way :=
  if s.bridgeWay n w || s.bridgeCut w then startWay n w how else .silent

/-- A back-off counts (R424). -/
def State.backOff (s : State) (n : Nat) (w : Way) : State :=
  match w with
  | .nacked _ => s.updCore n 1 (fun b => { b with retry := add32 b.retry 1 })
  | _ => s

/-- The address of a window access. -/
def windowAddr (w offset : Nat) : Nat := 0x60000000 + w * 0x1000000 + offset

/-- A window read starts (R420). -/
def State.windowRead (s : State) (n w offset : Nat) (how : BridgeWay) : State :=
  if !s.windowOpen n w offset then s.accessFault n (windowAddr w offset)
  else if (s.bridgeCore n 1).read.isSome || (s.bridgeCore n 1).fencing then s
  else
    let way := s.transferWay n w how
    ((s.backOff n way).updCore n 1 (fun b => { b with read := some ⟨w, farAddr offset, 0, 0, way⟩ })).bridgeRun n

/-- BRIDGE_WINDOW_READ (R420, R421, R424). -/
def execBridgeWindowRead (die window offset : Nat) (way : BridgeWay) (s : State) : Result := s.onDie die (·.windowRead die window offset way)

/-- A posted write is issued (R420). -/
def State.postWrite (s : State) (n w offset v : Nat) (how : BridgeWay) : State :=
  if !s.windowOpen n w offset then s.accessFault n (windowAddr w offset)
  else if (s.bridgeCore n 1).read.isSome || (s.bridgeCore n 1).fencing then s
  else
    let way := s.transferWay n w how
    ((s.backOff n way).updCore n 1 (fun b =>
      { b with lastTag := b.tags, tags := (b.tags + 1) % 4096, posted := b.posted ++ [⟨w, farAddr offset, v, b.tags, way⟩] })).bridgeRun n

/-- BRIDGE_POSTED_WRITE (R420). -/
def execBridgePostedWrite (die window offset : Nat) (value : Word) (way : BridgeWay) (s : State) : Result :=
  s.onDie die (·.postWrite die window offset value.toNat way)

/-- A read of a die's fence counter waits for the posted writes before it (R423). -/
def State.fenceRead (s : State) (n : Nat) : State := (s.updCore n 1 (fun b => { b with fencing := true })).bridgeRun n

/-- BRIDGE_FENCE (R423). -/
def execBridgeFence (die : Nat) (s : State) : Result :=
  s.onDie die (·.fenceRead die)

/-- BRIDGE_PFCLR (R423). -/
def execBridgePfclr (die : Nat) (_value : Word) (s : State) : Result := s.onDie die (·.updCore die 1 (fun b => { b with fence := 0 }))

/-- An entry of a bridge's failure log (R422, Table 14-10), with the address in the map of the die that logs (Table 14-3). -/
def State.logFailure (s : State) (m n : Nat) (t : Transfer) (cause : Nat) : State :=
  let a := if m == t.die then t.addr else windowAddr t.die (farOffset t.addr)
  s.updBridge m (fun b => { b with logAddr := mset 0 b.logAddr b.logNext a,
                                   logInfo := mset 0 b.logInfo b.logNext (n * 2 ^ 28 + 2 ^ 24 + cause * 65536 + t.tag),
                                   logNext := (b.logNext + 1) % 16 })

/-- A failed posted write is reported (R422): logged at the far bridge, or at its own for causes 0x03 to 0x06. -/
def State.reportFailure (s : State) (n : Nat) (t : Transfer) (cause : Nat) : State :=
  let s1 := (s.logFailure (if cause ≤ 2 then t.die else n) n t cause).fire n 1 70
  s1.updCore n 1 (fun b => { b with pfsrc := setBit b.pfsrc t.die, fence := min 0xFFFF (b.fence + 1) })

/-- BRIDGE_POSTED_FAIL (R422): the oldest posted write of the core that has failed. -/
def State.postedFail (s : State) (n : Nat) : State :=
  let l := (s.bridgeCore n 1).posted
  match l.findIdx? (fun t => !t.waiting) with
  | none => s
  | some i => match l[i]? with
    | some t => (match t.way with
      | .failed c => (((s.updCore n 1 (fun b => { b with posted := l.eraseIdx i })).reportFailure n t c)).bridgeRun n
      | _ => s)
    | none => s

def execBridgePostedFail (die : Nat) (s : State) : Result := s.onDie die (·.postedFail die)

/-- A NACKed transfer tries again (R424). -/
def retryWay (accepted : Bool) (way : Way) : Way → Way
  | .nacked k => if accepted then way else if 256 ≤ k + 1 then .failed 4 else .nacked (k + 1)
  | w => w

def Way.isNacked : Way → Bool
  | .nacked _ => true
  | _ => false

/-- BRIDGE_NACK_RETRY (R424): the oldest NACKed posted write, or the NACKed read. -/
def State.nackRetry (s : State) (n : Nat) (accepted : Bool) : State :=
  let b := s.bridgeCore n 1
  let s1 := if accepted then s else s.backOff n (.nacked 0)
  match b.posted.findIdx? (fun t => t.way.isNacked) with
  | some i => (s1.updCore n 1 (fun b => { b with posted := b.posted.modify i (fun t => { t with way := retryWay accepted (s.transferWay n t.die .through) t.way }) })).bridgeRun n
  | none => match b.read with
    | some t => if t.way.isNacked then (s1.updCore n 1 (fun b => { b with read := some { t with way := retryWay accepted (s.transferWay n t.die .through) t.way } })).bridgeRun n else s
    | none => s

def execBridgeNackRetry (die : Nat) (accepted : Bool) (s : State) : Result := s.onDie die (·.nackRetry die accepted)

/-- BRIDGE_RESPONSE_TIMEOUT (Table 14-10, cause 0x06). -/
def State.responseTimeout (s : State) (n : Nat) : State :=
  let b := s.bridgeCore n 1
  match b.posted.findIdx? (fun t => t.way == .silent) with
  | some i => (s.updCore n 1 (fun b => { b with posted := b.posted.modify i (fun t => { t with way := .failed 6 }) })).bridgeRun n
  | none => match b.read with
    | some t => if t.way == .silent then s.readFail n t 6 else s
    | none => s

def execBridgeResponseTimeout (die : Nat) (s : State) : Result := s.onDie die (·.responseTimeout die)

/-- A bridge has 32 semaphores (R425); a sender is a die × 16 + core. -/
def State.onSem (s : State) (n i who : Nat) (f : State → State) : Result :=
  doneIf s (s.variant.hasDie n && s.variant.hasDie (who / 16)) (s.when (s.pairsRun n && s.pairsRun (who / 16) && (who / 16 == n || s.bridgeWay (who / 16) n) && decide (i < 32)) f)

/-- BRIDGE_SEM_READ (R425). -/
def execBridgeSemRead (die sem sender : Nat) (s : State) : Result :=
  s.onSem die sem sender (fun s => (s.semTake die sem sender).give (sender / 16) (sender % 16) (0x40004080 + 4 * sem) (s.regPeek die 1 sender (.sem sem)))

/-- BRIDGE_SEM_WRITE (R425). -/
def execBridgeSemWrite (die sem sender : Nat) (value : Word) (s : State) : Result := s.onSem die sem sender (·.semGive die sem sender value.toNat)

/-- A semaphore's holder has failed (R425): its die is LOST, or its pair has been reset. -/
def State.semFailed (s : State) (n i : Nat) : Bool :=
  let b := (s.app n).bridge
  match mfind b.sems i with
  | some h => bitAt b.orphans i || s.lostDie ((h - 1) / 16)
  | none => false

/-- SEMAPHORE_FAILURE_RELEASE (R425). -/
def State.semRelease (s : State) (n i : Nat) : State :=
  if s.semFailed n i then
    (s.updBridge n (fun b => { b with sems := mdel b.sems i, orphans := clearBit b.orphans i, semRel := setBit b.semRel i })).raiseSource n 42
  else s

def execSemaphoreFailureRelease (die sem : Nat) (s : State) : Result := s.onDie die (·.semRelease die sem)

/-- A read by a core (R397, R401, R402): an SRAM word, a register with its effect of reading, one bit of a register without any effect through its alias, or a window; any
other address fails. -/
def State.loadWord (s : State) (n core addr : Nat) : State :=
  let who := n * 16 + core
  if addr % 4 != 0 then s.accessFault n addr
  else if farSram addr then s.give n core addr ((s.app n).word (addr / 4))
  else if 0x48000000 ≤ addr && addr < 0x4A000000 then
    (match regOf (0x40000000 + (addr - 0x48000000) % 0x100000) with
    | some r => s.give n core addr (flag (bitAt (s.regPeek n core who r) ((addr - 0x48000000) / 0x100000)) 0)
    | none => s.accessFault n addr)
  else if 0x60000000 ≤ addr && addr < 0x70000000 then s.when (core == 1) (·.windowRead n ((addr - 0x60000000) / 0x1000000) (addr % 0x1000000) .through)
  else match regOf addr with
    | some r => if r == .brFence && core == 1 then s.fenceRead n else (s.regReadEffect n core who r).give n core addr (s.regPeek n core who r)
    | none => s.accessFault n addr

/-- LOW_WORD_READ (R401): of a register with a high word; any other address is simply read. -/
def execLowWordRead (die addr core : Nat) (s : State) : Result := s.onDie die (·.loadWord die core addr)

/-- A pair's reset marks the semaphores it holds on every die (R425, R428). -/
def State.orphanPair (s : State) (who : Nat) : State :=
  s.forAll s.dieList (fun s m => s.updBridge m (fun b => { b with orphans := b.sems.foldl (fun o p => if p.2 == who + 1 then setBit o p.1 else o) b.orphans }))

/-- REGISTER_WRITE (R397, R398): a register of the die, an SRAM word, an alias, or a window; any other address fails. -/
def State.storeWord (s : State) (n addr v : Nat) : State :=
  if addr % 4 != 0 then s.accessFault n addr
  else if farSram addr then s.updApp n (fun a => a.setWord (addr / 4) v)
  else if 0x48000000 ≤ addr && addr < 0x4A000000 then s.planeWrite n addr v
  else if 0x60000000 ≤ addr && addr < 0x70000000 then s.postWrite n ((addr - 0x60000000) / 0x1000000) (addr % 0x1000000) v .through
  else match regOf addr with
    | some r => s.regWrite n 1 (n * 16 + 1) r v
    | none => s.accessFault n addr

def execRegisterWrite (die addr : Nat) (value : Word) (s : State) : Result := s.onDie die (·.storeWord die addr value.toNat)

/-- BRIDGE_RETRY_READ (R424): the back-off count of the application pair, cleared by the read. -/
def execBridgeRetryRead (die : Nat) (s : State) : Result :=
  s.onDie die (fun s => (s.updCore die 1 (fun b => { b with retry := 0 })).give die 1 0x4000403C (s.bridgeCore die 1).retry)

end Sys2Proof.Machine
end

