-- ==== Sys2Proof/Machine/Images.lean ====
section
/-! DEFINITION. Flash images, the slot record and the end of a trial (R430 to R434, R442, R443, R445, R447, R448). Row part × 2 + slot of the images; parts
are 0 guard, 1 runtime, 2 application, 3 defaults. -/

namespace Sys2Proof.Machine
open Sys2Proof

/-- A field of an image header (Table 15-2). -/
def imgField (b : Bytes) (off n : Nat) : Nat := leNat ((b.drop off).take n)
def imgVersion (b : Bytes) : Nat := imgField b 8 4
def imgBody (b : Bytes) : Nat := imgField b 12 4
def imgLayout (b : Bytes) : Nat := imgField b 20 2
def imgLayoutFrom (b : Bytes) : Nat := imgField b 22 2
def imgSecVersion (b : Bytes) : Nat := imgField b 64 4

/-- Header and body: what an image's measurement and signature cover (R432). -/
def imgSigned (b : Bytes) : Bytes := b.take (256 + imgBody b)
def imgMeasure (b : Bytes) : Nat := leNat (bytes256 (Config.sha256 (imgSigned b)))

/-- The variant bit of a part (Table 15-2). -/
def Variant.bit : Variant → Nat
  | .az8102 => 0
  | .az8104 => 1
  | .az8108 => 2

/-- The largest body of a part's image (Table 15-2). -/
def bodyLimit (part : Nat) : Nat := if part == 0 then 521364 else if part == 3 then 258048 else 786432
/-- The size of a part's slot (Table 15-1). -/
def slotSize (part : Nat) : Nat := if part == 0 then 524288 else if part == 3 then 262144 else 1048576

/-- The offset of a slot in flash (Table 15-1), by row. -/
def slotOffset (row : Nat) : Nat := [0x10000, 0x90000, 0x110000, 0x210000, 0x310000, 0x410000, 0x510000, 0x550000].getD row 0

/-- The delta area of the flash (Table 15-1): its offset and size. A delta fills at most 1 MiB of it (R450). -/
def deltaOffset : Nat := 0x590000
def deltaArea : Nat := 0x110000

/-- The region of Table 15-1 that holds a flash offset: a slot's row, or 8 for the delta area. The device never reads or writes any other offset (R430). -/
def flashRegion (a : Nat) : Option Nat :=
  if deltaOffset ≤ a && a < deltaOffset + deltaArea then some 8
  else (List.range 8).find? (fun r => slotOffset r ≤ a && a < slotOffset r + slotSize (r / 2))

def State.image (s : State) (row : Nat) : Bytes := mget [] s.update.images row
def State.activeSlot (s : State) (part : Nat) : Nat := mget 0 s.update.active part
def State.activeRow (s : State) (part : Nat) : Nat := 2 * part + s.activeSlot part
def State.spareRow (s : State) (part : Nat) : Nat := 2 * part + (1 - s.activeSlot part)
def State.floor (s : State) (part : Nat) : Nat := mget 0 s.update.floors part

/-- A write of a record brings its three MRAM copies to its content (R431, Table 3-14); record 4 is the OEM key's (R450). -/
def Update.rewritten (u : Update) (k : Nat) : Update := { u with badCopies := u.badCopies.filter (· / 3 != k) }

/-- Every copy of a record is damaged: Table 3-14 leaves it empty. -/
def Update.recordLost (u : Update) (k : Nat) : Bool := [0, 1, 2].all (fun c => u.badCopies.contains (3 * k + c))

/-- A part whose slot record is gone is in trial no more (R431, R441). -/
def Update.trialGone (u : Update) (part : Nat) : Update :=
  if u.trial == some part then { u with trial := none, window := false, migrated := false, delta := [], state := 0, part := 0xFF } else u

/-- The empty slot record of a part: slot A active, no trial, floor 0, no measurement. -/
def Update.emptied (u : Update) (part : Nat) : Update :=
  { u with active := mdel u.active part, slotState := mdel (mdel u.slotState (2 * part)) (2 * part + 1), meas := mdel (mdel u.meas (2 * part)) (2 * part + 1)
           floors := mdel u.floors part }.trialGone part

/-- The slot records and the OEM key as a start resolves them (R431, R450, Table 3-14): an intact copy gives the content, and all three are rewritten. -/
def Update.resolved (u : Update) : Update :=
  let u1 := ([0, 1, 2, 3].filter u.recordLost).foldl Update.emptied u
  { u1 with oemKey := if u.recordLost 4 then 0 else u.oemKey, badCopies := [] }

/-- The row a start loads a part from: the trial slot during its trial (R443). -/
def State.chosenRow (s : State) (part : Nat) : Nat := if s.update.trial == some part then s.spareRow part else s.activeRow part

/-- An image's version lies in what another requires of its part (R448). -/
def requiresOk (a : Bytes) (q : Nat) (b : Bytes) : Bool :=
  imgField a (32 + 8 * q) 4 ≤ imgVersion b && imgVersion b ≤ imgField a (36 + 8 * q) 4

/-- An image is compatible with the images of the other parts (R448); an absent part asks for nothing. -/
def State.compatible (s : State) (part : Nat) (b : Bytes) (rowOf : Nat → Nat) : Bool :=
  [0, 1, 2, 3].all (fun q => q == part || (s.image (rowOf q)).isEmpty ||
    (requiresOk b q (s.image (rowOf q)) && requiresOk (s.image (rowOf q)) part b))

/-- The slot that a part runs from (`0x1010:06`): the trial slot once it is loaded. -/
def State.slotInUse (s : State) (part : Nat) : Nat :=
  match s.update.loaded.find? (· / 2 == part) with
  | some r => r % 2
  | none => s.activeSlot part

/-- The header of a part's image is in order (R432). -/
def State.headerOk (s : State) (part : Nat) (b : Bytes) : Bool :=
  imgField b 0 4 == 0x474D495A && imgField b 4 2 == 1 && imgField b 6 1 == part && imgField b 7 1 == (if part < 2 then 0 else 1) && imgBody b ≤ bodyLimit part &&
  bitAt (imgField b 68 1) s.variant.bit

/-- An image passes the checks of its own (R432, R433, R434): header, signature and security version. -/
def State.sound (s : State) (part row : Nat) : Bool :=
  let b := s.image row
  let key := if part < 2 then Config.gilonKey else toLE 56 s.update.oemKey
  !b.isEmpty && s.headerOk part b && s.floor part ≤ imgSecVersion b && (part < 2 || s.update.oemKey != 0) &&
  Config.lmsVerify key (imgSigned b) ((b.drop (256 + imgBody b)).take 2668)

/-- The row of the image that stands for a part in the compatibility rule of a start (R447): the one loaded, else the one chosen if it passes the checks of its
own. Row 8 holds no image: such a part is absent so far, and its other slot meets the rule when it is loaded. -/
def State.partRow (s : State) (part : Nat) : Nat :=
  match s.update.loaded.find? (· / 2 == part) with
  | some r => r
  | none => if s.sound part (s.chosenRow part) then s.chosenRow part else 8

/-- An image verifies (R447): the checks of its own, and the compatibility rule among the images chosen. -/
def State.verifies (s : State) (part row : Nat) : Bool := s.sound part row && s.compatible part (s.image row) s.partRow

/-- An UPDATE record (Tables 11-2, 15-9): event, status, version of the active slot and of the other. -/
def State.updateRecord (s : State) (event status part old new : Nat) : State :=
  s.evidence 0 0x18 part ([BitVec.ofNat 8 event, 0] ++ toLE 2 status ++ toLE 4 old ++ toLE 4 new)

/-- Each change of the update state raises source 67 (R439). -/
def State.updateTo (s : State) (state part : Nat) : State :=
  let s1 := { s with update := { s.update with state := state, part := part } }
  if s.update.state == state then s1 else s1.doorbell 67

/-- The other store bank becomes active (R446). -/
def State.swapBank (s : State) : State := s.set E.storeActiveBank (1 - s.st E.storeActiveBank)

/-- A trial ends without confirmation (R445): its slot is invalid, the delta is discarded, the old bank is active again (R446), and the state is IDLE. -/
def State.trialEnded (s : State) (part status : Nat) : State :=
  let s0 := s.when s.update.migrated State.swapBank
  let s1 := { s0 with update := { s0.update with trial := none, window := false, migrated := false, delta := [],
                                                 slotState := mput s0.update.slotState (s0.spareRow part) 6 }.rewritten part }
  ((s1.updateTo 0 0xFF).set E.updateStatus status).updateRecord 5 status part (imgVersion (s.image (s.activeRow part))) (imgVersion (s.image (s.spareRow part)))

end Sys2Proof.Machine
end

