-- ==== Sys2Proof/Machine/AppPair.lean ====
section
/-! DEFINITION. Starting, resetting and restarting an application pair (R396, R426 to R428). -/

namespace Sys2Proof.Machine
open Sys2Proof

/-- `app.state` of a die (Table 14-11). -/
def State.setAppState (s : State) (n v : Nat) : State := s.setDie E.appState n v

/-- The pair starts (APP_PAIR_START, R396): the cause of its last reset stands in SYS_RESETCAUSE. The window of an application trial starts when
every pair has started (R443). -/
def State.appStart (s : State) (n : Nat) : State :=
  let s1 := ((s.updApp n (fun a => { a with running := true, reloading := false, delayArmed := false })).setAppState n 1).dropCause n 7
  s1.when (s1.update.trial == some 2 && !s1.update.window && (s1.dieList.filter s1.dieRuns).all (fun m => (s1.app m).running)) (fun s =>
    { s with update := { s.update with window := true, windowFrom := s.clock.ticks } })

/-- The mailbox request of a pair that is reset fails with 0x0D (R428). -/
def Mailbox.fail (m : Mailbox) : Mailbox := if m.busy then { m with busy := false, done := true, result := 0x0D } else m

/-- A QP that its pair's reset releases (R417, R428): disabled, its items discarded. -/
def Qp.reset (q : Qp) : Qp := { q.cleared with blk := { q.blk with en := false, disabling := false, again := false } }

/-- The pair is reset (APP_PAIR_RESET, R428): claims, QPs and semaphores are released, its mailbox request fails, its staging is discarded (R72), SYS returns to its reset values. -/
def State.appHalt (s : State) (n cause : Nat) : State :=
  let s1 := ((s.releaseStaging (5 + (n - 1))).forAll ((s.app n).qps.map (·.1)) (fun s k => s.txFalls n k)).updApp n (fun a => { (a.releaseClaims 2 s.clock.ticks) with
    running := false, reloading := false, delayArmed := false, sys := {}, kickErr := false, wdtTimeout := 1000, resetCause := cause,
    qps := a.qps.map (fun q => (q.1, q.2.reset)), mbx := a.mbx.fail })
  ((s1.updCore n 1 (fun b => { b with read := none, fencing := false })).orphanPair (n * 16 + 1)).setDie E.appLastResetCause n cause

/-- Every pair is reset and loaded anew at once (R443, R445). -/
def State.appReloadAll (s : State) : State :=
  s.forAll (s.dieList.filter s.dieRuns) (fun s n => s.when (s.cfgOn E.appEnable) (fun s =>
    ((s.appHalt n 4).updApp n (fun a => { a with reloading := true })).setAppState n 2))

/-- A trial falls back (R445); an application trial by loading every pair from the old slot, any other by a restart that its caller makes. -/
def State.fallBack (s : State) (part status : Nat) : State := (s.trialEnded part status).when (part == 2) State.appReloadAll

/-- The pair is reset and its restart delay begins (R428); during an application trial the trial falls back instead (R445). -/
def State.appReset (s : State) (n cause : Nat) : State :=
  let s1 := ((s.appHalt n cause).updApp n (fun a => { a with delayArmed := true })).setAppState n 2
  s1.when (s1.update.trial == some 2) (·.fallBack 2 0x4F)

/-- APP_WATCHDOG_EXPIRY (R428). -/
def execAppWatchdogExpiry (die : Nat) (s : State) : Result :=
  s.onDie die (fun s => s.when ((s.app die).running && (s.app die).sys.en) (fun s => (s.countDie E.appCntWatchdog die).appReset die 3))

/-- Restarts of the last 600 s. -/
def State.recentRestarts (s : State) (n : Nat) : List Nat := (s.app n).restarts.filter (fun t => s.clock.ticks - t < 24000000000)

/-- The restart delay has passed (R428): D0 reloads the image, or holds the pair after its limit. -/
def State.restartDelayEnd (s : State) (n : Nat) : State :=
  let l := s.recentRestarts n
  if !(s.app n).delayArmed then s
  else if s.cfg E.appRestartLimit < l.length + 1 then (s.updApp n (fun a => { a with delayArmed := false, restarts := l })).setAppState n 3
  else (s.updApp n (fun a => { a with delayArmed := false, reloading := true, restarts := s.clock.ticks :: l })).countDie E.appRestarts n

/-- APP_RESTART_DELAY_EXPIRY (R428). -/
def execAppRestartDelayExpiry (die : Nat) (s : State) : Result := s.onDie die (·.restartDelayEnd die)

/-- `power.vselPin` changes (R377): D0 gives up the pin it had and claims the new one where nobody owns it. -/
def State.claimVsel (s : State) : State :=
  let s1 := s.forAll (List.range 8) (fun s p => s.when (((s.app 1).pin p).owner == 3) (·.updPin 1 p (fun _ => {})))
  let p := s1.cfg E.powerVselPin
  s1.when (p < 8 && ((s1.app 1).pin p).owner == 0) (·.updPin 1 p (fun x => { x with owner := 3, func := 4, blk := { x.blk with en := true } }))

/-- An image is loaded for a part; the measurement that its check needed stands in the slot record (R431). -/
def State.addLoaded (s : State) (row : Nat) : State :=
  { s with update := { s.update with loaded := s.update.loaded.filter (· / 2 != row / 2) ++ [row], meas := mput s.update.meas row (imgMeasure (s.image row)) } }

/-- The application image in a slot is loaded, and the pair starts (R372, R396). -/
def State.appRuns (s : State) (n row : Nat) : State := ((s.addLoaded row).set E.versionApplication (imgVersion (s.image row))).appStart n

/-- The reloaded image has been checked (R33, R447): a trial image that fails falls back, a confirmed one gives way to the other slot, and without
either the pair has no image. -/
def State.appLoaded (s : State) (n : Nat) : State :=
  if s.verifies 2 (s.chosenRow 2) then s.appRuns n (s.chosenRow 2)
  else if s.update.trial == some 2 then s.fallBack 2 0x4D
  else if s.verifies 2 (s.spareRow 2) then
    ({ s with update := { s.update with active := mset 0 s.update.active 2 (1 - s.activeSlot 2), slotState := mset 0 s.update.slotState (s.activeRow 2) 6 }.rewritten 2 }.updateRecord 8 0x4D 2
      (imgVersion (s.image (s.activeRow 2))) (imgVersion (s.image (s.spareRow 2)))).appRuns n (s.spareRow 2)
  else
    let s1 := { s with update := { s.update with loaded := s.update.loaded.filter (· / 2 != 2) } }
    ((s1.updApp n (fun a => { a with reloading := false })).setAppState n 0).set E.versionApplication 0

/-- APP_IMAGE_RELOADED (R428): the image has been verified and the pair starts again. -/
def execAppImageReloaded (die : Nat) (s : State) : Result :=
  s.onDie die (fun s => s.when ((s.app die).reloading && s.cfgOn E.appEnable) (·.appLoaded die))

/-- A write of `app.restart` (R428): a held pair's count of restarts begins anew. -/
def State.appRestart (s : State) (n : Nat) : State :=
  (s.when (s.stDie E.appState n == 3) (·.updApp n (fun a => { a with restarts := [] }))).appReset n 4

/-- `app.enable` has changed (R428): while it is false no pair runs an image. -/
def State.appEnableChanged (s : State) : State :=
  s.forAll (s.dieList.filter s.dieRuns) (fun s n =>
    if s.cfgOn E.appEnable then s.when (s.stDie E.appState n == 4) (·.appReset n 4)
    else s.when (s.stDie E.appState n != 4) (fun s => ((s.appHalt n 4).updApp n (fun a => { a with delayArmed := false })).setAppState n 4))

end Sys2Proof.Machine
end

