-- ==== Sys2Proof/Machine/Sumac.lean ====
section
/-! DEFINITION. Sumac: the placement of the committed configuration (R216, R266 to R272), and applying one (R273, R280 to R282). -/

namespace Sys2Proof.Machine
open Sys2Proof

/-- A die's state allows paths (Table 9-3). -/
def State.pathsOk (s : State) (n : Nat) : Bool := s.variant.hasDie n && 1 ≤ (s.die n).state && (s.die n).state ≤ 3

/-- The die a link end reaches while its link is up. -/
def State.upLink (s : State) (n e : Nat) : Option Nat :=
  match s.variant.partner n e with
  | none => none
  | some (m, f) => if (s.link n e).failed || (s.link m f).failed || !s.pathsOk n || !s.pathsOk m then none else some m

/-- Dies one hop away, over links that are up or over every link of Table 1-4. -/
def State.neighbours (s : State) (up : Bool) (n : Nat) : List Nat :=
  [0, 1, 2, 3].filterMap (fun e => if up then s.upLink n e else (s.variant.partner n e).map (·.1))

/-- Dies in rings of growing distance, the lowest number first in each ring. -/
def State.rings (s : State) (up : Bool) : Nat → List Nat → List Nat → List Nat
  | 0, _, _ => []
  | k + 1, seen, front =>
    let ring := s.dieList.filter (fun m => front.contains m && !seen.contains m)
    ring ++ s.rings up k (seen ++ ring) (ring.flatMap (s.neighbours up))

/-- The healthy dies in the order in which they follow a first choice (R267). -/
def State.order (s : State) (first : Nat) : List Nat :=
  let near := s.rings true 8 [] [first]
  (near ++ (s.rings false 8 [] [first]).filter (fun n => !near.contains n)).filter s.healthy

/-- A walk over the fabric: per hop the die reached and the link end left. -/
abbrev Walk := List (Nat × Nat)

/-- The walks of at most a number of hops to die `b` that visit no die twice. -/
def State.walks (s : State) (b : Nat) : Nat → Nat → List Nat → List Walk
  | 0, _, _ => []
  | k + 1, a, seen => [0, 1, 2, 3].flatMap (fun e => match s.upLink a e with
    | none => []
    | some m => if m == b then [[(m, e)]] else if seen.contains m then [] else (s.walks b k m (m :: seen)).map ((m, e) :: ·))

/-- The sequence of link ends as a number, for walks of one length. -/
def walkKey (w : Walk) : Nat := w.foldl (fun k h => 4 * k + h.2) 0

/-- The fewest hops, then the greatest sequence of link ends (R268). -/
def bestWalk : List Walk → Option Walk
  | [] => none
  | w :: ws => some (ws.foldl (fun a b => if b.length < a.length || (b.length == a.length && walkKey a < walkKey b) then b else a) w)

/-- The R268 encoding. -/
def encodeWalk (w : Walk) : Nat :=
  w.length * 2 ^ 24 + ((List.range 3).map (fun i => match w[i]? with
    | some h => (h.1 * 16 + h.2) * 2 ^ (16 - 8 * i)
    | none => 0)).sum

/-- One number for both ends of a link. -/
def State.linkId (s : State) (n e : Nat) : Nat :=
  match s.variant.partner n e with
  | some (m, f) => min (linkKey n e) (linkKey m f)
  | none => linkKey n e

/-- The links of a walk, and its intermediate dies. -/
def State.walkLinks (s : State) : Nat → Walk → List Nat
  | _, [] => []
  | a, h :: w => s.linkId a h.2 :: s.walkLinks h.1 w
def walkDies (w : Walk) : List Nat := w.dropLast.map (·.1)

/-- Primary and alternate path of a pair (R268). -/
def State.pairPaths (s : State) (a b : Nat) : Nat × Nat :=
  let all := s.walks b 3 a [a]
  match bestWalk all with
  | none => (0, 0)
  | some p =>
    let free := all.filter (fun w => !(s.walkLinks a w).any (s.walkLinks a p).contains && !(walkDies w).any (walkDies p).contains)
    (encodeWalk p, match bestWalk free with
      | some w => encodeWalk w
      | none => 0)

/-- Step 1 of Table 9-1. -/
def State.placePaths (s : State) : NMap (Nat × Nat) :=
  (s.dieList.flatMap (fun a => s.dieList.map (fun b => (a, b)))).foldl (fun m x =>
    if x.1 == x.2 || !s.pathsOk x.1 || !s.pathsOk x.2 then m else mput m ((x.1 - 1) * 8 + (x.2 - 1)) (s.pairPaths x.1 x.2)) []

/-- The slots of the part. -/
def State.slotList (s : State) : List Nat := (List.range (32 * s.variant.nc)).filter s.variant.hasSlot

/-- A port counts for a realm (R266). -/
def State.slotIn (s : State) (realm slot : Nat) : Bool :=
  s.cfg (E.portCanRealm + slot * 256) == realm ||
  (isEth slot && (List.range 16).any (fun i =>
    let w := s.cfg (E.portEthVlanRealmMap + i + slot * 256)
    bitAt w 31 && w % 256 == realm))

/-- The external ports of a realm, each with its die (R266). -/
def State.realmPorts (s : State) (realm : Nat) : List (Nat × Nat) := (s.slotList.filter (s.slotIn realm)).map (fun p => (slotDie p, p))

/-- Decapsulating tunnel rows of a realm. -/
def State.decapRows (s : State) (realm : Nat) : List Nat :=
  (s.validRows E.tunnelValid).filter (fun t => bitAt (s.cfgRow E.tunnelDirection t) 1 && s.cfgRow E.tunnelRealm t == realm)

/-- The ports a decapsulating row counts as (R266). -/
def State.decapPorts (s : State) (realm : Nat) : List (Nat × Nat) :=
  (s.decapRows realm).flatMap (fun t =>
    if s.cfgRow E.tunnelRxSlot t == 0xFFFF then s.dieList.map (fun n => (n, 0x400 + t)) else [(slotDie (s.cfgRow E.tunnelRxSlot t), 0x400 + t)])

/-- The source ports of a route row with their dies (R266). -/
def State.sources (s : State) (r : Route) : List (Nat × Nat) :=
  if r.scope != 0xFFFF then [(codeDie r.scope, r.scope)] else s.realmPorts r.realm ++ s.decapPorts r.realm

/-- The dies of a list of sources, each once, in rising order. -/
def State.diesOf (s : State) (l : List (Nat × Nat)) : List Nat := s.dieList.filter (fun n => l.any (fun x => x.1 == n))

/-- The die that occurs most often, ties lowest number; none for an empty list. -/
def State.mostOf (s : State) (l : List Nat) : Option Nat :=
  s.dieList.foldl (fun best n => if !l.contains n then best else match best with
    | none => some n
    | some m => if l.count m < l.count n then some n else best) none

/-- The lowest-numbered healthy die, 0 for none. -/
def State.firstHealthy (s : State) : Nat := ((s.dieList.filter s.healthy).head?).getD 0

/-- The valid route rows, ascending, IPv4 and native rows first; IPv6 row r is 65,536 + r. -/
def State.routeList (s : State) : List (Nat × Route) :=
  (s.validRows E.routeValid ++ (s.validRows E.route6Valid).map (0x10000 + ·)).map (fun r => (r, s.route r))

/-- Index and row of a route in the object dictionary. -/
def routePlace (r : Nat) : Nat × Nat := if r < 0x10000 then (0x2400, r) else if r < aniseRoute then (0x2401, r - 0x10000) else (0x1110, noRow)

/-- The members a route delivers to. -/
def State.routeMembers (s : State) (r : Route) : List Nat := if r.dest == 0xFFFE || r.dest == 0xFFFF then [] else (s.batchOf r.dest).2

/-- A placement in the making: policers per die, rows and assembly bytes per engine (die × 8 + engine), and the first failing item. -/
structure Placing where
  pl : Placement := {}
  load : NMap Nat := []
  engines : NMap (Nat × Nat) := []
  fail : Option (Nat × Nat × Nat) := none
  deriving DecidableEq, Repr

/-- An item finds no room: a commit fails with this cause; a recomputation leaves it unplaced (R272, R282). -/
def Placing.miss (p : Placing) (cause index row : Nat) : Placing :=
  { p with fail := p.fail.orElse (fun _ => some (cause, index, row)), pl := { p.pl with unplaced := p.pl.unplaced + 1, missed := p.pl.missed ++ [(index, row)] } }

/-- Report an item in 0x2703: die, unit and state. -/
def Placing.report (p : Placing) (index row die unit state : Nat) : Placing :=
  { p with pl := { p.pl with placed := p.pl.placed ++ [(index, row, die, unit, state)] } }

/-- The pin of an item, 0 for none (R270). -/
def State.pin (s : State) (index row : Nat) : Nat :=
  match (s.validRows E.pinValid).find? (fun r => s.cfgRow E.pinIndex r == index && s.cfgRow E.pinRow r == row) with
  | some r => s.cfgRow E.pinDie r
  | none => 0

/-- The dies an item may go to, in order, and its state of 0x2703 (R267, R270). -/
def State.hosts (s : State) (pin first : Nat) : List Nat × Nat :=
  if pin != 0 && s.healthy pin then ([pin], 1) else (s.order first, if pin == 0 then 0 else 2)

/-- Step 2: one policer. -/
def State.placePolicer (s : State) (routes : List (Nat × Route)) (p : Placing) (row : Nat) : Placing :=
  let src := ((routes.filter (fun r => r.2.policer == row)).flatMap (fun r => s.sources r.2)).eraseDups
  let ext := (src.filter (fun x => !(0x100 ≤ x.2 && x.2 < 0x200))).map (·.1)
  let first := ((s.mostOf ext).orElse (fun _ => s.mostOf (src.map (·.1)))).getD s.firstHealthy
  let h := s.hosts (s.pin 0x2510 row) first
  match h.1.find? (fun n => mget 0 p.load n < 4096) with
  | some n => { p with load := mput p.load n (mget 0 p.load n + 1), pl := { p.pl with policers := mput p.pl.policers row n } }.report 0x2510 row n 0xFF h.2
  | none => (p.miss (if h.2 == 1 then 7 else 3) 0x2510 row).report 0x2510 row 0 0xFF 3

/-- Step 3: the replication point of one ATOMIC group whose members lie on more than one die. Routes need no record: a frame replicates where it has been policed, or on its ingress
die (stages 5 to 7). -/
def State.placeGroup (s : State) (p : Placing) (g : Nat) : Placing :=
  let dies := (s.groupMembers g).map s.egressDie
  let h := s.hosts (s.pin 0x2420 g) ((s.mostOf dies).getD s.firstHealthy)
  if dies.eraseDups.length ≤ 1 then p
  else match h.1 with
  | n :: _ => { p with pl := { p.pl with replication := mput p.pl.replication g n } }.report 0x2420 g n 0xFF h.2
  | [] => (p.miss 7 0x2420 g).report 0x2420 g 0 0xFF 3

/-- An engine has room for a row (R245). -/
def Placing.engineRoom (p : Placing) (n e need : Nat) : Bool :=
  let x := mget (0, 0) p.engines (n * 8 + e)
  x.1 < 16 && x.2 + need ≤ 32768

/-- Step 4: one tunnel row. -/
def State.placeTunnel (s : State) (routes : List (Nat × Route)) (p : Placing) (t : Nat) : Placing :=
  let encap := bitAt (s.cfgRow E.tunnelDirection t) 0
  let need := if encap then s.cfgRow E.tunnelMtu t else 0
  let src := s.diesOf ((routes.filter (fun r => (s.routeMembers r.2).contains (0x400 + t))).flatMap (fun r => s.sources r.2))
  let first := if encap then (match src with
      | [n] => n
      | _ => slotDie (s.cfgRow E.tunnelEgressSlot t))
    else if s.cfgRow E.tunnelRxSlot t == 0xFFFF then s.firstHealthy else slotDie (s.cfgRow E.tunnelRxSlot t)
  let h := s.hosts (s.cfgRow E.tunnelPinDie t) first
  match h.1.findSome? (fun n => ((List.range 8).find? (fun e => p.engineRoom n e need)).map (fun e => (n, e))) with
  | some (n, e) =>
    let x := mget (0, 0) p.engines (n * 8 + e)
    { p with engines := mput p.engines (n * 8 + e) (x.1 + 1, x.2 + need), pl := { p.pl with tunnels := mput p.pl.tunnels t (n, e) } }.report 0x2600 t n e h.2
  | none => (p.miss (if h.2 == 1 then 7 else 4) 0x2600 t).report 0x2600 t 0 0xFF 3

/-- The die that makes the copies for a member: the tunnel row's host, or the member's die; 0 for none. -/
def Placement.host (pl : Placement) (code : Nat) : Nat :=
  if 0x400 ≤ code && code < 0x800 then ((mfind pl.tunnels (code - 0x400)).map (·.1)).getD 0 else codeDie code

/-- The dies on which a flow begins, each with the die that its carrying frames enter at: a port's die, or the engine's die of a decapsulating row. -/
def State.flowStarts (s : State) (pl : Placement) (r : Route) : List (Nat × Nat) :=
  ((s.sources r).map (fun x => (x.1, if 0x400 ≤ x.2 && x.2 < 0x800 then pl.host x.2 else x.1))).eraseDups.filter (fun x => x.2 != 0)

/-- The pairs of dies that a flow crosses in order (R267): entry, source, policer, replication point, tunnel row, destination. -/
def State.flowPairs (s : State) (pl : Placement) (r : Route) : List (Nat × Nat) :=
  (s.flowStarts pl r).flatMap (fun x =>
    let a1 := (mfind pl.policers r.policer).getD x.2
    let b := s.batchOf r.dest
    let a2 := if b.1 == 0 then a1 else (mfind pl.replication (b.1 - 1)).getD ((((b.2.map s.egressDie).eraseDups).head?).getD a1)
    [x, (x.2, a1), (a1, a2)] ++ (s.routeMembers r).flatMap (fun m => [(a2, pl.host m), (pl.host m, s.egressDie m)]))

/-- A pair of dies that both allow paths has none (R267). What a LOST die held has left service (R277), so it holds no stage of a flow (log 84). -/
def State.noPath (s : State) (pl : Placement) (x : Nat × Nat) : Bool :=
  x.1 != x.2 && s.pathsOk x.1 && s.pathsOk x.2 && ((mfind pl.paths ((x.1 - 1) * 8 + (x.2 - 1))).getD (0, 0)).1 == 0

/-- The check after step 4 (R267): a commit fails with cause 0x0A at the first route row whose flow lacks a path. -/
def State.checkFlows (s : State) (routes : List (Nat × Route)) (p : Placing) : Placing :=
  match routes.find? (fun r => (s.flowPairs p.pl r.2).any (s.noPath p.pl)) with
  | some r => { p with fail := p.fail.orElse (fun _ => some (0x0A, (routePlace r.1).1, (routePlace r.1).2)) }
  | none => p

/-- The route a reservation names. -/
def State.resvRoute (s : State) (row : Nat) : Nat := s.cfgRow E.rsvRouteRow row + (if s.cfgRow E.rsvRouteIndex row == 0x2401 then 0x10000 else 0)

/-- The dies that store the copies of a reserved flow (R218, Table 9-1). -/
def State.resvDies (s : State) (pl : Placement) (row : Nat) : List Nat :=
  let r := s.route (s.resvRoute row)
  let b := s.batchOf (s.cfgRow E.rsvDest row)
  let points := ([b, s.batchOf r.dest].filter (·.1 != 0)).flatMap (fun x => (mfind pl.replication (x.1 - 1)).toList)
  let l := s.diesOf (s.sources r) ++ (s.flowStarts pl r).map (·.2) ++ ((mfind pl.policers r.policer).toList) ++ points ++
    b.2.flatMap (fun m => [pl.host m, s.egressDie m])
  s.dieList.filter l.contains

/-- Step 5: one flow reservation. -/
def State.placeResv (s : State) (p : Placing) (row : Nat) : Placing :=
  let clash := (s.validRows E.rsvValid).any (fun x => x < row && s.resvRoute x == s.resvRoute row && s.cfgRow E.rsvDest x == s.cfgRow E.rsvDest row)
  if clash then (p.miss 6 0x2520 row).report 0x2520 row 0 0xFF 3
  else
    let l := s.resvDies p.pl row
    { p with pl := { p.pl with resv := mput p.pl.resv row l } }.report 0x2520 row (l.headD 0) 0xFF 0

/-- Step 5: the ATOMIC credits of one group, reported on the lowest member die. -/
def State.placeCredits (s : State) (p : Placing) (g : Nat) : Placing :=
  let l := (s.groupMembers g).map p.pl.host
  p.report 0x2528 g (((s.dieList.filter l.contains).head?).getD 0) 0xFF 0

/-- The bucket of a route in a bank (R191). -/
def Route.bucket (r : Route) : Nat := bankBucket (bankHash r.realm r.kind r.len r.value)

/-- A port's bank has room for a route (R193). -/
def State.bankRoom (s : State) (pl : Placement) (code : Nat) (r : Route) : Bool :=
  ((mget [] pl.banks code).filter (fun x => (s.route x).bucket == r.bucket)).length < 4

/-- Entries a slice's memory holds (R194, R195), and its room for one row. -/
def tcamSize (l : List Nat) : Nat := (l.map (fun r => if 0x10000 ≤ r && r < aniseRoute then 3 else 1)).sum
def Placement.tcamRoom (pl : Placement) (k r : Nat) : Bool := tcamSize (mget [] pl.tcams k ++ [r]) ≤ 4096

def Placement.addTcam (pl : Placement) (r : Nat) (k : Nat) : Placement := { pl with tcams := mput pl.tcams k (mget [] pl.tcams k ++ [r]) }
def Placement.addBank (pl : Placement) (r : Nat) (code : Nat) : Placement := { pl with banks := mput pl.banks code (mget [] pl.banks code ++ [r]) }

/-- The ports of a slice, its internal port included (Table 6-6). -/
def State.slicePorts (s : State) (k : Nat) : List Nat :=
  (s.slotList.filter (fun p => 2 * (slotDie p - 1) + codeSlice p == k)) ++ [0x100 + k]

/-- A scoped row with the same key stands for a port (R196). -/
def State.scopedTwin (routes : List (Nat × Route)) (code : Nat) (r : Route) : Bool :=
  routes.any (fun x => x.2.scope == code && x.2.realm == r.realm && x.2.kind == r.kind && x.2.len == r.len && x.2.value == r.value)

/-- Step 6: one route row (R269). -/
def State.placeRoute (s : State) (routes : List (Nat × Route)) (p : Placing) (x : Nat × Route) : Placing :=
  let r := x.2
  let refused := p.miss 1 (routePlace x.1).1 (routePlace x.1).2
  let hosts := (s.decapRows r.realm).filterMap (fun t => (mfind p.pl.tunnels t).map (·.1))
  if r.kind == 14 then
    let ks := ((s.diesOf (s.sources r)).filter s.pathsOk).flatMap (fun n => [2 * (n - 1), 2 * (n - 1) + 1])
    if ks.all (fun k => p.pl.tcamRoom k x.1) then { p with pl := ks.foldl (fun pl k => pl.addTcam x.1 k) p.pl } else refused
  else if r.scope != 0xFFFF then
    let k := 2 * (codeDie r.scope - 1) + codeSlice r.scope
    if !s.pathsOk (codeDie r.scope) then p
    else if s.bankRoom p.pl r.scope r then { p with pl := p.pl.addBank x.1 r.scope }
    else if p.pl.tcamRoom k x.1 then { p with pl := p.pl.addTcam x.1 k } else refused
  else
    let ks := ((s.dieList.filter (fun n => (s.realmPorts r.realm).any (fun y => y.1 == n) || hosts.contains n)).filter s.pathsOk).flatMap (fun n => [2 * (n - 1), 2 * (n - 1) + 1])
    let free := ks.filter (fun k => p.pl.tcamRoom k x.1)
    let ports := (ks.filter (fun k => !p.pl.tcamRoom k x.1)).flatMap s.slicePorts
    if ports.all (fun c => s.bankRoom p.pl c r && !State.scopedTwin routes c r) then
      { p with pl := ports.foldl (fun pl c => pl.addBank x.1 c) (free.foldl (fun pl k => pl.addTcam x.1 k) p.pl) }
    else refused

/-- The implicit Anise route (R79): one entry of slice S0 of its host die. -/
def State.placeAnise (s : State) (p : Placing) : Placing :=
  let k := 2 * (s.cfg E.accessAniseHostDie - 1)
  if !s.cfgOn E.accessAniseEnable || !s.pathsOk (s.cfg E.accessAniseHostDie) then p
  else if p.pl.tcamRoom k aniseRoute then { p with pl := p.pl.addTcam aniseRoute k } else p.miss 1 0x1110 noRow

/-- A static row as a database holds it (R205, R212). -/
def State.staticEntry (s : State) (row : Nat) : FdbEntry :=
  ⟨s.cfgRow E.fdbStaticRealm row, s.cfgRow E.fdbStaticMac row, s.cfgRow E.fdbStaticDest row, true, s.cfgRowOn E.fdbStaticLockSource row, false, 0, s.clock.ticks, 2⟩

/-- Step 7 for one static row (R205): into the database, empty of learned entries, of every die that has a port of its realm. `t` holds the databases in
the making; a row that fits on one die and not on another is one item without room (R282). -/
def State.placeStatic (s : State) (acc : NMap Fdb × Placing) (row : Nat) : NMap Fdb × Placing :=
  let dies := s.dieList.filter (fun n => (s.realmPorts (s.cfgRow E.fdbStaticRealm row)).any (fun x => x.1 == n))
  let fit := dies.filterMap (fun n => (fdbInsertStatic (mget [] acc.1 n) (s.staticEntry row)).map (fun r => (n, r.1)))
  let p1 := { acc.2 with pl := { acc.2.pl with statics := fit.foldl (fun m x => mput m x.1 (mget [] m x.1 ++ [row])) acc.2.pl.statics } }
  (fit.foldl (fun m x => mput m x.1 x.2) acc.1, if fit.length == dies.length then p1 else p1.miss 2 0x2410 row)
def State.placeStatics (s : State) (p : Placing) : Placing := ((s.validRows E.fdbStaticValid).foldl s.placeStatic ([], p)).2

/-- Step 8: one signal tap. -/
def State.placeTap (s : State) (p : Placing) (row : Nat) : Placing :=
  let realm := s.cfgRow E.tapRealm row
  let hosts := (s.decapRows realm).filterMap (fun t => (mfind p.pl.tunnels t).map (·.1))
  let l := s.dieList.filter (fun n => (s.realmPorts realm).any (fun x => x.1 == n) || hosts.contains n)
  { p with pl := { p.pl with taps := l.foldl (fun m n => mput m n (mget [] m n ++ [row])) p.pl.taps } }.report 0x3100 row (l.headD 0) 0xFF 0

/-- The SRAM that the application image's header reserves (Table 15-2), as first and last + 1 byte. -/
def State.appReserve (s : State) : Nat × Nat :=
  let b := s.image (s.activeRow 2)
  (imgField b 24 4, imgField b 28 4)

/-- Step 9: the capture ring (R235, cause 0x06). -/
def State.placeCapture (s : State) (p : Placing) : Placing :=
  if !s.cfgOn E.captureEnable then p
  else
    let a := s.appReserve
    let b := s.cfg E.captureBase
    if rangesMeet b (144 * s.cfg E.captureSlots) a.1 (a.2 - a.1) then (p.miss 6 0x2558 noRow).report 0x2558 0 0 0xFF 3
    else
      let first := (s.mostOf ((s.validRows E.sampleValid).map (fun r => slotDie (r / 2)))).getD s.firstHealthy
      let h := s.hosts (s.pin 0x2558 0) first
      match h.1 with
      | n :: _ => { p with pl := { p.pl with capture := n } }.report 0x2558 0 n 0xFF h.2
      | [] => (p.miss 7 0x2558 noRow).report 0x2558 0 0 0xFF 3

/-- The link ends of a die that are connected (R34). -/
def State.ends (s : State) (n : Nat) : List Nat := [0, 1, 2, 3].filter (s.connected n)

/-- The queue points of a die (Table 7-1): its ports, processor ports, connected link ends and tunnel input. -/
def State.points (s : State) (n : Nat) : List Nat :=
  ((List.range 21).filter (fun l => s.variant.hasSlot ((n - 1) * 32 + l))) ++ [22, 23] ++ (s.ends n).map (24 + ·) ++ [28]

/-- The receive reserve of a slot (Table 7-2). -/
def State.rxReserve (s : State) (slot : Nat) : Nat :=
  if isEth slot then ceilDiv (s.cfg (E.portEthMaxFrame + slot * 256)) 256
  else if isCan slot && 2 ≤ s.cfg (E.portCanFormat + slot * 256) then 9 else 1

/-- The receive reserves of a die. -/
def State.rxReserves (s : State) (n : Nat) : Nat :=
  ((s.slotList.filter (fun p => slotDie p == n)).map s.rxReserve).sum + 36 * (3 + (s.ends n).length)

/-- Guarantees of a die's queues. -/
def State.guarantees (s : State) (n : Nat) : Nat :=
  ((s.points n).map (fun q => ((List.range 8).map (fun c => s.guarantee (queueRow n q c))).sum)).sum

/-- Headroom of a die (R225). -/
def State.headroomSize (s : State) (n : Nat) : Nat :=
  s.cfg E.bufferHeadroom * ((s.slotList.filter (fun p => slotDie p == n && isEth p && s.cfg (E.portEthTxPauseMode + p * 256) != 0)).length *
    ((List.range 8).filter (fun c => s.cfgOn (E.classLossless + c * 256))).length)

/-- Flow reservations on a die, and ATOMIC credits there (R230, Table 9-1). -/
def State.resvCells (s : State) (pl : Placement) (n : Nat) : Nat := ((pl.resv.filter (fun p => p.2.contains n)).map (fun p => s.cfgRow E.rsvCells p.1)).sum
def State.atomicGroups (s : State) : List Nat := (s.validRows E.groupValid).filter (fun g => s.cfgRowOn E.groupAtomic g)
def State.atomicCells (s : State) (pl : Placement) (n : Nat) : Nat :=
  (s.atomicGroups.map (fun g => s.atomicSize g * ((s.groupMembers g).filter (fun m => pl.host m == n)).length)).sum

/-- The fixed accounts of a die, and its pool (R216). -/
def State.fixedCells (s : State) (pl : Placement) (n : Nat) : Nat :=
  s.rxReserves n + s.guarantees n + s.resvCells pl n + s.atomicCells pl n + s.headroomSize n + 32

/-- Step 10: one die. -/
def State.placePool (s : State) (p : Placing) (n : Nat) : Placing :=
  let x := s.fixedCells p.pl n
  let p1 := { p with pl := { p.pl with pools := mset 0 p.pl.pools n (24576 - x) } }
  if x + s.cfg E.bufferMinShared ≤ 24576 then p1 else { p1 with fail := p1.fail.orElse (fun _ => some (5, 0x2548 + (n - 1), noRow)) }

/-- 0x2703 in ascending index and row. -/
def Placing.sorted (p : Placing) : Placing :=
  { p with pl := { p.pl with placed := [0x2420, 0x2510, 0x2520, 0x2528, 0x2558, 0x2600, 0x3100].flatMap (fun i => p.pl.placed.filter (fun x => x.1 == i)) } }

/-- The placement of the active image on the health map as it stands (R267): its result, and the first item that has no room. -/
def State.place (s : State) : Placing :=
  let routes := s.routeList
  let p1 : Placing := { pl := { paths := s.placePaths } }
  let p2 := (s.validRows E.policerValid).foldl (s.placePolicer routes) p1
  let p3 := s.atomicGroups.foldl s.placeGroup p2
  let p4 := s.checkFlows routes ((s.validRows E.tunnelValid).foldl (s.placeTunnel routes) p3)
  let p5 := s.atomicGroups.foldl s.placeCredits ((s.validRows E.rsvValid).foldl s.placeResv p4)
  let p6 := s.placeAnise (routes.foldl (s.placeRoute routes) p5)
  let p7 := s.placeStatics p6
  let p8 := s.placeCapture ((s.validRows E.tapValid).foldl s.placeTap p7)
  (s.dieList.foldl s.placePool p8).sorted

/-- One record of a store payload (Table 3-13). -/
def storeRecord (e row v size : Nat) : Bytes := toLE 2 (e / 256) ++ toLE 1 (e % 256) ++ toLE 1 0 ++ toLE 4 row ++ toLE 2 size ++ toLE size v

/-- Every index of the part in a range, in rising order. -/
def indices (lo hi : Nat) : List Nat := (List.range (hi - lo)).map (lo + ·)

/-- The persistent entries of an object at an index, in ascending row and subindex. -/
def State.persistent (s : State) (idx : Nat) : List (Nat × Nat) :=
  match odObject s.variant idx with
  | none => []
  | some o =>
    let subs := o.entries.flatMap (fun x => if x.pers then (List.range (x.hi + 1 - x.lo)).map (fun i => idx * 256 + x.lo + i) else [])
    if o.rows s.variant == 0 then subs.map (fun e => (e, noRow)) else (List.range (o.rows s.variant)).flatMap (fun r => subs.map (fun e => (e, r)))

/-- The digest of the placement's inputs (R271). -/
def State.inputDigest (s : State) : Nat :=
  let states := (0 :: s.dieList).map s.healthState
  let links := (List.range 28).map (fun k => if !s.connected (k / 4 + 1) (k % 4) then 2 else if (s.link (k / 4 + 1) (k % 4)).failed then 1 else 0)
  leNat (bytes256 (Config.sha256Of (fun _ => ascii "AZ8100-SUMAC" ++ toLE 1 s.variant.nc ++ toLE 4 (s.st E.versionGuard) ++
    pad 8 (states.map (BitVec.ofNat 8 ·)) ++ links.map (BitVec.ofNat 8 ·) ++
    ((indices 0x2000 0x2700 ++ [0x2702]).flatMap s.persistent).flatMap (fun (x : Nat × Nat) =>
      storeRecord x.1 x.2 (s.cfgRow x.1 x.2) (((odEntry s.variant x.1).bind (fun e => e.ty.size)).getD 0)))))

/-- The complete placement result as lists of numbers. -/
def Placement.lists (p : Placement) : List (List Nat) :=
  p.banks.map (fun x => x.1 :: x.2) ++ p.tcams.map (fun x => x.1 :: x.2) ++ p.policers.map (fun x => [x.1, x.2]) ++ p.replication.map (fun x => [x.1, x.2]) ++
  p.tunnels.map (fun x => [x.1, x.2.1, x.2.2]) ++ p.paths.map (fun x => [x.1, x.2.1, x.2.2]) ++ p.statics.map (fun x => x.1 :: x.2) ++
  p.taps.map (fun x => x.1 :: x.2) ++ [[p.capture, p.unplaced]] ++ p.pools.map (fun x => [x.1, x.2]) ++ p.resv.map (fun x => x.1 :: x.2)

/-- The digest of the placement's result (R271). -/
def Placement.digest (p : Placement) : Nat := leNat (bytes256 (Config.sha256 (Config.placementBytes p.lists)))

/-- One pair at an apply instant (R281): a path other than the one in use takes a new generation, behind markers where there was an old path to carry
them. -/
def State.switchTo (s : State) (pl : Placement) (a b : Nat) : State :=
  let row := (a - 1) * 8 + (b - 1)
  let new := ((mfind pl.paths row).getD (0, 0)).1
  let act := if new == 0 then 2 else 0
  if a == b || (s.die a).state == 3 then s
  else if new == s.pathNow a b then s.setRow E.pathActive row act
  else
    let s1 := ((s.setRow E.pathActive row act).countRow E.pathGeneration row).countRow E.pathCntSwitches row
    if new == 0 || s.pathNow a b == 0 then s1
    else { s1 with markers := (List.range 8).foldl (fun m c => mput m (pairKey a b c) (s1.pathGen a b)) s1.markers }

def State.switchAll (s : State) (pl : Placement) : State :=
  s.forAll s.dieList (fun s a => s.forAll s.dieList (fun s b => s.switchTo pl a b))

/-- A tunnel row whose engine changes (R247, R260): the old engine closes its PDU and hands over its sequence number, or is lost with it. An ISOLATED die
keeps what it holds (R276). -/
def State.leaveEngine (s : State) (pl : Placement) (x : Nat × Nat × Nat) : State :=
  if mfind pl.tunnels x.1 == some x.2 || (s.die x.2.1).state == 3 then s
  else if s.pathsOk x.2.1 then (s.closePdu x.2.1 x.1).setTunnel x.1 { (s.tunnel x.1) with isOpen := false, msgs := [], count := 0, timer := false, synced := false, txSeq := ((s.closePdu x.2.1 x.1).tunnel x.1).txSeq }
  else s.setTunnel x.1 {}

/-- Native copies that wait for a tunnel row which has left the die go on to its new die (R281). -/
def State.followTunnels (s : State) (n : Nat) : State :=
  (List.range 8).foldl (fun s c =>
    let row := queueRow n 28 c
    let gone := (s.queue row).filter (fun cp => cp.kind != .decap && s.hostOf n (cp.dests.headD 0) != n)
    if gone.isEmpty then s
    else (gone.foldl (fun s cp => s.deliver n (cp.dests.headD 0) cp) (s.setQueue row ((s.queue row).filter (fun cp => !gone.contains cp)))).freed n) s

/-- Two static entries are the same row's, whenever they were inserted. -/
def FdbEntry.sameStatic (a b : FdbEntry) : Bool := { a with since := 0, hit := false, idle := 0 } == { b with since := 0, hit := false, idle := 0 }

/-- Static rows inserted into a database with the moves and evictions that this takes (R199, R205); none when one of them finds no place. -/
def insertStatics (t : Fdb) (es : List FdbEntry) : Option (Fdb × Nat × Nat) :=
  es.foldlM (fun acc e => (fdbInsertStatic acc.1 e).map (fun r => (r.1, acc.2.1 + r.2.1, acc.2.2 + r.2.2))) (t, 0, 0)

/-- Static rows as they stand in an empty database, with the learned entries whose places stay free; the others make room (R205). -/
def rebuildStatics (t : Fdb) (es : List FdbEntry) : Fdb × Nat × Nat :=
  let base := ((insertStatics [] es).map (·.1)).getD []
  let learned := t.filter (fun x => !x.2.isStatic && !es.any (fun e => e.realm == x.2.realm && e.mac == x.2.mac))
  let stay := learned.filter (fun x => (mfind base x.1).isNone)
  (stay.foldl (fun m x => mput m x.1 x.2) base, 0, learned.length - stay.length)

/-- The static rows of a die's database become those of the placement (R205): withdrawn ones go and the stash moves up (R200), new ones come in, and learned
entries that make room are counted. -/
def State.applyStatics (s : State) (n : Nat) (rows : List Nat) : State :=
  let es := rows.map s.staticEntry
  let kept := (s.die n).fdb.filter (fun x => !x.2.isStatic || es.any x.2.sameStatic)
  let d := if kept.length == (s.die n).fdb.length then (kept, 0) else fdbDrainStash kept
  let r := (insertStatics d.1 (es.filter (fun e => !kept.any (fun x => x.2.sameStatic e)))).getD (rebuildStatics d.1 es)
  (s.setFdb n r.1 (d.2 + r.2.1)).countDie E.dieCntLearnEvicted n r.2.2

/-- The statics in force on a die differ from the placement's rows. -/
def State.staticsDiffer (s : State) (n : Nat) (rows : List Nat) : Bool :=
  let now := ((s.die n).fdb.map (·.2)).filter (·.isStatic)
  now.length != rows.length || !rows.all (fun r => now.any (·.sameStatic (s.staticEntry r)))

/-- The ports of a bank: the die's CAN and LIN ports. -/
def State.bankPorts (s : State) (n : Nat) : List Nat := (List.range 12).map (fun l => (n - 1) * 32 + l) |>.filter s.variant.hasSlot

/-- A bank without its clock (R110, class 0x0D): every port of it stands in FAULT, and the die is DEGRADED. -/
def State.bankStopped (s : State) (n : Nat) : State :=
  let s1 := s.forAll (s.bankPorts n) (fun s p => (s.toFault p).updPort p (fun x => { x with clockStopped := true }))
  (s1.addCause n 0x0D).detectedFault 0x0D n 0xFFFF

/-- A die has its tables: its enabled ports pass ENABLING, those of a bank without its clock stand in FAULT (R110, R130), and its application pair starts (R283, R396, t6
of Table 13-4). -/
def State.dieJoins (s : State) (n : Nat) : State :=
  let s1 := s.updDie n (fun d => { d with joining := false })
  let runs := (s1.die n).clockOk
  let s2 := (s1.forAll (s1.slotList.filter (fun p => slotDie p == n && s1.cfgOn (E.portCanEnable + p * 256) && (runs || isEth p))) State.enabling).when (!runs) (·.bankStopped n)
  let s3 := s2.updApp n (fun a => { a with resetCause := 1, started := s2.clock.ticks })
  let s4 := s3.setDie E.appLastResetCause n 1
  if s4.cfgOn E.appEnable then s4.appLoaded n else s4.setAppState n 4

/-- A placement takes effect on every die that D0 reaches (R91, R281). -/
def State.applyPlacement (s : State) (pl : Placement) : State :=
  let s1 := s.sumac.inForce.tunnels.foldl (fun s x => s.leaveEngine pl x) s
  let s2 := s1.switchAll pl
  let moved (row : Nat) : Bool := mfind s2.sumac.inForce.policers row != mfind pl.policers row &&
    (s2.die ((mfind s2.sumac.inForce.policers row).getD 0)).state != 3
  let ringMoves := pl.capture != s2.sumac.inForce.capture
  let s3 := { s2 with
    policers := s2.policers.filter (fun p => !moved p.1)
    sumac := { s2.sumac with inForce := pl, perDie := s2.sumac.perDie.filter (fun p => (s2.die p.1).state == 3) } }
  let live := s3.dieList.filter (fun n => s3.dieRuns n && (s3.die n).state != 3)
  let s4 := s3.forAll live (fun s n =>
    let s0 := s.updDie n (fun d => { d with damaged := d.damaged.filter (fun x => x % 64 == 35) })
    let s1 := s0.when (s0.die n).damaged.isEmpty (·.dropCause n 3)
    (s1.when (s1.staticsDiffer n (mget [] pl.statics n)) (·.applyStatics n (mget [] pl.statics n))).followTunnels n)
  let s4 := s4.forAll (live.filter (fun n => (s4.die n).joining)) State.dieJoins
  let s5 := s4.when (ringMoves && pl.capture != 0) (·.updApp pl.capture (fun a => { a with cap := { a.cap with wr := 0, rd := 0 } }))
  { s5 with mram := { s5.mram with placement := pl, placementDigest := some s5.inputDigest } }

/-- The entries of 0x2700 at the apply of a placement (Table 9-5). -/
def State.placementApplied (s : State) (pl : Placement) (trigger : Nat) : State :=
  let s1 := s.applyPlacement pl
  (((((s1.set E.placementState (if pl.unplaced == 0 then 2 else 3)).count E.placementGeneration).set E.placementInputDigest s1.inputDigest).set
    E.placementOutputDigest pl.digest).set E.placementUnplaced pl.unplaced).set E.placementLastTrigger trigger

/-- RECOMPUTATION_COMPLETE (R280): the result waits for its apply instant. -/
def execRecomputationComplete (s : State) : Result :=
  done (s.when (s.inRun && s.sumac.computing) (fun s => { s with sumac := { s.sumac with computing := false, waiting := some s.place.pl } }))

/-- PLACEMENT_APPLY (R280, R281). -/
def State.applyWaiting (s : State) : State :=
  match s.sumac.waiting with
  | some pl => { s with sumac := { s.sumac with waiting := none } }.placementApplied pl s.sumac.trigger
  | none => s

def execPlacementApply (s : State) : Result := done (s.when s.inRun State.applyWaiting)

end Sys2Proof.Machine
end

