-- ==== Sys2Proof/Machine/Saffron.lean ====
section
/-! DEFINITION. Saffron's start: the head, its replay, a broken chain, START and the first seal (R326, R328, R329, R332, R336, R337, R342). -/

namespace Sys2Proof.Machine
open Sys2Proof

/-- The life-cycle states in which Saffron runs (R321, R356); in RETIRED it starts once more where a power loss left the LIFECYCLE record missing (R355). -/
def State.saffronState (s : State) : Bool := 1 ≤ s.life.state && s.life.state ≤ 3 || s.life.state == 5 || (s.life.state == 4 && s.mram.lifecycle != 4)

/-- The intact head copy with the higher n, and whether it is the only one (R328). -/
def Evidence.headFound (e : Evidence) : Option Head × Bool :=
  if e.head0.intact && e.head1.intact then (some (if e.head0.n < e.head1.n then e.head1 else e.head0), false)
  else if e.head0.intact then (some e.head0, true)
  else if e.head1.intact then (some e.head1, true)
  else (none, false)

/-- The journal record that an interrupted append left beyond the head (R328). -/
def Evidence.ahead (e : Evidence) (n : Nat) : Option JEntry := (mfind e.journal ((n + 1) % 4096)).filter (fun j => j.intact && j.seq == n + 1)

/-- The highest intact sequence in the journal (R329). -/
def Evidence.highest (e : Evidence) : Nat := e.journal.foldl (fun m p => if p.2.intact then max m p.2.seq else m) 0

/-- The head from which the chain goes on: sequence, value, whether a record was replayed, and the break cause 0, 1 or 2 (R328, R329). The journal
is inconsistent when it holds an intact record beyond the replay. -/
def Evidence.resume (e : Evidence) : Nat × BitVec 256 × Bool × Nat :=
  match e.headFound.1 with
  | none => (e.highest, 0, false, 1)
  | some hd =>
    let r : Nat × BitVec 256 × Bool := match e.ahead hd.n with
      | some j => (hd.n + 1, Config.sha256 (bytes256 hd.h ++ j.bytes), true)
      | none => (hd.n, hd.h, false)
    if r.1 < e.highest then (e.highest, 0, false, 2) else (r.1, r.2.1, r.2.2, 0)

/-- What a start leaves of the parts of Saffron that last one start; the limits, journal, heads and seal store stand in MRAM (R336, R337, R339). -/
def Evidence.restarted (e : Evidence) : Evidence :=
  { e with
    running := true, hashingStopped := false, bootCount := (e.bootCount + 1) % 2 ^ 32
    head0 := if e.head0.intact then e.head0 else ⟨0, 0, 0, false⟩
    head1 := if e.head1.intact then e.head1 else ⟨0, 0, 0, false⟩
    lastSeq := e.resume.1, h := e.resume.2.1, due := [], spacing := false, period := false, job := none, nextSeal := e.sealLimit
    startTree := true, activeTree := false, nextTree := false, fifo := [], readPos := 0, markPos := 0, hi := false, ovr := false, cmdErr := false
    fetchErr := false, underrun := false, gapPending := false, gapFirst := 0, gapLast := 0, gapSeal := 0, gapSeals := 0, gapItems := 0
    fetch := .idle, fetchReady := false, fetchBuf := [], fetchPos := 0, fetchSeq := 0 }

/-- Saffron starts (R328, R329): START with its cause, before it CHAIN_BREAK where the chain cannot go on, and a periodic seal is due. -/
def State.saffronStart (s : State) (cause : Nat) : State :=
  if !s.ev.chainOpen || s.ev.closed || !s.saffronState then s
  else
    let e := s.ev
    let r := e.resume
    let s1 := s.updEv (fun e => { (e.restarted.gapFrom e.resume.1 false) with ident := leNat s.fuses.identity })
    let s2 := if r.2.2.2 == 0 then s1
      else (s1.updEv (fun x => { x with h := s1.chainBreak x.bootCount })).append
        (s1.evReq 0 0x1E 0 (toLE 8 e.highest ++ toLE 1 r.2.2.2))
    let flags := (if r.2.2.1 then 1 else 0) + (if e.hashingStopped then 2 else 0) + (if e.headFound.2 then 4 else 0)
    let s3 := s2.append (s2.evReq 0 0x01 0 (toLE 1 cause ++ toLE 1 flags ++ [0, 0] ++ toLE 4 (s.st E.versionGuard) ++ toLE 4 (s.st E.versionRuntime) ++
      toLE 4 (s.st E.versionApplication) ++ toLE 4 (s.st E.versionOdDefaults) ++ toLE 4 e.sealLimit ++ toLE 4 s.mram.lastWriteRtc ++ toLE 4 (s.st E.commitGeneration)))
    (s3.updEv (fun e => { e with hashingStopped := s.safe.noSha, running := !s.safe.noSha, started := true, queue := e.waiting ++ e.queue, waiting := [] })).trigger 0 |>.when s.life.change.isSome (·.trigger 4)

/-- The request that an entry of the island becomes (R326, R387). -/
def State.heldReq (s : State) (x : IslandEntry) : EvReq :=
  { type := x.type, unit := x.unit, die := 0, time := s.gptp, rtc := x.rtc, deferred := true, synced := false, rtcOk := s.clock.rtcValid, count := x.count, payload := x.payload }

/-- After START the entries that the island holds are appended, then what found no room (R387). -/
def State.appendHeld (s : State) (l : List IslandEntry) : State :=
  if !s.ev.running then s
  else
    let s1 := l.foldl (fun s x => s.append (s.heldReq x)) s
    let s2 := s1.when (0 < s.island.overflow) (fun t => t.append (t.heldReq ⟨0x0D, 0, pad 32 (toLE 4 s.island.overflow ++ [2]), s.rtc, 1⟩))
    { s2 with island := { s2.island with held := [], overflow := 0 } }

/-- Saffron stops: in LISTEN and STANDBY, while the security core restarts, or with its hashing (R321, R326, R369). -/
def State.saffronStop (s : State) : State := s.updEv (fun e => { e with running := false, job := none })

end Sys2Proof.Machine
end

