-- ==== Sys2Proof/Machine/Reactions.lean ====
section
/-! DEFINITION. The reactions of Table 9-4: supplies, clocks, lockstep pairs, tables, parity, the supervisor and the security core; health reports, readmission and
SAFE_N (R49, R110, R134, R276, R278, R283 to R289, R369). -/

namespace Sys2Proof.Machine
open Sys2Proof

/-- VCORE falls below 0.69 V (R49, class 0x0C). -/
def State.vcoreLow (s : State) (n : Nat) : State :=
  if (s.die n).vcoreLow then s else ((s.updDie n (fun d => { d with vcoreLow := true })).addCause n 0x0C).detectedFault 0x0C n 0xFFFF

/-- VCORE has risen above 0.70 V (R49). -/
def State.vcoreHigh (s : State) (n : Nat) : State := (s.updDie n (fun d => { d with vcoreLow := false })).dropCause n 0x0C

/-- VCORE_LOW (R49). -/
def execVcoreLow (die : Nat) (s : State) : Result := doneIf s (s.variant.hasDie die) (s.when (s.inRun && s.dieRuns die) (·.vcoreLow die))

/-- VCORE_RESTORED (R49), in any mode. -/
def execVcoreRestored (die : Nat) (s : State) : Result := doneIf s (s.variant.hasDie die) (s.when (s.die die).vcoreLow (·.vcoreHigh die))

/-- A readmission step fails (R283): the die is LOST again, and the fault log records the step, 2 or 3. -/
def State.readmitFails (s : State) (n step : Nat) : State := ((s.clearDie n).setHealth n 4).detectedFault 0x0B n step

/-- A die enters reset and loses its image: the loss of the die, or the end of its readmission (R49, R277, R283). -/
def State.dieReset (s : State) (n : Nat) : State :=
  if (s.die n).state == 5 then s.readmitFails n (if (s.die n).image then 3 else 2) else s.loseDie n

/-- VCORE_BELOW_RESET (R49, R277), in every mode in which the switch dies have their supplies and the guard die, which they follow (R453), is not held in reset. In LISTEN, where Table 1-1 leaves the package supervisor without
power, D0 takes the loss at once, as in RUN (DESIGN CHOICE, log 100). -/
def execVcoreBelowReset (die : Nat) (s : State) : Result :=
  doneIf s (s.variant.hasDie die) (s.when (s.power.inh && s.power.resetN && s.power.guardSupplied) (·.dieReset die))

/-- REFCLK_IN stops or the bank PLL unlocks (R110, class 0x0D). -/
def State.bankClockFails (s : State) (n : Nat) : State :=
  if !(s.die n).clockOk then s
  else (s.updDie n (fun d => { d with clockOk := false })).bankStopped n

/-- The clock has been stable for 1 ms (R110): each enabled port passes through ENABLING, unless a parity fault still holds it. -/
def State.bankClockBack (s : State) (n : Nat) : State :=
  if (s.die n).clockOk then s
  else
    let s1 := (s.updDie n (fun d => { d with clockOk := true })).dropCause n 0x0D
    s1.forAll (s1.bankPorts n) (fun s p =>
      let s2 := s.updPort p (fun x => { x with clockStopped := false })
      s2.when (s2.portState p == 5 && !(s2.port p).parityFault) (·.leaveFault p))

/-- BANK_CLOCK_FAIL (R110): a die that does not run finds the clock gone when it joins. -/
def execBankClockFail (die : Nat) (s : State) : Result :=
  doneIf s (s.variant.hasDie die) (if s.inRun && s.dieRuns die then s.bankClockFails die else s.updDie die (fun d => { d with clockOk := false }))

/-- BANK_CLOCK_STABLE (R110). -/
def execBankClockStable (die : Nat) (s : State) : Result :=
  doneIf s (s.variant.hasDie die) (if s.inRun && s.dieRuns die then s.bankClockBack die else s.updDie die (fun d => { d with clockOk := true }))

/-- A port's configuration registers are rewritten and the port passes through ENABLING, once its clock runs (class 0x05). -/
def State.rewritePort (s : State) (slot : Nat) : State :=
  let s1 := s.updPort slot (fun p => { p with parityFault := false })
  s1.when (s1.portState slot == 5 && !(s1.port slot).clockStopped) (·.leaveFault slot)

/-- A configuration parity fault (R134, R171, class 0x05): FAULT and source 48; the runtime pair rewrites the block, but a second fault within 10 s
holds the port in FAULT until a commit rewrites it. -/
def State.configParity (s : State) (slot : Nat) : State :=
  let n := slotDie slot
  let again : Bool := match (s.port slot).lastParity with
    | some t => s.clock.ticks - t < msTicks 10000
    | none => false
  let s1 := ((s.toFault slot).updPort slot (fun p => { p with parityFault := true, lastParity := some s.clock.ticks })).raiseSource n 48
  if again then (s1.addCause n 5).detectedFault 5 n slot
  else
    let s2 := s1.detectedFault 5 n slot
    s2.when (s2.die n).runtimeUp (·.rewritePort slot)

/-- CONFIG_PARITY_FAULT (R134, R171). -/
def execConfigParityFault (slot : Nat) (s : State) : Result :=
  doneIf s (s.variant.hasSlot slot) (s.when (s.portRuns slot) (·.configParity slot))

/-- A commit has rewritten a port's configuration (R134, class 0x05). -/
def State.parityCleared (s : State) (slot : Nat) : State :=
  if !(s.port slot).parityFault then s
  else
    let s1 := s.rewritePort slot
    s1.when (!(s1.slotList.any (fun p => slotDie p == slotDie slot && (s1.port p).parityFault))) (·.dropCause (slotDie slot) 5)

/-- What `fault.unit` names for a queuing point of a die (R292, Table 7-1): the slot of a port, the pair of an internal port, the link row of a link end, and
0xFFFF for the tunnel engines' input. -/
def pointUnit (n q : Nat) : Nat :=
  if q < 21 then (n - 1) * 32 + q else if q == 22 || q == 23 then q - 22 else if 24 ≤ q && q < 28 then linkKey n (q - 24) else 0xFFFF

/-- What `fault.unit` names for a word of a table: the slot of a port's bank, else the whole die (R292). -/
def tableUnit (n word : Nat) : Nat := if word % 64 < 22 then (n - 1) * 32 + word % 64 else 0xFFFF

/-- The copy whose word is damaged is discarded (classes 0x02, 0x04): unit = queue point × 8 + class. Class 0x02 raises source 49. -/
def State.discardCopy (s : State) (cls n unit : Nat) : State :=
  let row := queueRow n (unit / 8) (unit % 8)
  let s1 := match s.queue row with
    | cp :: _ => (s.lossOf cp).dropHead row
    | [] => s
  (s1.when (cls == 2) (·.raiseSource n 49)).detectedFault cls n (pointUnit n (unit / 8))

/-- A multi-bit error in a table word (class 0x03). -/
def State.tableDamaged (s : State) (n word : Nat) : State :=
  (((s.updDie n (fun d => { d with damaged := if d.damaged.contains word then d.damaged else d.damaged ++ [word] })).addCause n 3).raiseSource n 49).detectedFault 3 n
    (tableUnit n word)

/-- A lockstep mismatch of a runtime pair (class 0x06): the pair is reset; semaphores and mailbox staging that it answers for go (R72, R425). -/
def State.runtimeFails (s : State) (n : Nat) : State :=
  if !(s.die n).runtimeUp then s
  else (((((s.releaseStaging (5 + (n - 1))).updApp n (·.releaseClaims 1 s.clock.ticks)).updDie n (fun d => { d with runtimeUp := false })).orphanPair (n * 16)).addCause n 6).detectedFault 6 n 0

/-- A lockstep mismatch of an application pair (class 0x07, R428). -/
def State.appMismatch (s : State) (n : Nat) : State :=
  if !(s.app n).running then s else (((s.addCause n 7).appReset n 2)).detectedFault 7 n 1

/-- A lane PLL, that of the slot `unit`, or with 0xFFFF SDS_REFCLK of the die is lost (class 0x0E): link loss of every port fed (R168). The cause holds until a report clears it. -/
def State.lanesLost (s : State) (n unit : Nat) : State :=
  ((s.forAll (s.slotList.filter (fun p => slotDie p == n && isEth p && (unit == 0xFFFF || unit == p))) (fun s p => s.linkCut p)).addCause n 0x0E).detectedFault
    0x0E n unit

/-- Engines of a kind: four SHA-256 engines (R321), one AES engine, one TRNG. -/
def engineCount (kind : Nat) : Nat := if kind == 0 then 4 else 1

/-- No engine of a kind remains in service (R369): engine = kind × 16 + its number. -/
def Safe.kindGone (x : Safe) (kind : Nat) : Bool := (List.range (engineCount kind)).all (fun i => mget 0 x.engines (kind * 16 + i) != 0)

/-- A fault of an engine (class 0x14): the operation is retried once, and where the retry fails too (`unit` from 0x100 on, log 35) the engine is out of
service. -/
def State.engineFails (s : State) (unit : Nat) : State :=
  let x := { s.safe with engines := if 0x100 ≤ unit then mput s.safe.engines (unit % 0x100) 1 else s.safe.engines }
  let s1 := { s with safe := { x with noSha := x.kindGone 0, noAes := x.kindGone 1, noTrng := x.kindGone 2 } }
  let s2 := s1.when (s1.safe.noSha && s1.ev.running) (fun s => s.saffronStop.updEv (fun e => { e with hashingStopped := true }))
  (s2.detectedFault 0x14 0 (unit % 0x100)).guardHealth (s.healthState 0)

/-- The security core is reset (class 0x0F): sessions, commit and Sumac stop, and Saffron with them (R285, R326). -/
def State.securityCoreFails (s : State) : State :=
  if s.safe.securityDown then s
  else
    let s1 := { s with commit := { s.commit with phase := .idle } }
    let s2 := (s1.endSessions.dropStaging).when s.committing (fun s => (s.set E.commitState 0).set E.commitLastInterrupted 1)
    let s3 := { s2 with
      sdo := .none
      life := { s2.life with change := none, request := none }
      safe := { s2.safe with securityDown := true, coreSram := [] }
      sumac := { s2.sumac with
        interrupted := s2.sumac.interrupted || s2.sumac.computing || s2.sumac.waiting.isSome || s2.sumac.healthChanged
        healthChanged := false
        computing := false
        waiting := none } }
    (s3.saffronStop.detectedFault 0x0F 0 0).guardHealth (s.healthState 0)

/-- The supervisor's watchdog expires (R289, class 0x10). -/
def State.supervisorStops (s : State) : State :=
  if s.safe.supervisorStopped then s
  else ({ s with safe := { s.safe with supervisorStopped := true, supervisorRestarting := true } }.detectedFault 0x10 0 0xFFFF).guardHealth (s.healthState 0)

/-- A multi-bit error in D0's MRAM (class 0x13): the journal entry below 0x1000, whose record is lost unless it is delivered (R331), the key record of
slot `unit` − 0x1000 (R368, Table 12-10), or the seal in place `unit` − 0x1100 of the store (R347, R351) is damaged. What another word holds is handled by the reading that meets it (log 73). -/
def State.mramDamaged (s : State) (unit : Nat) : State :=
  if unit < 0x1000 then
    match mfind s.ev.journal unit with
    | some j => if !j.intact then s
      else (s.updEv (fun e => { e with journal := mput e.journal unit { j with intact := false } })).damagedEntry { j with intact := false }
    | none => s
  else if unit < 0x1100 then
    match mfind s.keys.records (unit - 0x1000) with
    | some r => { s with keys := { s.keys with records := mput s.keys.records (unit - 0x1000) { r with intact := false } } }
    | none => s
  else if unit < 0x1104 then s.updEv (fun e => { e with badSeals := e.badSeals ++ ((e.store[unit - 0x1100]?).map (·.1)).toList })
  else if 0x1110 ≤ unit && unit < 0x111F && !s.update.badCopies.contains (unit - 0x1110) then
    { s with update := { s.update with badCopies := s.update.badCopies ++ [unit - 0x1110] } }
  else s

/-- An uncorrectable error at an address of a die's application SRAM: SYS_ECC_ADDR holds the address, and source 49 is raised (Tables 14-3 and 14-8). -/
def State.sramDamaged (s : State) (n addr : Nat) : State :=
  s.when (addr < 0xC0000) (fun s => (s.updApp n (fun a => { a with eccAddr := addr })).raiseSource n 49)

/-- A detected or masked fault and its reaction (R278, Table 9-4). Unit 0x0100 of class 0x01 names a die's application SRAM, a unit of 0x10000 or more of class 0x02 the
address 0x10000 below it there (log 98). -/
def State.faultOn (s : State) (cls n unit : Nat) : State :=
  if cls == 0x01 then
    (s.when (unit == 0x0100 && s.dieRuns n) (fun s => (s.updApp n (fun a => { a with eccCorr := add32 a.eccCorr 1 })).countDie E.appCntEccCorrected n)).fault cls n 0
  else if maskedClass cls then s.fault cls (if cls == 0x08 then n else 0) 0
  else if cls == 0x0F then s.securityCoreFails
  else if cls == 0x10 then s.supervisorStops
  else if cls == 0x13 then (s.mramDamaged unit).detectedFault cls 0 0xFFFF
  else if cls == 0x14 then s.engineFails unit
  else if cls == 0x15 then s.detectedFault cls 0 0xFFFF
  else if cls == 0x0A then s.isolate n
  else if cls == 0x0B then s.loseDie n
  else if !s.dieRuns n then s
  else if cls == 0x02 && 0x10000 ≤ unit then s.sramDamaged n (unit - 0x10000)
  else if cls == 0x02 || cls == 0x04 then s.discardCopy cls n unit
  else if cls == 0x03 then s.tableDamaged n unit
  else if cls == 0x05 then s.when (slotDie unit == n && s.variant.hasSlot unit) (·.configParity unit)
  else if cls == 0x06 then s.runtimeFails n
  else if cls == 0x07 then s.appMismatch n
  else if cls == 0x09 then s.failLink n (unit % 4)
  else if cls == 0x0C then s.vcoreLow n
  else if cls == 0x0D then s.bankClockFails n
  else if cls == 0x0E then s.lanesLost n unit
  else s

/-- FAULT_DETECTED (R278). -/
def execFaultDetected (cls die unit : Nat) (s : State) : Result :=
  doneIf s (die == 0 || s.variant.hasDie die) (s.when s.inRun (·.faultOn cls die unit))

/-- The messages that waited in lane 0 of a die's control link cross it, in their order (R32): the die's fault events to D0 and D0's doorbells to the die. -/
def State.flushLane0 (s : State) (n : Nat) : State :=
  let d := s.die n
  let s1 := d.bells.foldl (fun s src => (s.raiseSource n src).emit (.doorbell n src)) (s.updDie n (fun d => { d with lane0 := [], bells := [] }))
  d.lane0.foldl (fun s m => s.takeFault m.1 n m.2) s1

/-- A die leaves ISOLATED at the first report after a link reset (R276), and what waited on lane 0 follows. -/
def State.leaveIsolated (s : State) (n : Nat) : State :=
  s.when ((s.die n).state == 3 && (s.die n).linkReset) (fun s =>
    ((s.updDie n (fun d => { d with linkReset := false })).setHealth n (s.die n).implied).flushLane0 n)

/-- What a report says beyond the die's being alive. -/
def State.reported (s : State) (n : Nat) : HealthReport → State
  | .alive => s
  | .fault cls unit => s.faultOn cls n unit
  | .cleared cls => if cls == 0x0C then s.vcoreHigh n else if cls == 0x0D then s.bankClockBack n else s.dropCause n cls

/-- A health report reaches D0 (R276, R277). -/
def State.takeReport (s : State) (n : Nat) (r : HealthReport) : State :=
  if !s.dieRuns n || ((s.die n).state == 3 && !(s.die n).linkReset) then s
  else ((s.updDie n (fun d => { d with lastHeld := d.heldEvents })).leaveIsolated n).reported n r

/-- HEALTH_REPORT (R276). -/
def execHealthReport (die : Nat) (report : HealthReport) (s : State) : Result :=
  doneIf s (s.variant.hasDie die) (s.when s.inRun (·.takeReport die report))

/-- A readmission begins (R283): the die enters READMITTING and is reset. -/
def State.readmitDie (s : State) (n : Nat) : State := (s.clearDie n).setHealth n 5

/-- A die starts (R223): its RED generator is seeded from the random number generator. -/
def State.redSeeded (s : State) (n : Nat) : State := (s.updDie n (fun d => { d with redSeed := Config.trng s.fresh, redDraws := 0 })).draw

/-- READMIT_IMAGES_SENT (R283). -/
def execReadmitImagesSent (die : Nat) (ok : Bool) (s : State) : Result :=
  doneIf s (s.variant.hasDie die) (s.when (s.inRun && (s.die die).state == 5) (fun s =>
    if ok then (s.updDie die (fun d => { d with image := true })).redSeeded die else s.readmitFails die 2))

/-- Causes that a die's loss does not end (Table 9-3): a failed link end, and a bank clock that is lost. -/
def State.lastingCauses (s : State) (n : Nat) : List Nat :=
  (if [0, 1, 2, 3].any (fun e => (s.link n e).failed) then [9] else []) ++ (if (s.die n).clockOk then [] else [0x0D])

/-- The readmitted die is OK, or DEGRADED while a cause is still in force (R274, R283): D0 claims its VSEL pin (R377, R427), its pair runs and a recomputation starts; its
tables come with the apply. -/
def State.readmitted (s : State) (n : Nat) : State :=
  let s0 := s.updDie n (fun d => { d with inReset := false, runtimeUp := true, joining := true, causes := s.lastingCauses n })
  let s1 := (s0.when (n == 1) State.claimVsel).setHealth n (s0.die n).implied
  { s1 with sumac := { s1.sumac with trigger := 2 } }

/-- READMIT_SELF_TEST_COMPLETE (R283). -/
def execReadmitSelfTestComplete (die : Nat) (ok : Bool) (s : State) : Result :=
  doneIf s (s.variant.hasDie die) (s.when (s.inRun && (s.die die).state == 5 && (s.die die).image) (fun s =>
    if ok then s.readmitted die else s.readmitFails die 3))

/-- SAFE_N_RECOVERY_TIMEOUT (R287): class 0x0F or 0x14 has not recovered after 1 s. -/
def execSafeNRecoveryTimeout (cls : Nat) (s : State) : Result :=
  done (s.when (s.inRun && (cls == 0x0F || cls == 0x14) && s.condHolds cls) (·.driveSafe cls))

/-- SUPERVISOR_WATCHDOG_EXPIRY (R289). -/
def execSupervisorWatchdogExpiry (s : State) : Result := done (s.when s.inRun State.supervisorStops)

/-- SUPERVISOR_REFRESH_TIMEOUT (R289): no refresh within 50 ms of the expiry; a fault of class 0x0F. -/
def execSupervisorRefreshTimeout (s : State) : Result :=
  done (s.when (s.inRun && s.safe.supervisorRestarting) (fun s =>
    { s with safe := { s.safe with supervisorRestarting := false } }.securityCoreFails))

/-- SUPERVISOR_WATCHDOG_REFRESH (R289). -/
def execSupervisorWatchdogRefresh (s : State) : Result :=
  done (s.when s.inRun (fun s =>
    { s with safe := { s.safe with supervisorStopped := false, supervisorRestarting := false, refreshedAt := s.clock.ticks } }.guardHealth (s.healthState 0)))

/-- The runtime pair is back (class 0x06): it rewrites the blocks whose parity fault came while it was down. -/
def State.runtimeBack (s : State) (n : Nat) : State :=
  let s1 := (s.updDie n (fun d => { d with runtimeUp := true })).dropCause n 6
  s1.forAll (s1.slotList.filter (fun p => slotDie p == n && (s1.port p).parityFault && !(s1.die n).causes.contains 5)) State.rewritePort

/-- RUNTIME_PAIR_RESTART_COMPLETE (class 0x06). -/
def execRuntimePairRestartComplete (die : Nat) (s : State) : Result :=
  doneIf s (s.variant.hasDie die) (s.when (s.inRun && s.dieRuns die && !(s.die die).runtimeUp) (·.runtimeBack die))

/-- TABLE_SCRUB (class 0x01, 0x03): a word of a table, numbered as `tableWord` gives. -/
def execTableScrub (die table : Nat) (err : ScrubResult) (s : State) : Result :=
  doneIf s (s.variant.hasDie die) (s.when (s.inRun && s.dieRuns die) (fun s => match err with
    | .clean => s
    | .single => s.fault 1 die 0
    | .multi => s.tableDamaged die table))

/-- The runtime pair rewrites a table (class 0x03); the learned entries of a damaged FDB bucket or stash place are removed. -/
def State.rewriteTable (s : State) (n table : Nat) : State :=
  let bad := ((s.die n).damaged.filter (fun x => x % 64 == table)).map (· / 64)
  let hit (p : Nat) : Bool := bad.contains (if p < 32768 then p / 4 else 8192 + (p - 32768))
  let s1 := s.when (table == 35 && !bad.isEmpty) (fun s =>
    s.setFdb n ((s.die n).fdb.filter (fun x => x.2.isStatic || !hit x.1)) 0)
  let s2 := s1.updDie n (fun d => { d with damaged := d.damaged.filter (fun x => x % 64 != table) })
  s2.when ((s2.die n).damaged.isEmpty) (·.dropCause n 3)

/-- TABLE_HALF_REWRITE (class 0x03). -/
def execTableHalfRewrite (die table : Nat) (s : State) : Result :=
  doneIf s (s.variant.hasDie die) (s.when (s.inRun && s.dieRuns die && (s.die die).runtimeUp) (·.rewriteTable die table))

end Sys2Proof.Machine
end

