-- ==== Sys2Proof/Machine/Island.lean ====
section
/-! DEFINITION. The always-on island: held events, wake sources, tamper loops and the CAN wake decoders (R380 to R388). -/

namespace Sys2Proof.Machine
open Sys2Proof

/-- Entries the island holds (R387). -/
def islandSize : Nat := 16

/-- An event held by the island (R387): merged into the entry of its type and unit, its count saturating and its last fields following as R325 says, or a new entry; one that
finds no room is counted. -/
def State.holdEvent (s : State) (type unit : Nat) (payload : Bytes) : State :=
  let l := s.island.held
  if l.any (fun (x : IslandEntry) => x.type == type && x.unit == unit) then
    let full := l.any (fun (x : IslandEntry) => x.type == type && x.unit == unit && 65535 ≤ x.count)
    { s with island := { s.island with
      held := l.map (fun (x : IslandEntry) => if x.type == type && x.unit == unit then
        { x with count := min 65535 (x.count + 1), payload := withLast x.type x.payload (pad 32 payload) } else x)
      overflow := s.island.overflow + (if full then 1 else 0) } }.when full (·.count E.powerCntHeldOverflow)
  else if l.length < islandSize then { s with island := { s.island with held := l ++ [⟨type, unit, pad 32 payload, s.rtc, 1⟩] } }
  else { s with island := { s.island with overflow := s.island.overflow + 1 } }.count E.powerCntHeldOverflow

/-- An event of the island: a request while Saffron runs, else held (R387). -/
def State.islandEvent (s : State) (type unit : Nat) (payload : Bytes) : State :=
  if s.ev.running then s.evidence 0 type unit payload else s.holdEvent type unit payload

/-- The payload of a POWER record (Table 11-2). -/
def powerPayload (before after source detail : Nat) : Bytes := [BitVec.ofNat 8 before, BitVec.ofNat 8 after, BitVec.ofNat 8 source, 0] ++ toLE 4 detail

/-- A wake event of a source code counts in this mode (Table 13-3): in LISTEN, in STANDBY where its source works there, in the entry to such a mode, and in the
return from one. While RESET_N is low the RTC and the tamper sampler alone run (R393). -/
def State.wakeOpen (s : State) (standby : Bool) (code : Nat) : Bool :=
  match s.power.mode with
  | .listen => true
  | .standby => standby
  | .entering => standby || s.power.target == 1
  | .starting => if !s.power.resetN then code == 6 || code == 7 else if s.power.left == 0 then standby else s.power.wakeSeen && (standby || s.power.left == 1)
  | _ => false

/-- The entry sequence is aborted (R380): DRAINING ports take a pending re-enable, those already DISABLED start again, and the pairs resume. -/
def State.abortEntry (s : State) (code detail : Nat) : State :=
  let s1 := { s with power := { s.power with mode := .run, halted := false, enabled := [], target := 0 } }
  let s2 := s1.forAll (s.power.enabled.filter s1.portRuns) (fun s p =>
    if s.portState p == 3 then s.setSlot E.portCanPendingReEnable p 1 else s.when (s.portState p == 0) (·.enabling p))
  (s2.count E.powerCntEntriesAborted).evidence 0 0x1B 0 (powerPayload 0 0 code detail)

/-- A return to RUN begins (R381, R389, t0 and t1 of Table 13-4): INH active, the VSEL pin high, the transition held by the island. -/
def State.beginReturn (s : State) (code detail port : Nat) : State :=
  let left := if s.power.mode == .listen then 1 else 2
  let s1 := { s with power := { s.power with mode := .starting, phase := .supplies, cause := 2, left := left, inh := true, vsel := true, wakeSeen := true, wakePort := port } }
  (((s1.set E.powerLastWakeSource code).set E.powerLastWakeDetail detail).count E.powerCntWakeEvents).holdEvent 0x1B 0 (powerPayload left 0 code detail)

/-- A wake event of a source that is enabled (R380, R381): the first one wakes the device, a later one before RUN is only counted. `port` is the slot it
was detected on, 0xFFFF for none. During a restart of an update, or while RESET_N is low, the island holds the event (R393, R443). -/
def State.wakeEvent (s : State) (code detail port : Nat) : State :=
  match s.power.mode with
  | .listen | .standby => s.beginReturn code detail port
  | .entering => if 3 ≤ s.power.target then s.holdEvent 0x1B 0 (powerPayload 0 0 code detail) else s.abortEntry code detail
  | .starting => if !s.power.resetN || s.power.left == 0 then s.holdEvent 0x1B 0 (powerPayload (s.power.left) 0 code detail) else s.count E.powerCntWakeEvents
  | _ => s

/-- A wake event where its source works. -/
def State.wakeOn (s : State) (standby enabled : Bool) (code detail port : Nat) : State := s.when (enabled && s.wakeOpen standby code) (·.wakeEvent code detail port)

/-- The decoder mode of a CAN port (R388), 0 off. -/
def State.decoderMode (s : State) (slot : Nat) : Nat := if s.cfgRowOn E.pwrValid slot then s.cfgRow E.swMode slot else 0

def State.onCanSlot (s : State) (slot : Nat) (t : State) : Result := doneIf s (s.variant.hasSlot slot && isCan slot) t

/-- CAN_WAKE_UP_PATTERN (R388, mode 2). -/
def execCanWakeUpPattern (slot : Nat) (s : State) : Result := s.onCanSlot slot (s.wakeOn true (s.decoderMode slot == 2) 1 slot slot)

/-- CAN_RXD_WAKE (R388, mode 1). -/
def execCanRxdWake (slot : Nat) (s : State) : Result := s.onCanSlot slot (s.wakeOn true (s.decoderMode slot == 1) 3 slot slot)

/-- A frame is the wake-up frame of a port (R388). -/
def State.wakeFrameFits (s : State) (slot : Nat) (f : Frame) : Bool :=
  let id := s.cfgRow E.swId slot
  let mask := s.cfgRow E.swIdMask slot % 2 ^ 29
  let dm := s.cfgRow E.swDataMask slot
  !f.rtr && f.ext == bitAt id 31 && (f.id &&& mask) == (id % 2 ^ 29 &&& mask) && f.dlc.getD f.data.length == s.cfgRow E.swDlc slot &&
  (dm == 0 || (leNat f.data &&& dm) != 0)

/-- A decoder in mode 3 has decoded a frame (R388): its error counter, and what wakes the device. A frame with FDF recessive is ignored. -/
def State.decoderFrame (s : State) (slot : Nat) (f : Frame) (err : Bool) : State :=
  if s.decoderMode slot != 3 || !s.wakeOpen true 2 || f.fmt != .cc then s
  else
    let c := mget 0 s.island.decErr slot
    let n := if err then c + 1 else c - 1
    let s1 := { s with island := { s.island with decErr := mset 0 s.island.decErr slot n } }
    if err then s1.wakeOn true (31 < n && s1.cfgRowOn E.swErrorWake slot) 3 slot slot
    else s1.wakeOn true (s1.wakeFrameFits slot f) 2 slot slot

/-- CAN_DECODER_FRAME (R388, mode 3). -/
def execCanDecoderFrame (slot : Nat) (frame : Frame) (err : Bool) (s : State) : Result := s.onCanSlot slot (s.decoderFrame slot frame err)

/-- WK_EDGE (R382): a selected edge that has held for `wk.filter`. -/
def execWkEdge (input : Nat) (rising : Bool) (s : State) : Result :=
  doneIf s (input < 8) (s.wakeOn true (bitAt (s.cfg E.wkEdges) (2 * input + (if rising then 0 else 1))) 4 (input + (if rising then 256 else 0)) 0xFFFF)

/-- The RTC runs and is valid: its wake triggers act (R385). -/
def State.rtcActs (s : State) : Bool := s.power.mode != .off && s.clock.rtcValid

/-- RTC_ALARM (R385): the alarm then reads 0. -/
def execRtcAlarm (s : State) : Result :=
  done (s.when (s.rtcActs && s.cfg E.powerRtcAlarm != 0) (fun s => (s.setCfg E.powerRtcAlarm 0).wakeOn true true 7 0 0xFFFF))

/-- RTC_PERIOD (R385). -/
def execRtcPeriod (s : State) : Result := done (s.wakeOn true (s.rtcActs && s.cfg E.powerRtcPeriod != 0) 7 1 0xFFFF)

/-- LIN_WAKE_PULSE (R386): in LISTEN alone. -/
def execLinWakePulse (slot : Nat) (s : State) : Result :=
  doneIf s (s.variant.hasSlot slot && isLin slot)
    (s.wakeOn false (s.dieRuns (slotDie slot) && s.cfgRowOn E.pwrValid slot && s.cfgRowOn E.linWakeDetect slot) 9 slot slot)

/-- D0 receives a wake-pattern report (R173): pattern 0xFF is a link that came up. -/
def State.takeWakeReport (s : State) (slot pattern : Nat) : State :=
  if !(s.die (slotDie slot)).wakeReports.contains (slot, pattern) then s
  else (s.updDie (slotDie slot) (fun d => { d with wakeReports := d.wakeReports.erase (slot, pattern) })).wakeOn false true 8 (slot + pattern * 65536) slot

/-- WAKE_PATTERN_REPORT (R173). -/
def execWakePatternReport (slot pattern : Nat) (s : State) : Result := doneIf s (s.variant.hasSlot slot) (s.takeWakeReport slot pattern)

/-- DELAY_LINE_CALIBRATION (R388). -/
def execDelayLineCalibration (s : State) : Result :=
  done (s.when (s.power.mode != .off) (fun s => { s with island := { s.island with calibratedAt := s.clock.xrtc } }))

/-- What a sample of a tamper loop says (R384): A is the driven bit, B the level read; 0 no event. An event that stands is confirmed once. -/
def TamperLoop.sample (l : TamperLoop) (a b : Bool) : TamperLoop × Nat :=
  let fits := a == b
  let ev := if !fits && !l.lastMatch then
      let code := if b && l.lastB then 1 else if !b && !l.lastB then 2 else 3
      if code == l.state then 0 else code
    else if fits && l.lastMatch && l.state != 0 then 4 else 0
  ({ state := if ev == 0 then l.state else ev % 4, lastMatch := fits, lastB := b }, ev)

/-- A tamper event (R384): a TAMPER record, counted; in RUN doorbell 68, outside RUN events 1 to 3 may wake the device. -/
def State.tamperEvent (s : State) (loop ev : Nat) : State :=
  let s1 := (s.islandEvent 0x1C loop ([BitVec.ofNat 8 ev, 0, 0, 0] ++ toLE 4 s.rtc)).count E.tamperCntEvents
  if s1.power.mode == .run then s1.doorbell 68
  else
    let s2 := s1.when (s1.power.mode == .entering) (·.doorbell 68)
    s2.wakeOn true (ev < 4 && s2.cfgOn E.tamperWake) 6 loop 0xFFFF

/-- A tamper loop is sampled (R384). -/
def State.tamperLook (s : State) (loop : Nat) (b : Bool) : State :=
  let r := (mget {} s.island.loops loop).sample (Config.tamperBit s.island.tamperSeed s.island.tamperIndex) b
  let s1 := { s with island := { s.island with loops := mset {} s.island.loops loop r.1, tamperIndex := s.island.tamperIndex + 1 } }
  s1.when (r.2 != 0) (·.tamperEvent loop r.2)

/-- TAMPER_SAMPLE (R384). -/
def execTamperSample (loop : Nat) (level : Bool) (s : State) : Result :=
  doneIf s (loop < 2) (s.when (s.power.mode != .off && bitAt (s.cfg E.tamperEnable) loop) (·.tamperLook loop level))

end Sys2Proof.Machine
end

