-- ==== Sys2Proof/Machine/Measure.lean ====
section
/-! DEFINITION. The measurement front end of the guard die: multifunction inputs, speed inputs, VBATP and wake levels (R293 to R304). -/

namespace Sys2Proof.Machine
open Sys2Proof

/-- The measurement front end works (Table 13-1): in RUN and LISTEN, and in a start once D0 has its supplies. -/
def State.measureOn (s : State) : Bool :=
  match s.power.mode with
  | .run | .entering | .listen => true
  | .starting => s.power.resetN && (s.power.phase != .supplies || s.power.left == 1)
  | _ => false

def State.mi (s : State) (i : Nat) : MiInput := mget {} s.measure.mi i
def State.setMi (s : State) (i : Nat) (x : MiInput) : State := { s with measure := { s.measure with mi := mset {} s.measure.mi i x } }
def State.spd (s : State) (k : Nat) : SpdInput := mget {} s.measure.spd k
def State.setSpd (s : State) (k : Nat) (x : SpdInput) : State := { s with measure := { s.measure with spd := mset {} s.measure.spd k x } }

/-- The entries of input i are those of input 0 at index + i. -/
def State.cfgMi (s : State) (e i : Nat) : Nat := s.cfg (e + i * 256)

/-- `mi.diag` (R295): the highest confirmed code. -/
def MiInput.diag (x : MiInput) : Nat := x.diags.foldl (fun m d => if d.2.on then max m d.1 else m) 0

/-- `mi.valid` (R294, R295). -/
def State.miValid (s : State) (i : Nat) : Bool := s.cfgMi E.miMode i != 0 && (s.mi i).has && !(s.mi i).edgeOver && (s.mi i).diag == 0

/-- A value of an input with the time that produced it (R294). -/
def State.miSet (s : State) (i v : Nat) : State := (s.setSlot E.miValue i v).setSlot E.miTimestamp i s.gptp

/-- A confirmation or clearing (R295): counted, recorded, and source 66; outside RUN the island holds it (R387). -/
def State.diagEvent (s : State) (i code : Nat) (on : Bool) : State :=
  let p := [BitVec.ofNat 8 code, if on then 1 else 0, 0, 0] ++ toLE 4 (encodeF32 ⟨(s.mi i).lastConv, 1000000⟩)
  let s1 := s.countSlot E.miCntDiagEvents i
  if s1.inRun then (s1.evidence 0 0x11 i p).doorbell 66 else s1.islandEvent 0x11 i p

/-- One observation of a condition of Table 10-2: it is confirmed, or clears, when it has held against the present state for `need` observations in a row and
`span` ticks. -/
def DiagCond.look (d : DiagCond) (obs : Bool) (need span now : Nat) : DiagCond × Bool :=
  if obs == d.on then ({ d with run := 0, since := 0 }, false)
  else
    let since := if d.run == 0 then now else d.since
    if need ≤ d.run + 1 && span ≤ now - since then ({ on := obs }, true) else ({ d with run := d.run + 1, since := since }, false)

/-- One condition of an input is observed. -/
def State.miLook (s : State) (i code : Nat) (obs : Bool) (need span : Nat) : State :=
  let x := s.mi i
  let r := (mget {} x.diags code).look obs need span s.clock.ticks
  let s1 := s.setMi i { x with diags := mset {} x.diags code r.1 }
  s1.when r.2 (·.diagEvent i code obs)

/-- The conditions of Table 10-2 that every conversion shows, codes 2 to 5, of a conversion in µV. -/
def State.miDiagnose (s : State) (i : Nat) (v : Int) : State :=
  let low : Int := s.cfgMi E.miDiagLowLimit i
  let high : Int := s.cfgMi E.miDiagHighLimit i
  let span := msTicks (s.cfgMi E.miDiagPersistence i)
  (((s.miLook i 2 (low != 0 && v < low * 1000) 1 span).miLook i 3 (high != 0 && high * 1000 < v) 1 span).miLook i 4 (v < -500000) 2 0).miLook i 5
    (40500000 < v || (s.mi i).edgeOver) 2 0

/-- The digital value becomes the comparator's level (R294); in LISTEN a change of a masked input wakes the device (R383). -/
def State.miDigital (s : State) (i : Nat) : State :=
  let x := s.mi i
  let v := encodeF32 (Exact.ofNat (if x.level then 1 else 0))
  let changed := x.has && s.stSlot E.miValue i != v
  let s1 := (s.setMi i { x with has := true, debounce := false }).miSet i v
  s1.wakeOn false (changed && bitAt (s1.cfg E.powerMiWakeMask) i) 5 i 0xFFFF

/-- The comparator of a digital input has this level (R294): a level that differs from the value starts the debounce, one that returns ends it. -/
def State.miCompare (s : State) (i : Nat) (level : Bool) : State :=
  let x := s.mi i
  let s1 := s.setMi i { x with level := level }
  let differs := !x.has || s.stSlot E.miValue i != encodeF32 (Exact.ofNat (if level then 1 else 0))
  if !differs then s1.setMi i { x with level := level, debounce := false }
  else if s.cfgMi E.miDebounce i == 0 then s1.miDigital i
  else s1.setMi i { x with level := level, debounce := true }

/-- The analog value (R294): the mean of the last 2^`mi.average` conversions once that many have been taken. -/
def State.miAnalog (s : State) (i : Nat) : State :=
  let n := 2 ^ s.cfgMi E.miAverage i
  let x := s.mi i
  if x.convs.length < n then s
  else (s.setMi i { x with has := true }).miSet i (encodeF32 ⟨(x.convs.take n).sum, n * 1000000⟩)

/-- The level that an input holds before its first rising edge, in frequency and duty mode (R294). -/
def MiInput.held (x : MiInput) (above below : Bool) : MiInput :=
  if x.rises.isEmpty && x.ref.isNone && (above || below) then { x with level := above } else x

/-- A conversion of an enabled input (R294, R295). A digital input's comparator sees the voltage that was converted; between the thresholds the input no longer
stays beyond one, and the debounce ends. -/
def State.miConvert (s : State) (i : Nat) (v : Int) : State :=
  let mode := s.cfgMi E.miMode i
  let x := s.mi i
  let above := decide ((s.cfgMi E.miThresholdHigh i : Int) * 1000 < v)
  let below := decide (v < (s.cfgMi E.miThresholdLow i : Int) * 1000)
  let y : MiInput := { x with lastConv := v, convs := (v :: x.convs).take (2 ^ s.cfgMi E.miAverage i) }
  let s2 := if mode == 1 then (s.setMi i y).miAnalog i
    else if mode == 2 then
      if above || below then (s.setMi i y).miCompare i above else s.setMi i { y with debounce := false }
    else s.setMi i (y.held above below)
  s2.miDiagnose i v

/-- An edge of the comparator in frequency or duty mode (R294). -/
def MiInput.edge (x : MiInput) (rising : Bool) (now : Nat) : MiInput :=
  if rising then { x with level := true, rise := now, highDone := x.high, rises := now :: x.rises }
  else { x with level := false, high := if x.level then x.high + (now - x.rise) else x.high }

/-- An edge on an input (R294): in mode 2 it moves the comparator. -/
def State.miEdge (s : State) (i : Nat) (rising : Bool) : State :=
  let mode := s.cfgMi E.miMode i
  if mode == 2 then s.miCompare i rising
  else if mode == 3 || mode == 4 then s.setMi i ((s.mi i).edge rising s.clock.ticks)
  else s

/-- Two of these instants, newest first, lie less than `d` apart. -/
def close (d : Nat) : List Nat → Bool
  | a :: b :: l => a - b < d || close d (b :: l)
  | _ => false

/-- A gate ends (R294): the value over the rising edges t_0 to t_n, none where no edge came before the gate. -/
def MiInput.gateValue (x : MiInput) (duty : Bool) : Option Nat :=
  match x.rises, x.ref with
  | [], _ => some (if duty then encodeF32 (Exact.ofNat (if x.level then 100 else 0)) else 0)
  | tn :: _, some t0 =>
    some (if duty then encodeF32 (ratio (100 * x.highDone) (tn - t0)) else encodeF32 (ratio (x.rises.length * 40000000) (tn - t0)))
  | _, none => none

/-- The gate that follows: the last rising edge is its t_0. -/
def MiInput.nextGate (x : MiInput) : MiInput :=
  let fast := close 800 (x.rises ++ x.ref.toList)
  match x.rises with
  | [] => { x with edgeOver := false }
  | tn :: _ => { x with ref := some tn, rises := [], high := x.high - x.highDone, highDone := 0, edgeOver := fast }

/-- A gate of mode 3 or 4 ends. -/
def State.miGate (s : State) (i : Nat) : State :=
  let x := s.mi i
  let v := x.gateValue (s.cfgMi E.miMode i == 4)
  let s1 := s.setMi i { x.nextGate with has := x.has || v.isSome }
  match v with
  | some w => s1.miSet i w
  | none => s1

/-- `spd.state` (Table 10-6). -/
def State.spdState (s : State) (k : Nat) : Nat :=
  let x := s.spd k
  if s.cfgMi E.spdMode k == 0 then 0 else if x.overrange then 4 else if x.isOpen then 3 else if x.valid then 1 else 2

/-- Speed and frequency over m periods of `span` ticks together (R299). -/
def State.spdValues (s : State) (k m span : Nat) : State :=
  (s.setSlot E.spdSpeed k (encodeF32 (ratio (m * 3600 * 40000000) (s.cfgMi E.spdPulsesPerKm k * span)))).setSlot E.spdFrequency k (encodeF32 (ratio (m * 40000000) span))

/-- The m periods that the speed is taken from, and their length together (R299). -/
def State.spdSpan (s : State) (k : Nat) : Nat × Nat :=
  let e := (s.spd k).edges
  let m := min (s.cfgMi E.spdSpeedAverage k) (e.length - 1)
  (m, e.headD 0 - (e.drop m).headD 0)

/-- The input changes its direction (R300): counted, recorded, source 66. -/
def State.spdReverse (s : State) (k : Nat) : State :=
  let x := s.spd k
  let s1 := (s.setSpd k { x with reversed := !x.reversed, longRun := 0, refNext := true }).countSlot E.spdCntReversals k
  (s1.evidence 0 0x12 k ([if x.reversed then 0 else 1, 0, 0, 0, 0, 0, 0, 0] ++ toLE 8 x.count)).doorbell 66

/-- The pair is checked for its direction (R300). -/
def State.spdChecks (s : State) (k : Nat) : Bool := s.cfgMi E.spdMode k == 2 && s.cfgMi E.spdPolarity k == 0

/-- An input after a counted edge with the period that ends with it (R298 to R300). -/
def SpdInput.counted (x : SpdInput) (now average : Nat) (period : Option Nat) (long : Bool) : SpdInput :=
  let edges := match x.ref with
    | some r => [now, r]
    | none => now :: x.edges
  let short := (period.map (fun p => decide (p < 1600))).getD false
  let good := if short then 0 else if x.overrange then x.good + 1 else 0
  let ends := x.overrange && good == 16
  { x with
    count := (x.count + 1) % 2 ^ 48
    edges := (if ends then [now] else edges).take (average + 1)
    ref := none
    good := if ends then 0 else good
    overrange := short || (x.overrange && !ends)
    valid := !(short || ends) && (x.valid || (!x.overrange && 2 ≤ edges.length))
    longRun := if long then x.longRun + 1 else 0 }

/-- A counted edge (R298 to R300). -/
def State.spdEdge (s : State) (k highTicks : Nat) : State :=
  let x := s.spd k
  let now := s.clock.ticks
  if x.refNext then s.setSpd k { x with refNext := false, ref := some now }
  else
    let period := (x.ref.orElse (fun _ => x.edges.head?)).map (now - ·)
    let long := s.spdChecks k && (period.map (fun p => decide (p < 2 * highTicks))).getD false
    let y := x.counted now (s.cfgMi E.spdSpeedAverage k) period long
    let s1 := (s.setSpd k y).setSlot E.spdLastEdge k s.gptp
    let s2 := s1.when (y.overrange && !x.overrange) (·.countSlot E.spdCntOverrange k)
    let r := s2.spdSpan k
    let s3 := s2.when (y.valid && 0 < r.1) (·.spdValues k r.1 r.2)
    s3.when (16 ≤ y.longRun) (·.spdReverse k)

/-- The speed of an overdue edge (R299), until the input stands still. -/
def State.spdDecelerate (s : State) (k : Nat) : State :=
  let x := s.spd k
  let r := s.spdSpan k
  let wait := s.clock.ticks - x.edges.headD 0
  if !x.valid || r.1 == 0 || wait * r.1 ≤ r.2 || msTicks (s.cfgMi E.spdZeroTimeout k) ≤ wait then s
  else s.setSlot E.spdSpeed k (encodeF32 (ratio (3600 * 40000000) (s.cfgMi E.spdPulsesPerKm k * wait)))

/-- Standstill (R299): the speed is 0, and valid unless an overrange still asks for 16 good periods (R298). -/
def State.spdStandstill (s : State) (k : Nat) : State :=
  let x := s.spd k
  ((s.setSpd k { x with valid := !x.overrange, edges := if x.valid then x.edges else x.edges.take 1 }).setSlot E.spdSpeed k 0).setSlot E.spdFrequency k 0

/-- An input reports open, or no longer (R301). Its speed is not valid meanwhile, so its periods count anew (R299). -/
def State.spdOpen (s : State) (k : Nat) (absent : Bool) : State :=
  let x := s.spd k
  (s.setSpd k { x with isOpen := absent, edges := if absent == x.isOpen then x.edges else [] }).when (absent && !x.isOpen) (·.countSlot E.spdCntOpen k)

/-- D0 writes counts and reversed states to MRAM (R300, R302). -/
def State.storeDistance (s : State) : State :=
  let m := s.mram
  { s with mram := { m with
    spdCounts := (List.range 4).foldl (fun c k => mset 0 c k (s.spd k).count) m.spdCounts
    spdReversed := (List.range 4).foldl (fun r k => if (s.spd k).reversed then setBit r k else clearBit r k) m.spdReversed
    spdRtc := s.rtc } }.mramWrite

/-- DISTANCE_STORE (R302). -/
def execDistanceStore (s : State) : Result := done (s.when s.inRun State.storeDistance)

/-- A write of `spd.distanceReset` (R302): the count is 0, and the record carries the old one. -/
def State.resetDistance (s : State) (k : Nat) : State :=
  let x := s.spd k
  (s.setSpd k { x with count := 0 }).evidence 0 0x14 k (toLE 8 x.count ++ toLE 4 (s.cfgMi E.spdPulsesPerKm k))

/-- A conversion of VBATP (R303): the mean of the last 16, and the system from the first 100 since the start. -/
def State.vbatConvert (s : State) (v : Int) : State :=
  let m := s.measure
  let l := (v :: m.vbat).take 16
  let n := m.vbatCount + 1
  let sum := if n ≤ 100 then m.vbatSum + v else m.vbatSum
  let s1 := { s with measure := { m with vbat := l, vbatCount := n, vbatSum := sum } }
  let s2 := if l.length == 16 then (s1.set E.vbatVoltage (encodeF32 ⟨l.sum, 16000000⟩)).set E.vbatTimestamp s.gptp else s1
  s2.when (n == 100) (·.set E.vbatSystem (if sum < 1800000000 then 1 else 2))

/-- FRESHNESS_STORE (R122): D0 writes the latest freshness values and PN state to MRAM. -/
def State.storeFreshness (s : State) : State := { s with mram := { s.mram with latest := s.fresh64 } }.mramWrite
def execFreshnessStore (s : State) : Result := done (s.when s.inRun State.storeFreshness)

end Sys2Proof.Machine
end

