-- ==== Sys2Proof/Machine/OdCheck.lean ====
section
/-! DEFINITION. The checks of a value against its entry alone (R484): 0 passes, 0x07 length, 0x08 above the range, 0x09 below it, 0x0A no valid
encoding, no listed code, or a bit marked "write 0". -/

namespace Sys2Proof.Machine
open Sys2Proof

/-- A number against a range. -/
def rangeStatus (lo hi x : Nat) : Nat := if hi < x then 0x08 else if x < lo then 0x09 else 0

/-- A number against a list of codes or a set of encodings. -/
def oneOf (ok : Bool) : Nat := if ok then 0 else 0x0A

/-- A two's complement number of a type (Table 3-1). -/
def signedOf (ty : OdType) (x : Nat) : Int :=
  let n := 256 ^ (ty.size.getD 8)
  if n ≤ 2 * x then (x : Int) - (n : Int) else (x : Int)

/-- A signed number against a range. -/
def srangeStatus (lo hi x : Int) : Nat := if hi < x then 0x08 else if x < lo then 0x09 else 0

/-- A destination code of Table 6-4: a slot, an internal port, an entry of a group, a tunnel, drop, or none. -/
def destCode (x : Nat) : Bool :=
  x < 0xE0 || (0x100 ≤ x && x < 0x10E) || (0x400 ≤ x && x < 0x800) || (0x8000 ≤ x && x < 0x8400) || x == 0xFFFE || x == 0xFFFF

/-- Binary32: exponent all ones is no finite value. -/
def f32Special (x : Nat) : Bool := x / 2 ^ 23 % 256 == 255
/-- Binary32 that is no number. -/
def f32Nan (x : Nat) : Bool := f32Special x && x % 2 ^ 23 != 0

/-- Table 10-3 has the source of a code, with a number in its range (R315). -/
def operandKnown (code : Nat) : Bool :=
  match code / 4096 with
  | 1 => code % 4096 < 256
  | 2 => code % 4096 < 16
  | 3 => code % 4096 < 4
  | 4 => code % 4096 < 4
  | 5 => code % 4096 == 0
  | 6 => code % 4096 < 8
  | 7 => code % 4096 == 0
  | _ => false

/-- A LIN schedule slot (R128): bits 31 to 24 and action 3 are no codes; a slot that sends or waits lasts 10 ms or more. -/
def linSlotStatus (x : Nat) : Nat :=
  if x / 2 ^ 24 != 0 || bitsOf x 7 6 == 3 then 0x0A
  else if (bitsOf x 7 6 == 1 || bitsOf x 7 6 == 2) && bitsOf x 23 8 < 10 then 0x09
  else 0

/-- A LIN identifier's configuration (R126, Table 4-9): bits 12 to 4 write 0; a published or subscribed response has 1 to 8 bytes. -/
def linIdStatus (x : Nat) : Nat :=
  if bitsOf x 12 4 != 0 then 0x0A
  else if 8 < bitsOf x 3 0 then 0x08
  else if (bitAt x 15 || bitAt x 14) && bitsOf x 3 0 == 0 then 0x09
  else 0

/-- The single-entry condition of an entry's Description. -/
def Check.status (v : Variant) (ty : OdType) (c : Check) (x : Nat) : Nat :=
  match c with
  | .any => oneOf (ty != .bool || x < 2)
  | .range lo hi => rangeStatus lo hi x
  | .srange lo hi => srangeStatus lo hi (signedOf ty x)
  | .rangeOr lo hi extra => if x == extra then 0 else rangeStatus lo hi x
  | .codes l => oneOf (l.contains x)
  | .mask m => oneOf (x &&& m == 0)
  | .mul8 lo hi => if rangeStatus lo hi x != 0 then rangeStatus lo hi x else oneOf (x % 8 == 0)
  | .die1 => rangeStatus 1 v.nc x
  | .die0 => rangeStatus 0 v.nc x
  | .dest => oneOf (destCode x)
  | .flush => oneOf (x == 0xFFFF || x < 256)
  | .linSlot => linSlotStatus x
  | .linId => linIdStatus x
  | .wakeId => oneOf (x == 0xFFFFFFFF || bitsOf x 30 29 == 0)
  | .f32Finite => oneOf (!f32Special x)
  | .f32NonZero => oneOf (!f32Special x && x % 2 ^ 31 != 0)
  | .operand => oneOf (x == 0 || operandKnown x)
  | .f32Min0 => if f32Nan x then 0x0A else if 2 ^ 31 < x then 0x09 else 0
  | .f32Range lo hi => if f32Nan x then 0x0A else if 2 ^ 31 ≤ x then 0x09 else rangeStatus lo hi x

/-- A value against its entry: its length, then its condition. -/
def OdEntry.valueStatus (v : Variant) (o : OdEntry) (b : Bytes) : Nat :=
  match o.ty.size with
  | some n => if b.length == n then o.chk.status v o.ty (leNat b) else 0x07
  | none => 0

/-- An entry exists at a row: outside TABLEs at none, in a TABLE at a row of it (R64, R484). -/
def odPlace (v : Variant) (e row : Nat) : Bool :=
  match odObject v (e / 256) with
  | some o => (odEntry v e).isSome && (if o.cap == 0 then row == noRow else decide (row < o.rows v))
  | none => false

/-- A value that reached validation without a write (R484). -/
def odValueStatus (v : Variant) (e x : Nat) : Nat :=
  match odEntry v e with
  | some o => if x < 256 ^ (o.ty.size.getD 0) || o.ty.size.isNone then o.chk.status v o.ty x else 0x07
  | none => 0x01

end Sys2Proof.Machine
end

