-- ==== Sys2Proof/Machine/EvidencePort.lean ====
section
/-! DEFINITION. The commands of Saffron and of the Evidence port (R324, R325, R330 to R347). -/

namespace Sys2Proof.Machine
open Sys2Proof

/-- A request as D0 receives it (Table 11-1): RTC seconds are those of the reception, but for an event detected while Saffron did not run (R326). -/
def State.received (s : State) (r : EvReq) : EvReq := if r.deferred then r else { r with rtc := s.rtc, rtcOk := s.clock.rtcValid }

/-- EVIDENCE_REQUEST (R324): the request at the front of a die's lane 2 enters the append queue when it has room; while Saffron is not
running, requests wait in the lane (R326, Table 1-6). -/
def State.takeRequest (s : State) (n : Nat) : State :=
  match (s.die n).lane2 with
  | .ev r :: rest =>
    if s.linkTo n && s.ev.running && decide (s.ev.queue.length < 256) then
      (s.updDie n (fun d => { d with lane2 := rest })).updEv (fun e => { e with queue := e.queue ++ [s.received r] })
    else s
  | _ => s

def execEvidenceRequest (src : Nat) (s : State) : Result := doneIf s (src == 0 || s.variant.hasDie src) (s.takeRequest src)

/-- RECORD_APPEND (R328): the request at the front of the append queue becomes the next record; one detected while Saffron did not run waits for the next START
where this start has had none (R326, R371). -/
def State.appendNext (s : State) : State :=
  match s.ev.queue with
  | r :: rest =>
    if !s.ev.running then s
    else if r.deferred && !s.ev.started then s.updEv (fun e => { e with queue := rest, waiting := e.waiting ++ [r] })
    else (s.updEv (fun e => { e with queue := rest })).append r
  | [] => s

def execRecordAppend (s : State) : Result := done s.appendNext

/-- The COALESCE_OVERFLOW record of a source (R325). -/
def State.overflowReq (s : State) (die cause n : Nat) : EvReq := s.evReq die 0x0D die (toLE 4 n ++ [BitVec.ofNat 8 cause])

/-- What a source sends when room for `room` messages has returned: its entries in order, then the overflow record (R325). -/
def Coalesce.send (c : Coalesce) (last : EvReq) (room : Nat) : List EvReq × Coalesce :=
  if c.entries.length ≤ room then
    if c.overflow == 0 then (c.entries, {})
    else if c.entries.length < room then (c.entries ++ [last], {})
    else (c.entries, { c with entries := [] })
  else (c.entries.take room, { c with entries := c.entries.drop room })

/-- COALESCE_TABLE_SEND (R325). -/
def State.sendTable (s : State) (src : Nat) : State :=
  if src == 0 then
    let r := s.ev.coal.send (s.overflowReq 0 0 s.ev.coal.overflow) (256 - s.ev.queue.length)
    s.updEv (fun e => { e with queue := e.queue ++ r.1, coal := r.2 })
  else
    let d := s.die src
    let r := d.coal.send (s.overflowReq src 0 d.coal.overflow) (Config.laneCapacity - d.lane2.length)
    s.updDie src (fun d => { d with lane2 := d.lane2 ++ r.1.map .ev, coal := r.2 })

def execCoalesceTableSend (src : Nat) (s : State) : Result := doneIf s (src == 0 || s.variant.hasDie src) (s.sendTable src)

/-- LOSS_RANGE_TIMEOUT (R331): 1 s has passed since the range opened. -/
def execLossRangeTimeout (s : State) : Result := done (s.when s.ev.running State.closeLoss)

/-- SEAL_PERIOD_EXPIRY (R332): a periodic seal is due. -/
def execSealPeriodExpiry (s : State) : Result :=
  done (s.when s.ev.period (fun s => (s.updEv (fun e => { e with period := false })).trigger 0))

/-- SEAL_SPACING_END (R332): the deferred triggers produce one seal. -/
def execSealSpacingEnd (s : State) : Result :=
  done (s.when s.ev.spacing (fun s => (s.updEv (fun e => { e with spacing := false })).sealTry))

/-- NEXT_TREE_READY (R337). -/
def State.nextTreeReady (s : State) : State :=
  if s.ev.running && !s.ev.startTree then
    let j := s.ev.nextSeal / 32768
    if s.ev.activeTree then (s.treeMade (j + 1)).updEv (fun e => { e with nextTree := true })
    else ((s.treeMade j).updEv (fun e => { e with activeTree := true })).sealTry
  else s

def execNextTreeReady (s : State) : Result := done s.nextTreeReady

/-- ACTIVE_TREE_READY (R337): the tree regenerated after a start; waiting seals proceed. -/
def State.activeTreeReady (s : State) : State :=
  if s.ev.running && s.ev.startTree then ((s.treeMade (s.ev.nextSeal / 32768)).updEv (fun e => { e with startTree := false, activeTree := true, nextTree := false })).sealTry
  else s

def execActiveTreeReady (s : State) : Result := done s.activeTreeReady

/-- The STATUS word (Table 11-5). -/
def State.evStatusWord (s : State) : Word :=
  let b (c : Bool) (k : Nat) : Nat := if c then 2 ^ k else 0
  BitVec.ofNat 32 (b s.evHi 31 + b s.evDat 30 + b s.ev.ovr 29 + b s.ev.full 28 + b s.ev.cmdErr 27 + b s.ev.fetchReady 26 +
    b s.ev.fetchErr 25 + b s.ev.underrun 24 + s.evState % 8 * 2 ^ 21 + s.ev.unread % 32768)

/-- An Evidence port command: STATUS and the words that follow it leave, then its effect (R344). -/
def State.evCommand (s : State) (words : List Word) (f : Evidence → Evidence) : State := ((s.emit (.evStatus s.evStatusWord words)).updEv f).fifoFlow

/-- The command words of Table 11-6 carry opcodes 0x01 to 0x0C and their complement (R345). -/
def evWordKnown (w : Word) : Bool :=
  let op := bitsOf w.toNat 31 24
  bitsOf w.toNat 23 16 == 255 - op && decide (1 ≤ op) && decide (op ≤ 12)

/-- The next `n` words of a READ (Table 11-6): zeros beyond the unread words. -/
def Evidence.readWords (e : Evidence) (n : Nat) : List Word :=
  let l := ((e.fifo.drop e.readPos).take n).map (·.word)
  l ++ List.replicate (n - l.length) 0

/-- MARK and REWIND move the mark and the read position (R340). -/
def Evidence.mark (e : Evidence) : Evidence := { e with markPos := e.readPos }
def Evidence.rewind (e : Evidence) : Evidence := { e with readPos := e.markPos }

/-- Free the words before the read position and deliver the records they hold (R330, R340). -/
def Evidence.release (e : Evidence) : Evidence :=
  let freed := (e.fifo.take e.readPos).filterMap (fun w => if w.ends == 0 then none else some w.ends)
  { freed.foldl Evidence.deliver e with fifo := e.fifo.drop e.readPos, readPos := 0, markPos := 0 }

/-- The sticky bits that a mask names are cleared (Table 11-5). -/
def Evidence.clear (e : Evidence) (mask : Nat) : Evidence :=
  { e with ovr := e.ovr && !bitAt mask 0, cmdErr := e.cmdErr && !bitAt mask 1,
           underrun := e.underrun && !bitAt mask 2, fetchErr := e.fetchErr && !bitAt mask 3 }

/-- The fetch buffer discarded and a fetch started (R347). -/
def Evidence.startFetch (e : Evidence) (f : Fetch) : Evidence :=
  { e with fetch := f, fetchReady := false, fetchBuf := [], fetchPos := 0, fetchSeq := 0 }

/-- FETCH_COMPLETE (R347): FETCH_READY with the item loaded, or FETCH_ERR. -/
def State.fetchComplete (s : State) : State :=
  let fail (s : State) : State := s.updEv (fun e => { e with fetch := .idle, fetchErr := true })
  match s.ev.fetch with
  | .idle => s
  | .loadingRecord seq =>
    match s.ev.entry seq with
    | some j =>
      if j.intact then
        s.updEv (fun e => { e with fetch := .idle, fetchReady := true, fetchBuf := toWords j.bytes, fetchPos := 0, fetchSeq := seq })
      else fail (s.damagedEntry j)
    | none => fail s
  | .loadingSeal n =>
    match s.ev.sealHeld n with
    | some (x, true) => s.updEv (fun e => { e with fetch := .idle, fetchReady := true, fetchBuf := toWords x, fetchPos := 0, fetchSeq := 0 })
    | _ => fail s

def execEvFetchComplete (s : State) : Result := done (s.when s.inRun State.fetchComplete)

/-- The fetched record is delivered (R330). -/
def Evidence.ackFetch (e : Evidence) : Evidence := if e.fetchReady then e.deliver e.fetchSeq else e

/-- A transaction on the Evidence port (R344 to R346): its command word, the complete argument words after it, and how many data words the host clocks. STATUS leaves
first. A word whose complement does not match or whose opcode is unknown is ignored and sets CMD_ERR; while the port is off every command is ignored (R339); a command
whose argument words are not complete has no effect. -/
def State.evTransfer (s : State) (w : Word) (args : List Word) (n : Nat) : State :=
  let op := bitsOf w.toNat 31 24
  let arg := bitsOf w.toNat 15 0
  if !s.inRun then s
  else if !evWordKnown w then (s.emit (.evStatus s.evStatusWord [])).when s.evPortOn (·.updEv (fun e => { e with cmdErr := true }))
  else if !s.evPortOn then s.emit (.evStatus s.evStatusWord [])
  else match op, args with
    | 2, _ => s.evCommand (s.ev.readWords n) (fun e => { e with readPos := e.readPos + min n e.unread, underrun := e.underrun || decide (e.unread < n) })
    | 3, _ => s.evCommand [] Evidence.mark
    | 4, _ => s.evCommand [] Evidence.rewind
    | 5, _ => s.evCommand [] Evidence.release
    | 6, _ => s.evCommand [] (·.clear arg)
    | 7, lo :: hi :: _ => s.evCommand [0, 0] (·.startFetch (.loadingRecord (lo.toNat + hi.toNat * 2 ^ 32)))
    | 8, k :: _ => s.evCommand [0] (·.startFetch (.loadingSeal k.toNat))
    | 9, _ =>
      let l := (s.ev.fetchBuf.drop s.ev.fetchPos).take n
      s.evCommand (l ++ List.replicate (n - l.length) 0) (fun e => { e with fetchPos := e.fetchPos + l.length })
    | 10, _ => s.evCommand [] Evidence.ackFetch
    | 11, _ => (s.evCommand [] id).trigger 2
    | 12, _ => s.evCommand ([BitVec.ofNat 32 (s.ev.held * 65536 + s.ev.unread)].take n) id
    | _, l => s.emit (.evStatus s.evStatusWord (l.map (fun _ => 0)))

/-- A command word (R345): opcode, its complement, and the argument. -/
def evCmd (op arg : Nat) : Word := BitVec.ofNat 32 (op * 2 ^ 24 + (255 - op) * 2 ^ 16 + arg % 65536)

/-- READ (R341, R346). -/
def execEvRead (n : Nat) (s : State) : Result := done (s.evTransfer (evCmd 2 n) [] n)

/-- MARK (R340). -/
def execEvMark (s : State) : Result := done (s.evTransfer (evCmd 3 0) [] 0)

/-- REWIND (R340). -/
def execEvRewind (s : State) : Result := done (s.evTransfer (evCmd 4 0) [] 0)

/-- RELEASE (R340). -/
def execEvRelease (s : State) : Result := done (s.evTransfer (evCmd 5 0) [] 0)

/-- CLEAR (R346, Table 11-5). -/
def execEvClear (mask : Nat) (s : State) : Result := done (s.evTransfer (evCmd 6 mask) [] 0)

/-- FETCH_RECORD (R344, R347): its sequence in two argument words, low word first. -/
def execEvFetchRecord (seq : Nat) (s : State) : Result := done (s.evTransfer (evCmd 7 0) [BitVec.ofNat 32 seq, BitVec.ofNat 32 (seq / 2 ^ 32)] 0)

/-- FETCH_SEAL (R344, R347): its number in an argument word. -/
def execEvFetchSeal (number : Nat) (s : State) : Result := done (s.evTransfer (evCmd 8 0) [BitVec.ofNat 32 number] 0)

/-- READ_FETCH (R346): words beyond the loaded item return 0. -/
def execEvReadFetch (n : Nat) (s : State) : Result := done (s.evTransfer (evCmd 9 n) [] n)

/-- ACK_FETCH (R330, R346). -/
def execEvAckFetch (s : State) : Result := done (s.evTransfer (evCmd 10 0) [] 0)

/-- SEAL_NOW (R332, R346): trigger 2. -/
def execEvSealNow (s : State) : Result := done (s.evTransfer (evCmd 11 0) [] 0)

/-- FILL (R346): [30:16] held words, [14:0] unread words. -/
def execEvFill (s : State) : Result := done (s.evTransfer (evCmd 12 0) [] 1)

/-- NOP (R346): STATUS only, also while the port is off; a word of another opcode is a transaction of that word alone. -/
def execEvNop (word : Word) (s : State) : Result := done (s.evTransfer word [] 0)

/-- The TIME record of a gPTP change (R323): event code, RTC, and the grandmaster identity. -/
def State.timeRecord (s : State) (code before after : Nat) : State :=
  s.evidence 0 0x06 0 (toLE 4 code ++ toLE 4 before ++ toLE 4 after ++ toLE 4 0 ++ toLE 8 s.clock.gmIdentity)

/-- GPTP_SYNC_STATE_CHANGE (R159, R323): the time unit's state changes, its time becomes its grandmaster's (a free value, log 14), and a TIME record is requested. -/
def State.gptpChange (s : State) (c : GptpChange) : State :=
  let set (b : Bool) (g : Nat) : State := { s with clock := { s.clock with synced := b, gmIdentity := g } }
  let steer (t : State) : State := { t with clock := { t.clock with gptpBase := Config.gptpMeasure t.fresh } }.draw
  match c with
  | .synced => (steer (set true s.clock.gmIdentity)).timeRecord 2 s.rtc s.rtc
  | .lost => (set false s.clock.gmIdentity).timeRecord 3 s.rtc s.rtc
  | .grandmaster g => (steer (set s.clock.synced (g % 2 ^ 64))).timeRecord 4 s.rtc s.rtc

def execGptpSyncStateChange (change : GptpChange) (s : State) : Result :=
  done (s.when (s.inRun && s.cfgOn E.timeGptpEnable) (·.gptpChange change))

end Sys2Proof.Machine
end

