-- ==== Sys2Proof/Machine/Rules.lean ====
section
/-! DEFINITION. Plausibility rules: operands, verdicts, states, firing and release, and the measurement commands that make D0 evaluate them
(R307 to R314). -/

namespace Sys2Proof.Machine
open Sys2Proof

/-- The dies that host a tap. -/
def State.tapHosts (s : State) (row : Nat) : List Nat := s.dieList.filter (fun n => (mget [] s.sumac.inForce.taps n).contains row)

/-- A tap's value is stale (R307). -/
def State.tapStale (s : State) (row : Nat) : Bool :=
  match mfind s.measure.taps row with
  | none => true
  | some v => decide (v.2.1 + s.cfgRow E.tapMaxAge row * 1000000 < s.gptp) || (s.tapHosts row).all (fun n => (s.die n).state == 3 || s.lostDie n)

/-- An operand (Table 10-3): its f32 value and whether it is valid. -/
def State.operand (s : State) (code const : Nat) : Nat × Bool :=
  let i := code % 4096
  match code / 4096 with
  | 1 => (((mfind s.measure.taps i).map (·.1)).getD 0, !s.tapStale i)
  | 2 => (s.stSlot E.miValue i, s.miValid i)
  | 3 => (s.stSlot E.spdSpeed i, s.spdState i == 1)
  | 4 => (s.stSlot E.spdFrequency i, s.spdState i == 1)
  | 5 => (s.st E.vbatVoltage, s.measure.vbat.length == 16)
  | 6 => (encodeF32 (Exact.ofNat (if bitAt (s.measure.wk.getD 0) i then 1 else 0)), s.measure.wk.isSome)
  | 7 => (const, true)
  | _ => (0, false)

def State.ruleA (s : State) (row : Nat) : Nat × Bool := s.operand (s.cfgRow E.ruleA row) 0
def State.ruleB (s : State) (row : Nat) : Nat × Bool := s.operand (s.cfgRow E.ruleB row) (s.cfgRow E.ruleBConstant row)

/-- The tolerance of a rule in binary64 (R309). -/
def State.tolerance (s : State) (row : Nat) : F64 :=
  F64.max (.ofF32 (s.cfgRow E.ruleAbsTol row)) ((F64.ofF32 (s.ruleB row).1).abs.scale (roundF64 (ratio (s.cfgRow E.ruleRelTol row) 10000)))

/-- Verdicts of R309. -/
inductive RuleVerdict where
  | stale | agree | disagree
  deriving DecidableEq, Repr

/-- The verdict of a rule (R309). -/
def State.verdict (s : State) (row : Nat) : RuleVerdict :=
  let a := F64.ofF32 (s.ruleA row).1
  let b := F64.ofF32 (s.ruleB row).1
  let gate := F64.ofF32 (s.cfgRow E.ruleGate row)
  let tol := s.tolerance row
  if !(s.ruleA row).2 || !(s.ruleB row).2 then .stale
  else if a.abs.lt gate && b.abs.lt gate then .agree
  else
    let bad : Bool := match s.cfgRow E.ruleCompare row with
      | 0 => tol.lt (a.sub b).abs
      | 1 => (b.add tol).lt a
      | _ => a.lt (b.sub tol)
    if bad then .disagree else .agree

def State.rule (s : State) (row : Nat) : RuleSt := mget {} s.measure.rules row
def State.setRule (s : State) (row : Nat) (r : RuleSt) : State := { s with measure := { s.measure with rules := mset {} s.measure.rules row r } }
def State.ruleAction (s : State) (row bit : Nat) : Bool := bitAt (s.cfgRow E.ruleActions row) bit

/-- VIOLATED or RECOVERING. -/
def violating (state : Nat) : Bool := state == 4 || state == 5

/-- A rule takes a state (R310): the time, entries into STALE, and the MRAM copy of a rule that enters or leaves VIOLATED or RECOVERING (R313). -/
def State.ruleTo (s : State) (row state : Nat) (timer : Bool) : State :=
  let r := s.rule row
  let s1 := s.setRule row { r with state := state, timer := timer, pendingAt := if state == 3 then s.gptp else r.pendingAt }
  if r.state == state then s1
  else
    let s2 := (s1.setRow E.ruleStSince row s.gptp).when (state == 1) (·.countRow E.ruleCntStaleEntries row)
    s2.when (violating r.state || violating state) (fun s => { s with mram := { s.mram with rules := mput s.mram.rules row (state, (s.rule row).slot) } }.mramWrite)

/-- A rule's block stands on a port (R117, R311). -/
def State.placeBlock (s : State) (row slot : Nat) : State :=
  s.when (s.variant.hasSlot slot && isCan slot) (·.updPort slot (fun p => { p with blocks := if p.blocks.contains row then p.blocks else p.blocks ++ [row] }))

/-- A rule's blocks are lifted (R312, R313). -/
def State.liftBlock (s : State) (row : Nat) : State :=
  s.forAll (s.slotList.filter (fun p => (s.port p).blocks.contains row)) (fun s p => s.updPort p (fun x => { x with blocks := x.blocks.filter (· != row) }))

/-- The offending slot of a firing (R311). -/
def State.offender (s : State) (row : Nat) : Nat :=
  let a := s.cfgRow E.ruleA row
  if a / 4096 == 1 then ((mfind s.measure.taps (a % 4096)).map (·.2.2)).getD 0xFFFF else 0xFFFF

/-- The payload of RULE_VIOLATION (Table 11-2). -/
def State.violation (s : State) (row : Nat) : Bytes :=
  toLE 4 (s.ruleA row).1 ++ toLE 4 (s.ruleB row).1 ++ toLE 4 (s.tolerance row).encode ++ toLE 2 (s.rule row).slot ++
  toLE 1 (s.cfgRow E.ruleActions row) ++ toLE 1 (s.cfgRow E.ruleCompare row) ++ toLE 8 (s.rule row).pendingAt ++ toLE 2 (s.cfgRow E.ruleA row) ++
  toLE 2 (s.cfgRow E.ruleB row)

/-- A rule fires (R311). -/
def State.ruleFires (s : State) (row : Nat) : State :=
  let slot := s.offender row
  let s1 := ((s.setRule row { (s.rule row) with slot := slot }).setRow E.ruleStOffendingSlot row slot).ruleTo row 4 false
  let s2 := s1.when (s1.ruleAction row 0) (fun s => s.evidence 0 0x15 row (s.violation row))
  let s3 := s2.when (s2.ruleAction row 1) (·.doorbell 66)
  (s3.when (s3.ruleAction row 2) (·.placeBlock row slot)).countRow E.ruleCntFired row

/-- A rule releases (R312). -/
def State.ruleReleases (s : State) (row : Nat) : State :=
  let s1 := s.ruleTo row 2 false
  let s2 := s1.when (s1.ruleAction row 4) (fun s => s.evidence 0 0x16 row ([0, 0, 0, 0] ++ toLE 4 (s.ruleA row).1 ++ toLE 4 (s.ruleB row).1))
  let s3 := s2.when (s2.ruleAction row 5) (·.liftBlock row)
  (s3.when (s3.ruleAction row 1) (·.doorbell 66)).countRow E.ruleCntReleased row

/-- What a verdict does to a rule (Table 10-4): `expired` says that its timer has just run out. -/
def State.ruleMove (s : State) (row : Nat) (v : RuleVerdict) (expired : Bool) : State :=
  let r := s.rule row
  let pend := if s.cfgRow E.rulePersistence row == 0 then (s.ruleTo row 3 false).ruleFires row else s.ruleTo row 3 true
  match r.state, v with
  | 1, .agree => s.ruleTo row 2 false
  | 1, .disagree => pend
  | 2, .stale => s.ruleTo row 1 false
  | 2, .disagree => pend
  | 3, .agree => s.ruleTo row 2 false
  | 3, .stale => s.ruleTo row 1 false
  | 3, .disagree => if expired then s.ruleFires row else s
  | 4, .agree => if s.cfgRow E.ruleReleaseTime row == 0 then (s.ruleTo row 5 false).ruleReleases row else s.ruleTo row 5 true
  | 5, .agree => if expired then s.ruleReleases row else s
  | 5, _ => s.ruleTo row 4 false
  | _, _ => s

/-- One evaluation (R309, R310). -/
def State.evalRule (s : State) (row : Nat) (expired : Bool) : State :=
  let v := s.verdict row
  let s1 := ((s.setRow E.ruleStA row (s.ruleA row).1).setRow E.ruleStB row (s.ruleB row).1).setRow E.ruleStInputStale row (if v == .stale then 1 else 0)
  s1.ruleMove row v expired

/-- Rules are evaluated (R310, Table 10-4 OFF): in RUN, whatever the security core does (R42, Table 9-4). -/
def State.rulesOn (s : State) : Bool := s.inRun

/-- Every rule that reads one of these sources is evaluated, in rising row order (R309). -/
def State.evalReading (s : State) (codes : List Nat) : State :=
  if s.rulesOn then
    s.forAll ((s.validRows E.ruleValid).filter (fun r => codes.contains (s.cfgRow E.ruleA r) || codes.contains (s.cfgRow E.ruleB r))) (fun s r => s.evalRule r false)
  else s

/-- RULE_EVALUATION (R309): every 1 ms. -/
def execRuleEvaluation (s : State) : Result :=
  done (s.when s.rulesOn (fun s => s.forAll (s.validRows E.ruleValid) (fun s r => s.evalRule r false)))

/-- RULE_TIMER_EXPIRY (R310). -/
def execRuleTimerExpiry (row : Nat) (s : State) : Result :=
  done (s.when (s.rulesOn && s.cfgRowOn E.ruleValid row && (s.rule row).timer) (fun s =>
    (s.setRule row { (s.rule row) with timer := false }).evalRule row true))

/-- An update is refused by a rule (R311, action 3). -/
def State.ruleRefuses (s : State) : Bool := (s.validRows E.ruleValid).any (fun r => violating (s.rule r).state && s.ruleAction r 3)

/-- `motion.spdSpeed` and `motion.spdValid` (R314). -/
def State.motionSpd (s : State) : Nat × Bool :=
  let k := s.cfg E.motionSpdInput
  if k < 4 && s.spdState k == 1 then (s.stSlot E.spdSpeed k, true) else (0, false)

/-- `motion.busSpeed` and `motion.busCorroborated` (R314). -/
def State.motionBus (s : State) : Nat × Bool :=
  let r := s.cfg E.motionBusRule
  if r < 64 && s.cfgRowOn E.ruleValid r && (s.rule r).state == 2 then ((s.ruleA r).1, true) else (0, false)

/-- The front end works and has the input. -/
def State.onInput (s : State) (limit i : Nat) (on : Bool) (f : State → State) : Result := doneIf s (i < limit) (s.when (s.measureOn && on) f)

/-- MI_CONVERSION (R294, R295). -/
def execMiConversion (input : Nat) (microVolt : Int) (s : State) : Result :=
  s.onInput 16 input (s.cfgMi E.miMode input != 0) (fun s => (s.miConvert input microVolt).evalReading [0x2000 + input])

/-- MI_GATE_END (R294). -/
def execMiGateEnd (input : Nat) (s : State) : Result :=
  s.onInput 16 input (s.cfgMi E.miMode input == 3 || s.cfgMi E.miMode input == 4) (fun s => (s.miGate input).evalReading [0x2000 + input])

/-- MI_DIAGNOSTIC_SLOT (R296): the conversion feeds no value. -/
def execMiDiagnosticSlot (input : Nat) (microVolt : Int) (s : State) : Result :=
  s.onInput 16 input (s.cfgMi E.miMode input != 0 && s.cfgMi E.miDiagOpenEnable input == 1) (fun s =>
    (s.setMi input { (s.mi input) with lastConv := microVolt }).miLook input 1 ((s.cfgMi E.miDiagOpenThreshold input : Int) * 1000 < microVolt) 3 0)

/-- MI_EDGE (R294). -/
def execMiEdge (input : Nat) (rising : Bool) (s : State) : Result :=
  s.onInput 16 input (2 ≤ s.cfgMi E.miMode input) (fun s => (s.miEdge input rising).when (s.cfgMi E.miMode input == 2) (·.evalReading [0x2000 + input]))

/-- MI_DEBOUNCE_EXPIRY (R294, R383). -/
def execMiDebounceExpiry (input : Nat) (s : State) : Result :=
  s.onInput 16 input (s.cfgMi E.miMode input == 2 && (s.mi input).debounce) (fun s => (s.miDigital input).evalReading [0x2000 + input])

/-- SPD_COUNTED_EDGE (R298). -/
def execSpdCountedEdge (input highTicks : Nat) (s : State) : Result :=
  s.onInput 4 input (s.cfgMi E.spdMode input != 0) (fun s => (s.spdEdge input highTicks).evalReading [0x3000 + input, 0x4000 + input])

/-- SPD_DECELERATION_UPDATE (R299). -/
def execSpdDecelerationUpdate (input : Nat) (s : State) : Result :=
  s.onInput 4 input (s.cfgMi E.spdMode input != 0) (fun s => (s.spdDecelerate input).evalReading [0x3000 + input, 0x4000 + input])

/-- SPD_ZERO_TIMEOUT (R299). -/
def execSpdZeroTimeout (input : Nat) (s : State) : Result :=
  s.onInput 4 input (s.cfgMi E.spdMode input != 0) (fun s => (s.spdStandstill input).evalReading [0x3000 + input, 0x4000 + input])

/-- SPD_OPEN (R301): in differential mode. -/
def execSpdOpen (input : Nat) (absent : Bool) (s : State) : Result :=
  s.onInput 4 input (s.cfgMi E.spdMode input == 2) (·.spdOpen input absent)

/-- VBATP_CONVERSION (R303). -/
def execVbatpConversion (microVolt : Int) (s : State) : Result :=
  done (s.when s.measureOn (fun s => (s.vbatConvert microVolt).evalReading [0x5000]))

/-- WK_LEVEL_SAMPLE (R304). -/
def execWkLevelSample (levels : Nat) (s : State) : Result :=
  done (s.when s.measureOn (fun s =>
    (({ s with measure := { s.measure with wk := some (levels % 256) } }.set E.wkLevels (levels % 256)).when ((s.cfg E.powerKeepAwake &&& levels % 256) != 0)
      State.stirred).evalReading ((List.range 8).map (0x6000 + ·))))

/-- A tap value reaches D0 (R307): kept when its ingress timestamp is later than the one held. -/
def State.takeTap (s : State) (row : Nat) (v : Nat × Nat × Nat) : State :=
  let newer : Bool := match mfind s.measure.taps row with
    | some h => h.2.1 < v.2.1
    | none => true
  if newer then
    ({ s with measure := { s.measure with taps := mput s.measure.taps row v } }.countRow E.tapCntValues row).evalReading [0x1000 + row]
  else s.countRow E.tapCntSuperseded row

/-- The message at the front of a die's lane 2, when it is a tap value, reaches D0. -/
def State.tapFrom (s : State) (n : Nat) : State :=
  match (s.die n).lane2 with
  | .tap row v ts slot :: l => (s.updDie n (fun d => { d with lane2 := l })).when (s.cfgRowOn E.tapValid row) (·.takeTap row (v, ts, slot))
  | _ => s

/-- TAP_VALUE_RECEIVE (R307). -/
def execTapValueReceive (die : Nat) (s : State) : Result :=
  doneIf s (s.variant.hasDie die) (s.when (s.rulesOn && s.linkTo die) (·.tapFrom die))

end Sys2Proof.Machine
end

