-- ==== Sys2Proof/Machine/Life.lean ====
section
/-! DEFINITION. The life cycle: fuse copies, transitions, the end of SERVICE, RETIRED-pending, provisioning (R352 to R360, R370, R371). -/

namespace Sys2Proof.Machine
open Sys2Proof

/-- The T bits of a copy, and how many are burnt (Table 12-1). -/
def fuseT (c : Nat) : Nat := bitsOf c 125 2
def toggles (c : Nat) : Nat := if fuseT c == 0 then 0 else Nat.log2 (fuseT c) + 1

/-- A copy is well-formed (R353). -/
def copyOk (c : Nat) : Bool :=
  !bitAt c 127 && (fuseT c &&& (fuseT c + 1)) == 0 && (!bitAt c 1 || bitAt c 0) && (fuseT c == 0 || bitAt c 1)

/-- The state a well-formed copy decodes to (R353). -/
def copyState (c : Nat) : Nat :=
  if bitAt c 126 then 4 else if bitAt c 1 then (if toggles c % 2 == 0 then 2 else 3) else if bitAt c 0 then 1 else 0

/-- Two copies agree (R354). -/
def copiesAgree (a b : Nat) : Bool := copyOk a && copyOk b && copyState a == copyState b

/-- The majority word of two agreeing copies: the one with more T bits (R354). -/
def majorityOf (a b : Nat) : Nat := if toggles a < toggles b then b else a

/-- A third copy burnt up to the word of the two when its bits are a strict subset of it (Table 12-2). -/
def repaired (w c : Nat) : Nat := if (c &&& w) == c then w else c

/-- Resolution of the copies (Table 12-2): state, agreeing copies after repair, and the copies. -/
def Fuses.resolve (f : Fuses) : Nat × Nat × Fuses :=
  if copiesAgree f.copy1 f.copy2 && copiesAgree f.copy2 f.copy3 then (copyState f.copy1, 3, f)
  else if copiesAgree f.copy1 f.copy2 then
    let w := majorityOf f.copy1 f.copy2
    (copyState w, if repaired w f.copy3 == w then 3 else 2, { f with copy3 := repaired w f.copy3 })
  else if copiesAgree f.copy1 f.copy3 then
    let w := majorityOf f.copy1 f.copy3
    (copyState w, if repaired w f.copy2 == w then 3 else 2, { f with copy2 := repaired w f.copy2 })
  else if copiesAgree f.copy2 f.copy3 then
    let w := majorityOf f.copy2 f.copy3
    (copyState w, if repaired w f.copy1 == w then 3 else 2, { f with copy1 := repaired w f.copy1 })
  else (5, 0, f)

/-- The majority word (R354). -/
def Fuses.word (f : Fuses) : Nat :=
  if copiesAgree f.copy1 f.copy2 then (if copiesAgree f.copy2 f.copy3 then majorityOf (majorityOf f.copy1 f.copy2) f.copy3 else majorityOf f.copy1 f.copy2)
  else if copiesAgree f.copy1 f.copy3 then majorityOf f.copy1 f.copy3
  else majorityOf f.copy2 f.copy3

/-- Visits to SERVICE left (`0x3300:05`). -/
def Fuses.visitsLeft (f : Fuses) : Nat := (124 - toggles f.word) / 2

/-- New bits burnt into every copy (R355). -/
def Fuses.burn (f : Fuses) (bits : Nat) : Fuses := { f with copy1 := f.copy1 ||| bits, copy2 := f.copy2 ||| bits, copy3 := f.copy3 ||| bits }

/-- The transitions a request may name (Table 12-3), with the level each needs; 0 where there is none. -/
def transitionLevel (src dst : Nat) : Nat :=
  match src, dst with
  | 0, 1 => 4
  | 1, 2 => 3
  | 2, 3 => 2
  | 3, 2 => 2
  | 1, 4 => 3
  | 2, 4 => 3
  | 3, 4 => 3
  | _, _ => 0

/-- A transition's further condition holds (Table 12-3). That of BLANK, a valid blob written, holds in no BLANK device, because the blob itself makes the transition (R370, log 44). -/
def Fuses.transitionOk (f : Fuses) (src dst : Nat) : Bool := transitionLevel src dst != 0 && src != 0 && !(src == 2 && dst == 3 && 122 < toggles f.word)

/-- The bits a transition burns (Table 12-3), with the lock bits of Table 12-4. -/
def Fuses.transition (f : Fuses) (src dst : Nat) : Fuses :=
  if dst == 4 then { f.burn (2 ^ 126) with lockTransport := true, lockDuk := true, lockMfg := true, lockRoots := true, lockSeed := true }
  else if dst == 1 then { f.burn 1 with lockTransport := true }
  else if src == 1 then { f.burn 2 with lockMfg := true }
  else f.burn (2 ^ (2 + toggles f.word))

/-- The bits of a transition in the first `k` copies (R355); its lock bits with copy 2, where it takes effect (log 44). -/
def Fuses.transitionCut (f : Fuses) (src dst k : Nat) : Fuses :=
  let g := f.transition src dst
  if k == 0 then f
  else if k == 1 then { f with copy1 := g.copy1 }
  else if k == 2 then { g with copy3 := f.copy3 }
  else g

/-- A request waits for its confirmation, or a transition runs (R358, R378). -/
def State.lifePending (s : State) : Bool :=
  s.life.change.isSome || s.life.request.any (fun r => s.clock.ticks - r.since ≤ msTicks 10000)

/-- Port blocks purge the material of records that are no longer usable (R359, R368). -/
def State.purgeKeys (s : State) : State :=
  { s with keys := { s.keys with held := s.keys.held.filter (fun k => match mfind s.keys.records k with
      | some r => rootUsable s.life.state r.root && s.keys.genOk r
      | none => false) } }

/-- Key records erased, each with a KEY record of event 5 (R359). -/
def State.eraseRecords (s : State) (p : KeyRecord → Bool) : State :=
  (s.keys.records.filter (fun x => p x.2)).foldl (fun s x =>
    { s with keys := { s.keys with records := mdel s.keys.records x.1, failed := s.keys.failed.filter (· != x.1) } }.keyEvidence x.1 5 x.2.parentGen) s

/-- Saffron appends every request in its queue, and what D0 has coalesced behind it (R325). -/
def State.flushQueue (s : State) : State :=
  let s1 := s.forAll (List.range s.ev.queue.length) (fun s _ => s.appendNext)
  if !s1.ev.running || s1.ev.coal.idle then s1
  else
    let c := s1.ev.coal
    let l := c.entries ++ (if c.overflow == 0 then [] else [s1.overflowReq 0 0 c.overflow])
    (s1.updEv (fun e => { e with coal := {}, queue := l })).forAll (List.range l.length) (fun s _ => s.appendNext)

/-- A LIFECYCLE record (Table 11-2), appended with what precedes it. -/
def State.lifeRecord (s : State) (before after copies ap level : Nat) : State :=
  let s1 := s.evidence 0 0x19 0 [BitVec.ofNat 8 before, BitVec.ofNat 8 after, BitVec.ofNat 8 copies, BitVec.ofNat 8 ap, BitVec.ofNat 8 level]
  { s1.flushQueue with mram := { s1.flushQueue.mram with lifecycle := after, lifecycleCopies := copies } }

/-- SERVICE begins or ends (R360): its timeout runs from the entry. -/
def Life.enter (l : Life) (state copies now timeout : Nat) : Life :=
  { l with state := state, agree := copies, change := none, request := none, serviceFrom := if state == 3 then now else 0, serviceTime := if state == 3 then timeout else 0, barred := false }

/-- The copies that agree on a state once its bits are burnt (R354, R355): one that stands ahead by other bits does not. From RETIRED-pending RET makes every
copy decode to RETIRED (R356). -/
def Fuses.agreeing (f : Fuses) (state : Nat) : Nat := if f.resolve.1 == state then f.resolve.2.1 else 3

/-- Steps 2 to 6 of R359: fuses, erasures, the LIFECYCLE record, the second seal, the end of every session. Without seal numbers a RETIRED part's chain closes
without its last seal (R338). -/
def State.lifeGo (s : State) (dst ap level : Nat) : State :=
  let src := s.life.state
  let f := s.fuses.transition src dst
  let s1 := { s with
    fuses := f
    life := s.life.enter dst (f.agreeing dst) s.clock.xrtc (60 * s.cfg E.lifecycleServiceTimeout) }
  let s2 := if dst == 4 then s1.eraseRecords (fun _ => true) else s1.when (src == 1 && dst == 2) (·.eraseRecords (fun r => r.root == 1))
  let s3 := (s2.lifeRecord src dst (f.agreeing dst) ap level).trigger 4
  let s4 := s3.when (dst == 4 && decide (sealNumbers ≤ s3.ev.nextSeal)) State.chainOver
  s4.endSessions.purgeKeys

/-- Step 1 of R359: a trigger-4 seal frozen from now on, at whose end the transition goes on; while Saffron does not run it waits for it. Without seal numbers
there is no seal to wait for (R338). -/
def State.lifeStart (s : State) (dst ap level : Nat) : State :=
  if sealNumbers ≤ s.ev.nextSeal then s.lifeGo dst ap level
  else { s with life := { s.life with change := some ⟨dst, ap, level⟩, request := none } }.trigger 4

/-- Seconds of SERVICE left (R360): XRTC seconds from the entry. -/
def State.serviceLeft (s : State) : Nat := if s.life.state == 3 then s.life.serviceTime - (s.clock.xrtc - s.life.serviceFrom) / 32768 else 0

/-- SERVICE ends once its time is over (R360). -/
def State.serviceOver (s : State) : State := s.when (s.life.state == 3 && s.serviceLeft == 0 && s.life.change.isNone) (·.lifeStart 2 0 0)

/-- A SERVICE whose time ended while D0 was without supply, or its security core down, ends before any session opens (R360). -/
def State.serviceMissed (s : State) : State :=
  let s1 := s.serviceOver
  s1.when (s1.life.state == 3 && s1.life.change.isSome) (fun s => { s with life := { s.life with barred := true } })

/-- The guard firmware is back (class 0x0F): Saffron starts with cause 3, and an interrupted recomputation begins again; a SERVICE that
ran out meanwhile ends (R360). -/
def State.securityCoreBack (s : State) : State :=
  if !s.safe.securityDown then s
  else
    let s1 := ({ s with safe := { s.safe with securityDown := false, engines := [], noSha := false, noAes := false, noTrng := false } }.saffronStart 3).guardHealth
      (s.healthState 0) |> fun t => t.appendHeld t.island.held
    (s1.when s1.sumac.interrupted (fun s =>
      { s with sumac := { s.sumac with interrupted := false, computing := true, waiting := none } }.set E.placementState 1)).when s1.inRun (·.serviceMissed)

/-- The first seal of a transition has been issued (R359). -/
def State.lifeSealed (s : State) : State :=
  match s.life.change with
  | some c => s.lifeGo c.target c.ap c.level
  | none => s

/-- A write of `lifecycle.request` (R358): status 0x0A for a transition outside Table 12-3, or without a TRNG (Table 12-11). -/
def State.requestLife (s : State) (sess target : Nat) : State × Nat :=
  let s1 := { s with life := { s.life with request := none } }
  if transitionLevel s.life.state target == 0 || s.life.change.isSome || s.safe.noTrng then (s1, 0x0A)
  else ({ s1 with life := { s1.life with request := some ⟨sess, target, (Config.trng s.fresh).toNat % 2 ^ 32, s.clock.ticks⟩ } }.draw, 0)

/-- The status of a confirmation (R358). -/
def State.confirmStatus (s : State) (r : LifeRequest) (level : Nat) : Nat :=
  if s.committing || s.update.state == 3 || s.update.state == 5 then 0x0C
  else if level < transitionLevel s.life.state r.target then 0x06
  else if !s.fuses.transitionOk s.life.state r.target then 0x0A
  else 0

/-- A write of `lifecycle.confirm` (R358, R359). -/
def State.confirmLife (s : State) (sess token : Nat) : State × Nat :=
  match s.life.request with
  | none => (s.set E.lifecycleLastResult 0x0A, 0x0A)
  | some r =>
    if r.sess != sess || r.token != token || msTicks 10000 < s.clock.ticks - r.since then
      ({ s with life := { s.life with request := none } }.set E.lifecycleLastResult 0x0A, 0x0A)
    else
      let st := s.confirmStatus r (s.sessLevel sess)
      let s1 := s.set E.lifecycleLastResult st
      if st == 0 then (s1.lifeStart r.target (apCode sess) (s.sessLevel sess), 0) else (s1, st)

/-- SERVICE_TIMEOUT (R360): D0 returns the device to FIELD; outside RUN, or while the security core is down, when it runs again. -/
def execServiceTimeout (s : State) : Result :=
  done (s.when (s.life.state == 3) (fun s =>
    { s with life := { s.life with serviceTime := 0 } }.when (s.inRun && !s.safe.securityDown) State.serviceOver))

/-- The RETIRED-pending record has been delivered, or lies in a range that a JOURNAL_LOSS record has named (R356). -/
def State.pendingDone (s : State) : Bool :=
  s.life.pendingSeq != 0 && s.life.pendingSeq ≤ s.ev.lastSeq &&
  (match mfind s.ev.journal (s.life.pendingSeq % 4096) with
    | some j => if j.seq == s.life.pendingSeq then j.delivered || (j.lost && s.ev.lossCount == 0) else s.ev.lossCount == 0
    | none => false)

/-- RETIRED_PENDING_BURN (R356): the device enters RETIRED under the sequence of R359, its first seal included. -/
def execRetiredPendingBurn (s : State) : Result :=
  done (s.when (s.inRun && s.life.state == 5 && s.pendingDone && s.life.change.isNone && !s.safe.securityDown) (·.lifeStart 4 0 0))

/-- The provisioning key (Table 12-6). -/
def Fuses.provisionKey (f : Fuses) : Bytes := Config.kdf f.transportBytes (ascii "AZ8100-PROVISION") serialBytes 32

/-- The three roots of a provisioning blob, when it is valid (R370). -/
def Fuses.openBlob (f : Fuses) (b : Bytes) : Option Bytes :=
  if imgField b 0 4 == 0x41565250 && imgField b 4 2 == 1 && imgField b 6 2 == 0 && (b.drop 8).take 16 == serialBytes then
    gcmOpen f.provisionKey ((b.drop 24).take 12) (b.take 24) (b.drop 36)
  else none

/-- The chain opens (R327, R371). -/
def State.openChain (s : State) : State :=
  s.updEv (fun e => { e with chainOpen := true, running := true, ident := leNat s.fuses.identity, h := s.chainStart, lastSeq := 0, startTree := true, activeTree := false, nextTree := false })

/-- The entry to PROVISIONED (R371): roots, SEED and I, the public key, P, and LIFECYCLE as record 1. Applied commits count from here (R99). -/
def State.provision (s : State) (roots : Bytes) (ap level : Nat) : State :=
  let root (i : Nat) : Nat := leNat ((roots.drop (32 * i)).take 32)
  let fresh := (Config.trng s.fresh).toNat + 2 ^ 256 * ((Config.trng (s.fresh + 1)).toNat % 2 ^ 128)
  let f := s.fuses
  let f1 := { f with mfgRoot := root 0, fieldRoot := root 1, serviceRoot := root 2, rootsWritten := true,
                     seed := if f.seedWritten then f.seed else fresh, seedWritten := true }
  let n := (f1.transition 0 1).agreeing 1
  let s1 := { s.draw.draw with fuses := f1.transition 0 1, life := s.life.enter 1 n s.clock.xrtc 0 }
  let s2 := (s1.set E.identityHssPublicKey (leNat (hssPublic f1.identity))).set E.commitGeneration 0
  let s3 := s2.openChain
  let s4 := s3.append (s3.evReq 0 0x19 0 [0, 1, BitVec.ofNat 8 n, BitVec.ofNat 8 ap, BitVec.ofNat 8 level])
  ({ s4 with mram := { s4.mram with lifecycle := 1, lifecycleCopies := n } }.trigger 4).endSessions

/-- The first `n` of the three root keys, as burnt (R371). -/
def Fuses.rootsHeld (f : Fuses) (n : Nat) : Nat := (f.mfgRoot + 2 ^ 256 * f.fieldRoot + 2 ^ 512 * f.serviceRoot) % 2 ^ (256 * n)

/-- A write of the provisioning blob (R370, R371, Table 12-11): state and status. A root region that is written must be the same. Without SHA-256, which its key, the top tree and
record 1 need, provisioning stops too, with the status of a missing engine (DEDUCED, log 44). -/
def State.provisionWrite (s : State) (sess : Nat) (b : Bytes) : State × Nat :=
  if s.life.state != 0 then (s, 0x0A)
  else if s.safe.noAes || s.safe.noSha then (s, 0x37)
  else if s.safe.noTrng then (s, 0x0A)
  else match s.fuses.openBlob b with
    | none => (s, 0x0A)
    | some roots =>
      let f := s.fuses
      let n := if f.rootsWritten then 3 else f.burnt
      if leNat (roots.take (32 * min 3 n)) != f.rootsHeld (min 3 n) then (s, 0x0A)
      else (s.provision roots (apCode sess) (s.sessLevel sess), 0)

end Sys2Proof.Machine
end

