-- ==== Sys2Proof/Machine/Keys.lean ====
section
/-! DEFINITION. Key operations, attestation, and the signing of seals (R335 to R338, R363 to R368, R372, R373). -/

namespace Sys2Proof.Machine
open Sys2Proof

/-- A session's own value of a live entry (R72, R372, R375). -/
def State.live (s : State) (sess e : Nat) : Nat := mget (odDefault s.variant e) (s.sess sess).live e
def State.setLive (s : State) (sess e v : Nat) : State :=
  s.updSess sess (fun x => { x with live := mset (odDefault s.variant e) x.live e v })

/-- The present root's value (Table 12-5). -/
def State.rootBytes (s : State) (root : Nat) : Bytes := toLE 32 (s.fuses.root root)

/-- The key check value (Table 12-6), its first byte least significant. -/
def keyCheck (key : Bytes) : Nat := leNat ((bytes256 (Config.hmacSha256 key (ascii "AZ8100-KCV"))).take 4)

/-- A record with its material wrapped under DUK with a fresh IV (Table 12-6), and the state after the draw. -/
def State.wrap (s : State) (slot : Nat) (r : KeyRecord) (key : Bytes) : State :=
  let iv := toLE 12 (Config.trng s.fresh).toNat
  let r1 : KeyRecord := { r with iv := iv, boxed := gcmSeal s.fuses.dukBytes iv (r.header slot) (pad 32 key), intact := true }
  let r1 := { r1 with crc := r1.check slot }
  { s.draw with keys := { s.keys with records := mput s.keys.records slot r1, failed := s.keys.failed.filter (· != slot) } }

/-- The fields of a key command (Table 12-14). -/
structure KeyCmd where
  slot : Nat
  kind : Nat
  parent : Nat
  usage : Nat
  blocks : Nat
  dies : Nat
  length : Nat
  relation : Nat
  label : Nat
  deriving DecidableEq, Repr

def State.keyCmd (s : State) (sess : Nat) : KeyCmd :=
  ⟨s.live sess E.keycmdSlot, s.live sess E.keycmdKind, s.live sess E.keycmdParent, s.live sess E.keycmdUsage, s.live sess E.keycmdBlocks, s.live sess E.keycmdDies,
    s.live sess E.keycmdLength, s.live sess E.keycmdRelation, s.live sess E.keycmdLabel⟩

/-- The record a command makes, before its material (Table 12-7). -/
def KeyCmd.record (c : KeyCmd) (root parentGen origin : Nat) : KeyRecord :=
  { kind := c.kind, root := root, parent := c.parent, parentGen := parentGen, ownGen := 0, usage := c.usage, blocks := c.blocks, dies := c.dies, length := c.length,
    origin := origin, relation := c.relation, label := if c.kind == 1 && origin == 0 then c.label else 0, kcv := 0, iv := [], boxed := [], intact := true }

/-- A family's fields (Table 12-8). -/
def KeyCmd.familyOk (c : KeyCmd) : Bool := c.usage == useDerive && c.blocks == blkStore && c.length == 32 && c.dies == 0 && c.relation == 0 && c.parent < 16

/-- A block bit of a leaf has a row of Table 12-8 that the usage bits serve. -/
def frameUse (usage block length : Nat) : Bool :=
  let gen := bitAt usage 0
  let verify := bitAt usage 1
  if block == 1 then gen && verify && length == 16 else gen || verify

/-- A leaf's fields (Table 12-8): a relationship key exactly as its row says; any other leaf has frame uses alone, for every block it names a row of the table,
encryption only for CANsec or MACsec, and a die (DEDUCED, log 113). -/
def KeyCmd.leafOk (c : KeyCmd) : Bool :=
  if c.usage == useAttest then c.blocks == blkAttest && c.length == 32 && 1 ≤ c.relation && c.relation ≤ 3 && c.dies == 0
  else c.usage < 16 && 1 ≤ c.blocks && c.blocks < 8 && (c.length == 16 || c.length == 32) && c.relation == 0 && 1 ≤ c.dies && c.dies < 256 && !bitAt c.dies 0 &&
    (List.range 3).all (fun b => !bitAt c.blocks b || frameUse c.usage b c.length) && (c.usage < 4 || 2 ≤ c.blocks)

/-- A slot holds a family that new leaves may name. -/
def State.parentOk (s : State) (slot : Nat) : Bool :=
  (match mfind s.keys.records slot with
    | some p => p.kind == 0
    | none => false) && s.keyStatus slot useDerive blkStore 0 == 0

/-- A family number is in use under a root. -/
def State.familyTaken (s : State) (root f : Nat) : Bool := s.keys.records.any (fun x => x.2.kind == 0 && x.2.root == root && x.2.parent == f)

/-- The generation of a slot's family. -/
def State.familyGen (s : State) (slot : Nat) : Nat := ((mfind s.keys.records slot).map (·.ownGen)).getD 0

/-- DERIVE (R366, Table 12-6): the new record's state, or 0x0A. -/
def State.derive (s : State) (c : KeyCmd) : Option State :=
  let root := selectedRoot s.life.state
  if (mfind s.keys.records c.slot).isSome || root == 0 then none
  else if c.kind == 0 then
    if !c.familyOk || s.familyTaken root c.parent then none
    else
      let g := s.keys.gen root
      let key := Config.kdf (s.rootBytes root) (ascii "AZ8100-FAMILY") (toLE 1 c.parent ++ toLE 4 g ++ serialBytes) 32
      some (s.wrap c.slot { c.record root g 0 with kcv := keyCheck key } key)
  else if c.kind != 1 || !c.leafOk || !s.parentOk c.parent then none
  else
    let g := s.familyGen c.parent
    let key := Config.kdf (s.keyBytes c.parent) (ascii "AZ8100-LEAF") (toLE 4 g ++ toLE 16 c.label ++ serialBytes) c.length
    some (s.wrap c.slot { c.record root g 0 with kcv := keyCheck key } key)

/-- IMPORT (R367): the blob is opened under the import key with the record's first 40 bytes as additional data. -/
def State.importKey (s : State) (c : KeyCmd) (blob : Bytes) : Option State :=
  let root := selectedRoot s.life.state
  if (mfind s.keys.records c.slot).isSome || root == 0 || c.kind != 1 || !c.leafOk || !s.parentOk c.parent then none
  else
    let g := s.familyGen c.parent
    let kek := Config.kdf (s.keyBytes c.parent) (ascii "AZ8100-IMPORT") (toLE 4 g ++ toLE 1 c.slot ++ serialBytes) 32
    let iv := blob.take 12
    let key := (gcmCtr kek iv ((blob.drop 12).take 32)).take c.length
    let r := { c.record root g 1 with kcv := keyCheck key }
    match gcmOpen kek iv (r.header c.slot) (blob.drop 12) with
    | some p => if p == pad 32 key then some (s.wrap c.slot r key) else none
    | none => none

/-- A root's next generation (R368). -/
def KeyStore.advance (k : KeyStore) (root : Nat) : KeyStore :=
  if root == 1 then { k with genMfg := (k.genMfg + 1) % 2 ^ 32 }
  else if root == 2 then { k with genField := (k.genField + 1) % 2 ^ 32 }
  else { k with genService := (k.genService + 1) % 2 ^ 32 }

/-- INVALIDATE (R368): of a family, whose record is wrapped anew because its generation is part of the additional data (Table 12-6), or of the present root by slot 0xFF,
which ends every session opened under it. -/
def State.invalidate (s : State) (c : KeyCmd) : Option State :=
  let root := selectedRoot s.life.state
  if c.slot == 0xFF then
    if root == 0 then none
    else some ({ s with keys := { s.keys.advance root with failed := [] } }.endAccessPoint 1 |>.endAccessPoint 2)
  else match mfind s.keys.records c.slot with
    | some r =>
      if r.kind != 0 then none
      else
        let r1 := { r with ownGen := (r.ownGen + 1) % 2 ^ 32 }
        let s1 := match s.material c.slot r with
          | some key => if r.sane c.slot then s.wrap c.slot r1 key else { s with keys := { s.keys with records := mput s.keys.records c.slot r1 } }
          | none => { s with keys := { s.keys with records := mput s.keys.records c.slot r1 } }
        some { s1 with keys := { s1.keys with failed := [] } }
    | none => none

/-- ERASE (R366). -/
def State.eraseKey (s : State) (c : KeyCmd) : State := { s with keys := { s.keys with records := mdel s.keys.records c.slot, failed := [] } }

/-- The generation after an operation, as its KEY record states it (R366). -/
def State.genAfter (s : State) (t : State) (op : Nat) (c : KeyCmd) : Nat :=
  if op == 3 then (if c.slot == 0xFF then t.keys.gen (selectedRoot s.life.state) else t.familyGen c.slot)
  else if op == 4 then ((mfind s.keys.records c.slot).map (·.parentGen)).getD 0
  else ((mfind t.keys.records c.slot).map (·.parentGen)).getD 0

/-- The engines and instants that stop an operation (R366, Table 12-11). -/
def State.keyOpStop (s : State) (op : Nat) : Nat :=
  if s.committing || s.life.change.isSome then 0x0C
  else if s.safe.noSha || ((op == 1 || op == 2) && s.safe.noAes) then 0x37
  else if op == 2 && s.safe.noTrng then 0x0A
  else 0

/-- A completed operation (R366, R368): its KEY record, the purge of material, and the session's status. -/
def State.keyOpDone (s t : State) (sess op : Nat) (c : KeyCmd) : State :=
  ((t.purgeKeys.keyEvidence c.slot op (s.genAfter t op c)).setLive sess E.keycmdStatus 0)

/-- What an operation makes of the key store. -/
def State.keyOpRun (s : State) (sess op : Nat) (c : KeyCmd) : Option State :=
  match op with
  | 1 => s.derive c
  | 2 => s.importKey c (toLE 60 (s.live sess E.keycmdBlob))
  | 3 => s.invalidate c
  | _ => some (s.eraseKey c)

/-- The status that stops a session's operation; INVALIDATE of a family unwraps its record (Table 12-11). -/
def State.keyOpStatus (s : State) (sess op : Nat) : Nat :=
  if s.keyOpStop op == 0 && op == 3 && s.safe.noAes && (s.keyCmd sess).slot != 0xFF then 0x37 else s.keyOpStop op

/-- A key operation of a session (R366): state and status. -/
def State.keyOp (s : State) (sess op : Nat) : State × Nat :=
  let st := s.keyOpStatus sess op
  if st != 0 then (s.setLive sess E.keycmdStatus st, st)
  else match s.keyOpRun sess op (s.keyCmd sess) with
    | some t => (s.keyOpDone t sess op (s.keyCmd sess), 0)
    | none => (s.setLive sess E.keycmdStatus 0x0A, 0x0A)

/-- The measurement of the image of a part that this start verified, zero where none is loaded (Table 12-12). -/
def State.measured (s : State) (part : Nat) : Bytes :=
  match s.update.loaded.find? (fun r => r / 2 == part) with
  | some r => toLE 32 (imgMeasure (s.image r))
  | none => List.replicate 32 0

/-- Bytes 0 to 207 of an attestation response (Table 12-12). -/
def State.attestBody (s : State) (relation slot : Nat) : Bytes :=
  let shown := s.evState != 0
  toLE 1 relation ++ toLE 1 s.life.state ++ toLE 1 slot ++ toLE 1 s.life.agree ++ toLE 4 s.ev.bootCount ++ s.idDigest ++
  toLE 8 (if shown then s.ev.lastSeq else 0) ++ (if shown then bytes256 s.ev.h else List.replicate 32 0) ++
  s.measured 0 ++ s.measured 1 ++ s.measured 2 ++ s.measured 3

/-- A slot holds a record of a relation that an attestation may use: its first-use check passes (R368, R372). -/
def State.attestFits (s : State) (relation slot : Nat) : Bool :=
  (mfind s.keys.records slot).any (·.relation == relation) && s.keyStatus slot useAttest blkAttest 0 == 0

/-- The lowest usable slot with attest usage and a relation (R372). -/
def State.attestSlot (s : State) (relation : Nat) : Option Nat := (List.range 256).find? (s.attestFits relation)

/-- A challenge that is not answered (R373). -/
def State.attestRefused (s : State) (status : Nat) : State × Nat := (s.count E.attestCntRefused, status)

/-- A write of `attest.challenge` (R372, R373): state and status. -/
def State.attest (s : State) (sess : Nat) (challenge : Bytes) : State × Nat :=
  let recent := s.life.challenges.filter (fun t => s.clock.ticks - t < 40000000)
  let relation := s.live sess E.attestRelation
  if !(1 ≤ s.life.state && s.life.state ≤ 3) then s.attestRefused 0x0A
  else if s.safe.noSha then s.attestRefused 0x37
  else if 10 ≤ recent.length then s.attestRefused 0x0B
  else match s.attestSlot relation with
    | none => s.attestRefused 0x0A
    | some slot =>
      let body := s.attestBody relation slot
      let tag := bytes256 (Config.hmacSha256 (s.keyBytes slot) (challenge ++ body))
      (({ s with life := { s.life with challenges := s.clock.ticks :: recent } }.setLive sess E.attestResponse (leNat (body ++ tag))).count E.attestCntResponses, 0)

/-- The next seal number is used up (R336, R337): its tree is left at the last number. -/
def State.useNumber (s : State) : State :=
  let n := s.ev.nextSeal
  (s.updEv (fun e => { e with
    nextSeal := n + 1
    activeTree := if (n + 1) % 32768 == 0 then e.nextTree else e.activeTree, nextTree := if (n + 1) % 32768 == 0 then false else e.nextTree })).mramWrite

/-- A seal number that is burnt, and its SEAL_SKIP record (R335): `cause` 1 the check of its signature failed, which is fault class 0x14, or 2 the seal was not
stored. -/
def State.skipNumber (s : State) (cause : Nat) : State :=
  let n := s.ev.nextSeal
  let s1 := s.useNumber.when (cause == 1) (·.detectedFault 0x14 0 0)
  s1.evidence 0 0x1F 0 (toLE 4 n ++ toLE 4 1 ++ [BitVec.ofNat 8 cause])

/-- No seal is issued for this trigger (R335): one that waits is tried next. A life-cycle transition still waits for its seal (R359), or goes on without one when
the numbers are used up (R338). -/
def State.sealGivenUp (s : State) (j : SealJob) : State :=
  let again := j.life && s.life.change.isSome
  if decide (sealNumbers ≤ s.ev.nextSeal) && again then (s.updEv (fun e => { e with job := none })).lifeSealed
  else if s.life.state == 4 && j.trigger == 4 then s.chainOver
  else if decide (sealNumbers ≤ s.ev.nextSeal) then s.updEv (fun e => { e with job := none })
  else
    let s1 := s.updEv (fun e => { e with job := none, due := e.due ++ (if again then [4] else []) })
    if s.ev.due.isEmpty then s1 else s1.sealTry

/-- The check of a signature fails, or its seal is not stored (R335, log 114): a second attempt with the next number, or none for this trigger. -/
def State.sealFails (s : State) (j : SealJob) (cause : Nat) : State :=
  let s1 := s.skipNumber cause
  if j.retried || decide (sealNumbers ≤ s1.ev.nextSeal) then s1.sealGivenUp j
  else (s1.updEv (fun e => { e with job := some { j with retried := true } })).reserveSeal

/-- A seal is issued (R335, R336): stored among the 4 latest, offered to the FIFO. -/
def State.sealIssued (s : State) (j : SealJob) : State :=
  let n := s.ev.nextSeal
  let b := s.sealBytes j n
  let s1 := s.useNumber.updEv (fun e => { e with
    job := none, store := (e.store ++ [(n, b)]).drop (e.store.length + 1 - 4), badSeals := e.badSeals.filter (fun k => (e.store.drop (e.store.length + 1 - 4)).any (·.1 == k)), prevLastSeq := j.lastSeq, lastSealNumber := n
    anySeal := true })
  (s1.count E.evidenceCntSeals).offer (toWords b) 0 (some n)

/-- What waits for a seal: the limit of an orderly entry (R336), a transition's fuses, and the close of a RETIRED part's chain (R359). -/
def State.afterSeal (s : State) (j : SealJob) : State :=
  let s1 := s.when j.standby (fun s => (s.updEv (fun e => { e with sealLimit := e.nextSeal })).mramWrite)
  if j.life && s1.life.change.isSome then s1.lifeSealed
  else s1.when (j.trigger == 4 && s1.life.state == 4) (·.updEv (fun e => { e with closed := true, running := false }))

/-- The work on the frozen seal ends (R335). -/
def State.sealSign (s : State) (r : SealResult) : State :=
  match s.ev.job, r with
  | none, _ => s
  | some j, .stored => ((s.sealIssued j).afterSeal j).sealTry
  | some j, .checkFailed => s.sealFails j 1
  | some j, .notStored => s.sealFails j 2

/-- SEAL_SIGNED (R335). -/
def execSealSigned (result : SealResult) (s : State) : Result := done (s.when (s.ev.running && s.ev.activeTree) (·.sealSign result))

end Sys2Proof.Machine
end

