-- ==== Sys2Proof/Machine/Update.lean ====
section
/-! DEFINITION. Firmware and configuration update: Vinum deltas, gates, actions, trials (R435 to R445, R448). -/

namespace Sys2Proof.Machine
open Sys2Proof

/-- A field of a Vinum delta header (Table 15-3). -/
def deltaPart (d : Bytes) : Nat := imgField d 6 1
def deltaTarget (d : Bytes) : Nat := imgField d 12 4
def deltaLength (d : Bytes) : Nat := imgField d 48 4
def deltaOps (d : Bytes) : Nat := imgField d 52 4

/-- The header and crc of a delta are in order (R440). -/
def deltaOk (d : Bytes) : Bool :=
  imgField d 0 4 == 0x444E5656 && imgField d 4 2 == 1 && deltaPart d < 4 && 64 + deltaOps d ≤ d.length &&
  crc32 (d.take 56 ++ (d.drop 64).take (deltaOps d)) == imgField d 56 4

/-- The operations of Table 15-4 over a base: what they write, newest piece first, `none` where an operation does not lie within the operations or the
base, or END is not the last; without a base COPY and ADD are refused. `fuel` bounds the operations. -/
def deltaRun (base : Bytes) : Nat → Bytes → List Bytes → Option (List Bytes)
  | 0, _, _ => none
  | fuel + 1, ops, acc =>
    match ops with
    | [] => none
    | c :: l =>
      let src := imgField l 0 4
      let n := imgField l 4 4
      if c == 0 then (if l.isEmpty then some acc else none)
      else if c == 1 then (if 8 ≤ l.length && !base.isEmpty && src + n ≤ base.length then deltaRun base fuel (l.drop 8) ((base.drop src).take n :: acc) else none)
      else if c == 2 then
        (if 8 + n ≤ l.length && !base.isEmpty && src + n ≤ base.length then
          deltaRun base fuel (l.drop (8 + n)) (List.zipWith (· + ·) ((base.drop src).take n) ((l.drop 8).take n) :: acc)
        else none)
      else if c == 3 then (if 4 + src ≤ l.length then deltaRun base fuel (l.drop (4 + src)) ((l.drop 4).take src :: acc) else none)
      else if c == 4 then
        (if 5 ≤ l.length then deltaRun base fuel (l.drop 5) (List.replicate (imgField l 1 4) (l.headD 0) :: acc) else none)
      else none

/-- The image a delta builds over a base (R436): the output's length must equal targetLength. -/
def deltaBuild (base d : Bytes) : Option Bytes :=
  match deltaRun base (deltaOps d) ((d.drop 64).take (deltaOps d)) [] with
  | some l => if l.reverse.flatten.length == deltaLength d then some l.reverse.flatten else none
  | none => none

/-- A delta has no base (R436). -/
def deltaBaseless (d : Bytes) : Bool := imgField d 16 32 == 0

/-- The measurement that the slot record holds of a slot's image (R431). -/
def State.slotMeasure (s : State) (row : Nat) : Nat := mget 0 s.update.meas row

/-- The conditions of Table 15-5 (R437), bit by bit. -/
def State.gate (s : State) (b : Nat) : Bool :=
  let limit := decodeF32 (s.cfg E.updateSpeedThreshold)
  let volts := decodeF32 (s.st E.vbatVoltage)
  match b with
  | 0 => (s.motionSpd.2 && limit.lt (decodeF32 s.motionSpd.1)) || (s.motionBus.2 && limit.lt (decodeF32 s.motionBus.1))
  | 1 => !s.motionSpd.2 && !s.motionBus.2 && s.cfg E.updateUnknownMotion == 0
  | 2 => s.st E.vbatSystem == 0 || (s.st E.vbatSystem == 1 && volts.lt (decodeF32 (s.cfg E.updateVbatMin12))) || (s.st E.vbatSystem == 2 && volts.lt (decodeF32 (s.cfg E.updateVbatMin24)))
  | 3 => s.cfgOn E.updateOwnerLock
  | 4 => s.ruleRefuses
  | 5 => !(1 ≤ s.life.state && s.life.state ≤ 3) || s.lifePending
  | _ => false

/-- `update.gateState` (Table 15-5). -/
def State.gateState (s : State) : Nat := ((List.range 6).map (fun b => if s.gate b then 2 ^ b else 0)).sum

/-- The status of the first gate that holds, 0 for none. -/
def State.gateStatus (s : State) : Nat := (((List.range 6).find? s.gate).map (0x40 + ·)).getD 0

/-- The version an UPDATE record names as new: that of the delta held. -/
def State.newVersion (s : State) : Nat := if s.update.delta.length < 16 then 0 else deltaTarget s.update.delta

/-- The part of the delta held, for a record made before one is in progress. -/
def State.deltaPartHeld (s : State) : Nat := if s.update.part != 0xFF then s.update.part else if s.update.delta.length < 16 then 0 else deltaPart s.update.delta

/-- The part in hand is known: in progress, or named by the header of the delta received so far. -/
def State.partKnown (s : State) : Bool := s.update.part != 0xFF || (decide (16 ≤ s.update.delta.length) && decide (deltaPart s.update.delta < 4))

/-- An UPDATE record of an event on the part in hand. -/
def State.updateEvent (s : State) (event status : Nat) : State :=
  s.updateRecord event status s.deltaPartHeld (imgVersion (s.image (s.activeRow s.deltaPartHeld))) s.newVersion

/-- An action that does not apply in the present state (R439). -/
def State.updateWrong (s : State) : State × Nat := (s.set E.updateStatus 0x46, 0x0A)

/-- An action refused by a gate or a check (R439). -/
def State.updateRefused (s : State) (status : Nat) : State := (s.set E.updateStatus status).updateEvent 6 status

/-- A slot's state in the slot record (Table 15-10). -/
def State.setSlotState (s : State) (row v : Nat) : State := { s with update := { s.update with slotState := mset 0 s.update.slotState row v }.rewritten (row / 2) }

/-- The delta is discarded and the state is IDLE. -/
def State.dropDelta (s : State) : State := { s with update := { s.update with delta := [] } }.updateTo 0 0xFF

/-- A piece of a delta (Table 15-7). -/
def State.deltaWrite (s : State) (offset : Nat) (b : Bytes) : State × Nat :=
  let st := s.update.state
  if st == 3 || st == 5 then s.updateWrong
  else if 1048576 < offset + b.length then (s, 0x0A)
  else if offset == 0 then
    let s1 := s.when (st == 4) (·.setSlotState (s.spareRow s.update.part) 6)
    ({ s1 with update := { s1.update with delta := b } }.updateTo 1 0xFF, 0)
  else if st != 1 then s.updateWrong
  else if offset != s.update.delta.length then (s, 0x0A)
  else ({ s with update := { s.update with delta := s.update.delta ++ b } }, 0)

/-- The status of CHECK (R440): 0 when everything holds. The base of an operation is the active slot's image. -/
def State.checkStatus (s : State) : Nat :=
  let d := s.update.delta
  let row := s.activeRow (deltaPart d)
  if !deltaOk d then 0x47
  else if !deltaBaseless d && (imgField d 16 32 != s.slotMeasure row || (s.image row).isEmpty) then 0x48
  else if slotSize (deltaPart d) < deltaLength d then 0x47
  else if (deltaBuild (if deltaBaseless d then [] else s.image row) d).isNone then 0x47
  else 0

/-- Action 1 CHECK (R440): a gate leaves the state as it is, a failed check leads to IDLE. -/
def State.updateCheck (s : State) : State × Nat :=
  if s.update.state != 1 && s.update.state != 2 then s.updateWrong
  else if s.gateStatus != 0 then (s.updateRefused s.gateStatus, 0x0A)
  else if s.checkStatus != 0 then ((s.updateRefused s.checkStatus).dropDelta, 0x0A)
  else (((s.set E.updateStatus 0).updateTo 2 (deltaPart s.update.delta)).updateEvent 1 0, 0)

/-- Action 2 APPLY (R441): the inactive slot is erased. -/
def State.updateApply (s : State) : State × Nat :=
  if s.update.state != 2 then s.updateWrong
  else if s.gateStatus != 0 then (s.updateRefused s.gateStatus, 0x0A)
  else
    let row := s.spareRow s.update.part
    let s1 := (s.set E.updateStatus 0).setSlotState row 1
    ({ s1 with update := { s1.update with images := mset [] s1.update.images row [] } }.updateTo 3 s.update.part, 0)

/-- The header checks after END (R441), against the images of the other parts (R448). Magic, header version and signer wait for the start (R447). -/
def State.builtStatus (s : State) (part : Nat) (b : Bytes) : Nat :=
  if imgField b 6 1 != part || imgVersion b != deltaTarget s.update.delta || !bitAt (imgField b 68 1) s.variant.bit || bodyLimit part < imgBody b then 0x4B
  else if imgSecVersion b < s.floor part then 0x4A
  else if !s.compatible part b s.activeRow then 0x49
  else 0

/-- APPLY fails (R441): the inactive slot is invalid and the delta discarded. -/
def State.applyFails (s : State) (status : Nat) : State :=
  (((s.setSlotState (s.spareRow s.update.part) 6).updateRefused status)).dropDelta

/-- The slot is written (R441). -/
def State.applyDone (s : State) (ok : Bool) : State :=
  let part := s.update.part
  let base := if deltaBaseless s.update.delta then [] else s.image (s.activeRow part)
  match deltaBuild base s.update.delta with
  | none => s.applyFails 0x47
  | some b =>
    if !ok then s.applyFails 0x51
    else
      let row := s.spareRow part
      let s1 := { s with update := { s.update with images := mset [] s.update.images row b, meas := mput s.update.meas row (imgMeasure b) } }
      if s1.builtStatus part b != 0 then s1.applyFails (s1.builtStatus part b)
      else (((s1.setSlotState row 2).set E.updateStatus 0).updateTo 4 part).updateEvent 2 0

/-- UPDATE_APPLY_COMPLETE (R441): `ok` says that every page was erased, programmed and read back. -/
def execUpdateApplyComplete (ok : Bool) (s : State) : Result := done (s.when (s.inRun && s.update.state == 3) (·.applyDone ok))

/-- Doorbell 64 and the draining of every enabled port: t0 of Table 13-2. Target 1 is LISTEN, 2 STANDBY, 3 a trial boot, 4 a fallback boot. -/
def State.enterFrom (s : State) (target : Nat) : State :=
  let on := s.slotList.filter (fun p => s.portRuns p && s.portState p != 0)
  let s1 := { s with power := { s.power with mode := .entering, target := target, halted := false, enabled := on.filter s.enabled } }.doorbell 64
  s1.forAll on State.drain

/-- Action 3 START (R443): event 3; an application trial reloads every pair, any other restarts the device behind a trigger-4 seal. -/
def State.updateStart (s : State) : State × Nat :=
  if s.update.state != 4 || s.power.mode != .run then s.updateWrong
  else if s.gateStatus != 0 then (s.updateRefused s.gateStatus, 0x0A)
  else
    let part := s.update.part
    let s1 := (((s.set E.updateStatus 0).setSlotState (s.spareRow part) 3).updateTo 5 part).updateEvent 3 0
    let s2 := { s1 with update := { s1.update with trial := some part } }
    (if part == 2 then s2.appReloadAll else (s2.flushQueue.trigger 4).enterFrom 3, 0)

/-- Action 4 ABANDON (Table 15-7). -/
def State.updateAbandon (s : State) : State × Nat :=
  let st := s.update.state
  if st == 0 || st == 5 then s.updateWrong
  else
    let s1 := s.when s.partKnown (·.setSlotState (s.spareRow s.deltaPartHeld) 6)
    (((s1.set E.updateStatus 0).updateEvent 7 0).dropDelta, 0)

/-- A trial falls back (R445): an application trial at once, any other by a restart. -/
def State.fallBackNow (s : State) (status : Nat) : State :=
  match s.update.trial with
  | none => s
  | some part => (s.fallBack part status).when (part != 2) (fun s => (s.flushQueue.trigger 4).enterFrom 4)

/-- SECURITY_CORE_RESTART_COMPLETE (class 0x0F): a restart like any other, so a trial falls back (R445). -/
def execSecurityCoreRestartComplete (s : State) : Result :=
  done (s.when s.inRun (fun s => s.securityCoreBack.when (s.safe.securityDown && s.power.mode == .run) (·.fallBackNow 0x4F)))

/-- Action 5 REJECT (R445). -/
def State.updateReject (s : State) : State × Nat := if s.update.state != 5 then s.updateWrong else (s.fallBackNow 0x52, 0)

/-- TRIAL_WINDOW_END (R445). -/
def execTrialWindowEnd (s : State) : Result := done (s.when (s.inRun && s.update.window) (·.fallBackNow 0x4E))

/-- A confirmed trial (R444): the trial slot is active, the floor rises, the previous slot is kept. -/
def State.confirmed (s : State) (part : Nat) : State :=
  let row := s.spareRow part
  let b := s.image row
  let old := s.activeRow part
  let s1 := s.updateEvent 4 0
  { s1 with update := { s1.update with
      trial := none, window := false, migrated := false, delta := [], active := mset 0 s1.update.active part (1 - s.activeSlot part)
      floors := mset 0 s1.update.floors part (max (s.floor part) (imgSecVersion b))
      slotState := mput (mput s1.update.slotState old 5) row 4 }.rewritten part }.updateTo 0 0xFF

/-- A write of `update.confirm` (R444). -/
def State.updateConfirm (s : State) (version : Nat) : State × Nat :=
  match s.update.trial with
  | some part =>
    if s.update.state == 5 && version == imgVersion (s.image (s.spareRow part)) then ((s.set E.updateStatus 0).confirmed part, 0) else (s, 0x0A)
  | none => (s, 0x0A)

/-- A write of `update.action` (Table 15-7). -/
def State.updateAction (s : State) (a : Nat) : State × Nat :=
  match a with
  | 1 => s.updateCheck
  | 2 => s.updateApply
  | 3 => s.updateStart
  | 4 => s.updateAbandon
  | 5 => s.updateReject
  | _ => (s, 0x0A)

/-- Seconds of the trial left (R443). -/
def State.trialRemaining (s : State) : Nat := if s.update.window then s.cfg E.updateTrialWindow - (s.clock.ticks - s.update.windowFrom) / 40000000 else 0

end Sys2Proof.Machine
end

