-- ==== Sys2Proof/Machine/Store.lean ====
section
/-! DEFINITION. The persistent store: what a commit writes, its three copies in two banks, and their resolution (R92 to R95). Copy c (0 to 2) of bank b
has key 3 × b + c. -/

namespace Sys2Proof.Machine
open Sys2Proof

/-- An active image with staged values laid over it. -/
def layOver (v : Variant) (base staged : NMap Nat) : NMap Nat :=
  staged.foldl (fun m x => mset (odDefault v (keyEntry x.1)) m x.1 x.2) base

/-- A value of an image, the Default column where it lists none. -/
def imageValue (v : Variant) (img : NMap Nat) (k : Nat) : Nat :=
  match mfind img k with
  | some x => x
  | none => odDefault v (keyEntry k)

def odPersistent (v : Variant) (e : Nat) : Bool :=
  match odEntry v e with
  | some o => o.pers
  | none => false

/-- A persistent entry whose value in an image differs from its effective default (R93). -/
def State.departs (s : State) (img : NMap Nat) (k : Nat) : Bool :=
  odPersistent s.variant (keyEntry k) && imageValue s.variant img k != s.effDefault k

/-- The store payload of an image (R93): one record for each persistent entry that differs from its effective default. -/
def State.payloadOf (s : State) (img : NMap Nat) : NMap Nat :=
  let keys := img.map (·.1) ++ (s.od.defaultsImg.map (·.1)).filter (fun k => (mfind img k).isNone)
  (keys.filter (s.departs img)).foldl (fun m k => mput m k (imageValue s.variant img k)) []

/-- The bytes of a record (Table 3-13), and of a payload. -/
def recordSize (v : Variant) (k : Nat) : Nat :=
  10 + match odEntry v (keyEntry k) with
    | some o => o.ty.size.getD 0
    | none => 0
def payloadSize (v : Variant) (p : NMap Nat) : Nat := (p.map (fun x => recordSize v x.1)).sum

/-- The payload bytes that a copy holds (`0x1210:01`). -/
def storeCapacity : Nat := 32748

def State.activeBank (s : State) : Nat := s.st E.storeActiveBank

/-- Bytes 0 to 15 + plen of a copy (Table 3-13), and the CRC over them. -/
def StoreCopy.bytes (v : Variant) (c : StoreCopy) : Bytes :=
  toLE 4 c.magic ++ toLE 2 c.layout ++ toLE 1 c.bank ++ toLE 1 c.copy ++ toLE 4 c.wseq ++ toLE 4 c.plen ++
    c.payload.flatMap (fun r => storeRecord (keyEntry r.1) (keyRow r.1) r.2 (recordSize v r.1 - 10))
def StoreCopy.crcOf (v : Variant) (c : StoreCopy) : Nat := crc32 (c.bytes v)

/-- The word that begins every copy (Table 3-13). -/
def storeMagic : Nat := 0x41535452

/-- Copy `n` (1 to 3) of a bank with a content, its CRC made over it. -/
def storeCopy (v : Variant) (bank n layout wseq : Nat) (payload : NMap Nat) : StoreCopy :=
  let c : StoreCopy := ⟨storeMagic, layout, bank, n, wseq % 2 ^ 32, payloadSize v payload, payload, 0⟩
  { c with crc := c.crcOf v }

/-- R94: the copy at place `n` (1 to 3) of a bank is intact. -/
def StoreCopy.intact (v : Variant) (c : StoreCopy) (bank n : Nat) : Bool :=
  c.magic == storeMagic && c.bank == bank && c.copy == n && decide (c.plen ≤ storeCapacity) && c.crc == c.crcOf v

/-- The intact copies of a bank with their places 0 to 2 (R94). -/
def State.intactCopies (s : State) (bank : Nat) : List (Nat × StoreCopy) :=
  [0, 1, 2].filterMap (fun c => (mfind s.bankStore (3 * bank + c)).bind (fun x => if x.intact s.variant bank (c + 1) then some (c, x) else none))

/-- Two copies agree (R94): bank, write sequence, payload length and payload. Their CRCs cover byte 7, in which copies always differ, so they are not
compared (log 48). -/
def StoreCopy.agrees (a b : StoreCopy) : Bool := a.bank == b.bank && a.wseq == b.wseq && a.plen == b.plen && a.payload == b.payload

/-- The copy with the highest write sequence, the lowest copy number among equals (Table 3-14). -/
def newestCopy (l : List (Nat × StoreCopy)) : Option StoreCopy :=
  l.foldl (fun best x => match best with
    | none => some x.2
    | some b => if b.wseq < x.2.wseq then some x.2 else best) none

/-- What Table 3-14 selects among the intact copies: the content and the outcome. -/
def chooseCopy (l : List (Nat × StoreCopy)) : Option StoreCopy × Nat :=
  match l with
  | [] => (none, 4)
  | [a] => (some a.2, 3)
  | [a, b] => if a.2.agrees b.2 then (some a.2, 1) else (newestCopy l, 2)
  | a :: b :: c :: _ =>
    if a.2.agrees b.2 && b.2.agrees c.2 then (some a.2, 0)
    else if a.2.agrees b.2 || a.2.agrees c.2 then (some a.2, 1)
    else if b.2.agrees c.2 then (some b.2, 1)
    else (newestCopy l, 2)

/-- Content `c` written to the first `n` copies of a bank, each under its own copy number (R93, R94). -/
def State.putFirst (s : State) (bank n : Nat) (c : StoreCopy) : State :=
  { s with bankStore := (List.range n).foldl (fun m i => mput m (3 * bank + i) (storeCopy s.variant bank (i + 1) c.layout c.wseq c.payload)) s.bankStore }
def State.putCopies (s : State) (bank : Nat) (c : StoreCopy) : State := s.putFirst bank 3 c

/-- The write sequence that follows every intact copy's, as a u32 (Table 3-13). -/
def State.nextWseq (s : State) (bank : Nat) : Nat := (((s.intactCopies bank).map (·.2.wseq)).foldl max 0 + 1) % 2 ^ 32

/-- The write sequence of a copy for the STORE record (Table 11-2). -/
def State.copyWseq (s : State) (bank c : Nat) : Nat :=
  match (s.intactCopies bank).find? (·.1 == c) with
  | some x => x.2.wseq
  | none => 0xFFFFFFFF

/-- A STORE record (Table 11-2). -/
def State.storeRecord (s : State) (outcome bank used w1 w2 w3 : Nat) : State :=
  s.evidence 0 0x05 0 ([BitVec.ofNat 8 outcome, BitVec.ofNat 8 bank, 0, 0] ++ toLE 4 used ++ toLE 4 w1 ++ toLE 4 w2 ++ toLE 4 w3)

/-- The layout of the store in force: that of the copy, or of the running runtime for an empty store (R93, R446). -/
def State.runtimeLayout (s : State) : Nat :=
  match s.update.loaded.find? (fun r => r / 2 == 1) with
  | some r => imgLayout (s.image r)
  | none => 0

/-- The content in force of the active bank. -/
def State.storeContent (s : State) : Option StoreCopy := (chooseCopy (s.intactCopies s.activeBank)).1

/-- Table 3-14: the copies of the active bank resolved, rewritten where they differ, and recorded (R95); a resolution other than the first counts one masked
fault of class 0x12 (Table 9-4). -/
def State.resolveStore (s : State) : State :=
  let bank := s.activeBank
  let r := chooseCopy (s.intactCopies bank)
  let s1 := s.set E.storeLastResolution r.2
  if r.2 == 0 then s1
  else
    let c : StoreCopy := match r.1 with
      | some c => { c with wseq := s.nextWseq bank }
      | none => storeCopy s.variant bank 1 s.runtimeLayout (s.nextWseq bank) []
    let used := match r.1 with
      | some x => x.wseq
      | none => c.wseq
    (((s1.maskedFault 0x12).putCopies bank c).mramWrite).storeRecord r.2 bank used (s.copyWseq bank 0) (s.copyWseq bank 1) (s.copyWseq bank 2)

/-- The content that a commit writes (R93, R94): the payload of the new image under the next write sequence, here as copy 1. -/
def State.nextCopy (s : State) (img : NMap Nat) : StoreCopy :=
  storeCopy s.variant s.activeBank 1 ((s.storeContent.map (·.layout)).getD s.runtimeLayout) (s.nextWseq s.activeBank) (s.payloadOf img)

/-- A store write: copies 1, 2 and 3 written and read back, then resolved (R94, R95). -/
def State.writeStore (s : State) (img : NMap Nat) : State := ((s.putCopies s.activeBank (s.nextCopy img)).mramWrite).resolveStore

/-- The copy at place `c` of the active bank with a CRC that does not fit it. -/
def State.tearCopy (s : State) (c : Nat) : State :=
  { s with bankStore := match mfind s.bankStore (3 * s.activeBank + c) with
      | some x => mput s.bankStore (3 * s.activeBank + c) { x with crc := (x.crcOf s.variant + 1) % 2 ^ 32 }
      | none => s.bankStore }

/-- A store write that went wrong: the first `n` copies written, and copy `n` + 1 half written where `torn` (R94). -/
def State.partStore (s : State) (img : NMap Nat) (n : Nat) (torn : Bool) : State :=
  (s.putFirst s.activeBank n (s.nextCopy img)).when torn (·.tearCopy n)

/-- A store write cut off by a loss of power (R92): `p` is 2 × (copies complete) + (1 when the next one is torn). Copy 1 once complete, copy 2 is being
written. -/
def State.cutStore (s : State) (img : NMap Nat) (p : Nat) : State :=
  let q := if p == 2 then 3 else p
  { (s.partStore img (q / 2) (q % 2 == 1)) with mram := { s.mram with commitWseq := (s.nextCopy img).wseq } }

/-- A store write that failed as copy 1, 2 or 3 was read back (R89 t3): the store is resolved and takes the old content again. -/
def State.storeFailed (s : State) (img : NMap Nat) : State :=
  ((((s.partStore img (Config.storeProgress s.fresh % 3) true).draw).mramWrite).resolveStore).writeStore s.od.active

end Sys2Proof.Machine
end

