-- ==== Sys2Proof/Machine/Validate.lean ====
section
/-! DEFINITION. Validation of a commit's new image, and of a start's configuration (R89, R90, R96, R484): every check of the chapters with the entry
that it is reported at. The state given to a check holds the new image as its active one. A check over several entries stands at the last of them; a
reference to something that does not exist stands at the entry that refers (DEDUCED, log 21). -/

namespace Sys2Proof.Machine
open Sys2Proof

/-- A failing entry: its place in ascending index, row and subindex, and its result. -/
abbrev Failure := Nat × Nat

/-- The place of an entry in ascending index, row and subindex. -/
def ordKey (e row : Nat) : Nat := e / 256 * 2 ^ 40 + row * 256 + e % 256
def Failure.entry (f : Failure) : Nat := f.1 / 2 ^ 40 * 256 + f.1 % 256
def Failure.row (f : Failure) : Nat := f.1 / 256 % 2 ^ 32

/-- A failure at an entry where a condition holds. -/
def bad (c : Bool) (r e row : Nat) : List Failure := if c then [(ordKey e row, r)] else []

/-- A failure at a slot's entry, named by its entry at slot 0. -/
def badSlot (c : Bool) (e slot : Nat) : List Failure := bad c 0x0A (e + slot * 256) noRow

/-- The values of an image against their entries (R484). -/
def State.checkValues (s : State) : List Failure :=
  s.od.active.flatMap (fun x =>
    let st := if odPlace s.variant (keyEntry x.1) (keyRow x.1) then odValueStatus s.variant (keyEntry x.1) x.2 else 0x01
    bad (st != 0) (if st == 0x01 then 0x22 else st) (keyEntry x.1) (keyRow x.1))

/-- f_CAN periods of a bit, from the entry of its BRP (R107). -/
def State.bitPeriods (s : State) (e slot : Nat) : Nat :=
  s.cfg (e + slot * 256) * (1 + s.cfg (e + 1 + slot * 256) + s.cfg (e + 2 + slot * 256))

/-- A CAN slot (R107, R109, Table 4-1). -/
def State.checkCan (s : State) (slot : Nat) : List Failure :=
  let c (e : Nat) : Nat := s.cfg (e + slot * 256)
  let n := s.bitPeriods E.portCanNominalBrp slot
  let fd := s.bitPeriods E.portCanDataFdBrp slot
  let xl := s.bitPeriods E.portCanDataXlBrp slot
  let pwm := c E.portCanPwmEnable == 1
  badSlot (c E.portCanNominalTseg2 < c E.portCanNominalSjw) E.portCanNominalSjw slot ++
  badSlot (c E.portCanDataFdTseg2 < c E.portCanDataFdSjw) E.portCanDataFdSjw slot ++
  badSlot (c E.portCanDataXlTseg2 < c E.portCanDataXlSjw) E.portCanDataXlSjw slot ++
  badSlot (n < 160 || 8000 < n) E.portCanNominalTseg2 slot ++
  badSlot (fd < 20) E.portCanDataFdTseg2 slot ++
  badSlot (xl < 8) E.portCanDataXlTseg2 slot ++
  badSlot ((xl < 16 && !pwm) || (pwm && c E.portCanFormat < 2)) E.portCanPwmEnable slot ++
  badSlot (c E.portCanPwmShort + c E.portCanPwmLong != xl) E.portCanPwmLong slot

/-- A record permits a use (R365): usage and block bits, the die, and a length where the use asks for one. -/
def State.keyPermits (s : State) (slot usage blocks die : Nat) (lengths : List Nat) : Bool :=
  match mfind s.keys.records slot with
  | none => false
  | some r => r.usage &&& usage == usage && r.blocks &&& blocks == blocks && bitAt r.dies die && lengths.contains r.length

/-- The uses a profile makes of its key (Table 12-8). -/
def State.profUsage (s : State) (slot p : Nat) : Nat :=
  useMacVerify + (if s.cfg (profEntry E.portSecProfEgressMode slot p) == 1 then useMacGen else 0)

/-- The security object of a CAN slot (R139); its keys are looked at by every commit, and not at a start (log 22). -/
def State.checkCanSec (s : State) (keys : Bool) (slot : Nat) : List Failure :=
  let ch (c : Nat) : Nat := s.cfg (E.portSecCansecChannel + c + slot * 256)
  badSlot (s.cfgOn (E.portSecCansecEnable + slot * 256) && s.cfg (E.portCanFormat + slot * 256) < 2) E.portSecCansecEnable slot ++
  ([0, 1, 2, 3].flatMap (fun p => badSlot (keys && s.cfgOn (profEntry E.portSecProfEnable slot p) &&
    !s.keyPermits (s.cfg (profEntry E.portSecProfKeySlot slot p)) (s.profUsage slot p) blkCmac (slotDie slot) [16, 32]) (E.portSecProfKeySlot + 16 * p) slot)) ++
  ((List.range 16).flatMap (fun c => badSlot (bitAt (ch c) 31 &&
    ((List.range c).any (fun b => bitAt (ch b) 31 && bitsOf (ch b) 23 16 == bitsOf (ch c) 23 16) ||
      (keys && !s.keyPermits (ch c % 256) (channelUsage (ch c)) blkCansec (slotDie slot) [16]))) (E.portSecCansecChannel + c) slot))

/-- The shortest frame slot of a length, times 10 × bitRate, in 100 µs: 1.4 × (34 + 10 (n + 1)) bit times (R128). -/
def linSlotShort (duration length bitRate : Nat) : Bool := duration * bitRate < 14000 * (34 + 10 * (length + 1))

/-- A LIN slot (R126, R128); its schedule counts when the port is an enabled commander (log 23). -/
def State.checkLin (s : State) (slot : Nat) : List Failure :=
  let idw (i : Nat) : Nat := s.cfg (E.portLinId + i + slot * 256)
  let sl (i : Nat) : Nat := s.cfg (E.portLinSlot + i + slot * 256)
  let runs := s.cfgOn (E.portLinEnable + slot * 256) && s.cfg (E.portLinRole + slot * 256) == 0
  badSlot (runs && linAction (sl 0) == 0) E.portLinSlot slot ++
  ((List.range 64).flatMap (fun i => badSlot (bitAt (idw i) 15 && bitAt (idw i) 14) (E.portLinId + i) slot)) ++
  ((List.range 64).flatMap (fun i => badSlot (runs && linAction (sl i) == 1 &&
    linSlotShort (bitsOf (sl i) 23 8) (bitsOf (idw (linIdOf (sl i))) 3 0) (s.cfg (E.portLinBitRate + slot * 256))) (E.portLinId + linIdOf (sl i)) slot))

/-- An Ethernet or trunk slot (R175). -/
def State.checkEth (s : State) (slot : Nat) : List Failure :=
  let c (e : Nat) : Nat := s.cfg (e + slot * 256)
  let m (i : Nat) : Nat := c (E.portEthVlanRealmMap + i)
  badSlot ((c E.portEthSerdesMode == 2) != isTrunk slot) E.portEthSerdesMode slot ++
  badSlot (c E.portEthRxPauseMode != 0 && c E.portEthTxPauseMode != 0 && c E.portEthRxPauseMode != c E.portEthTxPauseMode) E.portEthTxPauseMode slot ++
  (List.range 16).flatMap (fun i => badSlot (bitAt (m i) 31 && (List.range i).any (fun j => bitAt (m j) 31 && bitsOf (m j) 27 16 == bitsOf (m i) 27 16))
    (E.portEthVlanRealmMap + i) slot)

/-- MACsec of a slot (R166); its keys are looked at by every commit, and not at a start (log 22). -/
def State.checkMacsec (s : State) (keys : Bool) (slot : Nat) : List Failure :=
  let c (e : Nat) : Nat := s.cfg (e + slot * 256)
  let rx (e ch : Nat) : Nat := c (e + 16 * ch)
  let suite := c E.portSecMacsecCipherSuite
  let len := if suite % 2 == 0 then [16] else [32]
  let conf := c E.portSecMacsecConfidentiality != 0
  let wrong (sa usage : Nat) : Bool := keys && bitAt sa 31 && !s.keyPermits (sa % 256) usage blkMacsec (slotDie slot) len
  let twin (ch : Nat) (e : Nat) : Bool := c (E.portSecMacsecRxEnable + 16 * ch) == 1 &&
    (List.range ch).any (fun d => c (E.portSecMacsecRxEnable + 16 * d) == 1 && rx e d == rx e ch)
  badSlot (c E.portSecMacsecEnable == 1 && !bitAt (c (E.portSecMacsecTxSa + c E.portSecMacsecTxAn)) 31) (E.portSecMacsecTxSa + c E.portSecMacsecTxAn) slot ++
  ([0, 1, 2, 3].flatMap (fun a => badSlot (wrong (c (E.portSecMacsecTxSa + a)) (useMacGen + if conf then useEncrypt else 0)) (E.portSecMacsecTxSa + a) slot)) ++
  (List.range 8).flatMap (fun ch =>
    badSlot (twin ch E.portSecMacsecRxSci) (E.portSecMacsecRxSci + 16 * ch) slot ++
    badSlot (2 ≤ suite && twin ch E.portSecMacsecRxSsci) (E.portSecMacsecRxSsci + 16 * ch) slot ++
    [0, 1, 2, 3].flatMap (fun a => badSlot (wrong (rx (E.portSecMacsecRxSa + a) ch) (useMacVerify + if conf then useDecrypt else 0)) (E.portSecMacsecRxSa + a + 16 * ch) slot))

/-- The entries of one slot. -/
def State.checkSlot (s : State) (keys : Bool) (slot : Nat) : List Failure :=
  if isCan slot then s.checkCan slot ++ s.checkCanSec keys slot
  else if isLin slot then s.checkLin slot
  else s.checkEth slot ++ s.checkMacsec keys slot

/-- A row of a TABLE is in use in the new image. -/
def State.inUse (s : State) (valid row : Nat) : Bool := s.cfgRowOn valid row

/-- An internal port of the part (Table 6-4). -/
def Variant.hasInternal (v : Variant) (c : Nat) : Bool := 0x100 ≤ c && c < 0x100 + 2 * v.nc

/-- A destination code against the new image (R183): 0x22 for something that does not exist or is not in use, 0x0A for no code of the entry's kinds. -/
def State.destStatus (s : State) (code : Nat) (none : Bool) : Nat :=
  if code < 0xE0 then (if s.variant.hasSlot code then 0 else 0x22)
  else if 0x100 ≤ code && code < 0x10E then (if s.variant.hasInternal code then 0 else 0x22)
  else if 0x400 ≤ code && code < 0x800 then (if s.inUse E.tunnelValid (code - 0x400) then 0 else 0x22)
  else if 0x8000 ≤ code && code < 0x8400 then (if s.inUse E.groupValid (code - 0x8000) then 0 else 0x22)
  else if code == 0xFFFE || (code == 0xFFFF && none) then 0 else 0x0A

/-- A scope against the part (R183). -/
def State.scopeStatus (s : State) (code : Nat) : Nat :=
  if code == 0xFFFF then 0
  else if code < 0xE0 || (0x100 ≤ code && code < 0x10E) then s.destStatus code false
  else 0x0A

/-- The longest prefix of a kind (Table 6-2). -/
def maxLength (kind : Nat) : Nat :=
  match kind with
  | 0 => 11
  | 1 => 29
  | 2 => 27
  | 3 => 6
  | 4 => 32
  | 14 => 128
  | _ => 15

/-- A destination that cannot carry a kind's frames (R105, R184). -/
def cannotCarry (kind code : Nat) : Bool :=
  let can := code < 0xE0 && isCan code
  let lin := code < 0xE0 && isLin code
  let eth := code < 0xE0 && isEth code
  let tun := 0x400 ≤ code && code < 0x800
  if kind < 3 then lin || eth else if kind == 3 then can || eth else can || lin || tun

/-- A tunnel row that does not encapsulate carries nobody's frames (R184, R244; DEDUCED, log 24). -/
def State.receiveOnly (s : State) (code : Nat) : Bool := 0x400 ≤ code && code < 0x800 && !bitAt (s.cfgRow E.tunnelDirection (code - 0x400)) 0

/-- The length and value of a route-key pattern (R181). -/
def badPrefix (width kind len value : Nat) : Bool := maxLength kind < len || value % 2 ^ (width - len) != 0

/-- Two routes that no search could tell apart (R182). -/
def Route.twin (a b : Route) : Bool := a.realm == b.realm && a.kind == b.kind && a.len == b.len && a.value == b.value && a.scope == b.scope

/-- The rows before one in a list. -/
def before (l : List Nat) (row : Nat) : List Nat := l.filter (· < row)

/-- One route row (R181 to R185, R211); `e` names the fields of 0x2400 or 0x2401. -/
def State.checkRoute (s : State) (rows : List Nat) (row id : Nat) (len scope dest policer : Nat) : List Failure :=
  let r := s.route id
  let width := if r.kind == 14 then 128 else 32
  let base := if r.kind == 14 then 0x10000 else 0
  let anise := s.cfgOn E.accessAniseEnable && r.twin (s.route aniseRoute)
  let scopeSt := s.scopeStatus r.scope
  let destSt := s.destStatus r.dest (r.kind == 5)
  bad (badPrefix width r.kind r.len r.value) 0x0A len row ++
  bad (scopeSt != 0) scopeSt scope row ++
  bad (anise || (before rows row).any (fun x => r.twin (s.route (base + x)))) 0x0A scope row ++
  bad (destSt != 0) destSt dest row ++
  bad ((s.routeMembers r).any (fun c => cannotCarry r.kind c || s.receiveOnly c)) 0x0A dest row ++
  bad (r.policer != 0xFFFF && !s.inUse E.policerValid r.policer) 0x22 policer row

/-- The routes, and the die default routes (R213). -/
def State.checkRoutes (s : State) : List Failure :=
  let rows := s.validRows E.routeValid
  let rows6 := s.validRows E.route6Valid
  rows.flatMap (fun row => s.checkRoute rows row row E.routeLength E.routeScope E.routeDest E.routePolicer ++
    bad (s.cfgRow E.routeKind row != 4 && s.cfgRow E.routeNextHopMac row != 0) 0x0A E.routeNextHopMac row ++
    bad (s.cfgRow E.routeKind row != 4 && s.cfgRow E.routeVid row != 0) 0x0A E.routeVid row) ++
  rows6.flatMap (fun row => s.checkRoute rows6 row (0x10000 + row) E.route6Length E.route6Scope E.route6Dest E.route6Policer) ++
  s.dieList.flatMap (fun n =>
    let st := s.destStatus (s.cfg (E.routeDieDefault + (n - 1))) false
    bad (st != 0) st (E.routeDieDefault + (n - 1)) noRow)

/-- The ID guard table (R209). -/
def State.checkIdGuard (s : State) : List Failure :=
  let rows := s.validRows E.idguardValid
  let key (r : Nat) : Nat × Nat × Nat × Nat := (s.cfgRow E.idguardRealm r, s.cfgRow E.idguardKind r, s.cfgRow E.idguardLength r, s.cfgRow E.idguardValue r)
  rows.flatMap (fun r =>
    let owner := s.cfgRow E.idguardOwner r
    bad (badPrefix 32 (s.cfgRow E.idguardKind r) (s.cfgRow E.idguardLength r) (s.cfgRow E.idguardValue r) || (before rows r).any (fun x => key x == key r))
      0x0A E.idguardLength r ++
    bad (owner != 0xFFFF && !(s.variant.hasSlot owner && isCan owner)) 0x0A E.idguardOwner r)

/-- Static forwarding entries (Table 6-13). -/
def State.checkStatic (s : State) : List Failure :=
  (s.validRows E.fdbStaticValid).flatMap (fun r =>
    let d := s.cfgRow E.fdbStaticDest r
    let st := if (d < 0xE0 && (!s.variant.hasSlot d || isEth d)) || (0x100 ≤ d && d < 0x10E) || d == 0xFFFE then s.destStatus d false else 0x0A
    bad (s.cfgRow E.fdbStaticMac r == 0 || s.cfgRow E.fdbStaticMac r % 2 == 1) 0x0A E.fdbStaticMac r ++
    bad (st != 0) st E.fdbStaticDest r)

/-- Multicast groups (R183, R212). -/
def State.checkGroups (s : State) : List Failure :=
  let rows := s.validRows E.groupValid
  rows.flatMap (fun g =>
    let mac := s.cfgRow E.groupMac g
    bad (s.cfgRowOn E.groupMacValid g && (mac % 2 == 0 || mac == 0xFFFFFFFFFFFF ||
      (before rows g).any (fun x => s.cfgRowOn E.groupMacValid x && s.cfgRow E.groupRealm x == s.cfgRow E.groupRealm g && s.cfgRow E.groupMac x == mac)))
      0x0A E.groupMac g ++
    bad ((List.range 224).any (fun i => bitAt (s.cfgRow E.groupPorts g) i && !s.variant.hasSlot i)) 0x22 E.groupPorts g ++
    bad (s.cfgRow E.groupInternal g / 2 ^ (2 * s.variant.nc) != 0) 0x22 E.groupInternal g ++
    (List.range 8).flatMap (fun i => bad (s.cfgRow (E.groupTunnel + i) g != 0xFFFF && !s.inUse E.tunnelValid (s.cfgRow (E.groupTunnel + i) g)) 0x22 (E.groupTunnel + i) g))

/-- Realms (R213), and what Anise and the service channel ask (R74, R79, R190). -/
def State.checkAccess (s : State) : List Failure :=
  let anise := s.cfgOn E.accessAniseEnable
  let realm := s.cfg E.accessAniseRealm
  let port := s.cfg E.accessSdoPortSlot
  (s.validRows E.realmValid).flatMap (fun r => bad (s.cfgRow E.realmFloodGroup r != 0xFFFF && !s.inUse E.groupValid (s.cfgRow E.realmFloodGroup r)) 0x22 E.realmFloodGroup r) ++
  bad (anise && s.cfg E.accessAniseIpv4 == 0) 0x0A E.accessAniseIpv4 noRow ++
  bad (anise && !(s.inUse E.realmValid realm && s.cfgRow E.realmRouterMac realm != 0)) 0x0A E.realmRouterMac realm ++
  bad (!(s.variant.hasSlot port && isCan port) || s.cfg (E.portCanFormat + port * 256) == 3) 0x22 E.accessSdoPortSlot noRow

/-- Policers and RED profiles (R238, R239). -/
def State.checkPolicers (s : State) : List Failure :=
  (s.validRows E.policerValid).flatMap (fun r =>
    bad (s.cfgRow E.policerPir r < s.cfgRow E.policerCir r) 0x0A E.policerPir r ++ bad (s.cfgRow E.policerPbs r < s.cfgRow E.policerCbs r) 0x0A E.policerPbs r) ++
  (s.validRows E.redValid).flatMap (fun r => [E.redGreenMin, E.redYellowMin, E.redRedMin].flatMap (fun e =>
    let lo := s.cfgRow e r
    let hi := s.cfgRow (e + 1) r
    bad ((hi != 0 && hi ≤ lo) || 24576 < hi) 0x0A (e + 1) r))

/-- A route row that a reservation names is in use. -/
def State.resvRouteUsed (s : State) (row : Nat) : Bool :=
  s.inUse (if s.cfgRow E.rsvRouteIndex row == 0x2401 then E.route6Valid else E.routeValid) (s.cfgRow E.rsvRouteRow row)

/-- Reservations, group admission, queues and hold times (R240, R241). -/
def State.checkQueues (s : State) : List Failure :=
  (s.validRows E.rsvValid).flatMap (fun r =>
    let route := s.route (s.resvRoute r)
    let d := s.cfgRow E.rsvDest r
    bad (!s.resvRouteUsed r) 0x22 E.rsvRouteRow r ++
    bad (s.resvRouteUsed r && d != route.dest && !(s.routeMembers route).contains d) 0x22 E.rsvDest r) ++
  (s.validRows E.groupAdmValid).flatMap (fun r => bad (!s.inUse E.groupValid r) 0x22 E.groupAdmValid r) ++
  (s.validRows E.queueValid).flatMap (fun r => bad (!(s.points (rowDie r)).contains (r % 256 / 8)) 0x22 E.queueValid r) ++
  (s.validRows E.portHoldValid).flatMap (fun r => bad (!s.variant.hasSlot r) 0x22 E.portHoldValid r)

/-- Sampler and capture ring (R17, R243). -/
def State.checkCapture (s : State) : List Failure :=
  let rows := s.validRows E.sampleValid
  let m := s.cfg E.captureMirrorSlot
  rows.flatMap (fun r => bad (!s.variant.hasSlot (r / 2)) 0x22 E.sampleValid r) ++
  bad (s.cfg E.captureBase % 16 != 0) 0x0A E.captureBase noRow ++
  bad (0xC0000 < s.cfg E.captureBase + 144 * s.cfg E.captureSlots) 0x0A E.captureSlots noRow ++
  bad (s.cfg E.captureSlots < s.cfg E.captureWatermark) 0x0A E.captureWatermark noRow ++
  bad (rows.any (s.cfgRowOn E.sampleMirror) && !(s.variant.hasSlot m && isEth m)) 0x0A E.captureMirrorSlot noRow ++
  bad (m != 0xFFFF && !s.variant.hasSlot m) 0x22 E.captureMirrorSlot noRow

/-- Two receive slots overlap (R264). -/
def rxOverlap (a b : Nat) : Bool := a == b || a == 0xFFFF || b == 0xFFFF

/-- A slot that a tunnel row names (R264). -/
def State.tunnelSlotStatus (s : State) (slot : Nat) : Nat := if !s.variant.hasSlot slot then 0x22 else if isEth slot then 0 else 0x0A

/-- One tunnel row (R264): its slots, realm and `mtu` whatever its direction, a stream ID where the row uses it (log 24). -/
def State.checkTunnel (s : State) (rx : List Nat) (t : Nat) : List Failure :=
  let dir := s.cfgRow E.tunnelDirection t
  let enc := bitAt dir 0
  let dec := bitAt dir 1
  let eg := s.cfgRow E.tunnelEgressSlot t
  let rs := s.cfgRow E.tunnelRxSlot t
  let egSt := s.tunnelSlotStatus eg
  let rsSt := if rs == 0xFFFF then 0 else s.tunnelSlotStatus rs
  let same (x : Nat) : Bool := s.cfgRow E.tunnelRxStreamId x == s.cfgRow E.tunnelRxStreamId t && s.cfgRow E.tunnelRxDstMac x == s.cfgRow E.tunnelRxDstMac t &&
    rxOverlap (s.cfgRow E.tunnelRxSlot x) rs
  bad (dir == 0) 0x0A E.tunnelDirection t ++
  bad (enc && s.cfgRow E.tunnelTxStreamId t == 0) 0x0A E.tunnelTxStreamId t ++
  bad (egSt != 0) egSt E.tunnelEgressSlot t ++
  bad (egSt == 0 && s.cfg (E.portEthMaxFrame + eg * 256) < s.cfgRow E.tunnelMtu t) 0x0A E.tunnelMtu t ++
  bad (dec && s.cfgRow E.tunnelRxStreamId t == 0) 0x0A E.tunnelRxStreamId t ++
  bad (rsSt != 0) rsSt E.tunnelRxSlot t ++
  bad (dec && (before rx t).any same) 0x0A E.tunnelRxDstMac t ++
  bad (!s.inUse E.realmValid (s.cfgRow E.tunnelRealm t)) 0x22 E.tunnelRealm t

/-- Tunnels (R264), and the 256 receive rows of a die (R258). -/
def State.checkTunnels (s : State) : List Failure :=
  let rx := (s.validRows E.tunnelValid).filter (fun t => bitAt (s.cfgRow E.tunnelDirection t) 1)
  (s.validRows E.tunnelValid).flatMap (s.checkTunnel rx) ++
  s.dieList.flatMap (fun n =>
    let l := rx.filter (fun t => s.cfgRow E.tunnelRxSlot t == 0xFFFF || slotDie (s.cfgRow E.tunnelRxSlot t) == n)
    bad (256 < l.length) 0x0A E.tunnelRxSlot (l.getLastD 0))

/-- Pins of 0x2702 (R90, R270). -/
def State.checkPins (s : State) : List Failure :=
  let rows := s.validRows E.pinValid
  rows.flatMap (fun r =>
    let i := s.cfgRow E.pinIndex r
    let x := s.cfgRow E.pinRow r
    bad ((i == 0x2510 && !s.inUse E.policerValid x) || (i == 0x2420 && !s.inUse E.groupValid x) || (i == 0x2558 && x != 0)) 0x22 E.pinRow r ++
    bad ((before rows r).any (fun y => s.cfgRow E.pinIndex y == i && s.cfgRow E.pinRow y == x)) 0x0A E.pinRow r)

/-- An operand names a tap row that is not in use (R315). -/
def State.tapUnused (s : State) (code : Nat) : Bool := code / 4096 == 1 && code % 4096 < 256 && !s.inUse E.tapValid (code % 4096)

/-- A slot of a realm and kind (R315). -/
def State.slotOfKind (s : State) (realm kind slot : Nat) : Bool :=
  s.variant.hasSlot slot && (if kind < 3 then isCan slot else if kind == 3 then isLin slot else isEth slot) && s.slotIn realm slot

/-- Inputs, taps and rules (R315). -/
def State.checkMeasure (s : State) : List Failure :=
  (List.range 16).flatMap (fun i =>
    bad (s.cfgMi E.miThresholdHigh i ≤ s.cfgMi E.miThresholdLow i) 0x0A (E.miThresholdLow + i * 256) noRow ++
    bad (s.cfgMi E.miDiagLowLimit i != 0 && s.cfgMi E.miDiagHighLimit i != 0 && s.cfgMi E.miDiagHighLimit i ≤ s.cfgMi E.miDiagLowLimit i) 0x0A
      (E.miDiagHighLimit + i * 256) noRow) ++
  (List.range 4).flatMap (fun k => bad (s.cfgMi E.spdThresholdHigh k ≤ s.cfgMi E.spdThresholdLow k) 0x0A (E.spdThresholdLow + k * 256) noRow) ++
  bad (s.cfg E.motionBusRule != 0xFF && !s.inUse E.ruleValid (s.cfg E.motionBusRule)) 0x22 E.motionBusRule noRow ++
  (s.validRows E.tapValid).flatMap (fun r =>
    let kind := s.cfgRow E.tapKind r
    let slot := s.cfgRow E.tapSlot r
    bad (badPrefix 32 kind (s.cfgRow E.tapLength r) (s.cfgRow E.tapValue r)) 0x0A E.tapLength r ++
    bad (slot != 0xFFFF && !s.slotOfKind (s.cfgRow E.tapRealm r) kind slot) 0x0A E.tapSlot r) ++
  (s.validRows E.ruleValid).flatMap (fun r =>
    let a := s.cfgRow E.ruleA r
    let b := s.cfgRow E.ruleB r
    bad (!operandKnown a || a / 4096 == 7) 0x0A E.ruleA r ++ bad (s.tapUnused a) 0x22 E.ruleA r ++
    bad (!operandKnown b) 0x0A E.ruleB r ++ bad (s.tapUnused b) 0x22 E.ruleB r ++
    bad (bitAt (s.cfgRow E.ruleActions r) 2 && !(a / 4096 == 1 && s.cfgRow E.tapKind (a % 4096) < 3)) 0x0A E.ruleActions r)

/-- Evidence, power and wake, update (R350, R377, R383, R391, R395, R450). -/
def State.checkSystem (s : State) : List Failure :=
  let vsel := s.cfg E.powerVselPin
  let owner := ((s.app 1).pin vsel).owner
  bad (s.cfg E.fifoHighMark ≤ s.cfg E.fifoLowMark) 0x0A E.fifoLowMark noRow ++
  bad (vsel < 8 && (owner == 1 || owner == 2)) 0x0A E.powerVselPin noRow ++
  bad ((List.range 16).any (fun i => bitAt (s.cfg E.powerMiWakeMask) i && s.cfgMi E.miMode i != 2)) 0x0A E.powerMiWakeMask noRow ++
  (s.validRows E.pwrValid).flatMap (fun r => bad (!(s.variant.hasSlot r && (isCan r || isLin r))) 0x0A E.pwrValid r) ++
  (s.validRows E.propValid).flatMap (fun r =>
    let l := (List.range 224).filter (bitAt (s.cfgRow E.propPorts r))
    bad (l.any (fun p => !s.variant.hasSlot p)) 0x22 E.propPorts r ++
    bad (l.any (fun p => isEth p || (isCan p && (!s.cfgRowOn E.pwrValid p || s.cfgRow E.wakeFrameId p == 0xFFFFFFFF)))) 0x0A E.propPorts r) ++
  bad ((decodeF32 (s.cfg E.updateVbatMin24)).le (decodeF32 (s.cfg E.updateVbatMin12))) 0x0A E.updateVbatMin24 noRow

/-- The dies that a value names as slot, port code, die number or pin (R90). -/
def namedDies (e x : Nat) : List Nat :=
  let bits (n : Nat) (f : Nat → Nat) : List Nat := ((List.range n).filter (bitAt x)).map f
  if [E.routeScope, E.routeDest, E.route6Scope, E.route6Dest, E.idguardOwner, E.fdbStaticDest, E.rsvDest, E.tunnelEgressSlot, E.tunnelRxSlot, E.tapSlot,
      E.captureMirrorSlot, E.accessSdoPortSlot].contains e || (E.routeDieDefault ≤ e && e < E.routeDieDefault + 7) then [codeDie x]
  else if e == E.tunnelPinDie || e == E.pinDie || e == E.accessAniseHostDie then [x]
  else if e == E.groupPorts || e == E.propPorts then bits 224 slotDie
  else if e == E.groupInternal then bits 14 (fun i => i / 2 + 1)
  else if e == E.powerVselPin then (if x < 8 then [1] else [])
  else []

/-- The die whose own object or row an entry is (R90), 0 for none. -/
def ownDie (e row : Nat) : Nat :=
  let idx := e / 256
  if 0x2000 ≤ idx && idx < 0x2300 then slotDie (idx % 256)
  else if idx == 0x2530 then rowDie row
  else if idx == 0x2538 || idx == 0x3410 then slotDie row
  else if E.routeDieDefault ≤ e && e < E.routeDieDefault + 7 then e - E.routeDieDefault + 1
  else 0

/-- A staged entry lies outside TABLEs, or in a row that is valid after the commit. -/
def State.rowStays (s : State) (e row : Nat) : Bool := row == noRow || s.cfgRowOn (e / 256 * 256 + 1) row

/-- Staged entries that belong to a LOST die or name one (R90). -/
def State.checkLost (s : State) (stg : NMap Nat) : List Failure :=
  let lost (n : Nat) : Bool := s.variant.hasDie n && (s.die n).state == 4
  stg.flatMap (fun x =>
    let e := keyEntry x.1
    let row := keyRow x.1
    bad ((lost (ownDie e row) && !(row != noRow && (e % 256 == 1 && x.2 == 0 || mfind stg (okey (e / 256 * 256 + 1) row) == some 0 && x.2 == s.effDefault x.1))) || (s.rowStays e row && (namedDies e x.2).any lost)) 0x24 e row)

/-- The state with a new image as its active one. -/
def State.withImage (s : State) (img : NMap Nat) : State := { s with od := { s.od with active := img } }

/-- Every failing check of a new image. -/
def State.failures (s : State) (stg : NMap Nat) (keys : Bool) : List Failure :=
  s.checkValues ++ s.checkLost stg ++ s.checkAccess ++ s.slotList.flatMap (s.checkSlot keys) ++ s.checkRoutes ++ s.checkIdGuard ++ s.checkStatic ++ s.checkGroups ++
  s.checkPolicers ++ s.checkQueues ++ s.checkCapture ++ s.checkTunnels ++ s.checkPins ++ s.checkMeasure ++ s.checkSystem

/-- The lowest failing entry in ascending index, row and subindex; among failures of one entry, the first listed (R89). -/
def lowest (l : List Failure) : Option Failure :=
  l.foldl (fun best x => match best with
    | none => some x
    | some b => if x.1 < b.1 then some x else some b) none

/-- Validation of staged values over the active image (R89): none when every check passes. -/
def State.validate (s : State) (stg : NMap Nat) : Option Failure :=
  lowest ((s.withImage (layOver s.variant s.od.active stg)).failures stg true)

end Sys2Proof.Machine
end

