-- ==== Sys2Proof/Machine/Apply.lean ====
section
/-! DEFINITION. What a committed configuration does at its apply instant (R89, R91): ports, policers, tunnels, rules, inputs, keys, evidence, the
application pairs and the access points. -/

namespace Sys2Proof.Machine
open Sys2Proof

/-- A key with its new value. -/
abbrev Change := Nat × Nat

/-- The staged values that differ from the active ones. -/
def State.changesIn (s : State) (staged : NMap Nat) : List Change := staged.filter (fun x => imageValue s.variant s.od.active x.1 != x.2)

def changesIndex (chg : List Change) (idx : Nat) : Bool := chg.any (fun x => keyIndex x.1 == idx)
def changesEntry (chg : List Change) (e : Nat) : Bool := chg.any (fun x => keyEntry x.1 == e)
/-- The rows of a TABLE that a commit changes, named by an entry of it. -/
def changedRows (chg : List Change) (e : Nat) : List Nat := ((chg.filter (fun x => keyIndex x.1 == e / 256)).map (fun x => keyRow x.1)).eraseDups

/-- The changed entries of a port's configuration and security objects. -/
def portChanges (chg : List Change) (slot : Nat) : List Change :=
  chg.filter (fun x => keyIndex x.1 == 0x2000 + slot || keyIndex x.1 == 0x2200 + slot)

/-- The lane entries of R170. -/
def laneEntry (e slot : Nat) : Bool :=
  [E.portEthSerdesMode, E.portEthAnEnable, E.portEthSgmiiSpeed, E.portEthSerdesTxInvert, E.portEthSerdesRxInvert].any (fun x => e == x + slot * 256)

/-- A block holds on to the old values of entries whose change it has not taken (R132, R133). -/
def State.keepOld (old s : State) (slot : Nat) (ks : List Change) : State :=
  s.updPort slot (fun p => { p with kept := ks.foldl (fun m x =>
    if (mfind m (keyEntry x.1)).isSome then m else mput m (keyEntry x.1) (imageValue old.variant old.od.active x.1)) p.kept })

/-- An ENABLED port takes new entries (R133): off its bus once the frame in transmission or reception has completed. -/
def State.reconfigure (old s : State) (slot : Nat) (ks : List Change) : State :=
  if !s.busFree slot then (old.keepOld s slot ks).updPort slot (fun p => { p with reconfigure := true })
  else s.reconfigured slot

/-- A commit at one port (R131 to R134, R170): `old` is the machine before the switch. -/
def State.portApply (old s : State) (chg : List Change) (slot : Nat) : State :=
  let ks := portChanges chg slot
  let other := ks.filter (fun x => keyEntry x.1 != E.portCanEnable + slot * 256)
  let was := old.cfgOn (E.portCanEnable + slot * 256)
  let on := s.cfgOn (E.portCanEnable + slot * 256)
  let st := s.portState slot
  if ks.isEmpty || !s.dieRuns (slotDie slot) then s
  else if st == 3 then
    let s1 := if was == on then s else s.setSlot E.portCanPendingReEnable slot (if on then 1 else 0)
    if other.isEmpty then s1
    else (old.keepOld s1 slot other).countPort slot E.portCanCntCfgIgnored E.portLinCntCfgIgnored E.portEthCntCfgIgnored
  else if was && !on then s.drain slot
  else if st == 5 then s.parityCleared slot
  else if !was && on then s.when (st == 0) (if (s.port slot).clockStopped then (·.toFault slot) else (·.enabling slot))
  else
    let lane := isEth slot && other.any (fun x => laneEntry (keyEntry x.1) slot)
    if st == 2 then s.when (on && (!isEth slot || lane)) (fun s => old.reconfigure s slot other)
    else s.when ((st == 1 || st == 4) && lane) (·.retrain slot)

/-- Before the switch (R158): 0 quanta for what a port holds paused when its way of pausing changes. -/
def State.pauseBefore (s : State) (chg : List Change) (slot : Nat) : State :=
  s.when (isEth slot && s.dieRuns (slotDie slot) && (s.port slot).linkUp && changesEntry chg (E.portEthTxPauseMode + slot * 256)) (·.releasePaused slot)

/-- After it: a change of `rx.pauseMode` clears the received pause (R158); a new `tx.pauseMode` asserts what the switch core holds in its own frames, mode 0
nothing (R157); a port whose `gptp.enable` is false is no PTP port (R159). -/
def State.pauseAfter (s : State) (chg : List Change) (slot : Nat) : State :=
  let here := isEth slot && s.dieRuns (slotDie slot)
  ((s.when (here && changesEntry chg (E.portEthRxPauseMode + slot * 256)) (·.clearPause slot)).when
    (here && changesEntry chg (E.portEthTxPauseMode + slot * 256) && (s.portState slot != 3)) (·.assertAnew slot)).when
    (here && changesEntry chg (E.portEthGptpEnable + slot * 256) && !s.cfgSlotOn E.portEthGptpEnable slot) (·.ptpAnew slot)

/-- Before the switch: the open PDU of a row that changes is closed under its old entries (R91). -/
def State.tunnelBefore (s : State) (row : Nat) : State :=
  match mfind s.sumac.inForce.tunnels row with
  | some (n, _) => s.when (s.pathsOk n) (·.closePdu n row)
  | none => s

/-- After it: a row that becomes valid starts at sequence number 0 (R253); any changed row waits for its first PDU again (R260). -/
def State.tunnelAfter (old s : State) (row : Nat) : State :=
  let t := s.tunnel row
  s.setTunnel row { t with synced := false, txSeq := if s.cfgRowOn E.tunnelValid row && !old.cfgRowOn E.tunnelValid row then 0 else t.txSeq }

/-- The rules that a commit restarts (R313): their row changes, or the tap that A or B names. -/
def State.rulesChanged (s : State) (chg : List Change) : List Nat :=
  let taps := (changedRows chg E.tapValid).map (0x1000 + ·)
  (changedRows chg E.ruleValid ++ (s.validRows E.ruleValid).filter (fun r => taps.contains (s.cfgRow E.ruleA r) || taps.contains (s.cfgRow E.ruleB r))).eraseDups

/-- A rule restarts in STALE, or is OFF when its row is not valid (R313): its block is lifted, and a violation ends with a RULE_RELEASE record. -/
def State.ruleRestart (old s : State) (row : Nat) : State :=
  let s1 := s.liftBlock row
  let s2 := s1.when (violating (s.rule row).state) (fun t => t.evidence 0 0x16 row
    ([1, 0, 0, 0] ++ toLE 4 (old.ruleA row).1 ++ toLE 4 (old.ruleB row).1 ++ toLE 4 (t.st E.commitGeneration)))
  ((s2.setRule row { (s2.rule row) with slot := 0xFFFF }).setRow E.ruleStOffendingSlot row 0xFFFF).ruleTo row (if s.cfgRowOn E.ruleValid row then 1 else 0) false

/-- A changed tap has delivered no value yet: D0 and the dies forget the old field's (R307). -/
def State.tapRestart (s : State) (row : Nat) : State :=
  (s.forAll s.dieList (fun s n => s.updDie n (fun d => { d with taps := mdel d.taps row }))).when true (fun s =>
    { s with measure := { s.measure with taps := mdel s.measure.taps row } })

/-- A speed input whose mode or polarity changes starts normal (R300). -/
def State.spdRestart (s : State) (k : Nat) : State := s.setSpd k { count := (s.spd k).count }

/-- A multifunction input starts anew, in another mode with value 0 (R293, R294). -/
def State.miRestart (s : State) (modeToo : Bool) (i : Nat) : State :=
  (s.setMi i {}).when modeToo (fun s => (s.setSlot E.miValue i 0).setSlot E.miTimestamp i 0)

/-- The measured inputs (R294, R300). -/
def State.inputsApply (s : State) (chg : List Change) : State :=
  let s1 := s.forAll ((List.range 16).filter (fun i => changesIndex chg ((E.miMode + i * 256) / 256))) (fun s i =>
    s.miRestart (changesEntry chg (E.miMode + i * 256)) i)
  s1.forAll ((List.range 4).filter (fun k => changesEntry chg (E.spdMode + k * 256) || changesEntry chg (E.spdPolarity + k * 256))) State.spdRestart

/-- The key slots that committed uses of the ports of a die name (R369): CMAC profiles, CANsec channels, MACsec associations. -/
def State.keysNamedOn (s : State) (n : Nat) : List Nat :=
  (s.slotList.filter (fun slot => slotDie slot == n)).flatMap (fun slot =>
    let c (e : Nat) : Nat := s.cfg (e + slot * 256)
    if isCan slot then
      (([0, 1, 2, 3].filter (fun p => s.cfgOn (profEntry E.portSecProfEnable slot p))).map (fun p => s.cfg (profEntry E.portSecProfKeySlot slot p))) ++
      (if c E.portSecCansecEnable == 1 then (((List.range 16).map (fun i => c (E.portSecCansecChannel + i))).filter (bitAt · 31)).map (· % 256) else [])
    else if isEth slot && c E.portSecMacsecEnable == 1 then
      (((([0, 1, 2, 3].map (fun a => c (E.portSecMacsecTxSa + a))) ++
        (((List.range 8).filter (fun ch => c (E.portSecMacsecRxEnable + 16 * ch) == 1)).flatMap (fun ch => [0, 1, 2, 3].map (fun a => c (E.portSecMacsecRxSa + a + 16 * ch))))).filter
        (bitAt · 31)).map (· % 256))
    else [])

/-- The key slots that committed uses name (R369). -/
def State.keysNamed (s : State) : List Nat := s.dieList.flatMap s.keysNamedOn

/-- A slot's material that an apply leaves in the port blocks (R369): it can be unwrapped, or stood there before. -/
def State.unwraps (s : State) (k : Nat) : Bool :=
  match mfind s.keys.records k with
  | some r => (s.material k r).isSome && (!s.safe.noAes || s.keys.held.contains k)
  | none => false

/-- The material that the port blocks hold after an apply (R369). -/
def State.keysApply (s : State) : State := { s with keys := { s.keys with held := s.keysNamed.eraseDups.filter s.unwraps } }

/-- `seal.period` changes (R332): a seal is due at once when the last t_f plus the new period has passed. -/
def State.sealPeriodApply (s : State) : State :=
  s.when (s.ev.period && decide (s.ev.lastSealTime + s.cfg E.sealPeriod * 1000000000 ≤ s.gptp)) (fun s => (s.updEv (fun e => { e with period := false })).trigger 0)

/-- The IEEE 802.1AS-2020 instance is switched off (R100, R159): its ports are not asCapable, and the time is not synchronised; the end of a synchronisation is
recorded. -/
def State.gptpOff (s : State) : State :=
  let s1 := s.forAll (s.slotList.filter isEth) State.ptpAnew
  let s2 := { s1 with clock := { s1.clock with synced := false } }
  let s3 := s2.when s.clock.synced (·.timeRecord 3 s.rtc s.rtc)
  { s3 with clock := { s3.clock with gmOffset := 0, gmIdentity := 0 } }

/-- The settings of D0's own units (R72, R332, R339, R342, R377, R428). -/
def State.systemApply (s : State) (chg : List Change) : State :=
  let s := s.when (changesEntry chg E.timeGptpEnable && !s.cfgOn E.timeGptpEnable) State.gptpOff
  let s1 := s.when (changesEntry chg E.sealPeriod) State.sealPeriodApply
  let s2 := (s1.when (changesEntry chg E.evidencePortEnable && s1.evPortOn) (·.updEv (fun e => e.gapFrom e.lastSeq true))).when
    (changesEntry chg E.evidencePortEnable || changesEntry chg E.fifoHighMark || changesEntry chg E.fifoLowMark) State.fifoFlow
  let s3 := s2.when (changesEntry chg E.appEnable) State.appEnableChanged
  let s4 := s3.when (changesEntry chg E.powerVselPin) State.claimVsel
  let s5 := s4.when (changesIndex chg 0x1100) (fun s => { (s.endAccessPoint 1) with sdo := .none })
  s5.when (changesIndex chg 0x1110) (·.endAccessPoint 2)

/-- The capture ring starts empty when its place or size changes (R91, R235). -/
def State.captureApply (s : State) (chg : List Change) : State :=
  s.when ([E.captureEnable, E.captureBase, E.captureSlots].any (changesEntry chg) && s.sumac.inForce.capture != 0) (fun s =>
    s.updApp s.sumac.inForce.capture (fun a => { a with cap := { a.cap with wr := 0, rd := 0 } }))

/-- The staged OEM key (Table 15-8): it lies in MRAM of its own, outside the images, and only PROVISIONED takes it. -/
def State.oemApply (s : State) (staged : NMap Nat) : State :=
  match mfind staged (okey E.updateOemKey noRow) with
  | some v => s.when (s.life.state == 1) (fun s => { s with update := { s.update with oemKey := v }.rewritten 4 }.mramWrite)
  | none => s

/-- Everything that a commit's values change, besides the placement: `old` is the machine before the switch and `s` the machine with the new
active values. -/
def State.effects (old s : State) (chg : List Change) : State :=
  let s1 := s.forAll s.slotList (fun s p => (old.portApply s chg p).pauseAfter chg p)
  let s2 := s1.forAll (changedRows chg E.policerValid) (fun s r => { s with policers := mdel s.policers r })
  let s3 := s2.forAll (changedRows chg E.tunnelValid) (fun s r => old.tunnelAfter s r)
  let s4 := s3.forAll (changedRows chg E.tapValid) State.tapRestart
  let s5 := s4.forAll (s4.rulesChanged chg) (fun s r => old.ruleRestart s r)
  (((s5.inputsApply chg).captureApply chg).keysApply).systemApply chg

/-- The switch to a new image (R89, R91): `pl` is its placement. -/
def State.switchImage (s : State) (staged : NMap Nat) (pl : Placement) (trigger : Nat) : State :=
  let chg := s.changesIn staged
  let s1 := s.forAll s.slotList (fun s p => s.pauseBefore chg p)
  let old := s1.forAll (changedRows chg E.tunnelValid) State.tunnelBefore
  let new := mdel (layOver s.variant s.od.active staged) (okey E.updateOemKey noRow)
  (old.effects ((old.withImage new).placementApplied pl trigger) chg).oemApply staged

end Sys2Proof.Machine
end

