-- ==== Sys2Proof/Machine/Commit.lean ====
section
/-! DEFINITION. The commit sequence and the actions of Table 3-10 (R86, R88 to R92, R273, R276). -/

namespace Sys2Proof.Machine
open Sys2Proof

/-- Staging room (R86): 12 B and the value length for each staged write. -/
def stagingRoom : Nat := 262144
def stagedSize (v : Variant) (k : Nat) : Nat := 12 + ((odEntry v (keyEntry k)).bind (fun o => o.ty.size)).getD 0
def State.stagedBytes (s : State) : Nat := (s.od.staging.map (fun x => stagedSize s.variant x.1)).sum

/-- The highest write level among the staged entries (R88). -/
def State.stagedLevel (s : State) : Nat :=
  s.od.staging.foldl (fun m x => max m (((odEntry s.variant (keyEntry x.1)).map (·.wl)).getD 0)) 0

/-- The new phase of a running commit, with the value of `commit.state` that shows it. -/
def State.commitTo (s : State) (ph : CommitPhase) (code : Nat) : State := { s with commit := { s.commit with phase := ph } }.set E.commitState code

/-- t0 (R89): the commit takes the staging image. -/
def State.commitBegin (s : State) (sess : Nat) (only : Bool) : State :=
  let s1 := { s with commit := ⟨.idle, only, sess, s.sessLevel sess, s.od.staging, false⟩ }
  let s2 := s1.when (!only) (fun s => { s with mram := { s.mram with commitPhase := true, commitWseq := 0 } }.mramWrite)
  (((s2.set E.commitResult 0).set E.commitFailEntry 0).set E.commitFailRow noRow).commitTo .validating 1

/-- A commit ends with a state and a result (R89): the staging image of a session that has ended meanwhile is dropped (R72). -/
def State.commitOver (s : State) (code result : Nat) (drop : Bool) : State :=
  let gone := drop || s.commit.sessionEnded
  let s1 := { s with
    commit := { s.commit with phase := .idle, sessionEnded := false, image := [] }
    mram := { s.mram with commitPhase := false } }
  ((s1.set E.commitResult result).set E.commitState code).when gone State.dropStaging

/-- A refused commit lets an abandoned recomputation, or one that a health change asked for meanwhile, start (R273, R280). -/
def State.recomputeAgain (s : State) : State :=
  if s.sumac.healthChanged || s.sumac.interrupted then
    { s with sumac := { s.sumac with healthChanged := false, interrupted := false, computing := true, waiting := none } }.set E.placementState 1
  else s

/-- A commit's placement that is not applied for another reason than its own (R89 t3) leaves the one in force (Table 9-5). -/
def State.placementKept (s : State) : State :=
  s.when (s.st E.placementState == 1 && !s.sumac.computing && s.sumac.waiting.isNone) (·.set E.placementState (if s.sumac.inForce.unplaced == 0 then 2 else 3))

/-- REFUSED (R89): result, first failing entry and its row. -/
def State.commitRefused (s : State) (result entry row : Nat) : State :=
  (((s.placementKept.set E.commitFailEntry entry).set E.commitFailRow row).commitOver 6 result false).recomputeAgain

/-- REFUSED with result 0x20 (R272): cause, index and row of the first failing item. -/
def State.placementRefused (s : State) (cause index row : Nat) : State :=
  ((((s.set E.placementState 4).set E.placementRefusalCause cause).set E.placementRefusalIndex index).set E.placementRefusalRow row).commitRefused 0x20 0 noRow

/-- The image that the commit would make active. -/
def State.commitImage (s : State) : NMap Nat := mdel (layOver s.variant s.od.active s.commit.image) (okey E.updateOemKey noRow)

/-- t1 (R89): validated, placing, or refused. While an update applies or is in trial nothing commits (R438). -/
def State.validated (s : State) : State :=
  if s.update.state == 3 || s.update.state == 5 then s.commitRefused 0x23 0 noRow
  else match s.validate s.commit.image with
  | some f => s.commitRefused f.2 f.entry f.row
  | none =>
    if s.commit.validateOnly then s.commitOver 5 0 false
    else
      ({ s with sumac := { s.sumac with interrupted := s.sumac.interrupted || s.sumac.computing || s.sumac.waiting.isSome, computing := false
                                        waiting := none, healthChanged := false } }.set E.placementState 1).commitTo .placing 2

/-- VALIDATION_COMPLETE. -/
def execValidationComplete (s : State) : Result := done (s.when (s.inRun && s.commit.phase == .validating) State.validated)

/-- What a placement puts on one die. -/
def Placement.part (p : Placement) (n : Nat) : List (List (List Nat)) :=
  [p.banks.filterMap (fun x => if codeDie x.1 == n then some (x.1 :: x.2) else none),
   p.tcams.filterMap (fun x => if x.1 / 2 + 1 == n then some (x.1 :: x.2) else none),
   p.policers.filterMap (fun x => if x.2 == n then some [x.1] else none),
   p.replication.filterMap (fun x => if x.2 == n then some [x.1] else none),
   p.tunnels.filterMap (fun x => if x.2.1 == n then some [x.1, x.2.2] else none),
   p.paths.filterMap (fun x => if x.1 / 8 + 1 == n then some [x.1, x.2.1, x.2.2] else none),
   [mget [] p.statics n], [mget [] p.taps n], [[if p.capture == n then 1 else 0]], [[mget 0 p.pools n]],
   p.resv.filterMap (fun x => if x.2.contains n then some [x.1] else none)]

/-- A placement holds a row of a route table on a die. -/
def Placement.holdsRoute (p : Placement) (n r : Nat) : Bool :=
  p.banks.any (fun x => codeDie x.1 == n && x.2.contains r) || p.tcams.any (fun x => x.1 / 2 + 1 == n && x.2.contains r)

/-- A die has a port of a realm, its VLAN realms included (R266). -/
def State.dieInRealm (s : State) (n realm : Nat) : Bool := (s.realmPorts realm).any (fun x => x.1 == n)

/-- A tunnel row concerns a die: the engine's, and where it decapsulates the die of its `rxSlot`, or every die (R244, R266). -/
def State.tunnelOn (s : State) (pl : Placement) (n row : Nat) : Bool :=
  (mfind pl.tunnels row).any (·.1 == n) ||
    (bitAt (s.cfgRow E.tunnelDirection row) 1 && (s.cfgRow E.tunnelRxSlot row == 0xFFFF || slotDie (s.cfgRow E.tunnelRxSlot row) == n))

/-- A changed entry lands on a die under a placement (R276): tables and rows that it holds, and settings that every die holds. -/
def State.landsOn (s : State) (pl : Placement) (n : Nat) (x : Change) : Bool :=
  let idx := keyIndex x.1
  let row := keyRow x.1
  if ownDie (keyEntry x.1) row != 0 then ownDie (keyEntry x.1) row == n
  else if idx == 0x2400 then pl.holdsRoute n row
  else if idx == 0x2401 then pl.holdsRoute n (0x10000 + row)
  else if idx == 0x2402 then s.dieInRealm n (s.cfgRow E.idguardRealm row)
  else if idx == 0x2410 then (mget [] pl.statics n).contains row
  else if idx == 0x2430 then s.dieInRealm n row
  else if idx == 0x2510 then mfind pl.policers row == some n
  else if idx == 0x2520 then (mget [] pl.resv row).contains n
  else if idx == 0x2528 then mfind pl.replication row == some n
  else if idx == 0x2550 then slotDie (row / 2) == n
  else if idx == 0x2600 then s.tunnelOn pl n row
  else if idx == 0x1100 then keySub x.1 ≤ 3 && slotDie (s.cfg E.accessSdoPortSlot) == n
  else if idx == 0x1110 then
    keySub x.1 ≤ 4 && ([2 * (n - 1), 2 * (n - 1) + 1].any (fun k => (mget [] pl.tcams k).contains aniseRoute) || s.dieInRealm n (s.cfg E.accessAniseRealm) ||
      (s.decapRows (s.cfg E.accessAniseRealm)).any (fun r => (mfind pl.tunnels r).any (·.1 == n)))
  else if idx == 0x3100 then (mget [] pl.taps n).contains row
  else (0x2420 ≤ idx && idx < 0x2600) || idx / 256 == 0x36 || idx == 0x1300 || idx == 0x1320

/-- An apply would send a die key material that it does not hold, or take from it what it holds (R276, R369). -/
def State.keysReach (s : State) (n : Nat) : Bool := ((s.keysNamedOn n).eraseDups).any (fun k => s.unwraps k != s.keys.held.contains k)

/-- The first thing that the apply would have to write to an ISOLATED die (R276): index and row of a changed entry, or none of either for key material, or a placement
that differs from the one the die keeps. `t` is the machine with the new image. -/
def State.isolatedItem (s t : State) (pl : Placement) : Option (Nat × Nat) :=
  let cut := s.dieList.filter (fun n => (s.die n).state == 3)
  let chg := s.changesIn s.commit.image
  let hit := chg.filter (fun x => cut.any (fun n => t.landsOn pl n x || s.landsOn (s.placementOf n) n x))
  match lowest (hit.map (fun x => (ordKey (keyEntry x.1) (keyRow x.1), 0))) with
  | some f => some (f.entry / 256, f.row)
  | none => if cut.any (fun n => (s.placementOf n).part n != pl.part n || t.keysReach n) then some (0, noRow) else none

/-- t2 (R89, R272): placed or refused. -/
def State.placedNow (s : State) : State :=
  let t := s.withImage s.commitImage
  if s.sumac.healthChanged then s.placementRefused 9 0 noRow
  else match t.place.fail with
  | some (c, i, r) => s.placementRefused c i r
  | none => match s.isolatedItem t t.place.pl with
    | some (i, r) => s.placementRefused 9 i r
    | none => (s.set E.placementRefusalCause 0).commitTo .storing 3

/-- PLACEMENT_COMPLETE. -/
def execPlacementComplete (s : State) : Result := done (s.when (s.inRun && s.commit.phase == .placing) State.placedNow)

/-- The runtime pair of a die in service restarts. -/
def State.runtimeDown (s : State) : Bool := s.dieList.any (fun n => s.dieRuns n && !(s.die n).runtimeUp)

/-- A commit whose store write is refused before it writes (R89 t3, R90, R273). -/
def State.storeRefuses (s : State) : Bool := s.sumac.healthChanged || s.runtimeDown || decide (storeCapacity < payloadSize s.variant (s.payloadOf s.commitImage))

/-- t3 (R89, R90, R93 to R95): the three copies written and read back, or refused; `ok` is false when a copy did not read back. -/
def State.stored (s : State) (ok : Bool) : State :=
  if s.sumac.healthChanged || s.runtimeDown then s.placementRefused 9 0 noRow
  else if storeCapacity < payloadSize s.variant (s.payloadOf s.commitImage) then s.commitRefused 0x21 0 noRow
  else if !ok then (s.storeFailed s.commitImage).commitRefused 0x21 0 noRow
  else
    let c := s.nextCopy s.commitImage
    ({ (s.writeStore s.commitImage) with mram := { (s.writeStore s.commitImage).mram with commitWseq := c.wseq } }).commitTo .applying 4

/-- STORE_WRITE_COMPLETE. -/
def execStoreWriteComplete (ok : Bool) (s : State) : Result := done (s.when (s.inRun && s.commit.phase == .storing) (·.stored ok))

/-- A CONFIG record (Table 11-2) for the commit that has applied. -/
def State.configRecord (s : State) : State :=
  s.evidence 0 0x02 0 (toLE 4 (s.st E.commitGeneration) ++ toLE 1 (apCode s.commit.sess) ++ toLE 1 s.commit.level ++ [0, 0] ++
    (toLE 32 (s.st E.placementInputDigest)).take 24)

/-- t4 (R89): every die has switched. A health change before it refuses the commit (R273), and the store takes the active values again. -/
def State.applyCommit (s : State) : State :=
  if s.sumac.healthChanged then (s.writeStore s.od.active).placementRefused 9 0 noRow
  else
    let s1 := { s with sumac := { s.sumac with interrupted := false, waiting := none }
                       mram := { s.mram with commitPhase := false } }.count E.commitGeneration
    let s2 := s1.switchImage s.commit.image (s.withImage s.commitImage).place.pl 0
    (s2.configRecord).commitTo .applied 4

/-- APPLY_INSTANT. -/
def execApplyInstant (s : State) : Result := done (s.when (s.inRun && s.commit.phase == .applying) State.applyCommit)

/-- COMMIT_DONE: t5 (R89). -/
def execCommitDone (s : State) : Result := done (s.when (s.commit.phase == .applied) (·.commitOver 5 0 true))

/-- The rows of entries that action 4 stages: those whose committed value departs from its effective default, which are the ones the store payload holds (Table 3-10, R93). -/
def State.defaultsDue (s : State) : List Nat :=
  (s.od.active.map (·.1) ++ (s.od.defaultsImg.map (·.1)).filter (fun k => (mfind s.od.active k).isNone)).filter (s.departs s.od.active)

/-- The staging image with every one of those rows at its effective default (Table 3-10). -/
def State.defaultsStaged (s : State) : NMap Nat := s.defaultsDue.foldl (fun m k => mput m k (s.effDefault k)) s.od.staging

/-- Action 4 (Table 3-10): every entry of the store payload staged at its effective default; status 0x0E where the room does not suffice. -/
def State.stageDefaults (s : State) (sess : Nat) : State × Nat :=
  let t := { s with od := { s.od with staging := s.defaultsStaged }
                    lockHolder := if s.defaultsDue.isEmpty then s.lockHolder else some sess }
  if stagingRoom < t.stagedBytes then (s, 0x0E) else (t, 0)

/-- A write of `commit.action` (R88, Table 3-10): the state after it and its status. -/
def State.commitAction (s : State) (sess value : Nat) : State × Nat :=
  let mine := s.lockHolder == some sess
  let free := s.lockHolder.isNone
  if s.committing then (s, 0x0C)
  else if value ≤ 3 && !mine then (s, if free then 0x0A else 0x0B)
  else if value == 4 && !mine && !free then (s, 0x0B)
  else if value == 5 && free then (s, 0x0A)
  else if value == 5 && !mine && s.sessLevel sess < 3 then (s, 0x06)
  else if s.sessLevel sess < s.stagedLevel then (s, 0x06)
  else match value with
    | 1 => (s.commitBegin sess true, 0)
    | 2 => (s.commitBegin sess false, 0)
    | 4 => s.stageDefaults sess
    | _ => (s.dropStaging, 0)

end Sys2Proof.Machine
end

