-- ==== Sys2Proof/Machine/Restart.lean ====
section
/-! DEFINITION. What a start does with what it finds: the images, the store, the configuration, the life cycle, Saffron and the measured inputs
(R62, R92, R95, R96, R300, R302, R313, R328, R354 to R356, R387, R445 to R447). -/

namespace Sys2Proof.Machine
open Sys2Proof

/-- Status entries that stand in MRAM, in the island or in fuses, and so outlast a restart; every other status and counter starts at its Default column
(R137). -/
def lastingEntry (e : Nat) : Bool :=
  [E.commitGeneration, E.commitLastInterrupted, E.storeActiveBank, E.identityHssPublicKey, E.updateStatus, E.powerLastMode,
   E.powerLastWakeSource, E.powerLastWakeDetail, E.powerCntWakeEvents, E.powerCntEntriesAborted, E.powerCntHeldOverflow, E.tamperCntEvents].contains e

/-- The island's own counters, which a power-on or RESET_N sets to 0. -/
def islandCounter (e : Nat) : Bool := [E.powerCntWakeEvents, E.powerCntEntriesAborted, E.powerCntHeldOverflow, E.tamperCntEvents].contains e

def State.clearIslandCounters (s : State) : State := { s with od := { s.od with stat := s.od.stat.filter (fun x => !islandCounter (keyEntry x.1)) } }

/-- A commit is cut off (R92): how far its store write had come is open. -/
def State.commitCut (s : State) : State :=
  if s.commit.phase == .storing && !s.storeRefuses then (s.cutStore s.commitImage (Config.storeProgress s.fresh % 7)).draw else s

/-- An append is cut off (R328): nothing of it stands, its journal entry fails its check, it stands without a head, its head copy is damaged, or both are whole. A place whose
write fails holds no record any more. -/
def State.appendCut (s : State) : State :=
  match s.ev.queue with
  | [] => s
  | r :: _ =>
    if !s.ev.running || (r.deferred && !s.ev.started) then s
    else
      let k := (s.ev.lastSeq + 1) % 4096
      let t := match Config.appendProgress s.fresh % 5 with
        | 0 => s
        | 1 => s.updEv (fun e => { e with journal := match mfind e.journal k with
            | some j => mput e.journal k { j with intact := false }
            | none => e.journal })
        | 2 => s.journalStep r
        | 3 => (s.journalStep r).updEv (·.olderHead ⟨0, 0, 0, false⟩)
        | _ => (s.journalStep r).updEv (·.headStep (s.nextRecord r))
      t.draw

/-- The burning of a transition whose first seal is being signed is cut off (R355, R359): before the seal is issued, or after some copies. -/
def State.burnCut (s : State) : State :=
  match s.life.change, s.ev.job with
  | some c, some j =>
    if !j.life || !s.ev.running || !s.ev.activeTree then s
    else
      let k := Config.burnProgress s.fresh % 5
      let t := if k == 0 then s else { s.sealIssued j with fuses := s.fuses.transitionCut s.life.state c.target (k - 1) }
      t.draw
  | _, _ => s

/-- Provisioning cut off (R371): `m` of its burns stand, of the three roots, SEED with I, copy 1 and copy 2 of P. Nothing of the chain stands. -/
def State.provisionUndo (s : State) (m : Nat) : State :=
  let f := s.fuses
  let dry (c k : Nat) : Nat := if k ≤ m then c else c - c % 2
  { s with
    fuses := { f with
      burnt := min 5 m
      mfgRoot := if 1 ≤ m then f.mfgRoot else 0
      fieldRoot := if 2 ≤ m then f.fieldRoot else 0
      serviceRoot := if 3 ≤ m then f.serviceRoot else 0
      rootsWritten := decide (3 ≤ m)
      seed := if 4 ≤ m then f.seed else 0
      seedWritten := decide (4 ≤ m)
      copy1 := dry f.copy1 5
      copy2 := dry f.copy2 6
      copy3 := dry f.copy3 7
      lockTransport := decide (6 ≤ m) }
    ev := {}
    mram := { s.mram with lifecycle := 0, lifecycleCopies := 3 } }.when (m < 6) (fun s => { s with life := { s.life with state := 0 } }.set E.identityHssPublicKey 0)

/-- The device is being provisioned and its first tree is not ready: its burns may still be under way (R371). -/
def State.provisioning (s : State) : Bool := s.life.state == 1 && s.ev.lastSeq == 1 && s.ev.startTree && !s.ev.activeTree

/-- A power loss before the first tree of a device being provisioned is ready may come before all of its burns (R371): how many stand is open. -/
def State.provisionCut (s : State) : State :=
  if !s.provisioning then s
  else
    let k := Config.burnProgress s.fresh % 8
    (if k == 7 then s else s.provisionUndo (max k s.fuses.burnt)).draw

/-- What a switch die keeps through LISTEN (Table 13-1): its image, its tables and its lane buffers. -/
def Die.listening (d : Die) : Die := { d with runtimeUp := false, learnQ := [], mdio := [], taps := [], held := [], prcWait := [], decapRest := none, wakeReports := [], joining := false }

/-- What D0's other blocks and the switch dies lose; `listen` says that the device goes to LISTEN, where the measurement front end and the dies' memories
stay powered (R376), and a lane without `wake.enable` is off (R173). MRAM, flash, fuses and the island remain. -/
def State.wipe (s : State) (listen : Bool) : State :=
  { State.reset with
    variant := s.variant
    clock := { s.clock with synced := false, gmOffset := 0, gmIdentity := 0 }
    od := { s.od with staging := [], stat := s.od.stat.filter (fun x => lastingEntry (keyEntry x.1) ||
      (listen && (0x3000 ≤ keyIndex x.1 && keyIndex x.1 < 0x3100))) }
    lockouts := s.lockouts
    bankStore := s.bankStore
    ev := { s.ev with running := false, job := none, ident := 0, due := [], queue := [], waiting := [], started := false, coal := {}, period := false, spacing := false }
    power := s.power
    island := s.island
    dies := if listen then (s.dies.map (fun x => (x.1, x.2.listening))).filter (fun x => x.2 != {})
      else (s.dies.map (fun x => (x.1, { supplied := x.2.supplied, busUp := x.2.busUp }))).filter (fun x => x.2 != {})
    links := if listen then (s.links.filter (fun x => x.2.failed)).map (fun x => (x.1, { failed := true })) else []
    ports := if listen then (s.ports.map (fun x => (x.1, { linkUp := x.2.linkUp && s.cfgSlotOn E.portEthWakeEnable x.1, speed := x.2.speed, halfDuplex := x.2.halfDuplex }))).filter (fun x => x.2 != {}) else []
    apps := if listen then (s.apps.map (fun x => (x.1, { sram := x.2.sram, pins := x.2.pins.filter (·.2.owner == 3) }))).filter (fun x => x.2 != {}) else []
    fresh64 := s.mram.latest
    txCounters := s.mram.reserved
    mram := s.mram
    keys := { s.keys with held := if listen then s.keys.held else [] }
    fuses := s.fuses
    life := { s.life with request := none, change := none, challenges := [] }
    measure := if listen then { s.measure with taps := [], rules := [] } else {}
    update := { s.update with loaded := [], window := false }
    jtag := s.jtag
    nextFid := s.nextFid
    fresh := s.fresh
    out := s.out
    pending := s.pending }

/-- The device is held in reset, or has lost its supplies: a running commit, transition and append are cut off and everything volatile goes (R92, R328, R355, R393). -/
def State.fallDown (s : State) : State := ((s.commitCut.burnCut.provisionCut).appendCut).wipe false

/-- The other slot of a part whose confirmed image fails (R447): loaded, and event 8, when it passes every check; else the part is absent. -/
def State.otherSlot (s : State) (part : Nat) : State :=
  let row := s.spareRow part
  if s.verifies part row then
    let s1 := s.updateRecord 8 0x4D part (imgVersion (s.image (s.activeRow part))) (imgVersion (s.image row))
    { s1 with update := { s1.update with active := mset 0 s1.update.active part (1 - s.activeSlot part), slotState := mset 0 s1.update.slotState (s.activeRow part) 6 }.rewritten part }.addLoaded row
  else { s with update := { s.update with loaded := s.update.loaded.filter (· / 2 != part) } }

/-- The active image of a part, or the other slot's. -/
def State.loadActive (s : State) (part : Nat) : State :=
  if s.verifies part (s.activeRow part) then s.addLoaded (s.activeRow part) else s.otherSlot part

/-- A trial fails at start (R445, R446): a fallback boot with cause 5, and the old image is loaded. -/
def State.failTrial (s : State) (part status : Nat) : State :=
  let s1 := s.trialEnded part status
  ({ s1 with power := { s1.power with cause := 5 } }).loadActive part

/-- The image of a part for this start (R447). -/
def State.loadPart (s : State) (part : Nat) : State :=
  if s.update.trial == some part then
    if s.verifies part (s.spareRow part) then s.addLoaded (s.spareRow part) else s.failTrial part 0x4D
  else s.loadActive part

/-- Any start but a trial boot finds a trial unconfirmed and falls back (R445). -/
def State.trialAtStart (s : State) : State :=
  match s.update.trial with
  | some part => if s.power.cause == 4 then s
    else let s1 := s.trialEnded part 0x4F; { s1 with power := { s1.power with cause := 5 } }
  | none => s

/-- The image loaded for a part, if it is not absent. -/
def State.loadedImage (s : State) (part : Nat) : Bytes :=
  match s.update.loaded.find? (· / 2 == part) with
  | some r => s.image r
  | none => []

/-- A record of an OD defaults image is one that a write could have made (R14, R484): an entry that may be written, at a row that exists, with a value of its
length. What the value may be is checked with the rest of the image. -/
def recordWritable (v : Variant) (e row len : Nat) : Bool :=
  odPlace v e row && (odEntry v e).any (fun o => o.acc == .rw && o.ty.size == some len)

/-- The records of an OD defaults image (R25, Table 3-13), at most one for 10 bytes of body; none where the body is no list of records that writes could have
made. -/
def defaultsRecords (v : Variant) : Nat → Bytes → NMap Nat → Option (NMap Nat)
  | _, [], m => some m
  | 0, _, _ => none
  | k + 1, b, m =>
    let len := leNat ((b.drop 8).take 2)
    let e := leNat (b.take 2) * 256 + leNat ((b.drop 2).take 1)
    let row := leNat ((b.drop 4).take 4)
    if b.length < 10 + len || !recordWritable v e row len then none
    else defaultsRecords v k (b.drop (10 + len)) (mput m (okey e row) (leNat ((b.drop 10).take len)))

/-- What stands for a defaults image that is no list of such records: an entry that no object has, which fails validation. -/
def badDefaults : NMap Nat := [(0, 1)]

/-- Records that the same objects' writes could have made in the life-cycle state (R14): 0x3530:01 is written in PROVISIONED alone (R450). -/
def State.recordsOpen (s : State) (m : NMap Nat) : NMap Nat :=
  if s.fuses.resolve.1 != 1 && m.any (fun x => keyEntry x.1 == E.updateOemKey) then badDefaults else m

/-- The OD defaults image in use (R14, R62). -/
def State.readDefaults (s : State) : State :=
  let body := ((s.loadedImage 3).drop 256).take (imgBody (s.loadedImage 3))
  { s with od := { s.od with defaultsImg := ((defaultsRecords s.variant body.length body []).map s.recordsOpen).getD badDefaults } }

/-- Whether a commit was cut off, and whether its content returns (R92): `c` is the content that the resolution chose. -/
def State.commitFound (s : State) (c : Option StoreCopy) : State :=
  let back : Bool := match c with
    | some x => s.mram.commitPhase && s.mram.commitWseq != 0 && x.wseq == s.mram.commitWseq
    | none => false
  let s1 := (s.set E.commitLastInterrupted (if s.mram.commitPhase then 1 else 0)).when back (·.count E.commitGeneration)
  { s1 with mram := { s1.mram with commitPhase := false, commitWseq := 0 } }

/-- The store is resolved (R95). -/
def State.storeAtStart (s : State) : State := (s.commitFound s.storeContent).resolveStore

/-- The settings of a runtime trial (R446): the active bank stays, is migrated into the other one, or ends the trial. -/
def State.migrate (s : State) : State :=
  if s.update.trial != some 1 then s
  else
    let c : StoreCopy := s.storeContent.getD (storeCopy s.variant s.activeBank 1 s.runtimeLayout 0 [])
    let b := s.loadedImage 1
    if c.layout == imgLayout b then s
    else if imgLayoutFrom b ≤ c.layout && c.layout ≤ imgLayout b && Config.migrationFails c.layout (imgLayout b) c.wseq then s.failTrial 1 0x50
    else if imgLayoutFrom b ≤ c.layout && c.layout ≤ imgLayout b then
      let s1 := (s.putCopies (1 - s.activeBank) { c with layout := imgLayout b, wseq := s.nextWseq (1 - s.activeBank) }).swapBank
      { s1 with update := { s1.update with migrated := true } }.mramWrite
    else s.failTrial 1 0x4C

/-- Effective defaults as an image, and overlaid with the store (R62, R96). -/
def State.defaultImage (s : State) : NMap Nat := layOver s.variant [] s.od.defaultsImg
def State.storePayload (s : State) : NMap Nat := (s.storeContent.map (·.payload)).getD []
def State.startImage (s : State) : NMap Nat := layOver s.variant s.defaultImage s.storePayload
/-- An image passes the checks of a commit's t1 (R96, R484). A key check that fails at an entry of the store's payload `pay` is none at a start: that value passed
its commit, and a key destroyed since fails at its first use (R139, R166; log 22). -/
def State.imageOk (s : State) (img pay : NMap Nat) : Bool :=
  let t := s.withImage img
  (t.failures [] false).isEmpty && (t.failures [] true).all (fun f => (mfind pay (okey f.entry f.row)).isSome)

/-- A trial whose settings fail validation ends (R446). -/
def State.trialSettings (s : State) : State :=
  match s.update.trial with
  | some 1 => s.when (!s.imageOk s.startImage s.storePayload && s.update.migrated) (·.failTrial 1 0x50)
  | some 3 => if s.imageOk s.startImage s.storePayload then s else (s.failTrial 3 0x50).readDefaults
  | _ => s

/-- The STORE record of a start validation (R96). -/
def State.startRecord (s : State) (outcome : Nat) : State :=
  s.storeRecord outcome s.activeBank ((s.storeContent.map (·.wseq)).getD 0) (s.copyWseq s.activeBank 0) (s.copyWseq s.activeBank 1) (s.copyWseq s.activeBank 2)

/-- START_VALIDATION (R96): the store over the effective defaults, the effective defaults alone, or the Default columns with the image set aside. -/
def State.startConfig (s : State) : State :=
  let pay := s.storePayload
  if s.imageOk s.startImage pay then (s.withImage s.startImage).set E.storeBootResult (if pay.isEmpty then 1 else 0)
  else
    let s1 := s.when (!pay.isEmpty) (·.startRecord 5)
    if !pay.isEmpty && s1.imageOk s1.defaultImage [] then (s1.withImage s1.defaultImage).set E.storeBootResult 2
    else
      let s2 := s1.startRecord 6
      ({ s2 with
        od := { s2.od with defaultsImg := [] }
        update := { s2.update with loaded := s2.update.loaded.filter (· / 2 != 3) } }.withImage []).set E.storeBootResult 3

/-- The versions that run (Table 3-15). -/
def State.versionsSet (s : State) : State :=
  let app := if s.verifies 2 (s.chosenRow 2) then imgVersion (s.image (s.chosenRow 2)) else 0
  (((s.set E.versionGuard (imgVersion (s.loadedImage 0))).set E.versionRuntime (imgVersion (s.loadedImage 1))).set E.versionApplication app).set E.versionOdDefaults
    (imgVersion (s.loadedImage 3))

/-- LIFECYCLE_RESOLUTION (R354). -/
def State.lifeResolve (s : State) : State :=
  let r := s.fuses.resolve
  { s with fuses := r.2.2, life := { s.life with state := r.1, agree := r.2.1 } }

/-- The latest record of a type in the journal. -/
def Evidence.latestOf (e : Evidence) (type : Nat) : Nat := e.journal.foldl (fun m x => if leNat (x.2.bytes.take 2) == type then max m x.2.seq else m) 0

/-- The key records that Table 12-3 names, where a transition was cut off before it erased them (R355, R359). -/
def State.erasedLate (s : State) : State :=
  if s.life.state == 4 then s.eraseRecords (fun _ => true)
  else s.when (s.mram.lifecycle == 1 && (s.life.state == 2 || s.life.state == 3)) (·.eraseRecords (fun r => r.root == 1))

/-- A LIFECYCLE record when the resolved pair is not the one recorded last (R355); that of RETIRED-pending opens its burning, behind a trigger-4 seal (R356).
SERVICE that a transition cut off reached is entered now (R360). PROVISIONED without its record opens the chain with it (R371), and RETIRED closes the chain behind it
with no seal, for SEED is locked (log 44). -/
def State.lifeAtStart (s : State) : State :=
  if s.life.state == s.mram.lifecycle && s.life.agree == s.mram.lifecycleCopies then s
  else
    let s0 := if s.life.state == 1 && !s.ev.chainOpen then s.openChain else s.erasedLate
    let s1 := s0.lifeRecord s.mram.lifecycle s.life.state s.life.agree 0 0
    if s.life.state == 4 then s1.chainOver
    else if s.life.state == 1 && !s.ev.chainOpen then s1.trigger 4
    else if s.life.state == 5 then { s1 with life := { s1.life with pendingSeq := s1.ev.latestOf 0x19 } }.trigger 4
    else if s.life.state == 3 && s.mram.lifecycle != 3 then { s1 with life := { s1.life with serviceFrom := s.clock.xrtc, serviceTime := 60 * s.cfg E.lifecycleServiceTimeout } }
    else s1

/-- The transition's own POWER entry (R389): the island's, whose place is first, or one made now. -/
def State.powerEntry (s : State) : IslandEntry :=
  match s.island.held.find? (fun (x : IslandEntry) => x.type == 0x1B) with
  | some x => { x with payload := pad 32 (powerPayload s.power.left 0 (s.st E.powerLastWakeSource) (s.st E.powerLastWakeDetail)) }
  | none => ⟨0x1B, 0, pad 32 (powerPayload s.power.left 0 (s.st E.powerLastWakeSource) (s.st E.powerLastWakeDetail)), s.rtc, 1⟩

/-- After START: the POWER record of the transition, the held entries, and what found no room (R387, R389). -/
def State.heldRecords (s : State) : State :=
  s.appendHeld (if s.power.left != 0 then s.powerEntry :: s.island.held.filter (fun (x : IslandEntry) => x.type != 0x1B) else s.island.held)

/-- The speed inputs resume from MRAM (R300, R302), and a MEAS_INTERRUPT record names the gap; through LISTEN they went on counting. The mean for
`vbat.system` starts anew (R303). -/
def State.speedAtStart (s : State) (listen : Bool) : State :=
  let s0 := s.forAll [0, 1, 2, 3] (fun s k =>
    let x : SpdInput := if listen then s.spd k else { count := mget 0 s.mram.spdCounts k }
    s.setSpd k { x with reversed := bitAt s.mram.spdReversed k })
  let s1 := { s0 with measure := { s0.measure with vbatSum := 0, vbatCount := 0 } }
  s1.evidence 0 0x13 0 ([0, 1, 2, 3].flatMap (fun k => toLE 6 (mget 0 s.mram.spdCounts k)) ++ toLE 4 s.mram.spdRtc ++ toLE 4 s.rtc)

/-- Rules resume (R313): VIOLATED where a violation was stored, else STALE. -/
def State.rulesAtStart (s : State) : State :=
  s.forAll (s.validRows E.ruleValid) (fun s r => match mfind s.mram.rules r with
    | some (st, slot) => if violating st then ((s.setRule r { state := 4, slot := slot }).setRow E.ruleStOffendingSlot r slot).setRow E.ruleStSince r s.gptp
        else (s.setRule r {}).ruleTo r 1 false
    | none => (s.setRule r {}).ruleTo r 1 false)

/-- The tamper sampler's sequence is seeded at each start (R384). -/
def State.tamperSeeded (s : State) : State := { s with island := { s.island with tamperSeed := Config.trng s.fresh, tamperIndex := 0 } }.draw

/-- The guard firmware's part of a start (t3 and t4 of Table 13-4), once the guard image runs. -/
def State.firmwareRuns (s : State) : State :=
  let listen := s.power.left == 1
  let s1 := ((((s.loadPart 1).loadPart 3).storeAtStart).migrate).readDefaults
  let s2 := ((s1.trialSettings).startConfig).versionsSet
  let s3 := s2.lifeResolve
  let s4 := ((({ s3 with mram := { s3.mram with lastWriteRtc := s.mram.lastWriteRtc } }.saffronStart s3.power.cause).heldRecords).lifeAtStart).speedAtStart listen
  let s5 := s4.when (s4.life.agree == 0) (·.detectedFault 0x15 0 0xFFFF)
  let s6 := s5.rulesAtStart.tamperSeeded
  { s6 with
    power := { s6.power with phase := .images }
    update := { s6.update with window := s6.update.trial.isSome, windowFrom := s6.clock.ticks } }

/-- The flash as the start finds it: rows of `slot.state` order, each at most the size of its slot (Table 15-1). A slot whose record holds no measurement yet, as a slot
written outside the device, is measured (R431). -/
def State.readFlash (s : State) (flash : List Bytes) : State :=
  let img (r : Nat) : Bytes := (flash.getD r []).take (slotSize (r / 2))
  { s with update := { s.update with
      images := (List.range 8).foldl (fun m r => mset [] m r (img r)) []
      meas := (List.range 8).foldl (fun m r => if (img r).isEmpty || (mfind m r).isSome then m else mput m r (imgMeasure (img r))) s.update.meas } }

/-- A loss of power during APPLYING (R441): the slot is invalid, and the state depends on the delta area. -/
def State.applyingCut (s : State) : State :=
  if s.update.state != 3 then s
  else
    let s1 := s.setSlotState (s.spareRow s.update.part) 6
    if deltaOk s1.update.delta then s1.updateTo 2 s1.update.part else s1.dropDelta

/-- The boot ROM (R447, R470): it reads the SFDP table and puts the flash into 8D-8D-8D mode; without a guard image the device does not start. -/
def State.boot (s : State) (flash : List Bytes) : State :=
  let s1 := (((({ s with power := { s.power with flash8D := true }, update := s.update.resolved }).readFlash flash).applyingCut).trialAtStart).loadPart 0
  if (s1.loadedImage 0).isEmpty then { s1 with power := { s1.power with flash8D := false, noGuard := true } } else { s1 with power := { s1.power with noGuard := false } }.firmwareRuns

end Sys2Proof.Machine
end

