-- ==== Sys2Proof/Machine/Power.lean ====
section
/-! DEFINITION. The power modes: start, entry to LISTEN and STANDBY, supplies, RESET_N and VAON (R376 to R381, R389 to R394, R453). -/

namespace Sys2Proof.Machine
open Sys2Proof

/-- The transition that the next START's POWER record names: from the mode left, with wake source 0 (R393). -/
def State.coldMark (s : State) (left : Nat) : State :=
  ((s.set E.powerLastWakeSource 0).set E.powerLastWakeDetail 0).holdEvent 0x1B 0 (powerPayload left 0 0 0)

/-- A cold start begins (R393): t1 of Table 13-4, with INH active. -/
def State.coldStart (s : State) (cause : Nat) : State :=
  { s with power := { s.power with mode := .starting, phase := .supplies, cause := cause, left := 3, inh := true, vsel := true, wakeSeen := false, wakePort := 0xFFFF
                                   halted := false, target := 0, enabled := [], flash8D := false, noGuard := false } }.coldMark 3

/-- The switch dies whose supplies are in range leave reset, unless D0 is itself held (R392, R393). -/
def State.releaseDies (s : State) : State :=
  s.forAll (s.dieList.filter (fun n => (s.die n).supplied)) (fun s n => s.updDie n (fun d => { d with inReset := !(s.power.resetN && s.power.guardSupplied) }))

/-- POWER_ON (R393). While RESET_N is low the start waits for its release. -/
def State.powerOn (s : State) : State :=
  { (s.clearIslandCounters) with
    power := { s.power with guardSupplied := false, vioM := false }
    life := { s.life with serviceFrom := s.clock.xrtc } }.coldStart 0

def execPowerOn (s : State) : Result := done (s.when (s.power.mode == .off) State.powerOn)

/-- RESET_N_ASSERT (R393): every block but the island is held in reset. -/
def State.resetLow (s : State) : State :=
  let s1 := { s with power := { s.power with resetN := false } }
  if s.power.mode == .off then s1
  else
    let s2 := s1.fallDown
    { s2 with power := { s2.power with mode := .starting, phase := .supplies, cause := 1, left := 3, inh := true, vsel := true, wakeSeen := false, wakePort := 0xFFFF
                                       halted := false, target := 0, enabled := [], flash8D := false, noGuard := false } }

def execResetNAssert (s : State) : Result := done (s.when s.power.resetN State.resetLow)

/-- RESET_N_RELEASE (R393): the start sequence runs from t1 with cause 1. -/
def State.resetHigh (s : State) : State :=
  let s1 := { s with power := { s.power with resetN := true }, jtag := {} }
  if s.power.mode == .off then s1
  else ((s1.releaseDies).clearIslandCounters).coldStart 1

def execResetNRelease (s : State) : Result := done (s.when (!s.power.resetN) State.resetHigh)

/-- VAON falls (R394): OFF from any mode. The island and the RTC lose what they hold; the seconds of SERVICE stand still (R360). -/
def State.vaonFalls (s : State) : State :=
  let s1 := s.fallDown
  { s1 with
    dies := []
    power := { resetN := s.power.resetN }
    island := {}
    jtag := {}
    life := { s1.life with serviceTime := s.serviceLeft }
    clock := { s1.clock with rtcValid := false, rtcBase := 0, rtcTick := s1.clock.xrtc } }

def execVaonLoss (s : State) : Result := done (s.when (s.power.mode != .off) State.vaonFalls)

/-- VANA or VIO_M leaves its range (Table 16-3): every D0 block but the island resets, and the device starts again with cause 0. In STANDBY those
blocks are without supply anyway. -/
def State.guardSupplyFails (s : State) : State :=
  let s1 := { s with power := { s.power with guardSupplied := false } }
  if s.power.mode == .standby then s1
  else ({ (s1.fallDown).clearIslandCounters with jtag := {} }).coldStart 0

/-- A supply of a switch die leaves its range (R49, R394, Table 16-3): the die resets, and is LOST in RUN; in READMITTING it is LOST again. VCORE below its
reset threshold does so in every mode (R49) in which the guard die runs: while that is held in reset, the die is in reset with it (R453). A die that resets while the tables are on their way waits for its images again (R33, R389). -/
def State.dieSupplyFails (s : State) (n : Nat) (core : Bool) : State :=
  let s1 := if s.inRun || (core && s.power.resetN && s.power.guardSupplied) then s.dieReset n else s.clearDie n
  let s2 := s1.updDie n (fun d => { d with supplied := false, image := false, inReset := true, runtimeUp := false })
  s2.when (s.power.mode == .starting && s.power.phase == .tables && !s2.lostDie n) (fun s => { s with power := { s.power with phase := .images } })

/-- SUPPLY_OUT_OF_RANGE (R453). -/
def execSupplyOutOfRange (sup : Supply) (s : State) : Result :=
  match sup with
  | .vaon => done (s.when (s.power.mode != .off) State.vaonFalls)
  | .vana => done (s.when (s.power.mode != .off && s.power.guardSupplied) State.guardSupplyFails)
  | .vioM =>
    let t := s.when (s.power.mode != .off && s.power.guardSupplied) State.guardSupplyFails
    done { t with power := { t.power with vioM := false } }
  | .vcore n => doneIf s (s.variant.hasDie n) (s.when (s.power.mode != .off && (s.die n).supplied) (·.dieSupplyFails n true))
  | .vsds n | .vsdsio n | .vioGen n =>
    doneIf s (s.variant.hasDie n) (s.when (s.power.mode != .off && (s.die n).supplied) (·.dieSupplyFails n false))
  | .vioBus n =>
    doneIf s (s.variant.hasDie n)
      ((s.when (s.power.mode != .off && (s.die n).supplied) (·.dieSupplyFails n false)).updDie n (fun d => { d with busUp := false }))

/-- SUPPLIES_IN_RANGE (R392): those of D0's other blocks for die 0, those of a switch die otherwise, which stays in reset while RESET_N is low
or VANA or VIO_M is out (R393, Table 16-3). -/
def State.suppliesUp (s : State) (n : Nat) : State :=
  if n == 0 then
    let starts := s.power.mode == .starting && s.power.phase == .supplies
    let s1 := { s with power := { s.power with guardSupplied := true, vioM := true, phase := if starts then .firmware else s.power.phase } }
    s1.when (!s.power.guardSupplied) State.releaseDies
  else s.updDie n (fun d => { d with supplied := true, busUp := true, inReset := !(s.power.resetN && s.power.guardSupplied) })

def execSuppliesInRange (die : Nat) (s : State) : Result :=
  doneIf s (die == 0 || s.variant.hasDie die) (s.when (s.power.inh && s.power.mode != .standby) (·.suppliesUp die))

/-- SWITCH_DIE_SUPPLY_TIMEOUT (R393): 20 ms after t1 the die is LOST, with class 0x0B and unit 0xFFFF. -/
def execSwitchDieSupplyTimeout (die : Nat) (s : State) : Result :=
  doneIf s (s.variant.hasDie die) (s.when (s.power.mode == .starting && s.power.resetN && !(s.die die).supplied) (·.loseDie die))

/-- GUARD_FIRMWARE_VERIFIED (R447): the images that stand in flash come with the event. -/
def execGuardFirmwareVerified (flash : List Bytes) (s : State) : Result :=
  done (s.when (s.power.mode == .starting && s.power.resetN && s.power.guardSupplied && (s.power.phase == .supplies || s.power.phase == .firmware)) (·.boot flash))

/-- The images reach a switch die (R33), and its runtime pair runs; its RED generator is seeded (R223). -/
def State.imageLoaded (s : State) (n : Nat) : State := (s.updDie n (fun d => { d with image := true, inReset := false, runtimeUp := true })).redSeeded n

/-- SWITCH_IMAGES_LOADED (R33, R389): t5, once every die is supplied or LOST. Without a runtime image no die is loaded, so none comes into service and SAFE_N
goes low (R287, R447). D0 claims its pin before the runtime pair starts (R427). -/
def State.imagesLoaded (s : State) : State :=
  let up := s.dieList.filter (fun n => (s.die n).supplied && !s.lostDie n)
  let s1 := s.forAll up (if (s.loadedImage 1).isEmpty then (fun s n => s.setHealth n 4) else State.imageLoaded)
  { s1.claimVsel with power := { s1.power with phase := .tables } }

def execSwitchImagesLoaded (s : State) : Result :=
  done (s.when (s.power.mode == .starting && s.power.resetN && s.power.phase == .images && s.dieList.all (fun n => (s.die n).supplied || s.lostDie n))
    State.imagesLoaded)

/-- The placement of a start (R390): the stored one when its digest matches, else a new one. Nothing is under way that it could move. -/
def State.startPlacement (s : State) : State :=
  let pl := if s.mram.placementDigest == some s.inputDigest then s.mram.placement else s.place.pl
  { s with sumac := { s.sumac with inForce := pl, perDie := [] } }.placementApplied pl 0

/-- The ports that the first wake event wakes (R391). -/
def State.propagated (s : State) : List Nat :=
  let code := s.st E.powerLastWakeSource
  if s.power.cause == 2 && s.cfgRowOn E.propValid code then s.slotList.filter (fun p => !isEth p && p != s.power.wakePort && bitAt (s.cfgRow E.propPorts code) p) else []

/-- A rule stored as violated blocks again (R313). -/
def State.blocksAgain (s : State) : State :=
  s.forAll ((s.validRows E.ruleValid).filter (fun r => violating (s.rule r).state && s.ruleAction r 2)) (fun s r => s.placeBlock r (s.rule r).slot)

/-- TABLES_APPLIED (R389): t6. Tables and keys stand on the dies, every enabled port enters ENABLING, and the device is in RUN. SAFE_N may rise only when every image has been loaded (R286). A SERVICE whose
time is over ends (R360). -/
def State.tablesApplied (s : State) : State :=
  let s1 := { s with power := { s.power with mode := .run, halted := false, target := 0, enabled := [], wakeSeen := false, idleFrom := s.clock.ticks } }
  let s2 := (s1.startPlacement.keysApply).blocksAgain
  let s3 := s2.forAll s2.propagated (fun s p => s.updPort p (fun x => { x with wakePending := true }))
  let s4 := s3.forAll (s3.dieList.filter s3.dieRuns) State.dieJoins
  let s5 := ({ s4 with safe := { s4.safe with applied := !(s4.loadedImage 1).isEmpty } }).set E.powerLastMode s.power.left
  (s5.when (s5.condHolds 0x100) (·.driveSafe 0x100)).serviceMissed

def execTablesApplied (s : State) : Result :=
  done (s.when (s.power.mode == .starting && s.power.resetN && s.power.phase == .tables) State.tablesApplied)

/-- A WK input named in `power.keepAwake` reads 1 (R378). -/
def State.keptAwake (s : State) : Bool := (s.cfg E.powerKeepAwake &&& (s.measure.wk.getD 0)) != 0

/-- The status that a request for a mode would fail with (R378), 0 for none. -/
def State.requestStatus (s : State) : Nat :=
  if s.committing || s.update.state == 3 || s.update.state == 5 || s.lifePending || s.power.mode != .run then 0x0C
  else if s.keptAwake then 0x0A
  else 0

/-- A write of `power.request` (R378): 1 LISTEN, 2 STANDBY. -/
def State.powerRequest (s : State) (target : Nat) : State × Nat := if s.requestStatus == 0 then (s.enterFrom target, 0) else (s, s.requestStatus)

/-- AUTO_SLEEP_CHECK (R378): the end of a second. -/
def State.autoSleep (s : State) : State :=
  if s.cfgOn E.powerAutoSleep && s.requestStatus == 0 && s.cfg E.powerIdleTime * 40000000 ≤ s.clock.ticks - s.power.idleFrom then s.enterFrom (s.cfg E.powerAutoSleepMode) else s

def execAutoSleepCheck (s : State) : Result := done (s.when s.inRun State.autoSleep)

/-- POWER_ENTRY_PORTS_DISABLED (R379): t1, with the MRAM writes, the POWER record and the trigger-3 seal. A restart of an update has had its seal (R443), and its record
names RUN after RUN (log 119). -/
def State.portsDisabled (s : State) : State :=
  let s1 := (({ s with power := { s.power with halted := true } }).storeDistance).storeFreshness
  let after := if 3 ≤ s.power.target then 0 else s.power.target
  ((s1.islandEvent 0x1B 0 (powerPayload 0 after 0 0)).flushQueue).when (s.power.target < 3) (·.trigger 3)

def execPowerEntryPortsDisabled (s : State) : Result :=
  done (s.when (s.power.mode == .entering && !s.power.halted && (s.slotList.filter s.portRuns).all (fun p => s.portState p == 0)) State.portsDisabled)

/-- The mode entered (R379, R443): t2. -/
def State.enterMode (s : State) (target : Nat) : State :=
  if target == 1 then
    let s1 := s.wipe true
    { s1 with power := { s1.power with mode := .listen, vsel := false, halted := false }, island := { s1.island with decErr := [] } }
  else if target == 2 then
    let s1 := s.wipe false
    { s1 with power := { s1.power with mode := .standby, inh := false, vsel := false, guardSupplied := false, vioM := false, flash8D := false, noGuard := false, halted := false }
              dies := []
              jtag := {}
              island := { s1.island with decErr := [] } }
  else
    let s1 := (s.wipe false).clearIslandCounters
    { s1 with power := { s1.power with mode := .starting, phase := .firmware, cause := if target == 3 then 4 else 5, left := 0, wakeSeen := false, wakePort := 0xFFFF
                                       halted := false, flash8D := false, noGuard := false } }.releaseDies

/-- The entry waits for its seal (R379), or a restart of an update for its own (R443), while Saffron can issue one. -/
def State.sealAwaited (s : State) : Bool :=
  s.ev.running && decide (s.ev.nextSeal < sealNumbers) &&
  (if 3 ≤ s.power.target then s.ev.due.contains 4 || s.ev.job.any (·.trigger == 4) else s.ev.due.contains 3 || s.ev.job.any (·.standby))

/-- POWER_ENTRY_COMPLETE (R379). -/
def execPowerEntryComplete (s : State) : Result :=
  done (s.when (s.power.mode == .entering && s.power.halted && !s.sealAwaited) (fun s => s.flushQueue.enterMode s.power.target))

end Sys2Proof.Machine
end

