-- ==== Sys2Proof/Machine/OdRead.lean ====
section
/-! DEFINITION. Reading the object dictionary (R58 to R67, R87): the values that the device computes at the read, and the conditions of a read. -/

namespace Sys2Proof.Machine
open Sys2Proof

def flagNat (b : Bool) : Nat := if b then 1 else 0

/-- 0x1001, 0x1010, 0x1020: identity, versions, life-cycle state (R97). -/
def State.readIdentity (s : State) (e : Nat) : Option Nat :=
  match e with
  | 0x100102 => some (s.variant.nc + 1)
  | 0x100103 => some s.variant.nc
  | 0x100104 => some (if Config.gradeTwo then 2 else 1)
  | 0x100106 => some Config.serial.toNat
  | 0x100108 => some (leNat s.idDigest)
  | 0x100109 => some Config.macBase.toNat
  | 0x101005 => some ((s.storeContent.map (·.layout)).getD s.runtimeLayout)
  | 0x101006 => some (([0, 1, 2, 3].map (fun p => 2 ^ p * s.slotInUse p)).sum)
  | 0x102001 => some s.life.state
  | 0x102002 => some s.life.agree
  | _ => none

/-- The text of a string entry (R7, R8, R97). -/
def State.readText (s : State) (e : Nat) : Bytes :=
  if e == E.identityOrderCode then
    ascii (match s.variant with
      | .az8102 => "AZ8102-B484-Q"
      | .az8104 => "AZ8104-B676-Q"
      | .az8108 => "AZ8108-B1024-Q") ++ ascii (if Config.gradeTwo then "2" else "1")
  else if e == E.identitySiliconRev then ascii "A"
  else if e == E.identityDeviceName then ascii "Azfort AZ8100"
  else []

/-- Whole seconds from an instant to now. -/
def State.secondsSince (s : State) (t : Nat) : Nat := (s.clock.ticks - t) / 40000000

/-- 0x1121: a row of the session table (R98). -/
def State.readSessions (s : State) (sub row : Nat) : Nat :=
  let x := s.sess row
  let on := if 5 ≤ row then s.variant.hasDie (row - 4) else x.valid
  if !on then 0
  else match sub with
    | 1 => 1
    | 2 => s.sessLevel row
    | 3 => x.sid
    | 4 => x.peer
    | 5 => min 65535 (s.secondsSince x.last)
    | _ => flagNat (s.lockHolder == some row)

/-- `access.lockoutRemaining` in seconds, the largest over the access points (R73). -/
def State.lockoutLeft (s : State) : Nat :=
  (s.lockouts.map (fun x => if x.2.locked then ceilDiv (x.2.untilTick - s.clock.ticks) 40000000 else 0)).foldl max 0

/-- 0x1122 to 0x1310: the session that reads, the commit, the store and the time base (R85, R98 to R100). -/
def State.readAccess (s : State) (sess e : Nat) : Option Nat :=
  match e with
  | 0x112202 => some (if (s.sess 0).pending then (s.sess 0).nd else 0)
  | 0x112206 => some (s.sessLevel sess)
  | 0x112207 => some (s.sess sess).lastStatus
  | 0x112307 => some s.lockoutLeft
  | 0x120008 => some s.stagedBytes
  | 0x121002 => some ((s.storeContent.map (fun c => payloadSize s.variant c.payload)).getD 0)
  | 0x121003 => some ((s.storeContent.map (·.wseq)).getD 0)
  | 0x130101 => some s.gptp
  | 0x130102 => some (flagNat s.clock.synced)
  | 0x130103 => some s.clock.gmOffset
  | 0x130104 => some s.clock.gmIdentity
  | 0x131001 => some s.rtc
  | 0x131002 => some (flagNat s.clock.rtcValid)
  | _ => none

/-- 0x2200 + slot: rule blocks and the next transmit and receive counters (R117, R121, R165). -/
def State.readPortSec (s : State) (slot sub : Nat) : Option Nat :=
  let k := slot * 32
  if isCan slot then
    if sub == 0x04 then some (flagNat (!(s.port slot).blocks.isEmpty))
    else if sub % 16 == 10 && 0x10 ≤ sub && sub < 0x50 then some (mget 0 s.txCounters (k + sub / 16 - 1))
    else none
  else if 0x18 ≤ sub && sub < 0x1C then some (mget 0 s.txCounters (k + sub - 0x18) + 1)
  else if 8 ≤ sub % 16 && sub % 16 < 12 && 0x28 ≤ sub then some (max 1 (s.latest (k + 4 * (sub / 16 - 2) + sub % 16 - 8)))
  else none

/-- 0x2411: a position of a die's forwarding database (R212). -/
def State.readFdb (s : State) (sub row : Nat) : Nat :=
  let pos := row % 65536
  match mfind (s.die (row / 65536 + 1)).fdb pos with
  | none => 0
  | some f => match sub with
    | 1 => 1
    | 2 => f.realm
    | 3 => f.mac
    | 4 => f.dest
    | 5 => flagNat f.isStatic
    | 6 => flagNat f.hit
    | 7 => f.idle
    | 8 => f.source
    | 9 => min 0xFFFFFFFF ((s.clock.ticks - f.since) / 40000)
    | _ => if 32768 ≤ pos then 2 else if fdbH1 f.realm f.mac == pos / 4 then 0 else 1

/-- The source of back-pressure that a queue point is (R224): a port, a processor port, the tunnel engines, or a link end. -/
def pointSource (n q : Nat) : Nat :=
  if q < 21 then (n - 1) * 32 + q else if q < 24 then 0x100 + 2 * (n - 1) + (q - 22) else if q < 28 then 0x300 + 4 * (n - 1) + (q - 24) else 0x200 + n

/-- 0x2540: a queue (R242). -/
def State.readQueue (s : State) (sub row : Nat) : Option Nat :=
  let n := rowDie row
  let q := row % 256 / 8
  let c := row % 8
  match sub with
  | 0x01 => some (flagNat ((s.points n).contains q))
  | 0x02 => some (s.qCells row)
  | 0x0C => some (if (s.points n).contains q then s.charged n (.headroom (pointSource n q) c) else 0)
  | 0x0D => some (flagNat ((s.points n).contains q && s.bpOn (pointSource n q) c))
  | _ => none

/-- The cells of a die in physical use: a frame is stored once, whatever its copies (R215). -/
def State.cellsInUse (s : State) (n : Nat) : Nat :=
  ((s.dieCopies n ++ (s.die n).held.map (·.2)).foldl (fun (acc : NMap Nat) cp => mput acc cp.fid cp.cells) []).foldl (fun t x => t + x.2) 0

/-- 0x2548 + (n − 1): the buffer of a die (R216, R242). -/
def State.readBuffer (s : State) (n sub : Nat) : Option Nat :=
  let pl := s.placementOf n
  match sub with
  | 1 => some (24576 - s.cellsInUse n)
  | 2 => some (s.poolSize n)
  | 3 => some (s.sharedUsed n)
  | 4 => some (s.headroomSize n)
  | 5 => some (((s.dieCopies n).map (fun cp => match cp.charge with
      | .headroom _ _ => cp.cells
      | _ => 0)).sum)
  | 6 => some (s.resvCells pl n + s.atomicCells pl n)
  | 7 => some (s.rxReserves n)
  | _ => none

/-- 0x2601: a tunnel row (R265). -/
def State.readTunnel (s : State) (sub row : Nat) : Option Nat :=
  let t := s.tunnel row
  let p := mfind s.sumac.inForce.tunnels row
  match sub with
  | 1 => some (flagNat p.isSome)
  | 2 => some ((p.map (·.1)).getD 0)
  | 3 => some ((p.map (·.2)).getD 0)
  | 4 => some t.txSeq
  | 5 => some t.rxLast
  | 6 => some (flagNat t.synced)
  | _ => none

/-- 0x2703: an item of the placement (R290). -/
def State.readPlaced (s : State) (sub row : Nat) : Nat :=
  match s.sumac.inForce.placed[row]? with
  | none => 0
  | some (i, r, d, u, st) => match sub with
    | 1 => 1
    | 2 => i
    | 3 => r
    | 4 => d
    | 5 => u
    | _ => st

/-- 0x2704: a path (R268, R290). -/
def State.readPath (s : State) (sub row : Nat) : Option Nat :=
  let p := (mfind s.sumac.inForce.paths row).getD (0, 0)
  match sub with
  | 1 => some (flagNat (s.variant.hasDie (row / 8 + 1) && s.variant.hasDie (row % 8 + 1) && row / 8 != row % 8))
  | 2 => some p.1
  | 3 => some (if s.stRow E.pathActive row != 1 && s.pathBroken (row / 8 + 1) p.2 then 0 else p.2)
  | _ => none

/-- 0x2710 and 0x2711: a die and a link end (R34, R291). -/
def State.readDie (s : State) (sub row : Nat) : Option Nat :=
  match sub with
  | 1 => some (flagNat (row == 0 || s.variant.hasDie row))
  | 2 => some (s.healthState row)
  | _ => none
def State.readLink (s : State) (sub row : Nat) : Option Nat :=
  let p := if s.variant.hasDie (row / 4 + 1) then s.variant.partner (row / 4 + 1) (row % 4) else none
  match sub with
  | 1 => some (flagNat p.isSome)
  | 2 => some (if p.isNone then 2 else if (s.link (row / 4 + 1) (row % 4)).failed then 1 else 0)
  | 3 => some ((p.map (fun x => 16 * x.1 + x.2)).getD 0)
  | _ => none

/-- 0x3010 to 0x3040: inputs and speeds (R294 to R302, R314, R316 to R318). -/
def State.readMeasure (s : State) (idx sub : Nat) : Option Nat :=
  let i := idx % 16
  let k := idx - 0x3028
  if idx / 16 == 0x301 then (match sub with
    | 2 => some (flagNat (s.miValid i))
    | 3 => some (s.mi i).diag
    | _ => none)
  else if 0x3028 ≤ idx && idx < 0x302C then (match sub with
    | 3 => some (s.spd k).count
    | 4 => some ((s.spd k).count * 1000 / s.cfgMi E.spdPulsesPerKm k)
    | 5 => some (flagNat (s.spd k).reversed)
    | 6 => some (s.spdState k)
    | _ => none)
  else if idx == 0x3040 then (match sub with
    | 3 => some s.motionSpd.1
    | 4 => some (flagNat s.motionSpd.2)
    | 5 => some s.motionBus.1
    | 6 => some (flagNat s.motionBus.2)
    | _ => none)
  else none

/-- 0x3101 and 0x3111: taps and rules (R307, R319, R320). -/
def State.readTap (s : State) (sub row : Nat) : Option Nat :=
  let v := mfind s.measure.taps row
  match sub with
  | 1 => some (flagNat (!(s.tapHosts row).isEmpty))
  | 2 => some ((v.map (·.1)).getD 0)
  | 3 => some ((v.map (·.2.1)).getD 0)
  | 4 => some ((v.map (·.2.2)).getD 0xFFFF)
  | 5 => some (flagNat (s.tapStale row))
  | _ => none
def State.readRule (s : State) (sub row : Nat) : Option Nat :=
  match sub with
  | 1 => some (flagNat (s.cfgRowOn E.ruleValid row))
  | 2 => some (s.rule row).state
  | _ => none

/-- 0x3201 and 0x3212: the chain, its seals and the FIFO (R328 to R340, R350, R351). -/
def State.readEvidence (s : State) (e : Nat) : Option Nat :=
  match e with
  | 0x320101 => some s.ev.lastSeq
  | 0x320102 => some (leNat (bytes256 s.ev.h))
  | 0x320103 => some s.ev.lastSealNumber
  | 0x320104 => some (sealNumbers - max s.ev.nextSeal s.ev.sealLimit)
  | 0x320105 => some s.ev.lastSealTime
  | 0x320106 => some s.ev.floor
  | 0x320107 => some s.ev.lossTotal
  | 0x320108 => some s.ev.held
  | 0x320109 => some s.ev.unread
  | 0x32010A => some (flagNat s.ev.ovr)
  | 0x32010B => some s.evState
  | 0x32010C => some s.ev.bootCount
  | 0x32010D => some (flagNat s.ev.nextTree)
  | 0x321203 => some ((s.ev.store.head?.map (·.1)).getD 0)
  | _ => none

/-- 0x3310: a key slot (R375); a slot without a record reads 0 but for its status. -/
def State.readKey (s : State) (sub row : Nat) : Option Nat :=
  match mfind s.keys.records row with
  | none => some (if sub == 0x10 then 0x31 else 0)
  | some r => match sub with
    | 1 => some 1
    | 2 => some r.kind
    | 3 => some r.root
    | 4 => some r.parent
    | 5 => some r.parentGen
    | 6 => some r.ownGen
    | 7 => some r.usage
    | 8 => some r.blocks
    | 9 => some r.dies
    | 10 => some r.length
    | 11 => some r.origin
    | 12 => some r.relation
    | 13 => some r.label
    | 14 => some r.kcv
    | 16 => some (s.keyStatus row r.usage r.blocks 0)
    | _ => none

/-- `slot.state` (R431, Table 15-10): of the active slot 4 where it holds an image, of the other what the record says. -/
def State.slotShown (s : State) (row : Nat) : Nat :=
  if s.activeRow (row / 2) == row then (if (s.image row).isEmpty then 0 else 4) else mget 0 s.update.slotState row

/-- 0x3300 to 0x3541: life cycle, keys, tamper, update (R358, R360, R374, R384, R450). -/
def State.readSystem (s : State) (sess e row : Nat) : Option Nat :=
  match e with
  | 0x330002 => some (((s.life.request.filter (fun r => r.sess == sess)).map (·.token)).getD 0)
  | 0x330005 => some s.fuses.visitsLeft
  | 0x330007 => some s.serviceLeft
  | 0x330201 => some s.keys.genMfg
  | 0x330202 => some s.keys.genField
  | 0x330203 => some s.keys.genService
  | 0x330204 => some (selectedRoot s.life.state)
  | 0x340204 => some ((mget {} s.island.loops 0).state + 4 * (mget {} s.island.loops 1).state)
  | 0x350001 => some s.update.state
  | 0x350003 => some s.update.part
  | 0x350005 => some s.newVersion
  | 0x350006 => some s.trialRemaining
  | 0x350008 => some s.update.delta.length
  | 0x351006 => some s.gateState
  | 0x354001 => some 1
  | 0x354002 => some (s.slotShown row)
  | 0x354003 => some (imgVersion (s.image row))
  | 0x354004 => some (imgSecVersion (s.image row))
  | 0x354005 => some (s.slotMeasure row)
  | 0x354101 => some (s.floor 0)
  | 0x354102 => some (s.floor 1)
  | 0x354103 => some (s.floor 2)
  | 0x354104 => some (s.floor 3)
  | _ => none

/-- A live entry that belongs to the session (R65, R72, R351, R372, R375). -/
def sessionEntry (e : Nat) : Bool :=
  e == E.commitReadView || e == E.journalSelect || e == E.sealStoreSelect || e == E.attestRelation || e == E.attestResponse ||
  (E.keycmdSlot ≤ e && e ≤ E.keycmdBlob) || e == E.keycmdStatus

/-- 0x2450 to 0x2456, the counts of a die's forwarding database: all its entries, and those in the stash (R213). -/
def State.readFdbCount (s : State) (n sub : Nat) : Option Nat :=
  let t := (s.die n).fdb
  match sub with
  | 1 => some t.length
  | 2 => some (t.filter (fun p => 32768 ≤ p.1)).length
  | _ => none

/-- A value that the device computes when it is read. -/
def State.readComputed (s : State) (sess e row : Nat) : Option Nat :=
  let idx := e / 256
  let sub := e % 256
  if idx < 0x1100 then s.readIdentity e
  else if idx == 0x1121 then some (s.readSessions sub row)
  else if idx < 0x1400 then s.readAccess sess e
  else if 0x2200 ≤ idx && idx < 0x2300 then s.readPortSec (idx - 0x2200) sub
  else if 0x2450 ≤ idx && idx < 0x2457 then s.readFdbCount (idx - 0x244F) sub
  else if idx == 0x2411 then some (s.readFdb sub row)
  else if idx == 0x2511 && sub == 1 then some (flagNat (mfind s.sumac.inForce.policers row).isSome)
  else if idx == 0x2511 && sub == 2 then some ((mfind s.sumac.inForce.policers row).getD 0)
  else if idx == 0x2540 then s.readQueue sub row
  else if 0x2548 ≤ idx && idx < 0x2550 then s.readBuffer (idx - 0x2547) sub
  else if idx == 0x2559 && sub == 1 then some s.sumac.inForce.capture
  else if idx == 0x2601 then s.readTunnel sub row
  else if idx == 0x2703 then some (s.readPlaced sub row)
  else if idx == 0x2704 then s.readPath sub row
  else if idx == 0x2710 then s.readDie sub row
  else if idx == 0x2711 then s.readLink sub row
  else if e == E.safeState then some (flagNat s.safeLow)
  else if idx == 0x3101 then s.readTap sub row
  else if idx == 0x3111 then s.readRule sub row
  else if idx == 0x3310 then s.readKey sub row
  else if 0x3000 ≤ idx && idx < 0x3100 then s.readMeasure idx sub
  else if idx / 256 == 0x32 then s.readEvidence e
  else s.readSystem sess e row

/-- The active value of an entry as it is read. -/
def State.readActive (s : State) (sess e row : Nat) (o : OdEntry) : Nat :=
  if sessionEntry e then s.live sess e
  else if e == E.updateOemKey then s.update.oemKey
  else match s.readComputed sess e row with
    | some v => v
    | none => if o.acc == .rw then s.cfgRow e row else s.stRow e row

/-- The staged value where the read asks for it and one exists, the active value otherwise (R87). -/
def State.readView (s : State) (sess e row : Nat) (o : OdEntry) (staged : Bool) : Nat :=
  if s.lockHolder == some sess && !(s.committing && s.commit.sessionEnded) && (staged || s.live sess E.commitReadView == 1) then
    (mfind s.od.staging (okey e row)).getD (s.readActive sess e row o)
  else s.readActive sess e row o

/-- The journal record that a session selects (R351): 0x03 where it is not held, 0x0A where it is damaged. -/
def State.readRecord (s : State) (sess : Nat) : Nat × Bytes :=
  match s.ev.entry (s.live sess E.journalSelect) with
  | none => (0x03, [])
  | some j => if j.intact then (0, j.bytes) else (0x0A, [])

/-- The stored seal that a session selects (R351). -/
def State.readSeal (s : State) (sess : Nat) : Nat × Bytes :=
  match s.ev.sealHeld (s.live sess E.sealStoreSelect) with
  | none => (0x03, [])
  | some (x, true) => (0, x)
  | some (_, false) => (0x0A, [])

/-- The status and the value bytes of an entry that may be read. -/
def State.readBytes (s : State) (sess e row : Nat) (o : OdEntry) (staged : Bool) : Nat × Bytes :=
  match o.ty with
  | .str => (0, s.readText e)
  | .dom _ => s.readSeal sess
  | ty =>
    if e == E.journalRecord then s.readRecord sess
    else if e == E.sessionSdoDeviceNonce && sess != 0 then (0x0A, [])
    else (0, toLE (ty.size.getD 0) (s.readView sess e row o staged))

/-- A VAR has one entry, at subindex 0; any other object without rows is a RECORD (R58). -/
def OdObject.isVar (o : OdObject) : Bool := o.cap == 0 && o.entries.all (fun x => x.hi == 0)
/-- The highest subindex in use on this part, a TABLE's highest field (R58, R64). -/
def OdObject.highest (v : Variant) (idx : Nat) (o : OdObject) : Nat :=
  (o.entries.map (fun x => (((List.range (x.hi + 1 - x.lo)).map (x.lo + ·)).filter (odEntryPresent v idx)).foldl max 0)).foldl max 0
/-- Levels R and W of Table 3-3; 9 where no session may write. -/
def OdObject.rowRead (o : OdObject) : Nat := ((o.entries.find? (fun x => x.lo == 1)).map (·.rl)).getD 9
def OdObject.rowWrite (o : OdObject) : Nat := ((o.entries.filter (fun x => x.wl != 9)).map (·.wl)).foldl (fun m x => if m == 9 then x else max m x) 9

/-- Rows with `valid` true (Table 3-3). -/
def State.rowsInUse (s : State) (sess : Nat) (o : OdObject) : Nat :=
  let e := o.base * 256 + 1
  if o.base == 0x2411 then (s.dieList.map (fun n => (s.die n).fdb.length)).sum
  else match o.entries.find? (fun x => x.lo == 1) with
    | some f => ((List.range (o.rows s.variant)).filter (fun r => s.readActive sess e r f == 1)).length
    | none => 0

/-- The switch die that carries a session's requests: of the service port, of the Anise endpoint, or of the mailbox (R67). -/
def State.carrier (s : State) (sess : Nat) : Nat :=
  if sess == 0 then slotDie (s.cfg E.accessSdoPortSlot) else if sess < 5 || sess == noSession then s.cfg E.accessAniseHostDie else sess - 4

/-- A TABLE's access takes a row word: its fields and its row action, not the other reserved subindices (Tables 3-3, 3-6). -/
def takesRow (sub : Nat) : Bool := (1 ≤ sub && sub ≤ 0xFB) || sub == 0xFF

/-- The die that serves an access, 0 for D0 (R67); what 0x2411 says of itself names no die's row, so D0 serves it. -/
def servingDie (idx sub row : Nat) : Nat :=
  if 0x2100 ≤ idx && idx < 0x2200 then slotDie (idx - 0x2100) else if idx == 0x2411 && takesRow sub then row / 65536 + 1 else 0

/-- A die's runtime pair runs. -/
def State.pairRuns (s : State) (n : Nat) : Bool := s.dieRuns n && (s.die n).runtimeUp

/-- D0 has a way to a die and an answer from it (R67). -/
def State.answers (s : State) (n : Nat) : Bool := s.pairRuns n && (s.die n).state != 3

/-- A request reaches its server and gets its answer (R67). -/
def State.reachesServer (s : State) (sess server : Nat) : Bool :=
  s.carrier sess == server || ((s.die (s.carrier sess)).state != 3 && !s.safe.securityDown && (server == 0 || s.answers server))

/-- The die whose values D0 reads over lane 3 for an entry, 0 none (R213, R235, R238, R240, R242, R265, R429). -/
def State.laneDie (s : State) (idx sub row : Nat) : Nat :=
  if 0x2450 ≤ idx && idx < 0x2458 then idx - 0x244F
  else if idx == 0x2511 then (mfind s.sumac.inForce.policers row).getD 0
  else if idx == 0x2528 && 3 ≤ sub then (mfind s.sumac.inForce.replication row).getD 0
  else if idx == 0x2540 then rowDie row
  else if idx == 0x2601 then ((mfind s.sumac.inForce.tunnels row).map (·.1)).getD 0
  else if 0x2548 ≤ idx && idx < 0x2550 then idx - 0x2547
  else if idx == 0x2559 && sub != 1 then s.sumac.inForce.capture
  else if 0x3610 ≤ idx && idx < 0x3618 then idx - 0x360F
  else 0

/-- The die that has to answer for an entry can (R67, R213, R242, R429). -/
def State.laneOk (s : State) (idx sub row : Nat) : Bool := s.laneDie idx sub row == 0 || s.answers (s.laneDie idx sub row)

/-- A TABLE's field names a row that it has not (R64). -/
def OdObject.badRow (v : Variant) (o : OdObject) (sub row : Nat) : Bool := o.cap != 0 && takesRow sub && o.rows v ≤ row

/-- The part of an entry that a request names: a DOMAIN is read from an offset, 1,024 bytes at a time (R80). -/
def piece (whole : Bool) (offset : Nat) (r : Nat × Bytes) : Nat × Bytes :=
  if whole || r.1 != 0 then r
  else if r.2.length ≤ offset then (0x0A, []) else (0, (r.2.drop offset).take 1024)

/-- A read of a reserved subindex (Tables 3-2, 3-3, R58). -/
def State.readReserved (s : State) (sess : Nat) (o : OdObject) (idx sub : Nat) : Nat × Bytes :=
  let level := s.sessLevel sess
  if sub == 0 && o.cap == 0 then (0, toLE 1 (o.highest s.variant idx))
  else if sub == 0xFF then (0x05, [])
  else if level < o.rowRead then (0x06, [])
  else match sub with
    | 0x00 => (0, toLE 1 (o.highest s.variant idx))
    | 0xFC => (0, toLE 4 (o.rows s.variant))
    | 0xFD => (0, toLE 4 (s.rowsInUse sess o))
    | _ => (0, toLE 4 (mget 0 (s.sess sess).cursors idx))

/-- A subindex that every RECORD or TABLE has (R58, R64). -/
def OdObject.reserved (o : OdObject) (sub : Nat) : Bool := (sub == 0 && !o.isVar) || (o.cap != 0 && 0xFC ≤ sub)

/-- A request's existence checks: object, subindex and row (R64, R66, R85), then its way to the server (R67). A row outside the table is judged as row 0 is, so
for 0x2411 by D1 (DESIGN CHOICE, log 106). -/
def State.reachStatus (s : State) (sess idx sub row : Nat) (o : OdObject) : Nat :=
  if !s.reachesServer sess (servingDie idx sub (if o.badRow s.variant sub row then 0 else row)) then 0x0D
  else if !o.reserved sub && (odEntry s.variant (idx * 256 + sub)).isNone then 0x02
  else if o.badRow s.variant sub row then 0x03
  else 0

/-- The row of a key: a TABLE's row, or none. -/
def OdObject.keyRow (o : OdObject) (row : Nat) : Nat := if o.cap == 0 then noRow else row

/-- What a read with this status finds: a damaged journal entry is lost like an overwritten one (R331). -/
def State.readFinds (s : State) (sess idx sub st : Nat) : State :=
  if idx == 0x3210 && sub == 2 && st == 0x0A then
    match s.ev.entry (s.live sess E.journalSelect) with
    | some j => s.damagedEntry j
    | none => s
  else s

/-- A read of an entry by a session (R61, R67, R85, R87): status and value. `whole` reads a DOMAIN at once. -/
def State.odRead (s : State) (sess idx sub row : Nat) (staged whole : Bool) : Nat × Bytes :=
  match odObject s.variant idx with
  | none => if s.reachesServer sess 0 then (0x01, []) else (0x0D, [])
  | some o =>
    let st := s.reachStatus sess idx sub row o
    if st != 0 then (st, [])
    else if o.reserved sub then s.readReserved sess o idx sub
    else match odEntry s.variant (idx * 256 + sub) with
      | none => (0x02, [])
      | some x =>
        if x.acc == .wo then (0x05, [])
        else if s.sessLevel sess < x.rl then (0x06, [])
        else if !s.laneOk idx sub row then (0x0D, [])
        else
          let r := s.readBytes sess (idx * 256 + sub) (o.keyRow row) x staged
          match x.ty with
          | .dom _ => piece whole row r
          | _ => r

end Sys2Proof.Machine
end

