-- ==== Sys2Proof/Machine/OdWrite.lean ====
section
/-! DEFINITION. Writing the object dictionary (R61, R63, R64, R78, R86, R484): staged writes, live and wo entries with the actions they trigger, and the row
action. Status 0x100 stands for a write that is acknowledged later (R174). -/

namespace Sys2Proof.Machine
open Sys2Proof

/-- A staged write (R63, R86) of several values, whole or not at all: 0x0C while a commit runs, 0x0B while another session holds the lock, 0x0E without room. -/
def State.stage (s : State) (sess : Nat) (l : List (Nat × Nat)) : State × Nat :=
  let t := { s with od := { s.od with staging := l.foldl (fun m x => mput m x.1 x.2) s.od.staging }, lockHolder := some sess }
  if s.committing then (s, 0x0C)
  else if s.lockHolder.isSome && s.lockHolder != some sess then (s, 0x0B)
  else if stagingRoom < t.stagedBytes then (s, 0x0E)
  else (t, 0)

/-- The fields that the row action of a TABLE resets, `valid` among them (Table 3-3). -/
def OdObject.fields (o : OdObject) : List Nat :=
  (o.entries.filter (fun x => x.acc == .rw && !x.live)).flatMap (fun x => (List.range (x.hi + 1 - x.lo)).map (x.lo + ·))

/-- The row action (Table 3-3): `valid` false and every other field at its default. In a TABLE whose only writable field is a live counter clear it succeeds,
stages nothing and takes the staging lock (DESIGN CHOICE, log 88). -/
def State.stageRow (s : State) (sess idx row : Nat) (o : OdObject) : State × Nat :=
  s.stage sess (o.fields.map (fun f => (okey (idx * 256 + f) row, if f == 1 then 0 else s.effDefault (okey (idx * 256 + f) row))))

/-- The counters that a `cnt.clear` entry sets to 0, as ranges of subindices of its object and row (R137, R176, Tables 6-16 to 14-11). -/
def clearRanges (idx sub : Nat) : List (Nat × Nat) :=
  if idx == 0x2511 && sub == 0x07 then [(0x03, 0x06)]
  else if idx == 0x2528 && sub == 0x06 then [(0x03, 0x05)]
  else if idx == 0x2722 && sub == 0x1F then [(0x01, 0x15)]
  else if sub != 0x0F then []
  else if 0x2100 ≤ idx && idx < 0x2200 then [(0x08, 0x08), (0x10, 0x2B)]
  else if 0x2450 ≤ idx && idx < 0x2458 then [(0x10, 0x20)]
  else if idx == 0x2540 then [(0x04, 0x0B), (0x0E, 0x0E)]
  else if (0x2548 ≤ idx && idx < 0x2550) || idx / 16 == 0x301 || idx == 0x3402 then [(0x10, 0x10)]
  else if idx == 0x2559 then [(0x02, 0x05)]
  else if idx == 0x2601 then [(0x10, 0x1C)]
  else if (0x3028 ≤ idx && idx < 0x302C) || idx == 0x3101 || idx == 0x3111 || idx == 0x3330 || idx == 0x3400 then [(0x10, 0x12)]
  else if idx == 0x3201 then [(0x10, 0x15)]
  else if 0x3610 ≤ idx && idx < 0x3618 then [(0x10, 0x14)]
  else []

/-- Counters of an object and row set to 0. -/
def State.clearCounters (s : State) (idx sub row : Nat) : State :=
  (clearRanges idx sub).foldl (fun s r => (List.range (r.2 + 1 - r.1)).foldl (fun s k => s.setRow (idx * 256 + r.1 + k) row 0) s) s

/-- A write of `session.sdo.requestLevel` (R73, R78): an earlier pending opening goes, and N_d is drawn. Without a TRNG or SHA-256 engine no opening begins
(Table 12-11). -/
def State.requestLevel (s : State) (level : Nat) : State × Nat :=
  let s1 := s.updSess 0 (fun x => { x with pending := false, nd := 0 })
  if (s.lockout 1).locked then (s1, 0x13)
  else if s.life.barred then (s1, 0x0C)
  else if s.safe.noTrng || s.safe.noSha then (s1, 0x0A)
  else (s1.drawNonce.2.updSess 0 (fun x => { x with pending := true, reqLevel := level, nd := s1.drawNonce.1 }), 0)

/-- The proof of an opening is right (R69, R71). -/
def State.proofOk (s : State) (row ap : Nat) (proof : Bytes) : Bool :=
  let x := s.sess row
  match s.accessKey x.reqLevel with
  | some key => s.accessProof key ap x.reqLevel x.sid x.nd x.nc == proof
  | none => false

/-- A write of `session.sdo.proof` (R69, R71, R73, R78): the new session replaces the channel's, or the opening has failed. A wrong proof also discards the
pending opening, as R81 has it for Anise (DESIGN CHOICE, log 85). During a lockout no proof is judged (log 86). -/
def State.sdoProof (s : State) (proof : Bytes) : State × Nat :=
  let x := s.sess 0
  let s1 := s.updSess 0 (fun x => { x with pending := false, nd := 0 })
  if !x.pending then (s, 0x0A)
  else if (s.lockout 1).locked then (s, 0x13)
  else if s.safe.noSha then (s1, 0x0A)
  else if s.proofOk 0 1 proof then
    (((s1.endSession 0).setSess 0 { valid := true, level := x.reqLevel, last := s.clock.ticks }).openDone 1 x.reqLevel 0 0, 0)
  else (s1.openFailed 1 x.reqLevel 0 0, 0x12)

/-- A write of `session.sdo` entries (R78): they belong to the service channel. -/
def State.sdoSessionWrite (s : State) (sess e : Nat) (b : Bytes) : State × Nat :=
  if sess != 0 then (s, 0x0A)
  else if e == E.sessionSdoRequestLevel then s.requestLevel (leNat b)
  else if e == E.sessionSdoClientNonce then (s.updSess 0 (fun x => { x with nc := leNat b }), 0)
  else if e == E.sessionSdoProof then s.sdoProof b
  else (s.endSession 0, 0)

/-- A write of `time.rtc.seconds` (R100, R323): the RTC is set and valid, with a TIME record. -/
def State.rtcWrite (s : State) (v : Nat) : State :=
  let was := s.rtc
  { s with clock := { s.clock with rtcBase := v % 2 ^ 32, rtcTick := s.clock.xrtc, rtcValid := true } }.timeRecord 1 was (v % 2 ^ 32)

/-- A write of `safe.release` (R288): 0x0A while a condition still holds. -/
def State.safeRelease (s : State) : State × Nat :=
  if s.safeClear then ({ s with safe := { s.safe with driven := false, conds := [] } }, 0) else (s, 0x0A)

/-- A write of `journal.ack` (R330): the delivered bit of every held record up to a sequence. -/
def State.journalAck (s : State) (n : Nat) : State :=
  s.updEv (fun e => { e with journal := e.journal.map (fun x => if e.floor ≤ x.2.seq && x.2.seq ≤ n then (x.1, { x.2 with delivered := true }) else x) })

/-- The MDIO operation at the head of a die's queue goes out (R174). -/
def State.mdioSend (s : State) (n : Nat) : State :=
  match (s.die n).mdio with
  | x :: _ => s.emit (.mdio x.slot x.op x.phy x.devad x.reg x.data)
  | [] => s

/-- A write of `phy.mdio.op` (R174): the operation waits for its turn, and its write for the operation's end. A Clause 22 operation on a register above 31 is
invalid (Table 5-7). -/
def State.mdioStart (s : State) (sess slot op : Nat) : State × Nat :=
  let c (e : Nat) : Nat := s.cfg (e + slot * 256)
  let n := slotDie slot
  let x : MdioOp := ⟨slot, op, c E.portEthPhyMdioPhyAddress, c E.portEthPhyMdioDevad, c E.portEthPhyMdioRegister, c E.portEthPhyMdioData, sess, none⟩
  let s1 := s.updDie n (fun d => { d with mdio := d.mdio ++ [x] })
  if op < 3 && 31 < c E.portEthPhyMdioRegister then (s, 0x0A)
  else if !s.answers n then (s, 0x0D)
  else (s1.when ((s.die n).mdio.isEmpty) (·.mdioSend n), 0x100)

/-- A wo or live entry of a port: recovery, rule blocks, MDIO (R114, R117, R174). -/
def State.portWrite (s : State) (sess idx sub v : Nat) : State × Nat :=
  let slot := idx % 256
  if idx / 256 == 0x22 then (s.updPort slot (fun p => { p with blocks := [] }), 0)
  else if isCan slot then (s.canRecover slot, 0)
  else if sub == 0x64 then s.mdioStart sess slot v
  else (s.setCfg (idx * 256 + sub) v, 0)

/-- A write of `health.die.readmit`, `spd.distanceReset` and `app.restart`, each for one unit (R283, R302, R428). -/
def State.readmitWrite (s : State) (n : Nat) : State × Nat := if s.variant.hasDie n && (s.die n).state == 4 then (s.readmitDie n, 0) else (s, 0x0A)
def State.appRestartWrite (s : State) (n : Nat) : State × Nat := if s.cfgOn E.appEnable then (s.appRestart n, 0) else (s, 0x0A)

/-- What a write of a live or wo entry does when it is acknowledged (R63): state and status. `row` is the offset in a DOMAIN. -/
def State.odAct (s : State) (sess e row : Nat) (b : Bytes) : State × Nat :=
  let v := leNat b
  let idx := e / 256
  if !(clearRanges idx (e % 256)).isEmpty then (s.clearCounters idx (e % 256) row, 0)
  else if sessionEntry e then (s.setLive sess e v, 0)
  else if idx == 0x1122 then s.sdoSessionWrite sess e b
  else if idx / 256 == 0x20 || idx / 256 == 0x22 then s.portWrite sess idx (e % 256) v
  else if idx / 16 == 0x302 then (s.resetDistance (idx - 0x3028), 0)
  else if idx / 16 == 0x361 then s.appRestartWrite (idx - 0x360F)
  else if e == E.commitAction then s.commitAction sess v
  else if e == E.timeRtcSeconds then (s.rtcWrite v, 0)
  else if e == E.fdbFlush then (s.flushFdb v, 0)
  else if e == E.healthDieReadmit then s.readmitWrite row
  else if e == E.safeRelease then s.safeRelease
  else if e == E.sealNow then (s.trigger 2, 0)
  else if e == E.journalAck then (s.journalAck v, 0)
  else if e == E.lifecycleRequest then s.requestLife sess v
  else if e == E.lifecycleConfirm then s.confirmLife sess v
  else if e == E.lifecycleProvisionBlob then s.provisionWrite sess b
  else if e == E.attestChallenge then s.attest sess b
  else if e == E.keycmdOp then s.keyOp sess v
  else if e == E.powerRequest then s.powerRequest v
  else if e == E.powerRtcAlarm then (s.setCfg e v, 0)
  else if e == E.updateAction then s.updateAction v
  else if e == E.updateDelta then s.deltaWrite row b
  else if e == E.updateConfirm then s.updateConfirm v
  else (s, 0)

/-- A write of a TABLE's row cursor or row action (R64, R65, Table 3-3). -/
def State.writeReserved (s : State) (sess idx sub row : Nat) (o : OdObject) (b : Bytes) : State × Nat :=
  let level := if sub == 0xFF then o.rowWrite else o.rowRead
  if (sub != 0xFE && sub != 0xFF) || (sub == 0xFF && o.rowWrite == 9) then (s, 0x04)
  else if s.sessLevel sess < level then (s, 0x06)
  else if b.length != (if sub == 0xFE then 4 else 1) then (s, 0x07)
  else if sub == 0xFE then
    if o.rows s.variant ≤ leNat b then (s, 0x08) else (s.updSess sess (fun x => { x with cursors := mset 0 x.cursors idx (leNat b) }), 0)
  else if leNat b != 1 then (s, 0x0A)
  else s.stageRow sess idx row o

/-- A write of a field or entry whose access and level allow it (R63, R484). -/
def State.writeEntry (s : State) (sess e row : Nat) (x : OdEntry) (b : Bytes) : State × Nat :=
  let st := x.valueStatus s.variant b
  if st != 0 then (s, st)
  else if x.acc == .wo || x.live then s.odAct sess e row b
  else s.stage sess [(okey e row, leNat b)]

/-- A write that an entry's access forbids (Table 3-2); `update.oemKey` is closed outside PROVISIONED (Table 15-11). -/
def State.writeClosed (s : State) (e : Nat) (x : OdEntry) : Bool := x.acc == .const || x.acc == .ro || x.wl == 9 || (e == E.updateOemKey && s.life.state != 1)

/-- A DOMAIN, whose accesses carry an offset in the row word (R65). -/
def OdEntry.isDom (x : OdEntry) : Bool :=
  match x.ty with
  | .dom _ => true
  | _ => false

/-- A write of an entry by a session (R61, R63, R64, R66, R67, R484): state and status. -/
def State.odWrite (s : State) (sess idx sub row : Nat) (b : Bytes) : State × Nat :=
  match odObject s.variant idx with
  | none => (s, if s.reachesServer sess 0 then 0x01 else 0x0D)
  | some o =>
    let st := s.reachStatus sess idx sub row o
    if st != 0 then (s, st)
    else if o.reserved sub then s.writeReserved sess idx sub row o b
    else match odEntry s.variant (idx * 256 + sub) with
      | none => (s, 0x02)
      | some x =>
        if s.writeClosed (idx * 256 + sub) x then (s, 0x04)
        else if s.sessLevel sess < x.wl then (s, 0x06)
        else if !s.laneOk idx sub row then (s, 0x0D)
        else s.writeEntry sess (idx * 256 + sub) (if x.isDom then row else o.keyRow row) x b

/-- The row word of an access that names none (R65): a TABLE's field at the session's cursor, a DOMAIN from its start. -/
def State.cursorRow (s : State) (sess idx : Nat) : Nat :=
  match odObject s.variant idx with
  | some o => if o.cap == 0 then (if idx == 0x3501 || idx == 0x3212 then 0 else noRow) else mget 0 (s.sess sess).cursors idx
  | none => noRow

/-- What every answered request leaves (R72, R85, R98): the count of clearance failures, the session's last status, its idle time. A request of the service
channel or a mailbox that the carrying die answers with 0x0D counts for the idle time like one that its server answers (DESIGN CHOICE, log 89). -/
def State.requestDone (s : State) (sess status : Nat) : State :=
  let s1 := s.when (status == 0x06) (·.count E.accessCntClearance)
  s1.when (sess != noSession) (·.updSess sess (fun x => { x with lastStatus := status, last := s.clock.ticks }))

/-- The checksum of IPv4 and UDP headers: the complement of the one's-complement sum of 16-bit words. -/
def headerCheck (b : Bytes) : Nat := 0xFFFF - foldSum (onesSum b)

/-- The Ethernet frame of an Anise response (R79): back to the address that the request came from, with its VLAN tag; a UDP datagram of the endpoint's port. -/
def State.aniseFrame (s : State) (env : AniseEnv) (msg : Bytes) : Bytes :=
  let free := (Config.ipHeader s.fresh).toNat
  let addresses := toBE 4 (s.cfg E.accessAniseIpv4) ++ toBE 4 env.srcIp
  let udp (sum : Nat) : Bytes := toBE 2 47110 ++ toBE 2 env.srcPort ++ toBE 2 (8 + msg.length) ++ toBE 2 sum ++ msg
  let sum := headerCheck (addresses ++ toBE 2 17 ++ toBE 2 (8 + msg.length) ++ udp 0)
  let ip (check : Nat) : Bytes := [0x45, BitVec.ofNat 8 free] ++ toBE 2 (28 + msg.length) ++ toBE 2 (free / 2 ^ 8 % 2 ^ 16) ++ toBE 2 0 ++
    toBE 1 (free / 2 ^ 24) ++ toBE 1 17 ++ toBE 2 check ++ addresses
  macBytes env.mac ++ macBytes (s.routerMac env.realm) ++ (match env.tci with
    | some t => toBE 2 0x8100 ++ toBE 2 t
    | none => []) ++ toBE 2 0x0800 ++ ip (headerCheck (ip 0)) ++ udp (if sum == 0 then 0xFFFF else sum)

/-- An answer leaves: one of the Anise endpoint as a frame from PRC0 of its die at stage 3 (R79). -/
def State.send (s : State) (o : Out) : State :=
  match o with
  | .anise env msg => ((s.emit o).sendInternal (s.cfg E.accessAniseHostDie) 0 env.realm (s.aniseFrame env msg)).draw
  | _ => s.emit o

/-- An answer leaves the carrying die, or waits for the relay from the serving die (R67). A request that no server took is answered at once. -/
def State.reply (s : State) (sess server status : Nat) (o : Out) : State :=
  if status == 0x0D || s.carrier sess == server then s.send o
  else { s with relays := mset [] s.relays sess (mget [] s.relays sess ++ [o]) }

/-- The answer of a write that waits for its MDIO operation (R174). -/
def State.mdioReply (s : State) (n : Nat) (o : Option Out) : State :=
  s.updDie n (fun d => { d with mdio := d.mdio.dropLast ++ ((d.mdio.getLast?).map (fun x => { x with answer := o })).toList })

/-- A write is answered: at once, or at the end of its MDIO operation. `answer` builds the answer of a status. -/
def State.writeDone (r : State × Nat) (sess idx sub row : Nat) (answer : Nat → Out) : State :=
  if r.2 == 0x100 then (r.1.mdioReply (slotDie (idx % 256)) (some (answer 0))).requestDone sess 0
  else (r.1.requestDone sess r.2).reply sess (servingDie idx sub row) r.2 (answer r.2)

/-- OD_RELAY_RESPONSE (R67): the oldest answer that waits for its relay leaves. -/
def State.relayed (s : State) (sess : Nat) : State :=
  match mget [] s.relays sess with
  | o :: l => { s with relays := mset [] s.relays sess l }.send o
  | [] => s
def execOdRelayResponse (sess : Nat) (s : State) : Result := done (s.relayed sess)

end Sys2Proof.Machine
end

