-- ==== Sys2Proof/Machine/OdCommands.lean ====
section
/-! DEFINITION. The commands that are writes of the object dictionary by a session (R61, R63, R67): each is that write, whatever the access point that carries it, with
the answer as its output; and the mailbox (R419). -/

namespace Sys2Proof.Machine
open Sys2Proof

/-- A session row of the part (Table 3-16). -/
def State.hasSess (s : State) (sess : Nat) : Bool := sess < 5 || s.variant.hasDie (sess - 4)

/-- A session's access point takes requests (R42, R67, R74, R79): it is enabled, an Anise session is open, and the runtime pair of the carrying die runs. -/
def State.serves (s : State) (sess : Nat) : Bool :=
  s.inRun && s.pairRuns (s.carrier sess) &&
  (if sess == 0 then s.cfgOn E.accessSdoEnable else if sess < 5 then s.cfgOn E.accessAniseEnable && (s.sess sess).valid else true)

/-- An answer of a session. -/
def answer (sess : Nat) (value : Bytes) (status : Nat) : Out := .odResponse sess status value

/-- A session's write, answered; a mailbox whose die's pair does not run answers 0x0D (R67). -/
def State.sessionWrite (s : State) (sess idx sub row : Nat) (b : Bytes) : State :=
  if s.serves sess then State.writeDone (s.odWrite sess idx sub row b) sess idx sub row (answer sess [])
  else s.when (s.inRun && 5 ≤ sess) (fun s => (s.requestDone sess 0x0D).emit (answer sess [] 0x0D))

/-- The outcome of a session's write of an entry, with the row of the session's cursor in a TABLE. -/
def State.entryWrite (s : State) (sess e : Nat) (b : Bytes) : Result :=
  doneIf s (s.hasSess sess) (s.sessionWrite sess (e / 256) (e % 256) (s.cursorRow sess (e / 256)) b)

/-- OD_ENTRY_WRITE (R63). -/
def execOdEntryWrite (sess index sub : Nat) (value : Bytes) (s : State) : Result :=
  doneIf s (s.hasSess sess) (s.sessionWrite sess index sub (s.cursorRow sess index) value)

/-- ROW_ACTION (R64). -/
def execRowAction (sess index value : Nat) (s : State) : Result :=
  doneIf s (s.hasSess sess) (s.sessionWrite sess index 0xFF (s.cursorRow sess index) (toLE 1 value))

/-- COUNTER_CLEAR (R137): the value does not matter. -/
def execCounterClear (sess index sub : Nat) (s : State) : Result :=
  doneIf s (s.hasSess sess) (s.when (!(clearRanges index sub).isEmpty) (·.sessionWrite sess index sub (s.cursorRow sess index) [1]))

/-- CAN_RECOVER (R114); a slot without a CAN port has no such entry (R17, R58). -/
def execCanRecover (sess slot value : Nat) (s : State) : Result :=
  doneIf s (s.hasSess sess && decide (slot < 256)) (s.sessionWrite sess (0x2000 + slot) 0x1B noRow (toLE 1 value))

/-- CLEAR_BLOCK (R117), at a port's slot. -/
def execClearBlock (sess row : Nat) (s : State) : Result :=
  doneIf s (s.hasSess sess && decide (row < 256)) (s.sessionWrite sess (0x2200 + row) 0x05 noRow [1])

/-- FDB_FLUSH (R206). -/
def execFdbFlush (sess value : Nat) (s : State) : Result := s.entryWrite sess E.fdbFlush (toLE 2 value)

/-- RTC_WRITE (R100). -/
def execRtcWrite (sess value : Nat) (s : State) : Result := s.entryWrite sess E.timeRtcSeconds (toLE 4 value)

/-- READMIT (R283). -/
def execReadmit (sess die : Nat) (s : State) : Result := doneIf s (s.hasSess sess) (s.sessionWrite sess 0x2710 0x06 die [1])

/-- SAFE_RELEASE (R288). -/
def execSafeRelease (sess value : Nat) (s : State) : Result := s.entryWrite sess E.safeRelease (toLE 1 value)

/-- DISTANCE_RESET (R302). -/
def execDistanceReset (sess input value : Nat) (s : State) : Result :=
  doneIf s (s.hasSess sess && decide (input < 8)) (s.sessionWrite sess (0x3028 + input) 0x08 noRow (toLE 1 value))

/-- SEAL_NOW_ENTRY (R332). -/
def execSealNowEntry (sess value : Nat) (s : State) : Result := s.entryWrite sess E.sealNow (toLE 1 value)

/-- JOURNAL_ACK (R330). -/
def execJournalAck (sess seq : Nat) (s : State) : Result := s.entryWrite sess E.journalAck (toLE 8 seq)

/-- LIFECYCLE_REQUEST (R358). -/
def execLifecycleRequest (sess value : Nat) (s : State) : Result := s.entryWrite sess E.lifecycleRequest (toLE 1 value)

/-- LIFECYCLE_CONFIRM (R359). -/
def execLifecycleConfirm (sess : Nat) (value : Bytes) (s : State) : Result := s.entryWrite sess E.lifecycleConfirm value

/-- PROVISION_BLOB (R370). -/
def execProvisionBlob (sess : Nat) (blob : Bytes) (s : State) : Result := s.entryWrite sess E.lifecycleProvisionBlob blob

/-- KEY_DERIVE (R366). -/
def execKeyDerive (sess : Nat) (s : State) : Result := s.entryWrite sess E.keycmdOp [1]

/-- KEY_IMPORT (R366, R367). -/
def execKeyImport (sess : Nat) (s : State) : Result := s.entryWrite sess E.keycmdOp [2]

/-- KEY_INVALIDATE (R368). -/
def execKeyInvalidate (sess : Nat) (s : State) : Result := s.entryWrite sess E.keycmdOp [3]

/-- KEY_ERASE (R366). -/
def execKeyErase (sess : Nat) (s : State) : Result := s.entryWrite sess E.keycmdOp [4]

/-- ATTEST_CHALLENGE (R372). -/
def execAttestChallenge (sess : Nat) (challenge : Bytes) (s : State) : Result := s.entryWrite sess E.attestChallenge challenge

/-- POWER_REQUEST_LISTEN (R378). -/
def execPowerRequestListen (sess : Nat) (s : State) : Result := s.entryWrite sess E.powerRequest [1]

/-- POWER_REQUEST_STANDBY (R378). -/
def execPowerRequestStandby (sess : Nat) (s : State) : Result := s.entryWrite sess E.powerRequest [2]

/-- APP_RESTART (R428). -/
def execAppRestart (sess die value : Nat) (s : State) : Result :=
  doneIf s (s.hasSess sess && decide (1 ≤ die ∧ die < 16)) (s.sessionWrite sess (0x360F + die) 0x04 noRow (toLE 1 value))

/-- UPDATE_DELTA_WRITE (R439). -/
def execUpdateDeltaWrite (sess offset : Nat) (bytes : Bytes) (s : State) : Result := doneIf s (s.hasSess sess) (s.sessionWrite sess 0x3501 0x01 offset bytes)

/-- UPDATE_CHECK (R440). -/
def execUpdateCheck (sess : Nat) (s : State) : Result := s.entryWrite sess E.updateAction [1]

/-- UPDATE_APPLY (R441). -/
def execUpdateApply (sess : Nat) (s : State) : Result := s.entryWrite sess E.updateAction [2]

/-- UPDATE_START (R443). -/
def execUpdateStart (sess : Nat) (s : State) : Result := s.entryWrite sess E.updateAction [3]

/-- UPDATE_ABANDON (R439). -/
def execUpdateAbandon (sess : Nat) (s : State) : Result := s.entryWrite sess E.updateAction [4]

/-- UPDATE_REJECT (R445). -/
def execUpdateReject (sess : Nat) (s : State) : Result := s.entryWrite sess E.updateAction [5]

/-- UPDATE_CONFIRM (R444). -/
def execUpdateConfirm (sess version : Nat) (s : State) : Result := s.entryWrite sess E.updateConfirm (toLE 4 version)

/-- COMMIT_VALIDATE (R88). -/
def execCommitValidate (sess : Nat) (s : State) : Result := s.entryWrite sess E.commitAction [1]

/-- COMMIT_START (R88, R89). -/
def execCommitStart (sess : Nat) (s : State) : Result := s.entryWrite sess E.commitAction [2]

/-- COMMIT_DISCARD (R88). -/
def execCommitDiscard (sess : Nat) (s : State) : Result := s.entryWrite sess E.commitAction [3]

/-- RESTORE_DEFAULTS (R88). -/
def execRestoreDefaults (sess : Nat) (s : State) : Result := s.entryWrite sess E.commitAction [4]

/-- DISCARD_LOCK_HOLDER (R88). -/
def execDiscardLockHolder (sess : Nat) (s : State) : Result := s.entryWrite sess E.commitAction [5]

/-- The MDIO entries of a port (R174). -/
def State.mdioWrite (s : State) (sess slot op : Nat) : Result :=
  doneIf s (s.hasSess sess && decide (slot < 256)) (s.sessionWrite sess (0x2000 + slot) 0x64 noRow [BitVec.ofNat 8 op])

/-- MDIO_C22_READ (R174). -/
def execMdioC22Read (sess slot : Nat) (s : State) : Result := s.mdioWrite sess slot 1

/-- MDIO_C22_WRITE (R174). -/
def execMdioC22Write (sess slot : Nat) (s : State) : Result := s.mdioWrite sess slot 2

/-- MDIO_C45_READ (R174). -/
def execMdioC45Read (sess slot : Nat) (s : State) : Result := s.mdioWrite sess slot 3

/-- MDIO_C45_WRITE (R174). -/
def execMdioC45Write (sess slot : Nat) (s : State) : Result := s.mdioWrite sess slot 4

/-- The value bytes of the mailbox (Table 14-8): a value's first byte lies in the low byte of the first word. -/
def Mailbox.bytes (m : Mailbox) : Bytes := ((List.range ((m.len + 3) / 4)).flatMap (fun i => toLE 4 (mget 0 m.data i))).take m.len

/-- The words of the mailbox with a value in them. -/
def Mailbox.withBytes (m : Mailbox) (b : Bytes) : Mailbox :=
  { m with len := b.length, data := ((List.range ((b.length + 3) / 4)).foldl (fun d i => mset 0 d i (leNat ((b.drop (4 * i)).take 4))) m.data) }

/-- A mailbox request has been served (R419): BUSY clears, DONE sets, RESULT holds the status, and source 41 is raised with IE. -/
def State.mailboxDone (s : State) (n status : Nat) (value : Option Bytes) : State :=
  let s1 := s.updApp n (fun a => { a with mbx := { (match value with
    | some b => a.mbx.withBytes b
    | none => a.mbx) with busy := false, done := true, result := status } })
  (s1.requestDone (n + 4) status).when (s.app n).mbx.ie (·.raiseSource n 41)

/-- The mailbox serves its request (R419): a read, or a write, which waits for an MDIO operation. -/
def State.mailboxServe (s : State) (n : Nat) : State :=
  let m := (s.app n).mbx
  let sess := n + 4
  let idx := m.index % 65536
  let sub := m.index / 65536
  if !s.pairRuns n then s.mailboxDone n 0x0D none
  else if m.op == 1 then
    let r := s.odRead sess idx sub m.row m.staged false
    (s.readFinds sess idx sub r.1).mailboxDone n r.1 (if r.1 == 0 then some r.2 else none)
  else if m.op == 2 then
    let w := if 1024 < m.len then (s, 0x07) else s.odWrite sess idx sub m.row m.bytes
    if w.2 == 0x100 then (w.1.mdioReply (slotDie (idx % 256)) none).updApp n (fun a => { a with mbx := { a.mbx with op := 3 } })
    else w.1.mailboxDone n w.2 none
  else s

/-- MAILBOX_COMPLETE (R419). -/
def execMailboxComplete (die : Nat) (s : State) : Result := s.onDie die (fun s => s.when (s.inRun && (s.app die).mbx.busy) (·.mailboxServe die))

/-- The oldest MDIO operation of a die ends (R174): a read leaves its result in `phy.mdio.data`, an absent PHY's Clause 22 read 0xFFFF; the write is acknowledged,
source 15 is raised, and the next operation goes out. -/
def State.mdioDone (s : State) (n data : Nat) (answered : Bool) : State :=
  match (s.die n).mdio with
  | [] => s
  | x :: rest =>
    let s1 := s.updDie n (fun d => { d with mdio := rest })
    let s2 := s1.when (x.op % 2 == 1) (·.setCfg (E.portEthPhyMdioData + x.slot * 256) (if x.op == 1 && !answered then 0xFFFF else data % 65536))
    let s3 := match x.answer with
      | some o => s2.reply x.sess 0 0 o
      | none => s2.when (5 ≤ x.sess && (s2.app (x.sess - 4)).mbx.busy && (s2.app (x.sess - 4)).mbx.op == 3) (·.mailboxDone (x.sess - 4) 0 none)
    (s3.raiseSource n 15).mdioSend n

/-- MDIO_OPERATION_COMPLETE (R174). -/
def execMdioOperationComplete (die data : Nat) (answered : Bool) (s : State) : Result :=
  doneIf s (s.variant.hasDie die) (s.when (s.inRun && s.dieRuns die) (·.mdioDone die data answered))

end Sys2Proof.Machine
end

