-- ==== Sys2Proof/Machine/Anise.lean ====
section
/-! DEFINITION. The Anise endpoint (R79 to R84): message checks, replay protection, openings and the six opcodes. The route to the endpoint, its ARP answers and the
datagrams that it drops under R79 lie in Eth.lean. -/

namespace Sys2Proof.Machine
open Sys2Proof

/-- Bytes 0 to 27 + n of a message (Table 3-6). -/
def aniseBytes (opcode flags sid seqNo index sub status row spare : Nat) (data : Bytes) : Bytes :=
  toBE 1 0x41 ++ toBE 1 1 ++ toBE 1 opcode ++ toBE 1 flags ++ toBE 4 sid ++ toBE 8 seqNo ++ toBE 2 index ++ toBE 1 sub ++ toBE 1 status ++ toBE 4 row ++
  toBE 2 data.length ++ toBE 2 spare ++ data

/-- A tag (Table 3-6). -/
def aniseTag (ks b : Bytes) : Bytes := (bytes256 (Config.hmacSha256 ks b)).take 16

end Sys2Proof.Machine

namespace Sys2Proof
open Sys2Proof.Machine

/-- The request bytes that its tag covers. -/
def AniseMsg.bytes (m : AniseMsg) (opcode : Nat) : Bytes := aniseBytes opcode m.flags m.sid m.seq m.index m.sub m.status m.offset m.spare m.data

/-- A response with its tag, all zero where `ks` is none. Its flags are RESP alone: it does not repeat the request's STAGED flag (DESIGN CHOICE, log 101). -/
def AniseMsg.response (m : AniseMsg) (opcode status : Nat) (data : Bytes) (ks : Option Bytes) : Bytes :=
  let b := aniseBytes opcode 1 m.sid m.seq m.index m.sub status m.offset 0 data
  b ++ match ks with
    | some k => aniseTag k b
    | none => List.replicate 16 0

/-- A message's magic, version or length is bad, or a tag without a session that is not all zero (R80, R84). -/
def AniseMsg.bad (m : AniseMsg) : Bool :=
  m.magic != 0x41 || m.version != 1 || m.data.length != m.length || 1024 < m.length || m.tag.length != 16 || (m.sid == 0 && m.tag.any (· != 0))

/-- What a request has to have as 0 (Table 3-6): bits [7:2] and RESP of its flags, its status, and bytes 26 to 27. -/
def AniseMsg.flagsOk (m : AniseMsg) : Bool := (m.flags == 0 || m.flags == 2) && m.status == 0 && m.spare == 0

end Sys2Proof

namespace Sys2Proof.Machine
open Sys2Proof

/-- The endpoint is on and its die's runtime pair runs (R67, R79). -/
def State.endpointRuns (s : State) : Bool := s.inRun && s.cfgOn E.accessAniseEnable && s.pairRuns (s.cfg E.accessAniseHostDie)

/-- A datagram dropped without an answer (R82, R84). -/
def State.aniseDrop (s : State) : State := s.count E.accessCntDropped

/-- The row of the session or pending opening that a sid names (R84). -/
def State.sidRow (s : State) (sid : Nat) (want : Session → Bool) : Option Nat :=
  if sid == 0 then none else [1, 2, 3, 4].find? (fun r => want (s.sess r) && (s.sess r).sid == sid)

/-- A request that names the message by its session's record (R83): accepted with the record after it, dropped, or one of the last 16 again, with its answer. -/
inductive Replay where
  | accept (sMax window : Nat)
  | again (answer : Bytes)
  | drop
  deriving DecidableEq, Repr

/-- R83. -/
def Session.replay (x : Session) (seqNo : Nat) (request : Bytes) : Replay :=
  if x.sMax < seqNo then .accept seqNo ((if 64 ≤ seqNo - x.sMax then 0 else x.window * 2 ^ (seqNo - x.sMax) % 2 ^ 64) + 1)
  else if x.sMax ≤ seqNo + 63 then
    if !bitAt x.window (x.sMax - seqNo) then .accept x.sMax (setBit x.window (x.sMax - seqNo))
    else match x.cache.find? (fun c => c.1 == request) with
      | some c => .again c.2
      | none => .drop
  else .drop

/-- A session's accepted request (R72, R83, R98). -/
def State.aniseAccept (s : State) (row sMax window : Nat) : State :=
  (s.count E.accessCntAccepted).updSess row (fun x => { x with sMax := sMax, window := window, last := s.clock.ticks })

/-- The answer of a session's request is kept for a repetition (R83), while the session goes on. -/
def State.aniseCache (s : State) (row : Nat) (request answer : Bytes) : State :=
  s.when (s.sess row).valid (·.updSess row (fun x => { x with cache := ((request, answer) :: x.cache).take 16 }))

/-- The answer of an accepted request: kept, and sent (R67, R83). -/
def State.aniseReply (s : State) (m : AniseMsg) (opcode row server status : Nat) (data ks : Bytes) : State :=
  let a := m.response opcode status data (some ks)
  ((s.requestDone row status).aniseCache row (m.bytes opcode ++ m.tag) a).reply row server status (.anise m.env a)

/-- A request of an open session (R83, R84): `f` serves an accepted one of session row `row` with the key it had. Sequence 0 is no request's (Table 3-6): where
R83 accepts it, it is malformed. -/
def State.aniseSession (s : State) (m : AniseMsg) (opcode : Nat) (f : State → Nat → Bytes → State) : State :=
  match s.sidRow m.sid (·.valid) with
  | none => s.aniseDrop
  | some row =>
    let x := s.sess row
    let request := m.bytes opcode ++ m.tag
    if aniseTag x.ks (m.bytes opcode) != m.tag then s.aniseDrop
    else match x.replay m.seq request with
      | .accept sMax window =>
        if m.seq == 0 then (s.aniseAccept row sMax window).aniseReply m opcode row (s.carrier row) 0x10 [] x.ks else f (s.aniseAccept row sMax window) row x.ks
      | .again a => s.send (.anise m.env a)
      | .drop => s.count E.accessCntReplay

/-- A datagram is addressed to the endpoint (R79): its address, UDP port and realm. -/
def State.forEndpoint (s : State) (env : AniseEnv) : Bool :=
  env.dstIp == s.cfg E.accessAniseIpv4 && env.dstPort == 47110 && env.realm == s.cfg E.accessAniseRealm

/-- A datagram for the endpoint arrives on an Ethernet or trunk port. -/
def State.aniseIn (s : State) (m : AniseMsg) (f : State → State) : Result :=
  doneIf s (s.variant.hasSlot m.env.slot && isEth m.env.slot) (s.when (s.endpointRuns && s.forEndpoint m.env) (fun s => if m.bad then s.aniseDrop else f s))

/-- A request without a session that the endpoint accepts (R82): at most 100 a second. -/
def State.withoutSession (s : State) (f : State → State) : State :=
  let recent := s.sidZero.filter (fun t => s.clock.ticks - t < 40000000)
  if 100 ≤ recent.length then { s with sidZero := recent }.aniseDrop
  else f ({ s with sidZero := s.clock.ticks :: recent }.count E.accessCntAccepted)

/-- An entry that is readable at C0 (R82, Tables 3-2, 3-3): a field by its level, a RECORD's subindex 0, and a TABLE's own subindices by its level R. -/
def publicRead (v : Variant) (idx sub : Nat) : Bool :=
  match odObject v idx with
  | none => false
  | some o =>
    if o.reserved sub then (sub == 0 && o.cap == 0) || (sub != 0xFF && o.rowRead == 0)
    else (odEntry v (idx * 256 + sub)).any (fun x => x.acc != .wo && x.rl == 0)

/-- READ (R81, R82, R87). -/
def State.aniseRead (s : State) (m : AniseMsg) (row : Nat) (ks : Bytes) : State :=
  let r := s.odRead row m.index m.sub m.offset (bitAt m.flags 1) false
  if !m.flagsOk || !m.data.isEmpty then s.aniseReply m 1 row (s.carrier row) 0x10 [] ks
  else (s.readFinds row m.index m.sub r.1).aniseReply m 1 row (servingDie m.index m.sub m.offset) r.1 (if r.1 == 0 then r.2 else []) ks

/-- READ without a session (R82): a READ of an entry that is not readable at C0 is answered, but it is no accepted request and does not count as one. -/
def State.anisePublicRead (s : State) (m : AniseMsg) : State :=
  let r := s.odRead noSession m.index m.sub m.offset false false
  let st := if !m.flagsOk || !m.data.isEmpty then 0x10 else r.1
  let say (s : State) : State := (s.requestDone noSession st).reply noSession (servingDie m.index m.sub m.offset) st (.anise m.env (m.response 1 st (if st == 0 then r.2 else []) none))
  if publicRead s.variant m.index m.sub then s.withoutSession say else say s

/-- ANISE_READ (R81). -/
def execAniseRead (m : AniseMsg) (s : State) : Result :=
  s.aniseIn m (fun s => if m.sid == 0 then s.anisePublicRead m else s.aniseSession m 1 (fun s row ks => s.aniseRead m row ks))

/-- WRITE (R81): its answer, where the write waits for its MDIO operation, at that operation's end (R174). -/
def State.aniseWrite (s : State) (m : AniseMsg) (row : Nat) (ks : Bytes) : State :=
  let w := s.odWrite row m.index m.sub m.offset m.data
  let a := m.response 2 0 [] (some ks)
  if !m.flagsOk then s.aniseReply m 2 row (s.carrier row) 0x10 [] ks
  else if w.2 == 0x100 then (((w.1.mdioReply (slotDie (m.index % 256)) (some (.anise m.env a))).requestDone row 0).aniseCache row (m.bytes 2 ++ m.tag) a)
  else w.1.aniseReply m 2 row (servingDie m.index m.sub m.offset) w.2 [] ks

/-- ANISE_WRITE (R81). -/
def execAniseWrite (m : AniseMsg) (s : State) : Result := s.aniseIn m (·.aniseSession m 2 (fun s row ks => s.aniseWrite m row ks))

/-- The sessions and pending openings of the endpoint. -/
def State.aniseHeld (s : State) : Nat := ([1, 2, 3, 4].filter (fun r => (s.sess r).valid || (s.sess r).pending)).length

/-- An opening's answer carries the request's fields and no tag (R81). -/
def State.openAnswer (s : State) (m : AniseMsg) (status : Nat) (data : Bytes) : State := s.send (.anise m.env (m.response 3 status data none))

/-- The session ID of a new session (R81): the free value, or the next number after it that names no open or pending session and is not 0, which stands for none (Table 3-6). -/
def State.newSid (s : State) : Nat :=
  let raw := (Config.sid s.fresh).toNat
  let used := 0 :: [1, 2, 3, 4].map (fun r => (s.sess r).sid)
  (((List.range 6).map (fun k => (raw + k) % 2 ^ 32)).find? (fun x => !used.contains x)).getD raw

/-- OPEN (R69, R73, R81): a pending session with a new sid and N_d. Of several failures it answers the first in this order: no free row 0x0B, malformed 0x10,
level out of range 0x08 or 0x09, unreachable 0x0D, lockout 0x13, session limit 0x0B, an engine missing 0x0A (DESIGN CHOICE, log 87). -/
def State.aniseOpen (s : State) (m : AniseMsg) : State :=
  let level := leNat (m.data.take 1)
  match [1, 2, 3, 4].find? (fun r => !(s.sess r).valid && !(s.sess r).pending) with
  | none => s.openAnswer m 0x0B []
  | some row =>
    if !m.flagsOk || m.data.length != 33 then s.openAnswer m 0x10 []
    else if rangeStatus 1 4 level != 0 then s.openAnswer m (rangeStatus 1 4 level) []
    else if !s.reachesServer row 0 then s.openAnswer m 0x0D []
    else if (s.lockout 2).locked then s.openAnswer m 0x13 []
    else if s.cfg E.accessAniseMaxSessions ≤ s.aniseHeld then s.openAnswer m 0x0B []
    else if s.life.barred then s.openAnswer m 0x0C []
    else if s.safe.noTrng || s.safe.noSha then s.openAnswer m 0x0A []
    else
      let sid := s.newSid
      let d := s.draw.drawNonce
      (d.2.setSess row { pending := true, sid := sid, peer := m.env.srcIp, reqLevel := level, nd := d.1, nc := leNat (m.data.drop 1), last := s.clock.ticks }).openAnswer m 0
        (toLE 4 sid ++ toLE 32 d.1)

/-- ANISE_OPEN (R81, R82, R84): without a session; under an open session's sid and tag it is a malformed request. -/
def execAniseOpen (m : AniseMsg) (s : State) : Result :=
  s.aniseIn m (fun s => if m.sid == 0 then s.withoutSession (·.aniseOpen m)
    else s.aniseSession m 3 (fun s row ks => s.aniseReply m 3 row (s.carrier row) 0x10 [] ks))

/-- AUTH on a pending opening (R69 to R73, R81). During a lockout no proof is judged: an opening made before it answers 0x13, is not counted, and stays until
it lapses (DESIGN CHOICE, log 86). -/
def State.aniseAuth (s : State) (m : AniseMsg) (row : Nat) : State :=
  let x := s.sess row
  let gone := { s with sessions := mdel s.sessions row }
  let refuse (s : State) (st : Nat) : State := s.send (.anise m.env (m.response 4 st [] none))
  match s.accessKey x.reqLevel with
  | none => if (s.lockout 2).locked then refuse s 0x13 else refuse (gone.openFailed 2 x.reqLevel x.peer x.sid) 0x12
  | some key =>
    let ks := sessionKey key x.sid x.nd x.nc
    if aniseTag ks (m.bytes 4) != m.tag then s.aniseDrop
    else if !m.flagsOk || m.seq != 1 || m.data.length != 32 then s.send (.anise m.env (m.response 4 0x10 [] (some ks)))
    else if (s.lockout 2).locked then s.send (.anise m.env (m.response 4 0x13 [] (some ks)))
    else if s.safe.noSha then refuse gone 0x0A
    else if s.proofOk row 2 m.data then
      let a := m.response 4 0 [] (some ks)
      let open1 : Session := { valid := true, level := x.reqLevel, sid := x.sid, peer := x.peer, last := s.clock.ticks, ks := ks, sMax := 1, window := 1,
                               cache := [(m.bytes 4 ++ m.tag, a)] }
      (((s.count E.accessCntAccepted).setSess row open1).openDone 2 x.reqLevel x.peer x.sid).send (.anise m.env a)
    else refuse (gone.openFailed 2 x.reqLevel x.peer x.sid) 0x12

/-- ANISE_AUTH (R81): on a pending opening, or once more on the session that it opened (R83). -/
def execAniseAuth (m : AniseMsg) (s : State) : Result :=
  s.aniseIn m (fun s => match s.sidRow m.sid (·.pending) with
    | some row => s.aniseAuth m row
    | none => s.aniseSession m 4 (fun s row ks => s.aniseReply m 4 row (s.carrier row) 0x10 [] ks))

/-- CLOSE (R72, R81): answered, and the session ends. -/
def State.aniseClose (s : State) (m : AniseMsg) (row : Nat) (ks : Bytes) : State :=
  if !m.flagsOk || !m.data.isEmpty then s.aniseReply m 5 row (s.carrier row) 0x10 [] ks
  else (s.endSession row).send (.anise m.env (m.response 5 0 [] (some ks)))

/-- ANISE_CLOSE (R81). -/
def execAniseClose (m : AniseMsg) (s : State) : Result := s.aniseIn m (·.aniseSession m 5 (fun s row ks => s.aniseClose m row ks))

/-- ANISE_ECHO (R81). -/
def execAniseEcho (m : AniseMsg) (s : State) : Result :=
  s.aniseIn m (·.aniseSession m 6 (fun s row ks => s.aniseReply m 6 row (s.carrier row) (if m.flagsOk then 0 else 0x10) (if m.flagsOk then m.data else []) ks))

end Sys2Proof.Machine
end

