-- ==== Sys2Proof/Machine/Jtag.lean ====
section
/-! DEFINITION. The IEEE 1149.1 test access port (R479). -/

namespace Sys2Proof.Machine
open Sys2Proof

/-- The type D balls of D0 (Table 16-4). -/
def guardBalls : List String :=
  ["FL_CLK", "FL_CS_N", "FL_DQS", "FL_DQ0", "FL_DQ1", "FL_DQ2", "FL_DQ3", "FL_DQ4", "FL_DQ5", "FL_DQ6", "FL_DQ7", "FL_RESET_N",
   "EV_CS_N", "EV_SCK", "EV_SDI", "EV_SDO", "EV_HI", "EV_DAT", "RESET_N", "REFCLK_IN", "TCK", "TMS", "TDI", "TDO", "TRST_N", "TEST", "SAFE_N"]

/-- The type D balls of a switch die (Tables 16-4 and 17-2). -/
def dieBalls : List String :=
  ["CAN0_TXD", "CAN0_RXD", "CAN1_TXD", "CAN1_RXD", "CAN2_TXD", "CAN2_RXD", "CAN3_TXD", "CAN3_RXD",
   "CAN4_TXD", "CAN4_RXD", "CAN5_TXD", "CAN5_RXD", "CAN6_TXD", "CAN6_RXD", "CAN7_TXD", "CAN7_RXD",
   "LIN0_TX", "LIN0_RX", "LIN1_TX", "LIN1_RX", "LIN2_TX", "LIN2_RX", "LIN3_TX", "LIN3_RX", "MDC", "MDIO",
   "GPIO0", "GPIO1", "GPIO2", "GPIO3", "GPIO4", "GPIO5", "GPIO6", "GPIO7"]

/-- The boundary-scan chain (R479): every type D ball of D0, then those of D1 to D(N_C), one cell each; the BSDL file orders the cells within a part (log 26). -/
def State.chainLength (s : State) : Nat := guardBalls.length + s.variant.nc * dieBalls.length

/-- An order of the members of a list, picked by numbers. -/
def pickOrder (f : Nat → Nat) : Nat → List Nat → List Nat
  | 0, _ => []
  | k + 1, l =>
    let i := f k % l.length
    l.getD i 0 :: pickOrder f k (l.eraseIdx i)

/-- The cell of ball `b` of part `n` (0 for D0), counted within the part: the BSDL file orders them (log 26). -/
def cellOf (n count b : Nat) : Nat := (pickOrder (Config.cellOrder n) count (List.range count)).getD b 0

/-- The levels that balls have while RESET_N is low, by their cell in the chain: RESET_N and TRST_N, without which nothing is captured, SAFE_N (R286) and FL_RESET_N (R470) low,
and CAN TXD and LIN TX high where VIO_BUS is in range (R456). -/
def State.levels (s : State) : List (Nat × Bool) :=
  let g (b : Nat) : Nat := cellOf 0 guardBalls.length b
  [(g 18, false), (g 24, true), (g 26, false), (g 11, false)] ++
  (s.dieList.filter (fun n => (s.die n).busUp)).flatMap (fun n => (List.range 12).map (fun k =>
    (guardBalls.length + (n - 1) * dieBalls.length + cellOf n dieBalls.length (2 * k), true)))

/-- The levels that the cells capture (R479): those that the balls have then, the rest free values. -/
def State.captured (s : State) : Nat :=
  s.levels.foldl (fun c x => if x.2 then setBit c x.1 else clearBit c x.1) (Config.boundary s.fresh % 2 ^ s.chainLength)

/-- BYPASS is selected; it reaches nothing but its own bit. -/
def State.bypass (s : State) : State := { s with jtag := { s.jtag with instr := 0 } }

/-- An instruction of the boundary cells: their levels are shifted out and the cells take what is shifted in, as many bits as the chain has. Anywhere else it acts
as BYPASS. -/
def State.scan (s : State) (instr cells : Nat) : State :=
  if s.scanOpen then ({ s with jtag := ⟨instr, cells % 2 ^ s.chainLength⟩ }.emit (.jtag s.captured)).draw else s.bypass

/-- JTAG_BYPASS (R479). -/
def execJtagBypass (s : State) : Result := done s.bypass

/-- JTAG_SAMPLE_PRELOAD (R479). -/
def execJtagSamplePreload (cells : Nat) (s : State) : Result := done (s.scan 1 cells)

/-- JTAG_EXTEST (R479). -/
def execJtagExtest (cells : Nat) (s : State) : Result := done (s.scan 2 cells)

/-- JTAG_TEST_LOGIC_RESET (R479): BYPASS is selected. While TRST_N stays low the port is held there and loads nothing, so a command that loads an instruction tells
that TRST_N is high again. -/
def execJtagTestLogicReset (s : State) : Result := done s.bypass

end Sys2Proof.Machine
end

