-- ==== Sys2Proof/Machine/Sdo.lean ====
section
/-! DEFINITION. The SDO server of the service channel (R74 to R78, R85): expedited, segmented and block transfers with the frame layouts, command specifiers and
CRC of CiA 301, which R76 names (PRESUMED, log 25). -/

namespace Sys2Proof.Machine
open Sys2Proof

/-- The abort code of an Anise status (Table 3-9). -/
def abortCode (status : Nat) : Nat :=
  match status with
  | 0x01 => 0x06020000
  | 0x02 => 0x06090011
  | 0x03 => 0x06090030
  | 0x04 => 0x06010002
  | 0x05 => 0x06010001
  | 0x06 => 0x06010000
  | 0x07 => 0x06070010
  | 0x08 => 0x06090031
  | 0x09 => 0x06090032
  | 0x0A => 0x06090030
  | 0x0B => 0x08000021
  | 0x0C => 0x08000022
  | 0x0D => 0x06060000
  | 0x0E => 0x05040005
  | 0x10 => 0x05040001
  | 0x13 => 0x08000022
  | _ => 0x08000000

/-- An 8-byte response on the service port, with base identifier 0x580 + node (R74). -/
def State.sdoFrame (s : State) (slot b0 : Nat) (rest : Bytes) : Out :=
  .sdo slot { fmt := .cc, id := 0x580 + s.cfg E.accessSdoNodeId, data := BitVec.ofNat 8 b0 :: pad 7 rest }
/-- An abort of a transfer at an entry. -/
def State.sdoAbortFrame (s : State) (slot mux code : Nat) : Out := s.sdoFrame slot 0x80 (toLE 3 mux ++ toLE 4 code)

/-- A frame of the protocol leaves, and the session is not idle (R72). -/
def State.sdoSend (s : State) (slot b0 : Nat) (rest : Bytes) : State := (s.touch 0).emit (s.sdoFrame slot b0 rest)
/-- The status of Table 3-9 that an abort code of the protocol itself stands for is the session's last (R85). -/
def State.sdoFailed (s : State) (code : Nat) : State :=
  if code == 0x05040001 then s.requestDone 0 0x10 else if code == 0x06070010 then s.requestDone 0 0x07 else s
/-- The server aborts the transfer. -/
def State.sdoAbort (s : State) (slot mux code : Nat) : State := (({ s with sdo := .none }.touch 0).sdoFailed code).emit (s.sdoAbortFrame slot mux code)

/-- The entry that a message names in its bytes 1 to 3. -/
def sdoMux (m : Bytes) : Nat := leNat ((m.drop 1).take 3)

/-- A download is complete: the write of its entry, acknowledged or aborted. -/
def State.sdoFinish (s : State) (slot mux : Nat) (data : Bytes) (b0 : Nat) (rest : Bytes) : State :=
  let s1 := { s with sdo := .none }
  let row := s1.cursorRow 0 (mux % 65536)
  State.writeDone (s1.odWrite 0 (mux % 65536) (mux / 65536) row data) 0 (mux % 65536) (mux / 65536) row
    (fun st => if st == 0 then s.sdoFrame slot b0 rest else s.sdoAbortFrame slot mux (abortCode st))

/-- A download's size does not match the one that was announced. -/
def sizeWrong (size : Option Nat) (data : Bytes) : Bool := size.isSome && size != some data.length

/-- The bytes of an expedited download that states no size: those of its entry's type. -/
def State.expeditedSize (s : State) (mux : Nat) : Nat :=
  match (odEntry s.variant (mux % 65536 * 256 + mux / 65536)).bind (fun o => o.ty.size) with
  | some n => min 4 n
  | none => 4

/-- A download request. -/
def State.sdoDownInit (s : State) (slot : Nat) (m : Bytes) : State :=
  let b0 := byteAt m 0
  let mux := sdoMux m
  let d := m.drop 4
  if bitAt b0 1 then s.sdoFinish slot mux (d.take (if bitAt b0 0 then 4 - b0 / 4 % 4 else s.expeditedSize mux)) 0x60 (toLE 3 mux)
  else { s with sdo := .segDown mux (if bitAt b0 0 then some (leNat d) else none) [] false }.sdoSend slot 0x60 (toLE 3 mux)

/-- A download segment. -/
def State.sdoDownSeg (s : State) (slot : Nat) (m : Bytes) : State :=
  let b0 := byteAt m 0
  match s.sdo with
  | .segDown mux size data toggle =>
    let data1 := data ++ (m.drop 1).take (7 - b0 / 2 % 8)
    let ack := 0x20 + 16 * flagNat toggle
    if bitAt b0 4 != toggle then s.sdoAbort slot mux 0x05030000
    else if !bitAt b0 0 then { s with sdo := .segDown mux size data1 (!toggle) }.sdoSend slot ack []
    else if sizeWrong size data1 then s.sdoAbort slot mux 0x06070010
    else s.sdoFinish slot mux data1 ack []
  | _ => s.sdoAbort slot (sdoMux m) 0x05040001

/-- The largest block that the device offers. -/
def State.blockSize (s : State) : Nat := s.cfg E.accessSdoBlockSize

/-- A block download: its request, a segment, or its end. -/
def State.sdoBlockDown (s : State) (slot : Nat) (m : Bytes) : State :=
  let b0 := byteAt m 0
  let start (s : State) : State :=
    { s with sdo := .blkDown (sdoMux m) (if bitAt b0 1 then some (leNat (m.drop 4)) else none) [] 0 s.blockSize (bitAt b0 2) false }.sdoSend slot 0xA4
      (toLE 3 (sdoMux m) ++ toLE 1 s.blockSize)
  match s.sdo with
  | .blkDown mux size data seqNo blksize crc false =>
    if b0 % 128 != seqNo + 1 then s.sdoAbort slot mux 0x05040003
    else if 128 ≤ b0 || seqNo + 1 == blksize then
      { s with sdo := .blkDown mux size (data ++ m.drop 1) 0 s.blockSize crc (128 ≤ b0) }.sdoSend slot 0xA2 (toLE 1 (seqNo + 1) ++ toLE 1 s.blockSize)
    else { s with sdo := .blkDown mux size (data ++ m.drop 1) (seqNo + 1) blksize crc false }
  | .blkDown mux size data _ _ crc true =>
    let data1 := data.take (data.length - b0 / 4 % 8)
    if !bitAt b0 0 then start s
    else if crc && crc16 data1 != leNat ((m.drop 1).take 2) then s.sdoAbort slot mux 0x05040004
    else if sizeWrong size data1 then s.sdoAbort slot mux 0x06070010
    else s.sdoFinish slot mux data1 0xA1 []
  | _ => if bitAt b0 0 then s.sdoAbort slot (sdoMux m) 0x05040001 else start s

/-- An upload reads its entry (R87): answered with what `go` makes of the value, or aborted. -/
def State.sdoRead (s : State) (slot mux : Nat) (go : State → Bytes → SdoTransfer × Out) : State :=
  let row := s.cursorRow 0 (mux % 65536)
  let r := s.odRead 0 (mux % 65536) (mux / 65536) row false true
  let s1 := { s.readFinds 0 (mux % 65536) (mux / 65536) r.1 with sdo := .none }.requestDone 0 r.1
  let server := servingDie (mux % 65536) (mux / 65536) row
  if r.1 != 0 then s1.reply 0 server r.1 (s.sdoAbortFrame slot mux (abortCode r.1))
  else { s1 with sdo := (go s1 r.2).1 }.reply 0 server 0 (go s1 r.2).2

/-- An upload request: up to 4 bytes at once, more in segments. -/
def State.sdoUpInit (s : State) (slot : Nat) (m : Bytes) : State :=
  let mux := sdoMux m
  s.sdoRead slot mux (fun _ v =>
    if 1 ≤ v.length && v.length ≤ 4 then (.none, s.sdoFrame slot (0x43 + 4 * (4 - v.length)) (toLE 3 mux ++ v))
    else (.segUp mux v false, s.sdoFrame slot 0x41 (toLE 3 mux ++ toLE 4 v.length)))

/-- An upload segment request. -/
def State.sdoUpSeg (s : State) (slot : Nat) (m : Bytes) : State :=
  match s.sdo with
  | .segUp mux rest toggle =>
    let last := rest.length ≤ 7
    if bitAt (byteAt m 0) 4 != toggle then s.sdoAbort slot mux 0x05030000
    else { s with sdo := if last then .none else .segUp mux (rest.drop 7) (!toggle) }.sdoSend slot
      (16 * flagNat toggle + 2 * (7 - min 7 rest.length) + flagNat last) (rest.take 7)
  | _ => s.sdoAbort slot (sdoMux m) 0x05040001

/-- The segments of one block of an upload, from a position. -/
def State.blockSegments (s : State) (slot : Nat) (data : Bytes) : Nat → Nat → Nat → List Out
  | 0, _, _ => []
  | k + 1, seqNo, pos =>
    let last := data.length ≤ pos + 7
    s.sdoFrame slot (seqNo + 128 * flagNat last) ((data.drop pos).take 7) :: (if last then [] else s.blockSegments slot data k (seqNo + 1) (pos + 7))

/-- The next block of an upload leaves. -/
def State.sdoBlock (s : State) (slot mux : Nat) (data : Bytes) (pos blksize : Nat) (crc : Bool) : State :=
  let l := s.blockSegments slot data blksize 1 pos
  l.foldl State.emit ({ s with sdo := .blkUp mux data pos blksize l.length crc 1 }.touch 0)

/-- A block upload: its request, its start, a block's confirmation, or the end's. -/
def State.sdoBlockUp (s : State) (slot : Nat) (m : Bytes) : State :=
  let cs := byteAt m 0 % 4
  let blk (b : Nat) : Bool := 1 ≤ b && b ≤ 127
  if cs == 0 then
    let b := byteAt m 4
    if !blk b then s.sdoAbort slot (sdoMux m) 0x05040002
    else s.sdoRead slot (sdoMux m) (fun s v =>
      (.blkUp (sdoMux m) v 0 (min b s.blockSize) 0 (bitAt (byteAt m 0) 2) 0, s.sdoFrame slot 0xC6 (toLE 3 (sdoMux m) ++ toLE 4 v.length)))
  else match s.sdo with
    | .blkUp mux data pos blksize sent crc stage =>
      let ack := byteAt m 1
      let pos1 := pos + 7 * ack
      if cs == 3 && stage == 0 then s.sdoBlock slot mux data pos blksize crc
      else if cs == 2 && stage == 1 then
        if sent < ack then s.sdoAbort slot mux 0x05040003
        else if !blk (byteAt m 2) then s.sdoAbort slot mux 0x05040002
        else if pos1 < data.length then s.sdoBlock slot mux data pos1 (min (byteAt m 2) s.blockSize) crc
        else { s with sdo := .blkUp mux data pos1 blksize 0 crc 2 }.sdoSend slot (0xC1 + 4 * (pos1 - data.length)) (toLE 2 (if crc then crc16 data else 0))
      else if cs == 1 && stage == 2 then { s with sdo := .none }.touch 0
      else s.sdoAbort slot mux 0x05040001
    | _ => s.sdoAbort slot (sdoMux m) 0x05040001

/-- The services of R76 that a frame can belong to; `unknown` for an unknown command specifier, `clientAbort` for the client's abort. -/
inductive SdoKind where
  | downInit | downSeg | blockDown | upInit | upSeg | blockUp | clientAbort | unknown
  deriving DecidableEq, Repr

/-- The service that a frame belongs to: while a block is being received every frame is a segment of it. -/
def State.sdoKind (s : State) (m : Bytes) : SdoKind :=
  let b0 := byteAt m 0
  let segment : Bool := match s.sdo with
    | .blkDown _ _ _ _ _ _ false => true
    | _ => false
  if b0 == 0x80 then .clientAbort
  else if segment then .blockDown
  else match b0 / 32 with
    | 0 => .downSeg
    | 1 => .downInit
    | 2 => .upInit
    | 3 => .upSeg
    | 5 => .blockUp
    | 6 => .blockDown
    | _ => .unknown

/-- The service channel takes a request of 8 bytes at a slot (R74, R75, R77). -/
def State.sdoServes (s : State) (slot : Nat) (m : Bytes) : Bool :=
  s.serves 0 && slot == s.cfg E.accessSdoPortSlot && s.canOnBus slot && m.length == 8

/-- A request frame of one service: the service, the client's abort, or an unknown command specifier. A frame of another service is that service's command. -/
def State.sdoRequest (s : State) (slot : Nat) (m : Bytes) (k : SdoKind) (f : State → State) : Result :=
  doneIf s (s.variant.hasSlot slot && isCan slot) (s.when (s.sdoServes slot m) (fun s =>
    if s.sdoKind m == k then f s
    else if s.sdoKind m == .clientAbort then { s with sdo := .none }
    else if s.sdoKind m == .unknown then s.sdoAbort slot (sdoMux m) 0x05040001
    else s))

/-- SDO_DOWNLOAD_INITIATE (R76). -/
def execSdoDownloadInitiate (slot : Nat) (msg : Bytes) (s : State) : Result := s.sdoRequest slot msg .downInit (·.sdoDownInit slot msg)

/-- SDO_DOWNLOAD_SEGMENT (R76). -/
def execSdoDownloadSegment (slot : Nat) (msg : Bytes) (s : State) : Result := s.sdoRequest slot msg .downSeg (·.sdoDownSeg slot msg)

/-- SDO_BLOCK_DOWNLOAD (R76). -/
def execSdoBlockDownload (slot : Nat) (msg : Bytes) (s : State) : Result := s.sdoRequest slot msg .blockDown (·.sdoBlockDown slot msg)

/-- SDO_UPLOAD_INITIATE (R76). -/
def execSdoUploadInitiate (slot : Nat) (msg : Bytes) (s : State) : Result := s.sdoRequest slot msg .upInit (·.sdoUpInit slot msg)

/-- SDO_UPLOAD_SEGMENT (R76). -/
def execSdoUploadSegment (slot : Nat) (msg : Bytes) (s : State) : Result := s.sdoRequest slot msg .upSeg (·.sdoUpSeg slot msg)

/-- SDO_BLOCK_UPLOAD (R76). -/
def execSdoBlockUpload (slot : Nat) (msg : Bytes) (s : State) : Result := s.sdoRequest slot msg .blockUp (·.sdoBlockUp slot msg)

/-- The entry of the transfer in progress. -/
def SdoTransfer.mux : SdoTransfer → Option Nat
  | .none => Option.none
  | .segDown m _ _ _ => some m
  | .segUp m _ _ => some m
  | .blkDown m _ _ _ _ _ _ => some m
  | .blkUp m _ _ _ _ _ _ => some m

/-- The client's next segment or block has not come (R76): the transfer is aborted; that is no accepted request (R72). -/
def State.sdoTimeout (s : State) : State :=
  match s.sdo.mux with
  | some mux => { s with sdo := .none }.emit (s.sdoAbortFrame (s.cfg E.accessSdoPortSlot) mux 0x05040000)
  | none => s

/-- SDO_SEGMENT_TIMEOUT (R76). -/
def execSdoSegmentTimeout (s : State) : Result := done (s.when (s.serves 0) State.sdoTimeout)

/-- SDO_REQUEST_LEVEL (R78). -/
def execSdoRequestLevel (sess level : Nat) (s : State) : Result := s.entryWrite sess E.sessionSdoRequestLevel (toLE 1 level)

/-- SDO_CLIENT_NONCE (R78). -/
def execSdoClientNonce (sess : Nat) (nonce : Bytes) (s : State) : Result := s.entryWrite sess E.sessionSdoClientNonce nonce

/-- SDO_PROOF (R69, R78). -/
def execSdoProof (sess : Nat) (proof : Bytes) (s : State) : Result := s.entryWrite sess E.sessionSdoProof proof

/-- SDO_CLOSE (R72, R78). -/
def execSdoClose (sess value : Nat) (s : State) : Result := s.entryWrite sess E.sessionSdoClose (toLE 1 value)

end Sys2Proof.Machine
end

