-- ==== Sys2Proof/Machine/Dispatch.lean ====
section
/-! DEFINITION. The one place that says which meaning each command has. -/

namespace Sys2Proof.Machine
open Sys2Proof

/-- The effect of a command on everything but the queue. -/
def exec (i : Instr) (s : State) : Host.Outcome State Fault Refusal :=
  match i with
  | .supplyOutOfRange sup => Sys2Proof.Machine.execSupplyOutOfRange sup s
  | .suppliesInRange die => Sys2Proof.Machine.execSuppliesInRange die s
  | .switchDieSupplyTimeout die => Sys2Proof.Machine.execSwitchDieSupplyTimeout die s
  | .guardFirmwareVerified flash => Sys2Proof.Machine.execGuardFirmwareVerified flash s
  | .vcoreLow die => Sys2Proof.Machine.execVcoreLow die s
  | .vcoreRestored die => Sys2Proof.Machine.execVcoreRestored die s
  | .vcoreBelowReset die => Sys2Proof.Machine.execVcoreBelowReset die s
  | .bankClockFail die => Sys2Proof.Machine.execBankClockFail die s
  | .bankClockStable die => Sys2Proof.Machine.execBankClockStable die s
  | .healthReport die report => Sys2Proof.Machine.execHealthReport die report s
  | .controlLinkSilent die => Sys2Proof.Machine.execControlLinkSilent die s
  | .controlLinkReset die => Sys2Proof.Machine.execControlLinkReset die s
  | .stageStall die => Sys2Proof.Machine.execStageStall die s
  | .fabricCellReceive die e crcOk => Sys2Proof.Machine.execFabricCellReceive die e crcOk s
  | .keepAlive die e => Sys2Proof.Machine.execKeepAlive die e s
  | .linkEndFail die e => Sys2Proof.Machine.execLinkEndFail die e s
  | .linkEndRecover die e => Sys2Proof.Machine.execLinkEndRecover die e s
  | .pathMarkerAck src dst cls => Sys2Proof.Machine.execPathMarkerAck src dst cls s
  | .canFrameReceive slot frame => Sys2Proof.Machine.execCanFrameReceive slot frame s
  | .canProtocolException slot => Sys2Proof.Machine.execCanProtocolException slot s
  | .canBusIntegration slot => Sys2Proof.Machine.execCanBusIntegration slot s
  | .portDequeue die q => Sys2Proof.Machine.execPortDequeue die q s
  | .canTransmitComplete slot delay => Sys2Proof.Machine.execCanTransmitComplete slot delay s
  | .canArbitrationLost slot => Sys2Proof.Machine.execCanArbitrationLost slot s
  | .canTransmitError slot err => Sys2Proof.Machine.execCanTransmitError slot err s
  | .busOffRestartTimeout slot => Sys2Proof.Machine.execBusOffRestartTimeout slot s
  | .recoverySequenceComplete slot => Sys2Proof.Machine.execRecoverySequenceComplete slot s
  | .linHeader slot id syncOk readBackOk => Sys2Proof.Machine.execLinHeader slot id syncOk readBackOk s
  | .linResponseReceive slot id data check => Sys2Proof.Machine.execLinResponseReceive slot id data check s
  | .linNoResponse slot => Sys2Proof.Machine.execLinNoResponse slot s
  | .linScheduleSlot slot => Sys2Proof.Machine.execLinScheduleSlot slot s
  | .linBusStuck slot => Sys2Proof.Machine.execLinBusStuck slot s
  | .linBusRecover slot => Sys2Proof.Machine.execLinBusRecover slot s
  | .ethFrameReceive slot bytes fcsOk => Sys2Proof.Machine.execEthFrameReceive slot bytes fcsOk s
  | .ethTransmitComplete slot => Sys2Proof.Machine.execEthTransmitComplete slot s
  | .drainTimeout slot => Sys2Proof.Machine.execDrainTimeout slot s
  | .holdTimeExpiry slot => Sys2Proof.Machine.execHoldTimeExpiry slot s
  | .atomicCreditReturn group member cells => Sys2Proof.Machine.execAtomicCreditReturn group member cells s
  | .sgmiiControlWord slot up fullDuplex speed => Sys2Proof.Machine.execSgmiiControlWord slot up fullDuplex speed s
  | .linkLoss slot loss => Sys2Proof.Machine.execLinkLoss slot loss s
  | .linkDownDelayExpiry slot => Sys2Proof.Machine.execLinkDownDelayExpiry slot s
  | .linkUpDelayExpiry slot => Sys2Proof.Machine.execLinkUpDelayExpiry slot s
  | .pauseTimerExpiry slot cls => Sys2Proof.Machine.execPauseTimerExpiry slot cls s
  | .pauseWatchdogExpiry slot cls => Sys2Proof.Machine.execPauseWatchdogExpiry slot cls s
  | .pausePenaltyEnd slot cls => Sys2Proof.Machine.execPausePenaltyEnd slot cls s
  | .pauseRefresh slot cls => Sys2Proof.Machine.execPauseRefresh slot cls s
  | .configParityFault slot => Sys2Proof.Machine.execConfigParityFault slot s
  | .mdioC22Read sess slot => Sys2Proof.Machine.execMdioC22Read sess slot s
  | .mdioC22Write sess slot => Sys2Proof.Machine.execMdioC22Write sess slot s
  | .mdioC45Read sess slot => Sys2Proof.Machine.execMdioC45Read sess slot s
  | .mdioC45Write sess slot => Sys2Proof.Machine.execMdioC45Write sess slot s
  | .mdioOperationComplete die data answered => Sys2Proof.Machine.execMdioOperationComplete die data answered s
  | .wakePatternReport slot pattern => Sys2Proof.Machine.execWakePatternReport slot pattern s
  | .learnRequest die => Sys2Proof.Machine.execLearnRequest die s
  | .sweeperVisit die => Sys2Proof.Machine.execSweeperVisit die s
  | .tunnelEngineTake die engine => Sys2Proof.Machine.execTunnelEngineTake die engine s
  | .flushTimerExpiry row => Sys2Proof.Machine.execFlushTimerExpiry row s
  | .tunnelDecapsulate die => Sys2Proof.Machine.execTunnelDecapsulate die s
  | .resyncTimeout row => Sys2Proof.Machine.execResyncTimeout row s
  | .evidenceIntervalEnd limiter => Sys2Proof.Machine.execEvidenceIntervalEnd limiter s
  | .faultDetected cls die unit => Sys2Proof.Machine.execFaultDetected cls die unit s
  | .readmit sess die => Sys2Proof.Machine.execReadmit sess die s
  | .readmitImagesSent die ok => Sys2Proof.Machine.execReadmitImagesSent die ok s
  | .readmitSelfTestComplete die ok => Sys2Proof.Machine.execReadmitSelfTestComplete die ok s
  | .safeRelease sess value => Sys2Proof.Machine.execSafeRelease sess value s
  | .safeNRecoveryTimeout cls => Sys2Proof.Machine.execSafeNRecoveryTimeout cls s
  | .runtimePairRestartComplete die => Sys2Proof.Machine.execRuntimePairRestartComplete die s
  | .tableScrub die table err => Sys2Proof.Machine.execTableScrub die table err s
  | .tableHalfRewrite die table => Sys2Proof.Machine.execTableHalfRewrite die table s
  | .miConversion input microVolt => Sys2Proof.Machine.execMiConversion input microVolt s
  | .miGateEnd input => Sys2Proof.Machine.execMiGateEnd input s
  | .miDiagnosticSlot input microVolt => Sys2Proof.Machine.execMiDiagnosticSlot input microVolt s
  | .spdCountedEdge input highTicks => Sys2Proof.Machine.execSpdCountedEdge input highTicks s
  | .spdDecelerationUpdate input => Sys2Proof.Machine.execSpdDecelerationUpdate input s
  | .spdZeroTimeout input => Sys2Proof.Machine.execSpdZeroTimeout input s
  | .spdOpen input absent => Sys2Proof.Machine.execSpdOpen input absent s
  | .distanceReset sess input value => Sys2Proof.Machine.execDistanceReset sess input value s
  | .vbatpConversion microVolt => Sys2Proof.Machine.execVbatpConversion microVolt s
  | .wkLevelSample levels => Sys2Proof.Machine.execWkLevelSample levels s
  | .tapValueReceive die => Sys2Proof.Machine.execTapValueReceive die s
  | .tapIntervalEnd die row => Sys2Proof.Machine.execTapIntervalEnd die row s
  | .ruleTimerExpiry row => Sys2Proof.Machine.execRuleTimerExpiry row s
  | .evidenceRequest src => Sys2Proof.Machine.execEvidenceRequest src s
  | .coalesceTableSend src => Sys2Proof.Machine.execCoalesceTableSend src s
  | .sealSigned result => Sys2Proof.Machine.execSealSigned result s
  | .evNop word => Sys2Proof.Machine.execEvNop word s
  | .evRead n => Sys2Proof.Machine.execEvRead n s
  | .evClear mask => Sys2Proof.Machine.execEvClear mask s
  | .evFetchRecord seq => Sys2Proof.Machine.execEvFetchRecord seq s
  | .evFetchSeal number => Sys2Proof.Machine.execEvFetchSeal number s
  | .evReadFetch n => Sys2Proof.Machine.execEvReadFetch n s
  | .sealNowEntry sess value => Sys2Proof.Machine.execSealNowEntry sess value s
  | .journalAck sess seq => Sys2Proof.Machine.execJournalAck sess seq s
  | .gptpSyncStateChange change => Sys2Proof.Machine.execGptpSyncStateChange change s
  | .lifecycleRequest sess value => Sys2Proof.Machine.execLifecycleRequest sess value s
  | .lifecycleConfirm sess value => Sys2Proof.Machine.execLifecycleConfirm sess value s
  | .provisionBlob sess blob => Sys2Proof.Machine.execProvisionBlob sess blob s
  | .keyDerive sess => Sys2Proof.Machine.execKeyDerive sess s
  | .keyImport sess => Sys2Proof.Machine.execKeyImport sess s
  | .keyInvalidate sess => Sys2Proof.Machine.execKeyInvalidate sess s
  | .keyErase sess => Sys2Proof.Machine.execKeyErase sess s
  | .attestChallenge sess challenge => Sys2Proof.Machine.execAttestChallenge sess challenge s
  | .powerRequestListen sess => Sys2Proof.Machine.execPowerRequestListen sess s
  | .powerRequestStandby sess => Sys2Proof.Machine.execPowerRequestStandby sess s
  | .canWakeUpPattern slot => Sys2Proof.Machine.execCanWakeUpPattern slot s
  | .canDecoderFrame slot frame err => Sys2Proof.Machine.execCanDecoderFrame slot frame err s
  | .canRxdWake slot => Sys2Proof.Machine.execCanRxdWake slot s
  | .wkEdge input rising => Sys2Proof.Machine.execWkEdge input rising s
  | .tamperSample loop level => Sys2Proof.Machine.execTamperSample loop level s
  | .linWakePulse slot => Sys2Proof.Machine.execLinWakePulse slot s
  | .sysCtrlWrite die value => Sys2Proof.Machine.execSysCtrlWrite die value s
  | .sysWdtKick die value => Sys2Proof.Machine.execSysWdtKick die value s
  | .appWatchdogExpiry die => Sys2Proof.Machine.execAppWatchdogExpiry die s
  | .appRestart sess die value => Sys2Proof.Machine.execAppRestart sess die value s
  | .appRestartDelayExpiry die => Sys2Proof.Machine.execAppRestartDelayExpiry die s
  | .interruptSourceFire die source target => Sys2Proof.Machine.execInterruptSourceFire die source target s
  | .intcDoorbell die value => Sys2Proof.Machine.execIntcDoorbell die value s
  | .intcRdoorbell die sender value => Sys2Proof.Machine.execIntcRdoorbell die sender value s
  | .intcSetpend die word value => Sys2Proof.Machine.execIntcSetpend die word value s
  | .intcClaim die => Sys2Proof.Machine.execIntcClaim die s
  | .intcComplete die value => Sys2Proof.Machine.execIntcComplete die value s
  | .tmrCtrlWrite die timer value => Sys2Proof.Machine.execTmrCtrlWrite die timer value s
  | .timerExpiry die timer => Sys2Proof.Machine.execTimerExpiry die timer s
  | .tmrClaim die timer pair => Sys2Proof.Machine.execTmrClaim die timer pair s
  | .tmrRelease die timer pair => Sys2Proof.Machine.execTmrRelease die timer pair s
  | .pinClaim die pin pair => Sys2Proof.Machine.execPinClaim die pin pair s
  | .pinRelease die pin pair => Sys2Proof.Machine.execPinRelease die pin pair s
  | .pinsDoutWrite die pair value => Sys2Proof.Machine.execPinsDoutWrite die pair value s
  | .mbxRead die staged => Sys2Proof.Machine.execMbxRead die staged s
  | .mbxWrite die staged => Sys2Proof.Machine.execMbxWrite die staged s
  | .mailboxComplete die => Sys2Proof.Machine.execMailboxComplete die s
  | .bridgeWindowRead die window offset way => Sys2Proof.Machine.execBridgeWindowRead die window offset way s
  | .bridgePostedWrite die window offset value way => Sys2Proof.Machine.execBridgePostedWrite die window offset value way s
  | .bridgeFence die => Sys2Proof.Machine.execBridgeFence die s
  | .bridgePfclr die value => Sys2Proof.Machine.execBridgePfclr die value s
  | .bridgeSemRead die sem sender => Sys2Proof.Machine.execBridgeSemRead die sem sender s
  | .bridgeSemWrite die sem sender value => Sys2Proof.Machine.execBridgeSemWrite die sem sender value s
  | .bridgePostedFail die => Sys2Proof.Machine.execBridgePostedFail die s
  | .bridgeNackRetry die accepted => Sys2Proof.Machine.execBridgeNackRetry die accepted s
  | .bridgeResponseTimeout die => Sys2Proof.Machine.execBridgeResponseTimeout die s
  | .semaphoreFailureRelease die sem => Sys2Proof.Machine.execSemaphoreFailureRelease die sem s
  | .qpEnable die qp => Sys2Proof.Machine.execQpEnable die qp s
  | .qpDisable die qp => Sys2Proof.Machine.execQpDisable die qp s
  | .qpDisablingEnd die qp => Sys2Proof.Machine.execQpDisablingEnd die qp s
  | .qpRxadv die qp value => Sys2Proof.Machine.execQpRxadv die qp value s
  | .qpMark die qp => Sys2Proof.Machine.execQpMark die qp s
  | .qpRewind die qp => Sys2Proof.Machine.execQpRewind die qp s
  | .qpRelease die qp => Sys2Proof.Machine.execQpRelease die qp s
  | .qpTxpush die qp value => Sys2Proof.Machine.execQpTxpush die qp value s
  | .qpTxItemTake die => Sys2Proof.Machine.execQpTxItemTake die s
  | .qpRxItemWrite die => Sys2Proof.Machine.execQpRxItemWrite die s
  | .capRdcntWrite die value => Sys2Proof.Machine.execCapRdcntWrite die value s
  | .bitPlaneAliasWrite die addr value => Sys2Proof.Machine.execBitPlaneAliasWrite die addr value s
  | .lowWordRead die addr core => Sys2Proof.Machine.execLowWordRead die addr core s
  | .sysEccCorrRead die => Sys2Proof.Machine.execSysEccCorrRead die s
  | .qpTxerrRead die qp => Sys2Proof.Machine.execQpTxerrRead die qp s
  | .bridgeRetryRead die => Sys2Proof.Machine.execBridgeRetryRead die s
  | .registerWrite die addr value => Sys2Proof.Machine.execRegisterWrite die addr value s
  | .blockDisablingEnd die addr => Sys2Proof.Machine.execBlockDisablingEnd die addr s
  | .registerParityMismatch die addr => Sys2Proof.Machine.execRegisterParityMismatch die addr s
  | .updateDeltaWrite sess offset bytes => Sys2Proof.Machine.execUpdateDeltaWrite sess offset bytes s
  | .updateCheck sess => Sys2Proof.Machine.execUpdateCheck sess s
  | .updateApply sess => Sys2Proof.Machine.execUpdateApply sess s
  | .updateApplyComplete ok => Sys2Proof.Machine.execUpdateApplyComplete ok s
  | .updateStart sess => Sys2Proof.Machine.execUpdateStart sess s
  | .updateAbandon sess => Sys2Proof.Machine.execUpdateAbandon sess s
  | .updateReject sess => Sys2Proof.Machine.execUpdateReject sess s
  | .updateConfirm sess version => Sys2Proof.Machine.execUpdateConfirm sess version s
  | .commitValidate sess => Sys2Proof.Machine.execCommitValidate sess s
  | .commitStart sess => Sys2Proof.Machine.execCommitStart sess s
  | .commitDiscard sess => Sys2Proof.Machine.execCommitDiscard sess s
  | .restoreDefaults sess => Sys2Proof.Machine.execRestoreDefaults sess s
  | .discardLockHolder sess => Sys2Proof.Machine.execDiscardLockHolder sess s
  | .storeWriteComplete ok => Sys2Proof.Machine.execStoreWriteComplete ok s
  | .odEntryWrite sess index sub value => Sys2Proof.Machine.execOdEntryWrite sess index sub value s
  | .odRelayResponse sess => Sys2Proof.Machine.execOdRelayResponse sess s
  | .rowAction sess index value => Sys2Proof.Machine.execRowAction sess index value s
  | .counterClear sess index sub => Sys2Proof.Machine.execCounterClear sess index sub s
  | .canRecover sess slot value => Sys2Proof.Machine.execCanRecover sess slot value s
  | .clearBlock sess row => Sys2Proof.Machine.execClearBlock sess row s
  | .fdbFlush sess value => Sys2Proof.Machine.execFdbFlush sess value s
  | .rtcWrite sess value => Sys2Proof.Machine.execRtcWrite sess value s
  | .sdoDownloadInitiate slot msg => Sys2Proof.Machine.execSdoDownloadInitiate slot msg s
  | .sdoDownloadSegment slot msg => Sys2Proof.Machine.execSdoDownloadSegment slot msg s
  | .sdoBlockDownload slot msg => Sys2Proof.Machine.execSdoBlockDownload slot msg s
  | .sdoUploadInitiate slot msg => Sys2Proof.Machine.execSdoUploadInitiate slot msg s
  | .sdoUploadSegment slot msg => Sys2Proof.Machine.execSdoUploadSegment slot msg s
  | .sdoBlockUpload slot msg => Sys2Proof.Machine.execSdoBlockUpload slot msg s
  | .sdoRequestLevel sess level => Sys2Proof.Machine.execSdoRequestLevel sess level s
  | .sdoClientNonce sess nonce => Sys2Proof.Machine.execSdoClientNonce sess nonce s
  | .sdoProof sess proof => Sys2Proof.Machine.execSdoProof sess proof s
  | .sdoClose sess value => Sys2Proof.Machine.execSdoClose sess value s
  | .aniseRead m => Sys2Proof.Machine.execAniseRead m s
  | .aniseWrite m => Sys2Proof.Machine.execAniseWrite m s
  | .aniseOpen m => Sys2Proof.Machine.execAniseOpen m s
  | .aniseAuth m => Sys2Proof.Machine.execAniseAuth m s
  | .aniseClose m => Sys2Proof.Machine.execAniseClose m s
  | .aniseEcho m => Sys2Proof.Machine.execAniseEcho m s
  | .pendingSessionLapse row => Sys2Proof.Machine.execPendingSessionLapse row s
  | .sessionIdleTimeout sess => Sys2Proof.Machine.execSessionIdleTimeout sess s
  | .lockoutEnd ap => Sys2Proof.Machine.execLockoutEnd ap s
  | .jtagSamplePreload cells => Sys2Proof.Machine.execJtagSamplePreload cells s
  | .jtagExtest cells => Sys2Proof.Machine.execJtagExtest cells s
  | .linkUp lane => Sys2Proof.Machine.execLinkUp lane s
  | .canReceiveError slot err => Sys2Proof.Machine.execCanReceiveError slot err s
  | .miEdge input rising => Sys2Proof.Machine.execMiEdge input rising s
  | .miDebounceExpiry input => Sys2Proof.Machine.execMiDebounceExpiry input s
  | .gptpIntervalExpiry slot kind => Sys2Proof.Machine.execGptpIntervalExpiry slot kind s
  | .appImageReloaded die => Sys2Proof.Machine.execAppImageReloaded die s
  | .wakePulseEnd slot => Sys2Proof.Machine.execWakePulseEnd slot s
  | .powerOn => Sys2Proof.Machine.execPowerOn s
  | .resetNAssert => Sys2Proof.Machine.execResetNAssert s
  | .resetNRelease => Sys2Proof.Machine.execResetNRelease s
  | .vaonLoss => Sys2Proof.Machine.execVaonLoss s
  | .switchImagesLoaded => Sys2Proof.Machine.execSwitchImagesLoaded s
  | .tablesApplied => Sys2Proof.Machine.execTablesApplied s
  | .healthSummaryIntervalEnd => Sys2Proof.Machine.execHealthSummaryIntervalEnd s
  | .recomputationComplete => Sys2Proof.Machine.execRecomputationComplete s
  | .placementApply => Sys2Proof.Machine.execPlacementApply s
  | .supervisorWatchdogExpiry => Sys2Proof.Machine.execSupervisorWatchdogExpiry s
  | .supervisorRefreshTimeout => Sys2Proof.Machine.execSupervisorRefreshTimeout s
  | .securityCoreRestartComplete => Sys2Proof.Machine.execSecurityCoreRestartComplete s
  | .distanceStore => Sys2Proof.Machine.execDistanceStore s
  | .freshnessStore => Sys2Proof.Machine.execFreshnessStore s
  | .ruleEvaluation => Sys2Proof.Machine.execRuleEvaluation s
  | .recordAppend => Sys2Proof.Machine.execRecordAppend s
  | .lossRangeTimeout => Sys2Proof.Machine.execLossRangeTimeout s
  | .sealPeriodExpiry => Sys2Proof.Machine.execSealPeriodExpiry s
  | .sealSpacingEnd => Sys2Proof.Machine.execSealSpacingEnd s
  | .nextTreeReady => Sys2Proof.Machine.execNextTreeReady s
  | .activeTreeReady => Sys2Proof.Machine.execActiveTreeReady s
  | .evMark => Sys2Proof.Machine.execEvMark s
  | .evRewind => Sys2Proof.Machine.execEvRewind s
  | .evRelease => Sys2Proof.Machine.execEvRelease s
  | .evFetchComplete => Sys2Proof.Machine.execEvFetchComplete s
  | .evAckFetch => Sys2Proof.Machine.execEvAckFetch s
  | .evSealNow => Sys2Proof.Machine.execEvSealNow s
  | .evFill => Sys2Proof.Machine.execEvFill s
  | .serviceTimeout => Sys2Proof.Machine.execServiceTimeout s
  | .retiredPendingBurn => Sys2Proof.Machine.execRetiredPendingBurn s
  | .autoSleepCheck => Sys2Proof.Machine.execAutoSleepCheck s
  | .powerEntryPortsDisabled => Sys2Proof.Machine.execPowerEntryPortsDisabled s
  | .powerEntryComplete => Sys2Proof.Machine.execPowerEntryComplete s
  | .rtcAlarm => Sys2Proof.Machine.execRtcAlarm s
  | .rtcPeriod => Sys2Proof.Machine.execRtcPeriod s
  | .delayLineCalibration => Sys2Proof.Machine.execDelayLineCalibration s
  | .trialWindowEnd => Sys2Proof.Machine.execTrialWindowEnd s
  | .validationComplete => Sys2Proof.Machine.execValidationComplete s
  | .placementComplete => Sys2Proof.Machine.execPlacementComplete s
  | .applyInstant => Sys2Proof.Machine.execApplyInstant s
  | .commitDone => Sys2Proof.Machine.execCommitDone s
  | .sdoSegmentTimeout => Sys2Proof.Machine.execSdoSegmentTimeout s
  | .jtagBypass => Sys2Proof.Machine.execJtagBypass s
  | .jtagTestLogicReset => Sys2Proof.Machine.execJtagTestLogicReset s
  | .supervisorWatchdogRefresh => Sys2Proof.Machine.execSupervisorWatchdogRefresh s

end Sys2Proof.Machine
end

