-- ==== Sys2Proof/Machine/Step.lean ====
section
/-! DEFINITION. The step: the command at the front of the queue runs; with an empty queue one tick of REFCLK_IN passes. -/

namespace Sys2Proof.Machine
open Sys2Proof

/-- One tick of REFCLK_IN (R50) passes while no command waits (DESIGN CHOICE, log 1); XRTC_IN, a clock of its own (Table 2-2), may have an edge in it (log 90). -/
def State.tick (s : State) : State :=
  { s with clock := { s.clock with ticks := s.clock.ticks + 1, xrtc := s.clock.xrtc + (if Config.xrtcEdge s.clock.ticks then 1 else 0) } }

/-- Take the command at the front of the queue and run it with the rest; idle one tick on an empty queue. -/
def step (s : State) : Host.Outcome State Fault Refusal :=
  match s.pending with
  | [] => .next s.tick
  | c :: cs => exec c { s with pending := cs }

/-- The state with the command a word spells at the front of its queue: no row of the table gives bits, so no word spells one. -/
def State.withFetchWord (s : State) (nbits w : Nat) : State :=
  match decodeTableWord nbits w with
  | some c => { s with pending := c :: s.pending }
  | none => s

end Sys2Proof.Machine
end

