-- ==== Sys2Proof/WellFormed.lean ====
section
/-! DEFINITION. Well-formed commands of a part with `nc` switch dies: every operand names a unit that the part has, and
every value fits its field. The ranges are those of the rules cited at each check. -/

namespace Sys2Proof

/-- A switch die of the part (R1). -/
def wfDie (nc n : Nat) : Bool := decide (1 ≤ n) && decide (n ≤ nc)
/-- A die of the part, D0 among them (R1). -/
def wfAnyDie (nc n : Nat) : Bool := decide (n ≤ nc)
/-- A slot on a switch die of the part (R16, R17). -/
def wfSlotDie (nc slot : Nat) : Bool := decide (slot / 32 < nc)
/-- A CAN port (R16). -/
def wfCan (nc slot : Nat) : Bool := wfSlotDie nc slot && decide (slot % 32 < 8)
/-- A LIN port (R16). -/
def wfLin (nc slot : Nat) : Bool := wfSlotDie nc slot && decide (8 ≤ slot % 32) && decide (slot % 32 < 12)
/-- An Ethernet or trunk port (R16). -/
def wfEth (nc slot : Nat) : Bool := wfSlotDie nc slot && decide (16 ≤ slot % 32) && decide (slot % 32 < 21)
/-- A port of any kind. -/
def wfSlot (nc slot : Nat) : Bool := wfCan nc slot || wfLin nc slot || wfEth nc slot
/-- A fabric link end that Table 1-4 connects: four on each switch die, none on an AZ8102 (R34). -/
def wfLink (nc die e : Nat) : Bool := wfDie nc die && decide (1 < nc) && decide (e < 4)
/-- A supply of Table 16-3 on a die of the part. -/
def wfSupply (nc : Nat) : Supply → Bool
  | .vaon => true
  | .vana => true
  | .vioM => true
  | .vcore n => wfDie nc n
  | .vsds n => wfDie nc n
  | .vsdsio n => wfDie nc n
  | .vioBus n => wfDie nc n
  | .vioGen n => wfDie nc n
/-- An access point's session row: SDO, four Anise sessions, one mailbox a switch die (R42, R68, R79). -/
def wfSess (nc sess : Nat) : Bool := decide (sess < 5 + nc)
/-- A traffic class (R217). -/
def wfClass (c : Nat) : Bool := decide (c < 8)
/-- An egress point of a die: its ports, link ends and internal ports (R38, Table 7-1). -/
def wfPoint (q : Nat) : Bool := decide (q < 29)
/-- A fault class of Table 9-4. -/
def wfFaultClass (c : Nat) : Bool := decide (1 ≤ c) && decide (c ≤ 0x15)
/-- A number of the value's width (Table 3-1). -/
def wfU8 (v : Nat) : Bool := decide (v < 2 ^ 8)
def wfU16 (v : Nat) : Bool := decide (v < 2 ^ 16)
def wfU32 (v : Nat) : Bool := decide (v < 2 ^ 32)
def wfU64 (v : Nat) : Bool := decide (v < 2 ^ 64)
/-- What a die reports: a fault class of Table 9-4 (R276). -/
def wfReport : HealthReport → Bool
  | .alive => true
  | .fault c u => wfFaultClass c && wfU16 u
  | .cleared c => wfFaultClass c
/-- A grandmaster identity is 8 bytes (R159). -/
def wfGptp : GptpChange → Bool
  | .synced => true
  | .lost => true
  | .grandmaster g => wfU64 g
/-- The payload lengths of CAN FD (Table 4-1). -/
def wfFdLength (n : Nat) : Bool := decide (n ≤ 8) || [12, 16, 20, 24, 32, 48, 64].contains n
/-- The payload of a Classical CAN frame and its data length code: a remote frame has no data and its code, a data frame 0 to 8 bytes, and 8 where the code
is 9 to 15 (R103). -/
def wfCcLength (f : Frame) : Bool :=
  match f.dlc with
  | none => !f.rtr && decide (f.data.length ≤ 8)
  | some c => if f.rtr then f.data.isEmpty && decide (c < 16) else f.data.length == 8 && decide (9 ≤ c) && decide (c < 16)
/-- A CAN frame that a controller can receive: identifier and payload as its format has them (Table 4-1). -/
def wfCanFrame (f : Frame) : Bool :=
  match f.fmt with
  | .cc => decide (f.id < if f.ext then 2 ^ 29 else 2 ^ 11) && wfCcLength f
  | .fd => decide (f.id < if f.ext then 2 ^ 29 else 2 ^ 11) && !f.rtr && wfFdLength f.data.length
  | .xl => decide (f.id < 2 ^ 11) && !f.ext && wfU8 f.sdt && wfU8 f.vcid && wfU32 f.af && decide (1 ≤ f.data.length) && decide (f.data.length ≤ 2048)
  | .lin => false
  | .eth => false
/-- A LIN identifier (R126). -/
def wfLinId (id : Nat) : Bool := decide (id < 64)
/-- A LIN response's data (R126). -/
def wfLinData (d : Bytes) : Bool := decide (1 ≤ d.length) && decide (d.length ≤ 8)
/-- A received checksum is a byte (R126). -/
def wfLinCheck : LinCheck → Bool
  | .sum b => decide (b < 256)
  | .framing => true
/-- The trunk port of a die, which alone signals faults (R142). -/
def isTrunkLocal (slot : Nat) : Bool := slot % 32 == 20
/-- An SGMII speed: 10, 100 or 1,000 Mbit/s (R141). -/
def wfSpeed (v : Nat) : Bool := decide (v < 3)
/-- A wake pattern of a port (R173). -/
def wfPattern (i : Nat) : Bool := decide (i < 4)
/-- A destination code or ATOMIC group (R183, R229). -/
def wfGroup (g : Nat) : Bool := wfU16 g
/-- A tunnel engine of a die (R254). -/
def wfEngine (e : Nat) : Bool := decide (e < 8)
/-- A row of the tunnel table (R263). -/
def wfTunnelRow (r : Nat) : Bool := decide (r < 1024)
/-- A row of the tap table (R306). -/
def wfTap (r : Nat) : Bool := decide (r < 256)
/-- A row of the rule table (R308). -/
def wfRule (r : Nat) : Bool := decide (r < 64)
/-- A word of a die's tables as the scrubber counts them (R285). -/
def wfTable (nc t : Nat) : Bool := decide (0 < nc) && decide (t % 64 < 36)
/-- A multifunction input (R293). -/
def wfMi (i : Nat) : Bool := decide (i < 16)
/-- A speed input (R297). -/
def wfSpd (i : Nat) : Bool := decide (i < 4)
/-- A wake input (R304). -/
def wfWk (i : Nat) : Bool := decide (i < 8)
/-- A tamper loop (R384). -/
def wfLoop (i : Nat) : Bool := decide (i < 2)
/-- READ's argument (Table 11-6). -/
def wfEvRead (n : Nat) : Bool := decide (1 ≤ n) && decide (n ≤ 16384)
/-- READ_FETCH's argument (Table 11-6). -/
def wfEvFetch (n : Nat) : Bool := decide (1 ≤ n) && decide (n ≤ 1379)
/-- A domain piece (R81). -/
def wfDomain (b : Bytes) : Bool := decide (b.length ≤ 1024)
/-- An interrupt source number and target (R406). -/
def wfSource (n : Nat) : Bool := decide (n < 256)
def wfTarget (t : Nat) : Bool := decide (t < 2)
/-- A word of pending bits (R410). -/
def wfPendWord (w : Nat) : Bool := decide (w < 8)
/-- A timer, a pin, a queue pair, a semaphore of a die (Table 14-3). -/
def wfTimer (t : Nat) : Bool := decide (t < 16)
def wfPin (p : Nat) : Bool := decide (p < 8)
def wfQp (k : Nat) : Bool := decide (k < 16)
def wfSem (i : Nat) : Bool := decide (i < 32)
/-- An owner: the runtime pair, the application pair or D0 (R426). -/
def wfPair (p : Nat) : Bool := decide (1 ≤ p) && decide (p ≤ 3)
/-- A core of a switch die, as die × 16 + core. -/
def wfCore (nc who : Nat) : Bool := wfDie nc (who / 16)
/-- A core number of a die. -/
def wfLocalCore (c : Nat) : Bool := decide (c < 16)
/-- A bridge window and an offset in it (R397). -/
def wfWindow (w offset : Nat) : Bool := decide (w < 8) && decide (offset < 0x1000000)
/-- An aligned word address (R397). -/
def wfWordAddr (a : Nat) : Bool := wfU32 a && a % 4 == 0
/-- An SDO request is 8 bytes (R75). -/
def wfSdo (m : Bytes) : Bool := m.length == 8
/-- An Anise session's row (R79). -/
def wfAniseRow (r : Nat) : Bool := decide (1 ≤ r) && decide (r < 5)
/-- An access point that can be locked out: SDO or Anise (R73). -/
def wfAccessPoint (ap : Nat) : Bool := decide (1 ≤ ap) && decide (ap ≤ 2)
/-- How an Anise datagram arrives (R79): addresses, ports and tag of their widths. -/
def wfEnv (nc : Nat) (v : AniseEnv) : Bool :=
  wfEth nc v.slot && wfU8 v.realm && decide (v.mac < 2 ^ 48) && wfU16 (v.tci.getD 0) && wfU32 v.srcIp && wfU32 v.dstIp && wfU16 v.srcPort && wfU16 v.dstPort
/-- An Anise message's header fields (Table 3-6). -/
def wfAnise (nc : Nat) (m : AniseMsg) : Bool :=
  wfEnv nc m.env && wfU8 m.magic && wfU8 m.version && wfU8 m.flags && wfU32 m.sid && wfU64 m.seq && wfU16 m.index &&
  wfU8 m.sub && wfU8 m.status && wfU32 m.offset && wfU16 m.length && wfU16 m.spare && decide (m.tag.length ≤ 16)

/-- A well-formed command of a part with `nc` switch dies. -/
def Instr.wf (nc : Nat) : Instr → Bool
  | .powerOn => true
  | .resetNAssert => true
  | .resetNRelease => true
  | .vaonLoss => true
  | .supplyOutOfRange sup => wfSupply nc sup
  | .suppliesInRange die => wfAnyDie nc die
  | .switchDieSupplyTimeout die => wfDie nc die
  | .guardFirmwareVerified _ => true
  | .switchImagesLoaded => true
  | .tablesApplied => true
  | .vcoreLow die => wfDie nc die
  | .vcoreRestored die => wfDie nc die
  | .vcoreBelowReset die => wfDie nc die
  | .bankClockFail die => wfDie nc die
  | .bankClockStable die => wfDie nc die
  | .healthReport die report => wfDie nc die && wfReport report
  | .controlLinkSilent die => wfDie nc die
  | .controlLinkReset die => wfDie nc die
  | .stageStall die => wfDie nc die
  | .fabricCellReceive die e _ => wfLink nc die e
  | .keepAlive die e => wfLink nc die e
  | .linkEndFail die e => wfLink nc die e
  | .linkEndRecover die e => wfLink nc die e
  | .pathMarkerAck src dst cls => wfDie nc src && wfDie nc dst && wfClass cls
  | .canFrameReceive slot frame => wfCan nc slot && wfCanFrame frame
  | .canProtocolException slot => wfCan nc slot
  | .canBusIntegration slot => wfCan nc slot
  | .portDequeue die q => wfDie nc die && wfPoint q
  | .canTransmitComplete slot _ => wfCan nc slot
  | .canArbitrationLost slot => wfCan nc slot
  | .canTransmitError slot _ => wfCan nc slot
  | .busOffRestartTimeout slot => wfCan nc slot
  | .recoverySequenceComplete slot => wfCan nc slot
  | .linHeader slot id _ _ => wfLin nc slot && wfLinId id
  | .linResponseReceive slot id data c => wfLin nc slot && wfLinId id && wfLinData data && wfLinCheck c
  | .linNoResponse slot => wfLin nc slot
  | .linScheduleSlot slot => wfLin nc slot
  | .linBusStuck slot => wfLin nc slot
  | .linBusRecover slot => wfLin nc slot
  | .ethFrameReceive slot _ _ => wfEth nc slot
  | .ethTransmitComplete slot => wfEth nc slot
  | .drainTimeout slot => wfSlot nc slot
  | .holdTimeExpiry slot => wfSlot nc slot
  | .atomicCreditReturn group member _ => wfGroup group && wfGroup member
  | .sgmiiControlWord slot _ _ speed => wfEth nc slot && wfSpeed speed
  | .linkLoss slot loss => wfEth nc slot && (loss.fault == .sync || isTrunkLocal slot)
  | .linkDownDelayExpiry slot => wfEth nc slot
  | .linkUpDelayExpiry slot => wfEth nc slot
  | .pauseTimerExpiry slot cls => wfEth nc slot && wfClass cls
  | .pauseWatchdogExpiry slot cls => wfEth nc slot && wfClass cls
  | .pausePenaltyEnd slot cls => wfEth nc slot && wfClass cls
  | .pauseRefresh slot cls => wfEth nc slot && wfClass cls
  | .configParityFault slot => wfSlot nc slot
  | .mdioC22Read sess slot => wfSess nc sess && wfEth nc slot
  | .mdioC22Write sess slot => wfSess nc sess && wfEth nc slot
  | .mdioC45Read sess slot => wfSess nc sess && wfEth nc slot
  | .mdioC45Write sess slot => wfSess nc sess && wfEth nc slot
  | .mdioOperationComplete die data _ => wfDie nc die && wfU16 data
  | .wakePatternReport slot pattern => wfSlot nc slot && wfPattern pattern
  | .learnRequest die => wfDie nc die
  | .sweeperVisit die => wfDie nc die
  | .tunnelEngineTake die engine => wfDie nc die && wfEngine engine
  | .flushTimerExpiry row => wfTunnelRow row
  | .tunnelDecapsulate die => wfDie nc die
  | .resyncTimeout row => wfTunnelRow row
  | .evidenceIntervalEnd _ => true
  | .faultDetected cls die unit => wfAnyDie nc die && wfFaultClass cls && wfU16 unit
  | .healthSummaryIntervalEnd => true
  | .recomputationComplete => true
  | .placementApply => true
  | .readmit sess die => wfSess nc sess && wfDie nc die
  | .readmitImagesSent die _ => wfDie nc die
  | .readmitSelfTestComplete die _ => wfDie nc die
  | .safeRelease sess value => wfSess nc sess && wfU8 value
  | .safeNRecoveryTimeout cls => wfFaultClass cls
  | .supervisorWatchdogExpiry => true
  | .supervisorRefreshTimeout => true
  | .securityCoreRestartComplete => true
  | .runtimePairRestartComplete die => wfDie nc die
  | .tableScrub die table _ => wfDie nc die && wfTable nc table
  | .tableHalfRewrite die table => wfDie nc die && wfTable nc table
  | .miConversion input _ => wfMi input
  | .miGateEnd input => wfMi input
  | .miDiagnosticSlot input _ => wfMi input
  | .spdCountedEdge input _ => wfSpd input
  | .spdDecelerationUpdate input => wfSpd input
  | .spdZeroTimeout input => wfSpd input
  | .spdOpen input _ => wfSpd input
  | .distanceStore => true
  | .distanceReset sess input value => wfSess nc sess && wfSpd input && wfU8 value
  | .freshnessStore => true
  | .vbatpConversion _ => true
  | .wkLevelSample levels => wfU8 levels
  | .tapValueReceive die => wfDie nc die
  | .tapIntervalEnd die row => wfDie nc die && wfTap row
  | .ruleEvaluation => true
  | .ruleTimerExpiry row => wfRule row
  | .evidenceRequest src => wfAnyDie nc src
  | .recordAppend => true
  | .coalesceTableSend src => wfAnyDie nc src
  | .lossRangeTimeout => true
  | .sealPeriodExpiry => true
  | .sealSpacingEnd => true
  | .sealSigned _ => true
  | .nextTreeReady => true
  | .activeTreeReady => true
  | .evNop _ => true
  | .evRead n => wfEvRead n
  | .evMark => true
  | .evRewind => true
  | .evRelease => true
  | .evClear mask => wfU16 mask
  | .evFetchRecord seq => wfU64 seq
  | .evFetchSeal number => wfU32 number
  | .evFetchComplete => true
  | .evReadFetch n => wfEvFetch n
  | .evAckFetch => true
  | .evSealNow => true
  | .evFill => true
  | .sealNowEntry sess value => wfSess nc sess && wfU8 value
  | .journalAck sess seq => wfSess nc sess && wfU64 seq
  | .gptpSyncStateChange change => wfGptp change
  | .lifecycleRequest sess value => wfSess nc sess && wfU8 value
  | .lifecycleConfirm sess value => wfSess nc sess && wfDomain value
  | .serviceTimeout => true
  | .retiredPendingBurn => true
  | .provisionBlob sess blob => wfSess nc sess && wfDomain blob
  | .keyDerive sess => wfSess nc sess
  | .keyImport sess => wfSess nc sess
  | .keyInvalidate sess => wfSess nc sess
  | .keyErase sess => wfSess nc sess
  | .attestChallenge sess challenge => wfSess nc sess && wfDomain challenge
  | .powerRequestListen sess => wfSess nc sess
  | .powerRequestStandby sess => wfSess nc sess
  | .autoSleepCheck => true
  | .powerEntryPortsDisabled => true
  | .powerEntryComplete => true
  | .canWakeUpPattern slot => wfCan nc slot
  | .canDecoderFrame slot frame _ => wfCan nc slot && wfCanFrame frame
  | .canRxdWake slot => wfCan nc slot
  | .wkEdge input _ => wfWk input
  | .tamperSample loop _ => wfLoop loop
  | .rtcAlarm => true
  | .rtcPeriod => true
  | .linWakePulse slot => wfLin nc slot
  | .delayLineCalibration => true
  | .sysCtrlWrite die _ => wfDie nc die
  | .sysWdtKick die _ => wfDie nc die
  | .appWatchdogExpiry die => wfDie nc die
  | .appRestart sess die value => wfSess nc sess && wfDie nc die && wfU8 value
  | .appRestartDelayExpiry die => wfDie nc die
  | .interruptSourceFire die source target => wfDie nc die && wfSource source && wfTarget target
  | .intcDoorbell die _ => wfDie nc die
  | .intcRdoorbell die sender _ => wfDie nc die && wfDie nc sender
  | .intcSetpend die word _ => wfDie nc die && wfPendWord word
  | .intcClaim die => wfDie nc die
  | .intcComplete die _ => wfDie nc die
  | .tmrCtrlWrite die timer _ => wfDie nc die && wfTimer timer
  | .timerExpiry die timer => wfDie nc die && wfTimer timer
  | .tmrClaim die timer pair => wfDie nc die && wfTimer timer && wfPair pair
  | .tmrRelease die timer pair => wfDie nc die && wfTimer timer && wfPair pair
  | .pinClaim die pin pair => wfDie nc die && wfPin pin && wfPair pair
  | .pinRelease die pin pair => wfDie nc die && wfPin pin && wfPair pair
  | .pinsDoutWrite die pair _ => wfDie nc die && wfPair pair
  | .mbxRead die _ => wfDie nc die
  | .mbxWrite die _ => wfDie nc die
  | .mailboxComplete die => wfDie nc die
  | .bridgeWindowRead die window offset _ => wfDie nc die && wfWindow window offset
  | .bridgePostedWrite die window offset _ _ => wfDie nc die && wfWindow window offset
  | .bridgeFence die => wfDie nc die
  | .bridgePfclr die _ => wfDie nc die
  | .bridgeSemRead die sem sender => wfDie nc die && wfSem sem && wfCore nc sender
  | .bridgeSemWrite die sem sender _ => wfDie nc die && wfSem sem && wfCore nc sender
  | .bridgePostedFail die => wfDie nc die
  | .bridgeNackRetry die _ => wfDie nc die
  | .bridgeResponseTimeout die => wfDie nc die
  | .semaphoreFailureRelease die sem => wfDie nc die && wfSem sem
  | .qpEnable die qp => wfDie nc die && wfQp qp
  | .qpDisable die qp => wfDie nc die && wfQp qp
  | .qpDisablingEnd die qp => wfDie nc die && wfQp qp
  | .qpRxadv die qp _ => wfDie nc die && wfQp qp
  | .qpMark die qp => wfDie nc die && wfQp qp
  | .qpRewind die qp => wfDie nc die && wfQp qp
  | .qpRelease die qp => wfDie nc die && wfQp qp
  | .qpTxpush die qp _ => wfDie nc die && wfQp qp
  | .qpTxItemTake die => wfDie nc die
  | .qpRxItemWrite die => wfDie nc die
  | .capRdcntWrite die _ => wfDie nc die
  | .bitPlaneAliasWrite die addr _ => wfDie nc die && wfWordAddr addr
  | .lowWordRead die addr core => wfDie nc die && wfWordAddr addr && wfLocalCore core
  | .sysEccCorrRead die => wfDie nc die
  | .qpTxerrRead die qp => wfDie nc die && wfQp qp
  | .bridgeRetryRead die => wfDie nc die
  | .registerWrite die addr _ => wfDie nc die && wfWordAddr addr
  | .blockDisablingEnd die addr => wfDie nc die && wfWordAddr addr
  | .registerParityMismatch die addr => wfDie nc die && wfWordAddr addr
  | .updateDeltaWrite sess offset bytes => wfSess nc sess && wfU32 offset && wfDomain bytes
  | .updateCheck sess => wfSess nc sess
  | .updateApply sess => wfSess nc sess
  | .updateApplyComplete _ => true
  | .updateStart sess => wfSess nc sess
  | .updateAbandon sess => wfSess nc sess
  | .updateReject sess => wfSess nc sess
  | .updateConfirm sess version => wfSess nc sess && wfU32 version
  | .trialWindowEnd => true
  | .commitValidate sess => wfSess nc sess
  | .commitStart sess => wfSess nc sess
  | .commitDiscard sess => wfSess nc sess
  | .restoreDefaults sess => wfSess nc sess
  | .discardLockHolder sess => wfSess nc sess
  | .validationComplete => true
  | .placementComplete => true
  | .storeWriteComplete _ => true
  | .applyInstant => true
  | .commitDone => true
  | .odEntryWrite sess index sub value => wfSess nc sess && wfU16 index && wfU8 sub && wfDomain value
  | .odRelayResponse sess => wfSess nc sess
  | .rowAction sess index value => wfSess nc sess && wfU16 index && wfU8 value
  | .counterClear sess index sub => wfSess nc sess && wfU16 index && wfU8 sub
  | .canRecover sess slot value => wfSess nc sess && wfCan nc slot && wfU8 value
  | .clearBlock sess row => wfSess nc sess && wfCan nc row
  | .fdbFlush sess value => wfSess nc sess && wfU16 value
  | .rtcWrite sess value => wfSess nc sess && wfU32 value
  | .sdoDownloadInitiate slot msg => wfCan nc slot && wfSdo msg
  | .sdoDownloadSegment slot msg => wfCan nc slot && wfSdo msg
  | .sdoBlockDownload slot msg => wfCan nc slot && wfSdo msg
  | .sdoUploadInitiate slot msg => wfCan nc slot && wfSdo msg
  | .sdoUploadSegment slot msg => wfCan nc slot && wfSdo msg
  | .sdoBlockUpload slot msg => wfCan nc slot && wfSdo msg
  | .sdoSegmentTimeout => true
  | .sdoRequestLevel sess level => wfSess nc sess && wfU8 level
  | .sdoClientNonce sess nonce => wfSess nc sess && wfDomain nonce
  | .sdoProof sess proof => wfSess nc sess && wfDomain proof
  | .sdoClose sess value => wfSess nc sess && wfU8 value
  | .aniseRead m => wfAnise nc m
  | .aniseWrite m => wfAnise nc m
  | .aniseOpen m => wfAnise nc m
  | .aniseAuth m => wfAnise nc m
  | .aniseClose m => wfAnise nc m
  | .aniseEcho m => wfAnise nc m
  | .pendingSessionLapse row => wfAniseRow row
  | .sessionIdleTimeout sess => wfSess nc sess
  | .lockoutEnd ap => wfAccessPoint ap
  | .jtagBypass => true
  | .jtagSamplePreload _ => true
  | .jtagExtest _ => true
  | .jtagTestLogicReset => true
  | .linkUp lane => wfEth nc lane.slot
  | .canReceiveError slot _ => wfCan nc slot
  | .miEdge input _ => wfMi input
  | .miDebounceExpiry input => wfMi input
  | .gptpIntervalExpiry slot _ => wfEth nc slot
  | .supervisorWatchdogRefresh => true
  | .appImageReloaded die => wfDie nc die
  | .wakePulseEnd slot => wfLin nc slot

end Sys2Proof
end

