-- ==== Sys2Proof/Safety.lean ====
section
/-! DEFINITION. What a safe step is, and the words that claims about commands use. -/

namespace Sys2Proof.Machine
open Sys2Proof

/-- The step at a state answers a next state. -/
def State.goesOn (s : State) : Prop := ∃ t, step s = .next t

/-- A command completes at a state, in a next state of which `P` holds. -/
def State.leads (s : State) (c : Instr) (P : State → Prop) : Prop := ∃ t, exec c s = .next t ∧ P t

/-- The output balls show what the state says (R286, R341). -/
def State.pinsFollow (s : State) : Prop := s.pins = s.pinsNow

/-- The power state at t1 of a cold start (R393). -/
def State.coldPower (s : State) (cause : Nat) (guardSupplied : Bool) : Power :=
  { s.power with mode := .starting, phase := .supplies, cause := cause, left := 3, inh := true, vsel := true, guardSupplied := guardSupplied, wakeSeen := false
                 wakePort := 0xFFFF, halted := false, target := 0, enabled := [], flash8D := false, noGuard := false }

/-- The power state at t1 of a return from mode `left` (1 LISTEN, 2 STANDBY), woken on port `port` (R389). -/
def State.returning (s : State) (left port : Nat) : Power :=
  { s.power with mode := .starting, phase := .supplies, cause := 2, left := left, inh := true, vsel := true, wakeSeen := true, wakePort := port }

/-- The event that two samples of a tamper loop which differ from the driven bit confirm: 1 open, 2 short, 3 mismatch (R384). -/
def State.tamperCode (s : State) (loop : Nat) (b : Bool) : Nat :=
  if b && (mget {} s.island.loops loop).lastB then 1 else if !b && !(mget {} s.island.loops loop).lastB then 2 else 3

/-- A session's write of an entry of `index` at a row is taken and acts: the access point serves, the request reaches its server, the entry stands there and may be
written, the session's level and the entry's die allow it, and the value has its type and range (R61, R63, R64, R66, R67). -/
def State.accepts (s : State) (sess idx sub row : Nat) (b : Bytes) : Bool :=
  s.hasSess sess && s.serves sess &&
  match odObject s.variant idx, odEntry s.variant (idx * 256 + sub) with
  | some o, some x =>
    s.reachStatus sess idx sub row o == 0 && !o.reserved sub && !s.writeClosed (idx * 256 + sub) x && decide (x.wl ≤ s.sessLevel sess) &&
      s.laneOk idx sub row && x.valueStatus s.variant b == 0
  | _, _ => false

/-- The same of an entry of an object without rows. -/
def State.takes (s : State) (sess e : Nat) (b : Bytes) : Bool := s.accepts sess (e / 256) (e % 256) (s.cursorRow sess (e / 256)) b

/-- The lock of the staging image is free or the session's own (R86). -/
def State.mayStage (s : State) (sess : Nat) : Bool := !s.committing && (s.lockHolder.isNone || s.lockHolder == some sess)

/-- The staging room suffices for the image with more values in it (R86). -/
def State.hasRoom (s : State) (l : List (Nat × Nat)) : Bool :=
  decide (({ s with od := { s.od with staging := l.foldl (fun m x => mput m x.1 x.2) s.od.staging } } : State).stagedBytes ≤ stagingRoom)

/-- A block download is under way. -/
def SdoTransfer.receiving : SdoTransfer → Bool
  | .blkDown _ _ _ _ _ _ _ => true
  | _ => false

/-- A register block of a queue pair, whose DISABLING has a command of its own (R417). -/
def BlockId.isQueue : BlockId → Bool
  | .qp _ => true
  | _ => false

/-- Application pairs and register blocks of the other dies are as they were. -/
def State.appsElse (t s : State) (d : Nat) : Prop := ∀ m, m ≠ d → t.app m = s.app m

/-- Interrupt controllers of the other dies are as they were. -/
def State.intcElse (t s : State) (d : Nat) : Prop := ∀ m k, m ≠ d → k < 2 → t.intcTarget m k = s.intcTarget m k

/-- The timers of a die but one are as they were. -/
def State.timersElse (t s : State) (d n : Nat) : Prop := ∀ k, k ≠ n → (t.app d).timer k = (s.app d).timer k

/-- The pins of a die but one are as they were. -/
def State.pinsElse (t s : State) (d n : Nat) : Prop := ∀ k, k ≠ n → (t.app d).pin k = (s.app d).pin k

/-- The queue pairs of a die but one, and every other die's, are as they were. -/
def State.qpsElse (t s : State) (d k : Nat) : Prop := ∀ m j, m ≠ d ∨ j ≠ k → t.qp m j = s.qp m j

/-- Sessions but one are as they were. -/
def State.sessElse (t s : State) (row : Nat) : Prop := ∀ k, k ≠ row → t.sess k = s.sess k

end Sys2Proof.Machine

namespace Sys2Proof

/-- A command on the Evidence port other than NOP (R344, R346). -/
def Instr.evidencePort : Instr → Bool
  | .evRead _ | .evMark | .evRewind | .evRelease | .evClear _ | .evFetchRecord _ | .evFetchSeal _ | .evReadFetch _ | .evAckFetch | .evSealNow | .evFill => true
  | _ => false

end Sys2Proof
end

