-- ==== Sys2Proof/Certificates/Slice0/Obligations.lean ====
section
/-! DEFINITION. The statements about the AZ8100 model.
`s.leads c P` says that `exec c s` answers a next state and that `P` holds of it: every statement of that form is a completion.
In a statement the equation `t = { s with ... }` is the frame: each field of the state that it does not list is unchanged.
`t.settle` and the fields `safe` and `pins` follow the state at the end of every command (R286, R341). -/

open Sys2Proof Sys2Proof.Machine

/-- The command at the front of the queue runs on the state with the rest of the queue (the block's form; no rule of the spec); with no command waiting one 25 ns period of REFCLK_IN passes, with or
without an edge of the RTC crystal in it, and nothing else changes (DESIGN CHOICE, logs 1 and 90). -/
def Obligations.StepRunsFrontCommand : Prop :=
  (∀ (c : Instr) (cs : List Instr) (s : State), s.pending = c :: cs → step s = exec c { s with pending := cs }) ∧
  (∀ s : State, s.pending = [] → step s = .next { s with clock := { s.clock with ticks := s.clock.ticks + 1, xrtc := s.clock.xrtc + (if Config.xrtcEdge s.clock.ticks then 1 else 0) } })

/-- Every command completes, whatever its operands, and none is refused; one that names a switch die, a port or an access point that the part does not have leaves
nothing but the balls and the state they follow (DESIGN CHOICE, log 6; an action that a session asks of an absent unit answers that session). -/
def Obligations.WellFormedCommandsComplete : Prop :=
  ∀ s : State, (∀ c : Instr, (∃ t, exec c s = .next t) ∧ (c.wf s.variant.nc = true → ∃ t, exec c s = .next t) ∧ ∀ r, exec c s ≠ .refused r) ∧
    (∀ (n : Nat) (rep : HealthReport) (a b : Nat) (f : Bool) (sr : ScrubResult) (w : Word) (way : BridgeWay), s.variant.hasDie n = false → ∀ c ∈ [Instr.switchDieSupplyTimeout n, .vcoreLow n, .vcoreRestored n, .vcoreBelowReset n, .bankClockFail n, .bankClockStable n, .healthReport n rep, .controlLinkSilent n, .controlLinkReset n,
      .stageStall n, .fabricCellReceive n a f, .keepAlive n a, .linkEndFail n a, .linkEndRecover n a, .portDequeue n a, .mdioOperationComplete n a f, .learnRequest n, .sweeperVisit n,
      .tunnelEngineTake n a, .tunnelDecapsulate n, .readmitImagesSent n f, .readmitSelfTestComplete n f, .runtimePairRestartComplete n, .tableScrub n a sr, .tableHalfRewrite n a,
      .tapValueReceive n, .tapIntervalEnd n a, .sysCtrlWrite n w, .sysWdtKick n w, .appWatchdogExpiry n, .appRestartDelayExpiry n, .interruptSourceFire n a b, .intcDoorbell n w,
      .intcRdoorbell n a w, .intcSetpend n a w, .intcClaim n, .intcComplete n w, .tmrCtrlWrite n a w, .timerExpiry n a, .tmrClaim n a b, .tmrRelease n a b, .pinClaim n a b, .pinRelease
      n a b, .pinsDoutWrite n a w, .mbxRead n f, .mbxWrite n f, .mailboxComplete n, .bridgeWindowRead n a b way, .bridgePostedWrite n a b w way, .bridgeFence n, .bridgePfclr n w,
      .bridgeSemRead n a b, .bridgeSemWrite n a b w, .bridgePostedFail n, .bridgeNackRetry n f, .bridgeResponseTimeout n, .semaphoreFailureRelease n a, .qpEnable n a, .qpDisable n a,
      .qpDisablingEnd n a, .qpRxadv n a w, .qpMark n a, .qpRewind n a, .qpRelease n a, .qpTxpush n a w, .qpTxItemTake n, .qpRxItemWrite n, .capRdcntWrite n w, .bitPlaneAliasWrite n a w,
      .lowWordRead n a b, .sysEccCorrRead n, .qpTxerrRead n a, .bridgeRetryRead n, .registerWrite n a w, .blockDisablingEnd n a, .registerParityMismatch n a, .appImageReloaded n],
      exec c s = .next s.settle) ∧
    (∀ (k : Nat) (fr : Frame) (a : Nat) (te : CanTxError) (f g : Bool) (y : Bytes) (lc : LinCheck) (ll : LaneLoss) (re : CanRxError) (gt : GptpTimer), s.variant.hasSlot k = false → ∀ c ∈ [Instr.canFrameReceive k fr, .canProtocolException k, .canBusIntegration k, .canTransmitComplete k a, .canArbitrationLost k, .canTransmitError k te, .busOffRestartTimeout k,
      .recoverySequenceComplete k, .linHeader k a f g, .linResponseReceive k a y lc, .linNoResponse k, .linScheduleSlot k, .linBusStuck k, .linBusRecover k, .ethFrameReceive k y f,
      .ethTransmitComplete k, .drainTimeout k, .holdTimeExpiry k, .sgmiiControlWord k f g a, .linkLoss k ll, .linkDownDelayExpiry k, .linkUpDelayExpiry k, .pauseTimerExpiry k a,
      .pauseWatchdogExpiry k a, .pausePenaltyEnd k a, .pauseRefresh k a, .configParityFault k, .wakePatternReport k a, .canWakeUpPattern k, .canDecoderFrame k fr f, .canRxdWake k,
      .linWakePulse k, .sdoDownloadInitiate k y, .sdoDownloadSegment k y, .sdoBlockDownload k y, .sdoUploadInitiate k y, .sdoUploadSegment k y, .sdoBlockUpload k y, .canReceiveError k
      re, .gptpIntervalExpiry k gt, .wakePulseEnd k],
      exec c s = .next s.settle) ∧
    (∀ (x : Nat) (a b : Nat) (y : Bytes), s.hasSess x = false → ∀ c ∈ [Instr.mdioC22Read x a, .mdioC22Write x a, .mdioC45Read x a, .mdioC45Write x a, .readmit x a, .safeRelease x a, .distanceReset x a b, .sealNowEntry x a, .journalAck x a,
      .lifecycleRequest x a, .lifecycleConfirm x y, .provisionBlob x y, .keyDerive x, .keyImport x, .keyInvalidate x, .keyErase x, .attestChallenge x y, .powerRequestListen x,
      .powerRequestStandby x, .appRestart x a b, .updateDeltaWrite x a y, .updateCheck x, .updateApply x, .updateStart x, .updateAbandon x, .updateReject x, .updateConfirm x a,
      .commitValidate x, .commitStart x, .commitDiscard x, .restoreDefaults x, .discardLockHolder x, .odEntryWrite x a b y, .odRelayResponse x, .rowAction x a b, .counterClear x a b,
      .canRecover x a b, .clearBlock x a, .fdbFlush x a, .rtcWrite x a, .sdoRequestLevel x a, .sdoClientNonce x y, .sdoProof x y, .sdoClose x a, .sessionIdleTimeout x],
      exec c s = .next s.settle)

/-- After every step from a state whose balls show what the state says, they show it again. EV_DAT is high exactly while D0 runs with the Evidence port on and unread words
exist, EV_HI exactly while the port is on and its watermark state is set (R339, R341), and SAFE_N is low exactly outside RUN, while RESET_N is low, until the start
configuration is applied, and while a fault class that drives it holds it low (R286, R287). -/
def Obligations.PinsFollowEveryStep : Prop :=
  ∀ s t : State, s.pinsFollow → step s = .next t → t.pinsFollow ∧
    (t.pins.evDat = true ↔ (t.power.mode = .run ∨ t.power.mode = .entering) ∧ t.cfg E.evidencePortEnable = 1 ∧ t.ev.readPos < t.ev.fifo.length) ∧
    (t.pins.evHi = true ↔ (t.power.mode = .run ∨ t.power.mode = .entering) ∧ t.cfg E.evidencePortEnable = 1 ∧ t.ev.hi = true) ∧
    (t.pins.safeLow = true ↔ t.power.resetN = false ∨ t.safe.applied = false ∨ t.safe.driven = true ∨ (t.power.mode ≠ .run ∧ t.power.mode ≠ .entering))

/-- A step takes one command off the front of the queue and adds none, and no command turns one part of the family into another (R1). -/
def Obligations.StepKeepsPartAndQueue : Prop :=
  ∀ s t : State, step s = .next t → t.pending = s.pending.tail ∧ t.variant = s.variant

/-- What reset leaves (R62, R286, R393, Tables 14-3, 14-5 and 14-7): power off and SAFE_N low, the balls following the state, every entry of the dictionary in use at its Default, no session, no staged value, no command waiting, and each register with a
stated reset value at it: SYS_ID names its die, six registers have another value than 0, and every other one reads 0. The variant of the part is the model's choice (log 2), and so is that application SRAM which nothing has written reads 0 (the last clause; DESIGN CHOICE, log 9). -/
def Obligations.ResetLeaves : Prop :=
  State.reset.pinsFollow ∧ State.reset.power.mode = .off ∧ State.reset.pins.safeLow = true ∧ State.reset.pending = [] ∧ State.reset.od.staging = [] ∧
  (∀ row, (State.reset.sess row).valid = false) ∧ (∀ e row, State.reset.cfgRow e row = odDefault State.reset.variant e) ∧
  ∀ d who k, State.reset.regPeek d 1 who .sysId = 0x81000041 + d * 4096 + State.reset.variant.nc * 256 ∧ State.reset.regPeek d 1 who .wdtTimeout = 1000 ∧
    State.reset.regPeek d 1 who .mbxCtrl = 1 ∧ State.reset.regPeek d 1 who .mbxRow = 0xFFFFFFFF ∧ State.reset.regPeek d 1 who .brCtrl = 1 ∧ State.reset.regPeek d 1 who .intcCtrl = 0 ∧
    State.reset.regPeek d 1 who (.qpCtrl k) = 0 ∧ State.reset.regPeek d 1 who (.qpCfg k 4) = 0xFFFF0000 ∧ State.reset.regPeek d 1 who (.qpCfg k 5) = 0xFFFF0000 ∧
    (∀ n m, ∀ r ∈ [Reg.sysCtrl, .sysStatus, .eccCorr, .eccAddr, .intcStatus, .thresh, .rmsg m, .pend n, .active n, .lost n, .enable n, .prio n, .ticksLo, .ticksHi, .tmrCtrl n,
      .tmrStatus n, .tmrLoad n, .tmrCount n, .tmrOwn n, .mbxStatus, .mbxIndex, .mbxLen, .mbxData n, .brStatus, .pfsrc, .lastTag, .errStat, .errAddr, .retry, .semRel, .pfNext, .sem n,
      .pfAddr n, .pfInfo n, .qpStatus k, .qpCfg k 0, .qpCfg k 1, .qpCfg k 2, .qpCfg k 3, .qpPos k m, .txWr k, .txTaken k, .txErr k, .capCtrl, .capStatus, .capWr, .capRd, .dout,
      .pinCtrl n, .pinStatus n, .pinOwn n], State.reset.regPeek d 1 who r = 0) ∧
    ∀ a, (State.reset.app d).word a = 0

/-- Evidence port commands on the stream (R341, R344, R346, Tables 11-5 and 11-6): STATUS and the data words leave, then READ, MARK, REWIND, CLEAR,
FILL and NOP act on the read position, the mark and the sticky bits: a word whose complement does not match, or whose opcode is unknown, sets CMD_ERR. A transaction of one
word of another command is that command where it takes no further word, and has no effect where its argument words are missing. Beyond Saffron's record, the doorbell of
EV_HI and the balls, nothing changes. -/
def Obligations.EvidencePortStream : Prop :=
  ∀ s : State, s.inRun = true → s.evPortOn = true →
    (∀ n, s.leads (.evRead n) (fun t =>
      t.ev = { s.ev with readPos := s.ev.readPos + min n s.ev.unread, underrun := s.ev.underrun || decide (s.ev.unread < n), hi := t.ev.hi } ∧
      (Out.evStatus s.evStatusWord (s.ev.readWords n) :: s.out) <:+ t.out ∧
      t = { s with ev := t.ev, safe := t.safe, dies := t.dies, intc := t.intc, pins := t.pins, out := t.out })) ∧
    s.leads .evMark (fun t => t.ev = { s.ev with markPos := s.ev.readPos, hi := t.ev.hi } ∧ (Out.evStatus s.evStatusWord [] :: s.out) <:+ t.out ∧
      t = { s with ev := t.ev, safe := t.safe, dies := t.dies, intc := t.intc, pins := t.pins, out := t.out }) ∧
    s.leads .evRewind (fun t => t.ev = { s.ev with readPos := s.ev.markPos, hi := t.ev.hi } ∧ (Out.evStatus s.evStatusWord [] :: s.out) <:+ t.out ∧
      t = { s with ev := t.ev, safe := t.safe, dies := t.dies, intc := t.intc, pins := t.pins, out := t.out }) ∧
    (∀ m, s.leads (.evClear m) (fun t =>
      t.ev = { s.ev with ovr := s.ev.ovr && !bitAt m 0, cmdErr := s.ev.cmdErr && !bitAt m 1, underrun := s.ev.underrun && !bitAt m 2,
                         fetchErr := s.ev.fetchErr && !bitAt m 3, hi := t.ev.hi } ∧
      (Out.evStatus s.evStatusWord [] :: s.out) <:+ t.out ∧
      t = { s with ev := t.ev, safe := t.safe, dies := t.dies, intc := t.intc, pins := t.pins, out := t.out })) ∧
    s.leads .evFill (fun t => t.ev = { s.ev with hi := t.ev.hi } ∧
      (Out.evStatus s.evStatusWord [BitVec.ofNat 32 (s.ev.held * 65536 + s.ev.unread)] :: s.out) <:+ t.out ∧
      t = { s with ev := t.ev, safe := t.safe, dies := t.dies, intc := t.intc, pins := t.pins, out := t.out }) ∧
    (∀ w, (evWordKnown w = false ∨ bitsOf w.toNat 31 24 = 1) → s.leads (.evNop w) (fun t => t.ev = { s.ev with cmdErr := s.ev.cmdErr || !evWordKnown w } ∧
      (Out.evStatus s.evStatusWord [] :: s.out) <:+ t.out ∧ t = { s with ev := t.ev, safe := t.safe, pins := t.pins, out := t.out })) ∧
    (∀ w, evWordKnown w = true → ∀ c ∈ [(3, Instr.evMark), (4, .evRewind), (5, .evRelease), (6, .evClear (bitsOf w.toNat 15 0)), (10, .evAckFetch), (11, .evSealNow)],
      bitsOf w.toNat 31 24 = c.1 → exec (.evNop w) s = exec c.2 s) ∧
    (∀ w, evWordKnown w = true → (bitsOf w.toNat 31 24 = 7 ∨ bitsOf w.toNat 31 24 = 8) → s.leads (.evNop w) (fun t =>
      t.ev = s.ev ∧ (Out.evStatus s.evStatusWord [] :: s.out) <:+ t.out ∧ t = { s with safe := t.safe, pins := t.pins, out := t.out }))

/-- Evidence port commands on items (R330, R332, R340, R346, R347): RELEASE frees the words before the read position, FETCH_RECORD and FETCH_SEAL discard the
fetch buffer and start a load, FETCH_COMPLETE ends it, READ_FETCH reads on in it, ACK_FETCH delivers its record, and SEAL_NOW asks for a seal with trigger 2. -/
def Obligations.EvidencePortItems : Prop :=
  ∀ s : State, s.inRun = true → s.evPortOn = true →
    s.leads .evRelease (fun t => t.ev.fifo = s.ev.fifo.drop s.ev.readPos ∧ t.ev.readPos = 0 ∧ t.ev.markPos = 0 ∧
      t.ev.journal = s.ev.release.journal ∧ t = { s with ev := t.ev, safe := t.safe, dies := t.dies, intc := t.intc, pins := t.pins, out := t.out }) ∧
    (∀ n, s.leads (.evFetchRecord n) (fun t =>
      t.ev = { s.ev with fetch := .loadingRecord n, fetchReady := false, fetchBuf := [], fetchPos := 0, fetchSeq := 0, hi := t.ev.hi } ∧
      t = { s with ev := t.ev, safe := t.safe, dies := t.dies, intc := t.intc, pins := t.pins, out := t.out })) ∧
    (∀ n, s.leads (.evFetchSeal n) (fun t =>
      t.ev = { s.ev with fetch := .loadingSeal n, fetchReady := false, fetchBuf := [], fetchPos := 0, fetchSeq := 0, hi := t.ev.hi } ∧
      t = { s with ev := t.ev, safe := t.safe, dies := t.dies, intc := t.intc, pins := t.pins, out := t.out })) ∧
    (∀ n b, s.ev.fetch = .loadingSeal n → s.ev.store.find? (fun x => x.1 == n) = some (n, b) → n ∉ s.ev.badSeals → s.leads .evFetchComplete (fun t =>
      t.ev = { s.ev with fetch := .idle, fetchReady := true, fetchBuf := toWords b, fetchPos := 0, fetchSeq := 0 } ∧
      t = { s with od := t.od, ev := t.ev, safe := t.safe, dies := t.dies, mram := t.mram, intc := t.intc, pins := t.pins, out := t.out })) ∧
    (∀ n j, s.ev.fetch = .loadingRecord n → s.ev.entry n = some j → j.intact = true → s.leads .evFetchComplete (fun t =>
      t.ev = { s.ev with fetch := .idle, fetchReady := true, fetchBuf := toWords j.bytes, fetchPos := 0, fetchSeq := n } ∧
      t = { s with od := t.od, ev := t.ev, safe := t.safe, dies := t.dies, mram := t.mram, intc := t.intc, pins := t.pins, out := t.out })) ∧
    (∀ n, s.ev.fetch = .loadingRecord n → s.ev.entry n = none → s.leads .evFetchComplete (fun t =>
      t.ev = { s.ev with fetch := .idle, fetchErr := true } ∧ t = { s with od := t.od, ev := t.ev, safe := t.safe, dies := t.dies, mram := t.mram, intc := t.intc, pins := t.pins, out := t.out })) ∧
    (∀ n, s.leads (.evReadFetch n) (fun t =>
      t.ev = { s.ev with fetchPos := s.ev.fetchPos + ((s.ev.fetchBuf.drop s.ev.fetchPos).take n).length, hi := t.ev.hi } ∧
      (∃ ws, (Out.evStatus s.evStatusWord ws :: s.out) <:+ t.out ∧ ws.length = n ∧ (s.ev.fetchBuf.drop s.ev.fetchPos).take n <+: ws) ∧
      t = { s with ev := t.ev, safe := t.safe, dies := t.dies, intc := t.intc, pins := t.pins, out := t.out })) ∧
    s.leads .evAckFetch (fun t => t.ev = { (if s.ev.fetchReady then s.ev.deliver s.ev.fetchSeq else s.ev) with hi := t.ev.hi } ∧
      t = { s with ev := t.ev, safe := t.safe, dies := t.dies, intc := t.intc, pins := t.pins, out := t.out }) ∧
    (s.ev.running = true → s.ev.activeTree = true → s.ev.spacing = false → s.ev.job = none → s.ev.due = [] → s.ev.nextSeal < sealNumbers →
      s.leads .evSealNow (fun t => ∃ j, t.ev.job = some j ∧ j.trigger = 2 ∧ j.lastSeq = s.ev.lastSeq ∧ j.chain = s.ev.h ∧
        t.ev.due = [] ∧ t.ev.spacing = true ∧ t.ev.lastSeq = s.ev.lastSeq ∧ t.ev.journal = s.ev.journal ∧ t = { s with od := t.od, ev := t.ev, safe := t.safe, dies := t.dies, mram := t.mram, intc := t.intc, pins := t.pins, out := t.out })) ∧
    (∀ n, s.ev.fetch = .loadingSeal n → (s.ev.store.find? (fun x => x.1 == n) = none ∨ n ∈ s.ev.badSeals) → s.leads .evFetchComplete (fun t =>
      t.ev = { s.ev with fetch := .idle, fetchErr := true } ∧ t = { s with od := t.od, ev := t.ev, safe := t.safe, dies := t.dies, mram := t.mram, intc := t.intc, pins := t.pins, out := t.out }))

/-- While the Evidence port is off, every command on it but NOP is ignored (R339): nothing but the STATUS word of its transaction leaves (R344). -/
def Obligations.EvidencePortOffIgnores : Prop :=
  ∀ (c : Instr) (s : State), c.evidencePort = true → s.evPortOn = false →
    s.leads c (fun t => t.out = (if s.inRun then [Out.evStatus s.evStatusWord []] else []) ++ s.out ∧ t = { s with safe := t.safe, pins := t.pins, out := t.out })

/-- RECORD_APPEND (R328): the request at the front of the append queue becomes the record after the last one: the chain value is the SHA-256 of the old value and
its 64 bytes, and the journal holds it, not yet delivered. LOSS_RANGE_TIMEOUT (R331) closes an open loss range with one record. -/
def Obligations.RecordsExtendChain : Prop :=
  ∀ s : State, s.ev.running = true →
    (∀ j, mfind s.ev.journal ((s.ev.lastSeq + 1) % 4096) = some j → j.delivered = true) →
    (∀ r rest, s.ev.queue = r :: rest → s.ev.lossCount = 0 → s.leads .recordAppend (fun t =>
      t.ev.lastSeq = s.ev.lastSeq + 1 ∧ t.ev.queue = rest ∧
      t.ev.h = Config.sha256 (bytes256 s.ev.h ++ recordBytes r s.ev.bootCount (s.ev.lastSeq + 1)) ∧
      mfind t.ev.journal ((s.ev.lastSeq + 1) % 4096) = some ⟨s.ev.lastSeq + 1, recordBytes r s.ev.bootCount (s.ev.lastSeq + 1), false, true, false⟩ ∧
      t = { s with od := t.od, ev := t.ev, safe := t.safe, dies := t.dies, mram := t.mram, intc := t.intc, pins := t.pins, out := t.out })) ∧
    (0 < s.ev.lossCount → s.leads .lossRangeTimeout (fun t =>
      t.ev.lossCount = 0 ∧ t.ev.lastSeq = s.ev.lastSeq + 1 ∧ t.ev.queue = s.ev.queue ∧ t = { s with od := t.od, ev := t.ev, safe := t.safe, dies := t.dies, mram := t.mram, intc := t.intc, pins := t.pins, out := t.out }))

/-- Seals (R332, R333, R337): a periodic expiry with nothing else due freezes a seal with trigger 0, or waits while the spacing lasts; the end of the spacing frees
the deferred triggers; a regenerated tree, whose signature by the top tree then stands in MRAM, becomes the active one, the next one only the next. A signed seal takes the next number, enters the store as the last of at most four, and covers the
records up to its own `lastSeq`. -/
def Obligations.SealsFollowTriggers : Prop :=
  ∀ s : State, s.ev.running = true →
    (s.ev.period = true → s.ev.due = [] → s.ev.job = none → s.ev.activeTree = true → s.ev.nextSeal < sealNumbers → s.ev.spacing = false →
      s.leads .sealPeriodExpiry (fun t => (∃ j, t.ev.job = some j ∧ j.trigger = 0 ∧ j.lastSeq = s.ev.lastSeq ∧ j.chain = s.ev.h) ∧
        t.ev.due = [] ∧ t.ev.spacing = true ∧ t.ev.period = true ∧ t = { s with od := t.od, ev := t.ev, safe := t.safe, dies := t.dies, mram := t.mram, intc := t.intc, pins := t.pins, out := t.out })) ∧
    (s.ev.period = true → s.ev.spacing = true → s.ev.due.all (· < 3) = true → s.leads .sealPeriodExpiry (fun t =>
        t.ev = { s.ev with period := false, due := s.ev.due ++ [0] } ∧ t = { s with od := t.od, ev := t.ev, safe := t.safe, dies := t.dies, mram := t.mram, intc := t.intc, pins := t.pins, out := t.out })) ∧
    (s.ev.spacing = true → s.ev.due = [] → s.leads .sealSpacingEnd (fun t => t.ev = { s.ev with spacing := false } ∧ t = { s with ev := t.ev, safe := t.safe, dies := t.dies, mram := t.mram, intc := t.intc, pins := t.pins, out := t.out })) ∧
    (∀ k, s.ev.spacing = true → s.ev.due = [k] → s.ev.job = none → s.ev.activeTree = true → s.ev.nextSeal < sealNumbers →
      s.leads .sealSpacingEnd (fun t => (∃ j, t.ev.job = some j ∧ j.trigger = k ∧ j.lastSeq = s.ev.lastSeq ∧ j.chain = s.ev.h) ∧ t.ev.due = [] ∧ t.ev.spacing = true ∧
        t = { s with ev := t.ev, safe := t.safe, dies := t.dies, mram := t.mram, intc := t.intc, pins := t.pins, out := t.out })) ∧
    (s.ev.startTree = false → s.ev.activeTree = true → s.leads .nextTreeReady (fun t =>
      t.ev = { (s.treeMade (s.ev.nextSeal / 32768 + 1)).ev with nextTree := true } ∧ (mfind t.ev.trees (s.ev.nextSeal / 32768 + 1)).isSome = true ∧ t = { s with ev := t.ev, safe := t.safe, dies := t.dies, mram := t.mram, intc := t.intc, pins := t.pins, out := t.out })) ∧
    (s.ev.startTree = true → s.ev.due = [] → s.leads .activeTreeReady (fun t =>
      t.ev = { (s.treeMade (s.ev.nextSeal / 32768)).ev with startTree := false, activeTree := true, nextTree := false } ∧ (mfind t.ev.trees (s.ev.nextSeal / 32768)).isSome = true ∧ t = { s with ev := t.ev, safe := t.safe, dies := t.dies, mram := t.mram, intc := t.intc, pins := t.pins, out := t.out })) ∧
    (∀ j, s.ev.job = some j → s.ev.activeTree = true → j.trigger < 3 → s.ev.due = [] → s.leads (.sealSigned .stored) (fun t =>
      t.ev.job = none ∧ t.ev.nextSeal = s.ev.nextSeal + 1 ∧ t.ev.lastSealNumber = s.ev.nextSeal ∧ t.ev.prevLastSeq = j.lastSeq ∧
      t.ev.store.getLast? = some (s.ev.nextSeal, s.sealBytes j s.ev.nextSeal) ∧
      (s.ev.store.length ≤ 4 → t.ev.store.length ≤ 4 ∧ t.ev.store.dropLast <:+ s.ev.store) ∧ t.ev.journal = s.ev.journal ∧ t.ev.lastSeq = s.ev.lastSeq ∧
      t = { s with od := t.od, ev := t.ev, safe := t.safe, mram := t.mram, intc := t.intc, pins := t.pins, out := t.out }))

/-- Evidence requests on their way to Saffron (R116, R324, R325): the request at the front of a die's lane 2 enters the append queue; what a coalescing table holds goes out
as far as there is room; a limiter whose interval ends with no event outstanding becomes quiet, and one with events outstanding sends their summary and runs on. -/
def Obligations.RequestsReachTheQueue : Prop :=
  ∀ s : State,
    (∀ n r rest, s.variant.hasDie n = true → (s.die n).lane2 = .ev r :: rest → s.linkTo n = true → s.ev.running = true → s.ev.queue.length < 256 →
      s.leads (.evidenceRequest n) (fun t => t.ev.queue = s.ev.queue ++ [s.received r] ∧ (t.die n).lane2 = rest ∧ t = { s with ev := t.ev, safe := t.safe, dies := t.dies, pins := t.pins })) ∧
    (s.ev.coal.overflow = 0 → s.ev.coal.entries.length + s.ev.queue.length ≤ 256 → s.leads (.coalesceTableSend 0) (fun t =>
      t.ev.queue = s.ev.queue ++ s.ev.coal.entries ∧ t.ev.coal = {} ∧ t = { s with ev := t.ev, safe := t.safe, dies := t.dies, pins := t.pins })) ∧
    (∀ n, n ≠ 0 → s.variant.hasDie n = true → (s.die n).coal.overflow = 0 → (s.die n).coal.entries.length + (s.die n).lane2.length ≤ Config.laneCapacity →
      s.leads (.coalesceTableSend n) (fun t => (t.die n).lane2 = (s.die n).lane2 ++ (s.die n).coal.entries.map .ev ∧ (t.die n).coal = {} ∧ t = { s with ev := t.ev, safe := t.safe, dies := t.dies, pins := t.pins })) ∧
    (∀ k, (s.limiter k).running = true → (s.limiter k).first = none → s.leads (.evidenceIntervalEnd k) (fun t => t.limiter k = {} ∧ t = { s with safe := t.safe, dies := t.dies, limiters := t.limiters, pins := t.pins })) ∧
    (∀ k r, (s.limiter k).running = true → (s.limiter k).first = some r → r.type ≠ 0x08 → (s.die (s.limiterDie k)).coal.idle = true → s.laneRoom (s.limiterDie k) = true →
      s.leads (.evidenceIntervalEnd k) (fun t => t.limiter k = { running := true } ∧
        (t.die (s.limiterDie k)).lane2 = (s.die (s.limiterDie k)).lane2 ++ [.ev { r with count := min 65535 (s.limiter k).outstanding }] ∧ t = { s with safe := t.safe, dies := t.dies, limiters := t.limiters, pins := t.pins }))

/-- A cold start (R393): POWER_ON from OFF and the release of RESET_N put the device at t1 of Table 13-4 with START cause 0 and 1, INH and VSEL active; the island holds a
POWER entry unless it is full. Asserting RESET_N holds the blocks in reset while INH stays active and the island and the RTC keep what they hold, and so do the fuses and the MRAM but for a store write (R92), an append (R328), a transition (R355) or a provisioning (R371) that is
cut off; of a transition some number of copies is burnt, and of the journal the append touches one entry. That the entry is type 0x1B with a mode before of 3 is log 19's reading, what a
cut append leaves log 99's, a cut store write log 30's, and a cut transition or provisioning log 44's and log 140's. -/
def Obligations.ColdStartBegins : Prop :=
  ∀ s : State,
    (s.power.mode = .off → s.leads .powerOn (fun t => t.power = { s.coldPower 0 false with vioM := false } ∧
      ((s.island.held.length < islandSize → ∃ x ∈ t.island.held, x.type = 0x1B ∧ x.unit = 0) ∧ t = { s with od := t.od, power := t.power, island := t.island, safe := t.safe, life := t.life, pins := t.pins }))) ∧
    (s.power.resetN = false → s.power.mode ≠ .off → s.leads .resetNRelease (fun t =>
      t.power = { s.coldPower 1 s.power.guardSupplied with resetN := true } ∧ t.jtag = {} ∧
      (s.island.held.length < islandSize → ∃ x ∈ t.island.held, x.type = 0x1B ∧ x.unit = 0) ∧ t = { s with od := t.od, power := t.power, island := t.island, safe := t.safe, dies := t.dies, jtag := t.jtag, pins := t.pins })) ∧
    (s.power.resetN = true → s.power.mode ≠ .off → s.leads .resetNAssert (fun t =>
      t.power = { s.coldPower 1 s.power.guardSupplied with resetN := false } ∧ t.pins.safeLow = true ∧ t.ev.running = false ∧ t.queues = [] ∧ t.sessions = [] ∧
      t.island = s.island ∧ (s.commit.phase ≠ .storing → s.ev.queue = [] → s.life.change = none → s.provisioning = false → t.mram = s.mram) ∧ (s.life.change = none → s.provisioning = false → t.fuses = s.fuses) ∧
      (∀ c, s.life.change = some c → s.provisioning = false → t.fuses ∈ [0, 1, 2, 3].map (s.fuses.transitionCut s.life.state c.target)) ∧ t.keys.records = s.keys.records ∧
      (s.ev.queue = [] → s.provisioning = false → t.ev.journal = s.ev.journal ∧ t.ev.lastSeq = s.ev.lastSeq) ∧
      (∀ k, k ≠ (s.ev.lastSeq + 1) % 4096 → s.provisioning = false → mfind t.ev.journal k = mfind s.ev.journal k) ∧
      t.clock = { s.clock with synced := false, gmOffset := 0, gmIdentity := 0 } ∧ t.update.images = s.update.images ∧ t.od.active = s.od.active ∧ t.pending = s.pending))

/-- Supplies (R392 to R394, R453): a fall of VAON takes the device to OFF from any mode, and the RTC is no longer valid; D0's supplies in range let the guard firmware
start; a switch die's supplies in range take it out of reset, and one that misses them 20 ms after t1, or loses them in RUN, is LOST. -/
def Obligations.SuppliesGovernDies : Prop :=
  ∀ s : State,
    (s.power.mode ≠ .off → s.leads .vaonLoss (fun t => t.power = { resetN := s.power.resetN } ∧ t.island = {} ∧ t.clock.rtcValid = false ∧ t.ev.running = false ∧
      (s.commit.phase ≠ .storing → s.ev.queue = [] → s.life.change = none → s.provisioning = false → t.mram = s.mram) ∧ (s.life.change = none → s.provisioning = false → t.fuses = s.fuses) ∧
      (s.ev.queue = [] → s.provisioning = false → t.ev.journal = s.ev.journal))) ∧
    (s.power.mode ≠ .off → s.leads (.supplyOutOfRange .vaon) (fun t => t.power = { resetN := s.power.resetN } ∧ t.island = {} ∧ t.clock.rtcValid = false)) ∧
    (s.power.inh = true → s.power.mode = .starting → s.leads (.suppliesInRange 0) (fun t =>
      t.power = { s.power with guardSupplied := true, vioM := true, phase := if s.power.phase = .supplies then .firmware else s.power.phase } ∧
      (s.power.guardSupplied = false → s.power.resetN = true → ∀ n ∈ s.dieList, (s.die n).supplied = true → (t.die n).inReset = false) ∧ t = { s with power := t.power, safe := t.safe, dies := t.dies, pins := t.pins })) ∧
    (∀ n, s.variant.hasDie n = true → s.power.inh = true → s.power.mode ≠ .standby → s.leads (.suppliesInRange n) (fun t =>
      t.die n = { s.die n with supplied := true, busUp := true, inReset := !(s.power.resetN && s.power.guardSupplied) } ∧ t = { s with power := t.power, safe := t.safe, dies := t.dies, pins := t.pins })) ∧
    (∀ n, s.variant.hasDie n = true → s.power.mode = .starting → s.power.resetN = true → (s.die n).supplied = false → s.lostDie n = false →
      s.leads (.switchDieSupplyTimeout n) (fun t => t.lostDie n = true ∧ t.safe.faultSeq = s.safe.faultSeq + 1 ∧ t = { s with od := t.od, lockHolder := t.lockHolder, commit := t.commit, ev := t.ev, safe := t.safe, dies := t.dies, queues := t.queues, bp := t.bp, links := t.links, ports := t.ports, sumac := t.sumac, intc := t.intc, apps := t.apps, tunnels := t.tunnels, creditDue := t.creditDue, pins := t.pins, out := t.out })) ∧
    (∀ n, s.variant.hasDie n = true → s.inRun = true → (s.die n).supplied = true → s.lostDie n = false →
      s.leads (.supplyOutOfRange (.vioBus n)) (fun t => t.lostDie n = true ∧ (t.die n).supplied = false ∧ (t.die n).image = false ∧ (t.die n).inReset = true))

/-- The start sequence (Table 13-4, R33, R389, R390, R447): the boot ROM takes the flash's images; guard firmware that verifies runs, resolves the life cycle, the store and
the configuration, and reaches t4, and without any the device does not start; the runtime image reaches every die that is supplied, and without one each is LOST (t5); tables and keys
applied reach t6, where the device is in RUN and the start configuration counts as applied. -/
def Obligations.StartReachesRun : Prop :=
  ∀ s : State, s.power.mode = .starting → s.power.resetN = true →
    (∀ flash, s.power.guardSupplied = true → (s.power.phase = .supplies ∨ s.power.phase = .firmware) → s.leads (.guardFirmwareVerified flash) (fun t =>
      t.update.images = (s.readFlash flash).update.images ∧
      (((((s.readFlash flash).applyingCut).trialAtStart).loadPart 0).loadedImage 0 = [] → t.power.phase = s.power.phase ∧ t.od.active = s.od.active ∧ t.ev.running = s.ev.running) ∧
      (((((s.readFlash flash).applyingCut).trialAtStart).loadPart 0).loadedImage 0 ≠ [] → t.power.phase = .images ∧ t.power.mode = .starting ∧ t.life.state = s.fuses.resolve.1 ∧
        t.life.agree = s.fuses.resolve.2.1 ∧ t.update.window = t.update.trial.isSome ∧ t.update.windowFrom = s.clock.ticks ∧
        t.od.active = ((((((((((s.readFlash flash).applyingCut).trialAtStart).loadPart 0).loadPart 1).loadPart 3).storeAtStart).migrate).readDefaults).trialSettings).startConfig.od.active) ∧
      t = { s with od := t.od, bankStore := t.bankStore, ev := t.ev, power := t.power, island := t.island, safe := t.safe, dies := t.dies, mram := t.mram, intc := t.intc, keys := t.keys, fuses := t.fuses, life := t.life, measure := t.measure, update := t.update, pins := t.pins, fresh := t.fresh, out := t.out })) ∧
    (s.power.phase = .images → (∀ n ∈ s.dieList, (s.die n).supplied = true ∨ s.lostDie n = true) → s.leads .switchImagesLoaded (fun t =>
      t.power = { s.power with phase := .tables } ∧
      (∀ n ∈ s.dieList, (s.die n).supplied = true → s.lostDie n = false → if (s.loadedImage 1).isEmpty then t.lostDie n = true
        else (t.die n).image = true ∧ (t.die n).runtimeUp = true ∧ (t.die n).inReset = false) ∧ t = { s with od := t.od, power := t.power, safe := t.safe, dies := t.dies, sumac := t.sumac, apps := t.apps, pins := t.pins, fresh := t.fresh })) ∧
    (s.power.phase = .tables → s.leads .tablesApplied (fun t => t.power.mode = .run ∧ t.power.idleFrom = s.clock.ticks ∧ t.safe.applied = !(s.loadedImage 1).isEmpty ∧
      t.st E.powerLastMode = s.power.left ∧ t = { s with od := t.od, sessions := t.sessions, lockHolder := t.lockHolder, commit := t.commit, ev := t.ev, power := t.power, safe := t.safe, dies := t.dies, queues := t.queues, bp := t.bp, policers := t.policers, credits := t.credits, markers := t.markers, ports := t.ports, mram := t.mram, sumac := t.sumac, intc := t.intc, apps := t.apps, tunnels := t.tunnels, creditDue := t.creditDue, keys := t.keys, fuses := t.fuses, life := t.life, update := t.update, nextFid := t.nextFid, pins := t.pins, out := t.out }))

/-- Leaving RUN (R378, R379, Table 13-2): at the end of a second the idle device enters its automatic mode; with every port disabled, t1 writes the distances and freshness values
to MRAM; t2, which waits for the entry's seal while Saffron can issue one, is LISTEN, with INH active, or STANDBY, with INH inactive. MRAM, keys, fuses and evidence last. -/
def Obligations.PowerModesAreEntered : Prop :=
  ∀ s : State,
    (s.inRun = true → s.cfgOn E.powerAutoSleep = true → s.requestStatus = 0 → s.cfg E.powerIdleTime * 40000000 ≤ s.clock.ticks - s.power.idleFrom →
      s.leads .autoSleepCheck (fun t => t.power.mode = .entering ∧ t.power.target = s.cfg E.powerAutoSleepMode ∧ t.power.halted = false ∧ t = { s with od := t.od, power := t.power, safe := t.safe, dies := t.dies, queues := t.queues, bp := t.bp, policers := t.policers, credits := t.credits, ports := t.ports, intc := t.intc, creditDue := t.creditDue, nextFid := t.nextFid, pins := t.pins, out := t.out })) ∧
    (s.power.mode = .entering → s.power.halted = false → s.power.target < 3 → (∀ p ∈ s.slotList.filter s.portRuns, s.portState p = 0) →
      s.leads .powerEntryPortsDisabled (fun t => t.power = { s.power with halted := true } ∧ t.mram.latest = s.fresh64 ∧ t.mram.spdRtc = s.rtc ∧
        (∀ k, k < 4 → mget 0 t.mram.spdCounts k = (s.spd k).count ∧ bitAt t.mram.spdReversed k = (s.spd k).reversed) ∧
        t = { s with od := t.od, ev := t.ev, power := t.power, island := t.island, safe := t.safe, dies := t.dies, mram := t.mram, intc := t.intc, pins := t.pins, out := t.out })) ∧
    (s.power.mode = .entering → s.power.halted = true → s.sealAwaited = true → s.leads .powerEntryComplete (fun t => t = { s with safe := t.safe, pins := t.pins })) ∧
    (s.power.mode = .entering → s.power.halted = true → s.sealAwaited = false → s.ev.queue = [] → s.ev.coal = {} → (s.power.target = 1 ∨ s.power.target = 2) → s.leads .powerEntryComplete (fun t =>
      (s.power.target = 1 → t.power = { s.power with mode := .listen, vsel := false, halted := false }) ∧
      (s.power.target = 2 → t.power = { s.power with mode := .standby, inh := false, vsel := false, guardSupplied := false, vioM := false, flash8D := false, noGuard := false, halted := false }) ∧
      t.ev.running = false ∧ t.mram = s.mram ∧ t.fuses = s.fuses ∧ t.keys.records = s.keys.records ∧ t.ev.journal = s.ev.journal ∧ t.bankStore = s.bankStore ∧
      t.od.active = s.od.active ∧ t.pins.safeLow = true))

/-- A wake event (R380 to R386, R388, Table 13-3): in STANDBY the pattern, the edge of RXD, the wake-up frame, a WK edge, the RTC alarm, the RTC period and a confirmed
tamper event (R384: open, short or mismatch, counted, and held in the island) start the return to RUN with START cause 2; a LIN pulse, a wake-pattern report and a new digital
value of an input in the wake mask (R383) start it from LISTEN. -/
def Obligations.WakeEventsStartTheReturn : Prop :=
  ∀ s : State,
    (s.power.mode = .standby →
      (∀ k, s.variant.hasSlot k = true → isCan k = true → s.decoderMode k = 2 → s.leads (.canWakeUpPattern k) (fun t => t.power = s.returning 2 k ∧ t = { s with od := t.od, ev := t.ev, power := t.power, island := t.island, safe := t.safe, dies := t.dies, queues := t.queues, ports := t.ports, pins := t.pins, out := t.out })) ∧
      (∀ k, s.variant.hasSlot k = true → isCan k = true → s.decoderMode k = 1 → s.leads (.canRxdWake k) (fun t => t.power = s.returning 2 k ∧ t = { s with od := t.od, ev := t.ev, power := t.power, island := t.island, safe := t.safe, dies := t.dies, queues := t.queues, ports := t.ports, pins := t.pins, out := t.out })) ∧
      (∀ k f, s.variant.hasSlot k = true → isCan k = true → s.decoderMode k = 3 → f.fmt = .cc → s.wakeFrameFits k f = true →
        s.leads (.canDecoderFrame k f false) (fun t => t.power = s.returning 2 k ∧ t = { s with od := t.od, ev := t.ev, power := t.power, island := t.island, safe := t.safe, dies := t.dies, queues := t.queues, ports := t.ports, pins := t.pins, out := t.out })) ∧
      (∀ i r, i < 8 → bitAt (s.cfg E.wkEdges) (2 * i + (if r then 0 else 1)) = true → s.leads (.wkEdge i r) (fun t => t.power = s.returning 2 0xFFFF ∧ t = { s with od := t.od, ev := t.ev, power := t.power, island := t.island, safe := t.safe, dies := t.dies, queues := t.queues, ports := t.ports, pins := t.pins, out := t.out })) ∧
      (s.clock.rtcValid = true → s.cfg E.powerRtcAlarm ≠ 0 → s.leads .rtcAlarm (fun t => t.power = s.returning 2 0xFFFF ∧ t.cfg E.powerRtcAlarm = 0 ∧ t = { s with od := t.od, ev := t.ev, power := t.power, island := t.island, safe := t.safe, dies := t.dies, queues := t.queues, ports := t.ports, pins := t.pins, out := t.out })) ∧
      (s.clock.rtcValid = true → s.cfg E.powerRtcPeriod ≠ 0 → s.leads .rtcPeriod (fun t => t.power = s.returning 2 0xFFFF ∧ t = { s with od := t.od, ev := t.ev, power := t.power, island := t.island, safe := t.safe, dies := t.dies, queues := t.queues, ports := t.ports, pins := t.pins, out := t.out }))) ∧
    (s.power.mode = .listen →
      (∀ k, s.variant.hasSlot k = true → isLin k = true → s.dieRuns (slotDie k) = true → s.cfgRowOn E.pwrValid k = true → s.cfgRowOn E.linWakeDetect k = true →
        s.leads (.linWakePulse k) (fun t => t.power = s.returning 1 k ∧ t = { s with od := t.od, ev := t.ev, power := t.power, island := t.island, safe := t.safe, dies := t.dies, queues := t.queues, ports := t.ports, pins := t.pins, out := t.out })) ∧
      (∀ k p, s.variant.hasSlot k = true → (k, p) ∈ (s.die (slotDie k)).wakeReports → s.leads (.wakePatternReport k p) (fun t =>
        t.power = s.returning 1 k ∧ (t.die (slotDie k)).wakeReports = (s.die (slotDie k)).wakeReports.erase (k, p) ∧ t = { s with od := t.od, ev := t.ev, power := t.power, island := t.island, safe := t.safe, dies := t.dies, queues := t.queues, ports := t.ports, pins := t.pins, out := t.out }))) ∧
    (∀ k b, s.power.mode = .standby → k < 2 → bitAt (s.cfg E.tamperEnable) k = true → s.cfgOn E.tamperWake = true → (mget {} s.island.loops k).lastMatch = false →
      (mget {} s.island.loops k).state = 0 → b ≠ Config.tamperBit s.island.tamperSeed s.island.tamperIndex → s.leads (.tamperSample k b) (fun t =>
        t.power = s.returning 2 0xFFFF ∧ (mget {} t.island.loops k).state = s.tamperCode k b ∧ t.st E.tamperCntEvents = (s.count E.tamperCntEvents).st E.tamperCntEvents ∧
        (s.ev.running = false → s.island.held.length < islandSize → ∃ x ∈ t.island.held, x.type = 0x1C ∧ x.unit = k) ∧ t = { s with od := t.od, ev := t.ev, power := t.power, island := t.island, safe := t.safe, dies := t.dies, queues := t.queues, ports := t.ports, intc := t.intc, pins := t.pins, out := t.out })) ∧
    (∀ i, s.power.mode = .listen → i < 16 → s.cfgMi E.miMode i = 2 → (s.mi i).debounce = true → (s.mi i).has = true → bitAt (s.cfg E.powerMiWakeMask) i = true →
      s.stSlot E.miValue i ≠ encodeF32 (Exact.ofNat (if (s.mi i).level then 1 else 0)) → s.leads (.miDebounceExpiry i) (fun t =>
        t.power = s.returning 1 0xFFFF ∧ t.stSlot E.miValue i = encodeF32 (Exact.ofNat (if (s.mi i).level then 1 else 0)) ∧ (t.mi i).debounce = false ∧ t = { s with od := t.od, ev := t.ev, power := t.power, island := t.island, safe := t.safe, dies := t.dies, queues := t.queues, ports := t.ports, mram := t.mram, intc := t.intc, measure := t.measure, pins := t.pins, out := t.out }))

/-- The always-on island (R384, R388, R391): a tamper loop whose level matches the driven bit twice in a row with no event in force changes nothing but its own samples; two
samples in a row that differ confirm an event, by both levels, which shows in the loop's state, counts, appends its record and rings doorbell 68 of the switch dies; two that match after an
event end it. Calibration of the delay line is remembered; a wake pulse that has ended on a LIN port lets it go on, a commander after its delay. -/
def Obligations.IslandSamplesLoops : Prop :=
  ∀ s : State, s.power.mode ≠ .off →
    (∀ k, k < 2 → bitAt (s.cfg E.tamperEnable) k = true → mget {} s.island.loops k = {} →
      s.leads (.tamperSample k (Config.tamperBit s.island.tamperSeed s.island.tamperIndex)) (fun t => t.island.tamperIndex = s.island.tamperIndex + 1 ∧
        (mget {} t.island.loops k).state = 0 ∧ (mget {} t.island.loops k).lastMatch = true ∧ t.island.held = s.island.held ∧
        t = { s with safe := t.safe, island := t.island, pins := t.pins })) ∧
    s.leads .delayLineCalibration (fun t => t.island = { s.island with calibratedAt := s.clock.xrtc } ∧ t = { s with island := t.island, safe := t.safe, pins := t.pins }) ∧
    (∀ k b, s.power.mode = .run → k < 2 → bitAt (s.cfg E.tamperEnable) k = true → (mget {} s.island.loops k).lastMatch = false → (mget {} s.island.loops k).state = 0 →
      b ≠ Config.tamperBit s.island.tamperSeed s.island.tamperIndex → s.leads (.tamperSample k b) (fun t =>
        (mget {} t.island.loops k).state = s.tamperCode k b ∧ t.st E.tamperCntEvents = (s.count E.tamperCntEvents).st E.tamperCntEvents ∧
        (s.ev.running = true → s.ev.coal = {} → s.ev.queue.length < 256 → ∃ r ∈ t.ev.queue, r.type = 0x1C ∧ r.unit = k ∧ r.payload.head? = some (BitVec.ofNat 8 (s.tamperCode k b))) ∧
        (∀ n ∈ s.dieList, s.dieRuns n = true → (s.die n).state ≠ 3 → Out.doorbell n 68 ∈ t.out) ∧ t = { s with od := t.od, ev := t.ev, power := t.power, island := t.island, safe := t.safe, dies := t.dies, queues := t.queues, ports := t.ports, intc := t.intc, pins := t.pins, out := t.out })) ∧
    (∀ k, s.power.mode = .run → k < 2 → bitAt (s.cfg E.tamperEnable) k = true → (mget {} s.island.loops k).lastMatch = true → (mget {} s.island.loops k).state ≠ 0 →
      s.leads (.tamperSample k (Config.tamperBit s.island.tamperSeed s.island.tamperIndex)) (fun t => (mget {} t.island.loops k).state = 0 ∧
        t.st E.tamperCntEvents = (s.count E.tamperCntEvents).st E.tamperCntEvents ∧ (∀ n ∈ s.dieList, s.dieRuns n = true → (s.die n).state ≠ 3 → Out.doorbell n 68 ∈ t.out) ∧
        t = { s with od := t.od, ev := t.ev, power := t.power, island := t.island, safe := t.safe, dies := t.dies, queues := t.queues, ports := t.ports, intc := t.intc, pins := t.pins, out := t.out })) ∧
    (∀ k, s.variant.hasSlot k = true → isLin k = true → s.linOnBus k = true → (s.port k).pulse = true → s.leads (.wakePulseEnd k) (fun t => (t.port k).pulse = false ∧
      (t.port k).scheduleDelayed = decide (s.cfgSlot E.portLinRole k = 0) ∧ (∀ j, j ≠ k → t.port j = s.port j) ∧ t = { s with safe := t.safe, ports := t.ports, pins := t.pins }))

/-- The supervisor (R289): its watchdog's expiry is one fault of class 0x10 and starts its restart; a refresh ends both; no refresh within 50 ms resets the security
core, which ends every session, stops Saffron and sets a running commit idle; its restart brings the core back. Class 0x0F or 0x14 not recovered after 1 s drives SAFE_N low (R287). -/
def Obligations.SupervisorGuardsSecurityCore : Prop :=
  ∀ s : State, s.inRun = true →
    (s.safe.supervisorStopped = false → s.leads .supervisorWatchdogExpiry (fun t => t.safe.supervisorStopped = true ∧ t.safe.supervisorRestarting = true ∧
      t.safe.faultSeq = s.safe.faultSeq + 1 ∧ t = { s with od := t.od, ev := t.ev, safe := t.safe, dies := t.dies, sumac := t.sumac, intc := t.intc, pins := t.pins, out := t.out })) ∧
    s.leads .supervisorWatchdogRefresh (fun t => t.safe.supervisorStopped = false ∧ t.safe.supervisorRestarting = false ∧ t.safe.refreshedAt = s.clock.ticks ∧
      t.safe.faultSeq = s.safe.faultSeq ∧ t = { s with od := t.od, safe := t.safe, sumac := t.sumac, pins := t.pins }) ∧
    (s.safe.supervisorRestarting = true → s.safe.securityDown = false → s.leads .supervisorRefreshTimeout (fun t => t.safe.securityDown = true ∧
      t.safe.supervisorRestarting = false ∧ t.ev.running = false ∧ (∀ r, r < 5 → (t.sess r).valid = false) ∧ t.commit.phase = .idle ∧ t.safe.faultSeq = s.safe.faultSeq + 1 ∧ t = { s with od := t.od, sessions := t.sessions, lockHolder := t.lockHolder, commit := t.commit, sdo := t.sdo, ev := t.ev, safe := t.safe, dies := t.dies, sumac := t.sumac, intc := t.intc, life := t.life, pins := t.pins, out := t.out })) ∧
    (s.safe.securityDown = true → s.leads .securityCoreRestartComplete (fun t => t.safe.securityDown = false ∧ t = { s with od := t.od, sessions := t.sessions, lockHolder := t.lockHolder, commit := t.commit, ev := t.ev, power := t.power, island := t.island, safe := t.safe, dies := t.dies, queues := t.queues, bp := t.bp, policers := t.policers, credits := t.credits, ports := t.ports, mram := t.mram, sumac := t.sumac, intc := t.intc, apps := t.apps, creditDue := t.creditDue, keys := t.keys, fuses := t.fuses, life := t.life, update := t.update, nextFid := t.nextFid, pins := t.pins, out := t.out })) ∧
    (∀ cls, (cls = 0x0F ∨ cls = 0x14) → s.condHolds cls = true → s.leads (.safeNRecoveryTimeout cls) (fun t => t.safe.driven = true ∧ cls ∈ t.safe.conds ∧
      t.pins.safeLow = true ∧ t = { s with safe := t.safe, pins := t.pins }))

/-- A switch die that stops (R276, R277, R49): a silent die that was OK or DEGRADED is ISOLATED, while a link end of it still works; a reset of its control link lets it leave at its next report; a
stall, or VCORE below the reset threshold, makes it LOST, and everything it held is gone: its image, its queues, its lane 2, its learning requests, forwarding database, tap values and
management operations. Each is logged as one fault and counts once in the health map's generation. -/
def Obligations.SilentAndFailedDies : Prop :=
  ∀ (s : State) (n : Nat), s.variant.hasDie n = true → s.inRun = true →
    (s.healthy n = true → s.linksGone n = false → s.leads (.controlLinkSilent n) (fun t => (t.die n).state = 3 ∧ t.safe.faultSeq = s.safe.faultSeq + 1 ∧
      t.st E.placementHealthGeneration = (s.count E.placementHealthGeneration).st E.placementHealthGeneration ∧ t = { s with od := t.od, lockHolder := t.lockHolder, commit := t.commit, ev := t.ev, safe := t.safe, dies := t.dies, queues := t.queues, bp := t.bp, links := t.links, ports := t.ports, sumac := t.sumac, intc := t.intc, apps := t.apps, tunnels := t.tunnels, creditDue := t.creditDue, pins := t.pins, out := t.out })) ∧
    ((s.die n).state = 3 → s.leads (.controlLinkReset n) (fun t => t.die n = { s.die n with linkReset := true } ∧ t = { s with safe := t.safe, dies := t.dies, pins := t.pins })) ∧
    (s.dieRuns n = true → s.leads (.stageStall n) (fun t => (t.die n).state = 4 ∧ (t.die n).image = false ∧ (t.die n).runtimeUp = false ∧ (t.die n).fdb = [] ∧
      (t.die n).lane2 = [] ∧ (t.die n).learnQ = [] ∧ (t.die n).held = [] ∧ (t.die n).taps = [] ∧ (t.die n).mdio = [] ∧
      (∀ p ∈ t.queues, rowDie p.1 ≠ n) ∧ t.st E.placementHealthGeneration = (s.count E.placementHealthGeneration).st E.placementHealthGeneration ∧ t.safe.faultSeq = s.safe.faultSeq + 1 ∧ t = { s with od := t.od, lockHolder := t.lockHolder, commit := t.commit, ev := t.ev, safe := t.safe, dies := t.dies, queues := t.queues, bp := t.bp, links := t.links, ports := t.ports, sumac := t.sumac, intc := t.intc, apps := t.apps, tunnels := t.tunnels, creditDue := t.creditDue, pins := t.pins, out := t.out })) ∧
    (s.power.inh = true → s.power.resetN = true → s.power.guardSupplied = true → s.lostDie n = false → s.leads (.vcoreBelowReset n) (fun t => (t.die n).state = 4 ∧ (t.die n).image = false ∧ (t.die n).inReset = true ∧ (t.die n).fdb = [] ∧
      (t.die n).lane2 = [] ∧ (t.die n).learnQ = [] ∧ (t.die n).held = [] ∧ (t.die n).taps = [] ∧ (t.die n).mdio = [] ∧
      (∀ p ∈ t.queues, rowDie p.1 ≠ n) ∧ t.st E.placementHealthGeneration = (s.count E.placementHealthGeneration).st E.placementHealthGeneration ∧ t.safe.faultSeq = s.safe.faultSeq + 1 ∧ t = { s with od := t.od, lockHolder := t.lockHolder, commit := t.commit, ev := t.ev, safe := t.safe, dies := t.dies, queues := t.queues, bp := t.bp, links := t.links, ports := t.ports, sumac := t.sumac, intc := t.intc, apps := t.apps, tunnels := t.tunnels, creditDue := t.creditDue, pins := t.pins, out := t.out }))

/-- Conditions that degrade a die (R49, R110, R276, R278): low VCORE and a stopped bank clock come into force with one logged fault and end when the supply or the clock is
back; a report clears a class, and the first one after a link reset takes an ISOLATED die to the state that its causes imply; a masked class of a fault (0x01, 0x08, 0x11,
0x12) only counts, in the running interval of the summary too, and logs no fault of its own; a detected one is a row of the fault log with its class, die and unit, shown for classes 0x06, 0x07, 0x0A,
0x0F, 0x10, 0x13 and 0x15. That class 0x13 names die 0 and unit 0xFFFF is log 73's reading. -/
def Obligations.DegradingConditions : Prop :=
  ∀ (s : State) (n : Nat), s.variant.hasDie n = true → s.inRun = true → s.dieRuns n = true →
    ((s.die n).vcoreLow = false → (s.die n).state ≠ 3 → s.leads (.vcoreLow n) (fun t => (t.die n).vcoreLow = true ∧ 0x0C ∈ (t.die n).causes ∧ t.safe.faultSeq = s.safe.faultSeq + 1 ∧ t = { s with od := t.od, ev := t.ev, safe := t.safe, dies := t.dies, sumac := t.sumac, intc := t.intc, pins := t.pins, out := t.out })) ∧
    s.leads (.vcoreRestored n) (fun t => (t.die n).vcoreLow = false ∧ 0x0C ∉ (t.die n).causes ∧ t.safe.faultSeq = s.safe.faultSeq ∧ t = { s with od := t.od, safe := t.safe, dies := t.dies, sumac := t.sumac, pins := t.pins }) ∧
    ((s.die n).vcoreLow = false → (s.die n).state = 3 → s.leads (.vcoreLow n) (fun t => (t.die n).vcoreLow = true ∧ 0x0C ∈ (t.die n).causes ∧
      (t.die n).lane0 = (s.die n).lane0 ++ [(0x0C, 0xFFFF)] ∧ t.safe.faultSeq = s.safe.faultSeq ∧ t.od = s.od ∧ t = { s with od := t.od, ev := t.ev, safe := t.safe, dies := t.dies, sumac := t.sumac, intc := t.intc, pins := t.pins, out := t.out })) ∧
    ((s.die n).clockOk = true → (s.die n).state ≠ 3 → s.leads (.bankClockFail n) (fun t => (t.die n).clockOk = false ∧ 0x0D ∈ (t.die n).causes ∧ t.safe.faultSeq = s.safe.faultSeq + 1 ∧ t = { s with od := t.od, ev := t.ev, safe := t.safe, dies := t.dies, queues := t.queues, bp := t.bp, policers := t.policers, credits := t.credits, ports := t.ports, sumac := t.sumac, intc := t.intc, creditDue := t.creditDue, nextFid := t.nextFid, pins := t.pins, out := t.out })) ∧
    ((s.die n).clockOk = false → s.leads (.bankClockStable n) (fun t => (t.die n).clockOk = true ∧ 0x0D ∉ (t.die n).causes ∧ t = { s with od := t.od, safe := t.safe, dies := t.dies, queues := t.queues, bp := t.bp, policers := t.policers, credits := t.credits, ports := t.ports, sumac := t.sumac, creditDue := t.creditDue, nextFid := t.nextFid, pins := t.pins, out := t.out })) ∧
    ((s.die n).state ≠ 3 → s.leads (.healthReport n (.cleared 0x0C)) (fun t => (t.die n).vcoreLow = false ∧ 0x0C ∉ (t.die n).causes ∧
      (t.die n).lastHeld = (s.die n).heldEvents ∧ t.safe.faultSeq = s.safe.faultSeq ∧ t = { s with od := t.od, sessions := t.sessions, lockHolder := t.lockHolder, commit := t.commit, sdo := t.sdo, ev := t.ev, safe := t.safe, dies := t.dies, queues := t.queues, bp := t.bp, policers := t.policers, credits := t.credits, links := t.links, ports := t.ports, mram := t.mram, sumac := t.sumac, intc := t.intc, apps := t.apps, tunnels := t.tunnels, creditDue := t.creditDue, keys := t.keys, life := t.life, update := t.update, nextFid := t.nextFid, pins := t.pins, fresh := t.fresh, out := t.out })) ∧
    ((s.die n).state = 3 → (s.die n).linkReset = true → s.leads (.healthReport n .alive) (fun t => (t.die n).state = (s.die n).implied ∧ (t.die n).linkReset = false ∧ (t.die n).lane0 = [] ∧
      (t.die n).lastHeld = (s.die n).heldEvents ∧ t.safe.faultSeq = s.safe.faultSeq + ((s.die n).lane0.filter (fun x => !maskedClass x.1)).length ∧ t = { s with od := t.od, sessions := t.sessions, lockHolder := t.lockHolder, commit := t.commit, sdo := t.sdo, ev := t.ev, safe := t.safe, dies := t.dies, queues := t.queues, bp := t.bp, policers := t.policers, credits := t.credits, links := t.links, ports := t.ports, mram := t.mram, sumac := t.sumac, intc := t.intc, apps := t.apps, tunnels := t.tunnels, creditDue := t.creditDue, keys := t.keys, life := t.life, update := t.update, nextFid := t.nextFid, pins := t.pins, fresh := t.fresh, out := t.out })) ∧
    (∀ cls unit, cls ∈ [0x01, 0x08, 0x11, 0x12] → (s.die n).state ≠ 3 → s.leads (.faultDetected cls n unit) (fun t => t.safe.faultSeq = s.safe.faultSeq ∧ t.dies = s.dies ∧
      t.st (E.faultCntClass + (cls - 1)) = (s.count (E.faultCntClass + (cls - 1))).st (E.faultCntClass + (cls - 1)) ∧ t.safe.summaryRunning = true ∧
      (s.safe.summaryRunning = true → t.safe.summarySum = s.safe.summarySum + 1) ∧ t = { s with od := t.od, sessions := t.sessions, lockHolder := t.lockHolder, commit := t.commit, sdo := t.sdo, ev := t.ev, safe := t.safe, dies := t.dies, queues := t.queues, bp := t.bp, policers := t.policers, credits := t.credits, links := t.links, ports := t.ports, mram := t.mram, sumac := t.sumac, intc := t.intc, apps := t.apps, tunnels := t.tunnels, creditDue := t.creditDue, keys := t.keys, life := t.life, update := t.update, nextFid := t.nextFid, pins := t.pins, fresh := t.fresh, out := t.out })) ∧
    (∀ unit, s.leads (.faultDetected 0x13 n unit) (fun t => t.safe.faultSeq = s.safe.faultSeq + 1 ∧ t.stRow E.faultValid (s.safe.faultSeq % 64) = 1 ∧
      t.stRow E.faultClass (s.safe.faultSeq % 64) = 0x13 ∧ t.stRow E.faultDie (s.safe.faultSeq % 64) = 0 ∧ t.stRow E.faultUnit (s.safe.faultSeq % 64) = 0xFFFF ∧
      t = { s with od := t.od, sessions := t.sessions, lockHolder := t.lockHolder, commit := t.commit, sdo := t.sdo, ev := t.ev, safe := t.safe, dies := t.dies, queues := t.queues, bp := t.bp, policers := t.policers, credits := t.credits, links := t.links, ports := t.ports, mram := t.mram, sumac := t.sumac, intc := t.intc, apps := t.apps, tunnels := t.tunnels, creditDue := t.creditDue, keys := t.keys, life := t.life, update := t.update, nextFid := t.nextFid, pins := t.pins, fresh := t.fresh, out := t.out })) ∧
    (∀ cls unit, cls ∈ [0x06, 0x07, 0x0A] → s.healthy n = true → s.linksGone n = false → (s.die n).runtimeUp = true → (s.app n).running = true →
      s.leads (.faultDetected cls n unit) (fun t => t.safe.faultSeq = s.safe.faultSeq + 1 ∧ t.stRow E.faultValid (s.safe.faultSeq % 64) = 1 ∧
        t.stRow E.faultClass (s.safe.faultSeq % 64) = cls ∧ t.stRow E.faultDie (s.safe.faultSeq % 64) = n ∧ t = { s with od := t.od, sessions := t.sessions, lockHolder := t.lockHolder, commit := t.commit, sdo := t.sdo, ev := t.ev, safe := t.safe, dies := t.dies, queues := t.queues, bp := t.bp, policers := t.policers, credits := t.credits, links := t.links, ports := t.ports, mram := t.mram, sumac := t.sumac, intc := t.intc, apps := t.apps, tunnels := t.tunnels, creditDue := t.creditDue, keys := t.keys, life := t.life, update := t.update, nextFid := t.nextFid, pins := t.pins, fresh := t.fresh, out := t.out })) ∧
    (∀ cls unit, cls ∈ [0x0F, 0x10, 0x15] → s.safe.securityDown = false → s.safe.supervisorStopped = false → s.leads (.faultDetected cls n unit) (fun t =>
      t.safe.faultSeq = s.safe.faultSeq + 1 ∧ t.stRow E.faultValid (s.safe.faultSeq % 64) = 1 ∧ t.stRow E.faultClass (s.safe.faultSeq % 64) = cls ∧
      t.stRow E.faultDie (s.safe.faultSeq % 64) = 0 ∧ t = { s with od := t.od, sessions := t.sessions, lockHolder := t.lockHolder, commit := t.commit, sdo := t.sdo, ev := t.ev, safe := t.safe, dies := t.dies, queues := t.queues, bp := t.bp, policers := t.policers, credits := t.credits, links := t.links, ports := t.ports, mram := t.mram, sumac := t.sumac, intc := t.intc, apps := t.apps, tunnels := t.tunnels, creditDue := t.creditDue, keys := t.keys, life := t.life, update := t.update, nextFid := t.nextFid, pins := t.pins, fresh := t.fresh, out := t.out }))

/-- Fabric links (R34, R35, R57, R275, R279, R281): a cell with a bad CRC is sent again and counted; an intact one is acknowledged, and with its last cell the copy leaves its sender, from whichever
buffer it stood in there, and at its egress die enters the queue of its destination at stage 10 (shown for one plain copy that the queue's guarantee holds), at any other die the transit buffer of the next
link end on its path; one that back-pressure holds at stage 10 stays where it was at its sender, with the class's credit withheld; an idle end sends keep-alive words; a failed link is down at both its ends, with nothing left on its way, and is logged;
one that recovers is up at both; a marker acknowledged after the last cell of the old path is gone; returned ATOMIC credits come back to their counter, at most those owed. That a copy waits for its
next link end also where that has failed is log 125's choice, that a failed link is logged at the end the command names log 135's. -/
def Obligations.FabricLinksCarryCells : Prop :=
  ∀ s : State, s.inRun = true →
    (∀ n e m f, s.connected n e = true → s.variant.partner n e = some (m, f) → (s.link n e).failed = false → (s.link m f).failed = false → s.dieRuns n = true →
      (∀ x, s.incoming n e m f = some x → s.leads (.fabricCellReceive n e false) (fun t =>
        (t.link m f).crcRow = (s.link m f).crcRow + 1 ∧ (t.link m f).inFlight = (s.link m f).inFlight ∧ t.queues = s.queues ∧
        t.stRow E.healthLinkCntResends (linkKey m f) = (s.countRow E.healthLinkCntResends (linkKey m f)).stRow E.healthLinkCntResends (linkKey m f) ∧ t = { s with od := t.od, ev := t.ev, safe := t.safe, dies := t.dies, queues := t.queues, bp := t.bp, policers := t.policers, credits := t.credits, links := t.links, ports := t.ports, lastGen := t.lastGen, intc := t.intc, apps := t.apps, creditDue := t.creditDue, nextFid := t.nextFid, pins := t.pins, out := t.out })) ∧
      (∀ x cp, s.incoming n e m f = some x → s.crossingCopy m f x = some cp → x.2.2 + 1 < cp.cells → s.leads (.fabricCellReceive n e true) (fun t => (t.link m f).crcRow = 0 ∧
        (t.link m f).inFlight = (s.link m f).inFlight.map (fun y => if y == x then (x.1, x.2.1, x.2.2 + 1) else y) ∧ t = { s with links := t.links, safe := t.safe, pins := t.pins })) ∧
      (∀ x cp d, s.incoming n e m f = some x → s.crossingCopy m f x = some cp → cp.cells ≤ x.2.2 + 1 → cp.target = n → cp.kind = .frame → cp.stage = .deliver → cp.dests = [d] → d < 0x100 → slotDie d = n → cp.atomic = 0 → cp.learn = false →
        s.stale n cp = false → s.portRefuses d cp.frame = false → (s.placementOf n).resv = [] → s.bp = [] → (s.die n).held = [] → (s.die m).held = [] → (s.die n).prcWait = [] → (s.die m).prcWait = [] → s.cfgOn E.accessAniseEnable = false →
        s.qU (queueRow n (slotLocal d) cp.cls) + cp.cells ≤ s.guarantee (queueRow n (slotLocal d) cp.cls) → s.leads (.fabricCellReceive n e true) (fun t =>
          t.queue (queueRow n (slotLocal d) cp.cls) = s.queue (queueRow n (slotLocal d) cp.cls) ++ [{ cp with batches := [], source := 0x300 + linkKey n e, sending := false, charge := .unit cp.cells }] ∧
          (t.link m f).inFlight = (s.link m f).inFlight.erase x ∧ (x.2.1 = none → t.queue (queueRow m (24 + f) x.1) = (s.queue (queueRow m (24 + f) x.1)).eraseP (·.sending)) ∧ t = { s with od := t.od, ev := t.ev, safe := t.safe, dies := t.dies, queues := t.queues, bp := t.bp, policers := t.policers, credits := t.credits, links := t.links, ports := t.ports, lastGen := t.lastGen, intc := t.intc, apps := t.apps, creditDue := t.creditDue, nextFid := t.nextFid, pins := t.pins, out := t.out })) ∧
      (∀ x cp g, s.incoming n e m f = some x → s.crossingCopy m f x = some cp → cp.cells ≤ x.2.2 + 1 → cp.target ≠ n → (pathEnds cp.srcDie cp.path).find? (·.1 == n) = some (n, g) → s.bp = [] → (s.die n).held = [] → (s.die m).held = [] → (s.die n).prcWait = [] → (s.die m).prcWait = [] → s.cfgOn E.accessAniseEnable = false →
        s.leads (.fabricCellReceive n e true) (fun t => (t.link n g).transit = (s.link n g).transit ++ [{ cp with source := 0x300 + linkKey n e, sending := false }] ∧
          (t.link m f).inFlight = (s.link m f).inFlight.erase x ∧ (x.2.1 = none → t.queue (queueRow m (24 + f) x.1) = (s.queue (queueRow m (24 + f) x.1)).eraseP (·.sending)) ∧ t = { s with od := t.od, ev := t.ev, safe := t.safe, dies := t.dies, queues := t.queues, bp := t.bp, policers := t.policers, credits := t.credits, links := t.links, ports := t.ports, lastGen := t.lastGen, intc := t.intc, apps := t.apps, creditDue := t.creditDue, nextFid := t.nextFid, pins := t.pins, out := t.out }))) ∧
    (∀ n e, s.connected n e = true → s.dieRuns n = true → (s.link n e).inFlight = [] → s.leads (.keepAlive n e) (fun t =>
      t.link n e = { s.link n e with keepAlives := (s.link n e).keepAlives + 1 } ∧ (∀ a b, linkKey a b ≠ linkKey n e → t.link a b = s.link a b) ∧ t = { s with safe := t.safe, links := t.links, pins := t.pins })) ∧
    (∀ n e m f, s.connected n e = true → s.variant.partner n e = some (m, f) → (n, e) ≠ (m, f) → (s.link n e).failed = false → (s.die n).state ≠ 3 → s.leads (.linkEndFail n e) (fun t =>
      (t.link n e).failed = true ∧ (t.link m f).failed = true ∧ (s.lostDie n = false → (t.link n e).inFlight = [] ∧ (t.link n e).transit = []) ∧
      (s.lostDie m = false → (t.link m f).inFlight = [] ∧ (t.link m f).transit = []) ∧ s.safe.faultSeq < t.safe.faultSeq ∧
      t.stRow E.faultClass (s.safe.faultSeq % 64) = 9 ∧ t.stRow E.faultUnit (s.safe.faultSeq % 64) = linkKey n e ∧ t = { s with od := t.od, lockHolder := t.lockHolder, commit := t.commit, ev := t.ev, safe := t.safe, dies := t.dies, queues := t.queues, bp := t.bp, policers := t.policers, credits := t.credits, links := t.links, ports := t.ports, sumac := t.sumac, intc := t.intc, apps := t.apps, tunnels := t.tunnels, creditDue := t.creditDue, nextFid := t.nextFid, pins := t.pins, out := t.out })) ∧
    (∀ n e m f, s.connected n e = true → s.variant.partner n e = some (m, f) → (s.link n e).failed = true → s.leads (.linkEndRecover n e) (fun t =>
      (t.link n e).failed = false ∧ (t.link m f).failed = false ∧ (∀ a b, linkKey a b ≠ linkKey n e → linkKey a b ≠ linkKey m f → t.link a b = s.link a b) ∧
      t.safe.faultSeq = s.safe.faultSeq ∧ t = { s with od := t.od, safe := t.safe, dies := t.dies, links := t.links, sumac := t.sumac, pins := t.pins })) ∧
    (∀ a b c, s.variant.hasDie a = true → s.variant.hasDie b = true → s.oldCells a b c = false → s.leads (.pathMarkerAck a b c) (fun t =>
      t.markers = mdel s.markers (pairKey a b c) ∧ t = { s with safe := t.safe, markers := t.markers, pins := t.pins })) ∧
    (∀ g m d k, s.creditDie g m = some d → s.leads (.atomicCreditReturn g m k) (fun t =>
      mget 0 t.creditDue (acctKey g m d) = mget 0 s.creditDue (acctKey g m d) - min k (mget 0 s.creditDue (acctKey g m d)) ∧
      mget 0 t.credits (acctKey g m d) = mget 0 s.credits (acctKey g m d) - min k (mget 0 s.creditDue (acctKey g m d)) ∧
      t.credit g m d = s.atomicSize g - mget 0 t.credits (acctKey g m d) ∧ t = { s with safe := t.safe, credits := t.credits, creditDue := t.creditDue, pins := t.pins })) ∧
    (∀ n e m f x cp d, s.connected n e = true → s.variant.partner n e = some (m, f) → (s.link n e).failed = false → (s.link m f).failed = false → s.dieRuns n = true → x.1 = cp.cls →
        s.incoming n e m f = some x → s.crossingCopy m f x = some cp → cp.cells ≤ x.2.2 + 1 →
        cp.target = n → cp.kind = .frame → cp.stage = .deliver → cp.dests = [d] → d < 0x100 → slotDie d = n → cp.atomic = 0 → cp.learn = false →
        s.stale n cp = false → s.portRefuses d cp.frame = false → (s.placementOf n).resv = [] →
        s.bp = [] → (s.die n).held = [] → (s.die m).held = [] → (s.die n).prcWait = [] → (s.die m).prcWait = [] → s.cfgOn E.accessAniseEnable = false → s.lossless { cp with source := 0x300 + linkKey n e } = true →
        s.guarantee (queueRow n (slotLocal d) cp.cls) + s.sharedLimit (queueRow n (slotLocal d) cp.cls) < s.qU (queueRow n (slotLocal d) cp.cls) + cp.cells →
        0 < cp.cells → s.leads (.fabricCellReceive n e true) (fun t =>
          t.links = s.links ∧ t.queues = s.queues ∧ t.dies = s.dies ∧ (mfind t.bp ((0x300 + linkKey n e) * 8 + x.1)).isSome = true ∧ t = { s with od := t.od, ev := t.ev, safe := t.safe, dies := t.dies, queues := t.queues, bp := t.bp, policers := t.policers, credits := t.credits, links := t.links, ports := t.ports, lastGen := t.lastGen, intc := t.intc, apps := t.apps, creditDue := t.creditDue, nextFid := t.nextFid, pins := t.pins, out := t.out }))

/-- Tables and pairs of a die (R278 class 0x01, 0x03 and 0x06, R285): a clean word changes nothing, a damaged word is remembered and degrades the die with one fault, a rewrite ends the table's damage; a
runtime pair that has restarted runs and its cause is gone. -/
def Obligations.TablesAreScrubbed : Prop :=
  ∀ (s : State) (n : Nat), s.variant.hasDie n = true → s.inRun = true → s.dieRuns n = true →
    (∀ w, s.leads (.tableScrub n w .clean) (fun t => t = { s with safe := t.safe, pins := t.pins })) ∧
    (∀ w, (s.die n).state ≠ 3 → s.leads (.tableScrub n w .single) (fun t => t.dies = s.dies ∧ t.safe.faultSeq = s.safe.faultSeq ∧
      t.st E.faultCntClass = (s.count E.faultCntClass).st E.faultCntClass ∧ t = { s with od := t.od, ev := t.ev, safe := t.safe, dies := t.dies, sumac := t.sumac, intc := t.intc, pins := t.pins, out := t.out })) ∧
    (∀ w, (s.die n).state ≠ 3 → s.leads (.tableScrub n w .multi) (fun t => w ∈ (t.die n).damaged ∧ 3 ∈ (t.die n).causes ∧ t.safe.faultSeq = s.safe.faultSeq + 1 ∧ t = { s with od := t.od, ev := t.ev, safe := t.safe, dies := t.dies, sumac := t.sumac, intc := t.intc, pins := t.pins, out := t.out })) ∧
    (∀ k, (s.die n).runtimeUp = true → s.leads (.tableHalfRewrite n k) (fun t => (∀ w ∈ (t.die n).damaged, w % 64 ≠ k) ∧
      ((t.die n).damaged = [] → 3 ∉ (t.die n).causes) ∧ t = { s with od := t.od, safe := t.safe, dies := t.dies, sumac := t.sumac, pins := t.pins })) ∧
    ((s.die n).runtimeUp = false → s.leads (.runtimePairRestartComplete n) (fun t => (t.die n).runtimeUp = true ∧ 6 ∉ (t.die n).causes ∧ t = { s with od := t.od, safe := t.safe, dies := t.dies, queues := t.queues, bp := t.bp, policers := t.policers, credits := t.credits, ports := t.ports, sumac := t.sumac, creditDue := t.creditDue, nextFid := t.nextFid, pins := t.pins, out := t.out }))

/-- Health and placement (R273, R278, R280, R283): the summary interval with no masked event since ends; a recomputation leaves its result waiting, and the apply puts it in force; a
readmitted die whose images and self test succeed is OK again, or DEGRADED by a failed link end or a lost bank clock, and a failed step leaves it LOST, with one row of class 0x0B
whose unit is the step (log 35's reading). -/
def Obligations.RecomputationAndReadmission : Prop :=
  ∀ s : State,
    (s.safe.summaryRunning = true → s.safe.summarySum = 0 → s.leads .healthSummaryIntervalEnd (fun t => t.safe.summaryRunning = false ∧ t = { s with ev := t.ev, safe := t.safe, dies := t.dies, pins := t.pins })) ∧
    (s.inRun = true → s.sumac.computing = true → s.leads .recomputationComplete (fun t =>
      t.sumac = { s.sumac with computing := false, waiting := some s.place.pl } ∧ t = { s with safe := t.safe, sumac := t.sumac, pins := t.pins })) ∧
    (∀ pl, s.inRun = true → s.sumac.waiting = some pl → s.leads .placementApply (fun t => t.sumac.inForce = pl ∧ t.mram.placement = pl ∧ t = { s with od := t.od, lockHolder := t.lockHolder, commit := t.commit, ev := t.ev, safe := t.safe, dies := t.dies, queues := t.queues, bp := t.bp, policers := t.policers, credits := t.credits, markers := t.markers, ports := t.ports, mram := t.mram, sumac := t.sumac, intc := t.intc, apps := t.apps, tunnels := t.tunnels, creditDue := t.creditDue, update := t.update, nextFid := t.nextFid, pins := t.pins, out := t.out })) ∧
    (∀ n, s.variant.hasDie n = true → s.inRun = true → (s.die n).state = 5 →
      s.leads (.readmitImagesSent n true) (fun t => t.die n = { s.die n with image := true, redSeed := Config.trng s.fresh, redDraws := 0 } ∧ t = { s with od := t.od, ev := t.ev, safe := t.safe, dies := t.dies, queues := t.queues, bp := t.bp, links := t.links, ports := t.ports, sumac := t.sumac, intc := t.intc, apps := t.apps, tunnels := t.tunnels, pins := t.pins, fresh := t.fresh, out := t.out }) ∧
      s.leads (.readmitImagesSent n false) (fun t => (t.die n).state = 4 ∧ t.safe.faultSeq = s.safe.faultSeq + 1 ∧
        t.stRow E.faultClass (s.safe.faultSeq % 64) = 0x0B ∧ t.stRow E.faultDie (s.safe.faultSeq % 64) = n ∧ t.stRow E.faultUnit (s.safe.faultSeq % 64) = 2 ∧ t = { s with od := t.od, ev := t.ev, safe := t.safe, dies := t.dies, queues := t.queues, bp := t.bp, links := t.links, ports := t.ports, sumac := t.sumac, intc := t.intc, apps := t.apps, tunnels := t.tunnels, pins := t.pins, fresh := t.fresh, out := t.out }) ∧
      ((s.die n).image = true → s.leads (.readmitSelfTestComplete n true) (fun t => (t.die n).causes = s.lastingCauses n ∧ (t.die n).state = (t.die n).implied ∧ (t.die n).runtimeUp = true ∧ (t.die n).inReset = false ∧
        t.sumac.trigger = 2 ∧ t = { s with od := t.od, ev := t.ev, safe := t.safe, dies := t.dies, queues := t.queues, bp := t.bp, links := t.links, ports := t.ports, sumac := t.sumac, intc := t.intc, apps := t.apps, tunnels := t.tunnels, pins := t.pins, out := t.out })) ∧
      ((s.die n).image = true → s.leads (.readmitSelfTestComplete n false) (fun t => (t.die n).state = 4 ∧ t.safe.faultSeq = s.safe.faultSeq + 1 ∧
        t.stRow E.faultClass (s.safe.faultSeq % 64) = 0x0B ∧ t.stRow E.faultDie (s.safe.faultSeq % 64) = n ∧ t.stRow E.faultUnit (s.safe.faultSeq % 64) = 3 ∧
        t = { s with od := t.od, ev := t.ev, safe := t.safe, dies := t.dies, queues := t.queues, bp := t.bp, links := t.links, ports := t.ports, sumac := t.sumac, intc := t.intc, apps := t.apps, tunnels := t.tunnels, pins := t.pins, out := t.out })))

/-- CAN reception (R75, R101, R105, R106, R113, R115, Table 4-3): a frame whose format the port does not take, and a protocol exception, put the port into bus integration with nothing forwarded; a
frame of a DRAINING port is counted and discarded; a frame that stage 2 drops is not forwarded; a frame that passes enters the switch once and resets the idle time; a frame for the service
channel stays with it and enters no switch queue. An error in reception counts. (The end of bus integration is CanRecovery's.) -/
def Obligations.CanReception : Prop :=
  ∀ (s : State) (k : Nat), s.variant.hasSlot k = true → isCan k = true → s.canOnBus k = true →
    (∀ f, f.fmt = .fd → s.cfgSlot E.portCanFormat k = 0 → (s.port k).reconfigure = false → s.portState k ≠ 3 → s.leads (.canFrameReceive k f) (fun t => (t.port k).integrating = true ∧ t.queues = s.queues ∧
      t = { s with od := t.od, ports := t.ports, safe := t.safe, pins := t.pins })) ∧
    (∀ f s2 v, f.fmt = .cc → s.cfgSlot E.portCanFormat k < 3 → s.portState k = 2 → s.cfgSlot E.portCanMode k = 1 →
      ((s.countSlot E.portCanCntRxFrames k).verifyFrame k f) = (s2, some v) → s2.stirred.serviceId k v.frame = false →
      (s2.stirred.guard k v.frame = .pass → s.leads (.canFrameReceive k f) (fun t => t.nextFid = s2.nextFid + 1 ∧ t.power.idleFrom = s2.clock.ticks ∧
        t.stSlot E.portCanCntRxFrames k = (s.countSlot E.portCanCntRxFrames k).stSlot E.portCanCntRxFrames k ∧ t = { s with od := t.od, ev := t.ev, power := t.power, safe := t.safe, dies := t.dies, queues := t.queues, bp := t.bp, policers := t.policers, credits := t.credits, ports := t.ports, limiters := t.limiters, fresh64 := t.fresh64, intc := t.intc, apps := t.apps, creditDue := t.creditDue, samples := t.samples, keys := t.keys, nextFid := t.nextFid, pins := t.pins, fresh := t.fresh, out := t.out })) ∧
      (s2.stirred.guard k v.frame = .event 1 true → s.leads (.canFrameReceive k f) (fun t => t.nextFid = s2.nextFid ∧ t.queues = s2.queues ∧ t = { s with od := t.od, ev := t.ev, power := t.power, safe := t.safe, dies := t.dies, queues := t.queues, bp := t.bp, policers := t.policers, credits := t.credits, ports := t.ports, limiters := t.limiters, fresh64 := t.fresh64, intc := t.intc, apps := t.apps, creditDue := t.creditDue, samples := t.samples, keys := t.keys, nextFid := t.nextFid, pins := t.pins, fresh := t.fresh, out := t.out }))) ∧
    ((s.port k).reconfigure = false → s.portState k ≠ 3 → s.leads (.canProtocolException k) (fun t => (t.port k).integrating = true ∧ t = { s with od := t.od, safe := t.safe, dies := t.dies, queues := t.queues, bp := t.bp, policers := t.policers, credits := t.credits, ports := t.ports, creditDue := t.creditDue, nextFid := t.nextFid, pins := t.pins, out := t.out })) ∧
    (∀ e, s.cfgSlot E.portCanMode k ≠ 0 → (s.port k).reconfigure = false → s.leads (.canReceiveError k e) (fun t =>
      t.stSlot E.portCanCntRxError k = (s.stSlot E.portCanCntRxError k + 1) % odModulus s.variant (E.portCanCntRxError + k * 256) ∧
      t.port k = { s.port k with rxBusy := false } ∧ t = { s with od := t.od, ports := t.ports, safe := t.safe, pins := t.pins })) ∧
    (∀ f, f.fmt = .cc → s.cfgSlot E.portCanFormat k < 3 → s.portState k = 3 → s.leads (.canFrameReceive k f) (fun t =>
      t.stSlot E.portCanCntRxDiscardDraining k = (s.countSlot E.portCanCntRxDiscardDraining k).stSlot E.portCanCntRxDiscardDraining k ∧ t.nextFid = s.nextFid ∧ t = { s with od := t.od, ev := t.ev, power := t.power, safe := t.safe, dies := t.dies, queues := t.queues, bp := t.bp, policers := t.policers, credits := t.credits, ports := t.ports, limiters := t.limiters, fresh64 := t.fresh64, intc := t.intc, apps := t.apps, creditDue := t.creditDue, samples := t.samples, keys := t.keys, nextFid := t.nextFid, pins := t.pins, fresh := t.fresh, out := t.out })) ∧
    (∀ f s2 v, f.fmt = .cc → s.cfgSlot E.portCanFormat k < 3 → s.portState k = 2 → (s.port k).reconfigure = false → ((s.countSlot E.portCanCntRxFrames k).verifyFrame k f) = (s2, some v) →
      s2.stirred.serviceId k v.frame = true → s.leads (.canFrameReceive k f) (fun t => t.nextFid = s2.nextFid ∧ t.queues = s2.queues ∧ t.power = s2.stirred.power ∧
        (isSdoFrame v.frame = false → t.st E.accessCntSdoIgnored = (s2.count E.accessCntSdoIgnored).st E.accessCntSdoIgnored) ∧ t = { s with od := t.od, ev := t.ev, power := t.power, safe := t.safe, dies := t.dies, queues := t.queues, bp := t.bp, policers := t.policers, credits := t.credits, ports := t.ports, limiters := t.limiters, fresh64 := t.fresh64, intc := t.intc, apps := t.apps, creditDue := t.creditDue, samples := t.samples, keys := t.keys, nextFid := t.nextFid, pins := t.pins, fresh := t.fresh, out := t.out }))

/-- The end of bus integration (R106, R130): an ENABLING port becomes ENABLED; a port that waited takes part in the bus again. A CAN port that enters bus-off (R114) parks and waits;
with a restart time it starts its recovery sequence when that ends, with restart time 0 only when `port.can.recover` is written, and the sequence's end brings it back to ENABLED with TEC and REC 0. -/
def Obligations.CanRecovery : Prop :=
  ∀ (s : State) (k : Nat), s.variant.hasSlot k = true → isCan k = true → s.canPort k = true →
    (s.portState k ≠ 1 → s.leads (.canBusIntegration k) (fun t => t.port k = { s.port k with integrating := false } ∧
      (s.portState k = 2 → (s.port k).clockStopped = false → t.canOnBus k = true) ∧ t = { s with od := t.od, safe := t.safe, queues := t.queues, ports := t.ports, pins := t.pins, out := t.out })) ∧
    (s.portState k = 1 → s.leads (.canBusIntegration k) (fun t => t.portState k = 2 ∧ (t.port k).parked = false ∧ (t.port k).holdRunning = false ∧ (t.port k).holdExpired = false ∧
      t.stSlot E.portCanTec k = s.stSlot E.portCanTec k ∧ (s.port k).integrating = (t.port k).integrating ∧ (∀ j, j ≠ k → t.port j = s.port j) ∧ t = { s with od := t.od, safe := t.safe, queues := t.queues, ports := t.ports, pins := t.pins, out := t.out })) ∧
    (s.portState k = 4 → (s.port k).restartArmed = true → 0 < s.cfgSlot E.portCanBusOffRestart k → s.leads (.busOffRestartTimeout k) (fun t =>
      t.port k = { s.port k with restartArmed := false, recovering := true } ∧ t = { s with safe := t.safe, ports := t.ports, pins := t.pins })) ∧
    (s.portState k = 4 → (s.port k).recovering = true → s.leads (.recoverySequenceComplete k) (fun t =>
      t.portState k = 2 ∧ t.stSlot E.portCanTec k = 0 ∧ t.stSlot E.portCanRec k = 0 ∧ t.stSlot E.portCanErrorState k = 0 ∧ (t.port k).recovering = false ∧ (t.port k).parked = false ∧
      (t.port k).holdRunning = false ∧ (∀ j, j ≠ k → t.port j = s.port j) ∧ t = { s with od := t.od, safe := t.safe, queues := t.queues, ports := t.ports, pins := t.pins, out := t.out })) ∧
    (s.portState k = 4 → s.cfgSlot E.portCanBusOffRestart k = 0 → s.leads (.busOffRestartTimeout k) (fun t => t = { s with safe := t.safe, pins := t.pins })) ∧
    (∀ sess v, s.portState k = 4 → s.cfgSlot E.portCanBusOffRestart k = 0 → s.accepts sess (0x2000 + k) 0x1B noRow (toLE 1 v) = true → s.leads (.canRecover sess k v) (fun t =>
      t.port k = { s.port k with restartArmed := false, recovering := true } ∧ (∀ j, j ≠ k → t.port j = s.port j) ∧ t = { s with sessions := t.sessions, relays := t.relays, safe := t.safe, ports := t.ports, pins := t.pins, out := t.out })) ∧
    (∀ err, s.portState k = 2 → s.stSlot E.portCanErrorState k ≠ 2 → s.leads (.canTransmitError k err) (fun t =>
      (t.stSlot E.portCanErrorState k = 2 → t.portState k = 4 ∧ (t.port k).restartArmed = true ∧ (t.port k).recovering = false ∧ (t.port k).parked = true) ∧ t = { s with od := t.od, ev := t.ev, safe := t.safe, dies := t.dies, queues := t.queues, bp := t.bp, policers := t.policers, credits := t.credits, ports := t.ports, intc := t.intc, creditDue := t.creditDue, nextFid := t.nextFid, pins := t.pins, out := t.out }))

/-- CAN transmission (R104, R108, R111, R112, R113): with nothing to send a port's turn changes no queue; the frame in transmission leaves the port when it completes and counts as sent; one whose loop delay
is beyond 127 periods of f_CAN in a format that measures it is aborted and counted instead; one that loses arbitration, or that meets an error and is retransmitted, is no longer being sent and keeps its place; without
automatic retransmission the frame that meets an error is dropped and counted. A bit, stuff, form or acknowledge error adds 8 to TEC (ISO 11898-1's rule: log 11), but for an acknowledge error in error-passive; the error state
follows from TEC and REC at ISO 11898-1's limits. -/
def Obligations.CanTransmission : Prop :=
  ∀ (s : State) (k : Nat), s.variant.hasSlot k = true → isCan k = true → s.canPort k = true →
    (∀ row cp d, s.sendingRow k = some row → (s.queue row).find? (·.sending) = some cp → d ≤ 127 → s.leads (.canTransmitComplete k d) (fun t =>
      Out.canTx k (cp.prepared.getD cp.frame) ∈ t.out ∧ t.stSlot E.portCanCntTxFrames k = (s.countSlot E.portCanCntTxFrames k).stSlot E.portCanCntTxFrames k ∧
      (s.portState k = 2 → s.stSlot E.portCanTec k ≤ 256 → (s.port k).reconfigure = false → (s.die (slotDie k)).held = [] → s.cfgOn E.captureEnable = false →
        t.queue row = (s.queue row).eraseIdx (((s.queue row).findIdx? (·.sending)).getD 0)) ∧ t = { s with od := t.od, ev := t.ev, safe := t.safe, dies := t.dies, queues := t.queues, bp := t.bp, policers := t.policers, credits := t.credits, ports := t.ports, intc := t.intc, apps := t.apps, creditDue := t.creditDue, samples := t.samples, nextFid := t.nextFid, pins := t.pins, out := t.out })) ∧
    (∀ row cp d, s.sendingRow k = some row → (s.queue row).find? (·.sending) = some cp → 127 < d → s.tdcMeasures k (cp.prepared.getD cp.frame) = true → (s.port k).reconfigure = false → s.portState k = 2 →
      s.stSlot E.portCanTec k ≤ 247 → s.cfgSlotOn E.portCanAutoRetransmit k = true → s.leads (.canTransmitComplete k d) (fun t =>
      t.out = s.out ∧ t.stSlot E.portCanCntTdcFail k = (s.countSlot E.portCanCntTdcFail k).stSlot E.portCanCntTdcFail k ∧
      t.queue row = (s.queue row).map (fun cp => if cp.sending then { cp with sending := false } else cp) ∧ t = { s with od := t.od, ev := t.ev, safe := t.safe, dies := t.dies, queues := t.queues, bp := t.bp, policers := t.policers, credits := t.credits, ports := t.ports, intc := t.intc, apps := t.apps, creditDue := t.creditDue, samples := t.samples, nextFid := t.nextFid, pins := t.pins, out := t.out })) ∧
    (∀ row, s.sendingRow k = some row → s.portState k ≠ 3 → s.leads (.canArbitrationLost k) (fun t =>
      t.queue row = (s.queue row).map (fun cp => if cp.sending then { cp with sending := false } else cp) ∧ t.port k = { s.port k with rxBusy := true } ∧
      t.stSlot E.portCanCntArbLost k = (s.countSlot E.portCanCntArbLost k).stSlot E.portCanCntArbLost k ∧
      t = { s with od := t.od, ports := t.ports, queues := t.queues, safe := t.safe, pins := t.pins })) ∧
    (∀ row err, err ∈ [.bit, .stuff, .form, .ack] → (err = .ack → s.stSlot E.portCanErrorState k ≠ 1) → s.sendingRow k = some row → (s.port k).reconfigure = false → s.portState k ≠ 3 → s.stSlot E.portCanTec k ≤ 247 → s.cfgSlotOn E.portCanAutoRetransmit k = true →
      s.leads (.canTransmitError k err) (fun t => t.queue row = (s.queue row).map (fun cp => if cp.sending then { cp with sending := false } else cp) ∧
        t.stSlot E.portCanCntTxError k = (if err = .bit ∨ err = .ack then (s.countSlot E.portCanCntTxError k).stSlot E.portCanCntTxError k else s.stSlot E.portCanCntTxError k) ∧
        t.stSlot E.portCanTec k = s.stSlot E.portCanTec k + 8 ∧ t = { s with od := t.od, queues := t.queues, safe := t.safe, pins := t.pins })) ∧
    (∀ n q, n = slotDie k → q = slotLocal k → (n - 1) * 32 + q = k → q < 21 → s.variant.hasDie n = true → s.canOnBus k = true → s.cfgSlot E.portCanMode k = 0 → (s.sendingRow k).isSome = true →
      s.leads (.portDequeue n q) (fun t => t = { s with safe := t.safe, pins := t.pins })) ∧
    (∀ n q, n = slotDie k → q = slotLocal k → (n - 1) * 32 + q = k → q < 21 → s.variant.hasDie n = true → s.sendingRow k = none → s.portState k ≠ 3 → (∀ c, c < 8 → s.queue (queueRow n q c) = []) →
      s.leads (.portDequeue n q) (fun t => t = { s with safe := t.safe, pins := t.pins })) ∧
    (∀ row err, err ∈ [.bit, .stuff, .form] → s.sendingRow k = some row → (s.port k).reconfigure = false → s.portState k = 2 → s.stSlot E.portCanTec k ≤ 247 →
      s.cfgSlotOn E.portCanAutoRetransmit k = false → (s.die (slotDie k)).held = [] → (s.die (slotDie k)).prcWait = [] → s.leads (.canTransmitError k err) (fun t =>
        t.queue row = (s.queue row).eraseP (·.sending) ∧ t.stSlot E.portCanTec k = s.stSlot E.portCanTec k + 8 ∧
        t.stSlot E.portCanCntOneShotDrop k = (s.countSlot E.portCanCntOneShotDrop k).stSlot E.portCanCntOneShotDrop k ∧ t = { s with od := t.od, ev := t.ev, safe := t.safe, dies := t.dies, queues := t.queues, bp := t.bp, policers := t.policers, credits := t.credits, ports := t.ports, intc := t.intc, creditDue := t.creditDue, nextFid := t.nextFid, pins := t.pins, out := t.out })) ∧
    (∀ tec rec_, (s.setErrors k tec rec_).stSlot E.portCanErrorState k = if 255 < tec then 2 else if 127 < tec ∨ 127 < rec_ then 1 else 0)

/-- A port's turn (R226, R227): the head of the highest class with a copy that may go is the one taken, where it is not older than its class's residence limit: at a CAN or an Ethernet port it begins its
transmission in place, prepared as the port asks (a class that a received pause holds is passed over at Ethernet); at a LIN port it goes to the response buffer of its identifier, where one is published with
its length, and is counted as refused where not; at a fabric port the copy of the highest class with credit starts to cross; the runtime pair takes it off its queue. -/
def Obligations.PortTurnsTakeTheHead : Prop :=
  ∀ (s : State) (n q : Nat), s.variant.hasDie n = true → s.dieRuns n = true → s.inRun = true →
    (∀ k c cp rest s2 f, k = (n - 1) * 32 + q → q < 21 → isCan k = true → slotDie k = n → slotLocal k = q → s.canOnBus k = true → s.cfgSlot E.portCanMode k = 0 →
      s.sendingRow k = none → c < 8 → s.queue (queueRow n q c) = cp :: rest → (∀ j, j < 8 → c < j → s.queue (queueRow n q j) = []) → s.aged cp = false → s.canPrepare k cp = (s2, some f) →
      s2.queue (queueRow n q c) = cp :: rest →
      s.leads (.portDequeue n q) (fun t => t.queue (queueRow n q c) = { cp with sending := true, prepared := some f, started := s2.gptp } :: rest ∧ t = { s with od := t.od, ev := t.ev, safe := t.safe, dies := t.dies, queues := t.queues, bp := t.bp, policers := t.policers, credits := t.credits, links := t.links, ports := t.ports, txCounters := t.txCounters, mram := t.mram, intc := t.intc, creditDue := t.creditDue, keys := t.keys, nextFid := t.nextFid, pins := t.pins, out := t.out })) ∧
    (∀ k c cp rest s2 f, k = (n - 1) * 32 + q → q < 21 → isEth k = true → isCan k = false → isLin k = false → slotDie k = n → slotLocal k = q → s.ethOnLink k = true → s.sendingRow k = none →
      c < 8 → bitAt (s.port k).pauseHeld c = false → s.queue (queueRow n q c) = cp :: rest →
      (∀ j, j < 8 → c < j → s.queue (queueRow n q j) = [] ∨ bitAt (s.port k).pauseHeld j = true) → s.aged cp = false → s.ethPrepare k cp = (s2, some f) →
      s2.queue (queueRow n q c) = cp :: rest →
      s.leads (.portDequeue n q) (fun t => t.queue (queueRow n q c) = { cp with sending := true, prepared := some f, started := s2.txStamp k } :: rest ∧ t = { s with od := t.od, ev := t.ev, safe := t.safe, dies := t.dies, queues := t.queues, bp := t.bp, policers := t.policers, credits := t.credits, links := t.links, ports := t.ports, txCounters := t.txCounters, mram := t.mram, intc := t.intc, creditDue := t.creditDue, keys := t.keys, nextFid := t.nextFid, pins := t.pins, out := t.out })) ∧
    (∀ k c cp rest, k = (n - 1) * 32 + q → q < 21 → isLin k = true → isCan k = false → slotDie k = n → slotLocal k = q → s.linOnBus k = true → s.portState k = 2 →
      c < 8 → s.queue (queueRow n q c) = cp :: rest → (∀ j, j < 8 → c < j → s.queue (queueRow n q j) = []) → s.aged cp = false → s.bp = [] → (s.die n).held = [] → (s.die n).prcWait = [] →
      s.leads (.portDequeue n q) (fun t => t.queue (queueRow n q c) = rest ∧
        (linPublish (s.linId k (cp.frame.id % 64)) = true → linLength (s.linId k (cp.frame.id % 64)) = cp.frame.data.length →
          (t.port k).linBuf = mput (s.port k).linBuf (cp.frame.id % 64) cp ∧
          ((mfind (s.port k).linBuf (cp.frame.id % 64)).isSome = true → t.stSlot E.portLinCntResponseOverwritten k = (s.countSlot E.portLinCntResponseOverwritten k).stSlot E.portLinCntResponseOverwritten k)) ∧
        (linPublish (s.linId k (cp.frame.id % 64)) = false ∨ linLength (s.linId k (cp.frame.id % 64)) ≠ cp.frame.data.length →
          t.ports = s.ports ∧ t.stSlot E.portLinCntTxRefused k = (s.countTxRefused k).stSlot E.portLinCntTxRefused k) ∧ t = { s with od := t.od, ev := t.ev, safe := t.safe, dies := t.dies, queues := t.queues, bp := t.bp, policers := t.policers, credits := t.credits, links := t.links, ports := t.ports, txCounters := t.txCounters, mram := t.mram, intc := t.intc, creditDue := t.creditDue, keys := t.keys, nextFid := t.nextFid, pins := t.pins, out := t.out })) ∧
    (∀ c s1 x i, 24 ≤ q → q < 28 → s.connected n (q - 24) = true → (s.link n (q - 24)).failed = false → c < 8 → (∀ j, j < 8 → c < j → s.fabricTurn n (q - 24) j = (s, none)) →
      s.fabricTurn n (q - 24) c = (s1, some (x, i)) → s.leads (.portDequeue n q) (fun t => (t.link n (q - 24)).inFlight = (s1.link n (q - 24)).inFlight ++ [(c, x, 0)] ∧ t = { s with od := t.od, ev := t.ev, safe := t.safe, dies := t.dies, queues := t.queues, bp := t.bp, policers := t.policers, credits := t.credits, links := t.links, ports := t.ports, txCounters := t.txCounters, mram := t.mram, intc := t.intc, creditDue := t.creditDue, keys := t.keys, nextFid := t.nextFid, pins := t.pins, out := t.out })) ∧
    (∀ c cp rest, q = 22 → (s.die n).runtimeUp = true → c < 8 → s.queue (queueRow n q c) = cp :: rest → (∀ j, j < 8 → c < j → s.queue (queueRow n q j) = []) → s.aged cp = false →
      s.bp = [] → (s.die n).held = [] → (s.die n).prcWait = [] → s.cfgOn E.accessAniseEnable = false →
      s.leads (.portDequeue n q) (fun t => t.queue (queueRow n q c) = rest ∧ (∀ j, j < 8 → j ≠ c → t.queue (queueRow n q j) = s.queue (queueRow n q j)) ∧ t = { s with od := t.od, ev := t.ev, safe := t.safe, dies := t.dies, queues := t.queues, bp := t.bp, policers := t.policers, credits := t.credits, links := t.links, ports := t.ports, txCounters := t.txCounters, mram := t.mram, intc := t.intc, creditDue := t.creditDue, keys := t.keys, nextFid := t.nextFid, pins := t.pins, out := t.out })) ∧
    (q = 22 → (s.die n).runtimeUp = false → s.leads (.portDequeue n q) (fun t => t = { s with safe := t.safe, pins := t.pins }))

/-- LIN (R125, R126, R127, R129, R391): a header of a published identifier sends its buffered response and frees the buffer; one with no data is counted; a header of any other identifier waits
for the response, and a commander's own header that reads back wrong is a bit error; a missing response ends the wait; a bus held dominant is BUS_FAULT with the buffers empty; the bus's release brings the port up; the end of a wake pulse delays a commander's schedule. The protected identifier and
the checksums are ISO 17987's (log 75); the bit error of an own header is log 136's reading. -/
def Obligations.LinHeadersAndResponses : Prop :=
  ∀ (s : State) (k : Nat), s.variant.hasSlot k = true → isLin k = true → s.linPort k = true →
    (∀ id rb, s.linOnBus k = true → s.cfgSlot E.portLinRole k = 0 → (s.port k).linHeader = some id → linPublish (s.linId k id) = false →
      s.leads (.linHeader k id true rb) (fun t => t.port k = { s.port k with linHeader := none, linAwait := some id } ∧
        (rb = true → t = { s with ports := t.ports, safe := t.safe, pins := t.pins }) ∧
        (rb = false → t.stSlot E.portLinLastError k = 4 ∧ t.stSlot E.portLinCntBitError k = (s.countSlot E.portLinCntBitError k).stSlot E.portLinCntBitError k ∧
          t = { s with od := t.od, ports := t.ports, safe := t.safe, pins := t.pins }))) ∧
    (∀ id cp, s.linOnBus k = true → s.cfgSlot E.portLinRole k = 0 → (s.port k).linHeader = some id → linPublish (s.linId k id) = true → mfind (s.port k).linBuf id = some cp →
      s.leads (.linHeader k id true true) (fun t => (Out.linTx k cp.frame (s.linCheckOf k id cp.frame.data) :: s.out) <:+ t.out ∧ (t.port k).linBuf = mdel (s.port k).linBuf id ∧ (t.port k).linAwait = none ∧
        (t.port k).linHeader = none ∧ t = { s with od := t.od, safe := t.safe, dies := t.dies, queues := t.queues, bp := t.bp, policers := t.policers, credits := t.credits, ports := t.ports, intc := t.intc, apps := t.apps, creditDue := t.creditDue, samples := t.samples, nextFid := t.nextFid, pins := t.pins, out := t.out })) ∧
    (∀ id rb, s.linOnBus k = true → s.cfgSlot E.portLinRole k ≠ 0 → s.portState k ≠ 1 → s.leads (.linHeader k id false rb) (fun t => t.stSlot E.portLinLastError k = 5 ∧ t.ports = s.ports ∧ t = { s with od := t.od, safe := t.safe, dies := t.dies, queues := t.queues, bp := t.bp, policers := t.policers, credits := t.credits, ports := t.ports, intc := t.intc, apps := t.apps, creditDue := t.creditDue, samples := t.samples, nextFid := t.nextFid, pins := t.pins, out := t.out })) ∧
    (∀ id data, s.linOnBus k = true → (s.port k).linAwait = some id → linSubscribe (s.linId k id) = true → data.length = linLength (s.linId k id) → (s.port k).reconfigure = false → s.portState k = 2 →
      s.leads (.linResponseReceive k id data (.sum (s.linCheckOf k id data))) (fun t => t.nextFid = s.nextFid + 1 ∧ t.power.idleFrom = s.clock.ticks ∧ t = { s with od := t.od, power := t.power, safe := t.safe, dies := t.dies, queues := t.queues, bp := t.bp, policers := t.policers, credits := t.credits, ports := t.ports, intc := t.intc, apps := t.apps, creditDue := t.creditDue, samples := t.samples, nextFid := t.nextFid, pins := t.pins, out := t.out })) ∧
    (∀ id data w, s.linOnBus k = true → (s.port k).linAwait = some id → linSubscribe (s.linId k id) = true → data.length = linLength (s.linId k id) → (s.port k).reconfigure = false → w ≠ s.linCheckOf k id data →
      s.leads (.linResponseReceive k id data (.sum w)) (fun t => t.stSlot E.portLinLastError k = 1 ∧ (t.port k).linAwait = none ∧ t = { s with od := t.od, ports := t.ports, safe := t.safe, pins := t.pins })) ∧
    (s.linOnBus k = true → (s.port k).linAwait.isSome = true → (s.port k).reconfigure = false → s.leads (.linNoResponse k) (fun t => t.stSlot E.portLinLastError k = 2 ∧
      t.port k = { s.port k with linAwait := none } ∧ t = { s with od := t.od, ports := t.ports, safe := t.safe, pins := t.pins })) ∧
    ((s.portState k = 1 ∨ s.portState k = 2) → s.leads (.linBusStuck k) (fun t => (t.port k).linBuf = [] ∧ (t.port k).linHeader = none ∧ (t.port k).linAwait = none ∧ (t.port k).parked = true ∧ t.portState k = 4 ∧
      t = { s with od := t.od, safe := t.safe, dies := t.dies, queues := t.queues, bp := t.bp, policers := t.policers, credits := t.credits, ports := t.ports, intc := t.intc, creditDue := t.creditDue, nextFid := t.nextFid, pins := t.pins, out := t.out })) ∧
    (s.portState k = 4 → s.leads (.linBusRecover k) (fun t => t = (s.portUp k).settle ∧ t.portState k = 2 ∧ (t.port k).parked = false ∧ t = { s with od := t.od, safe := t.safe, queues := t.queues, ports := t.ports, pins := t.pins, out := t.out })) ∧
    (s.linOnBus k = true → s.cfgSlot E.portLinRole k = 0 → (s.port k).pulse = true → s.leads (.linScheduleSlot k) (fun t => t = { s with safe := t.safe, pins := t.pins })) ∧
    (s.linOnBus k = true → s.cfgSlot E.portLinRole k = 0 → (s.port k).pulse = false → (s.port k).scheduleDelayed = false → (s.port k).reconfigure = false → s.portState k ≠ 3 → s.leads (.linScheduleSlot k) (fun t =>
      t = (s.linRun k ((s.port k).linPos + 1)).settle ∧ (linAction (s.linSlot k ((s.port k).linPos + 1)) = 1 → (s.port k).linPos < 63 →
        (t.port k).linPos = (s.port k).linPos + 1 ∧ (t.port k).linHeader = some (linIdOf (s.linSlot k ((s.port k).linPos + 1))) ∧
        t.out = .linHeader k (s.cfgSlot E.portLinBreakLength k) [0x55, BitVec.ofNat 8 (linPid (linIdOf (s.linSlot k ((s.port k).linPos + 1))))] :: s.out) ∧ t = { s with od := t.od, safe := t.safe, dies := t.dies, queues := t.queues, bp := t.bp, policers := t.policers, credits := t.credits, ports := t.ports, creditDue := t.creditDue, nextFid := t.nextFid, pins := t.pins, out := t.out })) ∧
    (s.linOnBus k = true → (s.port k).pulse = true → s.leads (.wakePulseEnd k) (fun t =>
      t.port k = { s.port k with pulse := false, scheduleDelayed := s.cfgSlot E.portLinRole k == 0 } ∧ t = { s with safe := t.safe, ports := t.ports, pins := t.pins })) ∧
    (∀ id, s.linOnBus k = true → (s.cfgSlot E.portLinRole k = 0 → (s.port k).linHeader = some id) → (s.port k).reconfigure = false → s.portState k = 2 → linPublish (s.linId k id) = true →
      mfind (s.port k).linBuf id = none → s.leads (.linHeader k id true true) (fun t => t.stSlot E.portLinCntNoData k = (s.countSlot E.portLinCntNoData k).stSlot E.portLinCntNoData k ∧
        t.out = s.out ∧ t.port k = { s.port k with linHeader := none, linAwait := none } ∧ t = { s with od := t.od, ports := t.ports, safe := t.safe, pins := t.pins }))

/-- Ethernet reception (R143 to R145, R148, Table 5-2): a runt, an oversize frame and a frame with a bad FCS are each counted in the one counter of the first check they fail and go no further; so is a
frame that the group filter drops; a frame that passes every check enters the switch and resets the idle time. -/
def Obligations.EthernetReception : Prop :=
  ∀ (s : State) (k : Nat), s.variant.hasSlot k = true → isEth k = true → s.listens k = false → s.ethOnLink k = true →
    (∀ (d : Bytes) ok e, s.ethLengthFcs k (d.length + 4) ok = some e → s.leads (.ethFrameReceive k d ok) (fun t =>
      t.stSlot e k = (s.stSlot e k + 1) % odModulus s.variant (e + k * 256) ∧ t = { s with od := t.od, safe := t.safe, pins := t.pins })) ∧
    (∀ (d : Bytes) ok, s.ethLengthFcs k (d.length + 4) ok = (if d.length < 60 then some E.portEthCntRxRunt else if s.cfgSlot E.portEthMaxFrame k < d.length + 4 then some E.portEthCntRxOversize
      else if ok = false then some E.portEthCntRxFcsError else none)) ∧
    (∀ d, s.ethLengthFcs k (d.length + 4) true = none → s.macsecVerify k d = (s, some d) → beNat (d.take 6) / 16 ≠ 0x0180C200000 → s.groupPasses k d = false →
      s.leads (.ethFrameReceive k d true) (fun t => t.stSlot E.portEthCntRxGroupFiltered k =
        (s.stSlot E.portEthCntRxGroupFiltered k + 1) % odModulus s.variant (E.portEthCntRxGroupFiltered + k * 256) ∧ t = { s with od := t.od, safe := t.safe, pins := t.pins })) ∧
    (∀ d, s.ethLengthFcs k (d.length + 4) true = none → s.macsecVerify k d = (s, some d) → beNat (d.take 6) / 16 ≠ 0x0180C200000 → s.groupPasses k d = true →
      s.cfgSlotOn E.portEthVlanIngressFilter k = false → s.portState k = 2 → s.leads (.ethFrameReceive k d true) (fun t =>
        s.nextFid < t.nextFid ∧ t.power.idleFrom = s.clock.ticks ∧ t = { s with clock := t.clock, od := t.od, ev := t.ev, power := t.power, safe := t.safe, dies := t.dies, queues := t.queues, bp := t.bp, policers := t.policers, credits := t.credits, ports := t.ports, limiters := t.limiters, fresh64 := t.fresh64, txCounters := t.txCounters, mram := t.mram, intc := t.intc, apps := t.apps, creditDue := t.creditDue, samples := t.samples, keys := t.keys, nextFid := t.nextFid, pins := t.pins, fresh := t.fresh, out := t.out }))

/-- Links (R141, R142, R168, R169): a link that comes up, by itself or by the control word, arms the up delay of an ENABLING or LINK_DOWN port; with SGMII auto-negotiation LINK_UP alone does nothing (log 122's reading) and only the control word, which is
acknowledged, brings it up, and a half-duplex partner's link stays down; one that is lost ends the pause state and penalties, and arms the down delay of an ENABLED port, whose expiry takes the port to LINK_DOWN with its queues parked; the up delay's expiry brings it
up. A trunk port sends the fault signal that follows, and none in DISABLED or FAULT (log 105's choice), where the lane is idle. -/
def Obligations.EthernetLinks : Prop :=
  ∀ (s : State) (k : Nat), s.variant.hasSlot k = true → isEth k = true → s.ethPort k = true →
    (∀ full, s.cfgSlotOn E.portEthAnEnable k = true → s.cfgSlot E.portEthSerdesMode k = 0 → s.leads (.linkUp ⟨k, full⟩) (fun t => t = { s with safe := t.safe, pins := t.pins })) ∧
    (s.cfgSlotOn E.portEthAnEnable k = true → s.cfgSlot E.portEthSerdesMode k = 1 → (s.port k).reconfigure = false → s.portState k ≠ 0 → s.portState k ≠ 5 → s.leads (.linkUp ⟨k, false⟩) (fun t =>
      (t.port k).linkUp = false ∧ (s.portState k ≠ 3 → (t.port k).halfDuplex = true) ∧ ((s.port k).linkUp = true → (t.port k).upTimer = false) ∧ t = { s with od := t.od, safe := t.safe, dies := t.dies, queues := t.queues, bp := t.bp, policers := t.policers, credits := t.credits, ports := t.ports, creditDue := t.creditDue, nextFid := t.nextFid, pins := t.pins, fresh := t.fresh, out := t.out })) ∧
    (∀ full, (s.port k).linkUp = false → s.listens k = false → s.portState k ∈ [1, 3, 4] → (s.cfgSlotOn E.portEthAnEnable k = false ∨ (s.cfgSlot E.portEthSerdesMode k ≠ 0 ∧ (s.cfgSlot E.portEthSerdesMode k ≠ 1 ∨ full = true))) → s.leads (.linkUp ⟨k, full⟩) (fun t =>
      t.port k = { s.port k with linkUp := true, downTimer := false, halfDuplex := false, txFault := if isTrunk k then 0 else (s.port k).txFault, upTimer := s.portState k == 1 || s.portState k == 4 } ∧
      t.stSlot E.portEthLinkRate k = s.linkRate k ∧ t.out = (if isTrunk k && (s.port k).txFault != 0 then .linkFault k 0 :: s.out else s.out) ∧
      t = { s with od := t.od, ports := t.ports, out := t.out, safe := t.safe, pins := t.pins })) ∧
    (∀ f r, (s.port k).linkUp = true → s.portState k = 2 → s.sendingRow k = none → (s.port k).reconfigure = false → s.leads (.linkLoss k ⟨f, r⟩) (fun t => (t.port k).linkUp = false ∧ (t.port k).downTimer = true ∧
      (t.port k).penalty = 0 ∧ (t.port k).pauseHeld = 0 ∧ t.stSlot E.portEthLinkRate k = 0 ∧ (isTrunk k = true → (t.port k).txFault = faultSignal f) ∧
      (r = true → t.stSlot E.portEthCntRxAbort k = (s.countSlot E.portEthCntRxAbort k).stSlot E.portEthCntRxAbort k) ∧
      t = { s with od := t.od, ports := t.ports, out := t.out, safe := t.safe, pins := t.pins })) ∧
    (∀ sp, s.cfgSlot E.portEthSerdesMode k = 0 → s.cfgSlotOn E.portEthAnEnable k = true → (s.port k).linkUp = false → s.listens k = false → s.portState k ≠ 0 → s.portState k ≠ 5 →
      s.leads (.sgmiiControlWord k true true sp) (fun t => (t.port k).linkUp = true ∧ (t.port k).upTimer = (s.portState k == 1 || s.portState k == 4) ∧ (t.port k).speed = sp % 3 ∧ (t.port k).halfDuplex = false ∧ t.out = .controlWordAck k :: s.out ∧
        t = { s with od := t.od, ports := t.ports, out := t.out, safe := t.safe, pins := t.pins })) ∧
    ((s.port k).downTimer = true → s.portState k = 2 → s.leads (.linkDownDelayExpiry k) (fun t => (t.port k).downTimer = false ∧ (t.port k).parked = true ∧ t.portState k = 4 ∧
      t.stSlot E.portEthCntLinkDown k = (s.countSlot E.portEthCntLinkDown k).stSlot E.portEthCntLinkDown k ∧ t = { s with od := t.od, ev := t.ev, safe := t.safe, dies := t.dies, queues := t.queues, bp := t.bp, policers := t.policers, credits := t.credits, ports := t.ports, intc := t.intc, creditDue := t.creditDue, nextFid := t.nextFid, pins := t.pins, out := t.out })) ∧
    ((s.port k).upTimer = true → (s.portState k = 1 ∨ s.portState k = 4) → s.leads (.linkUpDelayExpiry k) (fun t =>
      t = ((s.updPort k (fun p => { p with upTimer := false })).portUp k).settle ∧ t.portState k = 2 ∧ (t.port k).upTimer = false ∧ (t.port k).parked = false ∧ t = { s with od := t.od, safe := t.safe, queues := t.queues, ports := t.ports, pins := t.pins, out := t.out })) ∧
    (∀ full up sp, s.listens k = false → s.portState k = 0 ∨ s.portState k = 5 → s.leads (.linkUp ⟨k, full⟩) (fun t => t = { s with safe := t.safe, pins := t.pins }) ∧
      s.leads (.sgmiiControlWord k up full sp) (fun t => t = { s with safe := t.safe, pins := t.pins }))

/-- Pause (R154 to R157): the end of a pause frees every class, or with PFC those of the class's priority; a storm ends the hold and starts a penalty; the penalty's end lifts it; a refresh sends a
pause frame for the asserted classes again, at once or after the frame in transmission. -/
def Obligations.PauseAndPenalties : Prop :=
  ∀ (s : State) (k c : Nat), s.variant.hasSlot k = true → isEth k = true → s.ethPort k = true →
    (bitAt (s.port k).pauseHeld c = true → s.cfgSlot E.portEthRxPauseMode k = 1 → s.leads (.pauseTimerExpiry k c) (fun t => t.port k = { s.port k with pauseHeld := 0 } ∧
      t.stSlot E.portEthPausedClasses k = 0 ∧ t = { s with od := t.od, ports := t.ports, safe := t.safe, pins := t.pins })) ∧
    (bitAt (s.port k).pauseHeld c = true → s.cfgSlot E.portEthRxPauseMode k = 2 → s.leads (.pauseTimerExpiry k c) (fun t =>
      (∀ i, i < 8 → bitAt (t.port k).pauseHeld i = (bitAt (s.port k).pauseHeld i && !(bitAt (s.classesOf k (2 ^ s.tcToPcp k c)) i && !bitAt (s.port k).penalty i))) ∧
      t.stSlot E.portEthPausedClasses k = (t.port k).pauseHeld ∧ t = { s with od := t.od, ports := t.ports, safe := t.safe, pins := t.pins })) ∧
    (bitAt (s.port k).pauseHeld c = true → s.headWaits k c = true → s.cfgSlot E.portEthRxPauseMode k = 1 → s.leads (.pauseWatchdogExpiry k c) (fun t =>
      (t.port k).pauseHeld = 0 ∧ (t.port k).penalty = 0xFF ∧ t = { s with od := t.od, ev := t.ev, safe := t.safe, dies := t.dies, ports := t.ports, intc := t.intc, pins := t.pins })) ∧
    (bitAt (s.port k).pauseHeld c = true → s.headWaits k c = true → s.cfgSlot E.portEthRxPauseMode k = 2 → s.leads (.pauseWatchdogExpiry k c) (fun t =>
      (t.port k).pauseHeld = clearBit (s.port k).pauseHeld c ∧ (t.port k).penalty = setBit (s.port k).penalty c ∧ t = { s with od := t.od, ev := t.ev, safe := t.safe, dies := t.dies, ports := t.ports, intc := t.intc, pins := t.pins })) ∧
    (bitAt (s.port k).penalty c = true → (s.cfgSlot E.portEthRxPauseMode k = 2 ∨ (s.port k).penalty ≠ 0xFF) → s.leads (.pausePenaltyEnd k c) (fun t =>
      t.port k = { s.port k with penalty := clearBit (s.port k).penalty c } ∧ t.stSlot E.portEthPenaltyActive k = clearBit (s.port k).penalty c ∧
      t = { s with od := t.od, ports := t.ports, safe := t.safe, pins := t.pins })) ∧
    (s.ethOnLink k = true → bitAt (s.port k).asserted c = true → s.sendingRow k = none → s.leads (.pauseRefresh k c) (fun t =>
      t.stSlot E.portEthCntTxPauseFrames k = (s.countSlot E.portEthCntTxPauseFrames k).stSlot E.portEthCntTxPauseFrames k ∧ t.out = .ethTx k (pauseFrame (s.cfgSlot E.portEthMacAddress k) (s.cfgSlot E.portEthTxPauseMode k == 2) (s.prioVec k (s.port k).asserted) (s.cfgSlot E.portEthTxPauseQuanta k)) true :: s.out ∧
      t = { s with od := t.od, out := t.out, safe := t.safe, pins := t.pins })) ∧
    (s.ethOnLink k = true → bitAt (s.port k).asserted c = true → (s.sendingRow k).isSome = true → s.leads (.pauseRefresh k c) (fun t =>
      t.port k = { s.port k with pauseOut := (s.port k).pauseOut ++ [pauseFrame (s.cfgSlot E.portEthMacAddress k) (s.cfgSlot E.portEthTxPauseMode k == 2) (s.prioVec k (s.port k).asserted)
        (s.cfgSlot E.portEthTxPauseQuanta k)] } ∧ t = { s with ports := t.ports, safe := t.safe, pins := t.pins }))

/-- What an Ethernet port sends, and its timers (R131, R159, R219, R232): the frame in transmission leaves when it completes; gPTP's intervals send Sync with Follow_Up, as grandmaster Announce too, and Pdelay_Req, and a port whose
responses fail to come is no longer asCapable (the frames' 802.1AS content is free, log 81); a DRAINING port sends no gPTP; the
end of the drain time disables the port and empties it; the end of the hold time flushes a parked port. -/
def Obligations.EthernetSendingAndTimers : Prop :=
  ∀ (s : State) (k : Nat), s.variant.hasSlot k = true →
    (∀ row cp, isEth k = true → s.ethPort k = true → s.sendingRow k = some row → (s.queue row).find? (·.sending) = some cp → s.leads (.ethTransmitComplete k) (fun t =>
      Out.ethTx k (cp.prepared.getD cp.frame).data (!(cp.prepared.getD cp.frame).sec) ∈ t.out ∧
      t.stSlot E.portEthCntTxFrames k = (s.countSlot E.portEthCntTxFrames k).stSlot E.portEthCntTxFrames k ∧
      (s.portState k = 2 → (s.port k).reconfigure = false → (s.die (slotDie k)).held = [] → s.cfgOn E.captureEnable = false →
        t.queue row = (s.queue row).eraseIdx (((s.queue row).findIdx? (·.sending)).getD 0)) ∧ t = { s with od := t.od, safe := t.safe, dies := t.dies, queues := t.queues, bp := t.bp, policers := t.policers, credits := t.credits, ports := t.ports, intc := t.intc, apps := t.apps, creditDue := t.creditDue, samples := t.samples, nextFid := t.nextFid, pins := t.pins, out := t.out })) ∧
    (isEth k = true → s.ethOnLink k = true → s.portState k = 2 → s.cfgOn E.timeGptpEnable = true → s.cfgSlotOn E.portEthGptpEnable k = true → s.cfgSlotOn E.portSecMacsecEnable k = false →
      (s.stSlot E.portEthGptpAsCapable k = 1 → s.clock.synced = true → s.cfgOn E.timeGptpGmCapable = false → s.leads (.gptpIntervalExpiry k .sync) (fun t =>
        t.out = .gptpTx k 8 (s.draw.gptpFrame k 8) :: .gptpTx k 0 (s.gptpFrame k 0) :: s.out ∧
        t.stSlot E.portEthCntTxFrames k = ((s.countSlot E.portEthCntTxFrames k).countSlot E.portEthCntTxFrames k).stSlot E.portEthCntTxFrames k ∧
        t = { s with od := t.od, out := t.out, fresh := t.fresh, safe := t.safe, pins := t.pins })) ∧
      (s.stSlot E.portEthGptpAsCapable k = 1 → s.cfgOn E.timeGptpGmCapable = true → s.leads (.gptpIntervalExpiry k .sync) (fun t =>
        t.out = .gptpTx k 0x0B (s.draw.draw.gptpFrame k 0x0B) :: .gptpTx k 8 (s.draw.gptpFrame k 8) :: .gptpTx k 0 (s.gptpFrame k 0) :: s.out ∧
        t.stSlot E.portEthCntTxFrames k = (((s.countSlot E.portEthCntTxFrames k).countSlot E.portEthCntTxFrames k).countSlot E.portEthCntTxFrames k).stSlot E.portEthCntTxFrames k ∧
        t = { s with od := t.od, out := t.out, fresh := t.fresh, safe := t.safe, pins := t.pins })) ∧
      s.leads (.gptpIntervalExpiry k .pdelay) (fun t => t.out = .gptpTx k 2 (s.gptpFrame k 2) :: s.out ∧ t.port k = { s.port k with pdelayLost := (s.port k).pdelayLost + 1 } ∧
        (allowedLostResponses < (s.port k).pdelayLost + 1 → t.stSlot E.portEthGptpAsCapable k = 0) ∧
        t = { s with od := t.od, ports := t.ports, out := t.out, fresh := t.fresh, safe := t.safe, pins := t.pins })) ∧
    (s.portState k = 3 → (s.port k).drainTimer = true → s.sendingRow k = none → s.linSending k = false → s.stSlot E.portCanPendingReEnable k ≠ 1 → s.leads (.drainTimeout k) (fun t =>
      t.portState k = 0 ∧ (t.port k).drainTimer = false ∧ (t.port k).linBuf = [] ∧ (t.port k).kept = [] ∧
      ((s.die (slotDie k)).held = [] → (s.die (slotDie k)).prcWait = [] → ∀ c, c < 8 → t.queue (queueRow (slotDie k) (slotLocal k) c) = []) ∧ t = { s with od := t.od, safe := t.safe, dies := t.dies, queues := t.queues, bp := t.bp, policers := t.policers, credits := t.credits, ports := t.ports, creditDue := t.creditDue, nextFid := t.nextFid, pins := t.pins, out := t.out })) ∧
    ((s.port k).parked = true → (s.port k).holdRunning = true → s.leads (.holdTimeExpiry k) (fun t => (t.port k).holdRunning = false ∧ (t.port k).holdExpired = true ∧
      (t.port k).parked = true ∧ ((s.die (slotDie k)).held = [] → ∀ c, c < 8 → t.queue (queueRow (slotDie k) (slotLocal k) c) = (s.queue (queueRow (slotDie k) (slotLocal k) c)).filter (·.sending)) ∧ t = { s with od := t.od, safe := t.safe, dies := t.dies, queues := t.queues, bp := t.bp, policers := t.policers, credits := t.credits, ports := t.ports, creditDue := t.creditDue, nextFid := t.nextFid, pins := t.pins, out := t.out })) ∧
    (∀ kind, isEth k = true → s.portState k = 3 → s.leads (.gptpIntervalExpiry k kind) (fun t => t = { s with safe := t.safe, pins := t.pins }))

/-- Learning and ageing (R202, R203, R207): the request at the front of a die's queue is served: a new station takes a free way of its first bucket and counts, a known one is marked hit, one that
has moved within the hold-down stays and counts, one that moves later names its new port, and a static entry of another port is a conflict; a sweeper visit moves to the next bucket or stash entry
and ages what it finds there. -/
def Obligations.LearningAndAgeing : Prop :=
  ∀ (s : State) (n : Nat), s.variant.hasDie n = true → s.inRun = true → s.dieRuns n = true →
    (∀ r rest w, (s.die n).learnQ = r :: rest → fdbFind (s.die n).fdb r.realm r.mac = none → fdbFreeWay (s.die n).fdb (fdbH1 r.realm r.mac) = some w → s.leads (.learnRequest n) (fun t =>
      (t.die n).learnQ = rest ∧ (t.die n).fdb = mput (s.die n).fdb w ⟨r.realm, r.mac, r.dest, false, false, true, 0, s.clock.ticks, if r.fabric then 1 else 0⟩ ∧
      t.stDie E.dieCntLearns n = (s.countDie E.dieCntLearns n).stDie E.dieCntLearns n ∧ t = { s with od := t.od, safe := t.safe, dies := t.dies, pins := t.pins })) ∧
    (∀ r rest p e, (s.die n).learnQ = r :: rest → fdbFind (s.die n).fdb r.realm r.mac = some p → mfind (s.die n).fdb p = some e → e.isStatic = false → s.leads (.learnRequest n) (fun t =>
      (t.die n).learnQ = rest ∧
      (e.dest = r.dest → (t.die n).fdb = mput (s.die n).fdb p { e with hit := true } ∧ t.od = s.od) ∧
      (e.dest ≠ r.dest → s.clock.ticks / 40 - e.since / 40 < 1000 * s.cfg E.fdbMoveHoldDown → (t.die n).fdb = (s.die n).fdb ∧
        t.stDie E.dieCntMoveContention n = (s.countDie E.dieCntMoveContention n).stDie E.dieCntMoveContention n) ∧
      (e.dest ≠ r.dest → 1000 * s.cfg E.fdbMoveHoldDown ≤ s.clock.ticks / 40 - e.since / 40 →
        (t.die n).fdb = mput (s.die n).fdb p ⟨r.realm, r.mac, r.dest, false, false, true, 0, s.clock.ticks, if r.fabric then 1 else 0⟩ ∧
        t.stDie E.dieCntStationMoves n = (s.countDie E.dieCntStationMoves n).stDie E.dieCntStationMoves n) ∧ t = { s with od := t.od, safe := t.safe, dies := t.dies, pins := t.pins })) ∧
    (∀ r rest p e, (s.die n).learnQ = r :: rest → fdbFind (s.die n).fdb r.realm r.mac = some p → mfind (s.die n).fdb p = some e → e.isStatic = true → s.leads (.learnRequest n) (fun t =>
      (t.die n).learnQ = rest ∧ (t.die n).fdb = (s.die n).fdb ∧
      (e.dest ≠ r.dest → e.lock = false → t.stDie E.dieCntStaticConflict n = (s.countDie E.dieCntStaticConflict n).stDie E.dieCntStaticConflict n) ∧ t = { s with od := t.od, safe := t.safe, dies := t.dies, pins := t.pins })) ∧
    ((s.die n).learnQ = [] → s.leads (.learnRequest n) (fun t => t = { s with safe := t.safe, pins := t.pins })) ∧
    s.leads (.sweeperVisit n) (fun t => (t.die n).sweep = ((s.die n).sweep + 1) % 8208 ∧
      (∀ p e, (s.die n).sweep < 8192 → p / 4 = (s.die n).sweep → mfind (s.die n).fdb p = some e → ∀ a2, e.age = some a2 → (∀ y ∈ (s.die n).fdb, y.1 / 4 = (s.die n).sweep → y.2.age ≠ none) →
        mfind (t.die n).fdb p = some a2) ∧ t = { s with od := t.od, safe := t.safe, dies := t.dies, pins := t.pins }) ∧
    (∀ e : FdbEntry, e.isStatic = false → e.age = if e.hit = true then some { e with hit := false, idle := 0 } else if e.idle = 1 then none else some { e with idle := e.idle + 1 })

/-- Tunnels (R226, R253, R255 to R258, R260, R263): an engine with nothing of its own waiting changes nothing; the copy that it takes leaves the input queue and is encapsulated: too large for the row it is
counted as oversize and leaves the PDU alone, else its messages join the row's open PDU, or open one with its class, colour, timestamp and route, and with the row's last message, or one of an urgent
class, the PDU closes and the transmit sequence advances, as it does when the flush timer expires. A producer under back-pressure keeps decapsulation waiting, and otherwise the frame at the head leaves
the queue: with a wrong header it is counted, with a repeated or late sequence number it is counted, and an accepted PDU counts, with the PDUs lost before it, and moves the receive sequence; the
resynchronisation time ends the hold of the receive sequence. -/
def Obligations.TunnelBatches : Prop :=
  ∀ s : State,
    (∀ n g, s.variant.hasDie n = true → g < 8 → s.inRun = true → s.dieRuns n = true →
      (∀ c, c < 8 → (s.queue (queueRow n 28 c)).all (fun y => y.kind == .decap || mfind (s.placementOf n).tunnels y.tunnelRow != some (n, g)) = true) →
      s.leads (.tunnelEngineTake n g) (fun t => t = { s with safe := t.safe, pins := t.pins })) ∧
    (∀ n g x cp row, s.variant.hasDie n = true → g < 8 → s.inRun = true → s.dieRuns n = true → s.bp = [] → (s.die n).held = [] → (s.die n).prcWait = [] →
      s.tunnelPick n (fun cp => cp.kind != .decap && mfind (s.placementOf n).tunnels cp.tunnelRow == some (n, g)) = (s, some x) → (s.queue x.1)[x.2]? = some cp → cp.tunnelRow = row →
      s.leads (.tunnelEngineTake n g) (fun t =>
        (s.rowMessages row cp = none → t.tunnel row = s.tunnel row ∧ t.queue x.1 = (s.queue x.1).eraseIdx x.2 ∧
          t.stRow E.tunnelCntEncapOversize row = (s.countRow E.tunnelCntEncapOversize row).stRow E.tunnelCntEncapOversize row) ∧
        (∀ ms, s.rowMessages row cp = some ms → s.tunnelRoom row < ms.flatten.length → t.tunnel row = s.tunnel row ∧ t.queue x.1 = (s.queue x.1).eraseIdx x.2 ∧
          t.stRow E.tunnelCntEncapOversize row = (s.countRow E.tunnelCntEncapOversize row).stRow E.tunnelCntEncapOversize row) ∧
        (∀ ms, s.rowMessages row cp = some ms → ms.flatten.length ≤ s.tunnelRoom row → (s.tunnel row).isOpen = true → (s.tunnel row).msgs.length + ms.flatten.length ≤ s.tunnelRoom row →
          (s.tunnel row).count + 1 ≠ s.cfgRow E.tunnelBatchMax row → cp.cls < s.cfgRow E.tunnelBatchUrgentClass row →
          t.tunnel row = { s.tunnel row with msgs := (s.tunnel row).msgs ++ ms.flatten, count := (s.tunnel row).count + 1, colour := max (s.tunnel row).colour cp.colour } ∧ t.nextFid = s.nextFid ∧ t.queue x.1 = (s.queue x.1).eraseIdx x.2) ∧
        (∀ ms, s.rowMessages row cp = some ms → ms.flatten.length ≤ s.tunnelRoom row → (s.tunnel row).isOpen = false → s.cfgRow E.tunnelBatchMax row ≠ 1 → cp.cls < s.cfgRow E.tunnelBatchUrgentClass row →
          t.tunnel row = { s.tunnel row with isOpen := true, msgs := ms.flatten, count := 1, cls := cp.cls, colour := cp.colour, ts := cp.ts, route := cp.route, timer := true } ∧ t.nextFid = s.nextFid ∧ t.queue x.1 = (s.queue x.1).eraseIdx x.2) ∧
        (∀ ms, s.rowMessages row cp = some ms → (s.tunnel row).isOpen = true → (s.tunnel row).msgs.length + ms.flatten.length ≤ s.tunnelRoom row →
          (s.tunnel row).count + 1 = s.cfgRow E.tunnelBatchMax row ∨ s.cfgRow E.tunnelBatchUrgentClass row ≤ cp.cls →
          (t.tunnel row).isOpen = false ∧ (t.tunnel row).msgs = [] ∧ (t.tunnel row).txSeq = ((s.tunnel row).txSeq + 1) % 256 ∧ t.nextFid = s.nextFid + 1 ∧
          t.stRow E.tunnelCntTxPdus row = (s.countRow E.tunnelCntTxPdus row).stRow E.tunnelCntTxPdus row) ∧
        t = { s with od := t.od, safe := t.safe, dies := t.dies, queues := t.queues, bp := t.bp, policers := t.policers, credits := t.credits, ports := t.ports, tunnels := t.tunnels, creditDue := t.creditDue, nextFid := t.nextFid, pins := t.pins, out := t.out })) ∧
    (∀ row n g, s.inRun = true → (s.tunnel row).timer = true → (s.tunnel row).isOpen = true → mfind s.sumac.inForce.tunnels row = some (n, g) → s.dieRuns n = true →
      s.leads (.flushTimerExpiry row) (fun t => t.tunnel row = { s.tunnel row with txSeq := ((s.tunnel row).txSeq + 1) % 256, isOpen := false, msgs := [], count := 0, timer := false } ∧
        t.nextFid = s.nextFid + 1 ∧ t = { s with od := t.od, safe := t.safe, dies := t.dies, queues := t.queues, bp := t.bp, ports := t.ports, tunnels := t.tunnels, creditDue := t.creditDue, nextFid := t.nextFid, pins := t.pins, out := t.out })) ∧
    (∀ n, s.variant.hasDie n = true → s.inRun = true → s.dieRuns n = true → s.producerHeld n (0x200 + n) = true → s.leads (.tunnelDecapsulate n) (fun t =>
      t = { s with safe := t.safe, pins := t.pins })) ∧
    (∀ n x cp row ver sq, s.variant.hasDie n = true → s.inRun = true → s.dieRuns n = true → s.bp = [] → (s.die n).held = [] → (s.die n).prcWait = [] → (s.die n).decapRest = none →
      s.tunnelPick n (fun cp => cp.kind == .decap) = (s, some x) → (s.queue x.1)[x.2]? = some cp → cp.tunnelRow = row → ver = (if s.cfgRow E.tunnelPduFormat row = 1 then 5 else 0x82) →
      sq = byteAt (ethPayload cp.frame.data) (if s.cfgRow E.tunnelPduFormat row = 1 then 2 else 3) → s.leads (.tunnelDecapsulate n) (fun t =>
        (byteAt (ethPayload cp.frame.data) 0 ≠ ver → t.tunnel row = s.tunnel row ∧ t.nextFid = s.nextFid ∧ t.queue x.1 = (s.queue x.1).eraseIdx x.2 ∧
          t.stRow E.tunnelCntHeaderError row = (s.countRow E.tunnelCntHeaderError row).stRow E.tunnelCntHeaderError row) ∧
        (byteAt (ethPayload cp.frame.data) 0 = ver → byteAt (ethPayload cp.frame.data) 1 / 16 % 8 = 0 →
          (pduLengths (s.cfgRow E.tunnelPduFormat row == 1) (ethPayload cp.frame.data)).1 + (pduLengths (s.cfgRow E.tunnelPduFormat row == 1) (ethPayload cp.frame.data)).2 ≤ (ethPayload cp.frame.data).length →
          (∀ e, (s.tunnel row).accepts sq = .inr e → t.tunnel row = s.tunnel row ∧ t.nextFid = s.nextFid ∧ t.queue x.1 = (s.queue x.1).eraseIdx x.2 ∧ t.stRow e row = (s.countRow e row).stRow e row) ∧
          (∀ lost, (s.tunnel row).accepts sq = .inl lost → t.tunnel row = { s.tunnel row with synced := true, rxLast := sq } ∧
            t.stRow E.tunnelCntRxPdus row = (s.countRow E.tunnelCntRxPdus row).stRow E.tunnelCntRxPdus row ∧
            t.stRow E.tunnelCntLostPdus row = (s.countRow E.tunnelCntLostPdus row lost).stRow E.tunnelCntLostPdus row)) ∧ t = { s with od := t.od, ev := t.ev, safe := t.safe, dies := t.dies, queues := t.queues, bp := t.bp, policers := t.policers, credits := t.credits, ports := t.ports, limiters := t.limiters, tunnels := t.tunnels, creditDue := t.creditDue, nextFid := t.nextFid, pins := t.pins, out := t.out })) ∧
    (∀ row, (s.tunnel row).synced = true → s.leads (.resyncTimeout row) (fun t => t.tunnel row = { s.tunnel row with synced := false } ∧ t = { s with safe := t.safe, tunnels := t.tunnels, pins := t.pins })) ∧
    (∀ (t : Tunnel) q, t.synced = true → t.accepts q = if (q + 256 - t.rxLast) % 256 = 0 then .inr E.tunnelCntDupPdus
      else if (q + 256 - t.rxLast) % 256 ≤ 128 then .inl ((q + 256 - t.rxLast) % 256 - 1) else .inr E.tunnelCntLatePdus) ∧
    (∀ (t : Tunnel) q, t.synced = false → t.accepts q = .inl 0)

/-- Multifunction inputs (R294 to R296): a conversion becomes the last one and, with `mi.average` 0 in analog mode, the value; an edge of a frequency or duty input is kept; the comparator's
level becomes the value when its debounce ends; a gate with a rising edge makes that edge the next gate's reference and, where there was one before, gives the value; the open-wire slot's conversion becomes the last one (log 42's reading) and no value. -/
def Obligations.MultifunctionInputs : Prop :=
  ∀ (s : State) (i : Nat), i < 16 → s.measureOn = true →
    (∀ v, s.cfgMi E.miMode i = 1 → s.cfgMi E.miAverage i = 0 → s.leads (.miConversion i v) (fun t => (t.mi i).lastConv = v ∧ (t.mi i).convs = [v] ∧ (t.mi i).has = true ∧
      t.stSlot E.miValue i = encodeF32 ⟨v, 1000000⟩ ∧ t = { s with od := t.od, ev := t.ev, power := t.power, island := t.island, safe := t.safe, dies := t.dies, queues := t.queues, ports := t.ports, mram := t.mram, intc := t.intc, measure := t.measure, pins := t.pins, out := t.out })) ∧
    (∀ r, (s.cfgMi E.miMode i = 3 ∨ s.cfgMi E.miMode i = 4) → s.leads (.miEdge i r) (fun t => t.mi i = (s.mi i).edge r s.clock.ticks ∧
      t = { s with measure := t.measure, safe := t.safe, pins := t.pins })) ∧
    (s.cfgMi E.miMode i = 2 → (s.mi i).debounce = true → s.leads (.miDebounceExpiry i) (fun t => (t.mi i).debounce = false ∧ (t.mi i).has = true ∧
      t.stSlot E.miValue i = encodeF32 (Exact.ofNat (if (s.mi i).level then 1 else 0)) ∧ t = { s with od := t.od, ev := t.ev, power := t.power, island := t.island, safe := t.safe, dies := t.dies, queues := t.queues, ports := t.ports, mram := t.mram, intc := t.intc, measure := t.measure, pins := t.pins, out := t.out })) ∧
    (∀ tn rest, (s.cfgMi E.miMode i = 3 ∨ s.cfgMi E.miMode i = 4) → (s.mi i).rises = tn :: rest → s.leads (.miGateEnd i) (fun t => (t.mi i).ref = some tn ∧ (t.mi i).rises = [] ∧
      (∀ v, (s.mi i).gateValue (s.cfgMi E.miMode i == 4) = some v → t.stSlot E.miValue i = v ∧ (t.mi i).has = true) ∧
      t = { s with od := t.od, ev := t.ev, safe := t.safe, dies := t.dies, ports := t.ports, mram := t.mram, intc := t.intc, measure := t.measure, pins := t.pins, out := t.out })) ∧
    (∀ v, s.cfgMi E.miMode i ≠ 0 → s.cfgMi E.miDiagOpenEnable i = 1 → s.leads (.miDiagnosticSlot i v) (fun t => (t.mi i).lastConv = v ∧ (t.mi i).convs = (s.mi i).convs ∧
      t = { s with od := t.od, ev := t.ev, island := t.island, safe := t.safe, dies := t.dies, intc := t.intc, measure := t.measure, pins := t.pins, out := t.out }))

/-- Speed inputs, distance and freshness (R122, R298, R299, R301, R302): a counted edge advances the 48-bit count; standstill is a speed of 0, valid unless an overrange lasts; a differential input reports open; a deceleration update
before standstill lowers the speed; counts, reversed states and freshness values are written to MRAM. -/
def Obligations.SpeedInputs : Prop :=
  ∀ s : State,
    (∀ k h, k < 4 → s.measureOn = true → s.cfgMi E.spdMode k ≠ 0 → (s.spd k).refNext = false → s.leads (.spdCountedEdge k h) (fun t =>
      (t.spd k).count = ((s.spd k).count + 1) % 2 ^ 48 ∧ t.stSlot E.spdLastEdge k = s.gptp ∧ t = { s with od := t.od, ev := t.ev, safe := t.safe, dies := t.dies, ports := t.ports, mram := t.mram, intc := t.intc, measure := t.measure, pins := t.pins, out := t.out })) ∧
    (∀ k h, k < 4 → s.measureOn = true → s.cfgMi E.spdMode k ≠ 0 → (s.spd k).refNext = true → s.leads (.spdCountedEdge k h) (fun t =>
      (t.spd k).count = (s.spd k).count ∧ (t.spd k).ref = some s.clock.ticks ∧ t = { s with od := t.od, ev := t.ev, safe := t.safe, dies := t.dies, ports := t.ports, mram := t.mram, intc := t.intc, measure := t.measure, pins := t.pins, out := t.out })) ∧
    (∀ k, k < 4 → s.measureOn = true → s.cfgMi E.spdMode k ≠ 0 → s.leads (.spdZeroTimeout k) (fun t => (t.spd k).valid = !(s.spd k).overrange ∧ (t.spd k).overrange = (s.spd k).overrange ∧
      (t.spd k).count = (s.spd k).count ∧ t.stSlot E.spdSpeed k = 0 ∧ t.stSlot E.spdFrequency k = 0 ∧ t = { s with od := t.od, ev := t.ev, safe := t.safe, dies := t.dies, ports := t.ports, mram := t.mram, intc := t.intc, measure := t.measure, pins := t.pins, out := t.out })) ∧
    (∀ k, k < 4 → s.measureOn = true → s.cfgMi E.spdMode k ≠ 0 → (s.spd k).valid = true → 0 < (s.spdSpan k).1 →
      (s.spdSpan k).2 < (s.clock.ticks - (s.spd k).edges.headD 0) * (s.spdSpan k).1 → s.clock.ticks - (s.spd k).edges.headD 0 < msTicks (s.cfgMi E.spdZeroTimeout k) → s.leads (.spdDecelerationUpdate k) (fun t =>
        t.stSlot E.spdSpeed k = encodeF32 (ratio (3600 * 40000000) (s.cfgMi E.spdPulsesPerKm k * (s.clock.ticks - (s.spd k).edges.headD 0))) ∧ t.spd k = s.spd k ∧ t = { s with od := t.od, ev := t.ev, safe := t.safe, dies := t.dies, ports := t.ports, mram := t.mram, intc := t.intc, measure := t.measure, pins := t.pins, out := t.out })) ∧
    (∀ k b, k < 4 → s.measureOn = true → s.cfgMi E.spdMode k = 2 → s.leads (.spdOpen k b) (fun t => t.spd k = { s.spd k with isOpen := b, edges := if b = (s.spd k).isOpen then (s.spd k).edges else [] } ∧
      (b = true → (s.spd k).isOpen = false → t.stSlot E.spdCntOpen k = (s.countSlot E.spdCntOpen k).stSlot E.spdCntOpen k) ∧ t = { s with od := t.od, safe := t.safe, measure := t.measure, pins := t.pins })) ∧
    (s.inRun = true → s.leads .distanceStore (fun t => t.mram.spdRtc = s.rtc ∧ (∀ k, k < 4 → mget 0 t.mram.spdCounts k = (s.spd k).count ∧ bitAt t.mram.spdReversed k = (s.spd k).reversed) ∧ t = { s with safe := t.safe, mram := t.mram, pins := t.pins })) ∧
    (s.inRun = true → s.leads .freshnessStore (fun t => t.mram = { s.mram with latest := s.fresh64, lastWriteRtc := s.rtc } ∧ t = { s with safe := t.safe, mram := t.mram, pins := t.pins }))

/-- The supply and the WK inputs (R303, R304, R309): each conversion joins the last 16, whose mean is the voltage, and the sampled levels are `wk.levels`. A tap value held back is sent when its interval ends, and D0 takes the first value of a tap, replaces it by one of a later
ingress timestamp and discards and counts any other. -/
def Obligations.SuppliesLevelsAndTaps : Prop :=
  ∀ s : State,
    (∀ v, s.measureOn = true → s.leads (.vbatpConversion v) (fun t => t.measure.vbat = (v :: s.measure.vbat).take 16 ∧ t.measure.vbatCount = s.measure.vbatCount + 1 ∧
      (15 ≤ s.measure.vbat.length → t.st E.vbatVoltage = encodeF32 ⟨((v :: s.measure.vbat).take 16).sum, 16000000⟩ ∧ t.st E.vbatTimestamp = s.gptp) ∧ t = { s with od := t.od, ev := t.ev, safe := t.safe, dies := t.dies, ports := t.ports, mram := t.mram, intc := t.intc, measure := t.measure, pins := t.pins, out := t.out })) ∧
    (∀ w, s.measureOn = true → s.leads (.wkLevelSample w) (fun t => t.measure.wk = some (w % 256) ∧ t.st E.wkLevels = w % 256 ∧ t = { s with od := t.od, ev := t.ev, power := t.power, safe := t.safe, dies := t.dies, ports := t.ports, mram := t.mram, intc := t.intc, measure := t.measure, pins := t.pins, out := t.out })) ∧
    (∀ n row v, s.variant.hasDie n = true → s.inRun = true → s.dieRuns n = true → (mget {} (s.die n).taps row).held = some v → s.leads (.tapIntervalEnd n row) (fun t =>
      t = (s.sendTap n row v).settle ∧ (s.laneRoom n = true → (t.die n).lane2 = (s.die n).lane2 ++ [.tap row v.1 v.2.1 v.2.2] ∧ (mget {} (t.die n).taps row).held = none) ∧ t = { s with safe := t.safe, dies := t.dies, pins := t.pins })) ∧
    (∀ n row v ts slot l, s.variant.hasDie n = true → s.rulesOn = true → s.linkTo n = true → (s.die n).lane2 = .tap row v ts slot :: l → s.cfgRowOn E.tapValid row = true →
      mfind s.measure.taps row = none → s.leads (.tapValueReceive n) (fun t => mfind t.measure.taps row = some (v, ts, slot) ∧ (t.die n).lane2 = l ∧ t = { s with od := t.od, ev := t.ev, safe := t.safe, dies := t.dies, ports := t.ports, mram := t.mram, intc := t.intc, measure := t.measure, pins := t.pins, out := t.out })) ∧
    (∀ n row v ts slot l y, s.variant.hasDie n = true → s.rulesOn = true → s.linkTo n = true → (s.die n).lane2 = .tap row v ts slot :: l → s.cfgRowOn E.tapValid row = true →
      mfind s.measure.taps row = some y → s.leads (.tapValueReceive n) (fun t => (t.die n).lane2 = l ∧
        (y.2.1 < ts → mfind t.measure.taps row = some (v, ts, slot)) ∧
        (ts ≤ y.2.1 → mfind t.measure.taps row = some y ∧ t.stRow E.tapCntSuperseded row = (s.countRow E.tapCntSuperseded row).stRow E.tapCntSuperseded row) ∧ t = { s with od := t.od, ev := t.ev, safe := t.safe, dies := t.dies, ports := t.ports, mram := t.mram, intc := t.intc, measure := t.measure, pins := t.pins, out := t.out }))

/-- Plausibility rules (R309 to R313, Table 10-4): with no valid row an evaluation changes nothing; a rule in OK whose values disagree becomes PENDING, and one whose inputs are stale returns to NOT_READY; a PENDING rule whose values still disagree when its timer runs out fires: it is VIOLATED, with the offending slot
of its tap; agreement takes a PENDING rule back to OK. -/
def Obligations.RulesMoveByTheirVerdict : Prop :=
  ∀ s : State, s.rulesOn = true →
    (s.validRows E.ruleValid = [] → s.leads .ruleEvaluation (fun t => t = { s with safe := t.safe, pins := t.pins })) ∧
    s.leads .ruleEvaluation (fun t => t = (s.forAll (s.validRows E.ruleValid) (fun s r => s.evalRule r false)).settle ∧
      (∀ row, s.validRows E.ruleValid = [row] → (s.rule row).state = 2 → s.verdict row = .disagree → s.cfgRow E.rulePersistence row ≠ 0 → (t.rule row).state = 3 ∧ (t.rule row).timer = true) ∧
      (∀ row, s.validRows E.ruleValid = [row] → (s.rule row).state = 3 → s.verdict row = .stale → (t.rule row).state = 1) ∧ t = { s with od := t.od, ev := t.ev, safe := t.safe, dies := t.dies, ports := t.ports, mram := t.mram, intc := t.intc, measure := t.measure, pins := t.pins, out := t.out }) ∧
    (∀ row, s.cfgRowOn E.ruleValid row = true → (s.rule row).timer = true → (s.rule row).state = 3 → s.verdict row = .disagree → s.leads (.ruleTimerExpiry row) (fun t =>
      (t.rule row).state = 4 ∧ (t.rule row).timer = false ∧ (t.rule row).slot = s.offender row ∧ t = { s with od := t.od, ev := t.ev, safe := t.safe, dies := t.dies, ports := t.ports, mram := t.mram, intc := t.intc, measure := t.measure, pins := t.pins, out := t.out })) ∧
    (∀ row, s.cfgRowOn E.ruleValid row = true → (s.rule row).timer = true → (s.rule row).state = 3 → s.verdict row = .agree → s.leads (.ruleTimerExpiry row) (fun t =>
      (t.rule row).state = 2 ∧ (t.rule row).timer = false ∧ t = { s with od := t.od, ev := t.ev, safe := t.safe, dies := t.dies, ports := t.ports, mram := t.mram, intc := t.intc, measure := t.measure, pins := t.pins, out := t.out }))

/-- gPTP and the life cycle's own events (R159, R360, Table 12-4): synchronisation gained, lost, or of another grandmaster is what the time unit then says; the end of the service time asks for the return to FIELD; once its record has been delivered, RETIRED-pending begins its last transition behind a seal, or without seal numbers makes the device
RETIRED at once (log 44's readings). -/
def Obligations.TimeAndLifeCycleEvents : Prop :=
  ∀ s : State, s.inRun = true →
    (s.cfgOn E.timeGptpEnable = true →
      s.leads (.gptpSyncStateChange .synced) (fun t => t.clock.synced = true ∧ t.clock.gmIdentity = s.clock.gmIdentity ∧ t.clock.ticks = s.clock.ticks ∧ t = { s with clock := t.clock, ev := t.ev, safe := t.safe, dies := t.dies, pins := t.pins, fresh := t.fresh }) ∧
      s.leads (.gptpSyncStateChange .lost) (fun t => t.clock = { s.clock with synced := false } ∧ t = { s with clock := t.clock, ev := t.ev, safe := t.safe, dies := t.dies, pins := t.pins, fresh := t.fresh }) ∧
      (∀ g, s.leads (.gptpSyncStateChange (.grandmaster g)) (fun t => t.clock.gmIdentity = g % 2 ^ 64 ∧ t.clock.synced = s.clock.synced ∧ t = { s with clock := t.clock, ev := t.ev, safe := t.safe, dies := t.dies, pins := t.pins, fresh := t.fresh }))) ∧
    (s.life.state = 3 → s.life.change = none → s.safe.securityDown = false → s.ev.nextSeal < sealNumbers → s.leads .serviceTimeout (fun t =>
      t.life = { s.life with change := some ⟨2, 0, 0⟩, request := none, serviceTime := 0 } ∧ t = { s with od := t.od, sessions := t.sessions, lockHolder := t.lockHolder, commit := t.commit, ev := t.ev, safe := t.safe, dies := t.dies, mram := t.mram, intc := t.intc, keys := t.keys, fuses := t.fuses, life := t.life, pins := t.pins, out := t.out })) ∧
    (s.life.state = 5 → s.pendingDone = true → s.safe.securityDown = false → s.life.change = none → s.leads .retiredPendingBurn (fun t =>
      (s.ev.nextSeal < sealNumbers → t.life = { s.life with change := some ⟨4, 0, 0⟩, request := none } ∧ t.fuses = s.fuses) ∧
      (sealNumbers ≤ s.ev.nextSeal → t.life.state = 4 ∧ t.fuses = s.fuses.transition 5 4 ∧ t.ev.closed = true) ∧ t = { s with od := t.od, sessions := t.sessions, lockHolder := t.lockHolder, commit := t.commit, ev := t.ev, safe := t.safe, dies := t.dies, mram := t.mram, intc := t.intc, keys := t.keys, fuses := t.fuses, life := t.life, pins := t.pins, out := t.out }))

/-- Writes of the dictionary (R63, R64, R65, R67, R86, R137): a write of a staged entry enters the staging image under the session's lock and changes no value in use; of a live entry of the
session it takes effect at once; the row cursor moves; the row action stages `valid` false and every other field at its effective default (log 60's reading); a counter's clearing sets exactly its counters to 0; a relayed answer leaves. -/
def Obligations.DictionaryWrites : Prop :=
  ∀ (s : State) (sess index sub : Nat) (o : OdObject), odObject s.variant index = some o →
    (∀ b x, s.accepts sess index sub (s.cursorRow sess index) b = true → odEntry s.variant (index * 256 + sub) = some x → x.acc = .rw → x.live = false → s.mayStage sess = true →
      s.hasRoom [(okey (index * 256 + sub) (o.keyRow (s.cursorRow sess index)), leNat b)] = true → s.leads (.odEntryWrite sess index sub b) (fun t =>
        t.lockHolder = some sess ∧ mfind t.od.staging (okey (index * 256 + sub) (o.keyRow (s.cursorRow sess index))) = some (leNat b) ∧
        (∀ k, k ≠ okey (index * 256 + sub) (o.keyRow (s.cursorRow sess index)) → mget 0 t.od.staging k = mget 0 s.od.staging k) ∧ (t.sess sess).lastStatus = 0 ∧
        t = { s with od := { s.od with staging := t.od.staging }, lockHolder := some sess, sessions := t.sessions, relays := t.relays, safe := t.safe, pins := t.pins, out := t.out })) ∧
    (∀ b x, s.accepts sess index sub (s.cursorRow sess index) b = true → odEntry s.variant (index * 256 + sub) = some x → x.acc = .rw → x.live = false → s.committing = true →
      s.leads (.odEntryWrite sess index sub b) (fun t => (t.sess sess).lastStatus = 0x0C ∧
        t = { s with sessions := t.sessions, relays := t.relays, safe := t.safe, pins := t.pins, out := t.out })) ∧
    (∀ b, s.accepts sess index sub (s.cursorRow sess index) b = true → sessionEntry (index * 256 + sub) = true → s.leads (.odEntryWrite sess index sub b) (fun t =>
      t.live sess (index * 256 + sub) = leNat b ∧ (∀ e, e ≠ index * 256 + sub → t.live sess e = s.live sess e) ∧ (t.sess sess).lastStatus = 0 ∧
      t = { s with sessions := t.sessions, relays := t.relays, safe := t.safe, pins := t.pins, out := t.out })) ∧
    (∀ b, s.hasSess sess = true → s.serves sess = true → o.cap ≠ 0 → s.reachStatus sess index 0xFE (s.cursorRow sess index) o = 0 → o.rowRead ≤ s.sessLevel sess → b.length = 4 →
      leNat b < o.rows s.variant → s.leads (.odEntryWrite sess index 0xFE b) (fun t => mget 0 (t.sess sess).cursors index = leNat b ∧ (t.sess sess).lastStatus = 0 ∧
        t = { s with sessions := t.sessions, relays := t.relays, safe := t.safe, pins := t.pins, out := t.out })) ∧
    (s.hasSess sess = true → s.serves sess = true → o.cap ≠ 0 → o.rowWrite ≠ 9 → s.reachStatus sess index 0xFF (s.cursorRow sess index) o = 0 → o.rowWrite ≤ s.sessLevel sess →
      s.mayStage sess = true → s.hasRoom (o.fields.map (fun f => (okey (index * 256 + f) (s.cursorRow sess index), if f == 1 then 0 else s.effDefault (okey (index * 256 + f) (s.cursorRow sess index))))) = true →
      s.leads (.rowAction sess index 1) (fun t => t.lockHolder = some sess ∧
        (∀ f, f ∈ o.fields → mfind t.od.staging (okey (index * 256 + f) (s.cursorRow sess index)) = some (if f = 1 then 0 else s.effDefault (okey (index * 256 + f) (s.cursorRow sess index)))) ∧
        (∀ k, (∀ f, f ∈ o.fields → k ≠ okey (index * 256 + f) (s.cursorRow sess index)) → mget 0 t.od.staging k = mget 0 s.od.staging k) ∧ (t.sess sess).lastStatus = 0 ∧
        t = { s with od := { s.od with staging := t.od.staging }, lockHolder := some sess, sessions := t.sessions, relays := t.relays, safe := t.safe, pins := t.pins, out := t.out })) ∧
    (s.accepts sess index sub (s.cursorRow sess index) [1] = true → clearRanges index sub ≠ [] → s.leads (.counterClear sess index sub) (fun t =>
      (∀ r k, r ∈ clearRanges index sub → r.1 ≤ k → k ≤ r.2 → t.stRow (index * 256 + k) (o.keyRow (s.cursorRow sess index)) = 0) ∧
      (∀ e row, (∀ r k, r ∈ clearRanges index sub → r.1 ≤ k → k ≤ r.2 → okey e row ≠ okey (index * 256 + k) (o.keyRow (s.cursorRow sess index))) → t.stRow e row = s.stRow e row) ∧
      (t.sess sess).lastStatus = 0 ∧
      t = { s with od := { s.od with stat := t.od.stat }, sessions := t.sessions, relays := t.relays, safe := t.safe, pins := t.pins, out := t.out })) ∧
    (∀ a l, mget [] s.relays sess = a :: l → s.leads (.odRelayResponse sess) (fun t => t = ({ s with relays := mset [] s.relays sess l }.send a).settle ∧ t = { s with od := t.od, relays := t.relays, safe := t.safe, dies := t.dies, queues := t.queues, bp := t.bp, policers := t.policers, credits := t.credits, ports := t.ports, creditDue := t.creditDue, nextFid := t.nextFid, pins := t.pins, fresh := t.fresh, out := t.out })) ∧
    (∀ a l, mget [] s.relays sess = a :: l → (match a with | .anise _ _ => false | _ => true) = true → s.leads (.odRelayResponse sess) (fun t => t.out = a :: s.out ∧ mget [] t.relays sess = l ∧
      (∀ x, x ≠ sess → mget [] t.relays x = mget [] s.relays x) ∧ t = { s with relays := t.relays, out := t.out, safe := t.safe, pins := t.pins }))

/-- PHY management (R174): a write of `phy.mdio.op` sends its operation with the port's fields when none of the die is under way and waits behind the others else; its acknowledgement waits for the
operation's end, which leaves a read's result in `phy.mdio.data`, answers (log 59's reading), and sends the next. -/
def Obligations.PhyManagement : Prop :=
  ∀ s : State,
    (∀ sess slot c op, [(Instr.mdioC22Read sess slot, 1), (.mdioC22Write sess slot, 2), (.mdioC45Read sess slot, 3), (.mdioC45Write sess slot, 4)].contains (c, op) = true →
      isEth slot = true → s.variant.hasSlot slot = true → s.accepts sess (0x2000 + slot) 0x64 noRow [BitVec.ofNat 8 op] = true → s.answers (slotDie slot) = true →
      (op < 3 → s.cfg (E.portEthPhyMdioRegister + slot * 256) ≤ 31) → s.leads c (fun t =>
        (t.die (slotDie slot)).mdio = (s.die (slotDie slot)).mdio ++ [⟨slot, op, s.cfg (E.portEthPhyMdioPhyAddress + slot * 256), s.cfg (E.portEthPhyMdioDevad + slot * 256),
          s.cfg (E.portEthPhyMdioRegister + slot * 256), s.cfg (E.portEthPhyMdioData + slot * 256), sess, some (.odResponse sess 0 [])⟩] ∧
        t.out = (if (s.die (slotDie slot)).mdio = [] then [.mdio slot op (s.cfg (E.portEthPhyMdioPhyAddress + slot * 256)) (s.cfg (E.portEthPhyMdioDevad + slot * 256))
          (s.cfg (E.portEthPhyMdioRegister + slot * 256)) (s.cfg (E.portEthPhyMdioData + slot * 256))] else []) ++ s.out ∧
        (∀ n, n ≠ slotDie slot → t.die n = s.die n) ∧ t = { s with dies := t.dies, sessions := t.sessions, out := t.out, safe := t.safe, pins := t.pins })) ∧
    (∀ n data answered x rest, s.variant.hasDie n = true → s.inRun = true → s.dieRuns n = true → (s.die n).mdio = x :: rest → s.leads (.mdioOperationComplete n data answered) (fun t =>
      (t.die n).mdio = rest ∧
      t.cfg (E.portEthPhyMdioData + x.slot * 256) = (if x.op % 2 = 1 then (if x.op = 1 ∧ answered = false then 0xFFFF else data % 65536) else s.cfg (E.portEthPhyMdioData + x.slot * 256)) ∧
      (∀ e row, okey e row ≠ okey (E.portEthPhyMdioData + x.slot * 256) noRow → t.cfgRow e row = s.cfgRow e row) ∧
      (∀ st d, x.answer = some (Out.odResponse x.sess st d) → Out.odResponse x.sess st d ∈ t.out ∨ Out.odResponse x.sess st d ∈ mget [] t.relays x.sess) ∧
      (∀ y l, rest = y :: l → t.out.head? = some (.mdio y.slot y.op y.phy y.devad y.reg y.data)) ∧ t = { s with od := t.od, sessions := t.sessions, relays := t.relays, safe := t.safe, dies := t.dies, queues := t.queues, bp := t.bp, policers := t.policers, credits := t.credits, ports := t.ports, intc := t.intc, apps := t.apps, creditDue := t.creditDue, nextFid := t.nextFid, pins := t.pins, fresh := t.fresh, out := t.out }))

/-- Operating writes (R100, R114, R117, R206, R288, R302, R330, R332): the RTC is set and valid; SAFE_N is released exactly when no condition holds; a distance count becomes 0; the host's seal joins the triggers due; held
records up to a sequence are delivered; learned entries of the named realm leave every die's forwarding database; a bus-off port in restart mode 0 begins its recovery, and a slot of no port has no such entry (R17); the port's rule blocks end. -/
def Obligations.OperatingWrites : Prop :=
  ∀ (s : State) (sess : Nat),
    (∀ v, s.takes sess E.timeRtcSeconds (toLE 4 v) = true → s.leads (.rtcWrite sess v) (fun t =>
      t.clock = { s.clock with rtcBase := v % 2 ^ 32, rtcTick := s.clock.xrtc, rtcValid := true } ∧ (t.sess sess).lastStatus = 0 ∧
      t = { s with clock := t.clock, sessions := t.sessions, relays := t.relays, ev := t.ev, safe := t.safe, dies := t.dies, pins := t.pins, out := t.out })) ∧
    (∀ v, s.takes sess E.safeRelease (toLE 1 v) = true → s.leads (.safeRelease sess v) (fun t =>
      (s.safeClear = true → t.safe = { s.safe with driven := false, conds := [] } ∧ (t.sess sess).lastStatus = 0) ∧
      (s.safeClear = false → t.safe = s.safe ∧ (t.sess sess).lastStatus = 0x0A) ∧ t = { s with sessions := t.sessions, relays := t.relays, safe := t.safe, pins := t.pins, out := t.out })) ∧
    (∀ k v, k < 4 → s.accepts sess (0x3028 + k) 0x08 noRow (toLE 1 v) = true → s.leads (.distanceReset sess k v) (fun t =>
      t.spd k = { s.spd k with count := 0 } ∧ (∀ j, j ≠ k → t.spd j = s.spd j) ∧ (t.sess sess).lastStatus = 0 ∧ t = { s with sessions := t.sessions, relays := t.relays, ev := t.ev, safe := t.safe, dies := t.dies, measure := t.measure, pins := t.pins, out := t.out })) ∧
    (∀ v, s.takes sess E.sealNow (toLE 1 v) = true → s.ev.running = true → s.leads (.sealNowEntry sess v) (fun t =>
      (s.ev.job.isSome = true → t.ev.due = s.ev.due ++ [2] ∧ t.ev.job = s.ev.job) ∧
      (s.ev.job = none → s.ev.activeTree = true → s.ev.spacing = false → s.ev.nextSeal < sealNumbers →
        t.ev.due = [] ∧ t.ev.job.map (·.trigger) = some ((s.ev.due ++ [2]).foldl max 0) ∧ t.ev.job.map (·.lastSeq) = some s.ev.lastSeq) ∧
      (t.sess sess).lastStatus = 0 ∧ t = { s with od := t.od, sessions := t.sessions, relays := t.relays, ev := t.ev, safe := t.safe, dies := t.dies, mram := t.mram, intc := t.intc, pins := t.pins, out := t.out })) ∧
    (∀ n, s.takes sess E.journalAck (toLE 8 n) = true → s.leads (.journalAck sess n) (fun t =>
      t.ev = { s.ev with journal := s.ev.journal.map (fun x => if s.ev.floor ≤ x.2.seq ∧ x.2.seq ≤ n % 2 ^ 64 then (x.1, { x.2 with delivered := true }) else x) } ∧
      (t.sess sess).lastStatus = 0 ∧ t = { s with sessions := t.sessions, relays := t.relays, ev := t.ev, safe := t.safe, pins := t.pins, out := t.out })) ∧
    (∀ v, s.takes sess E.fdbFlush (toLE 2 v) = true → s.leads (.fdbFlush sess v) (fun t =>
      (∀ n x, n ∈ s.dieList → x ∈ (t.die n).fdb → x.2.isStatic = true ∨ (v % 65536 ≠ 0xFFFF ∧ x.2.realm ≠ v % 65536)) ∧
      (∀ n p e, p < 32768 → mfind (s.die n).fdb p = some e → e.isStatic = true ∨ (v % 65536 ≠ 0xFFFF ∧ e.realm ≠ v % 65536) → mfind (t.die n).fdb p = some e) ∧
      (t.sess sess).lastStatus = 0 ∧ t = { s with od := t.od, sessions := t.sessions, relays := t.relays, safe := t.safe, dies := t.dies, pins := t.pins, out := t.out })) ∧
    (∀ slot v, s.variant.hasSlot slot = true → isCan slot = true → s.accepts sess (0x2000 + slot) 0x1B noRow (toLE 1 v) = true → s.leads (.canRecover sess slot v) (fun t =>
      (s.portState slot = 4 → s.cfgSlot E.portCanBusOffRestart slot = 0 → t.port slot = { s.port slot with restartArmed := false, recovering := true }) ∧
      (s.portState slot ≠ 4 ∨ s.cfgSlot E.portCanBusOffRestart slot ≠ 0 → t.port slot = s.port slot) ∧ (∀ p, p ≠ slot → t.port p = s.port p) ∧
      (t.sess sess).lastStatus = 0 ∧ t = { s with sessions := t.sessions, relays := t.relays, safe := t.safe, ports := t.ports, pins := t.pins, out := t.out })) ∧
    (∀ slot v, slot < 256 → s.hasSess sess = true → s.serves sess = true → sess ≠ 0 → s.answers (s.carrier sess) = true → s.safe.securityDown = false → odObject s.variant (0x2000 + slot) = none → s.leads (.canRecover sess slot v) (fun t =>
      (t.sess sess).lastStatus = 0x01 ∧ t = { s with sessions := t.sessions, relays := t.relays, safe := t.safe, pins := t.pins, out := t.out })) ∧
    (∀ slot, s.variant.hasSlot slot = true → isCan slot = true → s.accepts sess (0x2200 + slot) 0x05 noRow [1] = true → s.leads (.clearBlock sess slot) (fun t =>
      t.port slot = { s.port slot with blocks := [] } ∧ (∀ p, p ≠ slot → t.port p = s.port p) ∧ (t.sess sess).lastStatus = 0 ∧
      t = { s with sessions := t.sessions, relays := t.relays, safe := t.safe, ports := t.ports, pins := t.pins, out := t.out }))

/-- Writes that readmit a die, restart an application pair or leave RUN (R283, R378, R428): a LOST die begins readmission; an enabled pair is held for its restart delay; a power request that nothing stops enters the mode. -/
def Obligations.UnitWrites : Prop :=
  ∀ (s : State) (sess : Nat),
    (∀ n, s.variant.hasDie n = true → s.accepts sess 0x2710 0x06 n [1] = true → s.leads (.readmit sess n) (fun t =>
      ((s.die n).state = 4 → (t.die n).state = 5 ∧ (t.die n).fdb = [] ∧ t.app n = {} ∧ (t.sess sess).lastStatus = 0 ∧ (∀ m, m ≠ n → t.die m = s.die m) ∧
        t = { s with od := t.od, sessions := t.sessions, relays := t.relays, safe := t.safe, dies := t.dies, queues := t.queues, bp := t.bp, links := t.links, ports := t.ports, sumac := t.sumac, intc := t.intc, apps := t.apps, tunnels := t.tunnels, pins := t.pins, out := t.out }) ∧
      ((s.die n).state ≠ 4 → (t.sess sess).lastStatus = 0x0A ∧ t = { s with sessions := t.sessions, relays := t.relays, safe := t.safe, pins := t.pins, out := t.out }))) ∧
    (∀ n v, s.variant.hasDie n = true → s.accepts sess (0x360F + n) 0x04 noRow (toLE 1 v) = true → s.leads (.appRestart sess n v) (fun t =>
      (s.cfgOn E.appEnable = true → s.update.trial ≠ some 2 → t.stDie E.appState n = 2 ∧ (t.app n).delayArmed = true ∧ (t.app n).running = false ∧ (t.app n).resetCause = 4 ∧
        t.stDie E.appLastResetCause n = 4 ∧ (t.sess sess).lastStatus = 0) ∧
      (s.cfgOn E.appEnable = false → t.app n = s.app n ∧ (t.sess sess).lastStatus = 0x0A ∧ t = { s with sessions := t.sessions, relays := t.relays, safe := t.safe, pins := t.pins, out := t.out }) ∧
      t = { s with od := t.od, sessions := t.sessions, relays := t.relays, lockHolder := t.lockHolder, commit := t.commit, ev := t.ev, safe := t.safe, dies := t.dies, intc := t.intc, apps := t.apps, update := t.update, pins := t.pins, out := t.out })) ∧
    (∀ c m, [(Instr.powerRequestListen sess, 1), (.powerRequestStandby sess, 2)].contains (c, m) = true → s.takes sess E.powerRequest [BitVec.ofNat 8 m] = true → s.leads c (fun t =>
      (s.requestStatus = 0 → t.power.mode = .entering ∧ t.power.target = m ∧ t.power.halted = false ∧
        t.power.enabled = (s.slotList.filter (fun p => s.portRuns p && s.portState p != 0)).filter s.enabled ∧ (t.sess sess).lastStatus = 0 ∧ t = { s with od := t.od, sessions := t.sessions, relays := t.relays, power := t.power, safe := t.safe, dies := t.dies, queues := t.queues, bp := t.bp, policers := t.policers, credits := t.credits, ports := t.ports, intc := t.intc, creditDue := t.creditDue, nextFid := t.nextFid, pins := t.pins, out := t.out }) ∧
      (s.requestStatus ≠ 0 → (t.sess sess).lastStatus = s.requestStatus ∧ t.power = s.power ∧ t = { s with sessions := t.sessions, relays := t.relays, safe := t.safe, pins := t.pins, out := t.out })))

/-- The life cycle and its root keys (R355, R358, R359, R370 to R373): a request of Table 12-3 draws its token; a confirmation with that token from its session in time begins the transition, or, where
it is refused, burns nothing and answers the refusal's status; a confirmation with another token, from another session or too late ends the request with 0x0A. That without seal numbers left the transition
burns at once, and that a refused confirmation leaves its request, are log 44's readings. A valid
provisioning blob whose roots agree with those already burnt writes the roots, burns the first fuse bit and opens the chain; a challenge is answered by the lowest usable attestation key of the relation. -/
def Obligations.LifeCycleWrites : Prop :=
  ∀ (s : State) (sess : Nat),
    (∀ v, s.takes sess E.lifecycleRequest (toLE 1 v) = true → s.leads (.lifecycleRequest sess v) (fun t =>
      (transitionLevel s.life.state (v % 256) ≠ 0 → s.life.change = none → s.safe.noTrng = false →
        t.life = { s.life with request := some ⟨sess, v % 256, (Config.trng s.fresh).toNat % 2 ^ 32, s.clock.ticks⟩ } ∧ t.fresh = s.fresh + 1 ∧ (t.sess sess).lastStatus = 0) ∧
      (transitionLevel s.life.state (v % 256) = 0 → t.life = { s.life with request := none } ∧ (t.sess sess).lastStatus = 0x0A) ∧
      t = { s with sessions := t.sessions, relays := t.relays, safe := t.safe, life := t.life, pins := t.pins, fresh := t.fresh, out := t.out })) ∧
    (∀ value r, s.takes sess E.lifecycleConfirm value = true → s.life.request = some r → s.leads (.lifecycleConfirm sess value) (fun t =>
      (r.sess = sess → r.token = leNat value → s.clock.ticks - r.since ≤ msTicks 10000 → s.confirmStatus r (s.sessLevel sess) = 0 → s.ev.nextSeal < sealNumbers →
        t.life = { s.life with change := some ⟨r.target, apCode sess, s.sessLevel sess⟩, request := none } ∧ t.fuses = s.fuses ∧ t.st E.lifecycleLastResult = 0 ∧ (t.sess sess).lastStatus = 0) ∧
      (r.sess = sess → r.token = leNat value → s.clock.ticks - r.since ≤ msTicks 10000 → s.confirmStatus r (s.sessLevel sess) = 0 → sealNumbers ≤ s.ev.nextSeal →
        t.life = s.life.enter r.target ((s.fuses.transition s.life.state r.target).agreeing r.target) s.clock.xrtc (60 * s.cfg E.lifecycleServiceTimeout) ∧
        t.fuses = s.fuses.transition s.life.state r.target ∧ t.st E.lifecycleLastResult = 0) ∧
      (r.token ≠ leNat value ∨ r.sess ≠ sess ∨ msTicks 10000 < s.clock.ticks - r.since → t.life = { s.life with request := none } ∧ t.fuses = s.fuses ∧ t.st E.lifecycleLastResult = 0x0A ∧ (t.sess sess).lastStatus = 0x0A) ∧
      (r.sess = sess → r.token = leNat value → s.clock.ticks - r.since ≤ msTicks 10000 → s.confirmStatus r (s.sessLevel sess) ≠ 0 → t.life = s.life ∧ t.fuses = s.fuses ∧
        t.st E.lifecycleLastResult = s.confirmStatus r (s.sessLevel sess) ∧ (t.sess sess).lastStatus = s.confirmStatus r (s.sessLevel sess)) ∧
      t = { s with od := t.od, sessions := t.sessions, relays := t.relays, lockHolder := t.lockHolder, commit := t.commit, ev := t.ev, safe := t.safe, dies := t.dies, mram := t.mram, intc := t.intc, keys := t.keys, fuses := t.fuses, life := t.life, pins := t.pins, out := t.out })) ∧
    (∀ blob, s.takes sess E.lifecycleProvisionBlob blob = true → s.leads (.provisionBlob sess blob) (fun t =>
      (∀ roots n, s.life.state = 0 → s.safe.noAes = false → s.safe.noSha = false → s.safe.noTrng = false → s.fuses.openBlob blob = some roots →
        n = (if s.fuses.rootsWritten = true then 3 else min 3 s.fuses.burnt) → leNat (roots.take (32 * n)) = s.fuses.rootsHeld n →
        t.life = s.life.enter 1 (t.fuses.agreeing 1) s.clock.xrtc 0 ∧ t.fuses.mfgRoot = leNat (roots.take 32) ∧ t.fuses.fieldRoot = leNat ((roots.drop 32).take 32) ∧
        t.fuses.serviceRoot = leNat ((roots.drop 64).take 32) ∧ t.fuses.rootsWritten = true ∧ t.fuses.copy1 = s.fuses.copy1 ||| 1 ∧ t.fuses.copy2 = s.fuses.copy2 ||| 1 ∧
        t.fuses.copy3 = s.fuses.copy3 ||| 1 ∧ t.ev.chainOpen = true ∧ t.mram.lifecycle = 1 ∧ t.st E.commitGeneration = 0 ∧ (t.sess sess).lastStatus = 0) ∧
      (s.life.state ≠ 0 ∨ s.fuses.openBlob blob = none → t.life = s.life ∧ t.fuses = s.fuses ∧ (t.sess sess).lastStatus ≠ 0) ∧
      (∀ roots n, s.fuses.openBlob blob = some roots → n = (if s.fuses.rootsWritten = true then 3 else min 3 s.fuses.burnt) → leNat (roots.take (32 * n)) ≠ s.fuses.rootsHeld n →
        t.life = s.life ∧ t.fuses = s.fuses ∧ (t.sess sess).lastStatus ≠ 0) ∧
      t = { s with od := t.od, sessions := t.sessions, relays := t.relays, lockHolder := t.lockHolder, commit := t.commit, ev := t.ev, safe := t.safe, dies := t.dies, mram := t.mram, intc := t.intc, fuses := t.fuses, life := t.life, pins := t.pins, fresh := t.fresh, out := t.out })) ∧
    (∀ b, s.takes sess E.attestChallenge b = true → s.leads (.attestChallenge sess b) (fun t =>
      (∀ slot, 1 ≤ s.life.state → s.life.state ≤ 3 → s.safe.noSha = false → (s.life.challenges.filter (fun x => s.clock.ticks - x < 40000000)).length < 10 →
        slot < 256 → s.attestFits (s.live sess E.attestRelation) slot = true → (∀ k, k < slot → s.attestFits (s.live sess E.attestRelation) k = false) →
        t.live sess E.attestResponse = leNat (s.attestBody (s.live sess E.attestRelation) slot ++
          bytes256 (Config.hmacSha256 (s.keyBytes slot) (b ++ s.attestBody (s.live sess E.attestRelation) slot))) ∧
        t.life = { s.life with challenges := s.clock.ticks :: s.life.challenges.filter (fun x => s.clock.ticks - x < 40000000) } ∧ (t.sess sess).lastStatus = 0) ∧
      (10 ≤ (s.life.challenges.filter (fun x => s.clock.ticks - x < 40000000)).length → t.life = s.life ∧ (t.sess sess).lastStatus ≠ 0) ∧
      t = { s with od := t.od, sessions := t.sessions, relays := t.relays, safe := t.safe, life := t.life, pins := t.pins, out := t.out }))

/-- Key operations (R366, R367, R368, Tables 12-6 to 12-8): DERIVE and IMPORT make one record in a free slot under the present root, INVALIDATE advances one generation, ERASE removes one record; no other record changes,
and a slot that holds a record is not overwritten. That an INVALIDATE without an AES engine answers 0x37 is log 45's reading. -/
def Obligations.KeyOperations : Prop :=
  ∀ (s : State) (sess : Nat),
    (s.takes sess E.keycmdOp [1] = true → s.keyOpStop 1 = 0 → s.leads (.keyDerive sess) (fun t =>
      (mfind s.keys.records (s.keyCmd sess).slot = none → selectedRoot s.life.state ≠ 0 → (s.keyCmd sess).kind = 0 → (s.keyCmd sess).familyOk = true →
        s.familyTaken (selectedRoot s.life.state) (s.keyCmd sess).parent = false →
        (∃ r, mfind t.keys.records (s.keyCmd sess).slot = some r ∧ r.kind = 0 ∧ r.root = selectedRoot s.life.state ∧ r.parent = (s.keyCmd sess).parent ∧ r.ownGen = 0 ∧
          r.parentGen = s.keys.gen (selectedRoot s.life.state) ∧ r.origin = 0 ∧ r.intact = true ∧
          r.kcv = keyCheck (Config.kdf (s.rootBytes (selectedRoot s.life.state)) (ascii "AZ8100-FAMILY")
            (toLE 1 (s.keyCmd sess).parent ++ toLE 4 (s.keys.gen (selectedRoot s.life.state)) ++ serialBytes) 32)) ∧
        t.live sess E.keycmdStatus = 0 ∧ (t.sess sess).lastStatus = 0) ∧
      (mfind s.keys.records (s.keyCmd sess).slot = none → selectedRoot s.life.state ≠ 0 → (s.keyCmd sess).kind = 1 → (s.keyCmd sess).leafOk = true → s.parentOk (s.keyCmd sess).parent = true →
        (∃ r, mfind t.keys.records (s.keyCmd sess).slot = some r ∧ r.kind = 1 ∧ r.root = selectedRoot s.life.state ∧ r.parent = (s.keyCmd sess).parent ∧
          r.parentGen = s.familyGen (s.keyCmd sess).parent ∧ r.usage = (s.keyCmd sess).usage ∧ r.blocks = (s.keyCmd sess).blocks ∧ r.length = (s.keyCmd sess).length ∧ r.intact = true) ∧
        t.live sess E.keycmdStatus = 0 ∧ (t.sess sess).lastStatus = 0) ∧
      ((mfind s.keys.records (s.keyCmd sess).slot).isSome = true → t.keys = s.keys ∧ t.live sess E.keycmdStatus = 0x0A ∧ (t.sess sess).lastStatus = 0x0A) ∧
      (∀ k, k ≠ (s.keyCmd sess).slot → mget none (t.keys.records.map (fun p => (p.1, some p.2))) k = mget none (s.keys.records.map (fun p => (p.1, some p.2))) k) ∧
      t = { s with od := t.od, sessions := t.sessions, relays := t.relays, lockHolder := t.lockHolder, commit := t.commit, ev := t.ev, safe := t.safe, dies := t.dies, keys := t.keys, life := t.life, pins := t.pins, fresh := t.fresh, out := t.out })) ∧
    (s.takes sess E.keycmdOp [2] = true → s.keyOpStop 2 = 0 → s.leads (.keyImport sess) (fun t =>
      (∀ u, s.importKey (s.keyCmd sess) (toLE 60 (s.live sess E.keycmdBlob)) = some u → t.keys.records = u.keys.records ∧
        (∃ r, mfind t.keys.records (s.keyCmd sess).slot = some r ∧ r.kind = 1 ∧ r.origin = 1 ∧ r.label = 0 ∧ r.parentGen = s.familyGen (s.keyCmd sess).parent) ∧
        t.live sess E.keycmdStatus = 0 ∧ (t.sess sess).lastStatus = 0) ∧
      (s.importKey (s.keyCmd sess) (toLE 60 (s.live sess E.keycmdBlob)) = none → t.keys = s.keys ∧ t.live sess E.keycmdStatus = 0x0A ∧ (t.sess sess).lastStatus = 0x0A) ∧
      (∀ k, k ≠ (s.keyCmd sess).slot → mfind t.keys.records k = mfind s.keys.records k) ∧
      t = { s with od := t.od, sessions := t.sessions, relays := t.relays, lockHolder := t.lockHolder, commit := t.commit, ev := t.ev, safe := t.safe, dies := t.dies, keys := t.keys, life := t.life, pins := t.pins, fresh := t.fresh, out := t.out })) ∧
    (s.takes sess E.keycmdOp [3] = true → s.keyOpStop 3 = 0 → s.leads (.keyInvalidate sess) (fun t =>
      (∀ r, (s.keyCmd sess).slot ≠ 0xFF → s.safe.noAes = false → mfind s.keys.records (s.keyCmd sess).slot = some r → r.kind = 0 →
        (∃ r1, mfind t.keys.records (s.keyCmd sess).slot = some r1 ∧ r1 = { r with ownGen := (r.ownGen + 1) % 2 ^ 32, iv := r1.iv, boxed := r1.boxed, crc := r1.crc }) ∧ t.keys.failed = [] ∧ t.live sess E.keycmdStatus = 0 ∧ (t.sess sess).lastStatus = 0) ∧
      ((s.keyCmd sess).slot ≠ 0xFF → s.safe.noAes = true → t.keys = s.keys ∧ t.live sess E.keycmdStatus = 0x37 ∧ (t.sess sess).lastStatus = 0x37) ∧
      ((s.keyCmd sess).slot = 0xFF → selectedRoot s.life.state ≠ 0 → t.keys.records = s.keys.records ∧
        t.keys.gen (selectedRoot s.life.state) = (s.keys.gen (selectedRoot s.life.state) + 1) % 2 ^ 32 ∧ (∀ row, row < 5 → row ≠ sess → (t.sess row).valid = false) ∧ (t.sess sess).lastStatus = 0) ∧
      (∀ k, k ≠ (s.keyCmd sess).slot → mfind t.keys.records k = mfind s.keys.records k) ∧
      t = { s with od := t.od, sessions := t.sessions, relays := t.relays, lockHolder := t.lockHolder, commit := t.commit, ev := t.ev, safe := t.safe, dies := t.dies, keys := t.keys, life := t.life, pins := t.pins, fresh := t.fresh, out := t.out })) ∧
    (s.takes sess E.keycmdOp [4] = true → s.keyOpStop 4 = 0 → s.leads (.keyErase sess) (fun t =>
      t.keys.records = mdel s.keys.records (s.keyCmd sess).slot ∧ t.keys.failed = [] ∧ t.live sess E.keycmdStatus = 0 ∧ (t.sess sess).lastStatus = 0 ∧
      t = { s with od := t.od, sessions := t.sessions, relays := t.relays, lockHolder := t.lockHolder, commit := t.commit, ev := t.ev, safe := t.safe, dies := t.dies, keys := t.keys, life := t.life, pins := t.pins, fresh := t.fresh, out := t.out }))

/-- Updates (R439 to R445, Tables 15-7 and 15-8): a delta is written from its start and in order; CHECK, APPLY, START, ABANDON and REJECT act only in the states their rows name, else 0x46; a confirmation makes the
trial slot the active one and raises the part's floor; an applied delta makes the spare slot ready; the trial window's end falls back. That START asks for mode RUN, and that a gate's refusal keeps the state,
are log 47's readings. -/
def Obligations.UpdateSequence : Prop :=
  ∀ (s : State) (sess : Nat),
    (∀ offset b, s.accepts sess 0x3501 0x01 offset b = true → s.leads (.updateDeltaWrite sess offset b) (fun t =>
      (s.update.state ≠ 3 → s.update.state ≠ 5 → offset = 0 → b.length ≤ 1048576 → t.update.state = 1 ∧ t.update.part = 0xFF ∧ t.update.delta = b ∧ (t.sess sess).lastStatus = 0) ∧
      (s.update.state = 1 → 0 < offset → offset = s.update.delta.length → offset + b.length ≤ 1048576 → t.update = { s.update with delta := s.update.delta ++ b } ∧ (t.sess sess).lastStatus = 0) ∧
      (s.update.state = 1 → 0 < offset → offset ≠ s.update.delta.length → t.update = s.update ∧ (t.sess sess).lastStatus = 0x0A) ∧
      (s.update.state = 3 ∨ s.update.state = 5 → t.update = s.update ∧ t.st E.updateStatus = 0x46 ∧ (t.sess sess).lastStatus = 0x0A) ∧
      t = { s with od := t.od, sessions := t.sessions, relays := t.relays, safe := t.safe, dies := t.dies, intc := t.intc, update := t.update, pins := t.pins, out := t.out })) ∧
    (s.takes sess E.updateAction [1] = true → s.leads (.updateCheck sess) (fun t =>
      (s.update.state = 1 ∨ s.update.state = 2 → s.gateStatus = 0 → s.checkStatus = 0 → t.update = { s.update with state := 2, part := deltaPart s.update.delta } ∧
        t.st E.updateStatus = 0 ∧ (t.sess sess).lastStatus = 0) ∧
      (s.update.state = 1 ∨ s.update.state = 2 → s.gateStatus = 0 → s.checkStatus ≠ 0 → t.update = { s.update with state := 0, part := 0xFF, delta := [] } ∧
        t.st E.updateStatus = s.checkStatus ∧ (t.sess sess).lastStatus = 0x0A) ∧
      (s.update.state = 1 ∨ s.update.state = 2 → s.gateStatus ≠ 0 → t.update = s.update ∧ t.st E.updateStatus = s.gateStatus ∧ (t.sess sess).lastStatus = 0x0A) ∧
      (s.update.state ≠ 1 → s.update.state ≠ 2 → t.update = s.update ∧ t.st E.updateStatus = 0x46 ∧ (t.sess sess).lastStatus = 0x0A) ∧ t = { s with od := t.od, sessions := t.sessions, relays := t.relays, ev := t.ev, safe := t.safe, dies := t.dies, intc := t.intc, update := t.update, pins := t.pins, out := t.out })) ∧
    (s.takes sess E.updateAction [2] = true → s.update.state = 2 → s.gateStatus = 0 → s.leads (.updateApply sess) (fun t =>
      t.update.state = 3 ∧ t.update.part = s.update.part ∧ t.image (s.spareRow s.update.part) = [] ∧ mget 0 t.update.slotState (s.spareRow s.update.part) = 1 ∧ t.update.delta = s.update.delta ∧
      t.st E.updateStatus = 0 ∧ (t.sess sess).lastStatus = 0 ∧ t = { s with od := t.od, sessions := t.sessions, relays := t.relays, ev := t.ev, safe := t.safe, dies := t.dies, intc := t.intc, update := t.update, pins := t.pins, out := t.out })) ∧
    (s.takes sess E.updateAction [3] = true → s.update.state = 4 → s.power.mode = .run → s.gateStatus = 0 → s.leads (.updateStart sess) (fun t =>
      t.update.state = 5 ∧ t.update.trial = some s.update.part ∧ mget 0 t.update.slotState (s.spareRow s.update.part) = 3 ∧
      (s.update.part ≠ 2 → t.power.mode = .entering ∧ t.power.target = 3) ∧ (s.update.part = 2 → t.power = s.power) ∧ (t.sess sess).lastStatus = 0 ∧
      t = { s with od := t.od, sessions := t.sessions, relays := t.relays, lockHolder := t.lockHolder, commit := t.commit, ev := t.ev, power := t.power, safe := t.safe, dies := t.dies, queues := t.queues, bp := t.bp, policers := t.policers, credits := t.credits, ports := t.ports, mram := t.mram, intc := t.intc, apps := t.apps, creditDue := t.creditDue, update := t.update, nextFid := t.nextFid, pins := t.pins, out := t.out })) ∧
    (s.takes sess E.updateAction [4] = true → s.update.state ≠ 0 → s.update.state ≠ 5 → s.leads (.updateAbandon sess) (fun t =>
      t.update.state = 0 ∧ t.update.part = 0xFF ∧ t.update.delta = [] ∧ t.st E.updateStatus = 0 ∧ (s.partKnown = true → mget 0 t.update.slotState (s.spareRow s.deltaPartHeld) = 6) ∧
      (t.sess sess).lastStatus = 0 ∧ t = { s with od := t.od, sessions := t.sessions, relays := t.relays, ev := t.ev, safe := t.safe, dies := t.dies, intc := t.intc, update := t.update, pins := t.pins, out := t.out })) ∧
    (∀ part, s.takes sess E.updateAction [5] = true → s.update.state = 5 → s.update.trial = some part → s.leads (.updateReject sess) (fun t =>
      t.update.state = 0 ∧ t.update.trial = none ∧ t.update.window = false ∧ t.st E.updateStatus = 0x52 ∧ mget 0 t.update.slotState (s.spareRow part) = 6 ∧
      (part ≠ 2 → t.power.mode = .entering ∧ t.power.target = 4) ∧ (t.sess sess).lastStatus = 0 ∧ t = { s with od := t.od, sessions := t.sessions, relays := t.relays, lockHolder := t.lockHolder, commit := t.commit, ev := t.ev, power := t.power, safe := t.safe, dies := t.dies, queues := t.queues, bp := t.bp, policers := t.policers, credits := t.credits, ports := t.ports, mram := t.mram, intc := t.intc, apps := t.apps, creditDue := t.creditDue, update := t.update, nextFid := t.nextFid, pins := t.pins, out := t.out })) ∧
    (∀ part v, s.takes sess E.updateConfirm (toLE 4 v) = true → s.update.trial = some part → s.update.state = 5 → v = imgVersion (s.image (s.spareRow part)) → v < 2 ^ 32 →
      s.leads (.updateConfirm sess v) (fun t => t.update.state = 0 ∧ t.update.trial = none ∧ t.activeSlot part = 1 - s.activeSlot part ∧
        t.floor part = max (s.floor part) (imgSecVersion (s.image (s.spareRow part))) ∧ mget 0 t.update.slotState (s.spareRow part) = 4 ∧
        (s.activeSlot part ≤ 1 → mget 0 t.update.slotState (s.activeRow part) = 5) ∧ t.st E.updateStatus = 0 ∧ (t.sess sess).lastStatus = 0 ∧ t = { s with od := t.od, sessions := t.sessions, relays := t.relays, ev := t.ev, safe := t.safe, dies := t.dies, intc := t.intc, update := t.update, pins := t.pins, out := t.out })) ∧
    (s.inRun = true → s.update.state = 3 → s.leads (.updateApplyComplete true) (fun t =>
      (∀ b, deltaBuild (if deltaBaseless s.update.delta then [] else s.image (s.activeRow s.update.part)) s.update.delta = some b →
        ({ s with update := { s.update with images := mset [] s.update.images (s.spareRow s.update.part) b, meas := mput s.update.meas (s.spareRow s.update.part) (imgMeasure b) } } : State).builtStatus s.update.part b = 0 →
        t.update.state = 4 ∧ t.image (s.spareRow s.update.part) = b ∧ mget 0 t.update.slotState (s.spareRow s.update.part) = 2 ∧ t.st E.updateStatus = 0) ∧ t = { s with od := t.od, ev := t.ev, safe := t.safe, dies := t.dies, intc := t.intc, update := t.update, pins := t.pins, out := t.out })) ∧
    (∀ part, s.inRun = true → s.update.window = true → s.update.trial = some part → s.leads .trialWindowEnd (fun t =>
      t.update.trial = none ∧ t.update.window = false ∧ t.st E.updateStatus = 0x4E ∧ mget 0 t.update.slotState (s.spareRow part) = 6 ∧
      (part ≠ 2 → t.power.mode = .entering ∧ t.power.target = 4) ∧ t = { s with od := t.od, lockHolder := t.lockHolder, commit := t.commit, ev := t.ev, power := t.power, safe := t.safe, dies := t.dies, queues := t.queues, bp := t.bp, policers := t.policers, credits := t.credits, ports := t.ports, mram := t.mram, intc := t.intc, apps := t.apps, creditDue := t.creditDue, update := t.update, nextFid := t.nextFid, pins := t.pins, out := t.out })) ∧
    (s.takes sess E.updateAction [2] = true → s.update.state ≠ 2 → s.leads (.updateApply sess) (fun t => t.update = s.update ∧ t.power = s.power ∧ t.st E.updateStatus = 0x46 ∧ (t.sess sess).lastStatus = 0x0A ∧ t = { s with od := t.od, sessions := t.sessions, relays := t.relays, ev := t.ev, safe := t.safe, dies := t.dies, intc := t.intc, update := t.update, pins := t.pins, out := t.out })) ∧
    (s.takes sess E.updateAction [3] = true → s.update.state ≠ 4 ∨ s.power.mode ≠ .run → s.leads (.updateStart sess) (fun t => t.update = s.update ∧ t.power = s.power ∧ t.st E.updateStatus = 0x46 ∧ (t.sess sess).lastStatus = 0x0A ∧ t = { s with od := t.od, sessions := t.sessions, relays := t.relays, lockHolder := t.lockHolder, commit := t.commit, ev := t.ev, power := t.power, safe := t.safe, dies := t.dies, queues := t.queues, bp := t.bp, policers := t.policers, credits := t.credits, ports := t.ports, mram := t.mram, intc := t.intc, apps := t.apps, creditDue := t.creditDue, update := t.update, nextFid := t.nextFid, pins := t.pins, out := t.out })) ∧
    (s.takes sess E.updateAction [4] = true → s.update.state = 0 ∨ s.update.state = 5 → s.leads (.updateAbandon sess) (fun t => t.update = s.update ∧ t.power = s.power ∧ t.st E.updateStatus = 0x46 ∧ (t.sess sess).lastStatus = 0x0A ∧ t = { s with od := t.od, sessions := t.sessions, relays := t.relays, ev := t.ev, safe := t.safe, dies := t.dies, intc := t.intc, update := t.update, pins := t.pins, out := t.out })) ∧
    (s.takes sess E.updateAction [5] = true → s.update.state ≠ 5 → s.leads (.updateReject sess) (fun t => t.update = s.update ∧ t.power = s.power ∧ t.st E.updateStatus = 0x46 ∧ (t.sess sess).lastStatus = 0x0A ∧ t = { s with od := t.od, sessions := t.sessions, relays := t.relays, lockHolder := t.lockHolder, commit := t.commit, ev := t.ev, power := t.power, safe := t.safe, dies := t.dies, queues := t.queues, bp := t.bp, policers := t.policers, credits := t.credits, ports := t.ports, mram := t.mram, intc := t.intc, apps := t.apps, creditDue := t.creditDue, update := t.update, nextFid := t.nextFid, pins := t.pins, out := t.out })) ∧
    (s.takes sess E.updateAction [2] = true → s.update.state = 2 → s.gateStatus ≠ 0 → s.leads (.updateApply sess) (fun t => t.update = s.update ∧ t.st E.updateStatus = s.gateStatus ∧
      (t.sess sess).lastStatus = 0x0A ∧ t = { s with od := t.od, sessions := t.sessions, relays := t.relays, ev := t.ev, safe := t.safe, dies := t.dies, intc := t.intc, update := t.update, pins := t.pins, out := t.out })) ∧
    (s.takes sess E.updateAction [3] = true → s.update.state = 4 → s.power.mode = .run → s.gateStatus ≠ 0 → s.leads (.updateStart sess) (fun t => t.update = s.update ∧ t.power = s.power ∧
      t.st E.updateStatus = s.gateStatus ∧ (t.sess sess).lastStatus = 0x0A ∧ t = { s with od := t.od, sessions := t.sessions, relays := t.relays, lockHolder := t.lockHolder, commit := t.commit, ev := t.ev, power := t.power, safe := t.safe, dies := t.dies, queues := t.queues, bp := t.bp, policers := t.policers, credits := t.credits, ports := t.ports, mram := t.mram, intc := t.intc, apps := t.apps, creditDue := t.creditDue, update := t.update, nextFid := t.nextFid, pins := t.pins, out := t.out }))

/-- Commits (R88, R89, R92, R272, Table 3-10): an action of the lock holder starts validation of the staging image; action 4 stages the effective default of every persistent entry that departs from it, or nothing where the room does not suffice; each phase ends in the next one, or the commit is refused with its result and everything in use stays; the store holds
three equal copies before the apply instant, at which the image comes into force and the generation advances; the end drops the staging image and its lock. -/
def Obligations.CommitSequence : Prop :=
  ∀ s : State,
    (∀ sess c only, [(Instr.commitValidate sess, true), (.commitStart sess, false)].contains (c, only) = true → s.takes sess E.commitAction [if only then 1 else 2] = true → s.committing = false →
      s.lockHolder = some sess → s.stagedLevel ≤ s.sessLevel sess → s.leads c (fun t => t.commit = ⟨.validating, only, sess, s.sessLevel sess, s.od.staging, false⟩ ∧
        t.st E.commitState = 1 ∧ t.st E.commitResult = 0 ∧ t.st E.commitFailEntry = 0 ∧ t.st E.commitFailRow = noRow ∧ (only = false → t.mram.commitPhase = true) ∧ (only = true → t.mram = s.mram) ∧
        (t.sess sess).lastStatus = 0 ∧ t.od.active = s.od.active ∧ t.od.staging = s.od.staging ∧ t = { s with od := t.od, sessions := t.sessions, relays := t.relays, commit := t.commit, safe := t.safe, mram := t.mram, pins := t.pins, out := t.out })) ∧
    (∀ sess, s.takes sess E.commitAction [3] = true → s.committing = false → s.lockHolder = some sess → s.stagedLevel ≤ s.sessLevel sess → s.leads (.commitDiscard sess) (fun t =>
      t.od = { s.od with staging := [] } ∧ t.lockHolder = none ∧ (t.sess sess).lastStatus = 0 ∧ t = { s with od := t.od, sessions := t.sessions, relays := t.relays, lockHolder := t.lockHolder, safe := t.safe, pins := t.pins, out := t.out })) ∧
    (∀ sess, s.takes sess E.commitAction [4] = true → s.committing = false → (s.lockHolder = none ∨ s.lockHolder = some sess) → s.stagedLevel ≤ s.sessLevel sess → ({ s with od := { s.od with staging := s.defaultsStaged } } : State).stagedBytes ≤ stagingRoom →
      s.leads (.restoreDefaults sess) (fun t => (∀ k, k ∈ (s.od.active ++ s.od.defaultsImg).map (·.1) → odPersistent s.variant (keyEntry k) = true →
        imageValue s.variant s.od.active k ≠ s.effDefault k → mfind t.od.staging k = some (s.effDefault k) ∧ t.lockHolder = some sess) ∧
      t.od = { s.od with staging := s.defaultsStaged } ∧ (t.sess sess).lastStatus = 0 ∧ t = { s with od := t.od, sessions := t.sessions, relays := t.relays, lockHolder := t.lockHolder, safe := t.safe, pins := t.pins, out := t.out })) ∧
    (∀ sess, s.takes sess E.commitAction [5] = true → s.committing = false → s.lockHolder.isSome = true → (s.lockHolder = some sess ∨ 3 ≤ s.sessLevel sess) → s.stagedLevel ≤ s.sessLevel sess →
      s.leads (.discardLockHolder sess) (fun t => t.od = { s.od with staging := [] } ∧ t.lockHolder = none ∧ (t.sess sess).lastStatus = 0 ∧
        t = { s with od := t.od, sessions := t.sessions, relays := t.relays, lockHolder := t.lockHolder, safe := t.safe, pins := t.pins, out := t.out })) ∧
    (s.inRun = true → s.commit.phase = .validating → s.leads .validationComplete (fun t =>
      (s.update.state ≠ 3 → s.update.state ≠ 5 → s.validate s.commit.image = none → s.commit.validateOnly = false → t.commit.phase = .placing ∧ t.st E.commitState = 2) ∧
      (s.update.state ≠ 3 → s.update.state ≠ 5 → s.validate s.commit.image = none → s.commit.validateOnly = true → t.commit.phase = .idle ∧ t.st E.commitState = 5 ∧ t.st E.commitResult = 0) ∧
      (∀ f, s.update.state ≠ 3 → s.update.state ≠ 5 → s.validate s.commit.image = some f → t.commit.phase = .idle ∧ t.st E.commitState = 6 ∧ t.st E.commitResult = f.2 ∧
        t.st E.commitFailEntry = f.entry ∧ t.st E.commitFailRow = f.row) ∧
      t.od.active = s.od.active ∧ t = { s with od := t.od, lockHolder := t.lockHolder, commit := t.commit, safe := t.safe, mram := t.mram, sumac := t.sumac, pins := t.pins })) ∧
    (s.inRun = true → s.commit.phase = .placing → s.sumac.healthChanged = false → s.leads .placementComplete (fun t =>
      ((s.withImage s.commitImage).place.fail = none → s.isolatedItem (s.withImage s.commitImage) (s.withImage s.commitImage).place.pl = none → t.commit.phase = .storing ∧ t.st E.commitState = 3 ∧
        t.st E.placementRefusalCause = 0) ∧
      (∀ c i r, (s.withImage s.commitImage).place.fail = some (c, i, r) → t.commit.phase = .idle ∧ t.st E.commitState = 6 ∧ t.st E.commitResult = 0x20 ∧ t.st E.placementRefusalCause = c ∧
        t.st E.placementRefusalIndex = i ∧ t.st E.placementRefusalRow = r) ∧
      t.od.active = s.od.active ∧ t = { s with od := t.od, lockHolder := t.lockHolder, commit := t.commit, safe := t.safe, mram := t.mram, sumac := t.sumac, pins := t.pins })) ∧
    (∀ ok, s.inRun = true → s.commit.phase = .storing → s.sumac.healthChanged = false → s.runtimeDown = false → payloadSize s.variant (s.payloadOf s.commitImage) ≤ storeCapacity →
      s.leads (.storeWriteComplete ok) (fun t =>
        (ok = true → t.commit.phase = .applying ∧ t.st E.commitState = 4 ∧ t.mram.commitWseq = (s.nextCopy s.commitImage).wseq ∧
          ∀ i, i < 3 → mfind t.bankStore (3 * s.activeBank + i) =
            some (storeCopy s.variant s.activeBank (i + 1) (s.nextCopy s.commitImage).layout (s.nextCopy s.commitImage).wseq (s.payloadOf s.commitImage))) ∧
        (ok = false → t.commit.phase = .idle ∧ t.st E.commitState = 6 ∧ t.st E.commitResult = 0x21) ∧ t.od.active = s.od.active ∧ t = { s with od := t.od, lockHolder := t.lockHolder, commit := t.commit, bankStore := t.bankStore, ev := t.ev, safe := t.safe, dies := t.dies, mram := t.mram, sumac := t.sumac, pins := t.pins, fresh := t.fresh })) ∧
    (s.inRun = true → s.commit.phase = .applying → s.sumac.healthChanged = false → s.leads .applyInstant (fun t =>
      t.od.active = s.commitImage ∧ t.commit.phase = .applied ∧ t.st E.commitState = 4 ∧ t.st E.commitGeneration = (s.st E.commitGeneration + 1) % odModulus s.variant E.commitGeneration ∧
      t.mram.commitPhase = false ∧ t = { s with clock := t.clock, od := t.od, sessions := t.sessions, lockHolder := t.lockHolder, commit := t.commit, bankStore := t.bankStore, sdo := t.sdo, ev := t.ev, safe := t.safe, dies := t.dies, queues := t.queues, bp := t.bp, policers := t.policers, credits := t.credits, markers := t.markers, ports := t.ports, mram := t.mram, sumac := t.sumac, intc := t.intc, apps := t.apps, tunnels := t.tunnels, creditDue := t.creditDue, keys := t.keys, life := t.life, measure := t.measure, update := t.update, nextFid := t.nextFid, pins := t.pins, out := t.out })) ∧
    (s.commit.phase = .applied → s.leads .commitDone (fun t => t.commit = { s.commit with phase := .idle, sessionEnded := false, image := [] } ∧ t.st E.commitState = 5 ∧ t.st E.commitResult = 0 ∧
      t.od.staging = [] ∧ t.lockHolder = none ∧ t.od.active = s.od.active ∧ t = { s with od := t.od, lockHolder := t.lockHolder, commit := t.commit, safe := t.safe, mram := t.mram, pins := t.pins })) ∧
    (∀ sess, s.takes sess E.commitAction [4] = true → s.committing = false → (s.lockHolder = none ∨ s.lockHolder = some sess) → s.stagedLevel ≤ s.sessLevel sess →
      stagingRoom < ({ s with od := { s.od with staging := s.defaultsStaged } } : State).stagedBytes → s.leads (.restoreDefaults sess) (fun t =>
        (t.sess sess).lastStatus = 0x0E ∧ t.od = s.od ∧ t.lockHolder = s.lockHolder ∧ t = { s with sessions := t.sessions, relays := t.relays, safe := t.safe, pins := t.pins, out := t.out }))

/-- Sessions of the service channel (R69, R72, R73, R78, R81): a requested level draws the device nonce unless a lockout runs, or the return to FIELD after the service time is due (status 0x0C, log 139); the right proof of a pending opening opens the session at that level and ends the failure count, a wrong one counts
and starts the lockout at the limit; a closed or idle session ends; an Anise opening lapses; a lockout ends. That a wrong P discards the opening is log 85's choice, that no proof is judged in
a lockout log 86's. -/
def Obligations.SessionOpenings : Prop :=
  ∀ s : State,
    (∀ v, s.takes 0 E.sessionSdoRequestLevel (toLE 1 v) = true → s.leads (.sdoRequestLevel 0 v) (fun t =>
      ((s.lockout 1).locked = false → s.life.barred = false → s.safe.noTrng = false → s.safe.noSha = false → (t.sess 0).pending = true ∧ (t.sess 0).reqLevel = v % 256 ∧ (t.sess 0).nd = (Config.trng s.fresh).toNat ∧
        t.fresh = s.fresh + 1 ∧ (t.sess 0).lastStatus = 0) ∧
      ((s.lockout 1).locked = true → (t.sess 0).pending = false ∧ (t.sess 0).lastStatus = 0x13 ∧ t.fresh = s.fresh) ∧
      ((s.lockout 1).locked = false → s.life.barred = true → (t.sess 0).pending = false ∧ (t.sess 0).lastStatus = 0x0C ∧ t.fresh = s.fresh) ∧
      (t.sess 0).valid = (s.sess 0).valid ∧ (t.sess 0).level = (s.sess 0).level ∧ t = { s with sessions := t.sessions, relays := t.relays, safe := t.safe, pins := t.pins, fresh := t.fresh, out := t.out })) ∧
    (∀ b, s.takes 0 E.sessionSdoClientNonce b = true → s.leads (.sdoClientNonce 0 b) (fun t =>
      t.sess 0 = { s.sess 0 with nc := leNat b, lastStatus := 0, last := s.clock.ticks } ∧ t = { s with sessions := t.sessions, relays := t.relays, safe := t.safe, pins := t.pins, out := t.out })) ∧
    (∀ b, s.takes 0 E.sessionSdoProof b = true → s.leads (.sdoProof 0 b) (fun t =>
      ((s.sess 0).pending = true → (s.lockout 1).locked = false → s.safe.noSha = false → s.proofOk 0 1 b = true → (t.sess 0).valid = true ∧ (t.sess 0).level = (s.sess 0).reqLevel ∧ (t.sess 0).pending = false ∧ t.lockout 1 = {} ∧
        (t.sess 0).lastStatus = 0) ∧
      ((s.sess 0).pending = true → (s.lockout 1).locked = false → s.safe.noSha = false → s.proofOk 0 1 b = false → (t.sess 0).pending = false ∧ (t.sess 0).valid = (s.sess 0).valid ∧ (t.lockout 1).fails = (s.lockout 1).fails + 1 ∧
        (s.cfg E.sessionFailLimit ≤ (s.lockout 1).fails + 1 → (t.lockout 1).locked = true) ∧ (t.sess 0).lastStatus = 0x12) ∧
      ((s.sess 0).pending = true → (s.lockout 1).locked = true → t.sess 0 = { s.sess 0 with lastStatus := 0x13, last := s.clock.ticks } ∧ t.lockouts = s.lockouts) ∧
      ((s.sess 0).pending = false → t.lockout 1 = s.lockout 1 ∧ (t.sess 0).lastStatus = 0x0A) ∧ t = { s with od := t.od, sessions := t.sessions, lockouts := t.lockouts, relays := t.relays, lockHolder := t.lockHolder, commit := t.commit, ev := t.ev, safe := t.safe, dies := t.dies, life := t.life, pins := t.pins, out := t.out })) ∧
    (∀ v, s.takes 0 E.sessionSdoClose (toLE 1 v) = true → s.leads (.sdoClose 0 v) (fun t => t.sess 0 = { ({} : Session) with lastStatus := 0, last := s.clock.ticks } ∧
      (s.lockHolder = some 0 → s.committing = false → t.lockHolder = none ∧ t.od.staging = []) ∧ t.sessElse s 0 ∧ t = { s with od := t.od, sessions := t.sessions, relays := t.relays, lockHolder := t.lockHolder, commit := t.commit, safe := t.safe, life := t.life, pins := t.pins, out := t.out })) ∧
    (∀ row, 1 ≤ row → row < 5 → (s.sess row).pending = true → s.leads (.pendingSessionLapse row) (fun t => t.sess row = {} ∧ t.sessElse s row ∧ t = { s with sessions := t.sessions, safe := t.safe, pins := t.pins })) ∧
    (∀ row, row < 5 → (s.sess row).valid = true → s.leads (.sessionIdleTimeout row) (fun t => t.sess row = {} ∧ t.sessElse s row ∧
      (s.lockHolder = some row → s.committing = false → t.lockHolder = none ∧ t.od.staging = []) ∧ t = { s with od := t.od, sessions := t.sessions, lockHolder := t.lockHolder, commit := t.commit, safe := t.safe, life := t.life, pins := t.pins })) ∧
    (∀ row, 5 ≤ row → s.leads (.sessionIdleTimeout row) (fun t => t.sessions = s.sessions ∧
      (s.lockHolder = some row → s.committing = false → t.lockHolder = none ∧ t.od.staging = []) ∧ t = { s with od := t.od, sessions := t.sessions, lockHolder := t.lockHolder, commit := t.commit, safe := t.safe, life := t.life, pins := t.pins })) ∧
    (∀ ap, (s.lockout ap).locked = true → s.leads (.lockoutEnd ap) (fun t => t.lockout ap = { s.lockout ap with fails := 0, locked := false, untilTick := 0 } ∧
      (∀ k, k ≠ ap → t.lockout k = s.lockout k) ∧ t = { s with lockouts := t.lockouts, safe := t.safe, pins := t.pins }))

/-- The SDO server (R74 to R77, R85): an expedited download stages its value at once, a segmented one its collected bytes with the last segment; a block download counts its segments; uploads answer up to 4 bytes at once and more
in segments of 7 bytes with an alternating toggle or in blocks; a wrong toggle, a length other than the one announced, the client's abort and the segment timeout end the transfer. The frames' layouts are CiA 301's (log 25), the server's choices
log 61's. -/
def Obligations.ServiceTransfers : Prop :=
  ∀ (s : State) (slot : Nat) (m : Bytes),
    (s.variant.hasSlot slot = true → isCan slot = true → s.sdoServes slot m = true →
      (s.sdoKind m = .downInit → bitAt (byteAt m 0) 1 = false → s.leads (.sdoDownloadInitiate slot m) (fun t =>
        t.sdo = .segDown (sdoMux m) (if bitAt (byteAt m 0) 0 then some (leNat (m.drop 4)) else none) [] false ∧ t.out = s.sdoFrame slot 0x60 (toLE 3 (sdoMux m)) :: s.out ∧
        t.sess 0 = { s.sess 0 with last := s.clock.ticks } ∧ t = { s with sdo := t.sdo, sessions := t.sessions, out := t.out, safe := t.safe, pins := t.pins })) ∧
      (∀ o x, s.sdoKind m = .downInit → bitAt (byteAt m 0) 1 = true → bitAt (byteAt m 0) 0 = true → odObject s.variant (sdoMux m % 65536) = some o →
        odEntry s.variant (sdoMux m % 65536 * 256 + sdoMux m / 65536) = some x → x.acc = .rw → x.live = false →
        s.accepts 0 (sdoMux m % 65536) (sdoMux m / 65536) (s.cursorRow 0 (sdoMux m % 65536)) ((m.drop 4).take (4 - byteAt m 0 / 4 % 4)) = true → s.mayStage 0 = true →
        s.hasRoom [(okey (sdoMux m % 65536 * 256 + sdoMux m / 65536) (o.keyRow (s.cursorRow 0 (sdoMux m % 65536))), leNat ((m.drop 4).take (4 - byteAt m 0 / 4 % 4)))] = true →
        s.leads (.sdoDownloadInitiate slot m) (fun t => t.sdo = .none ∧ t.lockHolder = some 0 ∧ (t.sess 0).lastStatus = 0 ∧
          mfind t.od.staging (okey (sdoMux m % 65536 * 256 + sdoMux m / 65536) (o.keyRow (s.cursorRow 0 (sdoMux m % 65536)))) = some (leNat ((m.drop 4).take (4 - byteAt m 0 / 4 % 4))) ∧
          (s.carrier 0 ≠ servingDie (sdoMux m % 65536) (sdoMux m / 65536) (s.cursorRow 0 (sdoMux m % 65536)) → mget [] t.relays 0 = mget [] s.relays 0 ++ [s.sdoFrame slot 0x60 (toLE 3 (sdoMux m))] ∧ t.out = s.out) ∧
          t = { s with sdo := .none, od := { s.od with staging := t.od.staging }, lockHolder := some 0, sessions := t.sessions, relays := t.relays, out := t.out, safe := t.safe, pins := t.pins })) ∧
      (∀ mux size data toggle, s.sdoKind m = .downSeg → s.sdo = .segDown mux size data toggle → bitAt (byteAt m 0) 4 = toggle → bitAt (byteAt m 0) 0 = false → s.leads (.sdoDownloadSegment slot m) (fun t =>
        t.sdo = .segDown mux size (data ++ (m.drop 1).take (7 - byteAt m 0 / 2 % 8)) (!toggle) ∧ t.out = s.sdoFrame slot (0x20 + 16 * flagNat toggle) [] :: s.out ∧
        t = { s with sdo := t.sdo, sessions := t.sessions, out := t.out, safe := t.safe, pins := t.pins })) ∧
      (∀ mux size data toggle, s.sdoKind m = .downSeg → s.sdo = .segDown mux size data toggle → bitAt (byteAt m 0) 4 ≠ toggle → s.leads (.sdoDownloadSegment slot m) (fun t =>
        t.sdo = .none ∧ t.out = s.sdoAbortFrame slot mux 0x05030000 :: s.out ∧ t = { s with sdo := .none, sessions := t.sessions, out := t.out, safe := t.safe, pins := t.pins })) ∧
      (s.sdoKind m = .blockDown → s.sdo.receiving = false → bitAt (byteAt m 0) 0 = false → s.leads (.sdoBlockDownload slot m) (fun t =>
        t.sdo = .blkDown (sdoMux m) (if bitAt (byteAt m 0) 1 then some (leNat (m.drop 4)) else none) [] 0 s.blockSize (bitAt (byteAt m 0) 2) false ∧
        t.out = s.sdoFrame slot 0xA4 (toLE 3 (sdoMux m) ++ toLE 1 s.blockSize) :: s.out ∧ t = { s with sdo := t.sdo, sessions := t.sessions, out := t.out, safe := t.safe, pins := t.pins })) ∧
      (∀ mux size data n k crc, s.sdoKind m = .blockDown → s.sdo = .blkDown mux size data n k crc false → byteAt m 0 = n + 1 → n + 1 < k → n + 1 < 128 → s.leads (.sdoBlockDownload slot m) (fun t =>
        t.sdo = .blkDown mux size (data ++ m.drop 1) (n + 1) k crc false ∧ t.out = s.out ∧ t = { s with sdo := t.sdo, safe := t.safe, pins := t.pins })) ∧
      (∀ v, s.sdoKind m = .upInit → s.odRead 0 (sdoMux m % 65536) (sdoMux m / 65536) (s.cursorRow 0 (sdoMux m % 65536)) false true = (0, v) →
        s.carrier 0 = servingDie (sdoMux m % 65536) (sdoMux m / 65536) (s.cursorRow 0 (sdoMux m % 65536)) → s.leads (.sdoUploadInitiate slot m) (fun t =>
          (1 ≤ v.length → v.length ≤ 4 → t.sdo = .none ∧ t.out = s.sdoFrame slot (0x43 + 4 * (4 - v.length)) (toLE 3 (sdoMux m) ++ v) :: s.out) ∧
          (4 < v.length → t.sdo = .segUp (sdoMux m) v false ∧ t.out = s.sdoFrame slot 0x41 (toLE 3 (sdoMux m) ++ toLE 4 v.length) :: s.out) ∧ (t.sess 0).lastStatus = 0 ∧
          t = { s with sdo := t.sdo, sessions := t.sessions, out := t.out, safe := t.safe, pins := t.pins })) ∧
      (∀ mux rest toggle, s.sdoKind m = .upSeg → s.sdo = .segUp mux rest toggle → bitAt (byteAt m 0) 4 = toggle → s.leads (.sdoUploadSegment slot m) (fun t =>
        t.sdo = (if rest.length ≤ 7 then .none else .segUp mux (rest.drop 7) (!toggle)) ∧
        t.out = s.sdoFrame slot (16 * flagNat toggle + 2 * (7 - min 7 rest.length) + (if rest.length ≤ 7 then 1 else 0)) (rest.take 7) :: s.out ∧
        t = { s with sdo := t.sdo, sessions := t.sessions, out := t.out, safe := t.safe, pins := t.pins })) ∧
      (∀ mux data pos k sent crc, s.sdoKind m = .blockUp → byteAt m 0 % 4 = 3 → s.sdo = .blkUp mux data pos k sent crc 0 → s.leads (.sdoBlockUpload slot m) (fun t =>
        t.sdo = .blkUp mux data pos k (s.blockSegments slot data k 1 pos).length crc 1 ∧ t.out = (s.blockSegments slot data k 1 pos).reverse ++ s.out ∧
        t = { s with sdo := t.sdo, sessions := t.sessions, out := t.out, safe := t.safe, pins := t.pins })) ∧
      (∀ c, c ∈ [Instr.sdoDownloadInitiate slot m, .sdoDownloadSegment slot m, .sdoBlockDownload slot m, .sdoUploadInitiate slot m, .sdoUploadSegment slot m, .sdoBlockUpload slot m] →
        s.sdoKind m = .clientAbort → s.leads c (fun t => t = { s with sdo := .none, safe := t.safe, pins := t.pins }))) ∧
    (∀ mux size data toggle o x, s.variant.hasSlot slot = true → isCan slot = true → s.sdoServes slot m = true → s.sdoKind m = .downSeg → s.sdo = .segDown mux size data toggle → bitAt (byteAt m 0) 4 = toggle → bitAt (byteAt m 0) 0 = true →
        sizeWrong size (data ++ (m.drop 1).take (7 - byteAt m 0 / 2 % 8)) = false → odObject s.variant (mux % 65536) = some o →
        odEntry s.variant (mux % 65536 * 256 + mux / 65536) = some x → x.acc = .rw → x.live = false →
        s.accepts 0 (mux % 65536) (mux / 65536) (s.cursorRow 0 (mux % 65536)) (data ++ (m.drop 1).take (7 - byteAt m 0 / 2 % 8)) = true → s.mayStage 0 = true →
        s.hasRoom [(okey (mux % 65536 * 256 + mux / 65536) (o.keyRow (s.cursorRow 0 (mux % 65536))), leNat (data ++ (m.drop 1).take (7 - byteAt m 0 / 2 % 8)))] = true →
        s.leads (.sdoDownloadSegment slot m) (fun t => t.sdo = .none ∧ t.lockHolder = some 0 ∧ (t.sess 0).lastStatus = 0 ∧
          mfind t.od.staging (okey (mux % 65536 * 256 + mux / 65536) (o.keyRow (s.cursorRow 0 (mux % 65536)))) = some (leNat (data ++ (m.drop 1).take (7 - byteAt m 0 / 2 % 8))) ∧
          (s.sdoFrame slot (0x20 + 16 * flagNat toggle) [] ∈ t.out ∨ s.sdoFrame slot (0x20 + 16 * flagNat toggle) [] ∈ mget [] t.relays 0) ∧
          t = { s with sdo := .none, od := { s.od with staging := t.od.staging }, lockHolder := some 0, sessions := t.sessions, relays := t.relays, out := t.out, safe := t.safe, pins := t.pins })) ∧
    (∀ mux size data toggle, s.variant.hasSlot slot = true → isCan slot = true → s.sdoServes slot m = true → s.sdoKind m = .downSeg → s.sdo = .segDown mux size data toggle → bitAt (byteAt m 0) 4 = toggle → bitAt (byteAt m 0) 0 = true →
        sizeWrong size (data ++ (m.drop 1).take (7 - byteAt m 0 / 2 % 8)) = true → s.leads (.sdoDownloadSegment slot m) (fun t =>
          t.sdo = .none ∧ t.out = s.sdoAbortFrame slot mux 0x06070010 :: s.out ∧ t = { s with sdo := .none, sessions := t.sessions, out := t.out, safe := t.safe, pins := t.pins })) ∧
    (∀ mux, s.serves 0 = true → s.sdo.mux = some mux → s.leads .sdoSegmentTimeout (fun t => t.sdo = .none ∧ t.out = s.sdoAbortFrame (s.cfg E.accessSdoPortSlot) mux 0x05040000 :: s.out ∧
      t = { s with sdo := t.sdo, safe := t.safe, pins := t.pins, out := t.out }))

/-- The Anise endpoint (R69, R70, R79 to R84): an authentic request of an open session with a fresh sequence number is counted, moves the session's replay record, and is answered under its session's key, ECHO with its data, READ
with the entry's value, WRITE after staging, CLOSE while the session ends; OPEN draws sid, one that no session has (log 123), and nonce into a free row; AUTH's right proof opens the session, but for a lockout, during which none is judged (DESIGN CHOICE, log 86). A wrong tag only counts. The byte order of the sid in an
answer is log 62's reading. -/
def Obligations.AniseRequests : Prop :=
  ∀ (s : State) (m : AniseMsg), s.variant.hasSlot m.env.slot = true → isEth m.env.slot = true → s.endpointRuns = true → s.forEndpoint m.env = true → m.bad = false →
    (∀ row a b, row < 5 → s.sidRow m.sid (·.valid) = some row → m.seq ≠ 0 → (s.sess row).valid = true →
      (aniseTag (s.sess row).ks (m.bytes 6) = m.tag → s.sidRow m.sid (·.pending) = none → (s.sess row).replay m.seq (m.bytes 6 ++ m.tag) = .accept a b → m.flagsOk = true → s.leads (.aniseEcho m) (fun t =>
        .anise m.env (m.response 6 0 m.data (some (s.sess row).ks)) ∈ t.out ∧ (t.sess row).sMax = a ∧ (t.sess row).window = b ∧ (t.sess row).last = s.clock.ticks ∧
        (t.sess row).lastStatus = 0 ∧ t.st E.accessCntAccepted = (s.st E.accessCntAccepted + 1) % odModulus s.variant E.accessCntAccepted ∧ t.sessElse s row ∧ t = { s with od := t.od, sessions := t.sessions, relays := t.relays, safe := t.safe, dies := t.dies, queues := t.queues, bp := t.bp, policers := t.policers, credits := t.credits, ports := t.ports, creditDue := t.creditDue, nextFid := t.nextFid, pins := t.pins, fresh := t.fresh, out := t.out })) ∧
      (∀ v, aniseTag (s.sess row).ks (m.bytes 1) = m.tag → (s.sess row).replay m.seq (m.bytes 1 ++ m.tag) = .accept a b → m.flagsOk = true → m.data = [] → m.sid ≠ 0 →
        (s.aniseAccept row a b).odRead row m.index m.sub m.offset (bitAt m.flags 1) false = (0, v) → s.carrier row = servingDie m.index m.sub m.offset → s.leads (.aniseRead m) (fun t =>
          .anise m.env (m.response 1 0 v (some (s.sess row).ks)) ∈ t.out ∧ (t.sess row).sMax = a ∧ (t.sess row).window = b ∧ (t.sess row).lastStatus = 0 ∧
          t.st E.accessCntAccepted = (s.st E.accessCntAccepted + 1) % odModulus s.variant E.accessCntAccepted ∧ t.sessElse s row ∧ t = { s with od := t.od, sessions := t.sessions, sidZero := t.sidZero, relays := t.relays, ev := t.ev, safe := t.safe, dies := t.dies, queues := t.queues, bp := t.bp, policers := t.policers, credits := t.credits, ports := t.ports, mram := t.mram, intc := t.intc, creditDue := t.creditDue, nextFid := t.nextFid, pins := t.pins, fresh := t.fresh, out := t.out })) ∧
      (∀ o x, aniseTag (s.sess row).ks (m.bytes 2) = m.tag → (s.sess row).replay m.seq (m.bytes 2 ++ m.tag) = .accept a b → m.flagsOk = true → odObject s.variant m.index = some o →
        odEntry s.variant (m.index * 256 + m.sub) = some x → x.acc = .rw → x.live = false → s.accepts row m.index m.sub m.offset m.data = true → s.mayStage row = true →
        s.hasRoom [(okey (m.index * 256 + m.sub) (o.keyRow m.offset), leNat m.data)] = true → s.leads (.aniseWrite m) (fun t =>
          mfind t.od.staging (okey (m.index * 256 + m.sub) (o.keyRow m.offset)) = some (leNat m.data) ∧ t.lockHolder = some row ∧ t.od.active = s.od.active ∧ (t.sess row).sMax = a ∧
          (t.sess row).window = b ∧ (t.sess row).lastStatus = 0 ∧ t.sessElse s row ∧ t.st E.accessCntAccepted = (s.st E.accessCntAccepted + 1) % odModulus s.variant E.accessCntAccepted ∧
          (if s.carrier row = servingDie m.index m.sub m.offset then Out.anise m.env (m.response 2 0 [] (some (s.sess row).ks)) ∈ t.out
            else Out.anise m.env (m.response 2 0 [] (some (s.sess row).ks)) ∈ mget [] t.relays row) ∧
          t = { s with od := t.od, sessions := t.sessions, relays := t.relays, lockHolder := t.lockHolder, safe := t.safe, dies := t.dies, queues := t.queues, bp := t.bp, policers := t.policers, credits := t.credits, ports := t.ports, creditDue := t.creditDue, nextFid := t.nextFid, pins := t.pins, fresh := t.fresh, out := t.out })) ∧
      (aniseTag (s.sess row).ks (m.bytes 5) = m.tag → (s.sess row).replay m.seq (m.bytes 5 ++ m.tag) = .accept a b → m.flagsOk = true → m.data = [] → s.leads (.aniseClose m) (fun t =>
        t.sess row = {} ∧ .anise m.env (m.response 5 0 [] (some (s.sess row).ks)) ∈ t.out ∧ t.sessElse s row ∧ t.st E.accessCntAccepted = (s.st E.accessCntAccepted + 1) % odModulus s.variant E.accessCntAccepted ∧ t = { s with od := t.od, sessions := t.sessions, relays := t.relays, lockHolder := t.lockHolder, commit := t.commit, safe := t.safe, dies := t.dies, queues := t.queues, bp := t.bp, policers := t.policers, credits := t.credits, ports := t.ports, creditDue := t.creditDue, life := t.life, nextFid := t.nextFid, pins := t.pins, fresh := t.fresh, out := t.out })) ∧
      (∀ k, k ∈ [1, 2, 5] → m.sid ≠ 0 → aniseTag (s.sess row).ks (m.bytes k) ≠ m.tag → s.leads (if k = 1 then .aniseRead m else if k = 2 then .aniseWrite m else .aniseClose m) (fun t =>
        t.st E.accessCntDropped = (s.st E.accessCntDropped + 1) % odModulus s.variant E.accessCntDropped ∧ t.sessions = s.sessions ∧ t.out = s.out ∧
        t = { s with od := { s.od with stat := t.od.stat }, safe := t.safe, pins := t.pins }))) ∧
    (∀ row, m.sid = 0 → [1, 2, 3, 4].find? (fun r => !(s.sess r).valid && !(s.sess r).pending) = some row → (s.sidZero.filter (fun x => s.clock.ticks - x < 40000000)).length < 100 → m.flagsOk = true →
      m.data.length = 33 → rangeStatus 1 4 (leNat (m.data.take 1)) = 0 → s.reachesServer row 0 = true → (s.lockout 2).locked = false → s.life.barred = false → s.aniseHeld < s.cfg E.accessAniseMaxSessions →
      s.safe.noTrng = false → s.safe.noSha = false → s.leads (.aniseOpen m) (fun t =>
        t.sess row = { ({} : Session) with pending := true, sid := s.newSid, peer := m.env.srcIp, reqLevel := leNat (m.data.take 1), nd := (Config.trng (s.fresh + 1)).toNat, nc := leNat (m.data.drop 1), last := s.clock.ticks } ∧
        .anise m.env (m.response 3 0 (toLE 4 s.newSid ++ toLE 32 (Config.trng (s.fresh + 1)).toNat) none) ∈ t.out ∧
        t.sidZero = s.clock.ticks :: s.sidZero.filter (fun x => s.clock.ticks - x < 40000000) ∧ t.sessElse s row ∧ t = { s with od := t.od, sessions := t.sessions, sidZero := t.sidZero, relays := t.relays, safe := t.safe, dies := t.dies, queues := t.queues, bp := t.bp, policers := t.policers, credits := t.credits, ports := t.ports, creditDue := t.creditDue, nextFid := t.nextFid, pins := t.pins, fresh := t.fresh, out := t.out })) ∧
    (∀ row key, row < 5 → s.sidRow m.sid (·.pending) = some row → s.accessKey (s.sess row).reqLevel = some key →
      aniseTag (sessionKey key (s.sess row).sid (s.sess row).nd (s.sess row).nc) (m.bytes 4) = m.tag → m.flagsOk = true → m.seq = 1 → m.data.length = 32 → s.safe.noSha = false →
      s.leads (.aniseAuth m) (fun t =>
        ((s.lockout 2).locked = true → t.sessions = s.sessions ∧ t.lockouts = s.lockouts) ∧ ((s.lockout 2).locked = false →
          (s.proofOk row 2 m.data = true → (t.sess row).valid = true ∧ (t.sess row).pending = false ∧ (t.sess row).level = (s.sess row).reqLevel ∧
          (t.sess row).ks = sessionKey key (s.sess row).sid (s.sess row).nd (s.sess row).nc ∧ (t.sess row).sMax = 1 ∧ t.lockout 2 = {}) ∧
        (s.proofOk row 2 m.data = false → t.sess row = {} ∧ (t.lockout 2).fails = (s.lockout 2).fails + 1 ∧ .anise m.env (m.response 4 0x12 [] none) ∈ t.out)) ∧
        t.sessElse s row ∧ t = { s with od := t.od, sessions := t.sessions, lockouts := t.lockouts, relays := t.relays, ev := t.ev, safe := t.safe, dies := t.dies, queues := t.queues, bp := t.bp, policers := t.policers, credits := t.credits, ports := t.ports, creditDue := t.creditDue, nextFid := t.nextFid, pins := t.pins, fresh := t.fresh, out := t.out }))

/-- Application pairs (R396, R404, R428): the watchdog starts once and stays on, its key restarts it, its expiry resets the pair with cause 3 into its restart delay; the delay's end reloads the image within the restart limit and
holds the pair beyond it; a reloaded image, or that of the other slot, runs if it verifies, and no image runs else. That SYS comes back at its reset values with the pair is log 16's reading; the other slot is
R447's rule of chapter 15 as log 47 reads it. -/
def Obligations.ApplicationPairs : Prop :=
  ∀ (s : State) (d : Nat), s.variant.hasDie d = true → s.pairsRun d = true →
    (∀ w : Word, s.leads (.sysCtrlWrite d w) (fun t =>
      (w.getLsbD 0 = true → (s.app d).sys.parErr = false → (s.app d).sys.en = false → t.app d = { s.app d with sys := { (s.app d).sys with en := true }, kicked := s.clock.ticks }) ∧
      (w.getLsbD 0 = true → (s.app d).sys.parErr = false → (s.app d).sys.en = true → t.app d = s.app d) ∧
      (w.getLsbD 0 = false → (s.app d).sys.en = true → t.app d = { s.app d with sys := { (s.app d).sys with cfgIgn := true } }) ∧ t.appsElse s d ∧
      t = { s with apps := t.apps, safe := t.safe, pins := t.pins })) ∧
    (∀ w : Word, s.leads (.sysWdtKick d w) (fun t => t.app d = (if w = 0xC3A5#32 then { s.app d with kicked := s.clock.ticks } else { s.app d with kickErr := true }) ∧
      t.appsElse s d ∧ t = { s with safe := t.safe, apps := t.apps, pins := t.pins })) ∧
    ((s.app d).running = true → (s.app d).sys.en = true → s.update.trial ≠ some 2 → s.leads (.appWatchdogExpiry d) (fun t =>
      (t.app d).running = false ∧ (t.app d).delayArmed = true ∧ (t.app d).resetCause = 3 ∧ (t.app d).sys = {} ∧ (∀ k, ((t.app d).qp k).blk.en = false) ∧
      t.stDie E.appState d = 2 ∧ t.stDie E.appLastResetCause d = 3 ∧ t = { s with od := t.od, lockHolder := t.lockHolder, commit := t.commit, ev := t.ev, safe := t.safe, dies := t.dies, intc := t.intc, apps := t.apps, update := t.update, pins := t.pins, out := t.out })) ∧
    ((s.app d).delayArmed = true → s.leads (.appRestartDelayExpiry d) (fun t => (t.app d).delayArmed = false ∧
      ((s.recentRestarts d).length + 1 ≤ s.cfg E.appRestartLimit → (t.app d).reloading = true ∧ (t.app d).restarts = s.clock.ticks :: s.recentRestarts d ∧
        t.stDie E.appRestarts d = (s.stDie E.appRestarts d + 1) % odModulus s.variant (E.appRestarts + (d - 1) * 256)) ∧
      (s.cfg E.appRestartLimit < (s.recentRestarts d).length + 1 → t.stDie E.appState d = 3 ∧ (t.app d).reloading = (s.app d).reloading) ∧ t.appsElse s d ∧
      t = { s with od := t.od, safe := t.safe, apps := t.apps, pins := t.pins })) ∧
    ((s.app d).reloading = true → (s.app d).running = false → s.cfgOn E.appEnable = true → s.update.trial ≠ some 2 → s.leads (.appImageReloaded d) (fun t =>
      (t.app d).running = (s.verifies 2 (s.chosenRow 2) || s.verifies 2 (s.spareRow 2)) ∧ (t.app d).reloading = false ∧
      t.stDie E.appState d = (if (t.app d).running = true then 1 else 0) ∧
      t.st E.versionApplication = (if s.verifies 2 (s.chosenRow 2) = true then imgVersion (s.image (s.chosenRow 2))
        else if s.verifies 2 (s.spareRow 2) = true then imgVersion (s.image (s.spareRow 2)) else 0) ∧ t.appsElse s d ∧ t = { s with od := t.od, lockHolder := t.lockHolder, commit := t.commit, ev := t.ev, safe := t.safe, dies := t.dies, sumac := t.sumac, intc := t.intc, apps := t.apps, update := t.update, pins := t.pins, out := t.out }))

/-- The interrupt controller (R407 to R411): a source becomes pending at a target, or is lost there while it is pending or active; a claim takes the qualifying source of highest priority and lowest number, or answers 0x100; completing
an active source ends it and any other sets the reject bit; doorbells and set-pending writes fire their sources, a remote doorbell with its value at each target that its route reaches, where its sender runs and a way to it stands (R35).
That a claim needs the three conditions of R408 and not EN, and that a doorbell of the own die counts as a local write, are log 16's readings. -/
def Obligations.InterruptController : Prop :=
  ∀ (s : State) (d : Nat), s.variant.hasDie d = true → s.pairsRun d = true →
    (∀ src target, target < 2 → s.reaches d src target = true → s.leads (.interruptSourceFire d src target) (fun t =>
      t.intcTarget d target = (if (bitAt (s.intcTarget d target).pend src || bitAt (s.intcTarget d target).active src) = true then
        { s.intcTarget d target with lost := setBit (s.intcTarget d target).lost src } else { s.intcTarget d target with pend := setBit (s.intcTarget d target).pend src }) ∧
      t.intcTarget d (1 - target) = s.intcTarget d (1 - target) ∧ t.intcElse s d ∧ t = { s with safe := t.safe, intc := t.intc, pins := t.pins })) ∧
    (∀ k, k < 256 → (s.intcTarget d 1).qualifies k = true →
      (∀ j, j < 256 → (s.intcTarget d 1).qualifies j = true → (s.intcTarget d 1).prioOf j < (s.intcTarget d 1).prioOf k ∨ ((s.intcTarget d 1).prioOf j = (s.intcTarget d 1).prioOf k ∧ k ≤ j)) →
      s.leads (.intcClaim d) (fun t => t.out = .regRead d 1 0x40001010 k :: s.out ∧
        t.intcTarget d 1 = { s.intcTarget d 1 with pend := clearBit (s.intcTarget d 1).pend k, active := setBit (s.intcTarget d 1).active k } ∧ t.intcTarget d 0 = s.intcTarget d 0 ∧
        t.intcElse s d ∧ t = { s with safe := t.safe, intc := t.intc, pins := t.pins, out := t.out })) ∧
    ((∀ j, j < 256 → (s.intcTarget d 1).qualifies j = false) → s.leads (.intcClaim d) (fun t => t.out = .regRead d 1 0x40001010 0x100 :: s.out ∧ (∀ m k, t.intcTarget m k = s.intcTarget m k) ∧
      t = { s with safe := t.safe, intc := t.intc, pins := t.pins, out := t.out })) ∧
    (∀ w : Word, s.leads (.intcComplete d w) (fun t => t.intcTarget d 1 = (if bitAt (s.intcTarget d 1).active (w.toNat % 256) = true then
      { s.intcTarget d 1 with active := clearBit (s.intcTarget d 1).active (w.toNat % 256) } else { s.intcTarget d 1 with cplRej := true }) ∧ t.intcTarget d 0 = s.intcTarget d 0 ∧ t.intcElse s d ∧ t = { s with safe := t.safe, intc := t.intc, pins := t.pins })) ∧
    (∀ w : Word, s.leads (.intcDoorbell d w) (fun t =>
      (w.toNat % 256 < 128 → t.intcTarget d 1 = { s.intcTarget d 1 with dbRej := true } ∧ t.intcTarget d 0 = s.intcTarget d 0) ∧
      (128 ≤ w.toNat % 256 → bitAt (s.intcTarget d 0).pend (w.toNat % 256) = false → bitAt (s.intcTarget d 0).active (w.toNat % 256) = false →
        t.intcTarget d 0 = { s.intcTarget d 0 with pend := setBit (s.intcTarget d 0).pend (w.toNat % 256) }) ∧
      (128 ≤ w.toNat % 256 → bitAt (s.cfg E.appIrqRoute) (w.toNat % 256) = true → bitAt (s.intcTarget d 1).pend (w.toNat % 256) = false → bitAt (s.intcTarget d 1).active (w.toNat % 256) = false →
        t.intcTarget d 1 = { s.intcTarget d 1 with pend := setBit (s.intcTarget d 1).pend (w.toNat % 256) }) ∧
      (128 ≤ w.toNat % 256 → bitAt (s.cfg E.appIrqRoute) (w.toNat % 256) = false → t.intcTarget d 1 = s.intcTarget d 1) ∧ t.intcElse s d ∧ t = { s with safe := t.safe, intc := t.intc, pins := t.pins })) ∧
    (∀ (m : Nat) (w : Word), s.variant.hasDie m = true → s.leads (.intcRdoorbell d m w) (fun t =>
      (m = d → t.intcTarget d 1 = { s.intcTarget d 1 with dbRej := true } ∧ t.intcTarget d 0 = s.intcTarget d 0) ∧
      (m ≠ d → s.pairsRun m = true → s.bridgeWay m d = true → ∀ k, k < 2 → (k = 1 → bitAt (s.cfg E.appIrqRoute) (70 + m) = true) →
        (bitAt (s.intcTarget d k).pend (70 + m) = false → bitAt (s.intcTarget d k).active (70 + m) = false →
          t.intcTarget d k = { s.intcTarget d k with pend := setBit (s.intcTarget d k).pend (70 + m), rmsg := mset 0 (s.intcTarget d k).rmsg m w.toNat }) ∧
        (bitAt (s.intcTarget d k).pend (70 + m) = true ∨ bitAt (s.intcTarget d k).active (70 + m) = true → t.intcTarget d k = { s.intcTarget d k with lost := setBit (s.intcTarget d k).lost (70 + m) })) ∧
      (m ≠ d → bitAt (s.cfg E.appIrqRoute) (70 + m) = false → t.intcTarget d 1 = s.intcTarget d 1) ∧
      (m ≠ d → s.pairsRun m = false ∨ s.bridgeWay m d = false → t.intc = s.intc) ∧ t.intcElse s d ∧ t = { s with safe := t.safe, intc := t.intc, pins := t.pins })) ∧
    (∀ (word : Nat) (w : Word), word < 8 → s.leads (.intcSetpend d word w) (fun t =>
      (∀ b, b < 32 → w.getLsbD b = true → bitAt (s.intcTarget d 1).pend (32 * word + b) = false → bitAt (s.intcTarget d 1).active (32 * word + b) = false →
        bitAt (t.intcTarget d 1).pend (32 * word + b) = true) ∧
      (∀ b, b < 32 → w.getLsbD b = true → bitAt (s.intcTarget d 1).pend (32 * word + b) = true ∨ bitAt (s.intcTarget d 1).active (32 * word + b) = true → bitAt (t.intcTarget d 1).lost (32 * word + b) = true) ∧
      (∀ k, (k / 32 ≠ word ∨ w.getLsbD (k % 32) = false) → bitAt (t.intcTarget d 1).pend k = bitAt (s.intcTarget d 1).pend k ∧ bitAt (t.intcTarget d 1).lost k = bitAt (s.intcTarget d 1).lost k) ∧
      t.intcTarget d 0 = s.intcTarget d 0 ∧ t.intcElse s d ∧ t = { s with safe := t.safe, intc := t.intc, pins := t.pins }))

/-- Timers and pins (R398, R405, R426): a CTRL word with EN loads COUNT from LOAD, a clearing one keeps it; at 0 a timer sets EXP, reloads or stops, and toggles the pins that follow it; a free timer or pin goes to the pair that claims
it, one of another owner reports the conflict, and its owner gives it back while it is not enabled; PINS_DOUT changes the writer's own pins alone. That EN 0 cancels a pending re-enable, and that only a bit that
changes is a conflict in PINS_DOUT, are log 16's readings. -/
def Obligations.TimersAndPins : Prop :=
  ∀ (s : State) (d : Nat), s.variant.hasDie d = true → s.pairsRun d = true →
    (∀ (n : Nat) (w : Word), n < 16 → s.leads (.tmrCtrlWrite d n w) (fun t =>
      (((s.app d).timer n).owner ≠ 2 → (t.app d).timer n = { (s.app d).timer n with blk := { ((s.app d).timer n).blk with conflict := true } }) ∧
      (((s.app d).timer n).owner = 2 → w.getLsbD 0 = true → ((s.app d).timer n).blk.parErr = false → ((s.app d).timer n).blk.en = false → ((s.app d).timer n).blk.disabling = false →
        (t.app d).timer n = { (s.app d).timer n with blk := { ((s.app d).timer n).blk with en := true }, ie := w.getLsbD 2, periodic := w.getLsbD 1, count := max 1 ((s.app d).timer n).load, since := s.clock.ticks }) ∧
      (((s.app d).timer n).owner = 2 → w.getLsbD 0 = true → ((s.app d).timer n).blk.parErr = false → ((s.app d).timer n).blk.en = true → w.getLsbD 2 = ((s.app d).timer n).ie → w.getLsbD 1 = ((s.app d).timer n).periodic →
        (t.app d).timer n = { (s.app d).timer n with count := max 1 ((s.app d).timer n).load, since := s.clock.ticks }) ∧
      (((s.app d).timer n).owner = 2 → w.getLsbD 0 = false → ((s.app d).timer n).blk.en = true →
        (t.app d).timer n = { (s.app d).timer n with blk := { ((s.app d).timer n).blk with en := false, again := false }, ie := w.getLsbD 2, periodic := w.getLsbD 1, count := ((s.app d).timer n).count - (s.clock.ticks - ((s.app d).timer n).since) }) ∧
      t.timersElse s d n ∧ t.appsElse s d ∧ t = { s with safe := t.safe, apps := t.apps, pins := t.pins })) ∧
    (∀ n, n < 16 → ((s.app d).timer n).blk.en = true → s.leads (.timerExpiry d n) (fun t =>
      ((t.app d).timer n).exp = true ∧ ((t.app d).timer n).missed = (((s.app d).timer n).missed || ((s.app d).timer n).exp) ∧ ((t.app d).timer n).blk.en = ((s.app d).timer n).periodic ∧
      ((t.app d).timer n).count = (if ((s.app d).timer n).periodic = true then max 1 ((s.app d).timer n).load else 0) ∧ t.timersElse s d n ∧ t.appsElse s d ∧
      (∀ k, ((s.app d).timer n).ie = true → ((s.app d).timer n).owner = k + 1 → k < 2 → bitAt (s.intcTarget d k).active (33 + n / 2) = false → bitAt (t.intcTarget d k).pend (33 + n / 2) = true) ∧
      (((s.app d).timer n).ie = false → t.intc = s.intc) ∧
      (t.app d).pins = (s.app d).pins.map (fun p => if p.2.blk.en = true ∧ p.2.func = 2 ∧ p.2.timer = n then (p.1, { p.2 with toggled := !p.2.toggled }) else p) ∧ t = { s with safe := t.safe, intc := t.intc, apps := t.apps, pins := t.pins })) ∧
    (∀ n pair, n < 16 → ownerOk pair = true → s.leads (.tmrClaim d n pair) (fun t => (t.app d).timer n =
      (if ((s.app d).timer n).owner = 0 then { (s.app d).timer n with owner := pair } else if ((s.app d).timer n).owner = pair then (s.app d).timer n
       else { (s.app d).timer n with blk := { ((s.app d).timer n).blk with conflict := true } }) ∧ t.timersElse s d n ∧ t.appsElse s d ∧ t = { s with safe := t.safe, apps := t.apps, pins := t.pins })) ∧
    (∀ n pair, n < 16 → ownerOk pair = true → s.leads (.tmrRelease d n pair) (fun t => (t.app d).timer n =
      (if ((s.app d).timer n).owner ≠ pair then (s.app d).timer n else if ((s.app d).timer n).blk.en = true then
        { (s.app d).timer n with blk := { ((s.app d).timer n).blk with cfgIgn := true } } else { (s.app d).timer n with owner := 0 }) ∧
      t.timersElse s d n ∧ t.appsElse s d ∧ t = { s with safe := t.safe, apps := t.apps, pins := t.pins })) ∧
    (∀ n pair, n < 8 → ownerOk pair = true → s.leads (.pinClaim d n pair) (fun t => (t.app d).pin n =
      (if ((s.app d).pin n).owner = 0 then { (s.app d).pin n with owner := pair } else if ((s.app d).pin n).owner = pair then (s.app d).pin n
       else { (s.app d).pin n with blk := { ((s.app d).pin n).blk with conflict := true } }) ∧ t.pinsElse s d n ∧ t.appsElse s d ∧ t = { s with safe := t.safe, apps := t.apps, pins := t.pins })) ∧
    (∀ n pair, n < 8 → ownerOk pair = true → s.leads (.pinRelease d n pair) (fun t => (t.app d).pin n =
      (if ((s.app d).pin n).owner ≠ pair then (s.app d).pin n else if ((s.app d).pin n).blk.en = true then
        { (s.app d).pin n with blk := { ((s.app d).pin n).blk with cfgIgn := true } } else { (s.app d).pin n with owner := 0 }) ∧
      t.pinsElse s d n ∧ t.appsElse s d ∧ t = { s with safe := t.safe, apps := t.apps, pins := t.pins })) ∧
    (∀ (pair : Nat) (w : Word), ownerOk pair = true → s.leads (.pinsDoutWrite d pair w) (fun t =>
      (∀ p, p < 8 → bitAt (t.app d).dout p = (if ((s.app d).pin p).owner = pair then w.getLsbD p else bitAt (s.app d).dout p)) ∧
      (∀ p, p < 8 → ((s.app d).pin p).owner ≠ pair → w.getLsbD p ≠ bitAt (s.app d).dout p → ((t.app d).pin p).blk.conflict = true) ∧
      (∀ p, ((s.app d).pin p).owner = pair → (t.app d).pin p = (s.app d).pin p) ∧ t.appsElse s d ∧ t = { s with safe := t.safe, apps := t.apps, pins := t.pins }))

/-- Queue pairs under their consumer (R340, R414, R416, R417): enabling clears every position unless the configuration is bad, disabling waits for its end, which discards what the rings hold; the RX commands move their positions; a push
stores its word and moves the write position unless the ring is full; reading the TX error count clears it. Each changes its own queue pair alone. -/
def Obligations.QueuePairRegisters : Prop :=
  ∀ (s : State) (d k : Nat), s.variant.hasDie d = true → s.pairsRun d = true → k < 16 →
    ((s.qp d k).blk.parErr = false → (s.qp d k).blk.en = false → (s.qp d k).blk.disabling = false → s.leads (.qpEnable d k) (fun t =>
      t.qp d k = (if s.qpBad d k = true then { s.qp d k with blk := { (s.qp d k).blk with en := false, cfgBad := true } } else { (s.qp d k).cleared with blk := { (s.qp d k).blk with en := true } }) ∧
      t.qpsElse s d k ∧ t = { s with safe := t.safe, intc := t.intc, apps := t.apps, pins := t.pins })) ∧
    ((s.qp d k).blk.en = true → s.leads (.qpDisable d k) (fun t => t.qp d k = { s.qp d k with blk := { (s.qp d k).blk with en := false, again := false, disabling := true } } ∧
      t.qpsElse s d k ∧ t = { s with safe := t.safe, intc := t.intc, apps := t.apps, pins := t.pins })) ∧
    ((s.qp d k).blk.disabling = true → s.leads (.qpDisablingEnd d k) (fun t => (t.qp d k).blk.disabling = false ∧ (t.qp d k).rxHeld = 0 ∧ (t.qp d k).txHeld = 0 ∧
      ((s.qp d k).blk.again = false → (t.qp d k).blk.en = (s.qp d k).blk.en) ∧ ((s.qp d k).blk.again = true → s.qpBad d k = false → (t.qp d k).blk.en = true) ∧
      t.qpsElse s d k ∧ t = { s with safe := t.safe, intc := t.intc, apps := t.apps, pins := t.pins })) ∧
    (∀ w : Word, s.leads (.qpRxadv d k w) (fun t => t.qp d k = (if (s.qp d k).rxUnread < w.toNat % 65536 then { s.qp d k with rxUnder := true }
      else { s.qp d k with rxRd := ((s.qp d k).rxRd + w.toNat % 65536) % 2 ^ 32 }) ∧ t.qpsElse s d k ∧ t = { s with safe := t.safe, apps := t.apps, pins := t.pins })) ∧
    s.leads (.qpMark d k) (fun t => t.qp d k = { s.qp d k with rxMk := (s.qp d k).rxRd } ∧ t.qpsElse s d k ∧ t = { s with safe := t.safe, apps := t.apps, pins := t.pins }) ∧
    s.leads (.qpRewind d k) (fun t => t.qp d k = { s.qp d k with rxRd := (s.qp d k).rxMk } ∧ t.qpsElse s d k ∧ t = { s with safe := t.safe, intc := t.intc, apps := t.apps, pins := t.pins }) ∧
    s.leads (.qpRelease d k) (fun t => (t.qp d k).rxRel = (s.qp d k).rxRd ∧ (t.qp d k).rxMk = (s.qp d k).rxRd ∧ (t.qp d k).rxRd = (s.qp d k).rxRd ∧ (t.qp d k).rxWr = (s.qp d k).rxWr ∧
      ((t.qp d k).rxHeld ≤ bitsOf (s.qp d k).rxMarks 15 0 → (t.qp d k).rxHeld < bitsOf (s.qp d k).rxMarks 31 16 → (t.qp d k).rxHold = false) ∧ t.qpsElse s d k ∧ t = { s with safe := t.safe, intc := t.intc, apps := t.apps, pins := t.pins }) ∧
    (∀ w : Word, s.leads (.qpTxpush d k w) (fun t =>
      (0 < (s.qp d k).discard → (t.qp d k).discard = (s.qp d k).discard - 1 ∧ (t.qp d k).txWr = ((s.qp d k).txWr + 1) % 2 ^ 32 ∧ (t.qp d k).txTaken = ((s.qp d k).txTaken + 1) % 2 ^ 32) ∧
      ((s.qp d k).discard = 0 → (s.qp d k).txHeld = (s.qp d k).txSize → t.qp d k = { s.qp d k with txOvr := true }) ∧
      ((s.qp d k).discard = 0 → (s.qp d k).txHeld ≠ (s.qp d k).txSize → (t.qp d k).txWr = ((s.qp d k).txWr + 1) % 2 ^ 32 ∧ (t.qp d k).txTaken = (s.qp d k).txTaken ∧
        (t.app d).word (ringWord (s.qp d k).txBase (s.qp d k).txSize (s.qp d k).txWr) = w.toNat ∧
        (∀ a, a ≠ ringWord (s.qp d k).txBase (s.qp d k).txSize (s.qp d k).txWr → (t.app d).word a = (s.app d).word a)) ∧ t.qpsElse s d k ∧ t = { s with safe := t.safe, intc := t.intc, apps := t.apps, pins := t.pins })) ∧
    s.leads (.qpTxerrRead d k) (fun t => t.out = .regRead d 1 (0x4001004C + 0x100 * k) (s.qp d k).txErrs :: s.out ∧ t.qp d k = { s.qp d k with txErrs := 0 } ∧ t.qpsElse s d k ∧ t = { s with safe := t.safe, apps := t.apps, pins := t.pins, out := t.out })

/-- Items and capture records (R413 to R416, R418): the head copy that a queue pair can take is written whole before the write position advances; the switch takes whole TX items in turn, and one whose header breaks R414 is counted and
freed; CAP_RDCNT moves within the fill only. -/
def Obligations.QueuePairItems : Prop :=
  ∀ (s : State) (d : Nat), s.variant.hasDie d = true → s.pairsRun d = true →
    (∀ s1 c cp, (s.app d).running = true → s.qpPick d = (s1, some (c, cp)) → (s.qp d (s.qpOf c)).rxWr < 2 ^ 32 → s.leads (.qpRxItemWrite d) (fun t =>
      (t.qp d (s.qpOf c)).rxWr = ((s.qp d (s.qpOf c)).rxWr + (rxItem cp).length) % 2 ^ 32 ∧
      (t.qp d (s.qpOf c)).rxRd = (s.qp d (s.qpOf c)).rxRd ∧ (t.qp d (s.qpOf c)).rxRel = (s.qp d (s.qpOf c)).rxRel ∧
      ((rxItem cp).length ≤ (s.qp d (s.qpOf c)).rxSize → (s.qp d (s.qpOf c)).rxWr + (rxItem cp).length ≤ 2 ^ 32 → ∀ i, i < (rxItem cp).length →
        (t.app d).word (ringWord (s.qp d (s.qpOf c)).rxBase (s.qp d (s.qpOf c)).rxSize ((s.qp d (s.qpOf c)).rxWr + i)) = (rxItem cp).getD i 0 % 2 ^ 32) ∧
      (∀ a, (∀ i, i < (rxItem cp).length → a ≠ ringWord (s.qp d (s.qpOf c)).rxBase (s.qp d (s.qpOf c)).rxSize (((s.qp d (s.qpOf c)).rxWr + i) % 2 ^ 32)) → (t.app d).word a = (s.app d).word a) ∧
      t.qpsElse s d (s.qpOf c) ∧ t = { s with od := t.od, safe := t.safe, dies := t.dies, queues := t.queues, bp := t.bp, policers := t.policers, credits := t.credits, ports := t.ports, intc := t.intc, apps := t.apps, creditDue := t.creditDue, nextFid := t.nextFid, pins := t.pins, out := t.out })) ∧
    (∀ k, ((List.range 16).map (fun i => ((s.app d).turn + i) % 16)).find? (s.txReady d) = some k → s.txItemWords d k ≤ (s.qp d k).txSize → s.leads (.qpTxItemTake d) (fun t =>
      (t.app d).turn = (k + 1) % 16 ∧ (t.qp d k).txTaken = ((s.qp d k).txTaken + s.txItemWords d k) % 2 ^ 32 ∧ (t.qp d k).txWr = (s.qp d k).txWr ∧ (t.app d).sram = (s.app d).sram ∧
      (txHeaderOk (((List.range (s.txItemWords d k)).map (s.txWord d k)).take 8) = false → (t.qp d k).txErrs = ((s.qp d k).txErrs + 1) % 2 ^ 32 ∧ (t.qp d k).txErr = true ∧ t.queues = s.queues) ∧
      (txHeaderOk (((List.range (s.txItemWords d k)).map (s.txWord d k)).take 8) = true → (t.qp d k).txErrs = (s.qp d k).txErrs) ∧ t.qpsElse s d k ∧ t = { s with od := t.od, safe := t.safe, dies := t.dies, queues := t.queues, bp := t.bp, policers := t.policers, credits := t.credits, ports := t.ports, intc := t.intc, apps := t.apps, creditDue := t.creditDue, nextFid := t.nextFid, pins := t.pins, out := t.out })) ∧
    (∀ w : Word, s.leads (.capRdcntWrite d w) (fun t => t.app d = (if sub32 w.toNat (s.app d).cap.rd ≤ sub32 (s.app d).cap.wr (s.app d).cap.rd then
      { s.app d with cap := { (s.app d).cap with rd := w.toNat } } else { s.app d with cap := { (s.app d).cap with badIdx := true } }) ∧ t.appsElse s d ∧ t = { s with safe := t.safe, apps := t.apps, pins := t.pins }))

/-- The mailbox (R419): an operation makes an enabled, idle mailbox busy and is a collision in a busy one; a read that is served leaves the value, its length, DONE and result 0; a write that is served stages its data and
leaves DONE and result 0; with the pair down the request fails with 0x0D. -/
def Obligations.MailboxRequests : Prop :=
  ∀ (s : State) (d : Nat), s.variant.hasDie d = true → s.pairsRun d = true →
    (∀ (staged : Bool) c op, [(Instr.mbxRead d staged, 1), (.mbxWrite d staged, 2)].contains (c, op) = true → s.leads c (fun t =>
      ((s.app d).mbx.blk.en = true → (s.app d).mbx.busy = false → (t.app d).mbx = { (s.app d).mbx with busy := true, op := op, staged := staged }) ∧
      ((s.app d).mbx.busy = true → (t.app d).mbx = { (s.app d).mbx with coll := true }) ∧
      ((s.app d).mbx.blk.en = false → (s.app d).mbx.busy = false → (t.app d).mbx = (s.app d).mbx) ∧ t.appsElse s d ∧ t = { s with safe := t.safe, apps := t.apps, pins := t.pins })) ∧
    (∀ v, s.inRun = true → (s.app d).mbx.busy = true → (s.app d).mbx.op = 1 → s.pairRuns d = true →
      s.odRead (d + 4) ((s.app d).mbx.index % 65536) ((s.app d).mbx.index / 65536) (s.app d).mbx.row (s.app d).mbx.staged false = (0, v) → s.leads (.mailboxComplete d) (fun t =>
        (t.app d).mbx.busy = false ∧ (t.app d).mbx.done = true ∧ (t.app d).mbx.result = 0 ∧ (t.app d).mbx.len = v.length ∧ (t.app d).mbx.bytes = v ∧
        (t.sess (d + 4)).lastStatus = 0 ∧ t.appsElse s d ∧ t = { s with sessions := t.sessions, intc := t.intc, apps := t.apps, safe := t.safe, pins := t.pins })) ∧
    (s.inRun = true → (s.app d).mbx.busy = true → s.pairRuns d = false → s.leads (.mailboxComplete d) (fun t =>
      (t.app d).mbx.busy = false ∧ (t.app d).mbx.done = true ∧ (t.app d).mbx.result = 0x0D ∧ (t.app d).mbx.data = (s.app d).mbx.data ∧ (t.sess (d + 4)).lastStatus = 0x0D ∧
      t = { s with sessions := t.sessions, intc := t.intc, apps := t.apps, safe := t.safe, pins := t.pins })) ∧
    (∀ i u row b o x, s.inRun = true → (s.app d).mbx.busy = true → (s.app d).mbx.op = 2 → s.pairRuns d = true → i = (s.app d).mbx.index % 65536 → u = (s.app d).mbx.index / 65536 → row = (s.app d).mbx.row →
      b = (s.app d).mbx.bytes → odObject s.variant i = some o → odEntry s.variant (i * 256 + u) = some x → x.acc = .rw → x.live = false → s.accepts (d + 4) i u row b = true → s.mayStage (d + 4) = true →
      s.hasRoom [(okey (i * 256 + u) (o.keyRow row), leNat b)] = true → s.leads (.mailboxComplete d) (fun t =>
        (t.app d).mbx.busy = false ∧ (t.app d).mbx.done = true ∧ (t.app d).mbx.result = 0 ∧ (t.app d).mbx.data = (s.app d).mbx.data ∧ t.lockHolder = some (d + 4) ∧
        mfind t.od.staging (okey (i * 256 + u) (o.keyRow row)) = some (leNat b) ∧ (t.sess (d + 4)).lastStatus = 0 ∧ t.appsElse s d ∧
        t = { s with od := { s.od with staging := t.od.staging }, lockHolder := some (d + 4), sessions := t.sessions, intc := t.intc, apps := t.apps, safe := t.safe, pins := t.pins }))

/-- The inter-die bridge (R35, R397, R420 to R424, Table 14-10): with no earlier write under way a read of an SRAM word of a reachable die answers it, and a posted write to one stores it and uses a tag; the side with the higher die index backs off
and counts; a damaged transfer fails with cause 5, an unanswered read with 6 (so, DEDUCED in log 94, ends one that no link route carries); a failed posted write is logged and counted; a fence answers when no write is outstanding. -/
def Obligations.BridgeTransfers : Prop :=
  ∀ (s : State) (d : Nat), s.variant.hasDie d = true → s.pairsRun d = true →
    (∀ w o how, s.windowOpen d w o = false → s.leads (.bridgeWindowRead d w o how) (fun t => t.out = .accessFault d 1 (windowAddr w o) :: s.out ∧ t = { s with out := t.out, safe := t.safe, pins := t.pins })) ∧
    (∀ w o, s.windowOpen d w o = true → (s.bridgeCore d 1).read = none → (s.bridgeCore d 1).fencing = false → (s.bridgeCore d 1).posted = [] → 0x800000 ≤ o → o < 0x8C0000 → s.bridgeCut w = false → s.bridgeWay d w = true →
      s.leads (.bridgeWindowRead d w o .through) (fun t => t.out = .regRead d 1 (o - 0x800000) ((s.app w).word ((o - 0x800000) / 4)) :: s.out ∧ (t.bridgeCore d 1).read = none ∧
        (∀ m, (t.app m).sram = (s.app m).sram) ∧ t = { s with safe := t.safe, intc := t.intc, apps := t.apps, pins := t.pins, fresh := t.fresh, out := t.out })) ∧
    (∀ w o, s.windowOpen d w o = true → (s.bridgeCore d 1).read = none → (s.bridgeCore d 1).fencing = false → (s.bridgeCore d 1).posted = [] → s.bridgeWay d w = true ∨ s.bridgeCut w = true → w < d →
      s.leads (.bridgeWindowRead d w o .contended) (fun t => (t.bridgeCore d 1).read = some ⟨w, farAddr o, 0, 0, .nacked 1⟩ ∧ (t.bridgeCore d 1).retry = ((s.bridgeCore d 1).retry + 1) % 2 ^ 32 ∧
        t.out = s.out ∧ t.appsElse s d ∧ t = { s with safe := t.safe, intc := t.intc, apps := t.apps, pins := t.pins, fresh := t.fresh, out := t.out })) ∧
    (∀ w o, s.windowOpen d w o = true → (s.bridgeCore d 1).read = none → (s.bridgeCore d 1).fencing = false → (s.bridgeCore d 1).posted = [] → s.bridgeWay d w = true ∨ s.bridgeCut w = true →
      s.leads (.bridgeWindowRead d w o .damaged) (fun t => (t.bridgeCore d 1).read = none ∧ (t.bridgeCore d 1).errStat = w * 2 ^ 28 + 5 * 65536 ∧ (t.bridgeCore d 1).errAddr = farAddr o ∧
        t.out = .accessFault d 1 (farAddr o) :: s.out ∧ t.appsElse s d ∧ t = { s with safe := t.safe, intc := t.intc, apps := t.apps, pins := t.pins, fresh := t.fresh, out := t.out })) ∧
    (∀ w o how, s.windowOpen d w o = true → (s.bridgeCore d 1).read = none → (s.bridgeCore d 1).fencing = false → (s.bridgeCore d 1).posted = [] → s.bridgeWay d w = false → s.bridgeCut w = false →
      s.leads (.bridgeWindowRead d w o how) (fun t => (t.bridgeCore d 1).read = some ⟨w, farAddr o, 0, 0, .silent⟩ ∧ t.out = s.out ∧ t.appsElse s d ∧ t = { s with safe := t.safe, intc := t.intc, apps := t.apps, pins := t.pins, fresh := t.fresh, out := t.out })) ∧
    (∀ w o (v : Word), s.windowOpen d w o = true → (s.bridgeCore d 1).read = none → (s.bridgeCore d 1).fencing = false → (s.bridgeCore d 1).posted = [] → 0x800000 ≤ o → o < 0x8C0000 → s.bridgeCut w = false → s.bridgeWay d w = true →
      s.leads (.bridgePostedWrite d w o v .through) (fun t => (t.app w).word ((o - 0x800000) / 4) = v.toNat ∧ (∀ a, a ≠ (o - 0x800000) / 4 → (t.app w).word a = (s.app w).word a) ∧
        (∀ m, m ≠ w → (t.app m).sram = (s.app m).sram) ∧ (t.bridgeCore d 1).posted = [] ∧ (t.bridgeCore d 1).lastTag = (s.bridgeCore d 1).tags ∧
        (t.bridgeCore d 1).tags = ((s.bridgeCore d 1).tags + 1) % 4096 ∧ t.out = s.out ∧ t = { s with apps := t.apps, out := s.out, safe := t.safe, pins := t.pins })) ∧
    (s.leads (.bridgeFence d) (fun t =>
      ((s.bridgeCore d 1).posted = [] → (s.bridgeCore d 1).read = none → t.out = .regRead d 1 0x40004008 (s.bridgeCore d 1).fence :: s.out ∧ (t.bridgeCore d 1).fencing = false) ∧ t = { s with safe := t.safe, intc := t.intc, apps := t.apps, pins := t.pins, fresh := t.fresh, out := t.out })) ∧
    (∀ v : Word, s.leads (.bridgePfclr d v) (fun t => t.bridgeCore d 1 = { s.bridgeCore d 1 with fence := 0 } ∧ t.appsElse s d ∧ t = { s with safe := t.safe, apps := t.apps, pins := t.pins })) ∧
    (∀ x c, (s.bridgeCore d 1).posted = [x] → x.way = .failed c → s.leads (.bridgePostedFail d) (fun t =>
      (t.bridgeCore d 1).posted = [] ∧ bitAt (t.bridgeCore d 1).pfsrc x.die = true ∧ (t.bridgeCore d 1).fence = min 0xFFFF ((s.bridgeCore d 1).fence + 1) ∧
      mget 0 (t.app (if c ≤ 2 then x.die else d)).bridge.logAddr (s.app (if c ≤ 2 then x.die else d)).bridge.logNext = (if c ≤ 2 ∨ x.die = d then x.addr else windowAddr x.die (farOffset x.addr)) ∧
      (t.app (if c ≤ 2 then x.die else d)).bridge.logNext = ((s.app (if c ≤ 2 then x.die else d)).bridge.logNext + 1) % 16 ∧ t = { s with safe := t.safe, intc := t.intc, apps := t.apps, pins := t.pins, fresh := t.fresh, out := t.out })) ∧
    (∀ x k, (s.bridgeCore d 1).posted = [] → (s.bridgeCore d 1).read = some x → x.way = .nacked k → k < 255 → s.leads (.bridgeNackRetry d false) (fun t =>
      (t.bridgeCore d 1).read = some { x with way := .nacked (k + 1) } ∧ (t.bridgeCore d 1).retry = ((s.bridgeCore d 1).retry + 1) % 2 ^ 32 ∧ t.appsElse s d ∧ t = { s with safe := t.safe, intc := t.intc, apps := t.apps, pins := t.pins, fresh := t.fresh, out := t.out })) ∧
    (∀ x k, (s.bridgeCore d 1).posted = [] → (s.bridgeCore d 1).read = some x → x.way = .nacked k → farSram x.addr = true → s.bridgeCut x.die = false → s.bridgeWay d x.die = true → s.leads (.bridgeNackRetry d true) (fun t =>
      (t.bridgeCore d 1).read = none ∧ t.out.contains (.regRead d 1 x.addr ((s.app x.die).word (x.addr / 4))) = true ∧ t = { s with safe := t.safe, intc := t.intc, apps := t.apps, pins := t.pins, fresh := t.fresh, out := t.out })) ∧
    (∀ x, (s.bridgeCore d 1).posted = [] → (s.bridgeCore d 1).read = some x → x.way = .silent → s.leads (.bridgeResponseTimeout d) (fun t =>
      (t.bridgeCore d 1).read = none ∧ (t.bridgeCore d 1).errStat = x.die * 2 ^ 28 + 6 * 65536 ∧ (t.bridgeCore d 1).errAddr = x.addr ∧ t.out = .accessFault d 1 x.addr :: s.out ∧
      t.appsElse s d ∧ t = { s with safe := t.safe, intc := t.intc, apps := t.apps, pins := t.pins, fresh := t.fresh, out := t.out })) ∧
    s.leads (.bridgeRetryRead d) (fun t => t.out = .regRead d 1 0x4000403C (s.bridgeCore d 1).retry :: s.out ∧ t.bridgeCore d 1 = { s.bridgeCore d 1 with retry := 0 } ∧ t.appsElse s d ∧ t = { s with safe := t.safe, apps := t.apps, pins := t.pins, out := t.out }) ∧
    (∀ x k, (s.bridgeCore d 1).posted = [] → (s.bridgeCore d 1).read = some x → x.way = .nacked k → s.bridgeCut x.die = false → s.bridgeWay d x.die = false → s.leads (.bridgeNackRetry d true) (fun t =>
      (t.bridgeCore d 1).read = some { x with way := .silent } ∧ t.out = s.out ∧ t.appsElse s d ∧ t = { s with safe := t.safe, intc := t.intc, apps := t.apps, pins := t.pins, fresh := t.fresh, out := t.out }))

/-- Hardware semaphores (R425): a read of a free semaphore answers 0 and takes it for its reader, of a held one answers the holder; writing 0 frees the writer's own, any other write reports a conflict; a semaphore whose holder's
die is LOST, or whose holder's pair has been reset since, is released with its SEM_REL bit and source 42 of its own die. -/
def Obligations.Semaphores : Prop :=
  ∀ (s : State) (d i : Nat), s.variant.hasDie d = true → i < 32 →
    (∀ who, s.variant.hasDie (who / 16) = true → s.pairsRun d = true → s.pairsRun (who / 16) = true → (who / 16 = d ∨ s.bridgeWay (who / 16) d = true) → s.leads (.bridgeSemRead d i who) (fun t =>
      (mfind (s.app d).bridge.sems i = none → mfind (t.app d).bridge.sems i = some (who + 1) ∧ t.out = .regRead (who / 16) (who % 16) (0x40004080 + 4 * i) 0 :: s.out) ∧
      (∀ h, mfind (s.app d).bridge.sems i = some h → (t.app d).bridge.sems = (s.app d).bridge.sems ∧ t.out = .regRead (who / 16) (who % 16) (0x40004080 + 4 * i) (0x80000000 + (h - 1)) :: s.out) ∧
      t.appsElse s d ∧ t = { s with safe := t.safe, apps := t.apps, pins := t.pins, out := t.out })) ∧
    (∀ (who : Nat) (v : Word), s.variant.hasDie (who / 16) = true → s.pairsRun d = true → s.pairsRun (who / 16) = true → (who / 16 = d ∨ s.bridgeWay (who / 16) d = true) → s.leads (.bridgeSemWrite d i who v) (fun t =>
      (v = 0 → mfind (s.app d).bridge.sems i = some (who + 1) → (t.app d).bridge = { (s.app d).bridge with sems := mdel (s.app d).bridge.sems i, orphans := clearBit (s.app d).bridge.orphans i }) ∧
      (v ≠ 0 ∨ mfind (s.app d).bridge.sems i ≠ some (who + 1) → (t.app d).bridge = { (s.app d).bridge with blk := { (s.app d).bridge.blk with conflict := true } }) ∧
      t.appsElse s d ∧ t = { s with safe := t.safe, intc := t.intc, apps := t.apps, pins := t.pins })) ∧
    (s.pairsRun d = true → s.semFailed d i = true → s.leads (.semaphoreFailureRelease d i) (fun t =>
      mget 0 (t.app d).bridge.sems i = 0 ∧ bitAt (t.app d).bridge.semRel i = true ∧
      (bitAt (s.intcTarget d 0).active 42 = false → bitAt (t.intcTarget d 0).pend 42 = true) ∧ t.appsElse s d ∧ t = { s with safe := t.safe, intc := t.intc, apps := t.apps, pins := t.pins })) ∧
    (∀ who, mfind (s.app d).bridge.sems i = some (who + 1) → s.lostDie (who / 16) = true → s.semFailed d i = true) ∧
    (∀ h, s.variant.hasDie h = true → s.pairsRun h = true → (s.app h).running = true → (s.app h).sys.en = true → s.update.trial ≠ some 2 → mfind (s.app d).bridge.sems i = some (h * 16 + 2) → s.leads (.appWatchdogExpiry h) (fun t =>
      t.semFailed d i = true ∧ t = { s with od := t.od, lockHolder := t.lockHolder, commit := t.commit, ev := t.ev, safe := t.safe, dies := t.dies, intc := t.intc, apps := t.apps, update := t.update, pins := t.pins, out := t.out })) ∧
    (∀ h cause, s.variant.hasDie h = true → mfind (s.app d).bridge.sems i = some (h * 16 + 2) → (s.appHalt h cause).semFailed d i = true) ∧
    (∀ h, s.variant.hasDie h = true → (s.die h).runtimeUp = true → mfind (s.app d).bridge.sems i = some (h * 16 + 1) → (s.runtimeFails h).semFailed d i = true)

/-- The register map (R397 to R404, Tables 14-1 and 14-2): a stored word of SRAM reads back, a register's word has its write's effect, an unaligned or unnamed address faults; an alias write acts on its one bit, under R398 where it is one of a CTRL register (log 16); a Cfg write
to a block that is enabled or in DISABLING, and a CTRL word that keeps EN and changes another field, are ignored and set CFG_IGN; reading
a low word latches its high word for the reader, and reading an alias or an SRAM word has no effect; the corrected-error count clears on read; DISABLING ends in the pending re-enable; a parity mismatch stops its block in FAULT. -/
def Obligations.RegisterMap : Prop :=
  ∀ (s : State) (d : Nat), s.variant.hasDie d = true → s.pairsRun d = true →
    (∀ addr (w : Word), s.leads (.registerWrite d addr w) (fun t =>
      (addr % 4 ≠ 0 → t = { s with out := .accessFault d 1 addr :: s.out, safe := t.safe, pins := t.pins }) ∧
      (addr % 4 = 0 → addr < 0xC0000 → (t.app d).word (addr / 4) = w.toNat ∧ (∀ a, a ≠ addr / 4 → (t.app d).word a = (s.app d).word a) ∧ t.appsElse s d ∧
        t = { s with apps := t.apps, safe := t.safe, pins := t.pins }) ∧
      (∀ r, addr % 4 = 0 → 0x40000000 ≤ addr → addr < 0x40100000 → regOf addr = some r → t = (s.regWrite d 1 (d * 16 + 1) r w.toNat).settle) ∧
      (addr % 4 = 0 → 0x40000000 ≤ addr → addr < 0x40100000 → regOf addr = none → t = { s with out := .accessFault d 1 addr :: s.out, safe := t.safe, pins := t.pins }))) ∧
    (∀ r b reg (w : Word), b < 32 → reg < 0x100000 → regOf (0x40000000 + reg) = some r → s.leads (.bitPlaneAliasWrite d (0x48000000 + b * 0x100000 + reg) w) (fun t =>
      (bitAt r.rwMask b = true → r.ctrlOf = none ∨ b = 0 → t = (s.regWrite d 1 (d * 16 + 1) r (if w.getLsbD 0 = true then setBit (s.regPeek d 1 (d * 16 + 1) r) b else clearBit (s.regPeek d 1 (d * 16 + 1) r) b)).settle) ∧
      (∀ id, bitAt r.rwMask b = true → r.ctrlOf = some id → 0 < b → s.foreign d 2 id = false → (s.blockOf d id).en = true →
        (w.getLsbD 0 = bitAt (s.regPeek d 1 (d * 16 + 1) r) b → t = { s with safe := t.safe, pins := t.pins }) ∧
        (w.getLsbD 0 ≠ bitAt (s.regPeek d 1 (d * 16 + 1) r) b → t.blockOf d id = { s.blockOf d id with cfgIgn := true } ∧ t.regPeek d 1 (d * 16 + 1) r = s.regPeek d 1 (d * 16 + 1) r ∧ t.appsElse s d)) ∧
      (∀ id, bitAt r.rwMask b = true → r.ctrlOf = some id → 0 < b → s.foreign d 2 id = false → (s.blockOf d id).en = false →
        bitAt (t.regPeek d 1 (d * 16 + 1) r) b = w.getLsbD 0 ∧ (t.blockOf d id).en = false ∧ (t.blockOf d id).again = (s.blockOf d id).again ∧ t.appsElse s d) ∧
      (bitAt r.rwMask b = false → bitAt r.oneMask b = true → w.getLsbD 0 = true → t = (s.regWrite d 1 (d * 16 + 1) r (2 ^ b)).settle) ∧
      (bitAt r.rwMask b = false → bitAt r.oneMask b = false ∨ w.getLsbD 0 = false → t = { s with safe := t.safe, pins := t.pins }))) ∧
    (∀ core, s.leads (.lowWordRead d 0x40000020 core) (fun t => t.out = .regRead d core 0x40000020 (s.gptp % 2 ^ 32) :: s.out ∧
      mfind (t.app d).shadows (shadowKey 0x40000020 (d * 16 + core)) = some (s.gptp / 2 ^ 32) ∧ t.appsElse s d ∧ t = { s with apps := t.apps, out := t.out, safe := t.safe, pins := t.pins })) ∧
    (∀ core, s.leads (.lowWordRead d 0x40002000 core) (fun t => t.out = .regRead d core 0x40002000 (s.dieTicks d % 2 ^ 32) :: s.out ∧
      mfind (t.app d).shadows (shadowKey 0x40002000 (d * 16 + core)) = some (s.dieTicks d / 2 ^ 32 % 2 ^ 32) ∧ t.appsElse s d ∧
      t = { s with apps := t.apps, out := t.out, safe := t.safe, pins := t.pins })) ∧
    (∀ r b reg core, b < 32 → reg < 0x100000 → regOf (0x40000000 + reg) = some r → s.leads (.lowWordRead d (0x48000000 + b * 0x100000 + reg) core) (fun t =>
      t = { s with out := .regRead d core (0x48000000 + b * 0x100000 + reg) (if bitAt (s.regPeek d core (d * 16 + core) r) b = true then 1 else 0) :: s.out, safe := t.safe, pins := t.pins })) ∧
    (∀ addr core, addr % 4 = 0 → addr < 0xC0000 → s.leads (.lowWordRead d addr core) (fun t =>
      t = { s with out := .regRead d core addr ((s.app d).word (addr / 4)) :: s.out, safe := t.safe, pins := t.pins })) ∧
    s.leads (.sysEccCorrRead d) (fun t => t.out = .regRead d 1 0x40000018 (s.app d).eccCorr :: s.out ∧ t.app d = { s.app d with eccCorr := 0 } ∧ t.appsElse s d ∧ t = { s with safe := t.safe, apps := t.apps, pins := t.pins, out := t.out }) ∧
    (∀ addr b, (regOf addr).bind Reg.block = some b → b.isQueue = false → (s.blockOf d b).disabling = true → s.blockIdle d b = true → s.leads (.blockDisablingEnd d addr) (fun t =>
      t.blockOf d b = { s.blockOf d b with disabling := false, again := false, en := (s.blockOf d b).again } ∧ t.appsElse s d ∧ t = { s with safe := t.safe, intc := t.intc, apps := t.apps, pins := t.pins })) ∧
    (∀ addr r b, regOf addr = some r → r.isCfg = true → r.block = some b → (s.die d).state ≠ 3 → s.leads (.registerParityMismatch d addr) (fun t =>
      t.blockOf d b = (s.blockOf d b).parity ∧ t.safe.faultSeq = s.safe.faultSeq + 1 ∧ t.appsElse s d ∧ t = { s with od := t.od, ev := t.ev, safe := t.safe, dies := t.dies, intc := t.intc, apps := t.apps, pins := t.pins, out := t.out })) ∧
    (∀ addr r b (w : Word), addr % 4 = 0 → 0x40000000 ≤ addr → addr < 0x40100000 → regOf addr = some r → r.isCfg = true → r.ctrlOf = none → r.block = some b → (s.blockOf d b).en = true ∨ (s.blockOf d b).disabling = true →
      s.foreign d 2 b = false → s.leads (.registerWrite d addr w) (fun t => t.blockOf d b = { s.blockOf d b with cfgIgn := true } ∧ t.regPeek d 1 (d * 16 + 1) r = s.regPeek d 1 (d * 16 + 1) r ∧
        t.appsElse s d ∧ t = { s with safe := t.safe, intc := t.intc, apps := t.apps, pins := t.pins })) ∧
    (∀ addr r id (w : Word) b, addr % 4 = 0 → 0x40000000 ≤ addr → addr < 0x40100000 → regOf addr = some r → r.ctrlOf = some id → s.foreign d 2 id = false → (s.blockOf d id).en = true → w.getLsbD 0 = true →
      0 < b → b < 32 → bitAt r.rwMask b = true → w.getLsbD b ≠ bitAt (s.regPeek d 1 (d * 16 + 1) r) b → s.leads (.registerWrite d addr w) (fun t =>
        t.blockOf d id = { s.blockOf d id with cfgIgn := true } ∧ t.regPeek d 1 (d * 16 + 1) r = s.regPeek d 1 (d * 16 + 1) r ∧ t.appsElse s d ∧ t = { s with safe := t.safe, intc := t.intc, apps := t.apps, pins := t.pins }))

/-- Faults of a port's configuration and the test access port (R134, R171, R479): the first parity fault rewrites the configuration and an enabled port passes through ENABLING again, a second within 10 s leaves it in FAULT and degrades its die; the
boundary instructions act while RESET_N is low in BLANK or PROVISIONED and are BYPASS anywhere else (captured levels are free values, log 26). -/
def Obligations.PortParityAndScan : Prop :=
  ∀ s : State,
    (∀ slot, s.variant.hasSlot slot = true → s.portRuns slot = true → (s.die (slotDie slot)).state ≠ 3 → s.leads (.configParityFault slot) (fun t =>
      (t.port slot).lastParity = some s.clock.ticks ∧ t.safe.faultSeq = s.safe.faultSeq + 1 ∧
      (∀ x, (s.port slot).lastParity = some x → s.clock.ticks - x < msTicks 10000 → t.portState slot = 5 ∧ (t.port slot).parityFault = true ∧ (t.die (slotDie slot)).causes.contains 5 = true) ∧
      ((s.port slot).lastParity = none → (s.die (slotDie slot)).runtimeUp = true → (s.port slot).clockStopped = false → (t.port slot).parityFault = false ∧
        t.portState slot = (if s.enabled slot = true then (if isLin slot = true ∧ s.cfgSlot E.portLinRole slot = 0 then 2 else 1) else 0)) ∧
      t = { s with od := t.od, ev := t.ev, safe := t.safe, dies := t.dies, queues := t.queues, bp := t.bp, policers := t.policers, credits := t.credits, ports := t.ports, sumac := t.sumac, intc := t.intc, creditDue := t.creditDue, nextFid := t.nextFid, pins := t.pins, out := t.out })) ∧
    (∀ c, c = Instr.jtagBypass ∨ c = Instr.jtagTestLogicReset → s.leads c (fun t => t.jtag = { s.jtag with instr := 0 } ∧ t = { s with safe := t.safe, jtag := t.jtag, pins := t.pins })) ∧
    (∀ cells c k, [(Instr.jtagSamplePreload cells, 1), (.jtagExtest cells, 2)].contains (c, k) = true → s.leads c (fun t =>
      (s.scanOpen = true → t.jtag = ⟨k, cells % 2 ^ s.chainLength⟩ ∧ t.pins.extest = (if k = 2 then some t.jtag.cells else none) ∧
        t.out = .jtag s.captured :: s.out ∧ (∀ x ∈ s.levels, bitAt s.captured x.1 = x.2) ∧ t.fresh = s.fresh + 1) ∧
      (s.scanOpen = false → t.jtag = { s.jtag with instr := 0 } ∧ t.out = s.out ∧ t.fresh = s.fresh) ∧ t = { s with safe := t.safe, jtag := t.jtag, pins := t.pins, fresh := t.fresh, out := t.out }))
end

