-- ==== Sys2Proof/Laws/Maps.lean ====
section
/-! SUPPORT. What the map operations do: read after write, and that they keep the canonical form. -/

namespace Sys2Proof.Machine
open Sys2Proof

@[simp] theorem mget_mput_same (d : α) (m : NMap α) (i : Nat) (v : α) : mget d (mput m i v) i = v := by
  induction m with
  | nil => simp [mput, mget]
  | cons e m ih =>
    obtain ⟨k, w⟩ := e
    by_cases h1 : i = k
    · simp [mput, mget, h1]
    · by_cases h2 : i < k
      · simp [mput, mget, h1, h2]
      · simp [mput, mget, h1, h2, ih]

theorem mget_mput_other (d : α) (m : NMap α) (i j : Nat) (v : α) (h : j ≠ i) : mget d (mput m i v) j = mget d m j := by
  induction m with
  | nil => simp [mput, mget, h]
  | cons e m ih =>
    obtain ⟨k, w⟩ := e
    by_cases h1 : i = k
    · subst h1; simp [mput, mget, h]
    · by_cases h2 : i < k
      · by_cases h3 : j < i
        · simp [mput, mget, h1, h2, h, h3, show ¬ j = k by omega, show j < k by omega]
        · simp [mput, mget, h1, h2, h, h3]
      · simp [mput, mget, h1, h2, ih]

theorem mrising_le {lo lo' : Nat} {m : NMap α} (h : lo' ≤ lo) (hm : mrising lo m = true) : mrising lo' m = true := by
  cases m with
  | nil => rfl
  | cons e m =>
    obtain ⟨k, w⟩ := e
    simp only [mrising, Bool.and_eq_true, decide_eq_true_eq] at hm ⊢
    exact ⟨by omega, hm.2⟩

theorem mget_below {lo : Nat} (d : α) {m : NMap α} (hm : mrising lo m = true) {j : Nat} (h : j < lo) : mget d m j = d := by
  cases m with
  | nil => rfl
  | cons e m =>
    obtain ⟨k, w⟩ := e
    simp only [mrising, Bool.and_eq_true, decide_eq_true_eq] at hm
    simp [mget, show ¬ j = k by omega, show j < k by omega]

theorem mget_dropWhile (d : α) (m : NMap α) (i j : Nat) (h : i < j) : mget d (m.dropWhile (fun p => p.1 ≤ i)) j = mget d m j := by
  induction m with
  | nil => rfl
  | cons e m ih =>
    obtain ⟨k, w⟩ := e
    by_cases h1 : k ≤ i
    · rw [List.dropWhile_cons_of_pos (by simpa using h1), ih]
      simp [mget, show ¬ j = k by omega, show ¬ j < k by omega]
    · rw [List.dropWhile_cons_of_neg (by simpa using h1)]

theorem mget_dropWhile_low (d : α) (m : NMap α) (i j : Nat) (h : j ≤ i) : mget d (m.dropWhile (fun p => p.1 ≤ i)) j = d := by
  induction m with
  | nil => rfl
  | cons e m ih =>
    obtain ⟨k, w⟩ := e
    by_cases h1 : k ≤ i
    · rw [List.dropWhile_cons_of_pos (by simpa using h1), ih]
    · rw [List.dropWhile_cons_of_neg (by simpa using h1)]
      simp [mget, show ¬ j = k by omega, show j < k by omega]

/-- A deleted key reads the default, in any list. -/
@[simp] theorem mget_mdel_same (d : α) (m : NMap α) (i : Nat) : mget d (mdel m i) i = d := by
  induction m with
  | nil => rfl
  | cons e m ih =>
    obtain ⟨k, w⟩ := e
    by_cases h1 : i = k
    · simp only [mdel, h1, if_true]; exact mget_dropWhile_low d m k k (le_refl k)
    · by_cases h2 : i < k
      · simp [mdel, mget, h1, h2]
      · simpa [mdel, mget, h1, h2] using ih

theorem dropWhile_below {lo : Nat} {m : NMap α} (hm : mrising lo m = true) {i : Nat} (h : i < lo) : m.dropWhile (fun p => p.1 ≤ i) = m := by
  cases m with
  | nil => rfl
  | cons e m =>
    obtain ⟨k, w⟩ := e
    simp only [mrising, Bool.and_eq_true, decide_eq_true_eq] at hm
    rw [List.dropWhile_cons_of_neg (by simp; omega)]

/-- Below its least key a map has nothing to delete. -/
theorem mdel_below {lo : Nat} {m : NMap α} (hm : mrising lo m = true) {i : Nat} (h : i < lo) : mdel m i = m := by
  cases m with
  | nil => rfl
  | cons e m =>
    obtain ⟨k, w⟩ := e
    simp only [mrising, Bool.and_eq_true, decide_eq_true_eq] at hm
    simp [mdel, show ¬ i = k by omega, show i < k by omega]

theorem mget_mdel_other (d : α) (m : NMap α) {i j : Nat} (h : j ≠ i) : mget d (mdel m i) j = mget d m j := by
  induction m with
  | nil => rfl
  | cons e m ih =>
    obtain ⟨k, w⟩ := e
    by_cases h1 : i = k
    · subst h1
      simp only [mdel, if_true]
      by_cases h3 : j < i
      · rw [mget_dropWhile_low d m i j (by omega)]; simp [mget, h, h3]
      · rw [mget_dropWhile d m i j (by omega)]; simp [mget, h, h3]
    · by_cases h2 : i < k
      · simp [mdel, h1, h2]
      · simp only [mdel, h1, h2, if_false, mget]
        rw [ih]

/-- Reading a key after a write to it gives the value written. -/
@[simp] theorem mget_mset_same [DecidableEq α] (d : α) (m : NMap α) (i : Nat) (v : α) :
    mget d (mset d m i v) i = v := by
  by_cases h : v = d
  · subst h; simp [mset]
  · simp only [mset, h, if_false]; exact mget_mput_same d m i v

/-- A write leaves every other key alone. -/
theorem mget_mset_other [DecidableEq α] (d : α) (m : NMap α) {i j : Nat} (v : α) (h : j ≠ i) :
    mget d (mset d m i v) j = mget d m j := by
  by_cases hv : v = d
  · simp only [mset, hv, if_true]; exact mget_mdel_other d m h
  · simp only [mset, hv, if_false]; exact mget_mput_other d m i j v h

theorem mrising_mput {lo : Nat} {m : NMap α} (hm : mrising lo m = true) {i : Nat} (hi : lo ≤ i) (v : α) :
    mrising lo (mput m i v) = true := by
  induction m generalizing lo with
  | nil => simp [mput, mrising, hi]
  | cons e m ih =>
    obtain ⟨k, w⟩ := e
    simp only [mrising, Bool.and_eq_true, decide_eq_true_eq] at hm
    by_cases h1 : i = k
    · subst h1; simp [mput, mrising, hi, hm.2]
    · by_cases h2 : i < k
      · simp only [mput, h1, h2, if_false, if_true, mrising, Bool.and_eq_true, decide_eq_true_eq]
        exact ⟨hi, by omega, hm.2⟩
      · simp only [mput, h1, h2, if_false, mrising, Bool.and_eq_true, decide_eq_true_eq]
        exact ⟨hm.1, ih hm.2 (by omega)⟩

theorem mrising_mdel {lo : Nat} {m : NMap α} (hm : mrising lo m = true) (i : Nat) : mrising lo (mdel m i) = true := by
  induction m generalizing lo with
  | nil => rfl
  | cons e m ih =>
    obtain ⟨k, w⟩ := e
    simp only [mrising, Bool.and_eq_true, decide_eq_true_eq] at hm
    by_cases h1 : i = k
    · simp only [mdel, h1, if_true]; rw [dropWhile_below hm.2 (Nat.lt_succ_self k)]; exact mrising_le (by omega) hm.2
    · by_cases h2 : i < k
      · simp [mdel, h1, h2, mrising, hm]
      · simp only [mdel, h1, h2, if_false, mrising, Bool.and_eq_true, decide_eq_true_eq]
        exact ⟨hm.1, ih hm.2⟩

theorem mem_mput {m : NMap α} {i : Nat} {v : α} {p : Nat × α} (h : p ∈ mput m i v) : p = (i, v) ∨ p ∈ m := by
  induction m with
  | nil => simpa [mput] using h
  | cons e m ih =>
    obtain ⟨k, w⟩ := e
    by_cases h1 : i = k
    · simp only [mput, h1, if_true, List.mem_cons] at h ⊢; tauto
    · by_cases h2 : i < k
      · simp only [mput, h1, h2, if_true, if_false, List.mem_cons] at h ⊢; tauto
      · simp only [mput, h1, h2, if_false, List.mem_cons] at h ⊢
        rcases h with h | h
        · exact .inr (.inl h)
        · rcases ih h with h | h
          · exact .inl h
          · exact .inr (.inr h)

theorem mem_mdel {m : NMap α} {i : Nat} {p : Nat × α} (h : p ∈ mdel m i) : p ∈ m := by
  induction m with
  | nil => exact h
  | cons e m ih =>
    obtain ⟨k, w⟩ := e
    by_cases h1 : i = k
    · simp only [mdel, h1, if_true] at h; subst h1; exact List.mem_cons_of_mem _ (List.dropWhile_sublist _ |>.subset h)
    · by_cases h2 : i < k
      · simpa [mdel, h1, h2] using h
      · simp only [mdel, h1, h2, if_false, List.mem_cons] at h ⊢
        rcases h with h | h
        · exact .inl h
        · exact .inr (ih h)

/-- A write keeps the canonical form. -/
theorem mwf_mset [DecidableEq α] (d : α) {m : NMap α} (hm : mwf d m = true) (i : Nat) (v : α) : mwf d (mset d m i v) = true := by
  simp only [mwf, Bool.and_eq_true, List.all_eq_true, decide_eq_true_eq] at hm ⊢
  by_cases h : v = d
  · simp only [mset, h, if_true]
    exact ⟨mrising_mdel hm.1 i, fun p hp => hm.2 p (mem_mdel hp)⟩
  · simp only [mset, h, if_false]
    refine ⟨mrising_mput hm.1 (Nat.zero_le i) v, fun p hp => ?_⟩
    rcases mem_mput hp with rfl | hp
    · exact h
    · exact hm.2 p hp

end Sys2Proof.Machine
end

