-- ==== Sys2Proof/Laws/Rest.lean ====
section
/-! SUPPORT. What an operation leaves alone: `State.rest fs s` is `s` with the fields that the mask `fs` names put back to reset, so
`(op s).rest fs = s.rest fs` says that `op` changes nothing but those fields. -/

namespace Sys2Proof.Machine
open Sys2Proof

/-- A field, or its value at reset where the mask has the bit of weight `b`. -/
def pick {α : Type} (fs b : Nat) (r x : α) : α := if fs / b % 2 = 1 then r else x

/-- The state with the fields that the mask names put back to reset; the bit of weight 2^i names field i in the order of `State`. `variant` and `pending` stay. -/
def State.rest (fs : Nat) (s : State) : State :=
  ⟨s.variant, pick fs 2 State.reset.clock s.clock, pick fs 4 State.reset.od s.od, pick fs 8 State.reset.sessions s.sessions, pick fs 16 State.reset.lockouts s.lockouts, pick fs 32 State.reset.sidZero s.sidZero, pick fs 64 State.reset.relays s.relays, pick fs 128 State.reset.lockHolder s.lockHolder, pick fs 256 State.reset.commit s.commit, pick fs 512 State.reset.bankStore s.bankStore, pick fs 1024 State.reset.sdo s.sdo, pick fs 2048 State.reset.ev s.ev, pick fs 4096 State.reset.power s.power, pick fs 8192 State.reset.island s.island, pick fs 16384 State.reset.safe s.safe, pick fs 32768 State.reset.dies s.dies, pick fs 65536 State.reset.queues s.queues, pick fs 131072 State.reset.bp s.bp, pick fs 262144 State.reset.policers s.policers, pick fs 524288 State.reset.credits s.credits, pick fs 1048576 State.reset.links s.links, pick fs 2097152 State.reset.markers s.markers, pick fs 4194304 State.reset.ports s.ports, pick fs 8388608 State.reset.limiters s.limiters, pick fs 16777216 State.reset.fresh64 s.fresh64, pick fs 33554432 State.reset.txCounters s.txCounters, pick fs 67108864 State.reset.mram s.mram, pick fs 134217728 State.reset.lastGen s.lastGen, pick fs 268435456 State.reset.sumac s.sumac, pick fs 536870912 State.reset.intc s.intc, pick fs 1073741824 State.reset.apps s.apps, pick fs 2147483648 State.reset.tunnels s.tunnels, pick fs 4294967296 State.reset.creditDue s.creditDue, pick fs 8589934592 State.reset.samples s.samples, pick fs 17179869184 State.reset.keys s.keys, pick fs 34359738368 State.reset.fuses s.fuses, pick fs 68719476736 State.reset.life s.life, pick fs 137438953472 State.reset.measure s.measure, pick fs 274877906944 State.reset.update s.update, pick fs 549755813888 State.reset.jtag s.jtag, pick fs 1099511627776 State.reset.nextFid s.nextFid, pick fs 2199023255552 State.reset.pins s.pins, pick fs 4398046511104 State.reset.fresh s.fresh, pick fs 8796093022208 State.reset.out s.out, s.pending⟩

theorem bit_of {F fs : Nat} (i b : Nat) (hb : b = 2 ^ i) (h : F &&& fs = F) (hi : F / b % 2 = 1) : fs / b % 2 = 1 := by
  subst hb
  have hi' : F.testBit i = true := by simpa [Nat.testBit_eq_decide_div_mod_eq] using hi
  have := congrArg (fun n => n.testBit i) h
  simp only [Nat.testBit_and, hi', Bool.true_and] at this
  simpa [Nat.testBit_eq_decide_div_mod_eq] using this

theorem pick_weaken {α : Type} {F fs b : Nat} {r x y : α} (i : Nat) (hb : b = 2 ^ i) (h : F &&& fs = F) (e : pick F b r x = pick F b r y) :
    pick fs b r x = pick fs b r y := by
  unfold pick at *
  by_cases hc : F / b % 2 = 1
  · simp [bit_of i b hb h hc]
  · simp only [hc, if_false] at e
    rw [e]

theorem State.rest_weaken {F fs : Nat} {s t : State} (h : F &&& fs = F) (e : t.rest F = s.rest F) : t.rest fs = s.rest fs := by
  simp only [State.rest, State.mk.injEq] at e ⊢
  obtain ⟨h0, h1, h2, h3, h4, h5, h6, h7, h8, h9, h10, h11, h12, h13, h14, h15, h16, h17, h18, h19, h20, h21, h22, h23, h24, h25, h26, h27, h28, h29, h30, h31, h32, h33, h34, h35, h36, h37, h38, h39, h40, h41, h42, h43, h44⟩ := e
  exact ⟨h0, pick_weaken 1 rfl h h1, pick_weaken 2 rfl h h2, pick_weaken 3 rfl h h3, pick_weaken 4 rfl h h4, pick_weaken 5 rfl h h5, pick_weaken 6 rfl h h6, pick_weaken 7 rfl h h7, pick_weaken 8 rfl h h8, pick_weaken 9 rfl h h9, pick_weaken 10 rfl h h10, pick_weaken 11 rfl h h11, pick_weaken 12 rfl h h12, pick_weaken 13 rfl h h13, pick_weaken 14 rfl h h14, pick_weaken 15 rfl h h15, pick_weaken 16 rfl h h16, pick_weaken 17 rfl h h17, pick_weaken 18 rfl h h18, pick_weaken 19 rfl h h19, pick_weaken 20 rfl h h20, pick_weaken 21 rfl h h21, pick_weaken 22 rfl h h22, pick_weaken 23 rfl h h23, pick_weaken 24 rfl h h24, pick_weaken 25 rfl h h25, pick_weaken 26 rfl h h26, pick_weaken 27 rfl h h27, pick_weaken 28 rfl h h28, pick_weaken 29 rfl h h29, pick_weaken 30 rfl h h30, pick_weaken 31 rfl h h31, pick_weaken 32 rfl h h32, pick_weaken 33 rfl h h33, pick_weaken 34 rfl h h34, pick_weaken 35 rfl h h35, pick_weaken 36 rfl h h36, pick_weaken 37 rfl h h37, pick_weaken 38 rfl h h38, pick_weaken 39 rfl h h39, pick_weaken 40 rfl h h40, pick_weaken 41 rfl h h41, pick_weaken 42 rfl h h42, pick_weaken 43 rfl h h43, h44⟩

theorem pick_of {α : Type} {fs b : Nat} {r x y : α} (h : if fs / b % 2 = 1 then True else x = y) : pick fs b r x = pick fs b r y := by
  unfold pick
  by_cases hc : fs / b % 2 = 1
  · simp [hc]
  · simp only [hc, if_false] at h; rw [h]

@[simp] theorem State.rest_mk {fs : Nat} (t : State) {x1} {x2} {x3} {x4} {x5} {x6} {x7} {x8} {x9} {x10} {x11} {x12} {x13} {x14} {x15} {x16} {x17} {x18} {x19} {x20} {x21} {x22} {x23} {x24} {x25} {x26} {x27} {x28} {x29} {x30} {x31} {x32} {x33} {x34} {x35} {x36} {x37} {x38} {x39} {x40} {x41} {x42} {x43}
    (h1 : if fs / 2 % 2 = 1 then True else x1 = t.clock)
    (h2 : if fs / 4 % 2 = 1 then True else x2 = t.od)
    (h3 : if fs / 8 % 2 = 1 then True else x3 = t.sessions)
    (h4 : if fs / 16 % 2 = 1 then True else x4 = t.lockouts)
    (h5 : if fs / 32 % 2 = 1 then True else x5 = t.sidZero)
    (h6 : if fs / 64 % 2 = 1 then True else x6 = t.relays)
    (h7 : if fs / 128 % 2 = 1 then True else x7 = t.lockHolder)
    (h8 : if fs / 256 % 2 = 1 then True else x8 = t.commit)
    (h9 : if fs / 512 % 2 = 1 then True else x9 = t.bankStore)
    (h10 : if fs / 1024 % 2 = 1 then True else x10 = t.sdo)
    (h11 : if fs / 2048 % 2 = 1 then True else x11 = t.ev)
    (h12 : if fs / 4096 % 2 = 1 then True else x12 = t.power)
    (h13 : if fs / 8192 % 2 = 1 then True else x13 = t.island)
    (h14 : if fs / 16384 % 2 = 1 then True else x14 = t.safe)
    (h15 : if fs / 32768 % 2 = 1 then True else x15 = t.dies)
    (h16 : if fs / 65536 % 2 = 1 then True else x16 = t.queues)
    (h17 : if fs / 131072 % 2 = 1 then True else x17 = t.bp)
    (h18 : if fs / 262144 % 2 = 1 then True else x18 = t.policers)
    (h19 : if fs / 524288 % 2 = 1 then True else x19 = t.credits)
    (h20 : if fs / 1048576 % 2 = 1 then True else x20 = t.links)
    (h21 : if fs / 2097152 % 2 = 1 then True else x21 = t.markers)
    (h22 : if fs / 4194304 % 2 = 1 then True else x22 = t.ports)
    (h23 : if fs / 8388608 % 2 = 1 then True else x23 = t.limiters)
    (h24 : if fs / 16777216 % 2 = 1 then True else x24 = t.fresh64)
    (h25 : if fs / 33554432 % 2 = 1 then True else x25 = t.txCounters)
    (h26 : if fs / 67108864 % 2 = 1 then True else x26 = t.mram)
    (h27 : if fs / 134217728 % 2 = 1 then True else x27 = t.lastGen)
    (h28 : if fs / 268435456 % 2 = 1 then True else x28 = t.sumac)
    (h29 : if fs / 536870912 % 2 = 1 then True else x29 = t.intc)
    (h30 : if fs / 1073741824 % 2 = 1 then True else x30 = t.apps)
    (h31 : if fs / 2147483648 % 2 = 1 then True else x31 = t.tunnels)
    (h32 : if fs / 4294967296 % 2 = 1 then True else x32 = t.creditDue)
    (h33 : if fs / 8589934592 % 2 = 1 then True else x33 = t.samples)
    (h34 : if fs / 17179869184 % 2 = 1 then True else x34 = t.keys)
    (h35 : if fs / 34359738368 % 2 = 1 then True else x35 = t.fuses)
    (h36 : if fs / 68719476736 % 2 = 1 then True else x36 = t.life)
    (h37 : if fs / 137438953472 % 2 = 1 then True else x37 = t.measure)
    (h38 : if fs / 274877906944 % 2 = 1 then True else x38 = t.update)
    (h39 : if fs / 549755813888 % 2 = 1 then True else x39 = t.jtag)
    (h40 : if fs / 1099511627776 % 2 = 1 then True else x40 = t.nextFid)
    (h41 : if fs / 2199023255552 % 2 = 1 then True else x41 = t.pins)
    (h42 : if fs / 4398046511104 % 2 = 1 then True else x42 = t.fresh)
    (h43 : if fs / 8796093022208 % 2 = 1 then True else x43 = t.out)
  : (State.mk t.variant x1 x2 x3 x4 x5 x6 x7 x8 x9 x10 x11 x12 x13 x14 x15 x16 x17 x18 x19 x20 x21 x22 x23 x24 x25 x26 x27 x28 x29 x30 x31 x32 x33 x34 x35 x36 x37 x38 x39 x40 x41 x42 x43 t.pending).rest fs = t.rest fs := by
  simp only [State.rest, pick_of h1, pick_of h2, pick_of h3, pick_of h4, pick_of h5, pick_of h6, pick_of h7, pick_of h8, pick_of h9, pick_of h10, pick_of h11, pick_of h12, pick_of h13, pick_of h14, pick_of h15, pick_of h16, pick_of h17, pick_of h18, pick_of h19, pick_of h20, pick_of h21, pick_of h22, pick_of h23, pick_of h24, pick_of h25, pick_of h26, pick_of h27, pick_of h28, pick_of h29, pick_of h30, pick_of h31, pick_of h32, pick_of h33, pick_of h34, pick_of h35, pick_of h36, pick_of h37, pick_of h38, pick_of h39, pick_of h40, pick_of h41, pick_of h42, pick_of h43]

theorem covers_trans {F G fs : Nat} (h : F &&& fs = F) (hg : G &&& F = G) : G &&& fs = G := by
  rw [← hg, Nat.and_assoc, h]

@[simp] theorem foldl_rest {fs : Nat} {α : Type} (l : List α) (f : State → α → State) (h : ∀ s a, (f s a).rest fs = s.rest fs) (s : State) :
    (l.foldl f s).rest fs = s.rest fs := by
  induction l generalizing s with
  | nil => rfl
  | cons a l ih => simp only [List.foldl_cons]; rw [ih, h]
@[simp] theorem foldl_fst_rest {fs : Nat} {α β : Type} (l : List α) (f : State × β → α → State × β) (h : ∀ p a, (f p a).1.rest fs = p.1.rest fs) (p : State × β) :
    (l.foldl f p).1.rest fs = p.1.rest fs := by
  induction l generalizing p with
  | nil => rfl
  | cons a l ih => simp only [List.foldl_cons]; rw [ih, h]
@[simp] theorem ite_rest {fs : Nat} (c : Prop) [Decidable c] (a b : State) : (if c then a else b).rest fs = if c then a.rest fs else b.rest fs := by split <;> rfl
@[simp] theorem ite_fst_rest {fs : Nat} {β : Type} (c : Prop) [Decidable c] (a b : State × β) : (if c then a else b).1.rest fs = if c then a.1.rest fs else b.1.rest fs := by split <;> rfl
@[simp] theorem foldr_rest {fs : Nat} {α : Type} (l : List α) (f : α → State → State) (h : ∀ a s, (f a s).rest fs = s.rest fs) (s : State) :
    (l.foldr f s).rest fs = s.rest fs := by
  induction l with
  | nil => rfl
  | cons a l ih => simp only [List.foldr_cons]; rw [h, ih]
@[simp] theorem foldr_fst_rest {fs : Nat} {α β : Type} (l : List α) (f : α → State × β → State × β) (h : ∀ a p, (f a p).1.rest fs = p.1.rest fs) (p : State × β) :
    (l.foldr f p).1.rest fs = p.1.rest fs := by
  induction l with
  | nil => rfl
  | cons a l ih => simp only [List.foldr_cons]; rw [h, ih]
theorem State.keep_variant {s t : State} (h : t.rest 17592186044414 = s.rest 17592186044414) : t.variant = s.variant := by simpa [State.rest, pick] using congrArg State.variant h
theorem State.keep_clock {s t : State} (h : t.rest 17592186044412 = s.rest 17592186044412) : t.clock = s.clock := by simpa [State.rest, pick] using congrArg State.clock h
theorem State.keep_od {s t : State} (h : t.rest 17592186044410 = s.rest 17592186044410) : t.od = s.od := by simpa [State.rest, pick] using congrArg State.od h
theorem State.keep_sessions {s t : State} (h : t.rest 17592186044406 = s.rest 17592186044406) : t.sessions = s.sessions := by simpa [State.rest, pick] using congrArg State.sessions h
theorem State.keep_lockouts {s t : State} (h : t.rest 17592186044398 = s.rest 17592186044398) : t.lockouts = s.lockouts := by simpa [State.rest, pick] using congrArg State.lockouts h
theorem State.keep_sidZero {s t : State} (h : t.rest 17592186044382 = s.rest 17592186044382) : t.sidZero = s.sidZero := by simpa [State.rest, pick] using congrArg State.sidZero h
theorem State.keep_relays {s t : State} (h : t.rest 17592186044350 = s.rest 17592186044350) : t.relays = s.relays := by simpa [State.rest, pick] using congrArg State.relays h
theorem State.keep_lockHolder {s t : State} (h : t.rest 17592186044286 = s.rest 17592186044286) : t.lockHolder = s.lockHolder := by simpa [State.rest, pick] using congrArg State.lockHolder h
theorem State.keep_commit {s t : State} (h : t.rest 17592186044158 = s.rest 17592186044158) : t.commit = s.commit := by simpa [State.rest, pick] using congrArg State.commit h
theorem State.keep_bankStore {s t : State} (h : t.rest 17592186043902 = s.rest 17592186043902) : t.bankStore = s.bankStore := by simpa [State.rest, pick] using congrArg State.bankStore h
theorem State.keep_sdo {s t : State} (h : t.rest 17592186043390 = s.rest 17592186043390) : t.sdo = s.sdo := by simpa [State.rest, pick] using congrArg State.sdo h
theorem State.keep_ev {s t : State} (h : t.rest 17592186042366 = s.rest 17592186042366) : t.ev = s.ev := by simpa [State.rest, pick] using congrArg State.ev h
theorem State.keep_power {s t : State} (h : t.rest 17592186040318 = s.rest 17592186040318) : t.power = s.power := by simpa [State.rest, pick] using congrArg State.power h
theorem State.keep_island {s t : State} (h : t.rest 17592186036222 = s.rest 17592186036222) : t.island = s.island := by simpa [State.rest, pick] using congrArg State.island h
theorem State.keep_safe {s t : State} (h : t.rest 17592186028030 = s.rest 17592186028030) : t.safe = s.safe := by simpa [State.rest, pick] using congrArg State.safe h
theorem State.keep_dies {s t : State} (h : t.rest 17592186011646 = s.rest 17592186011646) : t.dies = s.dies := by simpa [State.rest, pick] using congrArg State.dies h
theorem State.keep_queues {s t : State} (h : t.rest 17592185978878 = s.rest 17592185978878) : t.queues = s.queues := by simpa [State.rest, pick] using congrArg State.queues h
theorem State.keep_bp {s t : State} (h : t.rest 17592185913342 = s.rest 17592185913342) : t.bp = s.bp := by simpa [State.rest, pick] using congrArg State.bp h
theorem State.keep_policers {s t : State} (h : t.rest 17592185782270 = s.rest 17592185782270) : t.policers = s.policers := by simpa [State.rest, pick] using congrArg State.policers h
theorem State.keep_credits {s t : State} (h : t.rest 17592185520126 = s.rest 17592185520126) : t.credits = s.credits := by simpa [State.rest, pick] using congrArg State.credits h
theorem State.keep_links {s t : State} (h : t.rest 17592184995838 = s.rest 17592184995838) : t.links = s.links := by simpa [State.rest, pick] using congrArg State.links h
theorem State.keep_markers {s t : State} (h : t.rest 17592183947262 = s.rest 17592183947262) : t.markers = s.markers := by simpa [State.rest, pick] using congrArg State.markers h
theorem State.keep_ports {s t : State} (h : t.rest 17592181850110 = s.rest 17592181850110) : t.ports = s.ports := by simpa [State.rest, pick] using congrArg State.ports h
theorem State.keep_limiters {s t : State} (h : t.rest 17592177655806 = s.rest 17592177655806) : t.limiters = s.limiters := by simpa [State.rest, pick] using congrArg State.limiters h
theorem State.keep_fresh64 {s t : State} (h : t.rest 17592169267198 = s.rest 17592169267198) : t.fresh64 = s.fresh64 := by simpa [State.rest, pick] using congrArg State.fresh64 h
theorem State.keep_txCounters {s t : State} (h : t.rest 17592152489982 = s.rest 17592152489982) : t.txCounters = s.txCounters := by simpa [State.rest, pick] using congrArg State.txCounters h
theorem State.keep_mram {s t : State} (h : t.rest 17592118935550 = s.rest 17592118935550) : t.mram = s.mram := by simpa [State.rest, pick] using congrArg State.mram h
theorem State.keep_lastGen {s t : State} (h : t.rest 17592051826686 = s.rest 17592051826686) : t.lastGen = s.lastGen := by simpa [State.rest, pick] using congrArg State.lastGen h
theorem State.keep_sumac {s t : State} (h : t.rest 17591917608958 = s.rest 17591917608958) : t.sumac = s.sumac := by simpa [State.rest, pick] using congrArg State.sumac h
theorem State.keep_intc {s t : State} (h : t.rest 17591649173502 = s.rest 17591649173502) : t.intc = s.intc := by simpa [State.rest, pick] using congrArg State.intc h
theorem State.keep_apps {s t : State} (h : t.rest 17591112302590 = s.rest 17591112302590) : t.apps = s.apps := by simpa [State.rest, pick] using congrArg State.apps h
theorem State.keep_tunnels {s t : State} (h : t.rest 17590038560766 = s.rest 17590038560766) : t.tunnels = s.tunnels := by simpa [State.rest, pick] using congrArg State.tunnels h
theorem State.keep_creditDue {s t : State} (h : t.rest 17587891077118 = s.rest 17587891077118) : t.creditDue = s.creditDue := by simpa [State.rest, pick] using congrArg State.creditDue h
theorem State.keep_samples {s t : State} (h : t.rest 17583596109822 = s.rest 17583596109822) : t.samples = s.samples := by simpa [State.rest, pick] using congrArg State.samples h
theorem State.keep_keys {s t : State} (h : t.rest 17575006175230 = s.rest 17575006175230) : t.keys = s.keys := by simpa [State.rest, pick] using congrArg State.keys h
theorem State.keep_fuses {s t : State} (h : t.rest 17557826306046 = s.rest 17557826306046) : t.fuses = s.fuses := by simpa [State.rest, pick] using congrArg State.fuses h
theorem State.keep_life {s t : State} (h : t.rest 17523466567678 = s.rest 17523466567678) : t.life = s.life := by simpa [State.rest, pick] using congrArg State.life h
theorem State.keep_measure {s t : State} (h : t.rest 17454747090942 = s.rest 17454747090942) : t.measure = s.measure := by simpa [State.rest, pick] using congrArg State.measure h
theorem State.keep_update {s t : State} (h : t.rest 17317308137470 = s.rest 17317308137470) : t.update = s.update := by simpa [State.rest, pick] using congrArg State.update h
theorem State.keep_jtag {s t : State} (h : t.rest 17042430230526 = s.rest 17042430230526) : t.jtag = s.jtag := by simpa [State.rest, pick] using congrArg State.jtag h
theorem State.keep_nextFid {s t : State} (h : t.rest 16492674416638 = s.rest 16492674416638) : t.nextFid = s.nextFid := by simpa [State.rest, pick] using congrArg State.nextFid h
theorem State.keep_pins {s t : State} (h : t.rest 15393162788862 = s.rest 15393162788862) : t.pins = s.pins := by simpa [State.rest, pick] using congrArg State.pins h
theorem State.keep_fresh {s t : State} (h : t.rest 13194139533310 = s.rest 13194139533310) : t.fresh = s.fresh := by simpa [State.rest, pick] using congrArg State.fresh h
theorem State.keep_out {s t : State} (h : t.rest 8796093022206 = s.rest 8796093022206) : t.out = s.out := by simpa [State.rest, pick] using congrArg State.out h
theorem State.keep_pending {s t : State} (h : t.rest 17592186044414 = s.rest 17592186044414) : t.pending = s.pending := by simpa [State.rest, pick] using congrArg State.pending h

end Sys2Proof.Machine
end

