-- ==== Sys2Proof/Laws/RestOps.lean ====
section
/-! SUPPORT. One lemma per shared operation: the fields of the state that it can change; the mask names them. -/

namespace Sys2Proof.Machine
open Sys2Proof

@[simp] theorem State.setRow_rest {fs : Nat} (hfs : 4 &&& fs = 4) (s : State) (e : Nat) (row : Nat) (v : Nat) : (State.setRow s e row v).rest fs = s.rest fs := by
  refine State.rest_weaken hfs ?_
  clear hfs fs
  simp [State.setRow]

@[simp] theorem State.set_rest {fs : Nat} (hfs : 4 &&& fs = 4) (s : State) (e : Nat) (v : Nat) : (State.set s e v).rest fs = s.rest fs := by
  refine State.rest_weaken hfs ?_
  clear hfs fs
  simp [State.set]

@[simp] theorem State.setSlot_rest {fs : Nat} (hfs : 4 &&& fs = 4) (s : State) (e : Nat) (slot : Nat) (v : Nat) : (State.setSlot s e slot v).rest fs = s.rest fs := by
  refine State.rest_weaken hfs ?_
  clear hfs fs
  simp [State.setSlot]

@[simp] theorem State.setCfgRow_rest {fs : Nat} (hfs : 4 &&& fs = 4) (s : State) (e : Nat) (row : Nat) (v : Nat) : (State.setCfgRow s e row v).rest fs = s.rest fs := by
  refine State.rest_weaken hfs ?_
  clear hfs fs
  simp [State.setCfgRow]

@[simp] theorem State.setCfg_rest {fs : Nat} (hfs : 4 &&& fs = 4) (s : State) (e : Nat) (v : Nat) : (State.setCfg s e v).rest fs = s.rest fs := by
  refine State.rest_weaken hfs ?_
  clear hfs fs
  simp [State.setCfg]

@[simp] theorem State.countRow_rest {fs : Nat} (hfs : 4 &&& fs = 4) (s : State) (e : Nat) (row : Nat) (n : optParam Nat 1) : (State.countRow s e row n).rest fs = s.rest fs := by
  refine State.rest_weaken hfs ?_
  clear hfs fs
  simp [State.countRow]

@[simp] theorem State.count_rest {fs : Nat} (hfs : 4 &&& fs = 4) (s : State) (e : Nat) (n : optParam Nat 1) : (State.count s e n).rest fs = s.rest fs := by
  refine State.rest_weaken hfs ?_
  clear hfs fs
  simp [State.count]

@[simp] theorem State.countSlot_rest {fs : Nat} (hfs : 4 &&& fs = 4) (s : State) (e : Nat) (slot : Nat) (n : optParam Nat 1) : (State.countSlot s e slot n).rest fs = s.rest fs := by
  refine State.rest_weaken hfs ?_
  clear hfs fs
  simp [State.countSlot]

@[simp] theorem State.countDie_rest {fs : Nat} (hfs : 4 &&& fs = 4) (s : State) (e : Nat) (n : Nat) (k : optParam Nat 1) : (State.countDie s e n k).rest fs = s.rest fs := by
  refine State.rest_weaken hfs ?_
  clear hfs fs
  simp [State.countDie]

@[simp] theorem State.setDie_rest {fs : Nat} (hfs : 4 &&& fs = 4) (s : State) (e : Nat) (n : Nat) (v : Nat) : (State.setDie s e n v).rest fs = s.rest fs := by
  refine State.rest_weaken hfs ?_
  clear hfs fs
  simp [State.setDie]

@[simp] theorem State.when_rest {fs : Nat} (s : State) (c : Bool) (f : State → State) (hf : ∀ (y0 : State), (f y0).rest fs = y0.rest fs) : (State.when s c f).rest fs = s.rest fs := by
  unfold State.when
  repeat' split
  all_goals simp [*]

@[simp] theorem State.emit_rest {fs : Nat} (hfs : 8796093022208 &&& fs = 8796093022208) (s : State) (o : Out) : (State.emit s o).rest fs = s.rest fs := by
  refine State.rest_weaken hfs ?_
  clear hfs fs
  simp [State.emit]

@[simp] theorem State.setDieState_rest {fs : Nat} (hfs : 32768 &&& fs = 32768) (s : State) (n : Nat) (d : Die) : (State.setDieState s n d).rest fs = s.rest fs := by
  refine State.rest_weaken hfs ?_
  clear hfs fs
  simp [State.setDieState]

@[simp] theorem State.updDie_rest {fs : Nat} (hfs : 32768 &&& fs = 32768) (s : State) (n : Nat) (f : Die → Die) : (State.updDie s n f).rest fs = s.rest fs := by
  refine State.rest_weaken hfs ?_
  clear hfs fs
  simp [State.updDie]

@[simp] theorem State.forAll_rest {fs : Nat} (s : State) (l : List Nat) (f : State → Nat → State) (hf : ∀ (y0 : State) (y1 : Nat), (f y0 y1).rest fs = y0.rest fs) : (State.forAll s l f).rest fs = s.rest fs := by
  unfold State.forAll
  repeat' split
  all_goals simp [*]

@[simp] theorem State.setIntc_rest {fs : Nat} (hfs : 536870912 &&& fs = 536870912) (s : State) (die : Nat) (target : Nat) (t : IntcTarget) : (State.setIntc s die target t).rest fs = s.rest fs := by
  refine State.rest_weaken hfs ?_
  clear hfs fs
  simp [State.setIntc]

@[simp] theorem State.fire_rest {fs : Nat} (hfs : 536870912 &&& fs = 536870912) (s : State) (die : Nat) (target : Nat) (src : Nat) : (State.fire s die target src).rest fs = s.rest fs := by
  refine State.rest_weaken hfs ?_
  clear hfs fs
  unfold State.fire
  dsimp only
  repeat' split
  all_goals simp [*]

@[simp] theorem State.raiseSource_rest {fs : Nat} (hfs : 536870912 &&& fs = 536870912) (s : State) (die : Nat) (src : Nat) : (State.raiseSource s die src).rest fs = s.rest fs := by
  refine State.rest_weaken hfs ?_
  clear hfs fs
  unfold State.raiseSource
  repeat' split
  all_goals simp [*]

@[simp] theorem State.doorbell_rest {fs : Nat} (hfs : 8796629925888 &&& fs = 8796629925888) (s : State) (src : Nat) : (State.doorbell s src).rest fs = s.rest fs := by
  refine State.rest_weaken hfs ?_
  clear hfs fs
  simp [State.doorbell]

@[simp] theorem State.requestD0_rest {fs : Nat} (hfs : 2048 &&& fs = 2048) (s : State) (r : EvReq) : (State.requestD0 s r).rest fs = s.rest fs := by
  refine State.rest_weaken hfs ?_
  clear hfs fs
  unfold State.requestD0
  repeat' split
  all_goals simp [*]

@[simp] theorem State.requestDie_rest {fs : Nat} (hfs : 32768 &&& fs = 32768) (s : State) (n : Nat) (r : EvReq) : (State.requestDie s n r).rest fs = s.rest fs := by
  refine State.rest_weaken hfs ?_
  clear hfs fs
  unfold State.requestDie
  repeat' split
  all_goals simp [*]

@[simp] theorem State.evidence_rest {fs : Nat} (hfs : 34816 &&& fs = 34816) (s : State) (die : Nat) (type : Nat) (unit : Nat) (payload : Bytes) (count : optParam Nat 1) : (State.evidence s die type unit payload count).rest fs = s.rest fs := by
  refine State.rest_weaken hfs ?_
  clear hfs fs
  unfold State.evidence
  repeat' split
  all_goals simp [*]

@[simp] theorem State.mramWrite_rest {fs : Nat} (hfs : 67108864 &&& fs = 67108864) (s : State) : (State.mramWrite s).rest fs = s.rest fs := by
  refine State.rest_weaken hfs ?_
  clear hfs fs
  simp [State.mramWrite]

@[simp] theorem State.draw_rest {fs : Nat} (hfs : 4398046511104 &&& fs = 4398046511104) (s : State) : (State.draw s).rest fs = s.rest fs := by
  refine State.rest_weaken hfs ?_
  clear hfs fs
  simp [State.draw]

@[simp] theorem State.updEv_rest {fs : Nat} (hfs : 2048 &&& fs = 2048) (s : State) (f : Evidence → Evidence) : (State.updEv s f).rest fs = s.rest fs := by
  refine State.rest_weaken hfs ?_
  clear hfs fs
  simp [State.updEv]

@[simp] theorem State.fifoFlow_rest {fs : Nat} (hfs : 8796629927936 &&& fs = 8796629927936) (s : State) : (State.fifoFlow s).rest fs = s.rest fs := by
  refine State.rest_weaken hfs ?_
  clear hfs fs
  unfold State.fifoFlow
  repeat' split
  all_goals simp [*]

@[simp] theorem State.notWritten_rest {fs : Nat} (hfs : 8796629927940 &&& fs = 8796629927940) (s : State) (seq : Nat) (sealNo : Option Nat) : (State.notWritten s seq sealNo).rest fs = s.rest fs := by
  refine State.rest_weaken hfs ?_
  clear hfs fs
  unfold State.notWritten
  dsimp only
  repeat' split
  all_goals simp [*]

@[simp] theorem State.offer_rest {fs : Nat} (hfs : 8796629927940 &&& fs = 8796629927940) (s : State) (ws : List Word) (seq : Nat) (sealNo : Option Nat) : (State.offer s ws seq sealNo).rest fs = s.rest fs := by
  refine State.rest_weaken hfs ?_
  clear hfs fs
  unfold State.offer
  dsimp only
  repeat' split
  all_goals simp [*]

@[simp] theorem State.reserveSeal_rest {fs : Nat} (hfs : 8796697036800 &&& fs = 8796697036800) (s : State) : (State.reserveSeal s).rest fs = s.rest fs := by
  refine State.rest_weaken hfs ?_
  clear hfs fs
  unfold State.reserveSeal
  dsimp only
  repeat' split
  all_goals (try simp only [Prod.ext_iff] at *)
  all_goals (try casesm* _ ∧ _)
  all_goals subst_vars
  all_goals simp [*]

@[simp] theorem State.sealTry_rest {fs : Nat} (hfs : 8796697036800 &&& fs = 8796697036800) (s : State) : (State.sealTry s).rest fs = s.rest fs := by
  refine State.rest_weaken hfs ?_
  clear hfs fs
  unfold State.sealTry
  dsimp only
  repeat' split
  all_goals simp [*]

@[simp] theorem State.trigger_rest {fs : Nat} (hfs : 8796697036804 &&& fs = 8796697036804) (s : State) (code : Nat) : (State.trigger s code).rest fs = s.rest fs := by
  refine State.rest_weaken hfs ?_
  clear hfs fs
  unfold State.trigger
  repeat' split
  all_goals simp [*]

@[simp] theorem State.lose_rest {fs : Nat} (hfs : 2048 &&& fs = 2048) (s : State) (seq : Nat) : (State.lose s seq).rest fs = s.rest fs := by
  refine State.rest_weaken hfs ?_
  clear hfs fs
  simp [State.lose]

@[simp] theorem State.journalStep_rest {fs : Nat} (hfs : 67110912 &&& fs = 67110912) (s : State) (r : EvReq) : (State.journalStep s r).rest fs = s.rest fs := by
  refine State.rest_weaken hfs ?_
  clear hfs fs
  unfold State.journalStep
  dsimp only
  repeat' split
  all_goals (try simp only [Prod.ext_iff] at *)
  all_goals (try casesm* _ ∧ _)
  all_goals subst_vars
  all_goals simp [*]

@[simp] theorem State.appendOne_rest {fs : Nat} (hfs : 8796697036804 &&& fs = 8796697036804) (s : State) (r : EvReq) : (State.appendOne s r).rest fs = s.rest fs := by
  refine State.rest_weaken hfs ?_
  clear hfs fs
  unfold State.appendOne
  dsimp only
  repeat' split
  all_goals simp [*]

@[simp] theorem State.closeLoss_rest {fs : Nat} (hfs : 8796697036804 &&& fs = 8796697036804) (s : State) : (State.closeLoss s).rest fs = s.rest fs := by
  refine State.rest_weaken hfs ?_
  clear hfs fs
  unfold State.closeLoss
  repeat' split
  all_goals simp [*]

@[simp] theorem State.append_rest {fs : Nat} (hfs : 8796697036804 &&& fs = 8796697036804) (s : State) (r : EvReq) : (State.append s r).rest fs = s.rest fs := by
  refine State.rest_weaken hfs ?_
  clear hfs fs
  unfold State.append
  dsimp only
  repeat' split
  all_goals simp [*]

@[simp] theorem State.damagedEntry_rest {fs : Nat} (hfs : 8796697036804 &&& fs = 8796697036804) (s : State) (j : JEntry) : (State.damagedEntry s j).rest fs = s.rest fs := by
  refine State.rest_weaken hfs ?_
  clear hfs fs
  unfold State.damagedEntry
  repeat' split
  all_goals simp [*]

@[simp] theorem State.treeMade_rest {fs : Nat} (hfs : 67110912 &&& fs = 67110912) (s : State) (j : Nat) : (State.treeMade s j).rest fs = s.rest fs := by
  refine State.rest_weaken hfs ?_
  clear hfs fs
  simp [State.treeMade]

@[simp] theorem State.chainOver_rest {fs : Nat} (hfs : 2048 &&& fs = 2048) (s : State) : (State.chainOver s).rest fs = s.rest fs := by
  refine State.rest_weaken hfs ?_
  clear hfs fs
  simp [State.chainOver]

@[simp] theorem State.autoRelease_rest {fs : Nat} (hfs : 16384 &&& fs = 16384) (s : State) : (State.autoRelease s).rest fs = s.rest fs := by
  refine State.rest_weaken hfs ?_
  clear hfs fs
  unfold State.autoRelease
  repeat' split
  all_goals simp [*]

@[simp] theorem State.settle_rest {fs : Nat} (hfs : 2199023271936 &&& fs = 2199023271936) (s : State) : (State.settle s).rest fs = s.rest fs := by
  refine State.rest_weaken hfs ?_
  clear hfs fs
  simp [State.settle]

theorem done_rest {fs : Nat} (hfs : 2199023271936 &&& fs = 2199023271936) (s : State) {t0 : State} (h0 : done s = .next t0) : t0.rest fs = s.rest fs := by
  unfold done at h0; cases h0; simp [State.settle_rest (covers_trans hfs (by decide)) s]

theorem doneIf_rest {fs : Nat} (hfs : 2199023271936 &&& fs = 2199023271936) (s : State) (present : Bool) (t : State) (ht : t.rest fs = s.rest fs) {t0 : State} (h0 : doneIf s present t = .next t0) : t0.rest fs = s.rest fs := by
  unfold doneIf at h0
  rw [done_rest (covers_trans hfs (by decide)) _ h0]
  split
  · exact ht
  · rfl

@[simp] theorem State.setFdb_rest {fs : Nat} (hfs : 32772 &&& fs = 32772) (s : State) (n : Nat) (t : Fdb) (moves : Nat) : (State.setFdb s n t moves).rest fs = s.rest fs := by
  refine State.rest_weaken hfs ?_
  clear hfs fs
  simp [State.setFdb]

@[simp] theorem State.fdbRemove_rest {fs : Nat} (hfs : 32772 &&& fs = 32772) (s : State) (n : Nat) (p : FdbEntry → Bool) : (State.fdbRemove s n p).rest fs = s.rest fs := by
  refine State.rest_weaken hfs ?_
  clear hfs fs
  unfold State.fdbRemove
  dsimp only
  repeat' split
  all_goals simp [*]

@[simp] theorem State.forgetDie_rest {fs : Nat} (hfs : 32772 &&& fs = 32772) (s : State) (lost : Nat) : (State.forgetDie s lost).rest fs = s.rest fs := by
  refine State.rest_weaken hfs ?_
  clear hfs fs
  simp [State.forgetDie]

@[simp] theorem State.flushFdb_rest {fs : Nat} (hfs : 32772 &&& fs = 32772) (s : State) (v : Nat) : (State.flushFdb s v).rest fs = s.rest fs := by
  refine State.rest_weaken hfs ?_
  clear hfs fs
  simp [State.flushFdb]

@[simp] theorem State.learn_rest {fs : Nat} (hfs : 32772 &&& fs = 32772) (s : State) (n : Nat) (r : LearnReq) : (State.learn s n r).rest fs = s.rest fs := by
  refine State.rest_weaken hfs ?_
  clear hfs fs
  unfold State.learn
  dsimp only
  repeat' split
  all_goals simp [*]

@[simp] theorem State.learnNext_rest {fs : Nat} (hfs : 32772 &&& fs = 32772) (s : State) (n : Nat) : (State.learnNext s n).rest fs = s.rest fs := by
  refine State.rest_weaken hfs ?_
  clear hfs fs
  unfold State.learnNext
  repeat' split
  all_goals simp [*]

@[simp] theorem State.learnEnqueue_rest {fs : Nat} (hfs : 32772 &&& fs = 32772) (s : State) (n : Nat) (r : LearnReq) : (State.learnEnqueue s n r).rest fs = s.rest fs := by
  refine State.rest_weaken hfs ?_
  clear hfs fs
  unfold State.learnEnqueue
  repeat' split
  all_goals simp [*]

@[simp] theorem State.sweep_rest {fs : Nat} (hfs : 32772 &&& fs = 32772) (s : State) (n : Nat) : (State.sweep s n).rest fs = s.rest fs := by
  refine State.rest_weaken hfs ?_
  clear hfs fs
  unfold State.sweep
  dsimp only
  repeat' split
  all_goals simp [*]

@[simp] theorem State.setQueue_rest {fs : Nat} (hfs : 65536 &&& fs = 65536) (s : State) (row : Nat) (l : List Copy) : (State.setQueue s row l).rest fs = s.rest fs := by
  refine State.rest_weaken hfs ?_
  clear hfs fs
  simp [State.setQueue]

@[simp] theorem State.setPort_rest {fs : Nat} (hfs : 4194304 &&& fs = 4194304) (s : State) (slot : Nat) (p : Port) : (State.setPort s slot p).rest fs = s.rest fs := by
  refine State.rest_weaken hfs ?_
  clear hfs fs
  simp [State.setPort]

@[simp] theorem State.updPort_rest {fs : Nat} (hfs : 4194304 &&& fs = 4194304) (s : State) (slot : Nat) (f : Port → Port) : (State.updPort s slot f).rest fs = s.rest fs := by
  refine State.rest_weaken hfs ?_
  clear hfs fs
  simp [State.updPort]

@[simp] theorem State.setPortState_rest {fs : Nat} (hfs : 4 &&& fs = 4) (s : State) (slot : Nat) (v : Nat) : (State.setPortState s slot v).rest fs = s.rest fs := by
  refine State.rest_weaken hfs ?_
  clear hfs fs
  simp [State.setPortState]

@[simp] theorem State.emitPause_rest {fs : Nat} (hfs : 8796093022212 &&& fs = 8796093022212) (s : State) (slot : Nat) (d : Bytes) : (State.emitPause s slot d).rest fs = s.rest fs := by
  refine State.rest_weaken hfs ?_
  clear hfs fs
  simp [State.emitPause]

@[simp] theorem State.sendPause_rest {fs : Nat} (hfs : 8796097216516 &&& fs = 8796097216516) (s : State) (slot : Nat) (vec : Nat) (quanta : Nat) : (State.sendPause s slot vec quanta).rest fs = s.rest fs := by
  refine State.rest_weaken hfs ?_
  clear hfs fs
  unfold State.sendPause
  repeat' split
  all_goals simp [*]

@[simp] theorem State.flushPause_rest {fs : Nat} (hfs : 8796097216516 &&& fs = 8796097216516) (s : State) (slot : Nat) : (State.flushPause s slot).rest fs = s.rest fs := by
  refine State.rest_weaken hfs ?_
  clear hfs fs
  simp [State.flushPause]

@[simp] theorem State.setAsserted_rest {fs : Nat} (hfs : 8796097216516 &&& fs = 8796097216516) (s : State) (slot : Nat) (classes : Nat) : (State.setAsserted s slot classes).rest fs = s.rest fs := by
  refine State.rest_weaken hfs ?_
  clear hfs fs
  unfold State.setAsserted
  dsimp only
  repeat' split
  all_goals simp [*]

@[simp] theorem State.bpAssert_rest {fs : Nat} (hfs : 8796097347588 &&& fs = 8796097347588) (s : State) (src : Nat) (c : Nat) (row : Nat) (byLimit : Bool) : (State.bpAssert s src c row byLimit).rest fs = s.rest fs := by
  refine State.rest_weaken hfs ?_
  clear hfs fs
  unfold State.bpAssert
  repeat' split
  all_goals simp [*]

@[simp] theorem State.bpSettle_rest {fs : Nat} (hfs : 8796097347588 &&& fs = 8796097347588) (s : State) (n : Nat) : (State.bpSettle s n).rest fs = s.rest fs := by
  refine State.rest_weaken hfs ?_
  clear hfs fs
  simp [State.bpSettle]

@[simp] theorem State.store_rest {fs : Nat} (hfs : 65540 &&& fs = 65540) (s : State) (row : Nat) (cp : Copy) (ch : Charge) : (State.store s row cp ch).rest fs = s.rest fs := by
  refine State.rest_weaken hfs ?_
  clear hfs fs
  simp [State.store]

@[simp] theorem State.bpAct_rest {fs : Nat} (hfs : 8796097413124 &&& fs = 8796097413124) (s : State) (n : Nat) (row : Nat) (cp : Copy) (byLimit : Bool) : (State.bpAct s n row cp byLimit).1.rest fs = s.rest fs := by
  refine State.rest_weaken hfs ?_
  clear hfs fs
  unfold State.bpAct
  dsimp only
  repeat' split
  all_goals simp [*]

@[simp] theorem State.red_rest {fs : Nat} (hfs : 32772 &&& fs = 32772) (s : State) (n : Nat) (row : Nat) (cp : Copy) : (State.red s n row cp).1.rest fs = s.rest fs := by
  refine State.rest_weaken hfs ?_
  clear hfs fs
  unfold State.red
  dsimp only
  repeat' split
  all_goals simp [*]

@[simp] theorem State.enqueue_rest {fs : Nat} (hfs : 8796097445892 &&& fs = 8796097445892) (s : State) (n : Nat) (q : Nat) (cp : Copy) : (State.enqueue s n q cp).1.rest fs = s.rest fs := by
  refine State.rest_weaken hfs ?_
  clear hfs fs
  unfold State.enqueue
  dsimp only
  repeat' split
  all_goals (try simp only [Prod.ext_iff] at *)
  all_goals (try casesm* _ ∧ _)
  all_goals subst_vars
  all_goals simp [*]

@[simp] theorem State.countPort_rest {fs : Nat} (hfs : 4 &&& fs = 4) (s : State) (slot : Nat) (can : Nat) (lin : Nat) (eth : Nat) (k : optParam Nat 1) : (State.countPort s slot can lin eth k).rest fs = s.rest fs := by
  refine State.rest_weaken hfs ?_
  clear hfs fs
  simp [State.countPort]

@[simp] theorem State.countTxRefused_rest {fs : Nat} (hfs : 4 &&& fs = 4) (s : State) (slot : Nat) : (State.countTxRefused s slot).rest fs = s.rest fs := by
  refine State.rest_weaken hfs ?_
  clear hfs fs
  simp [State.countTxRefused]

@[simp] theorem State.released_rest {fs : Nat} (hfs : 8796097347588 &&& fs = 8796097347588) (s : State) (n : Nat) : (State.released s n).rest fs = s.rest fs := by
  refine State.rest_weaken hfs ?_
  clear hfs fs
  simp [State.released]

@[simp] theorem State.lossOf_rest {fs : Nat} (hfs : 4 &&& fs = 4) (s : State) (cp : Copy) : (State.lossOf s cp).rest fs = s.rest fs := by
  refine State.rest_weaken hfs ?_
  clear hfs fs
  unfold State.lossOf
  repeat' split
  all_goals simp [*]

@[simp] theorem State.police_rest {fs : Nat} (hfs : 262148 &&& fs = 262148) (s : State) (cp : Copy) : (State.police s cp).1.rest fs = s.rest fs := by
  refine State.rest_weaken hfs ?_
  clear hfs fs
  unfold State.police
  dsimp only
  repeat' split
  all_goals simp [*]

@[simp] theorem State.ownOut_rest {fs : Nat} (hfs : 4 &&& fs = 4) (s : State) (n : Nat) (own : Nat) (b : Batch) : (State.ownOut s n own b).1.rest fs = s.rest fs := by
  refine State.rest_weaken hfs ?_
  clear hfs fs
  unfold State.ownOut
  repeat' split
  all_goals simp [*]

@[simp] theorem State.decide1_rest {fs : Nat} (hfs : 4 &&& fs = 4) (s : State) (n : Nat) (own : Nat) (r : Route) : (State.decide1 s n own r).1.rest fs = s.rest fs := by
  refine State.rest_weaken hfs ?_
  clear hfs fs
  unfold State.decide1
  repeat' split
  all_goals simp [*]

@[simp] theorem State.countUnreachable_rest {fs : Nat} (hfs : 4 &&& fs = 4) (s : State) (n : Nat) (k : optParam Nat 1) : (State.countUnreachable s n k).rest fs = s.rest fs := by
  refine State.rest_weaken hfs ?_
  clear hfs fs
  simp [State.countUnreachable]

@[simp] theorem State.byRoute_rest {fs : Nat} (hfs : 4 &&& fs = 4) (s : State) (n : Nat) (port : Nat) (code : Nat) (own : Nat) (realm : Nat) (kind : Nat) (value : Nat) : (State.byRoute s n port code own realm kind value).1.rest fs = s.rest fs := by
  refine State.rest_weaken hfs ?_
  clear hfs fs
  unfold State.byRoute
  repeat' split
  all_goals simp [*]

@[simp] theorem State.flood_rest {fs : Nat} (hfs : 4 &&& fs = 4) (s : State) (n : Nat) (realm : Nat) : (State.flood s n realm).1.rest fs = s.rest fs := by
  refine State.rest_weaken hfs ?_
  clear hfs fs
  unfold State.flood
  repeat' split
  all_goals simp [*]

@[simp] theorem State.bridge_rest {fs : Nat} (hfs : 4 &&& fs = 4) (s : State) (n : Nat) (realm : Nat) (dst : Nat) : (State.bridge s n realm dst).1.rest fs = s.rest fs := by
  refine State.rest_weaken hfs ?_
  clear hfs fs
  unfold State.bridge
  repeat' split
  all_goals simp [*]

@[simp] theorem State.ownOutAll_rest {fs : Nat} (hfs : 4 &&& fs = 4) (s : State) (n : Nat) (own : Nat) (l : List Batch) : (State.ownOutAll s n own l).1.rest fs = s.rest fs := by
  refine State.rest_weaken hfs ?_
  clear hfs fs
  unfold State.ownOutAll
  repeat' split
  all_goals simp [*]

@[simp] theorem State.bridged_rest {fs : Nat} (hfs : 4 &&& fs = 4) (s : State) (n : Nat) (port : Nat) (code : Nat) (own : Nat) (realm : Nat) (vid : Nat) (pcp : Nat) (d : Bytes) : (State.bridged s n port code own realm vid pcp d).1.rest fs = s.rest fs := by
  refine State.rest_weaken hfs ?_
  clear hfs fs
  unfold State.bridged
  dsimp only
  repeat' split
  all_goals simp [*]

@[simp] theorem State.ethDecide_rest {fs : Nat} (hfs : 4 &&& fs = 4) (s : State) (n : Nat) (port : Nat) (code : Nat) (own : Nat) (realm : Nat) (vid : Nat) (pcp : Nat) (d : Bytes) : (State.ethDecide s n port code own realm vid pcp d).1.rest fs = s.rest fs := by
  refine State.rest_weaken hfs ?_
  clear hfs fs
  unfold State.ethDecide
  dsimp only
  repeat' split
  all_goals simp [*]

@[simp] theorem State.setLimiter_rest {fs : Nat} (hfs : 8388608 &&& fs = 8388608) (s : State) (k : Nat) (l : Limiter) : (State.setLimiter s k l).rest fs = s.rest fs := by
  refine State.rest_weaken hfs ?_
  clear hfs fs
  simp [State.setLimiter]

@[simp] theorem State.limited_rest {fs : Nat} (hfs : 8423424 &&& fs = 8423424) (s : State) (k : Nat) (type : Nat) (unit : Nat) (payload : Bytes) : (State.limited s k type unit payload).rest fs = s.rest fs := by
  refine State.rest_weaken hfs ?_
  clear hfs fs
  unfold State.limited
  dsimp only
  repeat' split
  all_goals simp [*]

@[simp] theorem State.intervalEnd_rest {fs : Nat} (hfs : 8421376 &&& fs = 8421376) (s : State) (k : Nat) : (State.intervalEnd s k).rest fs = s.rest fs := by
  refine State.rest_weaken hfs ?_
  clear hfs fs
  unfold State.intervalEnd
  dsimp only
  repeat' split
  all_goals simp [*]

@[simp] theorem State.raisePort_rest {fs : Nat} (hfs : 536870912 &&& fs = 536870912) (s : State) (slot : Nat) : (State.raisePort s slot).rest fs = s.rest fs := by
  refine State.rest_weaken hfs ?_
  clear hfs fs
  simp [State.raisePort]

@[simp] theorem State.portEvidence_rest {fs : Nat} (hfs : 34816 &&& fs = 34816) (s : State) (slot : Nat) (cause : Nat) (cls : Nat) (counter : Nat) : (State.portEvidence s slot cause cls counter).rest fs = s.rest fs := by
  refine State.rest_weaken hfs ?_
  clear hfs fs
  simp [State.portEvidence]

@[simp] theorem State.setApp_rest {fs : Nat} (hfs : 1073741824 &&& fs = 1073741824) (s : State) (n : Nat) (a : App) : (State.setApp s n a).rest fs = s.rest fs := by
  refine State.rest_weaken hfs ?_
  clear hfs fs
  simp [State.setApp]

@[simp] theorem State.updApp_rest {fs : Nat} (hfs : 1073741824 &&& fs = 1073741824) (s : State) (n : Nat) (f : App → App) : (State.updApp s n f).rest fs = s.rest fs := by
  refine State.rest_weaken hfs ?_
  clear hfs fs
  simp [State.updApp]

@[simp] theorem State.updQp_rest {fs : Nat} (hfs : 1073741824 &&& fs = 1073741824) (s : State) (n : Nat) (k : Nat) (f : Qp → Qp) : (State.updQp s n k f).rest fs = s.rest fs := by
  refine State.rest_weaken hfs ?_
  clear hfs fs
  simp [State.updQp]

@[simp] theorem State.setLink_rest {fs : Nat} (hfs : 1048576 &&& fs = 1048576) (s : State) (n : Nat) (e : Nat) (l : LinkEnd) : (State.setLink s n e l).rest fs = s.rest fs := by
  refine State.rest_weaken hfs ?_
  clear hfs fs
  simp [State.setLink]

@[simp] theorem State.updLink_rest {fs : Nat} (hfs : 1048576 &&& fs = 1048576) (s : State) (n : Nat) (e : Nat) (f : LinkEnd → LinkEnd) : (State.updLink s n e f).rest fs = s.rest fs := by
  refine State.rest_weaken hfs ?_
  clear hfs fs
  simp [State.updLink]

@[simp] theorem State.chargeAcct_rest {fs : Nat} (hfs : 524288 &&& fs = 524288) (s : State) (g : Nat) (member : Nat) (die : Nat) (cells : Nat) : (State.chargeAcct s g member die cells).rest fs = s.rest fs := by
  refine State.rest_weaken hfs ?_
  clear hfs fs
  simp [State.chargeAcct]

@[simp] theorem State.owe_rest {fs : Nat} (hfs : 4294967296 &&& fs = 4294967296) (s : State) (g : Nat) (member : Nat) (die : Nat) (cells : Nat) : (State.owe s g member die cells).rest fs = s.rest fs := by
  refine State.rest_weaken hfs ?_
  clear hfs fs
  simp [State.owe]

@[simp] theorem State.oweCopy_rest {fs : Nat} (hfs : 4294967296 &&& fs = 4294967296) (s : State) (cp : Copy) : (State.oweCopy s cp).rest fs = s.rest fs := by
  refine State.rest_weaken hfs ?_
  clear hfs fs
  unfold State.oweCopy
  repeat' split
  all_goals simp [*]

@[simp] theorem State.loseCopy_rest {fs : Nat} (hfs : 4294967300 &&& fs = 4294967300) (s : State) (cp : Copy) : (State.loseCopy s cp).rest fs = s.rest fs := by
  refine State.rest_weaken hfs ?_
  clear hfs fs
  simp [State.loseCopy]

@[simp] theorem State.admitHold_rest {fs : Nat} (hfs : 8796097445892 &&& fs = 8796097445892) (s : State) (n q : Nat) (cp : Copy) : (s.admitHold n q cp).rest fs = s.rest fs := by
  refine State.rest_weaken hfs ?_
  clear hfs fs
  unfold State.admitHold
  have h := State.enqueue_rest (fs := 8796097445892) (by decide) s n q cp
  split <;> simp_all

@[simp] theorem State.countLimit_rest {fs : Nat} (hfs : 4 &&& fs = 4) (s : State) (n : Nat) (q : Nat) (c : Nat) : (State.countLimit s n q c).rest fs = s.rest fs := by
  refine State.rest_weaken hfs ?_
  clear hfs fs
  simp [State.countLimit]

@[simp] theorem State.sendTo_rest {fs : Nat} (hfs : 8800392413188 &&& fs = 8800392413188) (s : State) (n : Nat) (d : Nat) (cp : Copy) : (State.sendTo s n d cp).rest fs = s.rest fs := by
  refine State.rest_weaken hfs ?_
  clear hfs fs
  unfold State.sendTo
  dsimp only
  repeat' split
  all_goals simp [*]

@[simp] theorem State.deliver_rest {fs : Nat} (hfs : 8800392413188 &&& fs = 8800392413188) (s : State) (n : Nat) (code : Nat) (cp : Copy) : (State.deliver s n code cp).rest fs = s.rest fs := by
  refine State.rest_weaken hfs ?_
  clear hfs fs
  unfold State.deliver
  dsimp only
  repeat' split
  all_goals simp [*]

@[simp] theorem State.replicatePlain_rest {fs : Nat} (hfs : 8800392413188 &&& fs = 8800392413188) (s : State) (n : Nat) (cp : Copy) (members : List Nat) : (State.replicatePlain s n cp members).rest fs = s.rest fs := by
  refine State.rest_weaken hfs ?_
  clear hfs fs
  simp [State.replicatePlain]

@[simp] theorem State.replicateAtomic_rest {fs : Nat} (hfs : 8800392937476 &&& fs = 8800392937476) (s : State) (n : Nat) (cp : Copy) (g : Nat) (members : List Nat) : (State.replicateAtomic s n cp g members).rest fs = s.rest fs := by
  refine State.rest_weaken hfs ?_
  clear hfs fs
  unfold State.replicateAtomic
  repeat' split
  all_goals simp [*]

@[simp] theorem State.replicate_rest {fs : Nat} (hfs : 8800392937476 &&& fs = 8800392937476) (s : State) (n : Nat) (cp : Copy) (b : Batch) : (State.replicate s n cp b).rest fs = s.rest fs := by
  refine State.rest_weaken hfs ?_
  clear hfs fs
  unfold State.replicate
  repeat' split
  all_goals simp [*]

@[simp] theorem State.replicateAll_rest {fs : Nat} (hfs : 8800392937476 &&& fs = 8800392937476) (s : State) (n : Nat) (cp : Copy) (bs : List Batch) : (State.replicateAll s n cp bs).rest fs = s.rest fs := by
  refine State.rest_weaken hfs ?_
  clear hfs fs
  simp [State.replicateAll]

@[simp] theorem State.stage5_rest {fs : Nat} (hfs : 8800393199620 &&& fs = 8800393199620) (s : State) (n : Nat) (cp : Copy) (bs : List Batch) : (s.stage5 n cp bs).rest fs = s.rest fs := by
  refine State.rest_weaken hfs ?_
  clear hfs fs
  unfold State.stage5
  have h := State.police_rest (fs := 8800393199620) (by decide) s cp
  repeat' split
  all_goals simp_all

@[simp] theorem State.sendTap_rest {fs : Nat} (hfs : 32768 &&& fs = 32768) (s : State) (n : Nat) (row : Nat) (v : Nat × Nat × Nat) : (State.sendTap s n row v).rest fs = s.rest fs := by
  refine State.rest_weaken hfs ?_
  clear hfs fs
  unfold State.sendTap
  repeat' split
  all_goals simp [*]

@[simp] theorem State.tapEvent_rest {fs : Nat} (hfs : 32768 &&& fs = 32768) (s : State) (n : Nat) (row : Nat) (v : Nat × Nat × Nat) : (State.tapEvent s n row v).rest fs = s.rest fs := by
  refine State.rest_weaken hfs ?_
  clear hfs fs
  unfold State.tapEvent
  dsimp only
  repeat' split
  all_goals simp [*]

@[simp] theorem State.tapOne_rest {fs : Nat} (hfs : 32772 &&& fs = 32772) (s : State) (n : Nat) (slot : Nat) (ts : Nat) (key : Nat × Nat × Nat) (data : Bytes) (row : Nat) : (State.tapOne s n slot ts key data row).rest fs = s.rest fs := by
  refine State.rest_weaken hfs ?_
  clear hfs fs
  unfold State.tapOne
  repeat' split
  all_goals simp [*]

@[simp] theorem State.tapsRead_rest {fs : Nat} (hfs : 32772 &&& fs = 32772) (s : State) (n : Nat) (slot : Nat) (ts : Nat) (key : Option (Nat × Nat × Nat)) (data : Bytes) : (State.tapsRead s n slot ts key data).rest fs = s.rest fs := by
  refine State.rest_weaken hfs ?_
  clear hfs fs
  unfold State.tapsRead
  repeat' split
  all_goals simp [*]

@[simp] theorem State.tapIntervalEnd_rest {fs : Nat} (hfs : 32768 &&& fs = 32768) (s : State) (n : Nat) (row : Nat) : (State.tapIntervalEnd s n row).rest fs = s.rest fs := by
  refine State.rest_weaken hfs ?_
  clear hfs fs
  unfold State.tapIntervalEnd
  repeat' split
  all_goals simp [*]

@[simp] theorem State.ringWrite_rest {fs : Nat} (hfs : 1610612740 &&& fs = 1610612740) (s : State) (n : Nat) (r : Bytes) : (State.ringWrite s n r).rest fs = s.rest fs := by
  refine State.rest_weaken hfs ?_
  clear hfs fs
  unfold State.ringWrite
  dsimp only
  repeat' split
  all_goals simp [*]

@[simp] theorem State.sampleOut_rest {fs : Nat} (hfs : 1101122306052 &&& fs = 1101122306052) (s : State) (n : Nat) (slot : Nat) (r : Bytes) : (State.sampleOut s n slot r).rest fs = s.rest fs := by
  refine State.rest_weaken hfs ?_
  clear hfs fs
  unfold State.sampleOut
  dsimp only
  repeat' split
  all_goals simp [*]

@[simp] theorem State.mirrorDeliver_rest {fs : Nat} (hfs : 8796097445892 &&& fs = 8796097445892) (s : State) (n : Nat) (cp : Copy) : (State.mirrorDeliver s n cp).rest fs = s.rest fs := by
  refine State.rest_weaken hfs ?_
  clear hfs fs
  unfold State.mirrorDeliver
  dsimp only
  repeat' split
  all_goals (try simp only [Prod.ext_iff] at *)
  all_goals (try casesm* _ ∧ _)
  all_goals subst_vars
  all_goals simp [*]

@[simp] theorem State.mirrorOut_rest {fs : Nat} (hfs : 9899904040964 &&& fs = 9899904040964) (s : State) (n : Nat) (slot : Nat) (r : Bytes) (payload : Nat) : (State.mirrorOut s n slot r payload).rest fs = s.rest fs := by
  refine State.rest_weaken hfs ?_
  clear hfs fs
  unfold State.mirrorOut
  dsimp only
  repeat' split
  all_goals simp [*]

@[simp] theorem State.samplePoint_rest {fs : Nat} (hfs : 9910104588292 &&& fs = 9910104588292) (s : State) (slot : Nat) (dir : Nat) (f : Frame) (fcs : Nat) (ts : Nat) (colour : Nat) (cls : Nat) : (State.samplePoint s slot dir f fcs ts colour cls).rest fs = s.rest fs := by
  refine State.rest_weaken hfs ?_
  clear hfs fs
  unfold State.samplePoint
  dsimp only
  repeat' split
  all_goals simp [*]

@[simp] theorem State.learnFrom_rest {fs : Nat} (hfs : 32772 &&& fs = 32772) (s : State) (n : Nat) (realm : Nat) (src : Nat) (dest : Nat) (fabric : Bool) : (State.learnFrom s n realm src dest fabric).rest fs = s.rest fs := by
  refine State.rest_weaken hfs ?_
  clear hfs fs
  simp [State.learnFrom]

@[simp] theorem State.decided_rest {fs : Nat} (hfs : 8800393199620 &&& fs = 8800393199620) (s : State) (n : Nat) (cp : Copy) (d : Decision) : (State.decided s n cp d).rest fs = s.rest fs := by
  refine State.rest_weaken hfs ?_
  clear hfs fs
  simp [State.decided]

@[simp] theorem State.forwardNative_rest {fs : Nat} (hfs : 8800393199620 &&& fs = 8800393199620) (s : State) (n : Nat) (port : Nat) (code : Nat) (own : Nat) (cp : Copy) : (State.forwardNative s n port code own cp).rest fs = s.rest fs := by
  refine State.rest_weaken hfs ?_
  clear hfs fs
  unfold State.forwardNative
  dsimp only
  repeat' split
  all_goals (try simp only [Prod.ext_iff] at *)
  all_goals (try casesm* _ ∧ _)
  all_goals subst_vars
  all_goals simp [*]

@[simp] theorem State.forwardEth_rest {fs : Nat} (hfs : 8800393199620 &&& fs = 8800393199620) (s : State) (n : Nat) (port : Nat) (code : Nat) (own : Nat) (cp : Copy) (learn : Bool) : (State.forwardEth s n port code own cp learn).rest fs = s.rest fs := by
  refine State.rest_weaken hfs ?_
  clear hfs fs
  unfold State.forwardEth
  dsimp only
  repeat' split
  all_goals simp [*]

@[simp] theorem State.enterInternal_rest {fs : Nat} (hfs : 9899904827396 &&& fs = 9899904827396) (s : State) (n : Nat) (k : Nat) (realm : Nat) (d : Bytes) : (State.enterInternal s n k realm d).rest fs = s.rest fs := by
  refine State.rest_weaken hfs ?_
  clear hfs fs
  unfold State.enterInternal
  dsimp only
  repeat' split
  all_goals (try simp only [Prod.ext_iff] at *)
  all_goals (try casesm* _ ∧ _)
  all_goals subst_vars
  all_goals simp [*]

@[simp] theorem State.sendInternal_rest {fs : Nat} (hfs : 9899904827396 &&& fs = 9899904827396) (s : State) (n : Nat) (k : Nat) (realm : Nat) (d : Bytes) : (State.sendInternal s n k realm d).rest fs = s.rest fs := by
  refine State.rest_weaken hfs ?_
  clear hfs fs
  simp [State.sendInternal]

@[simp] theorem State.retryWaiting_rest {fs : Nat} (hfs : 9899904827396 &&& fs = 9899904827396) (s : State) (n : Nat) : (State.retryWaiting s n).rest fs = s.rest fs := by
  refine State.rest_weaken hfs ?_
  clear hfs fs
  unfold State.retryWaiting
  dsimp only
  repeat' split
  all_goals (try simp only [Prod.ext_iff] at *)
  all_goals (try casesm* _ ∧ _)
  all_goals subst_vars
  all_goals simp [*]

@[simp] theorem State.retryOne_rest {fs : Nat} (hfs : 8800392413188 &&& fs = 8800392413188) (s : State) (n : Nat) (x : Nat × Copy) : (State.retryOne s n x).rest fs = s.rest fs := by
  refine State.rest_weaken hfs ?_
  clear hfs fs
  simp [State.retryOne]

@[simp] theorem State.retryHeld_rest {fs : Nat} (hfs : 9899904827396 &&& fs = 9899904827396) (s : State) (n : Nat) : (State.retryHeld s n).rest fs = s.rest fs := by
  refine State.rest_weaken hfs ?_
  clear hfs fs
  simp [State.retryHeld]

@[simp] theorem State.freed_rest {fs : Nat} (hfs : 9899904827396 &&& fs = 9899904827396) (s : State) (n : Nat) : (State.freed s n).rest fs = s.rest fs := by
  refine State.rest_weaken hfs ?_
  clear hfs fs
  simp [State.freed]

@[simp] theorem State.keyEvidence_rest {fs : Nat} (hfs : 34816 &&& fs = 34816) (s : State) (slot : Nat) (event : Nat) (gen : Nat) : (State.keyEvidence s slot event gen).rest fs = s.rest fs := by
  refine State.rest_weaken hfs ?_
  clear hfs fs
  simp [State.keyEvidence]

@[simp] theorem State.keyFailed_rest {fs : Nat} (hfs : 17179904004 &&& fs = 17179904004) (s : State) (slot : Nat) (status : Nat) : (State.keyFailed s slot status).rest fs = s.rest fs := by
  refine State.rest_weaken hfs ?_
  clear hfs fs
  unfold State.keyFailed
  repeat' split
  all_goals simp [*]

@[simp] theorem State.keyFor_rest {fs : Nat} (hfs : 17179904004 &&& fs = 17179904004) (s : State) (slot : Nat) (usage : Nat) (blocks : Nat) (die : Nat) : (State.keyFor s slot usage blocks die).1.rest fs = s.rest fs := by
  refine State.rest_weaken hfs ?_
  clear hfs fs
  unfold State.keyFor
  dsimp only
  repeat' split
  all_goals simp [*]

@[simp] theorem State.takeCounter_rest {fs : Nat} (hfs : 100663296 &&& fs = 100663296) (s : State) (key : Nat) (block : Nat) : (State.takeCounter s key block).2.rest fs = s.rest fs := by
  refine State.rest_weaken hfs ?_
  clear hfs fs
  unfold State.takeCounter
  dsimp only
  repeat' split
  all_goals simp [*]

@[simp] theorem State.setLatest_rest {fs : Nat} (hfs : 16777216 &&& fs = 16777216) (s : State) (k : Nat) (v : Nat) : (State.setLatest s k v).rest fs = s.rest fs := by
  refine State.rest_weaken hfs ?_
  clear hfs fs
  simp [State.setLatest]

@[simp] theorem State.authFailed_rest {fs : Nat} (hfs : 8423428 &&& fs = 8423428) (s : State) (slot : Nat) (mech : Nat) (how : Nat) (which : Nat) (cand : Nat) (f : Frame) (stale : Bool) : (State.authFailed s slot mech how which cand f stale).rest fs = s.rest fs := by
  refine State.rest_weaken hfs ?_
  clear hfs fs
  simp [State.authFailed]

@[simp] theorem State.verifyCmac_rest {fs : Nat} (hfs : 17205069828 &&& fs = 17205069828) (s : State) (slot : Nat) (p : Nat) (f : Frame) : (State.verifyCmac s slot p f).1.rest fs = s.rest fs := by
  refine State.rest_weaken hfs ?_
  clear hfs fs
  unfold State.verifyCmac
  dsimp only
  repeat' split
  all_goals (try simp only [Prod.ext_iff] at *)
  all_goals (try casesm* _ ∧ _)
  all_goals subst_vars
  all_goals simp [*]

@[simp] theorem State.verifyCansec_rest {fs : Nat} (hfs : 17205069828 &&& fs = 17205069828) (s : State) (slot : Nat) (f : Frame) : (State.verifyCansec s slot f).1.rest fs = s.rest fs := by
  refine State.rest_weaken hfs ?_
  clear hfs fs
  unfold State.verifyCansec
  dsimp only
  repeat' split
  all_goals (try simp only [Prod.ext_iff] at *)
  all_goals (try casesm* _ ∧ _)
  all_goals subst_vars
  all_goals simp [*]

@[simp] theorem State.verifyFrame_rest {fs : Nat} (hfs : 17205069828 &&& fs = 17205069828) (s : State) (slot : Nat) (f : Frame) : (State.verifyFrame s slot f).1.rest fs = s.rest fs := by
  refine State.rest_weaken hfs ?_
  clear hfs fs
  unfold State.verifyFrame
  repeat' split
  all_goals simp [*]

@[simp] theorem State.protectFrame_rest {fs : Nat} (hfs : 17280567300 &&& fs = 17280567300) (s : State) (slot : Nat) (f : Frame) (fv : Nat) (mb : Nat) : (State.protectFrame s slot f fv mb).1.rest fs = s.rest fs := by
  refine State.rest_weaken hfs ?_
  clear hfs fs
  unfold State.protectFrame
  dsimp only
  repeat' split
  all_goals (try simp only [Prod.ext_iff] at *)
  all_goals (try casesm* _ ∧ _)
  all_goals subst_vars
  all_goals simp [*]

@[simp] theorem State.purgeWhere_rest {fs : Nat} (hfs : 9899904827396 &&& fs = 9899904827396) (s : State) (row : Nat) (may : Copy → Bool) : (State.purgeWhere s row may).rest fs = s.rest fs := by
  refine State.rest_weaken hfs ?_
  clear hfs fs
  unfold State.purgeWhere
  dsimp only
  repeat' split
  all_goals (try simp only [Prod.ext_iff] at *)
  all_goals (try casesm* _ ∧ _)
  all_goals subst_vars
  all_goals simp [*]

@[simp] theorem State.purgeTaken_rest {fs : Nat} (hfs : 9899904827396 &&& fs = 9899904827396) (s : State) (row : Nat) (may : Copy → Bool) : (State.purgeTaken s row may).rest fs = s.rest fs := by
  refine State.rest_weaken hfs ?_
  clear hfs fs
  unfold State.purgeTaken
  dsimp only
  repeat' split
  all_goals (try simp only [Prod.ext_iff] at *)
  all_goals (try casesm* _ ∧ _)
  all_goals subst_vars
  all_goals simp [*]

@[simp] theorem State.purge_rest {fs : Nat} (hfs : 9899904827396 &&& fs = 9899904827396) (s : State) (row : Nat) : (State.purge s row).rest fs = s.rest fs := by
  refine State.rest_weaken hfs ?_
  clear hfs fs
  simp only [State.purge]
  repeat' split
  all_goals (try simp [*])
  all_goals (repeat' split)
  all_goals simp [*]

@[simp] theorem State.select_rest {fs : Nat} (hfs : 9899904827396 &&& fs = 9899904827396) (s : State) (n : Nat) (q : Nat) (ok : State → Nat → Bool) : (State.select s n q ok).1.rest fs = s.rest fs := by
  refine State.rest_weaken hfs ?_
  clear hfs fs
  simp [State.select]

@[simp] theorem State.unsend_rest {fs : Nat} (hfs : 65536 &&& fs = 65536) (s : State) (slot : Nat) (keep : Bool) : (State.unsend s slot keep).rest fs = s.rest fs := by
  refine State.rest_weaken hfs ?_
  clear hfs fs
  unfold State.unsend
  repeat' split
  all_goals simp [*]

@[simp] theorem State.startSending_rest {fs : Nat} (hfs : 65536 &&& fs = 65536) (s : State) (row : Nat) (f : Option Frame) (start : Nat) : (State.startSending s row f start).rest fs = s.rest fs := by
  refine State.rest_weaken hfs ?_
  clear hfs fs
  unfold State.startSending
  repeat' split
  all_goals simp [*]

@[simp] theorem State.dropHead_rest {fs : Nat} (hfs : 9899904827396 &&& fs = 9899904827396) (s : State) (row : Nat) : (State.dropHead s row).rest fs = s.rest fs := by
  refine State.rest_weaken hfs ?_
  clear hfs fs
  unfold State.dropHead
  repeat' split
  all_goals simp [*]

@[simp] theorem State.flushPort_rest {fs : Nat} (hfs : 9899904827396 &&& fs = 9899904827396) (s : State) (slot : Nat) (count : State → Nat → Nat → State)
    (hc : ∀ s a b, (count s a b).rest fs = s.rest fs) : (s.flushPort slot count).rest fs = s.rest fs := by
  unfold State.flushPort
  dsimp only
  rw [State.freed_rest (covers_trans hfs (by decide)), foldl_rest]
  intro s row
  split
  · rfl
  · rw [foldl_rest, hc, State.setQueue_rest (covers_trans hfs (by decide))]
    intro s cp
    rw [State.oweCopy_rest (covers_trans hfs (by decide)), State.lossOf_rest (covers_trans hfs (by decide))]

@[simp] theorem State.countParkFlushed_rest {fs : Nat} (hfs : 4 &&& fs = 4) (s : State) (row : Nat) (k : Nat) : (State.countParkFlushed s row k).rest fs = s.rest fs := by
  refine State.rest_weaken hfs ?_
  clear hfs fs
  simp [State.countParkFlushed]

@[simp] theorem State.countDrainFlushed_rest {fs : Nat} (hfs : 4 &&& fs = 4) (s : State) (slot : Nat) (k : Nat) : (State.countDrainFlushed s slot k).rest fs = s.rest fs := by
  refine State.rest_weaken hfs ?_
  clear hfs fs
  simp [State.countDrainFlushed]

@[simp] theorem State.endHold_rest {fs : Nat} (hfs : 9899904827396 &&& fs = 9899904827396) (s : State) (slot : Nat) : (State.endHold s slot).rest fs = s.rest fs := by
  refine State.rest_weaken hfs ?_
  clear hfs fs
  simp [State.endHold]

@[simp] theorem State.unprepare_rest {fs : Nat} (hfs : 65536 &&& fs = 65536) (s : State) (slot : Nat) : (State.unprepare s slot).rest fs = s.rest fs := by
  refine State.rest_weaken hfs ?_
  clear hfs fs
  simp [State.unprepare]

@[simp] theorem State.park_rest {fs : Nat} (hfs : 9899904827396 &&& fs = 9899904827396) (s : State) (slot : Nat) : (State.park s slot).rest fs = s.rest fs := by
  refine State.rest_weaken hfs ?_
  clear hfs fs
  unfold State.park
  dsimp only
  repeat' split
  all_goals simp [*]

@[simp] theorem State.unpark_rest {fs : Nat} (hfs : 4194304 &&& fs = 4194304) (s : State) (slot : Nat) : (State.unpark s slot).rest fs = s.rest fs := by
  refine State.rest_weaken hfs ?_
  clear hfs fs
  simp [State.unpark]

@[simp] theorem State.sendHeader_rest {fs : Nat} (hfs : 8796093022208 &&& fs = 8796093022208) (s : State) (slot : Nat) (id : Nat) : (State.sendHeader s slot id).rest fs = s.rest fs := by
  refine State.rest_weaken hfs ?_
  clear hfs fs
  simp [State.sendHeader]

@[simp] theorem State.linRun_rest {fs : Nat} (hfs : 8796097216512 &&& fs = 8796097216512) (s : State) (slot : Nat) (pos : Nat) : (State.linRun s slot pos).rest fs = s.rest fs := by
  refine State.rest_weaken hfs ?_
  clear hfs fs
  simp [State.linRun]

@[simp] theorem State.propagate_rest {fs : Nat} (hfs : 8796097282052 &&& fs = 8796097282052) (s : State) (slot : Nat) : (State.propagate s slot).rest fs = s.rest fs := by
  refine State.rest_weaken hfs ?_
  clear hfs fs
  unfold State.propagate
  repeat' split
  all_goals simp [*]

@[simp] theorem State.assertAnew_rest {fs : Nat} (hfs : 8796097216516 &&& fs = 8796097216516) (s : State) (slot : Nat) : (State.assertAnew s slot).rest fs = s.rest fs := by
  refine State.rest_weaken hfs ?_
  clear hfs fs
  unfold State.assertAnew
  dsimp only
  repeat' split
  all_goals (try simp only [Prod.ext_iff] at *)
  all_goals (try casesm* _ ∧ _)
  all_goals subst_vars
  all_goals simp [*]

@[simp] theorem State.portUp_rest {fs : Nat} (hfs : 8796097282052 &&& fs = 8796097282052) (s : State) (slot : Nat) : (State.portUp s slot).rest fs = s.rest fs := by
  refine State.rest_weaken hfs ?_
  clear hfs fs
  simp [State.portUp]

@[simp] theorem State.advertise_rest {fs : Nat} (hfs : 8796093022208 &&& fs = 8796093022208) (s : State) (slot : Nat) : (State.advertise s slot).rest fs = s.rest fs := by
  refine State.rest_weaken hfs ?_
  clear hfs fs
  simp [State.advertise]

@[simp] theorem State.signalFault_rest {fs : Nat} (hfs : 8796097216512 &&& fs = 8796097216512) (s : State) (slot signal : Nat) : (s.signalFault slot signal).rest fs = s.rest fs := by
  refine State.rest_weaken hfs ?_
  clear hfs fs
  unfold State.signalFault
  dsimp only
  rw [State.when_rest _ _ _ (fun s => ?_)]
  rw [State.when_rest _ _ _ (fun s => by simp)]
  simp

@[simp] theorem State.enablingEth_rest {fs : Nat} (hfs : 8796097216516 &&& fs = 8796097216516) (s : State) (slot : Nat) : (State.enablingEth s slot).rest fs = s.rest fs := by
  refine State.rest_weaken hfs ?_
  clear hfs fs
  unfold State.enablingEth
  dsimp only
  repeat' split
  all_goals (try simp only [Prod.ext_iff] at *)
  all_goals (try casesm* _ ∧ _)
  all_goals subst_vars
  all_goals simp [*]

@[simp] theorem State.retrain_rest {fs : Nat} (hfs : 8796097216516 &&& fs = 8796097216516) (s : State) (slot : Nat) : (State.retrain s slot).rest fs = s.rest fs := by
  refine State.rest_weaken hfs ?_
  clear hfs fs
  simp [State.retrain]

@[simp] theorem State.ptpAnew_rest {fs : Nat} (hfs : 4194308 &&& fs = 4194308) (s : State) (slot : Nat) : (State.ptpAnew s slot).rest fs = s.rest fs := by
  refine State.rest_weaken hfs ?_
  clear hfs fs
  simp [State.ptpAnew]

@[simp] theorem State.enabling_rest {fs : Nat} (hfs : 8796097282052 &&& fs = 8796097282052) (s : State) (slot : Nat) : (State.enabling s slot).rest fs = s.rest fs := by
  refine State.rest_weaken hfs ?_
  clear hfs fs
  unfold State.enabling
  dsimp only
  repeat' split
  all_goals simp [*]

@[simp] theorem State.clearPause_rest {fs : Nat} (hfs : 4194308 &&& fs = 4194308) (s : State) (slot : Nat) : (State.clearPause s slot).rest fs = s.rest fs := by
  refine State.rest_weaken hfs ?_
  clear hfs fs
  simp [State.clearPause]

@[simp] theorem State.laneIdle_rest {fs : Nat} (hfs : 4194308 &&& fs = 4194308) (s : State) (slot : Nat) : (State.laneIdle s slot).rest fs = s.rest fs := by
  refine State.rest_weaken hfs ?_
  clear hfs fs
  simp [State.laneIdle]

@[simp] theorem State.disable_rest {fs : Nat} (hfs : 9899904827396 &&& fs = 9899904827396) (s : State) (slot : Nat) : (State.disable s slot).rest fs = s.rest fs := by
  refine State.rest_weaken hfs ?_
  clear hfs fs
  unfold State.disable
  dsimp only
  repeat' split
  all_goals simp [*]

@[simp] theorem State.goToSleep_rest {fs : Nat} (hfs : 8796097216512 &&& fs = 8796097216512) (s : State) (slot : Nat) : (State.goToSleep s slot).rest fs = s.rest fs := by
  refine State.rest_weaken hfs ?_
  clear hfs fs
  simp [State.goToSleep]

@[simp] theorem State.drainCheck_rest {fs : Nat} (hfs : 9899904827396 &&& fs = 9899904827396) (s : State) (slot : Nat) : (State.drainCheck s slot).rest fs = s.rest fs := by
  refine State.rest_weaken hfs ?_
  clear hfs fs
  simp [State.drainCheck]

@[simp] theorem State.stirred_rest {fs : Nat} (hfs : 4096 &&& fs = 4096) (s : State) : (State.stirred s).rest fs = s.rest fs := by
  refine State.rest_weaken hfs ?_
  clear hfs fs
  simp [State.stirred]

@[simp] theorem State.releasePaused_rest {fs : Nat} (hfs : 8796097216516 &&& fs = 8796097216516) (s : State) (slot : Nat) : (State.releasePaused s slot).rest fs = s.rest fs := by
  refine State.rest_weaken hfs ?_
  clear hfs fs
  simp [State.releasePaused]

@[simp] theorem State.releaseAll_rest {fs : Nat} (hfs : 8796097216516 &&& fs = 8796097216516) (s : State) (slot : Nat) : (State.releaseAll s slot).rest fs = s.rest fs := by
  refine State.rest_weaken hfs ?_
  clear hfs fs
  simp [State.releaseAll]

@[simp] theorem State.drainOver_rest {fs : Nat} (hfs : 9899904827396 &&& fs = 9899904827396) (s : State) (slot : Nat) : (State.drainOver s slot).rest fs = s.rest fs := by
  refine State.rest_weaken hfs ?_
  clear hfs fs
  simp [State.drainOver]

@[simp] theorem State.drain_rest {fs : Nat} (hfs : 9899904827396 &&& fs = 9899904827396) (s : State) (slot : Nat) : (State.drain s slot).rest fs = s.rest fs := by
  refine State.rest_weaken hfs ?_
  clear hfs fs
  unfold State.drain
  dsimp only
  repeat' split
  all_goals simp [*]

@[simp] theorem State.drainTimeout_rest {fs : Nat} (hfs : 9899904827396 &&& fs = 9899904827396) (s : State) (slot : Nat) : (State.drainTimeout s slot).rest fs = s.rest fs := by
  refine State.rest_weaken hfs ?_
  clear hfs fs
  unfold State.drainTimeout
  repeat' split
  all_goals simp [*]

@[simp] theorem State.reconfigured_rest {fs : Nat} (hfs : 9899904827396 &&& fs = 9899904827396) (s : State) (slot : Nat) : (State.reconfigured s slot).rest fs = s.rest fs := by
  refine State.rest_weaken hfs ?_
  clear hfs fs
  simp [State.reconfigured]

@[simp] theorem State.reconfigureNow_rest {fs : Nat} (hfs : 9899904827396 &&& fs = 9899904827396) (s : State) (slot : Nat) : (State.reconfigureNow s slot).rest fs = s.rest fs := by
  refine State.rest_weaken hfs ?_
  clear hfs fs
  simp [State.reconfigureNow]

@[simp] theorem State.attemptOver_rest {fs : Nat} (hfs : 9899904827396 &&& fs = 9899904827396) (s : State) (slot : Nat) : (State.attemptOver s slot).rest fs = s.rest fs := by
  refine State.rest_weaken hfs ?_
  clear hfs fs
  simp [State.attemptOver]

@[simp] theorem State.linOver_rest {fs : Nat} (hfs : 9899904827396 &&& fs = 9899904827396) (s : State) (slot : Nat) : (State.linOver s slot).rest fs = s.rest fs := by
  refine State.rest_weaken hfs ?_
  clear hfs fs
  simp [State.linOver]

@[simp] theorem State.toFault_rest {fs : Nat} (hfs : 9899904827396 &&& fs = 9899904827396) (s : State) (slot : Nat) : (State.toFault s slot).rest fs = s.rest fs := by
  refine State.rest_weaken hfs ?_
  clear hfs fs
  unfold State.toFault
  dsimp only
  repeat' split
  all_goals simp [*]

@[simp] theorem State.leaveFault_rest {fs : Nat} (hfs : 9899904827396 &&& fs = 9899904827396) (s : State) (slot : Nat) : (State.leaveFault s slot).rest fs = s.rest fs := by
  refine State.rest_weaken hfs ?_
  clear hfs fs
  unfold State.leaveFault
  dsimp only
  repeat' split
  all_goals (try simp only [Prod.ext_iff] at *)
  all_goals (try casesm* _ ∧ _)
  all_goals subst_vars
  all_goals simp [*]

theorem State.takeSending_rest {fs : Nat} (hfs : 65536 &&& fs = 65536) (s : State) (row : Nat) {cp : Copy} {t : State} (h : s.takeSending row = some (cp, t)) : t.rest fs = s.rest fs := by
  refine State.rest_weaken hfs ?_
  clear hfs fs
  unfold State.takeSending at h
  simp only [Option.map_eq_some_iff, Prod.mk.injEq] at h
  obtain ⟨_, _, _, rfl⟩ := h
  simp

@[simp] theorem State.sentCopy_rest {fs : Nat} (hfs : 9899904827396 &&& fs = 9899904827396) (s : State) (slot row : Nat) : (s.sentCopy slot row).rest fs = s.rest fs := by
  refine State.rest_weaken hfs ?_
  clear hfs fs
  unfold State.sentCopy
  split
  · rfl
  · rename_i h; have h := State.takeSending_rest (fs := 9899904827396) (by decide) _ _ h; dsimp only; split <;> simp [h]

@[simp] theorem State.setErrors_rest {fs : Nat} (hfs : 4 &&& fs = 4) (s : State) (slot : Nat) (tec : Nat) (rec_ : Nat) : (State.setErrors s slot tec rec_).rest fs = s.rest fs := by
  refine State.rest_weaken hfs ?_
  clear hfs fs
  simp [State.setErrors]

@[simp] theorem State.busOff_rest {fs : Nat} (hfs : 9900441700356 &&& fs = 9900441700356) (s : State) (slot : Nat) : (State.busOff s slot).rest fs = s.rest fs := by
  refine State.rest_weaken hfs ?_
  clear hfs fs
  unfold State.busOff
  dsimp only
  repeat' split
  all_goals simp [*]

@[simp] theorem State.errors_rest {fs : Nat} (hfs : 9900441700356 &&& fs = 9900441700356) (s : State) (slot : Nat) (tec : Nat) (rec_ : Nat) : (State.errors s slot tec rec_).rest fs = s.rest fs := by
  refine State.rest_weaken hfs ?_
  clear hfs fs
  simp [State.errors]

@[simp] theorem State.txSuccess_rest {fs : Nat} (hfs : 9900441700356 &&& fs = 9900441700356) (s : State) (slot : Nat) : (State.txSuccess s slot).rest fs = s.rest fs := by
  refine State.rest_weaken hfs ?_
  clear hfs fs
  simp [State.txSuccess]

@[simp] theorem State.rxSuccess_rest {fs : Nat} (hfs : 14298488211460 &&& fs = 14298488211460) (s : State) (slot : Nat) : (State.rxSuccess s slot).rest fs = s.rest fs := by
  refine State.rest_weaken hfs ?_
  clear hfs fs
  unfold State.rxSuccess
  dsimp only
  repeat' split
  all_goals simp [*]

@[simp] theorem State.guardEvent_rest {fs : Nat} (hfs : 8423428 &&& fs = 8423428) (s : State) (slot : Nat) (f : Frame) (code : Nat) (drop : Bool) : (State.guardEvent s slot f code drop).rest fs = s.rest fs := by
  refine State.rest_weaken hfs ?_
  clear hfs fs
  simp [State.guardEvent]

@[simp] theorem State.enterNative_rest {fs : Nat} (hfs : 9910105374724 &&& fs = 9910105374724) (s : State) (slot : Nat) (realm : Nat) (f : Frame) (fv : Nat) (mb : Nat) : (State.enterNative s slot realm f fv mb).rest fs = s.rest fs := by
  refine State.rest_weaken hfs ?_
  clear hfs fs
  simp [State.enterNative]

@[simp] theorem State.canStage2_rest {fs : Nat} (hfs : 9910113765380 &&& fs = 9910113765380) (s : State) (slot : Nat) (v : Verified) : (State.canStage2 s slot v).rest fs = s.rest fs := by
  refine State.rest_weaken hfs ?_
  clear hfs fs
  unfold State.canStage2
  dsimp only
  repeat' split
  all_goals simp [*]

@[simp] theorem State.protocolException_rest {fs : Nat} (hfs : 9899904827396 &&& fs = 9899904827396) (s : State) (slot : Nat) : (State.protocolException s slot).rest fs = s.rest fs := by
  refine State.rest_weaken hfs ?_
  clear hfs fs
  simp [State.protocolException]

@[simp] theorem State.rxOver_rest {fs : Nat} (hfs : 9899904827396 &&& fs = 9899904827396) (s : State) (slot : Nat) : (State.rxOver s slot).rest fs = s.rest fs := by
  refine State.rest_weaken hfs ?_
  clear hfs fs
  simp [State.rxOver]

@[simp] theorem State.canReceive_rest {fs : Nat} (hfs : 14325356926980 &&& fs = 14325356926980) (s : State) (slot : Nat) (f : Frame) : (State.canReceive s slot f).rest fs = s.rest fs := by
  refine State.rest_weaken hfs ?_
  clear hfs fs
  unfold State.canReceive
  dsimp only
  repeat' split
  all_goals (try simp only [Prod.ext_iff] at *)
  all_goals (try casesm* _ ∧ _)
  all_goals subst_vars
  all_goals simp [*]

@[simp] theorem State.busIntegration_rest {fs : Nat} (hfs : 8796097282052 &&& fs = 8796097282052) (s : State) (slot : Nat) : (State.busIntegration s slot).rest fs = s.rest fs := by
  refine State.rest_weaken hfs ?_
  clear hfs fs
  unfold State.busIntegration
  repeat' split
  all_goals simp [*]

@[simp] theorem State.canRxError_rest {fs : Nat} (hfs : 9900441700356 &&& fs = 9900441700356) (s : State) (slot : Nat) : (State.canRxError s slot).rest fs = s.rest fs := by
  refine State.rest_weaken hfs ?_
  clear hfs fs
  unfold State.canRxError
  repeat' split
  all_goals simp [*]

@[simp] theorem State.canPrepare_rest {fs : Nat} (hfs : 17280567300 &&& fs = 17280567300) (s : State) (slot : Nat) (cp : Copy) : (State.canPrepare s slot cp).1.rest fs = s.rest fs := by
  refine State.rest_weaken hfs ?_
  clear hfs fs
  unfold State.canPrepare
  dsimp only
  repeat' split
  all_goals (try simp only [Prod.ext_iff] at *)
  all_goals (try casesm* _ ∧ _)
  all_goals subst_vars
  all_goals simp [*]

@[simp] theorem State.canDequeue_rest {fs : Nat} (hfs : 9917185361924 &&& fs = 9917185361924) (s : State) (slot : Nat) : (State.canDequeue s slot).rest fs = s.rest fs := by
  refine State.rest_weaken hfs ?_
  clear hfs fs
  unfold State.canDequeue
  dsimp only
  repeat' split
  all_goals (try simp only [Prod.ext_iff] at *)
  all_goals (try casesm* _ ∧ _)
  all_goals subst_vars
  all_goals simp [*]

@[simp] theorem State.loopDelay_rest {fs : Nat} (hfs : 4194308 &&& fs = 4194308) (s : State) (slot : Nat) (delay : Nat) (f : Frame) : (State.loopDelay s slot delay f).rest fs = s.rest fs := by
  refine State.rest_weaken hfs ?_
  clear hfs fs
  simp [State.loopDelay]

@[simp] theorem State.pwmCode_rest {fs : Nat} (hfs : 8796093022208 &&& fs = 8796093022208) (s : State) (slot : Nat) (f : Frame) : (State.pwmCode s slot f).rest fs = s.rest fs := by
  refine State.rest_weaken hfs ?_
  clear hfs fs
  simp [State.pwmCode]

@[simp] theorem State.oneShot_rest {fs : Nat} (hfs : 9899904827396 &&& fs = 9899904827396) (s : State) (slot row : Nat) : (s.oneShot slot row).rest fs = s.rest fs := by
  refine State.rest_weaken hfs ?_
  clear hfs fs
  unfold State.oneShot
  split
  · rename_i h; have h := State.takeSending_rest (fs := 9899904827396) (by decide) _ _ h; simp [h]
  · rfl

@[simp] theorem State.canTxError_rest {fs : Nat} (hfs : 9900441700356 &&& fs = 9900441700356) (s : State) (slot : Nat) (err : CanTxError) : (State.canTxError s slot err).rest fs = s.rest fs := by
  refine State.rest_weaken hfs ?_
  clear hfs fs
  unfold State.canTxError
  dsimp only
  repeat' split
  all_goals simp [*]

@[simp] theorem State.canSent_rest {fs : Nat} (hfs : 9910105376772 &&& fs = 9910105376772) (s : State) (slot : Nat) (delay : Nat) : (State.canSent s slot delay).rest fs = s.rest fs := by
  refine State.rest_weaken hfs ?_
  clear hfs fs
  unfold State.canSent
  repeat' split
  all_goals simp [*]

@[simp] theorem State.arbLost_rest {fs : Nat} (hfs : 9899904827396 &&& fs = 9899904827396) (s : State) (slot : Nat) : (State.arbLost s slot).rest fs = s.rest fs := by
  refine State.rest_weaken hfs ?_
  clear hfs fs
  simp [State.arbLost]

@[simp] theorem State.startRecovery_rest {fs : Nat} (hfs : 4194304 &&& fs = 4194304) (s : State) (slot : Nat) : (State.startRecovery s slot).rest fs = s.rest fs := by
  refine State.rest_weaken hfs ?_
  clear hfs fs
  simp [State.startRecovery]

@[simp] theorem State.recovered_rest {fs : Nat} (hfs : 8796097282052 &&& fs = 8796097282052) (s : State) (slot : Nat) : (State.recovered s slot).rest fs = s.rest fs := by
  refine State.rest_weaken hfs ?_
  clear hfs fs
  simp [State.recovered]

@[simp] theorem State.canRecover_rest {fs : Nat} (hfs : 4194304 &&& fs = 4194304) (s : State) (slot : Nat) : (State.canRecover s slot).rest fs = s.rest fs := by
  refine State.rest_weaken hfs ?_
  clear hfs fs
  simp [State.canRecover]

@[simp] theorem State.linBitError_rest {fs : Nat} (hfs : 4 &&& fs = 4) (s : State) (slot : Nat) : (State.linBitError s slot).rest fs = s.rest fs := by
  refine State.rest_weaken hfs ?_
  clear hfs fs
  simp [State.linBitError]

@[simp] theorem State.linRespond_rest {fs : Nat} (hfs : 9910104588292 &&& fs = 9910104588292) (s : State) (slot : Nat) (id : Nat) (readBackOk : Bool) : (State.linRespond s slot id readBackOk).rest fs = s.rest fs := by
  refine State.rest_weaken hfs ?_
  clear hfs fs
  unfold State.linRespond
  repeat' split
  all_goals simp [*]

@[simp] theorem State.linBuffer_rest {fs : Nat} (hfs : 9899904827396 &&& fs = 9899904827396) (s : State) (slot : Nat) (row : Nat) (cp : Copy) : (State.linBuffer s slot row cp).rest fs = s.rest fs := by
  refine State.rest_weaken hfs ?_
  clear hfs fs
  unfold State.linBuffer
  dsimp only
  repeat' split
  all_goals simp [*]

@[simp] theorem State.linTakeAll_rest {fs : Nat} (hfs : 9899904827396 &&& fs = 9899904827396) (s : State) (slot : Nat) : (s.linTakeAll slot).rest fs = s.rest fs := by
  refine State.rest_weaken hfs ?_
  clear hfs fs
  unfold State.linTakeAll
  refine foldl_rest _ _ (fun t c => ?_) _
  dsimp only
  rw [foldl_rest _ _ (fun t cp => by simp) _]
  simp

@[simp] theorem State.linHeaderDone_rest {fs : Nat} (hfs : 9910104588292 &&& fs = 9910104588292) (s : State) (slot : Nat) (id : Nat) (readBackOk : Bool) : (State.linHeaderDone s slot id readBackOk).rest fs = s.rest fs := by
  refine State.rest_weaken hfs ?_
  clear hfs fs
  simp [State.linHeaderDone]

@[simp] theorem State.linHeaderEvent_rest {fs : Nat} (hfs : 9910105374724 &&& fs = 9910105374724) (s : State) (slot : Nat) (id : Nat) (syncOk : Bool) (readBackOk : Bool) : (State.linHeaderEvent s slot id syncOk readBackOk).rest fs = s.rest fs := by
  refine State.rest_weaken hfs ?_
  clear hfs fs
  unfold State.linHeaderEvent
  dsimp only
  repeat' split
  all_goals simp [*]

@[simp] theorem State.linNoResponse_rest {fs : Nat} (hfs : 4 &&& fs = 4) (s : State) (slot : Nat) : (State.linNoResponse s slot).rest fs = s.rest fs := by
  refine State.rest_weaken hfs ?_
  clear hfs fs
  simp [State.linNoResponse]

@[simp] theorem State.linAccept_rest {fs : Nat} (hfs : 9910105378820 &&& fs = 9910105378820) (s : State) (slot : Nat) (id : Nat) (data : Bytes) : (State.linAccept s slot id data).rest fs = s.rest fs := by
  refine State.rest_weaken hfs ?_
  clear hfs fs
  unfold State.linAccept
  repeat' split
  all_goals simp [*]

@[simp] theorem State.linResponse_rest {fs : Nat} (hfs : 9910105378820 &&& fs = 9910105378820) (s : State) (slot : Nat) (id : Nat) (data : Bytes) (check : LinCheck) : (State.linResponse s slot id data check).rest fs = s.rest fs := by
  refine State.rest_weaken hfs ?_
  clear hfs fs
  unfold State.linResponse
  dsimp only
  repeat' split
  all_goals simp [*]

@[simp] theorem State.linNextSlot_rest {fs : Nat} (hfs : 9899904827396 &&& fs = 9899904827396) (s : State) (slot : Nat) : (State.linNextSlot s slot).rest fs = s.rest fs := by
  refine State.rest_weaken hfs ?_
  clear hfs fs
  unfold State.linNextSlot
  repeat' split
  all_goals simp [*]

@[simp] theorem State.linStuck_rest {fs : Nat} (hfs : 9900441698308 &&& fs = 9900441698308) (s : State) (slot : Nat) : (State.linStuck s slot).rest fs = s.rest fs := by
  refine State.rest_weaken hfs ?_
  clear hfs fs
  simp [State.linStuck]

@[simp] theorem State.linDequeue_rest {fs : Nat} (hfs : 9899904827396 &&& fs = 9899904827396) (s : State) (slot : Nat) : (State.linDequeue s slot).rest fs = s.rest fs := by
  refine State.rest_weaken hfs ?_
  clear hfs fs
  unfold State.linDequeue
  dsimp only
  repeat' split
  all_goals (try simp only [Prod.ext_iff] at *)
  all_goals (try casesm* _ ∧ _)
  all_goals subst_vars
  all_goals simp [*]

@[simp] theorem State.wakePulseEnd_rest {fs : Nat} (hfs : 4194304 &&& fs = 4194304) (s : State) (slot : Nat) : (State.wakePulseEnd s slot).rest fs = s.rest fs := by
  refine State.rest_weaken hfs ?_
  clear hfs fs
  simp [State.wakePulseEnd]

@[simp] theorem State.macsecProtect_rest {fs : Nat} (hfs : 17821632516 &&& fs = 17821632516) (s : State) (slot : Nat) (d : Bytes) : (State.macsecProtect s slot d).1.rest fs = s.rest fs := by
  refine State.rest_weaken hfs ?_
  clear hfs fs
  unfold State.macsecProtect
  dsimp only
  repeat' split
  all_goals (try simp only [Prod.ext_iff] at *)
  all_goals (try casesm* _ ∧ _)
  all_goals subst_vars
  all_goals simp [*]

@[simp] theorem State.macsecFailed_rest {fs : Nat} (hfs : 8423428 &&& fs = 8423428) (s : State) (slot : Nat) (e : Nat) (code : Nat) (an : Nat) (sci : Bytes) (pn : Nat) : (State.macsecFailed s slot e code an sci pn).rest fs = s.rest fs := by
  refine State.rest_weaken hfs ?_
  clear hfs fs
  simp [State.macsecFailed]

@[simp] theorem State.macsecVerify_rest {fs : Nat} (hfs : 17205069828 &&& fs = 17205069828) (s : State) (slot : Nat) (d : Bytes) : (State.macsecVerify s slot d).1.rest fs = s.rest fs := by
  refine State.rest_weaken hfs ?_
  clear hfs fs
  unfold State.macsecVerify
  dsimp only
  repeat' split
  all_goals (try simp only [Prod.ext_iff] at *)
  all_goals (try casesm* _ ∧ _)
  all_goals subst_vars
  all_goals simp [*]

@[simp] theorem State.setSess_rest {fs : Nat} (hfs : 8 &&& fs = 8) (s : State) (row : Nat) (x : Session) : (State.setSess s row x).rest fs = s.rest fs := by
  refine State.rest_weaken hfs ?_
  clear hfs fs
  simp [State.setSess]

@[simp] theorem State.updSess_rest {fs : Nat} (hfs : 8 &&& fs = 8) (s : State) (row : Nat) (f : Session → Session) : (State.updSess s row f).rest fs = s.rest fs := by
  refine State.rest_weaken hfs ?_
  clear hfs fs
  simp [State.updSess]

@[simp] theorem State.touch_rest {fs : Nat} (hfs : 8 &&& fs = 8) (s : State) (row : Nat) : (State.touch s row).rest fs = s.rest fs := by
  refine State.rest_weaken hfs ?_
  clear hfs fs
  simp [State.touch]

@[simp] theorem State.dropStaging_rest {fs : Nat} (hfs : 132 &&& fs = 132) (s : State) : (State.dropStaging s).rest fs = s.rest fs := by
  refine State.rest_weaken hfs ?_
  clear hfs fs
  simp [State.dropStaging]

@[simp] theorem State.releaseStaging_rest {fs : Nat} (hfs : 388 &&& fs = 388) (s : State) (row : Nat) : (State.releaseStaging s row).rest fs = s.rest fs := by
  refine State.rest_weaken hfs ?_
  clear hfs fs
  unfold State.releaseStaging
  repeat' split
  all_goals simp [*]

@[simp] theorem State.endSession_rest {fs : Nat} (hfs : 68719477132 &&& fs = 68719477132) (s : State) (row : Nat) : (State.endSession s row).rest fs = s.rest fs := by
  refine State.rest_weaken hfs ?_
  clear hfs fs
  unfold State.endSession
  repeat' split
  all_goals simp [*]

@[simp] theorem State.endSessions_rest {fs : Nat} (hfs : 68719477132 &&& fs = 68719477132) (s : State) : (State.endSessions s).rest fs = s.rest fs := by
  refine State.rest_weaken hfs ?_
  clear hfs fs
  simp [State.endSessions]

@[simp] theorem State.endAccessPoint_rest {fs : Nat} (hfs : 68719477132 &&& fs = 68719477132) (s : State) (ap : Nat) : (State.endAccessPoint s ap).rest fs = s.rest fs := by
  refine State.rest_weaken hfs ?_
  clear hfs fs
  simp [State.endAccessPoint]

@[simp] theorem State.openFailed_rest {fs : Nat} (hfs : 34836 &&& fs = 34836) (s : State) (ap : Nat) (level : Nat) (peer : Nat) (sid : Nat) : (State.openFailed s ap level peer sid).rest fs = s.rest fs := by
  refine State.rest_weaken hfs ?_
  clear hfs fs
  simp [State.openFailed]

@[simp] theorem State.openDone_rest {fs : Nat} (hfs : 34832 &&& fs = 34832) (s : State) (ap : Nat) (level : Nat) (peer : Nat) (sid : Nat) : (State.openDone s ap level peer sid).rest fs = s.rest fs := by
  refine State.rest_weaken hfs ?_
  clear hfs fs
  simp [State.openDone]

@[simp] theorem State.drawNonce_rest {fs : Nat} (hfs : 4398046511104 &&& fs = 4398046511104) (s : State) : (State.drawNonce s).2.rest fs = s.rest fs := by
  refine State.rest_weaken hfs ?_
  clear hfs fs
  simp [State.drawNonce]

@[simp] theorem State.driveSafe_rest {fs : Nat} (hfs : 16384 &&& fs = 16384) (s : State) (k : Nat) : (State.driveSafe s k).rest fs = s.rest fs := by
  refine State.rest_weaken hfs ?_
  clear hfs fs
  simp [State.driveSafe]

@[simp] theorem State.maskedFault_rest {fs : Nat} (hfs : 51204 &&& fs = 51204) (s : State) (cls : Nat) : (State.maskedFault s cls).rest fs = s.rest fs := by
  refine State.rest_weaken hfs ?_
  clear hfs fs
  unfold State.maskedFault
  repeat' split
  all_goals simp [*]

@[simp] theorem State.logFault_rest {fs : Nat} (hfs : 8796629944324 &&& fs = 8796629944324) (s : State) (cls : Nat) (die : Nat) (unit : Nat) : (State.logFault s cls die unit).rest fs = s.rest fs := by
  refine State.rest_weaken hfs ?_
  clear hfs fs
  unfold State.logFault
  dsimp only
  repeat' split
  all_goals (try simp only [Prod.ext_iff] at *)
  all_goals (try casesm* _ ∧ _)
  all_goals subst_vars
  all_goals simp [*]

@[simp] theorem State.takeFault_rest {fs : Nat} (hfs : 8796629944324 &&& fs = 8796629944324) (s : State) (cls : Nat) (die : Nat) (unit : Nat) : (State.takeFault s cls die unit).rest fs = s.rest fs := by
  refine State.rest_weaken hfs ?_
  clear hfs fs
  simp [State.takeFault]

@[simp] theorem State.fault_rest {fs : Nat} (hfs : 8796629944324 &&& fs = 8796629944324) (s : State) (cls : Nat) (die : Nat) (unit : Nat) : (State.fault s cls die unit).rest fs = s.rest fs := by
  refine State.rest_weaken hfs ?_
  clear hfs fs
  unfold State.fault
  repeat' split
  all_goals simp [*]

@[simp] theorem State.detectedFault_rest {fs : Nat} (hfs : 8796629944324 &&& fs = 8796629944324) (s : State) (cls : Nat) (die : Nat) (unit : Nat) : (State.detectedFault s cls die unit).rest fs = s.rest fs := by
  refine State.rest_weaken hfs ?_
  clear hfs fs
  simp only [State.detectedFault]
  repeat' split
  all_goals (try simp [*])
  all_goals (repeat' split)
  all_goals simp [*]

@[simp] theorem State.healthChange_rest {fs : Nat} (hfs : 268435460 &&& fs = 268435460) (s : State) : (State.healthChange s).rest fs = s.rest fs := by
  refine State.rest_weaken hfs ?_
  clear hfs fs
  unfold State.healthChange
  repeat' split
  all_goals simp [*]

@[simp] theorem State.setHealth_rest {fs : Nat} (hfs : 268484612 &&& fs = 268484612) (s : State) (n : Nat) (st : Nat) : (State.setHealth s n st).rest fs = s.rest fs := by
  refine State.rest_weaken hfs ?_
  clear hfs fs
  unfold State.setHealth
  dsimp only
  repeat' split
  all_goals simp [*]

@[simp] theorem State.guardHealth_rest {fs : Nat} (hfs : 268435460 &&& fs = 268435460) (s : State) (old : Nat) : (State.guardHealth s old).rest fs = s.rest fs := by
  refine State.rest_weaken hfs ?_
  clear hfs fs
  unfold State.guardHealth
  dsimp only
  repeat' split
  all_goals (try simp only [Prod.ext_iff] at *)
  all_goals (try casesm* _ ∧ _)
  all_goals subst_vars
  all_goals simp [*]

@[simp] theorem State.addCause_rest {fs : Nat} (hfs : 268484612 &&& fs = 268484612) (s : State) (n : Nat) (cls : Nat) : (State.addCause s n cls).rest fs = s.rest fs := by
  refine State.rest_weaken hfs ?_
  clear hfs fs
  unfold State.addCause
  dsimp only
  repeat' split
  all_goals simp [*]

@[simp] theorem State.dropCause_rest {fs : Nat} (hfs : 268484612 &&& fs = 268484612) (s : State) (n : Nat) (cls : Nat) : (State.dropCause s n cls).rest fs = s.rest fs := by
  refine State.rest_weaken hfs ?_
  clear hfs fs
  unfold State.dropCause
  dsimp only
  repeat' split
  all_goals simp [*]

@[simp] theorem State.clearDie_rest {fs : Nat} (hfs : 3763568644 &&& fs = 3763568644) (s : State) (n : Nat) : (State.clearDie s n).rest fs = s.rest fs := by
  refine State.rest_weaken hfs ?_
  clear hfs fs
  simp [State.clearDie]

@[simp] theorem State.incomplete_rest {fs : Nat} (hfs : 4 &&& fs = 4) (s : State) (n e : Nat) : (s.incomplete n e).rest fs = s.rest fs := by
  refine State.rest_weaken hfs ?_
  clear hfs fs
  unfold State.incomplete
  refine foldl_rest _ _ (fun t x => ?_) _
  split <;> simp

@[simp] theorem State.loseDie_rest {fs : Nat} (hfs : 8804420012420 &&& fs = 8804420012420) (s : State) (n : Nat) : (State.loseDie s n).rest fs = s.rest fs := by
  refine State.rest_weaken hfs ?_
  clear hfs fs
  unfold State.loseDie
  repeat' split
  all_goals simp [*]

@[simp] theorem State.repath_rest {fs : Nat} (hfs : 9899904827396 &&& fs = 9899904827396) (s : State) (a b oldEnd : Nat) : (s.repath a b oldEnd).rest fs = s.rest fs := by
  refine State.rest_weaken hfs ?_
  clear hfs fs
  unfold State.repath
  refine foldl_rest _ _ (fun s c => ?_) _
  dsimp only
  repeat' split
  all_goals simp

@[simp] theorem State.switchPair_rest {fs : Nat} (hfs : 9899904827396 &&& fs = 9899904827396) (s : State) (a : Nat) (b : Nat) : (State.switchPair s a b).rest fs = s.rest fs := by
  refine State.rest_weaken hfs ?_
  clear hfs fs
  unfold State.switchPair
  dsimp only
  repeat' split
  all_goals simp [*]

@[simp] theorem State.switchPaths_rest {fs : Nat} (hfs : 9899904827396 &&& fs = 9899904827396) (s : State) : (State.switchPaths s).rest fs = s.rest fs := by
  refine State.rest_weaken hfs ?_
  clear hfs fs
  simp (maxDischargeDepth := 8) [State.switchPaths]

@[simp] theorem State.discardCells_rest {fs : Nat} (hfs : 9899905875972 &&& fs = 9899905875972) (s : State) (n : Nat) (e : Nat) : (State.discardCells s n e).rest fs = s.rest fs := by
  refine State.rest_weaken hfs ?_
  clear hfs fs
  simp [State.discardCells]

@[simp] theorem State.failEnd_rest {fs : Nat} (hfs : 9900174327812 &&& fs = 9900174327812) (s : State) (n : Nat) (e : Nat) : (State.failEnd s n e).rest fs = s.rest fs := by
  refine State.rest_weaken hfs ?_
  clear hfs fs
  unfold State.failEnd
  repeat' split
  all_goals simp [*]

@[simp] theorem State.failLink_rest {fs : Nat} (hfs : 9903932426628 &&& fs = 9903932426628) (s : State) (n : Nat) (e : Nat) : (State.failLink s n e).rest fs = s.rest fs := by
  refine State.rest_weaken hfs ?_
  clear hfs fs
  unfold State.failLink
  repeat' split
  all_goals simp [*]

@[simp] theorem State.restoreLink_rest {fs : Nat} (hfs : 269533188 &&& fs = 269533188) (s : State) (n : Nat) (e : Nat) : (State.restoreLink s n e).rest fs = s.rest fs := by
  refine State.rest_weaken hfs ?_
  clear hfs fs
  unfold State.restoreLink
  dsimp only
  repeat' split
  all_goals simp [*]

@[simp] theorem State.isolate_rest {fs : Nat} (hfs : 8804420012420 &&& fs = 8804420012420) (s : State) (n : Nat) : (State.isolate s n).rest fs = s.rest fs := by
  refine State.rest_weaken hfs ?_
  clear hfs fs
  unfold State.isolate
  repeat' split
  all_goals simp [*]

@[simp] theorem State.summaryEnd_rest {fs : Nat} (hfs : 51200 &&& fs = 51200) (s : State) : (State.summaryEnd s).rest fs = s.rest fs := by
  refine State.rest_weaken hfs ?_
  clear hfs fs
  unfold State.summaryEnd
  repeat' split
  all_goals simp [*]

@[simp] theorem State.setHeld_rest {fs : Nat} (hfs : 4194308 &&& fs = 4194308) (s : State) (slot : Nat) (classes : Nat) : (State.setHeld s slot classes).rest fs = s.rest fs := by
  refine State.rest_weaken hfs ?_
  clear hfs fs
  simp [State.setHeld]

@[simp] theorem State.pauseClasses_rest {fs : Nat} (hfs : 4194308 &&& fs = 4194308) (s : State) (slot : Nat) (classes : Nat) (hold : Bool) : (State.pauseClasses s slot classes hold).rest fs = s.rest fs := by
  refine State.rest_weaken hfs ?_
  clear hfs fs
  simp [State.pauseClasses]

@[simp] theorem State.pauseReceive_rest {fs : Nat} (hfs : 4194308 &&& fs = 4194308) (s : State) (slot : Nat) (d : Bytes) : (State.pauseReceive s slot d).rest fs = s.rest fs := by
  refine State.rest_weaken hfs ?_
  clear hfs fs
  simp [State.pauseReceive]

@[simp] theorem State.gptpSend_rest {fs : Nat} (hfs : 13211961165828 &&& fs = 13211961165828) (s : State) (slot kind : Nat) : (s.gptpSend slot kind).rest fs = s.rest fs := by
  refine State.rest_weaken hfs ?_
  clear hfs fs
  unfold State.gptpSend
  have h := State.macsecProtect_rest (fs := 13211961165828) (by decide) s.draw slot (s.gptpFrame slot kind)
  split <;> simp_all

@[simp] theorem State.gptpReceive_rest {fs : Nat} (hfs : 13211961165830 &&& fs = 13211961165830) (s : State) (slot : Nat) (d : Bytes) : (State.gptpReceive s slot d).rest fs = s.rest fs := by
  refine State.rest_weaken hfs ?_
  clear hfs fs
  unfold State.gptpReceive
  dsimp only
  repeat' split
  all_goals simp [*]

@[simp] theorem State.gptpInterval_rest {fs : Nat} (hfs : 13211961165828 &&& fs = 13211961165828) (s : State) (slot : Nat) (kind : GptpTimer) : (s.gptpInterval slot kind).rest fs = s.rest fs := by
  refine State.rest_weaken hfs ?_
  clear hfs fs
  unfold State.gptpInterval
  split
  · exact State.when_rest _ _ _ (fun s => by rw [State.when_rest _ _ _ (fun s => by simp)]; simp)
  · simp

@[simp] theorem State.steer_rest {fs : Nat} (hfs : 8800392413188 &&& fs = 8800392413188) (s : State) (n : Nat) (row : Nat) (cp : Copy) : (State.steer s n row cp).rest fs = s.rest fs := by
  refine State.rest_weaken hfs ?_
  clear hfs fs
  unfold State.steer
  dsimp only
  repeat' split
  all_goals simp [*]

@[simp] theorem State.ethDirect_rest {fs : Nat} (hfs : 8800393199620 &&& fs = 8800393199620) (s : State) (n : Nat) (code : Nat) (cp : Copy) : (State.ethDirect s n code cp).rest fs = s.rest fs := by
  refine State.rest_weaken hfs ?_
  clear hfs fs
  simp [State.ethDirect]

@[simp] theorem State.enterEth_rest {fs : Nat} (hfs : 9910105374724 &&& fs = 9910105374724) (s : State) (slot : Nat) (fcs : Nat) (d : Bytes) (v : VlanClass) (toApp : Bool) : (State.enterEth s slot fcs d v toApp).rest fs = s.rest fs := by
  refine State.rest_weaken hfs ?_
  clear hfs fs
  unfold State.enterEth
  repeat' split
  all_goals simp [*]

@[simp] theorem State.endpoint_rest {fs : Nat} (hfs : 9899904827396 &&& fs = 9899904827396) (s : State) : (State.endpoint s).rest fs = s.rest fs := by
  refine State.rest_weaken hfs ?_
  clear hfs fs
  simp (maxDischargeDepth := 8) [State.endpoint]

@[simp] theorem State.ethAccept_rest {fs : Nat} (hfs : 9910105378820 &&& fs = 9910105378820) (s : State) (slot : Nat) (wire : Nat) (fcs : Nat) (d : Bytes) (toApp : Bool) : (State.ethAccept s slot wire fcs d toApp).rest fs = s.rest fs := by
  refine State.rest_weaken hfs ?_
  clear hfs fs
  unfold State.ethAccept
  simp only []
  repeat' split
  all_goals simp [*]

@[simp] theorem State.ethCheck6_rest {fs : Nat} (hfs : 14325432424454 &&& fs = 14325432424454) (s : State) (slot : Nat) (wire : Nat) (fcs : Nat) (d : Bytes) : (State.ethCheck6 s slot wire fcs d).rest fs = s.rest fs := by
  refine State.rest_weaken hfs ?_
  clear hfs fs
  unfold State.ethCheck6
  dsimp only
  repeat' split
  all_goals simp [*]

@[simp] theorem State.wakeMatch_rest {fs : Nat} (hfs : 32772 &&& fs = 32772) (s : State) (slot : Nat) (pattern : Nat) : (State.wakeMatch s slot pattern).rest fs = s.rest fs := by
  refine State.rest_weaken hfs ?_
  clear hfs fs
  simp [State.wakeMatch]

@[simp] theorem State.ethReceive_rest {fs : Nat} (hfs : 14325457590278 &&& fs = 14325457590278) (s : State) (slot : Nat) (d : Bytes) (fcsOk : Bool) : (State.ethReceive s slot d fcsOk).rest fs = s.rest fs := by
  refine State.rest_weaken hfs ?_
  clear hfs fs
  unfold State.ethReceive
  dsimp only
  repeat' split
  all_goals (try simp only [Prod.ext_iff] at *)
  all_goals (try casesm* _ ∧ _)
  all_goals subst_vars
  all_goals simp [*]

@[simp] theorem State.pauseEnd_rest {fs : Nat} (hfs : 4194308 &&& fs = 4194308) (s : State) (slot : Nat) (c : Nat) : (State.pauseEnd s slot c).rest fs = s.rest fs := by
  refine State.rest_weaken hfs ?_
  clear hfs fs
  unfold State.pauseEnd
  repeat' split
  all_goals simp [*]

@[simp] theorem State.pauseStorm_rest {fs : Nat} (hfs : 541100036 &&& fs = 541100036) (s : State) (slot : Nat) (c : Nat) : (State.pauseStorm s slot c).rest fs = s.rest fs := by
  refine State.rest_weaken hfs ?_
  clear hfs fs
  simp [State.pauseStorm]

@[simp] theorem State.penaltyEnd_rest {fs : Nat} (hfs : 4194308 &&& fs = 4194308) (s : State) (slot : Nat) (c : Nat) : (State.penaltyEnd s slot c).rest fs = s.rest fs := by
  refine State.rest_weaken hfs ?_
  clear hfs fs
  simp [State.penaltyEnd]

@[simp] theorem State.linkUpEvent_rest {fs : Nat} (hfs : 8796097249284 &&& fs = 8796097249284) (s : State) (slot : Nat) : (State.linkUpEvent s slot).rest fs = s.rest fs := by
  refine State.rest_weaken hfs ?_
  clear hfs fs
  unfold State.linkUpEvent
  repeat' split
  all_goals simp [*]

@[simp] theorem State.linkLost_rest {fs : Nat} (hfs : 9899904827396 &&& fs = 9899904827396) (s : State) (slot : Nat) (receiving : Bool) : (State.linkLost s slot receiving).rest fs = s.rest fs := by
  refine State.rest_weaken hfs ?_
  clear hfs fs
  unfold State.linkLost
  repeat' split
  all_goals simp [*]

@[simp] theorem State.linkCut_rest {fs : Nat} (hfs : 14297951338500 &&& fs = 14297951338500) (s : State) (slot : Nat) : (State.linkCut s slot).rest fs = s.rest fs := by
  refine State.rest_weaken hfs ?_
  clear hfs fs
  simp [State.linkCut]

@[simp] theorem State.linkTrained_rest {fs : Nat} (hfs : 14297951338500 &&& fs = 14297951338500) (s : State) (slot : Nat) (partnerFull : Bool) : (State.linkTrained s slot partnerFull).rest fs = s.rest fs := by
  refine State.rest_weaken hfs ?_
  clear hfs fs
  unfold State.linkTrained
  dsimp only
  repeat' split
  all_goals (try simp only [Prod.ext_iff] at *)
  all_goals (try casesm* _ ∧ _)
  all_goals subst_vars
  all_goals simp [*]

@[simp] theorem State.sgmiiWord_rest {fs : Nat} (hfs : 14297951338500 &&& fs = 14297951338500) (s : State) (slot : Nat) (up : Bool) (full : Bool) (speed : Nat) : (State.sgmiiWord s slot up full speed).rest fs = s.rest fs := by
  refine State.rest_weaken hfs ?_
  clear hfs fs
  unfold State.sgmiiWord
  repeat' split
  all_goals simp [*]

@[simp] theorem State.linkDown_rest {fs : Nat} (hfs : 9900441700356 &&& fs = 9900441700356) (s : State) (slot : Nat) : (State.linkDown s slot).rest fs = s.rest fs := by
  refine State.rest_weaken hfs ?_
  clear hfs fs
  simp [State.linkDown]

@[simp] theorem State.ethPrepare_rest {fs : Nat} (hfs : 8813914671108 &&& fs = 8813914671108) (s : State) (slot : Nat) (cp : Copy) : (State.ethPrepare s slot cp).1.rest fs = s.rest fs := by
  refine State.rest_weaken hfs ?_
  clear hfs fs
  unfold State.ethPrepare
  dsimp only
  repeat' split
  all_goals (try simp only [Prod.ext_iff] at *)
  all_goals (try casesm* _ ∧ _)
  all_goals subst_vars
  all_goals simp [*]

@[simp] theorem State.ethDequeue_rest {fs : Nat} (hfs : 9917722249220 &&& fs = 9917722249220) (s : State) (slot : Nat) : (State.ethDequeue s slot).rest fs = s.rest fs := by
  refine State.rest_weaken hfs ?_
  clear hfs fs
  unfold State.ethDequeue
  dsimp only
  repeat' split
  all_goals (try simp only [Prod.ext_iff] at *)
  all_goals (try casesm* _ ∧ _)
  all_goals subst_vars
  all_goals simp [*]

@[simp] theorem State.ethSent_rest {fs : Nat} (hfs : 9910105374724 &&& fs = 9910105374724) (s : State) (slot : Nat) : (State.ethSent s slot).rest fs = s.rest fs := by
  refine State.rest_weaken hfs ?_
  clear hfs fs
  unfold State.ethSent
  repeat' split
  all_goals simp [*]

@[simp] theorem State.fabricTurn_rest {fs : Nat} (hfs : 9899904827396 &&& fs = 9899904827396) (s : State) (n : Nat) (e : Nat) (c : Nat) : (State.fabricTurn s n e c).1.rest fs = s.rest fs := by
  refine State.rest_weaken hfs ?_
  clear hfs fs
  unfold State.fabricTurn
  dsimp only
  repeat' split
  all_goals (try simp only [Prod.ext_iff] at *)
  all_goals (try casesm* _ ∧ _)
  all_goals subst_vars
  all_goals simp [*]

@[simp] theorem State.fabricPick_rest {fs : Nat} (hfs : 9899904827396 &&& fs = 9899904827396) (s : State) (n : Nat) (e : Nat) : (State.fabricPick s n e).1.rest fs = s.rest fs := by
  refine State.rest_weaken hfs ?_
  clear hfs fs
  unfold State.fabricPick
  dsimp only
  repeat' split
  all_goals (try simp only [Prod.ext_iff] at *)
  all_goals (try casesm* _ ∧ _)
  all_goals subst_vars
  all_goals simp [*]

@[simp] theorem State.fabricSend_rest {fs : Nat} (hfs : 1114112 &&& fs = 1114112) (s : State) (n : Nat) (e : Nat) (c : Nat) (x : Option Copy × Nat) : (State.fabricSend s n e c x).rest fs = s.rest fs := by
  refine State.rest_weaken hfs ?_
  clear hfs fs
  unfold State.fabricSend
  repeat' split
  all_goals simp [*]

@[simp] theorem State.fabricDequeue_rest {fs : Nat} (hfs : 9899905875972 &&& fs = 9899905875972) (s : State) (n e : Nat) : (s.fabricDequeue n e).rest fs = s.rest fs := by
  refine State.rest_weaken hfs ?_
  clear hfs fs
  unfold State.fabricDequeue
  have h := State.fabricPick_rest (fs := 9899905875972) (by decide) s n e
  repeat' split
  all_goals simp_all

@[simp] theorem State.arrive_rest {fs : Nat} (hfs : 8802138030084 &&& fs = 8802138030084) (s : State) (n : Nat) (e : Nat) (cp : Copy) : (State.arrive s n e cp).rest fs = s.rest fs := by
  refine State.rest_weaken hfs ?_
  clear hfs fs
  unfold State.arrive
  dsimp only
  repeat' split
  all_goals (try simp only [Prod.ext_iff] at *)
  all_goals (try casesm* _ ∧ _)
  all_goals subst_vars
  all_goals simp [*]

@[simp] theorem State.relay_rest {fs : Nat} (hfs : 4296015876 &&& fs = 4296015876) (s : State) (n : Nat) (e : Nat) (cp : Copy) : (State.relay s n e cp).rest fs = s.rest fs := by
  refine State.rest_weaken hfs ?_
  clear hfs fs
  unfold State.relay
  repeat' split
  all_goals simp [*]

@[simp] theorem State.landed_rest {fs : Nat} (hfs : 9901650706436 &&& fs = 9901650706436) (s : State) (n : Nat) (e : Nat) (cp : Copy) : (State.landed s n e cp).rest fs = s.rest fs := by
  refine State.rest_weaken hfs ?_
  clear hfs fs
  unfold State.landed
  repeat' split
  all_goals simp [*]

@[simp] theorem State.crossing_rest {fs : Nat} (hfs : 9901650706436 &&& fs = 9901650706436) (s : State) (n e m f : Nat) (x : Nat × Option Copy × Nat) : (s.crossing n e m f x).rest fs = s.rest fs := by
  refine State.rest_weaken hfs ?_
  clear hfs fs
  unfold State.crossing
  dsimp only
  repeat' split
  all_goals first
    | (rename_i h; have h := State.takeSending_rest (fs := 9901650706436) (by decide) _ _ h; simp_all; done)
    | simp

@[simp] theorem State.withhold_rest {fs : Nat} (hfs : 131076 &&& fs = 131076) (s : State) (t : State) (n : Nat) (e : Nat) (c : Nat) : (State.withhold s t n e c).rest fs = s.rest fs := by
  refine State.rest_weaken hfs ?_
  clear hfs fs
  unfold State.withhold
  dsimp only
  repeat' split
  all_goals (try simp only [Prod.ext_iff] at *)
  all_goals (try casesm* _ ∧ _)
  all_goals subst_vars
  all_goals simp [*]

@[simp] theorem State.crossed_rest {fs : Nat} (hfs : 9901650706436 &&& fs = 9901650706436) (s : State) (n e m f : Nat) (x : Nat × Option Copy × Nat) : (s.crossed n e m f x).rest fs = s.rest fs := by
  refine State.rest_weaken hfs ?_
  clear hfs fs
  unfold State.crossed
  dsimp only
  split
  · exact State.withhold_rest (fs := 9901650706436) (by decide) _ _ _ _ _
  · exact State.crossing_rest (fs := 9901650706436) (by decide) _ _ _ _ _ _

@[simp] theorem State.cellReceive_rest {fs : Nat} (hfs : 9901650724868 &&& fs = 9901650724868) (s : State) (n e : Nat) (crcOk : Bool) : (s.cellReceive n e crcOk).rest fs = s.rest fs := by
  refine State.rest_weaken hfs ?_
  clear hfs fs
  unfold State.cellReceive
  repeat' split
  all_goals simp

@[simp] theorem State.creditReturn_rest {fs : Nat} (hfs : 4295491584 &&& fs = 4295491584) (s : State) (g : Nat) (member : Nat) (die : Nat) (cells : Nat) : (State.creditReturn s g member die cells).rest fs = s.rest fs := by
  refine State.rest_weaken hfs ?_
  clear hfs fs
  simp [State.creditReturn]

@[simp] theorem State.runtimeDequeue_rest {fs : Nat} (hfs : 9899904827396 &&& fs = 9899904827396) (s : State) (n : Nat) : (s.runtimeDequeue n).rest fs = s.rest fs := by
  refine State.rest_weaken hfs ?_
  clear hfs fs
  unfold State.runtimeDequeue
  have h := State.select_rest (fs := 9899904827396) (by decide) s n 22 (fun _ _ => true)
  repeat' split
  all_goals simp_all

@[simp] theorem State.dequeue_rest {fs : Nat} (hfs : 9917723297796 &&& fs = 9917723297796) (s : State) (n : Nat) (q : Nat) : (State.dequeue s n q).rest fs = s.rest fs := by
  refine State.rest_weaken hfs ?_
  clear hfs fs
  unfold State.dequeue
  dsimp only
  repeat' split
  all_goals simp [*]

@[simp] theorem State.setTunnel_rest {fs : Nat} (hfs : 2147483648 &&& fs = 2147483648) (s : State) (row : Nat) (t : Tunnel) : (State.setTunnel s row t).rest fs = s.rest fs := by
  refine State.rest_weaken hfs ?_
  clear hfs fs
  simp [State.setTunnel]

@[simp] theorem State.closePdu_rest {fs : Nat} (hfs : 9902051524612 &&& fs = 9902051524612) (s : State) (n : Nat) (row : Nat) : (State.closePdu s n row).rest fs = s.rest fs := by
  refine State.rest_weaken hfs ?_
  clear hfs fs
  unfold State.closePdu
  dsimp only
  repeat' split
  all_goals simp [*]

@[simp] theorem State.appendMessages_rest {fs : Nat} (hfs : 9902051524612 &&& fs = 9902051524612) (s : State) (n : Nat) (row : Nat) (cp : Copy) (m : Bytes) : (State.appendMessages s n row cp m).rest fs = s.rest fs := by
  refine State.rest_weaken hfs ?_
  clear hfs fs
  simp [State.appendMessages]

@[simp] theorem State.encapsulate_rest {fs : Nat} (hfs : 9902051524612 &&& fs = 9902051524612) (s : State) (n : Nat) (row : Nat) (cp : Copy) : (State.encapsulate s n row cp).rest fs = s.rest fs := by
  refine State.rest_weaken hfs ?_
  clear hfs fs
  unfold State.encapsulate
  repeat' split
  all_goals simp [*]

@[simp] theorem State.tunnelPick_rest {fs : Nat} (hfs : 9899904827396 &&& fs = 9899904827396) (s : State) (n : Nat) (p : Copy → Bool) : (State.tunnelPick s n p).1.rest fs = s.rest fs := by
  refine State.rest_weaken hfs ?_
  clear hfs fs
  unfold State.tunnelPick
  dsimp only
  repeat' split
  all_goals (try simp only [Prod.ext_iff] at *)
  all_goals (try casesm* _ ∧ _)
  all_goals subst_vars
  all_goals simp [*]

@[simp] theorem State.tunnelRemove_rest {fs : Nat} (hfs : 9899904827396 &&& fs = 9899904827396) (s : State) (n : Nat) (x : Nat × Nat) : (State.tunnelRemove s n x).rest fs = s.rest fs := by
  refine State.rest_weaken hfs ?_
  clear hfs fs
  simp [State.tunnelRemove]

@[simp] theorem State.engineTake_rest {fs : Nat} (hfs : 9902052311044 &&& fs = 9902052311044) (s : State) (n engine : Nat) : (s.engineTake n engine).rest fs = s.rest fs := by
  refine State.rest_weaken hfs ?_
  clear hfs fs
  unfold State.engineTake
  have h := State.tunnelPick_rest (fs := 9902052311044) (by decide) s n (fun cp => cp.kind != .decap && mfind (s.placementOf n).tunnels cp.tunnelRow == some (n, engine))
  repeat' split
  all_goals simp_all

@[simp] theorem State.enterTunnel_rest {fs : Nat} (hfs : 9899904827396 &&& fs = 9899904827396) (s : State) (n : Nat) (row : Nat) (carrier : Copy) (f : Frame) : (State.enterTunnel s n row carrier f).rest fs = s.rest fs := by
  refine State.rest_weaken hfs ?_
  clear hfs fs
  simp [State.enterTunnel]

@[simp] theorem State.message_rest {fs : Nat} (hfs : 9899904827396 &&& fs = 9899904827396) (s : State) (n : Nat) (row : Nat) (carrier : Copy) (x : AcfMsg) : (State.message s n row carrier x).rest fs = s.rest fs := by
  refine State.rest_weaken hfs ?_
  clear hfs fs
  unfold State.message
  dsimp only
  repeat' split
  all_goals simp [*]

@[simp] theorem State.pdusLost_rest {fs : Nat} (hfs : 8423428 &&& fs = 8423428) (s : State) (row : Nat) (lost : Nat) (last : Nat) (seq : Nat) : (State.pdusLost s row lost last seq).rest fs = s.rest fs := by
  refine State.rest_weaken hfs ?_
  clear hfs fs
  unfold State.pdusLost
  repeat' split
  all_goals simp [*]

@[simp] theorem State.produce_rest {fs : Nat} (hfs : 9899904827396 &&& fs = 9899904827396) (s : State) (n row : Nat) (cp : Copy) (l : List AcfMsg) : (s.produce n row cp l).rest fs = s.rest fs := by
  refine State.rest_weaken hfs ?_
  clear hfs fs
  induction l generalizing s with
  | nil => rfl
  | cons m l ih =>
    unfold State.produce
    split
    · simp
    · rw [ih]; simp

@[simp] theorem State.decapsulate_rest {fs : Nat} (hfs : 9902060701700 &&& fs = 9902060701700) (s : State) (n : Nat) (row : Nat) (cp : Copy) : (State.decapsulate s n row cp).rest fs = s.rest fs := by
  refine State.rest_weaken hfs ?_
  clear hfs fs
  unfold State.decapsulate
  dsimp only
  repeat' split
  all_goals simp [*]

@[simp] theorem State.decapAgain_rest {fs : Nat} (hfs : 9899904827396 &&& fs = 9899904827396) (s : State) (n : Nat) (cp : Copy) (left : Nat) : (State.decapAgain s n cp left).rest fs = s.rest fs := by
  refine State.rest_weaken hfs ?_
  clear hfs fs
  unfold State.decapAgain
  dsimp only
  repeat' split
  all_goals (try simp only [Prod.ext_iff] at *)
  all_goals (try casesm* _ ∧ _)
  all_goals subst_vars
  all_goals simp [*]

@[simp] theorem State.decapTake_rest {fs : Nat} (hfs : 9902060701700 &&& fs = 9902060701700) (s : State) (n : Nat) : (s.decapTake n).rest fs = s.rest fs := by
  refine State.rest_weaken hfs ?_
  clear hfs fs
  unfold State.decapTake
  have h := State.tunnelPick_rest (fs := 9902060701700) (by decide) s n (fun cp => cp.kind == .decap)
  repeat' split
  all_goals simp_all

theorem State.onDie_rest {fs : Nat} (hfs : 2199023271936 &&& fs = 2199023271936) (s : State) (n : Nat) (f : State → State) (hf : ∀ s, (f s).rest fs = s.rest fs) {t0 : State} (h0 : s.onDie n f = .next t0) :
    t0.rest fs = s.rest fs := by
  unfold State.onDie at h0
  refine doneIf_rest (covers_trans hfs (by decide)) _ _ _ ?_ h0
  rw [State.when_rest _ _ _ hf]

@[simp] theorem State.updTimer_rest {fs : Nat} (hfs : 1073741824 &&& fs = 1073741824) (s : State) (n : Nat) (t : Nat) (f : Timer → Timer) : (State.updTimer s n t f).rest fs = s.rest fs := by
  refine State.rest_weaken hfs ?_
  clear hfs fs
  simp [State.updTimer]

@[simp] theorem State.updPin_rest {fs : Nat} (hfs : 1073741824 &&& fs = 1073741824) (s : State) (n : Nat) (p : Nat) (f : Pin → Pin) : (State.updPin s n p f).rest fs = s.rest fs := by
  refine State.rest_weaken hfs ?_
  clear hfs fs
  simp [State.updPin]

@[simp] theorem State.updIntc_rest {fs : Nat} (hfs : 536870912 &&& fs = 536870912) (s : State) (n : Nat) (target : Nat) (f : IntcTarget → IntcTarget) : (State.updIntc s n target f).rest fs = s.rest fs := by
  refine State.rest_weaken hfs ?_
  clear hfs fs
  simp [State.updIntc]

@[simp] theorem State.give_rest {fs : Nat} (hfs : 8796093022208 &&& fs = 8796093022208) (s : State) (n : Nat) (core : Nat) (addr : Nat) (value : Nat) : (State.give s n core addr value).rest fs = s.rest fs := by
  refine State.rest_weaken hfs ?_
  clear hfs fs
  simp [State.give]

@[simp] theorem State.softDoorbell_rest {fs : Nat} (hfs : 536870912 &&& fs = 536870912) (s : State) (n : Nat) (v : Nat) : (State.softDoorbell s n v).rest fs = s.rest fs := by
  refine State.rest_weaken hfs ?_
  clear hfs fs
  unfold State.softDoorbell
  repeat' split
  all_goals simp [*]

@[simp] theorem State.remoteAt_rest {fs : Nat} (hfs : 536870912 &&& fs = 536870912) (s : State) (n : Nat) (m : Nat) (v : Nat) (target : Nat) : (State.remoteAt s n m v target).rest fs = s.rest fs := by
  refine State.rest_weaken hfs ?_
  clear hfs fs
  unfold State.remoteAt
  dsimp only
  repeat' split
  all_goals simp [*]

@[simp] theorem State.remoteDoorbell_rest {fs : Nat} (hfs : 536870912 &&& fs = 536870912) (s : State) (n : Nat) (m : Nat) (v : Nat) : (State.remoteDoorbell s n m v).rest fs = s.rest fs := by
  refine State.rest_weaken hfs ?_
  clear hfs fs
  unfold State.remoteDoorbell
  repeat' split
  all_goals simp [*]

@[simp] theorem State.setPending_rest {fs : Nat} (hfs : 536870912 &&& fs = 536870912) (s : State) (n : Nat) (w : Nat) (v : Nat) : (State.setPending s n w v).rest fs = s.rest fs := by
  refine State.rest_weaken hfs ?_
  clear hfs fs
  simp [State.setPending]

@[simp] theorem State.timerCtrl_rest {fs : Nat} (hfs : 1073741824 &&& fs = 1073741824) (s : State) (n : Nat) (t : Nat) (owner : Nat) (v : Nat) : (State.timerCtrl s n t owner v).rest fs = s.rest fs := by
  refine State.rest_weaken hfs ?_
  clear hfs fs
  unfold State.timerCtrl
  dsimp only
  repeat' split
  all_goals simp [*]

@[simp] theorem State.timerExpire_rest {fs : Nat} (hfs : 1610612736 &&& fs = 1610612736) (s : State) (n : Nat) (t : Nat) : (State.timerExpire s n t).rest fs = s.rest fs := by
  refine State.rest_weaken hfs ?_
  clear hfs fs
  unfold State.timerExpire
  dsimp only
  repeat' split
  all_goals simp [*]

@[simp] theorem State.timerOwn_rest {fs : Nat} (hfs : 1073741824 &&& fs = 1073741824) (s : State) (n : Nat) (t : Nat) (owner : Nat) (cmd : Nat) : (State.timerOwn s n t owner cmd).rest fs = s.rest fs := by
  refine State.rest_weaken hfs ?_
  clear hfs fs
  unfold State.timerOwn
  dsimp only
  repeat' split
  all_goals simp [*]

@[simp] theorem State.pinOwn_rest {fs : Nat} (hfs : 1073741824 &&& fs = 1073741824) (s : State) (n : Nat) (p : Nat) (owner : Nat) (cmd : Nat) : (State.pinOwn s n p owner cmd).rest fs = s.rest fs := by
  refine State.rest_weaken hfs ?_
  clear hfs fs
  unfold State.pinOwn
  dsimp only
  repeat' split
  all_goals simp [*]

theorem State.onStarted_rest {fs : Nat} (hfs : 2199023271936 &&& fs = 2199023271936) (s : State) (n pair : Nat) (f : State → State) (hf : ∀ s, (f s).rest fs = s.rest fs) {t0 : State} (h0 : s.onStarted n pair f = .next t0) :
    t0.rest fs = s.rest fs := by
  unfold State.onStarted at h0
  refine doneIf_rest (covers_trans hfs (by decide)) _ _ _ ?_ h0
  rw [State.when_rest _ _ _ hf]

@[simp] theorem State.pinCtrl_rest {fs : Nat} (hfs : 1073741824 &&& fs = 1073741824) (s : State) (n : Nat) (p : Nat) (owner : Nat) (v : Nat) : (State.pinCtrl s n p owner v).rest fs = s.rest fs := by
  refine State.rest_weaken hfs ?_
  clear hfs fs
  unfold State.pinCtrl
  dsimp only
  repeat' split
  all_goals simp [*]

@[simp] theorem State.doutWrite_rest {fs : Nat} (hfs : 1073741824 &&& fs = 1073741824) (s : State) (n : Nat) (owner : Nat) (v : Nat) : (State.doutWrite s n owner v).rest fs = s.rest fs := by
  refine State.rest_weaken hfs ?_
  clear hfs fs
  simp (maxDischargeDepth := 8) [State.doutWrite]

@[simp] theorem State.qpFlow_rest {fs : Nat} (hfs : 1610612736 &&& fs = 1610612736) (s : State) (n : Nat) (k : Nat) : (State.qpFlow s n k).rest fs = s.rest fs := by
  refine State.rest_weaken hfs ?_
  clear hfs fs
  simp [State.qpFlow]

@[simp] theorem State.qpPick_rest {fs : Nat} (hfs : 9899904827396 &&& fs = 9899904827396) (s : State) (n : Nat) : (s.qpPick n).1.rest fs = s.rest fs := by
  refine State.rest_weaken hfs ?_
  clear hfs fs
  unfold State.qpPick
  refine foldl_fst_rest _ _ (fun p c => ?_) _
  dsimp only
  repeat' split
  all_goals simp

@[simp] theorem State.rxWrite_rest {fs : Nat} (hfs : 9901515440132 &&& fs = 9901515440132) (s : State) (n : Nat) (c : Nat) (cp : Copy) : (State.rxWrite s n c cp).rest fs = s.rest fs := by
  refine State.rest_weaken hfs ?_
  clear hfs fs
  simp [State.rxWrite]

@[simp] theorem State.rxItemWrite_rest {fs : Nat} (hfs : 9901515440132 &&& fs = 9901515440132) (s : State) (n : Nat) : (s.rxItemWrite n).rest fs = s.rest fs := by
  refine State.rest_weaken hfs ?_
  clear hfs fs
  unfold State.rxItemWrite
  have h := State.qpPick_rest (fs := 9901515440132) (by decide) s n
  repeat' split
  all_goals simp_all

@[simp] theorem State.enterItem_rest {fs : Nat} (hfs : 9899904827396 &&& fs = 9899904827396) (s : State) (n : Nat) (realm : Nat) (cls : Nat) (f : Frame) : (State.enterItem s n realm cls f).rest fs = s.rest fs := by
  refine State.rest_weaken hfs ?_
  clear hfs fs
  unfold State.enterItem
  dsimp only
  repeat' (first | rfl | simp only [State.when_rest] | split)
  all_goals simp [*]

@[simp] theorem State.txDiscard_rest {fs : Nat} (hfs : 1610612740 &&& fs = 1610612740) (s : State) (n : Nat) (k : Nat) : (State.txDiscard s n k).rest fs = s.rest fs := by
  refine State.rest_weaken hfs ?_
  clear hfs fs
  simp [State.txDiscard]

@[simp] theorem State.txFree_rest {fs : Nat} (hfs : 1073741824 &&& fs = 1073741824) (s : State) (n : Nat) (k : Nat) (words : Nat) : (State.txFree s n k words).rest fs = s.rest fs := by
  refine State.rest_weaken hfs ?_
  clear hfs fs
  simp [State.txFree]

@[simp] theorem State.txTake_rest {fs : Nat} (hfs : 9901515440132 &&& fs = 9901515440132) (s : State) (n : Nat) (k : Nat) : (State.txTake s n k).rest fs = s.rest fs := by
  refine State.rest_weaken hfs ?_
  clear hfs fs
  unfold State.txTake
  dsimp only
  repeat' split
  all_goals simp [*]

@[simp] theorem State.txItemTake_rest {fs : Nat} (hfs : 9901515440132 &&& fs = 9901515440132) (s : State) (n : Nat) : (State.txItemTake s n).rest fs = s.rest fs := by
  refine State.rest_weaken hfs ?_
  clear hfs fs
  unfold State.txItemTake
  repeat' split
  all_goals simp [*]

theorem State.onQp_rest {fs : Nat} (hfs : 2199023271936 &&& fs = 2199023271936) (s : State) (n k : Nat) (f : State → State) (hf : ∀ s, (f s).rest fs = s.rest fs) {t0 : State} (h0 : s.onQp n k f = .next t0) :
    t0.rest fs = s.rest fs := by
  unfold State.onQp at h0
  exact State.onDie_rest (covers_trans hfs (by decide)) _ _ _ (fun s => State.when_rest _ _ _ hf) h0

@[simp] theorem State.txPush_rest {fs : Nat} (hfs : 1610612736 &&& fs = 1610612736) (s : State) (n : Nat) (k : Nat) (v : Nat) : (State.txPush s n k v).rest fs = s.rest fs := by
  refine State.rest_weaken hfs ?_
  clear hfs fs
  unfold State.txPush
  dsimp only
  repeat' split
  all_goals simp [*]

@[simp] theorem State.qpRewind_rest {fs : Nat} (hfs : 1610612736 &&& fs = 1610612736) (s : State) (n : Nat) (k : Nat) : (State.qpRewind s n k).rest fs = s.rest fs := by
  refine State.rest_weaken hfs ?_
  clear hfs fs
  simp [State.qpRewind]

@[simp] theorem State.txFalls_rest {fs : Nat} (hfs : 536870912 &&& fs = 536870912) (s : State) (n : Nat) (k : Nat) : (State.txFalls s n k).rest fs = s.rest fs := by
  refine State.rest_weaken hfs ?_
  clear hfs fs
  simp [State.txFalls]

@[simp] theorem State.qpStart_rest {fs : Nat} (hfs : 1610612736 &&& fs = 1610612736) (s : State) (n : Nat) (k : Nat) : (State.qpStart s n k).rest fs = s.rest fs := by
  refine State.rest_weaken hfs ?_
  clear hfs fs
  unfold State.qpStart
  repeat' split
  all_goals simp [*]

@[simp] theorem State.qpCtrl_rest {fs : Nat} (hfs : 1610612736 &&& fs = 1610612736) (s : State) (n : Nat) (k : Nat) (v : Nat) : (State.qpCtrl s n k v).rest fs = s.rest fs := by
  refine State.rest_weaken hfs ?_
  clear hfs fs
  unfold State.qpCtrl
  dsimp only
  repeat' split
  all_goals simp [*]

@[simp] theorem State.qpEmptied_rest {fs : Nat} (hfs : 1610612736 &&& fs = 1610612736) (s : State) (n : Nat) (k : Nat) : (State.qpEmptied s n k).rest fs = s.rest fs := by
  refine State.rest_weaken hfs ?_
  clear hfs fs
  simp [State.qpEmptied]

@[simp] theorem State.qpEnd_rest {fs : Nat} (hfs : 1610612736 &&& fs = 1610612736) (s : State) (n : Nat) (k : Nat) : (State.qpEnd s n k).rest fs = s.rest fs := by
  refine State.rest_weaken hfs ?_
  clear hfs fs
  unfold State.qpEnd
  dsimp only
  repeat' split
  all_goals simp [*]

@[simp] theorem State.updBlock_rest {fs : Nat} (hfs : 1610612736 &&& fs = 1610612736) (s : State) (n : Nat) (b : BlockId) (f : Block → Block) : (State.updBlock s n b f).rest fs = s.rest fs := by
  refine State.rest_weaken hfs ?_
  clear hfs fs
  unfold State.updBlock
  repeat' split
  all_goals simp [*]

@[simp] theorem State.cfgWrite_rest {fs : Nat} (hfs : 1610612736 &&& fs = 1610612736) (s : State) (n : Nat) (b : BlockId) (f : State → State) (hf : ∀ (y0 : State), (f y0).rest fs = y0.rest fs) : (State.cfgWrite s n b f).rest fs = s.rest fs := by
  unfold State.cfgWrite
  repeat' split
  all_goals simp [*]

@[simp] theorem State.updBridge_rest {fs : Nat} (hfs : 1073741824 &&& fs = 1073741824) (s : State) (n : Nat) (f : Bridge → Bridge) : (State.updBridge s n f).rest fs = s.rest fs := by
  refine State.rest_weaken hfs ?_
  clear hfs fs
  simp [State.updBridge]

@[simp] theorem State.updCore_rest {fs : Nat} (hfs : 1073741824 &&& fs = 1073741824) (s : State) (n : Nat) (c : Nat) (f : BridgeCore → BridgeCore) : (State.updCore s n c f).rest fs = s.rest fs := by
  refine State.rest_weaken hfs ?_
  clear hfs fs
  simp [State.updCore]

@[simp] theorem State.semTake_rest {fs : Nat} (hfs : 1073741824 &&& fs = 1073741824) (s : State) (n : Nat) (i : Nat) (who : Nat) : (State.semTake s n i who).rest fs = s.rest fs := by
  refine State.rest_weaken hfs ?_
  clear hfs fs
  unfold State.semTake
  repeat' split
  all_goals simp [*]

@[simp] theorem State.regReadEffect_rest {fs : Nat} (hfs : 4399657123840 &&& fs = 4399657123840) (s : State) (n : Nat) (core : Nat) (who : Nat) (r : Reg) : (State.regReadEffect s n core who r).rest fs = s.rest fs := by
  refine State.rest_weaken hfs ?_
  clear hfs fs
  unfold State.regReadEffect
  repeat' split
  all_goals simp [*]

@[simp] theorem State.semGive_rest {fs : Nat} (hfs : 1610612736 &&& fs = 1610612736) (s : State) (n : Nat) (i : Nat) (who : Nat) (v : Nat) : (State.semGive s n i who v).rest fs = s.rest fs := by
  refine State.rest_weaken hfs ?_
  clear hfs fs
  unfold State.semGive
  repeat' split
  all_goals simp [*]

@[simp] theorem State.sysCtrlWrite_rest {fs : Nat} (hfs : 1610612736 &&& fs = 1610612736) (s : State) (n : Nat) (v : Nat) : (State.sysCtrlWrite s n v).rest fs = s.rest fs := by
  refine State.rest_weaken hfs ?_
  clear hfs fs
  unfold State.sysCtrlWrite
  dsimp only
  repeat' split
  all_goals simp [*]

@[simp] theorem State.kick_rest {fs : Nat} (hfs : 1073741824 &&& fs = 1073741824) (s : State) (n : Nat) (v : Nat) : (State.kick s n v).rest fs = s.rest fs := by
  refine State.rest_weaken hfs ?_
  clear hfs fs
  unfold State.kick
  repeat' split
  all_goals simp [*]

@[simp] theorem State.mbxWrite_rest {fs : Nat} (hfs : 1073741824 &&& fs = 1073741824) (s : State) (n : Nat) (f : Mailbox → Mailbox) : (State.mbxWrite s n f).rest fs = s.rest fs := by
  refine State.rest_weaken hfs ?_
  clear hfs fs
  simp [State.mbxWrite]

@[simp] theorem State.mbxStart_rest {fs : Nat} (hfs : 1073741824 &&& fs = 1073741824) (s : State) (n : Nat) (op : Nat) (staged : Bool) : (State.mbxStart s n op staged).rest fs = s.rest fs := by
  refine State.rest_weaken hfs ?_
  clear hfs fs
  unfold State.mbxStart
  dsimp only
  repeat' split
  all_goals simp [*]

@[simp] theorem State.capRead_rest {fs : Nat} (hfs : 1073741824 &&& fs = 1073741824) (s : State) (n : Nat) (v : Nat) : (State.capRead s n v).rest fs = s.rest fs := by
  refine State.rest_weaken hfs ?_
  clear hfs fs
  simp [State.capRead]

@[simp] theorem State.plainCtrl_rest {fs : Nat} (hfs : 1610612736 &&& fs = 1610612736) (s : State) (n : Nat) (b : BlockId) (v : Nat) : (State.plainCtrl s n b v).rest fs = s.rest fs := by
  refine State.rest_weaken hfs ?_
  clear hfs fs
  simp [State.plainCtrl]

@[simp] theorem State.mbxCtrl_rest {fs : Nat} (hfs : 1073741824 &&& fs = 1073741824) (s : State) (n : Nat) (v : Nat) : (State.mbxCtrl s n v).rest fs = s.rest fs := by
  refine State.rest_weaken hfs ?_
  clear hfs fs
  simp [State.mbxCtrl]

@[simp] theorem State.bridgeCtrl_rest {fs : Nat} (hfs : 1610612736 &&& fs = 1610612736) (s : State) (n : Nat) (v : Nat) : (State.bridgeCtrl s n v).rest fs = s.rest fs := by
  refine State.rest_weaken hfs ?_
  clear hfs fs
  simp [State.bridgeCtrl]

@[simp] theorem State.regWrite_rest {fs : Nat} (hfs : 1610612736 &&& fs = 1610612736) (s : State) (n : Nat) (core : Nat) (who : Nat) (r : Reg) (v : Nat) : (State.regWrite s n core who r v).rest fs = s.rest fs := by
  refine State.rest_weaken hfs ?_
  clear hfs fs
  unfold State.regWrite
  repeat' split
  all_goals simp [*]

@[simp] theorem State.ctrlBit_rest {fs : Nat} (hfs : 1610612736 &&& fs = 1610612736) (s : State) (n : Nat) (core : Nat) (r : Reg) (id : BlockId) (old : Nat) (new : Nat) : (State.ctrlBit s n core r id old new).rest fs = s.rest fs := by
  refine State.rest_weaken hfs ?_
  clear hfs fs
  unfold State.ctrlBit
  dsimp only
  repeat' split
  all_goals (try simp only [Prod.ext_iff] at *)
  all_goals (try casesm* _ ∧ _)
  all_goals subst_vars
  all_goals simp [*]

@[simp] theorem State.aliasWrite_rest {fs : Nat} (hfs : 1610612736 &&& fs = 1610612736) (s : State) (n : Nat) (core : Nat) (r : Reg) (b : Nat) (v : Nat) : (State.aliasWrite s n core r b v).rest fs = s.rest fs := by
  refine State.rest_weaken hfs ?_
  clear hfs fs
  unfold State.aliasWrite
  repeat' split
  all_goals simp [*]

@[simp] theorem State.accessFault_rest {fs : Nat} (hfs : 8796093022208 &&& fs = 8796093022208) (s : State) (n : Nat) (addr : Nat) : (State.accessFault s n addr).rest fs = s.rest fs := by
  refine State.rest_weaken hfs ?_
  clear hfs fs
  simp [State.accessFault]

@[simp] theorem State.planeWrite_rest {fs : Nat} (hfs : 8797703634944 &&& fs = 8797703634944) (s : State) (n : Nat) (addr : Nat) (v : Nat) : (State.planeWrite s n addr v).rest fs = s.rest fs := by
  refine State.rest_weaken hfs ?_
  clear hfs fs
  unfold State.planeWrite
  dsimp only
  repeat' split
  all_goals simp [*]

@[simp] theorem State.blockEnd_rest {fs : Nat} (hfs : 1610612736 &&& fs = 1610612736) (s : State) (n : Nat) (b : BlockId) : (State.blockEnd s n b).rest fs = s.rest fs := by
  refine State.rest_weaken hfs ?_
  clear hfs fs
  unfold State.blockEnd
  repeat' split
  all_goals simp [*]

@[simp] theorem State.regParity_rest {fs : Nat} (hfs : 8797703686148 &&& fs = 8797703686148) (s : State) (n : Nat) (b : BlockId) : (State.regParity s n b).rest fs = s.rest fs := by
  refine State.rest_weaken hfs ?_
  clear hfs fs
  unfold State.regParity
  repeat' split
  all_goals simp [*]

@[simp] theorem State.farWrite_rest {fs : Nat} (hfs : 1610612736 &&& fs = 1610612736) (s : State) (n : Nat) (t : Transfer) : (State.farWrite s n t).1.rest fs = s.rest fs := by
  refine State.rest_weaken hfs ?_
  clear hfs fs
  unfold State.farWrite
  dsimp only
  repeat' split
  all_goals simp [*]

@[simp] theorem State.farRead_rest {fs : Nat} (hfs : 4399657123840 &&& fs = 4399657123840) (s : State) (n : Nat) (t : Transfer) : (State.farRead s n t).1.rest fs = s.rest fs := by
  refine State.rest_weaken hfs ?_
  clear hfs fs
  unfold State.farRead
  repeat' split
  all_goals simp [*]

@[simp] theorem State.postedRun_rest {fs : Nat} (hfs : 1610612736 &&& fs = 1610612736) (s : State) (n : Nat) : (s.postedRun n).rest fs = s.rest fs := by
  refine State.rest_weaken hfs ?_
  clear hfs fs
  unfold State.postedRun
  dsimp only
  rw [State.updCore_rest (fs := 1610612736) (by decide)]
  refine foldl_fst_rest _ _ (fun x t => ?_) _
  have h := State.farWrite_rest (fs := 1610612736) (by decide) x.1 n t
  repeat' split
  all_goals simp_all

@[simp] theorem State.readFail_rest {fs : Nat} (hfs : 8797166764032 &&& fs = 8797166764032) (s : State) (n : Nat) (t : Transfer) (cause : Nat) : (State.readFail s n t cause).rest fs = s.rest fs := by
  refine State.rest_weaken hfs ?_
  clear hfs fs
  simp [State.readFail]

@[simp] theorem State.readRun_rest {fs : Nat} (hfs : 13195750146048 &&& fs = 13195750146048) (s : State) (n : Nat) : (State.readRun s n).rest fs = s.rest fs := by
  refine State.rest_weaken hfs ?_
  clear hfs fs
  unfold State.readRun
  dsimp only
  repeat' split
  all_goals simp [*]

@[simp] theorem State.fenceRun_rest {fs : Nat} (hfs : 8797166764032 &&& fs = 8797166764032) (s : State) (n : Nat) : (State.fenceRun s n).rest fs = s.rest fs := by
  refine State.rest_weaken hfs ?_
  clear hfs fs
  unfold State.fenceRun
  dsimp only
  repeat' split
  all_goals simp [*]

@[simp] theorem State.bridgeRun_rest {fs : Nat} (hfs : 13195750146048 &&& fs = 13195750146048) (s : State) (n : Nat) : (State.bridgeRun s n).rest fs = s.rest fs := by
  refine State.rest_weaken hfs ?_
  clear hfs fs
  simp [State.bridgeRun]

@[simp] theorem State.backOff_rest {fs : Nat} (hfs : 1073741824 &&& fs = 1073741824) (s : State) (n : Nat) (w : Way) : (State.backOff s n w).rest fs = s.rest fs := by
  refine State.rest_weaken hfs ?_
  clear hfs fs
  unfold State.backOff
  repeat' split
  all_goals simp [*]

@[simp] theorem State.windowRead_rest {fs : Nat} (hfs : 13195750146048 &&& fs = 13195750146048) (s : State) (n : Nat) (w : Nat) (offset : Nat) (how : BridgeWay) : (State.windowRead s n w offset how).rest fs = s.rest fs := by
  refine State.rest_weaken hfs ?_
  clear hfs fs
  unfold State.windowRead
  repeat' split
  all_goals simp [*]

@[simp] theorem State.postWrite_rest {fs : Nat} (hfs : 13195750146048 &&& fs = 13195750146048) (s : State) (n : Nat) (w : Nat) (offset : Nat) (v : Nat) (how : BridgeWay) : (State.postWrite s n w offset v how).rest fs = s.rest fs := by
  refine State.rest_weaken hfs ?_
  clear hfs fs
  unfold State.postWrite
  repeat' split
  all_goals simp [*]

@[simp] theorem State.fenceRead_rest {fs : Nat} (hfs : 13195750146048 &&& fs = 13195750146048) (s : State) (n : Nat) : (State.fenceRead s n).rest fs = s.rest fs := by
  refine State.rest_weaken hfs ?_
  clear hfs fs
  simp [State.fenceRead]

@[simp] theorem State.logFailure_rest {fs : Nat} (hfs : 1073741824 &&& fs = 1073741824) (s : State) (m : Nat) (n : Nat) (t : Transfer) (cause : Nat) : (State.logFailure s m n t cause).rest fs = s.rest fs := by
  refine State.rest_weaken hfs ?_
  clear hfs fs
  simp [State.logFailure]

@[simp] theorem State.reportFailure_rest {fs : Nat} (hfs : 1610612736 &&& fs = 1610612736) (s : State) (n : Nat) (t : Transfer) (cause : Nat) : (State.reportFailure s n t cause).rest fs = s.rest fs := by
  refine State.rest_weaken hfs ?_
  clear hfs fs
  simp [State.reportFailure]

@[simp] theorem State.postedFail_rest {fs : Nat} (hfs : 13195750146048 &&& fs = 13195750146048) (s : State) (n : Nat) : (State.postedFail s n).rest fs = s.rest fs := by
  refine State.rest_weaken hfs ?_
  clear hfs fs
  unfold State.postedFail
  dsimp only
  repeat' split
  all_goals simp [*]

@[simp] theorem State.nackRetry_rest {fs : Nat} (hfs : 13195750146048 &&& fs = 13195750146048) (s : State) (n : Nat) (accepted : Bool) : (State.nackRetry s n accepted).rest fs = s.rest fs := by
  refine State.rest_weaken hfs ?_
  clear hfs fs
  unfold State.nackRetry
  dsimp only
  repeat' split
  all_goals simp [*]

@[simp] theorem State.responseTimeout_rest {fs : Nat} (hfs : 13195750146048 &&& fs = 13195750146048) (s : State) (n : Nat) : (State.responseTimeout s n).rest fs = s.rest fs := by
  refine State.rest_weaken hfs ?_
  clear hfs fs
  unfold State.responseTimeout
  dsimp only
  repeat' split
  all_goals simp [*]

theorem State.onSem_rest {fs : Nat} (hfs : 2199023271936 &&& fs = 2199023271936) (s : State) (n i who : Nat) (f : State → State) (hf : ∀ s, (f s).rest fs = s.rest fs) {t0 : State} (h0 : s.onSem n i who f = .next t0) :
    t0.rest fs = s.rest fs := by
  unfold State.onSem at h0
  refine doneIf_rest (covers_trans hfs (by decide)) _ _ _ ?_ h0
  rw [State.when_rest _ _ _ hf]

@[simp] theorem State.semRelease_rest {fs : Nat} (hfs : 1610612736 &&& fs = 1610612736) (s : State) (n : Nat) (i : Nat) : (State.semRelease s n i).rest fs = s.rest fs := by
  refine State.rest_weaken hfs ?_
  clear hfs fs
  unfold State.semRelease
  repeat' split
  all_goals simp [*]

@[simp] theorem State.loadWord_rest {fs : Nat} (hfs : 13195750146048 &&& fs = 13195750146048) (s : State) (n : Nat) (core : Nat) (addr : Nat) : (State.loadWord s n core addr).rest fs = s.rest fs := by
  refine State.rest_weaken hfs ?_
  clear hfs fs
  unfold State.loadWord
  repeat' split
  all_goals simp [*]

@[simp] theorem State.orphanPair_rest {fs : Nat} (hfs : 1073741824 &&& fs = 1073741824) (s : State) (who : Nat) : (State.orphanPair s who).rest fs = s.rest fs := by
  refine State.rest_weaken hfs ?_
  clear hfs fs
  simp [State.orphanPair]

@[simp] theorem State.storeWord_rest {fs : Nat} (hfs : 13195750146048 &&& fs = 13195750146048) (s : State) (n : Nat) (addr : Nat) (v : Nat) : (State.storeWord s n addr v).rest fs = s.rest fs := by
  refine State.rest_weaken hfs ?_
  clear hfs fs
  unfold State.storeWord
  repeat' split
  all_goals simp [*]

@[simp] theorem State.updateRecord_rest {fs : Nat} (hfs : 34816 &&& fs = 34816) (s : State) (event : Nat) (status : Nat) (part : Nat) (old : Nat) (new : Nat) : (State.updateRecord s event status part old new).rest fs = s.rest fs := by
  refine State.rest_weaken hfs ?_
  clear hfs fs
  simp [State.updateRecord]

@[simp] theorem State.updateTo_rest {fs : Nat} (hfs : 9071507832832 &&& fs = 9071507832832) (s : State) (state : Nat) (part : Nat) : (State.updateTo s state part).rest fs = s.rest fs := by
  refine State.rest_weaken hfs ?_
  clear hfs fs
  unfold State.updateTo
  repeat' split
  all_goals simp [*]

@[simp] theorem State.swapBank_rest {fs : Nat} (hfs : 4 &&& fs = 4) (s : State) : (State.swapBank s).rest fs = s.rest fs := by
  refine State.rest_weaken hfs ?_
  clear hfs fs
  simp [State.swapBank]

@[simp] theorem State.trialEnded_rest {fs : Nat} (hfs : 9071507834884 &&& fs = 9071507834884) (s : State) (part : Nat) (status : Nat) : (State.trialEnded s part status).rest fs = s.rest fs := by
  refine State.rest_weaken hfs ?_
  clear hfs fs
  simp [State.trialEnded]

@[simp] theorem State.setAppState_rest {fs : Nat} (hfs : 4 &&& fs = 4) (s : State) (n : Nat) (v : Nat) : (State.setAppState s n v).rest fs = s.rest fs := by
  refine State.rest_weaken hfs ?_
  clear hfs fs
  simp [State.setAppState]

@[simp] theorem State.appStart_rest {fs : Nat} (hfs : 276220133380 &&& fs = 276220133380) (s : State) (n : Nat) : (s.appStart n).rest fs = s.rest fs := by
  refine State.rest_weaken hfs ?_
  clear hfs fs
  unfold State.appStart
  dsimp only
  rw [State.when_rest _ _ _ (fun s => by simp)]
  simp

@[simp] theorem State.appHalt_rest {fs : Nat} (hfs : 1610613124 &&& fs = 1610613124) (s : State) (n : Nat) (cause : Nat) : (State.appHalt s n cause).rest fs = s.rest fs := by
  refine State.rest_weaken hfs ?_
  clear hfs fs
  simp [State.appHalt]

@[simp] theorem State.appReloadAll_rest {fs : Nat} (hfs : 1610613124 &&& fs = 1610613124) (s : State) : (State.appReloadAll s).rest fs = s.rest fs := by
  refine State.rest_weaken hfs ?_
  clear hfs fs
  simp (maxDischargeDepth := 8) [State.appReloadAll]

@[simp] theorem State.fallBack_rest {fs : Nat} (hfs : 9072581577092 &&& fs = 9072581577092) (s : State) (part : Nat) (status : Nat) : (State.fallBack s part status).rest fs = s.rest fs := by
  refine State.rest_weaken hfs ?_
  clear hfs fs
  simp [State.fallBack]

@[simp] theorem State.appReset_rest {fs : Nat} (hfs : 9072581577092 &&& fs = 9072581577092) (s : State) (n : Nat) (cause : Nat) : (State.appReset s n cause).rest fs = s.rest fs := by
  refine State.rest_weaken hfs ?_
  clear hfs fs
  simp [State.appReset]

@[simp] theorem State.restartDelayEnd_rest {fs : Nat} (hfs : 1073741828 &&& fs = 1073741828) (s : State) (n : Nat) : (State.restartDelayEnd s n).rest fs = s.rest fs := by
  refine State.rest_weaken hfs ?_
  clear hfs fs
  unfold State.restartDelayEnd
  dsimp only
  repeat' split
  all_goals simp [*]

@[simp] theorem State.claimVsel_rest {fs : Nat} (hfs : 1073741824 &&& fs = 1073741824) (s : State) : (State.claimVsel s).rest fs = s.rest fs := by
  refine State.rest_weaken hfs ?_
  clear hfs fs
  simp (maxDischargeDepth := 8) [State.claimVsel]

@[simp] theorem State.addLoaded_rest {fs : Nat} (hfs : 274877906944 &&& fs = 274877906944) (s : State) (row : Nat) : (State.addLoaded s row).rest fs = s.rest fs := by
  refine State.rest_weaken hfs ?_
  clear hfs fs
  simp [State.addLoaded]

@[simp] theorem State.appRuns_rest {fs : Nat} (hfs : 276220133380 &&& fs = 276220133380) (s : State) (n : Nat) (row : Nat) : (State.appRuns s n row).rest fs = s.rest fs := by
  refine State.rest_weaken hfs ?_
  clear hfs fs
  simp [State.appRuns]

@[simp] theorem State.appLoaded_rest {fs : Nat} (hfs : 9072850028932 &&& fs = 9072850028932) (s : State) (n : Nat) : (State.appLoaded s n).rest fs = s.rest fs := by
  refine State.rest_weaken hfs ?_
  clear hfs fs
  unfold State.appLoaded
  repeat' split
  all_goals simp [*]

@[simp] theorem State.appRestart_rest {fs : Nat} (hfs : 9072581577092 &&& fs = 9072581577092) (s : State) (n : Nat) : (State.appRestart s n).rest fs = s.rest fs := by
  refine State.rest_weaken hfs ?_
  clear hfs fs
  simp [State.appRestart]

@[simp] theorem State.appEnableChanged_rest {fs : Nat} (hfs : 9072581577092 &&& fs = 9072581577092) (s : State) : (State.appEnableChanged s).rest fs = s.rest fs := by
  refine State.rest_weaken hfs ?_
  clear hfs fs
  simp (maxDischargeDepth := 8) [State.appEnableChanged]

@[simp] theorem State.switchTo_rest {fs : Nat} (hfs : 2097156 &&& fs = 2097156) (s : State) (pl : Placement) (a : Nat) (b : Nat) : (State.switchTo s pl a b).rest fs = s.rest fs := by
  refine State.rest_weaken hfs ?_
  clear hfs fs
  unfold State.switchTo
  dsimp only
  repeat' split
  all_goals simp [*]

@[simp] theorem State.switchAll_rest {fs : Nat} (hfs : 2097156 &&& fs = 2097156) (s : State) (pl : Placement) : (State.switchAll s pl).rest fs = s.rest fs := by
  refine State.rest_weaken hfs ?_
  clear hfs fs
  simp (maxDischargeDepth := 8) [State.switchAll]

@[simp] theorem State.leaveEngine_rest {fs : Nat} (hfs : 9902051524612 &&& fs = 9902051524612) (s : State) (pl : Placement) (x : Nat × Nat × Nat) : (State.leaveEngine s pl x).rest fs = s.rest fs := by
  refine State.rest_weaken hfs ?_
  clear hfs fs
  unfold State.leaveEngine
  repeat' split
  all_goals simp [*]

@[simp] theorem State.followTunnels_rest {fs : Nat} (hfs : 9899904827396 &&& fs = 9899904827396) (s : State) (n : Nat) : (State.followTunnels s n).rest fs = s.rest fs := by
  refine State.rest_weaken hfs ?_
  clear hfs fs
  simp (maxDischargeDepth := 8) [State.followTunnels]

@[simp] theorem State.applyStatics_rest {fs : Nat} (hfs : 32772 &&& fs = 32772) (s : State) (n : Nat) (rows : List Nat) : (State.applyStatics s n rows).rest fs = s.rest fs := by
  refine State.rest_weaken hfs ?_
  clear hfs fs
  simp [State.applyStatics]

@[simp] theorem State.bankStopped_rest {fs : Nat} (hfs : 9900710152196 &&& fs = 9900710152196) (s : State) (n : Nat) : (State.bankStopped s n).rest fs = s.rest fs := by
  refine State.rest_weaken hfs ?_
  clear hfs fs
  unfold State.bankStopped
  dsimp only
  repeat' split
  all_goals (try simp only [Prod.ext_iff] at *)
  all_goals (try casesm* _ ∧ _)
  all_goals subst_vars
  all_goals simp [*]

@[simp] theorem State.dieJoins_rest {fs : Nat} (hfs : 10176661801348 &&& fs = 10176661801348) (s : State) (n : Nat) : (State.dieJoins s n).rest fs = s.rest fs := by
  refine State.rest_weaken hfs ?_
  clear hfs fs
  unfold State.dieJoins
  dsimp only
  repeat' split
  all_goals simp [*]

@[simp] theorem State.applyPlacement_rest {fs : Nat} (hfs : 10178878491012 &&& fs = 10178878491012) (s : State) (pl : Placement) : (State.applyPlacement s pl).rest fs = s.rest fs := by
  refine State.rest_weaken hfs ?_
  clear hfs fs
  simp (maxDischargeDepth := 8) [State.applyPlacement]

@[simp] theorem State.placementApplied_rest {fs : Nat} (hfs : 10178878491012 &&& fs = 10178878491012) (s : State) (pl : Placement) (trigger : Nat) : (State.placementApplied s pl trigger).rest fs = s.rest fs := by
  refine State.rest_weaken hfs ?_
  clear hfs fs
  simp [State.placementApplied]

@[simp] theorem State.applyWaiting_rest {fs : Nat} (hfs : 10178878491012 &&& fs = 10178878491012) (s : State) : (State.applyWaiting s).rest fs = s.rest fs := by
  refine State.rest_weaken hfs ?_
  clear hfs fs
  unfold State.applyWaiting
  repeat' split
  all_goals simp [*]

@[simp] theorem State.saffronStart_rest {fs : Nat} (hfs : 8796697036804 &&& fs = 8796697036804) (s : State) (cause : Nat) : (State.saffronStart s cause).rest fs = s.rest fs := by
  refine State.rest_weaken hfs ?_
  clear hfs fs
  unfold State.saffronStart
  dsimp only
  repeat' split
  all_goals simp [*]

@[simp] theorem State.appendHeld_rest {fs : Nat} (hfs : 8796697044996 &&& fs = 8796697044996) (s : State) (l : List IslandEntry) : (State.appendHeld s l).rest fs = s.rest fs := by
  refine State.rest_weaken hfs ?_
  clear hfs fs
  unfold State.appendHeld
  dsimp only
  repeat' split
  all_goals (try simp only [Prod.ext_iff] at *)
  all_goals (try casesm* _ ∧ _)
  all_goals subst_vars
  all_goals simp [*]

@[simp] theorem State.saffronStop_rest {fs : Nat} (hfs : 2048 &&& fs = 2048) (s : State) : (State.saffronStop s).rest fs = s.rest fs := by
  refine State.rest_weaken hfs ?_
  clear hfs fs
  simp [State.saffronStop]

@[simp] theorem State.vcoreLow_rest {fs : Nat} (hfs : 8796898379780 &&& fs = 8796898379780) (s : State) (n : Nat) : (State.vcoreLow s n).rest fs = s.rest fs := by
  refine State.rest_weaken hfs ?_
  clear hfs fs
  unfold State.vcoreLow
  repeat' split
  all_goals simp [*]

@[simp] theorem State.vcoreHigh_rest {fs : Nat} (hfs : 268484612 &&& fs = 268484612) (s : State) (n : Nat) : (State.vcoreHigh s n).rest fs = s.rest fs := by
  refine State.rest_weaken hfs ?_
  clear hfs fs
  simp [State.vcoreHigh]

@[simp] theorem State.readmitFails_rest {fs : Nat} (hfs : 8800125044740 &&& fs = 8800125044740) (s : State) (n : Nat) (step : Nat) : (State.readmitFails s n step).rest fs = s.rest fs := by
  refine State.rest_weaken hfs ?_
  clear hfs fs
  simp [State.readmitFails]

@[simp] theorem State.dieReset_rest {fs : Nat} (hfs : 8804420012420 &&& fs = 8804420012420) (s : State) (n : Nat) : (State.dieReset s n).rest fs = s.rest fs := by
  refine State.rest_weaken hfs ?_
  clear hfs fs
  simp [State.dieReset]

@[simp] theorem State.bankClockFails_rest {fs : Nat} (hfs : 9900710152196 &&& fs = 9900710152196) (s : State) (n : Nat) : (State.bankClockFails s n).rest fs = s.rest fs := by
  refine State.rest_weaken hfs ?_
  clear hfs fs
  unfold State.bankClockFails
  repeat' split
  all_goals simp [*]

@[simp] theorem State.bankClockBack_rest {fs : Nat} (hfs : 9900173279236 &&& fs = 9900173279236) (s : State) (n : Nat) : (State.bankClockBack s n).rest fs = s.rest fs := by
  refine State.rest_weaken hfs ?_
  clear hfs fs
  unfold State.bankClockBack
  repeat' split
  all_goals simp (maxDischargeDepth := 8) [*]

@[simp] theorem State.rewritePort_rest {fs : Nat} (hfs : 9899904827396 &&& fs = 9899904827396) (s : State) (slot : Nat) : (State.rewritePort s slot).rest fs = s.rest fs := by
  refine State.rest_weaken hfs ?_
  clear hfs fs
  simp [State.rewritePort]

@[simp] theorem State.configParity_rest {fs : Nat} (hfs : 9900710152196 &&& fs = 9900710152196) (s : State) (slot : Nat) : (State.configParity s slot).rest fs = s.rest fs := by
  refine State.rest_weaken hfs ?_
  clear hfs fs
  unfold State.configParity
  dsimp only
  repeat' split
  all_goals simp [*]

@[simp] theorem State.parityCleared_rest {fs : Nat} (hfs : 9900173279236 &&& fs = 9900173279236) (s : State) (slot : Nat) : (State.parityCleared s slot).rest fs = s.rest fs := by
  refine State.rest_weaken hfs ?_
  clear hfs fs
  unfold State.parityCleared
  repeat' split
  all_goals simp [*]

@[simp] theorem State.discardCopy_rest {fs : Nat} (hfs : 9900441716740 &&& fs = 9900441716740) (s : State) (cls : Nat) (n : Nat) (unit : Nat) : (State.discardCopy s cls n unit).rest fs = s.rest fs := by
  refine State.rest_weaken hfs ?_
  clear hfs fs
  unfold State.discardCopy
  dsimp only
  repeat' split
  all_goals simp [*]

@[simp] theorem State.tableDamaged_rest {fs : Nat} (hfs : 8796898379780 &&& fs = 8796898379780) (s : State) (n : Nat) (word : Nat) : (State.tableDamaged s n word).rest fs = s.rest fs := by
  refine State.rest_weaken hfs ?_
  clear hfs fs
  simp [State.tableDamaged]

@[simp] theorem State.runtimeFails_rest {fs : Nat} (hfs : 8797972121988 &&& fs = 8797972121988) (s : State) (n : Nat) : (State.runtimeFails s n).rest fs = s.rest fs := by
  refine State.rest_weaken hfs ?_
  clear hfs fs
  unfold State.runtimeFails
  repeat' split
  all_goals simp [*]

@[simp] theorem State.appMismatch_rest {fs : Nat} (hfs : 9072850028932 &&& fs = 9072850028932) (s : State) (n : Nat) : (State.appMismatch s n).rest fs = s.rest fs := by
  refine State.rest_weaken hfs ?_
  clear hfs fs
  unfold State.appMismatch
  repeat' split
  all_goals simp [*]

@[simp] theorem State.lanesLost_rest {fs : Nat} (hfs : 14298756663300 &&& fs = 14298756663300) (s : State) (n : Nat) (unit : Nat) : (State.lanesLost s n unit).rest fs = s.rest fs := by
  refine State.rest_weaken hfs ?_
  clear hfs fs
  simp [State.lanesLost]

@[simp] theorem State.engineFails_rest {fs : Nat} (hfs : 8796898379780 &&& fs = 8796898379780) (s : State) (unit : Nat) : (State.engineFails s unit).rest fs = s.rest fs := by
  refine State.rest_weaken hfs ?_
  clear hfs fs
  simp [State.engineFails]

@[simp] theorem State.securityCoreFails_rest {fs : Nat} (hfs : 8865617857932 &&& fs = 8865617857932) (s : State) : (State.securityCoreFails s).rest fs = s.rest fs := by
  refine State.rest_weaken hfs ?_
  clear hfs fs
  unfold State.securityCoreFails
  repeat' split
  all_goals simp [*]

@[simp] theorem State.supervisorStops_rest {fs : Nat} (hfs : 8796898379780 &&& fs = 8796898379780) (s : State) : (State.supervisorStops s).rest fs = s.rest fs := by
  refine State.rest_weaken hfs ?_
  clear hfs fs
  unfold State.supervisorStops
  repeat' split
  all_goals simp [*]

@[simp] theorem State.mramDamaged_rest {fs : Nat} (hfs : 9088754812932 &&& fs = 9088754812932) (s : State) (unit : Nat) : (State.mramDamaged s unit).rest fs = s.rest fs := by
  refine State.rest_weaken hfs ?_
  clear hfs fs
  unfold State.mramDamaged
  dsimp only
  repeat' split
  all_goals (try simp only [Prod.ext_iff] at *)
  all_goals (try casesm* _ ∧ _)
  all_goals subst_vars
  all_goals simp [*]

@[simp] theorem State.sramDamaged_rest {fs : Nat} (hfs : 1610612736 &&& fs = 1610612736) (s : State) (n : Nat) (addr : Nat) : (State.sramDamaged s n addr).rest fs = s.rest fs := by
  refine State.rest_weaken hfs ?_
  clear hfs fs
  simp [State.sramDamaged]

@[simp] theorem State.faultOn_rest {fs : Nat} (hfs : 14662823300492 &&& fs = 14662823300492) (s : State) (cls : Nat) (n : Nat) (unit : Nat) : (State.faultOn s cls n unit).rest fs = s.rest fs := by
  refine State.rest_weaken hfs ?_
  clear hfs fs
  simp [State.faultOn]

@[simp] theorem State.flushLane0_rest {fs : Nat} (hfs : 8796629944324 &&& fs = 8796629944324) (s : State) (n : Nat) : (State.flushLane0 s n).rest fs = s.rest fs := by
  refine State.rest_weaken hfs ?_
  clear hfs fs
  simp [State.flushLane0]

@[simp] theorem State.leaveIsolated_rest {fs : Nat} (hfs : 8796898379780 &&& fs = 8796898379780) (s : State) (n : Nat) : (State.leaveIsolated s n).rest fs = s.rest fs := by
  refine State.rest_weaken hfs ?_
  clear hfs fs
  simp [State.leaveIsolated]

@[simp] theorem State.reported_rest {fs : Nat} (hfs : 14662823300492 &&& fs = 14662823300492) (s : State) (n : Nat) (x2 : HealthReport) : (State.reported s n x2).rest fs = s.rest fs := by
  refine State.rest_weaken hfs ?_
  clear hfs fs
  unfold State.reported
  repeat' split
  all_goals simp [*]

@[simp] theorem State.takeReport_rest {fs : Nat} (hfs : 14662823300492 &&& fs = 14662823300492) (s : State) (n : Nat) (r : HealthReport) : (State.takeReport s n r).rest fs = s.rest fs := by
  refine State.rest_weaken hfs ?_
  clear hfs fs
  unfold State.takeReport
  repeat' split
  all_goals simp [*]

@[simp] theorem State.readmitDie_rest {fs : Nat} (hfs : 4032020484 &&& fs = 4032020484) (s : State) (n : Nat) : (State.readmitDie s n).rest fs = s.rest fs := by
  refine State.rest_weaken hfs ?_
  clear hfs fs
  simp [State.readmitDie]

@[simp] theorem State.redSeeded_rest {fs : Nat} (hfs : 4398046543872 &&& fs = 4398046543872) (s : State) (n : Nat) : (State.redSeeded s n).rest fs = s.rest fs := by
  refine State.rest_weaken hfs ?_
  clear hfs fs
  simp [State.redSeeded]

@[simp] theorem State.readmitted_rest {fs : Nat} (hfs : 1342226436 &&& fs = 1342226436) (s : State) (n : Nat) : (State.readmitted s n).rest fs = s.rest fs := by
  refine State.rest_weaken hfs ?_
  clear hfs fs
  simp [State.readmitted]

@[simp] theorem State.runtimeBack_rest {fs : Nat} (hfs : 9900173279236 &&& fs = 9900173279236) (s : State) (n : Nat) : (State.runtimeBack s n).rest fs = s.rest fs := by
  refine State.rest_weaken hfs ?_
  clear hfs fs
  simp [State.runtimeBack]

@[simp] theorem State.rewriteTable_rest {fs : Nat} (hfs : 268484612 &&& fs = 268484612) (s : State) (n : Nat) (table : Nat) : (State.rewriteTable s n table).rest fs = s.rest fs := by
  refine State.rest_weaken hfs ?_
  clear hfs fs
  simp [State.rewriteTable]

@[simp] theorem State.holdEvent_rest {fs : Nat} (hfs : 8196 &&& fs = 8196) (s : State) (type : Nat) (unit : Nat) (payload : Bytes) : (State.holdEvent s type unit payload).rest fs = s.rest fs := by
  refine State.rest_weaken hfs ?_
  clear hfs fs
  unfold State.holdEvent
  dsimp only
  repeat' split
  all_goals simp [*]

@[simp] theorem State.islandEvent_rest {fs : Nat} (hfs : 43012 &&& fs = 43012) (s : State) (type : Nat) (unit : Nat) (payload : Bytes) : (State.islandEvent s type unit payload).rest fs = s.rest fs := by
  refine State.rest_weaken hfs ?_
  clear hfs fs
  unfold State.islandEvent
  repeat' split
  all_goals simp [*]

@[simp] theorem State.abortEntry_rest {fs : Nat} (hfs : 8796097320964 &&& fs = 8796097320964) (s : State) (code : Nat) (detail : Nat) : (State.abortEntry s code detail).rest fs = s.rest fs := by
  refine State.rest_weaken hfs ?_
  clear hfs fs
  simp (maxDischargeDepth := 8) [State.abortEntry]

@[simp] theorem State.beginReturn_rest {fs : Nat} (hfs : 12292 &&& fs = 12292) (s : State) (code : Nat) (detail : Nat) (port : Nat) : (State.beginReturn s code detail port).rest fs = s.rest fs := by
  refine State.rest_weaken hfs ?_
  clear hfs fs
  simp [State.beginReturn]

@[simp] theorem State.wakeEvent_rest {fs : Nat} (hfs : 8796097329156 &&& fs = 8796097329156) (s : State) (code : Nat) (detail : Nat) (port : Nat) : (State.wakeEvent s code detail port).rest fs = s.rest fs := by
  refine State.rest_weaken hfs ?_
  clear hfs fs
  unfold State.wakeEvent
  repeat' split
  all_goals simp [*]

@[simp] theorem State.wakeOn_rest {fs : Nat} (hfs : 8796097329156 &&& fs = 8796097329156) (s : State) (standby : Bool) (enabled : Bool) (code : Nat) (detail : Nat) (port : Nat) : (State.wakeOn s standby enabled code detail port).rest fs = s.rest fs := by
  refine State.rest_weaken hfs ?_
  clear hfs fs
  simp [State.wakeOn]

theorem State.onCanSlot_rest {fs : Nat} (hfs : 2199023271936 &&& fs = 2199023271936) (s : State) (slot : Nat) (t : State) (ht : t.rest fs = s.rest fs) {t0 : State} (h0 : s.onCanSlot slot t = .next t0) :
    t0.rest fs = s.rest fs := by
  unfold State.onCanSlot at h0
  refine doneIf_rest (covers_trans hfs (by decide)) _ _ _ ?_ h0
  rw [ht]

@[simp] theorem State.decoderFrame_rest {fs : Nat} (hfs : 8796097329156 &&& fs = 8796097329156) (s : State) (slot : Nat) (f : Frame) (err : Bool) : (State.decoderFrame s slot f err).rest fs = s.rest fs := by
  refine State.rest_weaken hfs ?_
  clear hfs fs
  unfold State.decoderFrame
  repeat' split
  all_goals simp [*]

@[simp] theorem State.takeWakeReport_rest {fs : Nat} (hfs : 8796097329156 &&& fs = 8796097329156) (s : State) (slot : Nat) (pattern : Nat) : (State.takeWakeReport s slot pattern).rest fs = s.rest fs := by
  refine State.rest_weaken hfs ?_
  clear hfs fs
  unfold State.takeWakeReport
  repeat' split
  all_goals simp [*]

@[simp] theorem State.tamperEvent_rest {fs : Nat} (hfs : 8796634200068 &&& fs = 8796634200068) (s : State) (loop : Nat) (ev : Nat) : (State.tamperEvent s loop ev).rest fs = s.rest fs := by
  refine State.rest_weaken hfs ?_
  clear hfs fs
  unfold State.tamperEvent
  dsimp only
  repeat' split
  all_goals simp [*]

@[simp] theorem State.tamperLook_rest {fs : Nat} (hfs : 8796634200068 &&& fs = 8796634200068) (s : State) (loop : Nat) (b : Bool) : (State.tamperLook s loop b).rest fs = s.rest fs := by
  refine State.rest_weaken hfs ?_
  clear hfs fs
  simp [State.tamperLook]

@[simp] theorem State.setMi_rest {fs : Nat} (hfs : 137438953472 &&& fs = 137438953472) (s : State) (i : Nat) (x : MiInput) : (State.setMi s i x).rest fs = s.rest fs := by
  refine State.rest_weaken hfs ?_
  clear hfs fs
  simp [State.setMi]

@[simp] theorem State.setSpd_rest {fs : Nat} (hfs : 137438953472 &&& fs = 137438953472) (s : State) (k : Nat) (x : SpdInput) : (State.setSpd s k x).rest fs = s.rest fs := by
  refine State.rest_weaken hfs ?_
  clear hfs fs
  simp [State.setSpd]

@[simp] theorem State.miSet_rest {fs : Nat} (hfs : 4 &&& fs = 4) (s : State) (i : Nat) (v : Nat) : (State.miSet s i v).rest fs = s.rest fs := by
  refine State.rest_weaken hfs ?_
  clear hfs fs
  simp [State.miSet]

@[simp] theorem State.diagEvent_rest {fs : Nat} (hfs : 8796629936132 &&& fs = 8796629936132) (s : State) (i : Nat) (code : Nat) (on : Bool) : (State.diagEvent s i code on).rest fs = s.rest fs := by
  refine State.rest_weaken hfs ?_
  clear hfs fs
  unfold State.diagEvent
  dsimp only
  repeat' split
  all_goals simp [*]

@[simp] theorem State.miLook_rest {fs : Nat} (hfs : 8934068889604 &&& fs = 8934068889604) (s : State) (i : Nat) (code : Nat) (obs : Bool) (need : Nat) (span : Nat) : (State.miLook s i code obs need span).rest fs = s.rest fs := by
  refine State.rest_weaken hfs ?_
  clear hfs fs
  simp [State.miLook]

@[simp] theorem State.miDiagnose_rest {fs : Nat} (hfs : 8934068889604 &&& fs = 8934068889604) (s : State) (i : Nat) (v : Int) : (State.miDiagnose s i v).rest fs = s.rest fs := by
  refine State.rest_weaken hfs ?_
  clear hfs fs
  simp [State.miDiagnose]

@[simp] theorem State.miDigital_rest {fs : Nat} (hfs : 8933536282628 &&& fs = 8933536282628) (s : State) (i : Nat) : (State.miDigital s i).rest fs = s.rest fs := by
  refine State.rest_weaken hfs ?_
  clear hfs fs
  simp [State.miDigital]

@[simp] theorem State.miCompare_rest {fs : Nat} (hfs : 8933536282628 &&& fs = 8933536282628) (s : State) (i : Nat) (level : Bool) : (State.miCompare s i level).rest fs = s.rest fs := by
  refine State.rest_weaken hfs ?_
  clear hfs fs
  unfold State.miCompare
  dsimp only
  repeat' split
  all_goals simp [*]

@[simp] theorem State.miAnalog_rest {fs : Nat} (hfs : 137438953476 &&& fs = 137438953476) (s : State) (i : Nat) : (State.miAnalog s i).rest fs = s.rest fs := by
  refine State.rest_weaken hfs ?_
  clear hfs fs
  unfold State.miAnalog
  dsimp only
  repeat' split
  all_goals simp [*]

@[simp] theorem State.miConvert_rest {fs : Nat} (hfs : 8934073153540 &&& fs = 8934073153540) (s : State) (i : Nat) (v : Int) : (State.miConvert s i v).rest fs = s.rest fs := by
  refine State.rest_weaken hfs ?_
  clear hfs fs
  unfold State.miConvert
  dsimp only
  repeat' split
  all_goals simp [*]

@[simp] theorem State.miEdge_rest {fs : Nat} (hfs : 8933536282628 &&& fs = 8933536282628) (s : State) (i : Nat) (rising : Bool) : (State.miEdge s i rising).rest fs = s.rest fs := by
  refine State.rest_weaken hfs ?_
  clear hfs fs
  unfold State.miEdge
  dsimp only
  repeat' split
  all_goals simp [*]

@[simp] theorem State.miGate_rest {fs : Nat} (hfs : 137438953476 &&& fs = 137438953476) (s : State) (i : Nat) : (State.miGate s i).rest fs = s.rest fs := by
  refine State.rest_weaken hfs ?_
  clear hfs fs
  unfold State.miGate
  dsimp only
  repeat' split
  all_goals simp [*]

@[simp] theorem State.spdValues_rest {fs : Nat} (hfs : 4 &&& fs = 4) (s : State) (k : Nat) (m : Nat) (span : Nat) : (State.spdValues s k m span).rest fs = s.rest fs := by
  refine State.rest_weaken hfs ?_
  clear hfs fs
  simp [State.spdValues]

@[simp] theorem State.spdReverse_rest {fs : Nat} (hfs : 8934068881412 &&& fs = 8934068881412) (s : State) (k : Nat) : (State.spdReverse s k).rest fs = s.rest fs := by
  refine State.rest_weaken hfs ?_
  clear hfs fs
  simp [State.spdReverse]

@[simp] theorem State.spdEdge_rest {fs : Nat} (hfs : 8934068881412 &&& fs = 8934068881412) (s : State) (k : Nat) (highTicks : Nat) : (State.spdEdge s k highTicks).rest fs = s.rest fs := by
  refine State.rest_weaken hfs ?_
  clear hfs fs
  unfold State.spdEdge
  dsimp only
  repeat' split
  all_goals simp [*]

@[simp] theorem State.spdDecelerate_rest {fs : Nat} (hfs : 4 &&& fs = 4) (s : State) (k : Nat) : (State.spdDecelerate s k).rest fs = s.rest fs := by
  refine State.rest_weaken hfs ?_
  clear hfs fs
  unfold State.spdDecelerate
  dsimp only
  repeat' split
  all_goals simp [*]

@[simp] theorem State.spdStandstill_rest {fs : Nat} (hfs : 137438953476 &&& fs = 137438953476) (s : State) (k : Nat) : (State.spdStandstill s k).rest fs = s.rest fs := by
  refine State.rest_weaken hfs ?_
  clear hfs fs
  simp [State.spdStandstill]

@[simp] theorem State.spdOpen_rest {fs : Nat} (hfs : 137438953476 &&& fs = 137438953476) (s : State) (k : Nat) (absent : Bool) : (State.spdOpen s k absent).rest fs = s.rest fs := by
  refine State.rest_weaken hfs ?_
  clear hfs fs
  simp [State.spdOpen]

@[simp] theorem State.storeDistance_rest {fs : Nat} (hfs : 67108864 &&& fs = 67108864) (s : State) : (State.storeDistance s).rest fs = s.rest fs := by
  refine State.rest_weaken hfs ?_
  clear hfs fs
  simp [State.storeDistance]

@[simp] theorem State.resetDistance_rest {fs : Nat} (hfs : 137438988288 &&& fs = 137438988288) (s : State) (k : Nat) : (State.resetDistance s k).rest fs = s.rest fs := by
  refine State.rest_weaken hfs ?_
  clear hfs fs
  simp [State.resetDistance]

@[simp] theorem State.vbatConvert_rest {fs : Nat} (hfs : 137438953476 &&& fs = 137438953476) (s : State) (v : Int) : (State.vbatConvert s v).rest fs = s.rest fs := by
  refine State.rest_weaken hfs ?_
  clear hfs fs
  unfold State.vbatConvert
  dsimp only
  repeat' split
  all_goals simp [*]

@[simp] theorem State.storeFreshness_rest {fs : Nat} (hfs : 67108864 &&& fs = 67108864) (s : State) : (State.storeFreshness s).rest fs = s.rest fs := by
  refine State.rest_weaken hfs ?_
  clear hfs fs
  simp [State.storeFreshness]

@[simp] theorem State.setRule_rest {fs : Nat} (hfs : 137438953472 &&& fs = 137438953472) (s : State) (row : Nat) (r : RuleSt) : (State.setRule s row r).rest fs = s.rest fs := by
  refine State.rest_weaken hfs ?_
  clear hfs fs
  simp [State.setRule]

@[simp] theorem State.ruleTo_rest {fs : Nat} (hfs : 137506062340 &&& fs = 137506062340) (s : State) (row : Nat) (state : Nat) (timer : Bool) : (State.ruleTo s row state timer).rest fs = s.rest fs := by
  refine State.rest_weaken hfs ?_
  clear hfs fs
  unfold State.ruleTo
  dsimp only
  repeat' split
  all_goals simp [*]

@[simp] theorem State.placeBlock_rest {fs : Nat} (hfs : 4194304 &&& fs = 4194304) (s : State) (row : Nat) (slot : Nat) : (State.placeBlock s row slot).rest fs = s.rest fs := by
  refine State.rest_weaken hfs ?_
  clear hfs fs
  simp [State.placeBlock]

@[simp] theorem State.liftBlock_rest {fs : Nat} (hfs : 4194304 &&& fs = 4194304) (s : State) (row : Nat) : (State.liftBlock s row).rest fs = s.rest fs := by
  refine State.rest_weaken hfs ?_
  clear hfs fs
  simp [State.liftBlock]

@[simp] theorem State.ruleFires_rest {fs : Nat} (hfs : 8934140184580 &&& fs = 8934140184580) (s : State) (row : Nat) : (State.ruleFires s row).rest fs = s.rest fs := by
  refine State.rest_weaken hfs ?_
  clear hfs fs
  simp [State.ruleFires]

@[simp] theorem State.ruleReleases_rest {fs : Nat} (hfs : 8934140184580 &&& fs = 8934140184580) (s : State) (row : Nat) : (State.ruleReleases s row).rest fs = s.rest fs := by
  refine State.rest_weaken hfs ?_
  clear hfs fs
  simp [State.ruleReleases]

@[simp] theorem State.ruleMove_rest {fs : Nat} (hfs : 8934140184580 &&& fs = 8934140184580) (s : State) (row : Nat) (v : RuleVerdict) (expired : Bool) : (State.ruleMove s row v expired).rest fs = s.rest fs := by
  refine State.rest_weaken hfs ?_
  clear hfs fs
  unfold State.ruleMove
  dsimp only
  repeat' split
  all_goals simp [*]

@[simp] theorem State.evalRule_rest {fs : Nat} (hfs : 8934140184580 &&& fs = 8934140184580) (s : State) (row : Nat) (expired : Bool) : (State.evalRule s row expired).rest fs = s.rest fs := by
  refine State.rest_weaken hfs ?_
  clear hfs fs
  simp [State.evalRule]

@[simp] theorem State.evalReading_rest {fs : Nat} (hfs : 8934140184580 &&& fs = 8934140184580) (s : State) (codes : List Nat) : (State.evalReading s codes).rest fs = s.rest fs := by
  refine State.rest_weaken hfs ?_
  clear hfs fs
  unfold State.evalReading
  repeat' split
  all_goals simp [*]

theorem State.onInput_rest {fs : Nat} (hfs : 2199023271936 &&& fs = 2199023271936) (s : State) (limit i : Nat) (on : Bool) (f : State → State) (hf : ∀ s, (f s).rest fs = s.rest fs) {t0 : State}
    (h0 : s.onInput limit i on f = .next t0) : t0.rest fs = s.rest fs := by
  unfold State.onInput at h0
  refine doneIf_rest (covers_trans hfs (by decide)) _ _ _ ?_ h0
  rw [State.when_rest _ _ _ hf]

@[simp] theorem State.takeTap_rest {fs : Nat} (hfs : 8934140184580 &&& fs = 8934140184580) (s : State) (row : Nat) (v : Nat × Nat × Nat) : (State.takeTap s row v).rest fs = s.rest fs := by
  refine State.rest_weaken hfs ?_
  clear hfs fs
  unfold State.takeTap
  dsimp only
  repeat' split
  all_goals simp [*]

@[simp] theorem State.tapFrom_rest {fs : Nat} (hfs : 8934140184580 &&& fs = 8934140184580) (s : State) (n : Nat) : (State.tapFrom s n).rest fs = s.rest fs := by
  refine State.rest_weaken hfs ?_
  clear hfs fs
  unfold State.tapFrom
  repeat' split
  all_goals simp [*]

@[simp] theorem State.takeRequest_rest {fs : Nat} (hfs : 34816 &&& fs = 34816) (s : State) (n : Nat) : (State.takeRequest s n).rest fs = s.rest fs := by
  refine State.rest_weaken hfs ?_
  clear hfs fs
  unfold State.takeRequest
  repeat' split
  all_goals simp [*]

@[simp] theorem State.appendNext_rest {fs : Nat} (hfs : 8796697036804 &&& fs = 8796697036804) (s : State) : (State.appendNext s).rest fs = s.rest fs := by
  refine State.rest_weaken hfs ?_
  clear hfs fs
  unfold State.appendNext
  repeat' split
  all_goals simp [*]

@[simp] theorem State.sendTable_rest {fs : Nat} (hfs : 34816 &&& fs = 34816) (s : State) (src : Nat) : (State.sendTable s src).rest fs = s.rest fs := by
  refine State.rest_weaken hfs ?_
  clear hfs fs
  unfold State.sendTable
  repeat' split
  all_goals simp [*]

@[simp] theorem State.nextTreeReady_rest {fs : Nat} (hfs : 8796697036800 &&& fs = 8796697036800) (s : State) : (State.nextTreeReady s).rest fs = s.rest fs := by
  refine State.rest_weaken hfs ?_
  clear hfs fs
  unfold State.nextTreeReady
  repeat' split
  all_goals simp [*]

@[simp] theorem State.activeTreeReady_rest {fs : Nat} (hfs : 8796697036800 &&& fs = 8796697036800) (s : State) : (State.activeTreeReady s).rest fs = s.rest fs := by
  refine State.rest_weaken hfs ?_
  clear hfs fs
  unfold State.activeTreeReady
  repeat' split
  all_goals simp [*]

@[simp] theorem State.evCommand_rest {fs : Nat} (hfs : 8796629927936 &&& fs = 8796629927936) (s : State) (words : List Word) (f : Evidence → Evidence) : (State.evCommand s words f).rest fs = s.rest fs := by
  refine State.rest_weaken hfs ?_
  clear hfs fs
  unfold State.evCommand
  repeat' split
  all_goals simp [*]

@[simp] theorem State.fetchComplete_rest {fs : Nat} (hfs : 8796697036804 &&& fs = 8796697036804) (s : State) : (s.fetchComplete).rest fs = s.rest fs := by
  refine State.rest_weaken hfs ?_
  clear hfs fs
  unfold State.fetchComplete
  split
  · rfl
  · split
    · split
      · exact State.updEv_rest (fs := 8796697036804) (by decide) _ _
      · exact (State.updEv_rest (fs := 8796697036804) (by decide) _ _).trans (State.damagedEntry_rest (fs := 8796697036804) (by decide) _ _)
    · exact State.updEv_rest (fs := 8796697036804) (by decide) _ _
  · split
    · exact State.updEv_rest (fs := 8796697036804) (by decide) _ _
    · exact State.updEv_rest (fs := 8796697036804) (by decide) _ _

@[simp] theorem State.evTransfer_rest {fs : Nat} (hfs : 8796697036804 &&& fs = 8796697036804) (s : State) (w : Word) (args : List Word) (n : Nat) : (State.evTransfer s w args n).rest fs = s.rest fs := by
  refine State.rest_weaken hfs ?_
  clear hfs fs
  unfold State.evTransfer
  dsimp only
  repeat' split
  all_goals (try simp only [Prod.ext_iff] at *)
  all_goals (try casesm* _ ∧ _)
  all_goals subst_vars
  all_goals simp [*]

@[simp] theorem State.timeRecord_rest {fs : Nat} (hfs : 34816 &&& fs = 34816) (s : State) (code : Nat) (before : Nat) (after : Nat) : (State.timeRecord s code before after).rest fs = s.rest fs := by
  refine State.rest_weaken hfs ?_
  clear hfs fs
  simp [State.timeRecord]

@[simp] theorem State.gptpChange_rest {fs : Nat} (hfs : 4398046545922 &&& fs = 4398046545922) (s : State) (c : GptpChange) : (State.gptpChange s c).rest fs = s.rest fs := by
  refine State.rest_weaken hfs ?_
  clear hfs fs
  unfold State.gptpChange
  repeat' split
  all_goals simp [*]

@[simp] theorem State.purgeKeys_rest {fs : Nat} (hfs : 17179869184 &&& fs = 17179869184) (s : State) : (State.purgeKeys s).rest fs = s.rest fs := by
  refine State.rest_weaken hfs ?_
  clear hfs fs
  simp [State.purgeKeys]

@[simp] theorem State.eraseRecords_rest {fs : Nat} (hfs : 17179904000 &&& fs = 17179904000) (s : State) (p : KeyRecord → Bool) : (State.eraseRecords s p).rest fs = s.rest fs := by
  refine State.rest_weaken hfs ?_
  clear hfs fs
  simp [State.eraseRecords]

@[simp] theorem State.flushQueue_rest {fs : Nat} (hfs : 8796697036804 &&& fs = 8796697036804) (s : State) : (State.flushQueue s).rest fs = s.rest fs := by
  refine State.rest_weaken hfs ?_
  clear hfs fs
  simp [State.flushQueue]

@[simp] theorem State.lifeRecord_rest {fs : Nat} (hfs : 8796697036804 &&& fs = 8796697036804) (s : State) (before : Nat) (after : Nat) (copies : Nat) (ap : Nat) (level : Nat) : (State.lifeRecord s before after copies ap level).rest fs = s.rest fs := by
  refine State.rest_weaken hfs ?_
  clear hfs fs
  simp [State.lifeRecord]

@[simp] theorem State.lifeGo_rest {fs : Nat} (hfs : 8916956121484 &&& fs = 8916956121484) (s : State) (dst : Nat) (ap : Nat) (level : Nat) : (State.lifeGo s dst ap level).rest fs = s.rest fs := by
  refine State.rest_weaken hfs ?_
  clear hfs fs
  unfold State.lifeGo
  repeat' split
  all_goals simp [*]

@[simp] theorem State.lifeStart_rest {fs : Nat} (hfs : 8916956121484 &&& fs = 8916956121484) (s : State) (dst : Nat) (ap : Nat) (level : Nat) : (State.lifeStart s dst ap level).rest fs = s.rest fs := by
  refine State.rest_weaken hfs ?_
  clear hfs fs
  unfold State.lifeStart
  repeat' split
  all_goals simp [*]

@[simp] theorem State.serviceOver_rest {fs : Nat} (hfs : 8916956121484 &&& fs = 8916956121484) (s : State) : (State.serviceOver s).rest fs = s.rest fs := by
  refine State.rest_weaken hfs ?_
  clear hfs fs
  simp [State.serviceOver]

@[simp] theorem State.serviceMissed_rest {fs : Nat} (hfs : 8916956121484 &&& fs = 8916956121484) (s : State) : (State.serviceMissed s).rest fs = s.rest fs := by
  refine State.rest_weaken hfs ?_
  clear hfs fs
  unfold State.serviceMissed
  dsimp only
  repeat' split
  all_goals (try simp only [Prod.ext_iff] at *)
  all_goals (try casesm* _ ∧ _)
  all_goals subst_vars
  all_goals simp [*]

@[simp] theorem State.securityCoreBack_rest {fs : Nat} (hfs : 8917224581516 &&& fs = 8917224581516) (s : State) : (State.securityCoreBack s).rest fs = s.rest fs := by
  refine State.rest_weaken hfs ?_
  clear hfs fs
  unfold State.securityCoreBack
  repeat' split
  all_goals simp [*]

@[simp] theorem State.lifeSealed_rest {fs : Nat} (hfs : 8916956121484 &&& fs = 8916956121484) (s : State) : (State.lifeSealed s).rest fs = s.rest fs := by
  refine State.rest_weaken hfs ?_
  clear hfs fs
  unfold State.lifeSealed
  repeat' split
  all_goals simp [*]

@[simp] theorem State.requestLife_rest {fs : Nat} (hfs : 4466765987840 &&& fs = 4466765987840) (s : State) (sess : Nat) (target : Nat) : (State.requestLife s sess target).1.rest fs = s.rest fs := by
  refine State.rest_weaken hfs ?_
  clear hfs fs
  unfold State.requestLife
  repeat' split
  all_goals simp [*]

@[simp] theorem State.confirmLife_rest {fs : Nat} (hfs : 8916956121484 &&& fs = 8916956121484) (s : State) (sess : Nat) (token : Nat) : (State.confirmLife s sess token).1.rest fs = s.rest fs := by
  refine State.rest_weaken hfs ?_
  clear hfs fs
  unfold State.confirmLife
  dsimp only
  repeat' split
  all_goals simp [*]

@[simp] theorem State.openChain_rest {fs : Nat} (hfs : 2048 &&& fs = 2048) (s : State) : (State.openChain s).rest fs = s.rest fs := by
  refine State.rest_weaken hfs ?_
  clear hfs fs
  simp [State.openChain]

@[simp] theorem State.provision_rest {fs : Nat} (hfs : 13297822763404 &&& fs = 13297822763404) (s : State) (roots : Bytes) (ap : Nat) (level : Nat) : (State.provision s roots ap level).rest fs = s.rest fs := by
  refine State.rest_weaken hfs ?_
  clear hfs fs
  simp [State.provision]

@[simp] theorem State.provisionWrite_rest {fs : Nat} (hfs : 13297822763404 &&& fs = 13297822763404) (s : State) (sess : Nat) (b : Bytes) : (State.provisionWrite s sess b).1.rest fs = s.rest fs := by
  refine State.rest_weaken hfs ?_
  clear hfs fs
  unfold State.provisionWrite
  dsimp only
  repeat' split
  all_goals simp [*]

@[simp] theorem State.setLive_rest {fs : Nat} (hfs : 8 &&& fs = 8) (s : State) (sess : Nat) (e : Nat) (v : Nat) : (State.setLive s sess e v).rest fs = s.rest fs := by
  refine State.rest_weaken hfs ?_
  clear hfs fs
  simp [State.setLive]

@[simp] theorem State.wrap_rest {fs : Nat} (hfs : 4415226380288 &&& fs = 4415226380288) (s : State) (slot : Nat) (r : KeyRecord) (key : Bytes) : (State.wrap s slot r key).rest fs = s.rest fs := by
  refine State.rest_weaken hfs ?_
  clear hfs fs
  simp [State.wrap]

theorem State.derive_rest {fs : Nat} (hfs : 4415226380288 &&& fs = 4415226380288) (s : State) (c : KeyCmd) {t0 : State} (h0 : (State.derive s c) = some t0) : t0.rest fs = s.rest fs := by
  refine State.rest_weaken hfs ?_
  clear hfs fs
  unfold State.derive at h0
  dsimp only at h0
  repeat' (split at h0)
  all_goals first | (simp only [Option.some.injEq] at h0; subst h0; simp; done) | (simp at h0; done)

theorem State.importKey_rest {fs : Nat} (hfs : 4415226380288 &&& fs = 4415226380288) (s : State) (c : KeyCmd) (blob : Bytes) {t0 : State} (h0 : (State.importKey s c blob) = some t0) : t0.rest fs = s.rest fs := by
  refine State.rest_weaken hfs ?_
  clear hfs fs
  unfold State.importKey at h0
  dsimp only at h0
  repeat' (split at h0)
  all_goals first | (simp only [Option.some.injEq] at h0; subst h0; simp; done) | (simp at h0; done)

theorem State.invalidate_rest {fs : Nat} (hfs : 4483945857420 &&& fs = 4483945857420) (s : State) (c : KeyCmd) {t0 : State} (h0 : (State.invalidate s c) = some t0) : t0.rest fs = s.rest fs := by
  refine State.rest_weaken hfs ?_
  clear hfs fs
  unfold State.invalidate at h0
  dsimp only at h0
  repeat' (split at h0)
  all_goals first | (simp only [Option.some.injEq] at h0; subst h0; simp; done) | (simp at h0; done)

@[simp] theorem State.eraseKey_rest {fs : Nat} (hfs : 17179869184 &&& fs = 17179869184) (s : State) (c : KeyCmd) : (State.eraseKey s c).rest fs = s.rest fs := by
  refine State.rest_weaken hfs ?_
  clear hfs fs
  simp [State.eraseKey]

@[simp] theorem State.keyOpDone_rest {fs : Nat} (hfs : 17179904008 &&& fs = 17179904008) (s t : State) (sess op : Nat) (c : KeyCmd) : (s.keyOpDone t sess op c).rest fs = t.rest fs := by
  refine State.rest_weaken hfs ?_
  clear hfs fs
  simp [State.keyOpDone]

theorem State.keyOpRun_rest {fs : Nat} (hfs : 4483945857420 &&& fs = 4483945857420) (s : State) (sess op : Nat) (c : KeyCmd) {t0 : State} (h0 : s.keyOpRun sess op c = some t0) : t0.rest fs = s.rest fs := by
  refine State.rest_weaken hfs ?_
  clear hfs fs
  unfold State.keyOpRun at h0
  split at h0
  · exact State.derive_rest (fs := 4483945857420) (by decide) _ _ h0
  · exact State.importKey_rest (fs := 4483945857420) (by decide) _ _ _ h0
  · exact State.invalidate_rest (fs := 4483945857420) (by decide) _ _ h0
  · cases h0; simp

@[simp] theorem State.keyOp_rest {fs : Nat} (hfs : 4483945892236 &&& fs = 4483945892236) (s : State) (sess op : Nat) : (s.keyOp sess op).1.rest fs = s.rest fs := by
  refine State.rest_weaken hfs ?_
  clear hfs fs
  unfold State.keyOp
  repeat' split
  all_goals first
    | (rename_i h; have h := State.keyOpRun_rest (fs := 4483945892236) (by decide) _ _ _ _ h; simp [h]; done)
    | simp

@[simp] theorem State.attestRefused_rest {fs : Nat} (hfs : 4 &&& fs = 4) (s : State) (status : Nat) : (State.attestRefused s status).1.rest fs = s.rest fs := by
  refine State.rest_weaken hfs ?_
  clear hfs fs
  simp [State.attestRefused]

@[simp] theorem State.attest_rest {fs : Nat} (hfs : 68719476748 &&& fs = 68719476748) (s : State) (sess : Nat) (challenge : Bytes) : (State.attest s sess challenge).1.rest fs = s.rest fs := by
  refine State.rest_weaken hfs ?_
  clear hfs fs
  unfold State.attest
  dsimp only
  repeat' split
  all_goals simp [*]

@[simp] theorem State.useNumber_rest {fs : Nat} (hfs : 67110912 &&& fs = 67110912) (s : State) : (State.useNumber s).rest fs = s.rest fs := by
  refine State.rest_weaken hfs ?_
  clear hfs fs
  unfold State.useNumber
  dsimp only
  repeat' split
  all_goals simp [*]

@[simp] theorem State.skipNumber_rest {fs : Nat} (hfs : 8796697053188 &&& fs = 8796697053188) (s : State) (cause : Nat) : (State.skipNumber s cause).rest fs = s.rest fs := by
  refine State.rest_weaken hfs ?_
  clear hfs fs
  simp [State.skipNumber]

@[simp] theorem State.sealGivenUp_rest {fs : Nat} (hfs : 8916956121484 &&& fs = 8916956121484) (s : State) (j : SealJob) : (State.sealGivenUp s j).rest fs = s.rest fs := by
  refine State.rest_weaken hfs ?_
  clear hfs fs
  unfold State.sealGivenUp
  dsimp only
  repeat' split
  all_goals (try simp only [Prod.ext_iff] at *)
  all_goals (try casesm* _ ∧ _)
  all_goals subst_vars
  all_goals simp [*]

@[simp] theorem State.sealFails_rest {fs : Nat} (hfs : 8916956137868 &&& fs = 8916956137868) (s : State) (j : SealJob) (cause : Nat) : (State.sealFails s j cause).rest fs = s.rest fs := by
  refine State.rest_weaken hfs ?_
  clear hfs fs
  unfold State.sealFails
  repeat' split
  all_goals simp [*]

@[simp] theorem State.sealIssued_rest {fs : Nat} (hfs : 8796697036804 &&& fs = 8796697036804) (s : State) (j : SealJob) : (State.sealIssued s j).rest fs = s.rest fs := by
  refine State.rest_weaken hfs ?_
  clear hfs fs
  simp [State.sealIssued]

@[simp] theorem State.afterSeal_rest {fs : Nat} (hfs : 8916956121484 &&& fs = 8916956121484) (s : State) (j : SealJob) : (State.afterSeal s j).rest fs = s.rest fs := by
  refine State.rest_weaken hfs ?_
  clear hfs fs
  unfold State.afterSeal
  repeat' split
  all_goals simp [*]

@[simp] theorem State.sealSign_rest {fs : Nat} (hfs : 8916956137868 &&& fs = 8916956137868) (s : State) (r : SealResult) : (State.sealSign s r).rest fs = s.rest fs := by
  refine State.rest_weaken hfs ?_
  clear hfs fs
  unfold State.sealSign
  repeat' split
  all_goals simp [*]

@[simp] theorem State.updateEvent_rest {fs : Nat} (hfs : 34816 &&& fs = 34816) (s : State) (event : Nat) (status : Nat) : (State.updateEvent s event status).rest fs = s.rest fs := by
  refine State.rest_weaken hfs ?_
  clear hfs fs
  simp [State.updateEvent]

@[simp] theorem State.updateWrong_rest {fs : Nat} (hfs : 4 &&& fs = 4) (s : State) : (State.updateWrong s).1.rest fs = s.rest fs := by
  refine State.rest_weaken hfs ?_
  clear hfs fs
  simp [State.updateWrong]

@[simp] theorem State.updateRefused_rest {fs : Nat} (hfs : 34820 &&& fs = 34820) (s : State) (status : Nat) : (State.updateRefused s status).rest fs = s.rest fs := by
  refine State.rest_weaken hfs ?_
  clear hfs fs
  simp [State.updateRefused]

@[simp] theorem State.setSlotState_rest {fs : Nat} (hfs : 274877906944 &&& fs = 274877906944) (s : State) (row : Nat) (v : Nat) : (State.setSlotState s row v).rest fs = s.rest fs := by
  refine State.rest_weaken hfs ?_
  clear hfs fs
  simp [State.setSlotState]

@[simp] theorem State.dropDelta_rest {fs : Nat} (hfs : 9071507832832 &&& fs = 9071507832832) (s : State) : (State.dropDelta s).rest fs = s.rest fs := by
  refine State.rest_weaken hfs ?_
  clear hfs fs
  simp [State.dropDelta]

@[simp] theorem State.deltaWrite_rest {fs : Nat} (hfs : 9071507832836 &&& fs = 9071507832836) (s : State) (offset : Nat) (b : Bytes) : (State.deltaWrite s offset b).1.rest fs = s.rest fs := by
  refine State.rest_weaken hfs ?_
  clear hfs fs
  unfold State.deltaWrite
  dsimp only
  repeat' split
  all_goals simp [*]

@[simp] theorem State.updateCheck_rest {fs : Nat} (hfs : 9071507834884 &&& fs = 9071507834884) (s : State) : (State.updateCheck s).1.rest fs = s.rest fs := by
  refine State.rest_weaken hfs ?_
  clear hfs fs
  unfold State.updateCheck
  repeat' split
  all_goals simp [*]

@[simp] theorem State.updateApply_rest {fs : Nat} (hfs : 9071507834884 &&& fs = 9071507834884) (s : State) : (State.updateApply s).1.rest fs = s.rest fs := by
  refine State.rest_weaken hfs ?_
  clear hfs fs
  unfold State.updateApply
  repeat' split
  all_goals simp [*]

@[simp] theorem State.applyFails_rest {fs : Nat} (hfs : 9071507834884 &&& fs = 9071507834884) (s : State) (status : Nat) : (State.applyFails s status).rest fs = s.rest fs := by
  refine State.rest_weaken hfs ?_
  clear hfs fs
  simp [State.applyFails]

@[simp] theorem State.applyDone_rest {fs : Nat} (hfs : 9071507834884 &&& fs = 9071507834884) (s : State) (ok : Bool) : (State.applyDone s ok).rest fs = s.rest fs := by
  refine State.rest_weaken hfs ?_
  clear hfs fs
  unfold State.applyDone
  dsimp only
  repeat' split
  all_goals simp [*]

@[simp] theorem State.enterFrom_rest {fs : Nat} (hfs : 9900441702404 &&& fs = 9900441702404) (s : State) (target : Nat) : (State.enterFrom s target).rest fs = s.rest fs := by
  refine State.rest_weaken hfs ?_
  clear hfs fs
  simp [State.enterFrom]

@[simp] theorem State.updateStart_rest {fs : Nat} (hfs : 10176460462468 &&& fs = 10176460462468) (s : State) : (State.updateStart s).1.rest fs = s.rest fs := by
  refine State.rest_weaken hfs ?_
  clear hfs fs
  unfold State.updateStart
  dsimp only
  repeat' split
  all_goals simp [*]

@[simp] theorem State.updateAbandon_rest {fs : Nat} (hfs : 9071507834884 &&& fs = 9071507834884) (s : State) : (State.updateAbandon s).1.rest fs = s.rest fs := by
  refine State.rest_weaken hfs ?_
  clear hfs fs
  unfold State.updateAbandon
  dsimp only
  repeat' split
  all_goals simp [*]

@[simp] theorem State.fallBackNow_rest {fs : Nat} (hfs : 10176460462468 &&& fs = 10176460462468) (s : State) (status : Nat) : (State.fallBackNow s status).rest fs = s.rest fs := by
  refine State.rest_weaken hfs ?_
  clear hfs fs
  unfold State.fallBackNow
  repeat' split
  all_goals simp [*]

@[simp] theorem State.updateReject_rest {fs : Nat} (hfs : 10176460462468 &&& fs = 10176460462468) (s : State) : (State.updateReject s).1.rest fs = s.rest fs := by
  refine State.rest_weaken hfs ?_
  clear hfs fs
  unfold State.updateReject
  repeat' split
  all_goals simp [*]

@[simp] theorem State.confirmed_rest {fs : Nat} (hfs : 9071507834880 &&& fs = 9071507834880) (s : State) (part : Nat) : (State.confirmed s part).rest fs = s.rest fs := by
  refine State.rest_weaken hfs ?_
  clear hfs fs
  simp [State.confirmed]

@[simp] theorem State.updateConfirm_rest {fs : Nat} (hfs : 9071507834884 &&& fs = 9071507834884) (s : State) (version : Nat) : (State.updateConfirm s version).1.rest fs = s.rest fs := by
  refine State.rest_weaken hfs ?_
  clear hfs fs
  unfold State.updateConfirm
  repeat' split
  all_goals simp [*]

@[simp] theorem State.updateAction_rest {fs : Nat} (hfs : 10176460462468 &&& fs = 10176460462468) (s : State) (a : Nat) : (State.updateAction s a).1.rest fs = s.rest fs := by
  refine State.rest_weaken hfs ?_
  clear hfs fs
  unfold State.updateAction
  repeat' split
  all_goals simp [*]

@[simp] theorem State.putFirst_rest {fs : Nat} (hfs : 512 &&& fs = 512) (s : State) (bank : Nat) (n : Nat) (c : StoreCopy) : (State.putFirst s bank n c).rest fs = s.rest fs := by
  refine State.rest_weaken hfs ?_
  clear hfs fs
  simp [State.putFirst]

@[simp] theorem State.putCopies_rest {fs : Nat} (hfs : 512 &&& fs = 512) (s : State) (bank : Nat) (c : StoreCopy) : (State.putCopies s bank c).rest fs = s.rest fs := by
  refine State.rest_weaken hfs ?_
  clear hfs fs
  simp [State.putCopies]

@[simp] theorem State.storeRecord_rest {fs : Nat} (hfs : 34816 &&& fs = 34816) (s : State) (outcome : Nat) (bank : Nat) (used : Nat) (w1 : Nat) (w2 : Nat) (w3 : Nat) : (State.storeRecord s outcome bank used w1 w2 w3).rest fs = s.rest fs := by
  refine State.rest_weaken hfs ?_
  clear hfs fs
  simp [State.storeRecord]

@[simp] theorem State.resolveStore_rest {fs : Nat} (hfs : 67160580 &&& fs = 67160580) (s : State) : (State.resolveStore s).rest fs = s.rest fs := by
  refine State.rest_weaken hfs ?_
  clear hfs fs
  unfold State.resolveStore
  dsimp only
  repeat' split
  all_goals simp [*]

@[simp] theorem State.writeStore_rest {fs : Nat} (hfs : 67160580 &&& fs = 67160580) (s : State) (img : NMap Nat) : (State.writeStore s img).rest fs = s.rest fs := by
  refine State.rest_weaken hfs ?_
  clear hfs fs
  simp [State.writeStore]

@[simp] theorem State.tearCopy_rest {fs : Nat} (hfs : 512 &&& fs = 512) (s : State) (c : Nat) : (State.tearCopy s c).rest fs = s.rest fs := by
  refine State.rest_weaken hfs ?_
  clear hfs fs
  simp [State.tearCopy]

@[simp] theorem State.partStore_rest {fs : Nat} (hfs : 512 &&& fs = 512) (s : State) (img : NMap Nat) (n : Nat) (torn : Bool) : (State.partStore s img n torn).rest fs = s.rest fs := by
  refine State.rest_weaken hfs ?_
  clear hfs fs
  simp [State.partStore]

@[simp] theorem State.cutStore_rest {fs : Nat} (hfs : 67109376 &&& fs = 67109376) (s : State) (img : NMap Nat) (p : Nat) : (State.cutStore s img p).rest fs = s.rest fs := by
  refine State.rest_weaken hfs ?_
  clear hfs fs
  unfold State.cutStore
  repeat' split
  all_goals simp [*]

@[simp] theorem State.storeFailed_rest {fs : Nat} (hfs : 4398113671684 &&& fs = 4398113671684) (s : State) (img : NMap Nat) : (State.storeFailed s img).rest fs = s.rest fs := by
  refine State.rest_weaken hfs ?_
  clear hfs fs
  simp [State.storeFailed]

@[simp] theorem State.withImage_rest {fs : Nat} (hfs : 4 &&& fs = 4) (s : State) (img : NMap Nat) : (State.withImage s img).rest fs = s.rest fs := by
  refine State.rest_weaken hfs ?_
  clear hfs fs
  simp [State.withImage]

@[simp] theorem State.keepOld_rest {fs : Nat} (hfs : 4194304 &&& fs = 4194304) (old : State) (s : State) (slot : Nat) (ks : List Change) : (State.keepOld old s slot ks).rest fs = s.rest fs := by
  refine State.rest_weaken hfs ?_
  clear hfs fs
  simp [State.keepOld]

@[simp] theorem State.reconfigure_rest {fs : Nat} (hfs : 9899904827396 &&& fs = 9899904827396) (old : State) (s : State) (slot : Nat) (ks : List Change) : (State.reconfigure old s slot ks).rest fs = s.rest fs := by
  refine State.rest_weaken hfs ?_
  clear hfs fs
  unfold State.reconfigure
  repeat' split
  all_goals simp [*]

@[simp] theorem State.portApply_rest {fs : Nat} (hfs : 9900173279236 &&& fs = 9900173279236) (old : State) (s : State) (chg : List Change) (slot : Nat) : (State.portApply old s chg slot).rest fs = s.rest fs := by
  refine State.rest_weaken hfs ?_
  clear hfs fs
  unfold State.portApply
  dsimp only
  repeat' split
  all_goals simp [*]

@[simp] theorem State.pauseBefore_rest {fs : Nat} (hfs : 8796097216516 &&& fs = 8796097216516) (s : State) (chg : List Change) (slot : Nat) : (State.pauseBefore s chg slot).rest fs = s.rest fs := by
  refine State.rest_weaken hfs ?_
  clear hfs fs
  simp [State.pauseBefore]

@[simp] theorem State.pauseAfter_rest {fs : Nat} (hfs : 8796097216516 &&& fs = 8796097216516) (s : State) (chg : List Change) (slot : Nat) : (State.pauseAfter s chg slot).rest fs = s.rest fs := by
  refine State.rest_weaken hfs ?_
  clear hfs fs
  simp [State.pauseAfter]

@[simp] theorem State.tunnelBefore_rest {fs : Nat} (hfs : 9902051524612 &&& fs = 9902051524612) (s : State) (row : Nat) : (State.tunnelBefore s row).rest fs = s.rest fs := by
  refine State.rest_weaken hfs ?_
  clear hfs fs
  unfold State.tunnelBefore
  repeat' split
  all_goals simp [*]

@[simp] theorem State.tunnelAfter_rest {fs : Nat} (hfs : 2147483648 &&& fs = 2147483648) (old : State) (s : State) (row : Nat) : (State.tunnelAfter old s row).rest fs = s.rest fs := by
  refine State.rest_weaken hfs ?_
  clear hfs fs
  simp [State.tunnelAfter]

@[simp] theorem State.ruleRestart_rest {fs : Nat} (hfs : 137510291460 &&& fs = 137510291460) (old : State) (s : State) (row : Nat) : (State.ruleRestart old s row).rest fs = s.rest fs := by
  refine State.rest_weaken hfs ?_
  clear hfs fs
  simp [State.ruleRestart]

@[simp] theorem State.tapRestart_rest {fs : Nat} (hfs : 137438986240 &&& fs = 137438986240) (s : State) (row : Nat) : (s.tapRestart row).rest fs = s.rest fs := by
  refine State.rest_weaken hfs ?_
  clear hfs fs
  unfold State.tapRestart
  rw [State.when_rest _ _ _ (fun s => by simp)]
  simp

@[simp] theorem State.spdRestart_rest {fs : Nat} (hfs : 137438953472 &&& fs = 137438953472) (s : State) (k : Nat) : (State.spdRestart s k).rest fs = s.rest fs := by
  refine State.rest_weaken hfs ?_
  clear hfs fs
  simp [State.spdRestart]

@[simp] theorem State.miRestart_rest {fs : Nat} (hfs : 137438953476 &&& fs = 137438953476) (s : State) (modeToo : Bool) (i : Nat) : (State.miRestart s modeToo i).rest fs = s.rest fs := by
  refine State.rest_weaken hfs ?_
  clear hfs fs
  simp [State.miRestart]

@[simp] theorem State.inputsApply_rest {fs : Nat} (hfs : 137438953476 &&& fs = 137438953476) (s : State) (chg : List Change) : (State.inputsApply s chg).rest fs = s.rest fs := by
  refine State.rest_weaken hfs ?_
  clear hfs fs
  simp [State.inputsApply]

@[simp] theorem State.keysApply_rest {fs : Nat} (hfs : 17179869184 &&& fs = 17179869184) (s : State) : (State.keysApply s).rest fs = s.rest fs := by
  refine State.rest_weaken hfs ?_
  clear hfs fs
  simp [State.keysApply]

@[simp] theorem State.sealPeriodApply_rest {fs : Nat} (hfs : 8796697036804 &&& fs = 8796697036804) (s : State) : (State.sealPeriodApply s).rest fs = s.rest fs := by
  refine State.rest_weaken hfs ?_
  clear hfs fs
  simp [State.sealPeriodApply]

@[simp] theorem State.gptpOff_rest {fs : Nat} (hfs : 4229126 &&& fs = 4229126) (s : State) : (State.gptpOff s).rest fs = s.rest fs := by
  refine State.rest_weaken hfs ?_
  clear hfs fs
  unfold State.gptpOff
  dsimp only
  repeat' split
  all_goals (try simp only [Prod.ext_iff] at *)
  all_goals (try casesm* _ ∧ _)
  all_goals subst_vars
  all_goals simp [*]

@[simp] theorem State.systemApply_rest {fs : Nat} (hfs : 9141372358030 &&& fs = 9141372358030) (s : State) (chg : List Change) : (State.systemApply s chg).rest fs = s.rest fs := by
  refine State.rest_weaken hfs ?_
  clear hfs fs
  simp (maxDischargeDepth := 8) [State.systemApply]

@[simp] theorem State.captureApply_rest {fs : Nat} (hfs : 1073741824 &&& fs = 1073741824) (s : State) (chg : List Change) : (State.captureApply s chg).rest fs = s.rest fs := by
  refine State.rest_weaken hfs ?_
  clear hfs fs
  simp [State.captureApply]

@[simp] theorem State.oemApply_rest {fs : Nat} (hfs : 274945015808 &&& fs = 274945015808) (s : State) (staged : NMap Nat) : (State.oemApply s staged).rest fs = s.rest fs := by
  refine State.rest_weaken hfs ?_
  clear hfs fs
  unfold State.oemApply
  repeat' split
  all_goals simp [*]

@[simp] theorem State.effects_rest {fs : Nat} (hfs : 10402214694286 &&& fs = 10402214694286) (old s : State) (chg : List Change) : (old.effects s chg).rest fs = s.rest fs := by
  refine State.rest_weaken hfs ?_
  clear hfs fs
  unfold State.effects
  simp only [State.systemApply_rest (fs := 10402214694286) (by decide), State.keysApply_rest (fs := 10402214694286) (by decide), State.captureApply_rest (fs := 10402214694286) (by decide), State.inputsApply_rest (fs := 10402214694286) (by decide)]
  rw [State.forAll_rest _ _ _ (fun s r => by simp), State.forAll_rest _ _ _ (fun s r => by simp), State.forAll_rest _ _ _ (fun s r => by simp),
    State.forAll_rest _ _ _ (fun s r => by rfl), State.forAll_rest _ _ _ (fun s r => by simp)]

@[simp] theorem State.switchImage_rest {fs : Nat} (hfs : 10402216791438 &&& fs = 10402216791438) (s : State) (staged : NMap Nat) (pl : Placement) (trigger : Nat) : (State.switchImage s staged pl trigger).rest fs = s.rest fs := by
  refine State.rest_weaken hfs ?_
  clear hfs fs
  simp [State.switchImage]

@[simp] theorem State.commitTo_rest {fs : Nat} (hfs : 260 &&& fs = 260) (s : State) (ph : CommitPhase) (code : Nat) : (State.commitTo s ph code).rest fs = s.rest fs := by
  refine State.rest_weaken hfs ?_
  clear hfs fs
  simp [State.commitTo]

@[simp] theorem State.commitBegin_rest {fs : Nat} (hfs : 67109124 &&& fs = 67109124) (s : State) (sess : Nat) (only : Bool) : (State.commitBegin s sess only).rest fs = s.rest fs := by
  refine State.rest_weaken hfs ?_
  clear hfs fs
  simp [State.commitBegin]

@[simp] theorem State.commitOver_rest {fs : Nat} (hfs : 67109252 &&& fs = 67109252) (s : State) (code : Nat) (result : Nat) (drop : Bool) : (State.commitOver s code result drop).rest fs = s.rest fs := by
  refine State.rest_weaken hfs ?_
  clear hfs fs
  simp [State.commitOver]

@[simp] theorem State.recomputeAgain_rest {fs : Nat} (hfs : 268435460 &&& fs = 268435460) (s : State) : (State.recomputeAgain s).rest fs = s.rest fs := by
  refine State.rest_weaken hfs ?_
  clear hfs fs
  unfold State.recomputeAgain
  dsimp only
  repeat' split
  all_goals simp [*]

@[simp] theorem State.placementKept_rest {fs : Nat} (hfs : 4 &&& fs = 4) (s : State) : (State.placementKept s).rest fs = s.rest fs := by
  refine State.rest_weaken hfs ?_
  clear hfs fs
  simp [State.placementKept]

@[simp] theorem State.commitRefused_rest {fs : Nat} (hfs : 335544708 &&& fs = 335544708) (s : State) (result : Nat) (entry : Nat) (row : Nat) : (State.commitRefused s result entry row).rest fs = s.rest fs := by
  refine State.rest_weaken hfs ?_
  clear hfs fs
  simp [State.commitRefused]

@[simp] theorem State.placementRefused_rest {fs : Nat} (hfs : 335544708 &&& fs = 335544708) (s : State) (cause : Nat) (index : Nat) (row : Nat) : (State.placementRefused s cause index row).rest fs = s.rest fs := by
  refine State.rest_weaken hfs ?_
  clear hfs fs
  simp [State.placementRefused]

@[simp] theorem State.validated_rest {fs : Nat} (hfs : 335544708 &&& fs = 335544708) (s : State) : (State.validated s).rest fs = s.rest fs := by
  refine State.rest_weaken hfs ?_
  clear hfs fs
  unfold State.validated
  repeat' split
  all_goals simp [*]

@[simp] theorem State.placedNow_rest {fs : Nat} (hfs : 335544708 &&& fs = 335544708) (s : State) : (State.placedNow s).rest fs = s.rest fs := by
  refine State.rest_weaken hfs ?_
  clear hfs fs
  unfold State.placedNow
  dsimp only
  repeat' split
  all_goals simp [*]

@[simp] theorem State.stored_rest {fs : Nat} (hfs : 4398382107524 &&& fs = 4398382107524) (s : State) (ok : Bool) : (State.stored s ok).rest fs = s.rest fs := by
  refine State.rest_weaken hfs ?_
  clear hfs fs
  unfold State.stored
  repeat' split
  all_goals simp [*]

@[simp] theorem State.configRecord_rest {fs : Nat} (hfs : 34816 &&& fs = 34816) (s : State) : (State.configRecord s).rest fs = s.rest fs := by
  refine State.rest_weaken hfs ?_
  clear hfs fs
  simp [State.configRecord]

@[simp] theorem State.applyCommit_rest {fs : Nat} (hfs : 10402216791950 &&& fs = 10402216791950) (s : State) : (State.applyCommit s).rest fs = s.rest fs := by
  refine State.rest_weaken hfs ?_
  clear hfs fs
  unfold State.applyCommit
  repeat' split
  all_goals simp [*]

@[simp] theorem State.stageDefaults_rest {fs : Nat} (hfs : 132 &&& fs = 132) (s : State) (sess : Nat) : (State.stageDefaults s sess).1.rest fs = s.rest fs := by
  refine State.rest_weaken hfs ?_
  clear hfs fs
  unfold State.stageDefaults
  dsimp only
  repeat' split
  all_goals simp [*]

@[simp] theorem State.commitAction_rest {fs : Nat} (hfs : 67109252 &&& fs = 67109252) (s : State) (sess : Nat) (value : Nat) : (State.commitAction s sess value).1.rest fs = s.rest fs := by
  refine State.rest_weaken hfs ?_
  clear hfs fs
  unfold State.commitAction
  dsimp only
  repeat' split
  all_goals simp [*]

@[simp] theorem State.clearIslandCounters_rest {fs : Nat} (hfs : 4 &&& fs = 4) (s : State) : (State.clearIslandCounters s).rest fs = s.rest fs := by
  refine State.rest_weaken hfs ?_
  clear hfs fs
  simp [State.clearIslandCounters]

@[simp] theorem State.commitCut_rest {fs : Nat} (hfs : 4398113620480 &&& fs = 4398113620480) (s : State) : (State.commitCut s).rest fs = s.rest fs := by
  refine State.rest_weaken hfs ?_
  clear hfs fs
  unfold State.commitCut
  repeat' split
  all_goals simp [*]

@[simp] theorem State.appendCut_rest {fs : Nat} (hfs : 4398113622016 &&& fs = 4398113622016) (s : State) : (State.appendCut s).rest fs = s.rest fs := by
  refine State.rest_weaken hfs ?_
  clear hfs fs
  unfold State.appendCut
  dsimp only
  repeat' split
  all_goals (try simp only [Prod.ext_iff] at *)
  all_goals (try casesm* _ ∧ _)
  all_goals subst_vars
  all_goals simp [*]

@[simp] theorem State.burnCut_rest {fs : Nat} (hfs : 13229103286276 &&& fs = 13229103286276) (s : State) : (State.burnCut s).rest fs = s.rest fs := by
  refine State.rest_weaken hfs ?_
  clear hfs fs
  unfold State.burnCut
  dsimp only
  repeat' split
  all_goals (try simp only [Prod.ext_iff] at *)
  all_goals (try casesm* _ ∧ _)
  all_goals subst_vars
  all_goals simp [*]

@[simp] theorem State.provisionUndo_rest {fs : Nat} (hfs : 103146326020 &&& fs = 103146326020) (s : State) (m : Nat) : (State.provisionUndo s m).rest fs = s.rest fs := by
  refine State.rest_weaken hfs ?_
  clear hfs fs
  simp [State.provisionUndo]

@[simp] theorem State.provisionCut_rest {fs : Nat} (hfs : 4501192837124 &&& fs = 4501192837124) (s : State) : (State.provisionCut s).rest fs = s.rest fs := by
  refine State.rest_weaken hfs ?_
  clear hfs fs
  simp [State.provisionCut]

@[simp] theorem State.wipe_rest {fs : Nat} (hfs : 2714352209390 &&& fs = 2714352209390) (s : State) (listen : Bool) : (State.wipe s listen).rest fs = s.rest fs := by
  refine State.rest_weaken hfs ?_
  clear hfs fs
  simp [State.wipe]

@[simp] theorem State.fallDown_rest {fs : Nat} (hfs : 15942918590446 &&& fs = 15942918590446) (s : State) : (State.fallDown s).rest fs = s.rest fs := by
  refine State.rest_weaken hfs ?_
  clear hfs fs
  simp [State.fallDown]

@[simp] theorem State.otherSlot_rest {fs : Nat} (hfs : 274877941760 &&& fs = 274877941760) (s : State) (part : Nat) : (State.otherSlot s part).rest fs = s.rest fs := by
  refine State.rest_weaken hfs ?_
  clear hfs fs
  unfold State.otherSlot
  dsimp only
  repeat' split
  all_goals simp [*]

@[simp] theorem State.loadActive_rest {fs : Nat} (hfs : 274877941760 &&& fs = 274877941760) (s : State) (part : Nat) : (State.loadActive s part).rest fs = s.rest fs := by
  refine State.rest_weaken hfs ?_
  clear hfs fs
  unfold State.loadActive
  repeat' split
  all_goals simp [*]

@[simp] theorem State.failTrial_rest {fs : Nat} (hfs : 9071507838980 &&& fs = 9071507838980) (s : State) (part : Nat) (status : Nat) : (State.failTrial s part status).rest fs = s.rest fs := by
  refine State.rest_weaken hfs ?_
  clear hfs fs
  simp [State.failTrial]

@[simp] theorem State.loadPart_rest {fs : Nat} (hfs : 9071507838980 &&& fs = 9071507838980) (s : State) (part : Nat) : (State.loadPart s part).rest fs = s.rest fs := by
  refine State.rest_weaken hfs ?_
  clear hfs fs
  unfold State.loadPart
  repeat' split
  all_goals simp [*]

@[simp] theorem State.trialAtStart_rest {fs : Nat} (hfs : 9071507838980 &&& fs = 9071507838980) (s : State) : (State.trialAtStart s).rest fs = s.rest fs := by
  refine State.rest_weaken hfs ?_
  clear hfs fs
  unfold State.trialAtStart
  repeat' split
  all_goals simp [*]

@[simp] theorem State.readDefaults_rest {fs : Nat} (hfs : 4 &&& fs = 4) (s : State) : (State.readDefaults s).rest fs = s.rest fs := by
  refine State.rest_weaken hfs ?_
  clear hfs fs
  simp [State.readDefaults]

@[simp] theorem State.commitFound_rest {fs : Nat} (hfs : 67108868 &&& fs = 67108868) (s : State) (c : Option StoreCopy) : (State.commitFound s c).rest fs = s.rest fs := by
  refine State.rest_weaken hfs ?_
  clear hfs fs
  simp [State.commitFound]

@[simp] theorem State.storeAtStart_rest {fs : Nat} (hfs : 67160580 &&& fs = 67160580) (s : State) : (State.storeAtStart s).rest fs = s.rest fs := by
  refine State.rest_weaken hfs ?_
  clear hfs fs
  simp [State.storeAtStart]

@[simp] theorem State.migrate_rest {fs : Nat} (hfs : 9071574948356 &&& fs = 9071574948356) (s : State) : (State.migrate s).rest fs = s.rest fs := by
  refine State.rest_weaken hfs ?_
  clear hfs fs
  unfold State.migrate
  dsimp only
  repeat' split
  all_goals simp [*]

@[simp] theorem State.trialSettings_rest {fs : Nat} (hfs : 9071507838980 &&& fs = 9071507838980) (s : State) : (State.trialSettings s).rest fs = s.rest fs := by
  refine State.rest_weaken hfs ?_
  clear hfs fs
  unfold State.trialSettings
  repeat' split
  all_goals simp [*]

@[simp] theorem State.startRecord_rest {fs : Nat} (hfs : 34816 &&& fs = 34816) (s : State) (outcome : Nat) : (State.startRecord s outcome).rest fs = s.rest fs := by
  refine State.rest_weaken hfs ?_
  clear hfs fs
  simp [State.startRecord]

@[simp] theorem State.startConfig_rest {fs : Nat} (hfs : 274877941764 &&& fs = 274877941764) (s : State) : (State.startConfig s).rest fs = s.rest fs := by
  refine State.rest_weaken hfs ?_
  clear hfs fs
  unfold State.startConfig
  dsimp only
  repeat' split
  all_goals simp [*]

@[simp] theorem State.versionsSet_rest {fs : Nat} (hfs : 4 &&& fs = 4) (s : State) : (State.versionsSet s).rest fs = s.rest fs := by
  refine State.rest_weaken hfs ?_
  clear hfs fs
  simp [State.versionsSet]

@[simp] theorem State.lifeResolve_rest {fs : Nat} (hfs : 103079215104 &&& fs = 103079215104) (s : State) : (State.lifeResolve s).rest fs = s.rest fs := by
  refine State.rest_weaken hfs ?_
  clear hfs fs
  simp [State.lifeResolve]

@[simp] theorem State.erasedLate_rest {fs : Nat} (hfs : 17179904000 &&& fs = 17179904000) (s : State) : (State.erasedLate s).rest fs = s.rest fs := by
  refine State.rest_weaken hfs ?_
  clear hfs fs
  simp [State.erasedLate]

@[simp] theorem State.lifeAtStart_rest {fs : Nat} (hfs : 8882596382724 &&& fs = 8882596382724) (s : State) : (State.lifeAtStart s).rest fs = s.rest fs := by
  refine State.rest_weaken hfs ?_
  clear hfs fs
  unfold State.lifeAtStart
  repeat' split
  all_goals simp [*]

@[simp] theorem State.heldRecords_rest {fs : Nat} (hfs : 8796697044996 &&& fs = 8796697044996) (s : State) : (State.heldRecords s).rest fs = s.rest fs := by
  refine State.rest_weaken hfs ?_
  clear hfs fs
  unfold State.heldRecords
  repeat' split
  all_goals simp [*]

@[simp] theorem State.speedAtStart_rest {fs : Nat} (hfs : 137438988288 &&& fs = 137438988288) (s : State) (listen : Bool) : (State.speedAtStart s listen).rest fs = s.rest fs := by
  refine State.rest_weaken hfs ?_
  clear hfs fs
  unfold State.speedAtStart
  repeat' split
  all_goals simp [*]

@[simp] theorem State.rulesAtStart_rest {fs : Nat} (hfs : 137506062340 &&& fs = 137506062340) (s : State) : s.rulesAtStart.rest fs = s.rest fs := by
  refine State.rest_weaken hfs ?_
  clear hfs fs
  unfold State.rulesAtStart
  refine State.forAll_rest _ _ _ (fun s r => ?_)
  repeat' split
  all_goals simp

@[simp] theorem State.tamperSeeded_rest {fs : Nat} (hfs : 4398046519296 &&& fs = 4398046519296) (s : State) : (State.tamperSeeded s).rest fs = s.rest fs := by
  refine State.rest_weaken hfs ?_
  clear hfs fs
  unfold State.tamperSeeded
  dsimp only
  repeat' split
  all_goals (try simp only [Prod.ext_iff] at *)
  all_goals (try casesm* _ ∧ _)
  all_goals subst_vars
  all_goals simp [*]

@[simp] theorem State.firmwareRuns_rest {fs : Nat} (hfs : 13727319521796 &&& fs = 13727319521796) (s : State) : (State.firmwareRuns s).rest fs = s.rest fs := by
  refine State.rest_weaken hfs ?_
  clear hfs fs
  simp [State.firmwareRuns]

@[simp] theorem State.readFlash_rest {fs : Nat} (hfs : 274877906944 &&& fs = 274877906944) (s : State) (flash : List Bytes) : (State.readFlash s flash).rest fs = s.rest fs := by
  refine State.rest_weaken hfs ?_
  clear hfs fs
  simp [State.readFlash]

@[simp] theorem State.applyingCut_rest {fs : Nat} (hfs : 9071507832832 &&& fs = 9071507832832) (s : State) : (State.applyingCut s).rest fs = s.rest fs := by
  refine State.rest_weaken hfs ?_
  clear hfs fs
  unfold State.applyingCut
  dsimp only
  repeat' split
  all_goals simp [*]

@[simp] theorem State.boot_rest {fs : Nat} (hfs : 13727319521796 &&& fs = 13727319521796) (s : State) (flash : List Bytes) : (State.boot s flash).rest fs = s.rest fs := by
  refine State.rest_weaken hfs ?_
  clear hfs fs
  unfold State.boot
  dsimp only
  repeat' split
  all_goals simp [*]

@[simp] theorem State.coldMark_rest {fs : Nat} (hfs : 8196 &&& fs = 8196) (s : State) (left : Nat) : (State.coldMark s left).rest fs = s.rest fs := by
  refine State.rest_weaken hfs ?_
  clear hfs fs
  simp [State.coldMark]

@[simp] theorem State.coldStart_rest {fs : Nat} (hfs : 12292 &&& fs = 12292) (s : State) (cause : Nat) : (State.coldStart s cause).rest fs = s.rest fs := by
  refine State.rest_weaken hfs ?_
  clear hfs fs
  simp [State.coldStart]

@[simp] theorem State.releaseDies_rest {fs : Nat} (hfs : 32768 &&& fs = 32768) (s : State) : (State.releaseDies s).rest fs = s.rest fs := by
  refine State.rest_weaken hfs ?_
  clear hfs fs
  simp [State.releaseDies]

@[simp] theorem State.powerOn_rest {fs : Nat} (hfs : 68719489028 &&& fs = 68719489028) (s : State) : (State.powerOn s).rest fs = s.rest fs := by
  refine State.rest_weaken hfs ?_
  clear hfs fs
  simp [State.powerOn]

@[simp] theorem State.resetLow_rest {fs : Nat} (hfs : 15942918594542 &&& fs = 15942918594542) (s : State) : (State.resetLow s).rest fs = s.rest fs := by
  refine State.rest_weaken hfs ?_
  clear hfs fs
  unfold State.resetLow
  repeat' split
  all_goals simp [*]

@[simp] theorem State.resetHigh_rest {fs : Nat} (hfs : 549755858948 &&& fs = 549755858948) (s : State) : (State.resetHigh s).rest fs = s.rest fs := by
  refine State.rest_weaken hfs ?_
  clear hfs fs
  unfold State.resetHigh
  repeat' split
  all_goals simp [*]

@[simp] theorem State.vaonFalls_rest {fs : Nat} (hfs : 16492674416622 &&& fs = 16492674416622) (s : State) : (State.vaonFalls s).rest fs = s.rest fs := by
  refine State.rest_weaken hfs ?_
  clear hfs fs
  simp [State.vaonFalls]

@[simp] theorem State.guardSupplyFails_rest {fs : Nat} (hfs : 16492674416622 &&& fs = 16492674416622) (s : State) : (State.guardSupplyFails s).rest fs = s.rest fs := by
  refine State.rest_weaken hfs ?_
  clear hfs fs
  unfold State.guardSupplyFails
  repeat' split
  all_goals simp [*]

@[simp] theorem State.dieSupplyFails_rest {fs : Nat} (hfs : 8804420016516 &&& fs = 8804420016516) (s : State) (n : Nat) (core : Bool) : (State.dieSupplyFails s n core).rest fs = s.rest fs := by
  refine State.rest_weaken hfs ?_
  clear hfs fs
  simp [State.dieSupplyFails]

@[simp] theorem State.suppliesUp_rest {fs : Nat} (hfs : 36864 &&& fs = 36864) (s : State) (n : Nat) : (State.suppliesUp s n).rest fs = s.rest fs := by
  refine State.rest_weaken hfs ?_
  clear hfs fs
  unfold State.suppliesUp
  repeat' split
  all_goals simp [*]

@[simp] theorem State.imageLoaded_rest {fs : Nat} (hfs : 4398046543872 &&& fs = 4398046543872) (s : State) (n : Nat) : (State.imageLoaded s n).rest fs = s.rest fs := by
  refine State.rest_weaken hfs ?_
  clear hfs fs
  simp [State.imageLoaded]

@[simp] theorem State.imagesLoaded_rest {fs : Nat} (hfs : 4399388741636 &&& fs = 4399388741636) (s : State) : (State.imagesLoaded s).rest fs = s.rest fs := by
  refine State.rest_weaken hfs ?_
  clear hfs fs
  unfold State.imagesLoaded
  repeat' split
  all_goals simp [*]

@[simp] theorem State.startPlacement_rest {fs : Nat} (hfs : 10178878491012 &&& fs = 10178878491012) (s : State) : (State.startPlacement s).rest fs = s.rest fs := by
  refine State.rest_weaken hfs ?_
  clear hfs fs
  simp [State.startPlacement]

@[simp] theorem State.blocksAgain_rest {fs : Nat} (hfs : 4194304 &&& fs = 4194304) (s : State) : (State.blocksAgain s).rest fs = s.rest fs := by
  refine State.rest_weaken hfs ?_
  clear hfs fs
  simp [State.blocksAgain]

@[simp] theorem State.tablesApplied_rest {fs : Nat} (hfs : 10299137579404 &&& fs = 10299137579404) (s : State) : (State.tablesApplied s).rest fs = s.rest fs := by
  refine State.rest_weaken hfs ?_
  clear hfs fs
  simp [State.tablesApplied]

@[simp] theorem State.powerRequest_rest {fs : Nat} (hfs : 9900441702404 &&& fs = 9900441702404) (s : State) (target : Nat) : (State.powerRequest s target).1.rest fs = s.rest fs := by
  refine State.rest_weaken hfs ?_
  clear hfs fs
  unfold State.powerRequest
  repeat' split
  all_goals simp [*]

@[simp] theorem State.autoSleep_rest {fs : Nat} (hfs : 9900441702404 &&& fs = 9900441702404) (s : State) : (State.autoSleep s).rest fs = s.rest fs := by
  refine State.rest_weaken hfs ?_
  clear hfs fs
  unfold State.autoSleep
  repeat' split
  all_goals simp [*]

@[simp] theorem State.portsDisabled_rest {fs : Nat} (hfs : 8796697049092 &&& fs = 8796697049092) (s : State) : (State.portsDisabled s).rest fs = s.rest fs := by
  refine State.rest_weaken hfs ?_
  clear hfs fs
  unfold State.portsDisabled
  repeat' split
  all_goals simp [*]

@[simp] theorem State.enterMode_rest {fs : Nat} (hfs : 3264108035566 &&& fs = 3264108035566) (s : State) (target : Nat) : (State.enterMode s target).rest fs = s.rest fs := by
  refine State.rest_weaken hfs ?_
  clear hfs fs
  unfold State.enterMode
  repeat' split
  all_goals simp [*]

@[simp] theorem State.readFinds_rest {fs : Nat} (hfs : 8796697036804 &&& fs = 8796697036804) (s : State) (sess : Nat) (idx : Nat) (sub : Nat) (st : Nat) : (State.readFinds s sess idx sub st).rest fs = s.rest fs := by
  refine State.rest_weaken hfs ?_
  clear hfs fs
  unfold State.readFinds
  repeat' split
  all_goals simp [*]

@[simp] theorem State.stage_rest {fs : Nat} (hfs : 132 &&& fs = 132) (s : State) (sess : Nat) (l : List (Nat × Nat)) : (State.stage s sess l).1.rest fs = s.rest fs := by
  refine State.rest_weaken hfs ?_
  clear hfs fs
  unfold State.stage
  dsimp only
  repeat' split
  all_goals simp [*]

@[simp] theorem State.stageRow_rest {fs : Nat} (hfs : 132 &&& fs = 132) (s : State) (sess : Nat) (idx : Nat) (row : Nat) (o : OdObject) : (State.stageRow s sess idx row o).1.rest fs = s.rest fs := by
  refine State.rest_weaken hfs ?_
  clear hfs fs
  simp [State.stageRow]

@[simp] theorem State.clearCounters_rest {fs : Nat} (hfs : 4 &&& fs = 4) (s : State) (idx : Nat) (sub : Nat) (row : Nat) : (State.clearCounters s idx sub row).rest fs = s.rest fs := by
  refine State.rest_weaken hfs ?_
  clear hfs fs
  simp (maxDischargeDepth := 8) [State.clearCounters]

@[simp] theorem State.requestLevel_rest {fs : Nat} (hfs : 4398046511112 &&& fs = 4398046511112) (s : State) (level : Nat) : (State.requestLevel s level).1.rest fs = s.rest fs := by
  refine State.rest_weaken hfs ?_
  clear hfs fs
  unfold State.requestLevel
  repeat' split
  all_goals simp [*]

@[simp] theorem State.sdoProof_rest {fs : Nat} (hfs : 68719511964 &&& fs = 68719511964) (s : State) (proof : Bytes) : (State.sdoProof s proof).1.rest fs = s.rest fs := by
  refine State.rest_weaken hfs ?_
  clear hfs fs
  unfold State.sdoProof
  dsimp only
  repeat' split
  all_goals simp [*]

@[simp] theorem State.sdoSessionWrite_rest {fs : Nat} (hfs : 4466766023068 &&& fs = 4466766023068) (s : State) (sess : Nat) (e : Nat) (b : Bytes) : (State.sdoSessionWrite s sess e b).1.rest fs = s.rest fs := by
  refine State.rest_weaken hfs ?_
  clear hfs fs
  unfold State.sdoSessionWrite
  repeat' split
  all_goals simp [*]

@[simp] theorem State.rtcWrite_rest {fs : Nat} (hfs : 34818 &&& fs = 34818) (s : State) (v : Nat) : (State.rtcWrite s v).rest fs = s.rest fs := by
  refine State.rest_weaken hfs ?_
  clear hfs fs
  simp [State.rtcWrite]

@[simp] theorem State.safeRelease_rest {fs : Nat} (hfs : 16384 &&& fs = 16384) (s : State) : (State.safeRelease s).1.rest fs = s.rest fs := by
  refine State.rest_weaken hfs ?_
  clear hfs fs
  unfold State.safeRelease
  repeat' split
  all_goals simp [*]

@[simp] theorem State.journalAck_rest {fs : Nat} (hfs : 2048 &&& fs = 2048) (s : State) (n : Nat) : (State.journalAck s n).rest fs = s.rest fs := by
  refine State.rest_weaken hfs ?_
  clear hfs fs
  simp [State.journalAck]

@[simp] theorem State.mdioSend_rest {fs : Nat} (hfs : 8796093022208 &&& fs = 8796093022208) (s : State) (n : Nat) : (State.mdioSend s n).rest fs = s.rest fs := by
  refine State.rest_weaken hfs ?_
  clear hfs fs
  unfold State.mdioSend
  repeat' split
  all_goals simp [*]

@[simp] theorem State.mdioStart_rest {fs : Nat} (hfs : 8796093054976 &&& fs = 8796093054976) (s : State) (sess : Nat) (slot : Nat) (op : Nat) : (State.mdioStart s sess slot op).1.rest fs = s.rest fs := by
  refine State.rest_weaken hfs ?_
  clear hfs fs
  unfold State.mdioStart
  dsimp only
  repeat' split
  all_goals simp [*]

@[simp] theorem State.portWrite_rest {fs : Nat} (hfs : 8796097249284 &&& fs = 8796097249284) (s : State) (sess : Nat) (idx : Nat) (sub : Nat) (v : Nat) : (State.portWrite s sess idx sub v).1.rest fs = s.rest fs := by
  refine State.rest_weaken hfs ?_
  clear hfs fs
  unfold State.portWrite
  dsimp only
  repeat' split
  all_goals simp [*]

@[simp] theorem State.readmitWrite_rest {fs : Nat} (hfs : 4032020484 &&& fs = 4032020484) (s : State) (n : Nat) : (State.readmitWrite s n).1.rest fs = s.rest fs := by
  refine State.rest_weaken hfs ?_
  clear hfs fs
  unfold State.readmitWrite
  repeat' split
  all_goals simp [*]

@[simp] theorem State.appRestartWrite_rest {fs : Nat} (hfs : 9072581577092 &&& fs = 9072581577092) (s : State) (n : Nat) : (State.appRestartWrite s n).1.rest fs = s.rest fs := by
  refine State.rest_weaken hfs ?_
  clear hfs fs
  unfold State.appRestartWrite
  repeat' split
  all_goals simp [*]

@[simp] theorem State.odAct_rest {fs : Nat} (hfs : 14834621995422 &&& fs = 14834621995422) (s : State) (sess : Nat) (e : Nat) (row : Nat) (b : Bytes) : (State.odAct s sess e row b).1.rest fs = s.rest fs := by
  refine State.rest_weaken hfs ?_
  clear hfs fs
  simp [State.odAct]

@[simp] theorem State.writeReserved_rest {fs : Nat} (hfs : 140 &&& fs = 140) (s : State) (sess : Nat) (idx : Nat) (sub : Nat) (row : Nat) (o : OdObject) (b : Bytes) : (State.writeReserved s sess idx sub row o b).1.rest fs = s.rest fs := by
  refine State.rest_weaken hfs ?_
  clear hfs fs
  unfold State.writeReserved
  dsimp only
  repeat' split
  all_goals simp [*]

@[simp] theorem State.writeEntry_rest {fs : Nat} (hfs : 14834621995422 &&& fs = 14834621995422) (s : State) (sess : Nat) (e : Nat) (row : Nat) (x : OdEntry) (b : Bytes) : (State.writeEntry s sess e row x b).1.rest fs = s.rest fs := by
  refine State.rest_weaken hfs ?_
  clear hfs fs
  unfold State.writeEntry
  dsimp only
  repeat' split
  all_goals simp [*]

@[simp] theorem State.odWrite_rest {fs : Nat} (hfs : 14834621995422 &&& fs = 14834621995422) (s : State) (sess : Nat) (idx : Nat) (sub : Nat) (row : Nat) (b : Bytes) : (State.odWrite s sess idx sub row b).1.rest fs = s.rest fs := by
  refine State.rest_weaken hfs ?_
  clear hfs fs
  unfold State.odWrite
  dsimp only
  repeat' split
  all_goals simp [*]

@[simp] theorem State.requestDone_rest {fs : Nat} (hfs : 12 &&& fs = 12) (s : State) (sess : Nat) (status : Nat) : (State.requestDone s sess status).rest fs = s.rest fs := by
  refine State.rest_weaken hfs ?_
  clear hfs fs
  simp [State.requestDone]

@[simp] theorem State.send_rest {fs : Nat} (hfs : 14297951338500 &&& fs = 14297951338500) (s : State) (o : Out) : (State.send s o).rest fs = s.rest fs := by
  refine State.rest_weaken hfs ?_
  clear hfs fs
  unfold State.send
  repeat' split
  all_goals simp [*]

@[simp] theorem State.reply_rest {fs : Nat} (hfs : 14297951338564 &&& fs = 14297951338564) (s : State) (sess : Nat) (server : Nat) (status : Nat) (o : Out) : (State.reply s sess server status o).rest fs = s.rest fs := by
  refine State.rest_weaken hfs ?_
  clear hfs fs
  unfold State.reply
  repeat' split
  all_goals simp [*]

@[simp] theorem State.mdioReply_rest {fs : Nat} (hfs : 32768 &&& fs = 32768) (s : State) (n : Nat) (o : Option Out) : (State.mdioReply s n o).rest fs = s.rest fs := by
  refine State.rest_weaken hfs ?_
  clear hfs fs
  simp [State.mdioReply]

@[simp] theorem State.relayed_rest {fs : Nat} (hfs : 14297951338564 &&& fs = 14297951338564) (s : State) (sess : Nat) : (State.relayed s sess).rest fs = s.rest fs := by
  refine State.rest_weaken hfs ?_
  clear hfs fs
  unfold State.relayed
  repeat' split
  all_goals simp [*]

@[simp] theorem State.writeDone_rest {fs : Nat} (hfs : 14297951338572 &&& fs = 14297951338572) (r : State × Nat) (sess idx sub row : Nat) (answer : Nat → Out) : (State.writeDone r sess idx sub row answer).rest fs = r.1.rest fs := by
  refine State.rest_weaken hfs ?_
  clear hfs fs
  unfold State.writeDone
  split <;> simp

@[simp] theorem State.sessionWrite_rest {fs : Nat} (hfs : 14834621995486 &&& fs = 14834621995486) (s : State) (sess idx sub row : Nat) (b : Bytes) : (s.sessionWrite sess idx sub row b).rest fs = s.rest fs := by
  refine State.rest_weaken hfs ?_
  clear hfs fs
  unfold State.sessionWrite
  split
  · rw [State.writeDone_rest (fs := 14834621995486) (by decide), State.odWrite_rest (fs := 14834621995486) (by decide)]
  · rw [State.when_rest _ _ _ (fun s => by simp)]

theorem State.entryWrite_rest {fs : Nat} (hfs : 17033645251038 &&& fs = 17033645251038) (s : State) (sess : Nat) (e : Nat) (b : Bytes) {t0 : State} (h0 : (State.entryWrite s sess e b) = .next t0) : t0.rest fs = s.rest fs := by
  refine State.rest_weaken hfs ?_
  clear hfs fs
  unfold State.entryWrite at h0
  refine doneIf_rest (fs := 17033645251038) (by decide) _ _ _ ?_ h0
  simp

theorem State.mdioWrite_rest {fs : Nat} (hfs : 17033645251038 &&& fs = 17033645251038) (s : State) (sess : Nat) (slot : Nat) (op : Nat) {t0 : State} (h0 : (State.mdioWrite s sess slot op) = .next t0) : t0.rest fs = s.rest fs := by
  refine State.rest_weaken hfs ?_
  clear hfs fs
  unfold State.mdioWrite at h0
  refine doneIf_rest (fs := 17033645251038) (by decide) _ _ _ ?_ h0
  simp

@[simp] theorem State.mailboxDone_rest {fs : Nat} (hfs : 1610612748 &&& fs = 1610612748) (s : State) (n : Nat) (status : Nat) (value : Option Bytes) : (State.mailboxDone s n status value).rest fs = s.rest fs := by
  refine State.rest_weaken hfs ?_
  clear hfs fs
  simp [State.mailboxDone]

@[simp] theorem State.mailboxServe_rest {fs : Nat} (hfs : 14834621995422 &&& fs = 14834621995422) (s : State) (n : Nat) : (State.mailboxServe s n).rest fs = s.rest fs := by
  refine State.rest_weaken hfs ?_
  clear hfs fs
  unfold State.mailboxServe
  dsimp only
  repeat' split
  all_goals simp [*]

@[simp] theorem State.mdioDone_rest {fs : Nat} (hfs : 14299561951308 &&& fs = 14299561951308) (s : State) (n : Nat) (data : Nat) (answered : Bool) : (State.mdioDone s n data answered).rest fs = s.rest fs := by
  refine State.rest_weaken hfs ?_
  clear hfs fs
  unfold State.mdioDone
  repeat' split
  all_goals simp [*]

@[simp] theorem State.aniseDrop_rest {fs : Nat} (hfs : 4 &&& fs = 4) (s : State) : (State.aniseDrop s).rest fs = s.rest fs := by
  refine State.rest_weaken hfs ?_
  clear hfs fs
  simp [State.aniseDrop]

@[simp] theorem State.aniseAccept_rest {fs : Nat} (hfs : 12 &&& fs = 12) (s : State) (row : Nat) (sMax : Nat) (window : Nat) : (State.aniseAccept s row sMax window).rest fs = s.rest fs := by
  refine State.rest_weaken hfs ?_
  clear hfs fs
  simp [State.aniseAccept]

@[simp] theorem State.aniseCache_rest {fs : Nat} (hfs : 8 &&& fs = 8) (s : State) (row : Nat) (request : Bytes) (answer : Bytes) : (State.aniseCache s row request answer).rest fs = s.rest fs := by
  refine State.rest_weaken hfs ?_
  clear hfs fs
  simp [State.aniseCache]

@[simp] theorem State.aniseReply_rest {fs : Nat} (hfs : 14297951338572 &&& fs = 14297951338572) (s : State) (m : AniseMsg) (opcode : Nat) (row : Nat) (server : Nat) (status : Nat) (data : Bytes) (ks : Bytes) : (State.aniseReply s m opcode row server status data ks).rest fs = s.rest fs := by
  refine State.rest_weaken hfs ?_
  clear hfs fs
  simp [State.aniseReply]

@[simp] theorem State.aniseSession_rest {fs : Nat} (hfs : 14297951338572 &&& fs = 14297951338572) (s : State) (m : AniseMsg) (opcode : Nat) (f : State → Nat → Bytes → State)
    (hf : ∀ s n b, (f s n b).rest fs = s.rest fs) : (s.aniseSession m opcode f).rest fs = s.rest fs := by
  unfold State.aniseSession
  dsimp only
  split
  · rw [State.aniseDrop_rest (covers_trans hfs (by decide))]
  · split
    · rw [State.aniseDrop_rest (covers_trans hfs (by decide))]
    · split
      · split
        · rw [State.aniseReply_rest (covers_trans hfs (by decide)), State.aniseAccept_rest (covers_trans hfs (by decide))]
        · rw [hf, State.aniseAccept_rest (covers_trans hfs (by decide))]
      · rw [State.send_rest (covers_trans hfs (by decide))]
      · rw [State.count_rest (covers_trans hfs (by decide))]

theorem State.aniseIn_rest {fs : Nat} (hfs : 2199023271940 &&& fs = 2199023271940) (s : State) (m : AniseMsg) (f : State → State) (hf : ∀ s, (f s).rest fs = s.rest fs) {t0 : State} (h0 : s.aniseIn m f = .next t0) :
    t0.rest fs = s.rest fs := by
  unfold State.aniseIn at h0
  refine doneIf_rest (covers_trans hfs (by decide)) _ _ _ ?_ h0
  rw [State.when_rest _ _ _ (fun s => by split; (rw [State.aniseDrop_rest (covers_trans hfs (by decide))]); exact hf s)]

@[simp] theorem State.withoutSession_rest {fs : Nat} (hfs : 36 &&& fs = 36) (s : State) (f : State → State)
    (hf : ∀ s, (f s).rest fs = s.rest fs) : (s.withoutSession f).rest fs = s.rest fs := by
  have h5 : fs / 32 % 2 = 1 := bit_of 5 32 rfl hfs (by decide)
  unfold State.withoutSession
  dsimp only
  split
  · rw [State.aniseDrop_rest (covers_trans hfs (by decide))]; simp [h5]
  · rw [hf, State.count_rest (covers_trans hfs (by decide))]; simp [h5]

@[simp] theorem State.aniseRead_rest {fs : Nat} (hfs : 14298555320396 &&& fs = 14298555320396) (s : State) (m : AniseMsg) (row : Nat) (ks : Bytes) : (State.aniseRead s m row ks).rest fs = s.rest fs := by
  refine State.rest_weaken hfs ?_
  clear hfs fs
  unfold State.aniseRead
  repeat' split
  all_goals simp [*]

@[simp] theorem State.anisePublicRead_rest {fs : Nat} (hfs : 14297951338604 &&& fs = 14297951338604) (s : State) (m : AniseMsg) : (State.anisePublicRead s m).rest fs = s.rest fs := by
  refine State.rest_weaken hfs ?_
  clear hfs fs
  simp [State.anisePublicRead]

@[simp] theorem State.aniseWrite_rest {fs : Nat} (hfs : 14834621995486 &&& fs = 14834621995486) (s : State) (m : AniseMsg) (row : Nat) (ks : Bytes) : (State.aniseWrite s m row ks).rest fs = s.rest fs := by
  refine State.rest_weaken hfs ?_
  clear hfs fs
  unfold State.aniseWrite
  dsimp only
  repeat' split
  all_goals simp [*]

@[simp] theorem State.openAnswer_rest {fs : Nat} (hfs : 14297951338500 &&& fs = 14297951338500) (s : State) (m : AniseMsg) (status : Nat) (data : Bytes) : (State.openAnswer s m status data).rest fs = s.rest fs := by
  refine State.rest_weaken hfs ?_
  clear hfs fs
  simp [State.openAnswer]

@[simp] theorem State.aniseOpen_rest {fs : Nat} (hfs : 14297951338508 &&& fs = 14297951338508) (s : State) (m : AniseMsg) : (State.aniseOpen s m).rest fs = s.rest fs := by
  refine State.rest_weaken hfs ?_
  clear hfs fs
  unfold State.aniseOpen
  dsimp only
  repeat' split
  all_goals simp [*]

@[simp] theorem State.aniseAuth_rest {fs : Nat} (hfs : 14297951340572 &&& fs = 14297951340572) (s : State) (m : AniseMsg) (row : Nat) : (State.aniseAuth s m row).rest fs = s.rest fs := by
  refine State.rest_weaken hfs ?_
  clear hfs fs
  unfold State.aniseAuth
  dsimp only
  repeat' split
  all_goals simp [*]

@[simp] theorem State.aniseClose_rest {fs : Nat} (hfs : 14366670815692 &&& fs = 14366670815692) (s : State) (m : AniseMsg) (row : Nat) (ks : Bytes) : (State.aniseClose s m row ks).rest fs = s.rest fs := by
  refine State.rest_weaken hfs ?_
  clear hfs fs
  unfold State.aniseClose
  repeat' split
  all_goals simp [*]

@[simp] theorem State.bypass_rest {fs : Nat} (hfs : 549755813888 &&& fs = 549755813888) (s : State) : (State.bypass s).rest fs = s.rest fs := by
  refine State.rest_weaken hfs ?_
  clear hfs fs
  simp [State.bypass]

@[simp] theorem State.scan_rest {fs : Nat} (hfs : 13743895347200 &&& fs = 13743895347200) (s : State) (instr : Nat) (cells : Nat) : (State.scan s instr cells).rest fs = s.rest fs := by
  refine State.rest_weaken hfs ?_
  clear hfs fs
  unfold State.scan
  repeat' split
  all_goals simp [*]

@[simp] theorem State.sdoSend_rest {fs : Nat} (hfs : 8796093022216 &&& fs = 8796093022216) (s : State) (slot : Nat) (b0 : Nat) (rest : Bytes) : (State.sdoSend s slot b0 rest).rest fs = s.rest fs := by
  refine State.rest_weaken hfs ?_
  clear hfs fs
  simp [State.sdoSend]

@[simp] theorem State.sdoFailed_rest {fs : Nat} (hfs : 12 &&& fs = 12) (s : State) (code : Nat) : (State.sdoFailed s code).rest fs = s.rest fs := by
  refine State.rest_weaken hfs ?_
  clear hfs fs
  simp [State.sdoFailed]

@[simp] theorem State.sdoAbort_rest {fs : Nat} (hfs : 8796093023244 &&& fs = 8796093023244) (s : State) (slot : Nat) (mux : Nat) (code : Nat) : (State.sdoAbort s slot mux code).rest fs = s.rest fs := by
  refine State.rest_weaken hfs ?_
  clear hfs fs
  simp [State.sdoAbort]

@[simp] theorem State.sdoFinish_rest {fs : Nat} (hfs : 14834621996510 &&& fs = 14834621996510) (s : State) (slot mux : Nat) (data : Bytes) (b0 : Nat) (rest : Bytes) : (s.sdoFinish slot mux data b0 rest).rest fs = s.rest fs := by
  refine State.rest_weaken hfs ?_
  clear hfs fs
  unfold State.sdoFinish
  dsimp only
  rw [State.writeDone_rest (fs := 14834621996510) (by decide), State.odWrite_rest (fs := 14834621996510) (by decide)]
  rfl

@[simp] theorem State.sdoDownInit_rest {fs : Nat} (hfs : 14834621996510 &&& fs = 14834621996510) (s : State) (slot : Nat) (m : Bytes) : (State.sdoDownInit s slot m).rest fs = s.rest fs := by
  refine State.rest_weaken hfs ?_
  clear hfs fs
  unfold State.sdoDownInit
  dsimp only
  repeat' split
  all_goals simp [*]

@[simp] theorem State.sdoDownSeg_rest {fs : Nat} (hfs : 14834621996510 &&& fs = 14834621996510) (s : State) (slot : Nat) (m : Bytes) : (State.sdoDownSeg s slot m).rest fs = s.rest fs := by
  refine State.rest_weaken hfs ?_
  clear hfs fs
  unfold State.sdoDownSeg
  dsimp only
  repeat' split
  all_goals simp [*]

@[simp] theorem State.sdoBlockDown_rest {fs : Nat} (hfs : 14834621996510 &&& fs = 14834621996510) (s : State) (slot : Nat) (m : Bytes) : (State.sdoBlockDown s slot m).rest fs = s.rest fs := by
  refine State.rest_weaken hfs ?_
  clear hfs fs
  unfold State.sdoBlockDown
  dsimp only
  repeat' split
  all_goals simp [*]

@[simp] theorem State.sdoRead_rest {fs : Nat} (hfs : 14298555321420 &&& fs = 14298555321420) (s : State) (slot : Nat) (mux : Nat) (go : State → Bytes → SdoTransfer × Out) : (State.sdoRead s slot mux go).rest fs = s.rest fs := by
  refine State.rest_weaken hfs ?_
  clear hfs fs
  unfold State.sdoRead
  dsimp only
  repeat' split
  all_goals simp [*]

@[simp] theorem State.sdoUpInit_rest {fs : Nat} (hfs : 14298555321420 &&& fs = 14298555321420) (s : State) (slot : Nat) (m : Bytes) : (State.sdoUpInit s slot m).rest fs = s.rest fs := by
  refine State.rest_weaken hfs ?_
  clear hfs fs
  simp [State.sdoUpInit]

@[simp] theorem State.sdoUpSeg_rest {fs : Nat} (hfs : 8796093023244 &&& fs = 8796093023244) (s : State) (slot : Nat) (m : Bytes) : (State.sdoUpSeg s slot m).rest fs = s.rest fs := by
  refine State.rest_weaken hfs ?_
  clear hfs fs
  unfold State.sdoUpSeg
  dsimp only
  repeat' split
  all_goals simp [*]

@[simp] theorem State.sdoBlock_rest {fs : Nat} (hfs : 8796093023240 &&& fs = 8796093023240) (s : State) (slot : Nat) (mux : Nat) (data : Bytes) (pos : Nat) (blksize : Nat) (crc : Bool) : (State.sdoBlock s slot mux data pos blksize crc).rest fs = s.rest fs := by
  refine State.rest_weaken hfs ?_
  clear hfs fs
  simp [State.sdoBlock]

@[simp] theorem State.sdoBlockUp_rest {fs : Nat} (hfs : 14298555321420 &&& fs = 14298555321420) (s : State) (slot : Nat) (m : Bytes) : (State.sdoBlockUp s slot m).rest fs = s.rest fs := by
  refine State.rest_weaken hfs ?_
  clear hfs fs
  unfold State.sdoBlockUp
  dsimp only
  repeat' split
  all_goals simp [*]

theorem State.sdoRequest_rest {fs : Nat} (hfs : 10995116295180 &&& fs = 10995116295180) (s : State) (slot : Nat) (m : Bytes) (k : SdoKind) (f : State → State) (hf : ∀ s, (f s).rest fs = s.rest fs) {t0 : State}
    (h0 : s.sdoRequest slot m k f = .next t0) : t0.rest fs = s.rest fs := by
  unfold State.sdoRequest at h0
  have h5 : fs / 1024 % 2 = 1 := bit_of 10 1024 rfl hfs (by decide)
  refine doneIf_rest (covers_trans hfs (by decide)) _ _ _ ?_ h0
  rw [State.when_rest _ _ _ (fun s => ?_)]
  split
  · exact hf s
  · split
    · simp [h5]
    · split
      · rw [State.sdoAbort_rest (covers_trans hfs (by decide))]
      · rfl

@[simp] theorem State.sdoTimeout_rest {fs : Nat} (hfs : 8796093023232 &&& fs = 8796093023232) (s : State) : (State.sdoTimeout s).rest fs = s.rest fs := by
  refine State.rest_weaken hfs ?_
  clear hfs fs
  unfold State.sdoTimeout
  repeat' split
  all_goals simp [*]

end Sys2Proof.Machine
end

