-- ==== Sys2Proof/Laws/RestCommands.lean ====
section
/-! SUPPORT. One lemma per command: the fields of the state that its meaning can change; the mask names them. -/

namespace Sys2Proof.Machine
open Sys2Proof

theorem execLearnRequest_rest {fs : Nat} (hfs : 2199023304708 &&& fs = 2199023304708) (die : Nat) (s : State) {t0 : State} (h0 : (execLearnRequest die s) = .next t0) : t0.rest fs = s.rest fs := by
  refine State.rest_weaken hfs ?_
  clear hfs fs
  unfold execLearnRequest at h0
  refine doneIf_rest (fs := 2199023304708) (by decide) _ _ _ ?_ h0
  simp

theorem execSweeperVisit_rest {fs : Nat} (hfs : 2199023304708 &&& fs = 2199023304708) (die : Nat) (s : State) {t0 : State} (h0 : (execSweeperVisit die s) = .next t0) : t0.rest fs = s.rest fs := by
  refine State.rest_weaken hfs ?_
  clear hfs fs
  unfold execSweeperVisit at h0
  refine doneIf_rest (fs := 2199023304708) (by decide) _ _ _ ?_ h0
  simp

theorem execEvidenceIntervalEnd_rest {fs : Nat} (hfs : 2199031693312 &&& fs = 2199031693312) (limiter : Nat) (s : State) {t0 : State} (h0 : (execEvidenceIntervalEnd limiter s) = .next t0) : t0.rest fs = s.rest fs := by
  refine State.rest_weaken hfs ?_
  clear hfs fs
  unfold execEvidenceIntervalEnd at h0
  simpa using done_rest (fs := 2199031693312) (by decide) _ h0

theorem execTapIntervalEnd_rest {fs : Nat} (hfs : 2199023304704 &&& fs = 2199023304704) (die : Nat) (row : Nat) (s : State) {t0 : State} (h0 : (execTapIntervalEnd die row s) = .next t0) : t0.rest fs = s.rest fs := by
  refine State.rest_weaken hfs ?_
  clear hfs fs
  unfold execTapIntervalEnd at h0
  refine doneIf_rest (fs := 2199023304704) (by decide) _ _ _ ?_ h0
  simp

theorem execHoldTimeExpiry_rest {fs : Nat} (hfs : 12098928099332 &&& fs = 12098928099332) (slot : Nat) (s : State) {t0 : State} (h0 : (execHoldTimeExpiry slot s) = .next t0) : t0.rest fs = s.rest fs := by
  refine State.rest_weaken hfs ?_
  clear hfs fs
  unfold execHoldTimeExpiry at h0
  refine doneIf_rest (fs := 12098928099332) (by decide) _ _ _ ?_ h0
  simp

theorem execDrainTimeout_rest {fs : Nat} (hfs : 12098928099332 &&& fs = 12098928099332) (slot : Nat) (s : State) {t0 : State} (h0 : (execDrainTimeout slot s) = .next t0) : t0.rest fs = s.rest fs := by
  refine State.rest_weaken hfs ?_
  clear hfs fs
  unfold execDrainTimeout at h0
  refine doneIf_rest (fs := 12098928099332) (by decide) _ _ _ ?_ h0
  simp

theorem execCanFrameReceive_rest {fs : Nat} (hfs : 16524380198916 &&& fs = 16524380198916) (slot : Nat) (frame : Frame) (s : State) {t0 : State} (h0 : (execCanFrameReceive slot frame s) = .next t0) : t0.rest fs = s.rest fs := by
  refine State.rest_weaken hfs ?_
  clear hfs fs
  unfold execCanFrameReceive at h0
  refine doneIf_rest (fs := 16524380198916) (by decide) _ _ _ ?_ h0
  simp

theorem execCanProtocolException_rest {fs : Nat} (hfs : 12098928099332 &&& fs = 12098928099332) (slot : Nat) (s : State) {t0 : State} (h0 : (execCanProtocolException slot s) = .next t0) : t0.rest fs = s.rest fs := by
  refine State.rest_weaken hfs ?_
  clear hfs fs
  unfold execCanProtocolException at h0
  refine doneIf_rest (fs := 12098928099332) (by decide) _ _ _ ?_ h0
  simp

theorem execCanBusIntegration_rest {fs : Nat} (hfs : 10995120553988 &&& fs = 10995120553988) (slot : Nat) (s : State) {t0 : State} (h0 : (execCanBusIntegration slot s) = .next t0) : t0.rest fs = s.rest fs := by
  refine State.rest_weaken hfs ?_
  clear hfs fs
  unfold execCanBusIntegration at h0
  refine doneIf_rest (fs := 10995120553988) (by decide) _ _ _ ?_ h0
  simp

theorem execCanReceiveError_rest {fs : Nat} (hfs : 12099464972292 &&& fs = 12099464972292) (slot : Nat) (_err : CanRxError) (s : State) {t0 : State} (h0 : (execCanReceiveError slot _err s) = .next t0) : t0.rest fs = s.rest fs := by
  refine State.rest_weaken hfs ?_
  clear hfs fs
  unfold execCanReceiveError at h0
  refine doneIf_rest (fs := 12099464972292) (by decide) _ _ _ ?_ h0
  simp

theorem execCanTransmitError_rest {fs : Nat} (hfs : 12099464972292 &&& fs = 12099464972292) (slot : Nat) (err : CanTxError) (s : State) {t0 : State} (h0 : (execCanTransmitError slot err s) = .next t0) : t0.rest fs = s.rest fs := by
  refine State.rest_weaken hfs ?_
  clear hfs fs
  unfold execCanTransmitError at h0
  refine doneIf_rest (fs := 12099464972292) (by decide) _ _ _ ?_ h0
  simp

theorem execCanTransmitComplete_rest {fs : Nat} (hfs : 12109128648708 &&& fs = 12109128648708) (slot : Nat) (delay : Nat) (s : State) {t0 : State} (h0 : (execCanTransmitComplete slot delay s) = .next t0) : t0.rest fs = s.rest fs := by
  refine State.rest_weaken hfs ?_
  clear hfs fs
  unfold execCanTransmitComplete at h0
  refine doneIf_rest (fs := 12109128648708) (by decide) _ _ _ ?_ h0
  simp

theorem execCanArbitrationLost_rest {fs : Nat} (hfs : 12098928099332 &&& fs = 12098928099332) (slot : Nat) (s : State) {t0 : State} (h0 : (execCanArbitrationLost slot s) = .next t0) : t0.rest fs = s.rest fs := by
  refine State.rest_weaken hfs ?_
  clear hfs fs
  unfold execCanArbitrationLost at h0
  refine doneIf_rest (fs := 12098928099332) (by decide) _ _ _ ?_ h0
  simp

theorem execBusOffRestartTimeout_rest {fs : Nat} (hfs : 2199027466240 &&& fs = 2199027466240) (slot : Nat) (s : State) {t0 : State} (h0 : (execBusOffRestartTimeout slot s) = .next t0) : t0.rest fs = s.rest fs := by
  refine State.rest_weaken hfs ?_
  clear hfs fs
  unfold execBusOffRestartTimeout at h0
  refine doneIf_rest (fs := 2199027466240) (by decide) _ _ _ ?_ h0
  simp

theorem execRecoverySequenceComplete_rest {fs : Nat} (hfs : 10995120553988 &&& fs = 10995120553988) (slot : Nat) (s : State) {t0 : State} (h0 : (execRecoverySequenceComplete slot s) = .next t0) : t0.rest fs = s.rest fs := by
  refine State.rest_weaken hfs ?_
  clear hfs fs
  unfold execRecoverySequenceComplete at h0
  refine doneIf_rest (fs := 10995120553988) (by decide) _ _ _ ?_ h0
  simp

theorem execLinHeader_rest {fs : Nat} (hfs : 12109128646660 &&& fs = 12109128646660) (slot : Nat) (id : Nat) (syncOk : Bool) (readBackOk : Bool) (s : State) {t0 : State} (h0 : (execLinHeader slot id syncOk readBackOk s) = .next t0) : t0.rest fs = s.rest fs := by
  refine State.rest_weaken hfs ?_
  clear hfs fs
  unfold execLinHeader at h0
  refine doneIf_rest (fs := 12109128646660) (by decide) _ _ _ ?_ h0
  simp

theorem execLinResponseReceive_rest {fs : Nat} (hfs : 12109128650756 &&& fs = 12109128650756) (slot : Nat) (id : Nat) (data : Bytes) (check : LinCheck) (s : State) {t0 : State} (h0 : (execLinResponseReceive slot id data check s) = .next t0) : t0.rest fs = s.rest fs := by
  refine State.rest_weaken hfs ?_
  clear hfs fs
  unfold execLinResponseReceive at h0
  refine doneIf_rest (fs := 12109128650756) (by decide) _ _ _ ?_ h0
  simp

theorem execLinNoResponse_rest {fs : Nat} (hfs : 12098928099332 &&& fs = 12098928099332) (slot : Nat) (s : State) {t0 : State} (h0 : (execLinNoResponse slot s) = .next t0) : t0.rest fs = s.rest fs := by
  refine State.rest_weaken hfs ?_
  clear hfs fs
  unfold execLinNoResponse at h0
  refine doneIf_rest (fs := 12098928099332) (by decide) _ _ _ ?_ h0
  simp

theorem execLinScheduleSlot_rest {fs : Nat} (hfs : 12098928099332 &&& fs = 12098928099332) (slot : Nat) (s : State) {t0 : State} (h0 : (execLinScheduleSlot slot s) = .next t0) : t0.rest fs = s.rest fs := by
  refine State.rest_weaken hfs ?_
  clear hfs fs
  unfold execLinScheduleSlot at h0
  refine doneIf_rest (fs := 12098928099332) (by decide) _ _ _ ?_ h0
  simp

theorem execLinBusStuck_rest {fs : Nat} (hfs : 12099464970244 &&& fs = 12099464970244) (slot : Nat) (s : State) {t0 : State} (h0 : (execLinBusStuck slot s) = .next t0) : t0.rest fs = s.rest fs := by
  refine State.rest_weaken hfs ?_
  clear hfs fs
  unfold execLinBusStuck at h0
  refine doneIf_rest (fs := 12099464970244) (by decide) _ _ _ ?_ h0
  simp

theorem execLinBusRecover_rest {fs : Nat} (hfs : 10995120553988 &&& fs = 10995120553988) (slot : Nat) (s : State) {t0 : State} (h0 : (execLinBusRecover slot s) = .next t0) : t0.rest fs = s.rest fs := by
  refine State.rest_weaken hfs ?_
  clear hfs fs
  unfold execLinBusRecover at h0
  refine doneIf_rest (fs := 10995120553988) (by decide) _ _ _ ?_ h0
  simp

theorem execWakePulseEnd_rest {fs : Nat} (hfs : 2199027466240 &&& fs = 2199027466240) (slot : Nat) (s : State) {t0 : State} (h0 : (execWakePulseEnd slot s) = .next t0) : t0.rest fs = s.rest fs := by
  refine State.rest_weaken hfs ?_
  clear hfs fs
  unfold execWakePulseEnd at h0
  refine doneIf_rest (fs := 2199027466240) (by decide) _ _ _ ?_ h0
  simp

theorem execSessionIdleTimeout_rest {fs : Nat} (hfs : 2267742749068 &&& fs = 2267742749068) (sess : Nat) (s : State) {t0 : State} (h0 : (execSessionIdleTimeout sess s) = .next t0) : t0.rest fs = s.rest fs := by
  refine State.rest_weaken hfs ?_
  clear hfs fs
  unfold execSessionIdleTimeout at h0
  simpa using done_rest (fs := 2267742749068) (by decide) _ h0

theorem execPendingSessionLapse_rest {fs : Nat} (hfs : 2199023271944 &&& fs = 2199023271944) (row : Nat) (s : State) {t0 : State} (h0 : (execPendingSessionLapse row s) = .next t0) : t0.rest fs = s.rest fs := by
  refine State.rest_weaken hfs ?_
  clear hfs fs
  unfold execPendingSessionLapse at h0
  rw [done_rest (fs := 2199023271944) (by decide) _ h0]
  refine State.when_rest _ _ _ ?_
  intro s
  (repeat' split) <;> simp

theorem execLockoutEnd_rest {fs : Nat} (hfs : 2199023271952 &&& fs = 2199023271952) (ap : Nat) (s : State) {t0 : State} (h0 : (execLockoutEnd ap s) = .next t0) : t0.rest fs = s.rest fs := by
  refine State.rest_weaken hfs ?_
  clear hfs fs
  unfold execLockoutEnd at h0
  rw [done_rest (fs := 2199023271952) (by decide) _ h0]
  refine State.when_rest _ _ _ ?_
  intro s
  (repeat' split) <;> simp

theorem execControlLinkSilent_rest {fs : Nat} (hfs : 11003443267972 &&& fs = 11003443267972) (die : Nat) (s : State) {t0 : State} (h0 : (execControlLinkSilent die s) = .next t0) : t0.rest fs = s.rest fs := by
  refine State.rest_weaken hfs ?_
  clear hfs fs
  unfold execControlLinkSilent at h0
  refine doneIf_rest (fs := 11003443267972) (by decide) _ _ _ ?_ h0
  simp

theorem execControlLinkReset_rest {fs : Nat} (hfs : 2199023304704 &&& fs = 2199023304704) (die : Nat) (s : State) {t0 : State} (h0 : (execControlLinkReset die s) = .next t0) : t0.rest fs = s.rest fs := by
  refine State.rest_weaken hfs ?_
  clear hfs fs
  unfold execControlLinkReset at h0
  refine doneIf_rest (fs := 2199023304704) (by decide) _ _ _ ?_ h0
  simp

theorem execStageStall_rest {fs : Nat} (hfs : 11003443267972 &&& fs = 11003443267972) (die : Nat) (s : State) {t0 : State} (h0 : (execStageStall die s) = .next t0) : t0.rest fs = s.rest fs := by
  refine State.rest_weaken hfs ?_
  clear hfs fs
  unfold execStageStall at h0
  refine doneIf_rest (fs := 11003443267972) (by decide) _ _ _ ?_ h0
  simp

theorem execKeepAlive_rest {fs : Nat} (hfs : 2199024320512 &&& fs = 2199024320512) (die : Nat) (e : Nat) (s : State) {t0 : State} (h0 : (execKeepAlive die e s) = .next t0) : t0.rest fs = s.rest fs := by
  refine State.rest_weaken hfs ?_
  clear hfs fs
  unfold execKeepAlive at h0
  refine doneIf_rest (fs := 2199024320512) (by decide) _ _ _ ?_ h0
  simp

theorem execLinkEndFail_rest {fs : Nat} (hfs : 12102955682180 &&& fs = 12102955682180) (die : Nat) (e : Nat) (s : State) {t0 : State} (h0 : (execLinkEndFail die e s) = .next t0) : t0.rest fs = s.rest fs := by
  refine State.rest_weaken hfs ?_
  clear hfs fs
  unfold execLinkEndFail at h0
  refine doneIf_rest (fs := 12102955682180) (by decide) _ _ _ ?_ h0
  simp

theorem execLinkEndRecover_rest {fs : Nat} (hfs : 2199292788740 &&& fs = 2199292788740) (die : Nat) (e : Nat) (s : State) {t0 : State} (h0 : (execLinkEndRecover die e s) = .next t0) : t0.rest fs = s.rest fs := by
  refine State.rest_weaken hfs ?_
  clear hfs fs
  unfold execLinkEndRecover at h0
  refine doneIf_rest (fs := 2199292788740) (by decide) _ _ _ ?_ h0
  simp

theorem execHealthSummaryIntervalEnd_rest {fs : Nat} (hfs : 2199023306752 &&& fs = 2199023306752) (s : State) {t0 : State} (h0 : (execHealthSummaryIntervalEnd s) = .next t0) : t0.rest fs = s.rest fs := by
  refine State.rest_weaken hfs ?_
  clear hfs fs
  unfold execHealthSummaryIntervalEnd at h0
  simpa using done_rest (fs := 2199023306752) (by decide) _ h0

theorem execGptpIntervalExpiry_rest {fs : Nat} (hfs : 15410984437764 &&& fs = 15410984437764) (slot : Nat) (kind : GptpTimer) (s : State) {t0 : State} (h0 : (execGptpIntervalExpiry slot kind s) = .next t0) : t0.rest fs = s.rest fs := by
  refine State.rest_weaken hfs ?_
  clear hfs fs
  unfold execGptpIntervalExpiry at h0
  refine doneIf_rest (fs := 15410984437764) (by decide) _ _ _ ?_ h0
  simp

theorem execEthFrameReceive_rest {fs : Nat} (hfs : 16524480862214 &&& fs = 16524480862214) (slot : Nat) (bytes : Bytes) (fcsOk : Bool) (s : State) {t0 : State} (h0 : (execEthFrameReceive slot bytes fcsOk s) = .next t0) : t0.rest fs = s.rest fs := by
  refine State.rest_weaken hfs ?_
  clear hfs fs
  unfold execEthFrameReceive at h0
  refine doneIf_rest (fs := 16524480862214) (by decide) _ _ _ ?_ h0
  simp

theorem execPauseTimerExpiry_rest {fs : Nat} (hfs : 2199027466244 &&& fs = 2199027466244) (slot : Nat) (cls : Nat) (s : State) {t0 : State} (h0 : (execPauseTimerExpiry slot cls s) = .next t0) : t0.rest fs = s.rest fs := by
  refine State.rest_weaken hfs ?_
  clear hfs fs
  unfold execPauseTimerExpiry at h0
  refine doneIf_rest (fs := 2199027466244) (by decide) _ _ _ ?_ h0
  simp

theorem execPauseWatchdogExpiry_rest {fs : Nat} (hfs : 2199564371972 &&& fs = 2199564371972) (slot : Nat) (cls : Nat) (s : State) {t0 : State} (h0 : (execPauseWatchdogExpiry slot cls s) = .next t0) : t0.rest fs = s.rest fs := by
  refine State.rest_weaken hfs ?_
  clear hfs fs
  unfold execPauseWatchdogExpiry at h0
  refine doneIf_rest (fs := 2199564371972) (by decide) _ _ _ ?_ h0
  simp

theorem execPausePenaltyEnd_rest {fs : Nat} (hfs : 2199027466244 &&& fs = 2199027466244) (slot : Nat) (cls : Nat) (s : State) {t0 : State} (h0 : (execPausePenaltyEnd slot cls s) = .next t0) : t0.rest fs = s.rest fs := by
  refine State.rest_weaken hfs ?_
  clear hfs fs
  unfold execPausePenaltyEnd at h0
  refine doneIf_rest (fs := 2199027466244) (by decide) _ _ _ ?_ h0
  simp

theorem execPauseRefresh_rest {fs : Nat} (hfs : 10995120488452 &&& fs = 10995120488452) (slot : Nat) (cls : Nat) (s : State) {t0 : State} (h0 : (execPauseRefresh slot cls s) = .next t0) : t0.rest fs = s.rest fs := by
  refine State.rest_weaken hfs ?_
  clear hfs fs
  unfold execPauseRefresh at h0
  refine doneIf_rest (fs := 10995120488452) (by decide) _ _ _ ?_ h0
  simp

theorem execLinkLoss_rest {fs : Nat} (hfs : 12098928099332 &&& fs = 12098928099332) (slot : Nat) (loss : LaneLoss) (s : State) {t0 : State} (h0 : (execLinkLoss slot loss s) = .next t0) : t0.rest fs = s.rest fs := by
  refine State.rest_weaken hfs ?_
  clear hfs fs
  unfold execLinkLoss at h0
  refine doneIf_rest (fs := 12098928099332) (by decide) _ _ _ ?_ h0
  simp

theorem execLinkUp_rest {fs : Nat} (hfs : 16496974610436 &&& fs = 16496974610436) (lane : LaneUp) (s : State) {t0 : State} (h0 : (execLinkUp lane s) = .next t0) : t0.rest fs = s.rest fs := by
  refine State.rest_weaken hfs ?_
  clear hfs fs
  unfold execLinkUp at h0
  refine doneIf_rest (fs := 16496974610436) (by decide) _ _ _ ?_ h0
  simp

theorem execSgmiiControlWord_rest {fs : Nat} (hfs : 16496974610436 &&& fs = 16496974610436) (slot : Nat) (up : Bool) (fullDuplex : Bool) (speed : Nat) (s : State) {t0 : State} (h0 : (execSgmiiControlWord slot up fullDuplex speed s) = .next t0) : t0.rest fs = s.rest fs := by
  refine State.rest_weaken hfs ?_
  clear hfs fs
  unfold execSgmiiControlWord at h0
  refine doneIf_rest (fs := 16496974610436) (by decide) _ _ _ ?_ h0
  simp

theorem execLinkDownDelayExpiry_rest {fs : Nat} (hfs : 12099464972292 &&& fs = 12099464972292) (slot : Nat) (s : State) {t0 : State} (h0 : (execLinkDownDelayExpiry slot s) = .next t0) : t0.rest fs = s.rest fs := by
  refine State.rest_weaken hfs ?_
  clear hfs fs
  unfold execLinkDownDelayExpiry at h0
  refine doneIf_rest (fs := 12099464972292) (by decide) _ _ _ ?_ h0
  simp

theorem execLinkUpDelayExpiry_rest {fs : Nat} (hfs : 10995120553988 &&& fs = 10995120553988) (slot : Nat) (s : State) {t0 : State} (h0 : (execLinkUpDelayExpiry slot s) = .next t0) : t0.rest fs = s.rest fs := by
  refine State.rest_weaken hfs ?_
  clear hfs fs
  unfold execLinkUpDelayExpiry at h0
  refine doneIf_rest (fs := 10995120553988) (by decide) _ _ _ ?_ h0
  simp

theorem execEthTransmitComplete_rest {fs : Nat} (hfs : 12109128646660 &&& fs = 12109128646660) (slot : Nat) (s : State) {t0 : State} (h0 : (execEthTransmitComplete slot s) = .next t0) : t0.rest fs = s.rest fs := by
  refine State.rest_weaken hfs ?_
  clear hfs fs
  unfold execEthTransmitComplete at h0
  refine doneIf_rest (fs := 12109128646660) (by decide) _ _ _ ?_ h0
  simp

theorem execFabricCellReceive_rest {fs : Nat} (hfs : 12100673980420 &&& fs = 12100673980420) (die : Nat) (e : Nat) (crcOk : Bool) (s : State) {t0 : State} (h0 : (execFabricCellReceive die e crcOk s) = .next t0) : t0.rest fs = s.rest fs := by
  refine State.rest_weaken hfs ?_
  clear hfs fs
  unfold execFabricCellReceive at h0
  refine doneIf_rest (fs := 12100673980420) (by decide) _ _ _ ?_ h0
  simp

theorem execPathMarkerAck_rest {fs : Nat} (hfs : 2199025369088 &&& fs = 2199025369088) (src : Nat) (dst : Nat) (cls : Nat) (s : State) {t0 : State} (h0 : (execPathMarkerAck src dst cls s) = .next t0) : t0.rest fs = s.rest fs := by
  refine State.rest_weaken hfs ?_
  clear hfs fs
  unfold execPathMarkerAck at h0
  refine doneIf_rest (fs := 2199025369088) (by decide) _ _ _ ?_ h0
  refine State.when_rest _ _ _ ?_
  intro s
  (repeat' split) <;> simp

theorem execAtomicCreditReturn_rest {fs : Nat} (hfs : 2203318763520 &&& fs = 2203318763520) (group : Nat) (member : Nat) (cells : Nat) (s : State) {t0 : State} (h0 : (execAtomicCreditReturn group member cells s) = .next t0) : t0.rest fs = s.rest fs := by
  refine State.rest_weaken hfs ?_
  clear hfs fs
  unfold execAtomicCreditReturn at h0
  rw [done_rest (fs := 2203318763520) (by decide) _ h0]
  (repeat' split) <;> simp

theorem execPortDequeue_rest {fs : Nat} (hfs : 12116746553348 &&& fs = 12116746553348) (die : Nat) (q : Nat) (s : State) {t0 : State} (h0 : (execPortDequeue die q s) = .next t0) : t0.rest fs = s.rest fs := by
  refine State.rest_weaken hfs ?_
  clear hfs fs
  unfold execPortDequeue at h0
  refine doneIf_rest (fs := 12116746553348) (by decide) _ _ _ ?_ h0
  simp

theorem execTunnelEngineTake_rest {fs : Nat} (hfs : 12101075582980 &&& fs = 12101075582980) (die : Nat) (engine : Nat) (s : State) {t0 : State} (h0 : (execTunnelEngineTake die engine s) = .next t0) : t0.rest fs = s.rest fs := by
  refine State.rest_weaken hfs ?_
  clear hfs fs
  unfold execTunnelEngineTake at h0
  refine doneIf_rest (fs := 12101075582980) (by decide) _ _ _ ?_ h0
  simp

theorem execFlushTimerExpiry_rest {fs : Nat} (hfs : 12101074796548 &&& fs = 12101074796548) (row : Nat) (s : State) {t0 : State} (h0 : (execFlushTimerExpiry row s) = .next t0) : t0.rest fs = s.rest fs := by
  refine State.rest_weaken hfs ?_
  clear hfs fs
  unfold execFlushTimerExpiry at h0
  rw [done_rest (fs := 12101074796548) (by decide) _ h0]
  refine State.when_rest _ _ _ ?_
  intro s
  (repeat' split) <;> simp

theorem execTunnelDecapsulate_rest {fs : Nat} (hfs : 12101083973636 &&& fs = 12101083973636) (die : Nat) (s : State) {t0 : State} (h0 : (execTunnelDecapsulate die s) = .next t0) : t0.rest fs = s.rest fs := by
  refine State.rest_weaken hfs ?_
  clear hfs fs
  unfold execTunnelDecapsulate at h0
  refine doneIf_rest (fs := 12101083973636) (by decide) _ _ _ ?_ h0
  (repeat' split) <;> simp

theorem execResyncTimeout_rest {fs : Nat} (hfs : 2201170755584 &&& fs = 2201170755584) (row : Nat) (s : State) {t0 : State} (h0 : (execResyncTimeout row s) = .next t0) : t0.rest fs = s.rest fs := by
  refine State.rest_weaken hfs ?_
  clear hfs fs
  unfold execResyncTimeout at h0
  simpa using done_rest (fs := 2201170755584) (by decide) _ h0

theorem execInterruptSourceFire_rest {fs : Nat} (hfs : 2199560142848 &&& fs = 2199560142848) (die : Nat) (source : Nat) (target : Nat) (s : State) {t0 : State} (h0 : (execInterruptSourceFire die source target s) = .next t0) : t0.rest fs = s.rest fs := by
  refine State.rest_weaken hfs ?_
  clear hfs fs
  unfold execInterruptSourceFire at h0
  refine doneIf_rest (fs := 2199560142848) (by decide) _ _ _ ?_ h0
  simp (maxDischargeDepth := 8)

theorem execIntcClaim_rest {fs : Nat} (hfs : 10995653165056 &&& fs = 10995653165056) (die : Nat) (s : State) {t0 : State} (h0 : (execIntcClaim die s) = .next t0) : t0.rest fs = s.rest fs := by
  refine State.rest_weaken hfs ?_
  clear hfs fs
  unfold execIntcClaim at h0
  refine doneIf_rest (fs := 10995653165056) (by decide) _ _ _ ?_ h0
  simp

theorem execIntcComplete_rest {fs : Nat} (hfs : 2199560142848 &&& fs = 2199560142848) (die : Nat) (value : Word) (s : State) {t0 : State} (h0 : (execIntcComplete die value s) = .next t0) : t0.rest fs = s.rest fs := by
  refine State.rest_weaken hfs ?_
  clear hfs fs
  unfold execIntcComplete at h0
  refine doneIf_rest (fs := 2199560142848) (by decide) _ _ _ ?_ h0
  simp

theorem execIntcDoorbell_rest {fs : Nat} (hfs : 2199560142848 &&& fs = 2199560142848) (die : Nat) (value : Word) (s : State) {t0 : State} (h0 : (execIntcDoorbell die value s) = .next t0) : t0.rest fs = s.rest fs := by
  refine State.rest_weaken hfs ?_
  clear hfs fs
  unfold execIntcDoorbell at h0
  refine doneIf_rest (fs := 2199560142848) (by decide) _ _ _ ?_ h0
  simp

theorem execIntcRdoorbell_rest {fs : Nat} (hfs : 2199560142848 &&& fs = 2199560142848) (die : Nat) (sender : Nat) (value : Word) (s : State) {t0 : State} (h0 : (execIntcRdoorbell die sender value s) = .next t0) : t0.rest fs = s.rest fs := by
  refine State.rest_weaken hfs ?_
  clear hfs fs
  unfold execIntcRdoorbell at h0
  refine doneIf_rest (fs := 2199560142848) (by decide) _ _ _ ?_ h0
  simp

theorem execIntcSetpend_rest {fs : Nat} (hfs : 2199560142848 &&& fs = 2199560142848) (die : Nat) (word : Nat) (value : Word) (s : State) {t0 : State} (h0 : (execIntcSetpend die word value s) = .next t0) : t0.rest fs = s.rest fs := by
  refine State.rest_weaken hfs ?_
  clear hfs fs
  unfold execIntcSetpend at h0
  refine doneIf_rest (fs := 2199560142848) (by decide) _ _ _ ?_ h0
  simp (maxDischargeDepth := 8)

theorem execTmrCtrlWrite_rest {fs : Nat} (hfs : 2200097013760 &&& fs = 2200097013760) (die : Nat) (timer : Nat) (value : Word) (s : State) {t0 : State} (h0 : (execTmrCtrlWrite die timer value s) = .next t0) : t0.rest fs = s.rest fs := by
  refine State.rest_weaken hfs ?_
  clear hfs fs
  unfold execTmrCtrlWrite at h0
  refine doneIf_rest (fs := 2200097013760) (by decide) _ _ _ ?_ h0
  simp (maxDischargeDepth := 8)

theorem execTimerExpiry_rest {fs : Nat} (hfs : 2200633884672 &&& fs = 2200633884672) (die : Nat) (timer : Nat) (s : State) {t0 : State} (h0 : (execTimerExpiry die timer s) = .next t0) : t0.rest fs = s.rest fs := by
  refine State.rest_weaken hfs ?_
  clear hfs fs
  unfold execTimerExpiry at h0
  refine doneIf_rest (fs := 2200633884672) (by decide) _ _ _ ?_ h0
  simp (maxDischargeDepth := 8)

theorem execTmrClaim_rest {fs : Nat} (hfs : 2200097013760 &&& fs = 2200097013760) (die : Nat) (timer : Nat) (pair : Nat) (s : State) {t0 : State} (h0 : (execTmrClaim die timer pair s) = .next t0) : t0.rest fs = s.rest fs := by
  refine State.rest_weaken hfs ?_
  clear hfs fs
  unfold execTmrClaim at h0
  refine doneIf_rest (fs := 2200097013760) (by decide) _ _ _ ?_ h0
  simp (maxDischargeDepth := 8)

theorem execTmrRelease_rest {fs : Nat} (hfs : 2200097013760 &&& fs = 2200097013760) (die : Nat) (timer : Nat) (pair : Nat) (s : State) {t0 : State} (h0 : (execTmrRelease die timer pair s) = .next t0) : t0.rest fs = s.rest fs := by
  refine State.rest_weaken hfs ?_
  clear hfs fs
  unfold execTmrRelease at h0
  refine doneIf_rest (fs := 2200097013760) (by decide) _ _ _ ?_ h0
  simp (maxDischargeDepth := 8)

theorem execPinClaim_rest {fs : Nat} (hfs : 2200097013760 &&& fs = 2200097013760) (die : Nat) (pin : Nat) (pair : Nat) (s : State) {t0 : State} (h0 : (execPinClaim die pin pair s) = .next t0) : t0.rest fs = s.rest fs := by
  refine State.rest_weaken hfs ?_
  clear hfs fs
  unfold execPinClaim at h0
  refine doneIf_rest (fs := 2200097013760) (by decide) _ _ _ ?_ h0
  simp (maxDischargeDepth := 8)

theorem execPinRelease_rest {fs : Nat} (hfs : 2200097013760 &&& fs = 2200097013760) (die : Nat) (pin : Nat) (pair : Nat) (s : State) {t0 : State} (h0 : (execPinRelease die pin pair s) = .next t0) : t0.rest fs = s.rest fs := by
  refine State.rest_weaken hfs ?_
  clear hfs fs
  unfold execPinRelease at h0
  refine doneIf_rest (fs := 2200097013760) (by decide) _ _ _ ?_ h0
  simp (maxDischargeDepth := 8)

theorem execPinsDoutWrite_rest {fs : Nat} (hfs : 2200097013760 &&& fs = 2200097013760) (die : Nat) (pair : Nat) (value : Word) (s : State) {t0 : State} (h0 : (execPinsDoutWrite die pair value s) = .next t0) : t0.rest fs = s.rest fs := by
  refine State.rest_weaken hfs ?_
  clear hfs fs
  unfold execPinsDoutWrite at h0
  refine doneIf_rest (fs := 2200097013760) (by decide) _ _ _ ?_ h0
  simp (maxDischargeDepth := 8)

theorem execQpRxItemWrite_rest {fs : Nat} (hfs : 12100538712068 &&& fs = 12100538712068) (die : Nat) (s : State) {t0 : State} (h0 : (execQpRxItemWrite die s) = .next t0) : t0.rest fs = s.rest fs := by
  refine State.rest_weaken hfs ?_
  clear hfs fs
  unfold execQpRxItemWrite at h0
  refine doneIf_rest (fs := 12100538712068) (by decide) _ _ _ ?_ h0
  simp

theorem execQpTxItemTake_rest {fs : Nat} (hfs : 12100538712068 &&& fs = 12100538712068) (die : Nat) (s : State) {t0 : State} (h0 : (execQpTxItemTake die s) = .next t0) : t0.rest fs = s.rest fs := by
  refine State.rest_weaken hfs ?_
  clear hfs fs
  unfold execQpTxItemTake at h0
  refine doneIf_rest (fs := 12100538712068) (by decide) _ _ _ ?_ h0
  simp

theorem execQpTxpush_rest {fs : Nat} (hfs : 2200633884672 &&& fs = 2200633884672) (die : Nat) (qp : Nat) (value : Word) (s : State) {t0 : State} (h0 : (execQpTxpush die qp value s) = .next t0) : t0.rest fs = s.rest fs := by
  refine State.rest_weaken hfs ?_
  clear hfs fs
  unfold execQpTxpush at h0
  refine doneIf_rest (fs := 2200633884672) (by decide) _ _ _ ?_ h0
  simp (maxDischargeDepth := 8)

theorem execQpRxadv_rest {fs : Nat} (hfs : 2200097013760 &&& fs = 2200097013760) (die : Nat) (qp : Nat) (value : Word) (s : State) {t0 : State} (h0 : (execQpRxadv die qp value s) = .next t0) : t0.rest fs = s.rest fs := by
  refine State.rest_weaken hfs ?_
  clear hfs fs
  unfold execQpRxadv at h0
  refine doneIf_rest (fs := 2200097013760) (by decide) _ _ _ ?_ h0
  simp (maxDischargeDepth := 8)

theorem execQpMark_rest {fs : Nat} (hfs : 2200097013760 &&& fs = 2200097013760) (die : Nat) (qp : Nat) (s : State) {t0 : State} (h0 : (execQpMark die qp s) = .next t0) : t0.rest fs = s.rest fs := by
  refine State.rest_weaken hfs ?_
  clear hfs fs
  unfold execQpMark at h0
  refine doneIf_rest (fs := 2200097013760) (by decide) _ _ _ ?_ h0
  simp (maxDischargeDepth := 8)

theorem execQpRewind_rest {fs : Nat} (hfs : 2200633884672 &&& fs = 2200633884672) (die : Nat) (qp : Nat) (s : State) {t0 : State} (h0 : (execQpRewind die qp s) = .next t0) : t0.rest fs = s.rest fs := by
  refine State.rest_weaken hfs ?_
  clear hfs fs
  unfold execQpRewind at h0
  refine doneIf_rest (fs := 2200633884672) (by decide) _ _ _ ?_ h0
  simp (maxDischargeDepth := 8)

theorem execQpRelease_rest {fs : Nat} (hfs : 2200633884672 &&& fs = 2200633884672) (die : Nat) (qp : Nat) (s : State) {t0 : State} (h0 : (execQpRelease die qp s) = .next t0) : t0.rest fs = s.rest fs := by
  refine State.rest_weaken hfs ?_
  clear hfs fs
  unfold execQpRelease at h0
  refine doneIf_rest (fs := 2200633884672) (by decide) _ _ _ ?_ h0
  simp (maxDischargeDepth := 8)

theorem execQpEnable_rest {fs : Nat} (hfs : 2200633884672 &&& fs = 2200633884672) (die : Nat) (qp : Nat) (s : State) {t0 : State} (h0 : (execQpEnable die qp s) = .next t0) : t0.rest fs = s.rest fs := by
  refine State.rest_weaken hfs ?_
  clear hfs fs
  unfold execQpEnable at h0
  refine doneIf_rest (fs := 2200633884672) (by decide) _ _ _ ?_ h0
  simp (maxDischargeDepth := 8)

theorem execQpDisable_rest {fs : Nat} (hfs : 2200633884672 &&& fs = 2200633884672) (die : Nat) (qp : Nat) (s : State) {t0 : State} (h0 : (execQpDisable die qp s) = .next t0) : t0.rest fs = s.rest fs := by
  refine State.rest_weaken hfs ?_
  clear hfs fs
  unfold execQpDisable at h0
  refine doneIf_rest (fs := 2200633884672) (by decide) _ _ _ ?_ h0
  simp (maxDischargeDepth := 8)

theorem execQpDisablingEnd_rest {fs : Nat} (hfs : 2200633884672 &&& fs = 2200633884672) (die : Nat) (qp : Nat) (s : State) {t0 : State} (h0 : (execQpDisablingEnd die qp s) = .next t0) : t0.rest fs = s.rest fs := by
  refine State.rest_weaken hfs ?_
  clear hfs fs
  unfold execQpDisablingEnd at h0
  refine doneIf_rest (fs := 2200633884672) (by decide) _ _ _ ?_ h0
  simp (maxDischargeDepth := 8)

theorem execQpTxerrRead_rest {fs : Nat} (hfs : 10996190035968 &&& fs = 10996190035968) (die : Nat) (qp : Nat) (s : State) {t0 : State} (h0 : (execQpTxerrRead die qp s) = .next t0) : t0.rest fs = s.rest fs := by
  refine State.rest_weaken hfs ?_
  clear hfs fs
  unfold execQpTxerrRead at h0
  refine doneIf_rest (fs := 10996190035968) (by decide) _ _ _ ?_ h0
  simp (maxDischargeDepth := 8)

theorem execSysCtrlWrite_rest {fs : Nat} (hfs : 2200633884672 &&& fs = 2200633884672) (die : Nat) (value : Word) (s : State) {t0 : State} (h0 : (execSysCtrlWrite die value s) = .next t0) : t0.rest fs = s.rest fs := by
  refine State.rest_weaken hfs ?_
  clear hfs fs
  unfold execSysCtrlWrite at h0
  refine doneIf_rest (fs := 2200633884672) (by decide) _ _ _ ?_ h0
  simp

theorem execSysWdtKick_rest {fs : Nat} (hfs : 2200097013760 &&& fs = 2200097013760) (die : Nat) (value : Word) (s : State) {t0 : State} (h0 : (execSysWdtKick die value s) = .next t0) : t0.rest fs = s.rest fs := by
  refine State.rest_weaken hfs ?_
  clear hfs fs
  unfold execSysWdtKick at h0
  refine doneIf_rest (fs := 2200097013760) (by decide) _ _ _ ?_ h0
  simp

theorem execMbxRead_rest {fs : Nat} (hfs : 2200097013760 &&& fs = 2200097013760) (die : Nat) (staged : Bool) (s : State) {t0 : State} (h0 : (execMbxRead die staged s) = .next t0) : t0.rest fs = s.rest fs := by
  refine State.rest_weaken hfs ?_
  clear hfs fs
  unfold execMbxRead at h0
  refine doneIf_rest (fs := 2200097013760) (by decide) _ _ _ ?_ h0
  simp

theorem execMbxWrite_rest {fs : Nat} (hfs : 2200097013760 &&& fs = 2200097013760) (die : Nat) (staged : Bool) (s : State) {t0 : State} (h0 : (execMbxWrite die staged s) = .next t0) : t0.rest fs = s.rest fs := by
  refine State.rest_weaken hfs ?_
  clear hfs fs
  unfold execMbxWrite at h0
  refine doneIf_rest (fs := 2200097013760) (by decide) _ _ _ ?_ h0
  simp

theorem execCapRdcntWrite_rest {fs : Nat} (hfs : 2200097013760 &&& fs = 2200097013760) (die : Nat) (value : Word) (s : State) {t0 : State} (h0 : (execCapRdcntWrite die value s) = .next t0) : t0.rest fs = s.rest fs := by
  refine State.rest_weaken hfs ?_
  clear hfs fs
  unfold execCapRdcntWrite at h0
  refine doneIf_rest (fs := 2200097013760) (by decide) _ _ _ ?_ h0
  simp

theorem execBitPlaneAliasWrite_rest {fs : Nat} (hfs : 10996726906880 &&& fs = 10996726906880) (die : Nat) (addr : Nat) (value : Word) (s : State) {t0 : State} (h0 : (execBitPlaneAliasWrite die addr value s) = .next t0) : t0.rest fs = s.rest fs := by
  refine State.rest_weaken hfs ?_
  clear hfs fs
  unfold execBitPlaneAliasWrite at h0
  refine doneIf_rest (fs := 10996726906880) (by decide) _ _ _ ?_ h0
  simp

theorem execSysEccCorrRead_rest {fs : Nat} (hfs : 10996190035968 &&& fs = 10996190035968) (die : Nat) (s : State) {t0 : State} (h0 : (execSysEccCorrRead die s) = .next t0) : t0.rest fs = s.rest fs := by
  refine State.rest_weaken hfs ?_
  clear hfs fs
  unfold execSysEccCorrRead at h0
  refine doneIf_rest (fs := 10996190035968) (by decide) _ _ _ ?_ h0
  simp

theorem execBlockDisablingEnd_rest {fs : Nat} (hfs : 2200633884672 &&& fs = 2200633884672) (die : Nat) (addr : Nat) (s : State) {t0 : State} (h0 : (execBlockDisablingEnd die addr s) = .next t0) : t0.rest fs = s.rest fs := by
  refine State.rest_weaken hfs ?_
  clear hfs fs
  unfold execBlockDisablingEnd at h0
  refine doneIf_rest (fs := 2200633884672) (by decide) _ _ _ ?_ h0
  (repeat' split) <;> simp

theorem execRegisterParityMismatch_rest {fs : Nat} (hfs : 10996726941700 &&& fs = 10996726941700) (die : Nat) (addr : Nat) (s : State) {t0 : State} (h0 : (execRegisterParityMismatch die addr s) = .next t0) : t0.rest fs = s.rest fs := by
  refine State.rest_weaken hfs ?_
  clear hfs fs
  unfold execRegisterParityMismatch at h0
  refine doneIf_rest (fs := 10996726941700) (by decide) _ _ _ ?_ h0
  (repeat' split) <;> simp (maxDischargeDepth := 8)

theorem execBridgeWindowRead_rest {fs : Nat} (hfs : 15394773417984 &&& fs = 15394773417984) (die : Nat) (window : Nat) (offset : Nat) (way : BridgeWay) (s : State) {t0 : State} (h0 : (execBridgeWindowRead die window offset way s) = .next t0) : t0.rest fs = s.rest fs := by
  refine State.rest_weaken hfs ?_
  clear hfs fs
  unfold execBridgeWindowRead at h0
  refine doneIf_rest (fs := 15394773417984) (by decide) _ _ _ ?_ h0
  simp

theorem execBridgePostedWrite_rest {fs : Nat} (hfs : 15394773417984 &&& fs = 15394773417984) (die : Nat) (window : Nat) (offset : Nat) (value : Word) (way : BridgeWay) (s : State) {t0 : State} (h0 : (execBridgePostedWrite die window offset value way s) = .next t0) : t0.rest fs = s.rest fs := by
  refine State.rest_weaken hfs ?_
  clear hfs fs
  unfold execBridgePostedWrite at h0
  refine doneIf_rest (fs := 15394773417984) (by decide) _ _ _ ?_ h0
  simp

theorem execBridgeFence_rest {fs : Nat} (hfs : 15394773417984 &&& fs = 15394773417984) (die : Nat) (s : State) {t0 : State} (h0 : (execBridgeFence die s) = .next t0) : t0.rest fs = s.rest fs := by
  refine State.rest_weaken hfs ?_
  clear hfs fs
  unfold execBridgeFence at h0
  refine doneIf_rest (fs := 15394773417984) (by decide) _ _ _ ?_ h0
  simp

theorem execBridgePfclr_rest {fs : Nat} (hfs : 2200097013760 &&& fs = 2200097013760) (die : Nat) (_value : Word) (s : State) {t0 : State} (h0 : (execBridgePfclr die _value s) = .next t0) : t0.rest fs = s.rest fs := by
  refine State.rest_weaken hfs ?_
  clear hfs fs
  unfold execBridgePfclr at h0
  refine doneIf_rest (fs := 2200097013760) (by decide) _ _ _ ?_ h0
  simp

theorem execBridgePostedFail_rest {fs : Nat} (hfs : 15394773417984 &&& fs = 15394773417984) (die : Nat) (s : State) {t0 : State} (h0 : (execBridgePostedFail die s) = .next t0) : t0.rest fs = s.rest fs := by
  refine State.rest_weaken hfs ?_
  clear hfs fs
  unfold execBridgePostedFail at h0
  refine doneIf_rest (fs := 15394773417984) (by decide) _ _ _ ?_ h0
  simp

theorem execBridgeNackRetry_rest {fs : Nat} (hfs : 15394773417984 &&& fs = 15394773417984) (die : Nat) (accepted : Bool) (s : State) {t0 : State} (h0 : (execBridgeNackRetry die accepted s) = .next t0) : t0.rest fs = s.rest fs := by
  refine State.rest_weaken hfs ?_
  clear hfs fs
  unfold execBridgeNackRetry at h0
  refine doneIf_rest (fs := 15394773417984) (by decide) _ _ _ ?_ h0
  simp

theorem execBridgeResponseTimeout_rest {fs : Nat} (hfs : 15394773417984 &&& fs = 15394773417984) (die : Nat) (s : State) {t0 : State} (h0 : (execBridgeResponseTimeout die s) = .next t0) : t0.rest fs = s.rest fs := by
  refine State.rest_weaken hfs ?_
  clear hfs fs
  unfold execBridgeResponseTimeout at h0
  refine doneIf_rest (fs := 15394773417984) (by decide) _ _ _ ?_ h0
  simp

theorem execBridgeSemRead_rest {fs : Nat} (hfs : 10996190035968 &&& fs = 10996190035968) (die : Nat) (sem : Nat) (sender : Nat) (s : State) {t0 : State} (h0 : (execBridgeSemRead die sem sender s) = .next t0) : t0.rest fs = s.rest fs := by
  refine State.rest_weaken hfs ?_
  clear hfs fs
  unfold execBridgeSemRead at h0
  refine doneIf_rest (fs := 10996190035968) (by decide) _ _ _ ?_ h0
  simp

theorem execBridgeSemWrite_rest {fs : Nat} (hfs : 2200633884672 &&& fs = 2200633884672) (die : Nat) (sem : Nat) (sender : Nat) (value : Word) (s : State) {t0 : State} (h0 : (execBridgeSemWrite die sem sender value s) = .next t0) : t0.rest fs = s.rest fs := by
  refine State.rest_weaken hfs ?_
  clear hfs fs
  unfold execBridgeSemWrite at h0
  refine doneIf_rest (fs := 2200633884672) (by decide) _ _ _ ?_ h0
  simp

theorem execSemaphoreFailureRelease_rest {fs : Nat} (hfs : 2200633884672 &&& fs = 2200633884672) (die : Nat) (sem : Nat) (s : State) {t0 : State} (h0 : (execSemaphoreFailureRelease die sem s) = .next t0) : t0.rest fs = s.rest fs := by
  refine State.rest_weaken hfs ?_
  clear hfs fs
  unfold execSemaphoreFailureRelease at h0
  refine doneIf_rest (fs := 2200633884672) (by decide) _ _ _ ?_ h0
  simp

theorem execLowWordRead_rest {fs : Nat} (hfs : 15394773417984 &&& fs = 15394773417984) (die : Nat) (addr : Nat) (core : Nat) (s : State) {t0 : State} (h0 : (execLowWordRead die addr core s) = .next t0) : t0.rest fs = s.rest fs := by
  refine State.rest_weaken hfs ?_
  clear hfs fs
  unfold execLowWordRead at h0
  refine doneIf_rest (fs := 15394773417984) (by decide) _ _ _ ?_ h0
  simp

theorem execRegisterWrite_rest {fs : Nat} (hfs : 15394773417984 &&& fs = 15394773417984) (die : Nat) (addr : Nat) (value : Word) (s : State) {t0 : State} (h0 : (execRegisterWrite die addr value s) = .next t0) : t0.rest fs = s.rest fs := by
  refine State.rest_weaken hfs ?_
  clear hfs fs
  unfold execRegisterWrite at h0
  refine doneIf_rest (fs := 15394773417984) (by decide) _ _ _ ?_ h0
  simp

theorem execBridgeRetryRead_rest {fs : Nat} (hfs : 10996190035968 &&& fs = 10996190035968) (die : Nat) (s : State) {t0 : State} (h0 : (execBridgeRetryRead die s) = .next t0) : t0.rest fs = s.rest fs := by
  refine State.rest_weaken hfs ?_
  clear hfs fs
  unfold execBridgeRetryRead at h0
  refine doneIf_rest (fs := 10996190035968) (by decide) _ _ _ ?_ h0
  simp

theorem execAppWatchdogExpiry_rest {fs : Nat} (hfs : 11271604849028 &&& fs = 11271604849028) (die : Nat) (s : State) {t0 : State} (h0 : (execAppWatchdogExpiry die s) = .next t0) : t0.rest fs = s.rest fs := by
  refine State.rest_weaken hfs ?_
  clear hfs fs
  unfold execAppWatchdogExpiry at h0
  refine doneIf_rest (fs := 11271604849028) (by decide) _ _ _ ?_ h0
  simp (maxDischargeDepth := 8)

theorem execAppRestartDelayExpiry_rest {fs : Nat} (hfs : 2200097013764 &&& fs = 2200097013764) (die : Nat) (s : State) {t0 : State} (h0 : (execAppRestartDelayExpiry die s) = .next t0) : t0.rest fs = s.rest fs := by
  refine State.rest_weaken hfs ?_
  clear hfs fs
  unfold execAppRestartDelayExpiry at h0
  refine doneIf_rest (fs := 2200097013764) (by decide) _ _ _ ?_ h0
  simp

theorem execAppImageReloaded_rest {fs : Nat} (hfs : 11271873284484 &&& fs = 11271873284484) (die : Nat) (s : State) {t0 : State} (h0 : (execAppImageReloaded die s) = .next t0) : t0.rest fs = s.rest fs := by
  refine State.rest_weaken hfs ?_
  clear hfs fs
  unfold execAppImageReloaded at h0
  refine doneIf_rest (fs := 11271873284484) (by decide) _ _ _ ?_ h0
  simp (maxDischargeDepth := 8)

theorem execRecomputationComplete_rest {fs : Nat} (hfs : 2199291707392 &&& fs = 2199291707392) (s : State) {t0 : State} (h0 : (execRecomputationComplete s) = .next t0) : t0.rest fs = s.rest fs := by
  refine State.rest_weaken hfs ?_
  clear hfs fs
  unfold execRecomputationComplete at h0
  rw [done_rest (fs := 2199291707392) (by decide) _ h0]
  refine State.when_rest _ _ _ ?_
  intro s
  (repeat' split) <;> simp

theorem execPlacementApply_rest {fs : Nat} (hfs : 12377901746564 &&& fs = 12377901746564) (s : State) {t0 : State} (h0 : (execPlacementApply s) = .next t0) : t0.rest fs = s.rest fs := by
  refine State.rest_weaken hfs ?_
  clear hfs fs
  unfold execPlacementApply at h0
  simpa using done_rest (fs := 12377901746564) (by decide) _ h0

theorem execVcoreLow_rest {fs : Nat} (hfs : 10995921635332 &&& fs = 10995921635332) (die : Nat) (s : State) {t0 : State} (h0 : (execVcoreLow die s) = .next t0) : t0.rest fs = s.rest fs := by
  refine State.rest_weaken hfs ?_
  clear hfs fs
  unfold execVcoreLow at h0
  refine doneIf_rest (fs := 10995921635332) (by decide) _ _ _ ?_ h0
  simp

theorem execVcoreRestored_rest {fs : Nat} (hfs : 2199291740164 &&& fs = 2199291740164) (die : Nat) (s : State) {t0 : State} (h0 : (execVcoreRestored die s) = .next t0) : t0.rest fs = s.rest fs := by
  refine State.rest_weaken hfs ?_
  clear hfs fs
  unfold execVcoreRestored at h0
  refine doneIf_rest (fs := 2199291740164) (by decide) _ _ _ ?_ h0
  simp

theorem execVcoreBelowReset_rest {fs : Nat} (hfs : 11003443267972 &&& fs = 11003443267972) (die : Nat) (s : State) {t0 : State} (h0 : (execVcoreBelowReset die s) = .next t0) : t0.rest fs = s.rest fs := by
  refine State.rest_weaken hfs ?_
  clear hfs fs
  unfold execVcoreBelowReset at h0
  refine doneIf_rest (fs := 11003443267972) (by decide) _ _ _ ?_ h0
  (repeat' split) <;> simp

theorem execBankClockFail_rest {fs : Nat} (hfs : 12099733407748 &&& fs = 12099733407748) (die : Nat) (s : State) {t0 : State} (h0 : (execBankClockFail die s) = .next t0) : t0.rest fs = s.rest fs := by
  refine State.rest_weaken hfs ?_
  clear hfs fs
  unfold execBankClockFail at h0
  refine doneIf_rest (fs := 12099733407748) (by decide) _ _ _ ?_ h0
  simp

theorem execBankClockStable_rest {fs : Nat} (hfs : 12099196534788 &&& fs = 12099196534788) (die : Nat) (s : State) {t0 : State} (h0 : (execBankClockStable die s) = .next t0) : t0.rest fs = s.rest fs := by
  refine State.rest_weaken hfs ?_
  clear hfs fs
  unfold execBankClockStable at h0
  refine doneIf_rest (fs := 12099196534788) (by decide) _ _ _ ?_ h0
  simp

theorem execConfigParityFault_rest {fs : Nat} (hfs : 12099733407748 &&& fs = 12099733407748) (slot : Nat) (s : State) {t0 : State} (h0 : (execConfigParityFault slot s) = .next t0) : t0.rest fs = s.rest fs := by
  refine State.rest_weaken hfs ?_
  clear hfs fs
  unfold execConfigParityFault at h0
  refine doneIf_rest (fs := 12099733407748) (by decide) _ _ _ ?_ h0
  simp

theorem execFaultDetected_rest {fs : Nat} (hfs : 16861846556044 &&& fs = 16861846556044) (cls : Nat) (die : Nat) (unit : Nat) (s : State) {t0 : State} (h0 : (execFaultDetected cls die unit s) = .next t0) : t0.rest fs = s.rest fs := by
  refine State.rest_weaken hfs ?_
  clear hfs fs
  unfold execFaultDetected at h0
  refine doneIf_rest (fs := 16861846556044) (by decide) _ _ _ ?_ h0
  simp

theorem execHealthReport_rest {fs : Nat} (hfs : 16861846556044 &&& fs = 16861846556044) (die : Nat) (report : HealthReport) (s : State) {t0 : State} (h0 : (execHealthReport die report s) = .next t0) : t0.rest fs = s.rest fs := by
  refine State.rest_weaken hfs ?_
  clear hfs fs
  unfold execHealthReport at h0
  refine doneIf_rest (fs := 16861846556044) (by decide) _ _ _ ?_ h0
  simp

theorem execReadmitImagesSent_rest {fs : Nat} (hfs : 15397194811396 &&& fs = 15397194811396) (die : Nat) (ok : Bool) (s : State) {t0 : State} (h0 : (execReadmitImagesSent die ok s) = .next t0) : t0.rest fs = s.rest fs := by
  refine State.rest_weaken hfs ?_
  clear hfs fs
  unfold execReadmitImagesSent at h0
  refine doneIf_rest (fs := 15397194811396) (by decide) _ _ _ ?_ h0
  (repeat' split) <;> simp

theorem execReadmitSelfTestComplete_rest {fs : Nat} (hfs : 10999148300292 &&& fs = 10999148300292) (die : Nat) (ok : Bool) (s : State) {t0 : State} (h0 : (execReadmitSelfTestComplete die ok s) = .next t0) : t0.rest fs = s.rest fs := by
  refine State.rest_weaken hfs ?_
  clear hfs fs
  unfold execReadmitSelfTestComplete at h0
  refine doneIf_rest (fs := 10999148300292) (by decide) _ _ _ ?_ h0
  (repeat' split) <;> simp

theorem execSafeNRecoveryTimeout_rest {fs : Nat} (hfs : 2199023271936 &&& fs = 2199023271936) (cls : Nat) (s : State) {t0 : State} (h0 : (execSafeNRecoveryTimeout cls s) = .next t0) : t0.rest fs = s.rest fs := by
  refine State.rest_weaken hfs ?_
  clear hfs fs
  unfold execSafeNRecoveryTimeout at h0
  simpa using done_rest (fs := 2199023271936) (by decide) _ h0

theorem execSupervisorWatchdogExpiry_rest {fs : Nat} (hfs : 10995921635332 &&& fs = 10995921635332) (s : State) {t0 : State} (h0 : (execSupervisorWatchdogExpiry s) = .next t0) : t0.rest fs = s.rest fs := by
  refine State.rest_weaken hfs ?_
  clear hfs fs
  unfold execSupervisorWatchdogExpiry at h0
  simpa using done_rest (fs := 10995921635332) (by decide) _ h0

theorem execSupervisorRefreshTimeout_rest {fs : Nat} (hfs : 11064641113484 &&& fs = 11064641113484) (s : State) {t0 : State} (h0 : (execSupervisorRefreshTimeout s) = .next t0) : t0.rest fs = s.rest fs := by
  refine State.rest_weaken hfs ?_
  clear hfs fs
  unfold execSupervisorRefreshTimeout at h0
  simpa using done_rest (fs := 11064641113484) (by decide) _ h0

theorem execSupervisorWatchdogRefresh_rest {fs : Nat} (hfs : 2199291707396 &&& fs = 2199291707396) (s : State) {t0 : State} (h0 : (execSupervisorWatchdogRefresh s) = .next t0) : t0.rest fs = s.rest fs := by
  refine State.rest_weaken hfs ?_
  clear hfs fs
  unfold execSupervisorWatchdogRefresh at h0
  rw [done_rest (fs := 2199291707396) (by decide) _ h0]
  refine State.when_rest _ _ _ ?_
  intro s
  (repeat' split) <;> simp

theorem execRuntimePairRestartComplete_rest {fs : Nat} (hfs : 12099196534788 &&& fs = 12099196534788) (die : Nat) (s : State) {t0 : State} (h0 : (execRuntimePairRestartComplete die s) = .next t0) : t0.rest fs = s.rest fs := by
  refine State.rest_weaken hfs ?_
  clear hfs fs
  unfold execRuntimePairRestartComplete at h0
  refine doneIf_rest (fs := 12099196534788) (by decide) _ _ _ ?_ h0
  simp

theorem execTableScrub_rest {fs : Nat} (hfs : 10995921635332 &&& fs = 10995921635332) (die : Nat) (table : Nat) (err : ScrubResult) (s : State) {t0 : State} (h0 : (execTableScrub die table err s) = .next t0) : t0.rest fs = s.rest fs := by
  refine State.rest_weaken hfs ?_
  clear hfs fs
  unfold execTableScrub at h0
  refine doneIf_rest (fs := 10995921635332) (by decide) _ _ _ ?_ h0
  (repeat' split) <;> simp

theorem execTableHalfRewrite_rest {fs : Nat} (hfs : 2199291740164 &&& fs = 2199291740164) (die : Nat) (table : Nat) (s : State) {t0 : State} (h0 : (execTableHalfRewrite die table s) = .next t0) : t0.rest fs = s.rest fs := by
  refine State.rest_weaken hfs ?_
  clear hfs fs
  unfold execTableHalfRewrite at h0
  refine doneIf_rest (fs := 2199291740164) (by decide) _ _ _ ?_ h0
  simp

theorem execCanWakeUpPattern_rest {fs : Nat} (hfs : 10995120601092 &&& fs = 10995120601092) (slot : Nat) (s : State) {t0 : State} (h0 : (execCanWakeUpPattern slot s) = .next t0) : t0.rest fs = s.rest fs := by
  refine State.rest_weaken hfs ?_
  clear hfs fs
  unfold execCanWakeUpPattern at h0
  refine doneIf_rest (fs := 10995120601092) (by decide) _ _ _ ?_ h0
  simp

theorem execCanRxdWake_rest {fs : Nat} (hfs : 10995120601092 &&& fs = 10995120601092) (slot : Nat) (s : State) {t0 : State} (h0 : (execCanRxdWake slot s) = .next t0) : t0.rest fs = s.rest fs := by
  refine State.rest_weaken hfs ?_
  clear hfs fs
  unfold execCanRxdWake at h0
  refine doneIf_rest (fs := 10995120601092) (by decide) _ _ _ ?_ h0
  simp

theorem execCanDecoderFrame_rest {fs : Nat} (hfs : 10995120601092 &&& fs = 10995120601092) (slot : Nat) (frame : Frame) (err : Bool) (s : State) {t0 : State} (h0 : (execCanDecoderFrame slot frame err s) = .next t0) : t0.rest fs = s.rest fs := by
  refine State.rest_weaken hfs ?_
  clear hfs fs
  unfold execCanDecoderFrame at h0
  refine doneIf_rest (fs := 10995120601092) (by decide) _ _ _ ?_ h0
  simp

theorem execWkEdge_rest {fs : Nat} (hfs : 10995120601092 &&& fs = 10995120601092) (input : Nat) (rising : Bool) (s : State) {t0 : State} (h0 : (execWkEdge input rising s) = .next t0) : t0.rest fs = s.rest fs := by
  refine State.rest_weaken hfs ?_
  clear hfs fs
  unfold execWkEdge at h0
  refine doneIf_rest (fs := 10995120601092) (by decide) _ _ _ ?_ h0
  simp

theorem execRtcAlarm_rest {fs : Nat} (hfs : 10995120601092 &&& fs = 10995120601092) (s : State) {t0 : State} (h0 : (execRtcAlarm s) = .next t0) : t0.rest fs = s.rest fs := by
  refine State.rest_weaken hfs ?_
  clear hfs fs
  unfold execRtcAlarm at h0
  simpa using done_rest (fs := 10995120601092) (by decide) _ h0

theorem execRtcPeriod_rest {fs : Nat} (hfs : 10995120601092 &&& fs = 10995120601092) (s : State) {t0 : State} (h0 : (execRtcPeriod s) = .next t0) : t0.rest fs = s.rest fs := by
  refine State.rest_weaken hfs ?_
  clear hfs fs
  unfold execRtcPeriod at h0
  simpa using done_rest (fs := 10995120601092) (by decide) _ h0

theorem execLinWakePulse_rest {fs : Nat} (hfs : 10995120601092 &&& fs = 10995120601092) (slot : Nat) (s : State) {t0 : State} (h0 : (execLinWakePulse slot s) = .next t0) : t0.rest fs = s.rest fs := by
  refine State.rest_weaken hfs ?_
  clear hfs fs
  unfold execLinWakePulse at h0
  refine doneIf_rest (fs := 10995120601092) (by decide) _ _ _ ?_ h0
  simp

theorem execWakePatternReport_rest {fs : Nat} (hfs : 10995120601092 &&& fs = 10995120601092) (slot : Nat) (pattern : Nat) (s : State) {t0 : State} (h0 : (execWakePatternReport slot pattern s) = .next t0) : t0.rest fs = s.rest fs := by
  refine State.rest_weaken hfs ?_
  clear hfs fs
  unfold execWakePatternReport at h0
  refine doneIf_rest (fs := 10995120601092) (by decide) _ _ _ ?_ h0
  simp

theorem execDelayLineCalibration_rest {fs : Nat} (hfs : 2199023280128 &&& fs = 2199023280128) (s : State) {t0 : State} (h0 : (execDelayLineCalibration s) = .next t0) : t0.rest fs = s.rest fs := by
  refine State.rest_weaken hfs ?_
  clear hfs fs
  unfold execDelayLineCalibration at h0
  rw [done_rest (fs := 2199023280128) (by decide) _ h0]
  refine State.when_rest _ _ _ ?_
  intro s
  (repeat' split) <;> simp

theorem execTamperSample_rest {fs : Nat} (hfs : 10995657472004 &&& fs = 10995657472004) (loop : Nat) (level : Bool) (s : State) {t0 : State} (h0 : (execTamperSample loop level s) = .next t0) : t0.rest fs = s.rest fs := by
  refine State.rest_weaken hfs ?_
  clear hfs fs
  unfold execTamperSample at h0
  refine doneIf_rest (fs := 10995657472004) (by decide) _ _ _ ?_ h0
  simp

theorem execDistanceStore_rest {fs : Nat} (hfs : 2199090380800 &&& fs = 2199090380800) (s : State) {t0 : State} (h0 : (execDistanceStore s) = .next t0) : t0.rest fs = s.rest fs := by
  refine State.rest_weaken hfs ?_
  clear hfs fs
  unfold execDistanceStore at h0
  simpa using done_rest (fs := 2199090380800) (by decide) _ h0

theorem execFreshnessStore_rest {fs : Nat} (hfs : 2199090380800 &&& fs = 2199090380800) (s : State) {t0 : State} (h0 : (execFreshnessStore s) = .next t0) : t0.rest fs = s.rest fs := by
  refine State.rest_weaken hfs ?_
  clear hfs fs
  unfold execFreshnessStore at h0
  simpa using done_rest (fs := 2199090380800) (by decide) _ h0

theorem execRuleEvaluation_rest {fs : Nat} (hfs : 11133163456516 &&& fs = 11133163456516) (s : State) {t0 : State} (h0 : (execRuleEvaluation s) = .next t0) : t0.rest fs = s.rest fs := by
  refine State.rest_weaken hfs ?_
  clear hfs fs
  unfold execRuleEvaluation at h0
  simpa (maxDischargeDepth := 8) using done_rest (fs := 11133163456516) (by decide) _ h0

theorem execRuleTimerExpiry_rest {fs : Nat} (hfs : 11133163456516 &&& fs = 11133163456516) (row : Nat) (s : State) {t0 : State} (h0 : (execRuleTimerExpiry row s) = .next t0) : t0.rest fs = s.rest fs := by
  refine State.rest_weaken hfs ?_
  clear hfs fs
  unfold execRuleTimerExpiry at h0
  simpa using done_rest (fs := 11133163456516) (by decide) _ h0

theorem execMiConversion_rest {fs : Nat} (hfs : 11133163534340 &&& fs = 11133163534340) (input : Nat) (microVolt : Int) (s : State) {t0 : State} (h0 : (execMiConversion input microVolt s) = .next t0) : t0.rest fs = s.rest fs := by
  refine State.rest_weaken hfs ?_
  clear hfs fs
  unfold execMiConversion at h0
  refine doneIf_rest (fs := 11133163534340) (by decide) _ _ _ ?_ h0
  simp

theorem execMiGateEnd_rest {fs : Nat} (hfs : 11133163456516 &&& fs = 11133163456516) (input : Nat) (s : State) {t0 : State} (h0 : (execMiGateEnd input s) = .next t0) : t0.rest fs = s.rest fs := by
  refine State.rest_weaken hfs ?_
  clear hfs fs
  unfold execMiGateEnd at h0
  refine doneIf_rest (fs := 11133163456516) (by decide) _ _ _ ?_ h0
  simp

theorem execMiDiagnosticSlot_rest {fs : Nat} (hfs : 11133092161540 &&& fs = 11133092161540) (input : Nat) (microVolt : Int) (s : State) {t0 : State} (h0 : (execMiDiagnosticSlot input microVolt s) = .next t0) : t0.rest fs = s.rest fs := by
  refine State.rest_weaken hfs ?_
  clear hfs fs
  unfold execMiDiagnosticSlot at h0
  refine doneIf_rest (fs := 11133092161540) (by decide) _ _ _ ?_ h0
  simp

theorem execMiEdge_rest {fs : Nat} (hfs : 11133163534340 &&& fs = 11133163534340) (input : Nat) (rising : Bool) (s : State) {t0 : State} (h0 : (execMiEdge input rising s) = .next t0) : t0.rest fs = s.rest fs := by
  refine State.rest_weaken hfs ?_
  clear hfs fs
  unfold execMiEdge at h0
  refine doneIf_rest (fs := 11133163534340) (by decide) _ _ _ ?_ h0
  simp (maxDischargeDepth := 8)

theorem execMiDebounceExpiry_rest {fs : Nat} (hfs : 11133163534340 &&& fs = 11133163534340) (input : Nat) (s : State) {t0 : State} (h0 : (execMiDebounceExpiry input s) = .next t0) : t0.rest fs = s.rest fs := by
  refine State.rest_weaken hfs ?_
  clear hfs fs
  unfold execMiDebounceExpiry at h0
  refine doneIf_rest (fs := 11133163534340) (by decide) _ _ _ ?_ h0
  simp

theorem execSpdCountedEdge_rest {fs : Nat} (hfs : 11133163456516 &&& fs = 11133163456516) (input : Nat) (highTicks : Nat) (s : State) {t0 : State} (h0 : (execSpdCountedEdge input highTicks s) = .next t0) : t0.rest fs = s.rest fs := by
  refine State.rest_weaken hfs ?_
  clear hfs fs
  unfold execSpdCountedEdge at h0
  refine doneIf_rest (fs := 11133163456516) (by decide) _ _ _ ?_ h0
  simp

theorem execSpdDecelerationUpdate_rest {fs : Nat} (hfs : 11133163456516 &&& fs = 11133163456516) (input : Nat) (s : State) {t0 : State} (h0 : (execSpdDecelerationUpdate input s) = .next t0) : t0.rest fs = s.rest fs := by
  refine State.rest_weaken hfs ?_
  clear hfs fs
  unfold execSpdDecelerationUpdate at h0
  refine doneIf_rest (fs := 11133163456516) (by decide) _ _ _ ?_ h0
  simp

theorem execSpdZeroTimeout_rest {fs : Nat} (hfs : 11133163456516 &&& fs = 11133163456516) (input : Nat) (s : State) {t0 : State} (h0 : (execSpdZeroTimeout input s) = .next t0) : t0.rest fs = s.rest fs := by
  refine State.rest_weaken hfs ?_
  clear hfs fs
  unfold execSpdZeroTimeout at h0
  refine doneIf_rest (fs := 11133163456516) (by decide) _ _ _ ?_ h0
  simp

theorem execSpdOpen_rest {fs : Nat} (hfs : 2336462225412 &&& fs = 2336462225412) (input : Nat) (absent : Bool) (s : State) {t0 : State} (h0 : (execSpdOpen input absent s) = .next t0) : t0.rest fs = s.rest fs := by
  refine State.rest_weaken hfs ?_
  clear hfs fs
  unfold execSpdOpen at h0
  refine doneIf_rest (fs := 2336462225412) (by decide) _ _ _ ?_ h0
  simp

theorem execVbatpConversion_rest {fs : Nat} (hfs : 11133163456516 &&& fs = 11133163456516) (microVolt : Int) (s : State) {t0 : State} (h0 : (execVbatpConversion microVolt s) = .next t0) : t0.rest fs = s.rest fs := by
  refine State.rest_weaken hfs ?_
  clear hfs fs
  unfold execVbatpConversion at h0
  simpa using done_rest (fs := 11133163456516) (by decide) _ h0

theorem execWkLevelSample_rest {fs : Nat} (hfs : 11133163460612 &&& fs = 11133163460612) (levels : Nat) (s : State) {t0 : State} (h0 : (execWkLevelSample levels s) = .next t0) : t0.rest fs = s.rest fs := by
  refine State.rest_weaken hfs ?_
  clear hfs fs
  unfold execWkLevelSample at h0
  simpa (maxDischargeDepth := 8) using done_rest (fs := 11133163460612) (by decide) _ h0

theorem execTapValueReceive_rest {fs : Nat} (hfs : 11133163456516 &&& fs = 11133163456516) (die : Nat) (s : State) {t0 : State} (h0 : (execTapValueReceive die s) = .next t0) : t0.rest fs = s.rest fs := by
  refine State.rest_weaken hfs ?_
  clear hfs fs
  unfold execTapValueReceive at h0
  refine doneIf_rest (fs := 11133163456516) (by decide) _ _ _ ?_ h0
  simp

theorem execEvidenceRequest_rest {fs : Nat} (hfs : 2199023306752 &&& fs = 2199023306752) (src : Nat) (s : State) {t0 : State} (h0 : (execEvidenceRequest src s) = .next t0) : t0.rest fs = s.rest fs := by
  refine State.rest_weaken hfs ?_
  clear hfs fs
  unfold execEvidenceRequest at h0
  refine doneIf_rest (fs := 2199023306752) (by decide) _ _ _ ?_ h0
  simp

theorem execRecordAppend_rest {fs : Nat} (hfs : 10995720308740 &&& fs = 10995720308740) (s : State) {t0 : State} (h0 : (execRecordAppend s) = .next t0) : t0.rest fs = s.rest fs := by
  refine State.rest_weaken hfs ?_
  clear hfs fs
  unfold execRecordAppend at h0
  simpa using done_rest (fs := 10995720308740) (by decide) _ h0

theorem execCoalesceTableSend_rest {fs : Nat} (hfs : 2199023306752 &&& fs = 2199023306752) (src : Nat) (s : State) {t0 : State} (h0 : (execCoalesceTableSend src s) = .next t0) : t0.rest fs = s.rest fs := by
  refine State.rest_weaken hfs ?_
  clear hfs fs
  unfold execCoalesceTableSend at h0
  refine doneIf_rest (fs := 2199023306752) (by decide) _ _ _ ?_ h0
  simp

theorem execLossRangeTimeout_rest {fs : Nat} (hfs : 10995720308740 &&& fs = 10995720308740) (s : State) {t0 : State} (h0 : (execLossRangeTimeout s) = .next t0) : t0.rest fs = s.rest fs := by
  refine State.rest_weaken hfs ?_
  clear hfs fs
  unfold execLossRangeTimeout at h0
  simpa using done_rest (fs := 10995720308740) (by decide) _ h0

theorem execSealPeriodExpiry_rest {fs : Nat} (hfs : 10995720308740 &&& fs = 10995720308740) (s : State) {t0 : State} (h0 : (execSealPeriodExpiry s) = .next t0) : t0.rest fs = s.rest fs := by
  refine State.rest_weaken hfs ?_
  clear hfs fs
  unfold execSealPeriodExpiry at h0
  simpa using done_rest (fs := 10995720308740) (by decide) _ h0

theorem execSealSpacingEnd_rest {fs : Nat} (hfs : 10995720308736 &&& fs = 10995720308736) (s : State) {t0 : State} (h0 : (execSealSpacingEnd s) = .next t0) : t0.rest fs = s.rest fs := by
  refine State.rest_weaken hfs ?_
  clear hfs fs
  unfold execSealSpacingEnd at h0
  simpa using done_rest (fs := 10995720308736) (by decide) _ h0

theorem execNextTreeReady_rest {fs : Nat} (hfs : 10995720308736 &&& fs = 10995720308736) (s : State) {t0 : State} (h0 : (execNextTreeReady s) = .next t0) : t0.rest fs = s.rest fs := by
  refine State.rest_weaken hfs ?_
  clear hfs fs
  unfold execNextTreeReady at h0
  simpa using done_rest (fs := 10995720308736) (by decide) _ h0

theorem execActiveTreeReady_rest {fs : Nat} (hfs : 10995720308736 &&& fs = 10995720308736) (s : State) {t0 : State} (h0 : (execActiveTreeReady s) = .next t0) : t0.rest fs = s.rest fs := by
  refine State.rest_weaken hfs ?_
  clear hfs fs
  unfold execActiveTreeReady at h0
  simpa using done_rest (fs := 10995720308736) (by decide) _ h0

theorem execEvFetchComplete_rest {fs : Nat} (hfs : 10995720308740 &&& fs = 10995720308740) (s : State) {t0 : State} (h0 : (execEvFetchComplete s) = .next t0) : t0.rest fs = s.rest fs := by
  refine State.rest_weaken hfs ?_
  clear hfs fs
  unfold execEvFetchComplete at h0
  simpa using done_rest (fs := 10995720308740) (by decide) _ h0

theorem execEvRead_rest {fs : Nat} (hfs : 10995720308740 &&& fs = 10995720308740) (n : Nat) (s : State) {t0 : State} (h0 : (execEvRead n s) = .next t0) : t0.rest fs = s.rest fs := by
  refine State.rest_weaken hfs ?_
  clear hfs fs
  unfold execEvRead at h0
  simpa using done_rest (fs := 10995720308740) (by decide) _ h0

theorem execEvMark_rest {fs : Nat} (hfs : 10995720308740 &&& fs = 10995720308740) (s : State) {t0 : State} (h0 : (execEvMark s) = .next t0) : t0.rest fs = s.rest fs := by
  refine State.rest_weaken hfs ?_
  clear hfs fs
  unfold execEvMark at h0
  simpa using done_rest (fs := 10995720308740) (by decide) _ h0

theorem execEvRewind_rest {fs : Nat} (hfs : 10995720308740 &&& fs = 10995720308740) (s : State) {t0 : State} (h0 : (execEvRewind s) = .next t0) : t0.rest fs = s.rest fs := by
  refine State.rest_weaken hfs ?_
  clear hfs fs
  unfold execEvRewind at h0
  simpa using done_rest (fs := 10995720308740) (by decide) _ h0

theorem execEvRelease_rest {fs : Nat} (hfs : 10995720308740 &&& fs = 10995720308740) (s : State) {t0 : State} (h0 : (execEvRelease s) = .next t0) : t0.rest fs = s.rest fs := by
  refine State.rest_weaken hfs ?_
  clear hfs fs
  unfold execEvRelease at h0
  simpa using done_rest (fs := 10995720308740) (by decide) _ h0

theorem execEvClear_rest {fs : Nat} (hfs : 10995720308740 &&& fs = 10995720308740) (mask : Nat) (s : State) {t0 : State} (h0 : (execEvClear mask s) = .next t0) : t0.rest fs = s.rest fs := by
  refine State.rest_weaken hfs ?_
  clear hfs fs
  unfold execEvClear at h0
  simpa using done_rest (fs := 10995720308740) (by decide) _ h0

theorem execEvFetchRecord_rest {fs : Nat} (hfs : 10995720308740 &&& fs = 10995720308740) (seq : Nat) (s : State) {t0 : State} (h0 : (execEvFetchRecord seq s) = .next t0) : t0.rest fs = s.rest fs := by
  refine State.rest_weaken hfs ?_
  clear hfs fs
  unfold execEvFetchRecord at h0
  simpa using done_rest (fs := 10995720308740) (by decide) _ h0

theorem execEvFetchSeal_rest {fs : Nat} (hfs : 10995720308740 &&& fs = 10995720308740) (number : Nat) (s : State) {t0 : State} (h0 : (execEvFetchSeal number s) = .next t0) : t0.rest fs = s.rest fs := by
  refine State.rest_weaken hfs ?_
  clear hfs fs
  unfold execEvFetchSeal at h0
  simpa using done_rest (fs := 10995720308740) (by decide) _ h0

theorem execEvReadFetch_rest {fs : Nat} (hfs : 10995720308740 &&& fs = 10995720308740) (n : Nat) (s : State) {t0 : State} (h0 : (execEvReadFetch n s) = .next t0) : t0.rest fs = s.rest fs := by
  refine State.rest_weaken hfs ?_
  clear hfs fs
  unfold execEvReadFetch at h0
  simpa using done_rest (fs := 10995720308740) (by decide) _ h0

theorem execEvAckFetch_rest {fs : Nat} (hfs : 10995720308740 &&& fs = 10995720308740) (s : State) {t0 : State} (h0 : (execEvAckFetch s) = .next t0) : t0.rest fs = s.rest fs := by
  refine State.rest_weaken hfs ?_
  clear hfs fs
  unfold execEvAckFetch at h0
  simpa using done_rest (fs := 10995720308740) (by decide) _ h0

theorem execEvSealNow_rest {fs : Nat} (hfs : 10995720308740 &&& fs = 10995720308740) (s : State) {t0 : State} (h0 : (execEvSealNow s) = .next t0) : t0.rest fs = s.rest fs := by
  refine State.rest_weaken hfs ?_
  clear hfs fs
  unfold execEvSealNow at h0
  simpa using done_rest (fs := 10995720308740) (by decide) _ h0

theorem execEvFill_rest {fs : Nat} (hfs : 10995720308740 &&& fs = 10995720308740) (s : State) {t0 : State} (h0 : (execEvFill s) = .next t0) : t0.rest fs = s.rest fs := by
  refine State.rest_weaken hfs ?_
  clear hfs fs
  unfold execEvFill at h0
  simpa using done_rest (fs := 10995720308740) (by decide) _ h0

theorem execEvNop_rest {fs : Nat} (hfs : 10995720308740 &&& fs = 10995720308740) (word : Word) (s : State) {t0 : State} (h0 : (execEvNop word s) = .next t0) : t0.rest fs = s.rest fs := by
  refine State.rest_weaken hfs ?_
  clear hfs fs
  unfold execEvNop at h0
  simpa (maxDischargeDepth := 8) using done_rest (fs := 10995720308740) (by decide) _ h0

theorem execGptpSyncStateChange_rest {fs : Nat} (hfs : 6597069817858 &&& fs = 6597069817858) (change : GptpChange) (s : State) {t0 : State} (h0 : (execGptpSyncStateChange change s) = .next t0) : t0.rest fs = s.rest fs := by
  refine State.rest_weaken hfs ?_
  clear hfs fs
  unfold execGptpSyncStateChange at h0
  simpa using done_rest (fs := 6597069817858) (by decide) _ h0

theorem execServiceTimeout_rest {fs : Nat} (hfs : 11115979393420 &&& fs = 11115979393420) (s : State) {t0 : State} (h0 : (execServiceTimeout s) = .next t0) : t0.rest fs = s.rest fs := by
  refine State.rest_weaken hfs ?_
  clear hfs fs
  unfold execServiceTimeout at h0
  refine doneIf_rest (fs := 11115979393420) (by decide) _ _ _ ?_ h0
  simp

theorem execRetiredPendingBurn_rest {fs : Nat} (hfs : 11115979393420 &&& fs = 11115979393420) (s : State) {t0 : State} (h0 : (execRetiredPendingBurn s) = .next t0) : t0.rest fs = s.rest fs := by
  refine State.rest_weaken hfs ?_
  clear hfs fs
  unfold execRetiredPendingBurn at h0
  simpa using done_rest (fs := 11115979393420) (by decide) _ h0

theorem execSealSigned_rest {fs : Nat} (hfs : 11115979393420 &&& fs = 11115979393420) (result : SealResult) (s : State) {t0 : State} (h0 : (execSealSigned result s) = .next t0) : t0.rest fs = s.rest fs := by
  refine State.rest_weaken hfs ?_
  clear hfs fs
  unfold execSealSigned at h0
  simpa using done_rest (fs := 11115979393420) (by decide) _ h0

theorem execUpdateApplyComplete_rest {fs : Nat} (hfs : 11270531106820 &&& fs = 11270531106820) (ok : Bool) (s : State) {t0 : State} (h0 : (execUpdateApplyComplete ok s) = .next t0) : t0.rest fs = s.rest fs := by
  refine State.rest_weaken hfs ?_
  clear hfs fs
  unfold execUpdateApplyComplete at h0
  simpa using done_rest (fs := 11270531106820) (by decide) _ h0

theorem execSecurityCoreRestartComplete_rest {fs : Nat} (hfs : 12496011262348 &&& fs = 12496011262348) (s : State) {t0 : State} (h0 : (execSecurityCoreRestartComplete s) = .next t0) : t0.rest fs = s.rest fs := by
  refine State.rest_weaken hfs ?_
  clear hfs fs
  unfold execSecurityCoreRestartComplete at h0
  refine doneIf_rest (fs := 12496011262348) (by decide) _ _ _ ?_ h0
  simp

theorem execTrialWindowEnd_rest {fs : Nat} (hfs : 12375483734404 &&& fs = 12375483734404) (s : State) {t0 : State} (h0 : (execTrialWindowEnd s) = .next t0) : t0.rest fs = s.rest fs := by
  refine State.rest_weaken hfs ?_
  clear hfs fs
  unfold execTrialWindowEnd at h0
  simpa using done_rest (fs := 12375483734404) (by decide) _ h0

theorem execValidationComplete_rest {fs : Nat} (hfs : 2199358816644 &&& fs = 2199358816644) (s : State) {t0 : State} (h0 : (execValidationComplete s) = .next t0) : t0.rest fs = s.rest fs := by
  refine State.rest_weaken hfs ?_
  clear hfs fs
  unfold execValidationComplete at h0
  simpa using done_rest (fs := 2199358816644) (by decide) _ h0

theorem execPlacementComplete_rest {fs : Nat} (hfs : 2199358816644 &&& fs = 2199358816644) (s : State) {t0 : State} (h0 : (execPlacementComplete s) = .next t0) : t0.rest fs = s.rest fs := by
  refine State.rest_weaken hfs ?_
  clear hfs fs
  unfold execPlacementComplete at h0
  simpa using done_rest (fs := 2199358816644) (by decide) _ h0

theorem execStoreWriteComplete_rest {fs : Nat} (hfs : 6597405363076 &&& fs = 6597405363076) (ok : Bool) (s : State) {t0 : State} (h0 : (execStoreWriteComplete ok s) = .next t0) : t0.rest fs = s.rest fs := by
  refine State.rest_weaken hfs ?_
  clear hfs fs
  unfold execStoreWriteComplete at h0
  simpa using done_rest (fs := 6597405363076) (by decide) _ h0

theorem execApplyInstant_rest {fs : Nat} (hfs : 12601240047502 &&& fs = 12601240047502) (s : State) {t0 : State} (h0 : (execApplyInstant s) = .next t0) : t0.rest fs = s.rest fs := by
  refine State.rest_weaken hfs ?_
  clear hfs fs
  unfold execApplyInstant at h0
  simpa using done_rest (fs := 12601240047502) (by decide) _ h0

theorem execCommitDone_rest {fs : Nat} (hfs : 2199090381188 &&& fs = 2199090381188) (s : State) {t0 : State} (h0 : (execCommitDone s) = .next t0) : t0.rest fs = s.rest fs := by
  refine State.rest_weaken hfs ?_
  clear hfs fs
  unfold execCommitDone at h0
  simpa using done_rest (fs := 2199090381188) (by decide) _ h0

theorem execPowerOn_rest {fs : Nat} (hfs : 2267742760964 &&& fs = 2267742760964) (s : State) {t0 : State} (h0 : (execPowerOn s) = .next t0) : t0.rest fs = s.rest fs := by
  refine State.rest_weaken hfs ?_
  clear hfs fs
  unfold execPowerOn at h0
  simpa using done_rest (fs := 2267742760964) (by decide) _ h0

theorem execResetNAssert_rest {fs : Nat} (hfs : 15942918594542 &&& fs = 15942918594542) (s : State) {t0 : State} (h0 : (execResetNAssert s) = .next t0) : t0.rest fs = s.rest fs := by
  refine State.rest_weaken hfs ?_
  clear hfs fs
  unfold execResetNAssert at h0
  simpa using done_rest (fs := 15942918594542) (by decide) _ h0

theorem execResetNRelease_rest {fs : Nat} (hfs : 2748779130884 &&& fs = 2748779130884) (s : State) {t0 : State} (h0 : (execResetNRelease s) = .next t0) : t0.rest fs = s.rest fs := by
  refine State.rest_weaken hfs ?_
  clear hfs fs
  unfold execResetNRelease at h0
  simpa using done_rest (fs := 2748779130884) (by decide) _ h0

theorem execVaonLoss_rest {fs : Nat} (hfs : 16492674416622 &&& fs = 16492674416622) (s : State) {t0 : State} (h0 : (execVaonLoss s) = .next t0) : t0.rest fs = s.rest fs := by
  refine State.rest_weaken hfs ?_
  clear hfs fs
  unfold execVaonLoss at h0
  simpa using done_rest (fs := 16492674416622) (by decide) _ h0

theorem execSupplyOutOfRange_rest {fs : Nat} (hfs : 16492674416622 &&& fs = 16492674416622) (sup : Supply) (s : State) {t0 : State} (h0 : execSupplyOutOfRange sup s = .next t0) : t0.rest fs = s.rest fs := by
  refine State.rest_weaken hfs ?_
  clear hfs fs
  unfold execSupplyOutOfRange at h0
  cases sup <;> first | simpa using done_rest (fs := 16492674416622) (by decide) _ h0 | (refine doneIf_rest (fs := 16492674416622) (by decide) _ _ _ ?_ h0; simp; done)

theorem execSuppliesInRange_rest {fs : Nat} (hfs : 2199023308800 &&& fs = 2199023308800) (die : Nat) (s : State) {t0 : State} (h0 : (execSuppliesInRange die s) = .next t0) : t0.rest fs = s.rest fs := by
  refine State.rest_weaken hfs ?_
  clear hfs fs
  unfold execSuppliesInRange at h0
  refine doneIf_rest (fs := 2199023308800) (by decide) _ _ _ ?_ h0
  simp

theorem execSwitchDieSupplyTimeout_rest {fs : Nat} (hfs : 11003443267972 &&& fs = 11003443267972) (die : Nat) (s : State) {t0 : State} (h0 : (execSwitchDieSupplyTimeout die s) = .next t0) : t0.rest fs = s.rest fs := by
  refine State.rest_weaken hfs ?_
  clear hfs fs
  unfold execSwitchDieSupplyTimeout at h0
  refine doneIf_rest (fs := 11003443267972) (by decide) _ _ _ ?_ h0
  simp

theorem execGuardFirmwareVerified_rest {fs : Nat} (hfs : 15926342777348 &&& fs = 15926342777348) (flash : List Bytes) (s : State) {t0 : State} (h0 : (execGuardFirmwareVerified flash s) = .next t0) : t0.rest fs = s.rest fs := by
  refine State.rest_weaken hfs ?_
  clear hfs fs
  unfold execGuardFirmwareVerified at h0
  simpa using done_rest (fs := 15926342777348) (by decide) _ h0

theorem execSwitchImagesLoaded_rest {fs : Nat} (hfs : 6598411997188 &&& fs = 6598411997188) (s : State) {t0 : State} (h0 : (execSwitchImagesLoaded s) = .next t0) : t0.rest fs = s.rest fs := by
  refine State.rest_weaken hfs ?_
  clear hfs fs
  unfold execSwitchImagesLoaded at h0
  simpa using done_rest (fs := 6598411997188) (by decide) _ h0

theorem execTablesApplied_rest {fs : Nat} (hfs : 12498160834956 &&& fs = 12498160834956) (s : State) {t0 : State} (h0 : (execTablesApplied s) = .next t0) : t0.rest fs = s.rest fs := by
  refine State.rest_weaken hfs ?_
  clear hfs fs
  unfold execTablesApplied at h0
  simpa using done_rest (fs := 12498160834956) (by decide) _ h0

theorem execAutoSleepCheck_rest {fs : Nat} (hfs : 12099464974340 &&& fs = 12099464974340) (s : State) {t0 : State} (h0 : (execAutoSleepCheck s) = .next t0) : t0.rest fs = s.rest fs := by
  refine State.rest_weaken hfs ?_
  clear hfs fs
  unfold execAutoSleepCheck at h0
  simpa using done_rest (fs := 12099464974340) (by decide) _ h0

theorem execPowerEntryPortsDisabled_rest {fs : Nat} (hfs : 10995720321028 &&& fs = 10995720321028) (s : State) {t0 : State} (h0 : (execPowerEntryPortsDisabled s) = .next t0) : t0.rest fs = s.rest fs := by
  refine State.rest_weaken hfs ?_
  clear hfs fs
  unfold execPowerEntryPortsDisabled at h0
  simpa using done_rest (fs := 10995720321028) (by decide) _ h0

theorem execPowerEntryComplete_rest {fs : Nat} (hfs : 12060268166638 &&& fs = 12060268166638) (s : State) {t0 : State} (h0 : (execPowerEntryComplete s) = .next t0) : t0.rest fs = s.rest fs := by
  refine State.rest_weaken hfs ?_
  clear hfs fs
  unfold execPowerEntryComplete at h0
  simpa using done_rest (fs := 12060268166638) (by decide) _ h0

theorem execOdRelayResponse_rest {fs : Nat} (hfs : 16496974610500 &&& fs = 16496974610500) (sess : Nat) (s : State) {t0 : State} (h0 : (execOdRelayResponse sess s) = .next t0) : t0.rest fs = s.rest fs := by
  refine State.rest_weaken hfs ?_
  clear hfs fs
  unfold execOdRelayResponse at h0
  simpa using done_rest (fs := 16496974610500) (by decide) _ h0

theorem execOdEntryWrite_rest {fs : Nat} (hfs : 17033645251038 &&& fs = 17033645251038) (sess : Nat) (index : Nat) (sub : Nat) (value : Bytes) (s : State) {t0 : State} (h0 : (execOdEntryWrite sess index sub value s) = .next t0) : t0.rest fs = s.rest fs := by
  refine State.rest_weaken hfs ?_
  clear hfs fs
  unfold execOdEntryWrite at h0
  refine doneIf_rest (fs := 17033645251038) (by decide) _ _ _ ?_ h0
  simp

theorem execRowAction_rest {fs : Nat} (hfs : 17033645251038 &&& fs = 17033645251038) (sess : Nat) (index : Nat) (value : Nat) (s : State) {t0 : State} (h0 : (execRowAction sess index value s) = .next t0) : t0.rest fs = s.rest fs := by
  refine State.rest_weaken hfs ?_
  clear hfs fs
  unfold execRowAction at h0
  refine doneIf_rest (fs := 17033645251038) (by decide) _ _ _ ?_ h0
  simp

theorem execCounterClear_rest {fs : Nat} (hfs : 17033645251038 &&& fs = 17033645251038) (sess : Nat) (index : Nat) (sub : Nat) (s : State) {t0 : State} (h0 : (execCounterClear sess index sub s) = .next t0) : t0.rest fs = s.rest fs := by
  refine State.rest_weaken hfs ?_
  clear hfs fs
  unfold execCounterClear at h0
  refine doneIf_rest (fs := 17033645251038) (by decide) _ _ _ ?_ h0
  simp

theorem execCanRecover_rest {fs : Nat} (hfs : 17033645251038 &&& fs = 17033645251038) (sess : Nat) (slot : Nat) (value : Nat) (s : State) {t0 : State} (h0 : (execCanRecover sess slot value s) = .next t0) : t0.rest fs = s.rest fs := by
  refine State.rest_weaken hfs ?_
  clear hfs fs
  unfold execCanRecover at h0
  refine doneIf_rest (fs := 17033645251038) (by decide) _ _ _ ?_ h0
  simp

theorem execClearBlock_rest {fs : Nat} (hfs : 17033645251038 &&& fs = 17033645251038) (sess : Nat) (row : Nat) (s : State) {t0 : State} (h0 : (execClearBlock sess row s) = .next t0) : t0.rest fs = s.rest fs := by
  refine State.rest_weaken hfs ?_
  clear hfs fs
  unfold execClearBlock at h0
  refine doneIf_rest (fs := 17033645251038) (by decide) _ _ _ ?_ h0
  simp

theorem execFdbFlush_rest {fs : Nat} (hfs : 17033645251038 &&& fs = 17033645251038) (sess : Nat) (value : Nat) (s : State) {t0 : State} (h0 : (execFdbFlush sess value s) = .next t0) : t0.rest fs = s.rest fs := by
  refine State.rest_weaken hfs ?_
  clear hfs fs
  unfold execFdbFlush at h0
  refine doneIf_rest (fs := 17033645251038) (by decide) _ _ _ ?_ h0
  simp

theorem execRtcWrite_rest {fs : Nat} (hfs : 17033645251038 &&& fs = 17033645251038) (sess : Nat) (value : Nat) (s : State) {t0 : State} (h0 : (execRtcWrite sess value s) = .next t0) : t0.rest fs = s.rest fs := by
  refine State.rest_weaken hfs ?_
  clear hfs fs
  unfold execRtcWrite at h0
  refine doneIf_rest (fs := 17033645251038) (by decide) _ _ _ ?_ h0
  simp

theorem execReadmit_rest {fs : Nat} (hfs : 17033645251038 &&& fs = 17033645251038) (sess : Nat) (die : Nat) (s : State) {t0 : State} (h0 : (execReadmit sess die s) = .next t0) : t0.rest fs = s.rest fs := by
  refine State.rest_weaken hfs ?_
  clear hfs fs
  unfold execReadmit at h0
  refine doneIf_rest (fs := 17033645251038) (by decide) _ _ _ ?_ h0
  simp

theorem execSafeRelease_rest {fs : Nat} (hfs : 17033645251038 &&& fs = 17033645251038) (sess : Nat) (value : Nat) (s : State) {t0 : State} (h0 : (execSafeRelease sess value s) = .next t0) : t0.rest fs = s.rest fs := by
  refine State.rest_weaken hfs ?_
  clear hfs fs
  unfold execSafeRelease at h0
  refine doneIf_rest (fs := 17033645251038) (by decide) _ _ _ ?_ h0
  simp

theorem execDistanceReset_rest {fs : Nat} (hfs : 17033645251038 &&& fs = 17033645251038) (sess : Nat) (input : Nat) (value : Nat) (s : State) {t0 : State} (h0 : (execDistanceReset sess input value s) = .next t0) : t0.rest fs = s.rest fs := by
  refine State.rest_weaken hfs ?_
  clear hfs fs
  unfold execDistanceReset at h0
  refine doneIf_rest (fs := 17033645251038) (by decide) _ _ _ ?_ h0
  simp

theorem execSealNowEntry_rest {fs : Nat} (hfs : 17033645251038 &&& fs = 17033645251038) (sess : Nat) (value : Nat) (s : State) {t0 : State} (h0 : (execSealNowEntry sess value s) = .next t0) : t0.rest fs = s.rest fs := by
  refine State.rest_weaken hfs ?_
  clear hfs fs
  unfold execSealNowEntry at h0
  refine doneIf_rest (fs := 17033645251038) (by decide) _ _ _ ?_ h0
  simp

theorem execJournalAck_rest {fs : Nat} (hfs : 17033645251038 &&& fs = 17033645251038) (sess : Nat) (seq : Nat) (s : State) {t0 : State} (h0 : (execJournalAck sess seq s) = .next t0) : t0.rest fs = s.rest fs := by
  refine State.rest_weaken hfs ?_
  clear hfs fs
  unfold execJournalAck at h0
  refine doneIf_rest (fs := 17033645251038) (by decide) _ _ _ ?_ h0
  simp

theorem execLifecycleRequest_rest {fs : Nat} (hfs : 17033645251038 &&& fs = 17033645251038) (sess : Nat) (value : Nat) (s : State) {t0 : State} (h0 : (execLifecycleRequest sess value s) = .next t0) : t0.rest fs = s.rest fs := by
  refine State.rest_weaken hfs ?_
  clear hfs fs
  unfold execLifecycleRequest at h0
  refine doneIf_rest (fs := 17033645251038) (by decide) _ _ _ ?_ h0
  simp

theorem execLifecycleConfirm_rest {fs : Nat} (hfs : 17033645251038 &&& fs = 17033645251038) (sess : Nat) (value : Bytes) (s : State) {t0 : State} (h0 : (execLifecycleConfirm sess value s) = .next t0) : t0.rest fs = s.rest fs := by
  refine State.rest_weaken hfs ?_
  clear hfs fs
  unfold execLifecycleConfirm at h0
  refine doneIf_rest (fs := 17033645251038) (by decide) _ _ _ ?_ h0
  simp

theorem execProvisionBlob_rest {fs : Nat} (hfs : 17033645251038 &&& fs = 17033645251038) (sess : Nat) (blob : Bytes) (s : State) {t0 : State} (h0 : (execProvisionBlob sess blob s) = .next t0) : t0.rest fs = s.rest fs := by
  refine State.rest_weaken hfs ?_
  clear hfs fs
  unfold execProvisionBlob at h0
  refine doneIf_rest (fs := 17033645251038) (by decide) _ _ _ ?_ h0
  simp

theorem execKeyDerive_rest {fs : Nat} (hfs : 17033645251038 &&& fs = 17033645251038) (sess : Nat) (s : State) {t0 : State} (h0 : (execKeyDerive sess s) = .next t0) : t0.rest fs = s.rest fs := by
  refine State.rest_weaken hfs ?_
  clear hfs fs
  unfold execKeyDerive at h0
  refine doneIf_rest (fs := 17033645251038) (by decide) _ _ _ ?_ h0
  simp

theorem execKeyImport_rest {fs : Nat} (hfs : 17033645251038 &&& fs = 17033645251038) (sess : Nat) (s : State) {t0 : State} (h0 : (execKeyImport sess s) = .next t0) : t0.rest fs = s.rest fs := by
  refine State.rest_weaken hfs ?_
  clear hfs fs
  unfold execKeyImport at h0
  refine doneIf_rest (fs := 17033645251038) (by decide) _ _ _ ?_ h0
  simp

theorem execKeyInvalidate_rest {fs : Nat} (hfs : 17033645251038 &&& fs = 17033645251038) (sess : Nat) (s : State) {t0 : State} (h0 : (execKeyInvalidate sess s) = .next t0) : t0.rest fs = s.rest fs := by
  refine State.rest_weaken hfs ?_
  clear hfs fs
  unfold execKeyInvalidate at h0
  refine doneIf_rest (fs := 17033645251038) (by decide) _ _ _ ?_ h0
  simp

theorem execKeyErase_rest {fs : Nat} (hfs : 17033645251038 &&& fs = 17033645251038) (sess : Nat) (s : State) {t0 : State} (h0 : (execKeyErase sess s) = .next t0) : t0.rest fs = s.rest fs := by
  refine State.rest_weaken hfs ?_
  clear hfs fs
  unfold execKeyErase at h0
  refine doneIf_rest (fs := 17033645251038) (by decide) _ _ _ ?_ h0
  simp

theorem execAttestChallenge_rest {fs : Nat} (hfs : 17033645251038 &&& fs = 17033645251038) (sess : Nat) (challenge : Bytes) (s : State) {t0 : State} (h0 : (execAttestChallenge sess challenge s) = .next t0) : t0.rest fs = s.rest fs := by
  refine State.rest_weaken hfs ?_
  clear hfs fs
  unfold execAttestChallenge at h0
  refine doneIf_rest (fs := 17033645251038) (by decide) _ _ _ ?_ h0
  simp

theorem execPowerRequestListen_rest {fs : Nat} (hfs : 17033645251038 &&& fs = 17033645251038) (sess : Nat) (s : State) {t0 : State} (h0 : (execPowerRequestListen sess s) = .next t0) : t0.rest fs = s.rest fs := by
  refine State.rest_weaken hfs ?_
  clear hfs fs
  unfold execPowerRequestListen at h0
  refine doneIf_rest (fs := 17033645251038) (by decide) _ _ _ ?_ h0
  simp

theorem execPowerRequestStandby_rest {fs : Nat} (hfs : 17033645251038 &&& fs = 17033645251038) (sess : Nat) (s : State) {t0 : State} (h0 : (execPowerRequestStandby sess s) = .next t0) : t0.rest fs = s.rest fs := by
  refine State.rest_weaken hfs ?_
  clear hfs fs
  unfold execPowerRequestStandby at h0
  refine doneIf_rest (fs := 17033645251038) (by decide) _ _ _ ?_ h0
  simp

theorem execAppRestart_rest {fs : Nat} (hfs : 17033645251038 &&& fs = 17033645251038) (sess : Nat) (die : Nat) (value : Nat) (s : State) {t0 : State} (h0 : (execAppRestart sess die value s) = .next t0) : t0.rest fs = s.rest fs := by
  refine State.rest_weaken hfs ?_
  clear hfs fs
  unfold execAppRestart at h0
  refine doneIf_rest (fs := 17033645251038) (by decide) _ _ _ ?_ h0
  simp

theorem execUpdateDeltaWrite_rest {fs : Nat} (hfs : 17033645251038 &&& fs = 17033645251038) (sess : Nat) (offset : Nat) (bytes : Bytes) (s : State) {t0 : State} (h0 : (execUpdateDeltaWrite sess offset bytes s) = .next t0) : t0.rest fs = s.rest fs := by
  refine State.rest_weaken hfs ?_
  clear hfs fs
  unfold execUpdateDeltaWrite at h0
  refine doneIf_rest (fs := 17033645251038) (by decide) _ _ _ ?_ h0
  simp

theorem execUpdateCheck_rest {fs : Nat} (hfs : 17033645251038 &&& fs = 17033645251038) (sess : Nat) (s : State) {t0 : State} (h0 : (execUpdateCheck sess s) = .next t0) : t0.rest fs = s.rest fs := by
  refine State.rest_weaken hfs ?_
  clear hfs fs
  unfold execUpdateCheck at h0
  refine doneIf_rest (fs := 17033645251038) (by decide) _ _ _ ?_ h0
  simp

theorem execUpdateApply_rest {fs : Nat} (hfs : 17033645251038 &&& fs = 17033645251038) (sess : Nat) (s : State) {t0 : State} (h0 : (execUpdateApply sess s) = .next t0) : t0.rest fs = s.rest fs := by
  refine State.rest_weaken hfs ?_
  clear hfs fs
  unfold execUpdateApply at h0
  refine doneIf_rest (fs := 17033645251038) (by decide) _ _ _ ?_ h0
  simp

theorem execUpdateStart_rest {fs : Nat} (hfs : 17033645251038 &&& fs = 17033645251038) (sess : Nat) (s : State) {t0 : State} (h0 : (execUpdateStart sess s) = .next t0) : t0.rest fs = s.rest fs := by
  refine State.rest_weaken hfs ?_
  clear hfs fs
  unfold execUpdateStart at h0
  refine doneIf_rest (fs := 17033645251038) (by decide) _ _ _ ?_ h0
  simp

theorem execUpdateAbandon_rest {fs : Nat} (hfs : 17033645251038 &&& fs = 17033645251038) (sess : Nat) (s : State) {t0 : State} (h0 : (execUpdateAbandon sess s) = .next t0) : t0.rest fs = s.rest fs := by
  refine State.rest_weaken hfs ?_
  clear hfs fs
  unfold execUpdateAbandon at h0
  refine doneIf_rest (fs := 17033645251038) (by decide) _ _ _ ?_ h0
  simp

theorem execUpdateReject_rest {fs : Nat} (hfs : 17033645251038 &&& fs = 17033645251038) (sess : Nat) (s : State) {t0 : State} (h0 : (execUpdateReject sess s) = .next t0) : t0.rest fs = s.rest fs := by
  refine State.rest_weaken hfs ?_
  clear hfs fs
  unfold execUpdateReject at h0
  refine doneIf_rest (fs := 17033645251038) (by decide) _ _ _ ?_ h0
  simp

theorem execUpdateConfirm_rest {fs : Nat} (hfs : 17033645251038 &&& fs = 17033645251038) (sess : Nat) (version : Nat) (s : State) {t0 : State} (h0 : (execUpdateConfirm sess version s) = .next t0) : t0.rest fs = s.rest fs := by
  refine State.rest_weaken hfs ?_
  clear hfs fs
  unfold execUpdateConfirm at h0
  refine doneIf_rest (fs := 17033645251038) (by decide) _ _ _ ?_ h0
  simp

theorem execCommitValidate_rest {fs : Nat} (hfs : 17033645251038 &&& fs = 17033645251038) (sess : Nat) (s : State) {t0 : State} (h0 : (execCommitValidate sess s) = .next t0) : t0.rest fs = s.rest fs := by
  refine State.rest_weaken hfs ?_
  clear hfs fs
  unfold execCommitValidate at h0
  refine doneIf_rest (fs := 17033645251038) (by decide) _ _ _ ?_ h0
  simp

theorem execCommitStart_rest {fs : Nat} (hfs : 17033645251038 &&& fs = 17033645251038) (sess : Nat) (s : State) {t0 : State} (h0 : (execCommitStart sess s) = .next t0) : t0.rest fs = s.rest fs := by
  refine State.rest_weaken hfs ?_
  clear hfs fs
  unfold execCommitStart at h0
  refine doneIf_rest (fs := 17033645251038) (by decide) _ _ _ ?_ h0
  simp

theorem execCommitDiscard_rest {fs : Nat} (hfs : 17033645251038 &&& fs = 17033645251038) (sess : Nat) (s : State) {t0 : State} (h0 : (execCommitDiscard sess s) = .next t0) : t0.rest fs = s.rest fs := by
  refine State.rest_weaken hfs ?_
  clear hfs fs
  unfold execCommitDiscard at h0
  refine doneIf_rest (fs := 17033645251038) (by decide) _ _ _ ?_ h0
  simp

theorem execRestoreDefaults_rest {fs : Nat} (hfs : 17033645251038 &&& fs = 17033645251038) (sess : Nat) (s : State) {t0 : State} (h0 : (execRestoreDefaults sess s) = .next t0) : t0.rest fs = s.rest fs := by
  refine State.rest_weaken hfs ?_
  clear hfs fs
  unfold execRestoreDefaults at h0
  refine doneIf_rest (fs := 17033645251038) (by decide) _ _ _ ?_ h0
  simp

theorem execDiscardLockHolder_rest {fs : Nat} (hfs : 17033645251038 &&& fs = 17033645251038) (sess : Nat) (s : State) {t0 : State} (h0 : (execDiscardLockHolder sess s) = .next t0) : t0.rest fs = s.rest fs := by
  refine State.rest_weaken hfs ?_
  clear hfs fs
  unfold execDiscardLockHolder at h0
  refine doneIf_rest (fs := 17033645251038) (by decide) _ _ _ ?_ h0
  simp

theorem execMdioC22Read_rest {fs : Nat} (hfs : 17033645251038 &&& fs = 17033645251038) (sess : Nat) (slot : Nat) (s : State) {t0 : State} (h0 : (execMdioC22Read sess slot s) = .next t0) : t0.rest fs = s.rest fs := by
  refine State.rest_weaken hfs ?_
  clear hfs fs
  unfold execMdioC22Read at h0
  refine doneIf_rest (fs := 17033645251038) (by decide) _ _ _ ?_ h0
  simp

theorem execMdioC22Write_rest {fs : Nat} (hfs : 17033645251038 &&& fs = 17033645251038) (sess : Nat) (slot : Nat) (s : State) {t0 : State} (h0 : (execMdioC22Write sess slot s) = .next t0) : t0.rest fs = s.rest fs := by
  refine State.rest_weaken hfs ?_
  clear hfs fs
  unfold execMdioC22Write at h0
  refine doneIf_rest (fs := 17033645251038) (by decide) _ _ _ ?_ h0
  simp

theorem execMdioC45Read_rest {fs : Nat} (hfs : 17033645251038 &&& fs = 17033645251038) (sess : Nat) (slot : Nat) (s : State) {t0 : State} (h0 : (execMdioC45Read sess slot s) = .next t0) : t0.rest fs = s.rest fs := by
  refine State.rest_weaken hfs ?_
  clear hfs fs
  unfold execMdioC45Read at h0
  refine doneIf_rest (fs := 17033645251038) (by decide) _ _ _ ?_ h0
  simp

theorem execMdioC45Write_rest {fs : Nat} (hfs : 17033645251038 &&& fs = 17033645251038) (sess : Nat) (slot : Nat) (s : State) {t0 : State} (h0 : (execMdioC45Write sess slot s) = .next t0) : t0.rest fs = s.rest fs := by
  refine State.rest_weaken hfs ?_
  clear hfs fs
  unfold execMdioC45Write at h0
  refine doneIf_rest (fs := 17033645251038) (by decide) _ _ _ ?_ h0
  simp

theorem execMailboxComplete_rest {fs : Nat} (hfs : 17033645250974 &&& fs = 17033645250974) (die : Nat) (s : State) {t0 : State} (h0 : (execMailboxComplete die s) = .next t0) : t0.rest fs = s.rest fs := by
  refine State.rest_weaken hfs ?_
  clear hfs fs
  unfold execMailboxComplete at h0
  refine doneIf_rest (fs := 17033645250974) (by decide) _ _ _ ?_ h0
  simp (maxDischargeDepth := 8)

theorem execMdioOperationComplete_rest {fs : Nat} (hfs : 16498585223244 &&& fs = 16498585223244) (die : Nat) (data : Nat) (answered : Bool) (s : State) {t0 : State} (h0 : (execMdioOperationComplete die data answered s) = .next t0) : t0.rest fs = s.rest fs := by
  refine State.rest_weaken hfs ?_
  clear hfs fs
  unfold execMdioOperationComplete at h0
  refine doneIf_rest (fs := 16498585223244) (by decide) _ _ _ ?_ h0
  simp

theorem execAniseRead_rest {fs : Nat} (hfs : 16497578592364 &&& fs = 16497578592364) (m : AniseMsg) (s : State) {t0 : State} (h0 : (execAniseRead m s) = .next t0) : t0.rest fs = s.rest fs := by
  refine State.rest_weaken hfs ?_
  clear hfs fs
  unfold execAniseRead at h0
  refine doneIf_rest (fs := 16497578592364) (by decide) _ _ _ ?_ h0
  (repeat' split) <;> simp (maxDischargeDepth := 8)

theorem execAniseWrite_rest {fs : Nat} (hfs : 17033645251038 &&& fs = 17033645251038) (m : AniseMsg) (s : State) {t0 : State} (h0 : (execAniseWrite m s) = .next t0) : t0.rest fs = s.rest fs := by
  refine State.rest_weaken hfs ?_
  clear hfs fs
  unfold execAniseWrite at h0
  refine doneIf_rest (fs := 17033645251038) (by decide) _ _ _ ?_ h0
  (repeat' split) <;> simp (maxDischargeDepth := 8)

theorem execAniseOpen_rest {fs : Nat} (hfs : 16496974610540 &&& fs = 16496974610540) (m : AniseMsg) (s : State) {t0 : State} (h0 : (execAniseOpen m s) = .next t0) : t0.rest fs = s.rest fs := by
  refine State.rest_weaken hfs ?_
  clear hfs fs
  unfold execAniseOpen at h0
  refine doneIf_rest (fs := 16496974610540) (by decide) _ _ _ ?_ h0
  (repeat' split) <;> simp (maxDischargeDepth := 8)

theorem execAniseAuth_rest {fs : Nat} (hfs : 16496974612572 &&& fs = 16496974612572) (m : AniseMsg) (s : State) {t0 : State} (h0 : (execAniseAuth m s) = .next t0) : t0.rest fs = s.rest fs := by
  refine State.rest_weaken hfs ?_
  clear hfs fs
  unfold execAniseAuth at h0
  refine State.aniseIn_rest (fs := 16496974612572) (by decide) _ _ _ ?_ h0
  intro s
  (repeat' split) <;> simp

theorem execAniseClose_rest {fs : Nat} (hfs : 16565694087628 &&& fs = 16565694087628) (m : AniseMsg) (s : State) {t0 : State} (h0 : (execAniseClose m s) = .next t0) : t0.rest fs = s.rest fs := by
  refine State.rest_weaken hfs ?_
  clear hfs fs
  unfold execAniseClose at h0
  refine doneIf_rest (fs := 16565694087628) (by decide) _ _ _ ?_ h0
  (repeat' split) <;> simp (maxDischargeDepth := 8)

theorem execAniseEcho_rest {fs : Nat} (hfs : 16496974610508 &&& fs = 16496974610508) (m : AniseMsg) (s : State) {t0 : State} (h0 : (execAniseEcho m s) = .next t0) : t0.rest fs = s.rest fs := by
  refine State.rest_weaken hfs ?_
  clear hfs fs
  unfold execAniseEcho at h0
  refine doneIf_rest (fs := 16496974610508) (by decide) _ _ _ ?_ h0
  (repeat' split) <;> simp (maxDischargeDepth := 8)

theorem execJtagBypass_rest {fs : Nat} (hfs : 2748779085824 &&& fs = 2748779085824) (s : State) {t0 : State} (h0 : (execJtagBypass s) = .next t0) : t0.rest fs = s.rest fs := by
  refine State.rest_weaken hfs ?_
  clear hfs fs
  unfold execJtagBypass at h0
  simpa using done_rest (fs := 2748779085824) (by decide) _ h0

theorem execJtagSamplePreload_rest {fs : Nat} (hfs : 15942918619136 &&& fs = 15942918619136) (cells : Nat) (s : State) {t0 : State} (h0 : (execJtagSamplePreload cells s) = .next t0) : t0.rest fs = s.rest fs := by
  refine State.rest_weaken hfs ?_
  clear hfs fs
  unfold execJtagSamplePreload at h0
  simpa using done_rest (fs := 15942918619136) (by decide) _ h0

theorem execJtagExtest_rest {fs : Nat} (hfs : 15942918619136 &&& fs = 15942918619136) (cells : Nat) (s : State) {t0 : State} (h0 : (execJtagExtest cells s) = .next t0) : t0.rest fs = s.rest fs := by
  refine State.rest_weaken hfs ?_
  clear hfs fs
  unfold execJtagExtest at h0
  simpa using done_rest (fs := 15942918619136) (by decide) _ h0

theorem execJtagTestLogicReset_rest {fs : Nat} (hfs : 2748779085824 &&& fs = 2748779085824) (s : State) {t0 : State} (h0 : (execJtagTestLogicReset s) = .next t0) : t0.rest fs = s.rest fs := by
  refine State.rest_weaken hfs ?_
  clear hfs fs
  unfold execJtagTestLogicReset at h0
  simpa using done_rest (fs := 2748779085824) (by decide) _ h0

theorem execSdoDownloadInitiate_rest {fs : Nat} (hfs : 17033645252062 &&& fs = 17033645252062) (slot : Nat) (msg : Bytes) (s : State) {t0 : State} (h0 : (execSdoDownloadInitiate slot msg s) = .next t0) : t0.rest fs = s.rest fs := by
  refine State.rest_weaken hfs ?_
  clear hfs fs
  unfold execSdoDownloadInitiate at h0
  refine doneIf_rest (fs := 17033645252062) (by decide) _ _ _ ?_ h0
  refine State.when_rest _ _ _ ?_
  intro s
  (repeat' split) <;> simp

theorem execSdoDownloadSegment_rest {fs : Nat} (hfs : 17033645252062 &&& fs = 17033645252062) (slot : Nat) (msg : Bytes) (s : State) {t0 : State} (h0 : (execSdoDownloadSegment slot msg s) = .next t0) : t0.rest fs = s.rest fs := by
  refine State.rest_weaken hfs ?_
  clear hfs fs
  unfold execSdoDownloadSegment at h0
  refine doneIf_rest (fs := 17033645252062) (by decide) _ _ _ ?_ h0
  refine State.when_rest _ _ _ ?_
  intro s
  (repeat' split) <;> simp

theorem execSdoBlockDownload_rest {fs : Nat} (hfs : 17033645252062 &&& fs = 17033645252062) (slot : Nat) (msg : Bytes) (s : State) {t0 : State} (h0 : (execSdoBlockDownload slot msg s) = .next t0) : t0.rest fs = s.rest fs := by
  refine State.rest_weaken hfs ?_
  clear hfs fs
  unfold execSdoBlockDownload at h0
  refine doneIf_rest (fs := 17033645252062) (by decide) _ _ _ ?_ h0
  refine State.when_rest _ _ _ ?_
  intro s
  (repeat' split) <;> simp

theorem execSdoUploadInitiate_rest {fs : Nat} (hfs : 16497578593356 &&& fs = 16497578593356) (slot : Nat) (msg : Bytes) (s : State) {t0 : State} (h0 : (execSdoUploadInitiate slot msg s) = .next t0) : t0.rest fs = s.rest fs := by
  refine State.rest_weaken hfs ?_
  clear hfs fs
  unfold execSdoUploadInitiate at h0
  refine doneIf_rest (fs := 16497578593356) (by decide) _ _ _ ?_ h0
  refine State.when_rest _ _ _ ?_
  intro s
  (repeat' split) <;> simp

theorem execSdoUploadSegment_rest {fs : Nat} (hfs : 10995116295180 &&& fs = 10995116295180) (slot : Nat) (msg : Bytes) (s : State) {t0 : State} (h0 : (execSdoUploadSegment slot msg s) = .next t0) : t0.rest fs = s.rest fs := by
  refine State.rest_weaken hfs ?_
  clear hfs fs
  unfold execSdoUploadSegment at h0
  refine doneIf_rest (fs := 10995116295180) (by decide) _ _ _ ?_ h0
  refine State.when_rest _ _ _ ?_
  intro s
  (repeat' split) <;> simp

theorem execSdoBlockUpload_rest {fs : Nat} (hfs : 16497578593356 &&& fs = 16497578593356) (slot : Nat) (msg : Bytes) (s : State) {t0 : State} (h0 : (execSdoBlockUpload slot msg s) = .next t0) : t0.rest fs = s.rest fs := by
  refine State.rest_weaken hfs ?_
  clear hfs fs
  unfold execSdoBlockUpload at h0
  refine doneIf_rest (fs := 16497578593356) (by decide) _ _ _ ?_ h0
  refine State.when_rest _ _ _ ?_
  intro s
  (repeat' split) <;> simp

theorem execSdoSegmentTimeout_rest {fs : Nat} (hfs : 10995116295168 &&& fs = 10995116295168) (s : State) {t0 : State} (h0 : (execSdoSegmentTimeout s) = .next t0) : t0.rest fs = s.rest fs := by
  refine State.rest_weaken hfs ?_
  clear hfs fs
  unfold execSdoSegmentTimeout at h0
  simpa using done_rest (fs := 10995116295168) (by decide) _ h0

theorem execSdoRequestLevel_rest {fs : Nat} (hfs : 17033645251038 &&& fs = 17033645251038) (sess : Nat) (level : Nat) (s : State) {t0 : State} (h0 : (execSdoRequestLevel sess level s) = .next t0) : t0.rest fs = s.rest fs := by
  refine State.rest_weaken hfs ?_
  clear hfs fs
  unfold execSdoRequestLevel at h0
  refine doneIf_rest (fs := 17033645251038) (by decide) _ _ _ ?_ h0
  simp

theorem execSdoClientNonce_rest {fs : Nat} (hfs : 17033645251038 &&& fs = 17033645251038) (sess : Nat) (nonce : Bytes) (s : State) {t0 : State} (h0 : (execSdoClientNonce sess nonce s) = .next t0) : t0.rest fs = s.rest fs := by
  refine State.rest_weaken hfs ?_
  clear hfs fs
  unfold execSdoClientNonce at h0
  refine doneIf_rest (fs := 17033645251038) (by decide) _ _ _ ?_ h0
  simp

theorem execSdoProof_rest {fs : Nat} (hfs : 17033645251038 &&& fs = 17033645251038) (sess : Nat) (proof : Bytes) (s : State) {t0 : State} (h0 : (execSdoProof sess proof s) = .next t0) : t0.rest fs = s.rest fs := by
  refine State.rest_weaken hfs ?_
  clear hfs fs
  unfold execSdoProof at h0
  refine doneIf_rest (fs := 17033645251038) (by decide) _ _ _ ?_ h0
  simp

theorem execSdoClose_rest {fs : Nat} (hfs : 17033645251038 &&& fs = 17033645251038) (sess : Nat) (value : Nat) (s : State) {t0 : State} (h0 : (execSdoClose sess value s) = .next t0) : t0.rest fs = s.rest fs := by
  refine State.rest_weaken hfs ?_
  clear hfs fs
  unfold execSdoClose at h0
  refine doneIf_rest (fs := 17033645251038) (by decide) _ _ _ ?_ h0
  simp

end Sys2Proof.Machine
end

