-- ==== Sys2Proof/Laws/State.lean ====
section
/-! SUPPORT. Each update of `State` and each field: an update leaves every field but its own as it was, and its own reads back. -/

namespace Sys2Proof.Machine
open Sys2Proof

@[simp] theorem State.emit_variant (s : State) (o : Out) : (s.emit o).variant = s.variant := rfl
@[simp] theorem State.emit_clock (s : State) (o : Out) : (s.emit o).clock = s.clock := rfl
@[simp] theorem State.emit_od (s : State) (o : Out) : (s.emit o).od = s.od := rfl
@[simp] theorem State.emit_sessions (s : State) (o : Out) : (s.emit o).sessions = s.sessions := rfl
@[simp] theorem State.emit_lockouts (s : State) (o : Out) : (s.emit o).lockouts = s.lockouts := rfl
@[simp] theorem State.emit_sidZero (s : State) (o : Out) : (s.emit o).sidZero = s.sidZero := rfl
@[simp] theorem State.emit_relays (s : State) (o : Out) : (s.emit o).relays = s.relays := rfl
@[simp] theorem State.emit_lockHolder (s : State) (o : Out) : (s.emit o).lockHolder = s.lockHolder := rfl
@[simp] theorem State.emit_commit (s : State) (o : Out) : (s.emit o).commit = s.commit := rfl
@[simp] theorem State.emit_bankStore (s : State) (o : Out) : (s.emit o).bankStore = s.bankStore := rfl
@[simp] theorem State.emit_sdo (s : State) (o : Out) : (s.emit o).sdo = s.sdo := rfl
@[simp] theorem State.emit_ev (s : State) (o : Out) : (s.emit o).ev = s.ev := rfl
@[simp] theorem State.emit_power (s : State) (o : Out) : (s.emit o).power = s.power := rfl
@[simp] theorem State.emit_island (s : State) (o : Out) : (s.emit o).island = s.island := rfl
@[simp] theorem State.emit_safe (s : State) (o : Out) : (s.emit o).safe = s.safe := rfl
@[simp] theorem State.emit_dies (s : State) (o : Out) : (s.emit o).dies = s.dies := rfl
@[simp] theorem State.emit_queues (s : State) (o : Out) : (s.emit o).queues = s.queues := rfl
@[simp] theorem State.emit_bp (s : State) (o : Out) : (s.emit o).bp = s.bp := rfl
@[simp] theorem State.emit_policers (s : State) (o : Out) : (s.emit o).policers = s.policers := rfl
@[simp] theorem State.emit_credits (s : State) (o : Out) : (s.emit o).credits = s.credits := rfl
@[simp] theorem State.emit_links (s : State) (o : Out) : (s.emit o).links = s.links := rfl
@[simp] theorem State.emit_markers (s : State) (o : Out) : (s.emit o).markers = s.markers := rfl
@[simp] theorem State.emit_ports (s : State) (o : Out) : (s.emit o).ports = s.ports := rfl
@[simp] theorem State.emit_limiters (s : State) (o : Out) : (s.emit o).limiters = s.limiters := rfl
@[simp] theorem State.emit_fresh64 (s : State) (o : Out) : (s.emit o).fresh64 = s.fresh64 := rfl
@[simp] theorem State.emit_txCounters (s : State) (o : Out) : (s.emit o).txCounters = s.txCounters := rfl
@[simp] theorem State.emit_mram (s : State) (o : Out) : (s.emit o).mram = s.mram := rfl
@[simp] theorem State.emit_lastGen (s : State) (o : Out) : (s.emit o).lastGen = s.lastGen := rfl
@[simp] theorem State.emit_sumac (s : State) (o : Out) : (s.emit o).sumac = s.sumac := rfl
@[simp] theorem State.emit_intc (s : State) (o : Out) : (s.emit o).intc = s.intc := rfl
@[simp] theorem State.emit_apps (s : State) (o : Out) : (s.emit o).apps = s.apps := rfl
@[simp] theorem State.emit_tunnels (s : State) (o : Out) : (s.emit o).tunnels = s.tunnels := rfl
@[simp] theorem State.emit_creditDue (s : State) (o : Out) : (s.emit o).creditDue = s.creditDue := rfl
@[simp] theorem State.emit_samples (s : State) (o : Out) : (s.emit o).samples = s.samples := rfl
@[simp] theorem State.emit_keys (s : State) (o : Out) : (s.emit o).keys = s.keys := rfl
@[simp] theorem State.emit_fuses (s : State) (o : Out) : (s.emit o).fuses = s.fuses := rfl
@[simp] theorem State.emit_life (s : State) (o : Out) : (s.emit o).life = s.life := rfl
@[simp] theorem State.emit_measure (s : State) (o : Out) : (s.emit o).measure = s.measure := rfl
@[simp] theorem State.emit_update (s : State) (o : Out) : (s.emit o).update = s.update := rfl
@[simp] theorem State.emit_jtag (s : State) (o : Out) : (s.emit o).jtag = s.jtag := rfl
@[simp] theorem State.emit_nextFid (s : State) (o : Out) : (s.emit o).nextFid = s.nextFid := rfl
@[simp] theorem State.emit_pins (s : State) (o : Out) : (s.emit o).pins = s.pins := rfl
@[simp] theorem State.emit_fresh (s : State) (o : Out) : (s.emit o).fresh = s.fresh := rfl
@[simp] theorem State.emit_pending (s : State) (o : Out) : (s.emit o).pending = s.pending := rfl

@[simp] theorem State.draw_variant (s : State) : (s.draw).variant = s.variant := rfl
@[simp] theorem State.draw_clock (s : State) : (s.draw).clock = s.clock := rfl
@[simp] theorem State.draw_od (s : State) : (s.draw).od = s.od := rfl
@[simp] theorem State.draw_sessions (s : State) : (s.draw).sessions = s.sessions := rfl
@[simp] theorem State.draw_lockouts (s : State) : (s.draw).lockouts = s.lockouts := rfl
@[simp] theorem State.draw_sidZero (s : State) : (s.draw).sidZero = s.sidZero := rfl
@[simp] theorem State.draw_relays (s : State) : (s.draw).relays = s.relays := rfl
@[simp] theorem State.draw_lockHolder (s : State) : (s.draw).lockHolder = s.lockHolder := rfl
@[simp] theorem State.draw_commit (s : State) : (s.draw).commit = s.commit := rfl
@[simp] theorem State.draw_bankStore (s : State) : (s.draw).bankStore = s.bankStore := rfl
@[simp] theorem State.draw_sdo (s : State) : (s.draw).sdo = s.sdo := rfl
@[simp] theorem State.draw_ev (s : State) : (s.draw).ev = s.ev := rfl
@[simp] theorem State.draw_power (s : State) : (s.draw).power = s.power := rfl
@[simp] theorem State.draw_island (s : State) : (s.draw).island = s.island := rfl
@[simp] theorem State.draw_safe (s : State) : (s.draw).safe = s.safe := rfl
@[simp] theorem State.draw_dies (s : State) : (s.draw).dies = s.dies := rfl
@[simp] theorem State.draw_queues (s : State) : (s.draw).queues = s.queues := rfl
@[simp] theorem State.draw_bp (s : State) : (s.draw).bp = s.bp := rfl
@[simp] theorem State.draw_policers (s : State) : (s.draw).policers = s.policers := rfl
@[simp] theorem State.draw_credits (s : State) : (s.draw).credits = s.credits := rfl
@[simp] theorem State.draw_links (s : State) : (s.draw).links = s.links := rfl
@[simp] theorem State.draw_markers (s : State) : (s.draw).markers = s.markers := rfl
@[simp] theorem State.draw_ports (s : State) : (s.draw).ports = s.ports := rfl
@[simp] theorem State.draw_limiters (s : State) : (s.draw).limiters = s.limiters := rfl
@[simp] theorem State.draw_fresh64 (s : State) : (s.draw).fresh64 = s.fresh64 := rfl
@[simp] theorem State.draw_txCounters (s : State) : (s.draw).txCounters = s.txCounters := rfl
@[simp] theorem State.draw_mram (s : State) : (s.draw).mram = s.mram := rfl
@[simp] theorem State.draw_lastGen (s : State) : (s.draw).lastGen = s.lastGen := rfl
@[simp] theorem State.draw_sumac (s : State) : (s.draw).sumac = s.sumac := rfl
@[simp] theorem State.draw_intc (s : State) : (s.draw).intc = s.intc := rfl
@[simp] theorem State.draw_apps (s : State) : (s.draw).apps = s.apps := rfl
@[simp] theorem State.draw_tunnels (s : State) : (s.draw).tunnels = s.tunnels := rfl
@[simp] theorem State.draw_creditDue (s : State) : (s.draw).creditDue = s.creditDue := rfl
@[simp] theorem State.draw_samples (s : State) : (s.draw).samples = s.samples := rfl
@[simp] theorem State.draw_keys (s : State) : (s.draw).keys = s.keys := rfl
@[simp] theorem State.draw_fuses (s : State) : (s.draw).fuses = s.fuses := rfl
@[simp] theorem State.draw_life (s : State) : (s.draw).life = s.life := rfl
@[simp] theorem State.draw_measure (s : State) : (s.draw).measure = s.measure := rfl
@[simp] theorem State.draw_update (s : State) : (s.draw).update = s.update := rfl
@[simp] theorem State.draw_jtag (s : State) : (s.draw).jtag = s.jtag := rfl
@[simp] theorem State.draw_nextFid (s : State) : (s.draw).nextFid = s.nextFid := rfl
@[simp] theorem State.draw_pins (s : State) : (s.draw).pins = s.pins := rfl
@[simp] theorem State.draw_out (s : State) : (s.draw).out = s.out := rfl
@[simp] theorem State.draw_pending (s : State) : (s.draw).pending = s.pending := rfl

@[simp] theorem State.mramWrite_variant (s : State) : (s.mramWrite).variant = s.variant := rfl
@[simp] theorem State.mramWrite_clock (s : State) : (s.mramWrite).clock = s.clock := rfl
@[simp] theorem State.mramWrite_od (s : State) : (s.mramWrite).od = s.od := rfl
@[simp] theorem State.mramWrite_sessions (s : State) : (s.mramWrite).sessions = s.sessions := rfl
@[simp] theorem State.mramWrite_lockouts (s : State) : (s.mramWrite).lockouts = s.lockouts := rfl
@[simp] theorem State.mramWrite_sidZero (s : State) : (s.mramWrite).sidZero = s.sidZero := rfl
@[simp] theorem State.mramWrite_relays (s : State) : (s.mramWrite).relays = s.relays := rfl
@[simp] theorem State.mramWrite_lockHolder (s : State) : (s.mramWrite).lockHolder = s.lockHolder := rfl
@[simp] theorem State.mramWrite_commit (s : State) : (s.mramWrite).commit = s.commit := rfl
@[simp] theorem State.mramWrite_bankStore (s : State) : (s.mramWrite).bankStore = s.bankStore := rfl
@[simp] theorem State.mramWrite_sdo (s : State) : (s.mramWrite).sdo = s.sdo := rfl
@[simp] theorem State.mramWrite_ev (s : State) : (s.mramWrite).ev = s.ev := rfl
@[simp] theorem State.mramWrite_power (s : State) : (s.mramWrite).power = s.power := rfl
@[simp] theorem State.mramWrite_island (s : State) : (s.mramWrite).island = s.island := rfl
@[simp] theorem State.mramWrite_safe (s : State) : (s.mramWrite).safe = s.safe := rfl
@[simp] theorem State.mramWrite_dies (s : State) : (s.mramWrite).dies = s.dies := rfl
@[simp] theorem State.mramWrite_queues (s : State) : (s.mramWrite).queues = s.queues := rfl
@[simp] theorem State.mramWrite_bp (s : State) : (s.mramWrite).bp = s.bp := rfl
@[simp] theorem State.mramWrite_policers (s : State) : (s.mramWrite).policers = s.policers := rfl
@[simp] theorem State.mramWrite_credits (s : State) : (s.mramWrite).credits = s.credits := rfl
@[simp] theorem State.mramWrite_links (s : State) : (s.mramWrite).links = s.links := rfl
@[simp] theorem State.mramWrite_markers (s : State) : (s.mramWrite).markers = s.markers := rfl
@[simp] theorem State.mramWrite_ports (s : State) : (s.mramWrite).ports = s.ports := rfl
@[simp] theorem State.mramWrite_limiters (s : State) : (s.mramWrite).limiters = s.limiters := rfl
@[simp] theorem State.mramWrite_fresh64 (s : State) : (s.mramWrite).fresh64 = s.fresh64 := rfl
@[simp] theorem State.mramWrite_txCounters (s : State) : (s.mramWrite).txCounters = s.txCounters := rfl
@[simp] theorem State.mramWrite_lastGen (s : State) : (s.mramWrite).lastGen = s.lastGen := rfl
@[simp] theorem State.mramWrite_sumac (s : State) : (s.mramWrite).sumac = s.sumac := rfl
@[simp] theorem State.mramWrite_intc (s : State) : (s.mramWrite).intc = s.intc := rfl
@[simp] theorem State.mramWrite_apps (s : State) : (s.mramWrite).apps = s.apps := rfl
@[simp] theorem State.mramWrite_tunnels (s : State) : (s.mramWrite).tunnels = s.tunnels := rfl
@[simp] theorem State.mramWrite_creditDue (s : State) : (s.mramWrite).creditDue = s.creditDue := rfl
@[simp] theorem State.mramWrite_samples (s : State) : (s.mramWrite).samples = s.samples := rfl
@[simp] theorem State.mramWrite_keys (s : State) : (s.mramWrite).keys = s.keys := rfl
@[simp] theorem State.mramWrite_fuses (s : State) : (s.mramWrite).fuses = s.fuses := rfl
@[simp] theorem State.mramWrite_life (s : State) : (s.mramWrite).life = s.life := rfl
@[simp] theorem State.mramWrite_measure (s : State) : (s.mramWrite).measure = s.measure := rfl
@[simp] theorem State.mramWrite_update (s : State) : (s.mramWrite).update = s.update := rfl
@[simp] theorem State.mramWrite_jtag (s : State) : (s.mramWrite).jtag = s.jtag := rfl
@[simp] theorem State.mramWrite_nextFid (s : State) : (s.mramWrite).nextFid = s.nextFid := rfl
@[simp] theorem State.mramWrite_pins (s : State) : (s.mramWrite).pins = s.pins := rfl
@[simp] theorem State.mramWrite_fresh (s : State) : (s.mramWrite).fresh = s.fresh := rfl
@[simp] theorem State.mramWrite_out (s : State) : (s.mramWrite).out = s.out := rfl
@[simp] theorem State.mramWrite_pending (s : State) : (s.mramWrite).pending = s.pending := rfl

@[simp] theorem State.setDieState_variant (s : State) (n : Nat) (d : Die) : (s.setDieState n d).variant = s.variant := rfl
@[simp] theorem State.setDieState_clock (s : State) (n : Nat) (d : Die) : (s.setDieState n d).clock = s.clock := rfl
@[simp] theorem State.setDieState_od (s : State) (n : Nat) (d : Die) : (s.setDieState n d).od = s.od := rfl
@[simp] theorem State.setDieState_sessions (s : State) (n : Nat) (d : Die) : (s.setDieState n d).sessions = s.sessions := rfl
@[simp] theorem State.setDieState_lockouts (s : State) (n : Nat) (d : Die) : (s.setDieState n d).lockouts = s.lockouts := rfl
@[simp] theorem State.setDieState_sidZero (s : State) (n : Nat) (d : Die) : (s.setDieState n d).sidZero = s.sidZero := rfl
@[simp] theorem State.setDieState_relays (s : State) (n : Nat) (d : Die) : (s.setDieState n d).relays = s.relays := rfl
@[simp] theorem State.setDieState_lockHolder (s : State) (n : Nat) (d : Die) : (s.setDieState n d).lockHolder = s.lockHolder := rfl
@[simp] theorem State.setDieState_commit (s : State) (n : Nat) (d : Die) : (s.setDieState n d).commit = s.commit := rfl
@[simp] theorem State.setDieState_bankStore (s : State) (n : Nat) (d : Die) : (s.setDieState n d).bankStore = s.bankStore := rfl
@[simp] theorem State.setDieState_sdo (s : State) (n : Nat) (d : Die) : (s.setDieState n d).sdo = s.sdo := rfl
@[simp] theorem State.setDieState_ev (s : State) (n : Nat) (d : Die) : (s.setDieState n d).ev = s.ev := rfl
@[simp] theorem State.setDieState_power (s : State) (n : Nat) (d : Die) : (s.setDieState n d).power = s.power := rfl
@[simp] theorem State.setDieState_island (s : State) (n : Nat) (d : Die) : (s.setDieState n d).island = s.island := rfl
@[simp] theorem State.setDieState_safe (s : State) (n : Nat) (d : Die) : (s.setDieState n d).safe = s.safe := rfl
@[simp] theorem State.setDieState_queues (s : State) (n : Nat) (d : Die) : (s.setDieState n d).queues = s.queues := rfl
@[simp] theorem State.setDieState_bp (s : State) (n : Nat) (d : Die) : (s.setDieState n d).bp = s.bp := rfl
@[simp] theorem State.setDieState_policers (s : State) (n : Nat) (d : Die) : (s.setDieState n d).policers = s.policers := rfl
@[simp] theorem State.setDieState_credits (s : State) (n : Nat) (d : Die) : (s.setDieState n d).credits = s.credits := rfl
@[simp] theorem State.setDieState_links (s : State) (n : Nat) (d : Die) : (s.setDieState n d).links = s.links := rfl
@[simp] theorem State.setDieState_markers (s : State) (n : Nat) (d : Die) : (s.setDieState n d).markers = s.markers := rfl
@[simp] theorem State.setDieState_ports (s : State) (n : Nat) (d : Die) : (s.setDieState n d).ports = s.ports := rfl
@[simp] theorem State.setDieState_limiters (s : State) (n : Nat) (d : Die) : (s.setDieState n d).limiters = s.limiters := rfl
@[simp] theorem State.setDieState_fresh64 (s : State) (n : Nat) (d : Die) : (s.setDieState n d).fresh64 = s.fresh64 := rfl
@[simp] theorem State.setDieState_txCounters (s : State) (n : Nat) (d : Die) : (s.setDieState n d).txCounters = s.txCounters := rfl
@[simp] theorem State.setDieState_mram (s : State) (n : Nat) (d : Die) : (s.setDieState n d).mram = s.mram := rfl
@[simp] theorem State.setDieState_lastGen (s : State) (n : Nat) (d : Die) : (s.setDieState n d).lastGen = s.lastGen := rfl
@[simp] theorem State.setDieState_sumac (s : State) (n : Nat) (d : Die) : (s.setDieState n d).sumac = s.sumac := rfl
@[simp] theorem State.setDieState_intc (s : State) (n : Nat) (d : Die) : (s.setDieState n d).intc = s.intc := rfl
@[simp] theorem State.setDieState_apps (s : State) (n : Nat) (d : Die) : (s.setDieState n d).apps = s.apps := rfl
@[simp] theorem State.setDieState_tunnels (s : State) (n : Nat) (d : Die) : (s.setDieState n d).tunnels = s.tunnels := rfl
@[simp] theorem State.setDieState_creditDue (s : State) (n : Nat) (d : Die) : (s.setDieState n d).creditDue = s.creditDue := rfl
@[simp] theorem State.setDieState_samples (s : State) (n : Nat) (d : Die) : (s.setDieState n d).samples = s.samples := rfl
@[simp] theorem State.setDieState_keys (s : State) (n : Nat) (d : Die) : (s.setDieState n d).keys = s.keys := rfl
@[simp] theorem State.setDieState_fuses (s : State) (n : Nat) (d : Die) : (s.setDieState n d).fuses = s.fuses := rfl
@[simp] theorem State.setDieState_life (s : State) (n : Nat) (d : Die) : (s.setDieState n d).life = s.life := rfl
@[simp] theorem State.setDieState_measure (s : State) (n : Nat) (d : Die) : (s.setDieState n d).measure = s.measure := rfl
@[simp] theorem State.setDieState_update (s : State) (n : Nat) (d : Die) : (s.setDieState n d).update = s.update := rfl
@[simp] theorem State.setDieState_jtag (s : State) (n : Nat) (d : Die) : (s.setDieState n d).jtag = s.jtag := rfl
@[simp] theorem State.setDieState_nextFid (s : State) (n : Nat) (d : Die) : (s.setDieState n d).nextFid = s.nextFid := rfl
@[simp] theorem State.setDieState_pins (s : State) (n : Nat) (d : Die) : (s.setDieState n d).pins = s.pins := rfl
@[simp] theorem State.setDieState_fresh (s : State) (n : Nat) (d : Die) : (s.setDieState n d).fresh = s.fresh := rfl
@[simp] theorem State.setDieState_out (s : State) (n : Nat) (d : Die) : (s.setDieState n d).out = s.out := rfl
@[simp] theorem State.setDieState_pending (s : State) (n : Nat) (d : Die) : (s.setDieState n d).pending = s.pending := rfl

@[simp] theorem State.updDie_variant (s : State) (n : Nat) (f : Die → Die) : (s.updDie n f).variant = s.variant := rfl
@[simp] theorem State.updDie_clock (s : State) (n : Nat) (f : Die → Die) : (s.updDie n f).clock = s.clock := rfl
@[simp] theorem State.updDie_od (s : State) (n : Nat) (f : Die → Die) : (s.updDie n f).od = s.od := rfl
@[simp] theorem State.updDie_sessions (s : State) (n : Nat) (f : Die → Die) : (s.updDie n f).sessions = s.sessions := rfl
@[simp] theorem State.updDie_lockouts (s : State) (n : Nat) (f : Die → Die) : (s.updDie n f).lockouts = s.lockouts := rfl
@[simp] theorem State.updDie_sidZero (s : State) (n : Nat) (f : Die → Die) : (s.updDie n f).sidZero = s.sidZero := rfl
@[simp] theorem State.updDie_relays (s : State) (n : Nat) (f : Die → Die) : (s.updDie n f).relays = s.relays := rfl
@[simp] theorem State.updDie_lockHolder (s : State) (n : Nat) (f : Die → Die) : (s.updDie n f).lockHolder = s.lockHolder := rfl
@[simp] theorem State.updDie_commit (s : State) (n : Nat) (f : Die → Die) : (s.updDie n f).commit = s.commit := rfl
@[simp] theorem State.updDie_bankStore (s : State) (n : Nat) (f : Die → Die) : (s.updDie n f).bankStore = s.bankStore := rfl
@[simp] theorem State.updDie_sdo (s : State) (n : Nat) (f : Die → Die) : (s.updDie n f).sdo = s.sdo := rfl
@[simp] theorem State.updDie_ev (s : State) (n : Nat) (f : Die → Die) : (s.updDie n f).ev = s.ev := rfl
@[simp] theorem State.updDie_power (s : State) (n : Nat) (f : Die → Die) : (s.updDie n f).power = s.power := rfl
@[simp] theorem State.updDie_island (s : State) (n : Nat) (f : Die → Die) : (s.updDie n f).island = s.island := rfl
@[simp] theorem State.updDie_safe (s : State) (n : Nat) (f : Die → Die) : (s.updDie n f).safe = s.safe := rfl
@[simp] theorem State.updDie_queues (s : State) (n : Nat) (f : Die → Die) : (s.updDie n f).queues = s.queues := rfl
@[simp] theorem State.updDie_bp (s : State) (n : Nat) (f : Die → Die) : (s.updDie n f).bp = s.bp := rfl
@[simp] theorem State.updDie_policers (s : State) (n : Nat) (f : Die → Die) : (s.updDie n f).policers = s.policers := rfl
@[simp] theorem State.updDie_credits (s : State) (n : Nat) (f : Die → Die) : (s.updDie n f).credits = s.credits := rfl
@[simp] theorem State.updDie_links (s : State) (n : Nat) (f : Die → Die) : (s.updDie n f).links = s.links := rfl
@[simp] theorem State.updDie_markers (s : State) (n : Nat) (f : Die → Die) : (s.updDie n f).markers = s.markers := rfl
@[simp] theorem State.updDie_ports (s : State) (n : Nat) (f : Die → Die) : (s.updDie n f).ports = s.ports := rfl
@[simp] theorem State.updDie_limiters (s : State) (n : Nat) (f : Die → Die) : (s.updDie n f).limiters = s.limiters := rfl
@[simp] theorem State.updDie_fresh64 (s : State) (n : Nat) (f : Die → Die) : (s.updDie n f).fresh64 = s.fresh64 := rfl
@[simp] theorem State.updDie_txCounters (s : State) (n : Nat) (f : Die → Die) : (s.updDie n f).txCounters = s.txCounters := rfl
@[simp] theorem State.updDie_mram (s : State) (n : Nat) (f : Die → Die) : (s.updDie n f).mram = s.mram := rfl
@[simp] theorem State.updDie_lastGen (s : State) (n : Nat) (f : Die → Die) : (s.updDie n f).lastGen = s.lastGen := rfl
@[simp] theorem State.updDie_sumac (s : State) (n : Nat) (f : Die → Die) : (s.updDie n f).sumac = s.sumac := rfl
@[simp] theorem State.updDie_intc (s : State) (n : Nat) (f : Die → Die) : (s.updDie n f).intc = s.intc := rfl
@[simp] theorem State.updDie_apps (s : State) (n : Nat) (f : Die → Die) : (s.updDie n f).apps = s.apps := rfl
@[simp] theorem State.updDie_tunnels (s : State) (n : Nat) (f : Die → Die) : (s.updDie n f).tunnels = s.tunnels := rfl
@[simp] theorem State.updDie_creditDue (s : State) (n : Nat) (f : Die → Die) : (s.updDie n f).creditDue = s.creditDue := rfl
@[simp] theorem State.updDie_samples (s : State) (n : Nat) (f : Die → Die) : (s.updDie n f).samples = s.samples := rfl
@[simp] theorem State.updDie_keys (s : State) (n : Nat) (f : Die → Die) : (s.updDie n f).keys = s.keys := rfl
@[simp] theorem State.updDie_fuses (s : State) (n : Nat) (f : Die → Die) : (s.updDie n f).fuses = s.fuses := rfl
@[simp] theorem State.updDie_life (s : State) (n : Nat) (f : Die → Die) : (s.updDie n f).life = s.life := rfl
@[simp] theorem State.updDie_measure (s : State) (n : Nat) (f : Die → Die) : (s.updDie n f).measure = s.measure := rfl
@[simp] theorem State.updDie_update (s : State) (n : Nat) (f : Die → Die) : (s.updDie n f).update = s.update := rfl
@[simp] theorem State.updDie_jtag (s : State) (n : Nat) (f : Die → Die) : (s.updDie n f).jtag = s.jtag := rfl
@[simp] theorem State.updDie_nextFid (s : State) (n : Nat) (f : Die → Die) : (s.updDie n f).nextFid = s.nextFid := rfl
@[simp] theorem State.updDie_pins (s : State) (n : Nat) (f : Die → Die) : (s.updDie n f).pins = s.pins := rfl
@[simp] theorem State.updDie_fresh (s : State) (n : Nat) (f : Die → Die) : (s.updDie n f).fresh = s.fresh := rfl
@[simp] theorem State.updDie_out (s : State) (n : Nat) (f : Die → Die) : (s.updDie n f).out = s.out := rfl
@[simp] theorem State.updDie_pending (s : State) (n : Nat) (f : Die → Die) : (s.updDie n f).pending = s.pending := rfl

@[simp] theorem State.setIntc_variant (s : State) (n k : Nat) (t : IntcTarget) : (s.setIntc n k t).variant = s.variant := rfl
@[simp] theorem State.setIntc_clock (s : State) (n k : Nat) (t : IntcTarget) : (s.setIntc n k t).clock = s.clock := rfl
@[simp] theorem State.setIntc_od (s : State) (n k : Nat) (t : IntcTarget) : (s.setIntc n k t).od = s.od := rfl
@[simp] theorem State.setIntc_sessions (s : State) (n k : Nat) (t : IntcTarget) : (s.setIntc n k t).sessions = s.sessions := rfl
@[simp] theorem State.setIntc_lockouts (s : State) (n k : Nat) (t : IntcTarget) : (s.setIntc n k t).lockouts = s.lockouts := rfl
@[simp] theorem State.setIntc_sidZero (s : State) (n k : Nat) (t : IntcTarget) : (s.setIntc n k t).sidZero = s.sidZero := rfl
@[simp] theorem State.setIntc_relays (s : State) (n k : Nat) (t : IntcTarget) : (s.setIntc n k t).relays = s.relays := rfl
@[simp] theorem State.setIntc_lockHolder (s : State) (n k : Nat) (t : IntcTarget) : (s.setIntc n k t).lockHolder = s.lockHolder := rfl
@[simp] theorem State.setIntc_commit (s : State) (n k : Nat) (t : IntcTarget) : (s.setIntc n k t).commit = s.commit := rfl
@[simp] theorem State.setIntc_bankStore (s : State) (n k : Nat) (t : IntcTarget) : (s.setIntc n k t).bankStore = s.bankStore := rfl
@[simp] theorem State.setIntc_sdo (s : State) (n k : Nat) (t : IntcTarget) : (s.setIntc n k t).sdo = s.sdo := rfl
@[simp] theorem State.setIntc_ev (s : State) (n k : Nat) (t : IntcTarget) : (s.setIntc n k t).ev = s.ev := rfl
@[simp] theorem State.setIntc_power (s : State) (n k : Nat) (t : IntcTarget) : (s.setIntc n k t).power = s.power := rfl
@[simp] theorem State.setIntc_island (s : State) (n k : Nat) (t : IntcTarget) : (s.setIntc n k t).island = s.island := rfl
@[simp] theorem State.setIntc_safe (s : State) (n k : Nat) (t : IntcTarget) : (s.setIntc n k t).safe = s.safe := rfl
@[simp] theorem State.setIntc_dies (s : State) (n k : Nat) (t : IntcTarget) : (s.setIntc n k t).dies = s.dies := rfl
@[simp] theorem State.setIntc_queues (s : State) (n k : Nat) (t : IntcTarget) : (s.setIntc n k t).queues = s.queues := rfl
@[simp] theorem State.setIntc_bp (s : State) (n k : Nat) (t : IntcTarget) : (s.setIntc n k t).bp = s.bp := rfl
@[simp] theorem State.setIntc_policers (s : State) (n k : Nat) (t : IntcTarget) : (s.setIntc n k t).policers = s.policers := rfl
@[simp] theorem State.setIntc_credits (s : State) (n k : Nat) (t : IntcTarget) : (s.setIntc n k t).credits = s.credits := rfl
@[simp] theorem State.setIntc_links (s : State) (n k : Nat) (t : IntcTarget) : (s.setIntc n k t).links = s.links := rfl
@[simp] theorem State.setIntc_markers (s : State) (n k : Nat) (t : IntcTarget) : (s.setIntc n k t).markers = s.markers := rfl
@[simp] theorem State.setIntc_ports (s : State) (n k : Nat) (t : IntcTarget) : (s.setIntc n k t).ports = s.ports := rfl
@[simp] theorem State.setIntc_limiters (s : State) (n k : Nat) (t : IntcTarget) : (s.setIntc n k t).limiters = s.limiters := rfl
@[simp] theorem State.setIntc_fresh64 (s : State) (n k : Nat) (t : IntcTarget) : (s.setIntc n k t).fresh64 = s.fresh64 := rfl
@[simp] theorem State.setIntc_txCounters (s : State) (n k : Nat) (t : IntcTarget) : (s.setIntc n k t).txCounters = s.txCounters := rfl
@[simp] theorem State.setIntc_mram (s : State) (n k : Nat) (t : IntcTarget) : (s.setIntc n k t).mram = s.mram := rfl
@[simp] theorem State.setIntc_lastGen (s : State) (n k : Nat) (t : IntcTarget) : (s.setIntc n k t).lastGen = s.lastGen := rfl
@[simp] theorem State.setIntc_sumac (s : State) (n k : Nat) (t : IntcTarget) : (s.setIntc n k t).sumac = s.sumac := rfl
@[simp] theorem State.setIntc_apps (s : State) (n k : Nat) (t : IntcTarget) : (s.setIntc n k t).apps = s.apps := rfl
@[simp] theorem State.setIntc_tunnels (s : State) (n k : Nat) (t : IntcTarget) : (s.setIntc n k t).tunnels = s.tunnels := rfl
@[simp] theorem State.setIntc_creditDue (s : State) (n k : Nat) (t : IntcTarget) : (s.setIntc n k t).creditDue = s.creditDue := rfl
@[simp] theorem State.setIntc_samples (s : State) (n k : Nat) (t : IntcTarget) : (s.setIntc n k t).samples = s.samples := rfl
@[simp] theorem State.setIntc_keys (s : State) (n k : Nat) (t : IntcTarget) : (s.setIntc n k t).keys = s.keys := rfl
@[simp] theorem State.setIntc_fuses (s : State) (n k : Nat) (t : IntcTarget) : (s.setIntc n k t).fuses = s.fuses := rfl
@[simp] theorem State.setIntc_life (s : State) (n k : Nat) (t : IntcTarget) : (s.setIntc n k t).life = s.life := rfl
@[simp] theorem State.setIntc_measure (s : State) (n k : Nat) (t : IntcTarget) : (s.setIntc n k t).measure = s.measure := rfl
@[simp] theorem State.setIntc_update (s : State) (n k : Nat) (t : IntcTarget) : (s.setIntc n k t).update = s.update := rfl
@[simp] theorem State.setIntc_jtag (s : State) (n k : Nat) (t : IntcTarget) : (s.setIntc n k t).jtag = s.jtag := rfl
@[simp] theorem State.setIntc_nextFid (s : State) (n k : Nat) (t : IntcTarget) : (s.setIntc n k t).nextFid = s.nextFid := rfl
@[simp] theorem State.setIntc_pins (s : State) (n k : Nat) (t : IntcTarget) : (s.setIntc n k t).pins = s.pins := rfl
@[simp] theorem State.setIntc_fresh (s : State) (n k : Nat) (t : IntcTarget) : (s.setIntc n k t).fresh = s.fresh := rfl
@[simp] theorem State.setIntc_out (s : State) (n k : Nat) (t : IntcTarget) : (s.setIntc n k t).out = s.out := rfl
@[simp] theorem State.setIntc_pending (s : State) (n k : Nat) (t : IntcTarget) : (s.setIntc n k t).pending = s.pending := rfl

@[simp] theorem State.updEv_variant (s : State) (f : Evidence → Evidence) : (s.updEv f).variant = s.variant := rfl
@[simp] theorem State.updEv_clock (s : State) (f : Evidence → Evidence) : (s.updEv f).clock = s.clock := rfl
@[simp] theorem State.updEv_od (s : State) (f : Evidence → Evidence) : (s.updEv f).od = s.od := rfl
@[simp] theorem State.updEv_sessions (s : State) (f : Evidence → Evidence) : (s.updEv f).sessions = s.sessions := rfl
@[simp] theorem State.updEv_lockouts (s : State) (f : Evidence → Evidence) : (s.updEv f).lockouts = s.lockouts := rfl
@[simp] theorem State.updEv_sidZero (s : State) (f : Evidence → Evidence) : (s.updEv f).sidZero = s.sidZero := rfl
@[simp] theorem State.updEv_relays (s : State) (f : Evidence → Evidence) : (s.updEv f).relays = s.relays := rfl
@[simp] theorem State.updEv_lockHolder (s : State) (f : Evidence → Evidence) : (s.updEv f).lockHolder = s.lockHolder := rfl
@[simp] theorem State.updEv_commit (s : State) (f : Evidence → Evidence) : (s.updEv f).commit = s.commit := rfl
@[simp] theorem State.updEv_bankStore (s : State) (f : Evidence → Evidence) : (s.updEv f).bankStore = s.bankStore := rfl
@[simp] theorem State.updEv_sdo (s : State) (f : Evidence → Evidence) : (s.updEv f).sdo = s.sdo := rfl
@[simp] theorem State.updEv_power (s : State) (f : Evidence → Evidence) : (s.updEv f).power = s.power := rfl
@[simp] theorem State.updEv_island (s : State) (f : Evidence → Evidence) : (s.updEv f).island = s.island := rfl
@[simp] theorem State.updEv_safe (s : State) (f : Evidence → Evidence) : (s.updEv f).safe = s.safe := rfl
@[simp] theorem State.updEv_dies (s : State) (f : Evidence → Evidence) : (s.updEv f).dies = s.dies := rfl
@[simp] theorem State.updEv_queues (s : State) (f : Evidence → Evidence) : (s.updEv f).queues = s.queues := rfl
@[simp] theorem State.updEv_bp (s : State) (f : Evidence → Evidence) : (s.updEv f).bp = s.bp := rfl
@[simp] theorem State.updEv_policers (s : State) (f : Evidence → Evidence) : (s.updEv f).policers = s.policers := rfl
@[simp] theorem State.updEv_credits (s : State) (f : Evidence → Evidence) : (s.updEv f).credits = s.credits := rfl
@[simp] theorem State.updEv_links (s : State) (f : Evidence → Evidence) : (s.updEv f).links = s.links := rfl
@[simp] theorem State.updEv_markers (s : State) (f : Evidence → Evidence) : (s.updEv f).markers = s.markers := rfl
@[simp] theorem State.updEv_ports (s : State) (f : Evidence → Evidence) : (s.updEv f).ports = s.ports := rfl
@[simp] theorem State.updEv_limiters (s : State) (f : Evidence → Evidence) : (s.updEv f).limiters = s.limiters := rfl
@[simp] theorem State.updEv_fresh64 (s : State) (f : Evidence → Evidence) : (s.updEv f).fresh64 = s.fresh64 := rfl
@[simp] theorem State.updEv_txCounters (s : State) (f : Evidence → Evidence) : (s.updEv f).txCounters = s.txCounters := rfl
@[simp] theorem State.updEv_mram (s : State) (f : Evidence → Evidence) : (s.updEv f).mram = s.mram := rfl
@[simp] theorem State.updEv_lastGen (s : State) (f : Evidence → Evidence) : (s.updEv f).lastGen = s.lastGen := rfl
@[simp] theorem State.updEv_sumac (s : State) (f : Evidence → Evidence) : (s.updEv f).sumac = s.sumac := rfl
@[simp] theorem State.updEv_intc (s : State) (f : Evidence → Evidence) : (s.updEv f).intc = s.intc := rfl
@[simp] theorem State.updEv_apps (s : State) (f : Evidence → Evidence) : (s.updEv f).apps = s.apps := rfl
@[simp] theorem State.updEv_tunnels (s : State) (f : Evidence → Evidence) : (s.updEv f).tunnels = s.tunnels := rfl
@[simp] theorem State.updEv_creditDue (s : State) (f : Evidence → Evidence) : (s.updEv f).creditDue = s.creditDue := rfl
@[simp] theorem State.updEv_samples (s : State) (f : Evidence → Evidence) : (s.updEv f).samples = s.samples := rfl
@[simp] theorem State.updEv_keys (s : State) (f : Evidence → Evidence) : (s.updEv f).keys = s.keys := rfl
@[simp] theorem State.updEv_fuses (s : State) (f : Evidence → Evidence) : (s.updEv f).fuses = s.fuses := rfl
@[simp] theorem State.updEv_life (s : State) (f : Evidence → Evidence) : (s.updEv f).life = s.life := rfl
@[simp] theorem State.updEv_measure (s : State) (f : Evidence → Evidence) : (s.updEv f).measure = s.measure := rfl
@[simp] theorem State.updEv_update (s : State) (f : Evidence → Evidence) : (s.updEv f).update = s.update := rfl
@[simp] theorem State.updEv_jtag (s : State) (f : Evidence → Evidence) : (s.updEv f).jtag = s.jtag := rfl
@[simp] theorem State.updEv_nextFid (s : State) (f : Evidence → Evidence) : (s.updEv f).nextFid = s.nextFid := rfl
@[simp] theorem State.updEv_pins (s : State) (f : Evidence → Evidence) : (s.updEv f).pins = s.pins := rfl
@[simp] theorem State.updEv_fresh (s : State) (f : Evidence → Evidence) : (s.updEv f).fresh = s.fresh := rfl
@[simp] theorem State.updEv_out (s : State) (f : Evidence → Evidence) : (s.updEv f).out = s.out := rfl
@[simp] theorem State.updEv_pending (s : State) (f : Evidence → Evidence) : (s.updEv f).pending = s.pending := rfl

@[simp] theorem State.setQueue_variant (s : State) (row : Nat) (l : List Copy) : (s.setQueue row l).variant = s.variant := rfl
@[simp] theorem State.setQueue_clock (s : State) (row : Nat) (l : List Copy) : (s.setQueue row l).clock = s.clock := rfl
@[simp] theorem State.setQueue_od (s : State) (row : Nat) (l : List Copy) : (s.setQueue row l).od = s.od := rfl
@[simp] theorem State.setQueue_sessions (s : State) (row : Nat) (l : List Copy) : (s.setQueue row l).sessions = s.sessions := rfl
@[simp] theorem State.setQueue_lockouts (s : State) (row : Nat) (l : List Copy) : (s.setQueue row l).lockouts = s.lockouts := rfl
@[simp] theorem State.setQueue_sidZero (s : State) (row : Nat) (l : List Copy) : (s.setQueue row l).sidZero = s.sidZero := rfl
@[simp] theorem State.setQueue_relays (s : State) (row : Nat) (l : List Copy) : (s.setQueue row l).relays = s.relays := rfl
@[simp] theorem State.setQueue_lockHolder (s : State) (row : Nat) (l : List Copy) : (s.setQueue row l).lockHolder = s.lockHolder := rfl
@[simp] theorem State.setQueue_commit (s : State) (row : Nat) (l : List Copy) : (s.setQueue row l).commit = s.commit := rfl
@[simp] theorem State.setQueue_bankStore (s : State) (row : Nat) (l : List Copy) : (s.setQueue row l).bankStore = s.bankStore := rfl
@[simp] theorem State.setQueue_sdo (s : State) (row : Nat) (l : List Copy) : (s.setQueue row l).sdo = s.sdo := rfl
@[simp] theorem State.setQueue_ev (s : State) (row : Nat) (l : List Copy) : (s.setQueue row l).ev = s.ev := rfl
@[simp] theorem State.setQueue_power (s : State) (row : Nat) (l : List Copy) : (s.setQueue row l).power = s.power := rfl
@[simp] theorem State.setQueue_island (s : State) (row : Nat) (l : List Copy) : (s.setQueue row l).island = s.island := rfl
@[simp] theorem State.setQueue_safe (s : State) (row : Nat) (l : List Copy) : (s.setQueue row l).safe = s.safe := rfl
@[simp] theorem State.setQueue_dies (s : State) (row : Nat) (l : List Copy) : (s.setQueue row l).dies = s.dies := rfl
@[simp] theorem State.setQueue_bp (s : State) (row : Nat) (l : List Copy) : (s.setQueue row l).bp = s.bp := rfl
@[simp] theorem State.setQueue_policers (s : State) (row : Nat) (l : List Copy) : (s.setQueue row l).policers = s.policers := rfl
@[simp] theorem State.setQueue_credits (s : State) (row : Nat) (l : List Copy) : (s.setQueue row l).credits = s.credits := rfl
@[simp] theorem State.setQueue_links (s : State) (row : Nat) (l : List Copy) : (s.setQueue row l).links = s.links := rfl
@[simp] theorem State.setQueue_markers (s : State) (row : Nat) (l : List Copy) : (s.setQueue row l).markers = s.markers := rfl
@[simp] theorem State.setQueue_ports (s : State) (row : Nat) (l : List Copy) : (s.setQueue row l).ports = s.ports := rfl
@[simp] theorem State.setQueue_limiters (s : State) (row : Nat) (l : List Copy) : (s.setQueue row l).limiters = s.limiters := rfl
@[simp] theorem State.setQueue_fresh64 (s : State) (row : Nat) (l : List Copy) : (s.setQueue row l).fresh64 = s.fresh64 := rfl
@[simp] theorem State.setQueue_txCounters (s : State) (row : Nat) (l : List Copy) : (s.setQueue row l).txCounters = s.txCounters := rfl
@[simp] theorem State.setQueue_mram (s : State) (row : Nat) (l : List Copy) : (s.setQueue row l).mram = s.mram := rfl
@[simp] theorem State.setQueue_lastGen (s : State) (row : Nat) (l : List Copy) : (s.setQueue row l).lastGen = s.lastGen := rfl
@[simp] theorem State.setQueue_sumac (s : State) (row : Nat) (l : List Copy) : (s.setQueue row l).sumac = s.sumac := rfl
@[simp] theorem State.setQueue_intc (s : State) (row : Nat) (l : List Copy) : (s.setQueue row l).intc = s.intc := rfl
@[simp] theorem State.setQueue_apps (s : State) (row : Nat) (l : List Copy) : (s.setQueue row l).apps = s.apps := rfl
@[simp] theorem State.setQueue_tunnels (s : State) (row : Nat) (l : List Copy) : (s.setQueue row l).tunnels = s.tunnels := rfl
@[simp] theorem State.setQueue_creditDue (s : State) (row : Nat) (l : List Copy) : (s.setQueue row l).creditDue = s.creditDue := rfl
@[simp] theorem State.setQueue_samples (s : State) (row : Nat) (l : List Copy) : (s.setQueue row l).samples = s.samples := rfl
@[simp] theorem State.setQueue_keys (s : State) (row : Nat) (l : List Copy) : (s.setQueue row l).keys = s.keys := rfl
@[simp] theorem State.setQueue_fuses (s : State) (row : Nat) (l : List Copy) : (s.setQueue row l).fuses = s.fuses := rfl
@[simp] theorem State.setQueue_life (s : State) (row : Nat) (l : List Copy) : (s.setQueue row l).life = s.life := rfl
@[simp] theorem State.setQueue_measure (s : State) (row : Nat) (l : List Copy) : (s.setQueue row l).measure = s.measure := rfl
@[simp] theorem State.setQueue_update (s : State) (row : Nat) (l : List Copy) : (s.setQueue row l).update = s.update := rfl
@[simp] theorem State.setQueue_jtag (s : State) (row : Nat) (l : List Copy) : (s.setQueue row l).jtag = s.jtag := rfl
@[simp] theorem State.setQueue_nextFid (s : State) (row : Nat) (l : List Copy) : (s.setQueue row l).nextFid = s.nextFid := rfl
@[simp] theorem State.setQueue_pins (s : State) (row : Nat) (l : List Copy) : (s.setQueue row l).pins = s.pins := rfl
@[simp] theorem State.setQueue_fresh (s : State) (row : Nat) (l : List Copy) : (s.setQueue row l).fresh = s.fresh := rfl
@[simp] theorem State.setQueue_out (s : State) (row : Nat) (l : List Copy) : (s.setQueue row l).out = s.out := rfl
@[simp] theorem State.setQueue_pending (s : State) (row : Nat) (l : List Copy) : (s.setQueue row l).pending = s.pending := rfl

@[simp] theorem State.setPort_variant (s : State) (k : Nat) (p : Port) : (s.setPort k p).variant = s.variant := rfl
@[simp] theorem State.setPort_clock (s : State) (k : Nat) (p : Port) : (s.setPort k p).clock = s.clock := rfl
@[simp] theorem State.setPort_od (s : State) (k : Nat) (p : Port) : (s.setPort k p).od = s.od := rfl
@[simp] theorem State.setPort_sessions (s : State) (k : Nat) (p : Port) : (s.setPort k p).sessions = s.sessions := rfl
@[simp] theorem State.setPort_lockouts (s : State) (k : Nat) (p : Port) : (s.setPort k p).lockouts = s.lockouts := rfl
@[simp] theorem State.setPort_sidZero (s : State) (k : Nat) (p : Port) : (s.setPort k p).sidZero = s.sidZero := rfl
@[simp] theorem State.setPort_relays (s : State) (k : Nat) (p : Port) : (s.setPort k p).relays = s.relays := rfl
@[simp] theorem State.setPort_lockHolder (s : State) (k : Nat) (p : Port) : (s.setPort k p).lockHolder = s.lockHolder := rfl
@[simp] theorem State.setPort_commit (s : State) (k : Nat) (p : Port) : (s.setPort k p).commit = s.commit := rfl
@[simp] theorem State.setPort_bankStore (s : State) (k : Nat) (p : Port) : (s.setPort k p).bankStore = s.bankStore := rfl
@[simp] theorem State.setPort_sdo (s : State) (k : Nat) (p : Port) : (s.setPort k p).sdo = s.sdo := rfl
@[simp] theorem State.setPort_ev (s : State) (k : Nat) (p : Port) : (s.setPort k p).ev = s.ev := rfl
@[simp] theorem State.setPort_power (s : State) (k : Nat) (p : Port) : (s.setPort k p).power = s.power := rfl
@[simp] theorem State.setPort_island (s : State) (k : Nat) (p : Port) : (s.setPort k p).island = s.island := rfl
@[simp] theorem State.setPort_safe (s : State) (k : Nat) (p : Port) : (s.setPort k p).safe = s.safe := rfl
@[simp] theorem State.setPort_dies (s : State) (k : Nat) (p : Port) : (s.setPort k p).dies = s.dies := rfl
@[simp] theorem State.setPort_queues (s : State) (k : Nat) (p : Port) : (s.setPort k p).queues = s.queues := rfl
@[simp] theorem State.setPort_bp (s : State) (k : Nat) (p : Port) : (s.setPort k p).bp = s.bp := rfl
@[simp] theorem State.setPort_policers (s : State) (k : Nat) (p : Port) : (s.setPort k p).policers = s.policers := rfl
@[simp] theorem State.setPort_credits (s : State) (k : Nat) (p : Port) : (s.setPort k p).credits = s.credits := rfl
@[simp] theorem State.setPort_links (s : State) (k : Nat) (p : Port) : (s.setPort k p).links = s.links := rfl
@[simp] theorem State.setPort_markers (s : State) (k : Nat) (p : Port) : (s.setPort k p).markers = s.markers := rfl
@[simp] theorem State.setPort_limiters (s : State) (k : Nat) (p : Port) : (s.setPort k p).limiters = s.limiters := rfl
@[simp] theorem State.setPort_fresh64 (s : State) (k : Nat) (p : Port) : (s.setPort k p).fresh64 = s.fresh64 := rfl
@[simp] theorem State.setPort_txCounters (s : State) (k : Nat) (p : Port) : (s.setPort k p).txCounters = s.txCounters := rfl
@[simp] theorem State.setPort_mram (s : State) (k : Nat) (p : Port) : (s.setPort k p).mram = s.mram := rfl
@[simp] theorem State.setPort_lastGen (s : State) (k : Nat) (p : Port) : (s.setPort k p).lastGen = s.lastGen := rfl
@[simp] theorem State.setPort_sumac (s : State) (k : Nat) (p : Port) : (s.setPort k p).sumac = s.sumac := rfl
@[simp] theorem State.setPort_intc (s : State) (k : Nat) (p : Port) : (s.setPort k p).intc = s.intc := rfl
@[simp] theorem State.setPort_apps (s : State) (k : Nat) (p : Port) : (s.setPort k p).apps = s.apps := rfl
@[simp] theorem State.setPort_tunnels (s : State) (k : Nat) (p : Port) : (s.setPort k p).tunnels = s.tunnels := rfl
@[simp] theorem State.setPort_creditDue (s : State) (k : Nat) (p : Port) : (s.setPort k p).creditDue = s.creditDue := rfl
@[simp] theorem State.setPort_samples (s : State) (k : Nat) (p : Port) : (s.setPort k p).samples = s.samples := rfl
@[simp] theorem State.setPort_keys (s : State) (k : Nat) (p : Port) : (s.setPort k p).keys = s.keys := rfl
@[simp] theorem State.setPort_fuses (s : State) (k : Nat) (p : Port) : (s.setPort k p).fuses = s.fuses := rfl
@[simp] theorem State.setPort_life (s : State) (k : Nat) (p : Port) : (s.setPort k p).life = s.life := rfl
@[simp] theorem State.setPort_measure (s : State) (k : Nat) (p : Port) : (s.setPort k p).measure = s.measure := rfl
@[simp] theorem State.setPort_update (s : State) (k : Nat) (p : Port) : (s.setPort k p).update = s.update := rfl
@[simp] theorem State.setPort_jtag (s : State) (k : Nat) (p : Port) : (s.setPort k p).jtag = s.jtag := rfl
@[simp] theorem State.setPort_nextFid (s : State) (k : Nat) (p : Port) : (s.setPort k p).nextFid = s.nextFid := rfl
@[simp] theorem State.setPort_pins (s : State) (k : Nat) (p : Port) : (s.setPort k p).pins = s.pins := rfl
@[simp] theorem State.setPort_fresh (s : State) (k : Nat) (p : Port) : (s.setPort k p).fresh = s.fresh := rfl
@[simp] theorem State.setPort_out (s : State) (k : Nat) (p : Port) : (s.setPort k p).out = s.out := rfl
@[simp] theorem State.setPort_pending (s : State) (k : Nat) (p : Port) : (s.setPort k p).pending = s.pending := rfl

@[simp] theorem State.updPort_variant (s : State) (k : Nat) (f : Port → Port) : (s.updPort k f).variant = s.variant := rfl
@[simp] theorem State.updPort_clock (s : State) (k : Nat) (f : Port → Port) : (s.updPort k f).clock = s.clock := rfl
@[simp] theorem State.updPort_od (s : State) (k : Nat) (f : Port → Port) : (s.updPort k f).od = s.od := rfl
@[simp] theorem State.updPort_sessions (s : State) (k : Nat) (f : Port → Port) : (s.updPort k f).sessions = s.sessions := rfl
@[simp] theorem State.updPort_lockouts (s : State) (k : Nat) (f : Port → Port) : (s.updPort k f).lockouts = s.lockouts := rfl
@[simp] theorem State.updPort_sidZero (s : State) (k : Nat) (f : Port → Port) : (s.updPort k f).sidZero = s.sidZero := rfl
@[simp] theorem State.updPort_relays (s : State) (k : Nat) (f : Port → Port) : (s.updPort k f).relays = s.relays := rfl
@[simp] theorem State.updPort_lockHolder (s : State) (k : Nat) (f : Port → Port) : (s.updPort k f).lockHolder = s.lockHolder := rfl
@[simp] theorem State.updPort_commit (s : State) (k : Nat) (f : Port → Port) : (s.updPort k f).commit = s.commit := rfl
@[simp] theorem State.updPort_bankStore (s : State) (k : Nat) (f : Port → Port) : (s.updPort k f).bankStore = s.bankStore := rfl
@[simp] theorem State.updPort_sdo (s : State) (k : Nat) (f : Port → Port) : (s.updPort k f).sdo = s.sdo := rfl
@[simp] theorem State.updPort_ev (s : State) (k : Nat) (f : Port → Port) : (s.updPort k f).ev = s.ev := rfl
@[simp] theorem State.updPort_power (s : State) (k : Nat) (f : Port → Port) : (s.updPort k f).power = s.power := rfl
@[simp] theorem State.updPort_island (s : State) (k : Nat) (f : Port → Port) : (s.updPort k f).island = s.island := rfl
@[simp] theorem State.updPort_safe (s : State) (k : Nat) (f : Port → Port) : (s.updPort k f).safe = s.safe := rfl
@[simp] theorem State.updPort_dies (s : State) (k : Nat) (f : Port → Port) : (s.updPort k f).dies = s.dies := rfl
@[simp] theorem State.updPort_queues (s : State) (k : Nat) (f : Port → Port) : (s.updPort k f).queues = s.queues := rfl
@[simp] theorem State.updPort_bp (s : State) (k : Nat) (f : Port → Port) : (s.updPort k f).bp = s.bp := rfl
@[simp] theorem State.updPort_policers (s : State) (k : Nat) (f : Port → Port) : (s.updPort k f).policers = s.policers := rfl
@[simp] theorem State.updPort_credits (s : State) (k : Nat) (f : Port → Port) : (s.updPort k f).credits = s.credits := rfl
@[simp] theorem State.updPort_links (s : State) (k : Nat) (f : Port → Port) : (s.updPort k f).links = s.links := rfl
@[simp] theorem State.updPort_markers (s : State) (k : Nat) (f : Port → Port) : (s.updPort k f).markers = s.markers := rfl
@[simp] theorem State.updPort_limiters (s : State) (k : Nat) (f : Port → Port) : (s.updPort k f).limiters = s.limiters := rfl
@[simp] theorem State.updPort_fresh64 (s : State) (k : Nat) (f : Port → Port) : (s.updPort k f).fresh64 = s.fresh64 := rfl
@[simp] theorem State.updPort_txCounters (s : State) (k : Nat) (f : Port → Port) : (s.updPort k f).txCounters = s.txCounters := rfl
@[simp] theorem State.updPort_mram (s : State) (k : Nat) (f : Port → Port) : (s.updPort k f).mram = s.mram := rfl
@[simp] theorem State.updPort_lastGen (s : State) (k : Nat) (f : Port → Port) : (s.updPort k f).lastGen = s.lastGen := rfl
@[simp] theorem State.updPort_sumac (s : State) (k : Nat) (f : Port → Port) : (s.updPort k f).sumac = s.sumac := rfl
@[simp] theorem State.updPort_intc (s : State) (k : Nat) (f : Port → Port) : (s.updPort k f).intc = s.intc := rfl
@[simp] theorem State.updPort_apps (s : State) (k : Nat) (f : Port → Port) : (s.updPort k f).apps = s.apps := rfl
@[simp] theorem State.updPort_tunnels (s : State) (k : Nat) (f : Port → Port) : (s.updPort k f).tunnels = s.tunnels := rfl
@[simp] theorem State.updPort_creditDue (s : State) (k : Nat) (f : Port → Port) : (s.updPort k f).creditDue = s.creditDue := rfl
@[simp] theorem State.updPort_samples (s : State) (k : Nat) (f : Port → Port) : (s.updPort k f).samples = s.samples := rfl
@[simp] theorem State.updPort_keys (s : State) (k : Nat) (f : Port → Port) : (s.updPort k f).keys = s.keys := rfl
@[simp] theorem State.updPort_fuses (s : State) (k : Nat) (f : Port → Port) : (s.updPort k f).fuses = s.fuses := rfl
@[simp] theorem State.updPort_life (s : State) (k : Nat) (f : Port → Port) : (s.updPort k f).life = s.life := rfl
@[simp] theorem State.updPort_measure (s : State) (k : Nat) (f : Port → Port) : (s.updPort k f).measure = s.measure := rfl
@[simp] theorem State.updPort_update (s : State) (k : Nat) (f : Port → Port) : (s.updPort k f).update = s.update := rfl
@[simp] theorem State.updPort_jtag (s : State) (k : Nat) (f : Port → Port) : (s.updPort k f).jtag = s.jtag := rfl
@[simp] theorem State.updPort_nextFid (s : State) (k : Nat) (f : Port → Port) : (s.updPort k f).nextFid = s.nextFid := rfl
@[simp] theorem State.updPort_pins (s : State) (k : Nat) (f : Port → Port) : (s.updPort k f).pins = s.pins := rfl
@[simp] theorem State.updPort_fresh (s : State) (k : Nat) (f : Port → Port) : (s.updPort k f).fresh = s.fresh := rfl
@[simp] theorem State.updPort_out (s : State) (k : Nat) (f : Port → Port) : (s.updPort k f).out = s.out := rfl
@[simp] theorem State.updPort_pending (s : State) (k : Nat) (f : Port → Port) : (s.updPort k f).pending = s.pending := rfl

@[simp] theorem State.setLink_variant (s : State) (n e : Nat) (l : LinkEnd) : (s.setLink n e l).variant = s.variant := rfl
@[simp] theorem State.setLink_clock (s : State) (n e : Nat) (l : LinkEnd) : (s.setLink n e l).clock = s.clock := rfl
@[simp] theorem State.setLink_od (s : State) (n e : Nat) (l : LinkEnd) : (s.setLink n e l).od = s.od := rfl
@[simp] theorem State.setLink_sessions (s : State) (n e : Nat) (l : LinkEnd) : (s.setLink n e l).sessions = s.sessions := rfl
@[simp] theorem State.setLink_lockouts (s : State) (n e : Nat) (l : LinkEnd) : (s.setLink n e l).lockouts = s.lockouts := rfl
@[simp] theorem State.setLink_sidZero (s : State) (n e : Nat) (l : LinkEnd) : (s.setLink n e l).sidZero = s.sidZero := rfl
@[simp] theorem State.setLink_relays (s : State) (n e : Nat) (l : LinkEnd) : (s.setLink n e l).relays = s.relays := rfl
@[simp] theorem State.setLink_lockHolder (s : State) (n e : Nat) (l : LinkEnd) : (s.setLink n e l).lockHolder = s.lockHolder := rfl
@[simp] theorem State.setLink_commit (s : State) (n e : Nat) (l : LinkEnd) : (s.setLink n e l).commit = s.commit := rfl
@[simp] theorem State.setLink_bankStore (s : State) (n e : Nat) (l : LinkEnd) : (s.setLink n e l).bankStore = s.bankStore := rfl
@[simp] theorem State.setLink_sdo (s : State) (n e : Nat) (l : LinkEnd) : (s.setLink n e l).sdo = s.sdo := rfl
@[simp] theorem State.setLink_ev (s : State) (n e : Nat) (l : LinkEnd) : (s.setLink n e l).ev = s.ev := rfl
@[simp] theorem State.setLink_power (s : State) (n e : Nat) (l : LinkEnd) : (s.setLink n e l).power = s.power := rfl
@[simp] theorem State.setLink_island (s : State) (n e : Nat) (l : LinkEnd) : (s.setLink n e l).island = s.island := rfl
@[simp] theorem State.setLink_safe (s : State) (n e : Nat) (l : LinkEnd) : (s.setLink n e l).safe = s.safe := rfl
@[simp] theorem State.setLink_dies (s : State) (n e : Nat) (l : LinkEnd) : (s.setLink n e l).dies = s.dies := rfl
@[simp] theorem State.setLink_queues (s : State) (n e : Nat) (l : LinkEnd) : (s.setLink n e l).queues = s.queues := rfl
@[simp] theorem State.setLink_bp (s : State) (n e : Nat) (l : LinkEnd) : (s.setLink n e l).bp = s.bp := rfl
@[simp] theorem State.setLink_policers (s : State) (n e : Nat) (l : LinkEnd) : (s.setLink n e l).policers = s.policers := rfl
@[simp] theorem State.setLink_credits (s : State) (n e : Nat) (l : LinkEnd) : (s.setLink n e l).credits = s.credits := rfl
@[simp] theorem State.setLink_markers (s : State) (n e : Nat) (l : LinkEnd) : (s.setLink n e l).markers = s.markers := rfl
@[simp] theorem State.setLink_ports (s : State) (n e : Nat) (l : LinkEnd) : (s.setLink n e l).ports = s.ports := rfl
@[simp] theorem State.setLink_limiters (s : State) (n e : Nat) (l : LinkEnd) : (s.setLink n e l).limiters = s.limiters := rfl
@[simp] theorem State.setLink_fresh64 (s : State) (n e : Nat) (l : LinkEnd) : (s.setLink n e l).fresh64 = s.fresh64 := rfl
@[simp] theorem State.setLink_txCounters (s : State) (n e : Nat) (l : LinkEnd) : (s.setLink n e l).txCounters = s.txCounters := rfl
@[simp] theorem State.setLink_mram (s : State) (n e : Nat) (l : LinkEnd) : (s.setLink n e l).mram = s.mram := rfl
@[simp] theorem State.setLink_lastGen (s : State) (n e : Nat) (l : LinkEnd) : (s.setLink n e l).lastGen = s.lastGen := rfl
@[simp] theorem State.setLink_sumac (s : State) (n e : Nat) (l : LinkEnd) : (s.setLink n e l).sumac = s.sumac := rfl
@[simp] theorem State.setLink_intc (s : State) (n e : Nat) (l : LinkEnd) : (s.setLink n e l).intc = s.intc := rfl
@[simp] theorem State.setLink_apps (s : State) (n e : Nat) (l : LinkEnd) : (s.setLink n e l).apps = s.apps := rfl
@[simp] theorem State.setLink_tunnels (s : State) (n e : Nat) (l : LinkEnd) : (s.setLink n e l).tunnels = s.tunnels := rfl
@[simp] theorem State.setLink_creditDue (s : State) (n e : Nat) (l : LinkEnd) : (s.setLink n e l).creditDue = s.creditDue := rfl
@[simp] theorem State.setLink_samples (s : State) (n e : Nat) (l : LinkEnd) : (s.setLink n e l).samples = s.samples := rfl
@[simp] theorem State.setLink_keys (s : State) (n e : Nat) (l : LinkEnd) : (s.setLink n e l).keys = s.keys := rfl
@[simp] theorem State.setLink_fuses (s : State) (n e : Nat) (l : LinkEnd) : (s.setLink n e l).fuses = s.fuses := rfl
@[simp] theorem State.setLink_life (s : State) (n e : Nat) (l : LinkEnd) : (s.setLink n e l).life = s.life := rfl
@[simp] theorem State.setLink_measure (s : State) (n e : Nat) (l : LinkEnd) : (s.setLink n e l).measure = s.measure := rfl
@[simp] theorem State.setLink_update (s : State) (n e : Nat) (l : LinkEnd) : (s.setLink n e l).update = s.update := rfl
@[simp] theorem State.setLink_jtag (s : State) (n e : Nat) (l : LinkEnd) : (s.setLink n e l).jtag = s.jtag := rfl
@[simp] theorem State.setLink_nextFid (s : State) (n e : Nat) (l : LinkEnd) : (s.setLink n e l).nextFid = s.nextFid := rfl
@[simp] theorem State.setLink_pins (s : State) (n e : Nat) (l : LinkEnd) : (s.setLink n e l).pins = s.pins := rfl
@[simp] theorem State.setLink_fresh (s : State) (n e : Nat) (l : LinkEnd) : (s.setLink n e l).fresh = s.fresh := rfl
@[simp] theorem State.setLink_out (s : State) (n e : Nat) (l : LinkEnd) : (s.setLink n e l).out = s.out := rfl
@[simp] theorem State.setLink_pending (s : State) (n e : Nat) (l : LinkEnd) : (s.setLink n e l).pending = s.pending := rfl

@[simp] theorem State.updLink_variant (s : State) (n e : Nat) (f : LinkEnd → LinkEnd) : (s.updLink n e f).variant = s.variant := rfl
@[simp] theorem State.updLink_clock (s : State) (n e : Nat) (f : LinkEnd → LinkEnd) : (s.updLink n e f).clock = s.clock := rfl
@[simp] theorem State.updLink_od (s : State) (n e : Nat) (f : LinkEnd → LinkEnd) : (s.updLink n e f).od = s.od := rfl
@[simp] theorem State.updLink_sessions (s : State) (n e : Nat) (f : LinkEnd → LinkEnd) : (s.updLink n e f).sessions = s.sessions := rfl
@[simp] theorem State.updLink_lockouts (s : State) (n e : Nat) (f : LinkEnd → LinkEnd) : (s.updLink n e f).lockouts = s.lockouts := rfl
@[simp] theorem State.updLink_sidZero (s : State) (n e : Nat) (f : LinkEnd → LinkEnd) : (s.updLink n e f).sidZero = s.sidZero := rfl
@[simp] theorem State.updLink_relays (s : State) (n e : Nat) (f : LinkEnd → LinkEnd) : (s.updLink n e f).relays = s.relays := rfl
@[simp] theorem State.updLink_lockHolder (s : State) (n e : Nat) (f : LinkEnd → LinkEnd) : (s.updLink n e f).lockHolder = s.lockHolder := rfl
@[simp] theorem State.updLink_commit (s : State) (n e : Nat) (f : LinkEnd → LinkEnd) : (s.updLink n e f).commit = s.commit := rfl
@[simp] theorem State.updLink_bankStore (s : State) (n e : Nat) (f : LinkEnd → LinkEnd) : (s.updLink n e f).bankStore = s.bankStore := rfl
@[simp] theorem State.updLink_sdo (s : State) (n e : Nat) (f : LinkEnd → LinkEnd) : (s.updLink n e f).sdo = s.sdo := rfl
@[simp] theorem State.updLink_ev (s : State) (n e : Nat) (f : LinkEnd → LinkEnd) : (s.updLink n e f).ev = s.ev := rfl
@[simp] theorem State.updLink_power (s : State) (n e : Nat) (f : LinkEnd → LinkEnd) : (s.updLink n e f).power = s.power := rfl
@[simp] theorem State.updLink_island (s : State) (n e : Nat) (f : LinkEnd → LinkEnd) : (s.updLink n e f).island = s.island := rfl
@[simp] theorem State.updLink_safe (s : State) (n e : Nat) (f : LinkEnd → LinkEnd) : (s.updLink n e f).safe = s.safe := rfl
@[simp] theorem State.updLink_dies (s : State) (n e : Nat) (f : LinkEnd → LinkEnd) : (s.updLink n e f).dies = s.dies := rfl
@[simp] theorem State.updLink_queues (s : State) (n e : Nat) (f : LinkEnd → LinkEnd) : (s.updLink n e f).queues = s.queues := rfl
@[simp] theorem State.updLink_bp (s : State) (n e : Nat) (f : LinkEnd → LinkEnd) : (s.updLink n e f).bp = s.bp := rfl
@[simp] theorem State.updLink_policers (s : State) (n e : Nat) (f : LinkEnd → LinkEnd) : (s.updLink n e f).policers = s.policers := rfl
@[simp] theorem State.updLink_credits (s : State) (n e : Nat) (f : LinkEnd → LinkEnd) : (s.updLink n e f).credits = s.credits := rfl
@[simp] theorem State.updLink_markers (s : State) (n e : Nat) (f : LinkEnd → LinkEnd) : (s.updLink n e f).markers = s.markers := rfl
@[simp] theorem State.updLink_ports (s : State) (n e : Nat) (f : LinkEnd → LinkEnd) : (s.updLink n e f).ports = s.ports := rfl
@[simp] theorem State.updLink_limiters (s : State) (n e : Nat) (f : LinkEnd → LinkEnd) : (s.updLink n e f).limiters = s.limiters := rfl
@[simp] theorem State.updLink_fresh64 (s : State) (n e : Nat) (f : LinkEnd → LinkEnd) : (s.updLink n e f).fresh64 = s.fresh64 := rfl
@[simp] theorem State.updLink_txCounters (s : State) (n e : Nat) (f : LinkEnd → LinkEnd) : (s.updLink n e f).txCounters = s.txCounters := rfl
@[simp] theorem State.updLink_mram (s : State) (n e : Nat) (f : LinkEnd → LinkEnd) : (s.updLink n e f).mram = s.mram := rfl
@[simp] theorem State.updLink_lastGen (s : State) (n e : Nat) (f : LinkEnd → LinkEnd) : (s.updLink n e f).lastGen = s.lastGen := rfl
@[simp] theorem State.updLink_sumac (s : State) (n e : Nat) (f : LinkEnd → LinkEnd) : (s.updLink n e f).sumac = s.sumac := rfl
@[simp] theorem State.updLink_intc (s : State) (n e : Nat) (f : LinkEnd → LinkEnd) : (s.updLink n e f).intc = s.intc := rfl
@[simp] theorem State.updLink_apps (s : State) (n e : Nat) (f : LinkEnd → LinkEnd) : (s.updLink n e f).apps = s.apps := rfl
@[simp] theorem State.updLink_tunnels (s : State) (n e : Nat) (f : LinkEnd → LinkEnd) : (s.updLink n e f).tunnels = s.tunnels := rfl
@[simp] theorem State.updLink_creditDue (s : State) (n e : Nat) (f : LinkEnd → LinkEnd) : (s.updLink n e f).creditDue = s.creditDue := rfl
@[simp] theorem State.updLink_samples (s : State) (n e : Nat) (f : LinkEnd → LinkEnd) : (s.updLink n e f).samples = s.samples := rfl
@[simp] theorem State.updLink_keys (s : State) (n e : Nat) (f : LinkEnd → LinkEnd) : (s.updLink n e f).keys = s.keys := rfl
@[simp] theorem State.updLink_fuses (s : State) (n e : Nat) (f : LinkEnd → LinkEnd) : (s.updLink n e f).fuses = s.fuses := rfl
@[simp] theorem State.updLink_life (s : State) (n e : Nat) (f : LinkEnd → LinkEnd) : (s.updLink n e f).life = s.life := rfl
@[simp] theorem State.updLink_measure (s : State) (n e : Nat) (f : LinkEnd → LinkEnd) : (s.updLink n e f).measure = s.measure := rfl
@[simp] theorem State.updLink_update (s : State) (n e : Nat) (f : LinkEnd → LinkEnd) : (s.updLink n e f).update = s.update := rfl
@[simp] theorem State.updLink_jtag (s : State) (n e : Nat) (f : LinkEnd → LinkEnd) : (s.updLink n e f).jtag = s.jtag := rfl
@[simp] theorem State.updLink_nextFid (s : State) (n e : Nat) (f : LinkEnd → LinkEnd) : (s.updLink n e f).nextFid = s.nextFid := rfl
@[simp] theorem State.updLink_pins (s : State) (n e : Nat) (f : LinkEnd → LinkEnd) : (s.updLink n e f).pins = s.pins := rfl
@[simp] theorem State.updLink_fresh (s : State) (n e : Nat) (f : LinkEnd → LinkEnd) : (s.updLink n e f).fresh = s.fresh := rfl
@[simp] theorem State.updLink_out (s : State) (n e : Nat) (f : LinkEnd → LinkEnd) : (s.updLink n e f).out = s.out := rfl
@[simp] theorem State.updLink_pending (s : State) (n e : Nat) (f : LinkEnd → LinkEnd) : (s.updLink n e f).pending = s.pending := rfl

@[simp] theorem State.setLimiter_variant (s : State) (k : Nat) (l : Limiter) : (s.setLimiter k l).variant = s.variant := rfl
@[simp] theorem State.setLimiter_clock (s : State) (k : Nat) (l : Limiter) : (s.setLimiter k l).clock = s.clock := rfl
@[simp] theorem State.setLimiter_od (s : State) (k : Nat) (l : Limiter) : (s.setLimiter k l).od = s.od := rfl
@[simp] theorem State.setLimiter_sessions (s : State) (k : Nat) (l : Limiter) : (s.setLimiter k l).sessions = s.sessions := rfl
@[simp] theorem State.setLimiter_lockouts (s : State) (k : Nat) (l : Limiter) : (s.setLimiter k l).lockouts = s.lockouts := rfl
@[simp] theorem State.setLimiter_sidZero (s : State) (k : Nat) (l : Limiter) : (s.setLimiter k l).sidZero = s.sidZero := rfl
@[simp] theorem State.setLimiter_relays (s : State) (k : Nat) (l : Limiter) : (s.setLimiter k l).relays = s.relays := rfl
@[simp] theorem State.setLimiter_lockHolder (s : State) (k : Nat) (l : Limiter) : (s.setLimiter k l).lockHolder = s.lockHolder := rfl
@[simp] theorem State.setLimiter_commit (s : State) (k : Nat) (l : Limiter) : (s.setLimiter k l).commit = s.commit := rfl
@[simp] theorem State.setLimiter_bankStore (s : State) (k : Nat) (l : Limiter) : (s.setLimiter k l).bankStore = s.bankStore := rfl
@[simp] theorem State.setLimiter_sdo (s : State) (k : Nat) (l : Limiter) : (s.setLimiter k l).sdo = s.sdo := rfl
@[simp] theorem State.setLimiter_ev (s : State) (k : Nat) (l : Limiter) : (s.setLimiter k l).ev = s.ev := rfl
@[simp] theorem State.setLimiter_power (s : State) (k : Nat) (l : Limiter) : (s.setLimiter k l).power = s.power := rfl
@[simp] theorem State.setLimiter_island (s : State) (k : Nat) (l : Limiter) : (s.setLimiter k l).island = s.island := rfl
@[simp] theorem State.setLimiter_safe (s : State) (k : Nat) (l : Limiter) : (s.setLimiter k l).safe = s.safe := rfl
@[simp] theorem State.setLimiter_dies (s : State) (k : Nat) (l : Limiter) : (s.setLimiter k l).dies = s.dies := rfl
@[simp] theorem State.setLimiter_queues (s : State) (k : Nat) (l : Limiter) : (s.setLimiter k l).queues = s.queues := rfl
@[simp] theorem State.setLimiter_bp (s : State) (k : Nat) (l : Limiter) : (s.setLimiter k l).bp = s.bp := rfl
@[simp] theorem State.setLimiter_policers (s : State) (k : Nat) (l : Limiter) : (s.setLimiter k l).policers = s.policers := rfl
@[simp] theorem State.setLimiter_credits (s : State) (k : Nat) (l : Limiter) : (s.setLimiter k l).credits = s.credits := rfl
@[simp] theorem State.setLimiter_links (s : State) (k : Nat) (l : Limiter) : (s.setLimiter k l).links = s.links := rfl
@[simp] theorem State.setLimiter_markers (s : State) (k : Nat) (l : Limiter) : (s.setLimiter k l).markers = s.markers := rfl
@[simp] theorem State.setLimiter_ports (s : State) (k : Nat) (l : Limiter) : (s.setLimiter k l).ports = s.ports := rfl
@[simp] theorem State.setLimiter_fresh64 (s : State) (k : Nat) (l : Limiter) : (s.setLimiter k l).fresh64 = s.fresh64 := rfl
@[simp] theorem State.setLimiter_txCounters (s : State) (k : Nat) (l : Limiter) : (s.setLimiter k l).txCounters = s.txCounters := rfl
@[simp] theorem State.setLimiter_mram (s : State) (k : Nat) (l : Limiter) : (s.setLimiter k l).mram = s.mram := rfl
@[simp] theorem State.setLimiter_lastGen (s : State) (k : Nat) (l : Limiter) : (s.setLimiter k l).lastGen = s.lastGen := rfl
@[simp] theorem State.setLimiter_sumac (s : State) (k : Nat) (l : Limiter) : (s.setLimiter k l).sumac = s.sumac := rfl
@[simp] theorem State.setLimiter_intc (s : State) (k : Nat) (l : Limiter) : (s.setLimiter k l).intc = s.intc := rfl
@[simp] theorem State.setLimiter_apps (s : State) (k : Nat) (l : Limiter) : (s.setLimiter k l).apps = s.apps := rfl
@[simp] theorem State.setLimiter_tunnels (s : State) (k : Nat) (l : Limiter) : (s.setLimiter k l).tunnels = s.tunnels := rfl
@[simp] theorem State.setLimiter_creditDue (s : State) (k : Nat) (l : Limiter) : (s.setLimiter k l).creditDue = s.creditDue := rfl
@[simp] theorem State.setLimiter_samples (s : State) (k : Nat) (l : Limiter) : (s.setLimiter k l).samples = s.samples := rfl
@[simp] theorem State.setLimiter_keys (s : State) (k : Nat) (l : Limiter) : (s.setLimiter k l).keys = s.keys := rfl
@[simp] theorem State.setLimiter_fuses (s : State) (k : Nat) (l : Limiter) : (s.setLimiter k l).fuses = s.fuses := rfl
@[simp] theorem State.setLimiter_life (s : State) (k : Nat) (l : Limiter) : (s.setLimiter k l).life = s.life := rfl
@[simp] theorem State.setLimiter_measure (s : State) (k : Nat) (l : Limiter) : (s.setLimiter k l).measure = s.measure := rfl
@[simp] theorem State.setLimiter_update (s : State) (k : Nat) (l : Limiter) : (s.setLimiter k l).update = s.update := rfl
@[simp] theorem State.setLimiter_jtag (s : State) (k : Nat) (l : Limiter) : (s.setLimiter k l).jtag = s.jtag := rfl
@[simp] theorem State.setLimiter_nextFid (s : State) (k : Nat) (l : Limiter) : (s.setLimiter k l).nextFid = s.nextFid := rfl
@[simp] theorem State.setLimiter_pins (s : State) (k : Nat) (l : Limiter) : (s.setLimiter k l).pins = s.pins := rfl
@[simp] theorem State.setLimiter_fresh (s : State) (k : Nat) (l : Limiter) : (s.setLimiter k l).fresh = s.fresh := rfl
@[simp] theorem State.setLimiter_out (s : State) (k : Nat) (l : Limiter) : (s.setLimiter k l).out = s.out := rfl
@[simp] theorem State.setLimiter_pending (s : State) (k : Nat) (l : Limiter) : (s.setLimiter k l).pending = s.pending := rfl

@[simp] theorem State.setApp_variant (s : State) (n : Nat) (a : App) : (s.setApp n a).variant = s.variant := rfl
@[simp] theorem State.setApp_clock (s : State) (n : Nat) (a : App) : (s.setApp n a).clock = s.clock := rfl
@[simp] theorem State.setApp_od (s : State) (n : Nat) (a : App) : (s.setApp n a).od = s.od := rfl
@[simp] theorem State.setApp_sessions (s : State) (n : Nat) (a : App) : (s.setApp n a).sessions = s.sessions := rfl
@[simp] theorem State.setApp_lockouts (s : State) (n : Nat) (a : App) : (s.setApp n a).lockouts = s.lockouts := rfl
@[simp] theorem State.setApp_sidZero (s : State) (n : Nat) (a : App) : (s.setApp n a).sidZero = s.sidZero := rfl
@[simp] theorem State.setApp_relays (s : State) (n : Nat) (a : App) : (s.setApp n a).relays = s.relays := rfl
@[simp] theorem State.setApp_lockHolder (s : State) (n : Nat) (a : App) : (s.setApp n a).lockHolder = s.lockHolder := rfl
@[simp] theorem State.setApp_commit (s : State) (n : Nat) (a : App) : (s.setApp n a).commit = s.commit := rfl
@[simp] theorem State.setApp_bankStore (s : State) (n : Nat) (a : App) : (s.setApp n a).bankStore = s.bankStore := rfl
@[simp] theorem State.setApp_sdo (s : State) (n : Nat) (a : App) : (s.setApp n a).sdo = s.sdo := rfl
@[simp] theorem State.setApp_ev (s : State) (n : Nat) (a : App) : (s.setApp n a).ev = s.ev := rfl
@[simp] theorem State.setApp_power (s : State) (n : Nat) (a : App) : (s.setApp n a).power = s.power := rfl
@[simp] theorem State.setApp_island (s : State) (n : Nat) (a : App) : (s.setApp n a).island = s.island := rfl
@[simp] theorem State.setApp_safe (s : State) (n : Nat) (a : App) : (s.setApp n a).safe = s.safe := rfl
@[simp] theorem State.setApp_dies (s : State) (n : Nat) (a : App) : (s.setApp n a).dies = s.dies := rfl
@[simp] theorem State.setApp_queues (s : State) (n : Nat) (a : App) : (s.setApp n a).queues = s.queues := rfl
@[simp] theorem State.setApp_bp (s : State) (n : Nat) (a : App) : (s.setApp n a).bp = s.bp := rfl
@[simp] theorem State.setApp_policers (s : State) (n : Nat) (a : App) : (s.setApp n a).policers = s.policers := rfl
@[simp] theorem State.setApp_credits (s : State) (n : Nat) (a : App) : (s.setApp n a).credits = s.credits := rfl
@[simp] theorem State.setApp_links (s : State) (n : Nat) (a : App) : (s.setApp n a).links = s.links := rfl
@[simp] theorem State.setApp_markers (s : State) (n : Nat) (a : App) : (s.setApp n a).markers = s.markers := rfl
@[simp] theorem State.setApp_ports (s : State) (n : Nat) (a : App) : (s.setApp n a).ports = s.ports := rfl
@[simp] theorem State.setApp_limiters (s : State) (n : Nat) (a : App) : (s.setApp n a).limiters = s.limiters := rfl
@[simp] theorem State.setApp_fresh64 (s : State) (n : Nat) (a : App) : (s.setApp n a).fresh64 = s.fresh64 := rfl
@[simp] theorem State.setApp_txCounters (s : State) (n : Nat) (a : App) : (s.setApp n a).txCounters = s.txCounters := rfl
@[simp] theorem State.setApp_mram (s : State) (n : Nat) (a : App) : (s.setApp n a).mram = s.mram := rfl
@[simp] theorem State.setApp_lastGen (s : State) (n : Nat) (a : App) : (s.setApp n a).lastGen = s.lastGen := rfl
@[simp] theorem State.setApp_sumac (s : State) (n : Nat) (a : App) : (s.setApp n a).sumac = s.sumac := rfl
@[simp] theorem State.setApp_intc (s : State) (n : Nat) (a : App) : (s.setApp n a).intc = s.intc := rfl
@[simp] theorem State.setApp_tunnels (s : State) (n : Nat) (a : App) : (s.setApp n a).tunnels = s.tunnels := rfl
@[simp] theorem State.setApp_creditDue (s : State) (n : Nat) (a : App) : (s.setApp n a).creditDue = s.creditDue := rfl
@[simp] theorem State.setApp_samples (s : State) (n : Nat) (a : App) : (s.setApp n a).samples = s.samples := rfl
@[simp] theorem State.setApp_keys (s : State) (n : Nat) (a : App) : (s.setApp n a).keys = s.keys := rfl
@[simp] theorem State.setApp_fuses (s : State) (n : Nat) (a : App) : (s.setApp n a).fuses = s.fuses := rfl
@[simp] theorem State.setApp_life (s : State) (n : Nat) (a : App) : (s.setApp n a).life = s.life := rfl
@[simp] theorem State.setApp_measure (s : State) (n : Nat) (a : App) : (s.setApp n a).measure = s.measure := rfl
@[simp] theorem State.setApp_update (s : State) (n : Nat) (a : App) : (s.setApp n a).update = s.update := rfl
@[simp] theorem State.setApp_jtag (s : State) (n : Nat) (a : App) : (s.setApp n a).jtag = s.jtag := rfl
@[simp] theorem State.setApp_nextFid (s : State) (n : Nat) (a : App) : (s.setApp n a).nextFid = s.nextFid := rfl
@[simp] theorem State.setApp_pins (s : State) (n : Nat) (a : App) : (s.setApp n a).pins = s.pins := rfl
@[simp] theorem State.setApp_fresh (s : State) (n : Nat) (a : App) : (s.setApp n a).fresh = s.fresh := rfl
@[simp] theorem State.setApp_out (s : State) (n : Nat) (a : App) : (s.setApp n a).out = s.out := rfl
@[simp] theorem State.setApp_pending (s : State) (n : Nat) (a : App) : (s.setApp n a).pending = s.pending := rfl

@[simp] theorem State.updApp_variant (s : State) (n : Nat) (f : App → App) : (s.updApp n f).variant = s.variant := rfl
@[simp] theorem State.updApp_clock (s : State) (n : Nat) (f : App → App) : (s.updApp n f).clock = s.clock := rfl
@[simp] theorem State.updApp_od (s : State) (n : Nat) (f : App → App) : (s.updApp n f).od = s.od := rfl
@[simp] theorem State.updApp_sessions (s : State) (n : Nat) (f : App → App) : (s.updApp n f).sessions = s.sessions := rfl
@[simp] theorem State.updApp_lockouts (s : State) (n : Nat) (f : App → App) : (s.updApp n f).lockouts = s.lockouts := rfl
@[simp] theorem State.updApp_sidZero (s : State) (n : Nat) (f : App → App) : (s.updApp n f).sidZero = s.sidZero := rfl
@[simp] theorem State.updApp_relays (s : State) (n : Nat) (f : App → App) : (s.updApp n f).relays = s.relays := rfl
@[simp] theorem State.updApp_lockHolder (s : State) (n : Nat) (f : App → App) : (s.updApp n f).lockHolder = s.lockHolder := rfl
@[simp] theorem State.updApp_commit (s : State) (n : Nat) (f : App → App) : (s.updApp n f).commit = s.commit := rfl
@[simp] theorem State.updApp_bankStore (s : State) (n : Nat) (f : App → App) : (s.updApp n f).bankStore = s.bankStore := rfl
@[simp] theorem State.updApp_sdo (s : State) (n : Nat) (f : App → App) : (s.updApp n f).sdo = s.sdo := rfl
@[simp] theorem State.updApp_ev (s : State) (n : Nat) (f : App → App) : (s.updApp n f).ev = s.ev := rfl
@[simp] theorem State.updApp_power (s : State) (n : Nat) (f : App → App) : (s.updApp n f).power = s.power := rfl
@[simp] theorem State.updApp_island (s : State) (n : Nat) (f : App → App) : (s.updApp n f).island = s.island := rfl
@[simp] theorem State.updApp_safe (s : State) (n : Nat) (f : App → App) : (s.updApp n f).safe = s.safe := rfl
@[simp] theorem State.updApp_dies (s : State) (n : Nat) (f : App → App) : (s.updApp n f).dies = s.dies := rfl
@[simp] theorem State.updApp_queues (s : State) (n : Nat) (f : App → App) : (s.updApp n f).queues = s.queues := rfl
@[simp] theorem State.updApp_bp (s : State) (n : Nat) (f : App → App) : (s.updApp n f).bp = s.bp := rfl
@[simp] theorem State.updApp_policers (s : State) (n : Nat) (f : App → App) : (s.updApp n f).policers = s.policers := rfl
@[simp] theorem State.updApp_credits (s : State) (n : Nat) (f : App → App) : (s.updApp n f).credits = s.credits := rfl
@[simp] theorem State.updApp_links (s : State) (n : Nat) (f : App → App) : (s.updApp n f).links = s.links := rfl
@[simp] theorem State.updApp_markers (s : State) (n : Nat) (f : App → App) : (s.updApp n f).markers = s.markers := rfl
@[simp] theorem State.updApp_ports (s : State) (n : Nat) (f : App → App) : (s.updApp n f).ports = s.ports := rfl
@[simp] theorem State.updApp_limiters (s : State) (n : Nat) (f : App → App) : (s.updApp n f).limiters = s.limiters := rfl
@[simp] theorem State.updApp_fresh64 (s : State) (n : Nat) (f : App → App) : (s.updApp n f).fresh64 = s.fresh64 := rfl
@[simp] theorem State.updApp_txCounters (s : State) (n : Nat) (f : App → App) : (s.updApp n f).txCounters = s.txCounters := rfl
@[simp] theorem State.updApp_mram (s : State) (n : Nat) (f : App → App) : (s.updApp n f).mram = s.mram := rfl
@[simp] theorem State.updApp_lastGen (s : State) (n : Nat) (f : App → App) : (s.updApp n f).lastGen = s.lastGen := rfl
@[simp] theorem State.updApp_sumac (s : State) (n : Nat) (f : App → App) : (s.updApp n f).sumac = s.sumac := rfl
@[simp] theorem State.updApp_intc (s : State) (n : Nat) (f : App → App) : (s.updApp n f).intc = s.intc := rfl
@[simp] theorem State.updApp_tunnels (s : State) (n : Nat) (f : App → App) : (s.updApp n f).tunnels = s.tunnels := rfl
@[simp] theorem State.updApp_creditDue (s : State) (n : Nat) (f : App → App) : (s.updApp n f).creditDue = s.creditDue := rfl
@[simp] theorem State.updApp_samples (s : State) (n : Nat) (f : App → App) : (s.updApp n f).samples = s.samples := rfl
@[simp] theorem State.updApp_keys (s : State) (n : Nat) (f : App → App) : (s.updApp n f).keys = s.keys := rfl
@[simp] theorem State.updApp_fuses (s : State) (n : Nat) (f : App → App) : (s.updApp n f).fuses = s.fuses := rfl
@[simp] theorem State.updApp_life (s : State) (n : Nat) (f : App → App) : (s.updApp n f).life = s.life := rfl
@[simp] theorem State.updApp_measure (s : State) (n : Nat) (f : App → App) : (s.updApp n f).measure = s.measure := rfl
@[simp] theorem State.updApp_update (s : State) (n : Nat) (f : App → App) : (s.updApp n f).update = s.update := rfl
@[simp] theorem State.updApp_jtag (s : State) (n : Nat) (f : App → App) : (s.updApp n f).jtag = s.jtag := rfl
@[simp] theorem State.updApp_nextFid (s : State) (n : Nat) (f : App → App) : (s.updApp n f).nextFid = s.nextFid := rfl
@[simp] theorem State.updApp_pins (s : State) (n : Nat) (f : App → App) : (s.updApp n f).pins = s.pins := rfl
@[simp] theorem State.updApp_fresh (s : State) (n : Nat) (f : App → App) : (s.updApp n f).fresh = s.fresh := rfl
@[simp] theorem State.updApp_out (s : State) (n : Nat) (f : App → App) : (s.updApp n f).out = s.out := rfl
@[simp] theorem State.updApp_pending (s : State) (n : Nat) (f : App → App) : (s.updApp n f).pending = s.pending := rfl

@[simp] theorem State.updQp_variant (s : State) (n k : Nat) (f : Qp → Qp) : (s.updQp n k f).variant = s.variant := rfl
@[simp] theorem State.updQp_clock (s : State) (n k : Nat) (f : Qp → Qp) : (s.updQp n k f).clock = s.clock := rfl
@[simp] theorem State.updQp_od (s : State) (n k : Nat) (f : Qp → Qp) : (s.updQp n k f).od = s.od := rfl
@[simp] theorem State.updQp_sessions (s : State) (n k : Nat) (f : Qp → Qp) : (s.updQp n k f).sessions = s.sessions := rfl
@[simp] theorem State.updQp_lockouts (s : State) (n k : Nat) (f : Qp → Qp) : (s.updQp n k f).lockouts = s.lockouts := rfl
@[simp] theorem State.updQp_sidZero (s : State) (n k : Nat) (f : Qp → Qp) : (s.updQp n k f).sidZero = s.sidZero := rfl
@[simp] theorem State.updQp_relays (s : State) (n k : Nat) (f : Qp → Qp) : (s.updQp n k f).relays = s.relays := rfl
@[simp] theorem State.updQp_lockHolder (s : State) (n k : Nat) (f : Qp → Qp) : (s.updQp n k f).lockHolder = s.lockHolder := rfl
@[simp] theorem State.updQp_commit (s : State) (n k : Nat) (f : Qp → Qp) : (s.updQp n k f).commit = s.commit := rfl
@[simp] theorem State.updQp_bankStore (s : State) (n k : Nat) (f : Qp → Qp) : (s.updQp n k f).bankStore = s.bankStore := rfl
@[simp] theorem State.updQp_sdo (s : State) (n k : Nat) (f : Qp → Qp) : (s.updQp n k f).sdo = s.sdo := rfl
@[simp] theorem State.updQp_ev (s : State) (n k : Nat) (f : Qp → Qp) : (s.updQp n k f).ev = s.ev := rfl
@[simp] theorem State.updQp_power (s : State) (n k : Nat) (f : Qp → Qp) : (s.updQp n k f).power = s.power := rfl
@[simp] theorem State.updQp_island (s : State) (n k : Nat) (f : Qp → Qp) : (s.updQp n k f).island = s.island := rfl
@[simp] theorem State.updQp_safe (s : State) (n k : Nat) (f : Qp → Qp) : (s.updQp n k f).safe = s.safe := rfl
@[simp] theorem State.updQp_dies (s : State) (n k : Nat) (f : Qp → Qp) : (s.updQp n k f).dies = s.dies := rfl
@[simp] theorem State.updQp_queues (s : State) (n k : Nat) (f : Qp → Qp) : (s.updQp n k f).queues = s.queues := rfl
@[simp] theorem State.updQp_bp (s : State) (n k : Nat) (f : Qp → Qp) : (s.updQp n k f).bp = s.bp := rfl
@[simp] theorem State.updQp_policers (s : State) (n k : Nat) (f : Qp → Qp) : (s.updQp n k f).policers = s.policers := rfl
@[simp] theorem State.updQp_credits (s : State) (n k : Nat) (f : Qp → Qp) : (s.updQp n k f).credits = s.credits := rfl
@[simp] theorem State.updQp_links (s : State) (n k : Nat) (f : Qp → Qp) : (s.updQp n k f).links = s.links := rfl
@[simp] theorem State.updQp_markers (s : State) (n k : Nat) (f : Qp → Qp) : (s.updQp n k f).markers = s.markers := rfl
@[simp] theorem State.updQp_ports (s : State) (n k : Nat) (f : Qp → Qp) : (s.updQp n k f).ports = s.ports := rfl
@[simp] theorem State.updQp_limiters (s : State) (n k : Nat) (f : Qp → Qp) : (s.updQp n k f).limiters = s.limiters := rfl
@[simp] theorem State.updQp_fresh64 (s : State) (n k : Nat) (f : Qp → Qp) : (s.updQp n k f).fresh64 = s.fresh64 := rfl
@[simp] theorem State.updQp_txCounters (s : State) (n k : Nat) (f : Qp → Qp) : (s.updQp n k f).txCounters = s.txCounters := rfl
@[simp] theorem State.updQp_mram (s : State) (n k : Nat) (f : Qp → Qp) : (s.updQp n k f).mram = s.mram := rfl
@[simp] theorem State.updQp_lastGen (s : State) (n k : Nat) (f : Qp → Qp) : (s.updQp n k f).lastGen = s.lastGen := rfl
@[simp] theorem State.updQp_sumac (s : State) (n k : Nat) (f : Qp → Qp) : (s.updQp n k f).sumac = s.sumac := rfl
@[simp] theorem State.updQp_intc (s : State) (n k : Nat) (f : Qp → Qp) : (s.updQp n k f).intc = s.intc := rfl
@[simp] theorem State.updQp_tunnels (s : State) (n k : Nat) (f : Qp → Qp) : (s.updQp n k f).tunnels = s.tunnels := rfl
@[simp] theorem State.updQp_creditDue (s : State) (n k : Nat) (f : Qp → Qp) : (s.updQp n k f).creditDue = s.creditDue := rfl
@[simp] theorem State.updQp_samples (s : State) (n k : Nat) (f : Qp → Qp) : (s.updQp n k f).samples = s.samples := rfl
@[simp] theorem State.updQp_keys (s : State) (n k : Nat) (f : Qp → Qp) : (s.updQp n k f).keys = s.keys := rfl
@[simp] theorem State.updQp_fuses (s : State) (n k : Nat) (f : Qp → Qp) : (s.updQp n k f).fuses = s.fuses := rfl
@[simp] theorem State.updQp_life (s : State) (n k : Nat) (f : Qp → Qp) : (s.updQp n k f).life = s.life := rfl
@[simp] theorem State.updQp_measure (s : State) (n k : Nat) (f : Qp → Qp) : (s.updQp n k f).measure = s.measure := rfl
@[simp] theorem State.updQp_update (s : State) (n k : Nat) (f : Qp → Qp) : (s.updQp n k f).update = s.update := rfl
@[simp] theorem State.updQp_jtag (s : State) (n k : Nat) (f : Qp → Qp) : (s.updQp n k f).jtag = s.jtag := rfl
@[simp] theorem State.updQp_nextFid (s : State) (n k : Nat) (f : Qp → Qp) : (s.updQp n k f).nextFid = s.nextFid := rfl
@[simp] theorem State.updQp_pins (s : State) (n k : Nat) (f : Qp → Qp) : (s.updQp n k f).pins = s.pins := rfl
@[simp] theorem State.updQp_fresh (s : State) (n k : Nat) (f : Qp → Qp) : (s.updQp n k f).fresh = s.fresh := rfl
@[simp] theorem State.updQp_out (s : State) (n k : Nat) (f : Qp → Qp) : (s.updQp n k f).out = s.out := rfl
@[simp] theorem State.updQp_pending (s : State) (n k : Nat) (f : Qp → Qp) : (s.updQp n k f).pending = s.pending := rfl

@[simp] theorem State.setRow_variant (s : State) (e row v : Nat) : (s.setRow e row v).variant = s.variant := rfl
@[simp] theorem State.setRow_clock (s : State) (e row v : Nat) : (s.setRow e row v).clock = s.clock := rfl
@[simp] theorem State.setRow_sessions (s : State) (e row v : Nat) : (s.setRow e row v).sessions = s.sessions := rfl
@[simp] theorem State.setRow_lockouts (s : State) (e row v : Nat) : (s.setRow e row v).lockouts = s.lockouts := rfl
@[simp] theorem State.setRow_sidZero (s : State) (e row v : Nat) : (s.setRow e row v).sidZero = s.sidZero := rfl
@[simp] theorem State.setRow_relays (s : State) (e row v : Nat) : (s.setRow e row v).relays = s.relays := rfl
@[simp] theorem State.setRow_lockHolder (s : State) (e row v : Nat) : (s.setRow e row v).lockHolder = s.lockHolder := rfl
@[simp] theorem State.setRow_commit (s : State) (e row v : Nat) : (s.setRow e row v).commit = s.commit := rfl
@[simp] theorem State.setRow_bankStore (s : State) (e row v : Nat) : (s.setRow e row v).bankStore = s.bankStore := rfl
@[simp] theorem State.setRow_sdo (s : State) (e row v : Nat) : (s.setRow e row v).sdo = s.sdo := rfl
@[simp] theorem State.setRow_ev (s : State) (e row v : Nat) : (s.setRow e row v).ev = s.ev := rfl
@[simp] theorem State.setRow_power (s : State) (e row v : Nat) : (s.setRow e row v).power = s.power := rfl
@[simp] theorem State.setRow_island (s : State) (e row v : Nat) : (s.setRow e row v).island = s.island := rfl
@[simp] theorem State.setRow_safe (s : State) (e row v : Nat) : (s.setRow e row v).safe = s.safe := rfl
@[simp] theorem State.setRow_dies (s : State) (e row v : Nat) : (s.setRow e row v).dies = s.dies := rfl
@[simp] theorem State.setRow_queues (s : State) (e row v : Nat) : (s.setRow e row v).queues = s.queues := rfl
@[simp] theorem State.setRow_bp (s : State) (e row v : Nat) : (s.setRow e row v).bp = s.bp := rfl
@[simp] theorem State.setRow_policers (s : State) (e row v : Nat) : (s.setRow e row v).policers = s.policers := rfl
@[simp] theorem State.setRow_credits (s : State) (e row v : Nat) : (s.setRow e row v).credits = s.credits := rfl
@[simp] theorem State.setRow_links (s : State) (e row v : Nat) : (s.setRow e row v).links = s.links := rfl
@[simp] theorem State.setRow_markers (s : State) (e row v : Nat) : (s.setRow e row v).markers = s.markers := rfl
@[simp] theorem State.setRow_ports (s : State) (e row v : Nat) : (s.setRow e row v).ports = s.ports := rfl
@[simp] theorem State.setRow_limiters (s : State) (e row v : Nat) : (s.setRow e row v).limiters = s.limiters := rfl
@[simp] theorem State.setRow_fresh64 (s : State) (e row v : Nat) : (s.setRow e row v).fresh64 = s.fresh64 := rfl
@[simp] theorem State.setRow_txCounters (s : State) (e row v : Nat) : (s.setRow e row v).txCounters = s.txCounters := rfl
@[simp] theorem State.setRow_mram (s : State) (e row v : Nat) : (s.setRow e row v).mram = s.mram := rfl
@[simp] theorem State.setRow_lastGen (s : State) (e row v : Nat) : (s.setRow e row v).lastGen = s.lastGen := rfl
@[simp] theorem State.setRow_sumac (s : State) (e row v : Nat) : (s.setRow e row v).sumac = s.sumac := rfl
@[simp] theorem State.setRow_intc (s : State) (e row v : Nat) : (s.setRow e row v).intc = s.intc := rfl
@[simp] theorem State.setRow_apps (s : State) (e row v : Nat) : (s.setRow e row v).apps = s.apps := rfl
@[simp] theorem State.setRow_tunnels (s : State) (e row v : Nat) : (s.setRow e row v).tunnels = s.tunnels := rfl
@[simp] theorem State.setRow_creditDue (s : State) (e row v : Nat) : (s.setRow e row v).creditDue = s.creditDue := rfl
@[simp] theorem State.setRow_samples (s : State) (e row v : Nat) : (s.setRow e row v).samples = s.samples := rfl
@[simp] theorem State.setRow_keys (s : State) (e row v : Nat) : (s.setRow e row v).keys = s.keys := rfl
@[simp] theorem State.setRow_fuses (s : State) (e row v : Nat) : (s.setRow e row v).fuses = s.fuses := rfl
@[simp] theorem State.setRow_life (s : State) (e row v : Nat) : (s.setRow e row v).life = s.life := rfl
@[simp] theorem State.setRow_measure (s : State) (e row v : Nat) : (s.setRow e row v).measure = s.measure := rfl
@[simp] theorem State.setRow_update (s : State) (e row v : Nat) : (s.setRow e row v).update = s.update := rfl
@[simp] theorem State.setRow_jtag (s : State) (e row v : Nat) : (s.setRow e row v).jtag = s.jtag := rfl
@[simp] theorem State.setRow_nextFid (s : State) (e row v : Nat) : (s.setRow e row v).nextFid = s.nextFid := rfl
@[simp] theorem State.setRow_pins (s : State) (e row v : Nat) : (s.setRow e row v).pins = s.pins := rfl
@[simp] theorem State.setRow_fresh (s : State) (e row v : Nat) : (s.setRow e row v).fresh = s.fresh := rfl
@[simp] theorem State.setRow_out (s : State) (e row v : Nat) : (s.setRow e row v).out = s.out := rfl
@[simp] theorem State.setRow_pending (s : State) (e row v : Nat) : (s.setRow e row v).pending = s.pending := rfl

@[simp] theorem State.set_variant (s : State) (e v : Nat) : (s.set e v).variant = s.variant := rfl
@[simp] theorem State.set_clock (s : State) (e v : Nat) : (s.set e v).clock = s.clock := rfl
@[simp] theorem State.set_sessions (s : State) (e v : Nat) : (s.set e v).sessions = s.sessions := rfl
@[simp] theorem State.set_lockouts (s : State) (e v : Nat) : (s.set e v).lockouts = s.lockouts := rfl
@[simp] theorem State.set_sidZero (s : State) (e v : Nat) : (s.set e v).sidZero = s.sidZero := rfl
@[simp] theorem State.set_relays (s : State) (e v : Nat) : (s.set e v).relays = s.relays := rfl
@[simp] theorem State.set_lockHolder (s : State) (e v : Nat) : (s.set e v).lockHolder = s.lockHolder := rfl
@[simp] theorem State.set_commit (s : State) (e v : Nat) : (s.set e v).commit = s.commit := rfl
@[simp] theorem State.set_bankStore (s : State) (e v : Nat) : (s.set e v).bankStore = s.bankStore := rfl
@[simp] theorem State.set_sdo (s : State) (e v : Nat) : (s.set e v).sdo = s.sdo := rfl
@[simp] theorem State.set_ev (s : State) (e v : Nat) : (s.set e v).ev = s.ev := rfl
@[simp] theorem State.set_power (s : State) (e v : Nat) : (s.set e v).power = s.power := rfl
@[simp] theorem State.set_island (s : State) (e v : Nat) : (s.set e v).island = s.island := rfl
@[simp] theorem State.set_safe (s : State) (e v : Nat) : (s.set e v).safe = s.safe := rfl
@[simp] theorem State.set_dies (s : State) (e v : Nat) : (s.set e v).dies = s.dies := rfl
@[simp] theorem State.set_queues (s : State) (e v : Nat) : (s.set e v).queues = s.queues := rfl
@[simp] theorem State.set_bp (s : State) (e v : Nat) : (s.set e v).bp = s.bp := rfl
@[simp] theorem State.set_policers (s : State) (e v : Nat) : (s.set e v).policers = s.policers := rfl
@[simp] theorem State.set_credits (s : State) (e v : Nat) : (s.set e v).credits = s.credits := rfl
@[simp] theorem State.set_links (s : State) (e v : Nat) : (s.set e v).links = s.links := rfl
@[simp] theorem State.set_markers (s : State) (e v : Nat) : (s.set e v).markers = s.markers := rfl
@[simp] theorem State.set_ports (s : State) (e v : Nat) : (s.set e v).ports = s.ports := rfl
@[simp] theorem State.set_limiters (s : State) (e v : Nat) : (s.set e v).limiters = s.limiters := rfl
@[simp] theorem State.set_fresh64 (s : State) (e v : Nat) : (s.set e v).fresh64 = s.fresh64 := rfl
@[simp] theorem State.set_txCounters (s : State) (e v : Nat) : (s.set e v).txCounters = s.txCounters := rfl
@[simp] theorem State.set_mram (s : State) (e v : Nat) : (s.set e v).mram = s.mram := rfl
@[simp] theorem State.set_lastGen (s : State) (e v : Nat) : (s.set e v).lastGen = s.lastGen := rfl
@[simp] theorem State.set_sumac (s : State) (e v : Nat) : (s.set e v).sumac = s.sumac := rfl
@[simp] theorem State.set_intc (s : State) (e v : Nat) : (s.set e v).intc = s.intc := rfl
@[simp] theorem State.set_apps (s : State) (e v : Nat) : (s.set e v).apps = s.apps := rfl
@[simp] theorem State.set_tunnels (s : State) (e v : Nat) : (s.set e v).tunnels = s.tunnels := rfl
@[simp] theorem State.set_creditDue (s : State) (e v : Nat) : (s.set e v).creditDue = s.creditDue := rfl
@[simp] theorem State.set_samples (s : State) (e v : Nat) : (s.set e v).samples = s.samples := rfl
@[simp] theorem State.set_keys (s : State) (e v : Nat) : (s.set e v).keys = s.keys := rfl
@[simp] theorem State.set_fuses (s : State) (e v : Nat) : (s.set e v).fuses = s.fuses := rfl
@[simp] theorem State.set_life (s : State) (e v : Nat) : (s.set e v).life = s.life := rfl
@[simp] theorem State.set_measure (s : State) (e v : Nat) : (s.set e v).measure = s.measure := rfl
@[simp] theorem State.set_update (s : State) (e v : Nat) : (s.set e v).update = s.update := rfl
@[simp] theorem State.set_jtag (s : State) (e v : Nat) : (s.set e v).jtag = s.jtag := rfl
@[simp] theorem State.set_nextFid (s : State) (e v : Nat) : (s.set e v).nextFid = s.nextFid := rfl
@[simp] theorem State.set_pins (s : State) (e v : Nat) : (s.set e v).pins = s.pins := rfl
@[simp] theorem State.set_fresh (s : State) (e v : Nat) : (s.set e v).fresh = s.fresh := rfl
@[simp] theorem State.set_out (s : State) (e v : Nat) : (s.set e v).out = s.out := rfl
@[simp] theorem State.set_pending (s : State) (e v : Nat) : (s.set e v).pending = s.pending := rfl

@[simp] theorem State.setSlot_variant (s : State) (e k v : Nat) : (s.setSlot e k v).variant = s.variant := rfl
@[simp] theorem State.setSlot_clock (s : State) (e k v : Nat) : (s.setSlot e k v).clock = s.clock := rfl
@[simp] theorem State.setSlot_sessions (s : State) (e k v : Nat) : (s.setSlot e k v).sessions = s.sessions := rfl
@[simp] theorem State.setSlot_lockouts (s : State) (e k v : Nat) : (s.setSlot e k v).lockouts = s.lockouts := rfl
@[simp] theorem State.setSlot_sidZero (s : State) (e k v : Nat) : (s.setSlot e k v).sidZero = s.sidZero := rfl
@[simp] theorem State.setSlot_relays (s : State) (e k v : Nat) : (s.setSlot e k v).relays = s.relays := rfl
@[simp] theorem State.setSlot_lockHolder (s : State) (e k v : Nat) : (s.setSlot e k v).lockHolder = s.lockHolder := rfl
@[simp] theorem State.setSlot_commit (s : State) (e k v : Nat) : (s.setSlot e k v).commit = s.commit := rfl
@[simp] theorem State.setSlot_bankStore (s : State) (e k v : Nat) : (s.setSlot e k v).bankStore = s.bankStore := rfl
@[simp] theorem State.setSlot_sdo (s : State) (e k v : Nat) : (s.setSlot e k v).sdo = s.sdo := rfl
@[simp] theorem State.setSlot_ev (s : State) (e k v : Nat) : (s.setSlot e k v).ev = s.ev := rfl
@[simp] theorem State.setSlot_power (s : State) (e k v : Nat) : (s.setSlot e k v).power = s.power := rfl
@[simp] theorem State.setSlot_island (s : State) (e k v : Nat) : (s.setSlot e k v).island = s.island := rfl
@[simp] theorem State.setSlot_safe (s : State) (e k v : Nat) : (s.setSlot e k v).safe = s.safe := rfl
@[simp] theorem State.setSlot_dies (s : State) (e k v : Nat) : (s.setSlot e k v).dies = s.dies := rfl
@[simp] theorem State.setSlot_queues (s : State) (e k v : Nat) : (s.setSlot e k v).queues = s.queues := rfl
@[simp] theorem State.setSlot_bp (s : State) (e k v : Nat) : (s.setSlot e k v).bp = s.bp := rfl
@[simp] theorem State.setSlot_policers (s : State) (e k v : Nat) : (s.setSlot e k v).policers = s.policers := rfl
@[simp] theorem State.setSlot_credits (s : State) (e k v : Nat) : (s.setSlot e k v).credits = s.credits := rfl
@[simp] theorem State.setSlot_links (s : State) (e k v : Nat) : (s.setSlot e k v).links = s.links := rfl
@[simp] theorem State.setSlot_markers (s : State) (e k v : Nat) : (s.setSlot e k v).markers = s.markers := rfl
@[simp] theorem State.setSlot_ports (s : State) (e k v : Nat) : (s.setSlot e k v).ports = s.ports := rfl
@[simp] theorem State.setSlot_limiters (s : State) (e k v : Nat) : (s.setSlot e k v).limiters = s.limiters := rfl
@[simp] theorem State.setSlot_fresh64 (s : State) (e k v : Nat) : (s.setSlot e k v).fresh64 = s.fresh64 := rfl
@[simp] theorem State.setSlot_txCounters (s : State) (e k v : Nat) : (s.setSlot e k v).txCounters = s.txCounters := rfl
@[simp] theorem State.setSlot_mram (s : State) (e k v : Nat) : (s.setSlot e k v).mram = s.mram := rfl
@[simp] theorem State.setSlot_lastGen (s : State) (e k v : Nat) : (s.setSlot e k v).lastGen = s.lastGen := rfl
@[simp] theorem State.setSlot_sumac (s : State) (e k v : Nat) : (s.setSlot e k v).sumac = s.sumac := rfl
@[simp] theorem State.setSlot_intc (s : State) (e k v : Nat) : (s.setSlot e k v).intc = s.intc := rfl
@[simp] theorem State.setSlot_apps (s : State) (e k v : Nat) : (s.setSlot e k v).apps = s.apps := rfl
@[simp] theorem State.setSlot_tunnels (s : State) (e k v : Nat) : (s.setSlot e k v).tunnels = s.tunnels := rfl
@[simp] theorem State.setSlot_creditDue (s : State) (e k v : Nat) : (s.setSlot e k v).creditDue = s.creditDue := rfl
@[simp] theorem State.setSlot_samples (s : State) (e k v : Nat) : (s.setSlot e k v).samples = s.samples := rfl
@[simp] theorem State.setSlot_keys (s : State) (e k v : Nat) : (s.setSlot e k v).keys = s.keys := rfl
@[simp] theorem State.setSlot_fuses (s : State) (e k v : Nat) : (s.setSlot e k v).fuses = s.fuses := rfl
@[simp] theorem State.setSlot_life (s : State) (e k v : Nat) : (s.setSlot e k v).life = s.life := rfl
@[simp] theorem State.setSlot_measure (s : State) (e k v : Nat) : (s.setSlot e k v).measure = s.measure := rfl
@[simp] theorem State.setSlot_update (s : State) (e k v : Nat) : (s.setSlot e k v).update = s.update := rfl
@[simp] theorem State.setSlot_jtag (s : State) (e k v : Nat) : (s.setSlot e k v).jtag = s.jtag := rfl
@[simp] theorem State.setSlot_nextFid (s : State) (e k v : Nat) : (s.setSlot e k v).nextFid = s.nextFid := rfl
@[simp] theorem State.setSlot_pins (s : State) (e k v : Nat) : (s.setSlot e k v).pins = s.pins := rfl
@[simp] theorem State.setSlot_fresh (s : State) (e k v : Nat) : (s.setSlot e k v).fresh = s.fresh := rfl
@[simp] theorem State.setSlot_out (s : State) (e k v : Nat) : (s.setSlot e k v).out = s.out := rfl
@[simp] theorem State.setSlot_pending (s : State) (e k v : Nat) : (s.setSlot e k v).pending = s.pending := rfl

@[simp] theorem State.setDie_variant (s : State) (e n v : Nat) : (s.setDie e n v).variant = s.variant := rfl
@[simp] theorem State.setDie_clock (s : State) (e n v : Nat) : (s.setDie e n v).clock = s.clock := rfl
@[simp] theorem State.setDie_sessions (s : State) (e n v : Nat) : (s.setDie e n v).sessions = s.sessions := rfl
@[simp] theorem State.setDie_lockouts (s : State) (e n v : Nat) : (s.setDie e n v).lockouts = s.lockouts := rfl
@[simp] theorem State.setDie_sidZero (s : State) (e n v : Nat) : (s.setDie e n v).sidZero = s.sidZero := rfl
@[simp] theorem State.setDie_relays (s : State) (e n v : Nat) : (s.setDie e n v).relays = s.relays := rfl
@[simp] theorem State.setDie_lockHolder (s : State) (e n v : Nat) : (s.setDie e n v).lockHolder = s.lockHolder := rfl
@[simp] theorem State.setDie_commit (s : State) (e n v : Nat) : (s.setDie e n v).commit = s.commit := rfl
@[simp] theorem State.setDie_bankStore (s : State) (e n v : Nat) : (s.setDie e n v).bankStore = s.bankStore := rfl
@[simp] theorem State.setDie_sdo (s : State) (e n v : Nat) : (s.setDie e n v).sdo = s.sdo := rfl
@[simp] theorem State.setDie_ev (s : State) (e n v : Nat) : (s.setDie e n v).ev = s.ev := rfl
@[simp] theorem State.setDie_power (s : State) (e n v : Nat) : (s.setDie e n v).power = s.power := rfl
@[simp] theorem State.setDie_island (s : State) (e n v : Nat) : (s.setDie e n v).island = s.island := rfl
@[simp] theorem State.setDie_safe (s : State) (e n v : Nat) : (s.setDie e n v).safe = s.safe := rfl
@[simp] theorem State.setDie_dies (s : State) (e n v : Nat) : (s.setDie e n v).dies = s.dies := rfl
@[simp] theorem State.setDie_queues (s : State) (e n v : Nat) : (s.setDie e n v).queues = s.queues := rfl
@[simp] theorem State.setDie_bp (s : State) (e n v : Nat) : (s.setDie e n v).bp = s.bp := rfl
@[simp] theorem State.setDie_policers (s : State) (e n v : Nat) : (s.setDie e n v).policers = s.policers := rfl
@[simp] theorem State.setDie_credits (s : State) (e n v : Nat) : (s.setDie e n v).credits = s.credits := rfl
@[simp] theorem State.setDie_links (s : State) (e n v : Nat) : (s.setDie e n v).links = s.links := rfl
@[simp] theorem State.setDie_markers (s : State) (e n v : Nat) : (s.setDie e n v).markers = s.markers := rfl
@[simp] theorem State.setDie_ports (s : State) (e n v : Nat) : (s.setDie e n v).ports = s.ports := rfl
@[simp] theorem State.setDie_limiters (s : State) (e n v : Nat) : (s.setDie e n v).limiters = s.limiters := rfl
@[simp] theorem State.setDie_fresh64 (s : State) (e n v : Nat) : (s.setDie e n v).fresh64 = s.fresh64 := rfl
@[simp] theorem State.setDie_txCounters (s : State) (e n v : Nat) : (s.setDie e n v).txCounters = s.txCounters := rfl
@[simp] theorem State.setDie_mram (s : State) (e n v : Nat) : (s.setDie e n v).mram = s.mram := rfl
@[simp] theorem State.setDie_lastGen (s : State) (e n v : Nat) : (s.setDie e n v).lastGen = s.lastGen := rfl
@[simp] theorem State.setDie_sumac (s : State) (e n v : Nat) : (s.setDie e n v).sumac = s.sumac := rfl
@[simp] theorem State.setDie_intc (s : State) (e n v : Nat) : (s.setDie e n v).intc = s.intc := rfl
@[simp] theorem State.setDie_apps (s : State) (e n v : Nat) : (s.setDie e n v).apps = s.apps := rfl
@[simp] theorem State.setDie_tunnels (s : State) (e n v : Nat) : (s.setDie e n v).tunnels = s.tunnels := rfl
@[simp] theorem State.setDie_creditDue (s : State) (e n v : Nat) : (s.setDie e n v).creditDue = s.creditDue := rfl
@[simp] theorem State.setDie_samples (s : State) (e n v : Nat) : (s.setDie e n v).samples = s.samples := rfl
@[simp] theorem State.setDie_keys (s : State) (e n v : Nat) : (s.setDie e n v).keys = s.keys := rfl
@[simp] theorem State.setDie_fuses (s : State) (e n v : Nat) : (s.setDie e n v).fuses = s.fuses := rfl
@[simp] theorem State.setDie_life (s : State) (e n v : Nat) : (s.setDie e n v).life = s.life := rfl
@[simp] theorem State.setDie_measure (s : State) (e n v : Nat) : (s.setDie e n v).measure = s.measure := rfl
@[simp] theorem State.setDie_update (s : State) (e n v : Nat) : (s.setDie e n v).update = s.update := rfl
@[simp] theorem State.setDie_jtag (s : State) (e n v : Nat) : (s.setDie e n v).jtag = s.jtag := rfl
@[simp] theorem State.setDie_nextFid (s : State) (e n v : Nat) : (s.setDie e n v).nextFid = s.nextFid := rfl
@[simp] theorem State.setDie_pins (s : State) (e n v : Nat) : (s.setDie e n v).pins = s.pins := rfl
@[simp] theorem State.setDie_fresh (s : State) (e n v : Nat) : (s.setDie e n v).fresh = s.fresh := rfl
@[simp] theorem State.setDie_out (s : State) (e n v : Nat) : (s.setDie e n v).out = s.out := rfl
@[simp] theorem State.setDie_pending (s : State) (e n v : Nat) : (s.setDie e n v).pending = s.pending := rfl

@[simp] theorem State.setCfgRow_variant (s : State) (e row v : Nat) : (s.setCfgRow e row v).variant = s.variant := rfl
@[simp] theorem State.setCfgRow_clock (s : State) (e row v : Nat) : (s.setCfgRow e row v).clock = s.clock := rfl
@[simp] theorem State.setCfgRow_sessions (s : State) (e row v : Nat) : (s.setCfgRow e row v).sessions = s.sessions := rfl
@[simp] theorem State.setCfgRow_lockouts (s : State) (e row v : Nat) : (s.setCfgRow e row v).lockouts = s.lockouts := rfl
@[simp] theorem State.setCfgRow_sidZero (s : State) (e row v : Nat) : (s.setCfgRow e row v).sidZero = s.sidZero := rfl
@[simp] theorem State.setCfgRow_relays (s : State) (e row v : Nat) : (s.setCfgRow e row v).relays = s.relays := rfl
@[simp] theorem State.setCfgRow_lockHolder (s : State) (e row v : Nat) : (s.setCfgRow e row v).lockHolder = s.lockHolder := rfl
@[simp] theorem State.setCfgRow_commit (s : State) (e row v : Nat) : (s.setCfgRow e row v).commit = s.commit := rfl
@[simp] theorem State.setCfgRow_bankStore (s : State) (e row v : Nat) : (s.setCfgRow e row v).bankStore = s.bankStore := rfl
@[simp] theorem State.setCfgRow_sdo (s : State) (e row v : Nat) : (s.setCfgRow e row v).sdo = s.sdo := rfl
@[simp] theorem State.setCfgRow_ev (s : State) (e row v : Nat) : (s.setCfgRow e row v).ev = s.ev := rfl
@[simp] theorem State.setCfgRow_power (s : State) (e row v : Nat) : (s.setCfgRow e row v).power = s.power := rfl
@[simp] theorem State.setCfgRow_island (s : State) (e row v : Nat) : (s.setCfgRow e row v).island = s.island := rfl
@[simp] theorem State.setCfgRow_safe (s : State) (e row v : Nat) : (s.setCfgRow e row v).safe = s.safe := rfl
@[simp] theorem State.setCfgRow_dies (s : State) (e row v : Nat) : (s.setCfgRow e row v).dies = s.dies := rfl
@[simp] theorem State.setCfgRow_queues (s : State) (e row v : Nat) : (s.setCfgRow e row v).queues = s.queues := rfl
@[simp] theorem State.setCfgRow_bp (s : State) (e row v : Nat) : (s.setCfgRow e row v).bp = s.bp := rfl
@[simp] theorem State.setCfgRow_policers (s : State) (e row v : Nat) : (s.setCfgRow e row v).policers = s.policers := rfl
@[simp] theorem State.setCfgRow_credits (s : State) (e row v : Nat) : (s.setCfgRow e row v).credits = s.credits := rfl
@[simp] theorem State.setCfgRow_links (s : State) (e row v : Nat) : (s.setCfgRow e row v).links = s.links := rfl
@[simp] theorem State.setCfgRow_markers (s : State) (e row v : Nat) : (s.setCfgRow e row v).markers = s.markers := rfl
@[simp] theorem State.setCfgRow_ports (s : State) (e row v : Nat) : (s.setCfgRow e row v).ports = s.ports := rfl
@[simp] theorem State.setCfgRow_limiters (s : State) (e row v : Nat) : (s.setCfgRow e row v).limiters = s.limiters := rfl
@[simp] theorem State.setCfgRow_fresh64 (s : State) (e row v : Nat) : (s.setCfgRow e row v).fresh64 = s.fresh64 := rfl
@[simp] theorem State.setCfgRow_txCounters (s : State) (e row v : Nat) : (s.setCfgRow e row v).txCounters = s.txCounters := rfl
@[simp] theorem State.setCfgRow_mram (s : State) (e row v : Nat) : (s.setCfgRow e row v).mram = s.mram := rfl
@[simp] theorem State.setCfgRow_lastGen (s : State) (e row v : Nat) : (s.setCfgRow e row v).lastGen = s.lastGen := rfl
@[simp] theorem State.setCfgRow_sumac (s : State) (e row v : Nat) : (s.setCfgRow e row v).sumac = s.sumac := rfl
@[simp] theorem State.setCfgRow_intc (s : State) (e row v : Nat) : (s.setCfgRow e row v).intc = s.intc := rfl
@[simp] theorem State.setCfgRow_apps (s : State) (e row v : Nat) : (s.setCfgRow e row v).apps = s.apps := rfl
@[simp] theorem State.setCfgRow_tunnels (s : State) (e row v : Nat) : (s.setCfgRow e row v).tunnels = s.tunnels := rfl
@[simp] theorem State.setCfgRow_creditDue (s : State) (e row v : Nat) : (s.setCfgRow e row v).creditDue = s.creditDue := rfl
@[simp] theorem State.setCfgRow_samples (s : State) (e row v : Nat) : (s.setCfgRow e row v).samples = s.samples := rfl
@[simp] theorem State.setCfgRow_keys (s : State) (e row v : Nat) : (s.setCfgRow e row v).keys = s.keys := rfl
@[simp] theorem State.setCfgRow_fuses (s : State) (e row v : Nat) : (s.setCfgRow e row v).fuses = s.fuses := rfl
@[simp] theorem State.setCfgRow_life (s : State) (e row v : Nat) : (s.setCfgRow e row v).life = s.life := rfl
@[simp] theorem State.setCfgRow_measure (s : State) (e row v : Nat) : (s.setCfgRow e row v).measure = s.measure := rfl
@[simp] theorem State.setCfgRow_update (s : State) (e row v : Nat) : (s.setCfgRow e row v).update = s.update := rfl
@[simp] theorem State.setCfgRow_jtag (s : State) (e row v : Nat) : (s.setCfgRow e row v).jtag = s.jtag := rfl
@[simp] theorem State.setCfgRow_nextFid (s : State) (e row v : Nat) : (s.setCfgRow e row v).nextFid = s.nextFid := rfl
@[simp] theorem State.setCfgRow_pins (s : State) (e row v : Nat) : (s.setCfgRow e row v).pins = s.pins := rfl
@[simp] theorem State.setCfgRow_fresh (s : State) (e row v : Nat) : (s.setCfgRow e row v).fresh = s.fresh := rfl
@[simp] theorem State.setCfgRow_out (s : State) (e row v : Nat) : (s.setCfgRow e row v).out = s.out := rfl
@[simp] theorem State.setCfgRow_pending (s : State) (e row v : Nat) : (s.setCfgRow e row v).pending = s.pending := rfl

@[simp] theorem State.setCfg_variant (s : State) (e v : Nat) : (s.setCfg e v).variant = s.variant := rfl
@[simp] theorem State.setCfg_clock (s : State) (e v : Nat) : (s.setCfg e v).clock = s.clock := rfl
@[simp] theorem State.setCfg_sessions (s : State) (e v : Nat) : (s.setCfg e v).sessions = s.sessions := rfl
@[simp] theorem State.setCfg_lockouts (s : State) (e v : Nat) : (s.setCfg e v).lockouts = s.lockouts := rfl
@[simp] theorem State.setCfg_sidZero (s : State) (e v : Nat) : (s.setCfg e v).sidZero = s.sidZero := rfl
@[simp] theorem State.setCfg_relays (s : State) (e v : Nat) : (s.setCfg e v).relays = s.relays := rfl
@[simp] theorem State.setCfg_lockHolder (s : State) (e v : Nat) : (s.setCfg e v).lockHolder = s.lockHolder := rfl
@[simp] theorem State.setCfg_commit (s : State) (e v : Nat) : (s.setCfg e v).commit = s.commit := rfl
@[simp] theorem State.setCfg_bankStore (s : State) (e v : Nat) : (s.setCfg e v).bankStore = s.bankStore := rfl
@[simp] theorem State.setCfg_sdo (s : State) (e v : Nat) : (s.setCfg e v).sdo = s.sdo := rfl
@[simp] theorem State.setCfg_ev (s : State) (e v : Nat) : (s.setCfg e v).ev = s.ev := rfl
@[simp] theorem State.setCfg_power (s : State) (e v : Nat) : (s.setCfg e v).power = s.power := rfl
@[simp] theorem State.setCfg_island (s : State) (e v : Nat) : (s.setCfg e v).island = s.island := rfl
@[simp] theorem State.setCfg_safe (s : State) (e v : Nat) : (s.setCfg e v).safe = s.safe := rfl
@[simp] theorem State.setCfg_dies (s : State) (e v : Nat) : (s.setCfg e v).dies = s.dies := rfl
@[simp] theorem State.setCfg_queues (s : State) (e v : Nat) : (s.setCfg e v).queues = s.queues := rfl
@[simp] theorem State.setCfg_bp (s : State) (e v : Nat) : (s.setCfg e v).bp = s.bp := rfl
@[simp] theorem State.setCfg_policers (s : State) (e v : Nat) : (s.setCfg e v).policers = s.policers := rfl
@[simp] theorem State.setCfg_credits (s : State) (e v : Nat) : (s.setCfg e v).credits = s.credits := rfl
@[simp] theorem State.setCfg_links (s : State) (e v : Nat) : (s.setCfg e v).links = s.links := rfl
@[simp] theorem State.setCfg_markers (s : State) (e v : Nat) : (s.setCfg e v).markers = s.markers := rfl
@[simp] theorem State.setCfg_ports (s : State) (e v : Nat) : (s.setCfg e v).ports = s.ports := rfl
@[simp] theorem State.setCfg_limiters (s : State) (e v : Nat) : (s.setCfg e v).limiters = s.limiters := rfl
@[simp] theorem State.setCfg_fresh64 (s : State) (e v : Nat) : (s.setCfg e v).fresh64 = s.fresh64 := rfl
@[simp] theorem State.setCfg_txCounters (s : State) (e v : Nat) : (s.setCfg e v).txCounters = s.txCounters := rfl
@[simp] theorem State.setCfg_mram (s : State) (e v : Nat) : (s.setCfg e v).mram = s.mram := rfl
@[simp] theorem State.setCfg_lastGen (s : State) (e v : Nat) : (s.setCfg e v).lastGen = s.lastGen := rfl
@[simp] theorem State.setCfg_sumac (s : State) (e v : Nat) : (s.setCfg e v).sumac = s.sumac := rfl
@[simp] theorem State.setCfg_intc (s : State) (e v : Nat) : (s.setCfg e v).intc = s.intc := rfl
@[simp] theorem State.setCfg_apps (s : State) (e v : Nat) : (s.setCfg e v).apps = s.apps := rfl
@[simp] theorem State.setCfg_tunnels (s : State) (e v : Nat) : (s.setCfg e v).tunnels = s.tunnels := rfl
@[simp] theorem State.setCfg_creditDue (s : State) (e v : Nat) : (s.setCfg e v).creditDue = s.creditDue := rfl
@[simp] theorem State.setCfg_samples (s : State) (e v : Nat) : (s.setCfg e v).samples = s.samples := rfl
@[simp] theorem State.setCfg_keys (s : State) (e v : Nat) : (s.setCfg e v).keys = s.keys := rfl
@[simp] theorem State.setCfg_fuses (s : State) (e v : Nat) : (s.setCfg e v).fuses = s.fuses := rfl
@[simp] theorem State.setCfg_life (s : State) (e v : Nat) : (s.setCfg e v).life = s.life := rfl
@[simp] theorem State.setCfg_measure (s : State) (e v : Nat) : (s.setCfg e v).measure = s.measure := rfl
@[simp] theorem State.setCfg_update (s : State) (e v : Nat) : (s.setCfg e v).update = s.update := rfl
@[simp] theorem State.setCfg_jtag (s : State) (e v : Nat) : (s.setCfg e v).jtag = s.jtag := rfl
@[simp] theorem State.setCfg_nextFid (s : State) (e v : Nat) : (s.setCfg e v).nextFid = s.nextFid := rfl
@[simp] theorem State.setCfg_pins (s : State) (e v : Nat) : (s.setCfg e v).pins = s.pins := rfl
@[simp] theorem State.setCfg_fresh (s : State) (e v : Nat) : (s.setCfg e v).fresh = s.fresh := rfl
@[simp] theorem State.setCfg_out (s : State) (e v : Nat) : (s.setCfg e v).out = s.out := rfl
@[simp] theorem State.setCfg_pending (s : State) (e v : Nat) : (s.setCfg e v).pending = s.pending := rfl

@[simp] theorem State.setSess_variant (s : State) (k : Nat) (x : Session) : (s.setSess k x).variant = s.variant := rfl
@[simp] theorem State.setSess_clock (s : State) (k : Nat) (x : Session) : (s.setSess k x).clock = s.clock := rfl
@[simp] theorem State.setSess_od (s : State) (k : Nat) (x : Session) : (s.setSess k x).od = s.od := rfl
@[simp] theorem State.setSess_lockouts (s : State) (k : Nat) (x : Session) : (s.setSess k x).lockouts = s.lockouts := rfl
@[simp] theorem State.setSess_sidZero (s : State) (k : Nat) (x : Session) : (s.setSess k x).sidZero = s.sidZero := rfl
@[simp] theorem State.setSess_relays (s : State) (k : Nat) (x : Session) : (s.setSess k x).relays = s.relays := rfl
@[simp] theorem State.setSess_lockHolder (s : State) (k : Nat) (x : Session) : (s.setSess k x).lockHolder = s.lockHolder := rfl
@[simp] theorem State.setSess_commit (s : State) (k : Nat) (x : Session) : (s.setSess k x).commit = s.commit := rfl
@[simp] theorem State.setSess_bankStore (s : State) (k : Nat) (x : Session) : (s.setSess k x).bankStore = s.bankStore := rfl
@[simp] theorem State.setSess_sdo (s : State) (k : Nat) (x : Session) : (s.setSess k x).sdo = s.sdo := rfl
@[simp] theorem State.setSess_ev (s : State) (k : Nat) (x : Session) : (s.setSess k x).ev = s.ev := rfl
@[simp] theorem State.setSess_power (s : State) (k : Nat) (x : Session) : (s.setSess k x).power = s.power := rfl
@[simp] theorem State.setSess_island (s : State) (k : Nat) (x : Session) : (s.setSess k x).island = s.island := rfl
@[simp] theorem State.setSess_safe (s : State) (k : Nat) (x : Session) : (s.setSess k x).safe = s.safe := rfl
@[simp] theorem State.setSess_dies (s : State) (k : Nat) (x : Session) : (s.setSess k x).dies = s.dies := rfl
@[simp] theorem State.setSess_queues (s : State) (k : Nat) (x : Session) : (s.setSess k x).queues = s.queues := rfl
@[simp] theorem State.setSess_bp (s : State) (k : Nat) (x : Session) : (s.setSess k x).bp = s.bp := rfl
@[simp] theorem State.setSess_policers (s : State) (k : Nat) (x : Session) : (s.setSess k x).policers = s.policers := rfl
@[simp] theorem State.setSess_credits (s : State) (k : Nat) (x : Session) : (s.setSess k x).credits = s.credits := rfl
@[simp] theorem State.setSess_links (s : State) (k : Nat) (x : Session) : (s.setSess k x).links = s.links := rfl
@[simp] theorem State.setSess_markers (s : State) (k : Nat) (x : Session) : (s.setSess k x).markers = s.markers := rfl
@[simp] theorem State.setSess_ports (s : State) (k : Nat) (x : Session) : (s.setSess k x).ports = s.ports := rfl
@[simp] theorem State.setSess_limiters (s : State) (k : Nat) (x : Session) : (s.setSess k x).limiters = s.limiters := rfl
@[simp] theorem State.setSess_fresh64 (s : State) (k : Nat) (x : Session) : (s.setSess k x).fresh64 = s.fresh64 := rfl
@[simp] theorem State.setSess_txCounters (s : State) (k : Nat) (x : Session) : (s.setSess k x).txCounters = s.txCounters := rfl
@[simp] theorem State.setSess_mram (s : State) (k : Nat) (x : Session) : (s.setSess k x).mram = s.mram := rfl
@[simp] theorem State.setSess_lastGen (s : State) (k : Nat) (x : Session) : (s.setSess k x).lastGen = s.lastGen := rfl
@[simp] theorem State.setSess_sumac (s : State) (k : Nat) (x : Session) : (s.setSess k x).sumac = s.sumac := rfl
@[simp] theorem State.setSess_intc (s : State) (k : Nat) (x : Session) : (s.setSess k x).intc = s.intc := rfl
@[simp] theorem State.setSess_apps (s : State) (k : Nat) (x : Session) : (s.setSess k x).apps = s.apps := rfl
@[simp] theorem State.setSess_tunnels (s : State) (k : Nat) (x : Session) : (s.setSess k x).tunnels = s.tunnels := rfl
@[simp] theorem State.setSess_creditDue (s : State) (k : Nat) (x : Session) : (s.setSess k x).creditDue = s.creditDue := rfl
@[simp] theorem State.setSess_samples (s : State) (k : Nat) (x : Session) : (s.setSess k x).samples = s.samples := rfl
@[simp] theorem State.setSess_keys (s : State) (k : Nat) (x : Session) : (s.setSess k x).keys = s.keys := rfl
@[simp] theorem State.setSess_fuses (s : State) (k : Nat) (x : Session) : (s.setSess k x).fuses = s.fuses := rfl
@[simp] theorem State.setSess_life (s : State) (k : Nat) (x : Session) : (s.setSess k x).life = s.life := rfl
@[simp] theorem State.setSess_measure (s : State) (k : Nat) (x : Session) : (s.setSess k x).measure = s.measure := rfl
@[simp] theorem State.setSess_update (s : State) (k : Nat) (x : Session) : (s.setSess k x).update = s.update := rfl
@[simp] theorem State.setSess_jtag (s : State) (k : Nat) (x : Session) : (s.setSess k x).jtag = s.jtag := rfl
@[simp] theorem State.setSess_nextFid (s : State) (k : Nat) (x : Session) : (s.setSess k x).nextFid = s.nextFid := rfl
@[simp] theorem State.setSess_pins (s : State) (k : Nat) (x : Session) : (s.setSess k x).pins = s.pins := rfl
@[simp] theorem State.setSess_fresh (s : State) (k : Nat) (x : Session) : (s.setSess k x).fresh = s.fresh := rfl
@[simp] theorem State.setSess_out (s : State) (k : Nat) (x : Session) : (s.setSess k x).out = s.out := rfl
@[simp] theorem State.setSess_pending (s : State) (k : Nat) (x : Session) : (s.setSess k x).pending = s.pending := rfl

@[simp] theorem State.updSess_variant (s : State) (k : Nat) (f : Session → Session) : (s.updSess k f).variant = s.variant := rfl
@[simp] theorem State.updSess_clock (s : State) (k : Nat) (f : Session → Session) : (s.updSess k f).clock = s.clock := rfl
@[simp] theorem State.updSess_od (s : State) (k : Nat) (f : Session → Session) : (s.updSess k f).od = s.od := rfl
@[simp] theorem State.updSess_lockouts (s : State) (k : Nat) (f : Session → Session) : (s.updSess k f).lockouts = s.lockouts := rfl
@[simp] theorem State.updSess_sidZero (s : State) (k : Nat) (f : Session → Session) : (s.updSess k f).sidZero = s.sidZero := rfl
@[simp] theorem State.updSess_relays (s : State) (k : Nat) (f : Session → Session) : (s.updSess k f).relays = s.relays := rfl
@[simp] theorem State.updSess_lockHolder (s : State) (k : Nat) (f : Session → Session) : (s.updSess k f).lockHolder = s.lockHolder := rfl
@[simp] theorem State.updSess_commit (s : State) (k : Nat) (f : Session → Session) : (s.updSess k f).commit = s.commit := rfl
@[simp] theorem State.updSess_bankStore (s : State) (k : Nat) (f : Session → Session) : (s.updSess k f).bankStore = s.bankStore := rfl
@[simp] theorem State.updSess_sdo (s : State) (k : Nat) (f : Session → Session) : (s.updSess k f).sdo = s.sdo := rfl
@[simp] theorem State.updSess_ev (s : State) (k : Nat) (f : Session → Session) : (s.updSess k f).ev = s.ev := rfl
@[simp] theorem State.updSess_power (s : State) (k : Nat) (f : Session → Session) : (s.updSess k f).power = s.power := rfl
@[simp] theorem State.updSess_island (s : State) (k : Nat) (f : Session → Session) : (s.updSess k f).island = s.island := rfl
@[simp] theorem State.updSess_safe (s : State) (k : Nat) (f : Session → Session) : (s.updSess k f).safe = s.safe := rfl
@[simp] theorem State.updSess_dies (s : State) (k : Nat) (f : Session → Session) : (s.updSess k f).dies = s.dies := rfl
@[simp] theorem State.updSess_queues (s : State) (k : Nat) (f : Session → Session) : (s.updSess k f).queues = s.queues := rfl
@[simp] theorem State.updSess_bp (s : State) (k : Nat) (f : Session → Session) : (s.updSess k f).bp = s.bp := rfl
@[simp] theorem State.updSess_policers (s : State) (k : Nat) (f : Session → Session) : (s.updSess k f).policers = s.policers := rfl
@[simp] theorem State.updSess_credits (s : State) (k : Nat) (f : Session → Session) : (s.updSess k f).credits = s.credits := rfl
@[simp] theorem State.updSess_links (s : State) (k : Nat) (f : Session → Session) : (s.updSess k f).links = s.links := rfl
@[simp] theorem State.updSess_markers (s : State) (k : Nat) (f : Session → Session) : (s.updSess k f).markers = s.markers := rfl
@[simp] theorem State.updSess_ports (s : State) (k : Nat) (f : Session → Session) : (s.updSess k f).ports = s.ports := rfl
@[simp] theorem State.updSess_limiters (s : State) (k : Nat) (f : Session → Session) : (s.updSess k f).limiters = s.limiters := rfl
@[simp] theorem State.updSess_fresh64 (s : State) (k : Nat) (f : Session → Session) : (s.updSess k f).fresh64 = s.fresh64 := rfl
@[simp] theorem State.updSess_txCounters (s : State) (k : Nat) (f : Session → Session) : (s.updSess k f).txCounters = s.txCounters := rfl
@[simp] theorem State.updSess_mram (s : State) (k : Nat) (f : Session → Session) : (s.updSess k f).mram = s.mram := rfl
@[simp] theorem State.updSess_lastGen (s : State) (k : Nat) (f : Session → Session) : (s.updSess k f).lastGen = s.lastGen := rfl
@[simp] theorem State.updSess_sumac (s : State) (k : Nat) (f : Session → Session) : (s.updSess k f).sumac = s.sumac := rfl
@[simp] theorem State.updSess_intc (s : State) (k : Nat) (f : Session → Session) : (s.updSess k f).intc = s.intc := rfl
@[simp] theorem State.updSess_apps (s : State) (k : Nat) (f : Session → Session) : (s.updSess k f).apps = s.apps := rfl
@[simp] theorem State.updSess_tunnels (s : State) (k : Nat) (f : Session → Session) : (s.updSess k f).tunnels = s.tunnels := rfl
@[simp] theorem State.updSess_creditDue (s : State) (k : Nat) (f : Session → Session) : (s.updSess k f).creditDue = s.creditDue := rfl
@[simp] theorem State.updSess_samples (s : State) (k : Nat) (f : Session → Session) : (s.updSess k f).samples = s.samples := rfl
@[simp] theorem State.updSess_keys (s : State) (k : Nat) (f : Session → Session) : (s.updSess k f).keys = s.keys := rfl
@[simp] theorem State.updSess_fuses (s : State) (k : Nat) (f : Session → Session) : (s.updSess k f).fuses = s.fuses := rfl
@[simp] theorem State.updSess_life (s : State) (k : Nat) (f : Session → Session) : (s.updSess k f).life = s.life := rfl
@[simp] theorem State.updSess_measure (s : State) (k : Nat) (f : Session → Session) : (s.updSess k f).measure = s.measure := rfl
@[simp] theorem State.updSess_update (s : State) (k : Nat) (f : Session → Session) : (s.updSess k f).update = s.update := rfl
@[simp] theorem State.updSess_jtag (s : State) (k : Nat) (f : Session → Session) : (s.updSess k f).jtag = s.jtag := rfl
@[simp] theorem State.updSess_nextFid (s : State) (k : Nat) (f : Session → Session) : (s.updSess k f).nextFid = s.nextFid := rfl
@[simp] theorem State.updSess_pins (s : State) (k : Nat) (f : Session → Session) : (s.updSess k f).pins = s.pins := rfl
@[simp] theorem State.updSess_fresh (s : State) (k : Nat) (f : Session → Session) : (s.updSess k f).fresh = s.fresh := rfl
@[simp] theorem State.updSess_out (s : State) (k : Nat) (f : Session → Session) : (s.updSess k f).out = s.out := rfl
@[simp] theorem State.updSess_pending (s : State) (k : Nat) (f : Session → Session) : (s.updSess k f).pending = s.pending := rfl

@[simp] theorem State.setTunnel_variant (s : State) (k : Nat) (x : Tunnel) : (s.setTunnel k x).variant = s.variant := rfl
@[simp] theorem State.setTunnel_clock (s : State) (k : Nat) (x : Tunnel) : (s.setTunnel k x).clock = s.clock := rfl
@[simp] theorem State.setTunnel_od (s : State) (k : Nat) (x : Tunnel) : (s.setTunnel k x).od = s.od := rfl
@[simp] theorem State.setTunnel_sessions (s : State) (k : Nat) (x : Tunnel) : (s.setTunnel k x).sessions = s.sessions := rfl
@[simp] theorem State.setTunnel_lockouts (s : State) (k : Nat) (x : Tunnel) : (s.setTunnel k x).lockouts = s.lockouts := rfl
@[simp] theorem State.setTunnel_sidZero (s : State) (k : Nat) (x : Tunnel) : (s.setTunnel k x).sidZero = s.sidZero := rfl
@[simp] theorem State.setTunnel_relays (s : State) (k : Nat) (x : Tunnel) : (s.setTunnel k x).relays = s.relays := rfl
@[simp] theorem State.setTunnel_lockHolder (s : State) (k : Nat) (x : Tunnel) : (s.setTunnel k x).lockHolder = s.lockHolder := rfl
@[simp] theorem State.setTunnel_commit (s : State) (k : Nat) (x : Tunnel) : (s.setTunnel k x).commit = s.commit := rfl
@[simp] theorem State.setTunnel_bankStore (s : State) (k : Nat) (x : Tunnel) : (s.setTunnel k x).bankStore = s.bankStore := rfl
@[simp] theorem State.setTunnel_sdo (s : State) (k : Nat) (x : Tunnel) : (s.setTunnel k x).sdo = s.sdo := rfl
@[simp] theorem State.setTunnel_ev (s : State) (k : Nat) (x : Tunnel) : (s.setTunnel k x).ev = s.ev := rfl
@[simp] theorem State.setTunnel_power (s : State) (k : Nat) (x : Tunnel) : (s.setTunnel k x).power = s.power := rfl
@[simp] theorem State.setTunnel_island (s : State) (k : Nat) (x : Tunnel) : (s.setTunnel k x).island = s.island := rfl
@[simp] theorem State.setTunnel_safe (s : State) (k : Nat) (x : Tunnel) : (s.setTunnel k x).safe = s.safe := rfl
@[simp] theorem State.setTunnel_dies (s : State) (k : Nat) (x : Tunnel) : (s.setTunnel k x).dies = s.dies := rfl
@[simp] theorem State.setTunnel_queues (s : State) (k : Nat) (x : Tunnel) : (s.setTunnel k x).queues = s.queues := rfl
@[simp] theorem State.setTunnel_bp (s : State) (k : Nat) (x : Tunnel) : (s.setTunnel k x).bp = s.bp := rfl
@[simp] theorem State.setTunnel_policers (s : State) (k : Nat) (x : Tunnel) : (s.setTunnel k x).policers = s.policers := rfl
@[simp] theorem State.setTunnel_credits (s : State) (k : Nat) (x : Tunnel) : (s.setTunnel k x).credits = s.credits := rfl
@[simp] theorem State.setTunnel_links (s : State) (k : Nat) (x : Tunnel) : (s.setTunnel k x).links = s.links := rfl
@[simp] theorem State.setTunnel_markers (s : State) (k : Nat) (x : Tunnel) : (s.setTunnel k x).markers = s.markers := rfl
@[simp] theorem State.setTunnel_ports (s : State) (k : Nat) (x : Tunnel) : (s.setTunnel k x).ports = s.ports := rfl
@[simp] theorem State.setTunnel_limiters (s : State) (k : Nat) (x : Tunnel) : (s.setTunnel k x).limiters = s.limiters := rfl
@[simp] theorem State.setTunnel_fresh64 (s : State) (k : Nat) (x : Tunnel) : (s.setTunnel k x).fresh64 = s.fresh64 := rfl
@[simp] theorem State.setTunnel_txCounters (s : State) (k : Nat) (x : Tunnel) : (s.setTunnel k x).txCounters = s.txCounters := rfl
@[simp] theorem State.setTunnel_mram (s : State) (k : Nat) (x : Tunnel) : (s.setTunnel k x).mram = s.mram := rfl
@[simp] theorem State.setTunnel_lastGen (s : State) (k : Nat) (x : Tunnel) : (s.setTunnel k x).lastGen = s.lastGen := rfl
@[simp] theorem State.setTunnel_sumac (s : State) (k : Nat) (x : Tunnel) : (s.setTunnel k x).sumac = s.sumac := rfl
@[simp] theorem State.setTunnel_intc (s : State) (k : Nat) (x : Tunnel) : (s.setTunnel k x).intc = s.intc := rfl
@[simp] theorem State.setTunnel_apps (s : State) (k : Nat) (x : Tunnel) : (s.setTunnel k x).apps = s.apps := rfl
@[simp] theorem State.setTunnel_creditDue (s : State) (k : Nat) (x : Tunnel) : (s.setTunnel k x).creditDue = s.creditDue := rfl
@[simp] theorem State.setTunnel_samples (s : State) (k : Nat) (x : Tunnel) : (s.setTunnel k x).samples = s.samples := rfl
@[simp] theorem State.setTunnel_keys (s : State) (k : Nat) (x : Tunnel) : (s.setTunnel k x).keys = s.keys := rfl
@[simp] theorem State.setTunnel_fuses (s : State) (k : Nat) (x : Tunnel) : (s.setTunnel k x).fuses = s.fuses := rfl
@[simp] theorem State.setTunnel_life (s : State) (k : Nat) (x : Tunnel) : (s.setTunnel k x).life = s.life := rfl
@[simp] theorem State.setTunnel_measure (s : State) (k : Nat) (x : Tunnel) : (s.setTunnel k x).measure = s.measure := rfl
@[simp] theorem State.setTunnel_update (s : State) (k : Nat) (x : Tunnel) : (s.setTunnel k x).update = s.update := rfl
@[simp] theorem State.setTunnel_jtag (s : State) (k : Nat) (x : Tunnel) : (s.setTunnel k x).jtag = s.jtag := rfl
@[simp] theorem State.setTunnel_nextFid (s : State) (k : Nat) (x : Tunnel) : (s.setTunnel k x).nextFid = s.nextFid := rfl
@[simp] theorem State.setTunnel_pins (s : State) (k : Nat) (x : Tunnel) : (s.setTunnel k x).pins = s.pins := rfl
@[simp] theorem State.setTunnel_fresh (s : State) (k : Nat) (x : Tunnel) : (s.setTunnel k x).fresh = s.fresh := rfl
@[simp] theorem State.setTunnel_out (s : State) (k : Nat) (x : Tunnel) : (s.setTunnel k x).out = s.out := rfl
@[simp] theorem State.setTunnel_pending (s : State) (k : Nat) (x : Tunnel) : (s.setTunnel k x).pending = s.pending := rfl

@[simp] theorem State.setMi_variant (s : State) (k : Nat) (x : MiInput) : (s.setMi k x).variant = s.variant := rfl
@[simp] theorem State.setMi_clock (s : State) (k : Nat) (x : MiInput) : (s.setMi k x).clock = s.clock := rfl
@[simp] theorem State.setMi_od (s : State) (k : Nat) (x : MiInput) : (s.setMi k x).od = s.od := rfl
@[simp] theorem State.setMi_sessions (s : State) (k : Nat) (x : MiInput) : (s.setMi k x).sessions = s.sessions := rfl
@[simp] theorem State.setMi_lockouts (s : State) (k : Nat) (x : MiInput) : (s.setMi k x).lockouts = s.lockouts := rfl
@[simp] theorem State.setMi_sidZero (s : State) (k : Nat) (x : MiInput) : (s.setMi k x).sidZero = s.sidZero := rfl
@[simp] theorem State.setMi_relays (s : State) (k : Nat) (x : MiInput) : (s.setMi k x).relays = s.relays := rfl
@[simp] theorem State.setMi_lockHolder (s : State) (k : Nat) (x : MiInput) : (s.setMi k x).lockHolder = s.lockHolder := rfl
@[simp] theorem State.setMi_commit (s : State) (k : Nat) (x : MiInput) : (s.setMi k x).commit = s.commit := rfl
@[simp] theorem State.setMi_bankStore (s : State) (k : Nat) (x : MiInput) : (s.setMi k x).bankStore = s.bankStore := rfl
@[simp] theorem State.setMi_sdo (s : State) (k : Nat) (x : MiInput) : (s.setMi k x).sdo = s.sdo := rfl
@[simp] theorem State.setMi_ev (s : State) (k : Nat) (x : MiInput) : (s.setMi k x).ev = s.ev := rfl
@[simp] theorem State.setMi_power (s : State) (k : Nat) (x : MiInput) : (s.setMi k x).power = s.power := rfl
@[simp] theorem State.setMi_island (s : State) (k : Nat) (x : MiInput) : (s.setMi k x).island = s.island := rfl
@[simp] theorem State.setMi_safe (s : State) (k : Nat) (x : MiInput) : (s.setMi k x).safe = s.safe := rfl
@[simp] theorem State.setMi_dies (s : State) (k : Nat) (x : MiInput) : (s.setMi k x).dies = s.dies := rfl
@[simp] theorem State.setMi_queues (s : State) (k : Nat) (x : MiInput) : (s.setMi k x).queues = s.queues := rfl
@[simp] theorem State.setMi_bp (s : State) (k : Nat) (x : MiInput) : (s.setMi k x).bp = s.bp := rfl
@[simp] theorem State.setMi_policers (s : State) (k : Nat) (x : MiInput) : (s.setMi k x).policers = s.policers := rfl
@[simp] theorem State.setMi_credits (s : State) (k : Nat) (x : MiInput) : (s.setMi k x).credits = s.credits := rfl
@[simp] theorem State.setMi_links (s : State) (k : Nat) (x : MiInput) : (s.setMi k x).links = s.links := rfl
@[simp] theorem State.setMi_markers (s : State) (k : Nat) (x : MiInput) : (s.setMi k x).markers = s.markers := rfl
@[simp] theorem State.setMi_ports (s : State) (k : Nat) (x : MiInput) : (s.setMi k x).ports = s.ports := rfl
@[simp] theorem State.setMi_limiters (s : State) (k : Nat) (x : MiInput) : (s.setMi k x).limiters = s.limiters := rfl
@[simp] theorem State.setMi_fresh64 (s : State) (k : Nat) (x : MiInput) : (s.setMi k x).fresh64 = s.fresh64 := rfl
@[simp] theorem State.setMi_txCounters (s : State) (k : Nat) (x : MiInput) : (s.setMi k x).txCounters = s.txCounters := rfl
@[simp] theorem State.setMi_mram (s : State) (k : Nat) (x : MiInput) : (s.setMi k x).mram = s.mram := rfl
@[simp] theorem State.setMi_lastGen (s : State) (k : Nat) (x : MiInput) : (s.setMi k x).lastGen = s.lastGen := rfl
@[simp] theorem State.setMi_sumac (s : State) (k : Nat) (x : MiInput) : (s.setMi k x).sumac = s.sumac := rfl
@[simp] theorem State.setMi_intc (s : State) (k : Nat) (x : MiInput) : (s.setMi k x).intc = s.intc := rfl
@[simp] theorem State.setMi_apps (s : State) (k : Nat) (x : MiInput) : (s.setMi k x).apps = s.apps := rfl
@[simp] theorem State.setMi_tunnels (s : State) (k : Nat) (x : MiInput) : (s.setMi k x).tunnels = s.tunnels := rfl
@[simp] theorem State.setMi_creditDue (s : State) (k : Nat) (x : MiInput) : (s.setMi k x).creditDue = s.creditDue := rfl
@[simp] theorem State.setMi_samples (s : State) (k : Nat) (x : MiInput) : (s.setMi k x).samples = s.samples := rfl
@[simp] theorem State.setMi_keys (s : State) (k : Nat) (x : MiInput) : (s.setMi k x).keys = s.keys := rfl
@[simp] theorem State.setMi_fuses (s : State) (k : Nat) (x : MiInput) : (s.setMi k x).fuses = s.fuses := rfl
@[simp] theorem State.setMi_life (s : State) (k : Nat) (x : MiInput) : (s.setMi k x).life = s.life := rfl
@[simp] theorem State.setMi_update (s : State) (k : Nat) (x : MiInput) : (s.setMi k x).update = s.update := rfl
@[simp] theorem State.setMi_jtag (s : State) (k : Nat) (x : MiInput) : (s.setMi k x).jtag = s.jtag := rfl
@[simp] theorem State.setMi_nextFid (s : State) (k : Nat) (x : MiInput) : (s.setMi k x).nextFid = s.nextFid := rfl
@[simp] theorem State.setMi_pins (s : State) (k : Nat) (x : MiInput) : (s.setMi k x).pins = s.pins := rfl
@[simp] theorem State.setMi_fresh (s : State) (k : Nat) (x : MiInput) : (s.setMi k x).fresh = s.fresh := rfl
@[simp] theorem State.setMi_out (s : State) (k : Nat) (x : MiInput) : (s.setMi k x).out = s.out := rfl
@[simp] theorem State.setMi_pending (s : State) (k : Nat) (x : MiInput) : (s.setMi k x).pending = s.pending := rfl

@[simp] theorem State.setSpd_variant (s : State) (k : Nat) (x : SpdInput) : (s.setSpd k x).variant = s.variant := rfl
@[simp] theorem State.setSpd_clock (s : State) (k : Nat) (x : SpdInput) : (s.setSpd k x).clock = s.clock := rfl
@[simp] theorem State.setSpd_od (s : State) (k : Nat) (x : SpdInput) : (s.setSpd k x).od = s.od := rfl
@[simp] theorem State.setSpd_sessions (s : State) (k : Nat) (x : SpdInput) : (s.setSpd k x).sessions = s.sessions := rfl
@[simp] theorem State.setSpd_lockouts (s : State) (k : Nat) (x : SpdInput) : (s.setSpd k x).lockouts = s.lockouts := rfl
@[simp] theorem State.setSpd_sidZero (s : State) (k : Nat) (x : SpdInput) : (s.setSpd k x).sidZero = s.sidZero := rfl
@[simp] theorem State.setSpd_relays (s : State) (k : Nat) (x : SpdInput) : (s.setSpd k x).relays = s.relays := rfl
@[simp] theorem State.setSpd_lockHolder (s : State) (k : Nat) (x : SpdInput) : (s.setSpd k x).lockHolder = s.lockHolder := rfl
@[simp] theorem State.setSpd_commit (s : State) (k : Nat) (x : SpdInput) : (s.setSpd k x).commit = s.commit := rfl
@[simp] theorem State.setSpd_bankStore (s : State) (k : Nat) (x : SpdInput) : (s.setSpd k x).bankStore = s.bankStore := rfl
@[simp] theorem State.setSpd_sdo (s : State) (k : Nat) (x : SpdInput) : (s.setSpd k x).sdo = s.sdo := rfl
@[simp] theorem State.setSpd_ev (s : State) (k : Nat) (x : SpdInput) : (s.setSpd k x).ev = s.ev := rfl
@[simp] theorem State.setSpd_power (s : State) (k : Nat) (x : SpdInput) : (s.setSpd k x).power = s.power := rfl
@[simp] theorem State.setSpd_island (s : State) (k : Nat) (x : SpdInput) : (s.setSpd k x).island = s.island := rfl
@[simp] theorem State.setSpd_safe (s : State) (k : Nat) (x : SpdInput) : (s.setSpd k x).safe = s.safe := rfl
@[simp] theorem State.setSpd_dies (s : State) (k : Nat) (x : SpdInput) : (s.setSpd k x).dies = s.dies := rfl
@[simp] theorem State.setSpd_queues (s : State) (k : Nat) (x : SpdInput) : (s.setSpd k x).queues = s.queues := rfl
@[simp] theorem State.setSpd_bp (s : State) (k : Nat) (x : SpdInput) : (s.setSpd k x).bp = s.bp := rfl
@[simp] theorem State.setSpd_policers (s : State) (k : Nat) (x : SpdInput) : (s.setSpd k x).policers = s.policers := rfl
@[simp] theorem State.setSpd_credits (s : State) (k : Nat) (x : SpdInput) : (s.setSpd k x).credits = s.credits := rfl
@[simp] theorem State.setSpd_links (s : State) (k : Nat) (x : SpdInput) : (s.setSpd k x).links = s.links := rfl
@[simp] theorem State.setSpd_markers (s : State) (k : Nat) (x : SpdInput) : (s.setSpd k x).markers = s.markers := rfl
@[simp] theorem State.setSpd_ports (s : State) (k : Nat) (x : SpdInput) : (s.setSpd k x).ports = s.ports := rfl
@[simp] theorem State.setSpd_limiters (s : State) (k : Nat) (x : SpdInput) : (s.setSpd k x).limiters = s.limiters := rfl
@[simp] theorem State.setSpd_fresh64 (s : State) (k : Nat) (x : SpdInput) : (s.setSpd k x).fresh64 = s.fresh64 := rfl
@[simp] theorem State.setSpd_txCounters (s : State) (k : Nat) (x : SpdInput) : (s.setSpd k x).txCounters = s.txCounters := rfl
@[simp] theorem State.setSpd_mram (s : State) (k : Nat) (x : SpdInput) : (s.setSpd k x).mram = s.mram := rfl
@[simp] theorem State.setSpd_lastGen (s : State) (k : Nat) (x : SpdInput) : (s.setSpd k x).lastGen = s.lastGen := rfl
@[simp] theorem State.setSpd_sumac (s : State) (k : Nat) (x : SpdInput) : (s.setSpd k x).sumac = s.sumac := rfl
@[simp] theorem State.setSpd_intc (s : State) (k : Nat) (x : SpdInput) : (s.setSpd k x).intc = s.intc := rfl
@[simp] theorem State.setSpd_apps (s : State) (k : Nat) (x : SpdInput) : (s.setSpd k x).apps = s.apps := rfl
@[simp] theorem State.setSpd_tunnels (s : State) (k : Nat) (x : SpdInput) : (s.setSpd k x).tunnels = s.tunnels := rfl
@[simp] theorem State.setSpd_creditDue (s : State) (k : Nat) (x : SpdInput) : (s.setSpd k x).creditDue = s.creditDue := rfl
@[simp] theorem State.setSpd_samples (s : State) (k : Nat) (x : SpdInput) : (s.setSpd k x).samples = s.samples := rfl
@[simp] theorem State.setSpd_keys (s : State) (k : Nat) (x : SpdInput) : (s.setSpd k x).keys = s.keys := rfl
@[simp] theorem State.setSpd_fuses (s : State) (k : Nat) (x : SpdInput) : (s.setSpd k x).fuses = s.fuses := rfl
@[simp] theorem State.setSpd_life (s : State) (k : Nat) (x : SpdInput) : (s.setSpd k x).life = s.life := rfl
@[simp] theorem State.setSpd_update (s : State) (k : Nat) (x : SpdInput) : (s.setSpd k x).update = s.update := rfl
@[simp] theorem State.setSpd_jtag (s : State) (k : Nat) (x : SpdInput) : (s.setSpd k x).jtag = s.jtag := rfl
@[simp] theorem State.setSpd_nextFid (s : State) (k : Nat) (x : SpdInput) : (s.setSpd k x).nextFid = s.nextFid := rfl
@[simp] theorem State.setSpd_pins (s : State) (k : Nat) (x : SpdInput) : (s.setSpd k x).pins = s.pins := rfl
@[simp] theorem State.setSpd_fresh (s : State) (k : Nat) (x : SpdInput) : (s.setSpd k x).fresh = s.fresh := rfl
@[simp] theorem State.setSpd_out (s : State) (k : Nat) (x : SpdInput) : (s.setSpd k x).out = s.out := rfl
@[simp] theorem State.setSpd_pending (s : State) (k : Nat) (x : SpdInput) : (s.setSpd k x).pending = s.pending := rfl

@[simp] theorem State.setRule_variant (s : State) (k : Nat) (x : RuleSt) : (s.setRule k x).variant = s.variant := rfl
@[simp] theorem State.setRule_clock (s : State) (k : Nat) (x : RuleSt) : (s.setRule k x).clock = s.clock := rfl
@[simp] theorem State.setRule_od (s : State) (k : Nat) (x : RuleSt) : (s.setRule k x).od = s.od := rfl
@[simp] theorem State.setRule_sessions (s : State) (k : Nat) (x : RuleSt) : (s.setRule k x).sessions = s.sessions := rfl
@[simp] theorem State.setRule_lockouts (s : State) (k : Nat) (x : RuleSt) : (s.setRule k x).lockouts = s.lockouts := rfl
@[simp] theorem State.setRule_sidZero (s : State) (k : Nat) (x : RuleSt) : (s.setRule k x).sidZero = s.sidZero := rfl
@[simp] theorem State.setRule_relays (s : State) (k : Nat) (x : RuleSt) : (s.setRule k x).relays = s.relays := rfl
@[simp] theorem State.setRule_lockHolder (s : State) (k : Nat) (x : RuleSt) : (s.setRule k x).lockHolder = s.lockHolder := rfl
@[simp] theorem State.setRule_commit (s : State) (k : Nat) (x : RuleSt) : (s.setRule k x).commit = s.commit := rfl
@[simp] theorem State.setRule_bankStore (s : State) (k : Nat) (x : RuleSt) : (s.setRule k x).bankStore = s.bankStore := rfl
@[simp] theorem State.setRule_sdo (s : State) (k : Nat) (x : RuleSt) : (s.setRule k x).sdo = s.sdo := rfl
@[simp] theorem State.setRule_ev (s : State) (k : Nat) (x : RuleSt) : (s.setRule k x).ev = s.ev := rfl
@[simp] theorem State.setRule_power (s : State) (k : Nat) (x : RuleSt) : (s.setRule k x).power = s.power := rfl
@[simp] theorem State.setRule_island (s : State) (k : Nat) (x : RuleSt) : (s.setRule k x).island = s.island := rfl
@[simp] theorem State.setRule_safe (s : State) (k : Nat) (x : RuleSt) : (s.setRule k x).safe = s.safe := rfl
@[simp] theorem State.setRule_dies (s : State) (k : Nat) (x : RuleSt) : (s.setRule k x).dies = s.dies := rfl
@[simp] theorem State.setRule_queues (s : State) (k : Nat) (x : RuleSt) : (s.setRule k x).queues = s.queues := rfl
@[simp] theorem State.setRule_bp (s : State) (k : Nat) (x : RuleSt) : (s.setRule k x).bp = s.bp := rfl
@[simp] theorem State.setRule_policers (s : State) (k : Nat) (x : RuleSt) : (s.setRule k x).policers = s.policers := rfl
@[simp] theorem State.setRule_credits (s : State) (k : Nat) (x : RuleSt) : (s.setRule k x).credits = s.credits := rfl
@[simp] theorem State.setRule_links (s : State) (k : Nat) (x : RuleSt) : (s.setRule k x).links = s.links := rfl
@[simp] theorem State.setRule_markers (s : State) (k : Nat) (x : RuleSt) : (s.setRule k x).markers = s.markers := rfl
@[simp] theorem State.setRule_ports (s : State) (k : Nat) (x : RuleSt) : (s.setRule k x).ports = s.ports := rfl
@[simp] theorem State.setRule_limiters (s : State) (k : Nat) (x : RuleSt) : (s.setRule k x).limiters = s.limiters := rfl
@[simp] theorem State.setRule_fresh64 (s : State) (k : Nat) (x : RuleSt) : (s.setRule k x).fresh64 = s.fresh64 := rfl
@[simp] theorem State.setRule_txCounters (s : State) (k : Nat) (x : RuleSt) : (s.setRule k x).txCounters = s.txCounters := rfl
@[simp] theorem State.setRule_mram (s : State) (k : Nat) (x : RuleSt) : (s.setRule k x).mram = s.mram := rfl
@[simp] theorem State.setRule_lastGen (s : State) (k : Nat) (x : RuleSt) : (s.setRule k x).lastGen = s.lastGen := rfl
@[simp] theorem State.setRule_sumac (s : State) (k : Nat) (x : RuleSt) : (s.setRule k x).sumac = s.sumac := rfl
@[simp] theorem State.setRule_intc (s : State) (k : Nat) (x : RuleSt) : (s.setRule k x).intc = s.intc := rfl
@[simp] theorem State.setRule_apps (s : State) (k : Nat) (x : RuleSt) : (s.setRule k x).apps = s.apps := rfl
@[simp] theorem State.setRule_tunnels (s : State) (k : Nat) (x : RuleSt) : (s.setRule k x).tunnels = s.tunnels := rfl
@[simp] theorem State.setRule_creditDue (s : State) (k : Nat) (x : RuleSt) : (s.setRule k x).creditDue = s.creditDue := rfl
@[simp] theorem State.setRule_samples (s : State) (k : Nat) (x : RuleSt) : (s.setRule k x).samples = s.samples := rfl
@[simp] theorem State.setRule_keys (s : State) (k : Nat) (x : RuleSt) : (s.setRule k x).keys = s.keys := rfl
@[simp] theorem State.setRule_fuses (s : State) (k : Nat) (x : RuleSt) : (s.setRule k x).fuses = s.fuses := rfl
@[simp] theorem State.setRule_life (s : State) (k : Nat) (x : RuleSt) : (s.setRule k x).life = s.life := rfl
@[simp] theorem State.setRule_update (s : State) (k : Nat) (x : RuleSt) : (s.setRule k x).update = s.update := rfl
@[simp] theorem State.setRule_jtag (s : State) (k : Nat) (x : RuleSt) : (s.setRule k x).jtag = s.jtag := rfl
@[simp] theorem State.setRule_nextFid (s : State) (k : Nat) (x : RuleSt) : (s.setRule k x).nextFid = s.nextFid := rfl
@[simp] theorem State.setRule_pins (s : State) (k : Nat) (x : RuleSt) : (s.setRule k x).pins = s.pins := rfl
@[simp] theorem State.setRule_fresh (s : State) (k : Nat) (x : RuleSt) : (s.setRule k x).fresh = s.fresh := rfl
@[simp] theorem State.setRule_out (s : State) (k : Nat) (x : RuleSt) : (s.setRule k x).out = s.out := rfl
@[simp] theorem State.setRule_pending (s : State) (k : Nat) (x : RuleSt) : (s.setRule k x).pending = s.pending := rfl

@[simp] theorem State.setLatest_variant (s : State) (k v : Nat) : (s.setLatest k v).variant = s.variant := rfl
@[simp] theorem State.setLatest_clock (s : State) (k v : Nat) : (s.setLatest k v).clock = s.clock := rfl
@[simp] theorem State.setLatest_od (s : State) (k v : Nat) : (s.setLatest k v).od = s.od := rfl
@[simp] theorem State.setLatest_sessions (s : State) (k v : Nat) : (s.setLatest k v).sessions = s.sessions := rfl
@[simp] theorem State.setLatest_lockouts (s : State) (k v : Nat) : (s.setLatest k v).lockouts = s.lockouts := rfl
@[simp] theorem State.setLatest_sidZero (s : State) (k v : Nat) : (s.setLatest k v).sidZero = s.sidZero := rfl
@[simp] theorem State.setLatest_relays (s : State) (k v : Nat) : (s.setLatest k v).relays = s.relays := rfl
@[simp] theorem State.setLatest_lockHolder (s : State) (k v : Nat) : (s.setLatest k v).lockHolder = s.lockHolder := rfl
@[simp] theorem State.setLatest_commit (s : State) (k v : Nat) : (s.setLatest k v).commit = s.commit := rfl
@[simp] theorem State.setLatest_bankStore (s : State) (k v : Nat) : (s.setLatest k v).bankStore = s.bankStore := rfl
@[simp] theorem State.setLatest_sdo (s : State) (k v : Nat) : (s.setLatest k v).sdo = s.sdo := rfl
@[simp] theorem State.setLatest_ev (s : State) (k v : Nat) : (s.setLatest k v).ev = s.ev := rfl
@[simp] theorem State.setLatest_power (s : State) (k v : Nat) : (s.setLatest k v).power = s.power := rfl
@[simp] theorem State.setLatest_island (s : State) (k v : Nat) : (s.setLatest k v).island = s.island := rfl
@[simp] theorem State.setLatest_safe (s : State) (k v : Nat) : (s.setLatest k v).safe = s.safe := rfl
@[simp] theorem State.setLatest_dies (s : State) (k v : Nat) : (s.setLatest k v).dies = s.dies := rfl
@[simp] theorem State.setLatest_queues (s : State) (k v : Nat) : (s.setLatest k v).queues = s.queues := rfl
@[simp] theorem State.setLatest_bp (s : State) (k v : Nat) : (s.setLatest k v).bp = s.bp := rfl
@[simp] theorem State.setLatest_policers (s : State) (k v : Nat) : (s.setLatest k v).policers = s.policers := rfl
@[simp] theorem State.setLatest_credits (s : State) (k v : Nat) : (s.setLatest k v).credits = s.credits := rfl
@[simp] theorem State.setLatest_links (s : State) (k v : Nat) : (s.setLatest k v).links = s.links := rfl
@[simp] theorem State.setLatest_markers (s : State) (k v : Nat) : (s.setLatest k v).markers = s.markers := rfl
@[simp] theorem State.setLatest_ports (s : State) (k v : Nat) : (s.setLatest k v).ports = s.ports := rfl
@[simp] theorem State.setLatest_limiters (s : State) (k v : Nat) : (s.setLatest k v).limiters = s.limiters := rfl
@[simp] theorem State.setLatest_txCounters (s : State) (k v : Nat) : (s.setLatest k v).txCounters = s.txCounters := rfl
@[simp] theorem State.setLatest_mram (s : State) (k v : Nat) : (s.setLatest k v).mram = s.mram := rfl
@[simp] theorem State.setLatest_lastGen (s : State) (k v : Nat) : (s.setLatest k v).lastGen = s.lastGen := rfl
@[simp] theorem State.setLatest_sumac (s : State) (k v : Nat) : (s.setLatest k v).sumac = s.sumac := rfl
@[simp] theorem State.setLatest_intc (s : State) (k v : Nat) : (s.setLatest k v).intc = s.intc := rfl
@[simp] theorem State.setLatest_apps (s : State) (k v : Nat) : (s.setLatest k v).apps = s.apps := rfl
@[simp] theorem State.setLatest_tunnels (s : State) (k v : Nat) : (s.setLatest k v).tunnels = s.tunnels := rfl
@[simp] theorem State.setLatest_creditDue (s : State) (k v : Nat) : (s.setLatest k v).creditDue = s.creditDue := rfl
@[simp] theorem State.setLatest_samples (s : State) (k v : Nat) : (s.setLatest k v).samples = s.samples := rfl
@[simp] theorem State.setLatest_keys (s : State) (k v : Nat) : (s.setLatest k v).keys = s.keys := rfl
@[simp] theorem State.setLatest_fuses (s : State) (k v : Nat) : (s.setLatest k v).fuses = s.fuses := rfl
@[simp] theorem State.setLatest_life (s : State) (k v : Nat) : (s.setLatest k v).life = s.life := rfl
@[simp] theorem State.setLatest_measure (s : State) (k v : Nat) : (s.setLatest k v).measure = s.measure := rfl
@[simp] theorem State.setLatest_update (s : State) (k v : Nat) : (s.setLatest k v).update = s.update := rfl
@[simp] theorem State.setLatest_jtag (s : State) (k v : Nat) : (s.setLatest k v).jtag = s.jtag := rfl
@[simp] theorem State.setLatest_nextFid (s : State) (k v : Nat) : (s.setLatest k v).nextFid = s.nextFid := rfl
@[simp] theorem State.setLatest_pins (s : State) (k v : Nat) : (s.setLatest k v).pins = s.pins := rfl
@[simp] theorem State.setLatest_fresh (s : State) (k v : Nat) : (s.setLatest k v).fresh = s.fresh := rfl
@[simp] theorem State.setLatest_out (s : State) (k v : Nat) : (s.setLatest k v).out = s.out := rfl
@[simp] theorem State.setLatest_pending (s : State) (k v : Nat) : (s.setLatest k v).pending = s.pending := rfl

@[simp] theorem State.countRow_variant (s : State) (e row n : Nat) : (s.countRow e row n).variant = s.variant := rfl
@[simp] theorem State.countRow_clock (s : State) (e row n : Nat) : (s.countRow e row n).clock = s.clock := rfl
@[simp] theorem State.countRow_sessions (s : State) (e row n : Nat) : (s.countRow e row n).sessions = s.sessions := rfl
@[simp] theorem State.countRow_lockouts (s : State) (e row n : Nat) : (s.countRow e row n).lockouts = s.lockouts := rfl
@[simp] theorem State.countRow_sidZero (s : State) (e row n : Nat) : (s.countRow e row n).sidZero = s.sidZero := rfl
@[simp] theorem State.countRow_relays (s : State) (e row n : Nat) : (s.countRow e row n).relays = s.relays := rfl
@[simp] theorem State.countRow_lockHolder (s : State) (e row n : Nat) : (s.countRow e row n).lockHolder = s.lockHolder := rfl
@[simp] theorem State.countRow_commit (s : State) (e row n : Nat) : (s.countRow e row n).commit = s.commit := rfl
@[simp] theorem State.countRow_bankStore (s : State) (e row n : Nat) : (s.countRow e row n).bankStore = s.bankStore := rfl
@[simp] theorem State.countRow_sdo (s : State) (e row n : Nat) : (s.countRow e row n).sdo = s.sdo := rfl
@[simp] theorem State.countRow_ev (s : State) (e row n : Nat) : (s.countRow e row n).ev = s.ev := rfl
@[simp] theorem State.countRow_power (s : State) (e row n : Nat) : (s.countRow e row n).power = s.power := rfl
@[simp] theorem State.countRow_island (s : State) (e row n : Nat) : (s.countRow e row n).island = s.island := rfl
@[simp] theorem State.countRow_safe (s : State) (e row n : Nat) : (s.countRow e row n).safe = s.safe := rfl
@[simp] theorem State.countRow_dies (s : State) (e row n : Nat) : (s.countRow e row n).dies = s.dies := rfl
@[simp] theorem State.countRow_queues (s : State) (e row n : Nat) : (s.countRow e row n).queues = s.queues := rfl
@[simp] theorem State.countRow_bp (s : State) (e row n : Nat) : (s.countRow e row n).bp = s.bp := rfl
@[simp] theorem State.countRow_policers (s : State) (e row n : Nat) : (s.countRow e row n).policers = s.policers := rfl
@[simp] theorem State.countRow_credits (s : State) (e row n : Nat) : (s.countRow e row n).credits = s.credits := rfl
@[simp] theorem State.countRow_links (s : State) (e row n : Nat) : (s.countRow e row n).links = s.links := rfl
@[simp] theorem State.countRow_markers (s : State) (e row n : Nat) : (s.countRow e row n).markers = s.markers := rfl
@[simp] theorem State.countRow_ports (s : State) (e row n : Nat) : (s.countRow e row n).ports = s.ports := rfl
@[simp] theorem State.countRow_limiters (s : State) (e row n : Nat) : (s.countRow e row n).limiters = s.limiters := rfl
@[simp] theorem State.countRow_fresh64 (s : State) (e row n : Nat) : (s.countRow e row n).fresh64 = s.fresh64 := rfl
@[simp] theorem State.countRow_txCounters (s : State) (e row n : Nat) : (s.countRow e row n).txCounters = s.txCounters := rfl
@[simp] theorem State.countRow_mram (s : State) (e row n : Nat) : (s.countRow e row n).mram = s.mram := rfl
@[simp] theorem State.countRow_lastGen (s : State) (e row n : Nat) : (s.countRow e row n).lastGen = s.lastGen := rfl
@[simp] theorem State.countRow_sumac (s : State) (e row n : Nat) : (s.countRow e row n).sumac = s.sumac := rfl
@[simp] theorem State.countRow_intc (s : State) (e row n : Nat) : (s.countRow e row n).intc = s.intc := rfl
@[simp] theorem State.countRow_apps (s : State) (e row n : Nat) : (s.countRow e row n).apps = s.apps := rfl
@[simp] theorem State.countRow_tunnels (s : State) (e row n : Nat) : (s.countRow e row n).tunnels = s.tunnels := rfl
@[simp] theorem State.countRow_creditDue (s : State) (e row n : Nat) : (s.countRow e row n).creditDue = s.creditDue := rfl
@[simp] theorem State.countRow_samples (s : State) (e row n : Nat) : (s.countRow e row n).samples = s.samples := rfl
@[simp] theorem State.countRow_keys (s : State) (e row n : Nat) : (s.countRow e row n).keys = s.keys := rfl
@[simp] theorem State.countRow_fuses (s : State) (e row n : Nat) : (s.countRow e row n).fuses = s.fuses := rfl
@[simp] theorem State.countRow_life (s : State) (e row n : Nat) : (s.countRow e row n).life = s.life := rfl
@[simp] theorem State.countRow_measure (s : State) (e row n : Nat) : (s.countRow e row n).measure = s.measure := rfl
@[simp] theorem State.countRow_update (s : State) (e row n : Nat) : (s.countRow e row n).update = s.update := rfl
@[simp] theorem State.countRow_jtag (s : State) (e row n : Nat) : (s.countRow e row n).jtag = s.jtag := rfl
@[simp] theorem State.countRow_nextFid (s : State) (e row n : Nat) : (s.countRow e row n).nextFid = s.nextFid := rfl
@[simp] theorem State.countRow_pins (s : State) (e row n : Nat) : (s.countRow e row n).pins = s.pins := rfl
@[simp] theorem State.countRow_fresh (s : State) (e row n : Nat) : (s.countRow e row n).fresh = s.fresh := rfl
@[simp] theorem State.countRow_out (s : State) (e row n : Nat) : (s.countRow e row n).out = s.out := rfl
@[simp] theorem State.countRow_pending (s : State) (e row n : Nat) : (s.countRow e row n).pending = s.pending := rfl

@[simp] theorem State.count_variant (s : State) (e n : Nat) : (s.count e n).variant = s.variant := rfl
@[simp] theorem State.count_clock (s : State) (e n : Nat) : (s.count e n).clock = s.clock := rfl
@[simp] theorem State.count_sessions (s : State) (e n : Nat) : (s.count e n).sessions = s.sessions := rfl
@[simp] theorem State.count_lockouts (s : State) (e n : Nat) : (s.count e n).lockouts = s.lockouts := rfl
@[simp] theorem State.count_sidZero (s : State) (e n : Nat) : (s.count e n).sidZero = s.sidZero := rfl
@[simp] theorem State.count_relays (s : State) (e n : Nat) : (s.count e n).relays = s.relays := rfl
@[simp] theorem State.count_lockHolder (s : State) (e n : Nat) : (s.count e n).lockHolder = s.lockHolder := rfl
@[simp] theorem State.count_commit (s : State) (e n : Nat) : (s.count e n).commit = s.commit := rfl
@[simp] theorem State.count_bankStore (s : State) (e n : Nat) : (s.count e n).bankStore = s.bankStore := rfl
@[simp] theorem State.count_sdo (s : State) (e n : Nat) : (s.count e n).sdo = s.sdo := rfl
@[simp] theorem State.count_ev (s : State) (e n : Nat) : (s.count e n).ev = s.ev := rfl
@[simp] theorem State.count_power (s : State) (e n : Nat) : (s.count e n).power = s.power := rfl
@[simp] theorem State.count_island (s : State) (e n : Nat) : (s.count e n).island = s.island := rfl
@[simp] theorem State.count_safe (s : State) (e n : Nat) : (s.count e n).safe = s.safe := rfl
@[simp] theorem State.count_dies (s : State) (e n : Nat) : (s.count e n).dies = s.dies := rfl
@[simp] theorem State.count_queues (s : State) (e n : Nat) : (s.count e n).queues = s.queues := rfl
@[simp] theorem State.count_bp (s : State) (e n : Nat) : (s.count e n).bp = s.bp := rfl
@[simp] theorem State.count_policers (s : State) (e n : Nat) : (s.count e n).policers = s.policers := rfl
@[simp] theorem State.count_credits (s : State) (e n : Nat) : (s.count e n).credits = s.credits := rfl
@[simp] theorem State.count_links (s : State) (e n : Nat) : (s.count e n).links = s.links := rfl
@[simp] theorem State.count_markers (s : State) (e n : Nat) : (s.count e n).markers = s.markers := rfl
@[simp] theorem State.count_ports (s : State) (e n : Nat) : (s.count e n).ports = s.ports := rfl
@[simp] theorem State.count_limiters (s : State) (e n : Nat) : (s.count e n).limiters = s.limiters := rfl
@[simp] theorem State.count_fresh64 (s : State) (e n : Nat) : (s.count e n).fresh64 = s.fresh64 := rfl
@[simp] theorem State.count_txCounters (s : State) (e n : Nat) : (s.count e n).txCounters = s.txCounters := rfl
@[simp] theorem State.count_mram (s : State) (e n : Nat) : (s.count e n).mram = s.mram := rfl
@[simp] theorem State.count_lastGen (s : State) (e n : Nat) : (s.count e n).lastGen = s.lastGen := rfl
@[simp] theorem State.count_sumac (s : State) (e n : Nat) : (s.count e n).sumac = s.sumac := rfl
@[simp] theorem State.count_intc (s : State) (e n : Nat) : (s.count e n).intc = s.intc := rfl
@[simp] theorem State.count_apps (s : State) (e n : Nat) : (s.count e n).apps = s.apps := rfl
@[simp] theorem State.count_tunnels (s : State) (e n : Nat) : (s.count e n).tunnels = s.tunnels := rfl
@[simp] theorem State.count_creditDue (s : State) (e n : Nat) : (s.count e n).creditDue = s.creditDue := rfl
@[simp] theorem State.count_samples (s : State) (e n : Nat) : (s.count e n).samples = s.samples := rfl
@[simp] theorem State.count_keys (s : State) (e n : Nat) : (s.count e n).keys = s.keys := rfl
@[simp] theorem State.count_fuses (s : State) (e n : Nat) : (s.count e n).fuses = s.fuses := rfl
@[simp] theorem State.count_life (s : State) (e n : Nat) : (s.count e n).life = s.life := rfl
@[simp] theorem State.count_measure (s : State) (e n : Nat) : (s.count e n).measure = s.measure := rfl
@[simp] theorem State.count_update (s : State) (e n : Nat) : (s.count e n).update = s.update := rfl
@[simp] theorem State.count_jtag (s : State) (e n : Nat) : (s.count e n).jtag = s.jtag := rfl
@[simp] theorem State.count_nextFid (s : State) (e n : Nat) : (s.count e n).nextFid = s.nextFid := rfl
@[simp] theorem State.count_pins (s : State) (e n : Nat) : (s.count e n).pins = s.pins := rfl
@[simp] theorem State.count_fresh (s : State) (e n : Nat) : (s.count e n).fresh = s.fresh := rfl
@[simp] theorem State.count_out (s : State) (e n : Nat) : (s.count e n).out = s.out := rfl
@[simp] theorem State.count_pending (s : State) (e n : Nat) : (s.count e n).pending = s.pending := rfl

@[simp] theorem State.countSlot_variant (s : State) (e k n : Nat) : (s.countSlot e k n).variant = s.variant := rfl
@[simp] theorem State.countSlot_clock (s : State) (e k n : Nat) : (s.countSlot e k n).clock = s.clock := rfl
@[simp] theorem State.countSlot_sessions (s : State) (e k n : Nat) : (s.countSlot e k n).sessions = s.sessions := rfl
@[simp] theorem State.countSlot_lockouts (s : State) (e k n : Nat) : (s.countSlot e k n).lockouts = s.lockouts := rfl
@[simp] theorem State.countSlot_sidZero (s : State) (e k n : Nat) : (s.countSlot e k n).sidZero = s.sidZero := rfl
@[simp] theorem State.countSlot_relays (s : State) (e k n : Nat) : (s.countSlot e k n).relays = s.relays := rfl
@[simp] theorem State.countSlot_lockHolder (s : State) (e k n : Nat) : (s.countSlot e k n).lockHolder = s.lockHolder := rfl
@[simp] theorem State.countSlot_commit (s : State) (e k n : Nat) : (s.countSlot e k n).commit = s.commit := rfl
@[simp] theorem State.countSlot_bankStore (s : State) (e k n : Nat) : (s.countSlot e k n).bankStore = s.bankStore := rfl
@[simp] theorem State.countSlot_sdo (s : State) (e k n : Nat) : (s.countSlot e k n).sdo = s.sdo := rfl
@[simp] theorem State.countSlot_ev (s : State) (e k n : Nat) : (s.countSlot e k n).ev = s.ev := rfl
@[simp] theorem State.countSlot_power (s : State) (e k n : Nat) : (s.countSlot e k n).power = s.power := rfl
@[simp] theorem State.countSlot_island (s : State) (e k n : Nat) : (s.countSlot e k n).island = s.island := rfl
@[simp] theorem State.countSlot_safe (s : State) (e k n : Nat) : (s.countSlot e k n).safe = s.safe := rfl
@[simp] theorem State.countSlot_dies (s : State) (e k n : Nat) : (s.countSlot e k n).dies = s.dies := rfl
@[simp] theorem State.countSlot_queues (s : State) (e k n : Nat) : (s.countSlot e k n).queues = s.queues := rfl
@[simp] theorem State.countSlot_bp (s : State) (e k n : Nat) : (s.countSlot e k n).bp = s.bp := rfl
@[simp] theorem State.countSlot_policers (s : State) (e k n : Nat) : (s.countSlot e k n).policers = s.policers := rfl
@[simp] theorem State.countSlot_credits (s : State) (e k n : Nat) : (s.countSlot e k n).credits = s.credits := rfl
@[simp] theorem State.countSlot_links (s : State) (e k n : Nat) : (s.countSlot e k n).links = s.links := rfl
@[simp] theorem State.countSlot_markers (s : State) (e k n : Nat) : (s.countSlot e k n).markers = s.markers := rfl
@[simp] theorem State.countSlot_ports (s : State) (e k n : Nat) : (s.countSlot e k n).ports = s.ports := rfl
@[simp] theorem State.countSlot_limiters (s : State) (e k n : Nat) : (s.countSlot e k n).limiters = s.limiters := rfl
@[simp] theorem State.countSlot_fresh64 (s : State) (e k n : Nat) : (s.countSlot e k n).fresh64 = s.fresh64 := rfl
@[simp] theorem State.countSlot_txCounters (s : State) (e k n : Nat) : (s.countSlot e k n).txCounters = s.txCounters := rfl
@[simp] theorem State.countSlot_mram (s : State) (e k n : Nat) : (s.countSlot e k n).mram = s.mram := rfl
@[simp] theorem State.countSlot_lastGen (s : State) (e k n : Nat) : (s.countSlot e k n).lastGen = s.lastGen := rfl
@[simp] theorem State.countSlot_sumac (s : State) (e k n : Nat) : (s.countSlot e k n).sumac = s.sumac := rfl
@[simp] theorem State.countSlot_intc (s : State) (e k n : Nat) : (s.countSlot e k n).intc = s.intc := rfl
@[simp] theorem State.countSlot_apps (s : State) (e k n : Nat) : (s.countSlot e k n).apps = s.apps := rfl
@[simp] theorem State.countSlot_tunnels (s : State) (e k n : Nat) : (s.countSlot e k n).tunnels = s.tunnels := rfl
@[simp] theorem State.countSlot_creditDue (s : State) (e k n : Nat) : (s.countSlot e k n).creditDue = s.creditDue := rfl
@[simp] theorem State.countSlot_samples (s : State) (e k n : Nat) : (s.countSlot e k n).samples = s.samples := rfl
@[simp] theorem State.countSlot_keys (s : State) (e k n : Nat) : (s.countSlot e k n).keys = s.keys := rfl
@[simp] theorem State.countSlot_fuses (s : State) (e k n : Nat) : (s.countSlot e k n).fuses = s.fuses := rfl
@[simp] theorem State.countSlot_life (s : State) (e k n : Nat) : (s.countSlot e k n).life = s.life := rfl
@[simp] theorem State.countSlot_measure (s : State) (e k n : Nat) : (s.countSlot e k n).measure = s.measure := rfl
@[simp] theorem State.countSlot_update (s : State) (e k n : Nat) : (s.countSlot e k n).update = s.update := rfl
@[simp] theorem State.countSlot_jtag (s : State) (e k n : Nat) : (s.countSlot e k n).jtag = s.jtag := rfl
@[simp] theorem State.countSlot_nextFid (s : State) (e k n : Nat) : (s.countSlot e k n).nextFid = s.nextFid := rfl
@[simp] theorem State.countSlot_pins (s : State) (e k n : Nat) : (s.countSlot e k n).pins = s.pins := rfl
@[simp] theorem State.countSlot_fresh (s : State) (e k n : Nat) : (s.countSlot e k n).fresh = s.fresh := rfl
@[simp] theorem State.countSlot_out (s : State) (e k n : Nat) : (s.countSlot e k n).out = s.out := rfl
@[simp] theorem State.countSlot_pending (s : State) (e k n : Nat) : (s.countSlot e k n).pending = s.pending := rfl

@[simp] theorem State.settle_variant (s : State) : s.settle.variant = s.variant := by unfold State.settle State.autoRelease; split <;> rfl
@[simp] theorem State.settle_clock (s : State) : s.settle.clock = s.clock := by unfold State.settle State.autoRelease; split <;> rfl
@[simp] theorem State.settle_od (s : State) : s.settle.od = s.od := by unfold State.settle State.autoRelease; split <;> rfl
@[simp] theorem State.settle_sessions (s : State) : s.settle.sessions = s.sessions := by unfold State.settle State.autoRelease; split <;> rfl
@[simp] theorem State.settle_lockouts (s : State) : s.settle.lockouts = s.lockouts := by unfold State.settle State.autoRelease; split <;> rfl
@[simp] theorem State.settle_sidZero (s : State) : s.settle.sidZero = s.sidZero := by unfold State.settle State.autoRelease; split <;> rfl
@[simp] theorem State.settle_relays (s : State) : s.settle.relays = s.relays := by unfold State.settle State.autoRelease; split <;> rfl
@[simp] theorem State.settle_lockHolder (s : State) : s.settle.lockHolder = s.lockHolder := by unfold State.settle State.autoRelease; split <;> rfl
@[simp] theorem State.settle_commit (s : State) : s.settle.commit = s.commit := by unfold State.settle State.autoRelease; split <;> rfl
@[simp] theorem State.settle_bankStore (s : State) : s.settle.bankStore = s.bankStore := by unfold State.settle State.autoRelease; split <;> rfl
@[simp] theorem State.settle_sdo (s : State) : s.settle.sdo = s.sdo := by unfold State.settle State.autoRelease; split <;> rfl
@[simp] theorem State.settle_ev (s : State) : s.settle.ev = s.ev := by unfold State.settle State.autoRelease; split <;> rfl
@[simp] theorem State.settle_power (s : State) : s.settle.power = s.power := by unfold State.settle State.autoRelease; split <;> rfl
@[simp] theorem State.settle_island (s : State) : s.settle.island = s.island := by unfold State.settle State.autoRelease; split <;> rfl
@[simp] theorem State.settle_dies (s : State) : s.settle.dies = s.dies := by unfold State.settle State.autoRelease; split <;> rfl
@[simp] theorem State.settle_queues (s : State) : s.settle.queues = s.queues := by unfold State.settle State.autoRelease; split <;> rfl
@[simp] theorem State.settle_bp (s : State) : s.settle.bp = s.bp := by unfold State.settle State.autoRelease; split <;> rfl
@[simp] theorem State.settle_policers (s : State) : s.settle.policers = s.policers := by unfold State.settle State.autoRelease; split <;> rfl
@[simp] theorem State.settle_credits (s : State) : s.settle.credits = s.credits := by unfold State.settle State.autoRelease; split <;> rfl
@[simp] theorem State.settle_links (s : State) : s.settle.links = s.links := by unfold State.settle State.autoRelease; split <;> rfl
@[simp] theorem State.settle_markers (s : State) : s.settle.markers = s.markers := by unfold State.settle State.autoRelease; split <;> rfl
@[simp] theorem State.settle_ports (s : State) : s.settle.ports = s.ports := by unfold State.settle State.autoRelease; split <;> rfl
@[simp] theorem State.settle_limiters (s : State) : s.settle.limiters = s.limiters := by unfold State.settle State.autoRelease; split <;> rfl
@[simp] theorem State.settle_fresh64 (s : State) : s.settle.fresh64 = s.fresh64 := by unfold State.settle State.autoRelease; split <;> rfl
@[simp] theorem State.settle_txCounters (s : State) : s.settle.txCounters = s.txCounters := by unfold State.settle State.autoRelease; split <;> rfl
@[simp] theorem State.settle_mram (s : State) : s.settle.mram = s.mram := by unfold State.settle State.autoRelease; split <;> rfl
@[simp] theorem State.settle_lastGen (s : State) : s.settle.lastGen = s.lastGen := by unfold State.settle State.autoRelease; split <;> rfl
@[simp] theorem State.settle_sumac (s : State) : s.settle.sumac = s.sumac := by unfold State.settle State.autoRelease; split <;> rfl
@[simp] theorem State.settle_intc (s : State) : s.settle.intc = s.intc := by unfold State.settle State.autoRelease; split <;> rfl
@[simp] theorem State.settle_apps (s : State) : s.settle.apps = s.apps := by unfold State.settle State.autoRelease; split <;> rfl
@[simp] theorem State.settle_tunnels (s : State) : s.settle.tunnels = s.tunnels := by unfold State.settle State.autoRelease; split <;> rfl
@[simp] theorem State.settle_creditDue (s : State) : s.settle.creditDue = s.creditDue := by unfold State.settle State.autoRelease; split <;> rfl
@[simp] theorem State.settle_samples (s : State) : s.settle.samples = s.samples := by unfold State.settle State.autoRelease; split <;> rfl
@[simp] theorem State.settle_keys (s : State) : s.settle.keys = s.keys := by unfold State.settle State.autoRelease; split <;> rfl
@[simp] theorem State.settle_fuses (s : State) : s.settle.fuses = s.fuses := by unfold State.settle State.autoRelease; split <;> rfl
@[simp] theorem State.settle_life (s : State) : s.settle.life = s.life := by unfold State.settle State.autoRelease; split <;> rfl
@[simp] theorem State.settle_measure (s : State) : s.settle.measure = s.measure := by unfold State.settle State.autoRelease; split <;> rfl
@[simp] theorem State.settle_update (s : State) : s.settle.update = s.update := by unfold State.settle State.autoRelease; split <;> rfl
@[simp] theorem State.settle_jtag (s : State) : s.settle.jtag = s.jtag := by unfold State.settle State.autoRelease; split <;> rfl
@[simp] theorem State.settle_nextFid (s : State) : s.settle.nextFid = s.nextFid := by unfold State.settle State.autoRelease; split <;> rfl
@[simp] theorem State.settle_fresh (s : State) : s.settle.fresh = s.fresh := by unfold State.settle State.autoRelease; split <;> rfl
@[simp] theorem State.settle_out (s : State) : s.settle.out = s.out := by unfold State.settle State.autoRelease; split <;> rfl
@[simp] theorem State.settle_pending (s : State) : s.settle.pending = s.pending := by unfold State.settle State.autoRelease; split <;> rfl

theorem mget_eq_mfind {α : Type} (d : α) (m : NMap α) (i : Nat) : mget d m i = (mfind m i).getD d := by
  induction m with
  | nil => rfl
  | cons p m ih =>
    obtain ⟨k, v⟩ := p
    unfold mget mfind
    split
    · rfl
    · split
      · rfl
      · exact ih

/-- The balls follow every settled state (R286, R341). -/
theorem State.settle_pinsFollow (s : State) : s.settle.pinsFollow := by
  unfold State.pinsFollow State.settle
  rfl

@[simp] theorem State.emit_out (s : State) (o : Out) : (s.emit o).out = o :: s.out := rfl
@[simp] theorem State.draw_fresh (s : State) : s.draw.fresh = s.fresh + 1 := rfl
@[simp] theorem State.updEv_ev (s : State) (f : Evidence → Evidence) : (s.updEv f).ev = f s.ev := rfl
@[simp] theorem State.die_setDieState (s : State) (n : Nat) (d : Die) : (s.setDieState n d).die n = d := by simp [State.die, State.setDieState]
@[simp] theorem State.die_updDie (s : State) (n : Nat) (f : Die → Die) : (s.updDie n f).die n = f (s.die n) := by simp [State.updDie]
@[simp] theorem State.intcTarget_setIntc (s : State) (n k : Nat) (t : IntcTarget) : (s.setIntc n k t).intcTarget n k = t := by
  simp [State.intcTarget, State.setIntc]
@[simp] theorem State.queue_setQueue (s : State) (row : Nat) (l : List Copy) : (s.setQueue row l).queue row = l := by simp [State.queue, State.setQueue]
@[simp] theorem State.port_setPort (s : State) (k : Nat) (p : Port) : (s.setPort k p).port k = p := by simp [State.port, State.setPort]
@[simp] theorem State.port_updPort (s : State) (k : Nat) (f : Port → Port) : (s.updPort k f).port k = f (s.port k) := by simp [State.updPort]
@[simp] theorem State.link_setLink (s : State) (n e : Nat) (l : LinkEnd) : (s.setLink n e l).link n e = l := by simp [State.link, State.setLink]
@[simp] theorem State.link_updLink (s : State) (n e : Nat) (f : LinkEnd → LinkEnd) : (s.updLink n e f).link n e = f (s.link n e) := by simp [State.updLink]
@[simp] theorem State.limiter_setLimiter (s : State) (k : Nat) (l : Limiter) : (s.setLimiter k l).limiter k = l := by simp [State.limiter, State.setLimiter]
@[simp] theorem State.app_setApp (s : State) (n : Nat) (a : App) : (s.setApp n a).app n = a := by simp [State.app, State.setApp]
@[simp] theorem State.app_updApp (s : State) (n : Nat) (f : App → App) : (s.updApp n f).app n = f (s.app n) := by simp [State.updApp]
@[simp] theorem App.qp_setQp (a : App) (k : Nat) (q : Qp) : (a.setQp k q).qp k = q := by simp [App.qp, App.setQp]
@[simp] theorem State.qp_updQp (s : State) (n k : Nat) (f : Qp → Qp) : (s.updQp n k f).qp n k = f (s.qp n k) := by simp [State.qp, State.updQp]
@[simp] theorem State.sess_setSess (s : State) (k : Nat) (x : Session) : (s.setSess k x).sess k = x := by simp [State.sess, State.setSess]
@[simp] theorem State.sess_updSess (s : State) (k : Nat) (f : Session → Session) : (s.updSess k f).sess k = f (s.sess k) := by simp [State.updSess]
@[simp] theorem State.tunnel_setTunnel (s : State) (k : Nat) (x : Tunnel) : (s.setTunnel k x).tunnel k = x := by simp [State.tunnel, State.setTunnel]
@[simp] theorem State.mi_setMi (s : State) (k : Nat) (x : MiInput) : (s.setMi k x).mi k = x := by simp [State.mi, State.setMi]
@[simp] theorem State.spd_setSpd (s : State) (k : Nat) (x : SpdInput) : (s.setSpd k x).spd k = x := by simp [State.spd, State.setSpd]
@[simp] theorem State.rule_setRule (s : State) (k : Nat) (x : RuleSt) : (s.setRule k x).rule k = x := by simp [State.rule, State.setRule]
@[simp] theorem State.stRow_setRow (s : State) (e row v : Nat) : (s.setRow e row v).stRow e row = v := by simp [State.stRow, State.setRow]
@[simp] theorem State.st_set (s : State) (e v : Nat) : (s.set e v).st e = v := by simp [State.st, State.set]
@[simp] theorem State.cfgRow_setCfgRow (s : State) (e row v : Nat) : (s.setCfgRow e row v).cfgRow e row = v := by
  have h := mget_mset_same (odDefault s.variant e) s.od.active (okey e row) v
  rw [mget_eq_mfind] at h
  unfold State.cfgRow State.setCfgRow
  dsimp only
  split <;> rename_i hf <;> rw [hf] at h <;> exact h

/-- The words of an application pair's SRAM keep their one form whatever is stored (R402). -/
theorem App.setWord_mwf (a : App) (i v : Nat) (h : mwf 0 a.sram = true) : mwf 0 (a.setWord i v).sram = true := mwf_mset 0 h i _

theorem App.store_mwf (a : App) (off : Nat) (bs : Bytes) (h : mwf 0 a.sram = true) : mwf 0 (a.store off bs).sram = true := by
  unfold App.store
  generalize off / 4 = i
  generalize toWords bs = ws
  induction ws generalizing a i with
  | nil => exact h
  | cons w ws ih => exact ih (a.setWord i w.toNat) (App.setWord_mwf a i _ h) (i + 1)

end Sys2Proof.Machine
end

