-- ==== Sys2Proof/Laws/Writes.lean ====
section
/-! SUPPORT. What a session's taken write of an entry does (R61, R63, R67), once for every command that is such a write. -/

namespace Sys2Proof.Machine
open Sys2Proof

theorem State.accepts_serves {s : State} {sess idx sub row : Nat} {b : Bytes} (h : s.accepts sess idx sub row b = true) :
    s.hasSess sess = true ∧ s.serves sess = true := by
  simp only [State.accepts, Bool.and_eq_true] at h
  exact h.1

/-- A taken write acts: live and wo entries by their action, the others by staging. -/
theorem State.odWrite_accepts {s : State} {sess idx sub row : Nat} {b : Bytes} {o : OdObject} {x : OdEntry} (h : s.accepts sess idx sub row b = true)
    (ho : odObject s.variant idx = some o) (hx : odEntry s.variant (idx * 256 + sub) = some x) :
    s.odWrite sess idx sub row b =
      (let r := if x.isDom then row else o.keyRow row
       if x.acc == .wo || x.live then s.odAct sess (idx * 256 + sub) r b else s.stage sess [(okey (idx * 256 + sub) r, leNat b)]) := by
  simp only [State.accepts, ho, hx, Bool.and_eq_true, beq_iff_eq, Bool.not_eq_true', decide_eq_true_eq] at h
  obtain ⟨_, ⟨⟨⟨⟨h1, h2⟩, h3⟩, h4⟩, h5⟩, h6⟩ := h
  simp [State.odWrite, ho, hx, h1, h2, h3, h5, h6, Nat.not_lt.mpr h4, State.writeEntry]

/-- A write whose answer is not an MDIO operation's leaves its status with the session, and its answer. -/
theorem State.sessionWrite_serves {s : State} {sess idx sub row : Nat} {b : Bytes} (h : s.serves sess = true) (hs : (s.odWrite sess idx sub row b).2 ≠ 0x100) :
    s.sessionWrite sess idx sub row b = ((s.odWrite sess idx sub row b).1.requestDone sess (s.odWrite sess idx sub row b).2).reply sess (servingDie idx sub row)
      (s.odWrite sess idx sub row b).2 (answer sess [] (s.odWrite sess idx sub row b).2) := by
  simp [State.sessionWrite, h, State.writeDone, hs]

theorem State.hasSess_lt {s : State} {sess : Nat} (h : s.hasSess sess = true) : sess ≠ noSession := by
  rintro rfl
  simp only [State.hasSess, noSession, Variant.hasDie, Variant.nc] at h
  revert h
  cases s.variant <;> simp

/-- A request answered without a clearance failure changes the session alone. -/
theorem State.requestDone_plain (s : State) {sess status : Nat} (h : status ≠ 0x06) (hs : sess ≠ noSession) :
    s.requestDone sess status = s.updSess sess (fun x => { x with lastStatus := status, last := s.clock.ticks }) := by
  simp [State.requestDone, State.when, h, hs]

/-- A session's own answer changes what waits for its relay, or the outputs. -/
theorem State.reply_answer (s : State) (sess server status k : Nat) (v : Bytes) :
    s.reply sess server status (answer sess v k) = { s with relays := (s.reply sess server status (answer sess v k)).relays, out := (s.reply sess server status (answer sess v k)).out } := by
  unfold State.reply
  split <;> rfl

end Sys2Proof.Machine
end

