-- ==== Sys2Proof/Tests/Slice0.lean ====
section
/-! SUPPORT. The tests of the model: a term that each check of WellFormed refuses beside one at the edge of the range that it takes; the manual's
worked values and single steps, each with the rule its expected result comes from; and, for each statement with hypotheses, concrete states and
operands that meet them together (`met_<statement>_<n>`, one for each clause). -/

namespace Sys2Proof.Machine
/-- A slot's entry set. -/
def State.slotCfg (s : State) (e slot v : Nat) : State := s.setCfg (e + slot * 256) v
end Sys2Proof.Machine

namespace Sys2Proof.Tests
open Sys2Proof Sys2Proof.Machine

section
set_option Elab.async false

/-! Ill-formed commands are refused by WellFormed. -/

theorem test_wf_die : (.sysCtrlWrite 4 0 : Instr).wf 3 = false ∧ (.sysCtrlWrite 3 0 : Instr).wf 3 = true := by decide +kernel
theorem test_wf_any_die : (.evidenceRequest 4 : Instr).wf 3 = false ∧ (.evidenceRequest 0 : Instr).wf 3 = true := by decide +kernel
theorem test_wf_slot_die : (.canProtocolException 96 : Instr).wf 3 = false ∧ (.canProtocolException 71 : Instr).wf 3 = true := by decide +kernel
theorem test_wf_can : (.canProtocolException 8 : Instr).wf 3 = false ∧ (.canProtocolException 7 : Instr).wf 3 = true := by decide +kernel
theorem test_wf_lin : (.linNoResponse 7 : Instr).wf 3 = false ∧ (.linNoResponse 8 : Instr).wf 3 = true := by decide +kernel
theorem test_wf_eth : (.linkUp ⟨21, true⟩ : Instr).wf 3 = false ∧ (.linkUp ⟨20, true⟩ : Instr).wf 3 = true := by decide +kernel
theorem test_wf_slot : (.configParityFault 12 : Instr).wf 3 = false ∧ (.configParityFault 11 : Instr).wf 3 = true := by decide +kernel
theorem test_wf_link : (.keepAlive 1 4 : Instr).wf 3 = false ∧ (.keepAlive 1 3 : Instr).wf 3 = true := by decide +kernel
theorem test_wf_supply : (.supplyOutOfRange (.vcore 0) : Instr).wf 3 = false ∧ (.supplyOutOfRange (.vcore 2) : Instr).wf 3 = true := by decide +kernel
theorem test_wf_sess : (.keyDerive 8 : Instr).wf 3 = false ∧ (.keyDerive 7 : Instr).wf 3 = true := by decide +kernel
theorem test_wf_class : (.pauseTimerExpiry 16 8 : Instr).wf 3 = false ∧ (.pauseTimerExpiry 16 7 : Instr).wf 3 = true := by decide +kernel
theorem test_wf_point : (.portDequeue 1 29 : Instr).wf 3 = false ∧ (.portDequeue 1 28 : Instr).wf 3 = true := by decide +kernel
theorem test_wf_fault_class : (.safeNRecoveryTimeout 0x16 : Instr).wf 3 = false ∧ (.safeNRecoveryTimeout 0x15 : Instr).wf 3 = true := by decide +kernel
theorem test_wf_u8 : (.safeRelease 0 256 : Instr).wf 3 = false ∧ (.safeRelease 0 255 : Instr).wf 3 = true := by decide +kernel
theorem test_wf_u16 : (.evClear 65536 : Instr).wf 3 = false ∧ (.evClear 65535 : Instr).wf 3 = true := by decide +kernel
theorem test_wf_u32 : (.rtcWrite 0 (2 ^ 32) : Instr).wf 3 = false ∧ (.rtcWrite 0 (2 ^ 32 - 1) : Instr).wf 3 = true := by decide +kernel
theorem test_wf_u64 : (.journalAck 0 (2 ^ 64) : Instr).wf 3 = false ∧ (.journalAck 0 (2 ^ 64 - 1) : Instr).wf 3 = true := by decide +kernel
theorem test_wf_report : (.healthReport 1 (.fault 0 0) : Instr).wf 3 = false ∧ (.healthReport 1 .alive : Instr).wf 3 = true := by decide +kernel
theorem test_wf_gptp : (.gptpSyncStateChange (.grandmaster (2 ^ 64)) : Instr).wf 3 = false ∧ (.gptpSyncStateChange .lost : Instr).wf 3 = true := by decide +kernel
theorem test_wf_fd_length : (.canFrameReceive 0 { fmt := .fd, data := List.replicate 9 0 } : Instr).wf 3 = false ∧ (.canFrameReceive 0 { fmt := .fd, data := List.replicate 12 0 } : Instr).wf 3 = true := by decide +kernel
theorem test_wf_can_frame : (.canFrameReceive 0 { fmt := .cc, id := 2048 } : Instr).wf 3 = false ∧ (.canFrameReceive 0 { fmt := .cc, id := 2047 } : Instr).wf 3 = true := by decide +kernel
theorem test_wf_lin_id : (.linHeader 8 64 true true : Instr).wf 3 = false ∧ (.linHeader 8 63 false false : Instr).wf 3 = true := by decide +kernel
theorem test_wf_lin_data : (.linResponseReceive 8 0 [] (.sum 0) : Instr).wf 3 = false ∧ (.linResponseReceive 8 0 [1] (.sum 0) : Instr).wf 3 = true := by decide +kernel
theorem test_wf_speed : (.sgmiiControlWord 16 true true 3 : Instr).wf 3 = false ∧ (.sgmiiControlWord 16 true true 2 : Instr).wf 3 = true := by decide +kernel
theorem test_wf_pattern : (.wakePatternReport 0 4 : Instr).wf 3 = false ∧ (.wakePatternReport 0 3 : Instr).wf 3 = true := by decide +kernel
theorem test_wf_group : (.atomicCreditReturn 65536 0 1 : Instr).wf 3 = false ∧ (.atomicCreditReturn 65535 0 1 : Instr).wf 3 = true := by decide +kernel
theorem test_wf_engine : (.tunnelEngineTake 1 8 : Instr).wf 3 = false ∧ (.tunnelEngineTake 1 7 : Instr).wf 3 = true := by decide +kernel
theorem test_wf_tunnel_row : (.resyncTimeout 1024 : Instr).wf 3 = false ∧ (.resyncTimeout 1023 : Instr).wf 3 = true := by decide +kernel
theorem test_wf_tap : (.tapIntervalEnd 1 256 : Instr).wf 3 = false ∧ (.tapIntervalEnd 1 255 : Instr).wf 3 = true := by decide +kernel
theorem test_wf_rule : (.ruleTimerExpiry 64 : Instr).wf 3 = false ∧ (.ruleTimerExpiry 63 : Instr).wf 3 = true := by decide +kernel
theorem test_wf_table : (.tableHalfRewrite 1 36 : Instr).wf 3 = false ∧ (.tableHalfRewrite 1 35 : Instr).wf 3 = true := by decide +kernel
theorem test_wf_mi : (.miGateEnd 16 : Instr).wf 3 = false ∧ (.miGateEnd 15 : Instr).wf 3 = true := by decide +kernel
theorem test_wf_spd : (.spdDecelerationUpdate 4 : Instr).wf 3 = false ∧ (.spdDecelerationUpdate 3 : Instr).wf 3 = true := by decide +kernel
theorem test_wf_wk : (.wkEdge 8 true : Instr).wf 3 = false ∧ (.wkEdge 7 true : Instr).wf 3 = true := by decide +kernel
theorem test_wf_loop : (.tamperSample 2 true : Instr).wf 3 = false ∧ (.tamperSample 1 true : Instr).wf 3 = true := by decide +kernel
theorem test_wf_ev_read : (.evRead 0 : Instr).wf 3 = false ∧ (.evRead 16384 : Instr).wf 3 = true := by decide +kernel
theorem test_wf_ev_fetch : (.evReadFetch 1380 : Instr).wf 3 = false ∧ (.evReadFetch 1379 : Instr).wf 3 = true := by decide +kernel
theorem test_wf_domain : (.provisionBlob 0 (List.replicate 1025 0) : Instr).wf 3 = false ∧ (.provisionBlob 0 (List.replicate 1024 0) : Instr).wf 3 = true := by decide +kernel
theorem test_wf_source : (.interruptSourceFire 1 256 0 : Instr).wf 3 = false ∧ (.interruptSourceFire 1 255 0 : Instr).wf 3 = true := by decide +kernel
theorem test_wf_target : (.interruptSourceFire 1 0 2 : Instr).wf 3 = false ∧ (.interruptSourceFire 1 0 1 : Instr).wf 3 = true := by decide +kernel
theorem test_wf_pend_word : (.intcSetpend 1 8 0 : Instr).wf 3 = false ∧ (.intcSetpend 1 7 0 : Instr).wf 3 = true := by decide +kernel
theorem test_wf_timer : (.timerExpiry 1 16 : Instr).wf 3 = false ∧ (.timerExpiry 1 15 : Instr).wf 3 = true := by decide +kernel
theorem test_wf_pin : (.pinClaim 1 8 1 : Instr).wf 3 = false ∧ (.pinClaim 1 7 1 : Instr).wf 3 = true := by decide +kernel
theorem test_wf_qp : (.qpEnable 1 16 : Instr).wf 3 = false ∧ (.qpEnable 1 15 : Instr).wf 3 = true := by decide +kernel
theorem test_wf_sem : (.semaphoreFailureRelease 1 32 : Instr).wf 3 = false ∧ (.semaphoreFailureRelease 1 31 : Instr).wf 3 = true := by decide +kernel
theorem test_wf_pair : (.pinClaim 1 0 4 : Instr).wf 3 = false ∧ (.pinClaim 1 0 3 : Instr).wf 3 = true := by decide +kernel
theorem test_wf_core : (.bridgeSemRead 1 0 64 : Instr).wf 3 = false ∧ (.bridgeSemRead 1 0 63 : Instr).wf 3 = true := by decide +kernel
theorem test_wf_local_core : (.lowWordRead 1 0 16 : Instr).wf 3 = false ∧ (.lowWordRead 1 0 15 : Instr).wf 3 = true := by decide +kernel
theorem test_wf_window : (.bridgeWindowRead 1 8 0 .through : Instr).wf 3 = false ∧ (.bridgeWindowRead 1 7 0xFFFFFC .through : Instr).wf 3 = true := by decide +kernel
theorem test_wf_word_addr : (.registerWrite 1 2 0 : Instr).wf 3 = false ∧ (.registerWrite 1 4 0 : Instr).wf 3 = true := by decide +kernel
theorem test_wf_sdo : (.sdoUploadInitiate 0 [0] : Instr).wf 3 = false ∧ (.sdoUploadInitiate 0 (List.replicate 8 0) : Instr).wf 3 = true := by decide +kernel
theorem test_wf_anise_row : (.pendingSessionLapse 0 : Instr).wf 3 = false ∧ (.pendingSessionLapse 4 : Instr).wf 3 = true := by decide +kernel
theorem test_wf_access_point : (.lockoutEnd 3 : Instr).wf 3 = false ∧ (.lockoutEnd 2 : Instr).wf 3 = true := by decide +kernel
theorem test_wf_anise : (.aniseRead { env := { slot := 16, srcIp := 2 ^ 32 }, sid := 0, seq := 0, index := 0, sub := 0 } : Instr).wf 3 = false ∧ (.aniseRead { env := { slot := 16, srcIp := 1 }, sid := 0, seq := 0, index := 0, sub := 0 } : Instr).wf 3 = true := by decide +kernel

/-! The states of the tests. -/

def outS : Host.Outcome State Fault Refusal → State
  | .next t => t
  | _ => State.reset
def isN : Host.Outcome State Fault Refusal → Bool
  | .next _ => true
  | _ => false
/-- A switch die in service. -/
def up : Die := { image := true, inReset := false, supplied := true, runtimeUp := true }
/-- A device in RUN with two dies in service, a C4 session on the service channel and one of the Anise endpoint. -/
def W : State := { State.reset with power := { State.reset.power with mode := .run, resetN := true, inh := true, guardSupplied := true }, dies := [(1, up), (2, up)],
                                    sessions := [(0, { valid := true, level := 4 }), (1, { valid := true, level := 4, sid := 7 })] }
/-- An evidence request of a die. -/
def R0 : EvReq := ⟨0x06, 3, 1, 5, 6, false, false, true, 1, [1, 2, 3, 4]⟩
/-- The device with the Evidence port on and two words of a record in its FIFO. -/
def V : State := { W.setCfg E.evidencePortEnable 1 with ev := { W.ev with running := true, activeTree := true, chainOpen := true, lastSeq := 9, fifo := [⟨1#32, 0⟩, ⟨2#32, 9⟩], nextSeal := 1, journal := [(9, ⟨9, [1, 2, 3, 4], false, true, false⟩)], store := [(1, [1, 2, 3, 4])], fetchBuf := [5#32, 6#32], fetchReady := true, fetchSeq := 9 } }
/-- A copy of a classic CAN frame. -/
def C0 : Copy := { frame := { fmt := .cc, id := 0x123, data := [1, 2] }, ingress := 0, cls := 0, dests := [1] }
/-- A CAN port on its bus in mode NORMAL. -/
def K : State := (W.setPortState 3 2).slotCfg E.portCanMode 3 1
/-- One copy in transmission at the CAN port. -/
def KT : State := { K with queues := [(queueRow 1 3 0, [{ C0 with sending := true }])] }
/-- One cell of a copy on its way from die 2 to die 1, from its transit buffer (`o`) or from die 2's own queue. -/
def FC (o : Option Copy) (c : Copy) : State :=
  { (K.slotCfg E.portCanMode 3 0).setCfg E.bufferDefaultGuarantee 4 with links := [(linkKey 2 1, { inFlight := [(3, o, 0)] })], queues := if o.isSome then [] else [(queueRow 2 25 3, [{ c with sending := true }])] }
/-- A copy for CAN port 3 of die 1, and one for die 4 that crosses die 1. -/
def CX : Copy := { C0 with target := 1, srcDie := 2, cls := 3, dests := [3] }
def CY : Copy := { C0 with target := 4, srcDie := 2, cls := 3, dests := [99], path := 0x02114200 }
/-- CAN port 3 with the service channel on it. -/
def SVC : State := (((K.setCfg E.accessSdoEnable 1).setCfg E.accessSdoPortSlot 3).setCfg E.accessSdoNodeId 5).slotCfg E.portSecIdGuardMode 3 0
/-- Two management operations of one die. -/
def M1 : MdioOp := ⟨16, 1, 2, 3, 4, 5, 1, some (.odResponse 1 0 [])⟩
def M2 : MdioOp := ⟨17, 2, 2, 3, 4, 5, 1, some (.sdo 3 C0.frame)⟩
/-- A LIN port on its bus. -/
def LN (role : Nat) : State := (W.setPortState 8 2).slotCfg E.portLinRole 8 role
/-- An Ethernet port on its link. -/
def EN : State := { W.setPortState 16 2 with ports := [(16, { linkUp := true })] }
/-- A copy at an Ethernet port. -/
def CE : Copy := { frame := { fmt := .eth, data := List.replicate 60 7 }, ingress := 1, cls := 0, dests := [16] }
/-- A PENDING rule whose operand A is a multifunction input at level `v` V and whose operand B is a constant 0. -/
def RV (v : Nat) : State :=
  { ((((W.setCfgRow E.ruleValid 0 1).setCfgRow E.ruleA 0 0x2000).setCfgRow E.ruleB 0 0x7000).setCfg E.miMode 2).setSlot E.miValue 0 (encodeF32 (Exact.ofNat v)) with measure := { W.measure with mi := [(0, { has := true, level := v != 0 })], rules := [(0, { state := 3, timer := true })] } }
/-- The service channel on CAN slot 3 and the Anise endpoint on die 2. -/
def Z : State := (((W.setCfg E.accessSdoEnable 1).setCfg E.accessSdoPortSlot 3).setCfg E.accessAniseEnable 1).setCfg E.accessAniseHostDie 2
def dObj : OdObject := ⟨0, .one, 0, false, []⟩
def dEnt : OdEntry := ⟨0, 0, .u8, .ro, 9, 9, .any, false, false, 0⟩
/-- `Z` with Saffron running. -/
def ZV : State := { Z with ev := V.ev }
/-- A device in FIELD whose update gates are open. -/
def U : State := { ((Z.setCfg E.updateUnknownMotion 1).set E.vbatSystem 1).set E.vbatVoltage 0x41500000 with life := { Z.life with state := 2 }, fuses := { Z.fuses with copy1 := 3, copy2 := 3, copy3 := 3 } }
/-- A delta for a part with no base: its target version, length and operations. -/
def mkDelta (part target len : Nat) (ops : Bytes) : Bytes :=
  let h := toLE 4 0x444E5656 ++ toLE 2 1 ++ toLE 1 part ++ List.replicate 5 0 ++ toLE 4 target ++ List.replicate 32 0 ++ toLE 4 len ++ toLE 4 ops.length
  h ++ toLE 4 (crc32 (h ++ ops)) ++ List.replicate 4 0 ++ ops
/-- The delta that builds eight bytes of 7 for the application part. -/
def D8 : Bytes := mkDelta 2 1 8 ([4] ++ [7] ++ toLE 4 8 ++ [0])
/-- An update of the application part in a state. -/
def UU (st : Nat) : State := { U with update := { U.update with state := st, part := 2, delta := D8, images := [(4, [1])] } }
/-- A trial of the runtime part. -/
def UT : State := { U with update := { U.update with state := 5, part := 1, trial := some 1, window := true, images := [(3, List.replicate 8 0 ++ [9, 0, 0, 0] ++ List.replicate 60 0)] } }
/-- A session whose key command fields are set. -/
def KC (l : NMap Nat) : State := { U with sessions := [(0, { valid := true, level := 4 }), (1, { valid := true, level := 4, sid := 7, live := l })] }
/-- A record with its material sealed for a slot. -/
def sealRec (slot : Nat) (r : KeyRecord) (key : Bytes) : KeyRecord := let r1 : KeyRecord := { r with boxed := gcmSeal (toLE 32 Config.duk.toNat) r.iv (r.header slot) (pad 32 key) }; { r1 with crc := r1.check slot }
/-- A family record of the FIELD root in slot 4, and an attestation record under it in slot 6. -/
def KF : KeyRecord := sealRec 4 ⟨0, 2, 3, 0, 0, 16, 16, 0, 32, 0, 0, 0, 0, [], [], 0, true⟩ (List.replicate 32 9)
def ATT : KeyRecord := sealRec 6 ⟨1, 2, 4, 0, 0, 32, 8, 0, 32, 0, 1, 0, 0, [], [], 0, true⟩ (List.replicate 32 9)
/-- A provisioning blob with ciphertext zero. -/
def BLOB : Bytes :=
  let h := toLE 4 0x41565250 ++ toLE 2 1 ++ toLE 2 0 ++ serialBytes
  h ++ List.replicate 12 1 ++ List.replicate 96 0 ++ toBE 16 (Config.gcmTag Z.fuses.provisionKey (List.replicate 12 1) h (List.replicate 96 0)).toNat
/-- A leaf command of slot 5 under slot 4, and its import blob with ciphertext zero. -/
def LC (blob : Nat) : State :=
  { KC [(E.keycmdSlot, 5), (E.keycmdKind, 1), (E.keycmdParent, 4), (E.keycmdUsage, 3), (E.keycmdBlocks, 1), (E.keycmdDies, 2), (E.keycmdLength, 32), (E.keycmdBlob, blob)] with keys := { U.keys with records := [(4, KF)] } }
def IBLOB : Nat :=
  let s := LC 0
  let kek := Config.kdf (s.keyBytes 4) (ascii "AZ8100-IMPORT") (toLE 4 0 ++ toLE 1 5 ++ serialBytes) 32
  let iv : Bytes := List.replicate 12 1
  let ct : Bytes := List.replicate 32 0
  let r := { (s.keyCmd 1).record 2 0 1 with kcv := keyCheck (gcmCtr kek iv ct) }
  leNat (iv ++ ct ++ toBE 16 (Config.gcmTag kek iv (r.header 5) ct).toNat)
/-- An application image without a body, and the delta that carries it whole. -/
def IMG : Bytes := toLE 4 0x474D495A ++ toLE 2 1 ++ toLE 1 2 ++ toLE 1 1 ++ toLE 4 1 ++ List.replicate 56 0 ++ [7] ++ List.replicate 11 0
def DI : Bytes := mkDelta 2 1 80 ([3] ++ toLE 4 80 ++ IMG ++ [0])
/-- A pending opening of the service channel at level 2, and its proof. -/
def ZO : State := { Z with sessions := [(0, { valid := true, level := 4, pending := true, reqLevel := 2 })], keys := { Z.keys with records := [(4, KF)] }, life := { Z.life with state := 2 } }
def PROOF : Bytes := ((ZO.accessKey 2).map (fun k => ZO.accessProof k 1 2 0 0 0)).getD []
/-- The service channel's port on its bus. -/
def S3 : State := Z.setPortState 3 2
/-- The Anise endpoint with an open session of key `[1]`. -/
def A7 : State := { Z with sessions := [(0, { valid := true, level := 4 }), (1, { valid := true, level := 4, sid := 7, sMax := 5, window := 1, ks := [1] })] }
/-- A request whose tag is right for an opcode. -/
def AM (op seq index sub offset : Nat) (data : Bytes) : AniseMsg :=
  let m : AniseMsg := { env := { slot := 48, srcIp := 1 }, sid := 7, seq := seq, index := index, sub := sub, offset := offset, length := data.length, data := data, tag := List.replicate 16 0 }
  { m with tag := aniseTag [1] (m.bytes op) }
/-- An opening under way, and its authentication. -/
def AP : State := { Z with sessions := [(1, { pending := true, sid := 7, reqLevel := 2 })], life := { Z.life with state := 2 } }
def AKS : Bytes := sessionKey ((AP.accessKey 2).getD []) 7 0 0
def AA (proof : Bytes) : AniseMsg :=
  let m : AniseMsg := { env := { slot := 48, srcIp := 1 }, sid := 7, seq := 1, index := 0, sub := 0, length := 32, data := proof, tag := List.replicate 16 0 }
  { m with tag := aniseTag AKS (m.bytes 4) }
/-- A tag that is wrong for a request. -/
def BT (op : Nat) : Bytes := ((aniseTag [1] ((AM op 6 0 0 0 []).bytes op)).headD 0 + 1) :: (aniseTag [1] ((AM op 6 0 0 0 []).bytes op)).drop 1
/-- Die 1 with its application pair as given. -/
def AD (a : App) : State := { W with apps := [(1, a)] }
/-- Die 1 with its application target as given. -/
def IT (x : IntcTarget) : State := { W with intc := [(3, x)] }
/-- A queue pair with rings of 2,560 words at 0 and 0x4000. -/
def Q0 : Qp := { rxBase := 0, rxSize := 2560, txBase := 0x4000, txSize := 2560 }
/-- Die 1 with queue pair 3. -/
def QS (q : Qp) : State := AD { running := true, qps := [(3, q)] }
/-- A copy at die 1's application queue point. -/
def CQ : Copy := { C0 with cls := 3, dests := [0x101] }
/-- Die 1 with core 1's bridge state. -/
def BC (c : BridgeCore) : State := { W with apps := [(1, { bridge := { cores := [(1, c)] } })] }
def X0 (w : Way) : Transfer := ⟨2, 0x100, 0, 0, w⟩
def isEv : Out → Bool
  | .evStatus _ _ => true
  | _ => false
theorem bump_ne (l : Bytes) : l ≠ (l.headD 0 + 1) :: l.drop 1 := by
  cases l with
  | nil => simp
  | cons x xs =>
    intro h
    have h1 : x = x + 1 := (List.cons.inj h).1
    revert h1
    exact (by decide +kernel : ∀ y : Byte, y ≠ y + 1) x

/-! The manual's worked values, and single steps. -/

/-- Table 6-3: CAN FD 0x123, extended 0x0D2C_4A11, CAN XL 0x3A5 with SDT 0x03 and VCID 0x11, LIN 0x2C. -/
theorem test_route_keys : frameKey { fmt := .fd, id := 0x123 } = (0, 0x24600000) ∧ frameKey { fmt := .fd, id := 0x0D2C4A11, ext := true } = (1, 0x69625088) ∧
    frameKey { fmt := .xl, id := 0x3A5, sdt := 3, vcid := 0x11 } = (2, 0x74A06220) ∧ frameKey { fmt := .lin, id := 0x2C } = (3, 0xB0000000) := by decide +kernel
/-- R9's example: 9,000 bytes occupy 36 cells, 64 bytes one. -/
theorem test_cells : cellsOf 9000 = 36 ∧ cellsOf 64 = 1 := by decide +kernel
/-- R306's example: bytes 0x28 and 0x23 read at offset 8 give 9,000, and with a scale of 0.01 the value 90.00. -/
theorem test_tap_value : tapField [0, 0x28, 0x23] 8 16 0 = some 9000 ∧ tapValue 9000 0x3C23D70A 0 = 0x42B40000 := by decide +kernel
/-- R148's example: the CRC value 0xA3C1_0F2E falls in bin 327, bit 7 of byte 40. -/
theorem test_group_bin : bitsOf 0xA3C10F2E 31 23 = 327 ∧ bitAt (leNat (List.replicate 40 0 ++ [0x80])) 327 = true := by decide +kernel
/-- Power-on drives INH and VSEL (R393). -/
theorem test_power_on : (outS (exec .powerOn State.reset)).power.inh = true ∧ (outS (exec .powerOn State.reset)).power.mode = .starting := by decide +kernel
/-- An empty queue: one period of REFCLK_IN passes (log 1). -/
theorem test_idle_step : (outS (step W)).clock.ticks = W.clock.ticks + 1 := by decide +kernel
/-- INTC_CLAIM with no source answers 0x100 (R409). -/
theorem test_claim_none : (outS (exec (.intcClaim 1) W)).out = [.regRead 1 1 0x40001010 0x100] := by decide +kernel
/-- INTC_COMPLETE of a source that is not active sets CPL_REJ (R409). -/
theorem test_complete_inactive : ((outS (exec (.intcComplete 1 130) W)).intcTarget 1 1).cplRej = true := by decide +kernel
/-- INTC_DOORBELL of a source below 128 sets DB_REJ (R410). -/
theorem test_doorbell_low : ((outS (exec (.intcDoorbell 1 127) W)).intcTarget 1 1).dbRej = true := by decide +kernel
/-- The data bytes of a service channel response. -/
def sdoBytes : Out → Bytes
  | .sdo _ f => f.data
  | _ => []
/-- Pulling up an entry of an object that does not exist aborts with 0x0602_0000, a missing subindex with 0x0609_0011 (R85). -/
theorem test_sdo_no_object : (outS (exec (.sdoUploadInitiate 3 [0x40, 0x0C, 0x21, 1, 0, 0, 0, 0]) S3)).out.map sdoBytes = [[0x80, 0x0C, 0x21, 1, 0, 0, 2, 6]] := by decide +kernel
theorem test_sdo_no_sub : (outS (exec (.sdoUploadInitiate 3 [0x40, 0x03, 0x21, 0xFE, 0, 0, 0, 0]) S3)).out.map sdoBytes = [[0x80, 3, 0x21, 0xFE, 0x11, 0, 9, 6]] := by decide +kernel
/-- The status of the enabled port reads 2 (R130). -/
theorem test_sdo_state : (outS (exec (.sdoUploadInitiate 3 [0x40, 0x03, 0x21, 1, 0, 0, 0, 0]) S3)).out.map sdoBytes = [[0x4F, 3, 0x21, 1, 2, 0, 0, 0]] := by decide +kernel
/-- A write of the RTC sets it valid (R100). -/
theorem test_rtc_write : (outS (exec (.rtcWrite 0 77) W)).clock.rtcBase = 77 ∧ (outS (exec (.rtcWrite 0 77) W)).clock.rtcValid = true := by decide +kernel
/-- A read of a free semaphore answers 0 (R425). -/
theorem test_semaphore_free : (outS (exec (.bridgeSemRead 1 0 18) W)).out.length = 1 ∧ ((outS (exec (.bridgeSemRead 1 0 18) W)).out.map (fun | .regRead _ _ _ v => v | _ => 9)) = [0] := by decide +kernel
/-- Witnesses of the statements over every command. -/
theorem met_StepRunsFrontCommand_queue : ∃ (c : Instr) (cs : List Instr) (s : State), s.pending = c :: cs := ⟨.powerOn, [.rtcAlarm], { W with pending := [.powerOn, .rtcAlarm] }, by decide +kernel⟩
theorem met_WellFormedCommandsComplete : ∃ (c : Instr) (s : State), c.wf s.variant.nc = true := ⟨.intcClaim 2, W, by decide +kernel⟩
theorem met_PinsFollowEveryStep : ∃ s t : State, s.pinsFollow ∧ step s = .next t :=
  ⟨State.reset, outS (step State.reset), by unfold State.pinsFollow; decide +kernel, rfl⟩
theorem met_StepKeepsPartAndQueue : ∃ s t : State, step s = .next t := ⟨{ W with pending := [.intcClaim 1] }, outS (step { W with pending := [.intcClaim 1] }), rfl⟩

/-! The staging image that action 4 does not fit into (R88, Table 3-10). -/
/-- A staging image too full for action 4. -/
def FullStaging : State := { Z with lockHolder := some 1, od := { Z.od with staging := List.replicate 18800 (okey E.powerIdleTime noRow, 1) } }

theorem full_level (n m c : Nat) (x : Nat × Nat) (f : Nat × Nat → Nat) (hx : f x ≤ c) (hm : m ≤ c) : (List.replicate n x).foldl (fun a y => max a (f y)) m ≤ c := by
  induction n generalizing m with
  | zero => exact hm
  | succ n ih => exact ih _ (Nat.max_le.2 ⟨hm, hx⟩)

theorem full_sum (n c : Nat) : (List.replicate n c).sum = n * c := by
  induction n with
  | zero => simp
  | succ n ih => rw [List.replicate_succ, List.sum_cons, ih, Nat.succ_mul, Nat.add_comm]

theorem met_CommitSequence_full : FullStaging.takes 1 E.commitAction [4] = true ∧ FullStaging.committing = false ∧ (FullStaging.lockHolder = none ∨ FullStaging.lockHolder = some 1) ∧ FullStaging.stagedLevel ≤ FullStaging.sessLevel 1 ∧
    stagingRoom < ({ FullStaging with od := { FullStaging.od with staging := FullStaging.defaultsStaged } } : State).stagedBytes := by
  refine ⟨by decide +kernel, by decide +kernel, Or.inr rfl, ?_, ?_⟩
  · have h : FullStaging.sessLevel 1 = 4 := by decide +kernel
    rw [h]
    exact full_level 18800 0 4 _ _ (by decide +kernel) (by decide)
  · have h : ∀ l : NMap Nat, ∃ a b c, FullStaging.defaultsDue.foldl (fun m k => mput m k (FullStaging.effDefault k)) ((okey E.powerIdleTime noRow, 1) :: l) = a :: b :: c :: (okey E.powerIdleTime noRow, 1) :: l := by
      have hd : FullStaging.defaultsDue = [okey 1114115 noRow, okey 1118209 noRow, okey 1118212 noRow] := by decide +kernel
      intro l
      rw [hd]
      exact ⟨_, _, _, rfl⟩
    obtain ⟨a, b, c, e⟩ := h (List.replicate 18799 (okey E.powerIdleTime noRow, 1))
    have e2 : FullStaging.defaultsStaged = a :: b :: c :: List.replicate 18800 (okey E.powerIdleTime noRow, 1) := e
    have e3 : stagedSize FullStaging.variant (okey E.powerIdleTime noRow) = 14 := by decide +kernel
    simp only [State.stagedBytes, e2, List.map_cons, List.map_replicate, List.sum_cons, full_sum]
    change 262144 < stagedSize FullStaging.variant a.1 + (stagedSize FullStaging.variant b.1 + (stagedSize FullStaging.variant c.1 + 18800 * stagedSize FullStaging.variant (okey E.powerIdleTime noRow)))
    rw [e3]
    omega

/-! Units that the part does not have, at the first number beyond its own (log 6). -/
theorem met_WellFormedCommandsComplete_die : ∃ s : State, ∃ n : Nat, s.variant.hasDie n = false ∧ s.variant.hasDie (n - 1) = true := ⟨W, 8, by decide +kernel⟩
theorem met_WellFormedCommandsComplete_slot : ∃ s : State, ∃ k : Nat, s.variant.hasSlot k = false ∧ s.variant.hasSlot (k - 1) = true := ⟨W, 12, by decide +kernel⟩
theorem met_WellFormedCommandsComplete_sess : ∃ s : State, ∃ x : Nat, s.hasSess x = false ∧ s.hasSess (x - 1) = true := ⟨W, 12, by decide +kernel⟩
theorem met_WellFormedCommandsComplete_wf : ∃ (c : Instr) (s : State), c.wf s.variant.nc = true := ⟨.vcoreLow 7, W, by decide +kernel⟩

/-! States and operands that meet the hypotheses of the statements. -/

theorem met_StepRunsFrontCommand_1 : ∃ c : Instr, ∃ cs : List Instr, ∃ s : State, s.pending = c :: cs :=
  ⟨.powerOn, [.rtcAlarm], { W with pending := [.powerOn, .rtcAlarm] }, by decide +kernel⟩
theorem met_StepRunsFrontCommand_2 : ∃ s : State, s.pending = [] :=
  ⟨W, by decide +kernel⟩
theorem met_EvidencePortStream_1 : ∃ s : State, s.inRun = true ∧ s.evPortOn = true :=
  ⟨V, by decide +kernel⟩
theorem met_EvidencePortStream_2 : ∃ s : State, s.inRun = true ∧ s.evPortOn = true :=
  ⟨{ V with ev := { V.ev with readPos := 1 } }, by decide +kernel⟩
theorem met_EvidencePortStream_3 : ∃ s : State, s.inRun = true ∧ s.evPortOn = true :=
  ⟨{ V with ev := { V.ev with ovr := true, cmdErr := true } }, by decide +kernel⟩
theorem met_EvidencePortStream_4 : ∃ s : State, ∃ w, s.inRun = true ∧ s.evPortOn = true ∧ ((evWordKnown w = false ∨ bitsOf w.toNat 31 24 = 1)) :=
  ⟨V, 0xABCDEF01#32, by decide +kernel⟩
theorem met_EvidencePortItems_1 : ∃ s : State, s.inRun = true ∧ s.evPortOn = true :=
  ⟨{ V with ev := { V.ev with readPos := 2 } }, by decide +kernel⟩
theorem met_EvidencePortItems_2 : ∃ s : State, ∃ n, ∃ b, s.inRun = true ∧ s.evPortOn = true ∧ s.ev.fetch = .loadingSeal n ∧ s.ev.store.find? (fun x => x.1 == n) = some (n, b) ∧ n ∉ s.ev.badSeals :=
  ⟨{ V with ev := { V.ev with fetch := .loadingSeal 1 } }, 1, [1, 2, 3, 4], by decide +kernel⟩
theorem met_EvidencePortItems_3 : ∃ s : State, ∃ n, ∃ j : JEntry, s.inRun = true ∧ s.evPortOn = true ∧ s.ev.fetch = .loadingRecord n ∧ s.ev.entry n = some j ∧ j.intact = true :=
  ⟨{ V with ev := { V.ev with fetch := .loadingRecord 9 } }, 9, (⟨9, [1, 2, 3, 4], false, true, false⟩ : JEntry), by decide +kernel⟩
theorem met_EvidencePortItems_4 : ∃ s : State, ∃ n, s.inRun = true ∧ s.evPortOn = true ∧ s.ev.fetch = .loadingRecord n ∧ s.ev.entry n = none :=
  ⟨{ V with ev := { V.ev with fetch := .loadingRecord 8 } }, 8, by decide +kernel⟩
theorem met_EvidencePortItems_5 : ∃ s : State, s.inRun = true ∧ s.evPortOn = true ∧ s.ev.running = true ∧ s.ev.activeTree = true ∧ s.ev.spacing = false ∧ s.ev.job = none ∧ s.ev.due = [] ∧ s.ev.nextSeal < sealNumbers :=
  ⟨V, by decide +kernel⟩
theorem met_EvidencePortItems_6 : ∃ s : State, ∃ n, s.inRun = true ∧ s.evPortOn = true ∧ s.ev.fetch = .loadingSeal n ∧ ((s.ev.store.find? (fun x => x.1 == n) = none ∨ n ∈ s.ev.badSeals)) :=
  ⟨{ V with ev := { V.ev with fetch := .loadingSeal 1, badSeals := [1] } }, 1, by decide +kernel⟩
theorem met_EvidencePortItems_7 : ∃ s : State, ∃ n, s.inRun = true ∧ s.evPortOn = true ∧ s.ev.fetch = .loadingSeal n ∧ ((s.ev.store.find? (fun x => x.1 == n) = none ∨ n ∈ s.ev.badSeals)) :=
  ⟨{ V with ev := { V.ev with fetch := .loadingSeal 7 } }, 7, by decide +kernel⟩
theorem met_EvidencePortOffIgnores_1 : ∃ c : Instr, ∃ s : State, c.evidencePort = true ∧ s.evPortOn = false :=
  ⟨(Instr.evMark), W.setCfg E.evidencePortEnable 0, by decide +kernel⟩
theorem met_RecordsExtendChain_1 : ∃ s : State, ∃ r, ∃ rest, s.ev.running = true ∧ ((∀ j, mfind s.ev.journal ((s.ev.lastSeq + 1) % 4096) = some j → j.delivered = true)) ∧ s.ev.queue = r :: rest ∧ s.ev.lossCount = 0 :=
  ⟨{ V with ev := { V.ev with queue := [R0] } }, R0, ([] : List EvReq), by decide +kernel⟩
theorem met_RecordsExtendChain_2 : ∃ s : State, s.ev.running = true ∧ ((∀ j, mfind s.ev.journal ((s.ev.lastSeq + 1) % 4096) = some j → j.delivered = true)) ∧ 0 < s.ev.lossCount :=
  ⟨{ V with ev := { V.ev with lossCount := 2 } }, by decide +kernel⟩
theorem met_SealsFollowTriggers_1 : ∃ s : State, s.ev.running = true ∧ s.ev.period = true ∧ s.ev.due = [] ∧ s.ev.job = none ∧ s.ev.activeTree = true ∧ s.ev.nextSeal < sealNumbers ∧ s.ev.spacing = false :=
  ⟨{ V with ev := { V.ev with period := true } }, by decide +kernel⟩
theorem met_SealsFollowTriggers_2 : ∃ s : State, s.ev.running = true ∧ s.ev.period = true ∧ s.ev.spacing = true ∧ s.ev.due.all (· < 3) = true :=
  ⟨{ V with ev := { V.ev with period := true, spacing := true } }, by decide +kernel⟩
theorem met_SealsFollowTriggers_3 : ∃ s : State, s.ev.running = true ∧ s.ev.spacing = true ∧ s.ev.due = [] :=
  ⟨{ V with ev := { V.ev with spacing := true } }, by decide +kernel⟩
theorem met_SealsFollowTriggers_4 : ∃ s : State, ∃ k, s.ev.running = true ∧ s.ev.spacing = true ∧ s.ev.due = [k] ∧ s.ev.job = none ∧ s.ev.activeTree = true ∧ s.ev.nextSeal < sealNumbers :=
  ⟨{ V with ev := { V.ev with spacing := true, due := [2] } }, 2, by decide +kernel⟩
theorem met_SealsFollowTriggers_5 : ∃ s : State, s.ev.running = true ∧ s.ev.startTree = false ∧ s.ev.activeTree = true :=
  ⟨V, by decide +kernel⟩
theorem met_SealsFollowTriggers_6 : ∃ s : State, s.ev.running = true ∧ s.ev.startTree = true ∧ s.ev.due = [] :=
  ⟨{ V with ev := { V.ev with startTree := true, activeTree := false } }, by decide +kernel⟩
theorem met_SealsFollowTriggers_7 : ∃ s : State, ∃ j : SealJob, s.ev.running = true ∧ s.ev.job = some j ∧ s.ev.activeTree = true ∧ j.trigger < 3 ∧ s.ev.due = [] ∧ s.ev.store.length ≤ 4 :=
  ⟨{ V with ev := { V.ev with job := some ⟨false, false, 0, 0, 9, 1, 5, 6, 0, 7#256, false⟩ } }, (⟨false, false, 0, 0, 9, 1, 5, 6, 0, 7#256, false⟩ : SealJob), by decide +kernel⟩
theorem met_RequestsReachTheQueue_1 : ∃ s : State, ∃ n, ∃ r, ∃ rest, s.variant.hasDie n = true ∧ ((s.die n).lane2 = .ev r :: rest) ∧ s.linkTo n = true ∧ s.ev.running = true ∧ s.ev.queue.length < 256 :=
  ⟨{ V with dies := [(1, { up with lane2 := [.ev R0] }), (2, up)] }, 1, R0, ([] : List Lane2), by decide +kernel⟩
theorem met_RequestsReachTheQueue_2 : ∃ s : State, s.ev.coal.overflow = 0 ∧ s.ev.coal.entries.length + s.ev.queue.length ≤ 256 :=
  ⟨{ V with ev := { V.ev with coal := { entries := [R0] } } }, by decide +kernel⟩
theorem met_RequestsReachTheQueue_3 : ∃ s : State, ∃ n, n ≠ 0 ∧ s.variant.hasDie n = true ∧ ((s.die n).coal.overflow = 0) ∧ ((s.die n).coal.entries.length + (s.die n).lane2.length ≤ Config.laneCapacity) :=
  ⟨{ V with dies := [(1, { up with coal := { entries := [] } }), (2, up)] }, 1, by decide +kernel⟩
theorem met_RequestsReachTheQueue_4 : ∃ s : State, ∃ k, ((s.limiter k).running = true) ∧ ((s.limiter k).first = none) :=
  ⟨{ V with limiters := [(5, { running := true })] }, 5, by decide +kernel⟩
theorem met_RequestsReachTheQueue_5 : ∃ s : State, ∃ k, ∃ r, ((s.limiter k).running = true) ∧ ((s.limiter k).first = some r) ∧ r.type ≠ 0x08 ∧ ((s.die (s.limiterDie k)).coal.idle = true) ∧ s.laneRoom (s.limiterDie k) = true :=
  ⟨{ V with limiters := [(5, { running := true, outstanding := 3, first := some R0 })] }, 5, R0, by decide +kernel⟩
theorem met_ColdStartBegins_1 : ∃ s : State, s.power.mode = .off ∧ s.island.held.length < islandSize :=
  ⟨State.reset, by decide +kernel⟩
theorem met_ColdStartBegins_2 : ∃ s : State, s.power.resetN = false ∧ s.power.mode ≠ .off ∧ s.island.held.length < islandSize :=
  ⟨{ W with power := { W.power with resetN := false } }, by decide +kernel⟩
theorem met_ColdStartBegins_3 : ∃ s : State, s.power.resetN = true ∧ s.power.mode ≠ .off ∧ s.commit.phase ≠ .storing ∧ s.ev.queue = [] ∧ s.life.change = none ∧ s.provisioning = false :=
  ⟨W, by decide +kernel⟩
theorem met_ColdStartBegins_4 : ∃ s : State, ∃ c : LifeChange, s.power.resetN = true ∧ s.power.mode ≠ .off ∧ s.commit.phase ≠ .storing ∧ s.ev.queue = [] ∧ s.provisioning = false ∧ s.life.change = some c :=
  ⟨{ W with life := { W.life with state := 1, change := some ⟨2, 0, 3⟩ } }, (⟨2, 0, 3⟩ : LifeChange), by decide +kernel⟩
theorem met_SuppliesGovernDies_1 : ∃ s : State, s.power.mode ≠ .off ∧ s.commit.phase ≠ .storing ∧ s.ev.queue = [] ∧ s.life.change = none ∧ s.provisioning = false :=
  ⟨W, by decide +kernel⟩
theorem met_SuppliesGovernDies_2 : ∃ s : State, s.power.mode ≠ .off :=
  ⟨W, by decide +kernel⟩
theorem met_SuppliesGovernDies_3 : ∃ s : State, s.power.inh = true ∧ s.power.mode = .starting ∧ s.power.guardSupplied = false ∧ s.power.resetN = true :=
  ⟨{ W with power := { W.power with mode := .starting, guardSupplied := false } }, by decide +kernel⟩
theorem met_SuppliesGovernDies_4 : ∃ s : State, ∃ n, s.variant.hasDie n = true ∧ s.power.inh = true ∧ s.power.mode ≠ .standby :=
  ⟨W, 3, by decide +kernel⟩
theorem met_SuppliesGovernDies_5 : ∃ s : State, ∃ n, s.variant.hasDie n = true ∧ s.power.mode = .starting ∧ s.power.resetN = true ∧ ((s.die n).supplied = false) ∧ s.lostDie n = false :=
  ⟨{ W with power := { W.power with mode := .starting } }, 3, by decide +kernel⟩
theorem met_SuppliesGovernDies_6 : ∃ s : State, ∃ n, s.variant.hasDie n = true ∧ s.inRun = true ∧ ((s.die n).supplied = true) ∧ s.lostDie n = false :=
  ⟨W, 1, by decide +kernel⟩
theorem met_StartReachesRun_1 : ∃ s : State, ∃ flash, s.power.mode = .starting ∧ s.power.resetN = true ∧ s.power.guardSupplied = true ∧ ((s.power.phase = .supplies ∨ s.power.phase = .firmware)) ∧ (((((s.readFlash flash).applyingCut).trialAtStart).loadPart 0).loadedImage 0 = []) :=
  ⟨{ W with power := { W.power with mode := .starting } }, ([[1, 2]] : List Bytes), by decide +kernel⟩
theorem met_StartReachesRun_2 : ∃ s : State, s.power.mode = .starting ∧ s.power.resetN = true ∧ s.power.phase = .images ∧ ((∀ n ∈ s.dieList, (s.die n).supplied = true ∨ s.lostDie n = true)) :=
  ⟨{ W with power := { W.power with mode := .starting, phase := .images }, dies := [(1, up), (2, up), (3, up), (4, up), (5, up), (6, up), (7, { state := 4 })] }, by decide +kernel⟩
theorem met_StartReachesRun_3 : ∃ s : State, s.power.mode = .starting ∧ s.power.resetN = true ∧ s.power.phase = .tables :=
  ⟨{ W with power := { W.power with mode := .starting, phase := .tables } }, by decide +kernel⟩
theorem met_PowerModesAreEntered_1 : ∃ s : State, s.inRun = true ∧ s.cfgOn E.powerAutoSleep = true ∧ s.requestStatus = 0 ∧ s.cfg E.powerIdleTime * 40000000 ≤ s.clock.ticks - s.power.idleFrom :=
  ⟨{ (W.setCfg E.powerAutoSleep 1).setCfg E.powerIdleTime 1 with clock := { W.clock with ticks := 50000000 } }, by decide +kernel⟩
theorem met_PowerModesAreEntered_2 : ∃ s : State, s.power.mode = .entering ∧ s.power.halted = false ∧ s.power.target < 3 ∧ ((∀ p ∈ s.slotList.filter s.portRuns, s.portState p = 0)) :=
  ⟨{ W with power := { W.power with mode := .entering, target := 1 } }, by decide +kernel⟩
theorem met_PowerModesAreEntered_3 : ∃ s : State, s.power.mode = .entering ∧ s.power.halted = true ∧ s.sealAwaited = true :=
  ⟨{ V with power := { W.power with mode := .entering, target := 1, halted := true }, ev := { V.ev with due := [3] } }, by decide +kernel⟩
theorem met_PowerModesAreEntered_4 : ∃ s : State, s.power.mode = .entering ∧ s.power.halted = true ∧ s.sealAwaited = false ∧ s.ev.queue = [] ∧ s.ev.coal = {} ∧ ((s.power.target = 1 ∨ s.power.target = 2)) ∧ s.power.target = 1 :=
  ⟨{ W with power := { W.power with mode := .entering, target := 1, halted := true } }, by decide +kernel⟩
theorem met_PowerModesAreEntered_5 : ∃ s : State, s.power.mode = .entering ∧ s.power.halted = true ∧ s.sealAwaited = false ∧ s.ev.queue = [] ∧ s.ev.coal = {} ∧ ((s.power.target = 1 ∨ s.power.target = 2)) ∧ s.power.target = 2 :=
  ⟨{ W with power := { W.power with mode := .entering, target := 2, halted := true } }, by decide +kernel⟩
theorem met_WakeEventsStartTheReturn_1 : ∃ s : State, ∃ k, s.power.mode = .standby ∧ s.variant.hasSlot k = true ∧ isCan k = true ∧ s.decoderMode k = 2 :=
  ⟨{ (W.setCfgRow E.pwrValid 3 1).setCfgRow E.swMode 3 2 with power := { W.power with mode := .standby } }, 3, by decide +kernel⟩
theorem met_WakeEventsStartTheReturn_2 : ∃ s : State, ∃ k, s.power.mode = .standby ∧ s.variant.hasSlot k = true ∧ isCan k = true ∧ s.decoderMode k = 1 :=
  ⟨{ (W.setCfgRow E.pwrValid 3 1).setCfgRow E.swMode 3 1 with power := { W.power with mode := .standby } }, 3, by decide +kernel⟩
theorem met_WakeEventsStartTheReturn_3 : ∃ s : State, ∃ k, ∃ f : Frame, s.power.mode = .standby ∧ s.variant.hasSlot k = true ∧ isCan k = true ∧ s.decoderMode k = 3 ∧ f.fmt = .cc ∧ s.wakeFrameFits k f = true :=
  ⟨{ ((((W.setCfgRow E.pwrValid 3 1).setCfgRow E.swMode 3 3).setCfgRow E.swDlc 3 2).setCfgRow E.swId 3 0x123) with power := { W.power with mode := .standby } }, 3, ({ fmt := .cc, id := 0x123, data := [1, 2] } : Frame), by decide +kernel⟩
theorem met_WakeEventsStartTheReturn_4 : ∃ s : State, ∃ i, ∃ r : Bool, s.power.mode = .standby ∧ i < 8 ∧ bitAt (s.cfg E.wkEdges) (2 * i + (if r then 0 else 1)) = true :=
  ⟨{ W.setCfg E.wkEdges 1 with power := { W.power with mode := .standby } }, 0, true, by decide +kernel⟩
theorem met_WakeEventsStartTheReturn_5 : ∃ s : State, s.power.mode = .standby ∧ s.clock.rtcValid = true ∧ s.cfg E.powerRtcAlarm ≠ 0 :=
  ⟨{ W.setCfg E.powerRtcAlarm 5 with power := { W.power with mode := .standby }, clock := { W.clock with rtcValid := true } }, by decide +kernel⟩
theorem met_WakeEventsStartTheReturn_6 : ∃ s : State, s.power.mode = .standby ∧ s.clock.rtcValid = true ∧ s.cfg E.powerRtcPeriod ≠ 0 :=
  ⟨{ W.setCfg E.powerRtcPeriod 5 with power := { W.power with mode := .standby }, clock := { W.clock with rtcValid := true } }, by decide +kernel⟩
theorem met_WakeEventsStartTheReturn_7 : ∃ s : State, ∃ k, s.power.mode = .listen ∧ s.variant.hasSlot k = true ∧ isLin k = true ∧ s.dieRuns (slotDie k) = true ∧ s.cfgRowOn E.pwrValid k = true ∧ s.cfgRowOn E.linWakeDetect k = true :=
  ⟨{ (W.setCfgRow E.pwrValid 8 1).setCfgRow E.linWakeDetect 8 1 with power := { W.power with mode := .listen } }, 8, by decide +kernel⟩
theorem met_WakeEventsStartTheReturn_8 : ∃ s : State, ∃ k, ∃ p, s.power.mode = .listen ∧ s.variant.hasSlot k = true ∧ ((k, p) ∈ (s.die (slotDie k)).wakeReports) :=
  ⟨{ W with power := { W.power with mode := .listen }, dies := [(1, { up with wakeReports := [(3, 0)] }), (2, up)] }, 3, 0, by decide +kernel⟩
theorem met_WakeEventsStartTheReturn_9 : ∃ s : State, ∃ k, ∃ b, s.power.mode = .standby ∧ k < 2 ∧ bitAt (s.cfg E.tamperEnable) k = true ∧ s.cfgOn E.tamperWake = true ∧ ((mget {} s.island.loops k).lastMatch = false) ∧ ((mget {} s.island.loops k).state = 0) ∧ b ≠ Config.tamperBit s.island.tamperSeed s.island.tamperIndex ∧ s.ev.running = false ∧ s.island.held.length < islandSize :=
  ⟨{ ((W.setCfg E.tamperEnable 1).setCfg E.tamperWake 1) with power := { W.power with mode := .standby }, island := { W.island with loops := [(0, { state := 0, lastMatch := false, lastB := true })] } }, 0, !Config.tamperBit W.island.tamperSeed W.island.tamperIndex, by (repeat' apply And.intro) <;> first | decide +kernel | simp⟩
theorem met_WakeEventsStartTheReturn_10 : ∃ s : State, ∃ i, s.power.mode = .listen ∧ i < 16 ∧ s.cfgMi E.miMode i = 2 ∧ ((s.mi i).debounce = true) ∧ ((s.mi i).has = true) ∧ bitAt (s.cfg E.powerMiWakeMask) i = true ∧ s.stSlot E.miValue i ≠ encodeF32 (Exact.ofNat (if (s.mi i).level then 1 else 0)) :=
  ⟨{ ((W.setCfg E.miMode 2).setCfg E.powerMiWakeMask 1) with power := { W.power with mode := .listen }, measure := { W.measure with mi := [(0, { has := true, level := true, debounce := true })] } }, 0, by decide +kernel⟩
theorem met_IslandSamplesLoops_1 : ∃ s : State, ∃ k, s.power.mode ≠ .off ∧ k < 2 ∧ bitAt (s.cfg E.tamperEnable) k = true ∧ mget {} s.island.loops k = {} :=
  ⟨W.setCfg E.tamperEnable 1, 0, by decide +kernel⟩
theorem met_IslandSamplesLoops_2 : ∃ s : State, ∃ k, ∃ b, s.power.mode ≠ .off ∧ s.power.mode = .run ∧ k < 2 ∧ bitAt (s.cfg E.tamperEnable) k = true ∧ ((mget {} s.island.loops k).lastMatch = false) ∧ ((mget {} s.island.loops k).state = 0) ∧ b ≠ Config.tamperBit s.island.tamperSeed s.island.tamperIndex ∧ s.ev.running = true ∧ s.ev.coal = {} ∧ s.ev.queue.length < 256 :=
  ⟨{ ((W.setCfg E.tamperEnable 1).setCfg E.tamperWake 1) with island := { W.island with loops := [(0, { state := 0, lastMatch := false, lastB := true })] }, ev := V.ev }, 0, !Config.tamperBit W.island.tamperSeed W.island.tamperIndex, by (repeat' apply And.intro) <;> first | decide +kernel | simp⟩
theorem met_IslandSamplesLoops_3 : ∃ s : State, ∃ k, s.power.mode ≠ .off ∧ s.power.mode = .run ∧ k < 2 ∧ bitAt (s.cfg E.tamperEnable) k = true ∧ ((mget {} s.island.loops k).lastMatch = true) ∧ ((mget {} s.island.loops k).state ≠ 0) :=
  ⟨{ ((W.setCfg E.tamperEnable 1).setCfg E.tamperWake 1) with island := { W.island with loops := [(0, { state := 2, lastMatch := true, lastB := false })] } }, 0, by decide +kernel⟩
theorem met_IslandSamplesLoops_4 : ∃ s : State, ∃ k, s.power.mode ≠ .off ∧ s.variant.hasSlot k = true ∧ isLin k = true ∧ s.linOnBus k = true ∧ ((s.port k).pulse = true) :=
  ⟨{ LN 0 with ports := [(8, { pulse := true })] }, 8, by decide +kernel⟩
theorem met_SupervisorGuardsSecurityCore_1 : ∃ s : State, s.inRun = true ∧ s.safe.supervisorStopped = false :=
  ⟨W, by decide +kernel⟩
theorem met_SupervisorGuardsSecurityCore_2 : ∃ s : State, s.inRun = true :=
  ⟨{ W with safe := { W.safe with supervisorStopped := true, supervisorRestarting := true } }, by decide +kernel⟩
theorem met_SupervisorGuardsSecurityCore_3 : ∃ s : State, s.inRun = true ∧ s.safe.supervisorRestarting = true ∧ s.safe.securityDown = false :=
  ⟨{ W with safe := { W.safe with supervisorStopped := true, supervisorRestarting := true } }, by decide +kernel⟩
theorem met_SupervisorGuardsSecurityCore_4 : ∃ s : State, s.inRun = true ∧ s.safe.securityDown = true :=
  ⟨{ W with safe := { W.safe with securityDown := true } }, by decide +kernel⟩
theorem met_SupervisorGuardsSecurityCore_5 : ∃ s : State, ∃ cls, s.inRun = true ∧ ((cls = 0x0F ∨ cls = 0x14)) ∧ s.condHolds cls = true :=
  ⟨{ W with safe := { W.safe with noAes := true } }, 0x14, by decide +kernel⟩
theorem met_SilentAndFailedDies_1 : ∃ s : State, ∃ n : Nat, s.variant.hasDie n = true ∧ s.inRun = true ∧ s.healthy n = true ∧ s.linksGone n = false :=
  ⟨W, 1, by decide +kernel⟩
theorem met_SilentAndFailedDies_2 : ∃ s : State, ∃ n : Nat, s.variant.hasDie n = true ∧ s.inRun = true ∧ ((s.die n).state = 3) :=
  ⟨{ W with dies := [(1, { up with state := 3 }), (2, up)] }, 1, by decide +kernel⟩
theorem met_SilentAndFailedDies_3 : ∃ s : State, ∃ n : Nat, s.variant.hasDie n = true ∧ s.inRun = true ∧ s.dieRuns n = true :=
  ⟨W, 1, by decide +kernel⟩
theorem met_SilentAndFailedDies_4 : ∃ s : State, ∃ n : Nat, s.variant.hasDie n = true ∧ s.inRun = true ∧ s.power.inh = true ∧ s.power.resetN = true ∧ s.power.guardSupplied = true ∧ s.lostDie n = false :=
  ⟨W, 1, by decide +kernel⟩
theorem met_DegradingConditions_1 : ∃ s : State, ∃ n : Nat, s.variant.hasDie n = true ∧ s.inRun = true ∧ s.dieRuns n = true ∧ ((s.die n).vcoreLow = false) ∧ ((s.die n).state ≠ 3) :=
  ⟨W, 1, by decide +kernel⟩
theorem met_DegradingConditions_2 : ∃ s : State, ∃ n : Nat, s.variant.hasDie n = true ∧ s.inRun = true ∧ s.dieRuns n = true ∧ ((s.die n).vcoreLow = false) ∧ ((s.die n).state = 3) :=
  ⟨{ W with dies := [(1, { up with state := 3 }), (2, up)] }, 1, by decide +kernel⟩
theorem met_DegradingConditions_3 : ∃ s : State, ∃ n : Nat, s.variant.hasDie n = true ∧ s.inRun = true ∧ s.dieRuns n = true :=
  ⟨{ W with dies := [(1, { up with vcoreLow := true, state := 2, causes := [0x0C] }), (2, up)] }, 1, by decide +kernel⟩
theorem met_DegradingConditions_4 : ∃ s : State, ∃ n : Nat, s.variant.hasDie n = true ∧ s.inRun = true ∧ s.dieRuns n = true ∧ ((s.die n).clockOk = true) ∧ ((s.die n).state ≠ 3) :=
  ⟨W, 1, by decide +kernel⟩
theorem met_DegradingConditions_5 : ∃ s : State, ∃ n : Nat, s.variant.hasDie n = true ∧ s.inRun = true ∧ s.dieRuns n = true ∧ ((s.die n).clockOk = false) :=
  ⟨{ W with dies := [(1, { up with clockOk := false, state := 2, causes := [0x0D] }), (2, up)] }, 1, by decide +kernel⟩
theorem met_DegradingConditions_6 : ∃ s : State, ∃ n : Nat, s.variant.hasDie n = true ∧ s.inRun = true ∧ s.dieRuns n = true ∧ ((s.die n).state ≠ 3) :=
  ⟨{ W with dies := [(1, { up with vcoreLow := true, state := 2, causes := [0x0C] }), (2, up)] }, 1, by decide +kernel⟩
theorem met_DegradingConditions_7 : ∃ s : State, ∃ n : Nat, s.variant.hasDie n = true ∧ s.inRun = true ∧ s.dieRuns n = true ∧ ((s.die n).state = 3) ∧ ((s.die n).linkReset = true) :=
  ⟨{ W with dies := [(1, { up with state := 3, linkReset := true }), (2, up)] }, 1, by decide +kernel⟩
theorem met_DegradingConditions_8 : ∃ s : State, ∃ n : Nat, s.variant.hasDie n = true ∧ s.inRun = true ∧ s.dieRuns n = true ∧ ((s.die n).state = 3) ∧ ((s.die n).linkReset = true) :=
  ⟨{ W with dies := [(1, { up with state := 3, linkReset := true, lane0 := [(0x0C, 0xFFFF)] }), (2, up)] }, 1, by decide +kernel⟩
theorem met_DegradingConditions_9 : ∃ s : State, ∃ n : Nat, ∃ cls, s.variant.hasDie n = true ∧ s.inRun = true ∧ s.dieRuns n = true ∧ cls ∈ [0x01, 0x08, 0x11, 0x12] ∧ ((s.die n).state ≠ 3) :=
  ⟨W, 1, 0x08, by decide +kernel⟩
theorem met_DegradingConditions_10 : ∃ s : State, ∃ n : Nat, ∃ cls, s.variant.hasDie n = true ∧ s.inRun = true ∧ s.dieRuns n = true ∧ cls ∈ [0x01, 0x08, 0x11, 0x12] ∧ ((s.die n).state ≠ 3) ∧ s.safe.summaryRunning = true :=
  ⟨{ W with safe := { W.safe with summaryRunning := true } }, 1, 0x12, by decide +kernel⟩
theorem met_DegradingConditions_11 : ∃ s : State, ∃ n : Nat, ∃ cls, s.variant.hasDie n = true ∧ s.inRun = true ∧ s.dieRuns n = true ∧ cls ∈ [0x06, 0x07, 0x0A] ∧ s.healthy n = true ∧ s.linksGone n = false ∧ ((s.die n).runtimeUp = true) ∧ ((s.app n).running = true) :=
  ⟨{ W with apps := [(1, { running := true })] }, 1, 0x07, by decide +kernel⟩
theorem met_DegradingConditions_12 : ∃ s : State, ∃ n : Nat, ∃ cls, s.variant.hasDie n = true ∧ s.inRun = true ∧ s.dieRuns n = true ∧ cls ∈ [0x0F, 0x10, 0x15] ∧ s.safe.securityDown = false ∧ s.safe.supervisorStopped = false :=
  ⟨W, 1, 0x10, by decide +kernel⟩
theorem met_FabricLinksCarryCells_1 : ∃ s : State, ∃ n, ∃ e, ∃ m, ∃ f, ∃ x, s.inRun = true ∧ s.connected n e = true ∧ s.variant.partner n e = some (m, f) ∧ ((s.link n e).failed = false) ∧ ((s.link m f).failed = false) ∧ s.dieRuns n = true ∧ s.incoming n e m f = some x :=
  ⟨{ W with links := [(linkKey 2 1, { inFlight := [(3, none, 0)], crcRow := 2 })], queues := [(queueRow 2 25 3, [({ C0 with sending := true, target := 1 } : Copy)])] }, 1, 0, 2, 1, (3, (none : Option Copy), 0), by decide +kernel⟩
theorem met_FabricLinksCarryCells_2 : ∃ s : State, ∃ n, ∃ e, ∃ m, ∃ f, ∃ x, ∃ cp : Copy, s.inRun = true ∧ s.connected n e = true ∧ s.variant.partner n e = some (m, f) ∧ ((s.link n e).failed = false) ∧ ((s.link m f).failed = false) ∧ s.dieRuns n = true ∧ s.incoming n e m f = some x ∧ s.crossingCopy m f x = some cp ∧ x.2.2 + 1 < cp.cells :=
  ⟨{ W with links := [(linkKey 2 1, { inFlight := [(3, none, 0)] })], queues := [(queueRow 2 25 3, [({ C0 with sending := true, target := 1, cells := 2 } : Copy)])] }, 1, 0, 2, 1, (3, (none : Option Copy), 0), ({ C0 with sending := true, target := 1, cells := 2 } : Copy), by decide +kernel⟩
theorem met_FabricLinksCarryCells_3 : ∃ s : State, ∃ n, ∃ e, ∃ m, ∃ f, ∃ x, ∃ cp, ∃ d, s.inRun = true ∧ s.connected n e = true ∧ s.variant.partner n e = some (m, f) ∧ ((s.link n e).failed = false) ∧ ((s.link m f).failed = false) ∧ s.dieRuns n = true ∧ s.incoming n e m f = some x ∧ s.crossingCopy m f x = some cp ∧ cp.cells ≤ x.2.2 + 1 ∧ cp.target = n ∧ cp.kind = .frame ∧ cp.stage = .deliver ∧ cp.dests = [d] ∧ d < 0x100 ∧ slotDie d = n ∧ cp.atomic = 0 ∧ cp.learn = false ∧ s.stale n cp = false ∧ s.portRefuses d cp.frame = false ∧ ((s.placementOf n).resv = []) ∧ s.bp = [] ∧ ((s.die n).held = []) ∧ ((s.die m).held = []) ∧ ((s.die n).prcWait = []) ∧ ((s.die m).prcWait = []) ∧ s.cfgOn E.accessAniseEnable = false ∧ s.qU (queueRow n (slotLocal d) cp.cls) + cp.cells ≤ s.guarantee (queueRow n (slotLocal d) cp.cls) :=
  ⟨FC (some CX) CX, 1, 0, 2, 1, (3, some CX, 0), CX, 3, by decide +kernel⟩
theorem met_FabricLinksCarryCells_4 : ∃ s : State, ∃ n, ∃ e, ∃ m, ∃ f, ∃ x, ∃ cp : Copy, ∃ d, s.inRun = true ∧ s.connected n e = true ∧ s.variant.partner n e = some (m, f) ∧ ((s.link n e).failed = false) ∧ ((s.link m f).failed = false) ∧ s.dieRuns n = true ∧ s.incoming n e m f = some x ∧ s.crossingCopy m f x = some cp ∧ cp.cells ≤ x.2.2 + 1 ∧ cp.target = n ∧ cp.kind = .frame ∧ cp.stage = .deliver ∧ cp.dests = [d] ∧ d < 0x100 ∧ slotDie d = n ∧ cp.atomic = 0 ∧ cp.learn = false ∧ s.stale n cp = false ∧ s.portRefuses d cp.frame = false ∧ ((s.placementOf n).resv = []) ∧ s.bp = [] ∧ ((s.die n).held = []) ∧ ((s.die m).held = []) ∧ ((s.die n).prcWait = []) ∧ ((s.die m).prcWait = []) ∧ s.cfgOn E.accessAniseEnable = false ∧ s.qU (queueRow n (slotLocal d) cp.cls) + cp.cells ≤ s.guarantee (queueRow n (slotLocal d) cp.cls) ∧ x.2.1 = none :=
  ⟨FC none CX, 1, 0, 2, 1, (3, (none : Option Copy), 0), ({ CX with sending := true } : Copy), 3, by decide +kernel⟩
theorem met_FabricLinksCarryCells_5 : ∃ s : State, ∃ n, ∃ e, ∃ m, ∃ f, ∃ x, ∃ cp, ∃ g, s.inRun = true ∧ s.connected n e = true ∧ s.variant.partner n e = some (m, f) ∧ ((s.link n e).failed = false) ∧ ((s.link m f).failed = false) ∧ s.dieRuns n = true ∧ s.incoming n e m f = some x ∧ s.crossingCopy m f x = some cp ∧ cp.cells ≤ x.2.2 + 1 ∧ cp.target ≠ n ∧ ((pathEnds cp.srcDie cp.path).find? (·.1 == n) = some (n, g)) ∧ s.bp = [] ∧ ((s.die n).held = []) ∧ ((s.die m).held = []) ∧ ((s.die n).prcWait = []) ∧ ((s.die m).prcWait = []) ∧ s.cfgOn E.accessAniseEnable = false :=
  ⟨FC (some CY) CY, 1, 0, 2, 1, (3, some CY, 0), CY, 2, by decide +kernel⟩
theorem met_FabricLinksCarryCells_6 : ∃ s : State, ∃ n, ∃ e, ∃ m, ∃ f, ∃ x, ∃ cp : Copy, ∃ g, s.inRun = true ∧ s.connected n e = true ∧ s.variant.partner n e = some (m, f) ∧ ((s.link n e).failed = false) ∧ ((s.link m f).failed = false) ∧ s.dieRuns n = true ∧ s.incoming n e m f = some x ∧ s.crossingCopy m f x = some cp ∧ cp.cells ≤ x.2.2 + 1 ∧ cp.target ≠ n ∧ ((pathEnds cp.srcDie cp.path).find? (·.1 == n) = some (n, g)) ∧ s.bp = [] ∧ ((s.die n).held = []) ∧ ((s.die m).held = []) ∧ ((s.die n).prcWait = []) ∧ ((s.die m).prcWait = []) ∧ s.cfgOn E.accessAniseEnable = false ∧ x.2.1 = none :=
  ⟨FC none CY, 1, 0, 2, 1, (3, (none : Option Copy), 0), ({ CY with sending := true } : Copy), 2, by decide +kernel⟩
theorem met_FabricLinksCarryCells_7 : ∃ s : State, ∃ n, ∃ e, s.inRun = true ∧ s.connected n e = true ∧ s.dieRuns n = true ∧ ((s.link n e).inFlight = []) :=
  ⟨W, 1, 0, by decide +kernel⟩
theorem met_FabricLinksCarryCells_8 : ∃ s : State, ∃ n, ∃ e, ∃ m, ∃ f, s.inRun = true ∧ s.connected n e = true ∧ s.variant.partner n e = some (m, f) ∧ ((n, e) ≠ (m, f)) ∧ ((s.link n e).failed = false) ∧ ((s.die n).state ≠ 3) ∧ s.lostDie n = false ∧ s.lostDie m = false :=
  ⟨W, 1, 0, 2, 1, by decide +kernel⟩
theorem met_FabricLinksCarryCells_9 : ∃ s : State, ∃ n, ∃ e, ∃ m, ∃ f, s.inRun = true ∧ s.connected n e = true ∧ s.variant.partner n e = some (m, f) ∧ ((s.link n e).failed = true) :=
  ⟨{ W with links := [(linkKey 1 0, { failed := true }), (linkKey 2 1, { failed := true })] }, 1, 0, 2, 1, by decide +kernel⟩
theorem met_FabricLinksCarryCells_10 : ∃ s : State, ∃ a, ∃ b, ∃ c, s.inRun = true ∧ s.variant.hasDie a = true ∧ s.variant.hasDie b = true ∧ s.oldCells a b c = false :=
  ⟨{ W with markers := [(pairKey 1 2 3, 5)] }, 1, 2, 3, by decide +kernel⟩
theorem met_FabricLinksCarryCells_11 : ∃ s : State, ∃ g, ∃ m, ∃ d, s.inRun = true ∧ s.creditDie g m = some d :=
  ⟨{ W with creditDue := [(acctKey 2 3 0, 4)] }, 2, 3, 0, by decide +kernel⟩
theorem met_FabricLinksCarryCells_12 : ∃ s : State, ∃ n, ∃ e, ∃ m, ∃ f, ∃ x, ∃ cp : Copy, ∃ d, s.inRun = true ∧ s.connected n e = true ∧ s.variant.partner n e = some (m, f) ∧ ((s.link n e).failed = false) ∧ ((s.link m f).failed = false) ∧ s.dieRuns n = true ∧ x.1 = cp.cls ∧ s.incoming n e m f = some x ∧ s.crossingCopy m f x = some cp ∧ cp.cells ≤ x.2.2 + 1 ∧ cp.target = n ∧ cp.kind = .frame ∧ cp.stage = .deliver ∧ cp.dests = [d] ∧ d < 0x100 ∧ slotDie d = n ∧ cp.atomic = 0 ∧ cp.learn = false ∧ s.stale n cp = false ∧ s.portRefuses d cp.frame = false ∧ ((s.placementOf n).resv = []) ∧ s.bp = [] ∧ ((s.die n).held = []) ∧ ((s.die m).held = []) ∧ ((s.die n).prcWait = []) ∧ ((s.die m).prcWait = []) ∧ s.cfgOn E.accessAniseEnable = false ∧ s.lossless { cp with source := 0x300 + linkKey n e } = true ∧ s.guarantee (queueRow n (slotLocal d) cp.cls) + s.sharedLimit (queueRow n (slotLocal d) cp.cls) < s.qU (queueRow n (slotLocal d) cp.cls) + cp.cells ∧ 0 < cp.cells :=
  ⟨((FC (some { CX with ingress := 16 }) CX).setCfg E.bufferDefaultGuarantee 0).setCfg E.bufferDefaultSharedLimit 0 |>.setCfg (E.classLossless + 3 * 256) 1, 1, 0, 2, 1, (3, some ({ CX with ingress := 16 } : Copy), 0), ({ CX with ingress := 16 } : Copy), 3, by decide +kernel⟩
theorem met_TablesAreScrubbed_1 : ∃ s : State, ∃ n : Nat, s.variant.hasDie n = true ∧ s.inRun = true ∧ s.dieRuns n = true ∧ ((s.die n).state ≠ 3) :=
  ⟨W, 1, by decide +kernel⟩
theorem met_TablesAreScrubbed_2 : ∃ s : State, ∃ n : Nat, s.variant.hasDie n = true ∧ s.inRun = true ∧ s.dieRuns n = true ∧ ((s.die n).runtimeUp = true) :=
  ⟨{ W with dies := [(1, { up with damaged := [5], state := 2, causes := [3] }), (2, up)] }, 1, by decide +kernel⟩
theorem met_TablesAreScrubbed_3 : ∃ s : State, ∃ n : Nat, s.variant.hasDie n = true ∧ s.inRun = true ∧ s.dieRuns n = true ∧ ((s.die n).runtimeUp = false) :=
  ⟨{ W with dies := [(1, { up with runtimeUp := false, state := 2, causes := [6] }), (2, up)] }, 1, by decide +kernel⟩
theorem met_RecomputationAndReadmission_1 : ∃ s : State, s.safe.summaryRunning = true ∧ s.safe.summarySum = 0 :=
  ⟨{ W with safe := { W.safe with summaryRunning := true } }, by decide +kernel⟩
theorem met_RecomputationAndReadmission_2 : ∃ s : State, s.inRun = true ∧ s.sumac.computing = true :=
  ⟨{ W with sumac := { W.sumac with computing := true } }, by decide +kernel⟩
theorem met_RecomputationAndReadmission_3 : ∃ s : State, ∃ pl : Placement, s.inRun = true ∧ s.sumac.waiting = some pl :=
  ⟨{ W with sumac := { W.sumac with waiting := some { capture := 2 } } }, ({ capture := 2 } : Placement), by decide +kernel⟩
theorem met_RecomputationAndReadmission_4 : ∃ s : State, ∃ n, s.variant.hasDie n = true ∧ s.inRun = true ∧ ((s.die n).state = 5) :=
  ⟨{ W with dies := [(1, { up with state := 5 }), (2, up)] }, 1, by decide +kernel⟩
theorem met_RecomputationAndReadmission_5 : ∃ s : State, ∃ n, s.variant.hasDie n = true ∧ s.inRun = true ∧ ((s.die n).state = 5) ∧ ((s.die n).image = true) :=
  ⟨{ W with dies := [(1, { up with state := 5 }), (2, up)] }, 1, by decide +kernel⟩
theorem met_CanReception_1 : ∃ s : State, ∃ k : Nat, ∃ f : Frame, s.variant.hasSlot k = true ∧ isCan k = true ∧ s.canOnBus k = true ∧ f.fmt = .fd ∧ s.cfgSlot E.portCanFormat k = 0 ∧ ((s.port k).reconfigure = false) ∧ s.portState k ≠ 3 :=
  ⟨K.slotCfg E.portCanFormat 3 0, 3, ({ fmt := .fd, id := 0x123, data := [1, 2] } : Frame), by decide +kernel⟩
theorem met_CanReception_2 : ∃ s : State, ∃ k : Nat, ∃ f : Frame, ∃ s2, ∃ v : Verified, s.variant.hasSlot k = true ∧ isCan k = true ∧ s.canOnBus k = true ∧ f.fmt = .cc ∧ s.cfgSlot E.portCanFormat k < 3 ∧ s.portState k = 2 ∧ s.cfgSlot E.portCanMode k = 1 ∧ (((s.countSlot E.portCanCntRxFrames k).verifyFrame k f) = (s2, some v)) ∧ s2.stirred.serviceId k v.frame = false ∧ s2.stirred.guard k v.frame = .pass :=
  ⟨K.slotCfg E.portSecIdGuardMode 3 0, 3, ({ fmt := .cc, id := 0x123, data := [1, 2] } : Frame), (((K.slotCfg E.portSecIdGuardMode 3 0).countSlot E.portCanCntRxFrames (3)).verifyFrame (3) (({ fmt := .cc, id := 0x123, data := [1, 2] } : Frame))).1, (⟨(({ fmt := .cc, id := 0x123, data := [1, 2] } : Frame)), 0, 0⟩ : Verified), by decide +kernel⟩
theorem met_CanReception_3 : ∃ s : State, ∃ k : Nat, ∃ f : Frame, ∃ s2, ∃ v : Verified, s.variant.hasSlot k = true ∧ isCan k = true ∧ s.canOnBus k = true ∧ f.fmt = .cc ∧ s.cfgSlot E.portCanFormat k < 3 ∧ s.portState k = 2 ∧ s.cfgSlot E.portCanMode k = 1 ∧ (((s.countSlot E.portCanCntRxFrames k).verifyFrame k f) = (s2, some v)) ∧ s2.stirred.serviceId k v.frame = false ∧ s2.stirred.guard k v.frame = .event 1 true :=
  ⟨K.slotCfg E.portSecIdGuardMode 3 1, 3, ({ fmt := .cc, id := 0x123, data := [1, 2] } : Frame), (((K.slotCfg E.portSecIdGuardMode 3 1).countSlot E.portCanCntRxFrames (3)).verifyFrame (3) (({ fmt := .cc, id := 0x123, data := [1, 2] } : Frame))).1, (⟨(({ fmt := .cc, id := 0x123, data := [1, 2] } : Frame)), 0, 0⟩ : Verified), by decide +kernel⟩
theorem met_CanReception_4 : ∃ s : State, ∃ k : Nat, s.variant.hasSlot k = true ∧ isCan k = true ∧ s.canOnBus k = true ∧ ((s.port k).reconfigure = false) ∧ s.portState k ≠ 3 :=
  ⟨K, 3, by decide +kernel⟩
theorem met_CanReception_5 : ∃ s : State, ∃ k : Nat, s.variant.hasSlot k = true ∧ isCan k = true ∧ s.canOnBus k = true ∧ s.cfgSlot E.portCanMode k ≠ 0 ∧ ((s.port k).reconfigure = false) :=
  ⟨K, 3, by decide +kernel⟩
theorem met_CanReception_6 : ∃ s : State, ∃ k : Nat, ∃ f : Frame, s.variant.hasSlot k = true ∧ isCan k = true ∧ s.canOnBus k = true ∧ f.fmt = .cc ∧ s.cfgSlot E.portCanFormat k < 3 ∧ s.portState k = 3 :=
  ⟨K.setPortState 3 3, 3, ({ fmt := .cc, id := 0x123, data := [1, 2] } : Frame), by decide +kernel⟩
theorem met_CanReception_7 : ∃ s : State, ∃ k : Nat, ∃ f : Frame, ∃ s2, ∃ v : Verified, s.variant.hasSlot k = true ∧ isCan k = true ∧ s.canOnBus k = true ∧ f.fmt = .cc ∧ s.cfgSlot E.portCanFormat k < 3 ∧ s.portState k = 2 ∧ ((s.port k).reconfigure = false) ∧ (((s.countSlot E.portCanCntRxFrames k).verifyFrame k f) = (s2, some v)) ∧ s2.stirred.serviceId k v.frame = true ∧ isSdoFrame v.frame = false :=
  ⟨SVC, 3, ({ fmt := .cc, id := 0x605, data := [1, 2] } : Frame), (((SVC).countSlot E.portCanCntRxFrames (3)).verifyFrame (3) (({ fmt := .cc, id := 0x605, data := [1, 2] } : Frame))).1, (⟨(({ fmt := .cc, id := 0x605, data := [1, 2] } : Frame)), 0, 0⟩ : Verified), by decide +kernel⟩
theorem met_CanRecovery_1 : ∃ s : State, ∃ k : Nat, s.variant.hasSlot k = true ∧ isCan k = true ∧ s.canPort k = true ∧ s.portState k ≠ 1 ∧ s.portState k = 2 ∧ ((s.port k).clockStopped = false) :=
  ⟨{ K with ports := [(3, { integrating := true })] }, 3, by decide +kernel⟩
theorem met_CanRecovery_2 : ∃ s : State, ∃ k : Nat, s.variant.hasSlot k = true ∧ isCan k = true ∧ s.canPort k = true ∧ s.portState k = 1 :=
  ⟨(K.setPortState 3 1), 3, by decide +kernel⟩
theorem met_CanRecovery_3 : ∃ s : State, ∃ k : Nat, s.variant.hasSlot k = true ∧ isCan k = true ∧ s.canPort k = true ∧ s.portState k = 4 ∧ ((s.port k).restartArmed = true) ∧ 0 < s.cfgSlot E.portCanBusOffRestart k :=
  ⟨{ (K.setPortState 3 4).slotCfg E.portCanBusOffRestart 3 10 with ports := [(3, { restartArmed := true })] }, 3, by decide +kernel⟩
theorem met_CanRecovery_4 : ∃ s : State, ∃ k : Nat, s.variant.hasSlot k = true ∧ isCan k = true ∧ s.canPort k = true ∧ s.portState k = 4 ∧ ((s.port k).recovering = true) :=
  ⟨{ K.setPortState 3 4 with ports := [(3, { recovering := true })] }, 3, by decide +kernel⟩
theorem met_CanRecovery_5 : ∃ s : State, ∃ k : Nat, s.variant.hasSlot k = true ∧ isCan k = true ∧ s.canPort k = true ∧ s.portState k = 4 ∧ s.cfgSlot E.portCanBusOffRestart k = 0 :=
  ⟨(K.setPortState 3 4).slotCfg E.portCanBusOffRestart 3 0, 3, by decide +kernel⟩
theorem met_CanRecovery_6 : ∃ s : State, ∃ k : Nat, ∃ sess, ∃ v, ∃ j, s.variant.hasSlot k = true ∧ isCan k = true ∧ s.canPort k = true ∧ s.portState k = 4 ∧ s.cfgSlot E.portCanBusOffRestart k = 0 ∧ s.accepts sess (0x2000 + k) 0x1B noRow (toLE 1 v) = true ∧ j ≠ k :=
  ⟨(Z.setPortState 3 4).slotCfg E.portCanBusOffRestart 3 0, 3, 1, 1, 4, by decide +kernel⟩
theorem met_CanRecovery_7 : ∃ s : State, ∃ k : Nat, s.variant.hasSlot k = true ∧ isCan k = true ∧ s.canPort k = true ∧ s.portState k = 2 ∧ s.stSlot E.portCanErrorState k ≠ 2 :=
  ⟨KT, 3, by decide +kernel⟩
theorem met_CanRecovery_8 : ∃ s : State, ∃ k : Nat, s.variant.hasSlot k = true ∧ isCan k = true ∧ s.canPort k = true ∧ s.portState k = 2 ∧ s.stSlot E.portCanErrorState k ≠ 2 :=
  ⟨KT.setSlot E.portCanTec 3 250, 3, by decide +kernel⟩
theorem met_CanTransmission_1 : ∃ s : State, ∃ k : Nat, ∃ row, ∃ cp, ∃ d, s.variant.hasSlot k = true ∧ isCan k = true ∧ s.canPort k = true ∧ s.sendingRow k = some row ∧ ((s.queue row).find? (·.sending) = some cp) ∧ d ≤ 127 ∧ s.portState k = 2 ∧ s.stSlot E.portCanTec k ≤ 256 ∧ ((s.port k).reconfigure = false) ∧ ((s.die (slotDie k)).held = []) ∧ s.cfgOn E.captureEnable = false :=
  ⟨KT, 3, queueRow 1 3 0, { C0 with sending := true }, 100, by decide +kernel⟩
theorem met_CanTransmission_2 : ∃ s : State, ∃ k : Nat, ∃ row, ∃ cp, ∃ d, s.variant.hasSlot k = true ∧ isCan k = true ∧ s.canPort k = true ∧ s.sendingRow k = some row ∧ ((s.queue row).find? (·.sending) = some cp) ∧ 127 < d ∧ s.tdcMeasures k (cp.prepared.getD cp.frame) = true ∧ ((s.port k).reconfigure = false) ∧ s.portState k = 2 ∧ s.stSlot E.portCanTec k ≤ 247 ∧ s.cfgSlotOn E.portCanAutoRetransmit k = true :=
  ⟨{ (KT.slotCfg E.portCanAutoRetransmit 3 1).slotCfg E.portCanTdcMode 3 1 with queues := [(queueRow 1 3 0, [{ C0 with sending := true, frame := { C0.frame with fmt := .fd } }])] }, 3, queueRow 1 3 0, { C0 with sending := true, frame := { C0.frame with fmt := .fd } }, 200, by decide +kernel⟩
theorem met_CanTransmission_3 : ∃ s : State, ∃ k : Nat, ∃ row, s.variant.hasSlot k = true ∧ isCan k = true ∧ s.canPort k = true ∧ s.sendingRow k = some row ∧ s.portState k ≠ 3 :=
  ⟨KT, 3, queueRow 1 3 0, by decide +kernel⟩
theorem met_CanTransmission_4 : ∃ s : State, ∃ k : Nat, ∃ row, ∃ err : CanTxError, s.variant.hasSlot k = true ∧ isCan k = true ∧ s.canPort k = true ∧ err ∈ [.bit, .stuff, .form, .ack] ∧ ((err = .ack → s.stSlot E.portCanErrorState k ≠ 1)) ∧ s.sendingRow k = some row ∧ ((s.port k).reconfigure = false) ∧ s.portState k ≠ 3 ∧ s.stSlot E.portCanTec k ≤ 247 ∧ s.cfgSlotOn E.portCanAutoRetransmit k = true :=
  ⟨KT.slotCfg E.portCanAutoRetransmit 3 1, 3, queueRow 1 3 0, (.form : CanTxError), by decide +kernel⟩
theorem met_CanTransmission_5 : ∃ s : State, ∃ k : Nat, ∃ n, ∃ q, s.variant.hasSlot k = true ∧ isCan k = true ∧ s.canPort k = true ∧ n = slotDie k ∧ q = slotLocal k ∧ ((n - 1) * 32 + q = k) ∧ q < 21 ∧ s.variant.hasDie n = true ∧ s.canOnBus k = true ∧ s.cfgSlot E.portCanMode k = 0 ∧ ((s.sendingRow k).isSome = true) :=
  ⟨KT.slotCfg E.portCanMode 3 0, 3, 1, 3, by decide +kernel⟩
theorem met_CanTransmission_6 : ∃ s : State, ∃ k : Nat, ∃ row, ∃ err : CanTxError, s.variant.hasSlot k = true ∧ isCan k = true ∧ s.canPort k = true ∧ err ∈ [.bit, .stuff, .form, .ack] ∧ ((err = .ack → s.stSlot E.portCanErrorState k ≠ 1)) ∧ s.sendingRow k = some row ∧ ((s.port k).reconfigure = false) ∧ s.portState k ≠ 3 ∧ s.stSlot E.portCanTec k ≤ 247 ∧ s.cfgSlotOn E.portCanAutoRetransmit k = true :=
  ⟨KT.slotCfg E.portCanAutoRetransmit 3 1, 3, queueRow 1 3 0, (.ack : CanTxError), by decide +kernel⟩
theorem met_CanTransmission_7 : ∃ s : State, ∃ k : Nat, ∃ n, ∃ q, s.variant.hasSlot k = true ∧ isCan k = true ∧ s.canPort k = true ∧ n = slotDie k ∧ q = slotLocal k ∧ ((n - 1) * 32 + q = k) ∧ q < 21 ∧ s.variant.hasDie n = true ∧ s.sendingRow k = none ∧ s.portState k ≠ 3 ∧ ((∀ c, c < 8 → s.queue (queueRow n q c) = [])) :=
  ⟨K, 3, 1, 3, by decide +kernel⟩
theorem met_CanTransmission_8 : ∃ s : State, ∃ k : Nat, ∃ row, ∃ err : CanTxError, s.variant.hasSlot k = true ∧ isCan k = true ∧ s.canPort k = true ∧ err ∈ [.bit, .stuff, .form] ∧ s.sendingRow k = some row ∧ ((s.port k).reconfigure = false) ∧ s.portState k = 2 ∧ s.stSlot E.portCanTec k ≤ 247 ∧ s.cfgSlotOn E.portCanAutoRetransmit k = false ∧ ((s.die (slotDie k)).held = []) ∧ ((s.die (slotDie k)).prcWait = []) :=
  ⟨KT.slotCfg E.portCanAutoRetransmit 3 0, 3, queueRow 1 3 0, (.bit : CanTxError), by decide +kernel⟩
theorem met_CanTransmission_9 : ∃ s : State, ∃ k : Nat, s.variant.hasSlot k = true ∧ isCan k = true ∧ s.canPort k = true :=
  ⟨K, 3, by decide +kernel⟩
theorem met_PortTurnsTakeTheHead_1 : ∃ s : State, ∃ n : Nat, ∃ q : Nat, ∃ k, ∃ c, ∃ cp, ∃ rest, ∃ s2, ∃ f, s.variant.hasDie n = true ∧ s.dieRuns n = true ∧ s.inRun = true ∧ k = (n - 1) * 32 + q ∧ q < 21 ∧ isCan k = true ∧ slotDie k = n ∧ slotLocal k = q ∧ s.canOnBus k = true ∧ s.cfgSlot E.portCanMode k = 0 ∧ s.sendingRow k = none ∧ c < 8 ∧ s.queue (queueRow n q c) = cp :: rest ∧ ((∀ j, j < 8 → c < j → s.queue (queueRow n q j) = [])) ∧ s.aged cp = false ∧ s.canPrepare k cp = (s2, some f) ∧ s2.queue (queueRow n q c) = cp :: rest :=
  ⟨{ K.slotCfg E.portCanMode 3 0 with queues := [(queueRow 1 3 0, [C0])] }, 1, 3, 3, 0, C0, ([] : List Copy), (({ K.slotCfg E.portCanMode 3 0 with queues := [(queueRow 1 3 0, [C0])] }).canPrepare (3) (C0)).1, { C0.frame with esi := false }, by decide +kernel⟩
theorem met_PortTurnsTakeTheHead_2 : ∃ s : State, ∃ n : Nat, ∃ q : Nat, ∃ k, ∃ c, ∃ cp, ∃ rest, ∃ s2, ∃ f, s.variant.hasDie n = true ∧ s.dieRuns n = true ∧ s.inRun = true ∧ k = (n - 1) * 32 + q ∧ q < 21 ∧ isEth k = true ∧ isCan k = false ∧ isLin k = false ∧ slotDie k = n ∧ slotLocal k = q ∧ s.ethOnLink k = true ∧ s.sendingRow k = none ∧ c < 8 ∧ bitAt (s.port k).pauseHeld c = false ∧ s.queue (queueRow n q c) = cp :: rest ∧ ((∀ j, j < 8 → c < j → s.queue (queueRow n q j) = [] ∨ bitAt (s.port k).pauseHeld j = true)) ∧ s.aged cp = false ∧ s.ethPrepare k cp = (s2, some f) ∧ s2.queue (queueRow n q c) = cp :: rest :=
  ⟨{ EN with queues := [(queueRow 1 16 0, [CE])] }, 1, 16, 16, 0, CE, ([] : List Copy), (({ EN with queues := [(queueRow 1 16 0, [CE])] }).ethPrepare (16) (CE)).1, ((({ EN with queues := [(queueRow 1 16 0, [CE])] }).ethPrepare (16) (CE)).2).getD CE.frame, by decide +kernel⟩
theorem met_PortTurnsTakeTheHead_3 : ∃ s : State, ∃ n : Nat, ∃ q : Nat, ∃ k, ∃ c, ∃ cp : Copy, ∃ rest, s.variant.hasDie n = true ∧ s.dieRuns n = true ∧ s.inRun = true ∧ k = (n - 1) * 32 + q ∧ q < 21 ∧ isLin k = true ∧ isCan k = false ∧ slotDie k = n ∧ slotLocal k = q ∧ s.linOnBus k = true ∧ s.portState k = 2 ∧ c < 8 ∧ s.queue (queueRow n q c) = cp :: rest ∧ ((∀ j, j < 8 → c < j → s.queue (queueRow n q j) = [])) ∧ s.aged cp = false ∧ s.bp = [] ∧ ((s.die n).held = []) ∧ ((s.die n).prcWait = []) ∧ (linPublish (s.linId k (cp.frame.id % 64)) = false ∨ linLength (s.linId k (cp.frame.id % 64)) ≠ cp.frame.data.length) :=
  ⟨{ LN 0 with queues := [(queueRow 1 8 0, [{ C0 with frame := { fmt := .lin, id := 5, data := [1, 2] } }])] }, 1, 8, 8, 0, ({ C0 with frame := { fmt := .lin, id := 5, data := [1, 2] } } : Copy), ([] : List Copy), by decide +kernel⟩
theorem met_PortTurnsTakeTheHead_4 : ∃ s : State, ∃ n : Nat, ∃ q : Nat, ∃ k, ∃ c, ∃ cp : Copy, ∃ rest, s.variant.hasDie n = true ∧ s.dieRuns n = true ∧ s.inRun = true ∧ k = (n - 1) * 32 + q ∧ q < 21 ∧ isLin k = true ∧ isCan k = false ∧ slotDie k = n ∧ slotLocal k = q ∧ s.linOnBus k = true ∧ s.portState k = 2 ∧ c < 8 ∧ s.queue (queueRow n q c) = cp :: rest ∧ ((∀ j, j < 8 → c < j → s.queue (queueRow n q j) = [])) ∧ s.aged cp = false ∧ s.bp = [] ∧ ((s.die n).held = []) ∧ ((s.die n).prcWait = []) ∧ linPublish (s.linId k (cp.frame.id % 64)) = true ∧ linLength (s.linId k (cp.frame.id % 64)) = cp.frame.data.length ∧ ((mfind (s.port k).linBuf (cp.frame.id % 64)).isSome = true) :=
  ⟨{ (LN 0).slotCfg (E.portLinId + 5) 8 (0x8000 + 2) with queues := [(queueRow 1 8 0, [{ C0 with frame := { fmt := .lin, id := 5, data := [1, 2] } }])], ports := [(8, { linBuf := [(5, C0)] })] }, 1, 8, 8, 0, ({ C0 with frame := { fmt := .lin, id := 5, data := [1, 2] } } : Copy), ([] : List Copy), by decide +kernel⟩
theorem met_PortTurnsTakeTheHead_5 : ∃ s : State, ∃ n : Nat, ∃ q : Nat, ∃ c, ∃ s1, ∃ x, ∃ i, s.variant.hasDie n = true ∧ s.dieRuns n = true ∧ s.inRun = true ∧ 24 ≤ q ∧ q < 28 ∧ s.connected n (q - 24) = true ∧ ((s.link n (q - 24)).failed = false) ∧ c < 8 ∧ ((∀ j, j < 8 → c < j → s.fabricTurn n (q - 24) j = (s, none))) ∧ s.fabricTurn n (q - 24) c = (s1, some (x, i)) :=
  ⟨{ W with queues := [(queueRow 2 25 3, [{ C0 with target := 1 }])] }, 2, 25, 3, (({ W with queues := [(queueRow 2 25 3, [{ C0 with target := 1 }])] }).fabricTurn 2 1 3).1, (none : Option Copy), 0, by (repeat' apply And.intro) <;> first | decide +kernel | (intro j h1 h2; have h3 : j = 4 ∨ j = 5 ∨ j = 6 ∨ j = 7 := (by omega); rcases h3 with rfl | rfl | rfl | rfl <;> decide +kernel)⟩
theorem met_PortTurnsTakeTheHead_6 : ∃ s : State, ∃ n : Nat, ∃ q : Nat, ∃ c, ∃ cp, ∃ rest, s.variant.hasDie n = true ∧ s.dieRuns n = true ∧ s.inRun = true ∧ q = 22 ∧ ((s.die n).runtimeUp = true) ∧ c < 8 ∧ s.queue (queueRow n q c) = cp :: rest ∧ ((∀ j, j < 8 → c < j → s.queue (queueRow n q j) = [])) ∧ s.aged cp = false ∧ s.bp = [] ∧ ((s.die n).held = []) ∧ ((s.die n).prcWait = []) ∧ s.cfgOn E.accessAniseEnable = false :=
  ⟨{ W with queues := [(queueRow 1 22 0, [C0])] }, 1, 22, 0, C0, ([] : List Copy), by decide +kernel⟩
theorem met_PortTurnsTakeTheHead_7 : ∃ s : State, ∃ n : Nat, ∃ q : Nat, s.variant.hasDie n = true ∧ s.dieRuns n = true ∧ s.inRun = true ∧ q = 22 ∧ ((s.die n).runtimeUp = false) :=
  ⟨{ W with dies := [(1, { up with runtimeUp := false })] }, 1, 22, by decide +kernel⟩
theorem met_LinHeadersAndResponses_1 : ∃ s : State, ∃ k : Nat, ∃ id, ∃ rb : Bool, s.variant.hasSlot k = true ∧ isLin k = true ∧ s.linPort k = true ∧ s.linOnBus k = true ∧ s.cfgSlot E.portLinRole k = 0 ∧ ((s.port k).linHeader = some id) ∧ linPublish (s.linId k id) = false ∧ rb = false :=
  ⟨{ (LN 0) with ports := [(8, { linHeader := some 5 })] }, 8, 5, false, by decide +kernel⟩
theorem met_LinHeadersAndResponses_2 : ∃ s : State, ∃ k : Nat, ∃ id, ∃ rb : Bool, s.variant.hasSlot k = true ∧ isLin k = true ∧ s.linPort k = true ∧ s.linOnBus k = true ∧ s.cfgSlot E.portLinRole k = 0 ∧ ((s.port k).linHeader = some id) ∧ linPublish (s.linId k id) = false ∧ rb = true :=
  ⟨{ (LN 0) with ports := [(8, { linHeader := some 5 })] }, 8, 5, true, by decide +kernel⟩
theorem met_LinHeadersAndResponses_3 : ∃ s : State, ∃ k : Nat, ∃ id, ∃ cp : Copy, s.variant.hasSlot k = true ∧ isLin k = true ∧ s.linPort k = true ∧ s.linOnBus k = true ∧ s.cfgSlot E.portLinRole k = 0 ∧ ((s.port k).linHeader = some id) ∧ linPublish (s.linId k id) = true ∧ mfind (s.port k).linBuf id = some cp :=
  ⟨{ (LN 0).slotCfg (E.portLinId + 5) 8 (0x8000 + 2) with ports := [(8, { linHeader := some 5, linBuf := [(5, { C0 with frame := { fmt := .lin, id := 5, data := [1, 2] } })] })] }, 8, 5, ({ C0 with frame := { fmt := .lin, id := 5, data := [1, 2] } } : Copy), by decide +kernel⟩
theorem met_LinHeadersAndResponses_4 : ∃ s : State, ∃ k : Nat, s.variant.hasSlot k = true ∧ isLin k = true ∧ s.linPort k = true ∧ s.linOnBus k = true ∧ s.cfgSlot E.portLinRole k ≠ 0 ∧ s.portState k ≠ 1 :=
  ⟨(LN 1), 8, by decide +kernel⟩
theorem met_LinHeadersAndResponses_5 : ∃ s : State, ∃ k : Nat, ∃ id, ∃ data : Bytes, s.variant.hasSlot k = true ∧ isLin k = true ∧ s.linPort k = true ∧ s.linOnBus k = true ∧ ((s.port k).linAwait = some id) ∧ linSubscribe (s.linId k id) = true ∧ data.length = linLength (s.linId k id) ∧ ((s.port k).reconfigure = false) ∧ s.portState k = 2 :=
  ⟨{ (LN 1).slotCfg (E.portLinId + 5) 8 (0x4000 + 2) with ports := [(8, { linAwait := some 5 })] }, 8, 5, ([1, 2] : Bytes), by decide +kernel⟩
theorem met_LinHeadersAndResponses_6 : ∃ s : State, ∃ k : Nat, ∃ id, ∃ data : Bytes, ∃ w, s.variant.hasSlot k = true ∧ isLin k = true ∧ s.linPort k = true ∧ s.linOnBus k = true ∧ ((s.port k).linAwait = some id) ∧ linSubscribe (s.linId k id) = true ∧ data.length = linLength (s.linId k id) ∧ ((s.port k).reconfigure = false) ∧ w ≠ s.linCheckOf k id data :=
  ⟨{ (LN 1).slotCfg (E.portLinId + 5) 8 (0x4000 + 2) with ports := [(8, { linAwait := some 5 })] }, 8, 5, ([1, 2] : Bytes), ({ (LN 1).slotCfg (E.portLinId + 5) 8 (0x4000 + 2) with ports := [(8, { linAwait := some 5 })] }).linCheckOf (8) (5) (([1, 2] : Bytes)) + 1, by decide +kernel⟩
theorem met_LinHeadersAndResponses_7 : ∃ s : State, ∃ k : Nat, s.variant.hasSlot k = true ∧ isLin k = true ∧ s.linPort k = true ∧ s.linOnBus k = true ∧ ((s.port k).linAwait.isSome = true) ∧ ((s.port k).reconfigure = false) :=
  ⟨{ (LN 1) with ports := [(8, { linAwait := some 5 })] }, 8, by decide +kernel⟩
theorem met_LinHeadersAndResponses_8 : ∃ s : State, ∃ k : Nat, s.variant.hasSlot k = true ∧ isLin k = true ∧ s.linPort k = true ∧ ((s.portState k = 1 ∨ s.portState k = 2)) :=
  ⟨{ (LN 1) with ports := [(8, { linAwait := some 5 })] }, 8, by decide +kernel⟩
theorem met_LinHeadersAndResponses_9 : ∃ s : State, ∃ k : Nat, s.variant.hasSlot k = true ∧ isLin k = true ∧ s.linPort k = true ∧ s.portState k = 4 :=
  ⟨(LN 1).setPortState 8 4, 8, by decide +kernel⟩
theorem met_LinHeadersAndResponses_10 : ∃ s : State, ∃ k : Nat, s.variant.hasSlot k = true ∧ isLin k = true ∧ s.linPort k = true ∧ s.linOnBus k = true ∧ s.cfgSlot E.portLinRole k = 0 ∧ ((s.port k).pulse = true) :=
  ⟨{ (LN 0) with ports := [(8, { pulse := true })] }, 8, by decide +kernel⟩
theorem met_LinHeadersAndResponses_11 : ∃ s : State, ∃ k : Nat, s.variant.hasSlot k = true ∧ isLin k = true ∧ s.linPort k = true ∧ s.linOnBus k = true ∧ s.cfgSlot E.portLinRole k = 0 ∧ ((s.port k).pulse = false) ∧ ((s.port k).scheduleDelayed = false) ∧ ((s.port k).reconfigure = false) ∧ s.portState k ≠ 3 ∧ ((s.port k).linPos < 63) :=
  ⟨LN 0, 8, by decide +kernel⟩
theorem met_LinHeadersAndResponses_12 : ∃ s : State, ∃ k : Nat, s.variant.hasSlot k = true ∧ isLin k = true ∧ s.linPort k = true ∧ s.linOnBus k = true ∧ s.cfgSlot E.portLinRole k = 0 ∧ ((s.port k).pulse = false) ∧ ((s.port k).scheduleDelayed = false) ∧ ((s.port k).reconfigure = false) ∧ s.portState k ≠ 3 ∧ linAction (s.linSlot k ((s.port k).linPos + 1)) = 1 ∧ ((s.port k).linPos < 63) :=
  ⟨(LN 0).slotCfg (E.portLinSlot + 1) 8 (0x40 + 5), 8, by decide +kernel⟩
theorem met_LinHeadersAndResponses_13 : ∃ s : State, ∃ k : Nat, s.variant.hasSlot k = true ∧ isLin k = true ∧ s.linPort k = true ∧ s.linOnBus k = true ∧ ((s.port k).pulse = true) :=
  ⟨{ (LN 0) with ports := [(8, { pulse := true })] }, 8, by decide +kernel⟩
theorem met_LinHeadersAndResponses_14 : ∃ s : State, ∃ k : Nat, ∃ id, s.variant.hasSlot k = true ∧ isLin k = true ∧ s.linPort k = true ∧ s.linOnBus k = true ∧ ((s.cfgSlot E.portLinRole k = 0 → (s.port k).linHeader = some id)) ∧ ((s.port k).reconfigure = false) ∧ s.portState k = 2 ∧ linPublish (s.linId k id) = true ∧ mfind (s.port k).linBuf id = none :=
  ⟨(LN 1).slotCfg (E.portLinId + 5) 8 (0x8000 + 2), 8, 5, by decide +kernel⟩
theorem met_EthernetReception_1 : ∃ s : State, ∃ k : Nat, ∃ d : Bytes, ∃ ok : Bool, ∃ e, s.variant.hasSlot k = true ∧ isEth k = true ∧ s.listens k = false ∧ s.ethOnLink k = true ∧ s.ethLengthFcs k (d.length + 4) ok = some e :=
  ⟨EN, 16, (List.replicate 20 3 : Bytes), true, E.portEthCntRxRunt, by decide +kernel⟩
theorem met_EthernetReception_2 : ∃ s : State, ∃ k : Nat, ∃ d : Bytes, ∃ ok : Bool, ∃ e, s.variant.hasSlot k = true ∧ isEth k = true ∧ s.listens k = false ∧ s.ethOnLink k = true ∧ s.ethLengthFcs k (d.length + 4) ok = some e :=
  ⟨EN, 16, (List.replicate 60 3 : Bytes), false, E.portEthCntRxFcsError, by decide +kernel⟩
theorem met_EthernetReception_3 : ∃ s : State, ∃ k : Nat, s.variant.hasSlot k = true ∧ isEth k = true ∧ s.listens k = false ∧ s.ethOnLink k = true :=
  ⟨EN, 16, by decide +kernel⟩
theorem met_EthernetReception_4 : ∃ s : State, ∃ k : Nat, ∃ d : Bytes, s.variant.hasSlot k = true ∧ isEth k = true ∧ s.listens k = false ∧ s.ethOnLink k = true ∧ s.ethLengthFcs k (d.length + 4) true = none ∧ s.macsecVerify k d = (s, some d) ∧ beNat (d.take 6) / 16 ≠ 0x0180C200000 ∧ s.groupPasses k d = false :=
  ⟨EN.slotCfg E.portEthRxGroupFilter 16 1, 16, (List.replicate 60 3 : Bytes), by decide +kernel⟩
theorem met_EthernetReception_5 : ∃ s : State, ∃ k : Nat, ∃ d : Bytes, s.variant.hasSlot k = true ∧ isEth k = true ∧ s.listens k = false ∧ s.ethOnLink k = true ∧ s.ethLengthFcs k (d.length + 4) true = none ∧ s.macsecVerify k d = (s, some d) ∧ beNat (d.take 6) / 16 ≠ 0x0180C200000 ∧ s.groupPasses k d = true ∧ s.cfgSlotOn E.portEthVlanIngressFilter k = false ∧ s.portState k = 2 :=
  ⟨EN, 16, (List.replicate 60 2 : Bytes), by decide +kernel⟩
theorem met_EthernetLinks_1 : ∃ s : State, ∃ k : Nat, s.variant.hasSlot k = true ∧ isEth k = true ∧ s.ethPort k = true ∧ s.cfgSlotOn E.portEthAnEnable k = true ∧ s.cfgSlot E.portEthSerdesMode k = 0 :=
  ⟨(W.setPortState 16 1).slotCfg E.portEthAnEnable 16 1, 16, by decide +kernel⟩
theorem met_EthernetLinks_2 : ∃ s : State, ∃ k : Nat, s.variant.hasSlot k = true ∧ isEth k = true ∧ s.ethPort k = true ∧ s.cfgSlotOn E.portEthAnEnable k = true ∧ s.cfgSlot E.portEthSerdesMode k = 1 ∧ ((s.port k).reconfigure = false) ∧ s.portState k ≠ 0 ∧ s.portState k ≠ 5 ∧ s.portState k ≠ 3 ∧ ((s.port k).linkUp = true) :=
  ⟨{ ((W.setPortState 16 2).slotCfg E.portEthSerdesMode 16 1).slotCfg E.portEthAnEnable 16 1 with ports := [(16, { linkUp := true, upTimer := true })] }, 16, by decide +kernel⟩
theorem met_EthernetLinks_3 : ∃ s : State, ∃ k : Nat, ∃ full : Bool, s.variant.hasSlot k = true ∧ isEth k = true ∧ s.ethPort k = true ∧ ((s.port k).linkUp = false) ∧ s.listens k = false ∧ s.portState k ∈ [1, 3, 4] ∧ ((s.cfgSlotOn E.portEthAnEnable k = false ∨ (s.cfgSlot E.portEthSerdesMode k ≠ 0 ∧ (s.cfgSlot E.portEthSerdesMode k ≠ 1 ∨ full = true)))) :=
  ⟨(W.setPortState 16 1).slotCfg E.portEthAnEnable 16 0, 16, true, by decide +kernel⟩
theorem met_EthernetLinks_4 : ∃ s : State, ∃ k : Nat, ∃ full : Bool, s.variant.hasSlot k = true ∧ isEth k = true ∧ s.ethPort k = true ∧ ((s.port k).linkUp = false) ∧ s.listens k = false ∧ s.portState k ∈ [1, 3, 4] ∧ ((s.cfgSlotOn E.portEthAnEnable k = false ∨ (s.cfgSlot E.portEthSerdesMode k ≠ 0 ∧ (s.cfgSlot E.portEthSerdesMode k ≠ 1 ∨ full = true)))) :=
  ⟨{ (W.setPortState 20 1).slotCfg E.portEthAnEnable 20 0 with ports := [(20, { txFault := 2 })] }, 20, false, by decide +kernel⟩
theorem met_EthernetLinks_5 : ∃ s : State, ∃ k : Nat, ∃ r : Bool, s.variant.hasSlot k = true ∧ isEth k = true ∧ s.ethPort k = true ∧ ((s.port k).linkUp = true) ∧ s.portState k = 2 ∧ s.sendingRow k = none ∧ ((s.port k).reconfigure = false) ∧ r = true :=
  ⟨EN, 16, true, by decide +kernel⟩
theorem met_EthernetLinks_6 : ∃ s : State, ∃ k : Nat, s.variant.hasSlot k = true ∧ isEth k = true ∧ s.ethPort k = true ∧ ((s.port k).linkUp = true) ∧ s.portState k = 2 ∧ s.sendingRow k = none ∧ ((s.port k).reconfigure = false) ∧ isTrunk k = true :=
  ⟨{ W.setPortState 20 2 with ports := [(20, { linkUp := true })] }, 20, by decide +kernel⟩
theorem met_EthernetLinks_7 : ∃ s : State, ∃ k : Nat, s.variant.hasSlot k = true ∧ isEth k = true ∧ s.ethPort k = true ∧ s.cfgSlot E.portEthSerdesMode k = 0 ∧ s.cfgSlotOn E.portEthAnEnable k = true ∧ ((s.port k).linkUp = false) ∧ s.listens k = false ∧ s.portState k ≠ 0 ∧ s.portState k ≠ 5 :=
  ⟨(W.setPortState 16 1).slotCfg E.portEthAnEnable 16 1, 16, by decide +kernel⟩
theorem met_EthernetLinks_8 : ∃ s : State, ∃ k : Nat, s.variant.hasSlot k = true ∧ isEth k = true ∧ s.ethPort k = true ∧ ((s.port k).downTimer = true) ∧ s.portState k = 2 :=
  ⟨{ EN with ports := [(16, { downTimer := true })] }, 16, by decide +kernel⟩
theorem met_EthernetLinks_9 : ∃ s : State, ∃ k : Nat, s.variant.hasSlot k = true ∧ isEth k = true ∧ s.ethPort k = true ∧ ((s.port k).upTimer = true) ∧ ((s.portState k = 1 ∨ s.portState k = 4)) :=
  ⟨{ EN.setPortState 16 4 with ports := [(16, { upTimer := true })] }, 16, by decide +kernel⟩
theorem met_EthernetLinks_10 : ∃ s : State, ∃ k : Nat, s.variant.hasSlot k = true ∧ isEth k = true ∧ s.ethPort k = true ∧ s.listens k = false ∧ (s.portState k = 0 ∨ s.portState k = 5) :=
  ⟨W.setPortState 16 0, 16, by decide +kernel⟩
theorem met_EthernetLinks_11 : ∃ s : State, ∃ k : Nat, s.variant.hasSlot k = true ∧ isEth k = true ∧ s.ethPort k = true ∧ s.listens k = false ∧ (s.portState k = 0 ∨ s.portState k = 5) :=
  ⟨W.setPortState 16 5, 16, by decide +kernel⟩
theorem met_PauseAndPenalties_1 : ∃ s : State, ∃ k : Nat, ∃ c : Nat, s.variant.hasSlot k = true ∧ isEth k = true ∧ s.ethPort k = true ∧ bitAt (s.port k).pauseHeld c = true ∧ s.cfgSlot E.portEthRxPauseMode k = 1 :=
  ⟨{ EN.slotCfg E.portEthRxPauseMode 16 1 with ports := [(16, { linkUp := true, pauseHeld := 0xFF })] }, 16, 3, by decide +kernel⟩
theorem met_PauseAndPenalties_2 : ∃ s : State, ∃ k : Nat, ∃ c : Nat, s.variant.hasSlot k = true ∧ isEth k = true ∧ s.ethPort k = true ∧ bitAt (s.port k).pauseHeld c = true ∧ s.cfgSlot E.portEthRxPauseMode k = 2 :=
  ⟨{ EN.slotCfg E.portEthRxPauseMode 16 2 with ports := [(16, { linkUp := true, pauseHeld := 0xFF })] }, 16, 3, by decide +kernel⟩
theorem met_PauseAndPenalties_3 : ∃ s : State, ∃ k : Nat, ∃ c : Nat, s.variant.hasSlot k = true ∧ isEth k = true ∧ s.ethPort k = true ∧ bitAt (s.port k).pauseHeld c = true ∧ s.cfgSlot E.portEthRxPauseMode k = 2 :=
  ⟨{ EN.slotCfg E.portEthRxPauseMode 16 2 with ports := [(16, { linkUp := true, pauseHeld := 0xFF, penalty := 8 })] }, 16, 3, by decide +kernel⟩
theorem met_PauseAndPenalties_4 : ∃ s : State, ∃ k : Nat, ∃ c : Nat, s.variant.hasSlot k = true ∧ isEth k = true ∧ s.ethPort k = true ∧ bitAt (s.port k).pauseHeld c = true ∧ s.headWaits k c = true ∧ s.cfgSlot E.portEthRxPauseMode k = 1 :=
  ⟨{ EN.slotCfg E.portEthRxPauseMode 16 1 with ports := [(16, { linkUp := true, pauseHeld := 0xFF })], queues := [(queueRow 1 16 3, [CE])] }, 16, 3, by decide +kernel⟩
theorem met_PauseAndPenalties_5 : ∃ s : State, ∃ k : Nat, ∃ c : Nat, s.variant.hasSlot k = true ∧ isEth k = true ∧ s.ethPort k = true ∧ bitAt (s.port k).pauseHeld c = true ∧ s.headWaits k c = true ∧ s.cfgSlot E.portEthRxPauseMode k = 2 :=
  ⟨{ EN.slotCfg E.portEthRxPauseMode 16 2 with ports := [(16, { linkUp := true, pauseHeld := 0xFF })], queues := [(queueRow 1 16 3, [CE])] }, 16, 3, by decide +kernel⟩
theorem met_PauseAndPenalties_6 : ∃ s : State, ∃ k : Nat, ∃ c : Nat, s.variant.hasSlot k = true ∧ isEth k = true ∧ s.ethPort k = true ∧ bitAt (s.port k).penalty c = true ∧ ((s.cfgSlot E.portEthRxPauseMode k = 2 ∨ (s.port k).penalty ≠ 0xFF)) :=
  ⟨{ EN.slotCfg E.portEthRxPauseMode 16 2 with ports := [(16, { linkUp := true, penalty := 8 })] }, 16, 3, by decide +kernel⟩
theorem met_PauseAndPenalties_7 : ∃ s : State, ∃ k : Nat, ∃ c : Nat, s.variant.hasSlot k = true ∧ isEth k = true ∧ s.ethPort k = true ∧ s.ethOnLink k = true ∧ bitAt (s.port k).asserted c = true ∧ s.sendingRow k = none :=
  ⟨{ EN with ports := [(16, { linkUp := true, asserted := 8 })] }, 16, 3, by decide +kernel⟩
theorem met_PauseAndPenalties_8 : ∃ s : State, ∃ k : Nat, ∃ c : Nat, s.variant.hasSlot k = true ∧ isEth k = true ∧ s.ethPort k = true ∧ s.ethOnLink k = true ∧ bitAt (s.port k).asserted c = true ∧ ((s.sendingRow k).isSome = true) :=
  ⟨{ EN with ports := [(16, { linkUp := true, asserted := 8 })], queues := [(queueRow 1 16 3, [{ CE with sending := true }])] }, 16, 3, by decide +kernel⟩
theorem met_EthernetSendingAndTimers_1 : ∃ s : State, ∃ k : Nat, ∃ row, ∃ cp, s.variant.hasSlot k = true ∧ isEth k = true ∧ s.ethPort k = true ∧ s.sendingRow k = some row ∧ ((s.queue row).find? (·.sending) = some cp) ∧ s.portState k = 2 ∧ ((s.port k).reconfigure = false) ∧ ((s.die (slotDie k)).held = []) ∧ s.cfgOn E.captureEnable = false :=
  ⟨{ EN with queues := [(queueRow 1 16 0, [{ CE with sending := true }])] }, 16, queueRow 1 16 0, { CE with sending := true }, by decide +kernel⟩
theorem met_EthernetSendingAndTimers_2 : ∃ s : State, ∃ k : Nat, s.variant.hasSlot k = true ∧ isEth k = true ∧ s.ethOnLink k = true ∧ s.portState k = 2 ∧ s.cfgOn E.timeGptpEnable = true ∧ s.cfgSlotOn E.portEthGptpEnable k = true ∧ s.cfgSlotOn E.portSecMacsecEnable k = false ∧ s.stSlot E.portEthGptpAsCapable k = 1 ∧ s.clock.synced = true ∧ s.cfgOn E.timeGptpGmCapable = false :=
  ⟨{ (((EN.setCfg E.timeGptpEnable 1).slotCfg E.portEthGptpEnable 16 1).setSlot E.portEthGptpAsCapable 16 1) with clock := { EN.clock with synced := true } }, 16, by decide +kernel⟩
theorem met_EthernetSendingAndTimers_3 : ∃ s : State, ∃ k : Nat, s.variant.hasSlot k = true ∧ isEth k = true ∧ s.ethOnLink k = true ∧ s.portState k = 2 ∧ s.cfgOn E.timeGptpEnable = true ∧ s.cfgSlotOn E.portEthGptpEnable k = true ∧ s.cfgSlotOn E.portSecMacsecEnable k = false ∧ s.stSlot E.portEthGptpAsCapable k = 1 ∧ s.cfgOn E.timeGptpGmCapable = true :=
  ⟨((((EN.setCfg E.timeGptpEnable 1).slotCfg E.portEthGptpEnable 16 1).setSlot E.portEthGptpAsCapable 16 1).setCfg E.timeGptpGmCapable 1), 16, by decide +kernel⟩
theorem met_EthernetSendingAndTimers_4 : ∃ s : State, ∃ k : Nat, s.variant.hasSlot k = true ∧ isEth k = true ∧ s.ethOnLink k = true ∧ s.portState k = 2 ∧ s.cfgOn E.timeGptpEnable = true ∧ s.cfgSlotOn E.portEthGptpEnable k = true ∧ s.cfgSlotOn E.portSecMacsecEnable k = false :=
  ⟨(((EN.setCfg E.timeGptpEnable 1).slotCfg E.portEthGptpEnable 16 1).setSlot E.portEthGptpAsCapable 16 1), 16, by decide +kernel⟩
theorem met_EthernetSendingAndTimers_5 : ∃ s : State, ∃ k : Nat, s.variant.hasSlot k = true ∧ isEth k = true ∧ s.ethOnLink k = true ∧ s.portState k = 2 ∧ s.cfgOn E.timeGptpEnable = true ∧ s.cfgSlotOn E.portEthGptpEnable k = true ∧ s.cfgSlotOn E.portSecMacsecEnable k = false ∧ allowedLostResponses < (s.port k).pdelayLost + 1 :=
  ⟨{ (((EN.setCfg E.timeGptpEnable 1).slotCfg E.portEthGptpEnable 16 1).setSlot E.portEthGptpAsCapable 16 1) with ports := [(16, { linkUp := true, pdelayLost := 9 })] }, 16, by decide +kernel⟩
theorem met_EthernetSendingAndTimers_6 : ∃ s : State, ∃ k : Nat, s.variant.hasSlot k = true ∧ s.portState k = 3 ∧ ((s.port k).drainTimer = true) ∧ s.sendingRow k = none ∧ s.linSending k = false ∧ s.stSlot E.portCanPendingReEnable k ≠ 1 ∧ ((s.die (slotDie k)).held = []) ∧ ((s.die (slotDie k)).prcWait = []) :=
  ⟨{ EN.setPortState 16 3 with ports := [(16, { drainTimer := true })] }, 16, by decide +kernel⟩
theorem met_EthernetSendingAndTimers_7 : ∃ s : State, ∃ k : Nat, s.variant.hasSlot k = true ∧ ((s.port k).parked = true) ∧ ((s.port k).holdRunning = true) ∧ ((s.die (slotDie k)).held = []) :=
  ⟨{ EN.setPortState 16 4 with ports := [(16, { parked := true, holdRunning := true })] }, 16, by decide +kernel⟩
theorem met_EthernetSendingAndTimers_8 : ∃ s : State, ∃ k : Nat, s.variant.hasSlot k = true ∧ isEth k = true ∧ s.portState k = 3 :=
  ⟨EN.setPortState 16 3, 16, by decide +kernel⟩
theorem met_LearningAndAgeing_1 : ∃ s : State, ∃ n : Nat, ∃ r : LearnReq, ∃ rest, ∃ w, s.variant.hasDie n = true ∧ s.inRun = true ∧ s.dieRuns n = true ∧ ((s.die n).learnQ = r :: rest) ∧ fdbFind (s.die n).fdb r.realm r.mac = none ∧ fdbFreeWay (s.die n).fdb (fdbH1 r.realm r.mac) = some w :=
  ⟨{ W with dies := [(1, { up with learnQ := [⟨0, 0x0200000001, 16, false⟩] })] }, 1, (⟨0, 0x0200000001, 16, false⟩ : LearnReq), ([] : List LearnReq), (fdbPlaces 0 0x0200000001).headD 0, by decide +kernel⟩
theorem met_LearningAndAgeing_2 : ∃ s : State, ∃ n : Nat, ∃ r : LearnReq, ∃ rest, ∃ p, ∃ e : FdbEntry, s.variant.hasDie n = true ∧ s.inRun = true ∧ s.dieRuns n = true ∧ ((s.die n).learnQ = r :: rest) ∧ fdbFind (s.die n).fdb r.realm r.mac = some p ∧ mfind (s.die n).fdb p = some e ∧ e.isStatic = false ∧ e.dest = r.dest ∧ s.clock.ticks / 40 - e.since / 40 < 1000 * s.cfg E.fdbMoveHoldDown :=
  ⟨{ W with dies := [(1, { up with learnQ := [⟨0, 0x0200000001, 16, false⟩], fdb := [((fdbPlaces 0 0x0200000001).headD 0, ⟨0, 0x0200000001, 16, false, false, false, 0, 0, 0⟩)] })] }, 1, (⟨0, 0x0200000001, 16, false⟩ : LearnReq), ([] : List LearnReq), (fdbPlaces 0 0x0200000001).headD 0, (⟨0, 0x0200000001, 16, false, false, false, 0, 0, 0⟩ : FdbEntry), by decide +kernel⟩
theorem met_LearningAndAgeing_3 : ∃ s : State, ∃ n : Nat, ∃ r : LearnReq, ∃ rest, ∃ p, ∃ e : FdbEntry, s.variant.hasDie n = true ∧ s.inRun = true ∧ s.dieRuns n = true ∧ ((s.die n).learnQ = r :: rest) ∧ fdbFind (s.die n).fdb r.realm r.mac = some p ∧ mfind (s.die n).fdb p = some e ∧ e.isStatic = false ∧ e.dest ≠ r.dest ∧ s.clock.ticks / 40 - e.since / 40 < 1000 * s.cfg E.fdbMoveHoldDown :=
  ⟨{ W with dies := [(1, { up with learnQ := [⟨0, 0x0200000001, 16, false⟩], fdb := [((fdbPlaces 0 0x0200000001).headD 0, ⟨0, 0x0200000001, 17, false, false, false, 0, 0, 0⟩)] })] }, 1, (⟨0, 0x0200000001, 16, false⟩ : LearnReq), ([] : List LearnReq), (fdbPlaces 0 0x0200000001).headD 0, (⟨0, 0x0200000001, 17, false, false, false, 0, 0, 0⟩ : FdbEntry), by decide +kernel⟩
theorem met_LearningAndAgeing_4 : ∃ s : State, ∃ n : Nat, ∃ r : LearnReq, ∃ rest, ∃ p, ∃ e : FdbEntry, s.variant.hasDie n = true ∧ s.inRun = true ∧ s.dieRuns n = true ∧ ((s.die n).learnQ = r :: rest) ∧ fdbFind (s.die n).fdb r.realm r.mac = some p ∧ mfind (s.die n).fdb p = some e ∧ e.isStatic = false ∧ e.dest ≠ r.dest ∧ 1000 * s.cfg E.fdbMoveHoldDown ≤ s.clock.ticks / 40 - e.since / 40 :=
  ⟨{ W with dies := [(1, { up with learnQ := [⟨0, 0x0200000001, 16, false⟩], fdb := [((fdbPlaces 0 0x0200000001).headD 0, ⟨0, 0x0200000001, 17, false, false, false, 0, 0, 0⟩)] })], clock := { W.clock with ticks := 2^40 } }, 1, (⟨0, 0x0200000001, 16, false⟩ : LearnReq), ([] : List LearnReq), (fdbPlaces 0 0x0200000001).headD 0, (⟨0, 0x0200000001, 17, false, false, false, 0, 0, 0⟩ : FdbEntry), by decide +kernel⟩
theorem met_LearningAndAgeing_5 : ∃ s : State, ∃ n : Nat, ∃ r : LearnReq, ∃ rest, ∃ p, ∃ e : FdbEntry, s.variant.hasDie n = true ∧ s.inRun = true ∧ s.dieRuns n = true ∧ ((s.die n).learnQ = r :: rest) ∧ fdbFind (s.die n).fdb r.realm r.mac = some p ∧ mfind (s.die n).fdb p = some e ∧ e.isStatic = true ∧ e.dest ≠ r.dest ∧ e.lock = false :=
  ⟨{ W with dies := [(1, { up with learnQ := [⟨0, 0x0200000001, 16, false⟩], fdb := [((fdbPlaces 0 0x0200000001).headD 0, ⟨0, 0x0200000001, 17, true, false, false, 0, 0, 0⟩)] })] }, 1, (⟨0, 0x0200000001, 16, false⟩ : LearnReq), ([] : List LearnReq), (fdbPlaces 0 0x0200000001).headD 0, (⟨0, 0x0200000001, 17, true, false, false, 0, 0, 0⟩ : FdbEntry), by decide +kernel⟩
theorem met_LearningAndAgeing_6 : ∃ s : State, ∃ n : Nat, ∃ r : LearnReq, ∃ rest, ∃ p, ∃ e : FdbEntry, s.variant.hasDie n = true ∧ s.inRun = true ∧ s.dieRuns n = true ∧ ((s.die n).learnQ = r :: rest) ∧ fdbFind (s.die n).fdb r.realm r.mac = some p ∧ mfind (s.die n).fdb p = some e ∧ e.isStatic = true ∧ e.lock = false :=
  ⟨{ W with dies := [(1, { up with learnQ := [⟨0, 0x0200000001, 16, false⟩], fdb := [((fdbPlaces 0 0x0200000001).headD 0, ⟨0, 0x0200000001, 16, true, false, false, 0, 0, 0⟩)] })] }, 1, (⟨0, 0x0200000001, 16, false⟩ : LearnReq), ([] : List LearnReq), (fdbPlaces 0 0x0200000001).headD 0, (⟨0, 0x0200000001, 16, true, false, false, 0, 0, 0⟩ : FdbEntry), by decide +kernel⟩
theorem met_LearningAndAgeing_7 : ∃ s : State, ∃ n : Nat, s.variant.hasDie n = true ∧ s.inRun = true ∧ s.dieRuns n = true ∧ ((s.die n).learnQ = []) :=
  ⟨W, 1, by decide +kernel⟩
theorem met_LearningAndAgeing_8 : ∃ s : State, ∃ n : Nat, ∃ e : FdbEntry, ∃ a2 : FdbEntry, s.variant.hasDie n = true ∧ s.inRun = true ∧ s.dieRuns n = true ∧ e.age = some a2 ∧ ((∀ y ∈ (s.die n).fdb, y.1 / 4 = (s.die n).sweep → y.2.age ≠ none)) :=
  ⟨{ W with dies := [(1, { up with sweep := 8207 })] }, 1, (⟨0, 1, 16, false, false, false, 0, 0, 0⟩ : FdbEntry), (⟨0, 1, 16, false, false, false, 1, 0, 0⟩ : FdbEntry), by decide +kernel⟩
theorem met_LearningAndAgeing_9 : ∃ s : State, ∃ n : Nat, ∃ p, ∃ e : FdbEntry, ∃ a2 : FdbEntry, s.variant.hasDie n = true ∧ s.inRun = true ∧ s.dieRuns n = true ∧ ((s.die n).sweep < 8192) ∧ p / 4 = (s.die n).sweep ∧ mfind (s.die n).fdb p = some e ∧ e.age = some a2 ∧ ((∀ y ∈ (s.die n).fdb, y.1 / 4 = (s.die n).sweep → y.2.age ≠ none)) :=
  ⟨{ W with dies := [(1, { up with fdb := [(2, ⟨0, 1, 16, false, false, false, 0, 0, 0⟩)] })] }, 1, 2, (⟨0, 1, 16, false, false, false, 0, 0, 0⟩ : FdbEntry), (⟨0, 1, 16, false, false, false, 1, 0, 0⟩ : FdbEntry), by decide +kernel⟩
theorem met_LearningAndAgeing_10 : ∃ s : State, ∃ n : Nat, ∃ e : FdbEntry, s.variant.hasDie n = true ∧ s.inRun = true ∧ s.dieRuns n = true ∧ e.isStatic = false :=
  ⟨W, 1, (⟨0, 1, 16, false, false, false, 0, 0, 0⟩ : FdbEntry), by decide +kernel⟩
theorem met_LearningAndAgeing_11 : ∃ s : State, ∃ n : Nat, ∃ e : FdbEntry, s.variant.hasDie n = true ∧ s.inRun = true ∧ s.dieRuns n = true ∧ e.isStatic = false :=
  ⟨W, 1, (⟨0, 1, 16, false, false, true, 1, 0, 0⟩ : FdbEntry), by decide +kernel⟩
theorem met_LearningAndAgeing_12 : ∃ s : State, ∃ n : Nat, ∃ e : FdbEntry, s.variant.hasDie n = true ∧ s.inRun = true ∧ s.dieRuns n = true ∧ e.isStatic = false :=
  ⟨W, 1, (⟨0, 1, 16, false, false, false, 1, 0, 0⟩ : FdbEntry), by decide +kernel⟩
theorem met_TunnelBatches_1 : ∃ s : State, ∃ n, ∃ g, s.variant.hasDie n = true ∧ g < 8 ∧ s.inRun = true ∧ s.dieRuns n = true ∧ ((∀ c, c < 8 → (s.queue (queueRow n 28 c)).all (fun y => y.kind == .decap || mfind (s.placementOf n).tunnels y.tunnelRow != some (n, g)) = true)) :=
  ⟨W, 1, 0, by decide +kernel⟩
theorem met_TunnelBatches_2 : ∃ s : State, ∃ n, ∃ g, ∃ x, ∃ cp : Copy, ∃ row, ∃ ms : List Bytes, s.variant.hasDie n = true ∧ g < 8 ∧ s.inRun = true ∧ s.dieRuns n = true ∧ s.bp = [] ∧ ((s.die n).held = []) ∧ ((s.die n).prcWait = []) ∧ s.tunnelPick n (fun cp => cp.kind != .decap && mfind (s.placementOf n).tunnels cp.tunnelRow == some (n, g)) = (s, some x) ∧ ((s.queue x.1)[x.2]? = some cp) ∧ cp.tunnelRow = row ∧ s.rowMessages row cp = none ∧ ms.flatten.length ≤ s.tunnelRoom row ∧ ((s.tunnel row).msgs.length + ms.flatten.length ≤ s.tunnelRoom row) ∧ cp.cls < s.cfgRow E.tunnelBatchUrgentClass row ∧ ((s.tunnel row).isOpen = false) ∧ ((s.tunnel row).count + 1 = s.cfgRow E.tunnelBatchMax row ∨ s.cfgRow E.tunnelBatchUrgentClass row ≤ cp.cls) :=
  ⟨{ (W.setCfgRow E.tunnelDirection 2 2) with sumac := { W.sumac with inForce := { tunnels := [(2, (1, 0))] } }, queues := [(queueRow 1 28 3, [({ C0 with dests := [0x402], cls := 3 } : Copy)])], tunnels := [(2, {})] }, 1, 0, (queueRow 1 28 3, 0), ({ C0 with dests := [0x402], cls := 3 } : Copy), 2, (({ (W.setCfgRow E.tunnelDirection 2 2) with sumac := { W.sumac with inForce := { tunnels := [(2, (1, 0))] } }, queues := [(queueRow 1 28 3, [({ C0 with dests := [0x402], cls := 3 } : Copy)])], tunnels := [(2, {})] }).rowMessages 2 ({ C0 with dests := [0x402], cls := 3 } : Copy)).getD [], by decide +kernel⟩
theorem met_TunnelBatches_3 : ∃ s : State, ∃ n, ∃ g, ∃ x, ∃ cp : Copy, ∃ row, ∃ ms : List Bytes, s.variant.hasDie n = true ∧ g < 8 ∧ s.inRun = true ∧ s.dieRuns n = true ∧ s.bp = [] ∧ ((s.die n).held = []) ∧ ((s.die n).prcWait = []) ∧ s.tunnelPick n (fun cp => cp.kind != .decap && mfind (s.placementOf n).tunnels cp.tunnelRow == some (n, g)) = (s, some x) ∧ ((s.queue x.1)[x.2]? = some cp) ∧ cp.tunnelRow = row ∧ s.rowMessages row cp = some ms ∧ s.tunnelRoom row < ms.flatten.length ∧ cp.cls < s.cfgRow E.tunnelBatchUrgentClass row ∧ ((s.tunnel row).isOpen = false) ∧ ((s.tunnel row).count + 1 = s.cfgRow E.tunnelBatchMax row ∨ s.cfgRow E.tunnelBatchUrgentClass row ≤ cp.cls) :=
  ⟨{ (W.setCfgRow E.tunnelDirection 2 3).setCfgRow E.tunnelMtu 2 0 with sumac := { W.sumac with inForce := { tunnels := [(2, (1, 0))] } }, queues := [(queueRow 1 28 3, [({ C0 with dests := [0x402], cls := 3 } : Copy)])], tunnels := [(2, {})] }, 1, 0, (queueRow 1 28 3, 0), ({ C0 with dests := [0x402], cls := 3 } : Copy), 2, (({ (W.setCfgRow E.tunnelDirection 2 3).setCfgRow E.tunnelMtu 2 0 with sumac := { W.sumac with inForce := { tunnels := [(2, (1, 0))] } }, queues := [(queueRow 1 28 3, [({ C0 with dests := [0x402], cls := 3 } : Copy)])], tunnels := [(2, {})] }).rowMessages 2 ({ C0 with dests := [0x402], cls := 3 } : Copy)).getD [], by decide +kernel⟩
theorem met_TunnelBatches_4 : ∃ s : State, ∃ n, ∃ g, ∃ x, ∃ cp : Copy, ∃ row, ∃ ms : List Bytes, s.variant.hasDie n = true ∧ g < 8 ∧ s.inRun = true ∧ s.dieRuns n = true ∧ s.bp = [] ∧ ((s.die n).held = []) ∧ ((s.die n).prcWait = []) ∧ s.tunnelPick n (fun cp => cp.kind != .decap && mfind (s.placementOf n).tunnels cp.tunnelRow == some (n, g)) = (s, some x) ∧ ((s.queue x.1)[x.2]? = some cp) ∧ cp.tunnelRow = row ∧ s.rowMessages row cp = some ms ∧ ms.flatten.length ≤ s.tunnelRoom row ∧ ((s.tunnel row).isOpen = true) ∧ ((s.tunnel row).msgs.length + ms.flatten.length ≤ s.tunnelRoom row) ∧ ((s.tunnel row).count + 1 ≠ s.cfgRow E.tunnelBatchMax row) ∧ cp.cls < s.cfgRow E.tunnelBatchUrgentClass row ∧ s.cfgRow E.tunnelBatchMax row ≠ 1 :=
  ⟨{ ((((W.setCfgRow E.tunnelDirection 2 3).setCfgRow E.tunnelMtu 2 1500).setCfgRow E.tunnelBatchMax 2 5).setCfgRow E.tunnelBatchUrgentClass 2 7) with sumac := { W.sumac with inForce := { tunnels := [(2, (1, 0))] } }, queues := [(queueRow 1 28 3, [({ C0 with dests := [0x402], cls := 3 } : Copy)])], tunnels := [(2, { isOpen := true, msgs := [1, 2], count := 1 })] }, 1, 0, (queueRow 1 28 3, 0), ({ C0 with dests := [0x402], cls := 3 } : Copy), 2, (({ ((((W.setCfgRow E.tunnelDirection 2 3).setCfgRow E.tunnelMtu 2 1500).setCfgRow E.tunnelBatchMax 2 5).setCfgRow E.tunnelBatchUrgentClass 2 7) with sumac := { W.sumac with inForce := { tunnels := [(2, (1, 0))] } }, queues := [(queueRow 1 28 3, [({ C0 with dests := [0x402], cls := 3 } : Copy)])], tunnels := [(2, { isOpen := true, msgs := [1, 2], count := 1 })] }).rowMessages 2 ({ C0 with dests := [0x402], cls := 3 } : Copy)).getD [], by decide +kernel⟩
theorem met_TunnelBatches_5 : ∃ s : State, ∃ n, ∃ g, ∃ x, ∃ cp : Copy, ∃ row, ∃ ms : List Bytes, s.variant.hasDie n = true ∧ g < 8 ∧ s.inRun = true ∧ s.dieRuns n = true ∧ s.bp = [] ∧ ((s.die n).held = []) ∧ ((s.die n).prcWait = []) ∧ s.tunnelPick n (fun cp => cp.kind != .decap && mfind (s.placementOf n).tunnels cp.tunnelRow == some (n, g)) = (s, some x) ∧ ((s.queue x.1)[x.2]? = some cp) ∧ cp.tunnelRow = row ∧ s.rowMessages row cp = some ms ∧ ms.flatten.length ≤ s.tunnelRoom row ∧ ((s.tunnel row).msgs.length + ms.flatten.length ≤ s.tunnelRoom row) ∧ ((s.tunnel row).count + 1 ≠ s.cfgRow E.tunnelBatchMax row) ∧ cp.cls < s.cfgRow E.tunnelBatchUrgentClass row ∧ ((s.tunnel row).isOpen = false) ∧ s.cfgRow E.tunnelBatchMax row ≠ 1 :=
  ⟨{ ((((W.setCfgRow E.tunnelDirection 2 3).setCfgRow E.tunnelMtu 2 1500).setCfgRow E.tunnelBatchMax 2 5).setCfgRow E.tunnelBatchUrgentClass 2 7) with sumac := { W.sumac with inForce := { tunnels := [(2, (1, 0))] } }, queues := [(queueRow 1 28 3, [({ C0 with dests := [0x402], cls := 3 } : Copy)])], tunnels := [(2, {})] }, 1, 0, (queueRow 1 28 3, 0), ({ C0 with dests := [0x402], cls := 3 } : Copy), 2, (({ ((((W.setCfgRow E.tunnelDirection 2 3).setCfgRow E.tunnelMtu 2 1500).setCfgRow E.tunnelBatchMax 2 5).setCfgRow E.tunnelBatchUrgentClass 2 7) with sumac := { W.sumac with inForce := { tunnels := [(2, (1, 0))] } }, queues := [(queueRow 1 28 3, [({ C0 with dests := [0x402], cls := 3 } : Copy)])], tunnels := [(2, {})] }).rowMessages 2 ({ C0 with dests := [0x402], cls := 3 } : Copy)).getD [], by decide +kernel⟩
theorem met_TunnelBatches_6 : ∃ s : State, ∃ n, ∃ g, ∃ x, ∃ cp : Copy, ∃ row, ∃ ms : List Bytes, s.variant.hasDie n = true ∧ g < 8 ∧ s.inRun = true ∧ s.dieRuns n = true ∧ s.bp = [] ∧ ((s.die n).held = []) ∧ ((s.die n).prcWait = []) ∧ s.tunnelPick n (fun cp => cp.kind != .decap && mfind (s.placementOf n).tunnels cp.tunnelRow == some (n, g)) = (s, some x) ∧ ((s.queue x.1)[x.2]? = some cp) ∧ cp.tunnelRow = row ∧ s.rowMessages row cp = some ms ∧ ms.flatten.length ≤ s.tunnelRoom row ∧ ((s.tunnel row).isOpen = true) ∧ ((s.tunnel row).msgs.length + ms.flatten.length ≤ s.tunnelRoom row) ∧ cp.cls < s.cfgRow E.tunnelBatchUrgentClass row ∧ s.cfgRow E.tunnelBatchMax row ≠ 1 ∧ ((s.tunnel row).count + 1 = s.cfgRow E.tunnelBatchMax row ∨ s.cfgRow E.tunnelBatchUrgentClass row ≤ cp.cls) :=
  ⟨{ ((((W.setCfgRow E.tunnelDirection 2 3).setCfgRow E.tunnelMtu 2 1500).setCfgRow E.tunnelBatchMax 2 5).setCfgRow E.tunnelBatchUrgentClass 2 7) with sumac := { W.sumac with inForce := { tunnels := [(2, (1, 0))] } }, queues := [(queueRow 1 28 3, [({ C0 with dests := [0x402], cls := 3 } : Copy)])], tunnels := [(2, { isOpen := true, msgs := [1, 2], count := 4 })] }, 1, 0, (queueRow 1 28 3, 0), ({ C0 with dests := [0x402], cls := 3 } : Copy), 2, (({ ((((W.setCfgRow E.tunnelDirection 2 3).setCfgRow E.tunnelMtu 2 1500).setCfgRow E.tunnelBatchMax 2 5).setCfgRow E.tunnelBatchUrgentClass 2 7) with sumac := { W.sumac with inForce := { tunnels := [(2, (1, 0))] } }, queues := [(queueRow 1 28 3, [({ C0 with dests := [0x402], cls := 3 } : Copy)])], tunnels := [(2, { isOpen := true, msgs := [1, 2], count := 4 })] }).rowMessages 2 ({ C0 with dests := [0x402], cls := 3 } : Copy)).getD [], by decide +kernel⟩
theorem met_TunnelBatches_7 : ∃ s : State, ∃ n, ∃ x, ∃ cp : Copy, ∃ row, ∃ ver, ∃ sq, s.variant.hasDie n = true ∧ s.inRun = true ∧ s.dieRuns n = true ∧ s.bp = [] ∧ ((s.die n).held = []) ∧ ((s.die n).prcWait = []) ∧ ((s.die n).decapRest = none) ∧ s.tunnelPick n (fun cp => cp.kind == .decap) = (s, some x) ∧ ((s.queue x.1)[x.2]? = some cp) ∧ cp.tunnelRow = row ∧ ver = (if s.cfgRow E.tunnelPduFormat row = 1 then 5 else 0x82) ∧ sq = byteAt (ethPayload cp.frame.data) (if s.cfgRow E.tunnelPduFormat row = 1 then 2 else 3) ∧ byteAt (ethPayload cp.frame.data) 0 ≠ ver ∧ byteAt (ethPayload cp.frame.data) 1 / 16 % 8 = 0 ∧ ((pduLengths (s.cfgRow E.tunnelPduFormat row == 1) (ethPayload cp.frame.data)).1 + (pduLengths (s.cfgRow E.tunnelPduFormat row == 1) (ethPayload cp.frame.data)).2 ≤ (ethPayload cp.frame.data).length) :=
  ⟨{ W with sumac := { W.sumac with inForce := { tunnels := [(2, (1, 0))] } }, queues := [(queueRow 1 28 3, [({ CE with dests := [0x402], cls := 3, kind := .decap, frame := { fmt := .eth, data := List.replicate 12 0 ++ [0x22, 0xF0] ++ [1, 0, 0, 9] ++ List.replicate 60 0 } } : Copy)])], tunnels := [(2, {})] }, 1, (queueRow 1 28 3, 0), ({ CE with dests := [0x402], cls := 3, kind := .decap, frame := { fmt := .eth, data := List.replicate 12 0 ++ [0x22, 0xF0] ++ [1, 0, 0, 9] ++ List.replicate 60 0 } } : Copy), 2, 0x82, 9, by decide +kernel⟩
theorem met_TunnelBatches_8 : ∃ s : State, ∃ n, ∃ x, ∃ cp : Copy, ∃ row, ∃ ver, ∃ sq, ∃ e, s.variant.hasDie n = true ∧ s.inRun = true ∧ s.dieRuns n = true ∧ s.bp = [] ∧ ((s.die n).held = []) ∧ ((s.die n).prcWait = []) ∧ ((s.die n).decapRest = none) ∧ s.tunnelPick n (fun cp => cp.kind == .decap) = (s, some x) ∧ ((s.queue x.1)[x.2]? = some cp) ∧ cp.tunnelRow = row ∧ ver = (if s.cfgRow E.tunnelPduFormat row = 1 then 5 else 0x82) ∧ sq = byteAt (ethPayload cp.frame.data) (if s.cfgRow E.tunnelPduFormat row = 1 then 2 else 3) ∧ byteAt (ethPayload cp.frame.data) 0 = ver ∧ byteAt (ethPayload cp.frame.data) 1 / 16 % 8 = 0 ∧ ((pduLengths (s.cfgRow E.tunnelPduFormat row == 1) (ethPayload cp.frame.data)).1 + (pduLengths (s.cfgRow E.tunnelPduFormat row == 1) (ethPayload cp.frame.data)).2 ≤ (ethPayload cp.frame.data).length) ∧ ((s.tunnel row).accepts sq = .inr e) :=
  ⟨{ W with sumac := { W.sumac with inForce := { tunnels := [(2, (1, 0))] } }, queues := [(queueRow 1 28 3, [({ CE with dests := [0x402], cls := 3, kind := .decap, frame := { fmt := .eth, data := List.replicate 12 0 ++ [0x22, 0xF0] ++ [0x82, 0x80, 0, 9] ++ List.replicate 60 0 } } : Copy)])], tunnels := [(2, { synced := true, rxLast := 9 })] }, 1, (queueRow 1 28 3, 0), ({ CE with dests := [0x402], cls := 3, kind := .decap, frame := { fmt := .eth, data := List.replicate 12 0 ++ [0x22, 0xF0] ++ [0x82, 0x80, 0, 9] ++ List.replicate 60 0 } } : Copy), 2, 0x82, 9, E.tunnelCntDupPdus, by decide +kernel⟩
theorem met_TunnelBatches_9 : ∃ s : State, ∃ n, ∃ x, ∃ cp : Copy, ∃ row, ∃ ver, ∃ sq, ∃ lost, s.variant.hasDie n = true ∧ s.inRun = true ∧ s.dieRuns n = true ∧ s.bp = [] ∧ ((s.die n).held = []) ∧ ((s.die n).prcWait = []) ∧ ((s.die n).decapRest = none) ∧ s.tunnelPick n (fun cp => cp.kind == .decap) = (s, some x) ∧ ((s.queue x.1)[x.2]? = some cp) ∧ cp.tunnelRow = row ∧ ver = (if s.cfgRow E.tunnelPduFormat row = 1 then 5 else 0x82) ∧ sq = byteAt (ethPayload cp.frame.data) (if s.cfgRow E.tunnelPduFormat row = 1 then 2 else 3) ∧ byteAt (ethPayload cp.frame.data) 0 = ver ∧ byteAt (ethPayload cp.frame.data) 1 / 16 % 8 = 0 ∧ ((pduLengths (s.cfgRow E.tunnelPduFormat row == 1) (ethPayload cp.frame.data)).1 + (pduLengths (s.cfgRow E.tunnelPduFormat row == 1) (ethPayload cp.frame.data)).2 ≤ (ethPayload cp.frame.data).length) ∧ ((s.tunnel row).accepts sq = .inl lost) :=
  ⟨{ W with sumac := { W.sumac with inForce := { tunnels := [(2, (1, 0))] } }, queues := [(queueRow 1 28 3, [({ CE with dests := [0x402], cls := 3, kind := .decap, frame := { fmt := .eth, data := List.replicate 12 0 ++ [0x22, 0xF0] ++ [0x82, 0x80, 0, 9] ++ List.replicate 60 0 } } : Copy)])], tunnels := [(2, { synced := true, rxLast := 6 })] }, 1, (queueRow 1 28 3, 0), ({ CE with dests := [0x402], cls := 3, kind := .decap, frame := { fmt := .eth, data := List.replicate 12 0 ++ [0x22, 0xF0] ++ [0x82, 0x80, 0, 9] ++ List.replicate 60 0 } } : Copy), 2, 0x82, 9, 2, by decide +kernel⟩
theorem met_TunnelBatches_10 : ∃ s : State, ∃ row, ∃ n, ∃ g, s.inRun = true ∧ ((s.tunnel row).timer = true) ∧ ((s.tunnel row).isOpen = true) ∧ mfind s.sumac.inForce.tunnels row = some (n, g) ∧ s.dieRuns n = true :=
  ⟨{ W with sumac := { W.sumac with inForce := { tunnels := [(2, (1, 0))] } }, tunnels := [(2, { isOpen := true, timer := true, txSeq := 255, msgs := [1, 2, 3, 4], count := 1 })] }, 2, 1, 0, by decide +kernel⟩
theorem met_TunnelBatches_11 : ∃ s : State, ∃ n, s.variant.hasDie n = true ∧ s.inRun = true ∧ s.dieRuns n = true ∧ s.producerHeld n (0x200 + n) = true :=
  ⟨{ W with dies := [(1, { up with held := [(0, { C0 with source := 0x201 })] })] }, 1, by decide +kernel⟩
theorem met_TunnelBatches_12 : ∃ s : State, ∃ row, ((s.tunnel row).synced = true) :=
  ⟨{ W with tunnels := [(2, { synced := true, rxLast := 7 })] }, 2, by decide +kernel⟩
theorem met_TunnelBatches_13 : ∃ s : State, ∃ t : Tunnel, t.synced = true :=
  ⟨W, ({ synced := true, rxLast := 250 } : Tunnel), by decide +kernel⟩
theorem met_TunnelBatches_14 : ∃ s : State, ∃ t : Tunnel, t.synced = false :=
  ⟨W, ({ rxLast := 250 } : Tunnel), by decide +kernel⟩
theorem met_MultifunctionInputs_1 : ∃ s : State, ∃ i : Nat, i < 16 ∧ s.measureOn = true ∧ s.cfgMi E.miMode i = 1 ∧ s.cfgMi E.miAverage i = 0 :=
  ⟨(W.setCfg (E.miMode + 2 * 256) 1).setCfg (E.miAverage + 2 * 256) 0, 2, by decide +kernel⟩
theorem met_MultifunctionInputs_2 : ∃ s : State, ∃ i : Nat, i < 16 ∧ s.measureOn = true ∧ ((s.cfgMi E.miMode i = 3 ∨ s.cfgMi E.miMode i = 4)) :=
  ⟨W.setCfg (E.miMode + 2 * 256) 3, 2, by decide +kernel⟩
theorem met_MultifunctionInputs_3 : ∃ s : State, ∃ i : Nat, i < 16 ∧ s.measureOn = true ∧ s.cfgMi E.miMode i = 2 ∧ ((s.mi i).debounce = true) :=
  ⟨{ W.setCfg (E.miMode + 2 * 256) 2 with measure := { W.measure with mi := [(2, { debounce := true, level := true })] } }, 2, by decide +kernel⟩
theorem met_MultifunctionInputs_4 : ∃ s : State, ∃ i : Nat, ∃ tn, ∃ rest, i < 16 ∧ s.measureOn = true ∧ ((s.cfgMi E.miMode i = 3 ∨ s.cfgMi E.miMode i = 4)) ∧ ((s.mi i).rises = tn :: rest) :=
  ⟨{ W.setCfg (E.miMode + 2 * 256) 4 with measure := { W.measure with mi := [(2, { rises := [100, 50] })] }, clock := { W.clock with ticks := 200 } }, 2, 100, [50], by decide +kernel⟩
theorem met_MultifunctionInputs_5 : ∃ s : State, ∃ i : Nat, ∃ tn, ∃ rest, ∃ v, i < 16 ∧ s.measureOn = true ∧ ((s.cfgMi E.miMode i = 3 ∨ s.cfgMi E.miMode i = 4)) ∧ ((s.mi i).rises = tn :: rest) ∧ ((s.mi i).gateValue (s.cfgMi E.miMode i == 4) = some v) :=
  ⟨{ W.setCfg (E.miMode + 2 * 256) 4 with measure := { W.measure with mi := [(2, { rises := [4000000, 2000000], high := 900000, highDone := 900000, ref := some 1000000, has := true })] }, clock := { W.clock with ticks := 5000000 } }, 2, 4000000, [2000000], ((({ W.setCfg (E.miMode + 2 * 256) 4 with measure := { W.measure with mi := [(2, { rises := [4000000, 2000000], high := 900000, highDone := 900000, ref := some 1000000, has := true })] }, clock := { W.clock with ticks := 5000000 } }).mi (2)).gateValue (({ W.setCfg (E.miMode + 2 * 256) 4 with measure := { W.measure with mi := [(2, { rises := [4000000, 2000000], high := 900000, highDone := 900000, ref := some 1000000, has := true })] }, clock := { W.clock with ticks := 5000000 } }).cfgMi E.miMode (2) == 4)).getD 0, by decide +kernel⟩
theorem met_MultifunctionInputs_6 : ∃ s : State, ∃ i : Nat, i < 16 ∧ s.measureOn = true ∧ s.cfgMi E.miMode i ≠ 0 ∧ s.cfgMi E.miDiagOpenEnable i = 1 :=
  ⟨(W.setCfg (E.miMode + 2 * 256) 1).setCfg (E.miDiagOpenEnable + 2 * 256) 1, 2, by decide +kernel⟩
theorem met_SpeedInputs_1 : ∃ s : State, ∃ k, k < 4 ∧ s.measureOn = true ∧ s.cfgMi E.spdMode k ≠ 0 ∧ ((s.spd k).refNext = false) :=
  ⟨W.setCfg (E.spdMode + 256) 1, 1, by decide +kernel⟩
theorem met_SpeedInputs_2 : ∃ s : State, ∃ k, k < 4 ∧ s.measureOn = true ∧ s.cfgMi E.spdMode k ≠ 0 ∧ ((s.spd k).refNext = true) :=
  ⟨{ W.setCfg (E.spdMode + 256) 1 with measure := { W.measure with spd := [(1, { refNext := true })] } }, 1, by decide +kernel⟩
theorem met_SpeedInputs_3 : ∃ s : State, ∃ k, k < 4 ∧ s.measureOn = true ∧ s.cfgMi E.spdMode k ≠ 0 :=
  ⟨W.setCfg (E.spdMode + 256) 1, 1, by decide +kernel⟩
theorem met_SpeedInputs_4 : ∃ s : State, ∃ k, k < 4 ∧ s.measureOn = true ∧ s.cfgMi E.spdMode k ≠ 0 ∧ ((s.spd k).valid = true) ∧ 0 < (s.spdSpan k).1 ∧ ((s.spdSpan k).2 < (s.clock.ticks - (s.spd k).edges.headD 0) * (s.spdSpan k).1) ∧ s.clock.ticks - (s.spd k).edges.headD 0 < msTicks (s.cfgMi E.spdZeroTimeout k) :=
  ⟨{ (W.setCfg (E.spdMode + 256) 1).setCfg (E.spdPulsesPerKm + 256) 8000 with measure := { W.measure with spd := [(1, { valid := true, edges := [2000, 1000] })] }, clock := { W.clock with ticks := 5000 } }, 1, by decide +kernel⟩
theorem met_SpeedInputs_5 : ∃ s : State, ∃ k, ∃ b : Bool, k < 4 ∧ s.measureOn = true ∧ s.cfgMi E.spdMode k = 2 ∧ b = true ∧ ((s.spd k).isOpen = false) :=
  ⟨W.setCfg (E.spdMode + 256) 2, 1, true, by decide +kernel⟩
theorem met_SpeedInputs_6 : ∃ s : State, ∃ k, s.inRun = true ∧ k < 4 :=
  ⟨{ W with measure := { W.measure with spd := [(1, { count := 77, reversed := true })] } }, 1, by decide +kernel⟩
theorem met_SpeedInputs_7 : ∃ s : State, s.inRun = true :=
  ⟨W, by decide +kernel⟩
theorem met_SuppliesLevelsAndTaps_1 : ∃ s : State, s.measureOn = true :=
  ⟨W, by decide +kernel⟩
theorem met_SuppliesLevelsAndTaps_2 : ∃ s : State, s.measureOn = true ∧ 15 ≤ s.measure.vbat.length :=
  ⟨{ W with measure := { W.measure with vbat := List.replicate 15 11000000 } }, by decide +kernel⟩
theorem met_SuppliesLevelsAndTaps_3 : ∃ s : State, ∃ n, ∃ row, ∃ v, s.variant.hasDie n = true ∧ s.inRun = true ∧ s.dieRuns n = true ∧ ((mget {} (s.die n).taps row).held = some v) ∧ s.laneRoom n = true :=
  ⟨{ W with dies := [(1, { up with taps := [(3, { held := some (1, 2, 3) })] })] }, 1, 3, (1, 2, 3), by decide +kernel⟩
theorem met_SuppliesLevelsAndTaps_4 : ∃ s : State, ∃ n, ∃ row, ∃ v, ∃ ts, ∃ slot, ∃ l, s.variant.hasDie n = true ∧ s.rulesOn = true ∧ s.linkTo n = true ∧ ((s.die n).lane2 = .tap row v ts slot :: l) ∧ s.cfgRowOn E.tapValid row = true ∧ mfind s.measure.taps row = none :=
  ⟨{ W.setCfgRow E.tapValid 3 1 with dies := [(1, { up with lane2 := [.tap 3 5 6 7] })] }, 1, 3, 5, 6, 7, ([] : List Lane2), by decide +kernel⟩
theorem met_SuppliesLevelsAndTaps_5 : ∃ s : State, ∃ n, ∃ row, ∃ v, ∃ ts, ∃ slot, ∃ l, ∃ y, s.variant.hasDie n = true ∧ s.rulesOn = true ∧ s.linkTo n = true ∧ ((s.die n).lane2 = .tap row v ts slot :: l) ∧ s.cfgRowOn E.tapValid row = true ∧ mfind s.measure.taps row = some y ∧ y.2.1 < ts :=
  ⟨{ W.setCfgRow E.tapValid 3 1 with dies := [(1, { up with lane2 := [.tap 3 5 6 7] })], measure := { W.measure with taps := [(3, (1, 5, 2))] } }, 1, 3, 5, 6, 7, ([] : List Lane2), (1, 5, 2), by decide +kernel⟩
theorem met_SuppliesLevelsAndTaps_6 : ∃ s : State, ∃ n, ∃ row, ∃ v, ∃ ts, ∃ slot, ∃ l, ∃ y, s.variant.hasDie n = true ∧ s.rulesOn = true ∧ s.linkTo n = true ∧ ((s.die n).lane2 = .tap row v ts slot :: l) ∧ s.cfgRowOn E.tapValid row = true ∧ mfind s.measure.taps row = some y ∧ ts ≤ y.2.1 :=
  ⟨{ W.setCfgRow E.tapValid 3 1 with dies := [(1, { up with lane2 := [.tap 3 5 6 7] })], measure := { W.measure with taps := [(3, (1, 6, 2))] } }, 1, 3, 5, 6, 7, ([] : List Lane2), (1, 6, 2), by decide +kernel⟩
theorem met_RulesMoveByTheirVerdict_1 : ∃ s : State, s.rulesOn = true ∧ s.validRows E.ruleValid = [] :=
  ⟨W, by decide +kernel⟩
theorem met_RulesMoveByTheirVerdict_2 : ∃ s : State, s.rulesOn = true :=
  ⟨W, by decide +kernel⟩
theorem met_RulesMoveByTheirVerdict_3 : ∃ s : State, ∃ row, s.rulesOn = true ∧ s.validRows E.ruleValid = [row] ∧ ((s.rule row).state = 2) ∧ s.verdict row = .disagree ∧ s.cfgRow E.rulePersistence row ≠ 0 :=
  ⟨{ (RV 5).setCfgRow E.rulePersistence 0 100 with measure := { (RV 5).measure with rules := [(0, { state := 2 })] } }, 0, by decide +kernel⟩
theorem met_RulesMoveByTheirVerdict_4 : ∃ s : State, ∃ row, s.rulesOn = true ∧ s.validRows E.ruleValid = [row] ∧ s.cfgRow E.rulePersistence row ≠ 0 ∧ ((s.rule row).state = 3) ∧ s.verdict row = .stale :=
  ⟨{ RV 5 with measure := { (RV 5).measure with mi := [] } }, 0, by decide +kernel⟩
theorem met_RulesMoveByTheirVerdict_5 : ∃ s : State, ∃ row, s.rulesOn = true ∧ s.cfgRowOn E.ruleValid row = true ∧ ((s.rule row).timer = true) ∧ ((s.rule row).state = 3) ∧ s.verdict row = .disagree :=
  ⟨RV 5, 0, by decide +kernel⟩
theorem met_RulesMoveByTheirVerdict_6 : ∃ s : State, ∃ row, s.rulesOn = true ∧ s.cfgRowOn E.ruleValid row = true ∧ ((s.rule row).timer = true) ∧ ((s.rule row).state = 3) ∧ s.verdict row = .agree :=
  ⟨RV 0, 0, by decide +kernel⟩
theorem met_TimeAndLifeCycleEvents_1 : ∃ s : State, s.inRun = true ∧ s.cfgOn E.timeGptpEnable = true :=
  ⟨W.setCfg E.timeGptpEnable 1, by decide +kernel⟩
theorem met_TimeAndLifeCycleEvents_2 : ∃ s : State, s.inRun = true ∧ s.cfgOn E.timeGptpEnable = true :=
  ⟨{ W.setCfg E.timeGptpEnable 1 with clock := { W.clock with synced := true } }, by decide +kernel⟩
theorem met_TimeAndLifeCycleEvents_3 : ∃ s : State, s.inRun = true ∧ s.life.state = 3 ∧ s.life.change = none ∧ s.safe.securityDown = false ∧ s.ev.nextSeal < sealNumbers :=
  ⟨{ W with life := { W.life with state := 3 } }, by decide +kernel⟩
theorem met_TimeAndLifeCycleEvents_4 : ∃ s : State, s.inRun = true ∧ s.life.state = 5 ∧ s.pendingDone = true ∧ s.safe.securityDown = false ∧ s.life.change = none ∧ s.ev.nextSeal < sealNumbers :=
  ⟨{ W with life := { W.life with state := 5, pendingSeq := 9 }, ev := { W.ev with lastSeq := 9, journal := [(9, ⟨9, [1], true, true, false⟩)] } }, by decide +kernel⟩
theorem met_TimeAndLifeCycleEvents_5 : ∃ s : State, s.inRun = true ∧ s.life.state = 5 ∧ s.pendingDone = true ∧ s.safe.securityDown = false ∧ s.life.change = none ∧ sealNumbers ≤ s.ev.nextSeal :=
  ⟨{ W with life := { W.life with state := 5, pendingSeq := 9 }, ev := { W.ev with nextSeal := sealNumbers, lastSeq := 9, journal := [(9, ⟨9, [1], true, true, false⟩)] } }, by decide +kernel⟩
theorem met_DictionaryWrites_1 : ∃ s : State, ∃ sess : Nat, ∃ index : Nat, ∃ sub : Nat, ∃ o : OdObject, ∃ b : Bytes, ∃ x, ∃ k, odObject s.variant index = some o ∧ s.accepts sess index sub (s.cursorRow sess index) b = true ∧ odEntry s.variant (index * 256 + sub) = some x ∧ x.acc = .rw ∧ x.live = false ∧ s.mayStage sess = true ∧ s.hasRoom [(okey (index * 256 + sub) (o.keyRow (s.cursorRow sess index)), leNat b)] = true ∧ k ≠ okey (index * 256 + sub) (o.keyRow (s.cursorRow sess index)) :=
  ⟨Z, 0, 0x3400, 7, (odObject (Z).variant (0x3400)).getD dObj, ([0x10, 0x01] : Bytes), (odEntry (Z).variant ((0x3400) * 256 + (7))).getD dEnt, 5, by decide +kernel⟩
theorem met_DictionaryWrites_2 : ∃ s : State, ∃ sess : Nat, ∃ index : Nat, ∃ sub : Nat, ∃ o : OdObject, ∃ b : Bytes, ∃ x, odObject s.variant index = some o ∧ s.accepts sess index sub (s.cursorRow sess index) b = true ∧ odEntry s.variant (index * 256 + sub) = some x ∧ x.acc = .rw ∧ x.live = false ∧ s.committing = true :=
  ⟨{ Z with commit := { Z.commit with phase := .placing } }, 0, 0x3400, 7, (odObject ({ Z with commit := { Z.commit with phase := .placing } }).variant (0x3400)).getD dObj, ([0x10, 0x01] : Bytes), (odEntry ({ Z with commit := { Z.commit with phase := .placing } }).variant ((0x3400) * 256 + (7))).getD dEnt, by decide +kernel⟩
theorem met_DictionaryWrites_3 : ∃ s : State, ∃ sess : Nat, ∃ index : Nat, ∃ sub : Nat, ∃ o : OdObject, ∃ b : Bytes, ∃ e, odObject s.variant index = some o ∧ s.accepts sess index sub (s.cursorRow sess index) b = true ∧ sessionEntry (index * 256 + sub) = true ∧ e ≠ index * 256 + sub :=
  ⟨Z, 1, 0x1200, 9, (odObject (Z).variant (0x1200)).getD dObj, ([1] : Bytes), 0x321001, by decide +kernel⟩
theorem met_DictionaryWrites_4 : ∃ s : State, ∃ sess : Nat, ∃ index : Nat, ∃ o : OdObject, ∃ b : Bytes, odObject s.variant index = some o ∧ s.hasSess sess = true ∧ s.serves sess = true ∧ o.cap ≠ 0 ∧ s.reachStatus sess index 0xFE (s.cursorRow sess index) o = 0 ∧ o.rowRead ≤ s.sessLevel sess ∧ b.length = 4 ∧ leNat b < o.rows s.variant :=
  ⟨Z, 1, 0x2510, (odObject (Z).variant (0x2510)).getD dObj, ([3, 1, 0, 0] : Bytes), by decide +kernel⟩
theorem met_DictionaryWrites_5 : ∃ s : State, ∃ sess : Nat, ∃ index : Nat, ∃ o : OdObject, ∃ f, ∃ k, odObject s.variant index = some o ∧ s.hasSess sess = true ∧ s.serves sess = true ∧ o.cap ≠ 0 ∧ o.rowWrite ≠ 9 ∧ s.reachStatus sess index 0xFF (s.cursorRow sess index) o = 0 ∧ o.rowWrite ≤ s.sessLevel sess ∧ s.mayStage sess = true ∧ s.hasRoom (o.fields.map (fun f => (okey (index * 256 + f) (s.cursorRow sess index), if f == 1 then 0 else s.effDefault (okey (index * 256 + f) (s.cursorRow sess index))))) = true ∧ f ∈ o.fields ∧ ((∀ f, f ∈ o.fields → k ≠ okey (index * 256 + f) (s.cursorRow sess index))) :=
  ⟨Z, 1, 0x2510, (odObject (Z).variant (0x2510)).getD dObj, 3, 5, by decide +kernel⟩
theorem met_DictionaryWrites_6 : ∃ s : State, ∃ sess : Nat, ∃ index : Nat, ∃ sub : Nat, ∃ o : OdObject, odObject s.variant index = some o ∧ s.accepts sess index sub (s.cursorRow sess index) [1] = true ∧ clearRanges index sub ≠ [] :=
  ⟨Z.setRow 0x251103 2 7, 1, 0x2511, 7, (odObject (Z.setRow 0x251103 2 7).variant (0x2511)).getD dObj, by decide +kernel⟩
theorem met_DictionaryWrites_7 : ∃ s : State, ∃ sess : Nat, ∃ index : Nat, ∃ o : OdObject, ∃ a, ∃ l, odObject s.variant index = some o ∧ mget [] s.relays sess = a :: l :=
  ⟨{ Z with relays := [(1, [.sdo 3 C0.frame, .sdo 4 C0.frame])] }, 1, 0x1200, (odObject ({ Z with relays := [(1, [.sdo 3 C0.frame, .sdo 4 C0.frame])] }).variant (0x1200)).getD dObj, Out.sdo 3 C0.frame, [Out.sdo 4 C0.frame], by decide +kernel⟩
theorem met_DictionaryWrites_8 : ∃ s : State, ∃ sess : Nat, ∃ index : Nat, ∃ o : OdObject, ∃ a, ∃ l, ∃ x, odObject s.variant index = some o ∧ mget [] s.relays sess = a :: l ∧ ((match a with | .anise _ _ => false | _ => true) = true) ∧ x ≠ sess :=
  ⟨{ Z with relays := [(1, [.sdo 3 C0.frame, .sdo 4 C0.frame])] }, 1, 0x1200, (odObject ({ Z with relays := [(1, [.sdo 3 C0.frame, .sdo 4 C0.frame])] }).variant (0x1200)).getD dObj, Out.sdo 3 C0.frame, [Out.sdo 4 C0.frame], 2, by decide +kernel⟩
theorem met_PhyManagement_1 : ∃ s : State, ∃ sess, ∃ slot, ∃ c, ∃ op, [(Instr.mdioC22Read sess slot, 1), (.mdioC22Write sess slot, 2), (.mdioC45Read sess slot, 3), (.mdioC45Write sess slot, 4)].contains (c, op) = true ∧ isEth slot = true ∧ s.variant.hasSlot slot = true ∧ s.accepts sess (0x2000 + slot) 0x64 noRow [BitVec.ofNat 8 op] = true ∧ s.answers (slotDie slot) = true ∧ ((op < 3 → s.cfg (E.portEthPhyMdioRegister + slot * 256) ≤ 31)) :=
  ⟨Z, 1, 16, (Instr.mdioC45Write (1) (16)), 4, by decide +kernel⟩
theorem met_PhyManagement_2 : ∃ s : State, ∃ sess, ∃ slot, ∃ c, ∃ op, [(Instr.mdioC22Read sess slot, 1), (.mdioC22Write sess slot, 2), (.mdioC45Read sess slot, 3), (.mdioC45Write sess slot, 4)].contains (c, op) = true ∧ isEth slot = true ∧ s.variant.hasSlot slot = true ∧ s.accepts sess (0x2000 + slot) 0x64 noRow [BitVec.ofNat 8 op] = true ∧ s.answers (slotDie slot) = true ∧ ((op < 3 → s.cfg (E.portEthPhyMdioRegister + slot * 256) ≤ 31)) :=
  ⟨Z, 1, 16, (Instr.mdioC22Read (1) (16)), 1, by decide +kernel⟩
theorem met_PhyManagement_3 : ∃ s : State, ∃ n, ∃ x, ∃ rest, ∃ st, ∃ d : Bytes, ∃ y, ∃ l, s.variant.hasDie n = true ∧ s.inRun = true ∧ s.dieRuns n = true ∧ ((s.die n).mdio = x :: rest) ∧ x.answer = some (Out.odResponse x.sess st d) ∧ rest = y :: l :=
  ⟨{ Z with dies := [(1, { up with mdio := [M1, M2] }), (2, up)] }, 1, M1, [M2], 0, ([] : Bytes), M2, ([] : List MdioOp), by decide +kernel⟩
theorem met_OperatingWrites_1 : ∃ s : State, ∃ sess : Nat, ∃ v, s.takes sess E.timeRtcSeconds (toLE 4 v) = true :=
  ⟨Z, 1, 0x65000000, by decide +kernel⟩
theorem met_OperatingWrites_2 : ∃ s : State, ∃ sess : Nat, ∃ v, s.takes sess E.safeRelease (toLE 1 v) = true ∧ s.safeClear = true :=
  ⟨Z, 1, 1, by decide +kernel⟩
theorem met_OperatingWrites_3 : ∃ s : State, ∃ sess : Nat, ∃ v, s.takes sess E.safeRelease (toLE 1 v) = true ∧ s.safeClear = false :=
  ⟨{ Z with safe := { Z.safe with conds := [0x10], driven := true, supervisorStopped := true } }, 1, 1, by decide +kernel⟩
theorem met_OperatingWrites_4 : ∃ s : State, ∃ sess : Nat, ∃ k, ∃ v, ∃ j, k < 4 ∧ s.accepts sess (0x3028 + k) 0x08 noRow (toLE 1 v) = true ∧ j ≠ k :=
  ⟨{ Z with measure := { Z.measure with spd := [(2, { count := 9 }), (3, { count := 8 })] } }, 1, 2, 1, 3, by decide +kernel⟩
theorem met_OperatingWrites_5 : ∃ s : State, ∃ sess : Nat, ∃ v, s.takes sess E.sealNow (toLE 1 v) = true ∧ s.ev.running = true ∧ s.ev.job = none ∧ s.ev.activeTree = true ∧ s.ev.spacing = false ∧ s.ev.nextSeal < sealNumbers :=
  ⟨ZV, 1, 1, by decide +kernel⟩
theorem met_OperatingWrites_6 : ∃ s : State, ∃ sess : Nat, ∃ v, s.takes sess E.sealNow (toLE 1 v) = true ∧ s.ev.running = true ∧ s.ev.job.isSome = true ∧ s.ev.activeTree = true ∧ s.ev.spacing = false ∧ s.ev.nextSeal < sealNumbers :=
  ⟨{ ZV with ev := { ZV.ev with job := some ⟨false, false, 0, 0, 9, 1, 5, 6, 0, 7#256, false⟩ } }, 1, 1, by decide +kernel⟩
theorem met_OperatingWrites_7 : ∃ s : State, ∃ sess : Nat, ∃ n, s.takes sess E.journalAck (toLE 8 n) = true :=
  ⟨ZV, 1, 9, by decide +kernel⟩
theorem met_OperatingWrites_8 : ∃ s : State, ∃ sess : Nat, ∃ v, ∃ n, ∃ p, ∃ e, s.takes sess E.fdbFlush (toLE 2 v) = true ∧ n ∈ s.dieList ∧ p < 32768 ∧ mfind (s.die n).fdb p = some e :=
  ⟨{ Z with dies := [(1, { up with fdb := [(4, ⟨3, 1, 16, false, false, true, 0, 0, 0⟩), (8, ⟨2, 1, 16, false, false, true, 0, 0, 0⟩)] }), (2, up)] }, 1, 3, 1, 8, ⟨2, 1, 16, false, false, true, 0, 0, 0⟩, by decide +kernel⟩
theorem met_OperatingWrites_9 : ∃ s : State, ∃ sess : Nat, ∃ slot, ∃ v, ∃ p, s.variant.hasSlot slot = true ∧ isCan slot = true ∧ s.accepts sess (0x2000 + slot) 0x1B noRow (toLE 1 v) = true ∧ s.portState slot = 4 ∧ s.cfgSlot E.portCanBusOffRestart slot = 0 ∧ p ≠ slot :=
  ⟨{ (Z.setPortState 3 4).setCfg (E.portCanBusOffRestart + 3 * 256) 0 with ports := [(3, { restartArmed := true })] }, 1, 3, 1, 4, by decide +kernel⟩
theorem met_OperatingWrites_10 : ∃ s : State, ∃ sess : Nat, ∃ slot, ∃ v, ∃ p, s.variant.hasSlot slot = true ∧ isCan slot = true ∧ s.accepts sess (0x2000 + slot) 0x1B noRow (toLE 1 v) = true ∧ (s.portState slot ≠ 4 ∨ s.cfgSlot E.portCanBusOffRestart slot ≠ 0) ∧ p ≠ slot :=
  ⟨Z.setPortState 3 2, 1, 3, 1, 4, by decide +kernel⟩
theorem met_OperatingWrites_11 : ∃ s : State, ∃ sess : Nat, ∃ slot, slot < 256 ∧ s.hasSess sess = true ∧ s.serves sess = true ∧ sess ≠ 0 ∧ s.answers (s.carrier sess) = true ∧ s.safe.securityDown = false ∧ odObject s.variant (0x2000 + slot) = none :=
  ⟨Z, 1, 255, by decide +kernel⟩
theorem met_OperatingWrites_12 : ∃ s : State, ∃ sess : Nat, ∃ slot, ∃ p, s.variant.hasSlot slot = true ∧ isCan slot = true ∧ s.accepts sess (0x2200 + slot) 0x05 noRow [1] = true ∧ p ≠ slot :=
  ⟨{ Z with ports := [(3, { blocks := [1] }), (4, { blocks := [2] })] }, 1, 3, 4, by decide +kernel⟩
theorem met_UnitWrites_1 : ∃ s : State, ∃ sess : Nat, ∃ n, ∃ m, s.variant.hasDie n = true ∧ s.accepts sess 0x2710 0x06 n [1] = true ∧ ((s.die n).state = 4) ∧ m ≠ n :=
  ⟨{ Z with dies := [(1, { state := 4 }), (2, up)] }, 1, 1, 2, by decide +kernel⟩
theorem met_UnitWrites_2 : ∃ s : State, ∃ sess : Nat, ∃ n, ∃ m, s.variant.hasDie n = true ∧ s.accepts sess 0x2710 0x06 n [1] = true ∧ m ≠ n ∧ ((s.die n).state ≠ 4) :=
  ⟨Z, 1, 2, 1, by decide +kernel⟩
theorem met_UnitWrites_3 : ∃ s : State, ∃ sess : Nat, ∃ n, ∃ v, s.variant.hasDie n = true ∧ s.accepts sess (0x360F + n) 0x04 noRow (toLE 1 v) = true ∧ s.cfgOn E.appEnable = true ∧ s.update.trial ≠ some 2 :=
  ⟨Z.setCfg E.appEnable 1, 1, 2, 1, by decide +kernel⟩
theorem met_UnitWrites_4 : ∃ s : State, ∃ sess : Nat, ∃ n, ∃ v, s.variant.hasDie n = true ∧ s.accepts sess (0x360F + n) 0x04 noRow (toLE 1 v) = true ∧ s.update.trial ≠ some 2 ∧ s.cfgOn E.appEnable = false :=
  ⟨Z.setCfg E.appEnable 0, 1, 2, 1, by decide +kernel⟩
theorem met_UnitWrites_5 : ∃ s : State, ∃ sess : Nat, ∃ c, ∃ m, [(Instr.powerRequestListen sess, 1), (.powerRequestStandby sess, 2)].contains (c, m) = true ∧ s.takes sess E.powerRequest [BitVec.ofNat 8 m] = true ∧ s.requestStatus = 0 :=
  ⟨Z, 1, (Instr.powerRequestListen (1)), 1, by decide +kernel⟩
theorem met_UnitWrites_6 : ∃ s : State, ∃ sess : Nat, ∃ c, ∃ m, [(Instr.powerRequestListen sess, 1), (.powerRequestStandby sess, 2)].contains (c, m) = true ∧ s.takes sess E.powerRequest [BitVec.ofNat 8 m] = true ∧ s.requestStatus = 0 :=
  ⟨Z, 1, (Instr.powerRequestStandby (1)), 2, by decide +kernel⟩
theorem met_UnitWrites_7 : ∃ s : State, ∃ sess : Nat, ∃ c, ∃ m, [(Instr.powerRequestListen sess, 1), (.powerRequestStandby sess, 2)].contains (c, m) = true ∧ s.takes sess E.powerRequest [BitVec.ofNat 8 m] = true ∧ s.requestStatus ≠ 0 :=
  ⟨{ Z with update := { Z.update with state := 3 } }, 1, (Instr.powerRequestStandby (1)), 2, by decide +kernel⟩
theorem met_LifeCycleWrites_1 : ∃ s : State, ∃ sess : Nat, ∃ v, s.takes sess E.lifecycleRequest (toLE 1 v) = true ∧ transitionLevel s.life.state (v % 256) ≠ 0 ∧ s.life.change = none ∧ s.safe.noTrng = false :=
  ⟨U, 1, 3, by decide +kernel⟩
theorem met_LifeCycleWrites_2 : ∃ s : State, ∃ sess : Nat, ∃ v, s.takes sess E.lifecycleRequest (toLE 1 v) = true ∧ s.life.change = none ∧ s.safe.noTrng = false ∧ transitionLevel s.life.state (v % 256) = 0 :=
  ⟨U, 1, 1, by decide +kernel⟩
theorem met_LifeCycleWrites_3 : ∃ s : State, ∃ sess : Nat, ∃ value, ∃ r : LifeRequest, s.takes sess E.lifecycleConfirm value = true ∧ s.life.request = some r ∧ r.sess = sess ∧ r.token = leNat value ∧ s.clock.ticks - r.since ≤ msTicks 10000 ∧ s.confirmStatus r (s.sessLevel sess) = 0 ∧ s.ev.nextSeal < sealNumbers :=
  ⟨{ U with life := { U.life with request := some ⟨1, 3, 0x55, 0⟩ } }, 1, (toLE 4 0x55), (⟨1, 3, 0x55, 0⟩ : LifeRequest), by decide +kernel⟩
theorem met_LifeCycleWrites_4 : ∃ s : State, ∃ sess : Nat, ∃ value, ∃ r : LifeRequest, s.takes sess E.lifecycleConfirm value = true ∧ s.life.request = some r ∧ r.sess = sess ∧ r.token = leNat value ∧ s.clock.ticks - r.since ≤ msTicks 10000 ∧ s.confirmStatus r (s.sessLevel sess) = 0 ∧ sealNumbers ≤ s.ev.nextSeal :=
  ⟨{ U with life := { U.life with request := some ⟨1, 3, 0x55, 0⟩ }, ev := { U.ev with nextSeal := sealNumbers } }, 1, (toLE 4 0x55), (⟨1, 3, 0x55, 0⟩ : LifeRequest), by decide +kernel⟩
theorem met_LifeCycleWrites_5 : ∃ s : State, ∃ sess : Nat, ∃ value, ∃ r : LifeRequest, s.takes sess E.lifecycleConfirm value = true ∧ s.life.request = some r ∧ r.sess = sess ∧ s.clock.ticks - r.since ≤ msTicks 10000 ∧ s.confirmStatus r (s.sessLevel sess) = 0 ∧ s.ev.nextSeal < sealNumbers ∧ (r.token ≠ leNat value ∨ r.sess ≠ sess ∨ msTicks 10000 < s.clock.ticks - r.since) :=
  ⟨{ U with life := { U.life with request := some ⟨1, 3, 0x54, 0⟩ } }, 1, (toLE 4 0x55), (⟨1, 3, 0x54, 0⟩ : LifeRequest), by decide +kernel⟩
theorem met_LifeCycleWrites_6 : ∃ s : State, ∃ sess : Nat, ∃ value, ∃ r : LifeRequest, s.takes sess E.lifecycleConfirm value = true ∧ s.life.request = some r ∧ r.sess = sess ∧ r.token = leNat value ∧ s.clock.ticks - r.since ≤ msTicks 10000 ∧ s.ev.nextSeal < sealNumbers ∧ s.confirmStatus r (s.sessLevel sess) ≠ 0 :=
  ⟨{ U with life := { U.life with request := some ⟨1, 3, 0x55, 0⟩ }, update := { U.update with state := 3 } }, 1, (toLE 4 0x55), (⟨1, 3, 0x55, 0⟩ : LifeRequest), by decide +kernel⟩
theorem met_LifeCycleWrites_7 : ∃ s : State, ∃ sess : Nat, ∃ blob, s.takes sess E.lifecycleProvisionBlob blob = true :=
  ⟨Z, 1, BLOB, by decide +kernel⟩
theorem met_LifeCycleWrites_8 : ∃ s : State, ∃ sess : Nat, ∃ blob, ∃ n, ∃ roots : Bytes, s.takes sess E.lifecycleProvisionBlob blob = true ∧ s.safe.noAes = false ∧ s.safe.noSha = false ∧ s.safe.noTrng = false ∧ n = (if s.fuses.rootsWritten = true then 3 else min 3 s.fuses.burnt) ∧ leNat (roots.take (32 * n)) = s.fuses.rootsHeld n ∧ (s.life.state ≠ 0 ∨ s.fuses.openBlob blob = none) :=
  ⟨U, 1, BLOB, 0, ([] : Bytes), by decide +kernel⟩
theorem met_LifeCycleWrites_9 : ∃ s : State, ∃ sess : Nat, ∃ blob, s.takes sess E.lifecycleProvisionBlob blob = true :=
  ⟨{ Z with fuses := { Z.fuses with rootsWritten := true, mfgRoot := 77 } }, 1, BLOB, by decide +kernel⟩
theorem met_LifeCycleWrites_10 : ∃ s : State, ∃ sess : Nat, ∃ b, s.takes sess E.attestChallenge b = true :=
  ⟨{ KC [(E.attestRelation, 1)] with keys := { U.keys with records := [(4, KF), (6, ATT)] } }, 1, List.replicate 32 (5 : Byte), by decide +kernel⟩
theorem met_LifeCycleWrites_11 : ∃ s : State, ∃ sess : Nat, ∃ b, ∃ slot, s.takes sess E.attestChallenge b = true ∧ 1 ≤ s.life.state ∧ s.life.state ≤ 3 ∧ s.safe.noSha = false ∧ slot < 256 ∧ ((∀ k, k < slot → s.attestFits (s.live sess E.attestRelation) k = false)) ∧ 10 ≤ (s.life.challenges.filter (fun x => s.clock.ticks - x < 40000000)).length :=
  ⟨{ U with life := { U.life with challenges := List.replicate 10 0 } }, 1, List.replicate 32 (5 : Byte), 6, by decide +kernel⟩
theorem met_KeyOperations_1 : ∃ s : State, ∃ sess : Nat, ∃ k, s.takes sess E.keycmdOp [1] = true ∧ s.keyOpStop 1 = 0 ∧ mfind s.keys.records (s.keyCmd sess).slot = none ∧ selectedRoot s.life.state ≠ 0 ∧ ((s.keyCmd sess).kind = 0) ∧ ((s.keyCmd sess).familyOk = true) ∧ s.familyTaken (selectedRoot s.life.state) (s.keyCmd sess).parent = false ∧ k ≠ (s.keyCmd sess).slot :=
  ⟨KC [(E.keycmdSlot, 5), (E.keycmdKind, 0), (E.keycmdParent, 3), (E.keycmdUsage, 16), (E.keycmdBlocks, 16), (E.keycmdLength, 32)], 1, 4, by decide +kernel⟩
theorem met_KeyOperations_2 : ∃ s : State, ∃ sess : Nat, s.takes sess E.keycmdOp [1] = true ∧ s.keyOpStop 1 = 0 :=
  ⟨{ KC [(E.keycmdSlot, 5), (E.keycmdKind, 1), (E.keycmdParent, 4), (E.keycmdUsage, 3), (E.keycmdBlocks, 1), (E.keycmdDies, 2), (E.keycmdLength, 16)] with keys := { U.keys with records := [(4, KF)] } }, 1, by decide +kernel⟩
theorem met_KeyOperations_3 : ∃ s : State, ∃ sess : Nat, ∃ k, s.takes sess E.keycmdOp [1] = true ∧ s.keyOpStop 1 = 0 ∧ selectedRoot s.life.state ≠ 0 ∧ s.familyTaken (selectedRoot s.life.state) (s.keyCmd sess).parent = false ∧ ((s.keyCmd sess).kind = 1) ∧ ((mfind s.keys.records (s.keyCmd sess).slot).isSome = true) ∧ k ≠ (s.keyCmd sess).slot :=
  ⟨{ KC [(E.keycmdSlot, 4)] with keys := { U.keys with records := [(4, KF)] } }, 1, 5, by decide +kernel⟩
theorem met_KeyOperations_4 : ∃ s : State, ∃ sess : Nat, s.takes sess E.keycmdOp [2] = true ∧ s.keyOpStop 2 = 0 :=
  ⟨LC IBLOB, 1, by decide +kernel⟩
theorem met_KeyOperations_5 : ∃ s : State, ∃ sess : Nat, ∃ k, s.takes sess E.keycmdOp [2] = true ∧ s.keyOpStop 2 = 0 ∧ s.importKey (s.keyCmd sess) (toLE 60 (s.live sess E.keycmdBlob)) = none ∧ k ≠ (s.keyCmd sess).slot :=
  ⟨KC [(E.keycmdSlot, 5)], 1, 4, by decide +kernel⟩
theorem met_KeyOperations_6 : ∃ s : State, ∃ sess : Nat, s.takes sess E.keycmdOp [3] = true ∧ s.keyOpStop 3 = 0 :=
  ⟨{ KC [(E.keycmdSlot, 4)] with keys := { U.keys with records := [(4, KF)] } }, 1, by decide +kernel⟩
theorem met_KeyOperations_7 : ∃ s : State, ∃ sess : Nat, s.takes sess E.keycmdOp [3] = true ∧ s.keyOpStop 3 = 0 :=
  ⟨{ KC [(E.keycmdSlot, 4)] with keys := { U.keys with records := [(4, KF)] }, safe := { U.safe with noAes := true } }, 1, by decide +kernel⟩
theorem met_KeyOperations_8 : ∃ s : State, ∃ sess : Nat, s.takes sess E.keycmdOp [3] = true ∧ s.keyOpStop 3 = 0 :=
  ⟨{ KC [(E.keycmdSlot, 0xFF)] with keys := { U.keys with records := [(4, KF)] } }, 1, by decide +kernel⟩
theorem met_KeyOperations_9 : ∃ s : State, ∃ sess : Nat, s.takes sess E.keycmdOp [4] = true ∧ s.keyOpStop 4 = 0 :=
  ⟨{ KC [(E.keycmdSlot, 4)] with keys := { U.keys with records := [(4, KF)] } }, 1, by decide +kernel⟩
theorem met_UpdateSequence_1 : ∃ s : State, ∃ sess : Nat, ∃ offset, ∃ b : Bytes, s.accepts sess 0x3501 0x01 offset b = true ∧ s.update.state ≠ 3 ∧ s.update.state ≠ 5 ∧ offset = 0 ∧ b.length ≤ 1048576 ∧ offset = s.update.delta.length ∧ offset + b.length ≤ 1048576 :=
  ⟨U, 1, 0, ([1, 2, 3] : Bytes), by decide +kernel⟩
theorem met_UpdateSequence_2 : ∃ s : State, ∃ sess : Nat, ∃ offset, ∃ b : Bytes, s.accepts sess 0x3501 0x01 offset b = true ∧ s.update.state ≠ 3 ∧ s.update.state ≠ 5 ∧ b.length ≤ 1048576 ∧ s.update.state = 1 ∧ 0 < offset ∧ offset = s.update.delta.length ∧ offset + b.length ≤ 1048576 :=
  ⟨{ U with update := { U.update with state := 1, delta := [1, 2] } }, 1, 2, ([1, 2, 3] : Bytes), by decide +kernel⟩
theorem met_UpdateSequence_3 : ∃ s : State, ∃ sess : Nat, ∃ offset, ∃ b : Bytes, s.accepts sess 0x3501 0x01 offset b = true ∧ s.update.state ≠ 3 ∧ s.update.state ≠ 5 ∧ b.length ≤ 1048576 ∧ s.update.state = 1 ∧ 0 < offset ∧ offset + b.length ≤ 1048576 ∧ offset ≠ s.update.delta.length :=
  ⟨{ U with update := { U.update with state := 1, delta := [1, 2] } }, 1, 3, ([1, 2, 3] : Bytes), by decide +kernel⟩
theorem met_UpdateSequence_4 : ∃ s : State, ∃ sess : Nat, ∃ offset, ∃ b : Bytes, s.accepts sess 0x3501 0x01 offset b = true ∧ s.update.state ≠ 5 ∧ b.length ≤ 1048576 ∧ 0 < offset ∧ offset + b.length ≤ 1048576 ∧ offset ≠ s.update.delta.length ∧ (s.update.state = 3 ∨ s.update.state = 5) :=
  ⟨{ U with update := { U.update with state := 3 } }, 1, 3, ([1, 2, 3] : Bytes), by decide +kernel⟩
theorem met_UpdateSequence_5 : ∃ s : State, ∃ sess : Nat, s.takes sess E.updateAction [1] = true ∧ (s.update.state = 1 ∨ s.update.state = 2) ∧ s.gateStatus = 0 ∧ s.checkStatus = 0 ∧ s.update.state ≠ 2 :=
  ⟨UU 1, 1, by decide +kernel⟩
theorem met_UpdateSequence_6 : ∃ s : State, ∃ sess : Nat, s.takes sess E.updateAction [1] = true ∧ (s.update.state = 1 ∨ s.update.state = 2) ∧ s.gateStatus = 0 ∧ s.checkStatus ≠ 0 ∧ s.update.state ≠ 2 :=
  ⟨{ U with update := { U.update with state := 1, delta := [1, 2] } }, 1, by decide +kernel⟩
theorem met_UpdateSequence_7 : ∃ s : State, ∃ sess : Nat, s.takes sess E.updateAction [1] = true ∧ (s.update.state = 1 ∨ s.update.state = 2) ∧ s.checkStatus = 0 ∧ s.gateStatus ≠ 0 ∧ s.update.state ≠ 2 :=
  ⟨(UU 1).setCfg E.updateOwnerLock 1, 1, by decide +kernel⟩
theorem met_UpdateSequence_8 : ∃ s : State, ∃ sess : Nat, s.takes sess E.updateAction [1] = true ∧ s.gateStatus = 0 ∧ s.checkStatus = 0 ∧ s.update.state ≠ 1 ∧ s.update.state ≠ 2 :=
  ⟨UU 4, 1, by decide +kernel⟩
theorem met_UpdateSequence_9 : ∃ s : State, ∃ sess : Nat, s.takes sess E.updateAction [2] = true ∧ s.update.state = 2 ∧ s.gateStatus = 0 :=
  ⟨UU 2, 1, by decide +kernel⟩
theorem met_UpdateSequence_10 : ∃ s : State, ∃ sess : Nat, s.takes sess E.updateAction [3] = true ∧ s.update.state = 4 ∧ s.power.mode = .run ∧ s.gateStatus = 0 ∧ s.update.part = 2 :=
  ⟨UU 4, 1, by decide +kernel⟩
theorem met_UpdateSequence_11 : ∃ s : State, ∃ sess : Nat, s.takes sess E.updateAction [3] = true ∧ s.update.state = 4 ∧ s.power.mode = .run ∧ s.gateStatus = 0 ∧ s.update.part ≠ 2 :=
  ⟨{ UU 4 with update := { (UU 4).update with part := 1 } }, 1, by decide +kernel⟩
theorem met_UpdateSequence_12 : ∃ s : State, ∃ sess : Nat, s.takes sess E.updateAction [4] = true ∧ s.update.state ≠ 0 ∧ s.update.state ≠ 5 ∧ s.partKnown = true :=
  ⟨UU 2, 1, by decide +kernel⟩
theorem met_UpdateSequence_13 : ∃ s : State, ∃ sess : Nat, ∃ part, s.takes sess E.updateAction [5] = true ∧ s.update.state = 5 ∧ s.update.trial = some part ∧ part ≠ 2 :=
  ⟨UT, 1, 1, by decide +kernel⟩
theorem met_UpdateSequence_14 : ∃ s : State, ∃ sess : Nat, ∃ part, ∃ v, s.takes sess E.updateConfirm (toLE 4 v) = true ∧ s.update.trial = some part ∧ s.update.state = 5 ∧ v = imgVersion (s.image (s.spareRow part)) ∧ v < 2 ^ 32 ∧ s.activeSlot part ≤ 1 :=
  ⟨UT, 1, 1, 9, by decide +kernel⟩
theorem met_UpdateSequence_15 : ∃ s : State, ∃ b, s.inRun = true ∧ s.update.state = 3 ∧ deltaBuild (if deltaBaseless s.update.delta then [] else s.image (s.activeRow s.update.part)) s.update.delta = some b ∧ (({ s with update := { s.update with images := mset [] s.update.images (s.spareRow s.update.part) b, meas := mput s.update.meas (s.spareRow s.update.part) (imgMeasure b) } } : State).builtStatus s.update.part b = 0) :=
  ⟨{ UU 3 with update := { (UU 3).update with delta := DI } }, IMG, by decide +kernel⟩
theorem met_UpdateSequence_16 : ∃ s : State, ∃ part, s.inRun = true ∧ s.update.window = true ∧ s.update.trial = some part ∧ part ≠ 2 :=
  ⟨UT, 1, by decide +kernel⟩
theorem met_UpdateSequence_17 : ∃ s : State, ∃ sess : Nat, s.takes sess E.updateAction [2] = true ∧ s.update.state ≠ 2 :=
  ⟨UU 1, 1, by decide +kernel⟩
theorem met_UpdateSequence_18 : ∃ s : State, ∃ sess : Nat, s.takes sess E.updateAction [3] = true ∧ (s.update.state ≠ 4 ∨ s.power.mode ≠ .run) :=
  ⟨UU 2, 1, by decide +kernel⟩
theorem met_UpdateSequence_19 : ∃ s : State, ∃ sess : Nat, s.takes sess E.updateAction [4] = true ∧ (s.update.state = 0 ∨ s.update.state = 5) :=
  ⟨UU 5, 1, by decide +kernel⟩
theorem met_UpdateSequence_20 : ∃ s : State, ∃ sess : Nat, s.takes sess E.updateAction [5] = true ∧ s.update.state ≠ 5 :=
  ⟨UU 2, 1, by decide +kernel⟩
theorem met_UpdateSequence_21 : ∃ s : State, ∃ sess : Nat, s.takes sess E.updateAction [2] = true ∧ s.update.state = 2 ∧ s.gateStatus ≠ 0 :=
  ⟨(UU 2).setCfg E.updateOwnerLock 1, 1, by decide +kernel⟩
theorem met_UpdateSequence_22 : ∃ s : State, ∃ sess : Nat, s.takes sess E.updateAction [3] = true ∧ s.update.state = 4 ∧ s.power.mode = .run ∧ s.gateStatus ≠ 0 :=
  ⟨(UU 4).setCfg E.updateOwnerLock 1, 1, by decide +kernel⟩
theorem met_CommitSequence_1 : ∃ s : State, ∃ sess, ∃ c, ∃ only : Bool, [(Instr.commitValidate sess, true), (.commitStart sess, false)].contains (c, only) = true ∧ s.takes sess E.commitAction [if only then 1 else 2] = true ∧ s.committing = false ∧ s.lockHolder = some sess ∧ s.stagedLevel ≤ s.sessLevel sess ∧ only = true :=
  ⟨{ Z with lockHolder := some 1 }, 1, (Instr.commitValidate (1)), true, by decide +kernel⟩
theorem met_CommitSequence_2 : ∃ s : State, ∃ sess, ∃ c, ∃ only : Bool, [(Instr.commitValidate sess, true), (.commitStart sess, false)].contains (c, only) = true ∧ s.takes sess E.commitAction [if only then 1 else 2] = true ∧ s.committing = false ∧ s.lockHolder = some sess ∧ s.stagedLevel ≤ s.sessLevel sess ∧ only = false :=
  ⟨{ Z with lockHolder := some 1 }, 1, (Instr.commitStart (1)), false, by decide +kernel⟩
theorem met_CommitSequence_3 : ∃ s : State, ∃ sess, s.takes sess E.commitAction [3] = true ∧ s.committing = false ∧ s.lockHolder = some sess ∧ s.stagedLevel ≤ s.sessLevel sess :=
  ⟨{ Z with lockHolder := some 1, od := { Z.od with staging := [(okey E.powerIdleTime noRow, 17)] } }, 1, by decide +kernel⟩
theorem met_CommitSequence_4 : ∃ s : State, ∃ sess, ∃ k, s.takes sess E.commitAction [4] = true ∧ s.committing = false ∧ ((s.lockHolder = none ∨ s.lockHolder = some sess)) ∧ s.stagedLevel ≤ s.sessLevel sess ∧ (({ s with od := { s.od with staging := s.defaultsStaged } } : State).stagedBytes ≤ stagingRoom) ∧ k ∈ (s.od.active ++ s.od.defaultsImg).map (·.1) ∧ odPersistent s.variant (keyEntry k) = true ∧ imageValue s.variant s.od.active k ≠ s.effDefault k :=
  ⟨Z.setCfg E.powerIdleTime 17, 1, okey E.powerIdleTime noRow, by decide +kernel⟩
theorem met_CommitSequence_5 : ∃ s : State, ∃ sess, s.takes sess E.commitAction [5] = true ∧ s.committing = false ∧ s.lockHolder.isSome = true ∧ ((s.lockHolder = some sess ∨ 3 ≤ s.sessLevel sess)) ∧ s.stagedLevel ≤ s.sessLevel sess :=
  ⟨{ Z with lockHolder := some 1, od := { Z.od with staging := [(okey E.powerIdleTime noRow, 17)] } }, 1, by decide +kernel⟩
theorem met_CommitSequence_6 : ∃ s : State, s.inRun = true ∧ s.commit.phase = .validating ∧ s.update.state ≠ 3 ∧ s.update.state ≠ 5 ∧ s.commit.validateOnly = false :=
  ⟨{ W with commit := { W.commit with phase := .validating, image := [(okey E.powerIdleTime noRow, 17)] } }, by decide +kernel⟩
theorem met_CommitSequence_7 : ∃ s : State, s.inRun = true ∧ s.commit.phase = .validating ∧ s.update.state ≠ 3 ∧ s.update.state ≠ 5 ∧ s.commit.validateOnly = true :=
  ⟨{ W with commit := { W.commit with phase := .validating, validateOnly := true, image := [(okey E.powerIdleTime noRow, 17)] } }, by decide +kernel⟩
theorem met_CommitSequence_8 : ∃ s : State, s.inRun = true ∧ s.commit.phase = .validating ∧ s.update.state ≠ 3 ∧ s.update.state ≠ 5 ∧ s.commit.validateOnly = false :=
  ⟨{ W with commit := { W.commit with phase := .validating, image := [(okey E.powerIdleTime noRow, 0)] } }, by decide +kernel⟩
theorem met_CommitSequence_9 : ∃ s : State, s.inRun = true ∧ s.commit.phase = .placing ∧ s.sumac.healthChanged = false ∧ s.isolatedItem (s.withImage s.commitImage) (s.withImage s.commitImage).place.pl = none :=
  ⟨{ Z with commit := { Z.commit with phase := .placing, image := [(okey E.powerIdleTime noRow, 17)] } }, by decide +kernel⟩
theorem met_CommitSequence_10 : ∃ s : State, s.inRun = true ∧ s.commit.phase = .placing ∧ s.sumac.healthChanged = false ∧ s.isolatedItem (s.withImage s.commitImage) (s.withImage s.commitImage).place.pl = none :=
  ⟨{ W.setCfg E.bufferMinShared 30000 with commit := { W.commit with phase := .placing } }, by decide +kernel⟩
theorem met_CommitSequence_11 : ∃ s : State, ∃ ok : Bool, s.inRun = true ∧ s.commit.phase = .storing ∧ s.sumac.healthChanged = false ∧ s.runtimeDown = false ∧ payloadSize s.variant (s.payloadOf s.commitImage) ≤ storeCapacity ∧ ok = true :=
  ⟨{ Z with commit := { Z.commit with phase := .storing, image := [(okey E.powerIdleTime noRow, 17)] } }, true, by decide +kernel⟩
theorem met_CommitSequence_12 : ∃ s : State, ∃ ok : Bool, s.inRun = true ∧ s.commit.phase = .storing ∧ s.sumac.healthChanged = false ∧ s.runtimeDown = false ∧ payloadSize s.variant (s.payloadOf s.commitImage) ≤ storeCapacity ∧ ok = false :=
  ⟨{ Z with commit := { Z.commit with phase := .storing, image := [(okey E.powerIdleTime noRow, 17)] } }, false, by decide +kernel⟩
theorem met_CommitSequence_13 : ∃ s : State, s.inRun = true ∧ s.commit.phase = .applying ∧ s.sumac.healthChanged = false :=
  ⟨{ Z with commit := { Z.commit with phase := .applying, image := [(okey E.powerIdleTime noRow, 17)] } }, by decide +kernel⟩
theorem met_CommitSequence_14 : ∃ s : State, s.commit.phase = .applied :=
  ⟨{ Z with commit := { Z.commit with phase := .applied, image := [(okey E.powerIdleTime noRow, 17)] }, lockHolder := some 1 }, by decide +kernel⟩
theorem met_SessionOpenings_1 : ∃ s : State, ∃ v, s.takes 0 E.sessionSdoRequestLevel (toLE 1 v) = true ∧ ((s.lockout 1).locked = false) ∧ s.life.barred = false ∧ s.safe.noTrng = false ∧ s.safe.noSha = false :=
  ⟨Z, 3, by decide +kernel⟩
theorem met_SessionOpenings_2 : ∃ s : State, ∃ v, s.takes 0 E.sessionSdoRequestLevel (toLE 1 v) = true ∧ s.life.barred = false ∧ s.safe.noTrng = false ∧ s.safe.noSha = false ∧ ((s.lockout 1).locked = true) :=
  ⟨{ Z with lockouts := [(1, { locked := true, untilTick := 5 })] }, 3, by decide +kernel⟩
theorem met_SessionOpenings_3 : ∃ s : State, ∃ v, s.takes 0 E.sessionSdoRequestLevel (toLE 1 v) = true ∧ ((s.lockout 1).locked = false) ∧ s.safe.noTrng = false ∧ s.safe.noSha = false ∧ s.life.barred = true :=
  ⟨{ Z with life := { Z.life with state := 3, barred := true } }, 3, by decide +kernel⟩
theorem met_SessionOpenings_4 : ∃ s : State, ∃ b, s.takes 0 E.sessionSdoClientNonce b = true :=
  ⟨{ Z with sessions := [(0, { valid := true, level := 4, pending := true })] }, List.replicate 32 (3 : Byte), by decide +kernel⟩
theorem met_SessionOpenings_5 : ∃ s : State, ∃ b, s.takes 0 E.sessionSdoProof b = true :=
  ⟨ZO, PROOF, by decide +kernel⟩
theorem met_SessionOpenings_6 : ∃ s : State, ∃ b, s.takes 0 E.sessionSdoProof b = true ∧ ((s.sess 0).pending = true) ∧ ((s.lockout 1).locked = false) ∧ s.safe.noSha = false ∧ s.cfg E.sessionFailLimit ≤ (s.lockout 1).fails + 1 :=
  ⟨{ Z with sessions := [(0, { valid := true, level := 4, pending := true, reqLevel := 2 })], lockouts := [(1, { fails := 30 })] }, List.replicate 32 (3 : Byte), by decide +kernel⟩
theorem met_SessionOpenings_7 : ∃ s : State, ∃ b, s.takes 0 E.sessionSdoProof b = true ∧ ((s.lockout 1).locked = false) ∧ s.safe.noSha = false ∧ ((s.sess 0).pending = false) :=
  ⟨Z, List.replicate 32 (3 : Byte), by decide +kernel⟩
theorem met_SessionOpenings_8 : ∃ s : State, ∃ b, s.takes 0 E.sessionSdoProof b = true ∧ ((s.sess 0).pending = true) ∧ s.safe.noSha = false ∧ ((s.lockout 1).locked = true) :=
  ⟨{ Z with sessions := [(0, { valid := true, level := 4, pending := true, reqLevel := 2 })], lockouts := [(1, { locked := true, fails := 3 })] }, List.replicate 32 (3 : Byte), by decide +kernel⟩
theorem met_SessionOpenings_9 : ∃ s : State, ∃ v, s.takes 0 E.sessionSdoClose (toLE 1 v) = true ∧ s.lockHolder = some 0 ∧ s.committing = false :=
  ⟨{ Z with lockHolder := some 0, od := { Z.od with staging := [(okey E.powerIdleTime noRow, 17)] } }, 1, by decide +kernel⟩
theorem met_SessionOpenings_10 : ∃ s : State, ∃ row, 1 ≤ row ∧ row < 5 ∧ ((s.sess row).pending = true) :=
  ⟨{ Z with sessions := [(2, { pending := true, level := 4 })] }, 2, by decide +kernel⟩
theorem met_SessionOpenings_11 : ∃ s : State, ∃ row, row < 5 ∧ ((s.sess row).valid = true) ∧ s.lockHolder = some row ∧ s.committing = false :=
  ⟨{ Z with lockHolder := some 0, od := { Z.od with staging := [(okey E.powerIdleTime noRow, 17)] } }, 0, by decide +kernel⟩
theorem met_SessionOpenings_12 : ∃ s : State, ∃ row, 5 ≤ row ∧ s.lockHolder = some row ∧ s.committing = false :=
  ⟨{ Z with lockHolder := some 6, od := { Z.od with staging := [(okey E.powerIdleTime noRow, 17)] } }, 6, by decide +kernel⟩
theorem met_SessionOpenings_13 : ∃ s : State, ∃ ap, ∃ k, ((s.lockout ap).locked = true) ∧ k ≠ ap :=
  ⟨{ Z with lockouts := [(1, { locked := true, untilTick := 5, nextTime := 20 }), (2, { fails := 3 })] }, 1, 2, by decide +kernel⟩
theorem met_ServiceTransfers_1 : ∃ s : State, ∃ slot : Nat, ∃ m : Bytes, s.variant.hasSlot slot = true ∧ isCan slot = true ∧ s.sdoServes slot m = true ∧ s.sdoKind m = .downInit ∧ bitAt (byteAt m 0) 1 = false :=
  ⟨S3, 3, ([0x21, 0x07, 0x34, 0, 9, 0, 0, 0] : Bytes), by decide +kernel⟩
theorem met_ServiceTransfers_2 : ∃ s : State, ∃ slot : Nat, ∃ m : Bytes, ∃ o, ∃ x, s.variant.hasSlot slot = true ∧ isCan slot = true ∧ s.sdoServes slot m = true ∧ s.sdoKind m = .downInit ∧ bitAt (byteAt m 0) 1 = true ∧ bitAt (byteAt m 0) 0 = true ∧ odObject s.variant (sdoMux m % 65536) = some o ∧ odEntry s.variant (sdoMux m % 65536 * 256 + sdoMux m / 65536) = some x ∧ x.acc = .rw ∧ x.live = false ∧ s.accepts 0 (sdoMux m % 65536) (sdoMux m / 65536) (s.cursorRow 0 (sdoMux m % 65536)) ((m.drop 4).take (4 - byteAt m 0 / 4 % 4)) = true ∧ s.mayStage 0 = true ∧ s.hasRoom [(okey (sdoMux m % 65536 * 256 + sdoMux m / 65536) (o.keyRow (s.cursorRow 0 (sdoMux m % 65536))), leNat ((m.drop 4).take (4 - byteAt m 0 / 4 % 4)))] = true ∧ s.carrier 0 ≠ servingDie (sdoMux m % 65536) (sdoMux m / 65536) (s.cursorRow 0 (sdoMux m % 65536)) :=
  ⟨S3, 3, ([0x2B, 0x00, 0x34, 7, 0x10, 1, 0, 0] : Bytes), (odObject (S3).variant 0x3400).getD dObj, (odEntry (S3).variant E.powerIdleTime).getD dEnt, by decide +kernel⟩
theorem met_ServiceTransfers_3 : ∃ s : State, ∃ slot : Nat, ∃ m : Bytes, ∃ mux, ∃ size, ∃ data : Bytes, ∃ toggle : Bool, s.variant.hasSlot slot = true ∧ isCan slot = true ∧ s.sdoServes slot m = true ∧ s.sdoKind m = .downSeg ∧ s.sdo = .segDown mux size data toggle ∧ bitAt (byteAt m 0) 4 = toggle ∧ bitAt (byteAt m 0) 0 = false :=
  ⟨{ S3 with sdo := .segDown 5 none [1] true }, 3, ([0x10, 1, 2, 3, 4, 5, 6, 7] : Bytes), 5, (none : Option Nat), ([1] : Bytes), true, by decide +kernel⟩
theorem met_ServiceTransfers_4 : ∃ s : State, ∃ slot : Nat, ∃ m : Bytes, ∃ mux, ∃ size, ∃ data : Bytes, ∃ toggle : Bool, s.variant.hasSlot slot = true ∧ isCan slot = true ∧ s.sdoServes slot m = true ∧ s.sdoKind m = .downSeg ∧ s.sdo = .segDown mux size data toggle ∧ bitAt (byteAt m 0) 4 ≠ toggle :=
  ⟨{ S3 with sdo := .segDown 5 none [1] true }, 3, ([0x00, 1, 2, 3, 4, 5, 6, 7] : Bytes), 5, (none : Option Nat), ([1] : Bytes), true, by decide +kernel⟩
theorem met_ServiceTransfers_5 : ∃ s : State, ∃ slot : Nat, ∃ m : Bytes, s.variant.hasSlot slot = true ∧ isCan slot = true ∧ s.sdoServes slot m = true ∧ s.sdoKind m = .blockDown ∧ s.sdo.receiving = false ∧ bitAt (byteAt m 0) 0 = false :=
  ⟨S3, 3, ([0xC6, 0x00, 0x34, 7, 9, 0, 0, 0] : Bytes), by decide +kernel⟩
theorem met_ServiceTransfers_6 : ∃ s : State, ∃ slot : Nat, ∃ m : Bytes, ∃ mux, ∃ size, ∃ data : Bytes, ∃ n, ∃ k, ∃ crc : Bool, s.variant.hasSlot slot = true ∧ isCan slot = true ∧ s.sdoServes slot m = true ∧ s.sdoKind m = .blockDown ∧ s.sdo = .blkDown mux size data n k crc false ∧ byteAt m 0 = n + 1 ∧ n + 1 < k ∧ n + 1 < 128 :=
  ⟨{ S3 with sdo := .blkDown 5 none [1] 2 10 true false }, 3, ([3, 1, 2, 3, 4, 5, 6, 7] : Bytes), 5, (none : Option Nat), ([1] : Bytes), 2, 10, true, by decide +kernel⟩
theorem met_ServiceTransfers_7 : ∃ s : State, ∃ slot : Nat, ∃ m : Bytes, ∃ v : Bytes, s.variant.hasSlot slot = true ∧ isCan slot = true ∧ s.sdoServes slot m = true ∧ s.sdoKind m = .upInit ∧ s.odRead 0 (sdoMux m % 65536) (sdoMux m / 65536) (s.cursorRow 0 (sdoMux m % 65536)) false true = (0, v) ∧ s.carrier 0 = servingDie (sdoMux m % 65536) (sdoMux m / 65536) (s.cursorRow 0 (sdoMux m % 65536)) ∧ 1 ≤ v.length ∧ v.length ≤ 4 :=
  ⟨S3, 3, ([0x40, 0x03, 0x21, 1, 0, 0, 0, 0] : Bytes), ([2] : Bytes), by decide +kernel⟩
theorem met_ServiceTransfers_8 : ∃ s : State, ∃ slot : Nat, ∃ m : Bytes, ∃ v, s.variant.hasSlot slot = true ∧ isCan slot = true ∧ s.sdoServes slot m = true ∧ s.sdoKind m = .upInit ∧ s.odRead 0 (sdoMux m % 65536) (sdoMux m / 65536) (s.cursorRow 0 (sdoMux m % 65536)) false true = (0, v) ∧ s.carrier 0 = servingDie (sdoMux m % 65536) (sdoMux m / 65536) (s.cursorRow 0 (sdoMux m % 65536)) ∧ 1 ≤ v.length ∧ 4 < v.length :=
  ⟨S3, 3, ([0x40, 0x10, 0x21, 0x12, 0, 0, 0, 0] : Bytes), List.replicate 8 (0 : Byte), by decide +kernel⟩
theorem met_ServiceTransfers_9 : ∃ s : State, ∃ slot : Nat, ∃ m : Bytes, ∃ mux, ∃ rest : Bytes, ∃ toggle : Bool, s.variant.hasSlot slot = true ∧ isCan slot = true ∧ s.sdoServes slot m = true ∧ s.sdoKind m = .upSeg ∧ s.sdo = .segUp mux rest toggle ∧ bitAt (byteAt m 0) 4 = toggle :=
  ⟨{ S3 with sdo := .segUp 5 [1, 2, 3] true }, 3, ([0x70, 0, 0, 0, 0, 0, 0, 0] : Bytes), 5, ([1, 2, 3] : Bytes), true, by decide +kernel⟩
theorem met_ServiceTransfers_10 : ∃ s : State, ∃ slot : Nat, ∃ m : Bytes, ∃ mux, ∃ rest, ∃ toggle : Bool, s.variant.hasSlot slot = true ∧ isCan slot = true ∧ s.sdoServes slot m = true ∧ s.sdoKind m = .upSeg ∧ s.sdo = .segUp mux rest toggle ∧ bitAt (byteAt m 0) 4 = toggle :=
  ⟨{ S3 with sdo := .segUp 5 (List.replicate 8 1) false }, 3, ([0x60, 0, 0, 0, 0, 0, 0, 0] : Bytes), 5, List.replicate 8 (1 : Byte), false, by decide +kernel⟩
theorem met_ServiceTransfers_11 : ∃ s : State, ∃ slot : Nat, ∃ m : Bytes, ∃ mux, ∃ data, ∃ pos, ∃ k, ∃ sent, ∃ crc : Bool, s.variant.hasSlot slot = true ∧ isCan slot = true ∧ s.sdoServes slot m = true ∧ s.sdoKind m = .blockUp ∧ byteAt m 0 % 4 = 3 ∧ s.sdo = .blkUp mux data pos k sent crc 0 :=
  ⟨{ S3 with sdo := .blkUp 5 (List.replicate 20 1) 0 10 0 true 0 }, 3, ([0xA3, 0, 0, 0, 0, 0, 0, 0] : Bytes), 5, List.replicate 20 (1 : Byte), 0, 10, 0, true, by decide +kernel⟩
theorem met_ServiceTransfers_12 : ∃ s : State, ∃ slot : Nat, ∃ m : Bytes, ∃ c, s.variant.hasSlot slot = true ∧ isCan slot = true ∧ s.sdoServes slot m = true ∧ c ∈ [Instr.sdoDownloadInitiate slot m, .sdoDownloadSegment slot m, .sdoBlockDownload slot m, .sdoUploadInitiate slot m, .sdoUploadSegment slot m, .sdoBlockUpload slot m] ∧ s.sdoKind m = .clientAbort :=
  ⟨{ S3 with sdo := .segUp 5 [1, 2, 3] true }, 3, ([0x80, 0, 0, 0, 0, 0, 0, 0] : Bytes), Instr.sdoUploadSegment (3) (([0x80, 0, 0, 0, 0, 0, 0, 0] : Bytes)), by decide +kernel⟩
theorem met_ServiceTransfers_13 : ∃ s : State, ∃ slot : Nat, ∃ m : Bytes, ∃ mux, ∃ size, ∃ data : Bytes, ∃ toggle : Bool, ∃ o, ∃ x, s.variant.hasSlot slot = true ∧ isCan slot = true ∧ s.sdoServes slot m = true ∧ s.sdoKind m = .downSeg ∧ s.sdo = .segDown mux size data toggle ∧ bitAt (byteAt m 0) 4 = toggle ∧ bitAt (byteAt m 0) 0 = true ∧ sizeWrong size (data ++ (m.drop 1).take (7 - byteAt m 0 / 2 % 8)) = false ∧ odObject s.variant (mux % 65536) = some o ∧ odEntry s.variant (mux % 65536 * 256 + mux / 65536) = some x ∧ x.acc = .rw ∧ x.live = false ∧ s.accepts 0 (mux % 65536) (mux / 65536) (s.cursorRow 0 (mux % 65536)) (data ++ (m.drop 1).take (7 - byteAt m 0 / 2 % 8)) = true ∧ s.mayStage 0 = true ∧ s.hasRoom [(okey (mux % 65536 * 256 + mux / 65536) (o.keyRow (s.cursorRow 0 (mux % 65536))), leNat (data ++ (m.drop 1).take (7 - byteAt m 0 / 2 % 8)))] = true :=
  ⟨{ S3 with sdo := .segDown 0x073400 none [] true }, 3, ([0x1B, 0x10, 1, 0, 0, 0, 0, 0] : Bytes), 0x073400, (none : Option Nat), ([] : Bytes), true, (odObject ({ S3 with sdo := .segDown 0x073400 none [] true }).variant 0x3400).getD dObj, (odEntry ({ S3 with sdo := .segDown 0x073400 none [] true }).variant E.powerIdleTime).getD dEnt, by decide +kernel⟩
theorem met_ServiceTransfers_14 : ∃ s : State, ∃ slot : Nat, ∃ m : Bytes, ∃ mux, ∃ size, ∃ data : Bytes, ∃ toggle : Bool, s.variant.hasSlot slot = true ∧ isCan slot = true ∧ s.sdoServes slot m = true ∧ s.sdoKind m = .downSeg ∧ s.sdo = .segDown mux size data toggle ∧ bitAt (byteAt m 0) 4 = toggle ∧ bitAt (byteAt m 0) 0 = true ∧ sizeWrong size (data ++ (m.drop 1).take (7 - byteAt m 0 / 2 % 8)) = true :=
  ⟨{ S3 with sdo := .segDown 0x073400 (some 3) [] true }, 3, ([0x1B, 0x10, 1, 0, 0, 0, 0, 0] : Bytes), 0x073400, (some 3 : Option Nat), ([] : Bytes), true, by decide +kernel⟩
theorem met_ServiceTransfers_15 : ∃ s : State, ∃ mux, s.serves 0 = true ∧ s.sdo.mux = some mux :=
  ⟨{ S3 with sdo := .segUp 5 [1, 2, 3] true }, 5, by decide +kernel⟩
theorem met_AniseRequests_1 : ∃ s : State, ∃ m : AniseMsg, ∃ row, ∃ a, ∃ b, s.variant.hasSlot m.env.slot = true ∧ isEth m.env.slot = true ∧ s.endpointRuns = true ∧ s.forEndpoint m.env = true ∧ m.bad = false ∧ row < 5 ∧ s.sidRow m.sid (·.valid) = some row ∧ m.seq ≠ 0 ∧ ((s.sess row).valid = true) ∧ aniseTag (s.sess row).ks (m.bytes 6) = m.tag ∧ s.sidRow m.sid (·.pending) = none ∧ ((s.sess row).replay m.seq (m.bytes 6 ++ m.tag) = .accept a b) ∧ m.flagsOk = true :=
  ⟨A7, AM 6 6 0 0 0 [1, 2], 1, 6, 3, by and_intros <;> first | decide +kernel | exact bump_ne _ | rfl⟩
theorem met_AniseRequests_2 : ∃ s : State, ∃ m : AniseMsg, ∃ row, ∃ a, ∃ b, s.variant.hasSlot m.env.slot = true ∧ isEth m.env.slot = true ∧ s.endpointRuns = true ∧ s.forEndpoint m.env = true ∧ m.bad = false ∧ row < 5 ∧ s.sidRow m.sid (·.valid) = some row ∧ m.seq ≠ 0 ∧ ((s.sess row).valid = true) ∧ aniseTag (s.sess row).ks (m.bytes 6) = m.tag ∧ s.sidRow m.sid (·.pending) = none ∧ ((s.sess row).replay m.seq (m.bytes 6 ++ m.tag) = .accept a b) ∧ m.flagsOk = true :=
  ⟨A7, AM 6 3 0 0 0 [1, 2], 1, 5, 5, by and_intros <;> first | decide +kernel | exact bump_ne _ | rfl⟩
theorem met_AniseRequests_3 : ∃ s : State, ∃ m : AniseMsg, ∃ row, ∃ a, ∃ b, ∃ v, s.variant.hasSlot m.env.slot = true ∧ isEth m.env.slot = true ∧ s.endpointRuns = true ∧ s.forEndpoint m.env = true ∧ m.bad = false ∧ row < 5 ∧ s.sidRow m.sid (·.valid) = some row ∧ m.seq ≠ 0 ∧ ((s.sess row).valid = true) ∧ aniseTag (s.sess row).ks (m.bytes 1) = m.tag ∧ ((s.sess row).replay m.seq (m.bytes 1 ++ m.tag) = .accept a b) ∧ m.flagsOk = true ∧ m.data = [] ∧ m.sid ≠ 0 ∧ ((s.aniseAccept row a b).odRead row m.index m.sub m.offset (bitAt m.flags 1) false = (0, v)) ∧ s.carrier row = servingDie m.index m.sub m.offset :=
  ⟨A7, AM 1 6 0x2130 1 0 [], 1, 6, 3, ((A7.aniseAccept 1 6 3).odRead 1 0x2130 1 0 false false).2, by and_intros <;> first | decide +kernel | exact bump_ne _ | rfl⟩
theorem met_AniseRequests_4 : ∃ s : State, ∃ m : AniseMsg, ∃ row, ∃ a, ∃ b, ∃ o, ∃ x, s.variant.hasSlot m.env.slot = true ∧ isEth m.env.slot = true ∧ s.endpointRuns = true ∧ s.forEndpoint m.env = true ∧ m.bad = false ∧ row < 5 ∧ s.sidRow m.sid (·.valid) = some row ∧ m.seq ≠ 0 ∧ ((s.sess row).valid = true) ∧ aniseTag (s.sess row).ks (m.bytes 2) = m.tag ∧ ((s.sess row).replay m.seq (m.bytes 2 ++ m.tag) = .accept a b) ∧ m.flagsOk = true ∧ odObject s.variant m.index = some o ∧ odEntry s.variant (m.index * 256 + m.sub) = some x ∧ x.acc = .rw ∧ x.live = false ∧ s.accepts row m.index m.sub m.offset m.data = true ∧ s.mayStage row = true ∧ s.hasRoom [(okey (m.index * 256 + m.sub) (o.keyRow m.offset), leNat m.data)] = true :=
  ⟨A7, AM 2 6 0x3400 7 0 [0x10, 1], 1, 6, 3, (odObject (A7).variant 0x3400).getD dObj, (odEntry (A7).variant E.powerIdleTime).getD dEnt, by and_intros <;> first | decide +kernel | exact bump_ne _ | rfl⟩
theorem met_AniseRequests_5 : ∃ s : State, ∃ m : AniseMsg, ∃ row, ∃ a, ∃ b, s.variant.hasSlot m.env.slot = true ∧ isEth m.env.slot = true ∧ s.endpointRuns = true ∧ s.forEndpoint m.env = true ∧ m.bad = false ∧ row < 5 ∧ s.sidRow m.sid (·.valid) = some row ∧ m.seq ≠ 0 ∧ ((s.sess row).valid = true) ∧ aniseTag (s.sess row).ks (m.bytes 5) = m.tag ∧ ((s.sess row).replay m.seq (m.bytes 5 ++ m.tag) = .accept a b) ∧ m.flagsOk = true ∧ m.data = [] :=
  ⟨A7, AM 5 6 0 0 0 [], 1, 6, 3, by and_intros <;> first | decide +kernel | exact bump_ne _ | rfl⟩
theorem met_AniseRequests_6 : ∃ s : State, ∃ m : AniseMsg, ∃ row, ∃ k, s.variant.hasSlot m.env.slot = true ∧ isEth m.env.slot = true ∧ s.endpointRuns = true ∧ s.forEndpoint m.env = true ∧ m.bad = false ∧ row < 5 ∧ s.sidRow m.sid (·.valid) = some row ∧ m.seq ≠ 0 ∧ ((s.sess row).valid = true) ∧ k ∈ [1, 2, 5] ∧ m.sid ≠ 0 ∧ aniseTag (s.sess row).ks (m.bytes k) ≠ m.tag :=
  ⟨A7, { AM 5 6 0 0 0 [] with tag := BT 5 }, 1, 5, by and_intros <;> first | decide +kernel | exact bump_ne _ | rfl⟩
theorem met_AniseRequests_7 : ∃ s : State, ∃ m : AniseMsg, ∃ row, s.variant.hasSlot m.env.slot = true ∧ isEth m.env.slot = true ∧ s.endpointRuns = true ∧ s.forEndpoint m.env = true ∧ m.bad = false ∧ m.sid = 0 ∧ [1, 2, 3, 4].find? (fun r => !(s.sess r).valid && !(s.sess r).pending) = some row ∧ ((s.sidZero.filter (fun x => s.clock.ticks - x < 40000000)).length < 100) ∧ m.flagsOk = true ∧ m.data.length = 33 ∧ rangeStatus 1 4 (leNat (m.data.take 1)) = 0 ∧ s.reachesServer row 0 = true ∧ ((s.lockout 2).locked = false) ∧ s.life.barred = false ∧ s.aniseHeld < s.cfg E.accessAniseMaxSessions ∧ s.safe.noTrng = false ∧ s.safe.noSha = false :=
  ⟨{ Z with sidZero := [] }, { AM 3 0 0 0 0 (2 :: List.replicate 32 1) with sid := 0, length := 33, tag := List.replicate 16 0 }, 2, by and_intros <;> first | decide +kernel | exact bump_ne _ | rfl⟩
theorem met_AniseRequests_8 : ∃ s : State, ∃ m : AniseMsg, ∃ row, ∃ key, s.variant.hasSlot m.env.slot = true ∧ isEth m.env.slot = true ∧ s.endpointRuns = true ∧ s.forEndpoint m.env = true ∧ m.bad = false ∧ row < 5 ∧ s.sidRow m.sid (·.pending) = some row ∧ s.accessKey (s.sess row).reqLevel = some key ∧ aniseTag (sessionKey key (s.sess row).sid (s.sess row).nd (s.sess row).nc) (m.bytes 4) = m.tag ∧ m.flagsOk = true ∧ m.seq = 1 ∧ m.data.length = 32 ∧ s.safe.noSha = false :=
  ⟨AP, AA (AP.accessProof ((AP.accessKey 2).getD []) 2 2 7 0 0), 1, (AP.accessKey 2).getD [], by and_intros <;> first | decide +kernel | exact bump_ne _ | rfl⟩
theorem met_AniseRequests_9 : ∃ s : State, ∃ m : AniseMsg, ∃ row, ∃ key, s.variant.hasSlot m.env.slot = true ∧ isEth m.env.slot = true ∧ s.endpointRuns = true ∧ s.forEndpoint m.env = true ∧ m.bad = false ∧ row < 5 ∧ s.sidRow m.sid (·.pending) = some row ∧ s.accessKey (s.sess row).reqLevel = some key ∧ aniseTag (sessionKey key (s.sess row).sid (s.sess row).nd (s.sess row).nc) (m.bytes 4) = m.tag ∧ m.flagsOk = true ∧ m.seq = 1 ∧ m.data.length = 32 ∧ s.safe.noSha = false :=
  ⟨AP, AA (List.replicate 32 1), 1, (AP.accessKey 2).getD [], by and_intros <;> first | decide +kernel | exact bump_ne _ | rfl⟩
theorem met_AniseRequests_10 : ∃ s : State, ∃ m : AniseMsg, ∃ row, ∃ key, s.variant.hasSlot m.env.slot = true ∧ isEth m.env.slot = true ∧ s.endpointRuns = true ∧ s.forEndpoint m.env = true ∧ m.bad = false ∧ row < 5 ∧ s.sidRow m.sid (·.pending) = some row ∧ s.accessKey (s.sess row).reqLevel = some key ∧ aniseTag (sessionKey key (s.sess row).sid (s.sess row).nd (s.sess row).nc) (m.bytes 4) = m.tag ∧ m.flagsOk = true ∧ m.seq = 1 ∧ m.data.length = 32 ∧ s.safe.noSha = false ∧ ((s.lockout 2).locked = true) :=
  ⟨{ AP with lockouts := [(2, { locked := true, fails := 3 })] }, AA (List.replicate 32 1), 1, (AP.accessKey 2).getD [], by and_intros <;> first | decide +kernel | exact bump_ne _ | rfl⟩
theorem met_ApplicationPairs_1 : ∃ s : State, ∃ d : Nat, ∃ w : Word, s.variant.hasDie d = true ∧ s.pairsRun d = true ∧ w.getLsbD 0 = true ∧ ((s.app d).sys.parErr = false) ∧ ((s.app d).sys.en = false) :=
  ⟨AD {}, 1, 1#32, by decide +kernel⟩
theorem met_ApplicationPairs_2 : ∃ s : State, ∃ d : Nat, ∃ w : Word, s.variant.hasDie d = true ∧ s.pairsRun d = true ∧ w.getLsbD 0 = true ∧ ((s.app d).sys.parErr = false) ∧ ((s.app d).sys.en = true) :=
  ⟨AD { sys := { en := true } }, 1, 1#32, by decide +kernel⟩
theorem met_ApplicationPairs_3 : ∃ s : State, ∃ d : Nat, ∃ w : Word, s.variant.hasDie d = true ∧ s.pairsRun d = true ∧ ((s.app d).sys.parErr = false) ∧ ((s.app d).sys.en = true) ∧ w.getLsbD 0 = false :=
  ⟨AD { sys := { en := true } }, 1, 0#32, by decide +kernel⟩
theorem met_ApplicationPairs_4 : ∃ s : State, ∃ d : Nat, s.variant.hasDie d = true ∧ s.pairsRun d = true :=
  ⟨AD {}, 1, by decide +kernel⟩
theorem met_ApplicationPairs_5 : ∃ s : State, ∃ d : Nat, s.variant.hasDie d = true ∧ s.pairsRun d = true ∧ ((s.app d).running = true) ∧ ((s.app d).sys.en = true) ∧ s.update.trial ≠ some 2 :=
  ⟨AD { running := true, sys := { en := true } }, 1, by decide +kernel⟩
theorem met_ApplicationPairs_6 : ∃ s : State, ∃ d : Nat, s.variant.hasDie d = true ∧ s.pairsRun d = true ∧ ((s.app d).delayArmed = true) ∧ ((s.recentRestarts d).length + 1 ≤ s.cfg E.appRestartLimit) :=
  ⟨AD { delayArmed := true }, 1, by decide +kernel⟩
theorem met_ApplicationPairs_7 : ∃ s : State, ∃ d : Nat, s.variant.hasDie d = true ∧ s.pairsRun d = true ∧ ((s.app d).delayArmed = true) ∧ s.cfg E.appRestartLimit < (s.recentRestarts d).length + 1 :=
  ⟨{ (AD { delayArmed := true }).setCfg E.appRestartLimit 0 with pending := [] }, 1, by decide +kernel⟩
theorem met_ApplicationPairs_8 : ∃ s : State, ∃ d : Nat, s.variant.hasDie d = true ∧ s.pairsRun d = true ∧ ((s.app d).reloading = true) ∧ ((s.app d).running = false) ∧ s.cfgOn E.appEnable = true ∧ s.update.trial ≠ some 2 :=
  ⟨AD { reloading := true }, 1, by decide +kernel⟩
theorem met_InterruptController_1 : ∃ s : State, ∃ d : Nat, ∃ src, ∃ target, s.variant.hasDie d = true ∧ s.pairsRun d = true ∧ target < 2 ∧ s.reaches d src target = true :=
  ⟨IT {}, 1, 130, 1, by decide +kernel⟩
theorem met_InterruptController_2 : ∃ s : State, ∃ d : Nat, ∃ src, ∃ target, s.variant.hasDie d = true ∧ s.pairsRun d = true ∧ target < 2 ∧ s.reaches d src target = true :=
  ⟨IT { pend := 2 ^ 130 }, 1, 130, 1, by decide +kernel⟩
theorem met_InterruptController_3 : ∃ s : State, ∃ d : Nat, ∃ src, ∃ target, s.variant.hasDie d = true ∧ s.pairsRun d = true ∧ target < 2 ∧ s.reaches d src target = true :=
  ⟨IT {}, 1, 255, 0, by decide +kernel⟩
theorem met_InterruptController_4 : ∃ s : State, ∃ d : Nat, ∃ k, s.variant.hasDie d = true ∧ s.pairsRun d = true ∧ k < 256 ∧ ((s.intcTarget d 1).qualifies k = true) ∧ ((∀ j, j < 256 → (s.intcTarget d 1).qualifies j = true → (s.intcTarget d 1).prioOf j < (s.intcTarget d 1).prioOf k ∨ ((s.intcTarget d 1).prioOf j = (s.intcTarget d 1).prioOf k ∧ k ≤ j))) :=
  ⟨IT { pend := 2 ^ 130 + 2 ^ 131, enable := 2 ^ 130 + 2 ^ 131, prio := 15 * 16 ^ 131 + 2 * 16 ^ 130, blk := { en := true } }, 1, 131, by decide +kernel⟩
theorem met_InterruptController_5 : ∃ s : State, ∃ d : Nat, s.variant.hasDie d = true ∧ s.pairsRun d = true ∧ ((∀ j, j < 256 → (s.intcTarget d 1).qualifies j = false)) :=
  ⟨IT {}, 1, by decide +kernel⟩
theorem met_InterruptController_6 : ∃ s : State, ∃ d : Nat, s.variant.hasDie d = true ∧ s.pairsRun d = true :=
  ⟨IT { active := 2 ^ 130 }, 1, by decide +kernel⟩
theorem met_InterruptController_7 : ∃ s : State, ∃ d : Nat, s.variant.hasDie d = true ∧ s.pairsRun d = true :=
  ⟨IT {}, 1, by decide +kernel⟩
theorem met_InterruptController_8 : ∃ s : State, ∃ d : Nat, ∃ w : Word, s.variant.hasDie d = true ∧ s.pairsRun d = true ∧ 128 ≤ w.toNat % 256 ∧ bitAt (s.intcTarget d 0).pend (w.toNat % 256) = false ∧ bitAt (s.intcTarget d 0).active (w.toNat % 256) = false ∧ bitAt (s.cfg E.appIrqRoute) (w.toNat % 256) = true ∧ bitAt (s.intcTarget d 1).pend (w.toNat % 256) = false ∧ bitAt (s.intcTarget d 1).active (w.toNat % 256) = false :=
  ⟨IT {}, 1, 128#32, by decide +kernel⟩
theorem met_InterruptController_9 : ∃ s : State, ∃ d : Nat, ∃ w : Word, s.variant.hasDie d = true ∧ s.pairsRun d = true ∧ w.toNat % 256 < 128 ∧ bitAt (s.intcTarget d 0).pend (w.toNat % 256) = false ∧ bitAt (s.intcTarget d 0).active (w.toNat % 256) = false ∧ bitAt (s.intcTarget d 1).pend (w.toNat % 256) = false ∧ bitAt (s.intcTarget d 1).active (w.toNat % 256) = false ∧ bitAt (s.cfg E.appIrqRoute) (w.toNat % 256) = false :=
  ⟨IT {}, 1, 127#32, by decide +kernel⟩
theorem met_InterruptController_10 : ∃ s : State, ∃ d : Nat, ∃ w : Word, s.variant.hasDie d = true ∧ s.pairsRun d = true ∧ 128 ≤ w.toNat % 256 ∧ bitAt (s.intcTarget d 0).pend (w.toNat % 256) = false ∧ bitAt (s.intcTarget d 0).active (w.toNat % 256) = false ∧ bitAt (s.intcTarget d 1).pend (w.toNat % 256) = false ∧ bitAt (s.intcTarget d 1).active (w.toNat % 256) = false ∧ bitAt (s.cfg E.appIrqRoute) (w.toNat % 256) = false :=
  ⟨{ (IT {}).setCfg E.appIrqRoute 0 with pending := [] }, 1, 255#32, by decide +kernel⟩
theorem met_InterruptController_11 : ∃ s : State, ∃ d : Nat, ∃ m : Nat, ∃ k, s.variant.hasDie d = true ∧ s.pairsRun d = true ∧ s.variant.hasDie m = true ∧ m = d ∧ s.pairsRun m = true ∧ s.bridgeWay m d = true ∧ k < 2 ∧ ((k = 1 → bitAt (s.cfg E.appIrqRoute) (70 + m) = true)) ∧ bitAt (s.intcTarget d k).pend (70 + m) = false ∧ bitAt (s.intcTarget d k).active (70 + m) = false :=
  ⟨IT {}, 1, 1, 0, by decide +kernel⟩
theorem met_InterruptController_12 : ∃ s : State, ∃ d : Nat, ∃ m : Nat, ∃ k, s.variant.hasDie d = true ∧ s.pairsRun d = true ∧ s.variant.hasDie m = true ∧ m ≠ d ∧ s.pairsRun m = true ∧ s.bridgeWay m d = true ∧ k < 2 ∧ ((k = 1 → bitAt (s.cfg E.appIrqRoute) (70 + m) = true)) ∧ bitAt (s.intcTarget d k).pend (70 + m) = false ∧ bitAt (s.intcTarget d k).active (70 + m) = false :=
  ⟨IT {}, 1, 2, 0, by decide +kernel⟩
theorem met_InterruptController_13 : ∃ s : State, ∃ d : Nat, ∃ m : Nat, ∃ k, s.variant.hasDie d = true ∧ s.pairsRun d = true ∧ s.variant.hasDie m = true ∧ m ≠ d ∧ s.pairsRun m = true ∧ s.bridgeWay m d = true ∧ k < 2 ∧ ((k = 1 → bitAt (s.cfg E.appIrqRoute) (70 + m) = true)) ∧ bitAt (s.intcTarget d k).pend (70 + m) = false ∧ bitAt (s.intcTarget d k).active (70 + m) = false :=
  ⟨(IT {}).setCfg E.appIrqRoute (2 ^ 72), 1, 2, 1, by decide +kernel⟩
theorem met_InterruptController_14 : ∃ s : State, ∃ d : Nat, ∃ m : Nat, ∃ k, s.variant.hasDie d = true ∧ s.pairsRun d = true ∧ s.variant.hasDie m = true ∧ m ≠ d ∧ s.bridgeWay m d = true ∧ k < 2 ∧ ((k = 1 → bitAt (s.cfg E.appIrqRoute) (70 + m) = true)) ∧ bitAt (s.intcTarget d k).pend (70 + m) = false ∧ bitAt (s.intcTarget d k).active (70 + m) = false ∧ (s.pairsRun m = false ∨ s.bridgeWay m d = false) :=
  ⟨{ IT {} with dies := [(1, up)] }, 1, 2, 0, by decide +kernel⟩
theorem met_InterruptController_15 : ∃ s : State, ∃ d : Nat, ∃ m : Nat, ∃ k, s.variant.hasDie d = true ∧ s.pairsRun d = true ∧ s.variant.hasDie m = true ∧ m ≠ d ∧ s.pairsRun m = true ∧ s.bridgeWay m d = true ∧ k < 2 ∧ ((k = 1 → bitAt (s.cfg E.appIrqRoute) (70 + m) = true)) ∧ bitAt (s.intcTarget d k).active (70 + m) = false ∧ (bitAt (s.intcTarget d k).pend (70 + m) = true ∨ bitAt (s.intcTarget d k).active (70 + m) = true) :=
  ⟨{ IT {} with intc := [(2, { pend := 2 ^ 72 })] }, 1, 2, 0, by decide +kernel⟩
theorem met_InterruptController_16 : ∃ s : State, ∃ d : Nat, ∃ m : Nat, ∃ k, s.variant.hasDie d = true ∧ s.pairsRun d = true ∧ s.variant.hasDie m = true ∧ m ≠ d ∧ s.pairsRun m = true ∧ s.bridgeWay m d = true ∧ k < 2 ∧ ((k = 1 → bitAt (s.cfg E.appIrqRoute) (70 + m) = true)) ∧ bitAt (s.intcTarget d k).pend (70 + m) = false ∧ bitAt (s.intcTarget d k).active (70 + m) = false ∧ bitAt (s.cfg E.appIrqRoute) (70 + m) = false :=
  ⟨(IT {}).setCfg E.appIrqRoute 0, 1, 2, 0, by decide +kernel⟩
theorem met_InterruptController_17 : ∃ s : State, ∃ d : Nat, ∃ word : Nat, s.variant.hasDie d = true ∧ s.pairsRun d = true ∧ word < 8 :=
  ⟨IT { pend := 2 ^ 65 }, 1, 2, by decide +kernel⟩
theorem met_TimersAndPins_1 : ∃ s : State, ∃ d : Nat, ∃ n : Nat, ∃ w : Word, s.variant.hasDie d = true ∧ s.pairsRun d = true ∧ n < 16 ∧ (((s.app d).timer n).owner = 2) ∧ w.getLsbD 0 = true ∧ (((s.app d).timer n).blk.parErr = false) ∧ (((s.app d).timer n).blk.en = false) ∧ (((s.app d).timer n).blk.disabling = false) :=
  ⟨AD { timers := [(3, { owner := 2, load := 9 })] }, 1, 3, 7#32, by decide +kernel⟩
theorem met_TimersAndPins_2 : ∃ s : State, ∃ d : Nat, ∃ n : Nat, ∃ w : Word, s.variant.hasDie d = true ∧ s.pairsRun d = true ∧ n < 16 ∧ (((s.app d).timer n).owner = 2) ∧ (((s.app d).timer n).blk.parErr = false) ∧ (((s.app d).timer n).blk.disabling = false) ∧ (((s.app d).timer n).blk.en = true) ∧ w.getLsbD 0 = false :=
  ⟨AD { timers := [(3, { owner := 2, load := 9, count := 4, blk := { en := true } })] }, 1, 3, 6#32, by decide +kernel⟩
theorem met_TimersAndPins_3 : ∃ s : State, ∃ d : Nat, ∃ n : Nat, ∃ w : Word, s.variant.hasDie d = true ∧ s.pairsRun d = true ∧ n < 16 ∧ (((s.app d).timer n).owner = 2) ∧ w.getLsbD 0 = true ∧ (((s.app d).timer n).blk.parErr = false) ∧ (((s.app d).timer n).blk.disabling = false) ∧ (((s.app d).timer n).blk.en = true) ∧ w.getLsbD 2 = ((s.app d).timer n).ie ∧ w.getLsbD 1 = ((s.app d).timer n).periodic :=
  ⟨AD { timers := [(3, { owner := 2, load := 9, count := 4, ie := true, blk := { en := true } })] }, 1, 3, 5#32, by decide +kernel⟩
theorem met_TimersAndPins_4 : ∃ s : State, ∃ d : Nat, ∃ n : Nat, ∃ w : Word, s.variant.hasDie d = true ∧ s.pairsRun d = true ∧ n < 16 ∧ (((s.app d).timer n).owner ≠ 2) ∧ w.getLsbD 0 = true ∧ (((s.app d).timer n).blk.parErr = false) ∧ (((s.app d).timer n).blk.en = false) ∧ (((s.app d).timer n).blk.disabling = false) :=
  ⟨AD { timers := [(3, { owner := 1, load := 9 })] }, 1, 3, 7#32, by decide +kernel⟩
theorem met_TimersAndPins_5 : ∃ s : State, ∃ d : Nat, ∃ n, ∃ k, s.variant.hasDie d = true ∧ s.pairsRun d = true ∧ n < 16 ∧ (((s.app d).timer n).blk.en = true) ∧ (((s.app d).timer n).ie = true) ∧ (((s.app d).timer n).owner = k + 1) ∧ k < 2 ∧ bitAt (s.intcTarget d k).active (33 + n / 2) = false :=
  ⟨AD { timers := [(3, { owner := 2, load := 9, ie := true, periodic := true, blk := { en := true } })], pins := [(2, { func := 2, timer := 3, owner := 2, blk := { en := true } })] }, 1, 3, 1, by decide +kernel⟩
theorem met_TimersAndPins_6 : ∃ s : State, ∃ d : Nat, ∃ n, ∃ k, s.variant.hasDie d = true ∧ s.pairsRun d = true ∧ n < 16 ∧ (((s.app d).timer n).blk.en = true) ∧ (((s.app d).timer n).owner = k + 1) ∧ k < 2 ∧ bitAt (s.intcTarget d k).active (33 + n / 2) = false ∧ (((s.app d).timer n).ie = false) :=
  ⟨AD { timers := [(3, { owner := 2, load := 9, blk := { en := true } })] }, 1, 3, 1, by decide +kernel⟩
theorem met_TimersAndPins_7 : ∃ s : State, ∃ d : Nat, ∃ n, ∃ pair, s.variant.hasDie d = true ∧ s.pairsRun d = true ∧ n < 16 ∧ ownerOk pair = true :=
  ⟨AD {}, 1, 15, 2, by decide +kernel⟩
theorem met_TimersAndPins_8 : ∃ s : State, ∃ d : Nat, ∃ n, ∃ pair, s.variant.hasDie d = true ∧ s.pairsRun d = true ∧ n < 16 ∧ ownerOk pair = true :=
  ⟨AD { timers := [(15, { owner := 1 })] }, 1, 15, 2, by decide +kernel⟩
theorem met_TimersAndPins_9 : ∃ s : State, ∃ d : Nat, ∃ n, ∃ pair, s.variant.hasDie d = true ∧ s.pairsRun d = true ∧ n < 16 ∧ ownerOk pair = true :=
  ⟨AD { timers := [(15, { owner := 2 })] }, 1, 15, 2, by decide +kernel⟩
theorem met_TimersAndPins_10 : ∃ s : State, ∃ d : Nat, ∃ n, ∃ pair, s.variant.hasDie d = true ∧ s.pairsRun d = true ∧ n < 16 ∧ ownerOk pair = true :=
  ⟨AD { timers := [(15, { owner := 2, blk := { en := true } })] }, 1, 15, 2, by decide +kernel⟩
theorem met_TimersAndPins_11 : ∃ s : State, ∃ d : Nat, ∃ n, ∃ pair, s.variant.hasDie d = true ∧ s.pairsRun d = true ∧ n < 8 ∧ ownerOk pair = true :=
  ⟨AD {}, 1, 7, 2, by decide +kernel⟩
theorem met_TimersAndPins_12 : ∃ s : State, ∃ d : Nat, ∃ n, ∃ pair, s.variant.hasDie d = true ∧ s.pairsRun d = true ∧ n < 8 ∧ ownerOk pair = true :=
  ⟨AD { pins := [(7, { owner := 2 })] }, 1, 7, 2, by decide +kernel⟩
theorem met_TimersAndPins_13 : ∃ s : State, ∃ d : Nat, ∃ pair : Nat, s.variant.hasDie d = true ∧ s.pairsRun d = true ∧ ownerOk pair = true :=
  ⟨AD { pins := [(2, { owner := 2 }), (3, { owner := 1 })] }, 1, 2, by decide +kernel⟩
theorem met_QueuePairRegisters_1 : ∃ s : State, ∃ d : Nat, ∃ k : Nat, s.variant.hasDie d = true ∧ s.pairsRun d = true ∧ k < 16 ∧ ((s.qp d k).blk.parErr = false) ∧ ((s.qp d k).blk.en = false) ∧ ((s.qp d k).blk.disabling = false) :=
  ⟨QS Q0, 1, 3, by decide +kernel⟩
theorem met_QueuePairRegisters_2 : ∃ s : State, ∃ d : Nat, ∃ k : Nat, s.variant.hasDie d = true ∧ s.pairsRun d = true ∧ k < 16 ∧ ((s.qp d k).blk.parErr = false) ∧ ((s.qp d k).blk.en = false) ∧ ((s.qp d k).blk.disabling = false) :=
  ⟨QS {}, 1, 15, by decide +kernel⟩
theorem met_QueuePairRegisters_3 : ∃ s : State, ∃ d : Nat, ∃ k : Nat, s.variant.hasDie d = true ∧ s.pairsRun d = true ∧ k < 16 ∧ ((s.qp d k).blk.en = true) :=
  ⟨QS { Q0 with blk := { en := true } }, 1, 3, by decide +kernel⟩
theorem met_QueuePairRegisters_4 : ∃ s : State, ∃ d : Nat, ∃ k : Nat, s.variant.hasDie d = true ∧ s.pairsRun d = true ∧ k < 16 ∧ ((s.qp d k).blk.disabling = true) ∧ ((s.qp d k).blk.again = false) ∧ s.qpBad d k = false :=
  ⟨QS { Q0 with blk := { disabling := true }, rxWr := 30, txWr := 8 }, 1, 3, by decide +kernel⟩
theorem met_QueuePairRegisters_5 : ∃ s : State, ∃ d : Nat, ∃ k : Nat, s.variant.hasDie d = true ∧ s.pairsRun d = true ∧ k < 16 ∧ ((s.qp d k).blk.disabling = true) ∧ ((s.qp d k).blk.again = true) ∧ s.qpBad d k = false :=
  ⟨QS { Q0 with blk := { disabling := true, again := true }, rxWr := 30, txWr := 8 }, 1, 3, by decide +kernel⟩
theorem met_QueuePairRegisters_6 : ∃ s : State, ∃ d : Nat, ∃ k : Nat, s.variant.hasDie d = true ∧ s.pairsRun d = true ∧ k < 16 :=
  ⟨QS { Q0 with rxWr := 3, rxRd := 2 ^ 32 - 2 }, 1, 3, by decide +kernel⟩
theorem met_QueuePairRegisters_7 : ∃ s : State, ∃ d : Nat, ∃ k : Nat, s.variant.hasDie d = true ∧ s.pairsRun d = true ∧ k < 16 :=
  ⟨QS { Q0 with rxRd := 5 }, 1, 3, by decide +kernel⟩
theorem met_QueuePairRegisters_8 : ∃ s : State, ∃ d : Nat, ∃ k : Nat, s.variant.hasDie d = true ∧ s.pairsRun d = true ∧ k < 16 :=
  ⟨QS { Q0 with rxRd := 5, rxWr := 6, rxHold := true, rxMarks := 0x00100004 }, 1, 3, by decide +kernel⟩
theorem met_QueuePairRegisters_9 : ∃ s : State, ∃ d : Nat, ∃ k : Nat, s.variant.hasDie d = true ∧ s.pairsRun d = true ∧ k < 16 ∧ 0 < (s.qp d k).discard ∧ ((s.qp d k).txHeld ≠ (s.qp d k).txSize) :=
  ⟨QS { Q0 with discard := 2 }, 1, 3, by decide +kernel⟩
theorem met_QueuePairRegisters_10 : ∃ s : State, ∃ d : Nat, ∃ k : Nat, s.variant.hasDie d = true ∧ s.pairsRun d = true ∧ k < 16 ∧ ((s.qp d k).discard = 0) ∧ ((s.qp d k).txHeld = (s.qp d k).txSize) :=
  ⟨QS { Q0 with txWr := 2560 }, 1, 3, by decide +kernel⟩
theorem met_QueuePairRegisters_11 : ∃ s : State, ∃ d : Nat, ∃ k : Nat, s.variant.hasDie d = true ∧ s.pairsRun d = true ∧ k < 16 ∧ ((s.qp d k).discard = 0) ∧ ((s.qp d k).txHeld ≠ (s.qp d k).txSize) :=
  ⟨QS { Q0 with txWr := 2561, txTaken := 2 }, 1, 3, by decide +kernel⟩
theorem met_QueuePairRegisters_12 : ∃ s : State, ∃ d : Nat, ∃ k : Nat, ∃ a, s.variant.hasDie d = true ∧ s.pairsRun d = true ∧ k < 16 ∧ ((s.qp d k).discard = 0) ∧ ((s.qp d k).txHeld ≠ (s.qp d k).txSize) ∧ a ≠ ringWord (s.qp d k).txBase (s.qp d k).txSize (s.qp d k).txWr :=
  ⟨QS { Q0 with txWr := 2561, txTaken := 2 }, 1, 3, 0x1002, by decide +kernel⟩
theorem met_QueuePairRegisters_13 : ∃ s : State, ∃ d : Nat, ∃ k : Nat, s.variant.hasDie d = true ∧ s.pairsRun d = true ∧ k < 16 :=
  ⟨QS { Q0 with txErrs := 3 }, 1, 3, by decide +kernel⟩
theorem met_QueuePairItems_1 : ∃ s : State, ∃ d : Nat, ∃ s1, ∃ c, ∃ cp, s.variant.hasDie d = true ∧ s.pairsRun d = true ∧ ((s.app d).running = true) ∧ s.qpPick d = (s1, some (c, cp)) ∧ ((s.qp d (s.qpOf c)).rxWr < 2 ^ 32) ∧ ((rxItem cp).length ≤ (s.qp d (s.qpOf c)).rxSize) ∧ ((s.qp d (s.qpOf c)).rxWr + (rxItem cp).length ≤ 2 ^ 32) :=
  ⟨{ QS { Q0 with blk := { en := true } } with queues := [(queueRow 1 23 3, [CQ])] }, 1, (({ QS { Q0 with blk := { en := true } } with queues := [(queueRow 1 23 3, [CQ])] }).qpPick (1)).1, 3, CQ, by decide +kernel⟩
theorem met_QueuePairItems_2 : ∃ s : State, ∃ d : Nat, ∃ k, s.variant.hasDie d = true ∧ s.pairsRun d = true ∧ (((List.range 16).map (fun i => ((s.app d).turn + i) % 16)).find? (s.txReady d) = some k) ∧ s.txItemWords d k ≤ (s.qp d k).txSize ∧ txHeaderOk (((List.range (s.txItemWords d k)).map (s.txWord d k)).take 8) = true :=
  ⟨AD { running := true, sram := [(0x1000, 2 * 2 ^ 24 + 1), (0x1001, 5), (0x1008, 7)], qps := [(3, { Q0 with blk := { en := true }, txWr := 9 })] }, 1, 3, by decide +kernel⟩
theorem met_QueuePairItems_3 : ∃ s : State, ∃ d : Nat, ∃ k, s.variant.hasDie d = true ∧ s.pairsRun d = true ∧ (((List.range 16).map (fun i => ((s.app d).turn + i) % 16)).find? (s.txReady d) = some k) ∧ s.txItemWords d k ≤ (s.qp d k).txSize ∧ txHeaderOk (((List.range (s.txItemWords d k)).map (s.txWord d k)).take 8) = false :=
  ⟨AD { running := true, sram := [(0x1000, 7 * 2 ^ 24 + 1), (0x1001, 5), (0x1008, 7)], qps := [(3, { Q0 with blk := { en := true }, txWr := 9 })] }, 1, 3, by decide +kernel⟩
theorem met_QueuePairItems_4 : ∃ s : State, ∃ d : Nat, s.variant.hasDie d = true ∧ s.pairsRun d = true :=
  ⟨AD { cap := { wr := 5, rd := 2 } }, 1, by decide +kernel⟩
theorem met_MailboxRequests_1 : ∃ s : State, ∃ d : Nat, ∃ staged : Bool, ∃ c, ∃ op, s.variant.hasDie d = true ∧ s.pairsRun d = true ∧ [(Instr.mbxRead d staged, 1), (.mbxWrite d staged, 2)].contains (c, op) = true ∧ ((s.app d).mbx.blk.en = true) ∧ ((s.app d).mbx.busy = false) :=
  ⟨AD {}, 1, true, (Instr.mbxRead (1) (true)), 1, by decide +kernel⟩
theorem met_MailboxRequests_2 : ∃ s : State, ∃ d : Nat, ∃ staged : Bool, ∃ c, ∃ op, s.variant.hasDie d = true ∧ s.pairsRun d = true ∧ [(Instr.mbxRead d staged, 1), (.mbxWrite d staged, 2)].contains (c, op) = true ∧ ((s.app d).mbx.blk.en = true) ∧ ((s.app d).mbx.busy = true) :=
  ⟨AD { mbx := { busy := true } }, 1, true, (Instr.mbxWrite (1) (true)), 2, by decide +kernel⟩
theorem met_MailboxRequests_3 : ∃ s : State, ∃ d : Nat, ∃ staged : Bool, ∃ c, ∃ op, s.variant.hasDie d = true ∧ s.pairsRun d = true ∧ [(Instr.mbxRead d staged, 1), (.mbxWrite d staged, 2)].contains (c, op) = true ∧ ((s.app d).mbx.busy = true) ∧ ((s.app d).mbx.blk.en = false) :=
  ⟨AD { mbx := { busy := true, blk := {} } }, 1, true, (Instr.mbxWrite (1) (true)), 2, by decide +kernel⟩
theorem met_MailboxRequests_4 : ∃ s : State, ∃ d : Nat, ∃ staged : Bool, ∃ c, ∃ op, s.variant.hasDie d = true ∧ s.pairsRun d = true ∧ [(Instr.mbxRead d staged, 1), (.mbxWrite d staged, 2)].contains (c, op) = true ∧ ((s.app d).mbx.busy = false) ∧ ((s.app d).mbx.blk.en = false) :=
  ⟨AD { mbx := { blk := {} } }, 1, true, (Instr.mbxWrite (1) (true)), 2, by decide +kernel⟩
theorem met_MailboxRequests_5 : ∃ s : State, ∃ d : Nat, ∃ v : Bytes, s.variant.hasDie d = true ∧ s.pairsRun d = true ∧ s.inRun = true ∧ ((s.app d).mbx.busy = true) ∧ ((s.app d).mbx.op = 1) ∧ s.pairRuns d = true ∧ s.odRead (d + 4) ((s.app d).mbx.index % 65536) ((s.app d).mbx.index / 65536) (s.app d).mbx.row (s.app d).mbx.staged false = (0, v) :=
  ⟨AD { mbx := { busy := true, op := 1, index := 0x3400 + 7 * 65536 } }, 1, ([44, 1] : Bytes), by decide +kernel⟩
theorem met_MailboxRequests_6 : ∃ s : State, ∃ d : Nat, s.variant.hasDie d = true ∧ s.pairsRun d = true ∧ s.inRun = true ∧ ((s.app d).mbx.busy = true) ∧ s.pairRuns d = false :=
  ⟨{ AD { mbx := { busy := true, op := 1, index := 0x3400 + 7 * 65536 } } with dies := [(1, { up with runtimeUp := false })] }, 1, by decide +kernel⟩
theorem met_MailboxRequests_7 : ∃ s : State, ∃ d : Nat, ∃ i, ∃ u, ∃ row, ∃ b : Bytes, ∃ o, ∃ x, s.variant.hasDie d = true ∧ s.pairsRun d = true ∧ s.inRun = true ∧ ((s.app d).mbx.busy = true) ∧ ((s.app d).mbx.op = 2) ∧ s.pairRuns d = true ∧ i = (s.app d).mbx.index % 65536 ∧ u = (s.app d).mbx.index / 65536 ∧ row = (s.app d).mbx.row ∧ b = (s.app d).mbx.bytes ∧ odObject s.variant i = some o ∧ odEntry s.variant (i * 256 + u) = some x ∧ x.acc = .rw ∧ x.live = false ∧ s.accepts (d + 4) i u row b = true ∧ s.mayStage (d + 4) = true ∧ s.hasRoom [(okey (i * 256 + u) (o.keyRow row), leNat b)] = true :=
  ⟨(AD { mbx := { busy := true, op := 2, index := 0x3400 + 7 * 65536, len := 2, data := [(0, 0x110)] } }).setCfg E.accessMailboxLevel 4, 1, 0x3400, 7, 0xFFFFFFFF, ([0x10, 1] : Bytes), (odObject ((AD { mbx := { busy := true, op := 2, index := 0x3400 + 7 * 65536, len := 2, data := [(0, 0x110)] } }).setCfg E.accessMailboxLevel 4).variant 0x3400).getD dObj, (odEntry ((AD { mbx := { busy := true, op := 2, index := 0x3400 + 7 * 65536, len := 2, data := [(0, 0x110)] } }).setCfg E.accessMailboxLevel 4).variant E.powerIdleTime).getD dEnt, by decide +kernel⟩
theorem met_BridgeTransfers_1 : ∃ s : State, ∃ d : Nat, ∃ w, ∃ o, s.variant.hasDie d = true ∧ s.pairsRun d = true ∧ s.windowOpen d w o = false :=
  ⟨BC {}, 1, 1, 0x800000, by decide +kernel⟩
theorem met_BridgeTransfers_2 : ∃ s : State, ∃ d : Nat, ∃ w, ∃ o, s.variant.hasDie d = true ∧ s.pairsRun d = true ∧ s.windowOpen d w o = true ∧ ((s.bridgeCore d 1).read = none) ∧ ((s.bridgeCore d 1).fencing = false) ∧ ((s.bridgeCore d 1).posted = []) ∧ 0x800000 ≤ o ∧ o < 0x8C0000 ∧ s.bridgeCut w = false ∧ s.bridgeWay d w = true :=
  ⟨{ W with apps := [(2, { sram := [(5, 77)] })] }, 1, 2, 0x800014, by decide +kernel⟩
theorem met_BridgeTransfers_3 : ∃ s : State, ∃ d : Nat, ∃ w, ∃ o, s.variant.hasDie d = true ∧ s.pairsRun d = true ∧ s.windowOpen d w o = true ∧ ((s.bridgeCore d 1).read = none) ∧ ((s.bridgeCore d 1).fencing = false) ∧ ((s.bridgeCore d 1).posted = []) ∧ (s.bridgeWay d w = true ∨ s.bridgeCut w = true) ∧ w < d :=
  ⟨BC {}, 2, 1, 0x800000, by decide +kernel⟩
theorem met_BridgeTransfers_4 : ∃ s : State, ∃ d : Nat, ∃ w, ∃ o, s.variant.hasDie d = true ∧ s.pairsRun d = true ∧ s.windowOpen d w o = true ∧ ((s.bridgeCore d 1).read = none) ∧ ((s.bridgeCore d 1).fencing = false) ∧ ((s.bridgeCore d 1).posted = []) ∧ (s.bridgeWay d w = true ∨ s.bridgeCut w = true) :=
  ⟨BC {}, 1, 2, 0x40, by decide +kernel⟩
theorem met_BridgeTransfers_5 : ∃ s : State, ∃ d : Nat, ∃ w, ∃ o, s.variant.hasDie d = true ∧ s.pairsRun d = true ∧ s.windowOpen d w o = true ∧ ((s.bridgeCore d 1).read = none) ∧ ((s.bridgeCore d 1).fencing = false) ∧ ((s.bridgeCore d 1).posted = []) ∧ s.bridgeWay d w = false ∧ s.bridgeCut w = false :=
  ⟨{ W with links := [(linkKey 2 0, { failed := true }), (linkKey 2 1, { failed := true }), (linkKey 2 2, { failed := true }), (linkKey 2 3, { failed := true })] }, 1, 2, 0x800010, by decide +kernel⟩
theorem met_BridgeTransfers_6 : ∃ s : State, ∃ d : Nat, ∃ w, ∃ o, ∃ m, s.variant.hasDie d = true ∧ s.pairsRun d = true ∧ s.windowOpen d w o = true ∧ ((s.bridgeCore d 1).read = none) ∧ ((s.bridgeCore d 1).fencing = false) ∧ ((s.bridgeCore d 1).posted = []) ∧ 0x800000 ≤ o ∧ o < 0x8C0000 ∧ s.bridgeCut w = false ∧ s.bridgeWay d w = true ∧ m ≠ w :=
  ⟨BC { tags := 4095 }, 1, 2, 0x800014, 1, by decide +kernel⟩
theorem met_BridgeTransfers_7 : ∃ s : State, ∃ d : Nat, ∃ w, ∃ o, ∃ a, ∃ m, s.variant.hasDie d = true ∧ s.pairsRun d = true ∧ s.windowOpen d w o = true ∧ ((s.bridgeCore d 1).read = none) ∧ ((s.bridgeCore d 1).fencing = false) ∧ ((s.bridgeCore d 1).posted = []) ∧ 0x800000 ≤ o ∧ o < 0x8C0000 ∧ s.bridgeCut w = false ∧ s.bridgeWay d w = true ∧ a ≠ (o - 0x800000) / 4 ∧ m ≠ w :=
  ⟨BC { tags := 4095 }, 1, 2, 0x8BFFFC, 5, 1, by decide +kernel⟩
theorem met_BridgeTransfers_8 : ∃ s : State, ∃ d : Nat, s.variant.hasDie d = true ∧ s.pairsRun d = true ∧ ((s.bridgeCore d 1).posted = []) ∧ ((s.bridgeCore d 1).read = none) :=
  ⟨BC { fence := 4 }, 1, by decide +kernel⟩
theorem met_BridgeTransfers_9 : ∃ s : State, ∃ d : Nat, s.variant.hasDie d = true ∧ s.pairsRun d = true :=
  ⟨BC { fence := 4 }, 1, by decide +kernel⟩
theorem met_BridgeTransfers_10 : ∃ s : State, ∃ d : Nat, ∃ x, ∃ c, s.variant.hasDie d = true ∧ s.pairsRun d = true ∧ ((s.bridgeCore d 1).posted = [x]) ∧ x.way = .failed c :=
  ⟨BC { posted := [X0 (.failed 3)] }, 1, X0 (.failed 3), 3, by decide +kernel⟩
theorem met_BridgeTransfers_11 : ∃ s : State, ∃ d : Nat, ∃ x, ∃ c, s.variant.hasDie d = true ∧ s.pairsRun d = true ∧ ((s.bridgeCore d 1).posted = [x]) ∧ x.way = .failed c :=
  ⟨BC { posted := [X0 (.failed 1)] }, 1, X0 (.failed 1), 1, by decide +kernel⟩
theorem met_BridgeTransfers_12 : ∃ s : State, ∃ d : Nat, ∃ x, ∃ k, s.variant.hasDie d = true ∧ s.pairsRun d = true ∧ ((s.bridgeCore d 1).posted = []) ∧ ((s.bridgeCore d 1).read = some x) ∧ x.way = .nacked k ∧ k < 255 :=
  ⟨BC { read := some (X0 (.nacked 254)) }, 1, X0 (.nacked 254), 254, by decide +kernel⟩
theorem met_BridgeTransfers_13 : ∃ s : State, ∃ d : Nat, ∃ x, ∃ k, s.variant.hasDie d = true ∧ s.pairsRun d = true ∧ ((s.bridgeCore d 1).posted = []) ∧ ((s.bridgeCore d 1).read = some x) ∧ x.way = .nacked k ∧ farSram x.addr = true ∧ s.bridgeCut x.die = false ∧ s.bridgeWay d x.die = true :=
  ⟨BC { read := some (X0 (.nacked 254)) }, 1, X0 (.nacked 254), 254, by decide +kernel⟩
theorem met_BridgeTransfers_14 : ∃ s : State, ∃ d : Nat, ∃ x, s.variant.hasDie d = true ∧ s.pairsRun d = true ∧ ((s.bridgeCore d 1).posted = []) ∧ ((s.bridgeCore d 1).read = some x) ∧ x.way = .silent :=
  ⟨BC { read := some (X0 .silent) }, 1, X0 .silent, by decide +kernel⟩
theorem met_BridgeTransfers_15 : ∃ s : State, ∃ d : Nat, s.variant.hasDie d = true ∧ s.pairsRun d = true :=
  ⟨BC { retry := 8 }, 1, by decide +kernel⟩
theorem met_BridgeTransfers_16 : ∃ s : State, ∃ d : Nat, ∃ x, ∃ k, s.variant.hasDie d = true ∧ s.pairsRun d = true ∧ ((s.bridgeCore d 1).posted = []) ∧ ((s.bridgeCore d 1).read = some x) ∧ x.way = .nacked k ∧ s.bridgeCut x.die = false ∧ s.bridgeWay d x.die = false :=
  ⟨{ W with links := [(linkKey 2 0, { failed := true }), (linkKey 2 1, { failed := true }), (linkKey 2 2, { failed := true }), (linkKey 2 3, { failed := true })], apps := [(1, { bridge := { cores := [(1, { read := some (X0 (.nacked 3)) })] } })] }, 1, X0 (.nacked 3), 3, by decide +kernel⟩
theorem met_Semaphores_1 : ∃ s : State, ∃ d : Nat, ∃ i : Nat, ∃ who, s.variant.hasDie d = true ∧ i < 32 ∧ s.variant.hasDie (who / 16) = true ∧ s.pairsRun d = true ∧ s.pairsRun (who / 16) = true ∧ ((who / 16 = d ∨ s.bridgeWay (who / 16) d = true)) ∧ mfind (s.app d).bridge.sems i = none :=
  ⟨W, 1, 31, 2 * 16 + 1, by decide +kernel⟩
theorem met_Semaphores_2 : ∃ s : State, ∃ d : Nat, ∃ i : Nat, ∃ who, ∃ h, s.variant.hasDie d = true ∧ i < 32 ∧ s.variant.hasDie (who / 16) = true ∧ s.pairsRun d = true ∧ s.pairsRun (who / 16) = true ∧ ((who / 16 = d ∨ s.bridgeWay (who / 16) d = true)) ∧ mfind (s.app d).bridge.sems i = some h :=
  ⟨{ W with apps := [(1, { bridge := { sems := [(31, 18)] } })] }, 1, 31, 2 * 16 + 1, 18, by decide +kernel⟩
theorem met_Semaphores_3 : ∃ s : State, ∃ d : Nat, ∃ i : Nat, ∃ who : Nat, ∃ v : Word, s.variant.hasDie d = true ∧ i < 32 ∧ s.variant.hasDie (who / 16) = true ∧ s.pairsRun d = true ∧ s.pairsRun (who / 16) = true ∧ ((who / 16 = d ∨ s.bridgeWay (who / 16) d = true)) ∧ v = 0 ∧ mfind (s.app d).bridge.sems i = some (who + 1) :=
  ⟨{ W with apps := [(1, { bridge := { sems := [(31, 34)] } })] }, 1, 31, 2 * 16 + 1, 0#32, by decide +kernel⟩
theorem met_Semaphores_4 : ∃ s : State, ∃ d : Nat, ∃ i : Nat, ∃ who : Nat, ∃ v : Word, s.variant.hasDie d = true ∧ i < 32 ∧ s.variant.hasDie (who / 16) = true ∧ s.pairsRun d = true ∧ s.pairsRun (who / 16) = true ∧ ((who / 16 = d ∨ s.bridgeWay (who / 16) d = true)) ∧ mfind (s.app d).bridge.sems i = some (who + 1) ∧ (v ≠ 0 ∨ mfind (s.app d).bridge.sems i ≠ some (who + 1)) :=
  ⟨{ W with apps := [(1, { bridge := { sems := [(31, 34)] } })] }, 1, 31, 2 * 16 + 1, 1#32, by decide +kernel⟩
theorem met_Semaphores_5 : ∃ s : State, ∃ d : Nat, ∃ i : Nat, s.variant.hasDie d = true ∧ i < 32 ∧ s.pairsRun d = true ∧ s.semFailed d i = true ∧ bitAt (s.intcTarget d 0).active 42 = false :=
  ⟨{ W with apps := [(1, { bridge := { sems := [(31, 34)], orphans := 2 ^ 31 } })] }, 1, 31, by decide +kernel⟩
theorem met_Semaphores_6 : ∃ s : State, ∃ d : Nat, ∃ i : Nat, ∃ who, s.variant.hasDie d = true ∧ i < 32 ∧ mfind (s.app d).bridge.sems i = some (who + 1) ∧ s.lostDie (who / 16) = true :=
  ⟨{ W with apps := [(1, { bridge := { sems := [(31, 34)] } })], dies := [(1, up), (2, { up with state := 4 })] }, 1, 31, 33, by decide +kernel⟩
theorem met_Semaphores_7 : ∃ s : State, ∃ d : Nat, ∃ i : Nat, ∃ h, s.variant.hasDie d = true ∧ i < 32 ∧ s.variant.hasDie h = true ∧ s.pairsRun h = true ∧ ((s.app h).running = true) ∧ ((s.app h).sys.en = true) ∧ s.update.trial ≠ some 2 ∧ mfind (s.app d).bridge.sems i = some (h * 16 + 2) :=
  ⟨{ W with apps := [(1, { bridge := { sems := [(31, 34)] } }), (2, { running := true, sys := { en := true } })] }, 1, 31, 2, by decide +kernel⟩
theorem met_Semaphores_8 : ∃ s : State, ∃ d : Nat, ∃ i : Nat, ∃ h, s.variant.hasDie d = true ∧ i < 32 ∧ s.variant.hasDie h = true ∧ mfind (s.app d).bridge.sems i = some (h * 16 + 2) :=
  ⟨{ W with apps := [(1, { bridge := { sems := [(31, 34)] } }), (2, { running := true })] }, 1, 31, 2, by decide +kernel⟩
theorem met_Semaphores_9 : ∃ s : State, ∃ d : Nat, ∃ i : Nat, ∃ h, s.variant.hasDie d = true ∧ i < 32 ∧ s.variant.hasDie h = true ∧ ((s.die h).runtimeUp = true) ∧ mfind (s.app d).bridge.sems i = some (h * 16 + 1) :=
  ⟨{ W with apps := [(1, { bridge := { sems := [(31, 33)] } }), (2, { running := true })] }, 1, 31, 2, by decide +kernel⟩
theorem met_RegisterMap_1 : ∃ s : State, ∃ d : Nat, ∃ addr, ∃ a, s.variant.hasDie d = true ∧ s.pairsRun d = true ∧ addr % 4 ≠ 0 ∧ a ≠ addr / 4 ∧ 0x40000000 ≤ addr ∧ addr < 0x40100000 ∧ regOf addr = none :=
  ⟨AD {}, 1, 0x40001002, 4, by decide +kernel⟩
theorem met_RegisterMap_2 : ∃ s : State, ∃ d : Nat, ∃ addr, ∃ a, s.variant.hasDie d = true ∧ s.pairsRun d = true ∧ addr % 4 = 0 ∧ addr < 0xC0000 ∧ a ≠ addr / 4 ∧ addr < 0x40100000 ∧ regOf addr = none :=
  ⟨AD {}, 1, 0xBFFFC, 4, by decide +kernel⟩
theorem met_RegisterMap_3 : ∃ s : State, ∃ d : Nat, ∃ addr, ∃ a, ∃ r, s.variant.hasDie d = true ∧ s.pairsRun d = true ∧ addr % 4 = 0 ∧ a ≠ addr / 4 ∧ 0x40000000 ≤ addr ∧ addr < 0x40100000 ∧ regOf addr = some r :=
  ⟨AD {}, 1, 0x40001008, 4, Reg.doorbell, by decide +kernel⟩
theorem met_RegisterMap_4 : ∃ s : State, ∃ d : Nat, ∃ addr, ∃ a, s.variant.hasDie d = true ∧ s.pairsRun d = true ∧ addr % 4 = 0 ∧ a ≠ addr / 4 ∧ 0x40000000 ≤ addr ∧ addr < 0x40100000 ∧ regOf addr = none :=
  ⟨AD {}, 1, 0x40001FFC, 4, by decide +kernel⟩
theorem met_RegisterMap_5 : ∃ s : State, ∃ d : Nat, ∃ r, ∃ b, ∃ reg, ∃ w : Word, ∃ id, s.variant.hasDie d = true ∧ s.pairsRun d = true ∧ b < 32 ∧ reg < 0x100000 ∧ regOf (0x40000000 + reg) = some r ∧ bitAt r.rwMask b = true ∧ r.ctrlOf = some id ∧ 0 < b ∧ s.foreign d 2 id = false ∧ w.getLsbD 0 ≠ bitAt (s.regPeek d 1 (d * 16 + 1) r) b ∧ ((s.blockOf d id).en = false) ∧ w.getLsbD 0 = true ∧ (bitAt r.oneMask b = false ∨ w.getLsbD 0 = false) :=
  ⟨AD { timers := [(0, { owner := 2 })] }, 1, Reg.tmrCtrl 0, 2, 0x2100, 1#32, BlockId.timer 0, by decide +kernel⟩
theorem met_RegisterMap_6 : ∃ s : State, ∃ d : Nat, ∃ r, ∃ b, ∃ reg, ∃ w : Word, ∃ id, s.variant.hasDie d = true ∧ s.pairsRun d = true ∧ b < 32 ∧ reg < 0x100000 ∧ regOf (0x40000000 + reg) = some r ∧ (r.ctrlOf = none ∨ b = 0) ∧ 0 < b ∧ w.getLsbD 0 ≠ bitAt (s.regPeek d 1 (d * 16 + 1) r) b ∧ ((s.blockOf d id).en = false) ∧ bitAt r.rwMask b = false ∧ w.getLsbD 0 = true ∧ (bitAt r.oneMask b = false ∨ w.getLsbD 0 = false) :=
  ⟨AD {}, 1, Reg.wdtTimeout, 31, 0x0010, 1#32, BlockId.timer 0, by decide +kernel⟩
theorem met_RegisterMap_7 : ∃ s : State, ∃ d : Nat, ∃ r, ∃ b, ∃ reg, ∃ w : Word, ∃ id, s.variant.hasDie d = true ∧ s.pairsRun d = true ∧ b < 32 ∧ reg < 0x100000 ∧ regOf (0x40000000 + reg) = some r ∧ bitAt r.rwMask b = true ∧ (r.ctrlOf = none ∨ b = 0) ∧ 0 < b ∧ w.getLsbD 0 = bitAt (s.regPeek d 1 (d * 16 + 1) r) b ∧ ((s.blockOf d id).en = false) ∧ w.getLsbD 0 = true ∧ (bitAt r.oneMask b = false ∨ w.getLsbD 0 = false) :=
  ⟨AD {}, 1, Reg.wdtTimeout, 3, 0x0010, 1#32, BlockId.timer 0, by decide +kernel⟩
theorem met_RegisterMap_8 : ∃ s : State, ∃ d : Nat, ∃ r, ∃ b, ∃ reg, ∃ w : Word, ∃ id, s.variant.hasDie d = true ∧ s.pairsRun d = true ∧ b < 32 ∧ reg < 0x100000 ∧ regOf (0x40000000 + reg) = some r ∧ bitAt r.rwMask b = true ∧ (r.ctrlOf = none ∨ b = 0) ∧ r.ctrlOf = some id ∧ s.foreign d 2 id = false ∧ w.getLsbD 0 ≠ bitAt (s.regPeek d 1 (d * 16 + 1) r) b ∧ ((s.blockOf d id).en = false) ∧ w.getLsbD 0 = true ∧ (bitAt r.oneMask b = false ∨ w.getLsbD 0 = false) :=
  ⟨AD { timers := [(0, { owner := 2 })] }, 1, Reg.tmrCtrl 0, 0, 0x2100, 1#32, BlockId.timer 0, by decide +kernel⟩
theorem met_RegisterMap_9 : ∃ s : State, ∃ d : Nat, ∃ r, ∃ b, ∃ reg, ∃ w : Word, ∃ id, s.variant.hasDie d = true ∧ s.pairsRun d = true ∧ b < 32 ∧ reg < 0x100000 ∧ regOf (0x40000000 + reg) = some r ∧ (r.ctrlOf = none ∨ b = 0) ∧ 0 < b ∧ w.getLsbD 0 ≠ bitAt (s.regPeek d 1 (d * 16 + 1) r) b ∧ ((s.blockOf d id).en = false) ∧ bitAt r.rwMask b = false ∧ bitAt r.oneMask b = true ∧ w.getLsbD 0 = true :=
  ⟨AD {}, 1, Reg.doorbell, 7, 0x1008, 1#32, BlockId.timer 0, by decide +kernel⟩
theorem met_RegisterMap_10 : ∃ s : State, ∃ d : Nat, ∃ r, ∃ b, ∃ reg, ∃ w : Word, ∃ id, s.variant.hasDie d = true ∧ s.pairsRun d = true ∧ b < 32 ∧ reg < 0x100000 ∧ regOf (0x40000000 + reg) = some r ∧ bitAt r.rwMask b = true ∧ r.ctrlOf = some id ∧ 0 < b ∧ s.foreign d 2 id = false ∧ ((s.blockOf d id).en = true) ∧ w.getLsbD 0 = bitAt (s.regPeek d 1 (d * 16 + 1) r) b ∧ (bitAt r.oneMask b = false ∨ w.getLsbD 0 = false) :=
  ⟨AD { timers := [(0, { owner := 2, load := 9, blk := { en := true } })] }, 1, Reg.tmrCtrl 0, 2, 0x2100, 0#32, BlockId.timer 0, by decide +kernel⟩
theorem met_RegisterMap_11 : ∃ s : State, ∃ d : Nat, ∃ r, ∃ b, ∃ reg, ∃ w : Word, ∃ id, s.variant.hasDie d = true ∧ s.pairsRun d = true ∧ b < 32 ∧ reg < 0x100000 ∧ regOf (0x40000000 + reg) = some r ∧ bitAt r.rwMask b = true ∧ r.ctrlOf = some id ∧ 0 < b ∧ s.foreign d 2 id = false ∧ ((s.blockOf d id).en = true) ∧ w.getLsbD 0 ≠ bitAt (s.regPeek d 1 (d * 16 + 1) r) b ∧ w.getLsbD 0 = true ∧ (bitAt r.oneMask b = false ∨ w.getLsbD 0 = false) :=
  ⟨AD { timers := [(0, { owner := 2, load := 9, blk := { en := true } })] }, 1, Reg.tmrCtrl 0, 2, 0x2100, 1#32, BlockId.timer 0, by decide +kernel⟩
theorem met_RegisterMap_12 : ∃ s : State, ∃ d : Nat, ∃ r, ∃ b, ∃ reg, s.variant.hasDie d = true ∧ s.pairsRun d = true ∧ b < 32 ∧ reg < 0x100000 ∧ regOf (0x40000000 + reg) = some r :=
  ⟨AD {}, 1, Reg.rdoorbell, 31, 0x1018, by decide +kernel⟩
theorem met_RegisterMap_13 : ∃ s : State, ∃ d : Nat, ∃ r, ∃ b, ∃ reg, s.variant.hasDie d = true ∧ s.pairsRun d = true ∧ b < 32 ∧ reg < 0x100000 ∧ regOf (0x40000000 + reg) = some r :=
  ⟨AD { eccCorr := 5 }, 1, Reg.eccCorr, 2, 0x18, by decide +kernel⟩
theorem met_RegisterMap_14 : ∃ s : State, ∃ d : Nat, ∃ addr, s.variant.hasDie d = true ∧ s.pairsRun d = true ∧ addr % 4 = 0 ∧ addr < 0xC0000 :=
  ⟨AD { sram := [(1, 7)] }, 1, 4, by decide +kernel⟩
theorem met_RegisterMap_15 : ∃ s : State, ∃ d : Nat, s.variant.hasDie d = true ∧ s.pairsRun d = true :=
  ⟨AD { eccCorr := 5 }, 1, by decide +kernel⟩
theorem met_RegisterMap_16 : ∃ s : State, ∃ d : Nat, ∃ addr, ∃ b, s.variant.hasDie d = true ∧ s.pairsRun d = true ∧ ((regOf addr).bind Reg.block = some b) ∧ b.isQueue = false ∧ ((s.blockOf d b).disabling = true) ∧ s.blockIdle d b = true :=
  ⟨AD { mbx := { blk := { disabling := true, again := true } } }, 1, 0x40003000, BlockId.mbx, by decide +kernel⟩
theorem met_RegisterMap_17 : ∃ s : State, ∃ d : Nat, ∃ addr, ∃ r, ∃ b, s.variant.hasDie d = true ∧ s.pairsRun d = true ∧ regOf addr = some r ∧ r.isCfg = true ∧ r.block = some b ∧ ((s.die d).state ≠ 3) :=
  ⟨AD {}, 1, 0x40003000, Reg.mbxCtrl, BlockId.mbx, by decide +kernel⟩
theorem met_RegisterMap_18 : ∃ s : State, ∃ d : Nat, ∃ addr, ∃ r, ∃ b, s.variant.hasDie d = true ∧ s.pairsRun d = true ∧ addr % 4 = 0 ∧ 0x40000000 ≤ addr ∧ addr < 0x40100000 ∧ regOf addr = some r ∧ r.isCfg = true ∧ r.ctrlOf = none ∧ r.block = some b ∧ ((s.blockOf d b).en = true ∨ (s.blockOf d b).disabling = true) ∧ s.foreign d 2 b = false :=
  ⟨AD { sys := { en := true } }, 1, 0x40000010, Reg.wdtTimeout, BlockId.sys, by decide +kernel⟩
theorem met_RegisterMap_19 : ∃ s : State, ∃ d : Nat, ∃ addr, ∃ r, ∃ id, ∃ w : Word, ∃ b, s.variant.hasDie d = true ∧ s.pairsRun d = true ∧ addr % 4 = 0 ∧ 0x40000000 ≤ addr ∧ addr < 0x40100000 ∧ regOf addr = some r ∧ r.ctrlOf = some id ∧ s.foreign d 2 id = false ∧ ((s.blockOf d id).en = true) ∧ w.getLsbD 0 = true ∧ 0 < b ∧ b < 32 ∧ bitAt r.rwMask b = true ∧ w.getLsbD b ≠ bitAt (s.regPeek d 1 (d * 16 + 1) r) b :=
  ⟨AD { timers := [(0, { owner := 2, load := 9, blk := { en := true } })] }, 1, 0x40002100, Reg.tmrCtrl 0, BlockId.timer 0, 5#32, 2, by decide +kernel⟩
theorem met_PortParityAndScan_1 : ∃ s : State, ∃ slot, ∃ x, s.variant.hasSlot slot = true ∧ s.portRuns slot = true ∧ ((s.die (slotDie slot)).state ≠ 3) ∧ s.clock.ticks - x < msTicks 10000 ∧ ((s.port slot).lastParity = none) ∧ ((s.die (slotDie slot)).runtimeUp = true) ∧ ((s.port slot).clockStopped = false) :=
  ⟨K, 3, 5, by decide +kernel⟩
theorem met_PortParityAndScan_2 : ∃ s : State, ∃ slot, ∃ x, s.variant.hasSlot slot = true ∧ s.portRuns slot = true ∧ ((s.die (slotDie slot)).state ≠ 3) ∧ s.clock.ticks - x < msTicks 10000 ∧ ((s.port slot).lastParity = none) ∧ ((s.die (slotDie slot)).runtimeUp = true) ∧ ((s.port slot).clockStopped = false) :=
  ⟨K.slotCfg E.portCanEnable 3 1, 3, 5, by decide +kernel⟩
theorem met_PortParityAndScan_3 : ∃ s : State, ∃ slot, ∃ x, s.variant.hasSlot slot = true ∧ s.portRuns slot = true ∧ ((s.die (slotDie slot)).state ≠ 3) ∧ s.clock.ticks - x < msTicks 10000 ∧ ((s.port slot).lastParity = none) ∧ ((s.die (slotDie slot)).runtimeUp = true) ∧ ((s.port slot).clockStopped = false) :=
  ⟨(LN 0).slotCfg E.portCanEnable 8 1, 8, 5, by decide +kernel⟩
theorem met_PortParityAndScan_4 : ∃ s : State, ∃ slot, ∃ x, s.variant.hasSlot slot = true ∧ s.portRuns slot = true ∧ ((s.die (slotDie slot)).state ≠ 3) ∧ s.clock.ticks - x < msTicks 10000 ∧ ((s.port slot).lastParity = none) ∧ ((s.die (slotDie slot)).runtimeUp = true) ∧ ((s.port slot).clockStopped = false) :=
  ⟨(LN 1).slotCfg E.portCanEnable 8 1, 8, 5, by decide +kernel⟩
theorem met_PortParityAndScan_5 : ∃ s : State, ∃ slot, ∃ x, s.variant.hasSlot slot = true ∧ s.portRuns slot = true ∧ ((s.die (slotDie slot)).state ≠ 3) ∧ s.clock.ticks - x < msTicks 10000 ∧ ((s.port slot).lastParity = none) ∧ ((s.die (slotDie slot)).runtimeUp = true) ∧ ((s.port slot).clockStopped = false) :=
  ⟨EN.slotCfg E.portCanEnable 16 1, 16, 5, by decide +kernel⟩
theorem met_PortParityAndScan_6 : ∃ s : State, ∃ slot, ∃ x, s.variant.hasSlot slot = true ∧ s.portRuns slot = true ∧ ((s.die (slotDie slot)).state ≠ 3) ∧ ((s.port slot).lastParity = some x) ∧ s.clock.ticks - x < msTicks 10000 ∧ ((s.die (slotDie slot)).runtimeUp = true) ∧ ((s.port slot).clockStopped = false) :=
  ⟨{ K with ports := [(3, { lastParity := some 0 })] }, 3, 0, by decide +kernel⟩
theorem met_PortParityAndScan_7 : ∃ s : State, ∃ c, (c = Instr.jtagBypass ∨ c = Instr.jtagTestLogicReset) :=
  ⟨{ W with jtag := ⟨1, 5⟩ }, Instr.jtagBypass, by decide +kernel⟩
theorem met_PortParityAndScan_8 : ∃ s : State, ∃ cells, ∃ c, ∃ k, [(Instr.jtagSamplePreload cells, 1), (.jtagExtest cells, 2)].contains (c, k) = true ∧ s.scanOpen = true :=
  ⟨{ W with power := { W.power with resetN := false, vioM := true } }, 77, (Instr.jtagExtest (77)), 2, by decide +kernel⟩
theorem met_PortParityAndScan_9 : ∃ s : State, ∃ cells, ∃ c, ∃ k, [(Instr.jtagSamplePreload cells, 1), (.jtagExtest cells, 2)].contains (c, k) = true ∧ s.scanOpen = false :=
  ⟨W, 77, (Instr.jtagSamplePreload (77)), 1, by decide +kernel⟩

end
end Sys2Proof.Tests
end

section
/-! What a CAN port stands at between the states of Table 4-3, what of it the forwarding path and the evidence leave alone, and with that the end of bus integration
and the way into and out of bus-off (R106, R113, R114, R130). -/

namespace Sys2Proof.Machine
open Sys2Proof

/-! ### Reads after writes -/

/-- A write of another key leaves a read alone, whatever the defaults of the two keys are. -/
theorem mget_mset_of_ne {α : Type} [DecidableEq α] (d d' : α) (m : NMap α) {i j : Nat} (v : α) (h : j ≠ i) : mget d (mset d' m i v) j = mget d m j := by
  unfold mset
  split
  · exact mget_mdel_other d m h
  · exact mget_mput_other d m i j v h

/-- The key of a port's or another plain entry lies below every row of a later entry. -/
theorem okey_noRow_ne_of_lt {e f : Nat} (row : Nat) (h : f < e) : okey f noRow ≠ okey e row := by
  simp only [okey, noRow]; omega

theorem okey_noRow_ne {e f : Nat} (h : f ≠ e) : okey f noRow ≠ okey e noRow := by
  simp only [okey, noRow]; omega

theorem State.st_setRow_of_ne (s : State) {e f row : Nat} (v : Nat) (h : okey f noRow ≠ okey e row) : (s.setRow e row v).st f = s.st f :=
  mget_mset_of_ne _ _ s.od.stat v h

@[simp] theorem State.stSlot_setSlot_same (s : State) (e slot v : Nat) : (s.setSlot e slot v).stSlot e slot = v := State.st_set s (e + slot * 256) v

theorem State.stSlot_setSlot_of_ne (s : State) {e f : Nat} (slot v : Nat) (h : f ≠ e) : (s.setSlot e slot v).stSlot f slot = s.stSlot f slot :=
  State.st_setRow_of_ne s v (okey_noRow_ne (by omega))

/-- A status value follows from the part and the dictionary alone. -/
theorem State.stSlot_of_same {s t : State} (hv : t.variant = s.variant) (ho : t.od = s.od) (e slot : Nat) : t.stSlot e slot = s.stSlot e slot := by
  simp [State.stSlot, State.st, State.stRow, hv, ho]

theorem State.port_updPort_other (s : State) {j k : Nat} (f : Port → Port) (h : j ≠ k) : (s.updPort k f).port j = s.port j :=
  mget_mset_other _ s.ports _ h

@[simp] theorem State.port_settle (s : State) (k : Nat) : s.settle.port k = s.port k := by simp [State.port]

@[simp] theorem State.stSlot_settle (s : State) (e k : Nat) : s.settle.stSlot e k = s.stSlot e k :=
  State.stSlot_of_same (State.settle_variant s) (State.settle_od s) e k

@[simp] theorem State.portState_settle (s : State) (k : Nat) : s.settle.portState k = s.portState k := State.stSlot_settle s _ k

/-! ### The standing of a port -/

/-- What tells a port's place between bus-off and the bus: its state of Table 4-3, its error state, and the marks of its block that park it, let it restart or recover,
and hold back a configuration. -/
structure PortStanding where
  state : Nat
  errorState : Nat
  parked : Bool
  restartArmed : Bool
  recovering : Bool
  reconfigure : Bool

/-- The standing of the port of a slot. -/
def State.standing (s : State) (k : Nat) : PortStanding :=
  ⟨s.portState k, s.stSlot E.portCanErrorState k, (s.port k).parked, (s.port k).restartArmed, (s.port k).recovering, (s.port k).reconfigure⟩

/-- A change of neither the dictionary nor the ports leaves every standing; the mask names every other field. -/
theorem State.standing_of_rest {s t : State} (k : Nat) (h : t.rest 17592181850106 = s.rest 17592181850106) : t.standing k = s.standing k := by
  have hv : t.variant = s.variant := State.keep_variant (State.rest_weaken (by decide) h)
  have ho : t.od = s.od := State.keep_od (State.rest_weaken (by decide) h)
  have hp : t.ports = s.ports := State.keep_ports (State.rest_weaken (by decide) h)
  simp [State.standing, State.portState, State.stSlot_of_same hv ho, State.port, hp]

theorem State.setRow_standing_of_ne (s : State) {e row k : Nat} (v : Nat) (hs : okey (E.portCanState + k * 256) noRow ≠ okey e row)
    (he : okey (E.portCanErrorState + k * 256) noRow ≠ okey e row) : (s.setRow e row v).standing k = s.standing k := by
  simp only [State.standing, State.portState, State.stSlot, State.st_setRow_of_ne _ _ hs, State.st_setRow_of_ne _ _ he]
  rfl

@[simp] theorem State.setPortState_standing (s : State) (k v : Nat) : (s.setPortState k v).standing k = { s.standing k with state := v } := by
  have he : (s.setSlot E.portCanState k v).stSlot E.portCanErrorState k = s.stSlot E.portCanErrorState k := State.stSlot_setSlot_of_ne s k v (by decide)
  simp only [State.standing, State.portState, State.setPortState, State.stSlot_setSlot_same, he]
  rfl

@[simp] theorem State.updPort_standing (s : State) (k : Nat) (f : Port → Port) : (s.updPort k f).standing k =
    { s.standing k with parked := (f (s.port k)).parked, restartArmed := (f (s.port k)).restartArmed, recovering := (f (s.port k)).recovering, reconfigure := (f (s.port k)).reconfigure } := by
  simp only [State.standing, State.port_updPort]
  rfl

/-- An update of any port that leaves the marks leaves the standing. -/
theorem State.updPort_standing_of_same (s : State) (k slot : Nat) (f : Port → Port)
    (h : ∀ p, (f p).parked = p.parked ∧ (f p).restartArmed = p.restartArmed ∧ (f p).recovering = p.recovering ∧ (f p).reconfigure = p.reconfigure) :
    (s.updPort slot f).standing k = s.standing k := by
  by_cases e : k = slot
  · subst e
    obtain ⟨h1, h2, h3, h4⟩ := h (s.port k)
    rw [State.updPort_standing, h1, h2, h3, h4]
    rfl
  · simp only [State.standing, State.port_updPort_other s f e]
    rfl

@[simp] theorem State.settle_standing (s : State) (k : Nat) : s.settle.standing k = s.standing k := State.standing_of_rest k (by simp)

/-! ### The forwarding path leaves a port's standing

What admission, replication, the ways to other dies and the held producers write of the dictionary lies behind the port objects or is a counter of a port; of a port they
write its pauses. -/

@[simp] theorem foldl_standing {α : Type} {k : Nat} (l : List α) (f : State → α → State) (h : ∀ s a, (f s a).standing k = s.standing k) (s : State) :
    (l.foldl f s).standing k = s.standing k := by
  induction l generalizing s with
  | nil => rfl
  | cons a l ih => rw [List.foldl_cons, ih, h]
@[simp] theorem State.forAll_standing {k : Nat} (l : List Nat) (f : State → Nat → State) (h : ∀ s a, (f s a).standing k = s.standing k) (s : State) :
    (s.forAll l f).standing k = s.standing k := foldl_standing l f h s
@[simp] theorem State.when_standing {k : Nat} (s : State) (c : Bool) (f : State → State) (h : ∀ s, (f s).standing k = s.standing k) :
    (s.when c f).standing k = s.standing k := by
  unfold State.when; split <;> simp [h]
@[simp] theorem ite_standing {k : Nat} (c : Prop) [Decidable c] (a b : State) : (if c then a else b).standing k = if c then a.standing k else b.standing k := by
  split <;> rfl

@[simp] theorem State.bp_standing (s : State) (k : Nat) (x : NMap BackPressure) : ({ s with bp := x } : State).standing k = s.standing k := rfl
@[simp] theorem State.policers_standing (s : State) (k : Nat) (x : NMap Policer) : ({ s with policers := x } : State).standing k = s.standing k := rfl
@[simp] theorem State.nextFid_standing (s : State) (k x : Nat) : ({ s with nextFid := x } : State).standing k = s.standing k := rfl
@[simp] theorem State.emit_standing (s : State) (k : Nat) (o : Out) : (s.emit o).standing k = s.standing k := rfl
@[simp] theorem State.setQueue_standing (s : State) (k row : Nat) (l : List Copy) : (s.setQueue row l).standing k = s.standing k := rfl
@[simp] theorem State.updDie_standing (s : State) (k n : Nat) (f : Die → Die) : (s.updDie n f).standing k = s.standing k := rfl
@[simp] theorem State.chargeAcct_standing (s : State) (k g m d c : Nat) : (s.chargeAcct g m d c).standing k = s.standing k := rfl
@[simp] theorem State.owe_standing (s : State) (k g m d c : Nat) : (s.owe g m d c).standing k = s.standing k := rfl
@[simp] theorem State.oweCopy_standing (s : State) (k : Nat) (cp : Copy) : (s.oweCopy cp).standing k = s.standing k := State.standing_of_rest k (by simp)
@[simp] theorem State.unsend_standing (s : State) (k slot : Nat) (keep : Bool) : (s.unsend slot keep).standing k = s.standing k := State.standing_of_rest k (by simp)
@[simp] theorem State.unprepare_standing (s : State) (k slot : Nat) : (s.unprepare slot).standing k = s.standing k := State.standing_of_rest k (by simp)
@[simp] theorem State.raisePort_standing (s : State) (k slot : Nat) : (s.raisePort slot).standing k = s.standing k := State.standing_of_rest k (by simp)
@[simp] theorem State.portEvidence_standing (s : State) (k slot cause cls n : Nat) : (s.portEvidence slot cause cls n).standing k = s.standing k :=
  State.standing_of_rest k (by simp)

/-- A port's entry that is neither its state nor an error state, at any slot. -/
@[simp] theorem State.setSlot_standing (s : State) (k : Nat) {e : Nat} (slot v : Nat) (h1 : e % 256 ≠ 1) (h3 : e % 256 ≠ 3) : (s.setSlot e slot v).standing k = s.standing k := by
  refine State.setRow_standing_of_ne s v (okey_noRow_ne ?_) (okey_noRow_ne ?_)
  · simp only [E.portCanState]; omega
  · simp only [E.portCanErrorState]; omega
@[simp] theorem State.countSlot_standing (s : State) (k : Nat) {e : Nat} (slot n : Nat) (h1 : e % 256 ≠ 1) (h3 : e % 256 ≠ 3) : (s.countSlot e slot n).standing k = s.standing k :=
  State.setSlot_standing s k slot _ h1 h3
@[simp] theorem State.countTxRefused_standing (s : State) (k slot : Nat) : (s.countTxRefused slot).standing k = s.standing k := by
  unfold State.countTxRefused State.countPort
  repeat' split
  all_goals simp +decide
@[simp] theorem State.emitPause_standing (s : State) (k slot : Nat) (d : Bytes) : (s.emitPause slot d).standing k = s.standing k := by
  simp +decide [State.emitPause]
@[simp] theorem State.sendPause_standing (s : State) (k slot vec q : Nat) : (s.sendPause slot vec q).standing k = s.standing k := by
  unfold State.sendPause
  dsimp only
  repeat' split
  · rfl
  · exact State.updPort_standing_of_same s k slot _ (fun _ => by simp)
  · exact State.emitPause_standing s k slot _
@[simp] theorem State.setAsserted_standing (s : State) (k slot c : Nat) : (s.setAsserted slot c).standing k = s.standing k := by
  have h : ((s.updPort slot (fun p => { p with asserted := c })).setSlot E.portEthPausingClasses slot c).standing k = s.standing k :=
    (State.setSlot_standing _ k slot c (by decide) (by decide)).trans (State.updPort_standing_of_same s k slot _ (fun _ => by simp))
  unfold State.setAsserted
  dsimp only
  repeat' split
  all_goals simp [h]
@[simp] theorem State.bpSettle_standing (s : State) (k n : Nat) : (s.bpSettle n).standing k = s.standing k := by
  simp [State.bpSettle]

section
variable {k : Nat} (hk : k < 256)
include hk

/-- A row of an entry behind the port objects 0x2000 to 0x22FF: no row of it is the state or error state of one of the 256 slots. -/
@[simp] theorem State.setRow_standing (s : State) {e : Nat} (row v : Nat) (he : 0x220000 ≤ e) : (s.setRow e row v).standing k = s.standing k := by
  refine State.setRow_standing_of_ne s v (okey_noRow_ne_of_lt row ?_) (okey_noRow_ne_of_lt row ?_)
  · simp only [E.portCanState]; omega
  · simp only [E.portCanErrorState]; omega
@[simp] theorem State.countRow_standing (s : State) {e : Nat} (row n : Nat) (he : 0x220000 ≤ e) : (s.countRow e row n).standing k = s.standing k :=
  State.setRow_standing hk s row _ he
@[simp] theorem State.count_standing (s : State) {e : Nat} (n : Nat) (he : 0x220000 ≤ e) : (s.count e n).standing k = s.standing k :=
  State.countRow_standing hk s _ _ he
@[simp] theorem State.countDie_standing (s : State) {e : Nat} (n c : Nat) (he : 0x220000 ≤ e) : (s.countDie e n c).standing k = s.standing k :=
  State.count_standing hk s _ (Nat.le_add_right_of_le he)

@[simp] theorem State.bpAssert_standing (s : State) (src c row : Nat) (l : Bool) : (s.bpAssert src c row l).standing k = s.standing k := by
  unfold State.bpAssert
  dsimp only
  repeat' split
  all_goals simp +decide [hk]
@[simp] theorem State.store_standing (s : State) (row : Nat) (cp : Copy) (ch : Charge) : (s.store row cp ch).standing k = s.standing k := by
  simp +decide [State.store, hk]
@[simp] theorem State.bpAct_standing (s : State) (n row : Nat) (cp : Copy) (l : Bool) : (s.bpAct n row cp l).1.standing k = s.standing k := by
  unfold State.bpAct
  dsimp only
  repeat' split
  all_goals simp +decide [hk]
@[simp] theorem State.red_standing (s : State) (n row : Nat) (cp : Copy) : (s.red n row cp).1.standing k = s.standing k := by
  have he : 0x220000 ≤ E.queueCntRedDropGreen + cp.colour := Nat.le_add_right_of_le (by decide)
  unfold State.red
  dsimp only
  repeat' split
  all_goals simp +decide [hk, he]
@[simp] theorem State.enqueue_standing (s : State) (n q : Nat) (cp : Copy) : (s.enqueue n q cp).1.standing k = s.standing k := by
  have hr : (if s.lossless cp then (s, false) else s.red n (queueRow n q cp.cls) cp).1.standing k = s.standing k := by
    split
    · rfl
    · exact State.red_standing hk s n _ cp
  unfold State.enqueue
  dsimp only
  repeat' split
  all_goals simp_all +decide
@[simp] theorem State.admitHold_standing (s : State) (n q : Nat) (cp : Copy) : (s.admitHold n q cp).standing k = s.standing k := by
  have h := State.enqueue_standing hk s n q cp
  unfold State.admitHold
  split <;> simp_all +decide
@[simp] theorem State.lossOf_standing (s : State) (cp : Copy) : (s.lossOf cp).standing k = s.standing k := by
  simp +decide [State.lossOf, hk]
@[simp] theorem State.loseCopy_standing (s : State) (cp : Copy) : (s.loseCopy cp).standing k = s.standing k := by
  simp [State.loseCopy, hk]
@[simp] theorem State.countUnreachable_standing (s : State) (n c : Nat) : (s.countUnreachable n c).standing k = s.standing k := by
  simp +decide [State.countUnreachable, hk]
@[simp] theorem State.countLimit_standing (s : State) (n q c : Nat) : (s.countLimit n q c).standing k = s.standing k := by
  simp +decide [State.countLimit, hk]
@[simp] theorem State.sendTo_standing (s : State) (n d : Nat) (cp : Copy) : (s.sendTo n d cp).standing k = s.standing k := by
  unfold State.sendTo
  dsimp only
  repeat' split
  all_goals simp [hk]
@[simp] theorem State.deliver_standing (s : State) (n code : Nat) (cp : Copy) : (s.deliver n code cp).standing k = s.standing k := by
  unfold State.deliver
  dsimp only
  repeat' split
  all_goals simp [hk]
@[simp] theorem State.replicatePlain_standing (s : State) (n : Nat) (cp : Copy) (ms : List Nat) : (s.replicatePlain n cp ms).standing k = s.standing k := by
  simp [State.replicatePlain, hk]
@[simp] theorem State.replicateAtomic_standing (s : State) (n : Nat) (cp : Copy) (g : Nat) (ms : List Nat) : (s.replicateAtomic n cp g ms).standing k = s.standing k := by
  have hc : (s.forAll ms (fun s m => s.chargeAcct g m (s.hostOf n m) cp.cells)).standing k = s.standing k :=
    State.forAll_standing ms _ (fun _ _ => State.chargeAcct_standing ..) s
  unfold State.replicateAtomic
  repeat' split
  all_goals simp +decide [hk, hc]
@[simp] theorem State.replicate_standing (s : State) (n : Nat) (cp : Copy) (b : Batch) : (s.replicate n cp b).standing k = s.standing k := by
  unfold State.replicate
  repeat' split
  all_goals simp [hk]
@[simp] theorem State.replicateAll_standing (s : State) (n : Nat) (cp : Copy) (bs : List Batch) : (s.replicateAll n cp bs).standing k = s.standing k := by
  simp [State.replicateAll, hk]
@[simp] theorem State.police_standing (s : State) (cp : Copy) : (s.police cp).1.standing k = s.standing k := by
  have he (c : Nat) : 0x220000 ≤ E.policerCntGreen + c := Nat.le_add_right_of_le (by decide)
  unfold State.police
  dsimp only
  repeat' split
  all_goals simp +decide [hk, he]
@[simp] theorem State.stage5_standing (s : State) (n : Nat) (cp : Copy) (bs : List Batch) : (s.stage5 n cp bs).standing k = s.standing k := by
  have h := State.police_standing hk s cp
  unfold State.stage5
  repeat' split
  all_goals simp_all
@[simp] theorem State.decided_standing (s : State) (n : Nat) (cp : Copy) (d : Decision) : (s.decided n cp d).standing k = s.standing k := by
  simp [State.decided, hk]
@[simp] theorem State.ownOut_standing (s : State) (n own : Nat) (b : Batch) : (s.ownOut n own b).1.standing k = s.standing k := by
  unfold State.ownOut
  split <;> simp +decide [hk]
@[simp] theorem State.ownOutAll_standing (s : State) (n own : Nat) (l : List Batch) : (s.ownOutAll n own l).1.standing k = s.standing k := by
  unfold State.ownOutAll
  split <;> simp +decide [hk]
@[simp] theorem State.decide1_standing (s : State) (n own : Nat) (r : Route) : (s.decide1 n own r).1.standing k = s.standing k := by
  unfold State.decide1
  dsimp only
  repeat' split
  all_goals simp +decide [hk]
@[simp] theorem State.byRoute_standing (s : State) (n port code own realm kind value : Nat) : (s.byRoute n port code own realm kind value).1.standing k = s.standing k := by
  unfold State.byRoute
  split <;> simp +decide [hk]
@[simp] theorem State.flood_standing (s : State) (n realm : Nat) : (s.flood n realm).1.standing k = s.standing k := by
  unfold State.flood
  split <;> simp +decide [hk]
@[simp] theorem State.bridge_standing (s : State) (n realm dst : Nat) : (s.bridge n realm dst).1.standing k = s.standing k := by
  unfold State.bridge
  repeat' split
  all_goals simp +decide [hk]
@[simp] theorem State.bridged_standing (s : State) (n port code own realm vid pcp : Nat) (d : Bytes) : (s.bridged n port code own realm vid pcp d).1.standing k = s.standing k := by
  unfold State.bridged
  dsimp only
  repeat' split
  all_goals simp +decide [hk]
@[simp] theorem State.ethDecide_standing (s : State) (n port code own realm vid pcp : Nat) (d : Bytes) : (s.ethDecide n port code own realm vid pcp d).1.standing k = s.standing k := by
  unfold State.ethDecide
  dsimp only
  repeat' split
  all_goals simp +decide [hk]
@[simp] theorem State.learnFrom_standing (s : State) (n realm src dest : Nat) (fabric : Bool) : (s.learnFrom n realm src dest fabric).standing k = s.standing k := by
  simp +decide [State.learnFrom, State.learnEnqueue, hk]
@[simp] theorem State.forwardEth_standing (s : State) (n port code own : Nat) (cp : Copy) (learn : Bool) : (s.forwardEth n port code own cp learn).standing k = s.standing k := by
  unfold State.forwardEth
  dsimp only
  repeat' split
  all_goals simp +decide [hk]
@[simp] theorem State.sendInternal_standing (s : State) (n c realm : Nat) (d : Bytes) : (s.sendInternal n c realm d).standing k = s.standing k := by
  simp [State.sendInternal, State.enterInternal, hk]
@[simp] theorem State.retryWaiting_standing (s : State) (n : Nat) : (s.retryWaiting n).standing k = s.standing k := by
  simp [State.retryWaiting, hk]
@[simp] theorem State.retryOne_standing (s : State) (n : Nat) (x : Nat × Copy) : (s.retryOne n x).standing k = s.standing k := by
  simp [State.retryOne, hk]
@[simp] theorem State.retryHeld_standing (s : State) (n : Nat) : (s.retryHeld n).standing k = s.standing k := by
  simp [State.retryHeld, hk]
@[simp] theorem State.freed_standing (s : State) (n : Nat) : (s.freed n).standing k = s.standing k := by
  simp [State.freed, hk]
@[simp] theorem State.flushPort_standing (s : State) (slot : Nat) (count : State → Nat → Nat → State) (hc : ∀ s a b, (count s a b).standing k = s.standing k) :
    (s.flushPort slot count).standing k = s.standing k := by
  unfold State.flushPort
  dsimp only
  rw [State.freed_standing hk, foldl_standing]
  intro s row
  split
  · rfl
  · simp [hk, hc]
@[simp] theorem State.endHold_standing (s : State) (slot : Nat) : (s.endHold slot).standing k = s.standing k := by
  unfold State.endHold
  exact (State.flushPort_standing hk _ slot _ (fun t row c => State.countRow_standing hk t row c (by decide))).trans
    (State.updPort_standing_of_same s k slot _ (fun _ => by simp))

end

/-! ### A CAN port's own operations -/

theorem isEth_of_isCan {k : Nat} (h : isCan k = true) : isEth k = false := by
  simp only [isCan, isEth, decide_eq_true_eq, Bool.and_eq_false_iff, decide_eq_false_iff_not] at h ⊢; omega

theorem isLin_of_isCan {k : Nat} (h : isCan k = true) : isLin k = false := by
  simp only [isCan, isLin, decide_eq_true_eq, Bool.and_eq_false_iff, decide_eq_false_iff_not] at h ⊢; omega

/-- Every slot of a part is a byte (R16, R17). -/
theorem Variant.hasSlot_lt {v : Variant} {k : Nat} (h : v.hasSlot k = true) : k < 256 := by
  have hd : slotDie k ≤ v.nc := by
    simp only [Variant.hasSlot, Bool.and_eq_true, decide_eq_true_eq] at h
    exact h.1
  have hn : v.nc ≤ 7 := by cases v <;> decide
  simp only [slotDie] at hd
  omega

/-- Parking a port marks it parked and leaves the rest of its standing (R231, R232). -/
theorem State.park_standing {k : Nat} (hk : k < 256) (s : State) : (s.park k).standing k = { s.standing k with parked := true } := by
  have hleft : ((s.unsend k false).unprepare k).standing k = s.standing k := by simp
  unfold State.park
  dsimp only
  split
  case isTrue hp =>
    have hp : (s.standing k).parked = true := by rw [← hleft]; exact hp
    rw [hleft, ← hp]
  case isFalse =>
    rw [← hleft]
    split
    · rw [State.endHold_standing hk, State.updPort_standing]; rfl
    · rw [State.updPort_standing]; rfl

/-- A configuration that waited is dropped from a port's standing (R133). -/
theorem State.dropReconfigure_standing (s : State) (k : Nat) :
    (s.when (s.port k).reconfigure (·.updPort k (fun p => { p with reconfigure := false, kept := [] }))).standing k = { s.standing k with reconfigure := false } := by
  unfold State.when
  split
  case isTrue => rw [State.updPort_standing]; rfl
  case isFalse h =>
    have hr : (s.standing k).reconfigure = false := (Bool.not_eq_true _).mp h
    rw [← hr]

theorem State.armRestart_standing (s : State) (k : Nat) :
    (s.updPort k (fun p => { p with restartArmed := true, recovering := false })).standing k = { s.standing k with restartArmed := true, recovering := false } := by
  rw [State.updPort_standing]; rfl

/-- A CAN port that is not DRAINING enters bus-off (R113, R114): it stands parked in state 4 and waits for its restart. -/
theorem State.busOff_standing {k : Nat} (hk : k < 256) (s : State) (hd : s.portState k ≠ 3) :
    (s.busOff k).standing k = ⟨4, s.stSlot E.portCanErrorState k, true, true, false, false⟩ := by
  have hleft : ((s.unsend k false).countSlot E.portCanCntBusOff k).standing k = s.standing k := by simp +decide
  have hstate : ((s.unsend k false).countSlot E.portCanCntBusOff k).portState k = s.portState k := congrArg PortStanding.state hleft
  unfold State.busOff
  simp only [hstate, beq_iff_eq, hd, if_false, State.portEvidence_standing, State.raisePort_standing]
  rw [State.armRestart_standing, State.park_standing hk, State.setPortState_standing,
    State.updPort_standing_of_same _ k k (fun p => { p with rxBusy := false }) (fun _ => by simp), State.dropReconfigure_standing, hleft]
  rfl

/-! A drain check and the end of a drain concern a DRAINING port alone (R131). -/

theorem State.drainCheck_of_state (s : State) {k : Nat} (h : s.portState k ≠ 3) : s.drainCheck k = s := by simp [State.drainCheck, State.when, h]
theorem State.drainOver_of_state (s : State) {k : Nat} (h : s.portState k ≠ 3) : s.drainOver k = s := by simp [State.drainOver, State.when, h]

/-- Outside ENABLED and DRAINING the end of an attempt changes nothing. -/
theorem State.attemptOver_of_state (s : State) {k : Nat} (h2 : s.portState k ≠ 2) (h3 : s.portState k ≠ 3) : s.attemptOver k = s := by
  simp [State.attemptOver, State.drainOver_of_state s h3, State.reconfigureNow, State.when, h2]

/-- A CAN port that enters ENABLING is error-active (log 77). -/
theorem State.enabling_errorState (s : State) {k : Nat} (hc : isCan k = true) : (s.enabling k).stSlot E.portCanErrorState k = 0 := by
  simp [State.enabling, hc, isLin_of_isCan hc, isEth_of_isCan hc, State.when]

/-- The end of an attempt on an ENABLED CAN port: its error state stays, or is 0 after the configuration that waited (R133). -/
theorem State.attemptOver_errorState (s : State) {k : Nat} (hc : isCan k = true) (h : s.portState k = 2) :
    (s.attemptOver k).stSlot E.portCanErrorState k = s.stSlot E.portCanErrorState k ∨ (s.attemptOver k).stSlot E.portCanErrorState k = 0 := by
  rw [State.attemptOver, State.drainOver_of_state s (by omega)]
  unfold State.reconfigureNow State.when
  split
  · exact .inr (State.enabling_errorState _ hc)
  · exact .inl rfl

/-! TEC, REC and the error state that they give (R113). -/

theorem State.setErrors_tec (s : State) (k t r : Nat) : (s.setErrors k t r).stSlot E.portCanTec k = min t 256 := by
  unfold State.setErrors
  rw [State.stSlot_setSlot_of_ne _ _ _ (by decide), State.stSlot_setSlot_of_ne _ _ _ (by decide), State.stSlot_setSlot_same]
theorem State.setErrors_rec (s : State) (k t r : Nat) : (s.setErrors k t r).stSlot E.portCanRec k = min r 255 := by
  unfold State.setErrors
  rw [State.stSlot_setSlot_of_ne _ _ _ (by decide), State.stSlot_setSlot_same]
@[simp] theorem State.setErrors_port (s : State) (j k t r : Nat) : (s.setErrors k t r).port j = s.port j := rfl
theorem State.setErrorState_standing (s : State) (k v : Nat) : (s.setSlot E.portCanErrorState k v).standing k = { s.standing k with errorState := v } := by
  have he : (s.setSlot E.portCanErrorState k v).stSlot E.portCanState k = s.stSlot E.portCanState k := State.stSlot_setSlot_of_ne s k v (by decide)
  simp only [State.standing, State.portState, State.stSlot_setSlot_same, he]
  rfl
theorem State.setErrors_standing (s : State) (k t r : Nat) : (s.setErrors k t r).standing k =
    { s.standing k with errorState := if 255 < t then 2 else if 127 < t || 127 < r then 1 else 0 } := by
  have h : ((s.setSlot E.portCanTec k (min t 256)).setSlot E.portCanRec k (min r 255)).standing k = s.standing k := by simp +decide
  unfold State.setErrors
  rw [State.setErrorState_standing, h]

theorem State.oneShot_standing {k : Nat} (hk : k < 256) (s : State) (row : Nat) (hd : s.portState k ≠ 3) : (s.oneShot k row).standing k = s.standing k := by
  unfold State.oneShot
  split
  case h_1 cp s1 h =>
    have hs : s1.standing k = s.standing k := State.standing_of_rest k (State.takeSending_rest (by decide) s row h)
    have hf : ((((s1.countSlot E.portCanCntOneShotDrop k).lossOf cp).oweCopy cp).freed (slotDie k)).standing k = s.standing k := by
      simp +decide [hk, hs]
    have hstate := congrArg PortStanding.state hf
    rw [State.drainCheck_of_state _ (hstate.trans_ne hd), hf]
  case h_2 => rfl

/-- TEC and REC of a port that is not DRAINING: above 255 it enters bus-off, else its error state alone follows (R113). -/
theorem State.errors_standing {k : Nat} (hk : k < 256) (s : State) (tec r : Nat) (hd : s.portState k ≠ 3) : (s.errors k tec r).standing k =
    if 255 < tec then ⟨4, 2, true, true, false, false⟩ else { s.standing k with errorState := if 127 < tec || 127 < r then 1 else 0 } := by
  have hset := State.setErrors_standing s k tec r
  unfold State.errors State.when
  split
  case isTrue h =>
    have ht : 255 < tec := of_decide_eq_true h
    rw [if_pos ht] at hset ⊢
    have hstate : (s.setErrors k tec r).portState k = s.portState k := congrArg PortStanding.state hset
    have herr : (s.setErrors k tec r).stSlot E.portCanErrorState k = 2 := congrArg PortStanding.errorState hset
    rw [State.busOff_standing hk _ (by omega), herr]
  case isFalse h =>
    have ht : ¬ 255 < tec := fun ht => h (decide_eq_true ht)
    rwa [if_neg ht] at hset ⊢

/-- An error in transmission on an ENABLED CAN port: it stays ENABLED below bus-off, or enters bus-off. -/
theorem State.canTxError_standing {k : Nat} (hk : k < 256) (s : State) (err : CanTxError) (h2 : s.portState k = 2) (he : s.stSlot E.portCanErrorState k ≠ 2) :
    ((s.canTxError k err).portState k = 2 ∧ (s.canTxError k err).stSlot E.portCanErrorState k ≠ 2) ∨ (s.canTxError k err).standing k = ⟨4, 2, true, true, false, false⟩ := by
  unfold State.canTxError
  split
  · exact .inl ⟨h2, he⟩
  split
  · exact .inl ⟨h2, he⟩
  next row _ =>
  dsimp only
  split
  · exact .inl ⟨h2, he⟩
  generalize hs1 : (s.when (err == .bit || err == .ack || err == .loopDelay) (·.countSlot E.portCanCntTxError k)).when (err == .loopDelay) (·.countSlot E.portCanCntTdcFail k) = s1
  generalize s.stSlot E.portCanTec k + _ = tec
  generalize s.stSlot E.portCanRec k = r
  have hs : s1.standing k = s.standing k := by rw [← hs1]; simp +decide
  have hstate : s1.portState k = 2 := (congrArg PortStanding.state hs).trans h2
  have herrors := State.errors_standing hk s1 tec r (by omega)
  by_cases ht : 255 < tec
  · rw [if_pos ht] at herrors ⊢
    exact .inr herrors
  · rw [if_neg ht, hs] at herrors
    rw [if_neg ht]
    have hstays {t : State} (h : t.standing k = (s1.errors k tec r).standing k) : t.portState k = 2 ∧ t.stSlot E.portCanErrorState k ≠ 2 := by
      rw [herrors] at h
      refine ⟨(congrArg PortStanding.state h).trans h2, ?_⟩
      have herr : t.stSlot E.portCanErrorState k = if 127 < tec || 127 < r then 1 else 0 := congrArg PortStanding.errorState h
      rw [herr]
      split <;> decide
    left
    split
    · exact hstays (State.unsend_standing ..)
    · exact hstays (State.oneShot_standing hk _ row (by rw [(hstays rfl).1]; decide))

/-- The wake frame of a CAN port enters its queue alone (R391). -/
theorem State.propagate_can_od (s : State) {k : Nat} (hc : isCan k = true) : (s.propagate k).od = s.od := by
  unfold State.propagate
  simp only [hc, Bool.true_and, if_true]
  repeat' split
  all_goals rfl

theorem State.propagate_can_port (s : State) {k : Nat} (hc : isCan k = true) : (s.propagate k).port k = { s.port k with wakePending := false } := by
  unfold State.propagate
  simp only [hc, Bool.true_and, if_true]
  split
  case isTrue h =>
    have hw : (s.port k).wakePending = false := by simpa using h
    rw [← hw]
  case isFalse =>
    split
    · exact State.port_updPort ..
    · exact State.port_updPort s k (fun p => { p with wakePending := false })

theorem State.propagate_can_port_other (s : State) {j k : Nat} (hc : isCan k = true) (h : j ≠ k) : (s.propagate k).port j = s.port j := by
  unfold State.propagate
  simp only [hc, Bool.true_and, if_true]
  repeat' split
  · rfl
  · exact State.port_updPort_other s _ h
  · exact State.port_updPort_other s (fun p => { p with wakePending := false }) h

/-- A CAN port becomes ENABLED: its state, its queues and its wake frame, nothing of the other kinds of port. -/
theorem State.portUp_can (s : State) {k : Nat} (hc : isCan k = true) : s.portUp k = ((s.setPortState k 2).unpark k).propagate k := by
  simp [State.portUp, isLin_of_isCan hc, isEth_of_isCan hc, State.when]

theorem State.portUp_can_stSlot (s : State) {k : Nat} (hc : isCan k = true) (e : Nat) : (s.portUp k).stSlot e k = (s.setPortState k 2).stSlot e k :=
  State.stSlot_of_same (State.keep_variant (by simp)) (by rw [State.portUp_can s hc, State.propagate_can_od _ hc]; rfl) e k

theorem State.portUp_can_state (s : State) {k : Nat} (hc : isCan k = true) : (s.portUp k).portState k = 2 :=
  (State.portUp_can_stSlot s hc _).trans (State.stSlot_setSlot_same ..)

theorem State.portUp_can_stSlot_of_ne (s : State) {k e : Nat} (hc : isCan k = true) (he : e ≠ E.portCanState) : (s.portUp k).stSlot e k = s.stSlot e k :=
  (State.portUp_can_stSlot s hc e).trans (State.stSlot_setSlot_of_ne s k 2 he)

theorem State.portUp_can_port (s : State) {k : Nat} (hc : isCan k = true) :
    (s.portUp k).port k = { s.port k with parked := false, holdRunning := false, holdExpired := false, wakePending := false } := by
  rw [State.portUp_can s hc, State.propagate_can_port _ hc, State.unpark, State.port_updPort]
  rfl

theorem State.portUp_can_port_other (s : State) {j k : Nat} (hc : isCan k = true) (h : j ≠ k) : (s.portUp k).port j = s.port j := by
  rw [State.portUp_can s hc, State.propagate_can_port_other _ hc h, State.unpark, State.port_updPort_other _ _ h]
  rfl

/-! The end of the recovery sequence on a CAN port (R114). -/

theorem State.recovered_stSlot (s : State) {k e : Nat} (hc : isCan k = true) (he : e ≠ E.portCanState) : (s.recovered k).stSlot e k = (s.setErrors k 0 0).stSlot e k := by
  rw [State.recovered, State.portUp_can_stSlot_of_ne _ hc he]
  rfl

theorem State.recovered_port (s : State) {k : Nat} (hc : isCan k = true) :
    (s.recovered k).port k = { s.port k with recovering := false, parked := false, holdRunning := false, holdExpired := false, wakePending := false } := by
  rw [State.recovered, State.portUp_can_port _ hc, State.setErrors_port, State.port_updPort]

theorem State.recovered_port_other (s : State) {j k : Nat} (hc : isCan k = true) (h : j ≠ k) : (s.recovered k).port j = s.port j := by
  rw [State.recovered, State.portUp_can_port_other _ hc h]
  exact (State.setErrors_port ..).trans (State.port_updPort_other s _ h)

/-- An ENABLED port that a transmit error leaves in error state bus-off has entered bus-off; the end of the attempt adds nothing. -/
theorem State.canTransmitError_busOff {s : State} {k : Nat} (hk : k < 256) (hc : isCan k = true) (err : CanTxError) (h2 : s.portState k = 2) (he : s.stSlot E.portCanErrorState k ≠ 2)
    (ht : ((s.canTxError k err).attemptOver k).stSlot E.portCanErrorState k = 2) : ((s.canTxError k err).attemptOver k).standing k = ⟨4, 2, true, true, false, false⟩ := by
  obtain ⟨hstate, herr⟩ | hoff := State.canTxError_standing hk s err h2 he
  · obtain h | h := State.attemptOver_errorState _ hc hstate <;> omega
  · have hstate : (s.canTxError k err).portState k = 4 := congrArg PortStanding.state hoff
    rwa [State.attemptOver_of_state _ (by omega) (by omega)]

/-! ### The frames of the commands -/

theorem State.frame_enabling {s t : State} (h : t.rest 10995120553988 = s.rest 10995120553988) :
    t = { s with od := t.od, safe := t.safe, queues := t.queues, ports := t.ports, pins := t.pins, out := t.out } := by
  cases s; cases t; simpa [State.rest, pick] using h

theorem State.frame_txError {s t : State} (h : t.rest 12099464972292 = s.rest 12099464972292) :
    t = { s with od := t.od, ev := t.ev, safe := t.safe, dies := t.dies, queues := t.queues, bp := t.bp, policers := t.policers, credits := t.credits, ports := t.ports,
                 intc := t.intc, creditDue := t.creditDue, nextFid := t.nextFid, pins := t.pins, out := t.out } := by
  cases s; cases t; simpa [State.rest, pick] using h

theorem State.frame_startRecovery {s t : State} (h : t.rest 2199027466240 = s.rest 2199027466240) :
    t = { s with safe := t.safe, ports := t.ports, pins := t.pins } := by
  cases s; cases t; simpa [State.rest, pick] using h

theorem State.frame_settle (s : State) : s.settle = { s with safe := s.settle.safe, pins := s.settle.pins } := by
  unfold State.settle State.autoRelease; split <;> rfl

/-! ### The write of `port.can.recover` -/

/-- The indices of an object that does not stand at slots or dies end before `m`. -/
def OdObject.endsBefore (o : OdObject) (m : Nat) : Bool :=
  match o.cls with
  | .one => decide (o.base < m)
  | .count n => decide (o.base + n ≤ m)
  | _ => false

theorem OdObject.covers_of_endsBefore {o : OdObject} {m idx : Nat} (v : Variant) (h : o.endsBefore m = true) (hi : m ≤ idx) : o.covers v idx = false := by
  unfold OdObject.endsBefore at h
  unfold OdObject.covers
  split at h <;> simp_all <;> omega

/-- The object at 0x2000 of a CAN slot (R135): the general objects end before it, and it is the first of the ports'. -/
theorem odObject_can {v : Variant} {k : Nat} (hs : v.hasSlot k = true) (hc : isCan k = true) : odObject v (0x2000 + k) = some obj2000Can := by
  have hends : ∀ o ∈ odGeneral, o.endsBefore 0x2000 = true := by decide
  have hgen : odGeneral.find? (fun o => o.covers v (0x2000 + k)) = none :=
    List.find?_eq_none.mpr fun o ho => by simp [OdObject.covers_of_endsBefore v (hends o ho) (Nat.le_add_right 0x2000 k)]
  have hcov : obj2000Can.covers v (0x2000 + k) = true := by
    simp [OdObject.covers, obj2000Can, hs, hc]
  have hport : odPorts.find? (fun o => o.covers v (0x2000 + k)) = some obj2000Can := List.find?_cons_of_pos hcov
  simp [odObject, odAll, List.find?_append, hgen, hport]

theorem odEntry_canRecover {v : Variant} {k : Nat} (hs : v.hasSlot k = true) (hc : isCan k = true) :
    odEntry v ((0x2000 + k) * 256 + 0x1B) = some ⟨0x1B, 0x1B, .u8, .wo, 0, 2, .any, false, false, 0⟩ := by
  have hd : ((0x2000 + k) * 256 + 0x1B) / 256 = 0x2000 + k := by omega
  have hm : ((0x2000 + k) * 256 + 0x1B) % 256 = 0x1B := by omega
  have hk := Variant.hasSlot_lt hs
  have hp : odEntryPresent v (0x2000 + k) 0x1B = true := by
    have : (0x2000 + k == 0x2440) = false := by simp; omega
    simp [odEntryPresent, this]
  simp only [odEntry, hd, hm, odObject_can hs hc, hp, if_true]
  decide

theorem State.odAct_canRecover (s : State) {k : Nat} (hk : k < 256) (hc : isCan k = true) (sess row : Nat) (b : Bytes) :
    s.odAct sess ((0x2000 + k) * 256 + 0x1B) row b = (s.canRecover k, 0) := by
  have hd : ((0x2000 + k) * 256 + 0x1B) / 256 = 0x2000 + k := by omega
  have hm : ((0x2000 + k) * 256 + 0x1B) % 256 = 0x1B := by omega
  have hr : clearRanges (0x2000 + k) 0x1B = [] := by simp [clearRanges]
  have hse : sessionEntry ((0x2000 + k) * 256 + 0x1B) = false := by
    simp [sessionEntry, E.commitReadView, E.journalSelect, E.sealStoreSelect, E.attestRelation, E.attestResponse, E.keycmdSlot, E.keycmdBlob, E.keycmdStatus]; omega
  have h1 : (0x2000 + k == 0x1122) = false := by simp; omega
  have h2 : ((0x2000 + k) / 256 == 0x20) = true := by simp; omega
  have h3 : ((0x2000 + k) / 256 == 0x22) = false := by simp; omega
  have h4 : (0x2000 + k) % 256 = k := by omega
  simp [State.odAct, hd, hm, hr, hse, h1, h2, State.portWrite, h3, h4, hc]

/-- A taken write of `port.can.recover` and its answer (R114, R61). -/
theorem State.sessionWrite_canRecover {s : State} {k sess v : Nat} (hs : s.variant.hasSlot k = true) (hc : isCan k = true)
    (ha : s.accepts sess (0x2000 + k) 0x1B noRow (toLE 1 v) = true) :
    s.sessionWrite sess (0x2000 + k) 0x1B noRow (toLE 1 v) =
      ((s.canRecover k).updSess sess (fun x => { x with lastStatus := 0, last := s.clock.ticks })).reply sess (servingDie (0x2000 + k) 0x1B noRow) 0 (answer sess [] 0) := by
  obtain ⟨hsess, hserves⟩ := State.accepts_serves ha
  have hw : s.odWrite sess (0x2000 + k) 0x1B noRow (toLE 1 v) = (s.canRecover k, 0) := by
    rw [State.odWrite_accepts ha (odObject_can hs hc) (odEntry_canRecover hs hc)]
    exact State.odAct_canRecover s (Variant.hasSlot_lt hs) hc ..
  have hclock : (s.canRecover k).clock = s.clock := State.keep_clock (by simp)
  rw [State.sessionWrite_serves hserves (by simp [hw]), hw, State.requestDone_plain _ (show (0 : Nat) ≠ 0x06 by decide) (State.hasSess_lt hsess), hclock]

/-- The fields that a session's taken write of `port.can.recover` changes. -/
theorem State.sessionWrite_canRecover_rest {s : State} {k sess v : Nat} (hs : s.variant.hasSlot k = true) (hc : isCan k = true)
    (ha : s.accepts sess (0x2000 + k) 0x1B noRow (toLE 1 v) = true) :
    (s.sessionWrite sess (0x2000 + k) 0x1B noRow (toLE 1 v)).rest 8796097216584 = s.rest 8796097216584 := by
  rw [State.sessionWrite_canRecover hs hc ha, State.reply_answer]
  simp

theorem State.sessionWrite_canRecover_port {s : State} {k sess v : Nat} (j : Nat) (hs : s.variant.hasSlot k = true) (hc : isCan k = true)
    (ha : s.accepts sess (0x2000 + k) 0x1B noRow (toLE 1 v) = true) :
    (s.sessionWrite sess (0x2000 + k) 0x1B noRow (toLE 1 v)).port j = (s.canRecover k).port j := by
  rw [State.sessionWrite_canRecover hs hc ha, State.reply_answer]
  rfl

/-- The frame of a taken write of `port.can.recover`. -/
theorem State.frame_canRecover {s : State} {k sess v : Nat} (hs : s.variant.hasSlot k = true) (hc : isCan k = true)
    (ha : s.accepts sess (0x2000 + k) 0x1B noRow (toLE 1 v) = true) {t : State} (ht : t = (s.sessionWrite sess (0x2000 + k) 0x1B noRow (toLE 1 v)).settle) :
    t = { s with sessions := t.sessions, relays := t.relays, safe := t.safe, ports := t.ports, pins := t.pins, out := t.out } := by
  have h : t.rest 10995120488520 = s.rest 10995120488520 := by
    rw [ht, State.settle_rest (by decide), State.rest_weaken (by decide) (State.sessionWrite_canRecover_rest hs hc ha)]
  clear ht
  cases s; cases t; simpa [State.rest, pick] using h

/-! ### The commands -/

theorem doneIf_present {s t : State} {p : Bool} (hp : p = true) : doneIf s p t = .next t.settle := by
  rw [hp]; rfl

/-- What a command's outcome satisfies, where its next state is known. -/
theorem State.leads_of_exec {s t : State} {c : Instr} {P : State → Prop} (h : exec c s = .next t) (hP : P t) : s.leads c P := ⟨t, h, hP⟩

theorem State.canPort_of_same {s t : State} (k : Nat) (hv : t.variant = s.variant) (hp : t.power = s.power) (hd : t.dies = s.dies) : t.canPort k = s.canPort k := by
  simp [State.canPort, State.portRuns, State.inRun, State.dieRuns, State.lostDie, State.die, hv, hp, hd]

theorem State.busIntegration_of_waiting (s : State) {k : Nat} (hp : s.canPort k = true) (h : s.portState k ≠ 1) :
    s.busIntegration k = s.updPort k (fun p => { p with integrating := false }) := by
  simp [State.busIntegration, hp, h]

theorem State.busIntegration_of_enabling (s : State) {k : Nat} (hp : s.canPort k = true) (h : s.portState k = 1) : s.busIntegration k = s.portUp k := by
  simp [State.busIntegration, hp, h]

/-- An ENABLED port with a clock is on its bus once it waits no more (Table 4-3). -/
theorem State.canOnBus_busIntegration (s : State) {k : Nat} (hp : s.canPort k = true) (h : s.portState k = 2) (hclk : (s.port k).clockStopped = false) :
    (s.busIntegration k).settle.canOnBus k = true := by
  rw [State.busIntegration_of_waiting s hp (by omega)]
  have hport : (s.updPort k (fun p => { p with integrating := false })).settle.canPort k = true :=
    (State.canPort_of_same k (by simp) (by simp) (by simp)).trans hp
  have hstate : (s.updPort k (fun p => { p with integrating := false })).portState k = 2 := h
  simp [State.canOnBus, hport, hstate, hclk]

section
variable {s : State} {k : Nat} (hs : s.variant.hasSlot k = true) (hc : isCan k = true)
include hs hc

theorem exec_canBusIntegration : exec (.canBusIntegration k) s = .next (s.busIntegration k).settle := doneIf_present (by simp [hs, hc])

theorem exec_canTransmitError (err : CanTxError) : exec (.canTransmitError k err) s = .next ((s.canTxError k err).attemptOver k).settle :=
  doneIf_present (by simp [hs, hc])

theorem exec_busOffRestartTimeout_armed (hp : s.canPort k = true) (h4 : s.portState k = 4) (ha : (s.port k).restartArmed = true)
    (hr : 0 < s.cfgSlot E.portCanBusOffRestart k) : exec (.busOffRestartTimeout k) s = .next (s.startRecovery k).settle := by
  refine (doneIf_present (by simp [hs, hc])).trans ?_
  simp [State.when, hp, h4, ha, hr]

/-- With restart time 0 no restart time elapses (R114). -/
theorem exec_busOffRestartTimeout_manual (hr : s.cfgSlot E.portCanBusOffRestart k = 0) : exec (.busOffRestartTimeout k) s = .next s.settle := by
  refine (doneIf_present (by simp [hs, hc])).trans ?_
  simp [State.when, hr]

theorem exec_recoverySequenceComplete (hp : s.canPort k = true) (h4 : s.portState k = 4) (hr : (s.port k).recovering = true) :
    exec (.recoverySequenceComplete k) s = .next (s.recovered k).settle := by
  refine (doneIf_present (by simp [hs, hc])).trans ?_
  simp [State.when, hp, h4, hr]

omit hc in
theorem exec_canRecover {sess v : Nat} (ha : s.accepts sess (0x2000 + k) 0x1B noRow (toLE 1 v) = true) :
    exec (.canRecover sess k v) s = .next (s.sessionWrite sess (0x2000 + k) 0x1B noRow (toLE 1 v)).settle :=
  doneIf_present (by simp [(State.accepts_serves ha).1, Variant.hasSlot_lt hs])

end

/-- Settles O25: each command is the operation that its exec equation names, read by the lemmas about that operation, in a frame that the masks of Laws/ give. -/
theorem canRecovery : Obligations.CanRecovery := by
  unfold Obligations.CanRecovery
  intro s k hs hc hp
  have hk : k < 256 := Variant.hasSlot_lt hs
  refine ⟨fun h1 => ?waits, fun h1 => ?enabling, fun h4 ha hr => ?restart, fun h4 hr => ?sequence, fun _ hr => ?manual, fun sess v h4 hr ha => ?written, fun err h2 he => ?busOff⟩
  case waits =>
    have hx := exec_canBusIntegration hs hc
    refine State.leads_of_exec hx ⟨?_, State.canOnBus_busIntegration s hp, State.frame_enabling (execCanBusIntegration_rest (by decide) k s hx)⟩
    rw [State.port_settle, State.busIntegration_of_waiting s hp h1, State.port_updPort]
  case enabling =>
    have hx := exec_canBusIntegration hs hc
    have hframe := State.frame_enabling (execCanBusIntegration_rest (by decide) k s hx)
    rw [State.busIntegration_of_enabling s hp h1] at hx hframe
    have hport := (State.port_settle _ k).trans (State.portUp_can_port s hc)
    refine State.leads_of_exec hx ⟨?_, by rw [hport], by rw [hport], by rw [hport], ?_, by rw [hport], fun j hj => ?_, hframe⟩
    · rw [State.portState_settle, State.portUp_can_state s hc]
    · rw [State.stSlot_settle, State.portUp_can_stSlot_of_ne s hc (by decide)]
    · rw [State.port_settle, State.portUp_can_port_other s hc hj]
  case restart =>
    have hx := exec_busOffRestartTimeout_armed hs hc hp h4 ha hr
    refine State.leads_of_exec hx ⟨?_, State.frame_startRecovery (execBusOffRestartTimeout_rest (by decide) k s hx)⟩
    rw [State.port_settle, State.startRecovery, State.port_updPort]
  case sequence =>
    have hx := exec_recoverySequenceComplete hs hc hp h4 hr
    have hport := (State.port_settle _ k).trans (State.recovered_port s hc)
    refine State.leads_of_exec hx ⟨?_, ?_, ?_, ?_, by rw [hport], by rw [hport], by rw [hport], fun j hj => ?_,
      State.frame_enabling (execRecoverySequenceComplete_rest (by decide) k s hx)⟩
    · rw [State.portState_settle, State.recovered, State.portUp_can_state _ hc]
    · rw [State.stSlot_settle, State.recovered_stSlot s hc (by decide), State.setErrors_tec]; rfl
    · rw [State.stSlot_settle, State.recovered_stSlot s hc (by decide), State.setErrors_rec]; rfl
    · rw [State.stSlot_settle, State.recovered_stSlot s hc (by decide)]
      exact congrArg PortStanding.errorState (State.setErrors_standing s k 0 0)
    · rw [State.port_settle, State.recovered_port_other s hc hj]
  case manual => exact State.leads_of_exec (exec_busOffRestartTimeout_manual hs hc hr) (State.frame_settle s)
  case written =>
    have hstart : s.canRecover k = s.startRecovery k := by simp [State.canRecover, State.when, h4, hr]
    refine State.leads_of_exec (exec_canRecover hs ha) ⟨?_, fun j hj => ?_, State.frame_canRecover hs hc ha rfl⟩
    · rw [State.port_settle, State.sessionWrite_canRecover_port k hs hc ha, hstart, State.startRecovery, State.port_updPort]
    · rw [State.port_settle, State.sessionWrite_canRecover_port j hs hc ha, hstart, State.startRecovery, State.port_updPort_other s _ hj]
  case busOff =>
    have hx := exec_canTransmitError hs hc err
    refine State.leads_of_exec hx ⟨fun ht => ?_, State.frame_txError (execCanTransmitError_rest (by decide) k err s hx)⟩
    rw [State.stSlot_settle] at ht
    have hoff := (State.settle_standing _ k).trans (State.canTransmitError_busOff hk hc err h2 he ht)
    exact ⟨congrArg PortStanding.state hoff, congrArg PortStanding.restartArmed hoff, congrArg PortStanding.recovering hoff, congrArg PortStanding.parked hoff⟩

end Sys2Proof.Machine
end

section
/-! The hardware semaphores of a die's bridge (R425): who holds one, which of them a reset pair has left behind, and how each is taken, freed and released. -/

namespace Sys2Proof.Machine
open Sys2Proof

/-! ### Bits of a register -/

theorem bitAt_eq_testBit (v b : Nat) : bitAt v b = v.testBit b := by simp [bitAt, Nat.testBit_eq_decide_div_mod_eq, beq_eq_decide]

/-- Adding a power of two below a bit, where its own bit is clear, carries nothing into that bit. -/
theorem bitAt_add_two_pow_of_lt {v i j : Nat} (hj : bitAt v j = false) (h : j < i) : bitAt (v + 2 ^ j) i = bitAt v i := by
  obtain ⟨k, rfl⟩ := Nat.exists_eq_add_of_lt h
  have heven : v / 2 ^ j % 2 ≠ 1 := by simpa [bitAt] using hj
  have hhalf : (v / 2 ^ j + 1) / 2 = v / 2 ^ j / 2 := by omega
  have hpow : 2 ^ (j + k + 1) = 2 ^ j * 2 * 2 ^ k := by ring
  simp only [bitAt, hpow, ← Nat.div_div_eq_div_mul, Nat.add_div_right _ (Nat.two_pow_pos j), hhalf]

@[simp] theorem bitAt_setBit_same (v b : Nat) : bitAt (setBit v b) b = true := by
  cases h : bitAt v b with
  | true => simp [setBit, h]
  | false =>
    rw [bitAt_eq_testBit] at h
    simp [setBit, bitAt_eq_testBit, h, Nat.add_comm v, Nat.testBit_two_pow_add_eq]

/-- A set bit stays set when any bit is set. -/
theorem bitAt_setBit_of_bitAt {v i : Nat} (j : Nat) (h : bitAt v i = true) : bitAt (setBit v j) i = true := by
  cases hj : bitAt v j with
  | true => simpa [setBit, hj] using h
  | false =>
    obtain hlt | rfl | hgt := Nat.lt_trichotomy i j
    · simpa [setBit, hj, bitAt_eq_testBit, Nat.add_comm v, Nat.testBit_two_pow_add_gt hlt] using h
    · exact bitAt_setBit_same v i
    · simpa [setBit, hj, bitAt_add_two_pow_of_lt hj hgt] using h

/-! ### A listed key -/

@[simp] theorem mfind_mput_same {α : Type} (m : NMap α) (i : Nat) (v : α) : mfind (mput m i v) i = some v := by
  induction m with
  | nil => simp [mput, mfind]
  | cons e m ih =>
    obtain ⟨k, w⟩ := e
    by_cases hk : i = k
    · simp [mput, mfind, hk]
    · by_cases hlt : i < k <;> simp [mput, mfind, hk, hlt, ih]

theorem mem_of_mfind {α : Type} {m : NMap α} {i : Nat} {v : α} (h : mfind m i = some v) : (i, v) ∈ m := by
  induction m with
  | nil => simp [mfind] at h
  | cons e m ih =>
    obtain ⟨k, w⟩ := e
    simp only [mfind] at h
    split at h
    · simp_all
    · split at h
      · simp at h
      · exact List.mem_cons_of_mem _ (ih h)

/-! ### Application pairs, their bridges and interrupt targets after an update -/

theorem State.app_of_apps {s t : State} (h : t.apps = s.apps) (n : Nat) : t.app n = s.app n := by rw [State.app, State.app, h]

@[simp] theorem State.app_settle (s : State) (n : Nat) : s.settle.app n = s.app n := State.app_of_apps (State.settle_apps s) n

theorem State.app_updApp_other (s : State) {n m : Nat} (f : App → App) (h : m ≠ n) : (s.updApp n f).app m = s.app m :=
  mget_mset_other _ s.apps _ h

theorem State.updBridge_bridge (s : State) (n : Nat) (f : Bridge → Bridge) : ((s.updBridge n f).app n).bridge = f (s.app n).bridge := by
  simp [State.updBridge]

/-- A part `g` of the bridge that an update of a pair never changes stays the same on every die, the updated one included. -/
theorem State.updApp_bridge_of_same {β : Type} (g : Bridge → β) (s : State) (n d : Nat) (f : App → App) (h : ∀ a, g (f a).bridge = g a.bridge) :
    g ((s.updApp n f).app d).bridge = g (s.app d).bridge := by
  by_cases e : d = n
  · subst e; rw [State.app_updApp, h]
  · rw [State.app_updApp_other s f e]

theorem State.updBridge_app_other (s : State) {n m : Nat} (f : Bridge → Bridge) (h : m ≠ n) : (s.updBridge n f).app m = s.app m := State.app_updApp_other s _ h

theorem State.updCore_sems (s : State) (n c d : Nat) (f : BridgeCore → BridgeCore) : ((s.updCore n c f).app d).bridge.sems = (s.app d).bridge.sems :=
  State.updApp_bridge_of_same Bridge.sems s n d _ (fun _ => rfl)

theorem State.appsElse_updApp (s : State) (d : Nat) (f : App → App) : (s.updApp d f).appsElse s d := fun _ hm => State.app_updApp_other s f hm

theorem State.appsElse_of_apps {s t u : State} {d : Nat} (h : u.apps = t.apps) (ht : t.appsElse s d) : u.appsElse s d :=
  fun m hm => (State.app_of_apps h m).trans (ht m hm)

theorem State.intcTarget_setIntc_other (s : State) {n k j : Nat} (t : IntcTarget) (h : j ≠ k) : (s.setIntc n k t).intcTarget n j = s.intcTarget n j :=
  mget_mset_other _ s.intc t (by omega)

/-- A source that is not active is pending at the target that it fires for (R411). -/
theorem State.fire_pend (s : State) {n k src : Nat} (h : bitAt (s.intcTarget n k).active src = false) : bitAt ((s.fire n k src).intcTarget n k).pend src = true := by
  cases hp : bitAt (s.intcTarget n k).pend src <;> simp [State.fire, h, hp]

theorem State.fire_intcTarget_other (s : State) {n k j : Nat} (src : Nat) (h : j ≠ k) : (s.fire n k src).intcTarget n j = s.intcTarget n j := by
  unfold State.fire
  dsimp only
  split <;> exact State.intcTarget_setIntc_other s _ h

/-- A source of a die always fires for the runtime pair (R406). -/
theorem State.raiseSource_pend (s : State) {n src : Nat} (h : bitAt (s.intcTarget n 0).active src = false) : bitAt ((s.raiseSource n src).intcTarget n 0).pend src = true := by
  unfold State.raiseSource
  dsimp only
  split
  · rw [State.fire_intcTarget_other _ src (by decide)]; exact State.fire_pend s h
  · exact State.fire_pend s h

@[simp] theorem State.raiseSource_app (s : State) (n src d : Nat) : (s.raiseSource n src).app d = s.app d :=
  State.app_of_apps (State.keep_apps (by simp)) d

/-! ### Semaphores left behind -/

/-- A semaphore is held, and its holder's pair has been reset since it was taken. -/
def Bridge.orphaned (b : Bridge) (i : Nat) : Bool := (mfind b.sems i).isSome && bitAt b.orphans i

/-- The marks of a bridge after the reset of the pair `who`. -/
def Bridge.markHeld (who : Nat) (b : Bridge) : Bridge :=
  { b with orphans := b.sems.foldl (fun o p => if p.2 == who + 1 then setBit o p.1 else o) b.orphans }

theorem State.orphanPair_eq (s : State) (who : Nat) : s.orphanPair who = s.forAll s.dieList (fun s m => s.updBridge m (Bridge.markHeld who)) := rfl

theorem State.semFailed_of_orphaned {s : State} {d i : Nat} (h : (s.app d).bridge.orphaned i = true) : s.semFailed d i = true := by
  simp only [Bridge.orphaned, Bool.and_eq_true, Option.isSome_iff_exists] at h
  obtain ⟨⟨who, hheld⟩, hmark⟩ := h
  simp [State.semFailed, hheld, hmark]

theorem State.semFailed_of_lostDie {s : State} {d i who : Nat} (h : mfind (s.app d).bridge.sems i = some (who + 1)) (hl : s.lostDie (who / 16) = true) :
    s.semFailed d i = true := by
  simp [State.semFailed, h, hl]

theorem bitAt_foldl_marks {i : Nat} (who : Nat) (l : List (Nat × Nat)) (o : Nat) (h : bitAt o i = true ∨ (i, who + 1) ∈ l) :
    bitAt (l.foldl (fun o p => if p.2 == who + 1 then setBit o p.1 else o) o) i = true := by
  induction l generalizing o with
  | nil => simpa using h
  | cons p l ih =>
    refine ih _ ?_
    obtain hbit | hmem := h
    · left
      dsimp only
      split
      · exact bitAt_setBit_of_bitAt p.1 hbit
      · exact hbit
    · obtain rfl | hmem := List.mem_cons.mp hmem
      · left; simp
      · exact .inr hmem

theorem Bridge.markHeld_orphaned_of_held {b : Bridge} {i who : Nat} (h : mfind b.sems i = some (who + 1)) : (b.markHeld who).orphaned i = true := by
  have hmark : bitAt (b.markHeld who).orphans i = true := bitAt_foldl_marks who b.sems b.orphans (.inr (mem_of_mfind h))
  have hheld : mfind (b.markHeld who).sems i = some (who + 1) := h
  simp [Bridge.orphaned, hheld, hmark]

theorem Bridge.markHeld_orphaned_of_orphaned {b : Bridge} {i : Nat} (who : Nat) (h : b.orphaned i = true) : (b.markHeld who).orphaned i = true := by
  simp only [Bridge.orphaned, Bool.and_eq_true] at h ⊢
  exact ⟨h.1, bitAt_foldl_marks who b.sems b.orphans (.inl h.2)⟩

/-- Marking the bridges of some dies keeps the marks of each. -/
theorem State.forAll_markHeld_keeps {d i : Nat} (who : Nat) (l : List Nat) (s : State) (h : (s.app d).bridge.orphaned i = true) :
    ((s.forAll l (fun s m => s.updBridge m (Bridge.markHeld who))).app d).bridge.orphaned i = true := by
  induction l generalizing s with
  | nil => exact h
  | cons m l ih =>
    refine ih _ ?_
    by_cases e : d = m
    · subst e; rw [State.updBridge_bridge]; exact Bridge.markHeld_orphaned_of_orphaned who h
    · rwa [State.updBridge_app_other s _ e]

theorem State.forAll_markHeld_marks {d i who : Nat} (l : List Nat) (hd : d ∈ l) (s : State) (h : mfind (s.app d).bridge.sems i = some (who + 1)) :
    ((s.forAll l (fun s m => s.updBridge m (Bridge.markHeld who))).app d).bridge.orphaned i = true := by
  induction l generalizing s with
  | nil => simp at hd
  | cons m l ih =>
    by_cases e : d = m
    · subst e
      refine State.forAll_markHeld_keeps who l _ ?_
      rw [State.updBridge_bridge]; exact Bridge.markHeld_orphaned_of_held h
    · refine ih ((List.mem_cons.mp hd).resolve_left e) _ ?_
      rwa [State.updBridge_app_other s _ e]

theorem State.mem_dieList {s : State} {d : Nat} (h : s.variant.hasDie d = true) : d ∈ s.dieList := by
  simp only [Variant.hasDie, Bool.and_eq_true, decide_eq_true_eq] at h
  exact List.mem_map.mpr ⟨d - 1, List.mem_range.mpr (by omega), by omega⟩

/-- A pair's reset marks the semaphores that the pair holds, on every die of the part (R428). -/
theorem State.orphanPair_orphaned {s : State} {d i who : Nat} (hd : s.variant.hasDie d = true) (h : mfind (s.app d).bridge.sems i = some (who + 1)) :
    ((s.orphanPair who).app d).bridge.orphaned i = true :=
  State.forAll_markHeld_marks s.dieList (State.mem_dieList hd) s h

/-- The reset of a pair's own claims and registers comes before its marks and frees no semaphore. -/
theorem State.appHalt_orphaned {s : State} {d i h : Nat} (cause : Nat) (hd : s.variant.hasDie d = true) (hs : mfind (s.app d).bridge.sems i = some (h * 16 + 2)) :
    ((s.appHalt h cause).app d).bridge.orphaned i = true := by
  have hclaims : ((s.releaseStaging (5 + (h - 1))).forAll ((s.app h).qps.map (·.1)) (fun s k => s.txFalls h k)).apps = s.apps := State.keep_apps (by simp)
  refine State.orphanPair_orphaned (i := i) (who := h * 16 + 1) ?_ ?_
  · rwa [State.keep_variant (s := s) (by simp)]
  · rw [State.updCore_sems, State.updApp_bridge_of_same Bridge.sems, State.app_of_apps hclaims, hs]
    exact fun _ => rfl

theorem State.appReset_orphaned {s : State} {d i h : Nat} (cause : Nat) (hd : s.variant.hasDie d = true) (ht : s.update.trial ≠ some 2)
    (hs : mfind (s.app d).bridge.sems i = some (h * 16 + 2)) : ((s.appReset h cause).app d).bridge.orphaned i = true := by
  have hupd : (((s.appHalt h cause).updApp h (fun a => { a with delayArmed := true })).setAppState h 2).update = s.update := State.keep_update (by simp)
  have hstays : s.appReset h cause = ((s.appHalt h cause).updApp h (fun a => { a with delayArmed := true })).setAppState h 2 := by
    simp [State.appReset, State.when, hupd, ht]
  have hkeep : ((s.appReset h cause).app d).bridge = ((s.appHalt h cause).app d).bridge := by
    rw [hstays, State.app_of_apps (State.keep_apps (State.setAppState_rest (by decide) _ _ _)), State.updApp_bridge_of_same (fun b => b)]
    exact fun _ => rfl
  rw [hkeep]
  exact State.appHalt_orphaned cause hd hs

/-- A lockstep mismatch of a runtime pair leaves its semaphores marked; the fault's own report touches no bridge. -/
theorem State.runtimeFails_orphaned {s : State} {d i h : Nat} (hd : s.variant.hasDie d = true) (hup : (s.die h).runtimeUp = true)
    (hs : mfind (s.app d).bridge.sems i = some (h * 16 + 1)) : ((s.runtimeFails h).app d).bridge.orphaned i = true := by
  have hstage : (s.releaseStaging (5 + (h - 1))).apps = s.apps := State.keep_apps (by simp)
  have hreport : ∀ t : State, ((t.addCause h 6).detectedFault 6 h 0).apps = t.apps := fun t => State.keep_apps (by simp)
  simp only [State.runtimeFails, hup, Bool.not_true, Bool.false_eq_true, if_false]
  rw [State.app_of_apps (hreport _)]
  refine State.orphanPair_orphaned ?_ ?_
  · rwa [State.keep_variant (s := s) (by simp)]
  · rw [State.app_of_apps (State.updDie_apps _ _ _), State.updApp_bridge_of_same Bridge.sems, State.app_of_apps hstage, hs]
    exact fun _ => rfl

/-! ### Taking, freeing and releasing one -/

theorem State.semTake_of_free {s : State} {n i : Nat} (who : Nat) (h : mfind (s.app n).bridge.sems i = none) :
    s.semTake n i who = s.updBridge n (fun b => { b with sems := mput b.sems i (who + 1) }) := by
  simp [State.semTake, h]

theorem State.semTake_of_held {s : State} {n i h : Nat} (who : Nat) (hs : mfind (s.app n).bridge.sems i = some h) : s.semTake n i who = s := by
  simp [State.semTake, hs]

theorem State.regPeek_sem_of_free {s : State} {n i : Nat} (core who : Nat) (h : mfind (s.app n).bridge.sems i = none) : s.regPeek n core who (.sem i) = 0 := by
  simp [State.regPeek, h]

theorem State.regPeek_sem_of_held {s : State} {n i h : Nat} (core who : Nat) (hs : mfind (s.app n).bridge.sems i = some h) :
    s.regPeek n core who (.sem i) = 0x80000000 + (h - 1) := by
  simp [State.regPeek, hs]

theorem State.semTake_appsElse (s : State) (n i who : Nat) : (s.semTake n i who).appsElse s n := by
  cases h : mfind (s.app n).bridge.sems i with
  | none => rw [State.semTake_of_free who h]; exact State.appsElse_updApp s n _
  | some _ => rw [State.semTake_of_held who h]; exact fun _ _ => rfl

theorem State.semGive_own {s : State} {n i who : Nat} (h : mfind (s.app n).bridge.sems i = some (who + 1)) :
    s.semGive n i who 0 = s.updBridge n (fun b => { b with sems := mdel b.sems i, orphans := clearBit b.orphans i }) := by
  simp [State.semGive, h]

theorem State.semGive_conflict {s : State} {n i who v : Nat} (h : v ≠ 0 ∨ mfind (s.app n).bridge.sems i ≠ some (who + 1)) :
    s.semGive n i who v = s.updBlock n .bridge (fun x => { x with conflict := true }) := by
  unfold State.semGive
  rw [if_neg (by simpa [imp_iff_not_or] using h)]

theorem State.semGive_appsElse (s : State) (n i who v : Nat) : (s.semGive n i who v).appsElse s n := by
  unfold State.semGive
  split
  · exact State.appsElse_updApp s n _
  · exact State.appsElse_updApp s n _

theorem State.semRelease_of_failed {s : State} {n i : Nat} (h : s.semFailed n i = true) :
    s.semRelease n i = (s.updBridge n (fun b => { b with sems := mdel b.sems i, orphans := clearBit b.orphans i, semRel := setBit b.semRel i })).raiseSource n 42 := by
  simp [State.semRelease, h]

/-! ### The commands -/

theorem State.onDie_runs {s : State} {d : Nat} (hd : s.variant.hasDie d = true) (hp : s.pairsRun d = true) (f : State → State) : s.onDie d f = .next (f s).settle := by
  rw [State.onDie, doneIf_present hd]
  simp [State.when, hp]

theorem State.onSem_runs {s : State} {d i who : Nat} (hd : s.variant.hasDie d = true) (hi : i < 32) (hw : s.variant.hasDie (who / 16) = true)
    (hp : s.pairsRun d = true) (hpw : s.pairsRun (who / 16) = true) (hway : who / 16 = d ∨ s.bridgeWay (who / 16) d = true) (f : State → State) :
    s.onSem d i who f = .next (f s).settle := by
  rw [State.onSem, doneIf_present (by simp [hd, hw])]
  simp [State.when, hp, hpw, hway, hi]

/-- The frame of a read of a semaphore. -/
theorem State.frame_semRead {s t : State} (h : t.rest 10996190035968 = s.rest 10996190035968) :
    t = { s with safe := t.safe, apps := t.apps, pins := t.pins, out := t.out } := by
  cases s; cases t; simpa [State.rest, pick] using h

/-- The frame of a write and of a release of a semaphore. -/
theorem State.frame_semWrite {s t : State} (h : t.rest 2200633884672 = s.rest 2200633884672) :
    t = { s with safe := t.safe, intc := t.intc, apps := t.apps, pins := t.pins } := by
  cases s; cases t; simpa [State.rest, pick] using h

theorem State.frame_appWatchdog {s t : State} (h : t.rest 11271604849028 = s.rest 11271604849028) :
    t = { s with od := t.od, lockHolder := t.lockHolder, commit := t.commit, ev := t.ev, safe := t.safe, dies := t.dies, intc := t.intc, apps := t.apps, update := t.update,
                 pins := t.pins, out := t.out } := by
  cases s; cases t; simpa [State.rest, pick] using h

/-- Settles O58: each command is its operation on the bridge, in a frame that the masks of Laws/ give; a reset of either pair of a die marks what it holds before the
semaphores' release asks for the marks. -/
theorem semaphores : Obligations.Semaphores := by
  unfold Obligations.Semaphores
  intro s d i hd hi
  refine ⟨fun who hw hp hpw hway => ?read, fun who v hw hp hpw hway => ?write, fun hp hf => ?release, fun who hs hl => State.semFailed_of_lostDie hs hl,
    fun h hh hp hrun hen ht hs => ?watchdog, fun h cause _ hs => State.semFailed_of_orphaned (State.appHalt_orphaned cause hd hs),
    fun h _ hup hs => State.semFailed_of_orphaned (State.runtimeFails_orphaned hd hup hs)⟩
  case read =>
    have hx : execBridgeSemRead d i who s = _ := State.onSem_runs hd hi hw hp hpw hway _
    have hout : (s.semTake d i who).out = s.out := State.keep_out (by simp)
    refine State.leads_of_exec hx ⟨fun hfree => ⟨?_, ?_⟩, fun h hheld => ⟨?_, ?_⟩, ?_, State.frame_semRead (execBridgeSemRead_rest (by decide) d i who s hx)⟩
    · rw [State.app_settle, State.give, State.app_of_apps (State.emit_apps _ _), State.semTake_of_free who hfree, State.updBridge_bridge, mfind_mput_same]
    · rw [State.settle_out, State.give, State.emit, hout, State.regPeek_sem_of_free 1 who hfree]
    · rw [State.app_settle, State.give, State.app_of_apps (State.emit_apps _ _), State.semTake_of_held who hheld]
    · rw [State.settle_out, State.give, State.emit, hout, State.regPeek_sem_of_held 1 who hheld]
    · exact State.appsElse_of_apps (State.settle_apps _) (State.semTake_appsElse s d i who)
  case write =>
    have hx : execBridgeSemWrite d i who v s = _ := State.onSem_runs hd hi hw hp hpw hway _
    refine State.leads_of_exec hx ⟨fun hv hown => ?_, fun hne => ?_, State.appsElse_of_apps (State.settle_apps _) (State.semGive_appsElse s d i who v.toNat),
      State.frame_semWrite (execBridgeSemWrite_rest (by decide) d i who v s hx)⟩
    · subst hv
      rw [State.app_settle, show (0 : Word).toNat = 0 from rfl, State.semGive_own hown, State.updBridge_bridge]
    · have hne' : v.toNat ≠ 0 ∨ mfind (s.app d).bridge.sems i ≠ some (who + 1) := hne.imp_left (fun hv h0 => hv (BitVec.eq_of_toNat_eq h0))
      rw [State.app_settle, State.semGive_conflict hne', State.updBlock, State.app_updApp]
  case release =>
    have hx : execSemaphoreFailureRelease d i s = _ := State.onDie_runs hd hp _
    have hframe := State.frame_semWrite (execSemaphoreFailureRelease_rest (by decide) d i s hx)
    rw [State.semRelease_of_failed hf] at hx hframe
    refine State.leads_of_exec hx ⟨?_, ?_, fun hact => ?_, ?_, hframe⟩
    · rw [State.app_settle, State.raiseSource_app, State.updBridge_bridge, mget_mdel_same]
    · rw [State.app_settle, State.raiseSource_app, State.updBridge_bridge, bitAt_setBit_same]
    · rw [State.intcTarget, State.settle_intc]
      exact State.raiseSource_pend _ hact
    · exact fun m hm => (State.app_settle _ m).trans ((State.raiseSource_app _ d 42 m).trans (State.appsElse_updApp s d _ m hm))
  case watchdog =>
    have hx : execAppWatchdogExpiry h s = _ := State.onDie_runs hh hp _
    have hframe := State.frame_appWatchdog (execAppWatchdogExpiry_rest (by decide) h s hx)
    simp only [State.when, hrun, hen, Bool.and_self, if_true] at hx hframe
    refine State.leads_of_exec hx ⟨State.semFailed_of_orphaned ?_, hframe⟩
    rw [State.app_settle]
    exact State.appReset_orphaned 3 hd ht hs

end Sys2Proof.Machine
end

section
/-! What holds of every command: each completes with the balls brought up to date, none changes the part, and none adds to the queue (R1, R286, R341). -/

namespace Sys2Proof.Machine
open Sys2Proof
set_option Elab.async false

/-! ### A state between two others -/

/-- The state `s` with the fields that the mask names taken from `t`. -/
def State.mix (fs : Nat) (s t : State) : State :=
  ⟨s.variant, pick fs 2 t.clock s.clock, pick fs 4 t.od s.od, pick fs 8 t.sessions s.sessions, pick fs 16 t.lockouts s.lockouts, pick fs 32 t.sidZero s.sidZero, pick fs 64 t.relays s.relays, pick fs 128 t.lockHolder s.lockHolder, pick fs 256 t.commit s.commit, pick fs 512 t.bankStore s.bankStore, pick fs 1024 t.sdo s.sdo, pick fs 2048 t.ev s.ev, pick fs 4096 t.power s.power, pick fs 8192 t.island s.island, pick fs 16384 t.safe s.safe, pick fs 32768 t.dies s.dies, pick fs 65536 t.queues s.queues, pick fs 131072 t.bp s.bp, pick fs 262144 t.policers s.policers, pick fs 524288 t.credits s.credits, pick fs 1048576 t.links s.links, pick fs 2097152 t.markers s.markers, pick fs 4194304 t.ports s.ports, pick fs 8388608 t.limiters s.limiters, pick fs 16777216 t.fresh64 s.fresh64, pick fs 33554432 t.txCounters s.txCounters, pick fs 67108864 t.mram s.mram, pick fs 134217728 t.lastGen s.lastGen, pick fs 268435456 t.sumac s.sumac, pick fs 536870912 t.intc s.intc, pick fs 1073741824 t.apps s.apps, pick fs 2147483648 t.tunnels s.tunnels, pick fs 4294967296 t.creditDue s.creditDue, pick fs 8589934592 t.samples s.samples, pick fs 17179869184 t.keys s.keys, pick fs 34359738368 t.fuses s.fuses, pick fs 68719476736 t.life s.life, pick fs 137438953472 t.measure s.measure, pick fs 274877906944 t.update s.update, pick fs 549755813888 t.jtag s.jtag, pick fs 1099511627776 t.nextFid s.nextFid, pick fs 2199023255552 t.pins s.pins, pick fs 4398046511104 t.fresh s.fresh, pick fs 8796093022208 t.out s.out, s.pending⟩

theorem pick_eq_of_pick_eq {α : Type} {fs b : Nat} {r x y : α} (h : pick fs b r x = pick fs b r y) : x = pick fs b x y := by
  unfold pick at *
  split
  · rfl
  · rename_i hb
    simpa only [hb, if_false] using h

/-- A state that equals another but for the fields of a mask is that other with those fields replaced: the frame of a statement in its own form. -/
theorem State.eq_mix {fs : Nat} {s t : State} (h : t.rest fs = s.rest fs) : t = s.mix fs t := by
  cases s
  cases t
  simp only [State.rest, State.mk.injEq] at h
  simp only [State.mix, State.mk.injEq]
  obtain ⟨h0, h1, h2, h3, h4, h5, h6, h7, h8, h9, h10, h11, h12, h13, h14, h15, h16, h17, h18, h19, h20, h21, h22, h23, h24, h25, h26, h27, h28, h29, h30, h31, h32, h33, h34, h35, h36, h37, h38, h39, h40, h41, h42, h43, h44⟩ := h
  exact ⟨h0, pick_eq_of_pick_eq h1, pick_eq_of_pick_eq h2, pick_eq_of_pick_eq h3, pick_eq_of_pick_eq h4, pick_eq_of_pick_eq h5, pick_eq_of_pick_eq h6, pick_eq_of_pick_eq h7, pick_eq_of_pick_eq h8, pick_eq_of_pick_eq h9, pick_eq_of_pick_eq h10, pick_eq_of_pick_eq h11, pick_eq_of_pick_eq h12, pick_eq_of_pick_eq h13, pick_eq_of_pick_eq h14, pick_eq_of_pick_eq h15, pick_eq_of_pick_eq h16, pick_eq_of_pick_eq h17, pick_eq_of_pick_eq h18, pick_eq_of_pick_eq h19, pick_eq_of_pick_eq h20, pick_eq_of_pick_eq h21, pick_eq_of_pick_eq h22, pick_eq_of_pick_eq h23, pick_eq_of_pick_eq h24, pick_eq_of_pick_eq h25, pick_eq_of_pick_eq h26, pick_eq_of_pick_eq h27, pick_eq_of_pick_eq h28, pick_eq_of_pick_eq h29, pick_eq_of_pick_eq h30, pick_eq_of_pick_eq h31, pick_eq_of_pick_eq h32, pick_eq_of_pick_eq h33, pick_eq_of_pick_eq h34, pick_eq_of_pick_eq h35, pick_eq_of_pick_eq h36, pick_eq_of_pick_eq h37, pick_eq_of_pick_eq h38, pick_eq_of_pick_eq h39, pick_eq_of_pick_eq h40, pick_eq_of_pick_eq h41, pick_eq_of_pick_eq h42, pick_eq_of_pick_eq h43, h44⟩

/-! ### Every command -/

/-- Each command completes, and ends with the balls brought up to date. -/
theorem exec_eq_done (c : Instr) (s : State) : ∃ x, exec c s = done x := by
  cases c with
  | supplyOutOfRange sup => cases sup <;> exact ⟨_, rfl⟩
  | _ => exact ⟨_, rfl⟩

/-- The next state of a command is a settled one. -/
theorem exec_settled {c : Instr} {s t : State} (h : exec c s = .next t) : ∃ x : State, t = x.settle := by
  obtain ⟨x, hx⟩ := exec_eq_done c s
  rw [hx] at h
  exact ⟨x, (Host.Outcome.next.inj h).symm⟩

/-- No command turns the part into another or adds to the queue; the mask names every other field. -/
theorem exec_rest {c : Instr} {s t : State} (h : exec c s = .next t) : t.rest 17592186044414 = s.rest 17592186044414 := by
  cases c with
  | supplyOutOfRange sup => exact execSupplyOutOfRange_rest (by decide) sup s h
  | suppliesInRange die => exact execSuppliesInRange_rest (by decide) die s h
  | switchDieSupplyTimeout die => exact execSwitchDieSupplyTimeout_rest (by decide) die s h
  | guardFirmwareVerified flash => exact execGuardFirmwareVerified_rest (by decide) flash s h
  | vcoreLow die => exact execVcoreLow_rest (by decide) die s h
  | vcoreRestored die => exact execVcoreRestored_rest (by decide) die s h
  | vcoreBelowReset die => exact execVcoreBelowReset_rest (by decide) die s h
  | bankClockFail die => exact execBankClockFail_rest (by decide) die s h
  | bankClockStable die => exact execBankClockStable_rest (by decide) die s h
  | healthReport die report => exact execHealthReport_rest (by decide) die report s h
  | controlLinkSilent die => exact execControlLinkSilent_rest (by decide) die s h
  | controlLinkReset die => exact execControlLinkReset_rest (by decide) die s h
  | stageStall die => exact execStageStall_rest (by decide) die s h
  | fabricCellReceive die e crcOk => exact execFabricCellReceive_rest (by decide) die e crcOk s h
  | keepAlive die e => exact execKeepAlive_rest (by decide) die e s h
  | linkEndFail die e => exact execLinkEndFail_rest (by decide) die e s h
  | linkEndRecover die e => exact execLinkEndRecover_rest (by decide) die e s h
  | pathMarkerAck src dst cls => exact execPathMarkerAck_rest (by decide) src dst cls s h
  | canFrameReceive slot frame => exact execCanFrameReceive_rest (by decide) slot frame s h
  | canProtocolException slot => exact execCanProtocolException_rest (by decide) slot s h
  | canBusIntegration slot => exact execCanBusIntegration_rest (by decide) slot s h
  | portDequeue die q => exact execPortDequeue_rest (by decide) die q s h
  | canTransmitComplete slot delay => exact execCanTransmitComplete_rest (by decide) slot delay s h
  | canArbitrationLost slot => exact execCanArbitrationLost_rest (by decide) slot s h
  | canTransmitError slot err => exact execCanTransmitError_rest (by decide) slot err s h
  | busOffRestartTimeout slot => exact execBusOffRestartTimeout_rest (by decide) slot s h
  | recoverySequenceComplete slot => exact execRecoverySequenceComplete_rest (by decide) slot s h
  | linHeader slot id syncOk readBackOk => exact execLinHeader_rest (by decide) slot id syncOk readBackOk s h
  | linResponseReceive slot id data check => exact execLinResponseReceive_rest (by decide) slot id data check s h
  | linNoResponse slot => exact execLinNoResponse_rest (by decide) slot s h
  | linScheduleSlot slot => exact execLinScheduleSlot_rest (by decide) slot s h
  | linBusStuck slot => exact execLinBusStuck_rest (by decide) slot s h
  | linBusRecover slot => exact execLinBusRecover_rest (by decide) slot s h
  | ethFrameReceive slot bytes fcsOk => exact execEthFrameReceive_rest (by decide) slot bytes fcsOk s h
  | ethTransmitComplete slot => exact execEthTransmitComplete_rest (by decide) slot s h
  | drainTimeout slot => exact execDrainTimeout_rest (by decide) slot s h
  | holdTimeExpiry slot => exact execHoldTimeExpiry_rest (by decide) slot s h
  | atomicCreditReturn group member cells => exact execAtomicCreditReturn_rest (by decide) group member cells s h
  | sgmiiControlWord slot up fullDuplex speed => exact execSgmiiControlWord_rest (by decide) slot up fullDuplex speed s h
  | linkLoss slot loss => exact execLinkLoss_rest (by decide) slot loss s h
  | linkDownDelayExpiry slot => exact execLinkDownDelayExpiry_rest (by decide) slot s h
  | linkUpDelayExpiry slot => exact execLinkUpDelayExpiry_rest (by decide) slot s h
  | pauseTimerExpiry slot cls => exact execPauseTimerExpiry_rest (by decide) slot cls s h
  | pauseWatchdogExpiry slot cls => exact execPauseWatchdogExpiry_rest (by decide) slot cls s h
  | pausePenaltyEnd slot cls => exact execPausePenaltyEnd_rest (by decide) slot cls s h
  | pauseRefresh slot cls => exact execPauseRefresh_rest (by decide) slot cls s h
  | configParityFault slot => exact execConfigParityFault_rest (by decide) slot s h
  | mdioC22Read sess slot => exact execMdioC22Read_rest (by decide) sess slot s h
  | mdioC22Write sess slot => exact execMdioC22Write_rest (by decide) sess slot s h
  | mdioC45Read sess slot => exact execMdioC45Read_rest (by decide) sess slot s h
  | mdioC45Write sess slot => exact execMdioC45Write_rest (by decide) sess slot s h
  | mdioOperationComplete die data answered => exact execMdioOperationComplete_rest (by decide) die data answered s h
  | wakePatternReport slot pattern => exact execWakePatternReport_rest (by decide) slot pattern s h
  | learnRequest die => exact execLearnRequest_rest (by decide) die s h
  | sweeperVisit die => exact execSweeperVisit_rest (by decide) die s h
  | tunnelEngineTake die engine => exact execTunnelEngineTake_rest (by decide) die engine s h
  | flushTimerExpiry row => exact execFlushTimerExpiry_rest (by decide) row s h
  | tunnelDecapsulate die => exact execTunnelDecapsulate_rest (by decide) die s h
  | resyncTimeout row => exact execResyncTimeout_rest (by decide) row s h
  | evidenceIntervalEnd limiter => exact execEvidenceIntervalEnd_rest (by decide) limiter s h
  | faultDetected cls die unit => exact execFaultDetected_rest (by decide) cls die unit s h
  | readmit sess die => exact execReadmit_rest (by decide) sess die s h
  | readmitImagesSent die ok => exact execReadmitImagesSent_rest (by decide) die ok s h
  | readmitSelfTestComplete die ok => exact execReadmitSelfTestComplete_rest (by decide) die ok s h
  | safeRelease sess value => exact execSafeRelease_rest (by decide) sess value s h
  | safeNRecoveryTimeout cls => exact execSafeNRecoveryTimeout_rest (by decide) cls s h
  | runtimePairRestartComplete die => exact execRuntimePairRestartComplete_rest (by decide) die s h
  | tableScrub die table err => exact execTableScrub_rest (by decide) die table err s h
  | tableHalfRewrite die table => exact execTableHalfRewrite_rest (by decide) die table s h
  | miConversion input microVolt => exact execMiConversion_rest (by decide) input microVolt s h
  | miGateEnd input => exact execMiGateEnd_rest (by decide) input s h
  | miDiagnosticSlot input microVolt => exact execMiDiagnosticSlot_rest (by decide) input microVolt s h
  | spdCountedEdge input highTicks => exact execSpdCountedEdge_rest (by decide) input highTicks s h
  | spdDecelerationUpdate input => exact execSpdDecelerationUpdate_rest (by decide) input s h
  | spdZeroTimeout input => exact execSpdZeroTimeout_rest (by decide) input s h
  | spdOpen input absent => exact execSpdOpen_rest (by decide) input absent s h
  | distanceReset sess input value => exact execDistanceReset_rest (by decide) sess input value s h
  | vbatpConversion microVolt => exact execVbatpConversion_rest (by decide) microVolt s h
  | wkLevelSample levels => exact execWkLevelSample_rest (by decide) levels s h
  | tapValueReceive die => exact execTapValueReceive_rest (by decide) die s h
  | tapIntervalEnd die row => exact execTapIntervalEnd_rest (by decide) die row s h
  | ruleTimerExpiry row => exact execRuleTimerExpiry_rest (by decide) row s h
  | evidenceRequest src => exact execEvidenceRequest_rest (by decide) src s h
  | coalesceTableSend src => exact execCoalesceTableSend_rest (by decide) src s h
  | sealSigned result => exact execSealSigned_rest (by decide) result s h
  | evNop word => exact execEvNop_rest (by decide) word s h
  | evRead n => exact execEvRead_rest (by decide) n s h
  | evClear mask => exact execEvClear_rest (by decide) mask s h
  | evFetchRecord seq => exact execEvFetchRecord_rest (by decide) seq s h
  | evFetchSeal number => exact execEvFetchSeal_rest (by decide) number s h
  | evReadFetch n => exact execEvReadFetch_rest (by decide) n s h
  | sealNowEntry sess value => exact execSealNowEntry_rest (by decide) sess value s h
  | journalAck sess seq => exact execJournalAck_rest (by decide) sess seq s h
  | gptpSyncStateChange change => exact execGptpSyncStateChange_rest (by decide) change s h
  | lifecycleRequest sess value => exact execLifecycleRequest_rest (by decide) sess value s h
  | lifecycleConfirm sess value => exact execLifecycleConfirm_rest (by decide) sess value s h
  | provisionBlob sess blob => exact execProvisionBlob_rest (by decide) sess blob s h
  | keyDerive sess => exact execKeyDerive_rest (by decide) sess s h
  | keyImport sess => exact execKeyImport_rest (by decide) sess s h
  | keyInvalidate sess => exact execKeyInvalidate_rest (by decide) sess s h
  | keyErase sess => exact execKeyErase_rest (by decide) sess s h
  | attestChallenge sess challenge => exact execAttestChallenge_rest (by decide) sess challenge s h
  | powerRequestListen sess => exact execPowerRequestListen_rest (by decide) sess s h
  | powerRequestStandby sess => exact execPowerRequestStandby_rest (by decide) sess s h
  | canWakeUpPattern slot => exact execCanWakeUpPattern_rest (by decide) slot s h
  | canDecoderFrame slot frame err => exact execCanDecoderFrame_rest (by decide) slot frame err s h
  | canRxdWake slot => exact execCanRxdWake_rest (by decide) slot s h
  | wkEdge input rising => exact execWkEdge_rest (by decide) input rising s h
  | tamperSample loop level => exact execTamperSample_rest (by decide) loop level s h
  | linWakePulse slot => exact execLinWakePulse_rest (by decide) slot s h
  | sysCtrlWrite die value => exact execSysCtrlWrite_rest (by decide) die value s h
  | sysWdtKick die value => exact execSysWdtKick_rest (by decide) die value s h
  | appWatchdogExpiry die => exact execAppWatchdogExpiry_rest (by decide) die s h
  | appRestart sess die value => exact execAppRestart_rest (by decide) sess die value s h
  | appRestartDelayExpiry die => exact execAppRestartDelayExpiry_rest (by decide) die s h
  | interruptSourceFire die source target => exact execInterruptSourceFire_rest (by decide) die source target s h
  | intcDoorbell die value => exact execIntcDoorbell_rest (by decide) die value s h
  | intcRdoorbell die sender value => exact execIntcRdoorbell_rest (by decide) die sender value s h
  | intcSetpend die word value => exact execIntcSetpend_rest (by decide) die word value s h
  | intcClaim die => exact execIntcClaim_rest (by decide) die s h
  | intcComplete die value => exact execIntcComplete_rest (by decide) die value s h
  | tmrCtrlWrite die timer value => exact execTmrCtrlWrite_rest (by decide) die timer value s h
  | timerExpiry die timer => exact execTimerExpiry_rest (by decide) die timer s h
  | tmrClaim die timer pair => exact execTmrClaim_rest (by decide) die timer pair s h
  | tmrRelease die timer pair => exact execTmrRelease_rest (by decide) die timer pair s h
  | pinClaim die pin pair => exact execPinClaim_rest (by decide) die pin pair s h
  | pinRelease die pin pair => exact execPinRelease_rest (by decide) die pin pair s h
  | pinsDoutWrite die pair value => exact execPinsDoutWrite_rest (by decide) die pair value s h
  | mbxRead die staged => exact execMbxRead_rest (by decide) die staged s h
  | mbxWrite die staged => exact execMbxWrite_rest (by decide) die staged s h
  | mailboxComplete die => exact execMailboxComplete_rest (by decide) die s h
  | bridgeWindowRead die window offset way => exact execBridgeWindowRead_rest (by decide) die window offset way s h
  | bridgePostedWrite die window offset value way => exact execBridgePostedWrite_rest (by decide) die window offset value way s h
  | bridgeFence die => exact execBridgeFence_rest (by decide) die s h
  | bridgePfclr die value => exact execBridgePfclr_rest (by decide) die value s h
  | bridgeSemRead die sem sender => exact execBridgeSemRead_rest (by decide) die sem sender s h
  | bridgeSemWrite die sem sender value => exact execBridgeSemWrite_rest (by decide) die sem sender value s h
  | bridgePostedFail die => exact execBridgePostedFail_rest (by decide) die s h
  | bridgeNackRetry die accepted => exact execBridgeNackRetry_rest (by decide) die accepted s h
  | bridgeResponseTimeout die => exact execBridgeResponseTimeout_rest (by decide) die s h
  | semaphoreFailureRelease die sem => exact execSemaphoreFailureRelease_rest (by decide) die sem s h
  | qpEnable die qp => exact execQpEnable_rest (by decide) die qp s h
  | qpDisable die qp => exact execQpDisable_rest (by decide) die qp s h
  | qpDisablingEnd die qp => exact execQpDisablingEnd_rest (by decide) die qp s h
  | qpRxadv die qp value => exact execQpRxadv_rest (by decide) die qp value s h
  | qpMark die qp => exact execQpMark_rest (by decide) die qp s h
  | qpRewind die qp => exact execQpRewind_rest (by decide) die qp s h
  | qpRelease die qp => exact execQpRelease_rest (by decide) die qp s h
  | qpTxpush die qp value => exact execQpTxpush_rest (by decide) die qp value s h
  | qpTxItemTake die => exact execQpTxItemTake_rest (by decide) die s h
  | qpRxItemWrite die => exact execQpRxItemWrite_rest (by decide) die s h
  | capRdcntWrite die value => exact execCapRdcntWrite_rest (by decide) die value s h
  | bitPlaneAliasWrite die addr value => exact execBitPlaneAliasWrite_rest (by decide) die addr value s h
  | lowWordRead die addr core => exact execLowWordRead_rest (by decide) die addr core s h
  | sysEccCorrRead die => exact execSysEccCorrRead_rest (by decide) die s h
  | qpTxerrRead die qp => exact execQpTxerrRead_rest (by decide) die qp s h
  | bridgeRetryRead die => exact execBridgeRetryRead_rest (by decide) die s h
  | registerWrite die addr value => exact execRegisterWrite_rest (by decide) die addr value s h
  | blockDisablingEnd die addr => exact execBlockDisablingEnd_rest (by decide) die addr s h
  | registerParityMismatch die addr => exact execRegisterParityMismatch_rest (by decide) die addr s h
  | updateDeltaWrite sess offset bytes => exact execUpdateDeltaWrite_rest (by decide) sess offset bytes s h
  | updateCheck sess => exact execUpdateCheck_rest (by decide) sess s h
  | updateApply sess => exact execUpdateApply_rest (by decide) sess s h
  | updateApplyComplete ok => exact execUpdateApplyComplete_rest (by decide) ok s h
  | updateStart sess => exact execUpdateStart_rest (by decide) sess s h
  | updateAbandon sess => exact execUpdateAbandon_rest (by decide) sess s h
  | updateReject sess => exact execUpdateReject_rest (by decide) sess s h
  | updateConfirm sess version => exact execUpdateConfirm_rest (by decide) sess version s h
  | commitValidate sess => exact execCommitValidate_rest (by decide) sess s h
  | commitStart sess => exact execCommitStart_rest (by decide) sess s h
  | commitDiscard sess => exact execCommitDiscard_rest (by decide) sess s h
  | restoreDefaults sess => exact execRestoreDefaults_rest (by decide) sess s h
  | discardLockHolder sess => exact execDiscardLockHolder_rest (by decide) sess s h
  | storeWriteComplete ok => exact execStoreWriteComplete_rest (by decide) ok s h
  | odEntryWrite sess index sub value => exact execOdEntryWrite_rest (by decide) sess index sub value s h
  | odRelayResponse sess => exact execOdRelayResponse_rest (by decide) sess s h
  | rowAction sess index value => exact execRowAction_rest (by decide) sess index value s h
  | counterClear sess index sub => exact execCounterClear_rest (by decide) sess index sub s h
  | canRecover sess slot value => exact execCanRecover_rest (by decide) sess slot value s h
  | clearBlock sess row => exact execClearBlock_rest (by decide) sess row s h
  | fdbFlush sess value => exact execFdbFlush_rest (by decide) sess value s h
  | rtcWrite sess value => exact execRtcWrite_rest (by decide) sess value s h
  | sdoDownloadInitiate slot msg => exact execSdoDownloadInitiate_rest (by decide) slot msg s h
  | sdoDownloadSegment slot msg => exact execSdoDownloadSegment_rest (by decide) slot msg s h
  | sdoBlockDownload slot msg => exact execSdoBlockDownload_rest (by decide) slot msg s h
  | sdoUploadInitiate slot msg => exact execSdoUploadInitiate_rest (by decide) slot msg s h
  | sdoUploadSegment slot msg => exact execSdoUploadSegment_rest (by decide) slot msg s h
  | sdoBlockUpload slot msg => exact execSdoBlockUpload_rest (by decide) slot msg s h
  | sdoRequestLevel sess level => exact execSdoRequestLevel_rest (by decide) sess level s h
  | sdoClientNonce sess nonce => exact execSdoClientNonce_rest (by decide) sess nonce s h
  | sdoProof sess proof => exact execSdoProof_rest (by decide) sess proof s h
  | sdoClose sess value => exact execSdoClose_rest (by decide) sess value s h
  | aniseRead m => exact execAniseRead_rest (by decide) m s h
  | aniseWrite m => exact execAniseWrite_rest (by decide) m s h
  | aniseOpen m => exact execAniseOpen_rest (by decide) m s h
  | aniseAuth m => exact execAniseAuth_rest (by decide) m s h
  | aniseClose m => exact execAniseClose_rest (by decide) m s h
  | aniseEcho m => exact execAniseEcho_rest (by decide) m s h
  | pendingSessionLapse row => exact execPendingSessionLapse_rest (by decide) row s h
  | sessionIdleTimeout sess => exact execSessionIdleTimeout_rest (by decide) sess s h
  | lockoutEnd ap => exact execLockoutEnd_rest (by decide) ap s h
  | jtagSamplePreload cells => exact execJtagSamplePreload_rest (by decide) cells s h
  | jtagExtest cells => exact execJtagExtest_rest (by decide) cells s h
  | linkUp lane => exact execLinkUp_rest (by decide) lane s h
  | canReceiveError slot err => exact execCanReceiveError_rest (by decide) slot err s h
  | miEdge input rising => exact execMiEdge_rest (by decide) input rising s h
  | miDebounceExpiry input => exact execMiDebounceExpiry_rest (by decide) input s h
  | gptpIntervalExpiry slot kind => exact execGptpIntervalExpiry_rest (by decide) slot kind s h
  | appImageReloaded die => exact execAppImageReloaded_rest (by decide) die s h
  | wakePulseEnd slot => exact execWakePulseEnd_rest (by decide) slot s h
  | powerOn => exact execPowerOn_rest (by decide) s h
  | resetNAssert => exact execResetNAssert_rest (by decide) s h
  | resetNRelease => exact execResetNRelease_rest (by decide) s h
  | vaonLoss => exact execVaonLoss_rest (by decide) s h
  | switchImagesLoaded => exact execSwitchImagesLoaded_rest (by decide) s h
  | tablesApplied => exact execTablesApplied_rest (by decide) s h
  | healthSummaryIntervalEnd => exact execHealthSummaryIntervalEnd_rest (by decide) s h
  | recomputationComplete => exact execRecomputationComplete_rest (by decide) s h
  | placementApply => exact execPlacementApply_rest (by decide) s h
  | supervisorWatchdogExpiry => exact execSupervisorWatchdogExpiry_rest (by decide) s h
  | supervisorRefreshTimeout => exact execSupervisorRefreshTimeout_rest (by decide) s h
  | securityCoreRestartComplete => exact execSecurityCoreRestartComplete_rest (by decide) s h
  | distanceStore => exact execDistanceStore_rest (by decide) s h
  | freshnessStore => exact execFreshnessStore_rest (by decide) s h
  | ruleEvaluation => exact execRuleEvaluation_rest (by decide) s h
  | recordAppend => exact execRecordAppend_rest (by decide) s h
  | lossRangeTimeout => exact execLossRangeTimeout_rest (by decide) s h
  | sealPeriodExpiry => exact execSealPeriodExpiry_rest (by decide) s h
  | sealSpacingEnd => exact execSealSpacingEnd_rest (by decide) s h
  | nextTreeReady => exact execNextTreeReady_rest (by decide) s h
  | activeTreeReady => exact execActiveTreeReady_rest (by decide) s h
  | evMark => exact execEvMark_rest (by decide) s h
  | evRewind => exact execEvRewind_rest (by decide) s h
  | evRelease => exact execEvRelease_rest (by decide) s h
  | evFetchComplete => exact execEvFetchComplete_rest (by decide) s h
  | evAckFetch => exact execEvAckFetch_rest (by decide) s h
  | evSealNow => exact execEvSealNow_rest (by decide) s h
  | evFill => exact execEvFill_rest (by decide) s h
  | serviceTimeout => exact execServiceTimeout_rest (by decide) s h
  | retiredPendingBurn => exact execRetiredPendingBurn_rest (by decide) s h
  | autoSleepCheck => exact execAutoSleepCheck_rest (by decide) s h
  | powerEntryPortsDisabled => exact execPowerEntryPortsDisabled_rest (by decide) s h
  | powerEntryComplete => exact execPowerEntryComplete_rest (by decide) s h
  | rtcAlarm => exact execRtcAlarm_rest (by decide) s h
  | rtcPeriod => exact execRtcPeriod_rest (by decide) s h
  | delayLineCalibration => exact execDelayLineCalibration_rest (by decide) s h
  | trialWindowEnd => exact execTrialWindowEnd_rest (by decide) s h
  | validationComplete => exact execValidationComplete_rest (by decide) s h
  | placementComplete => exact execPlacementComplete_rest (by decide) s h
  | applyInstant => exact execApplyInstant_rest (by decide) s h
  | commitDone => exact execCommitDone_rest (by decide) s h
  | sdoSegmentTimeout => exact execSdoSegmentTimeout_rest (by decide) s h
  | jtagBypass => exact execJtagBypass_rest (by decide) s h
  | jtagTestLogicReset => exact execJtagTestLogicReset_rest (by decide) s h
  | supervisorWatchdogRefresh => exact execSupervisorWatchdogRefresh_rest (by decide) s h

theorem exec_variant {c : Instr} {s t : State} (h : exec c s = .next t) : t.variant = s.variant := State.keep_variant (exec_rest h)

theorem exec_pending {c : Instr} {s t : State} (h : exec c s = .next t) : t.pending = s.pending := State.keep_pending (exec_rest h)

/-! ### A step -/

theorem step_of_cons {s : State} {c : Instr} {cs : List Instr} (h : s.pending = c :: cs) : step s = exec c { s with pending := cs } := by
  simp [step, h]

theorem step_of_nil {s : State} (h : s.pending = []) : step s = .next s.tick := by
  simp [step, h]

@[simp] theorem State.tick_pinsNow (s : State) : s.tick.pinsNow = s.pinsNow := rfl

/-- The balls follow the state across an idle tick, which changes nothing that they show. -/
theorem State.tick_pinsFollow {s : State} (h : s.pinsFollow) : s.tick.pinsFollow := h

theorem step_pinsFollow {s t : State} (hs : s.pinsFollow) (h : step s = .next t) : t.pinsFollow := by
  cases hp : s.pending with
  | nil =>
    rw [step_of_nil hp] at h
    cases h
    exact State.tick_pinsFollow hs
  | cons c cs =>
    rw [step_of_cons hp] at h
    obtain ⟨x, rfl⟩ := exec_settled h
    exact State.settle_pinsFollow x

/-! ### What the balls show -/

theorem State.inRun_iff (s : State) : s.inRun = true ↔ s.power.mode = .run ∨ s.power.mode = .entering := by
  simp [State.inRun]

theorem State.evPortOn_iff (s : State) : s.evPortOn = true ↔ s.cfg E.evidencePortEnable = 1 := by
  simp [State.evPortOn, State.cfgOn]

theorem State.unread_pos_iff (ev : Evidence) : 0 < ev.unread ↔ ev.readPos < ev.fifo.length := by
  simp [Evidence.unread]

theorem State.evDat_iff (s : State) : s.evDat = true ↔ (s.power.mode = .run ∨ s.power.mode = .entering) ∧ s.cfg E.evidencePortEnable = 1 ∧ s.ev.readPos < s.ev.fifo.length := by
  simp only [State.evDat, Bool.and_eq_true, decide_eq_true_eq, State.inRun_iff, State.evPortOn_iff, State.unread_pos_iff, and_assoc]

theorem State.evHi_iff (s : State) : s.evHi = true ↔ (s.power.mode = .run ∨ s.power.mode = .entering) ∧ s.cfg E.evidencePortEnable = 1 ∧ s.ev.hi = true := by
  simp only [State.evHi, Bool.and_eq_true, State.inRun_iff, State.evPortOn_iff, and_assoc]

theorem State.safeLow_iff (s : State) : s.safeLow = true ↔
    s.power.resetN = false ∨ s.safe.applied = false ∨ s.safe.driven = true ∨ (s.power.mode ≠ .run ∧ s.power.mode ≠ .entering) := by
  simp [State.safeLow, or_assoc]

/-! ### The statements -/

/-- Settles O1: `step` by the two cases of the queue. -/
theorem stepRunsFrontCommand : Obligations.StepRunsFrontCommand :=
  ⟨fun _ _ _ h => step_of_cons h, fun _ h => step_of_nil h⟩

/-- Settles O3: a command ends with `settle`, an idle tick changes nothing that the balls show, and balls that follow the state show its three signals. -/
theorem pinsFollowEveryStep : Obligations.PinsFollowEveryStep := by
  unfold Obligations.PinsFollowEveryStep
  intro s t hs h
  have ht : t.pinsFollow := step_pinsFollow hs h
  have hpins : t.pins = t.pinsNow := ht
  refine ⟨ht, ?dat, ?hi, ?low⟩ <;> rw [hpins]
  case dat => exact State.evDat_iff t
  case hi => exact State.evHi_iff t
  case low => exact State.safeLow_iff t

/-- Settles O4: a tick by its definition, a command by the fields that it leaves. -/
theorem stepKeepsPartAndQueue : Obligations.StepKeepsPartAndQueue := by
  unfold Obligations.StepKeepsPartAndQueue
  intro s t h
  cases hp : s.pending with
  | nil =>
    rw [step_of_nil hp] at h
    cases h
    exact ⟨hp, rfl⟩
  | cons c cs =>
    rw [step_of_cons hp] at h
    have hq : t.pending = cs := exec_pending h
    have hv := exec_variant h
    exact ⟨hq, hv⟩

end Sys2Proof.Machine
end

section
/-! What reset leaves (R62, R286, R393, Tables 14-3, 14-5 and 14-7). -/

namespace Sys2Proof.Machine
open Sys2Proof
set_option Elab.async false

theorem State.reset_app (d : Nat) : State.reset.app d = {} := rfl

theorem State.reset_intcTarget (d k : Nat) : State.reset.intcTarget d k = {} := rfl

theorem State.reset_pinsFollow : State.reset.pinsFollow := by
  unfold State.pinsFollow
  decide +kernel

/-- With nothing committed every entry reads its Default (R62). -/
theorem State.reset_cfgRow (e row : Nat) : State.reset.cfgRow e row = odDefault State.reset.variant e := rfl

theorem State.reset_capActive (d : Nat) : State.reset.capActive d = false := by
  have h : State.reset.cfgOn E.captureEnable = false := by decide +kernel
  simp [State.capActive, h]

theorem State.reset_txHold (d k : Nat) : State.reset.txHold d k = false := by
  have h : (State.reset.qp d k).txHeld = 0 := by
    show Qp.txHeld {} = 0
    decide
  simp [State.txHold, h]

theorem State.reset_captureSlots_ne_zero : State.reset.cfg E.captureSlots ≠ 0 := by
  decide +kernel

@[simp] theorem word32_zero (w : Nat) : word32 0 w = 0 := by
  rw [word32, bitsOf, Nat.zero_div, Nat.zero_mod]

theorem State.reset_dieTicks (d : Nat) : State.reset.dieTicks d = 0 := rfl

/-- The four positions of a queue pair at reset read 0, and so does any other number of one. -/
theorem getD_four_zeros (m : Nat) : ([0, 0, 0, 0] : List Nat)[m]?.getD 0 = 0 := by
  rcases m with _ | _ | _ | _ | m <;> rfl

/-- The registers with reset value 0 (Tables 14-3 to 14-7) read it: every stored field of a fresh pair is 0 or false. -/
theorem State.reset_regPeek_zero (d who k n m : Nat) : ∀ r ∈ [Reg.sysCtrl, .sysStatus, .eccCorr, .eccAddr, .intcStatus, .thresh, .rmsg m, .pend n, .active n, .lost n, .enable n,
    .prio n, .ticksLo, .ticksHi, .tmrCtrl n, .tmrStatus n, .tmrLoad n, .tmrCount n, .tmrOwn n, .mbxStatus, .mbxIndex, .mbxLen, .mbxData n, .brStatus, .pfsrc, .lastTag, .errStat,
    .errAddr, .retry, .semRel, .pfNext, .sem n, .pfAddr n, .pfInfo n, .qpStatus k, .qpCfg k 0, .qpCfg k 1, .qpCfg k 2, .qpCfg k 3, .qpPos k m, .txWr k, .txTaken k, .txErr k, .capCtrl,
    .capStatus, .capWr, .capRd, .dout, .pinCtrl n, .pinStatus n, .pinOwn n], State.reset.regPeek d 1 who r = 0 := by
  have hcap := State.reset_captureSlots_ne_zero.symm
  simp [getD_four_zeros, State.regPeek, State.reset_app, State.reset_intcTarget, State.reset_capActive, State.reset_txHold, State.reset_dieTicks, hcap, mget, mfind, flag, App.timer,
    App.pin, App.qp, State.timerCount, Bridge.core, Block.status, Qp.rxUnread, Qp.txFull, sub32]

/-- The registers with another reset value: SYS_ID names the die and the part, the others are constants (Tables 14-3 to 14-7). -/
theorem State.reset_regPeek (d who k : Nat) : State.reset.regPeek d 1 who .sysId = 0x81000041 + d * 4096 + State.reset.variant.nc * 256 ∧
    State.reset.regPeek d 1 who .wdtTimeout = 1000 ∧ State.reset.regPeek d 1 who .mbxCtrl = 1 ∧ State.reset.regPeek d 1 who .mbxRow = 0xFFFFFFFF ∧
    State.reset.regPeek d 1 who .brCtrl = 1 ∧ State.reset.regPeek d 1 who .intcCtrl = 0 ∧ State.reset.regPeek d 1 who (.qpCtrl k) = 0 ∧
    State.reset.regPeek d 1 who (.qpCfg k 4) = 0xFFFF0000 ∧ State.reset.regPeek d 1 who (.qpCfg k 5) = 0xFFFF0000 :=
  ⟨rfl, rfl, rfl, rfl, rfl, rfl, rfl, rfl, rfl⟩

/-- Settles O5: the fields of the reset state, and its registers by the two lemmas on them. -/
theorem resetLeaves : Obligations.ResetLeaves := by
  unfold Obligations.ResetLeaves
  refine ⟨State.reset_pinsFollow, rfl, rfl, rfl, rfl, fun _ => rfl, State.reset_cfgRow, fun d who k => ?_⟩
  obtain ⟨h1, h2, h3, h4, h5, h6, h7, h8, h9⟩ := State.reset_regPeek d who k
  exact ⟨h1, h2, h3, h4, h5, h6, h7, h8, h9, State.reset_regPeek_zero d who k, fun _ => rfl⟩

end Sys2Proof.Machine
end

section
/-! An answer that waits for the relay of an access point that the part lacks (R67, log 6). -/

namespace Sys2Proof.Machine
open Sys2Proof
set_option Elab.async false

/-- An AZ8108 with an answer for access point 12, the mailbox of a die 8 that it does not have. -/
def strayRelay : State := { State.reset with relays := [(12, [.doorbell 1 64])] }

/-- The stray answer leaves, as one of an access point of the part would. -/
theorem exec_odRelayResponse_strayRelay : exec (.odRelayResponse 12) strayRelay = .next (strayRelay.relayed 12).settle := rfl

theorem strayRelay_relayed_out : (strayRelay.relayed 12).out = [.doorbell 1 64] := rfl

/-- Refutes O2: OD_RELAY_RESPONSE and SESSION_IDLE_TIMEOUT do not ask whether the part has the access point, so at a state that lists an answer for an absent one the answer leaves. -/
theorem not_wellFormedCommandsComplete : ¬ Obligations.WellFormedCommandsComplete := by
  unfold Obligations.WellFormedCommandsComplete
  intro h
  obtain ⟨-, -, -, hsess⟩ := h strayRelay
  have hx : exec (.odRelayResponse 12) strayRelay = .next strayRelay.settle := hsess 12 0 0 [] rfl _ (by simp)
  rw [exec_odRelayResponse_strayRelay] at hx
  have hout := congrArg State.out (Host.Outcome.next.inj hx)
  rw [State.settle_out, State.settle_out, strayRelay_relayed_out] at hout
  exact List.cons_ne_nil _ _ hout

end Sys2Proof.Machine
end

section
/-! The Evidence port (R339 to R347): its command words, what a transaction of each leaves, and what a port that is off ignores. -/

namespace Sys2Proof.Machine
open Sys2Proof
set_option Elab.async false

/-! ### What leaves stays -/

/-- A fold of operations that add outputs adds outputs. -/
theorem State.forAll_out_suffix (l : List Nat) {f : State → Nat → State} (h : ∀ s n, s.out <:+ (f s n).out) (s : State) : s.out <:+ (s.forAll l f).out := by
  unfold State.forAll
  induction l generalizing s with
  | nil => exact List.suffix_refl _
  | cons n l ih => exact (h s n).trans (ih (f s n))

theorem State.raiseSource_out (s : State) (n src : Nat) : (s.raiseSource n src).out = s.out := State.keep_out (by simp)

theorem State.doorbell_out_suffix (s : State) (src : Nat) : s.out <:+ (s.doorbell src).out := by
  refine State.forAll_out_suffix _ (fun s n => ?_) s
  split
  · exact List.suffix_refl _
  · rw [State.emit_out, State.raiseSource_out]
    exact List.suffix_cons _ _

@[simp] theorem State.doorbell_ev (s : State) (src : Nat) : (s.doorbell src).ev = s.ev := State.keep_ev (by simp)

theorem State.fifoFlow_out_suffix (s : State) : s.out <:+ s.fifoFlow.out := by
  unfold State.fifoFlow
  repeat' split
  · exact State.doorbell_out_suffix (s.updEv _) 65
  all_goals exact List.suffix_refl _

/-- Of Saffron's record the flow of the FIFO writes the watermark state alone (R341). -/
theorem State.fifoFlow_ev (s : State) : s.fifoFlow.ev = { s.ev with hi := s.fifoFlow.ev.hi } := by
  unfold State.fifoFlow
  repeat' split
  all_goals simp

/-! ### Command words (R345, Table 11-6) -/

theorem evCmd_toNat {op : Nat} (h : op < 256) (arg : Nat) : (evCmd op arg).toNat = op * 2 ^ 24 + (255 - op) * 2 ^ 16 + arg % 65536 := by
  rw [evCmd, BitVec.toNat_ofNat]
  omega

theorem evCmd_opcode {op : Nat} (h : op < 256) (arg : Nat) : bitsOf (evCmd op arg).toNat 31 24 = op := by
  rw [evCmd_toNat h, bitsOf, Nat.add_assoc]
  have hr : (255 - op) * 2 ^ 16 + arg % 65536 < 2 ^ 24 := by omega
  rw [Nat.mul_comm, Nat.mul_add_div (by decide), Nat.div_eq_of_lt hr, Nat.add_zero]
  exact Nat.mod_eq_of_lt h

theorem evCmd_argument {op : Nat} (h : op < 256) (arg : Nat) : bitsOf (evCmd op arg).toNat 15 0 = arg % 65536 := by
  rw [evCmd_toNat h, bitsOf]
  omega

theorem evWordKnown_evCmd {op : Nat} (h1 : 1 ≤ op) (h12 : op ≤ 12) (arg : Nat) : evWordKnown (evCmd op arg) = true := by
  have hc : bitsOf (evCmd op arg).toNat 23 16 = 255 - op := by
    rw [evCmd_toNat (by omega), bitsOf]
    omega
  simp [evWordKnown, evCmd_opcode (show op < 256 by omega), hc, h1, h12]

theorem bitAt_mod_two_pow {k w : Nat} (h : k < w) (v : Nat) : bitAt (v % 2 ^ w) k = bitAt v k := by
  have := Nat.testBit_mod_two_pow v w k
  simp only [Nat.testBit_eq_decide_div_mod_eq, h, decide_true, Bool.true_and] at this
  simpa [bitAt, beq_eq_decide] using this

/-- CLEAR reads its four bits in the 16 bits that its word carries. -/
theorem Evidence.clear_mod (e : Evidence) (mask : Nat) : e.clear (mask % 65536) = e.clear mask := by
  simp only [Evidence.clear, show (65536 : Nat) = 2 ^ 16 from rfl, bitAt_mod_two_pow (show 0 < 16 by decide), bitAt_mod_two_pow (show 1 < 16 by decide),
    bitAt_mod_two_pow (show 2 < 16 by decide), bitAt_mod_two_pow (show 3 < 16 by decide)]

/-! ### Transactions of a port that is off -/

theorem State.evTransfer_off {s : State} {w : Word} (hw : evWordKnown w = true) (hoff : s.evPortOn = false) (args : List Word) (n : Nat) :
    s.evTransfer w args n = if s.inRun then s.emit (.evStatus s.evStatusWord []) else s := by
  unfold State.evTransfer
  cases s.inRun <;> simp [hw, hoff]

/-- Every command on the port but NOP is a transaction of a known word. -/
theorem exec_evidencePort {c : Instr} (h : c.evidencePort = true) (s : State) : ∃ w args n, evWordKnown w = true ∧ exec c s = done (s.evTransfer w args n) := by
  cases c <;> simp only [Instr.evidencePort, Bool.false_eq_true] at h
  all_goals exact ⟨_, _, _, evWordKnown_evCmd (by decide) (by decide) _, rfl⟩

/-- Settles O8: a known word on a port that is off is answered by STATUS and has no effect. -/
theorem evidencePortOffIgnores : Obligations.EvidencePortOffIgnores := by
  unfold Obligations.EvidencePortOffIgnores
  intro c s hc hoff
  obtain ⟨w, args, n, hw, hx⟩ := exec_evidencePort hc s
  rw [State.evTransfer_off hw hoff] at hx
  refine State.leads_of_exec hx ⟨?_, ?_⟩
  · rw [State.settle_out]
    split <;> rfl
  · rw [State.frame_settle]
    split <;> rfl

/-! ### Transactions of a port that is on -/

/-- What a transaction with effect `f` leaves: Saffron's record under `f` but for the watermark state, and the STATUS word with the data words. -/
theorem State.evCommand_ev (s : State) (ws : List Word) (f : Evidence → Evidence) : (s.evCommand ws f).ev = { f s.ev with hi := (s.evCommand ws f).ev.hi } :=
  State.fifoFlow_ev ((s.emit (.evStatus s.evStatusWord ws)).updEv f)

theorem State.evCommand_out_suffix (s : State) (ws : List Word) (f : Evidence → Evidence) : (Out.evStatus s.evStatusWord ws :: s.out) <:+ (s.evCommand ws f).out :=
  State.fifoFlow_out_suffix ((s.emit (.evStatus s.evStatusWord ws)).updEv f)

theorem State.leads_evCommand {s : State} {c : Instr} {ws : List Word} {f : Evidence → Evidence} (h : exec c s = done (s.evCommand ws f)) :
    s.leads c (fun t => t.ev = { f s.ev with hi := t.ev.hi } ∧ (Out.evStatus s.evStatusWord ws :: s.out) <:+ t.out ∧
      t = { s with ev := t.ev, safe := t.safe, dies := t.dies, intc := t.intc, pins := t.pins, out := t.out }) := by
  refine State.leads_of_exec h ⟨?_, ?_, State.eq_mix (fs := 10995653199872) (by simp)⟩
  · rw [State.settle_ev]
    exact State.evCommand_ev s ws f
  · rw [State.settle_out]
    exact State.evCommand_out_suffix s ws f

/-- A word alone that only has STATUS answered. -/
theorem State.leads_evStatus {s : State} {c : Instr} (h : exec c s = done (s.emit (.evStatus s.evStatusWord []))) :
    s.leads c (fun t => t.ev = s.ev ∧ (Out.evStatus s.evStatusWord [] :: s.out) <:+ t.out ∧ t = { s with safe := t.safe, pins := t.pins, out := t.out }) := by
  refine State.leads_of_exec h ⟨?_, ?_, ?_⟩
  · simp
  · simp
  · exact State.eq_mix (fs := 10995116294144) (by simp)

section
variable {s : State} (hrun : s.inRun = true) (hon : s.evPortOn = true)
include hrun hon

/-- A known word on a port that is on acts by its opcode (Table 11-6). -/
theorem State.evTransfer_on {w : Word} (hw : evWordKnown w = true) (args : List Word) (n : Nat) : s.evTransfer w args n =
    match bitsOf w.toNat 31 24, args with
    | 2, _ => s.evCommand (s.ev.readWords n) (fun e => { e with readPos := e.readPos + min n e.unread, underrun := e.underrun || decide (e.unread < n) })
    | 3, _ => s.evCommand [] Evidence.mark
    | 4, _ => s.evCommand [] Evidence.rewind
    | 5, _ => s.evCommand [] Evidence.release
    | 6, _ => s.evCommand [] (·.clear (bitsOf w.toNat 15 0))
    | 7, lo :: hi :: _ => s.evCommand [0, 0] (·.startFetch (.loadingRecord (lo.toNat + hi.toNat * 2 ^ 32)))
    | 8, k :: _ => s.evCommand [0] (·.startFetch (.loadingSeal k.toNat))
    | 9, _ =>
      let l := (s.ev.fetchBuf.drop s.ev.fetchPos).take n
      s.evCommand (l ++ List.replicate (n - l.length) 0) (fun e => { e with fetchPos := e.fetchPos + l.length })
    | 10, _ => s.evCommand [] Evidence.ackFetch
    | 11, _ => (s.evCommand [] id).trigger 2
    | 12, _ => s.evCommand ([BitVec.ofNat 32 (s.ev.held * 65536 + s.ev.unread)].take n) id
    | _, l => s.emit (.evStatus s.evStatusWord (l.map (fun _ => 0))) := by
  unfold State.evTransfer
  simp only [hrun, hon, hw, Bool.not_true, Bool.false_eq_true, if_false] <;> rfl

theorem exec_evRead (n : Nat) : exec (.evRead n) s =
    done (s.evCommand (s.ev.readWords n) (fun e => { e with readPos := e.readPos + min n e.unread, underrun := e.underrun || decide (e.unread < n) })) :=
  congrArg done ((State.evTransfer_on hrun hon (evWordKnown_evCmd (by decide) (by decide) n) [] n).trans (by simp only [evCmd_opcode (show 2 < 256 by decide)]))

theorem State.evTransfer_mark {w : Word} (hw : evWordKnown w = true) (h : bitsOf w.toNat 31 24 = 3) : s.evTransfer w [] 0 = s.evCommand [] Evidence.mark := by
  rw [State.evTransfer_on hrun hon hw]
  simp only [h]

theorem State.evTransfer_rewind {w : Word} (hw : evWordKnown w = true) (h : bitsOf w.toNat 31 24 = 4) : s.evTransfer w [] 0 = s.evCommand [] Evidence.rewind := by
  rw [State.evTransfer_on hrun hon hw]
  simp only [h]

theorem State.evTransfer_clear {w : Word} (hw : evWordKnown w = true) (h : bitsOf w.toNat 31 24 = 6) :
    s.evTransfer w [] 0 = s.evCommand [] (·.clear (bitsOf w.toNat 15 0)) := by
  rw [State.evTransfer_on hrun hon hw]
  simp only [h]

/-- Without data and argument words a known word acts by its opcode and its argument alone. -/
theorem State.evTransfer_congr {w v : Word} (hw : evWordKnown w = true) (hv : evWordKnown v = true) (hop : bitsOf v.toNat 31 24 = bitsOf w.toNat 31 24)
    (harg : bitsOf w.toNat 31 24 = 6 → bitsOf v.toNat 15 0 = bitsOf w.toNat 15 0) : s.evTransfer v [] 0 = s.evTransfer w [] 0 := by
  rw [State.evTransfer_on hrun hon hw, State.evTransfer_on hrun hon hv, hop]
  split <;> simp_all

/-- NOP, and a command whose argument words are missing, only have STATUS answered (R346). -/
theorem State.evTransfer_status {w : Word} (hw : evWordKnown w = true) (h : bitsOf w.toNat 31 24 = 1 ∨ bitsOf w.toNat 31 24 = 7 ∨ bitsOf w.toNat 31 24 = 8) :
    s.evTransfer w [] 0 = s.emit (.evStatus s.evStatusWord []) := by
  rw [State.evTransfer_on hrun hon hw]
  rcases h with h | h | h <;> simp only [h] <;> rfl

theorem exec_evMark : exec .evMark s = done (s.evCommand [] Evidence.mark) :=
  congrArg done (State.evTransfer_mark hrun hon (evWordKnown_evCmd (by decide) (by decide) 0) (evCmd_opcode (by decide) 0))

theorem exec_evRewind : exec .evRewind s = done (s.evCommand [] Evidence.rewind) :=
  congrArg done (State.evTransfer_rewind hrun hon (evWordKnown_evCmd (by decide) (by decide) 0) (evCmd_opcode (by decide) 0))

theorem exec_evClear (m : Nat) : exec (.evClear m) s = done (s.evCommand [] (·.clear m)) := by
  refine congrArg done ((State.evTransfer_clear hrun hon (evWordKnown_evCmd (by decide) (by decide) m) (evCmd_opcode (by decide) m)).trans ?_)
  simp only [evCmd_argument (show 6 < 256 by decide), Evidence.clear_mod]

theorem exec_evFill : exec .evFill s = done (s.evCommand [BitVec.ofNat 32 (s.ev.held * 65536 + s.ev.unread)] id) :=
  congrArg done ((State.evTransfer_on hrun hon (evWordKnown_evCmd (by decide) (by decide) 0) [] 1).trans (by simp only [evCmd_opcode (show 12 < 256 by decide)]; rfl))

omit hon in
/-- A word whose complement does not match or whose opcode is unknown (R345). -/
theorem State.evTransfer_unknown {w : Word} (hw : evWordKnown w = false) (hon : s.evPortOn = true) :
    s.evTransfer w [] 0 = (s.emit (.evStatus s.evStatusWord [])).updEv (fun e => { e with cmdErr := true }) := by
  simp [State.evTransfer, hrun, hw, hon, State.when]

end

/-- The opcode of a command whose transaction is its word alone, and the argument that the word carries (Table 11-6). -/
theorem exec_evWord {s : State} {c : Nat × Instr} {arg : Nat}
    (hc : c ∈ [(3, Instr.evMark), (4, .evRewind), (5, .evRelease), (6, .evClear arg), (10, .evAckFetch), (11, .evSealNow)]) :
    1 ≤ c.1 ∧ c.1 ≤ 12 ∧ exec c.2 s = done (s.evTransfer (evCmd c.1 (if c.1 = 6 then arg else 0)) [] 0) := by
  simp only [List.mem_cons, List.not_mem_nil, or_false] at hc
  rcases hc with rfl | rfl | rfl | rfl | rfl | rfl <;> exact ⟨by simp, by simp, rfl⟩

/-- Settles O6: each command is its transaction, and a transaction changes what its effect on the record says and the watermark state. -/
theorem evidencePortStream : Obligations.EvidencePortStream := by
  unfold Obligations.EvidencePortStream
  intro s hrun hon
  refine ⟨fun n => State.leads_evCommand (exec_evRead hrun hon n), State.leads_evCommand (exec_evMark hrun hon), State.leads_evCommand (exec_evRewind hrun hon),
    fun m => State.leads_evCommand (exec_evClear hrun hon m), State.leads_evCommand (exec_evFill hrun hon), fun w hw => ?nop, fun w hw c hc hop => ?alone,
    fun w hw hop => State.leads_evStatus (congrArg done (State.evTransfer_status hrun hon hw (.inr hop)))⟩
  case nop =>
    cases hk : evWordKnown w with
    | false =>
      have hx : exec (.evNop w) s = done _ := congrArg done (State.evTransfer_unknown hrun hk hon)
      exact State.leads_of_exec hx ⟨by simp, by simp, State.eq_mix (fs := 10995116296192) (by simp)⟩
    | true =>
      have hop : bitsOf w.toNat 31 24 = 1 := hw.resolve_left (by simp [hk])
      obtain ⟨t, hx, hev, hout, hframe⟩ := State.leads_evStatus (c := .evNop w) (congrArg done (State.evTransfer_status hrun hon hk (.inl hop)))
      refine ⟨t, hx, by simp [hev], hout, hframe.trans (by rw [hev])⟩
  case alone =>
    obtain ⟨h1, h12, hx⟩ := exec_evWord (s := s) hc
    rw [hx]
    refine (congrArg done (State.evTransfer_congr hrun hon (evWordKnown_evCmd h1 h12 _) hw (hop.trans (evCmd_opcode (by omega) _).symm) fun h6 => ?_))
    rw [evCmd_opcode (by omega)] at h6
    rw [evCmd_argument (by omega), if_pos h6, bitsOf]
    omega

end Sys2Proof.Machine
end

section
/-! Commands of the Evidence port and of Saffron at the edges of their statements: a sequence beyond the 64 bits that its argument words carry (R344), a request detected
before this start's START record (R326), and a frozen seal that a transition waits for (R359). -/

namespace Sys2Proof.Machine
open Sys2Proof
set_option Elab.async false

/-- A command has one outcome: what it is said to lead to holds of the state that it leaves. -/
theorem State.of_leads {s t : State} {c : Instr} {P : State → Prop} (hx : exec c s = .next t) (h : s.leads c P) : P t := by
  obtain ⟨u, hu, hP⟩ := h
  rw [hx] at hu
  cases hu
  exact hP

/-! ### FETCH_RECORD -/

/-- A device in RUN with the Evidence port on. -/
def evPortState : State := { State.reset with power := { State.reset.power with mode := .run } }.setCfg E.evidencePortEnable 1

theorem exec_evFetchRecord {s : State} (hrun : s.inRun = true) (hon : s.evPortOn = true) (n : Nat) : exec (.evFetchRecord n) s =
    done (s.evCommand [0, 0] (·.startFetch (.loadingRecord ((BitVec.ofNat 32 n).toNat + (BitVec.ofNat 32 (n / 2 ^ 32)).toNat * 2 ^ 32)))) :=
  congrArg done ((State.evTransfer_on hrun hon (evWordKnown_evCmd (by decide) (by decide) 0) _ 0).trans (by simp only [evCmd_opcode (show 7 < 256 by decide)]))

/-- Refutes O7: the sequence travels in two argument words of 32 bits, so a FETCH_RECORD of 2^64 loads record 0. -/
theorem not_evidencePortItems : ¬ Obligations.EvidencePortItems := by
  unfold Obligations.EvidencePortItems
  intro h
  have hrun : evPortState.inRun = true := by decide +kernel
  have hon : evPortState.evPortOn = true := by decide +kernel
  obtain ⟨-, hfetch, -⟩ := h evPortState hrun hon
  have hev := (State.of_leads (exec_evFetchRecord hrun hon (2 ^ 64)) (hfetch (2 ^ 64))).1
  have hload := congrArg Evidence.fetch hev
  rw [State.settle_ev, State.evCommand_ev] at hload
  exact absurd (Fetch.loadingRecord.inj hload) (by decide)

/-! ### RECORD_APPEND -/

/-- A request of D0 detected while Saffron did not run. -/
def lateRequest : EvReq := ⟨0x06, 0, 0, 0, 0, true, false, false, 1, []⟩

/-- Saffron runs without a START record of this start, with that request at the front of its queue. -/
def lateRequestState : State := { State.reset with ev := { State.reset.ev with running := true, queue := [lateRequest] } }

/-- The request waits for the START record (R326). -/
theorem exec_recordAppend_late : exec .recordAppend lateRequestState =
    done (lateRequestState.updEv (fun e => { e with queue := [], waiting := [lateRequest] })) := rfl

/-- Refutes O9: a request detected while Saffron did not run does not become a record while this start has had no START record. -/
theorem not_recordsExtendChain : ¬ Obligations.RecordsExtendChain := by
  unfold Obligations.RecordsExtendChain
  intro h
  obtain ⟨happend, -⟩ := h lateRequestState rfl (fun j hj => absurd hj (by simp [lateRequestState, State.reset, mfind]))
  have hseq := (State.of_leads exec_recordAppend_late (happend lateRequest [] rfl rfl)).1
  rw [State.settle_ev] at hseq
  exact absurd hseq (by decide)

/-! ### SEAL_SIGNED -/

/-- Saffron signs a seal of the period, and a transition to PROVISIONED waits for it. -/
def transitionSeal : SealJob := { life := true, trigger := 0, flags := 0, lastSeq := 0, floor := 0, time := 0, rtc := 0, loss := 0, chain := 0, retried := false }

def transitionSealState : State :=
  { State.reset with ev := { State.reset.ev with running := true, activeTree := true, job := some transitionSeal }, life := { State.reset.life with change := some ⟨1, 0, 0⟩ } }

/-- A transition burns its fuses (R359, step 2), and no later step of it touches them. -/
theorem State.lifeGo_fuses (s : State) (dst ap level : Nat) : (s.lifeGo dst ap level).fuses = s.fuses.transition s.life.state dst := by
  unfold State.lifeGo
  refine State.keep_fuses (s := ({ s with
    fuses := s.fuses.transition s.life.state dst
    life := s.life.enter dst ((s.fuses.transition s.life.state dst).agreeing dst) s.clock.xrtc (60 * s.cfg E.lifecycleServiceTimeout) } : State)) ?_
  simp

/-- What waits for the issued seal is a transition: it goes on. -/
theorem State.afterSeal_of_life {s : State} {j : SealJob} {c : LifeChange} (hj : j.life = true) (hs : j.standby = false) (hc : s.life.change = some c) :
    s.afterSeal j = s.lifeGo c.target c.ap c.level := by
  simp [State.afterSeal, State.when, hj, hs, hc, State.lifeSealed]

/-- The seal ends the wait: the transition's fuses are burnt (R359). -/
theorem transitionSealState_fuses : (transitionSealState.sealSign .stored).fuses = transitionSealState.fuses.transition 0 1 := by
  have hlife : (transitionSealState.sealIssued transitionSeal).life = transitionSealState.life := State.keep_life (by simp)
  have hfuses : (transitionSealState.sealIssued transitionSeal).fuses = transitionSealState.fuses := State.keep_fuses (by simp)
  have hgo : (transitionSealState.sealIssued transitionSeal).afterSeal transitionSeal = _ := State.afterSeal_of_life rfl rfl (by rw [hlife]; rfl)
  show (State.sealTry (State.afterSeal _ transitionSeal)).fuses = _
  rw [hgo, State.keep_fuses (State.sealTry_rest (by decide) _), State.lifeGo_fuses, hlife, hfuses]
  rfl

/-- Refutes O10: a frozen seal of any trigger that is marked as a transition's lets the transition go on, which burns fuses. -/
theorem not_sealsFollowTriggers : ¬ Obligations.SealsFollowTriggers := by
  unfold Obligations.SealsFollowTriggers
  intro h
  obtain ⟨-, -, -, -, -, -, hsigned⟩ := h transitionSealState rfl
  have hx : exec (.sealSigned .stored) transitionSealState = .next (transitionSealState.sealSign .stored).settle := rfl
  obtain ⟨-, -, -, -, -, -, -, -, hframe⟩ := State.of_leads hx (hsigned transitionSeal rfl rfl (by decide) rfl)
  have hkept : (transitionSealState.sealSign .stored).settle.fuses = transitionSealState.fuses := by
    rw [hframe]
  rw [State.settle_fuses, transitionSealState_fuses] at hkept
  exact absurd hkept (by decide)

end Sys2Proof.Machine
end

section
/-! Evidence requests on their way to Saffron (R116, R324, R325). -/

namespace Sys2Proof.Machine
open Sys2Proof
set_option Elab.async false

@[simp] theorem State.die_settle (s : State) (n : Nat) : s.settle.die n = s.die n := by simp [State.die]

@[simp] theorem State.limiter_settle (s : State) (k : Nat) : s.settle.limiter k = s.limiter k := by simp [State.limiter]

/-- The request at the front of a lane that reaches a running Saffron with room enters its queue (R324). -/
theorem State.takeRequest_of_room {s : State} {n : Nat} {r : EvReq} {rest : List Lane2} (hl : (s.die n).lane2 = .ev r :: rest) (hlink : s.linkTo n = true)
    (hrun : s.ev.running = true) (hq : s.ev.queue.length < 256) :
    s.takeRequest n = (s.updDie n (fun d => { d with lane2 := rest })).updEv (fun e => { e with queue := e.queue ++ [s.received r] }) := by
  simp [State.takeRequest, hl, hlink, hrun, hq]

/-- With room for every entry and nothing overflowed a table sends all that it holds (R325). -/
theorem Coalesce.send_of_room {c : Coalesce} {room : Nat} (ho : c.overflow = 0) (hr : c.entries.length ≤ room) (last : EvReq) : c.send last room = (c.entries, {}) := by
  simp [Coalesce.send, ho, hr]

theorem State.sendTable_guard {s : State} (ho : s.ev.coal.overflow = 0) (hr : s.ev.coal.entries.length + s.ev.queue.length ≤ 256) :
    s.sendTable 0 = s.updEv (fun e => { e with queue := e.queue ++ s.ev.coal.entries, coal := {} }) := by
  simp only [State.sendTable, beq_self_eq_true, if_true, Coalesce.send_of_room ho (show _ ≤ 256 - s.ev.queue.length by omega)]

theorem State.sendTable_die {s : State} {n : Nat} (hn : n ≠ 0) (ho : (s.die n).coal.overflow = 0)
    (hr : (s.die n).coal.entries.length + (s.die n).lane2.length ≤ Config.laneCapacity) :
    s.sendTable n = s.updDie n (fun d => { d with lane2 := d.lane2 ++ (s.die n).coal.entries.map .ev, coal := {} }) := by
  simp only [State.sendTable, beq_iff_eq, hn, if_false, Coalesce.send_of_room ho (show _ ≤ Config.laneCapacity - (s.die n).lane2.length by omega)]

/-- An interval that ends with no event outstanding leaves its limiter quiet (R116). -/
theorem State.intervalEnd_quiet {s : State} {k : Nat} (hr : (s.limiter k).running = true) (hf : (s.limiter k).first = none) : s.intervalEnd k = s.setLimiter k {} := by
  simp [State.intervalEnd, Limiter.summary, hr, hf]

/-- Without a "last" field of its own the summary is the first event with the count (Table 11-2). -/
theorem Limiter.summary_of_first {l : Limiter} {r : EvReq} (hf : l.first = some r) (ht : r.type ≠ 0x08) :
    l.summary = some { r with count := min 65535 l.outstanding } := by
  simp [Limiter.summary, hf, ht]

/-- A die with an idle table and room in its lane puts a request there (R325). -/
theorem State.requestDie_of_room {s : State} {n : Nat} (hi : (s.die n).coal.idle = true) (hr : s.laneRoom n = true) (r : EvReq) :
    s.requestDie n r = s.updDie n (fun d => { d with lane2 := d.lane2 ++ [.ev r] }) := by
  simp [State.requestDie, hi, hr]

/-- An interval that ends with events outstanding puts their summary in the lane and runs on (R116). -/
theorem State.intervalEnd_outstanding {s : State} {k : Nat} {r : EvReq} (hr : (s.limiter k).running = true) (hf : (s.limiter k).first = some r) (ht : r.type ≠ 0x08)
    (hi : (s.die (s.limiterDie k)).coal.idle = true) (hroom : s.laneRoom (s.limiterDie k) = true) :
    s.intervalEnd k = ((s.setLimiter k { running := true }).updDie (s.limiterDie k) (fun d =>
      { d with lane2 := d.lane2 ++ [.ev { r with count := min 65535 (s.limiter k).outstanding }] })).updDie (s.limiterDie k) (fun d =>
      { d with coal := { d.coal with overflow := d.coal.overflow + ((s.limiter k).outstanding - 65535) } }) := by
  have hreq := State.requestDie_of_room (s := s.setLimiter k { running := true }) (n := s.limiterDie k) hi hroom
  simp only [State.intervalEnd, hr, Limiter.summary_of_first hf ht, hreq]

/-- Settles O11: each command is the operation of its lemma, in the frame that the operation's mask gives. -/
theorem requestsReachTheQueue : Obligations.RequestsReachTheQueue := by
  unfold Obligations.RequestsReachTheQueue
  intro s
  refine ⟨fun n r rest hn hl hlink hrun hq => ?request, fun ho hr => ?guardTable, fun n h0 hn ho hr => ?dieTable, fun k hr hf => ?quiet, fun k r hr hf ht hi hroom => ?summary⟩
  case request =>
    have hx : exec (.evidenceRequest n) s = .next (s.takeRequest n).settle := doneIf_present (by simp [hn])
    rw [State.takeRequest_of_room hl hlink hrun hq] at hx
    exact State.leads_of_exec hx ⟨by simp, by simp [State.die, State.updDie, State.setDieState, State.updEv], State.eq_mix (fs := 2199023306752) (by simp)⟩
  case guardTable =>
    have hx : exec (.coalesceTableSend 0) s = .next (s.sendTable 0).settle := doneIf_present (by simp)
    rw [State.sendTable_guard ho hr] at hx
    exact State.leads_of_exec hx ⟨by simp, by simp, State.eq_mix (fs := 2199023306752) (by simp)⟩
  case dieTable =>
    have hx : exec (.coalesceTableSend n) s = .next (s.sendTable n).settle := doneIf_present (by simp [hn])
    rw [State.sendTable_die h0 ho hr] at hx
    exact State.leads_of_exec hx ⟨by simp, by simp, State.eq_mix (fs := 2199023306752) (by simp)⟩
  case quiet =>
    have hx : exec (.evidenceIntervalEnd k) s = .next (s.intervalEnd k).settle := rfl
    rw [State.intervalEnd_quiet hr hf] at hx
    exact State.leads_of_exec hx ⟨by simp, State.eq_mix (fs := 2199031693312) (by simp)⟩
  case summary =>
    have hx : exec (.evidenceIntervalEnd k) s = .next (s.intervalEnd k).settle := rfl
    rw [State.intervalEnd_outstanding hr hf ht hi hroom] at hx
    refine State.leads_of_exec hx ⟨?_, ?_, State.eq_mix (fs := 2199031693312) (by simp)⟩
    · rw [State.limiter_settle]
      exact State.limiter_setLimiter s k { running := true }
    · simp only [State.die_settle, State.die_updDie]
      rfl

end Sys2Proof.Machine
end

section
/-! Conditions that degrade a die, at a die whose cause outlived its condition (R276). -/

namespace Sys2Proof.Machine
open Sys2Proof
set_option Elab.async false

/-- A running die 1 that holds the cause of low VCORE without the condition. -/
def staleCauseState : State :=
  { State.reset with power := { State.reset.power with mode := .run }, dies := mset {} State.reset.dies 1 { image := true, inReset := false, supplied := true, runtimeUp := true, causes := [0x0C], state := 2 } }

/-- The restored supply of a die whose VCORE was not low has no effect. -/
theorem exec_vcoreRestored_staleCauseState : exec (.vcoreRestored 1) staleCauseState = .next staleCauseState.settle := rfl

/-- Refutes O20: VCORE_RESTORED drops the cause 0x0C only where the condition is in force, and nothing in the statement excludes a cause without its condition. -/
theorem not_degradingConditions : ¬ Obligations.DegradingConditions := by
  unfold Obligations.DegradingConditions
  intro h
  obtain ⟨-, hrestored, -⟩ := h staleCauseState 1 (by decide) (by decide) (by decide +kernel)
  have hcause := (State.of_leads exec_vcoreRestored_staleCauseState hrestored).2.1
  rw [State.die_settle] at hcause
  exact hcause (by decide)

end Sys2Proof.Machine
end

section
/-! A crossing copy whose class points into the queue that it is meant for (R35): a link end's list may name any number as a class. -/

namespace Sys2Proof.Machine
open Sys2Proof
set_option Elab.async false

/-- A copy for the LIN port of slot 40, on die 2, that is being sent. -/
def strayCopy : Copy := { frame := { fmt := .lin }, ingress := 0, target := 2, dests := [40], sending := true }

/-- An AZ8104 whose die 1 sends die 2 a copy of "class" 128: its row, 192 + 128, is the one of slot 40 and class 0 on die 2, where the copy stands. -/
def strayClassState : State :=
  { State.reset with
    variant := .az8104
    power := { State.reset.power with mode := .run }
    dies := mset {} State.reset.dies 2 { image := true, inReset := false, supplied := true, runtimeUp := true, state := 1 }
    links := mset {} State.reset.links (linkKey 1 0) { inFlight := [(128, none, 0)] }
    queues := mset [] State.reset.queues (queueRow 2 8 0) [strayCopy] }.setPortState 40 2

theorem strayClassState_row : queueRow 1 (24 + 0) 128 = queueRow 2 (slotLocal 40) strayCopy.cls := rfl

theorem strayClassState_portRefuses : strayClassState.portRefuses 40 strayCopy.frame = false := by decide +kernel

theorem strayClassState_room : strayClassState.qU (queueRow 2 (slotLocal 40) strayCopy.cls) + strayCopy.cells ≤ strayClassState.guarantee (queueRow 2 (slotLocal 40) strayCopy.cls) := by
  decide +kernel

/-- Refutes O21: with the source's row that of the destination, the copy cannot both stand behind the row's copies and leave them. -/
theorem not_fabricLinksCarryCells : ¬ Obligations.FabricLinksCarryCells := by
  unfold Obligations.FabricLinksCarryCells
  intro h
  obtain ⟨hcell, -⟩ := h strayClassState (by decide)
  obtain ⟨-, -, hdeliver, -⟩ := hcell 2 1 1 0 (by decide) (by decide) (by decide +kernel) (by decide +kernel) (by decide +kernel)
  obtain ⟨t, -, hqueue, -, hsource, -⟩ := hdeliver (128, none, 0) strayCopy 40 (by decide +kernel) (by decide +kernel) (by decide) rfl rfl rfl rfl (by decide) (by decide) rfl rfl
    (by decide +kernel) strayClassState_portRefuses (by decide +kernel) rfl (by decide +kernel) (by decide +kernel) (by decide +kernel) (by decide +kernel) (by decide +kernel) strayClassState_room
  have hlength := congrArg List.length ((hsource rfl).symm.trans (strayClassState_row ▸ hqueue))
  have hle := (List.eraseP_sublist (p := fun cp : Copy => cp.sending) (l := strayClassState.queue (queueRow 1 (24 + 0) 128))).length_le
  rw [hlength, List.length_append, strayClassState_row] at hle
  exact absurd hle (by simp)

end Sys2Proof.Machine
end

section
/-! A sampled CAN frame whose sample is mirrored (R236): the mirror copy is a frame of its own. -/

namespace Sys2Proof.Machine
open Sys2Proof
set_option Elab.async false

/-- Port 0 receives, and its receive samples are mirrored to port 1, which refuses them. -/
def mirroredPortState : State :=
  ((((((({ State.reset with
    power := { State.reset.power with mode := .run }
    dies := mset {} State.reset.dies 1 { image := true, inReset := false, supplied := true, runtimeUp := true, state := 1 } }.setPortState 0 2).setCfg E.portCanMode 1).setCfg E.portSecIdGuardMode 0).setCfg
    E.captureEnable 1).setCfgRow E.sampleValid 0 1).setCfgRow E.sampleN 0 1).setCfgRow E.sampleMirror 0 1).setCfg E.captureMirrorSlot 1

/-- A Classical CAN frame that no CMAC profile claims. -/
def plainFrame : Frame := { fmt := .cc, id := 1 }

theorem mirroredPortState_verifyFrame : (mirroredPortState.countSlot E.portCanCntRxFrames 0).verifyFrame 0 plainFrame =
    (mirroredPortState.countSlot E.portCanCntRxFrames 0, some ⟨plainFrame, 0, 0⟩) := by
  have hprofile : (mirroredPortState.countSlot E.portCanCntRxFrames 0).profileOf 0 plainFrame = none := by decide +kernel
  rw [State.verifyFrame, hprofile]
  rfl

/-- The frame takes a number, and so does its mirror copy. -/
theorem mirroredPortState_nextFid : ((mirroredPortState.canReceive 0 plainFrame).rxOver 0).nextFid = 3 := by decide +kernel

/-- Refutes O24: where the port's samples are mirrored, a received frame takes two numbers. -/
theorem not_canReception : ¬ Obligations.CanReception := by
  unfold Obligations.CanReception
  intro h
  obtain ⟨-, hpass, -⟩ := h mirroredPortState 0 (by decide) (by decide) (by decide +kernel)
  obtain ⟨hgo, -⟩ := hpass plainFrame _ _ rfl (by decide +kernel) (by decide +kernel) (by decide +kernel) mirroredPortState_verifyFrame (by decide +kernel)
  have hx : exec (.canFrameReceive 0 plainFrame) mirroredPortState = .next ((mirroredPortState.canReceive 0 plainFrame).rxOver 0).settle := rfl
  have hfid := (State.of_leads hx (hgo (by decide +kernel))).1
  rw [State.settle_nextFid, mirroredPortState_nextFid] at hfid
  exact absurd hfid (by decide)

end Sys2Proof.Machine
end

section
/-! The turn of PRC0 at a queue whose head is marked as being sent (R227): the discard of aged copies passes it over. -/

namespace Sys2Proof.Machine
open Sys2Proof
set_option Elab.async false

@[simp] theorem State.queue_settle (s : State) (row : Nat) : s.settle.queue row = s.queue row := by simp [State.queue]

/-- A fresh copy that is marked as being sent, and one that is older than its class's limit. -/
def freshCopy : Copy := { frame := { fmt := .eth }, ingress := 0, sending := true, ts := 2000000 }
def agedCopy : Copy := { frame := { fmt := .eth }, ingress := 0 }

/-- Die 1 runs and holds both at PRC0, with a residence limit of 1 ms. -/
def agedQueueState : State :=
  { State.reset with
    power := { State.reset.power with mode := .run }
    clock := { State.reset.clock with gptpBase := 2000000 }
    dies := mset {} State.reset.dies 1 { image := true, inReset := false, supplied := true, runtimeUp := true, state := 1 }
    queues := mset [] State.reset.queues (queueRow 1 22 0) [freshCopy, agedCopy] }.setCfg E.classResidenceLimit 1

theorem agedQueueState_aged : agedQueueState.aged freshCopy = false := by decide +kernel

theorem agedQueueState_others : ∀ j, j < 8 → 0 < j → agedQueueState.queue (queueRow 1 22 j) = [] := by decide +kernel

/-- The pair takes the first copy, and the second one was discarded before. -/
theorem agedQueueState_dequeue : (agedQueueState.dequeue 1 22).queue (queueRow 1 22 0) = [] := by decide +kernel

/-- Refutes O27: an aged copy behind a head that is marked as being sent is discarded, so the queue does not keep all that stood behind the head. -/
theorem not_portTurnsTakeTheHead : ¬ Obligations.PortTurnsTakeTheHead := by
  unfold Obligations.PortTurnsTakeTheHead
  intro h
  obtain ⟨-, -, -, -, hruntime, -⟩ := h agedQueueState 1 22 (by decide) (by decide +kernel) (by decide)
  have hx : exec (.portDequeue 1 22) agedQueueState = .next (agedQueueState.dequeue 1 22).settle := rfl
  have hqueue := (State.of_leads hx (hruntime 0 freshCopy [agedCopy] rfl (by decide +kernel) (by decide) (by decide +kernel) agedQueueState_others agedQueueState_aged rfl
    (by decide +kernel) (by decide +kernel) (by decide +kernel))).1
  rw [State.queue_settle, agedQueueState_dequeue] at hqueue
  exact List.cons_ne_nil _ _ hqueue.symm

end Sys2Proof.Machine
end

section
/-! A commander's own header on a LIN port that drains (R127, R131): the drain ends with the frame. -/

namespace Sys2Proof.Machine
open Sys2Proof
set_option Elab.async false

/-- A buffered response. -/
def bufferedCopy : Copy := { frame := { fmt := .lin }, ingress := 0 }

/-- The commander of slot 8 drains and has sent its header of identifier 1, with responses buffered for 1 and 2. -/
def drainingLinState : State :=
  (((({ State.reset with
    power := { State.reset.power with mode := .run }
    dies := mset {} State.reset.dies 1 { image := true, inReset := false, supplied := true, runtimeUp := true, state := 1 } }.setPortState 8 3).setCfg (E.portLinRole + 8 * 256) 0).setCfg
    (E.portLinId + 1 + 8 * 256) (2 ^ 15)).updPort 8 (fun p => { p with linHeader := some 1, linBuf := [(1, bufferedCopy), (2, bufferedCopy)] }))

/-- The response of identifier 1 has left, and the port is disabled. -/
theorem drainingLinState_linBuf : ((drainingLinState.linHeaderEvent 8 1 true true).port 8).linBuf = [] := by decide +kernel

/-- Refutes O28: on a DRAINING port the frame's end disables the port, which empties the other buffers too. -/
theorem not_linHeadersAndResponses : ¬ Obligations.LinHeadersAndResponses := by
  unfold Obligations.LinHeadersAndResponses
  intro h
  obtain ⟨-, hpublished, -⟩ := h drainingLinState 8 (by decide) (by decide) (by decide +kernel)
  have hx : exec (.linHeader 8 1 true true) drainingLinState = .next (drainingLinState.linHeaderEvent 8 1 true true).settle := doneIf_present (by decide)
  obtain ⟨-, hbuf, -⟩ := State.of_leads hx
    (hpublished 1 bufferedCopy (by decide +kernel) (by decide +kernel) (by decide +kernel) (by decide +kernel) (by decide +kernel))
  rw [State.port_settle, drainingLinState_linBuf] at hbuf
  exact absurd hbuf (by decide +kernel)

end Sys2Proof.Machine
end

section
/-! The PHY's control word on an ENABLED port whose link was down (R141, R157): the port owes its pause. -/

namespace Sys2Proof.Machine
open Sys2Proof
set_option Elab.async false

/-- A command of a unit of the part whose condition holds runs. -/
theorem doneIf_when {s : State} {p c : Bool} {f : State → State} (hp : p = true) (hc : c = true) : doneIf s p (s.when c f) = .next (f s).settle := by
  rw [doneIf_present hp, hc]
  rfl

/-- Slot 16 is ENABLED in SGMII without its link, and class 0 of it is under back-pressure. -/
def owedPauseState : State :=
  (((({ State.reset with
    power := { State.reset.power with mode := .run }
    dies := mset {} State.reset.dies 1 { image := true, inReset := false, supplied := true, runtimeUp := true, state := 1 }
    bp := mput State.reset.bp (16 * 8) {} }.setPortState 16 2).setCfg (E.portEthSerdesMode + 16 * 256) 0).setCfg
    (E.portEthAnEnable + 16 * 256) 1).setCfg (E.portEthTxPauseMode + 16 * 256) 1)

/-- The acknowledgement and the pause frame leave. -/
theorem owedPauseState_out : (owedPauseState.sgmiiWord 16 true true 0).out.length = 2 := by decide +kernel

/-- Refutes O30: with the link an ENABLED port sends the pause of the classes that back-pressure holds, beside the acknowledgement. -/
theorem not_ethernetLinks : ¬ Obligations.EthernetLinks := by
  unfold Obligations.EthernetLinks
  intro h
  obtain ⟨-, -, -, -, hword, -⟩ := h owedPauseState 16 (by decide) (by decide) (by decide +kernel)
  have hx : exec (.sgmiiControlWord 16 true true 0) owedPauseState = .next (owedPauseState.sgmiiWord 16 true true 0).settle := doneIf_when (by decide) (by decide +kernel)
  obtain ⟨-, -, -, -, hout, -⟩ := State.of_leads hx (hword 0 (by decide +kernel) (by decide +kernel) (by decide +kernel) (by decide +kernel) (by decide +kernel) (by decide +kernel))
  rw [State.settle_out] at hout
  exact absurd (owedPauseState_out.symm.trans (congrArg List.length hout)) (by decide)

end Sys2Proof.Machine
end

section
/-! An Ethernet port whose transmission frees the buffer that a producer waits for (R219, R224). -/

namespace Sys2Proof.Machine
open Sys2Proof
set_option Elab.async false

/-- The copy in transmission. -/
def sentEthCopy : Copy := { frame := { fmt := .eth }, ingress := 0, sending := true }

/-- Slot 16 sends; a frame of PRC0 to station 0, which stands behind that slot, waits for room. -/
def waitingProducerState : State :=
  { State.reset with
    power := { State.reset.power with mode := .run }
    dies := mset {} State.reset.dies 1 { image := true, inReset := false, supplied := true, runtimeUp := true, state := 1,
                                         fdb := [(32768, ⟨0, 0, 16, true, false, false, 0, 0, 0⟩)], prcWait := [(0, 0, [])] }
    queues := mset [] State.reset.queues (queueRow 1 16 0) [sentEthCopy] }.setPortState 16 2

/-- The frame that waited stands where the sent one stood. -/
theorem waitingProducerState_queue : ((waitingProducerState.ethSent 16).queue (queueRow 1 16 0)).length = 1 := by decide +kernel

/-- Refutes O32: the buffer that the sent frame frees lets a frame that waited in a runtime pair enter the same queue. -/
theorem not_ethernetSendingAndTimers : ¬ Obligations.EthernetSendingAndTimers := by
  unfold Obligations.EthernetSendingAndTimers
  intro h
  obtain ⟨hsent, -⟩ := h waitingProducerState 16 (by decide)
  have hx : exec (.ethTransmitComplete 16) waitingProducerState = .next (waitingProducerState.ethSent 16).settle := doneIf_present (by decide)
  obtain ⟨-, -, hqueue, -⟩ := State.of_leads hx (hsent (queueRow 1 16 0) sentEthCopy (by decide) (by decide +kernel) (by decide +kernel) (by decide +kernel))
  have hleft := hqueue (by decide +kernel) (by decide +kernel) (by decide +kernel) (by decide +kernel)
  rw [State.queue_settle] at hleft
  have hlength := waitingProducerState_queue.symm.trans (congrArg List.length hleft)
  exact absurd hlength (by decide +kernel)

end Sys2Proof.Machine
end

section
/-! An accepted PDU with none lost before it, at a counter whose value is beyond its type (R260). -/

namespace Sys2Proof.Machine
open Sys2Proof
set_option Elab.async false

/-- A steered frame of tunnel row 0: an empty NTSCF PDU with sequence number 0. -/
def emptyPduCopy : Copy := { frame := { fmt := .eth, data := List.replicate 14 0#8 ++ 0x82#8 :: List.replicate 11 0#8 }, ingress := 0, kind := .decap, dests := [0x400] }

/-- Die 1 holds it at its tunnel input; `lostPdus` of the row holds 2^32. -/
def overfullCounterState : State :=
  { State.reset with
    power := { State.reset.power with mode := .run }
    dies := mset {} State.reset.dies 1 { image := true, inReset := false, supplied := true, runtimeUp := true, state := 1 }
    queues := mset [] State.reset.queues (queueRow 1 28 0) [emptyPduCopy] }.setRow E.tunnelCntLostPdus 0 (2 ^ 32)

@[simp] theorem State.stRow_settle (s : State) (e row : Nat) : s.settle.stRow e row = s.stRow e row := by simp [State.stRow]

/-- A turn that meets no aged copy leaves the queue. -/
theorem State.purgeWhere_of_fresh {s : State} {row : Nat} {may : Copy → Bool} (h : (dropAged may s.aged (s.queue row)).2 = []) : s.purgeWhere row may = s := by
  simp [State.purgeWhere, h]

theorem overfullCounterState_purge {c : Nat} (hc : c ∈ List.range 8) :
    overfullCounterState.purgeWhere (queueRow 1 28 c) (fun cp => cp.kind == .decap) = overfullCounterState := by
  refine State.purgeWhere_of_fresh ?_
  revert c
  decide +kernel

theorem overfullCounterState_pick : overfullCounterState.tunnelPick 1 (fun cp => cp.kind == .decap) = (overfullCounterState, some (queueRow 1 28 0, 0)) := by
  have hfound : (overfullCounterState.queue (queueRow 1 28 0)).findIdx? (fun cp => cp.kind == .decap) = some 0 := by decide +kernel
  have hothers : ∀ c ∈ [7, 6, 5, 4, 3, 2, 1], (overfullCounterState.queue (queueRow 1 28 c)).findIdx? (fun cp => cp.kind == .decap) = none := by decide +kernel
  have hclasses : (List.range 8).reverse = [7, 6, 5, 4, 3, 2, 1, 0] := rfl
  simp [State.tunnelPick, hclasses, overfullCounterState_purge, hfound, hothers]

/-- Nothing is lost, so nothing is counted. -/
theorem overfullCounterState_decap : (overfullCounterState.decapTake 1).stRow E.tunnelCntLostPdus 0 = 2 ^ 32 := by decide +kernel

/-- Refutes O34: with no PDU lost the counter stays, where the statement's count of 0 takes it below its modulus. -/
theorem not_tunnelBatches : ¬ Obligations.TunnelBatches := by
  unfold Obligations.TunnelBatches
  intro h
  obtain ⟨-, -, -, -, hdecap, -⟩ := h overfullCounterState
  have hx : exec (.tunnelDecapsulate 1) overfullCounterState = .next (overfullCounterState.decapTake 1).settle := doneIf_when (by decide) (by decide +kernel)
  obtain ⟨-, haccepted, -⟩ := State.of_leads hx (hdecap 1 (queueRow 1 28 0, 0) emptyPduCopy 0 0x82 0 (by decide) (by decide) (by decide +kernel) rfl (by decide +kernel)
    (by decide +kernel) (by decide +kernel) overfullCounterState_pick (by decide +kernel) (by decide) (by decide +kernel) (by decide +kernel))
  obtain ⟨-, hlost⟩ := haccepted (by decide) (by decide) (by decide +kernel)
  obtain ⟨-, -, hcount⟩ := hlost 0 (by decide +kernel)
  rw [State.stRow_settle, overfullCounterState_decap] at hcount
  exact absurd hcount (by decide +kernel)

end Sys2Proof.Machine
end

section
/-! Timers and pins of an application pair, and their owners (R398, R405, R426). -/

namespace Sys2Proof.Machine
open Sys2Proof
set_option Elab.async false

/-! ### Bits of a word and of a register -/

theorem bitAt_toNat (w : Word) (b : Nat) : bitAt w.toNat b = w.getLsbD b := by rw [bitAt_eq_testBit, BitVec.testBit_toNat]

theorem bitAt_clearBit_same (v b : Nat) : bitAt (clearBit v b) b = false := by
  cases h : bitAt v b with
  | false => simp [clearBit, h]
  | true =>
    simp only [clearBit, h, if_true]
    have hodd : v / 2 ^ b % 2 = 1 := by simpa [bitAt] using h
    have hle : 2 ^ b ≤ v := Nat.le_of_not_lt fun hlt => by simp [Nat.div_eq_of_lt hlt] at hodd
    have hdiv : (v - 2 ^ b) / 2 ^ b = v / 2 ^ b - 1 := by
      have := Nat.sub_mul_div v (2 ^ b) 1
      simpa using this
    simp only [bitAt, hdiv, beq_eq_false_iff_ne]
    omega

/-- Setting a bit leaves every other bit. -/
theorem bitAt_setBit_of_ne {v i j : Nat} (h : i ≠ j) : bitAt (setBit v j) i = bitAt v i := by
  cases hj : bitAt v j with
  | true => simp [setBit, hj]
  | false =>
    obtain hlt | hgt := Nat.lt_or_gt_of_ne h
    · simp [setBit, hj, bitAt_eq_testBit, Nat.add_comm v, Nat.testBit_two_pow_add_gt hlt]
    · simp [setBit, hj, bitAt_add_two_pow_of_lt hj hgt]

theorem setBit_clearBit {v b : Nat} (h : bitAt v b = true) : setBit (clearBit v b) b = v := by
  have hle : 2 ^ b ≤ v := Nat.le_of_not_lt fun hlt => by simp [bitAt, Nat.div_eq_of_lt hlt] at h
  have hclear := bitAt_clearBit_same v b
  simp only [clearBit, h, if_true] at hclear ⊢
  simp [setBit, hclear, Nat.sub_add_cancel hle]

/-- Clearing a bit leaves every other bit. -/
theorem bitAt_clearBit_of_ne {v i j : Nat} (h : i ≠ j) : bitAt (clearBit v j) i = bitAt v i := by
  cases hj : bitAt v j with
  | false => simp [clearBit, hj]
  | true => rw [← bitAt_setBit_of_ne (v := clearBit v j) h, setBit_clearBit hj]

/-! ### Timers and pins after an update -/

@[simp] theorem State.timer_updTimer (s : State) (n t : Nat) (f : Timer → Timer) : ((s.updTimer n t f).app n).timer t = f ((s.app n).timer t) := by
  simp [State.updTimer, App.timer]

theorem State.updTimer_timersElse (s : State) (n t : Nat) (f : Timer → Timer) : (s.updTimer n t f).timersElse s n t := by
  intro k hk
  simp only [State.updTimer, State.app_updApp, App.timer]
  exact mget_mset_other _ _ _ hk

theorem State.pin_updPin_of_ne (s : State) (n : Nat) {p k : Nat} (f : Pin → Pin) (hk : k ≠ p) : ((s.updPin n p f).app n).pin k = (s.app n).pin k := by
  simp only [State.updPin, State.app_updApp, App.pin]
  exact mget_mset_other _ _ _ hk

@[simp] theorem State.pin_updPin (s : State) (n p : Nat) (f : Pin → Pin) : ((s.updPin n p f).app n).pin p = f ((s.app n).pin p) := by
  simp [State.updPin, App.pin]

theorem State.updPin_pinsElse (s : State) (n p : Nat) (f : Pin → Pin) : (s.updPin n p f).pinsElse s n p := fun _ hk => State.pin_updPin_of_ne s n f hk

theorem State.settle_appsElse {s t : State} {d : Nat} (h : t.appsElse s d) : t.settle.appsElse s d := State.appsElse_of_apps (State.settle_apps t) h

theorem State.settle_timersElse {s t : State} {d n : Nat} (h : t.timersElse s d n) : t.settle.timersElse s d n := fun k hk => by
  rw [State.app_settle]; exact h k hk

theorem State.settle_pinsElse {s t : State} {d n : Nat} (h : t.pinsElse s d n) : t.settle.pinsElse s d n := fun k hk => by
  rw [State.app_settle]; exact h k hk

/-- Nothing but one timer of a die has changed among the die's timers and the other dies' pairs. -/
def State.oneTimer (t s : State) (d n : Nat) : Prop := t.timersElse s d n ∧ t.appsElse s d

/-- Nothing but one pin of a die has changed among the die's pins and the other dies' pairs. -/
def State.onePin (t s : State) (d n : Nat) : Prop := t.pinsElse s d n ∧ t.appsElse s d

theorem State.oneTimer_refl (s : State) (d n : Nat) : s.oneTimer s d n := ⟨fun _ _ => rfl, fun _ _ => rfl⟩
theorem State.onePin_refl (s : State) (d n : Nat) : s.onePin s d n := ⟨fun _ _ => rfl, fun _ _ => rfl⟩

theorem State.updTimer_oneTimer (s : State) (d n : Nat) (f : Timer → Timer) : (s.updTimer d n f).oneTimer s d n :=
  ⟨State.updTimer_timersElse s d n f, State.appsElse_updApp s d _⟩

theorem State.updPin_onePin (s : State) (d n : Nat) (f : Pin → Pin) : (s.updPin d n f).onePin s d n :=
  ⟨State.updPin_pinsElse s d n f, State.appsElse_updApp s d _⟩

theorem State.settle_oneTimer {s t : State} {d n : Nat} (h : t.oneTimer s d n) : t.settle.timersElse s d n ∧ t.settle.appsElse s d :=
  ⟨State.settle_timersElse h.1, State.settle_appsElse h.2⟩

theorem State.settle_onePin {s t : State} {d n : Nat} (h : t.onePin s d n) : t.settle.pinsElse s d n ∧ t.settle.appsElse s d :=
  ⟨State.settle_pinsElse h.1, State.settle_appsElse h.2⟩

/-! ### The words of TMR_CTRL (R398, R405, R426) -/

theorem State.timerCtrl_oneTimer (s : State) (n t owner v : Nat) : (s.timerCtrl n t owner v).oneTimer s n t := by
  unfold State.timerCtrl
  dsimp only
  split
  · exact State.updTimer_oneTimer _ _ _ _
  · split
    · split <;> exact State.updTimer_oneTimer _ _ _ _
    all_goals exact State.updTimer_oneTimer _ _ _ _

theorem State.timerCtrl_foreign {s : State} {n t owner : Nat} (v : Nat) (h : ((s.app n).timer t).owner ≠ owner) :
    s.timerCtrl n t owner v = s.updTimer n t (fun x => { x with blk := { x.blk with conflict := true } }) := by
  simp [State.timerCtrl, h]

/-- EN = 1 starts a stopped timer with COUNT loaded. -/
theorem State.timerCtrl_start {s : State} {n t owner v : Nat} (ho : ((s.app n).timer t).owner = owner) (hv : bitAt v 0 = true)
    (hp : ((s.app n).timer t).blk.parErr = false) (he : ((s.app n).timer t).blk.en = false) (hd : ((s.app n).timer t).blk.disabling = false) :
    ((s.timerCtrl n t owner v).app n).timer t = { (s.app n).timer t with blk := { ((s.app n).timer t).blk with en := true }, ie := bitAt v 2, periodic := bitAt v 1,
                                                                         count := max 1 ((s.app n).timer t).load, since := s.clock.ticks } := by
  simp [State.timerCtrl, ho, Block.ctrl, hv, hp, he, hd, Timer.reload]

/-- EN = 1 in a running timer whose fields stay loads COUNT anew. -/
theorem State.timerCtrl_reload {s : State} {n t owner v : Nat} (ho : ((s.app n).timer t).owner = owner) (hv : bitAt v 0 = true)
    (hp : ((s.app n).timer t).blk.parErr = false) (he : ((s.app n).timer t).blk.en = true) (hi : bitAt v 2 = ((s.app n).timer t).ie)
    (hper : bitAt v 1 = ((s.app n).timer t).periodic) :
    ((s.timerCtrl n t owner v).app n).timer t = { (s.app n).timer t with count := max 1 ((s.app n).timer t).load, since := s.clock.ticks } := by
  simp [State.timerCtrl, ho, Block.ctrl, hv, hp, he, hi, hper, Timer.reload]

/-- EN = 0 stops a running timer, which keeps the COUNT it has then. -/
theorem State.timerCtrl_stop {s : State} {n t owner v : Nat} (ho : ((s.app n).timer t).owner = owner) (hv : bitAt v 0 = false) (he : ((s.app n).timer t).blk.en = true) :
    ((s.timerCtrl n t owner v).app n).timer t = { (s.app n).timer t with blk := { ((s.app n).timer t).blk with en := false, again := false }, ie := bitAt v 2, periodic := bitAt v 1,
                                                                         count := ((s.app n).timer t).count - (s.clock.ticks - ((s.app n).timer t).since) } := by
  simp [State.timerCtrl, ho, Block.ctrl, hv, he, State.timerCount]

/-! ### A timer reaches 0 (R405) -/

/-- The timer after it has reached 0. -/
def Timer.expired (x : Timer) (now : Nat) : Timer :=
  if x.periodic then { x with missed := x.missed || x.exp, exp := true, count := max 1 x.load, since := now }
  else { x with missed := x.missed || x.exp, exp := true, blk := { x.blk with en := false }, count := 0 }

/-- The pins of a die after one of its timers has reached 0: those that follow it toggle. -/
def App.togglePins (a : App) (t : Nat) : App :=
  { a with pins := a.pins.map (fun p => if p.2.blk.en = true ∧ p.2.func = 2 ∧ p.2.timer = t then (p.1, { p.2 with toggled := !p.2.toggled }) else p) }

theorem State.timerExpire_eq {s : State} {n t : Nat} (h : ((s.app n).timer t).blk.en = true) :
    s.timerExpire n t = ((s.updTimer n t (·.expired s.clock.ticks)).updApp n (·.togglePins t)).when
      (((s.app n).timer t).ie && (((s.app n).timer t).owner == 1 || ((s.app n).timer t).owner == 2)) (·.fire n (((s.app n).timer t).owner - 1) (33 + t / 2)) := by
  simp only [State.timerExpire, h, Bool.not_true, Bool.false_eq_true, if_false, Timer.expired, Timer.reload, App.togglePins, Bool.and_eq_true, beq_iff_eq, and_assoc]

theorem State.fire_apps (s : State) (n k src : Nat) : (s.fire n k src).apps = s.apps := State.keep_apps (by simp)

theorem State.timerExpire_app {s : State} {n t : Nat} (h : ((s.app n).timer t).blk.en = true) (m : Nat) :
    (s.timerExpire n t).app m = ((s.updTimer n t (·.expired s.clock.ticks)).updApp n (·.togglePins t)).app m := by
  rw [State.timerExpire_eq h]
  refine State.app_of_apps ?_ m
  unfold State.when
  split
  · exact State.fire_apps _ _ _ _
  · rfl

theorem State.timerExpire_timer {s : State} {n t : Nat} (h : ((s.app n).timer t).blk.en = true) :
    ((s.timerExpire n t).app n).timer t = ((s.app n).timer t).expired s.clock.ticks := by
  rw [State.timerExpire_app h, State.app_updApp]
  exact State.timer_updTimer s n t _

theorem State.timerExpire_oneTimer {s : State} {n t : Nat} (h : ((s.app n).timer t).blk.en = true) : (s.timerExpire n t).oneTimer s n t := by
  refine ⟨fun k hk => ?_, fun m hm => ?_⟩
  · rw [State.timerExpire_app h, State.app_updApp]
    exact State.updTimer_timersElse s n t _ k hk
  · rw [State.timerExpire_app h, State.app_updApp_other _ _ hm]
    exact State.appsElse_updApp s n _ m hm

theorem State.timerExpire_intc_of_quiet {s : State} {n t : Nat} (h : ((s.app n).timer t).blk.en = true) (hi : ((s.app n).timer t).ie = false) :
    (s.timerExpire n t).intc = s.intc := by
  rw [State.timerExpire_eq h]
  simp [State.when, hi, State.updTimer]

/-- The timer's source is pending at the target of its owner (R406). -/
theorem State.timerExpire_pend {s : State} {n t k : Nat} (h : ((s.app n).timer t).blk.en = true) (hi : ((s.app n).timer t).ie = true)
    (ho : ((s.app n).timer t).owner = k + 1) (hk : k < 2) (ha : bitAt (s.intcTarget n k).active (33 + t / 2) = false) :
    bitAt ((s.timerExpire n t).intcTarget n k).pend (33 + t / 2) = true := by
  have howner : k + 1 = 1 ∨ k + 1 = 2 := by omega
  rw [State.timerExpire_eq h]
  simp only [State.when, hi, ho, Bool.true_and, Bool.or_eq_true, beq_iff_eq, howner, if_true, Nat.add_sub_cancel]
  exact State.fire_pend _ (by simpa [State.intcTarget, State.updTimer] using ha)

/-! ### Claims and releases (R426) -/

theorem State.onStarted_runs {s : State} {d : Nat} (pair : Nat) (hd : s.variant.hasDie d = true) (hp : s.pairsRun d = true) (f : State → State) :
    s.onStarted d pair f = .next (f s).settle := by
  rw [State.onStarted, doneIf_present hd]
  simp [State.when, hp]

theorem State.timerOwn_oneTimer (s : State) (n t owner cmd : Nat) : (s.timerOwn n t owner cmd).oneTimer s n t := by
  unfold State.timerOwn State.when
  dsimp only
  repeat' split
  all_goals first | exact State.updTimer_oneTimer _ _ _ _ | exact State.oneTimer_refl _ _ _

theorem State.timerOwn_claim (s : State) (n t owner : Nat) : ((s.timerOwn n t owner 1).app n).timer t =
    if ((s.app n).timer t).owner = 0 then { (s.app n).timer t with owner := owner } else if ((s.app n).timer t).owner = owner then (s.app n).timer t
    else { (s.app n).timer t with blk := { ((s.app n).timer t).blk with conflict := true } } := by
  by_cases h0 : ((s.app n).timer t).owner = 0
  · simp [State.timerOwn, h0]
  · by_cases ho : ((s.app n).timer t).owner = owner
    · subst ho; simp [State.timerOwn, State.when, h0]
    · simp [State.timerOwn, State.when, h0, ho]

theorem State.timerOwn_release (s : State) (n t owner : Nat) : ((s.timerOwn n t owner 2).app n).timer t =
    if ((s.app n).timer t).owner ≠ owner then (s.app n).timer t else if ((s.app n).timer t).blk.en = true then
      { (s.app n).timer t with blk := { ((s.app n).timer t).blk with cfgIgn := true } } else { (s.app n).timer t with owner := 0 } := by
  by_cases ho : ((s.app n).timer t).owner = owner
  · cases he : ((s.app n).timer t).blk.en <;> simp [State.timerOwn, ho, he]
  · simp [State.timerOwn, ho]

theorem State.pinOwn_onePin (s : State) (n p owner cmd : Nat) : (s.pinOwn n p owner cmd).onePin s n p := by
  unfold State.pinOwn State.when
  dsimp only
  repeat' split
  all_goals first | exact State.updPin_onePin _ _ _ _ | exact State.onePin_refl _ _ _

theorem State.pinOwn_claim (s : State) (n p owner : Nat) : ((s.pinOwn n p owner 1).app n).pin p =
    if ((s.app n).pin p).owner = 0 then { (s.app n).pin p with owner := owner } else if ((s.app n).pin p).owner = owner then (s.app n).pin p
    else { (s.app n).pin p with blk := { ((s.app n).pin p).blk with conflict := true } } := by
  by_cases h0 : ((s.app n).pin p).owner = 0
  · simp [State.pinOwn, h0]
  · by_cases ho : ((s.app n).pin p).owner = owner
    · subst ho; simp [State.pinOwn, State.when, h0]
    · simp [State.pinOwn, State.when, h0, ho]

theorem State.pinOwn_release (s : State) (n p owner : Nat) : ((s.pinOwn n p owner 2).app n).pin p =
    if ((s.app n).pin p).owner ≠ owner then (s.app n).pin p else if ((s.app n).pin p).blk.en = true then
      { (s.app n).pin p with blk := { ((s.app n).pin p).blk with cfgIgn := true } } else { (s.app n).pin p with owner := 0 } := by
  by_cases ho : ((s.app n).pin p).owner = owner
  · cases he : ((s.app n).pin p).blk.en <;> simp [State.pinOwn, ho, he]
  · simp [State.pinOwn, ho]

/-! ### A word of PINS_DOUT (R426) -/

/-- What a word of PINS_DOUT does at one pin. -/
def State.doutStep (n owner v : Nat) (s : State) (p : Nat) : State :=
  if ((s.app n).pin p).owner == owner then s.updApp n (fun a => { a with dout := if bitAt v p then setBit a.dout p else clearBit a.dout p })
  else s.when (bitAt v p != bitAt (s.app n).dout p) (·.updPin n p (fun x => { x with blk := { x.blk with conflict := true } }))

theorem State.doutWrite_eq (s : State) (n owner v : Nat) : s.doutWrite n owner v = (List.range 8).foldl (State.doutStep n owner v) s := rfl

theorem State.doutStep_own {s : State} {n owner p : Nat} (v : Nat) (h : ((s.app n).pin p).owner = owner) :
    State.doutStep n owner v s p = s.updApp n (fun a => { a with dout := if bitAt v p then setBit a.dout p else clearBit a.dout p }) := by
  simp [State.doutStep, h]

theorem State.doutStep_foreign {s : State} {n owner p : Nat} (v : Nat) (h : ((s.app n).pin p).owner ≠ owner) :
    State.doutStep n owner v s p = s.when (bitAt v p != bitAt (s.app n).dout p) (·.updPin n p (fun x => { x with blk := { x.blk with conflict := true } })) := by
  simp [State.doutStep, h]

theorem State.doutStep_appsElse (s : State) (n owner v p : Nat) : (State.doutStep n owner v s p).appsElse s n := by
  unfold State.doutStep State.when
  repeat' split
  all_goals first | exact State.appsElse_updApp _ _ _ | exact fun _ _ => rfl

theorem State.doutStep_owner (s : State) (n owner v p k : Nat) : (((State.doutStep n owner v s p).app n).pin k).owner = ((s.app n).pin k).owner := by
  by_cases ho : ((s.app n).pin p).owner = owner
  · rw [State.doutStep_own v ho, State.app_updApp]; rfl
  · rw [State.doutStep_foreign v ho]
    unfold State.when
    split
    · by_cases hk : k = p
      · subst hk; simp
      · rw [State.pin_updPin_of_ne s n _ hk]
    · rfl

theorem State.doutStep_pin_own {s : State} {n owner k : Nat} (v p : Nat) (h : ((s.app n).pin k).owner = owner) :
    ((State.doutStep n owner v s p).app n).pin k = (s.app n).pin k := by
  by_cases ho : ((s.app n).pin p).owner = owner
  · rw [State.doutStep_own v ho, State.app_updApp]; rfl
  · have hk : k ≠ p := by rintro rfl; exact ho h
    rw [State.doutStep_foreign v ho]
    unfold State.when
    split
    · rw [State.pin_updPin_of_ne s n _ hk]
    · rfl

theorem State.doutStep_conflict_kept {s : State} {n k : Nat} (owner v p : Nat) (h : ((s.app n).pin k).blk.conflict = true) :
    (((State.doutStep n owner v s p).app n).pin k).blk.conflict = true := by
  by_cases ho : ((s.app n).pin p).owner = owner
  · rw [State.doutStep_own v ho, State.app_updApp]; exact h
  · rw [State.doutStep_foreign v ho]
    unfold State.when
    split
    · by_cases hk : k = p
      · subst hk; simp
      · rw [State.pin_updPin_of_ne s n _ hk]; exact h
    · exact h

/-- At a pin of the writer its own bit alone takes the word's; at another's no bit changes. -/
theorem State.doutStep_bit (s : State) (n owner v p k : Nat) : bitAt ((State.doutStep n owner v s p).app n).dout k =
    if k = p ∧ ((s.app n).pin p).owner = owner then bitAt v p else bitAt (s.app n).dout k := by
  by_cases ho : ((s.app n).pin p).owner = owner
  · rw [State.doutStep_own v ho, State.app_updApp]
    by_cases hk : k = p
    · subst hk
      cases hv : bitAt v k <;> simp [ho, bitAt_clearBit_same]
    · cases hv : bitAt v p <;> simp [hk, bitAt_setBit_of_ne hk, bitAt_clearBit_of_ne hk]
  · rw [State.doutStep_foreign v ho]
    simp only [ho, and_false, if_false]
    unfold State.when
    split
    · simp [State.updPin]
    · rfl

section
variable {s : State} {n owner v : Nat}

theorem State.foldl_doutStep_appsElse (l : List Nat) : ∀ s : State, (l.foldl (State.doutStep n owner v) s).appsElse s n := by
  induction l with
  | nil => exact fun _ _ _ => rfl
  | cons p l ih => exact fun s m hm => (ih _ m hm).trans (State.doutStep_appsElse s n owner v p m hm)

theorem State.foldl_doutStep_pin_own {k : Nat} (l : List Nat) : ∀ s : State, ((s.app n).pin k).owner = owner →
    ((l.foldl (State.doutStep n owner v) s).app n).pin k = (s.app n).pin k := by
  induction l with
  | nil => exact fun _ _ => rfl
  | cons p l ih => exact fun s h => (ih _ (by rw [State.doutStep_owner, h])).trans (State.doutStep_pin_own v p h)

theorem State.foldl_doutStep_bit {k : Nat} (l : List Nat) : ∀ s : State, bitAt ((l.foldl (State.doutStep n owner v) s).app n).dout k =
    if k ∈ l ∧ ((s.app n).pin k).owner = owner then bitAt v k else bitAt (s.app n).dout k := by
  induction l with
  | nil => simp
  | cons p l ih =>
    intro s
    rw [List.foldl_cons, ih, State.doutStep_owner, State.doutStep_bit]
    by_cases hk : k = p
    · subst hk
      by_cases ho : ((s.app n).pin k).owner = owner <;> simp [ho]
    · simp [hk]

theorem State.foldl_doutStep_conflict_kept {k : Nat} (l : List Nat) : ∀ s : State, ((s.app n).pin k).blk.conflict = true →
    (((l.foldl (State.doutStep n owner v) s).app n).pin k).blk.conflict = true := by
  induction l with
  | nil => exact fun _ h => h
  | cons p l ih => exact fun s h => ih _ (State.doutStep_conflict_kept owner v p h)

/-- A bit that a word would change at a pin of another owner marks that pin. -/
theorem State.foldl_doutStep_conflict {k : Nat} (l : List Nat) (hk : k ∈ l) : ∀ s : State, ((s.app n).pin k).owner ≠ owner → bitAt v k ≠ bitAt (s.app n).dout k →
    (((l.foldl (State.doutStep n owner v) s).app n).pin k).blk.conflict = true := by
  induction l with
  | nil => simp at hk
  | cons p l ih =>
    intro s ho hv
    by_cases e : k = p
    · subst e
      refine State.foldl_doutStep_conflict_kept l _ ?_
      rw [State.doutStep_foreign v ho]
      simp [State.when, hv]
    · refine ih ((List.mem_cons.mp hk).resolve_left e) _ (by rwa [State.doutStep_owner]) ?_
      rw [State.doutStep_bit]
      simpa [e] using hv

end

/-! ### The commands -/

/-- Settles O53: each command is its operation on one timer, on one pin or on the word of the die's outputs. -/
theorem timersAndPins : Obligations.TimersAndPins := by
  unfold Obligations.TimersAndPins
  intro s d hd hp
  refine ⟨fun n w hn => ?ctrl, fun n hn hen => ?expiry, fun n pair hn hpair => ?claim, fun n pair hn hpair => ?release, fun n pair hn hpair => ?pinClaim,
    fun n pair hn hpair => ?pinRelease, fun pair w hpair => ?dout⟩
  case ctrl =>
    have hx : exec (.tmrCtrlWrite d n w) s = .next (s.when (n < 16) (·.timerCtrl d n 2 w.toNat)).settle := State.onDie_runs hd hp _
    rw [State.when, if_pos (by simpa using hn)] at hx
    obtain ⟨htimers, happs⟩ := State.settle_oneTimer (State.timerCtrl_oneTimer s d n 2 w.toNat)
    refine State.leads_of_exec hx ⟨fun ho => ?_, fun ho hv hpe he hdis => ?_, fun ho hv hpe he hi hper => ?_, fun ho hv he => ?_, htimers, happs,
      State.eq_mix (execTmrCtrlWrite_rest (fs := 2200097013760) (by decide) d n w s hx)⟩
    · rw [State.app_settle, State.timerCtrl_foreign _ ho, State.timer_updTimer]
    · rw [State.app_settle, State.timerCtrl_start ho (by rwa [bitAt_toNat]) hpe he hdis, bitAt_toNat, bitAt_toNat]
    · rw [State.app_settle, State.timerCtrl_reload ho (by rwa [bitAt_toNat]) hpe he (by rwa [bitAt_toNat]) (by rwa [bitAt_toNat])]
    · rw [State.app_settle, State.timerCtrl_stop ho (by rwa [bitAt_toNat]) he, bitAt_toNat, bitAt_toNat]
  case expiry =>
    have hx : exec (.timerExpiry d n) s = .next (s.when (n < 16) (·.timerExpire d n)).settle := State.onDie_runs hd hp _
    rw [State.when, if_pos (by simpa using hn)] at hx
    obtain ⟨htimers, happs⟩ := State.settle_oneTimer (State.timerExpire_oneTimer hen)
    refine State.leads_of_exec hx ⟨?_, ?_, ?_, ?_, htimers, happs, fun k hi ho hk ha => ?_, fun hi => ?_, ?_,
      State.eq_mix (execTimerExpiry_rest (fs := 2200633884672) (by decide) d n s hx)⟩
    · rw [State.app_settle, State.timerExpire_timer hen, Timer.expired]; split <;> rfl
    · rw [State.app_settle, State.timerExpire_timer hen, Timer.expired]; split <;> rfl
    · rw [State.app_settle, State.timerExpire_timer hen, Timer.expired]; split <;> simp_all
    · rw [State.app_settle, State.timerExpire_timer hen, Timer.expired]; split <;> simp_all
    · rw [State.intcTarget, State.settle_intc]; exact State.timerExpire_pend hen hi ho hk ha
    · rw [State.settle_intc, State.timerExpire_intc_of_quiet hen hi]
    · rw [State.app_settle, State.timerExpire_app hen, State.app_updApp, State.updTimer, State.app_updApp]; rfl
  case claim =>
    have hx : exec (.tmrClaim d n pair) s = .next (s.when (n < 16 && ownerOk pair) (·.timerOwn d n pair 1)).settle := State.onStarted_runs pair hd hp _
    rw [State.when, if_pos (by simp [hn, hpair])] at hx
    obtain ⟨htimers, happs⟩ := State.settle_oneTimer (State.timerOwn_oneTimer s d n pair 1)
    exact State.leads_of_exec hx ⟨by rw [State.app_settle, State.timerOwn_claim], htimers, happs,
      State.eq_mix (execTmrClaim_rest (fs := 2200097013760) (by decide) d n pair s hx)⟩
  case release =>
    have hx : exec (.tmrRelease d n pair) s = .next (s.when (n < 16 && ownerOk pair) (·.timerOwn d n pair 2)).settle := State.onStarted_runs pair hd hp _
    rw [State.when, if_pos (by simp [hn, hpair])] at hx
    obtain ⟨htimers, happs⟩ := State.settle_oneTimer (State.timerOwn_oneTimer s d n pair 2)
    exact State.leads_of_exec hx ⟨by rw [State.app_settle, State.timerOwn_release], htimers, happs,
      State.eq_mix (execTmrRelease_rest (fs := 2200097013760) (by decide) d n pair s hx)⟩
  case pinClaim =>
    have hx : exec (.pinClaim d n pair) s = .next (s.when (n < 8 && ownerOk pair) (·.pinOwn d n pair 1)).settle := State.onStarted_runs pair hd hp _
    rw [State.when, if_pos (by simp [hn, hpair])] at hx
    obtain ⟨hpins, happs⟩ := State.settle_onePin (State.pinOwn_onePin s d n pair 1)
    exact State.leads_of_exec hx ⟨by rw [State.app_settle, State.pinOwn_claim], hpins, happs,
      State.eq_mix (execPinClaim_rest (fs := 2200097013760) (by decide) d n pair s hx)⟩
  case pinRelease =>
    have hx : exec (.pinRelease d n pair) s = .next (s.when (n < 8 && ownerOk pair) (·.pinOwn d n pair 2)).settle := State.onStarted_runs pair hd hp _
    rw [State.when, if_pos (by simp [hn, hpair])] at hx
    obtain ⟨hpins, happs⟩ := State.settle_onePin (State.pinOwn_onePin s d n pair 2)
    exact State.leads_of_exec hx ⟨by rw [State.app_settle, State.pinOwn_release], hpins, happs,
      State.eq_mix (execPinRelease_rest (fs := 2200097013760) (by decide) d n pair s hx)⟩
  case dout =>
    have hx : exec (.pinsDoutWrite d pair w) s = .next (s.when (ownerOk pair) (·.doutWrite d pair w.toNat)).settle := State.onDie_runs hd hp _
    rw [State.when, if_pos hpair, State.doutWrite_eq] at hx
    refine State.leads_of_exec hx ⟨fun p h8 => ?_, fun p h8 ho hv => ?_, fun p ho => ?_, State.settle_appsElse (State.foldl_doutStep_appsElse _ s),
      State.eq_mix (execPinsDoutWrite_rest (fs := 2200097013760) (by decide) d pair w s hx)⟩
    · rw [State.app_settle, State.foldl_doutStep_bit, bitAt_toNat]
      simp [h8]
    · rw [State.app_settle]
      exact State.foldl_doutStep_conflict _ (by simpa using h8) s ho (by rwa [bitAt_toNat])
    · rw [State.app_settle, State.foldl_doutStep_pin_own _ s ho]

end Sys2Proof.Machine
end

section
/-! The interrupt controller (R406 to R411). -/

namespace Sys2Proof.Machine
open Sys2Proof
set_option Elab.async false

/-! ### Targets after an update -/

@[simp] theorem State.intcTarget_settle (s : State) (n k : Nat) : s.settle.intcTarget n k = s.intcTarget n k := by simp [State.intcTarget]

theorem State.settle_intcElse {s t : State} {d : Nat} (h : t.intcElse s d) : t.settle.intcElse s d := fun m k hm hk => by
  rw [State.intcTarget_settle]; exact h m k hm hk

theorem State.intcElse_trans {s t u : State} {d : Nat} (h : u.intcElse t d) (ht : t.intcElse s d) : u.intcElse s d :=
  fun m k hm hk => (h m k hm hk).trans (ht m k hm hk)

/-- A target of one die is not a target of another (Table 14-8). -/
theorem State.setIntc_intcElse (s : State) {d k : Nat} (t : IntcTarget) (hk : k < 2) : (s.setIntc d k t).intcElse s d :=
  fun m j hm hj => mget_mset_other _ s.intc t (by omega)

theorem State.updIntc_intcElse (s : State) {d k : Nat} (f : IntcTarget → IntcTarget) (hk : k < 2) : (s.updIntc d k f).intcElse s d := State.setIntc_intcElse s _ hk

@[simp] theorem State.intcTarget_updIntc (s : State) (d k : Nat) (f : IntcTarget → IntcTarget) : (s.updIntc d k f).intcTarget d k = f (s.intcTarget d k) := by
  simp [State.updIntc]

theorem State.intcTarget_updIntc_other (s : State) {d k j : Nat} (f : IntcTarget → IntcTarget) (h : j ≠ k) : (s.updIntc d k f).intcTarget d j = s.intcTarget d j :=
  State.intcTarget_setIntc_other s _ h

/-! ### A source that fires (R411) -/

/-- A target after a source has fired for it: pending, or lost while it is pending or active. -/
def IntcTarget.fired (t : IntcTarget) (src : Nat) : IntcTarget :=
  if (bitAt t.pend src || bitAt t.active src) = true then { t with lost := setBit t.lost src } else { t with pend := setBit t.pend src }

theorem State.fire_eq (s : State) (d k src : Nat) : s.fire d k src = s.updIntc d k (·.fired src) := by
  unfold State.fire State.updIntc IntcTarget.fired
  dsimp only
  split <;> rfl

@[simp] theorem State.intcTarget_fire (s : State) (d k src : Nat) : (s.fire d k src).intcTarget d k = (s.intcTarget d k).fired src := by
  rw [State.fire_eq, State.intcTarget_updIntc]

theorem State.fire_intcElse (s : State) {d k : Nat} (src : Nat) (hk : k < 2) : (s.fire d k src).intcElse s d := by
  rw [State.fire_eq]; exact State.updIntc_intcElse s _ hk

theorem IntcTarget.fired_of_free {t : IntcTarget} {src : Nat} (hp : bitAt t.pend src = false) (ha : bitAt t.active src = false) :
    t.fired src = { t with pend := setBit t.pend src } := by
  simp [IntcTarget.fired, hp, ha]

theorem IntcTarget.fired_of_busy {t : IntcTarget} {src : Nat} (h : bitAt t.pend src = true ∨ bitAt t.active src = true) :
    t.fired src = { t with lost := setBit t.lost src } := by
  simp [IntcTarget.fired, h]

theorem IntcTarget.fired_active (t : IntcTarget) (src : Nat) : (t.fired src).active = t.active := by
  unfold IntcTarget.fired; split <;> rfl

/-- A source that fires leaves the marks of every other. -/
theorem IntcTarget.fired_of_ne (t : IntcTarget) {src k : Nat} (h : k ≠ src) : bitAt (t.fired src).pend k = bitAt t.pend k ∧ bitAt (t.fired src).lost k = bitAt t.lost k := by
  unfold IntcTarget.fired
  split <;> simp [bitAt_setBit_of_ne h]

/-- What a source's firing makes of its own marks follows from them alone. -/
theorem IntcTarget.fired_congr {t u : IntcTarget} {k : Nat} (hp : bitAt t.pend k = bitAt u.pend k) (ha : bitAt t.active k = bitAt u.active k)
    (hl : bitAt t.lost k = bitAt u.lost k) : bitAt (t.fired k).pend k = bitAt (u.fired k).pend k ∧ bitAt (t.fired k).lost k = bitAt (u.fired k).lost k := by
  unfold IntcTarget.fired
  rw [hp, ha]
  split <;> simp [hp, hl]

theorem State.raiseSource_intcElse (s : State) (d src : Nat) : (s.raiseSource d src).intcElse s d := by
  unfold State.raiseSource
  dsimp only
  split
  · exact State.intcElse_trans (State.fire_intcElse _ src (by decide)) (State.fire_intcElse s src (by decide))
  · exact State.fire_intcElse s src (by decide)

/-- A source of a die fires for the runtime pair, and for the application pair by its route bit (R406). -/
theorem State.raiseSource_runtime (s : State) (d src : Nat) : (s.raiseSource d src).intcTarget d 0 = (s.intcTarget d 0).fired src := by
  unfold State.raiseSource
  dsimp only
  split
  · rw [State.fire_intcTarget_other _ src (by decide), State.intcTarget_fire]
  · rw [State.intcTarget_fire]

theorem State.raiseSource_application (s : State) (d src : Nat) :
    (s.raiseSource d src).intcTarget d 1 = if bitAt (s.cfg E.appIrqRoute) src = true then (s.intcTarget d 1).fired src else s.intcTarget d 1 := by
  unfold State.raiseSource
  dsimp only
  split
  · rw [State.intcTarget_fire, State.fire_intcTarget_other _ src (by decide)]
  · rw [State.fire_intcTarget_other _ src (by decide)]

/-! ### Claims (R408, R409) -/

/-- The better of the best source so far and another (R409). -/
def IntcTarget.better (t : IntcTarget) (b : Option Nat) (k : Nat) : Option Nat :=
  match b with
  | none => some k
  | some j => if t.prioOf j < t.prioOf k then some k else some j

theorem IntcTarget.best_eq (t : IntcTarget) : t.best = ((List.range 256).filter t.qualifies).foldl t.better none := rfl

/-- The fold over an ascending list keeps the source that no earlier one equals and no later one exceeds. -/
theorem IntcTarget.foldl_better {t : IntcTarget} {k : Nat} (l : List Nat) (hk : k ∈ l) (hasc : l.Pairwise (· < ·))
    (hbest : ∀ j ∈ l, t.prioOf j < t.prioOf k ∨ (t.prioOf j = t.prioOf k ∧ k ≤ j)) (b : Option Nat) (hb : ∀ j, b = some j → t.prioOf j < t.prioOf k) :
    l.foldl t.better b = some k := by
  induction l generalizing b with
  | nil => simp at hk
  | cons a l ih =>
    obtain ⟨ha, hasc⟩ := List.pairwise_cons.mp hasc
    by_cases e : k = a
    · subst e
      have hstep : t.better b k = some k := by
        cases b with
        | none => rfl
        | some j => simp [IntcTarget.better, hb j rfl]
      rw [List.foldl_cons, hstep]
      have hkeep : ∀ l : List Nat, (∀ j ∈ l, t.prioOf j ≤ t.prioOf k) → l.foldl t.better (some k) = some k := by
        intro l hl
        induction l with
        | nil => rfl
        | cons j l ih =>
          have hj : ¬ t.prioOf k < t.prioOf j := Nat.not_lt.mpr (hl j (by simp))
          rw [List.foldl_cons, IntcTarget.better, if_neg hj]
          exact ih fun i hi => hl i (by simp [hi])
      exact hkeep l fun j hj => by have := hbest j (by simp [hj]); omega
    · have hmem : k ∈ l := (List.mem_cons.mp hk).resolve_left e
      have hlow : t.prioOf a < t.prioOf k := by
        have := hbest a (by simp)
        have := ha k hmem
        omega
      refine ih hmem hasc (fun j hj => hbest j (by simp [hj])) _ fun j hj => ?_
      cases b with
      | none => obtain rfl := Option.some.inj hj; exact hlow
      | some i =>
        simp only [IntcTarget.better] at hj
        split at hj <;> obtain rfl := Option.some.inj hj
        · exact hlow
        · exact hb i rfl

theorem IntcTarget.best_of_highest {t : IntcTarget} {k : Nat} (h256 : k < 256) (hq : t.qualifies k = true)
    (hbest : ∀ j, j < 256 → t.qualifies j = true → t.prioOf j < t.prioOf k ∨ (t.prioOf j = t.prioOf k ∧ k ≤ j)) : t.best = some k := by
  rw [IntcTarget.best_eq]
  refine IntcTarget.foldl_better _ (by simp [h256, hq]) (List.pairwise_lt_range.filter _) (fun j hj => ?_) none (by simp)
  obtain ⟨hj256, hjq⟩ := List.mem_filter.mp hj
  exact hbest j (List.mem_range.mp hj256) hjq

theorem IntcTarget.best_of_none {t : IntcTarget} (h : ∀ j, j < 256 → t.qualifies j = false) : t.best = none := by
  have hnil : (List.range 256).filter t.qualifies = [] := by simpa using h
  rw [IntcTarget.best_eq, hnil]; rfl

theorem exec_intcClaim {s : State} {d : Nat} (hd : s.variant.hasDie d = true) (hp : s.pairsRun d = true) :
    exec (.intcClaim d) s = .next ((s.updIntc d 1 (fun t => t.claim.2)).give d 1 0x40001010 (s.intcTarget d 1).claim.1).settle := State.onDie_runs hd hp _

theorem State.intcTarget_give (s : State) (n core addr v d k : Nat) : (s.give n core addr v).intcTarget d k = s.intcTarget d k := rfl

/-! ### Doorbells (R410) -/

theorem State.softDoorbell_low {s : State} {d v : Nat} (h : v % 256 < 128) : s.softDoorbell d v = s.updIntc d 1 (fun t => { t with dbRej := true }) := by
  simp [State.softDoorbell, show ¬ 128 ≤ v % 256 by omega]

theorem State.softDoorbell_high {s : State} {d v : Nat} (h : 128 ≤ v % 256) : s.softDoorbell d v = s.raiseSource d (v % 256) := by
  simp [State.softDoorbell, h]

theorem State.softDoorbell_intcElse (s : State) (d v : Nat) : (s.softDoorbell d v).intcElse s d := by
  unfold State.softDoorbell
  split
  · exact State.raiseSource_intcElse s d _
  · exact State.updIntc_intcElse s _ (by decide)

/-- A target after a remote doorbell of Dm (R410, R411). -/
def IntcTarget.rung (t : IntcTarget) (m v : Nat) : IntcTarget :=
  if (bitAt t.pend (70 + m) || bitAt t.active (70 + m)) = true then { t with lost := setBit t.lost (70 + m) }
  else { t with pend := setBit t.pend (70 + m), rmsg := mset 0 t.rmsg m v }

theorem State.intcTarget_remoteAt (s : State) (d m v k : Nat) : (s.remoteAt d m v k).intcTarget d k = (s.intcTarget d k).rung m v := by
  unfold State.remoteAt IntcTarget.rung
  dsimp only
  split <;> simp_all [IntcTarget.fired]

theorem State.remoteAt_intcTarget_other (s : State) {d m v k j : Nat} (h : j ≠ k) : (s.remoteAt d m v k).intcTarget d j = s.intcTarget d j := by
  unfold State.remoteAt
  dsimp only
  split
  · rw [State.fire_intcTarget_other s _ h]
  · rw [State.intcTarget_updIntc_other _ _ h, State.fire_intcTarget_other s _ h]

theorem State.remoteAt_intcElse (s : State) {d m v k : Nat} (hk : k < 2) : (s.remoteAt d m v k).intcElse s d := by
  unfold State.remoteAt
  dsimp only
  split
  · exact State.fire_intcElse s _ hk
  · exact State.intcElse_trans (State.updIntc_intcElse _ _ hk) (State.fire_intcElse s _ hk)

theorem State.remoteDoorbell_own (s : State) (d v : Nat) : s.remoteDoorbell d d v = s.updIntc d 1 (fun t => { t with dbRej := true }) := by simp [State.remoteDoorbell]

theorem State.remoteDoorbell_far {s : State} {d m : Nat} (v : Nat) (h : m ≠ d) :
    s.remoteDoorbell d m v = (s.remoteAt d m v 0).when (bitAt (s.cfg E.appIrqRoute) (70 + m)) (·.remoteAt d m v 1) := by simp [State.remoteDoorbell, h]

theorem State.remoteDoorbell_intcElse (s : State) (d m v : Nat) : (s.remoteDoorbell d m v).intcElse s d := by
  by_cases h : m = d
  · subst h; rw [State.remoteDoorbell_own]; exact State.updIntc_intcElse s _ (by decide)
  · rw [State.remoteDoorbell_far v h]
    unfold State.when
    split
    · exact State.intcElse_trans (State.remoteAt_intcElse _ (by decide)) (State.remoteAt_intcElse s (by decide))
    · exact State.remoteAt_intcElse s (by decide)

theorem State.remoteDoorbell_runtime {s : State} {d m : Nat} (v : Nat) (h : m ≠ d) : (s.remoteDoorbell d m v).intcTarget d 0 = (s.intcTarget d 0).rung m v := by
  rw [State.remoteDoorbell_far v h]
  unfold State.when
  split
  · rw [State.remoteAt_intcTarget_other _ (by decide), State.intcTarget_remoteAt]
  · rw [State.intcTarget_remoteAt]

theorem State.remoteDoorbell_application {s : State} {d m : Nat} (v : Nat) (h : m ≠ d) : (s.remoteDoorbell d m v).intcTarget d 1 =
    if bitAt (s.cfg E.appIrqRoute) (70 + m) = true then (s.intcTarget d 1).rung m v else s.intcTarget d 1 := by
  rw [State.remoteDoorbell_far v h]
  unfold State.when
  split
  · rw [State.intcTarget_remoteAt, State.remoteAt_intcTarget_other _ (by decide)]
  · rw [State.remoteAt_intcTarget_other _ (by decide)]

/-! ### Pending bits written as a word (R410) -/

section
variable {d w : Nat}

theorem State.foldl_fire_intcElse (l : List Nat) : ∀ s : State, (l.foldl (fun s b => s.fire d 1 (32 * w + b)) s).intcElse s d := by
  induction l with
  | nil => exact fun _ _ _ _ _ => rfl
  | cons b l ih => exact fun s => State.intcElse_trans (ih _) (State.fire_intcElse s _ (by decide))

theorem State.foldl_fire_runtime (l : List Nat) : ∀ s : State, (l.foldl (fun s b => s.fire d 1 (32 * w + b)) s).intcTarget d 0 = s.intcTarget d 0 := by
  induction l with
  | nil => exact fun _ => rfl
  | cons b l ih => exact fun s => (ih _).trans (State.fire_intcTarget_other s _ (by decide))

/-- Each bit of the word acts as its source would alone; a bit that is not written keeps its marks. -/
theorem State.foldl_fire_bits {k : Nat} (l : List Nat) (hnd : l.Nodup) : ∀ s : State,
    (bitAt ((l.foldl (fun s b => s.fire d 1 (32 * w + b)) s).intcTarget d 1).pend k =
      if ∃ b ∈ l, k = 32 * w + b then bitAt ((s.intcTarget d 1).fired k).pend k else bitAt (s.intcTarget d 1).pend k) ∧
    bitAt ((l.foldl (fun s b => s.fire d 1 (32 * w + b)) s).intcTarget d 1).lost k =
      if ∃ b ∈ l, k = 32 * w + b then bitAt ((s.intcTarget d 1).fired k).lost k else bitAt (s.intcTarget d 1).lost k := by
  induction l with
  | nil => simp
  | cons b l ih =>
    intro s
    obtain ⟨hb, hnd⟩ := List.nodup_cons.mp hnd
    obtain ⟨hpend, hlost⟩ := ih hnd (s.fire d 1 (32 * w + b))
    rw [List.foldl_cons, hpend, hlost, State.intcTarget_fire]
    by_cases hk : k = 32 * w + b
    · have hnot : ¬ ∃ c ∈ l, k = 32 * w + c := fun ⟨c, hc, hkc⟩ => hb (by rwa [show b = c by omega])
      have hex : ∃ c ∈ b :: l, k = 32 * w + c := ⟨b, by simp, hk⟩
      rw [if_neg hnot, if_neg hnot, if_pos hex, if_pos hex, hk]
      exact ⟨rfl, rfl⟩
    · obtain ⟨h1, h2⟩ := (s.intcTarget d 1).fired_of_ne hk
      by_cases hl : ∃ c ∈ l, k = 32 * w + c
      · have hact := congrArg (bitAt · k) (IntcTarget.fired_active (s.intcTarget d 1) (32 * w + b))
        have hex : ∃ c ∈ b :: l, k = 32 * w + c := hl.imp fun c hc => ⟨List.mem_cons_of_mem _ hc.1, hc.2⟩
        rw [if_pos hl, if_pos hl, if_pos hex, if_pos hex]
        exact IntcTarget.fired_congr h1 hact h2
      · have hex : ¬ ∃ c ∈ b :: l, k = 32 * w + c := by
          rintro ⟨c, hc, hkc⟩
          obtain rfl | hc := List.mem_cons.mp hc
          · exact hk hkc
          · exact hl ⟨c, hc, hkc⟩
        rw [if_neg hl, if_neg hl, if_neg hex, if_neg hex]
        exact ⟨h1, h2⟩

end

theorem State.setPending_eq (s : State) (d w v : Nat) : s.setPending d w v = ((List.range 32).filter (bitAt v)).foldl (fun s b => s.fire d 1 (32 * w + b)) s := rfl

/-- The bits of a word of SETPEND are those of its sources. -/
theorem exists_bit_iff {w v k : Nat} : (∃ b ∈ (List.range 32).filter (bitAt v), k = 32 * w + b) ↔ k / 32 = w ∧ bitAt v (k % 32) = true := by
  simp only [List.mem_filter, List.mem_range]
  constructor
  · rintro ⟨b, ⟨hb, hv⟩, rfl⟩
    rw [show (32 * w + b) % 32 = b by omega]
    exact ⟨by omega, hv⟩
  · rintro ⟨hk, hv⟩
    exact ⟨k % 32, ⟨by omega, hv⟩, by omega⟩

theorem State.setPending_pend (s : State) (d w v k : Nat) : bitAt ((s.setPending d w v).intcTarget d 1).pend k =
    if k / 32 = w ∧ bitAt v (k % 32) = true then bitAt ((s.intcTarget d 1).fired k).pend k else bitAt (s.intcTarget d 1).pend k := by
  rw [State.setPending_eq, (State.foldl_fire_bits _ (List.nodup_range.filter _) s).1]
  simp only [exists_bit_iff]

theorem State.setPending_lost (s : State) (d w v k : Nat) : bitAt ((s.setPending d w v).intcTarget d 1).lost k =
    if k / 32 = w ∧ bitAt v (k % 32) = true then bitAt ((s.intcTarget d 1).fired k).lost k else bitAt (s.intcTarget d 1).lost k := by
  rw [State.setPending_eq, (State.foldl_fire_bits _ (List.nodup_range.filter _) s).2]
  simp only [exists_bit_iff]

/-! ### The commands -/

/-- Settles O52: each command is its operation on the targets of its die. -/
theorem interruptController : Obligations.InterruptController := by
  unfold Obligations.InterruptController
  intro s d hd hp
  refine ⟨fun src target htarget hreach => ?fire, fun k h256 hq hbest => ?claim, fun hnone => ?claimNone, fun w => ?complete, fun w => ?doorbell, fun m w hm => ?rdoorbell,
    fun word w hword => ?setpend⟩
  case fire =>
    have hx : exec (.interruptSourceFire d src target) s = .next (s.when (s.reaches d src target) (·.fire d target src)).settle := State.onDie_runs hd hp _
    rw [State.when, if_pos hreach] at hx
    refine State.leads_of_exec hx ⟨?_, ?_, State.settle_intcElse (State.fire_intcElse s src htarget),
      State.eq_mix (execInterruptSourceFire_rest (fs := 2199560142848) (by decide) d src target s hx)⟩
    · rw [State.intcTarget_settle, State.intcTarget_fire]; rfl
    · rw [State.intcTarget_settle, State.fire_intcTarget_other s src (by omega)]
  case claim =>
    have hclaim : (s.intcTarget d 1).claim =
        (k, { s.intcTarget d 1 with pend := clearBit (s.intcTarget d 1).pend k, active := setBit (s.intcTarget d 1).active k }) := by
      simp only [IntcTarget.claim, IntcTarget.best_of_highest h256 hq hbest]
    have hx := exec_intcClaim hd hp
    refine State.leads_of_exec hx ⟨?_, ?_, ?_, State.settle_intcElse (fun m j hm hj => State.updIntc_intcElse (k := 1) s (fun t => t.claim.2) (by decide) m j hm hj),
      State.eq_mix (execIntcClaim_rest (fs := 10995653165056) (by decide) d s hx)⟩
    · rw [State.settle_out, State.give, State.emit, hclaim]; rfl
    · rw [State.intcTarget_settle, State.intcTarget_give, State.intcTarget_updIntc, hclaim]
    · rw [State.intcTarget_settle, State.intcTarget_give, State.intcTarget_updIntc_other s _ (by decide)]
  case claimNone =>
    have hclaim : (s.intcTarget d 1).claim = (0x100, s.intcTarget d 1) := by simp only [IntcTarget.claim, IntcTarget.best_of_none hnone]
    have hx := exec_intcClaim hd hp
    refine State.leads_of_exec hx ⟨?_, fun m k => ?_, State.eq_mix (execIntcClaim_rest (fs := 10995653165056) (by decide) d s hx)⟩
    · rw [State.settle_out, State.give, State.emit, hclaim]; rfl
    · rw [State.intcTarget_settle, State.intcTarget_give]
      simp only [State.intcTarget, State.updIntc, State.setIntc]
      by_cases e : m * 2 + k = d * 2 + 1
      · rw [e, mget_mset_same]
        exact congrArg Prod.snd hclaim
      · rw [mget_mset_other _ _ _ e]
  case complete =>
    have hx : exec (.intcComplete d w) s = .next (s.updIntc d 1 (·.complete (w.toNat % 256))).settle := State.onDie_runs hd hp _
    refine State.leads_of_exec hx ⟨?_, ?_, State.settle_intcElse (State.updIntc_intcElse s _ (by decide)),
      State.eq_mix (execIntcComplete_rest (fs := 2199560142848) (by decide) d w s hx)⟩
    · rw [State.intcTarget_settle, State.intcTarget_updIntc, IntcTarget.complete]
    · rw [State.intcTarget_settle, State.intcTarget_updIntc_other s _ (by decide)]
  case doorbell =>
    have hx : exec (.intcDoorbell d w) s = .next (s.softDoorbell d w.toNat).settle := State.onDie_runs hd hp _
    refine State.leads_of_exec hx ⟨fun hlow => ⟨?_, ?_⟩, fun hhigh hpend hact => ?_, fun hhigh hroute hpend hact => ?_, fun hhigh hroute => ?_,
      State.settle_intcElse (State.softDoorbell_intcElse s d _), State.eq_mix (execIntcDoorbell_rest (fs := 2199560142848) (by decide) d w s hx)⟩
    · rw [State.intcTarget_settle, State.softDoorbell_low hlow, State.intcTarget_updIntc]
    · rw [State.intcTarget_settle, State.softDoorbell_low hlow, State.intcTarget_updIntc_other s _ (by decide)]
    · rw [State.intcTarget_settle, State.softDoorbell_high hhigh, State.raiseSource_runtime, IntcTarget.fired_of_free hpend hact]
    · rw [State.intcTarget_settle, State.softDoorbell_high hhigh, State.raiseSource_application, if_pos hroute, IntcTarget.fired_of_free hpend hact]
    · rw [State.intcTarget_settle, State.softDoorbell_high hhigh, State.raiseSource_application, if_neg (by simp [hroute])]
  case rdoorbell =>
    have hx : exec (.intcRdoorbell d m w) s =
        .next (s.when (s.pairsRun d && (m == d || s.pairsRun m && s.bridgeWay m d)) (·.remoteDoorbell d m w.toNat)).settle := doneIf_present (by simp [hd, hm])
    have hframe := State.eq_mix (execIntcRdoorbell_rest (fs := 2199560142848) (by decide) d m w s hx)
    have hring : (m = d ∨ s.pairsRun m = true ∧ s.bridgeWay m d = true) → exec (.intcRdoorbell d m w) s = .next (s.remoteDoorbell d m w.toNat).settle := fun h => by
      rw [hx, State.when, if_pos (by simpa [hp] using h)]
    by_cases hway : m = d ∨ s.pairsRun m = true ∧ s.bridgeWay m d = true
    · rw [State.when, if_pos (by simpa [hp] using hway)] at hx hframe
      refine State.leads_of_exec hx ⟨fun hmd => ⟨?_, ?_⟩, fun hmd _ _ k hk hroute => ⟨fun hpend hact => ?_, fun hbusy => ?_⟩, fun hmd hroute => ?_, fun hmd hno => ?_,
        State.settle_intcElse (State.remoteDoorbell_intcElse s d m _), hframe⟩
      · subst hmd; rw [State.intcTarget_settle, State.remoteDoorbell_own, State.intcTarget_updIntc]
      · subst hmd; rw [State.intcTarget_settle, State.remoteDoorbell_own, State.intcTarget_updIntc_other s _ (by decide)]
      · have hrung : (s.remoteDoorbell d m w.toNat).intcTarget d k = (s.intcTarget d k).rung m w.toNat := by
          obtain rfl | rfl : k = 0 ∨ k = 1 := by omega
          · exact State.remoteDoorbell_runtime _ hmd
          · rw [State.remoteDoorbell_application _ hmd, if_pos (hroute rfl)]
        rw [State.intcTarget_settle, hrung]
        simp [IntcTarget.rung, hpend, hact]
      · have hrung : (s.remoteDoorbell d m w.toNat).intcTarget d k = (s.intcTarget d k).rung m w.toNat := by
          obtain rfl | rfl : k = 0 ∨ k = 1 := by omega
          · exact State.remoteDoorbell_runtime _ hmd
          · rw [State.remoteDoorbell_application _ hmd, if_pos (hroute rfl)]
        rw [State.intcTarget_settle, hrung]
        simp [IntcTarget.rung, hbusy]
      · rw [State.intcTarget_settle, State.remoteDoorbell_application _ hmd, if_neg (by simp [hroute])]
      · obtain ⟨h1, h2⟩ := hway.resolve_left hmd
        simp [h1, h2] at hno
    · obtain ⟨hmd, hno⟩ := not_or.mp hway
      rw [State.when, if_neg (by simpa [hp, hmd] using hno)] at hx hframe
      refine State.leads_of_exec hx ⟨fun h => absurd h hmd, fun _ h1 h2 => absurd ⟨h1, h2⟩ hno, fun _ _ => State.intcTarget_settle s d 1, fun _ _ => State.settle_intc s,
        fun n k _ _ => State.intcTarget_settle s n k, hframe⟩
  case setpend =>
    have hx : exec (.intcSetpend d word w) s = .next (s.when (word < 8) (·.setPending d word w.toNat)).settle := State.onDie_runs hd hp _
    rw [State.when, if_pos (by simpa using hword)] at hx
    refine State.leads_of_exec hx ⟨fun b hb hw hpend hact => ?_, fun b hb hw hbusy => ?_, fun k hk => ⟨?_, ?_⟩, ?_, State.settle_intcElse (State.foldl_fire_intcElse _ s),
      State.eq_mix (execIntcSetpend_rest (fs := 2199560142848) (by decide) d word w s hx)⟩
    · rw [State.intcTarget_settle, State.setPending_pend, if_pos ⟨by omega, by rw [bitAt_toNat, show (32 * word + b) % 32 = b by omega, hw]⟩,
        IntcTarget.fired_of_free hpend hact]
      simp
    · rw [State.intcTarget_settle, State.setPending_lost, if_pos ⟨by omega, by rw [bitAt_toNat, show (32 * word + b) % 32 = b by omega, hw]⟩,
        IntcTarget.fired_of_busy hbusy]
      simp
    · rw [State.intcTarget_settle, State.setPending_pend, if_neg]
      rw [bitAt_toNat]
      rintro ⟨h1, h2⟩
      simp [h1, h2] at hk
    · rw [State.intcTarget_settle, State.setPending_lost, if_neg]
      rw [bitAt_toNat]
      rintro ⟨h1, h2⟩
      simp [h1, h2] at hk
    · rw [State.intcTarget_settle]
      exact State.foldl_fire_runtime _ s

end Sys2Proof.Machine
end

section
/-! Queue pairs under their consumer (R340, R414, R416, R417). -/

namespace Sys2Proof.Machine
open Sys2Proof
set_option Elab.async false

/-! ### Queue pairs after an update -/

theorem State.qp_of_apps {s t : State} (h : t.apps = s.apps) (n k : Nat) : t.qp n k = s.qp n k := by rw [State.qp, State.qp, State.app_of_apps h]

@[simp] theorem State.qp_settle (s : State) (n k : Nat) : s.settle.qp n k = s.qp n k := State.qp_of_apps (State.settle_apps s) n k

theorem App.qp_setQp_other (a : App) {k j : Nat} (q : Qp) (h : j ≠ k) : (a.setQp k q).qp j = a.qp j := mget_mset_other _ _ _ h

/-- An update of a die's pair that sets one queue pair, whatever else it changes, leaves every other. -/
theorem State.updApp_qpsElse (s : State) {d k : Nat} {f : App → App} (h : ∀ a j, j ≠ k → (f a).qp j = a.qp j) : (s.updApp d f).qpsElse s d k := by
  intro m j hmj
  by_cases e : m = d
  · subst e
    rw [State.qp, State.app_updApp, h _ _ (hmj.resolve_left (by simp))]; rfl
  · rw [State.qp, State.app_updApp_other s f e]; rfl

theorem State.updQp_qpsElse (s : State) (d k : Nat) (f : Qp → Qp) : (s.updQp d k f).qpsElse s d k :=
  State.updApp_qpsElse s fun a _ hj => App.qp_setQp_other a _ hj

theorem State.qpsElse_trans {s t u : State} {d k : Nat} (h : u.qpsElse t d k) (ht : t.qpsElse s d k) : u.qpsElse s d k := fun m j hmj => (h m j hmj).trans (ht m j hmj)

theorem State.qpsElse_of_apps {s t u : State} {d k : Nat} (h : u.apps = t.apps) (ht : t.qpsElse s d k) : u.qpsElse s d k :=
  fun m j hmj => (State.qp_of_apps h m j).trans (ht m j hmj)

theorem State.settle_qpsElse {s t : State} {d k : Nat} (h : t.qpsElse s d k) : t.settle.qpsElse s d k := State.qpsElse_of_apps (State.settle_apps t) h

theorem State.raiseSource_apps (s : State) (n src : Nat) : (s.raiseSource n src).apps = s.apps := State.keep_apps (by simp)

/-- A source raised under a condition reaches no application pair's own state. -/
theorem State.when_raiseSource_apps (s : State) (c : Bool) (n src : Nat) : (s.when c (·.raiseSource n src)).apps = s.apps := by
  unfold State.when
  split
  · exact State.raiseSource_apps s n src
  · rfl

theorem State.txFalls_apps (s : State) (n k : Nat) : (s.txFalls n k).apps = s.apps := State.when_raiseSource_apps s _ n _

/-! ### Enabling and disabling (R417) -/

/-- Whether EN is refused follows from the ring's own registers, the dictionary and the placement. -/
theorem State.qpBad_congr {s t : State} {n k : Nat} (hv : t.variant = s.variant) (ho : t.od = s.od) (hs : t.sumac = s.sumac)
    (hring : ((t.qp n k).rxBase, (t.qp n k).rxSize, (t.qp n k).txBase, (t.qp n k).txSize, (t.qp n k).rxMarks, (t.qp n k).txMarks) =
      ((s.qp n k).rxBase, (s.qp n k).rxSize, (s.qp n k).txBase, (s.qp n k).txSize, (s.qp n k).rxMarks, (s.qp n k).txMarks)) : t.qpBad n k = s.qpBad n k := by
  simp only [Prod.mk.injEq] at hring
  obtain ⟨h1, h2, h3, h4, h5, h6⟩ := hring
  have hcap : t.capActive n = s.capActive n := by simp [State.capActive, State.cfgOn, State.cfg, State.cfgRow, State.placementOf, hv, ho, hs]
  have hcfg : ∀ e, t.cfg e = s.cfg e := fun e => by simp [State.cfg, State.cfgRow, hv, ho]
  simp only [State.qpBad, h1, h2, h3, h4, h5, h6, hcap, hcfg]

theorem State.updQp_congr {s : State} {n k : Nat} {f g : Qp → Qp} (h : f (s.qp n k) = g (s.qp n k)) : s.updQp n k f = s.updQp n k g := by
  rw [State.updQp, State.updQp, State.updApp, State.updApp]
  exact congrArg (fun q => s.setApp n ((s.app n).setQp k q)) h

theorem State.qpStart_qp (s : State) (n k : Nat) : (s.qpStart n k).qp n k =
    if s.qpBad n k = true then { s.qp n k with blk := { (s.qp n k).blk with en := false, cfgBad := true } }
    else { (s.qp n k).cleared with blk := { (s.qp n k).blk with en := true } } := by
  unfold State.qpStart
  split
  · rw [State.qp_updQp]
  · rw [State.qp_updQp, State.qp_of_apps (State.txFalls_apps s n k)]

theorem State.qpStart_qpsElse (s : State) (n k : Nat) : (s.qpStart n k).qpsElse s n k := by
  unfold State.qpStart
  split
  · exact State.updQp_qpsElse s n k _
  · exact State.qpsElse_trans (State.updQp_qpsElse _ n k _) (State.qpsElse_of_apps (State.txFalls_apps s n k) fun _ _ _ => rfl)

/-- The bits of a QP_CTRL word with the fields as they stand. -/
theorem Qp.ctrlWord_bits (q : Qp) (en : Bool) : bitAt (q.ctrlWord en) 0 = en ∧ bitAt (q.ctrlWord en) 1 = q.txIe ∧ bitAt (q.ctrlWord en) 2 = q.holdIe ∧
    bitAt (q.ctrlWord en) 3 = q.itemIe := by
  have h : ∀ a b c e : Bool, bitAt (flag a 3 + flag b 2 + flag c 1 + flag e 0) 0 = e ∧ bitAt (flag a 3 + flag b 2 + flag c 1 + flag e 0) 1 = c ∧
      bitAt (flag a 3 + flag b 2 + flag c 1 + flag e 0) 2 = b ∧ bitAt (flag a 3 + flag b 2 + flag c 1 + flag e 0) 3 = a := by decide
  exact h _ _ _ _

/-- What a QP_CTRL word that is not ignored makes of the block, before it starts or stops. -/
def Qp.withBlock (q : Qp) (b : Block) : Qp := { q with blk := b }

theorem State.qpCtrl_enable {s : State} {n k : Nat} (hp : (s.qp n k).blk.parErr = false) (he : (s.qp n k).blk.en = false) (hd : (s.qp n k).blk.disabling = false) :
    s.qpCtrl n k ((s.qp n k).ctrlWord true) = (s.updQp n k (·.withBlock { (s.qp n k).blk with en := true })).qpStart n k := by
  obtain ⟨h0, h1, h2, h3⟩ := (s.qp n k).ctrlWord_bits true
  simp only [State.qpCtrl, h0, h1, h2, h3, Block.ctrl, hp, he, hd, bne_self_eq_false, Bool.or_self, Bool.and_false, Bool.false_eq_true, if_true, if_false]
  exact congrArg (State.qpStart · n k) (State.updQp_congr rfl)

theorem State.qpCtrl_disable {s : State} {n k : Nat} (he : (s.qp n k).blk.en = true) :
    s.qpCtrl n k ((s.qp n k).ctrlWord false) = s.updQp n k (·.withBlock { (s.qp n k).blk with en := false, again := false, disabling := true }) := by
  obtain ⟨h0, h1, h2, h3⟩ := (s.qp n k).ctrlWord_bits false
  simp only [State.qpCtrl, h0, h1, h2, h3, Block.ctrl, he, Bool.false_eq_true, if_true, if_false]
  exact State.updQp_congr rfl

/-! ### The end of DISABLING (R399, R417) -/

/-- A queue pair whose rings have been emptied and that is not DISABLING any more. -/
def Qp.ended (q : Qp) : Qp :=
  { q with rxRd := q.rxWr, rxRel := q.rxWr, rxMk := q.rxWr, txTaken := q.txWr, rxHold := false, txHi := false, discard := 0,
           blk := { q.blk with disabling := false, again := false } }

theorem sub32_self (a : Nat) : sub32 a a = 0 := by
  unfold sub32; omega

theorem Qp.ended_held (q : Qp) : q.ended.rxHeld = 0 ∧ q.ended.txHeld = 0 := ⟨sub32_self _, sub32_self _⟩
theorem Qp.cleared_held (q : Qp) (b : Block) : ({ q.cleared with blk := b } : Qp).rxHeld = 0 ∧ ({ q.cleared with blk := b } : Qp).txHeld = 0 := ⟨sub32_self _, sub32_self _⟩

/-- The state after the rings have been emptied, before a pending re-enable. -/
def State.qpStopped (s : State) (n k : Nat) : State :=
  (s.qpEmptied n k).updQp n k (fun q => { q with blk := { q.blk with disabling := false, again := false } })

theorem State.qpEnd_eq {s : State} {n k : Nat} (h : (s.qp n k).blk.disabling = true) :
    s.qpEnd n k = (s.qpStopped n k).when (s.qp n k).blk.again (·.qpStart n k) := by
  simp [State.qpEnd, h, State.qpStopped]

theorem State.qpEmptied_apps (s : State) (n k : Nat) : (s.qpEmptied n k).apps =
    (s.updQp n k (fun q => { q with rxRd := q.rxWr, rxRel := q.rxWr, rxMk := q.rxWr, txTaken := q.txWr, rxHold := false, txHi := false, discard := 0 })).apps :=
  State.when_raiseSource_apps _ _ n _

theorem State.qpStopped_qp (s : State) (n k : Nat) : (s.qpStopped n k).qp n k = (s.qp n k).ended := by
  rw [State.qpStopped, State.qp_updQp, State.qp_of_apps (State.qpEmptied_apps s n k), State.qp_updQp]; rfl

theorem State.qpStopped_qpsElse (s : State) (n k : Nat) : (s.qpStopped n k).qpsElse s n k :=
  State.qpsElse_trans (State.updQp_qpsElse _ n k _) (State.qpsElse_of_apps (State.qpEmptied_apps s n k) (State.updQp_qpsElse s n k _))

theorem State.qpStopped_qpBad (s : State) (n k : Nat) : (s.qpStopped n k).qpBad n k = s.qpBad n k :=
  State.qpBad_congr (State.keep_variant (by simp [State.qpStopped])) (State.keep_od (by simp [State.qpStopped])) (State.keep_sumac (by simp [State.qpStopped]))
    (by rw [State.qpStopped_qp]; rfl)

theorem State.qpEnd_qpsElse {s : State} {n k : Nat} (h : (s.qp n k).blk.disabling = true) : (s.qpEnd n k).qpsElse s n k := by
  rw [State.qpEnd_eq h]
  unfold State.when
  split
  · exact State.qpsElse_trans (State.qpStart_qpsElse _ n k) (State.qpStopped_qpsElse s n k)
  · exact State.qpStopped_qpsElse s n k

theorem State.qpEnd_qp {s : State} {n k : Nat} (h : (s.qp n k).blk.disabling = true) : (s.qpEnd n k).qp n k =
    if (s.qp n k).blk.again = true then
      (if s.qpBad n k = true then { (s.qp n k).ended with blk := { (s.qp n k).ended.blk with en := false, cfgBad := true } }
        else { (s.qp n k).ended.cleared with blk := { (s.qp n k).ended.blk with en := true } })
    else (s.qp n k).ended := by
  rw [State.qpEnd_eq h]
  unfold State.when
  split
  · rw [State.qpStart_qp, State.qpStopped_qpBad, State.qpStopped_qp]
  · rw [State.qpStopped_qp]

/-! ### Positions (R340, R416) -/

theorem State.qpFlow_qp (s : State) (n k : Nat) : (s.qpFlow n k).qp n k = { s.qp n k with
    rxHold := watermark (s.qp n k).rxHold (s.qp n k).rxHeld (s.qp n k).rxMarks, txHi := watermark (s.qp n k).txHi (s.qp n k).txHeld (s.qp n k).txMarks } := by
  simp only [State.qpFlow]
  rw [State.qp_of_apps (State.when_raiseSource_apps _ _ n _), State.qp_updQp]

theorem State.qpFlow_qpsElse (s : State) (n k : Nat) : (s.qpFlow n k).qpsElse s n k := by
  simp only [State.qpFlow]
  exact State.qpsElse_of_apps (State.when_raiseSource_apps _ _ n _) (State.updQp_qpsElse s n k _)

theorem watermark_low {held marks : Nat} (was : Bool) (hlow : held ≤ bitsOf marks 15 0) (hhigh : held < bitsOf marks 31 16) : watermark was held marks = false := by
  simp [watermark, Nat.not_le.mpr hhigh, hlow]

theorem State.qpRewind_apps (s : State) (n k : Nat) : (s.qpRewind n k).apps = (s.updQp n k Qp.rewind).apps := State.when_raiseSource_apps _ _ n _

theorem App.word_setWord (a : App) (i v : Nat) : (a.setWord i v).word i = v % 2 ^ 32 := mget_mset_same 0 _ i _
theorem App.word_setWord_other (a : App) {i j : Nat} (v : Nat) (h : j ≠ i) : (a.setWord i v).word j = a.word j := mget_mset_other 0 _ _ h

/-- A push where the ring has a free word: the word is stored and the write position advances. -/
theorem State.txPush_stored {s : State} {n k : Nat} (v : Nat) (hd : (s.qp n k).discard = 0) (hfull : (s.qp n k).txHeld ≠ (s.qp n k).txSize) :
    s.txPush n k v = (s.updApp n (fun a => (a.setWord (ringWord (s.qp n k).txBase (s.qp n k).txSize (s.qp n k).txWr) v).setQp k
      { s.qp n k with txWr := add32 (s.qp n k).txWr 1 })).qpFlow n k := by
  simp [State.txPush, hd, hfull, App.ringStore]

theorem State.txPush_full {s : State} {n k : Nat} (v : Nat) (hd : (s.qp n k).discard = 0) (hfull : (s.qp n k).txHeld = (s.qp n k).txSize) :
    s.txPush n k v = (s.updQp n k (fun q => { q with txOvr := true })).when ((s.qp n k).txIe && !(s.qp n k).txOvr) (·.raiseSource n (16 + k)) := by
  simp [State.txPush, hd, hfull]

theorem State.txPush_discard {s : State} {n k : Nat} (v : Nat) (hd : 0 < (s.qp n k).discard) :
    s.txPush n k v = s.updQp n k (fun q => { q with discard := q.discard - 1, txWr := add32 q.txWr 1, txTaken := add32 q.txTaken 1 }) := by
  simp [State.txPush, hd]

theorem State.txPush_qpsElse (s : State) (n k v : Nat) : (s.txPush n k v).qpsElse s n k := by
  unfold State.txPush
  dsimp only
  split
  · exact State.updQp_qpsElse s n k _
  · split
    · exact State.qpsElse_of_apps (State.when_raiseSource_apps _ _ n _) (State.updQp_qpsElse s n k _)
    · exact State.qpsElse_trans (State.qpFlow_qpsElse _ n k) (State.updApp_qpsElse s fun a _ hj => App.qp_setQp_other _ _ hj)

theorem State.qpFlow_app_word (s : State) (n k i : Nat) : ((s.qpFlow n k).app n).word i = (s.app n).word i := by
  simp only [State.qpFlow]
  rw [State.app_of_apps (State.when_raiseSource_apps _ _ n _), State.updQp, State.app_updApp]; rfl

/-! ### The commands -/

theorem State.onQp_runs {s : State} {d k : Nat} (hd : s.variant.hasDie d = true) (hp : s.pairsRun d = true) (hk : k < 16) (f : State → State) :
    s.onQp d k f = .next (f s).settle := by
  rw [State.onQp, State.onDie_runs hd hp, State.when, if_pos (by simpa using hk)]

/-- Settles O54: each command is its operation on one queue pair. -/
theorem queuePairRegisters : Obligations.QueuePairRegisters := by
  unfold Obligations.QueuePairRegisters
  intro s d k hd hp hk
  refine ⟨fun hpe he hdis => ?enable, fun he => ?disable, fun hdis => ?disablingEnd, fun w => ?adv, ?mark, ?rewind, ?release, fun w => ?push, ?errs⟩
  case enable =>
    have hx : exec (.qpEnable d k) s = .next (s.qpCtrl d k ((s.qp d k).ctrlWord true)).settle := State.onQp_runs hd hp hk _
    rw [State.qpCtrl_enable hpe he hdis] at hx
    refine State.leads_of_exec hx ⟨?_, State.settle_qpsElse (State.qpsElse_trans (State.qpStart_qpsElse _ d k) (State.updQp_qpsElse s d k _)),
      State.eq_mix (execQpEnable_rest (fs := 2200633884672) (by decide) d k s hx)⟩
    have hbad : (s.updQp d k (·.withBlock { (s.qp d k).blk with en := true })).qpBad d k = s.qpBad d k :=
      State.qpBad_congr rfl rfl rfl (by rw [State.qp_updQp]; rfl)
    rw [State.qp_settle, State.qpStart_qp, hbad, State.qp_updQp]
    split <;> rfl
  case disable =>
    have hx : exec (.qpDisable d k) s = .next (s.qpCtrl d k ((s.qp d k).ctrlWord false)).settle := State.onQp_runs hd hp hk _
    rw [State.qpCtrl_disable he] at hx
    refine State.leads_of_exec hx ⟨?_, State.settle_qpsElse (State.updQp_qpsElse s d k _), State.eq_mix (execQpDisable_rest (fs := 2200633884672) (by decide) d k s hx)⟩
    rw [State.qp_settle, State.qp_updQp]; rfl
  case disablingEnd =>
    have hx : exec (.qpDisablingEnd d k) s = .next (s.qpEnd d k).settle := State.onQp_runs hd hp hk _
    refine State.leads_of_exec hx ⟨?_, ?_, ?_, fun ha => ?_, fun ha hb => ?_, State.settle_qpsElse (State.qpEnd_qpsElse hdis),
      State.eq_mix (execQpDisablingEnd_rest (fs := 2200633884672) (by decide) d k s hx)⟩
    · rw [State.qp_settle, State.qpEnd_qp hdis]
      split
      · split <;> rfl
      · rfl
    · rw [State.qp_settle, State.qpEnd_qp hdis]
      split
      · split
        · exact (Qp.ended_held _).1
        · exact (Qp.cleared_held _ _).1
      · exact (Qp.ended_held _).1
    · rw [State.qp_settle, State.qpEnd_qp hdis]
      split
      · split
        · exact (Qp.ended_held _).2
        · exact (Qp.cleared_held _ _).2
      · exact (Qp.ended_held _).2
    · rw [State.qp_settle, State.qpEnd_qp hdis, if_neg (by simp [ha])]; rfl
    · rw [State.qp_settle, State.qpEnd_qp hdis, if_pos ha, if_neg (by simp [hb])]
  case adv =>
    have hx : exec (.qpRxadv d k w) s = .next (s.updQp d k (·.advance (w.toNat % 65536))).settle := State.onQp_runs hd hp hk _
    refine State.leads_of_exec hx ⟨?_, State.settle_qpsElse (State.updQp_qpsElse s d k _), State.eq_mix (execQpRxadv_rest (fs := 2200097013760) (by decide) d k w s hx)⟩
    rw [State.qp_settle, State.qp_updQp, Qp.advance]; rfl
  case mark =>
    have hx : exec (.qpMark d k) s = .next (s.updQp d k Qp.mark).settle := State.onQp_runs hd hp hk _
    refine State.leads_of_exec hx ⟨?_, State.settle_qpsElse (State.updQp_qpsElse s d k _), State.eq_mix (execQpMark_rest (fs := 2200097013760) (by decide) d k s hx)⟩
    rw [State.qp_settle, State.qp_updQp]; rfl
  case rewind =>
    have hx : exec (.qpRewind d k) s = .next (s.qpRewind d k).settle := State.onQp_runs hd hp hk _
    refine State.leads_of_exec hx ⟨?_, State.settle_qpsElse (State.qpsElse_of_apps (State.qpRewind_apps s d k) (State.updQp_qpsElse s d k _)),
      State.eq_mix (execQpRewind_rest (fs := 2200633884672) (by decide) d k s hx)⟩
    rw [State.qp_settle, State.qp_of_apps (State.qpRewind_apps s d k), State.qp_updQp]; rfl
  case release =>
    have hx : exec (.qpRelease d k) s = .next ((s.updQp d k Qp.release).qpFlow d k).settle := State.onQp_runs hd hp hk _
    refine State.leads_of_exec hx ⟨?_, ?_, ?_, ?_, ?_, State.settle_qpsElse (State.qpsElse_trans (State.qpFlow_qpsElse _ d k) (State.updQp_qpsElse s d k _)),
      State.eq_mix (execQpRelease_rest (fs := 2200633884672) (by decide) d k s hx)⟩
    all_goals rw [State.qp_settle, State.qpFlow_qp, State.qp_updQp]
    · rfl
    · rfl
    · rfl
    · rfl
    · exact fun hlow hhigh => watermark_low _ hlow hhigh
  case push =>
    have hx : exec (.qpTxpush d k w) s = .next (s.txPush d k w.toNat).settle := State.onQp_runs hd hp hk _
    refine State.leads_of_exec hx ⟨fun hdisc => ?_, fun hdisc hfull => ?_, fun hdisc hfull => ⟨?_, ?_, ?_, fun a ha => ?_⟩, State.settle_qpsElse (State.txPush_qpsElse s d k _),
      State.eq_mix (execQpTxpush_rest (fs := 2200633884672) (by decide) d k w s hx)⟩
    · rw [State.qp_settle, State.txPush_discard _ hdisc, State.qp_updQp]
      exact ⟨rfl, rfl, rfl⟩
    · rw [State.qp_settle, State.txPush_full _ hdisc hfull, State.qp_of_apps (State.when_raiseSource_apps _ _ d _), State.qp_updQp]
    · rw [State.qp_settle, State.txPush_stored _ hdisc hfull, State.qpFlow_qp, State.qp, State.app_updApp, App.qp_setQp]; rfl
    · rw [State.qp_settle, State.txPush_stored _ hdisc hfull, State.qpFlow_qp, State.qp, State.app_updApp, App.qp_setQp]
    · rw [State.app_settle, State.txPush_stored _ hdisc hfull, State.qpFlow_app_word, State.app_updApp]
      exact (App.word_setWord _ _ _).trans (Nat.mod_eq_of_lt w.isLt)
    · rw [State.app_settle, State.txPush_stored _ hdisc hfull, State.qpFlow_app_word, State.app_updApp]
      exact App.word_setWord_other _ _ ha
  case errs =>
    have hx : exec (.qpTxerrRead d k) s = .next ((s.updQp d k (fun q => { q with txErrs := 0 })).give d 1 (0x4001004C + 0x100 * k) (s.qp d k).txErrs).settle :=
      State.onQp_runs hd hp hk _
    refine State.leads_of_exec hx ⟨?_, ?_, State.settle_qpsElse (State.qpsElse_of_apps rfl (State.updQp_qpsElse s d k (fun q => { q with txErrs := 0 }))),
      State.eq_mix (execQpTxerrRead_rest (fs := 10996190035968) (by decide) d k s hx)⟩
    · rw [State.settle_out]; rfl
    · rw [State.qp_settle]; exact State.qp_updQp s d k (fun q => { q with txErrs := 0 })
end Sys2Proof.Machine
end

section
/-! A read that has lost its way while its core waits for a fence (R35, R423, R424). -/

namespace Sys2Proof.Machine
open Sys2Proof
set_option Elab.async false

/-- D1 and D2 run with every link end of D2 failed; D1's core has a read of D2 that was NACKed once, and waits for its fence. -/
def fencingReadState : State :=
  { State.reset with
    power := { State.reset.power with mode := .run }
    dies := [(1, { image := true, inReset := false, supplied := true, runtimeUp := true, state := 1 }),
      (2, { image := true, inReset := false, supplied := true, runtimeUp := true, state := 1 })]
    links := [(4, { failed := true }), (5, { failed := true }), (6, { failed := true }), (7, { failed := true })]
    apps := [(1, { bridge := { cores := [(1, { read := some ⟨2, 0, 0, 0, .nacked 1⟩, fencing := true })] } })] }

/-- The next attempt finds no way, and the fence, with no posted write before it, is answered. -/
theorem fencingReadState_out : (fencingReadState.nackRetry 1 true).out.length = 1 := by decide +kernel

/-- Refutes O57: the attempt that ends without a way is said to answer nothing, but a fence that waits is answered with it. -/
theorem not_bridgeTransfers : ¬ Obligations.BridgeTransfers := by
  unfold Obligations.BridgeTransfers
  intro h
  obtain ⟨-, -, -, -, -, -, -, -, -, -, -, -, -, hlost⟩ := h fencingReadState 1 (by decide) (by decide +kernel)
  have hx : exec (.bridgeNackRetry 1 true) fencingReadState = .next (fencingReadState.nackRetry 1 true).settle := State.onDie_runs (by decide) (by decide +kernel) _
  obtain ⟨-, hout, -, -⟩ := State.of_leads hx (hlost ⟨2, 0, 0, 0, .nacked 1⟩ 1 (by decide +kernel) (by decide +kernel) rfl (by decide +kernel) (by decide +kernel))
  rw [State.settle_out] at hout
  exact absurd (fencingReadState_out.symm.trans (congrArg List.length hout)) (by decide)

end Sys2Proof.Machine
end

section
/-! A parity fault of a LIN port that waits to take a new role (R133, R134). -/

namespace Sys2Proof.Machine
open Sys2Proof
set_option Elab.async false

/-- The LIN port in slot 8 is enabled and holds on to the role of a responder until it can take the commander's, which a commit has given it. -/
def keptRoleState : State :=
  ((({ State.reset with
    power := { State.reset.power with mode := .run }
    dies := mset {} State.reset.dies 1 { image := true, inReset := false, supplied := true, runtimeUp := true, state := 1 }
    ports := [(8, { kept := [(E.portLinRole + 8 * 256, 1)], reconfigure := true })] }.setCfg (E.portCanEnable + 8 * 256) 1).setCfg (E.portLinRole + 8 * 256) 0).setPortState 8 2)

/-- The rewritten port passes through ENABLING with its new role, and a commander is up at once. -/
theorem keptRoleState_portState : (keptRoleState.configParity 8).portState 8 = 2 := by decide +kernel

/-- Refutes O60: which state an enabled LIN port returns to follows from the role that it takes with the rewrite, not from the one that it held on to. -/
theorem not_portParityAndScan : ¬ Obligations.PortParityAndScan := by
  unfold Obligations.PortParityAndScan
  intro h
  obtain ⟨hparity, -⟩ := h keptRoleState
  have hx : exec (.configParityFault 8) keptRoleState = .next (keptRoleState.configParity 8).settle := doneIf_when (by decide) (by decide +kernel)
  obtain ⟨-, -, -, hfirst, -⟩ := State.of_leads hx (hparity 8 (by decide) (by decide +kernel) (by decide +kernel))
  obtain ⟨-, hstate⟩ := hfirst (by decide +kernel) (by decide +kernel) (by decide +kernel)
  rw [State.portState_settle, keptRoleState_portState] at hstate
  exact absurd hstate (by decide +kernel)

end Sys2Proof.Machine
end

section
/-! Pause at an Ethernet port: ends, storms, penalties and refreshes (R154 to R157). -/

namespace Sys2Proof.Machine
open Sys2Proof
set_option Elab.async false

@[simp] theorem State.port_setSlot (s : State) (e slot v k : Nat) : (s.setSlot e slot v).port k = s.port k := by
  simp only [State.port, State.keep_ports (s := s) (t := s.setSlot e slot v) (by simp)]

@[simp] theorem State.port_countSlot (s : State) (e slot n k : Nat) : (s.countSlot e slot n).port k = s.port k := by
  simp only [State.port, State.keep_ports (s := s) (t := s.countSlot e slot n) (by simp)]

@[simp] theorem State.port_raisePort (s : State) (slot k : Nat) : (s.raisePort slot).port k = s.port k := by
  simp only [State.port, State.keep_ports (s := s) (t := s.raisePort slot) (by simp)]

@[simp] theorem State.port_portEvidence (s : State) (slot cause cls n k : Nat) : (s.portEvidence slot cause cls n).port k = s.port k := by
  simp only [State.port, State.keep_ports (s := s) (t := s.portEvidence slot cause cls n) (by simp)]

@[simp] theorem State.port_setHeld (s : State) (slot v : Nat) : (s.setHeld slot v).port slot = { s.port slot with pauseHeld := v } := by simp [State.setHeld]

@[simp] theorem State.pausedClasses_setHeld (s : State) (slot v : Nat) : (s.setHeld slot v).stSlot E.portEthPausedClasses slot = v := by simp [State.setHeld]

/-- Taking bits out one by one leaves the bits that no member of the list names. -/
theorem bitAt_foldl_clear (f : Nat → Bool) (l : List Nat) (v i : Nat) :
    bitAt (l.foldl (fun v c => if f c then clearBit v c else v) v) i = (bitAt v i && !(l.contains i && f i)) := by
  induction l generalizing v with
  | nil => simp
  | cons c l ih =>
    rw [List.foldl_cons, ih]
    by_cases hc : c = i
    · subst hc
      cases hf : f c <;> simp [bitAt_clearBit_same]
    · have hkeep : bitAt (if f c then clearBit v c else v) i = bitAt v i := by
        split
        · exact bitAt_clearBit_of_ne (Ne.symm hc)
        · rfl
      rw [hkeep]
      simp [Ne.symm hc]

/-- The pause that ends frees the classes of its vector that no penalty holds (R155). -/
theorem State.pauseClasses_free_bit (s : State) (slot classes : Nat) {i : Nat} (hi : i < 8) :
    bitAt ((s.pauseClasses slot classes false).port slot).pauseHeld i =
      (bitAt (s.port slot).pauseHeld i && !(bitAt classes i && !bitAt (s.port slot).penalty i)) := by
  have hfold := bitAt_foldl_clear (fun c => bitAt classes c && !bitAt (s.port slot).penalty c) (List.range 8) (s.port slot).pauseHeld i
  simp only [State.pauseClasses, State.port_setHeld, Bool.false_eq_true, if_false, hfold]
  simp [hi]

theorem State.pausedClasses_pauseClasses (s : State) (slot classes : Nat) (hold : Bool) :
    (s.pauseClasses slot classes hold).stSlot E.portEthPausedClasses slot = ((s.pauseClasses slot classes hold).port slot).pauseHeld := by
  simp [State.pauseClasses]

/-- What a storm leaves of the pause state: the hold ended and the penalty begun (R156). -/
theorem State.port_pauseStorm (s : State) (slot c : Nat) :
    (s.pauseStorm slot c).port slot = { s.port slot with
      pauseHeld := if s.cfgSlot E.portEthRxPauseMode slot == 1 then 0 else clearBit (s.port slot).pauseHeld c
      penalty := if s.cfgSlot E.portEthRxPauseMode slot == 1 then 0xFF else setBit (s.port slot).penalty c } := by
  simp [State.pauseStorm]

/-- The pause frame of a port that asks its partner to hold the classes under back-pressure (R157). -/
def State.refreshFrame (s : State) (k : Nat) : Bytes :=
  pauseFrame (s.cfgSlot E.portEthMacAddress k) (s.cfgSlot E.portEthTxPauseMode k == 2) (s.prioVec k (s.port k).asserted) (s.cfgSlot E.portEthTxPauseQuanta k)

theorem State.sends_of_ethOnLink {s : State} {k : Nat} (h : s.ethOnLink k = true) : (!(s.port k).linkUp || !(s.portState k == 2 || s.portState k == 3)) = false := by
  obtain ⟨⟨-, hup⟩, hstate⟩ : (s.ethPort k = true ∧ (s.port k).linkUp = true) ∧ (s.portState k == 2 || s.portState k == 3) = true := by
    simpa [State.ethOnLink] using h
  simp [hup, hstate]

theorem State.sendPause_idle {s : State} {k : Nat} (h : s.ethOnLink k = true) (hidle : s.sendingRow k = none) :
    s.sendPause k (s.prioVec k (s.port k).asserted) (s.cfgSlot E.portEthTxPauseQuanta k) = s.emitPause k (s.refreshFrame k) := by
  simp only [State.sendPause, State.sends_of_ethOnLink h, hidle]
  rfl

theorem State.sendPause_busy {s : State} {k : Nat} (h : s.ethOnLink k = true) (hbusy : (s.sendingRow k).isSome = true) :
    s.sendPause k (s.prioVec k (s.port k).asserted) (s.cfgSlot E.portEthTxPauseQuanta k) = s.updPort k (fun p => { p with pauseOut := p.pauseOut ++ [s.refreshFrame k] }) := by
  simp only [State.sendPause, State.sends_of_ethOnLink h, hbusy]
  rfl

/-- A refresh of an asserted class on a port with its link runs (R157). -/
theorem exec_pauseRefresh {s : State} {k c : Nat} (hunit : (s.variant.hasSlot k && isEth k) = true) (hlink : s.ethOnLink k = true) (ha : bitAt (s.port k).asserted c = true) :
    exec (.pauseRefresh k c) s = .next (s.sendPause k (s.prioVec k (s.port k).asserted) (s.cfgSlot E.portEthTxPauseQuanta k)).settle :=
  doneIf_when (f := fun s => s.sendPause k (s.prioVec k (s.port k).asserted) (s.cfgSlot E.portEthTxPauseQuanta k)) hunit (by simp [hlink, ha])

/-- Settles O31: each command is one operation on the port, whose pause fields the lemmas above give. -/
theorem pauseAndPenalties : Obligations.PauseAndPenalties := by
  unfold Obligations.PauseAndPenalties
  intro s k c hslot heth hport
  have hunit : (s.variant.hasSlot k && isEth k) = true := by simp [hslot, heth]
  refine ⟨fun hheld hmode => ?end1, fun hheld hmode => ?end2, fun hheld hhead hmode => ?storm1, fun hheld hhead hmode => ?storm2,
    fun hpen hmode => ?penalty, fun hlink hasserted hidle => ?refresh, fun hlink hasserted hbusy => ?later⟩
  case end1 =>
    have hx : exec (.pauseTimerExpiry k c) s = .next (s.pauseEnd k c).settle := doneIf_when hunit (by simp [hport, hheld])
    have hop : s.pauseEnd k c = s.setHeld k 0 := by simp [State.pauseEnd, hmode]
    refine State.leads_of_exec hx ⟨?_, ?_, State.eq_mix (execPauseTimerExpiry_rest (fs := 2199027466244) (by decide) k c s hx)⟩
    · rw [State.port_settle, hop, State.port_setHeld]
    · rw [State.stSlot_settle, hop, State.pausedClasses_setHeld]
  case end2 =>
    have hx : exec (.pauseTimerExpiry k c) s = .next (s.pauseEnd k c).settle := doneIf_when hunit (by simp [hport, hheld])
    have hop : s.pauseEnd k c = s.pauseClasses k (s.classesOf k (2 ^ s.tcToPcp k c)) false := by simp [State.pauseEnd, hmode]
    refine State.leads_of_exec hx ⟨fun i hi => ?_, ?_, State.eq_mix (execPauseTimerExpiry_rest (fs := 2199027466244) (by decide) k c s hx)⟩
    · rw [State.port_settle, hop, State.pauseClasses_free_bit s k _ hi]
    · rw [State.stSlot_settle, State.port_settle, hop, State.pausedClasses_pauseClasses]
  case storm1 =>
    have hx : exec (.pauseWatchdogExpiry k c) s = .next (s.pauseStorm k c).settle := doneIf_when hunit (by simp [hport, hheld, hhead])
    refine State.leads_of_exec hx ⟨?_, ?_, State.eq_mix (execPauseWatchdogExpiry_rest (fs := 2199564371972) (by decide) k c s hx)⟩ <;>
      rw [State.port_settle, State.port_pauseStorm, hmode] <;> rfl
  case storm2 =>
    have hx : exec (.pauseWatchdogExpiry k c) s = .next (s.pauseStorm k c).settle := doneIf_when hunit (by simp [hport, hheld, hhead])
    refine State.leads_of_exec hx ⟨?_, ?_, State.eq_mix (execPauseWatchdogExpiry_rest (fs := 2199564371972) (by decide) k c s hx)⟩ <;>
      rw [State.port_settle, State.port_pauseStorm, hmode] <;> rfl
  case penalty =>
    have hx : exec (.pausePenaltyEnd k c) s = .next (s.penaltyEnd k c).settle := doneIf_when hunit (by simp [hport, hpen])
    have hone : ((s.port k).penalty == 0xFF && s.cfgSlot E.portEthRxPauseMode k == 1) = false := by
      obtain hm | hp := hmode
      · simp [hm]
      · simp [hp]
    have hop : s.penaltyEnd k c = (s.updPort k (fun p => { p with penalty := clearBit (s.port k).penalty c })).setSlot E.portEthPenaltyActive k (clearBit (s.port k).penalty c) := by
      simp [State.penaltyEnd, hone]
    refine State.leads_of_exec hx ⟨?_, ?_, State.eq_mix (execPausePenaltyEnd_rest (fs := 2199027466244) (by decide) k c s hx)⟩
    · rw [State.port_settle, hop, State.port_setSlot, State.port_updPort]
    · rw [State.stSlot_settle, hop, State.stSlot_setSlot_same]
  case refresh =>
    have hx := exec_pauseRefresh hunit hlink hasserted
    rw [State.sendPause_idle hlink hidle] at hx
    refine State.leads_of_exec hx ⟨?_, ?_, State.eq_mix (fs := 10995116294148) (by simp [State.emitPause])⟩
    · rw [State.stSlot_settle]
      rfl
    · rw [State.settle_out]
      rfl
  case later =>
    have hx := exec_pauseRefresh hunit hlink hasserted
    rw [State.sendPause_busy hlink hbusy] at hx
    refine State.leads_of_exec hx ⟨?_, State.eq_mix (fs := 2199027466240) (by simp)⟩
    rw [State.port_settle, State.port_updPort]
    rfl

end Sys2Proof.Machine
end

section
/-! Learning requests and the sweeper of the forwarding database (R202, R203, R207). -/

namespace Sys2Proof.Machine
open Sys2Proof
set_option Elab.async false

/-! ### Stored maps -/

theorem mfind_mput_other {α : Type} (m : NMap α) {i j : Nat} (v : α) (h : j ≠ i) : mfind (mput m i v) j = mfind m j := by
  induction m with
  | nil => simp [mput, mfind, h]
  | cons kw m ih =>
    obtain ⟨k, w⟩ := kw
    by_cases hik : i = k
    · simp [mput, mfind, ← hik, h]
    · by_cases hlt : i < k
      · have hjk : j < i → j ≠ k ∧ j < k := fun hji => ⟨by omega, by omega⟩
        simp only [mput, hik, hlt, mfind, h, if_false, if_true]
        split
        · next hji => simp [hjk hji]
        · rfl
      · simp only [mput, hik, hlt, mfind, if_false, ih]

/-- Writing a key that a map holds replaces its value in place. -/
theorem length_mput_of_mfind {α : Type} {m : NMap α} {i : Nat} {e : α} (v : α) (h : mfind m i = some e) : (mput m i v).length = m.length := by
  induction m with
  | nil => simp [mfind] at h
  | cons kw m ih =>
    obtain ⟨k, w⟩ := kw
    by_cases hik : i = k
    · simp [mput, hik]
    · by_cases hlt : i < k
      · simp [mfind, hik, hlt] at h
      · simp only [mfind, hik, hlt, if_false] at h
        simp [mput, hik, hlt, ih h]

/-! ### Counters of a die -/

@[simp] theorem State.die_countDie (s : State) (e k c n : Nat) : (s.countDie e k c).die n = s.die n := rfl

theorem State.stDie_countDie (s : State) (e n k : Nat) : (s.countDie e n k).stDie e n = (s.stDie e n + k) % odModulus s.variant (e + (n - 1) * 256) :=
  State.st_set s _ _

theorem State.stDie_countDie_of_ne (s : State) {e f : Nat} (n k : Nat) (h : f ≠ e) : (s.countDie e n k).stDie f n = s.stDie f n :=
  State.st_setRow_of_ne s _ (okey_noRow_ne (by omega))

theorem State.stDie_of_same {s t : State} (hv : t.variant = s.variant) (ho : t.od = s.od) (e n : Nat) : t.stDie e n = s.stDie e n := by
  simp [State.stDie, State.st, State.stRow, hv, ho]

@[simp] theorem State.stDie_settle (s : State) (e n : Nat) : s.settle.stDie e n = s.stDie e n :=
  State.stDie_of_same (State.settle_variant s) (State.settle_od s) e n

/-- A counter counts from what it held, whatever else has happened to the die (Table 6-17). -/
theorem State.stDie_countDie_congr {s t : State} {e n : Nat} (hv : t.variant = s.variant) (h : t.stDie e n = s.stDie e n) :
    (t.countDie e n).stDie e n = (s.countDie e n).stDie e n := by
  simp only [State.stDie_countDie, hv, h]

/-! ### Learning -/

/-- The entry that a learning request makes (R202). -/
def State.learnt (s : State) (r : LearnReq) : FdbEntry := ⟨r.realm, r.mac, r.dest, false, false, true, 0, s.clock.ticks, if r.fabric then 1 else 0⟩

/-- A new station with a free way in its first bucket takes it, with no relocation (R200, R202). -/
theorem State.learn_new {s : State} {n w : Nat} {r : LearnReq} (hf : fdbFind (s.die n).fdb r.realm r.mac = none)
    (hw : fdbFreeWay (s.die n).fdb (fdbH1 r.realm r.mac) = some w) :
    s.learn n r = (s.setFdb n (mput (s.die n).fdb w (s.learnt r)) 0).countDie E.dieCntLearns n := by
  simp [State.learn, hf, fdbInsert, hw, State.learnt]

section known
variable {s : State} {n p : Nat} {r : LearnReq} {e : FdbEntry}

theorem State.learn_static (hf : fdbFind (s.die n).fdb r.realm r.mac = some p) (he : mfind (s.die n).fdb p = some e) (hs : e.isStatic = true) :
    s.learn n r = if e.dest == r.dest || e.lock then s else s.countDie E.dieCntStaticConflict n := by
  simp only [State.learn, hf, he, hs, if_true]

theorem State.learn_same (hf : fdbFind (s.die n).fdb r.realm r.mac = some p) (he : mfind (s.die n).fdb p = some e) (hs : e.isStatic = false) (hd : e.dest = r.dest) :
    s.learn n r = s.updDie n (fun d => { d with fdb := mput (s.die n).fdb p { e with hit := true } }) := by
  simp [State.learn, hf, he, hs, hd]

theorem State.learn_held (hf : fdbFind (s.die n).fdb r.realm r.mac = some p) (he : mfind (s.die n).fdb p = some e) (hs : e.isStatic = false) (hd : e.dest ≠ r.dest)
    (ht : s.clock.ticks / 40 - e.since / 40 < 1000 * s.cfg E.fdbMoveHoldDown) : s.learn n r = s.countDie E.dieCntMoveContention n := by
  simp [State.learn, hf, he, hs, hd, ht]

theorem State.learn_moved (hf : fdbFind (s.die n).fdb r.realm r.mac = some p) (he : mfind (s.die n).fdb p = some e) (hs : e.isStatic = false) (hd : e.dest ≠ r.dest)
    (ht : 1000 * s.cfg E.fdbMoveHoldDown ≤ s.clock.ticks / 40 - e.since / 40) :
    s.learn n r = (s.updDie n (fun d => { d with fdb := mput (s.die n).fdb p (s.learnt r) })).countDie E.dieCntStationMoves n := by
  simp [State.learn, hf, he, hs, hd, Nat.not_lt.mpr ht, State.learnt]

end known

/-- The request at the front of a die's queue is served on the rest of it (R202). -/
theorem exec_learnRequest {s : State} {n : Nat} {r : LearnReq} {rest : List LearnReq} (hn : s.variant.hasDie n = true) (hrun : (s.inRun && s.dieRuns n) = true)
    (hq : (s.die n).learnQ = r :: rest) :
    exec (.learnRequest n) s = .next ((s.updDie n (fun d => { d with learnQ := rest })).learn n r).settle := by
  have hx : exec (.learnRequest n) s = .next (s.learnNext n).settle := doneIf_when hn hrun
  rwa [State.learnNext, hq] at hx

/-! ### The sweeper -/

/-- What the sweeper does at one place (R207). -/
def fdbAgeAt (t : Fdb) (p : Nat) : Fdb :=
  match mfind t p with
  | some e => (match e.age with
    | some e' => mput t p e'
    | none => mdel t p)
  | none => t

/-- The places of one visit: the four ways of a bucket or one stash entry (R207). -/
def fdbVisited (k : Nat) : List Nat := if k < 8192 then [4 * k, 4 * k + 1, 4 * k + 2, 4 * k + 3] else [32768 + (k - 8192)]

theorem State.sweep_eq (s : State) (n : Nat) :
    s.sweep n =
      (let t := (fdbVisited (s.die n).sweep).foldl fdbAgeAt (s.die n).fdb
       let s1 := s.updDie n (fun d => { d with sweep := (d.sweep + 1) % 8208, fdb := t })
       if (s.die n).fdb.length - t.length == 0 then s1
       else (s1.setFdb n (fdbDrainStash t).1 (fdbDrainStash t).2).countDie E.dieCntAgedOut n ((s.die n).fdb.length - t.length)) := rfl

theorem State.sweep_next (s : State) (n : Nat) : ((s.sweep n).die n).sweep = ((s.die n).sweep + 1) % 8208 := by
  rw [State.sweep_eq]
  dsimp only
  split
  · simp
  · simp [State.setFdb]

theorem fdbAgeAt_of_age {t : Fdb} {p : Nat} {e a : FdbEntry} (he : mfind t p = some e) (ha : e.age = some a) : fdbAgeAt t p = mput t p a := by
  simp only [fdbAgeAt, he, ha]

theorem fdbAgeAt_of_none {t : Fdb} {p : Nat} (h : mfind t p = none) : fdbAgeAt t p = t := by
  simp only [fdbAgeAt, h]

/-- One place whose entry, if any, outlives the visit: the map keeps its size and its other places. -/
theorem fdbAgeAt_lasting {t : Fdb} {p : Nat} (h : ∀ e, mfind t p = some e → e.age ≠ none) :
    (fdbAgeAt t p).length = t.length ∧ ∀ q, q ≠ p → mfind (fdbAgeAt t p) q = mfind t q := by
  cases he : mfind t p with
  | none => simp [fdbAgeAt_of_none he]
  | some e =>
    obtain ⟨a, ha⟩ := Option.ne_none_iff_exists'.mp (h e he)
    rw [fdbAgeAt_of_age he ha]
    exact ⟨length_mput_of_mfind a he, fun q hq => mfind_mput_other t a hq⟩

/-- Where every entry visited outlives the visit, none leaves, each is aged once, and no other place changes. -/
theorem fdbAgeAll_lasting (l : List Nat) (hl : l.Nodup) (t : Fdb) (h : ∀ p ∈ l, ∀ e, mfind t p = some e → e.age ≠ none) :
    (l.foldl fdbAgeAt t).length = t.length ∧ (∀ q, q ∉ l → mfind (l.foldl fdbAgeAt t) q = mfind t q) ∧
      ∀ p ∈ l, ∀ e a, mfind t p = some e → e.age = some a → mfind (l.foldl fdbAgeAt t) p = some a := by
  induction l generalizing t with
  | nil => simp
  | cons x l ih =>
    obtain ⟨hx, hl'⟩ := List.nodup_cons.mp hl
    obtain ⟨hlen, hother⟩ := fdbAgeAt_lasting (h x (by simp))
    have hne : ∀ p ∈ l, p ≠ x := fun p hp hpx => hx (hpx ▸ hp)
    obtain ⟨hlen', hother', haged⟩ := ih hl' (fdbAgeAt t x) (fun p hp e he => h p (by simp [hp]) e (by rwa [hother p (hne p hp)] at he))
    refine ⟨hlen'.trans hlen, fun q hq => ?_, fun p hp e a he ha => ?_⟩
    · obtain ⟨hqx, hql⟩ : q ≠ x ∧ q ∉ l := by simpa using hq
      rw [List.foldl_cons, hother' q hql, hother q hqx]
    · rw [List.foldl_cons]
      obtain rfl | hpl := List.mem_cons.mp hp
      · rw [hother' p hx, fdbAgeAt_of_age he ha, mfind_mput_same]
      · exact haged p hpl e a (by rwa [hother p (hne p hpl)]) ha

theorem mem_fdbVisited {k p : Nat} (hk : k < 8192) : p ∈ fdbVisited k ↔ p / 4 = k := by
  simp only [fdbVisited, hk, if_true, List.mem_cons, List.not_mem_nil, or_false]
  omega

theorem fdbVisited_nodup (k : Nat) : (fdbVisited k).Nodup := by
  unfold fdbVisited
  split
  · simp [List.nodup_cons]
  · simp

/-- A visit to a bucket whose entries all outlive it ages each of them (R207). -/
theorem State.sweep_ages {s : State} {n p : Nat} {e a : FdbEntry} (hk : (s.die n).sweep < 8192) (hp : p / 4 = (s.die n).sweep) (he : mfind (s.die n).fdb p = some e)
    (ha : e.age = some a) (h : ∀ y ∈ (s.die n).fdb, y.1 / 4 = (s.die n).sweep → y.2.age ≠ none) : mfind ((s.sweep n).die n).fdb p = some a := by
  obtain ⟨hlen, -, haged⟩ := fdbAgeAll_lasting (fdbVisited (s.die n).sweep) (fdbVisited_nodup _) (s.die n).fdb
    (fun q hq e' he' => h (q, e') (mem_of_mfind he') ((mem_fdbVisited hk).mp hq))
  rw [State.sweep_eq]
  simp only [hlen, Nat.sub_self, beq_self_eq_true, if_true, State.die_updDie]
  exact haged p ((mem_fdbVisited hk).mpr hp) e a he ha

/-- Settles O33: each request is one case of `learn`, and a visit one fold of the ageing of a place. -/
theorem learningAndAgeing : Obligations.LearningAndAgeing := by
  unfold Obligations.LearningAndAgeing
  intro s n hn hrun hdie
  have hgo : (s.inRun && s.dieRuns n) = true := by simp [hrun, hdie]
  have hframe : ∀ {t}, exec (.learnRequest n) s = .next t → t = { s with od := t.od, safe := t.safe, dies := t.dies, pins := t.pins } := fun hx =>
    State.eq_mix (execLearnRequest_rest (fs := 2199023304708) (by decide) n s hx)
  refine ⟨fun r rest w hq hf hw => ?new, fun r rest p e hq hf he hs => ?known, fun r rest p e hq hf he hs => ?fixed, fun hq => ?empty, ?visit, fun e hs => ?age⟩
  case new =>
    have hx := exec_learnRequest hn hgo hq
    rw [State.learn_new (w := w) (by simpa using hf) (by simpa using hw)] at hx
    refine State.leads_of_exec hx ⟨?_, ?_, ?_, hframe hx⟩
    · simp [State.setFdb]
    · simp [State.setFdb, State.learnt]
    · rw [State.stDie_settle]
      exact State.stDie_countDie_congr rfl (State.stDie_countDie_of_ne _ n 0 (by decide))
  case known =>
    have hx := exec_learnRequest hn hgo hq
    have hf' : fdbFind ((s.updDie n (fun d => { d with learnQ := rest })).die n).fdb r.realm r.mac = some p := by simpa using hf
    have he' : mfind ((s.updDie n (fun d => { d with learnQ := rest })).die n).fdb p = some e := by simpa using he
    by_cases hd : e.dest = r.dest
    · rw [State.learn_same hf' he' hs hd] at hx
      exact State.leads_of_exec hx ⟨by simp, fun _ => ⟨by simp, by simp⟩, fun h => absurd hd h, fun h => absurd hd h, hframe hx⟩
    · by_cases ht : s.clock.ticks / 40 - e.since / 40 < 1000 * s.cfg E.fdbMoveHoldDown
      · rw [State.learn_held hf' he' hs hd ht] at hx
        exact State.leads_of_exec hx ⟨by simp, fun h => absurd h hd, fun _ _ => ⟨by simp, by rw [State.stDie_settle]; exact State.stDie_countDie_congr rfl rfl⟩,
          fun _ hle => absurd ht (Nat.not_lt.mpr hle), hframe hx⟩
      · rw [State.learn_moved hf' he' hs hd (Nat.not_lt.mp ht)] at hx
        exact State.leads_of_exec hx ⟨by simp, fun h => absurd h hd, fun _ hlt => absurd hlt ht,
          fun _ _ => ⟨by simp [State.learnt], by rw [State.stDie_settle]; exact State.stDie_countDie_congr rfl rfl⟩, hframe hx⟩
  case fixed =>
    have hx := exec_learnRequest hn hgo hq
    rw [State.learn_static (by simpa using hf) (by simpa using he) hs] at hx
    by_cases hc : (e.dest == r.dest || e.lock) = true
    · rw [if_pos hc] at hx
      refine State.leads_of_exec hx ⟨by simp, by simp, fun hd hlk => ?_, hframe hx⟩
      simp [hd, hlk] at hc
    · rw [if_neg hc] at hx
      refine State.leads_of_exec hx ⟨by simp, by simp, fun _ _ => ?_, hframe hx⟩
      rw [State.stDie_settle]
      exact State.stDie_countDie_congr rfl rfl
  case empty =>
    have hx : exec (.learnRequest n) s = .next (s.learnNext n).settle := doneIf_when hn hgo
    rw [State.learnNext, hq] at hx
    exact State.leads_of_exec hx (State.eq_mix (fs := 2199023271936) (by simp))
  case visit =>
    have hx : exec (.sweeperVisit n) s = .next (s.sweep n).settle := doneIf_when hn hgo
    refine State.leads_of_exec hx ⟨?_, fun p e hk hp he a ha h => ?_, State.eq_mix (execSweeperVisit_rest (fs := 2199023304708) (by decide) n s hx)⟩
    · rw [State.die_settle, State.sweep_next]
    · rw [State.die_settle]
      exact State.sweep_ages hk hp he ha h
  case age =>
    simp [FdbEntry.age, hs]

end Sys2Proof.Machine
end

section
/-! The supervisor's watchdog while the dies' map names a die 0 in ISOLATED (R276, R289). -/

namespace Sys2Proof.Machine
open Sys2Proof
set_option Elab.async false

/-- In RUN, with an entry of the dies' map at 0 in ISOLATED. -/
def isolatedGuardState : State :=
  { State.reset with
    power := { State.reset.power with mode := .run }
    dies := mset {} State.reset.dies 0 { state := 3 } }

/-- The fault waits on the control link of die 0: none is logged. -/
theorem isolatedGuardState_faultSeq : isolatedGuardState.supervisorStops.settle.safe.faultSeq = 0 := by decide +kernel

/-- Refutes O18: the fault of class 0x10 is not logged where the map holds a die 0 in ISOLATED, which no hypothesis excludes. -/
theorem not_supervisorGuardsSecurityCore : ¬ Obligations.SupervisorGuardsSecurityCore := by
  unfold Obligations.SupervisorGuardsSecurityCore
  intro h
  obtain ⟨hexpiry, -⟩ := h isolatedGuardState (by decide)
  have hx : exec .supervisorWatchdogExpiry isolatedGuardState = .next isolatedGuardState.supervisorStops.settle := congrArg done (if_pos (by decide))
  obtain ⟨-, -, hseq, -⟩ := State.of_leads hx (hexpiry (by decide))
  rw [isolatedGuardState_faultSeq] at hseq
  exact absurd hseq (by decide)

end Sys2Proof.Machine
end

section
/-! A switch die that is lost while it holds a copy of a group outside its table (R230, R277). -/

namespace Sys2Proof.Machine
open Sys2Proof
set_option Elab.async false

/-- A copy of an ATOMIC group whose row of the counters is the generation of the health map. -/
def farGroupCopy : Copy := { frame := { fmt := .eth }, ingress := 0, atomic := okey E.placementHealthGeneration noRow - okey E.groupCntPartialLoss 0 + 1 }

/-- Die 1 holds that copy in a queue. -/
def farGroupState : State :=
  { State.reset with
    power := { State.reset.power with mode := .run }
    dies := mset {} State.reset.dies 1 { image := true, inReset := false, supplied := true, runtimeUp := true, state := 1 }
    queues := mset [] State.reset.queues (queueRow 1 16 0) [farGroupCopy] }

/-- The generation counts twice: the lost copy's group and the loss of the die. -/
theorem farGroupState_generation : (farGroupState.loseDie 1).settle.st E.placementHealthGeneration = 2 := by decide +kernel

theorem farGroupState_count : (farGroupState.count E.placementHealthGeneration).st E.placementHealthGeneration = 1 := by decide +kernel

/-- Refutes O19: a held copy whose ATOMIC group lies outside the groups is counted at the health map's generation when its die is lost. -/
theorem not_silentAndFailedDies : ¬ Obligations.SilentAndFailedDies := by
  unfold Obligations.SilentAndFailedDies
  intro h
  obtain ⟨-, -, hstall, -⟩ := h farGroupState 1 (by decide) (by decide)
  have hx : exec (.stageStall 1) farGroupState = .next (farGroupState.loseDie 1).settle := doneIf_when (by decide) (by decide +kernel)
  obtain ⟨-, -, -, -, -, -, -, -, -, -, hgeneration, -⟩ := State.of_leads hx (hstall (by decide +kernel))
  rw [farGroupState_generation, farGroupState_count] at hgeneration
  exact absurd hgeneration (by decide)

end Sys2Proof.Machine
end

section
/-! gPTP synchronisation and the life cycle's own events (R159, R356, R359, R360). -/

namespace Sys2Proof.Machine
open Sys2Proof
set_option Elab.async false

/-! ### No record takes a seal number -/

theorem State.when_nextSeal (s : State) (c : Bool) (f : State → State) (h : (f s).ev.nextSeal = s.ev.nextSeal) : (s.when c f).ev.nextSeal = s.ev.nextSeal := by
  cases c
  · rfl
  · exact h

@[simp] theorem State.fifoFlow_nextSeal (s : State) : s.fifoFlow.ev.nextSeal = s.ev.nextSeal := by rw [State.fifoFlow_ev]

@[simp] theorem State.notWritten_nextSeal (s : State) (seq : Nat) (n : Option Nat) : (s.notWritten seq n).ev.nextSeal = s.ev.nextSeal := by
  cases n <;> simp only [State.notWritten] <;> split <;> simp

@[simp] theorem State.offer_nextSeal (s : State) (ws : List Word) (seq : Nat) (n : Option Nat) : (s.offer ws seq n).ev.nextSeal = s.ev.nextSeal := by
  unfold State.offer
  split
  · cases n <;> rfl
  · dsimp only
    by_cases hgap : s.ev.gapPending = true <;> simp only [hgap, if_true, if_false, Bool.false_eq_true] <;> split <;> simp

@[simp] theorem State.reserveSeal_nextSeal (s : State) : s.reserveSeal.ev.nextSeal = s.ev.nextSeal := by
  unfold State.reserveSeal
  dsimp only
  repeat' split
  all_goals simp

@[simp] theorem State.sealTry_nextSeal (s : State) : s.sealTry.ev.nextSeal = s.ev.nextSeal := by
  unfold State.sealTry
  dsimp only
  repeat' split
  all_goals simp

@[simp] theorem State.trigger_nextSeal (s : State) (code : Nat) : (s.trigger code).ev.nextSeal = s.ev.nextSeal := by
  unfold State.trigger
  dsimp only
  repeat' split
  all_goals simp

@[simp] theorem State.lose_nextSeal (s : State) (seq : Nat) : (s.lose seq).ev.nextSeal = s.ev.nextSeal := rfl

@[simp] theorem State.journalStep_nextSeal (s : State) (r : EvReq) : (s.journalStep r).ev.nextSeal = s.ev.nextSeal := by
  unfold State.journalStep
  dsimp only
  repeat' split
  all_goals simp

@[simp] theorem Evidence.headStep_nextSeal (e : Evidence) (b : Bytes) : (e.headStep b).nextSeal = e.nextSeal := rfl

@[simp] theorem State.appendOne_nextSeal (s : State) (r : EvReq) : (s.appendOne r).ev.nextSeal = s.ev.nextSeal := by
  unfold State.appendOne
  dsimp only
  rw [State.when_nextSeal _ _ _ (by simp), State.when_nextSeal _ _ _ (by simp), State.offer_nextSeal, State.when_nextSeal _ _ _ (by simp)]
  simp

@[simp] theorem State.closeLoss_nextSeal (s : State) : s.closeLoss.ev.nextSeal = s.ev.nextSeal := by
  unfold State.closeLoss
  split
  · rfl
  · simp

@[simp] theorem State.append_nextSeal (s : State) (r : EvReq) : (s.append r).ev.nextSeal = s.ev.nextSeal := by
  unfold State.append
  dsimp only
  split <;> split <;> simp

@[simp] theorem State.appendNext_nextSeal (s : State) : s.appendNext.ev.nextSeal = s.ev.nextSeal := by
  unfold State.appendNext
  repeat' split
  all_goals simp

theorem State.forAll_nextSeal (l : List Nat) {f : State → Nat → State} (h : ∀ s n, (f s n).ev.nextSeal = s.ev.nextSeal) (s : State) :
    (s.forAll l f).ev.nextSeal = s.ev.nextSeal := by
  unfold State.forAll
  induction l generalizing s with
  | nil => rfl
  | cons n l ih => exact (ih (f s n)).trans (h s n)

@[simp] theorem State.flushQueue_nextSeal (s : State) : s.flushQueue.ev.nextSeal = s.ev.nextSeal := by
  have happend := fun l s => State.forAll_nextSeal l (f := fun s _ => s.appendNext) (fun s _ => State.appendNext_nextSeal s) s
  unfold State.flushQueue
  dsimp only
  split
  · rw [happend]
  · rw [happend, State.updEv_ev, happend]

@[simp] theorem State.evidence_nextSeal (s : State) (d type unit : Nat) (p : Bytes) (n : Nat) : (s.evidence d type unit p n).ev.nextSeal = s.ev.nextSeal := by
  simp only [State.evidence, State.requestD0, State.requestDie]
  repeat' split
  all_goals simp

@[simp] theorem State.lifeRecord_nextSeal (s : State) (a b c d e : Nat) : (s.lifeRecord a b c d e).ev.nextSeal = s.ev.nextSeal := by simp [State.lifeRecord]

theorem State.eraseRecords_nextSeal (s : State) (p : KeyRecord → Bool) : (s.eraseRecords p).ev.nextSeal = s.ev.nextSeal := by
  unfold State.eraseRecords
  generalize s.keys.records.filter (fun x => p x.2) = l
  induction l generalizing s with
  | nil => rfl
  | cons x l ih => exact (ih _).trans (by simp [State.keyEvidence])

/-! ### The last transition of a part without seal numbers (R338, R359) -/

/-- The life-cycle record after a transition (R355): no later step of it touches it but the end of every session. -/
theorem State.lifeGo_retired_state (s : State) (ap level : Nat) : (s.lifeGo 4 ap level).life.state = 4 := by
  have hsessions : ∀ u : State, u.endSessions.life.state = u.life.state := fun u => by
    unfold State.endSessions
    generalize List.range 12 = l
    induction l generalizing u with
    | nil => rfl
    | cons r l ih =>
      refine (ih (u.endSession r)).trans ?_
      have hstaging : (u.releaseStaging r).life = u.life := State.keep_life (by simp)
      simp only [State.endSession]
      split <;> simp [hstaging]
  unfold State.lifeGo
  dsimp only
  rw [State.keep_life (State.purgeKeys_rest (by decide) _), hsessions]
  refine (congrArg Life.state (State.keep_life (s := ({ s with
    fuses := s.fuses.transition s.life.state 4
    life := s.life.enter 4 ((s.fuses.transition s.life.state 4).agreeing 4) s.clock.xrtc (60 * s.cfg E.lifecycleServiceTimeout) } : State)) ?_)).trans rfl
  simp

/-- Without seal numbers the chain closes with the transition to RETIRED (R338). -/
theorem State.lifeGo_retired_closed {s : State} (h : sealNumbers ≤ s.ev.nextSeal) (ap level : Nat) : (s.lifeGo 4 ap level).ev.closed = true := by
  have hchain : ∀ {u : State} {c : Bool}, c = true → (u.when c State.chainOver).endSessions.purgeKeys.ev.closed = true := fun {u c} hc => by
    rw [State.keep_ev (State.purgeKeys_rest (by decide) _), State.keep_ev (State.endSessions_rest (by decide) _), hc]
    rfl
  unfold State.lifeGo
  dsimp only
  refine hchain ?_
  simpa [State.eraseRecords_nextSeal] using h

/-- With seal numbers a transition waits behind its first seal (R359). -/
theorem State.lifeStart_sealed {s : State} (h : s.ev.nextSeal < sealNumbers) (dst ap level : Nat) :
    s.lifeStart dst ap level = ({ s with life := { s.life with change := some ⟨dst, ap, level⟩, request := none } } : State).trigger 4 := by
  simp [State.lifeStart, Nat.not_le.mpr h]

theorem State.lifeStart_unsealed {s : State} (h : sealNumbers ≤ s.ev.nextSeal) (dst ap level : Nat) : s.lifeStart dst ap level = s.lifeGo dst ap level := by
  simp [State.lifeStart, h]

/-- The end of SERVICE begins the return to FIELD (R360). -/
theorem State.serviceOver_expired {s : State} (hstate : s.life.state = 3) (htime : s.life.serviceTime = 0) (hchange : s.life.change = none) : s.serviceOver = s.lifeStart 2 0 0 := by
  simp [State.serviceOver, State.serviceLeft, State.when, hstate, htime, hchange]

/-- SERVICE with its time run out (R360). -/
def State.serviceEnded (s : State) : State := { s with life := { s.life with serviceTime := 0 } }

/-! ### gPTP synchronisation (R159) -/

theorem State.timeRecord_clock (s : State) (code before after : Nat) : (s.timeRecord code before after).clock = s.clock := State.keep_clock (by simp)

/-- Settles O39: the clock after each change of synchronisation, and the branch of `lifeStart` that the seal numbers left choose. -/
theorem timeAndLifeCycleEvents : Obligations.TimeAndLifeCycleEvents := by
  unfold Obligations.TimeAndLifeCycleEvents
  intro s hrun
  refine ⟨fun hen => ?gptp, fun hstate hchange hup hseal => ?service, fun hstate hdone hup hchange => ?retired⟩
  case gptp =>
    have hx : ∀ c, exec (.gptpSyncStateChange c) s = .next (s.gptpChange c).settle := fun c => congrArg done (if_pos (by simp [hrun, hen]))
    have hframe : ∀ c, (s.gptpChange c).settle = { s with
        clock := (s.gptpChange c).settle.clock, ev := (s.gptpChange c).settle.ev, safe := (s.gptpChange c).settle.safe, dies := (s.gptpChange c).settle.dies,
        pins := (s.gptpChange c).settle.pins, fresh := (s.gptpChange c).settle.fresh } := fun c =>
      State.eq_mix (execGptpSyncStateChange_rest (fs := 6597069817858) (by decide) c s (hx c))
    refine ⟨State.leads_of_exec (hx .synced) ⟨?_, ?_, ?_, hframe _⟩, State.leads_of_exec (hx .lost) ⟨?_, hframe _⟩, fun g => State.leads_of_exec (hx (.grandmaster g)) ⟨?_, ?_, hframe _⟩⟩ <;>
      simp only [State.settle_clock, State.gptpChange, State.timeRecord_clock] <;> rfl
  case service =>
    have hgo : s.serviceEnded.serviceOver = s.serviceEnded.lifeStart 2 0 0 := State.serviceOver_expired hstate rfl hchange
    have hx : exec .serviceTimeout s = .next s.serviceEnded.serviceOver.settle := by
      refine congrArg done ((if_pos (by simp [hstate])).trans (if_pos ?_))
      simpa [hup] using hrun
    have hlife : s.serviceEnded.serviceOver.life = { s.life with change := some ⟨2, 0, 0⟩, request := none, serviceTime := 0 } := by
      rw [hgo, State.lifeStart_sealed (s := s.serviceEnded) hseal, State.keep_life (State.trigger_rest (by decide) _ _)]
      rfl
    exact State.leads_of_exec hx ⟨by rw [State.settle_life, hlife], State.eq_mix (execServiceTimeout_rest (fs := 11115979393420) (by decide) s hx)⟩
  case retired =>
    have hx : exec .retiredPendingBurn s = .next (s.lifeStart 4 0 0).settle := congrArg done (if_pos (by simp [hrun, hstate, hdone, hup, hchange]))
    refine State.leads_of_exec hx ⟨fun hseal => ?_, fun hseal => ?_, State.eq_mix (execRetiredPendingBurn_rest (fs := 11115979393420) (by decide) s hx)⟩
    · rw [State.lifeStart_sealed hseal, State.settle_life, State.settle_fuses, State.keep_life (State.trigger_rest (by decide) _ _), State.keep_fuses (State.trigger_rest (by decide) _ _)]
      exact ⟨rfl, rfl⟩
    · rw [State.lifeStart_unsealed hseal, State.settle_life, State.settle_fuses, State.settle_ev]
      exact ⟨State.lifeGo_retired_state s 0 0, by rw [State.lifeGo_fuses, hstate], State.lifeGo_retired_closed hseal 0 0⟩

end Sys2Proof.Machine
end

section
/-! Writes that a session's entry takes and that act at once (R61, R63): one rule for what every such write leaves. -/

namespace Sys2Proof.Machine
open Sys2Proof
set_option Elab.async false

/-- An entry whose write acts at once, with no block of data behind it (R63). -/
def actsAtOnce (v : Variant) (e : Nat) : Bool :=
  match odEntry v e with
  | some x => (x.acc == .wo || x.live) && !x.isDom
  | none => false

/-- The row that a write at an index acts on (R65). -/
def actRow (v : Variant) (idx row : Nat) : Nat :=
  match odObject v idx with
  | some o => o.keyRow row
  | none => row

theorem State.accepts_found {s : State} {sess idx sub row : Nat} {b : Bytes} (h : s.accepts sess idx sub row b = true) :
    ∃ o x, odObject s.variant idx = some o ∧ odEntry s.variant (idx * 256 + sub) = some x := by
  simp only [State.accepts, Bool.and_eq_true] at h
  cases ho : odObject s.variant idx with
  | none => simp [ho] at h
  | some o =>
    cases hx : odEntry s.variant (idx * 256 + sub) with
    | none => simp [ho, hx] at h
    | some x => exact ⟨o, x, rfl, rfl⟩

theorem State.odWrite_acts {s : State} {sess idx sub row : Nat} {b : Bytes} (ha : s.accepts sess idx sub row b = true)
    (h : actsAtOnce s.variant (idx * 256 + sub) = true) : s.odWrite sess idx sub row b = s.odAct sess (idx * 256 + sub) (actRow s.variant idx row) b := by
  obtain ⟨o, x, ho, hx⟩ := State.accepts_found ha
  obtain ⟨hnow, hdom⟩ : (x.acc == .wo || x.live) = true ∧ x.isDom = false := by simpa [actsAtOnce, hx] using h
  rw [State.odWrite_accepts ha ho hx]
  simp [hnow, hdom, actRow, ho]

section taken
variable {s u : State} {sess idx sub row st : Nat} {b : Bytes} (hh : s.hasSess sess = true ∧ s.serves sess = true) (hw : s.odWrite sess idx sub row b = (u, st))
  (h6 : st ≠ 0x06) (h100 : st ≠ 0x100)
include hh hw h6 h100

/-- A taken write is its action, the session's note of the status and the answer (R61). -/
theorem State.sessionWrite_taken :
    s.sessionWrite sess idx sub row b =
      (u.updSess sess (fun x => { x with lastStatus := st, last := u.clock.ticks })).reply sess (servingDie idx sub row) st (answer sess [] st) := by
  obtain ⟨hsess, hserves⟩ := hh
  rw [State.sessionWrite_serves hserves (by rw [hw]; exact h100), hw, State.requestDone_plain _ h6 (State.hasSess_lt hsess)]

theorem State.sessionWrite_status : ((s.sessionWrite sess idx sub row b).settle.sess sess).lastStatus = st := by
  rw [State.sessionWrite_taken hh hw h6 h100, State.reply_answer]
  simp [State.sess, State.updSess, State.setSess]

theorem State.sessionWrite_action : (s.sessionWrite sess idx sub row b).rest 8796093022280 = u.rest 8796093022280 := by
  rw [State.sessionWrite_taken hh hw h6 h100, State.reply_answer]
  simp

/-- Beyond the session, its answer and the balls a taken write leaves what its action leaves. -/
theorem State.sessionWrite_settled : (s.sessionWrite sess idx sub row b).settle.rest 10995116294216 = u.rest 10995116294216 := by
  rw [State.settle_rest (by decide), State.rest_weaken (by decide) (State.sessionWrite_action hh hw h6 h100)]

end taken

@[simp] theorem State.sess_settle (s : State) (k : Nat) : s.settle.sess k = s.sess k := by simp [State.sess]

@[simp] theorem State.spd_settle (s : State) (k : Nat) : s.settle.spd k = s.spd k := by simp [State.spd]

end Sys2Proof.Machine
end

section
/-! Operating writes: the RTC, SAFE_N, distances, seals, the forwarding database, bus-off and rule blocks (R100, R114, R117, R206, R288, R302, R330, R332). -/

namespace Sys2Proof.Machine
open Sys2Proof
set_option Elab.async false

theorem leNat_toLE (n v : Nat) : leNat (toLE n v) = v % 256 ^ n := by
  induction n generalizing v with
  | zero => simp [toLE, leNat, Nat.mod_one]
  | succ n ih =>
    rw [toLE, leNat, ih, BitVec.toNat_ofNat, Nat.pow_succ' (m := 256)]
    exact (Nat.mod_mul (a := 256)).symm

/-! ### The entries -/

theorem actsAtOnce_rtcSeconds (v : Variant) : actsAtOnce v E.timeRtcSeconds = true := by cases v <;> decide +kernel
theorem actsAtOnce_safeRelease (v : Variant) : actsAtOnce v E.safeRelease = true := by cases v <;> decide +kernel
theorem actsAtOnce_sealNow (v : Variant) : actsAtOnce v E.sealNow = true := by cases v <;> decide +kernel
theorem actsAtOnce_journalAck (v : Variant) : actsAtOnce v E.journalAck = true := by cases v <;> decide +kernel
theorem actsAtOnce_fdbFlush (v : Variant) : actsAtOnce v E.fdbFlush = true := by cases v <;> decide +kernel

theorem actsAtOnce_distance (v : Variant) {k : Nat} (hk : k < 4) : actsAtOnce v ((0x3028 + k) * 256 + 0x08) = true := by
  revert k
  cases v <;> decide +kernel

theorem actsAtOnce_clearBlock {v : Variant} {k : Nat} (hs : v.hasSlot k = true) (hc : isCan k = true) : actsAtOnce v ((0x2200 + k) * 256 + 0x05) = true := by
  have hall : ∀ k, k < 256 → v.hasSlot k = true → isCan k = true → actsAtOnce v ((0x2200 + k) * 256 + 0x05) = true := by cases v <;> decide +kernel
  exact hall k (Variant.hasSlot_lt hs) hs hc

/-! ### The actions -/

theorem State.odAct_rtcSeconds (s : State) (sess row : Nat) (b : Bytes) : s.odAct sess E.timeRtcSeconds row b = (s.rtcWrite (leNat b), 0) := rfl
theorem State.odAct_safeRelease (s : State) (sess row : Nat) (b : Bytes) : s.odAct sess E.safeRelease row b = s.safeRelease := rfl
theorem State.odAct_sealNow (s : State) (sess row : Nat) (b : Bytes) : s.odAct sess E.sealNow row b = (s.trigger 2, 0) := rfl
theorem State.odAct_journalAck (s : State) (sess row : Nat) (b : Bytes) : s.odAct sess E.journalAck row b = (s.journalAck (leNat b), 0) := rfl
theorem State.odAct_fdbFlush (s : State) (sess row : Nat) (b : Bytes) : s.odAct sess E.fdbFlush row b = (s.flushFdb (leNat b), 0) := rfl

theorem State.odAct_distance (s : State) {k : Nat} (hk : k < 4) (sess row : Nat) (b : Bytes) :
    s.odAct sess ((0x3028 + k) * 256 + 0x08) row b = (s.resetDistance k, 0) := by
  obtain rfl | rfl | rfl | rfl : k = 0 ∨ k = 1 ∨ k = 2 ∨ k = 3 := by omega
  all_goals rfl

theorem State.odAct_clearBlock (s : State) {k : Nat} (hk : k < 256) (sess row : Nat) (b : Bytes) :
    s.odAct sess ((0x2200 + k) * 256 + 0x05) row b = (s.updPort k (fun p => { p with blocks := [] }), 0) := by
  have hd : ((0x2200 + k) * 256 + 0x05) / 256 = 0x2200 + k := by omega
  have hm : ((0x2200 + k) * 256 + 0x05) % 256 = 0x05 := by omega
  have hr : clearRanges (0x2200 + k) 0x05 = [] := by simp [clearRanges]
  have hse : sessionEntry ((0x2200 + k) * 256 + 0x05) = false := by
    simp [sessionEntry, E.commitReadView, E.journalSelect, E.sealStoreSelect, E.attestRelation, E.attestResponse, E.keycmdSlot, E.keycmdBlob, E.keycmdStatus]; omega
  have h1 : (0x2200 + k == 0x1122) = false := by simp; omega
  have h2 : ((0x2200 + k) / 256 == 0x22) = true := by simp; omega
  have h4 : (0x2200 + k) % 256 = k := by omega
  simp [State.odAct, hd, hm, hr, hse, h1, h2, State.portWrite, h4]

/-! ### Flushing the forwarding databases (R206) -/

/-- What removing entries leaves of a die's database. -/
def fdbFlushed (t : Fdb) (p : FdbEntry → Bool) : Fdb :=
  if (t.filter (fun x => !p x.2)).length == t.length then t else (fdbDrainStash (t.filter (fun x => !p x.2))).1

theorem State.fdbRemove_die (s : State) (n : Nat) (p : FdbEntry → Bool) : ((s.fdbRemove n p).die n).fdb = fdbFlushed (s.die n).fdb p := by
  unfold State.fdbRemove fdbFlushed
  dsimp only
  split
  · rfl
  · simp [State.setFdb]

theorem State.die_updDie_other (s : State) {m n : Nat} (f : Die → Die) (h : m ≠ n) : (s.updDie n f).die m = s.die m := mget_mset_other _ s.dies _ h

theorem State.fdbRemove_die_other (s : State) {m n : Nat} (p : FdbEntry → Bool) (h : m ≠ n) : (s.fdbRemove n p).die m = s.die m := by
  unfold State.fdbRemove
  dsimp only
  split
  · rfl
  · simp [State.setFdb, State.die_updDie_other s _ h]

/-- One pass over different dies flushes each of them once and no other. -/
theorem State.fdbRemoveAll_die (p : FdbEntry → Bool) (l : List Nat) (hl : l.Nodup) (s : State) (m : Nat) :
    (m ∈ l → ((s.forAll l (fun s n => s.fdbRemove n p)).die m).fdb = fdbFlushed (s.die m).fdb p) ∧
      (m ∉ l → (s.forAll l (fun s n => s.fdbRemove n p)).die m = s.die m) := by
  unfold State.forAll
  induction l generalizing s with
  | nil => simp
  | cons n l ih =>
    obtain ⟨hn, hl'⟩ := List.nodup_cons.mp hl
    obtain ⟨hin, hout⟩ := ih hl' (s.fdbRemove n p)
    refine ⟨fun hm => ?_, fun hm => ?_⟩
    · obtain rfl | hm' := List.mem_cons.mp hm
      · rw [List.foldl_cons, hout hn, State.fdbRemove_die]
      · have hne : m ≠ n := fun h => hn (h ▸ hm')
        rw [List.foldl_cons, hin hm', State.fdbRemove_die_other s p hne]
    · obtain ⟨hne, hm'⟩ : m ≠ n ∧ m ∉ l := by simpa using hm
      rw [List.foldl_cons, hout hm', State.fdbRemove_die_other s p hne]

theorem State.dieList_nodup (s : State) : s.dieList.Nodup := by
  unfold State.dieList
  exact List.nodup_range.map (fun a b h => by simpa using h)

/-- Taking a key out leaves what stood below it. -/
theorem mfind_mdel_below {α : Type} {m : NMap α} {i p : Nat} {e : α} (hp : p < i) (h : mfind m p = some e) : mfind (mdel m i) p = some e := by
  induction m with
  | nil => simp [mfind] at h
  | cons kw m ih =>
    obtain ⟨k, w⟩ := kw
    by_cases hik : i = k
    · simp [mfind, ← hik, Nat.ne_of_lt hp, hp] at h
    · by_cases hlt : i < k
      · simpa [mdel, hik, hlt] using h
      · simp only [mdel, hik, hlt, if_false]
        simp only [mfind] at h ⊢
        split
        · next hpk => simpa [hpk] using h
        · next hpk =>
          rw [if_neg hpk] at h
          split
          · next hlt' => simp [hlt'] at h
          · next hlt' =>
            rw [if_neg hlt'] at h
            exact ih h

theorem mfind_filter {α : Type} {m : NMap α} {p : Nat} {e : α} {q : α → Bool} (h : mfind m p = some e) (hq : q e = true) :
    mfind (m.filter (fun x => q x.2)) p = some e := by
  induction m with
  | nil => simp [mfind] at h
  | cons kw m ih =>
    obtain ⟨k, w⟩ := kw
    simp only [mfind] at h
    split at h
    · next hpk =>
      obtain rfl : w = e := by simpa using h
      simp [hq, mfind, hpk]
    · next hpk =>
      split at h
      · simp at h
      · next hlt =>
        rw [List.filter_cons]
        split
        · simp only [mfind, hpk, hlt, if_false, ih h]
        · exact ih h

/-- A free way holds nothing. -/
theorem fdbFreeWay_none {t : Fdb} {b p : Nat} (h : fdbFreeWay t b = some p) : mfind t p = none := by
  simpa using List.find?_some h

/-- One step of the drain of the stash: a stash entry moves to a free way, or nothing changes (R200). -/
theorem fdbDrain_invariant {P : Fdb → Prop} (hstep : ∀ t i p e, P t → mfind t (32768 + i) = some e → mfind t p = none → P (mdel (mput t p e.moved) (32768 + i))) (t : Fdb) (h : P t) :
    P (fdbDrainStash t).1 := by
  unfold fdbDrainStash
  generalize List.range 16 = l
  suffices hall : ∀ r : Fdb × Nat, P r.1 → P (l.foldl _ r).1 from hall (t, 0) h
  induction l with
  | nil => exact fun r hr => hr
  | cons i l ih =>
    intro r hr
    refine ih _ ?_
    beta_reduce
    split
    · next e he =>
      split
      · next p hp =>
        refine hstep r.1 i p e hr he ?_
        obtain hp | ⟨-, hp⟩ := Option.or_eq_some_iff.mp (by simpa [Option.orElse_eq_or] using hp)
        · exact fdbFreeWay_none hp
        · exact fdbFreeWay_none hp
      · exact hr
    · exact hr

/-- Every entry left is one that the flush spares. -/
theorem fdbFlushed_mem {t : Fdb} {p : FdbEntry → Bool} (hp : ∀ e, p e.moved = p e) {x : Nat × FdbEntry} (h : x ∈ fdbFlushed t p) : p x.2 = false := by
  unfold fdbFlushed at h
  split at h
  · next hlen =>
    have hall := List.length_filter_eq_length_iff.mp (beq_iff_eq.mp hlen)
    simpa using hall x h
  · have hinv : ∀ y ∈ (fdbDrainStash (t.filter (fun x => !p x.2))).1, p y.2 = false := by
      refine fdbDrain_invariant (P := fun u => ∀ y ∈ u, p y.2 = false) (fun u i q e hu he _ y hy => ?_) _ (fun y hy => by simpa using (List.mem_filter.mp hy).2)
      obtain rfl | hy := mem_mput (mem_mdel hy)
      · rw [hp]
        exact hu _ (mem_of_mfind he)
      · exact hu y hy
    exact hinv x h

/-- A way that holds an entry the flush spares keeps it. -/
theorem fdbFlushed_keeps {t : Fdb} {p : FdbEntry → Bool} {q : Nat} {e : FdbEntry} (hq : q < 32768) (h : mfind t q = some e) (hp : p e = false) : mfind (fdbFlushed t p) q = some e := by
  unfold fdbFlushed
  split
  · exact h
  · refine fdbDrain_invariant (P := fun u => mfind u q = some e) (fun u i w x hu _ hw => ?_) _ (mfind_filter (q := fun x => !p x) h (by simp [hp]))
    refine mfind_mdel_below (by omega) ?_
    have hne : q ≠ w := fun hqw => by simp [← hqw, hu] at hw
    rw [mfind_mput_other u _ hne, hu]

/-! ### The host's seal (R332) -/

theorem State.reserveSeal_due_job (s : State) : s.reserveSeal.ev.due = s.ev.due ∧ s.reserveSeal.ev.job = s.ev.job := by
  unfold State.reserveSeal
  dsimp only
  repeat' split
  all_goals simp

theorem State.sealTry_signing {s : State} (hjob : s.ev.job.isSome = true) : s.sealTry = s := by simp [State.sealTry, hjob]

/-- With nothing in its way the seal of the highest trigger due is frozen (R332). -/
theorem State.sealTry_freezes {s : State} (hdue : s.ev.due ≠ []) (hrun : s.ev.running = true) (hjob : s.ev.job = none) (htree : s.ev.activeTree = true)
    (hspacing : s.ev.spacing = false) (hseal : s.ev.nextSeal < sealNumbers) :
    s.sealTry.ev.due = [] ∧ s.sealTry.ev.job.map (·.trigger) = some (s.ev.due.foldl max 0) ∧ s.sealTry.ev.job.map (·.lastSeq) = some s.ev.lastSeq := by
  have hgo : (s.ev.due.isEmpty || s.ev.job.isSome || !s.ev.activeTree || !s.ev.running || decide (sealNumbers ≤ s.ev.nextSeal)) = false := by
    simp [hdue, hjob, htree, hrun, hseal]
  simp only [State.sealTry, hgo, hspacing, Bool.false_and, Bool.false_eq_true, if_false, State.reserveSeal_due_job]
  exact ⟨rfl, rfl, rfl⟩

/-- What a trigger finds when it tries for its seal: itself among those due (R332). -/
theorem State.trigger_tries {s : State} (hrun : s.ev.running = true) (code : Nat) : ∃ u : State, s.trigger code = u.sealTry ∧ u.ev = { s.ev with due := s.ev.due ++ [code] } := by
  refine ⟨_, if_neg (by simp [hrun]), ?_⟩
  split <;> rfl

/-- A trigger while a seal is being signed waits (R332). -/
theorem State.trigger_waits {s : State} (hrun : s.ev.running = true) (hjob : s.ev.job.isSome = true) (code : Nat) :
    (s.trigger code).ev = { s.ev with due := s.ev.due ++ [code] } := by
  obtain ⟨u, ht, hu⟩ := State.trigger_tries hrun code
  rw [ht, State.sealTry_signing (by rw [hu]; exact hjob), hu]

/-- A trigger with nothing in its way freezes the seal of the highest one due (R332). -/
theorem State.trigger_freezes {s : State} {code : Nat} (hrun : s.ev.running = true) (hjob : s.ev.job = none) (htree : s.ev.activeTree = true) (hspacing : s.ev.spacing = false)
    (hseal : s.ev.nextSeal < sealNumbers) :
    (s.trigger code).ev.due = [] ∧ (s.trigger code).ev.job.map (·.trigger) = some ((s.ev.due ++ [code]).foldl max 0) ∧ (s.trigger code).ev.job.map (·.lastSeq) = some s.ev.lastSeq := by
  obtain ⟨u, ht, hu⟩ := State.trigger_tries hrun code
  have hfreeze := State.sealTry_freezes (s := u) (by simp [hu]) (by simp [hu, hrun]) (by simp [hu, hjob]) (by simp [hu, htree]) (by simp [hu, hspacing]) (by simpa [hu] using hseal)
  rwa [ht, hu] at *

/-- Where a condition holds nothing releases SAFE_N of itself (R288). -/
theorem State.settle_safe_of_unclear {s : State} (h : s.safeClear = false) : s.settle.safe = s.safe := by
  simp [State.settle, State.autoRelease, h]

/-! ### A port's slot that has no such entry (R17) -/

theorem State.odWrite_noObject {s : State} {sess idx sub row : Nat} {b : Bytes} (ho : odObject s.variant idx = none) :
    s.odWrite sess idx sub row b = (s, if s.reachesServer sess 0 then 0x01 else 0x0D) := by
  simp [State.odWrite, ho]

/-- Settles O42: each write is taken by the rule of all writes that act at once, on what its own action leaves. -/
theorem operatingWrites : Obligations.OperatingWrites := by
  unfold Obligations.OperatingWrites
  intro s sess
  refine ⟨fun v ha => ?rtc, fun v ha => ?release, fun k v hk ha => ?distance, fun v ha hrun => ?hostSeal, fun n ha => ?ack, fun v ha => ?flush, fun slot v hs hc ha => ?recover,
    fun slot v hslot hsess hserves h0 hans hup ho => ?noSlot, fun slot hs hc ha => ?block⟩
  case rtc =>
    have hw := (State.odWrite_acts ha (actsAtOnce_rtcSeconds s.variant)).trans (State.odAct_rtcSeconds s sess _ _)
    have hx : exec (.rtcWrite sess v) s = .next (s.sessionWrite sess _ _ _ (toLE 4 v)).settle := doneIf_present (State.accepts_serves ha).1
    have ht := State.sessionWrite_settled (State.accepts_serves ha) hw (by decide) (by decide)
    have hclock : (s.rtcWrite (leNat (toLE 4 v))).clock = { s.clock with rtcBase := v % 2 ^ 32, rtcTick := s.clock.xrtc, rtcValid := true } := by
      simp only [State.rtcWrite, State.timeRecord_clock, leNat_toLE, Nat.reducePow, Nat.mod_mod]
    refine State.leads_of_exec hx ⟨?_, State.sessionWrite_status (State.accepts_serves ha) hw (by decide) (by decide), State.eq_mix (fs := 10995116329034) ?_⟩
    · rw [State.keep_clock (State.rest_weaken (by decide) ht), hclock]
    · rw [State.rest_weaken (by decide) ht]
      simp [State.rtcWrite]
  case release =>
    have hw := (State.odWrite_acts ha (actsAtOnce_safeRelease s.variant)).trans (State.odAct_safeRelease s sess _ _)
    have hx : exec (.safeRelease sess v) s = .next (s.sessionWrite sess _ _ _ (toLE 1 v)).settle := doneIf_present (State.accepts_serves ha).1
    by_cases hclear : s.safeClear = true
    · rw [State.safeRelease, if_pos hclear] at hw
      have hsafe : (s.sessionWrite sess (E.safeRelease / 256) (E.safeRelease % 256) (s.cursorRow sess (E.safeRelease / 256)) (toLE 1 v)).settle.safe =
          { s.safe with driven := false, conds := [] } := by
        rw [State.sessionWrite_taken (State.accepts_serves ha) hw (by decide) (by decide), State.reply_answer]
        rfl
      refine State.leads_of_exec hx ⟨fun _ => ⟨hsafe, State.sessionWrite_status (State.accepts_serves ha) hw (by decide) (by decide)⟩, fun h => absurd hclear (by simp [h]),
        State.eq_mix (fs := 10995116294216) ?_⟩
      rw [State.rest_weaken (by decide) (State.sessionWrite_settled (State.accepts_serves ha) hw (by decide) (by decide))]
      rfl
    · rw [State.safeRelease, if_neg hclear] at hw
      have hsafe : (s.sessionWrite sess (E.safeRelease / 256) (E.safeRelease % 256) (s.cursorRow sess (E.safeRelease / 256)) (toLE 1 v)).settle.safe = s.safe := by
        rw [State.sessionWrite_taken (State.accepts_serves ha) hw (by decide) (by decide), State.reply_answer]
        exact State.settle_safe_of_unclear (Bool.not_eq_true _ ▸ hclear : s.safeClear = false)
      refine State.leads_of_exec hx ⟨fun h => absurd h hclear, fun _ => ⟨hsafe, State.sessionWrite_status (State.accepts_serves ha) hw (by decide) (by decide)⟩, State.eq_mix (fs := 10995116294216) ?_⟩
      exact State.sessionWrite_settled (State.accepts_serves ha) hw (by decide) (by decide)
  case distance =>
    have hw := (State.odWrite_acts ha (actsAtOnce_distance s.variant hk)).trans (State.odAct_distance s hk sess _ _)
    have hx : exec (.distanceReset sess k v) s = .next (s.sessionWrite sess (0x3028 + k) 0x08 noRow (toLE 1 v)).settle :=
      doneIf_present (by simp [(State.accepts_serves ha).1]; omega)
    have ht := State.sessionWrite_settled (State.accepts_serves ha) hw (by decide) (by decide)
    have hmeasure : (s.sessionWrite sess (0x3028 + k) 0x08 noRow (toLE 1 v)).settle.measure = (s.setSpd k { s.spd k with count := 0 }).measure := by
      rw [State.keep_measure (State.rest_weaken (by decide) ht), State.resetDistance]
      exact State.keep_measure (by simp)
    refine State.leads_of_exec hx ⟨?_, fun j hj => ?_, State.sessionWrite_status (State.accepts_serves ha) hw (by decide) (by decide), State.eq_mix (fs := 11132555282504) ?_⟩
    · rw [State.spd, hmeasure]
      exact State.spd_setSpd s k _
    · rw [State.spd, hmeasure]
      exact mget_mset_other _ s.measure.spd _ hj
    · rw [State.rest_weaken (by decide) ht]
      simp [State.resetDistance]
  case hostSeal =>
    have hw := (State.odWrite_acts ha (actsAtOnce_sealNow s.variant)).trans (State.odAct_sealNow s sess _ _)
    have hx : exec (.sealNowEntry sess v) s = .next (s.sessionWrite sess _ _ _ (toLE 1 v)).settle := doneIf_present (State.accepts_serves ha).1
    have ht := State.sessionWrite_settled (State.accepts_serves ha) hw (by decide) (by decide)
    have hev := State.keep_ev (State.rest_weaken (by decide) ht)
    refine State.leads_of_exec hx ⟨fun hjob => ?_, fun hjob htree hspacing hnumbers => ?_, State.sessionWrite_status (State.accepts_serves ha) hw (by decide) (by decide), State.eq_mix (fs := 10995720308812) ?_⟩
    · rw [hev, State.trigger_waits hrun hjob]
      exact ⟨rfl, rfl⟩
    · rw [hev]
      exact State.trigger_freezes hrun hjob htree hspacing hnumbers
    · rw [State.rest_weaken (by decide) ht]
      simp
  case ack =>
    have hw := (State.odWrite_acts ha (actsAtOnce_journalAck s.variant)).trans (State.odAct_journalAck s sess _ _)
    have hx : exec (.journalAck sess n) s = .next (s.sessionWrite sess _ _ _ (toLE 8 n)).settle := doneIf_present (State.accepts_serves ha).1
    have ht := State.sessionWrite_settled (State.accepts_serves ha) hw (by decide) (by decide)
    refine State.leads_of_exec hx ⟨?_, State.sessionWrite_status (State.accepts_serves ha) hw (by decide) (by decide), State.eq_mix (fs := 10995116296264) ?_⟩
    · rw [State.keep_ev (State.rest_weaken (by decide) ht), State.journalAck, State.updEv_ev, leNat_toLE]
      simp
    · rw [State.rest_weaken (by decide) ht]
      simp
  case flush =>
    have hw := (State.odWrite_acts ha (actsAtOnce_fdbFlush s.variant)).trans (State.odAct_fdbFlush s sess _ _)
    have hx : exec (.fdbFlush sess v) s = .next (s.sessionWrite sess _ _ _ (toLE 2 v)).settle := doneIf_present (State.accepts_serves ha).1
    have ht := State.sessionWrite_settled (State.accepts_serves ha) hw (by decide) (by decide)
    have hdies : ∀ n, (s.sessionWrite sess (E.fdbFlush / 256) (E.fdbFlush % 256) (s.cursorRow sess (E.fdbFlush / 256)) (toLE 2 v)).settle.die n = (s.flushFdb (v % 65536)).die n := fun n => by
      rw [State.die, State.keep_dies (State.rest_weaken (by decide) ht), leNat_toLE]
      rfl
    have hflush := fun n => State.fdbRemoveAll_die (fun e => !e.isStatic && (v % 65536 == 0xFFFF || e.realm == v % 65536)) s.dieList s.dieList_nodup s n
    refine State.leads_of_exec hx ⟨fun n x hn hxm => ?_, fun n p e hp he hspared => ?_, State.sessionWrite_status (State.accepts_serves ha) hw (by decide) (by decide), State.eq_mix (fs := 10995116326988) ?_⟩
    · rw [hdies, State.flushFdb, (hflush n).1 hn] at hxm
      have hspared := fdbFlushed_mem (fun _ => rfl) hxm
      cases hstatic : x.2.isStatic
      · simpa [hstatic] using hspared
      · exact Or.inl rfl
    · rw [hdies, State.flushFdb]
      by_cases hn : n ∈ s.dieList
      · rw [(hflush n).1 hn]
        refine fdbFlushed_keeps hp he ?_
        obtain hs | hs := hspared <;> simp [hs]
      · rw [(hflush n).2 hn]
        exact he
    · rw [State.rest_weaken (by decide) ht]
      simp
  case recover =>
    have hx := exec_canRecover (k := slot) hs ha
    have hframe := State.frame_canRecover hs hc ha rfl
    have hport := fun j => (State.port_settle _ j).trans (State.sessionWrite_canRecover_port j hs hc ha)
    refine State.leads_of_exec hx ⟨fun h4 hr => ?_, fun hno => ?_, fun p hp => ?_, ?_, hframe⟩
    · have hstart : s.canRecover slot = s.startRecovery slot := by simp [State.canRecover, State.when, h4, hr]
      rw [hport, hstart, State.startRecovery, State.port_updPort]
    · rw [hport, State.canRecover, State.when, if_neg (by simpa [-not_and] using not_and_or.mpr hno)]
    · rw [hport, State.canRecover, State.when]
      split
      · exact State.port_updPort_other s _ hp
      · rfl
    · rw [State.sess_settle, State.sessionWrite_canRecover hs hc ha, State.reply_answer]
      simp [State.sess, State.updSess, State.setSess]
  case noSlot =>
    have hw : s.odWrite sess (0x2000 + slot) 0x1B noRow (toLE 1 v) = (s, 0x01) := by
      have hreach : s.reachesServer sess 0 = true := by
        obtain ⟨-, hstate⟩ : s.pairRuns (s.carrier sess) = true ∧ ((s.die (s.carrier sess)).state != 3) = true := by simpa [State.answers] using hans
        simp [State.reachesServer, hup, hstate]
      rw [State.odWrite_noObject ho, hreach]
      rfl
    have hx : exec (.canRecover sess slot v) s = .next (s.sessionWrite sess (0x2000 + slot) 0x1B noRow (toLE 1 v)).settle := doneIf_present (by simp [hsess, hslot])
    exact State.leads_of_exec hx ⟨State.sessionWrite_status ⟨hsess, hserves⟩ hw (by decide) (by decide),
      State.eq_mix (fs := 10995116294216) (State.sessionWrite_settled ⟨hsess, hserves⟩ hw (by decide) (by decide))⟩
  case block =>
    have hk : slot < 256 := Variant.hasSlot_lt hs
    have hw := (State.odWrite_acts ha (actsAtOnce_clearBlock hs hc)).trans (State.odAct_clearBlock s hk sess _ _)
    have hx : exec (.clearBlock sess slot) s = .next (s.sessionWrite sess (0x2200 + slot) 0x05 noRow [1]).settle := doneIf_present (by simp [(State.accepts_serves ha).1, hk])
    have ht := State.sessionWrite_settled (State.accepts_serves ha) hw (by decide) (by decide)
    have hports := State.keep_ports (State.rest_weaken (by decide) ht)
    refine State.leads_of_exec hx ⟨?_, fun p hp => ?_, State.sessionWrite_status (State.accepts_serves ha) hw (by decide) (by decide), State.eq_mix (fs := 10995120488520) ?_⟩
    · rw [State.port, hports]
      exact State.port_updPort s slot _
    · rw [State.port, hports]
      exact State.port_updPort_other s _ hp
    · rw [State.rest_weaken (by decide) ht]
      simp

end Sys2Proof.Machine
end

section
/-! Application pairs: watchdog, restart delay and images (R396, R404, R428, R447). -/

namespace Sys2Proof.Machine
open Sys2Proof
set_option Elab.async false

/-! ### Status values of a die that other events leave -/

@[simp] theorem State.stDie_setDie_same (s : State) (e n v : Nat) : (s.setDie e n v).stDie e n = v := State.st_set s (e + (n - 1) * 256) v

theorem State.stDie_setDie_of_ne (s : State) {e f : Nat} (n v : Nat) (h : f ≠ e) : (s.setDie e n v).stDie f n = s.stDie f n :=
  State.st_setRow_of_ne s v (okey_noRow_ne (by omega))

/-- The entries that the health map and the placement keep (Tables 9-5 and 9-6). -/
def healthEntry (f : Nat) : Bool := f == E.healthDieDegradedCause || f == E.healthDieLastChange || f == E.placementHealthGeneration || f == E.placementState

theorem State.healthChange_st (s : State) {f : Nat} (hf : healthEntry f = false) : s.healthChange.st f = s.st f := by
  simp only [healthEntry, Bool.or_eq_false_iff, beq_eq_false_iff_ne] at hf
  obtain ⟨⟨⟨-, -⟩, hgen⟩, hstate⟩ := hf
  have hcount : (s.count E.placementHealthGeneration).st f = s.st f := State.st_setRow_of_ne s _ (okey_noRow_ne hgen)
  unfold State.healthChange
  dsimp only
  split
  · exact hcount
  · split
    · exact hcount
    · split
      · exact hcount
      · exact (State.st_setRow_of_ne _ _ (okey_noRow_ne hstate)).trans hcount

/-- A row of a table on a die's number is no plain entry. -/
theorem okey_noRow_ne_row {e f row : Nat} (hr : row < noRow) : okey f noRow ≠ okey e row := by
  unfold noRow at hr
  simp only [okey, noRow]
  omega

theorem State.setHealth_st (s : State) {n f : Nat} (st : Nat) (hn : n < noRow) (hf : healthEntry f = false) : (s.setHealth n st).st f = s.st f := by
  have hrow : ∀ (u : State) (e v : Nat), (u.setRow e n v).st f = u.st f := fun u e v => State.st_setRow_of_ne u v (okey_noRow_ne_row hn)
  have hdrive : ∀ u : State, (u.driveSafe 0x100).st f = u.st f := fun u => rfl
  have hset : ∀ d : Die, (s.setDieState n d).st f = s.st f := fun d => rfl
  simp only [State.setHealth, apply_ite (fun u : State => u.st f), hdrive, State.healthChange_st _ hf, hrow, hset, ite_self]

theorem State.dropCause_st (s : State) {n f : Nat} (cls : Nat) (hn : n < noRow) (hf : healthEntry f = false) : (s.dropCause n cls).st f = s.st f := by
  unfold State.dropCause
  dsimp only
  split
  · exact State.setHealth_st _ _ hn hf
  · rfl

theorem Variant.hasDie_lt {v : Variant} {n : Nat} (h : v.hasDie n = true) : n < noRow := by
  simp only [Variant.hasDie, Bool.and_eq_true, decide_eq_true_eq] at h
  have hnc : v.nc ≤ 8 := by cases v <;> decide
  unfold noRow
  omega

@[simp] theorem State.app_countDie (s : State) (e k c n : Nat) : (s.countDie e k c).app n = s.app n := rfl

/-! ### The reset of a pair -/

theorem mget_map_blk {f : Qp → Qp} {p : Qp → Prop} (h0 : p {}) (hf : ∀ q, p (f q)) (m : NMap Qp) (k : Nat) : p (mget {} (m.map (fun q => (q.1, f q.2))) k) := by
  induction m with
  | nil => exact h0
  | cons x m ih =>
    simp only [List.map_cons, mget]
    split
    · exact hf x.2
    · split
      · exact h0
      · exact ih

theorem State.updBridge_app (s : State) (n m : Nat) (f : Bridge → Bridge) : ∃ b, (s.updBridge m f).app n = { s.app n with bridge := b } := by
  by_cases h : n = m
  · subst h
    exact ⟨f (s.app n).bridge, State.app_updApp s n _⟩
  · exact ⟨(s.app n).bridge, State.app_updApp_other s _ h⟩

/-- Marking a pair's semaphores changes nothing of a pair but its bridge (R428). -/
theorem State.orphanPair_app (s : State) (who n : Nat) : ∃ b, (s.orphanPair who).app n = { s.app n with bridge := b } := by
  unfold State.orphanPair State.forAll
  generalize s.dieList = l
  induction l generalizing s with
  | nil => exact ⟨_, rfl⟩
  | cons m l ih =>
    obtain ⟨b, hb⟩ := ih (s.updBridge m (fun b => { b with orphans := b.sems.foldl (fun o p => if p.2 == who + 1 then setBit o p.1 else o) b.orphans }))
    obtain ⟨b', hb'⟩ := State.updBridge_app s n m (fun b => { b with orphans := b.sems.foldl (fun o p => if p.2 == who + 1 then setBit o p.1 else o) b.orphans })
    exact ⟨b, by rw [List.foldl_cons, hb, hb']⟩

/-- What a pair is after its reset (R428). -/
structure App.Halted (a : App) (cause : Nat) : Prop where
  stopped : a.running = false
  cause_eq : a.resetCause = cause
  sys_eq : a.sys = {}
  qps_off : ∀ k, (a.qp k).blk.en = false

theorem State.appHalt_halted (s : State) (n cause : Nat) : ((s.appHalt n cause).app n).Halted cause := by
  unfold State.appHalt
  dsimp only
  rw [State.app_of_apps (State.keep_apps (State.setDie_rest (by decide) _ _ _ _))]
  obtain ⟨b, hb⟩ := State.orphanPair_app (State.updCore (((s.releaseStaging (5 + (n - 1))).forAll ((s.app n).qps.map (·.1)) (fun s k => s.txFalls n k)).updApp n (fun a =>
    { (a.releaseClaims 2 s.clock.ticks) with
      running := false, reloading := false, delayArmed := false, sys := {}, kickErr := false, wdtTimeout := 1000, resetCause := cause,
      qps := a.qps.map (fun q => (q.1, q.2.reset)), mbx := a.mbx.fail })) n 1 (fun b => { b with read := none, fencing := false })) (n * 16 + 1) n
  rw [hb]
  simp only [State.updCore, State.updBridge, State.app_updApp]
  exact ⟨rfl, rfl, rfl, fun k => mget_map_blk (p := fun q => q.blk.en = false) rfl (fun q => rfl) _ k⟩

theorem State.appHalt_status (s : State) (n cause : Nat) : (s.appHalt n cause).stDie E.appLastResetCause n = cause := State.stDie_setDie_same _ _ _ _

/-- Outside a trial of its image a pair's reset is the halt and the restart delay (R428, R445). -/
theorem State.appReset_eq {s : State} (n cause : Nat) (ht : s.update.trial ≠ some 2) :
    s.appReset n cause = ((s.appHalt n cause).updApp n (fun a => { a with delayArmed := true })).setAppState n 2 := by
  have hupd : (((s.appHalt n cause).updApp n (fun a => { a with delayArmed := true })).setAppState n 2).update = s.update := State.keep_update (by simp)
  simp [State.appReset, State.when, hupd, ht]

theorem State.appReset_app {s : State} {n cause : Nat} (ht : s.update.trial ≠ some 2) :
    ((s.appReset n cause).app n).Halted cause ∧ ((s.appReset n cause).app n).delayArmed = true := by
  rw [State.appReset_eq n cause ht, State.app_of_apps (State.keep_apps (State.setAppState_rest (by decide) _ _ _)), State.app_updApp]
  obtain ⟨hstopped, hcause, hsys, hqps⟩ := State.appHalt_halted s n cause
  exact ⟨⟨hstopped, hcause, hsys, hqps⟩, rfl⟩

theorem State.appReset_status {s : State} {n cause : Nat} (ht : s.update.trial ≠ some 2) :
    (s.appReset n cause).stDie E.appState n = 2 ∧ (s.appReset n cause).stDie E.appLastResetCause n = cause := by
  rw [State.appReset_eq n cause ht]
  refine ⟨State.stDie_setDie_same _ _ n 2, ?_⟩
  rw [State.setAppState, State.stDie_setDie_of_ne _ n 2 (by decide)]
  exact State.appHalt_status s n cause

/-! ### The start of a pair -/

theorem State.appStart_eq {s : State} (n : Nat) (ht : s.update.trial ≠ some 2) :
    s.appStart n = ((s.updApp n (fun a => { a with running := true, reloading := false, delayArmed := false })).setAppState n 1).dropCause n 7 := by
  have hupd : (((s.updApp n (fun a => { a with running := true, reloading := false, delayArmed := false })).setAppState n 1).dropCause n 7).update = s.update :=
    State.keep_update (by simp)
  simp [State.appStart, State.when, hupd, ht]

section start
variable {s : State} {n row : Nat} (hn : n < noRow) (ht : s.update.trial ≠ some 2)
include ht

theorem State.appRuns_app : (s.appRuns n row).app n = { s.app n with running := true, reloading := false, delayArmed := false } := by
  rw [State.appRuns, State.appStart_eq n (by exact ht), State.app_of_apps (State.keep_apps (State.dropCause_rest (by decide) _ _ _)),
    State.app_of_apps (State.keep_apps (State.setAppState_rest (by decide) _ _ _)), State.app_updApp]
  rfl

theorem State.appRuns_appsElse : (s.appRuns n row).appsElse s n := by
  intro m hm
  rw [State.appRuns, State.appStart_eq n (by exact ht), State.app_of_apps (State.keep_apps (State.dropCause_rest (by decide) _ _ _)),
    State.app_of_apps (State.keep_apps (State.setAppState_rest (by decide) _ _ _)), State.app_updApp_other _ _ hm]
  rfl

include hn

theorem State.appRuns_status : (s.appRuns n row).stDie E.appState n = 1 ∧ (s.appRuns n row).st E.versionApplication = imgVersion (s.image row) := by
  have hstate : healthEntry (E.appState + (n - 1) * 256) = false := by
    simp [healthEntry, E.appState, E.healthDieDegradedCause, E.healthDieLastChange, E.placementHealthGeneration, E.placementState]
    omega
  rw [State.appRuns, State.appStart_eq n (by exact ht)]
  refine ⟨?_, ?_⟩
  · rw [State.stDie, State.dropCause_st _ _ hn hstate]
    exact State.stDie_setDie_same _ _ n 1
  · rw [State.dropCause_st _ _ hn (by decide), State.setAppState, State.setDie, State.set]
    rw [State.st_setRow_of_ne _ _ (okey_noRow_ne (by simp [E.versionApplication, E.appState]; omega))]
    exact State.st_set (s.addLoaded row) E.versionApplication _

end start

/-! ### The watchdog's registers and the restart delay -/

/-- A write of the watchdog's control word changes SYS of its own pair (R404). -/
theorem State.sysCtrlWrite_updApp (s : State) (n v : Nat) : s.sysCtrlWrite n v = s ∨ ∃ f, s.sysCtrlWrite n v = s.updApp n f := by
  unfold State.sysCtrlWrite
  simp only [State.updBlock]
  split
  · split
    · exact Or.inr ⟨_, rfl⟩
    · split
      · exact Or.inl rfl
      · exact Or.inr ⟨_, rfl⟩
  · unfold State.when
    split
    · exact Or.inr ⟨_, rfl⟩
    · exact Or.inl rfl

theorem State.sysCtrlWrite_appsElse (s : State) (n v : Nat) : (s.sysCtrlWrite n v).appsElse s n := by
  obtain h | ⟨f, h⟩ := State.sysCtrlWrite_updApp s n v <;> rw [h]
  · exact fun _ _ => rfl
  · exact State.appsElse_updApp s n f

theorem State.sysCtrlWrite_apps (s : State) (n v : Nat) : (s.sysCtrlWrite n v).settle.rest 2200097013760 = s.rest 2200097013760 := by
  obtain h | ⟨f, h⟩ := State.sysCtrlWrite_updApp s n v <;> rw [h] <;> simp

section sysCtrl
variable {s : State} {n v : Nat}

theorem State.sysCtrlWrite_starts (hv : bitAt v 0 = true) (hp : (s.app n).sys.parErr = false) (he : (s.app n).sys.en = false) :
    (s.sysCtrlWrite n v).app n = { s.app n with sys := { (s.app n).sys with en := true }, kicked := s.clock.ticks } := by
  simp [State.sysCtrlWrite, hv, hp, he]

theorem State.sysCtrlWrite_runs (hv : bitAt v 0 = true) (hp : (s.app n).sys.parErr = false) (he : (s.app n).sys.en = true) : s.sysCtrlWrite n v = s := by
  simp [State.sysCtrlWrite, hv, hp, he]

/-- The watchdog stays on once it runs: a word that would stop it is refused (R404). -/
theorem State.sysCtrlWrite_stays (hv : bitAt v 0 = false) (he : (s.app n).sys.en = true) :
    (s.sysCtrlWrite n v).app n = { s.app n with sys := { (s.app n).sys with cfgIgn := true } } := by
  simp [State.sysCtrlWrite, State.when, State.updBlock, hv, he]

end sysCtrl

theorem State.kick_app (s : State) (n : Nat) (w : Word) :
    (s.kick n w.toNat).app n = if w = 0xC3A5#32 then { s.app n with kicked := s.clock.ticks } else { s.app n with kickErr := true } := by
  have hkey : (w.toNat == 0xC3A5) = decide (w = 0xC3A5#32) := by
    rw [Bool.eq_iff_iff]
    simp [BitVec.toNat_eq]
  simp only [State.kick, hkey, decide_eq_true_eq]
  split <;> simp

theorem State.kick_appsElse (s : State) (n v : Nat) : (s.kick n v).appsElse s n := by
  unfold State.kick
  split <;> exact State.appsElse_updApp s n _

/-- The restart delay's end within the limit reloads the image (R428). -/
theorem State.restartDelayEnd_reloads {s : State} {n : Nat} (ha : (s.app n).delayArmed = true) (hl : (s.recentRestarts n).length + 1 ≤ s.cfg E.appRestartLimit) :
    s.restartDelayEnd n = (s.updApp n (fun a => { a with delayArmed := false, reloading := true, restarts := s.clock.ticks :: s.recentRestarts n })).countDie E.appRestarts n := by
  simp [State.restartDelayEnd, ha, Nat.not_lt.mpr hl]

theorem State.restartDelayEnd_holds {s : State} {n : Nat} (ha : (s.app n).delayArmed = true) (hl : s.cfg E.appRestartLimit < (s.recentRestarts n).length + 1) :
    s.restartDelayEnd n = (s.updApp n (fun a => { a with delayArmed := false, restarts := s.recentRestarts n })).setAppState n 3 := by
  simp [State.restartDelayEnd, ha, hl]

/-! ### The image that a pair runs (R447) -/

/-- The other slot takes the place of an image that does not verify (R447). -/
def State.spareTaken (s : State) : State :=
  { s with update := { s.update with active := mset 0 s.update.active 2 (1 - s.activeSlot 2), slotState := mset 0 s.update.slotState (s.activeRow 2) 6 }.rewritten 2 }.updateRecord 8 0x4D 2
    (imgVersion (s.image (s.activeRow 2))) (imgVersion (s.image (s.spareRow 2)))

/-- With no image that verifies a pair stays as it is, without one (R447). -/
def State.noImage (s : State) (n : Nat) : State :=
  (({ s with update := { s.update with loaded := s.update.loaded.filter (· / 2 != 2) } }.updApp n (fun a => { a with reloading := false })).setAppState n 0).set E.versionApplication 0

theorem State.noImage_apps (s : State) (n : Nat) : (s.noImage n).apps = (s.updApp n (fun a => { a with reloading := false })).apps := rfl

theorem State.spareTaken_keeps (s : State) : s.spareTaken.apps = s.apps ∧ s.spareTaken.update.images = s.update.images ∧ s.spareTaken.update.trial = s.update.trial := by
  have hupd : ∀ (u : State) (a b c d e : Nat), (u.updateRecord a b c d e).update = u.update := fun u a b c d e => State.keep_update (by simp)
  refine ⟨State.keep_apps (s := s) (by simp [State.spareTaken]), ?_, ?_⟩ <;> rw [State.spareTaken, hupd] <;> rfl

theorem State.appLoaded_cases {s : State} (n : Nat) (ht : s.update.trial ≠ some 2) :
    s.appLoaded n = if s.verifies 2 (s.chosenRow 2) then s.appRuns n (s.chosenRow 2) else if s.verifies 2 (s.spareRow 2) then s.spareTaken.appRuns n (s.spareRow 2) else s.noImage n := by
  unfold State.appLoaded
  split
  · rfl
  · rw [if_neg (by simpa using ht)]
    rfl

/-- Settles O51: the registers and timers of a pair by their own lemmas, and the load of its image by the three cases of `appLoaded`. -/
theorem applicationPairs : Obligations.ApplicationPairs := by
  unfold Obligations.ApplicationPairs
  intro s d hd hp
  have hlt := Variant.hasDie_lt hd
  refine ⟨fun w => ?ctrl, fun w => ?kick, fun hrun hen ht => ?watchdog, fun ha => ?delay, fun hload hstop hen ht => ?loaded⟩
  case ctrl =>
    have hx : exec (.sysCtrlWrite d w) s = .next (s.sysCtrlWrite d w.toNat).settle := State.onDie_runs hd hp _
    refine State.leads_of_exec hx ⟨fun hw hpar he => ?_, fun hw hpar he => ?_, fun hw he => ?_, State.settle_appsElse (State.sysCtrlWrite_appsElse s d w.toNat),
      State.eq_mix (State.sysCtrlWrite_apps s d w.toNat)⟩
    · rw [State.app_settle, State.sysCtrlWrite_starts (by rwa [bitAt_toNat]) hpar he]
    · rw [State.app_settle, State.sysCtrlWrite_runs (by rwa [bitAt_toNat]) hpar he]
    · rw [State.app_settle, State.sysCtrlWrite_stays (by rwa [bitAt_toNat]) he]
  case kick =>
    have hx : exec (.sysWdtKick d w) s = .next (s.kick d w.toNat).settle := State.onDie_runs hd hp _
    refine State.leads_of_exec hx ⟨?_, State.settle_appsElse (State.kick_appsElse s d w.toNat), State.eq_mix (execSysWdtKick_rest (fs := 2200097013760) (by decide) d w s hx)⟩
    rw [State.app_settle, State.kick_app]
  case watchdog =>
    have hx : exec (.appWatchdogExpiry d) s = .next ((s.countDie E.appCntWatchdog d).appReset d 3).settle := by
      have hgo := State.onDie_runs hd hp (fun s => s.when ((s.app d).running && (s.app d).sys.en) (fun s => (s.countDie E.appCntWatchdog d).appReset d 3))
      rwa [State.when, if_pos (by simp [hrun, hen])] at hgo
    obtain ⟨⟨hstopped, hcause, hsys, hqps⟩, harmed⟩ := State.appReset_app (s := s.countDie E.appCntWatchdog d) (n := d) (cause := 3) ht
    obtain ⟨hstate, hreset⟩ := State.appReset_status (s := s.countDie E.appCntWatchdog d) (n := d) (cause := 3) ht
    refine State.leads_of_exec hx ⟨?_, ?_, ?_, ?_, fun k => ?_, ?_, ?_, State.eq_mix (execAppWatchdogExpiry_rest (fs := 11271604849028) (by decide) d s hx)⟩
    · rw [State.app_settle, hstopped]
    · rw [State.app_settle, harmed]
    · rw [State.app_settle, hcause]
    · rw [State.app_settle, hsys]
    · rw [State.app_settle, hqps]
    · rw [State.stDie_settle, hstate]
    · rw [State.stDie_settle, hreset]
  case delay =>
    have hx : exec (.appRestartDelayExpiry d) s = .next (s.restartDelayEnd d).settle := State.onDie_runs hd hp _
    have hframe := State.eq_mix (execAppRestartDelayExpiry_rest (fs := 2200097013764) (by decide) d s hx)
    by_cases hl : s.cfg E.appRestartLimit < (s.recentRestarts d).length + 1
    · rw [State.restartDelayEnd_holds ha hl] at hx hframe
      have happs := State.keep_apps (State.setAppState_rest (fs := 17591112302590) (by decide)
        (s.updApp d (fun a => { a with delayArmed := false, restarts := s.recentRestarts d })) d 3)
      refine State.leads_of_exec hx ⟨?_, fun hle => absurd hl (Nat.not_lt.mpr hle), fun _ => ⟨?_, ?_⟩, fun m hm => ?_, hframe⟩
      · rw [State.app_settle, State.app_of_apps happs, State.app_updApp]
      · rw [State.stDie_settle]
        exact State.stDie_setDie_same _ _ _ _
      · rw [State.app_settle, State.app_of_apps happs, State.app_updApp]
      · rw [State.app_settle, State.app_of_apps happs, State.app_updApp_other s _ hm]
    · rw [State.restartDelayEnd_reloads ha (Nat.not_lt.mp hl)] at hx hframe
      refine State.leads_of_exec hx ⟨?_, fun _ => ⟨?_, ?_, ?_⟩, fun hlt => absurd hlt hl, fun m hm => ?_, hframe⟩
      · rw [State.app_settle, State.app_countDie, State.app_updApp]
      · rw [State.app_settle, State.app_countDie, State.app_updApp]
      · rw [State.app_settle, State.app_countDie, State.app_updApp]
      · rw [State.stDie_settle, State.stDie_countDie]
        rfl
      · rw [State.app_settle, State.app_countDie, State.app_updApp_other s _ hm]
  case loaded =>
    have hx : exec (.appImageReloaded d) s = .next (s.appLoaded d).settle := by
      have hgo := State.onDie_runs hd hp (fun s => s.when ((s.app d).reloading && s.cfgOn E.appEnable) (·.appLoaded d))
      rwa [State.when, if_pos (by simp [hload, hen])] at hgo
    have hframe := State.eq_mix (execAppImageReloaded_rest (fs := 11271873284484) (by decide) d s hx)
    rw [State.appLoaded_cases d ht] at hx hframe
    by_cases hv : s.verifies 2 (s.chosenRow 2) = true
    · rw [if_pos hv] at hx hframe
      obtain ⟨hstate, hversion⟩ := State.appRuns_status (s := s) (row := s.chosenRow 2) hlt ht
      have happ := State.appRuns_app (s := s) (n := d) (row := s.chosenRow 2) ht
      refine State.leads_of_exec hx ⟨?_, ?_, ?_, ?_, State.settle_appsElse (State.appRuns_appsElse ht), hframe⟩
      · rw [State.app_settle, happ, hv]
        rfl
      · rw [State.app_settle, happ]
      · rw [State.app_settle, happ, State.stDie_settle, hstate]
        rfl
      · rw [if_pos hv, ← hversion]
        exact State.stSlot_settle _ E.versionApplication 0
    · rw [if_neg hv] at hx hframe
      by_cases hs : s.verifies 2 (s.spareRow 2) = true
      · rw [if_pos hs] at hx hframe
        obtain ⟨happs, himages, htrial⟩ := s.spareTaken_keeps
        have ht' : s.spareTaken.update.trial ≠ some 2 := by rw [htrial]; exact ht
        obtain ⟨hstate, hversion⟩ := State.appRuns_status (s := s.spareTaken) (row := s.spareRow 2) hlt ht'
        have happ := State.appRuns_app (s := s.spareTaken) (n := d) (row := s.spareRow 2) ht'
        refine State.leads_of_exec hx ⟨?_, ?_, ?_, ?_, State.settle_appsElse (fun m hm => ?_), hframe⟩
        · rw [State.app_settle, happ, hs]
          simp
        · rw [State.app_settle, happ]
        · rw [State.app_settle, happ, State.stDie_settle, hstate]
          rfl
        · rw [if_neg hv, if_pos hs, State.image, ← himages]
          exact (State.stSlot_settle _ E.versionApplication 0).trans hversion
        · rw [State.appRuns_appsElse ht' m hm, State.app_of_apps happs]
      · rw [if_neg hs] at hx hframe
        have hrun : ((s.noImage d).settle.app d) = { s.app d with reloading := false } := by
          rw [State.app_settle, State.app_of_apps (s.noImage_apps d), State.app_updApp]
        refine State.leads_of_exec hx ⟨?_, ?_, ?_, ?_, State.settle_appsElse (fun m hm => ?_), hframe⟩
        · rw [hrun, Bool.eq_false_iff.mpr hv, Bool.eq_false_iff.mpr hs]
          exact hstop
        · rw [hrun]
        · rw [hrun, State.stDie_settle, if_neg (by simp [hstop]), State.noImage, State.stDie, State.set,
            State.st_setRow_of_ne _ _ (okey_noRow_ne (by simp [E.versionApplication, E.appState]; omega))]
          exact State.stDie_setDie_same _ E.appState d 0
        · rw [if_neg hv, if_neg hs]
          exact (State.stSlot_settle _ E.versionApplication 0).trans (State.st_set _ E.versionApplication 0)
        · rw [State.app_of_apps (s.noImage_apps d), State.app_updApp_other s _ hm]

end Sys2Proof.Machine
end

section
/-! Writes that readmit a die, restart an application pair or leave RUN (R283, R378, R428). -/

namespace Sys2Proof.Machine
open Sys2Proof
set_option Elab.async false

/-! ### The entries and their actions -/

theorem actsAtOnce_readmit (v : Variant) : actsAtOnce v (0x2710 * 256 + 0x06) = true := by cases v <;> decide +kernel
theorem actsAtOnce_powerRequest (v : Variant) : actsAtOnce v E.powerRequest = true := by cases v <;> decide +kernel

theorem actsAtOnce_appRestart {v : Variant} {n : Nat} (hn : v.hasDie n = true) : actsAtOnce v ((0x360F + n) * 256 + 0x04) = true := by
  have hall : ∀ n, n < 16 → v.hasDie n = true → actsAtOnce v ((0x360F + n) * 256 + 0x04) = true := by cases v <;> decide +kernel
  refine hall n ?_ hn
  have hnc : v.nc ≤ 8 := by cases v <;> decide
  simp only [Variant.hasDie, Bool.and_eq_true, decide_eq_true_eq] at hn
  omega

theorem actRow_readmit (v : Variant) (n : Nat) : actRow v 0x2710 n = n := by
  have ho : odObject v 0x2710 = some obj2710 := by cases v <;> decide +kernel
  simp only [actRow, ho]
  rfl

theorem State.odAct_readmit (s : State) (sess row : Nat) (b : Bytes) : s.odAct sess (0x2710 * 256 + 0x06) row b = s.readmitWrite row := rfl
theorem State.odAct_powerRequest (s : State) (sess row : Nat) (b : Bytes) : s.odAct sess E.powerRequest row b = s.powerRequest (leNat b) := rfl

theorem State.odAct_appRestart (s : State) {n : Nat} (h1 : 1 ≤ n) (h8 : n ≤ 8) (sess row : Nat) (b : Bytes) :
    s.odAct sess ((0x360F + n) * 256 + 0x04) row b = s.appRestartWrite n := by
  obtain rfl | rfl | rfl | rfl | rfl | rfl | rfl | rfl : n = 1 ∨ n = 2 ∨ n = 3 ∨ n = 4 ∨ n = 5 ∨ n = 6 ∨ n = 7 ∨ n = 8 := by omega
  all_goals rfl

/-! ### A die in readmission (R283) -/

theorem State.healthChange_dies (s : State) : s.healthChange.dies = s.dies := State.keep_dies (by simp)

/-- Of the dies a change of health writes the state of its own alone (R274). -/
theorem State.setHealth_dies {s : State} {n st : Nat} (h : (s.die n).state ≠ st) : (s.setHealth n st).dies = (s.setDieState n { s.die n with state := st }).dies := by
  have hdrive : ∀ u : State, (u.driveSafe 0x100).dies = u.dies := fun u => rfl
  simp only [State.setHealth, beq_iff_eq, h, if_false, apply_ite State.dies, hdrive, State.healthChange_dies, State.setRow_dies, ite_self]

theorem State.setHealth_die (s : State) (n st : Nat) : (s.setHealth n st).die n = { s.die n with state := st } := by
  by_cases h : (s.die n).state = st
  · subst h
    simp [State.setHealth, State.die]
  · rw [State.die, State.setHealth_dies h]
    exact State.die_setDieState s n _

theorem State.setHealth_die_other (s : State) {m n : Nat} (st : Nat) (hm : m ≠ n) : (s.setHealth n st).die m = s.die m := by
  by_cases h : (s.die n).state = st
  · subst h
    simp [State.setHealth, State.die]
  · rw [State.die, State.setHealth_dies h]
    exact mget_mset_other _ s.dies _ hm

theorem State.clearDie_other (s : State) {m n : Nat} (h : m ≠ n) : (s.clearDie n).die m = s.die m := mget_mset_other _ s.dies _ h

theorem State.clearDie_fdb (s : State) (n : Nat) : ((s.clearDie n).die n).fdb = [] := by
  simp [State.clearDie, State.die, State.setDieState]

/-- A die that enters readmission holds nothing (R283). -/
theorem State.readmitDie_die (s : State) (n : Nat) :
    ((s.readmitDie n).die n).state = 5 ∧ ((s.readmitDie n).die n).fdb = [] ∧ (s.readmitDie n).app n = {} ∧ ∀ m, m ≠ n → (s.readmitDie n).die m = s.die m := by
  have hself := State.setHealth_die (s.clearDie n) n 5
  have hclear : (s.clearDie n).app n = {} := mget_mdel_same _ s.apps n
  refine ⟨by rw [State.readmitDie, hself], by rw [State.readmitDie, hself]; exact s.clearDie_fdb n, ?_, fun m hm => ?_⟩
  · rw [State.readmitDie, State.app_of_apps (State.keep_apps (State.setHealth_rest (by decide) _ _ _)), hclear]
  · rw [State.readmitDie, State.setHealth_die_other _ 5 hm, State.clearDie_other s hm]

/-! ### The way to LISTEN or STANDBY (R378) -/

/-- What the entry to a mode leaves of D0's record: the mode asked for and the ports to come back to. -/
theorem State.enterFrom_power (s : State) (target : Nat) :
    (s.enterFrom target).power = { s.power with
      mode := .entering, target := target, halted := false, enabled := (s.slotList.filter (fun p => s.portRuns p && s.portState p != 0)).filter s.enabled } := by
  refine (State.keep_power (s := ({ s with power := { s.power with
    mode := .entering, target := target, halted := false, enabled := (s.slotList.filter (fun p => s.portRuns p && s.portState p != 0)).filter s.enabled } } : State)) ?_).trans rfl
  simp [State.enterFrom]

/-- The request of a mode, as its command gives it (R378). -/
theorem exec_powerRequest {s : State} {sess m : Nat} {c : Instr} (hc : [(Instr.powerRequestListen sess, 1), (.powerRequestStandby sess, 2)].contains (c, m) = true)
    (hs : s.hasSess sess = true) :
    exec c s = .next (s.sessionWrite sess (E.powerRequest / 256) (E.powerRequest % 256) (s.cursorRow sess (E.powerRequest / 256)) [BitVec.ofNat 8 m]).settle ∧
      leNat [BitVec.ofNat 8 m] = m := by
  obtain ⟨rfl, rfl⟩ | ⟨rfl, rfl⟩ : c = .powerRequestListen sess ∧ m = 1 ∨ c = .powerRequestStandby sess ∧ m = 2 := by simpa using hc
  · exact ⟨doneIf_present hs, rfl⟩
  · exact ⟨doneIf_present hs, rfl⟩

theorem State.requestStatus_cases (s : State) : s.requestStatus = 0 ∨ s.requestStatus = 0x0A ∨ s.requestStatus = 0x0C := by
  unfold State.requestStatus
  split
  · exact Or.inr (Or.inr rfl)
  · split
    · exact Or.inr (Or.inl rfl)
    · exact Or.inl rfl

/-- Settles O43: each write is taken by the rule of all writes that act at once, on what its own action leaves. -/
theorem unitWrites : Obligations.UnitWrites := by
  unfold Obligations.UnitWrites
  intro s sess
  refine ⟨fun n hn ha => ?readmit, fun n v hn ha => ?restart, fun c m hc ha => ?mode⟩
  case readmit =>
    have hact := State.odWrite_acts ha (actsAtOnce_readmit s.variant)
    rw [actRow_readmit] at hact
    have hx : exec (.readmit sess n) s = .next (s.sessionWrite sess 0x2710 0x06 n [1]).settle := doneIf_present (State.accepts_serves ha).1
    by_cases hlost : (s.die n).state = 4
    · have hw : s.odWrite sess 0x2710 0x06 n [1] = (s.readmitDie n, 0) := by
        rw [hact, State.odAct_readmit, State.readmitWrite, if_pos (by simp [hn, hlost])]
      have ht := State.sessionWrite_settled (State.accepts_serves ha) hw (by decide) (by decide)
      obtain ⟨hstate, hfdb, happ, hother⟩ := s.readmitDie_die n
      have hdie : ∀ m, (s.sessionWrite sess 0x2710 0x06 n [1]).settle.die m = (s.readmitDie n).die m := fun m => by
        rw [State.die, State.keep_dies (State.rest_weaken (by decide) ht)]
        rfl
      refine State.leads_of_exec hx ⟨fun _ => ⟨by rw [hdie, hstate], by rw [hdie, hfdb], ?_, State.sessionWrite_status (State.accepts_serves ha) hw (by decide) (by decide),
        fun m hm => by rw [hdie, hother m hm], State.eq_mix (fs := 10999148298316) ?_⟩, fun h => absurd hlost h⟩
      · rw [State.app_of_apps (State.keep_apps (State.rest_weaken (by decide) ht)), happ]
      · rw [State.rest_weaken (by decide) ht]
        simp
    · have hw : s.odWrite sess 0x2710 0x06 n [1] = (s, 0x0A) := by
        rw [hact, State.odAct_readmit, State.readmitWrite, if_neg (by simp [hlost])]
      exact State.leads_of_exec hx ⟨fun h => absurd h hlost, fun _ => ⟨State.sessionWrite_status (State.accepts_serves ha) hw (by decide) (by decide),
        State.eq_mix (fs := 10995116294216) (State.sessionWrite_settled (State.accepts_serves ha) hw (by decide) (by decide))⟩⟩
  case restart =>
    obtain ⟨h1, hnc⟩ : 1 ≤ n ∧ n ≤ s.variant.nc := by simpa [Variant.hasDie] using hn
    have h8 : n ≤ 8 := hnc.trans (by cases s.variant <;> decide)
    have hact := (State.odWrite_acts ha (actsAtOnce_appRestart hn)).trans (State.odAct_appRestart s h1 h8 sess _ _)
    have hx : exec (.appRestart sess n v) s = .next (s.sessionWrite sess (0x360F + n) 0x04 noRow (toLE 1 v)).settle :=
      doneIf_present (by simp [(State.accepts_serves ha).1]; omega)
    cases hen : s.cfgOn E.appEnable
    · have hw : s.odWrite sess (0x360F + n) 0x04 noRow (toLE 1 v) = (s, 0x0A) := by rw [hact, State.appRestartWrite, if_neg (by simp [hen])]
      have ht := State.sessionWrite_settled (State.accepts_serves ha) hw (by decide) (by decide)
      exact State.leads_of_exec hx ⟨fun h => absurd h (by simp), fun _ => ⟨State.app_of_apps (State.keep_apps (State.rest_weaken (by decide) ht)) n,
        State.sessionWrite_status (State.accepts_serves ha) hw (by decide) (by decide), State.eq_mix (fs := 10995116294216) ht⟩,
        State.eq_mix (fs := 11271604849100) (State.rest_weaken (by decide) ht)⟩
    · have hw : s.odWrite sess (0x360F + n) 0x04 noRow (toLE 1 v) = (s.appRestart n, 0) := by rw [hact, State.appRestartWrite, if_pos hen]
      have ht := State.sessionWrite_settled (State.accepts_serves ha) hw (by decide) (by decide)
      refine State.leads_of_exec hx ⟨fun _ htrial => ?_, fun h => absurd h (by simp), State.eq_mix (fs := 11271604849100) ?_⟩
      · have hupd : (s.when (s.stDie E.appState n == 3) (·.updApp n (fun a => { a with restarts := [] }))).update.trial ≠ some 2 := by
          rwa [State.keep_update (s := s) (by simp)]
        obtain ⟨⟨hstopped, hcause, -, -⟩, harmed⟩ := State.appReset_app (n := n) (cause := 4) hupd
        obtain ⟨hstate, hreset⟩ := State.appReset_status (n := n) (cause := 4) hupd
        have happ := State.app_of_apps (State.keep_apps (State.rest_weaken (by decide) ht)) n
        have hst := fun e => State.stDie_of_same (State.keep_variant (State.rest_weaken (by decide) ht)) (State.keep_od (State.rest_weaken (by decide) ht)) e n
        exact ⟨(hst _).trans hstate, by rw [happ]; exact harmed, by rw [happ]; exact hstopped, by rw [happ]; exact hcause, (hst _).trans hreset,
          State.sessionWrite_status (State.accepts_serves ha) hw (by decide) (by decide)⟩
      · rw [State.rest_weaken (by decide) ht]
        simp
  case mode =>
    obtain ⟨hx, hm⟩ := exec_powerRequest hc (State.accepts_serves ha).1
    have hact := (State.odWrite_acts ha (actsAtOnce_powerRequest s.variant)).trans (State.odAct_powerRequest s sess _ _)
    rw [hm, State.powerRequest] at hact
    by_cases hst : s.requestStatus = 0
    · rw [if_pos (by simp [hst])] at hact
      have ht := State.sessionWrite_settled (State.accepts_serves ha) hact (by decide) (by decide)
      have hpower := State.keep_power (State.rest_weaken (by decide) ht)
      rw [State.enterFrom_power] at hpower
      refine State.leads_of_exec hx ⟨fun _ => ⟨by rw [hpower], by rw [hpower], by rw [hpower], by rw [hpower], State.sessionWrite_status (State.accepts_serves ha) hact (by decide) (by decide),
        State.eq_mix (fs := 12099464974412) ?_⟩, fun h => absurd hst h⟩
      rw [State.rest_weaken (by decide) ht]
      simp
    · rw [if_neg (by simp [hst])] at hact
      have h6 : s.requestStatus ≠ 0x06 := by obtain h | h | h := s.requestStatus_cases <;> rw [h] <;> decide
      have h100 : s.requestStatus ≠ 0x100 := by obtain h | h | h := s.requestStatus_cases <;> rw [h] <;> decide
      have ht := State.sessionWrite_settled (State.accepts_serves ha) hact h6 h100
      exact State.leads_of_exec hx ⟨fun h => absurd h hst, fun _ => ⟨State.sessionWrite_status (State.accepts_serves ha) hact h6 h100,
        State.keep_power (State.rest_weaken (by decide) ht), State.eq_mix (fs := 10995116294216) ht⟩⟩

end Sys2Proof.Machine
end

section
/-! Key operations: DERIVE, IMPORT, INVALIDATE and ERASE (R366 to R368, Tables 12-6 to 12-8). -/

namespace Sys2Proof.Machine
open Sys2Proof
set_option Elab.async false

/-! ### What a taken write leaves of the sessions -/

section taken
variable {s u : State} {sess idx sub row st : Nat} {b : Bytes} (hh : s.hasSess sess = true ∧ s.serves sess = true) (hw : s.odWrite sess idx sub row b = (u, st))
  (h6 : st ≠ 0x06) (h100 : st ≠ 0x100)
include hh hw h6 h100

theorem State.sessionWrite_sess :
    (s.sessionWrite sess idx sub row b).settle.sess sess = { u.sess sess with lastStatus := st, last := u.clock.ticks } := by
  rw [State.sess_settle, State.sessionWrite_taken hh hw h6 h100, State.reply_answer]
  simp [State.sess, State.updSess, State.setSess]

theorem State.sessionWrite_sess_other {r : Nat} (hr : r ≠ sess) : (s.sessionWrite sess idx sub row b).settle.sess r = u.sess r := by
  rw [State.sess_settle, State.sessionWrite_taken hh hw h6 h100, State.reply_answer]
  exact mget_mset_other _ u.sessions _ hr

theorem State.sessionWrite_live (e : Nat) : (s.sessionWrite sess idx sub row b).settle.live sess e = u.live sess e := by
  rw [State.live, State.sessionWrite_sess hh hw h6 h100, State.live, State.keep_variant (State.rest_weaken (by decide) (State.sessionWrite_settled hh hw h6 h100))]

end taken

@[simp] theorem State.live_setLive (s : State) (sess e v : Nat) : (s.setLive sess e v).live sess e = v := by
  simp [State.live, State.setLive, State.updSess, State.setSess, State.sess]

/-! ### The entry -/

theorem actsAtOnce_keycmdOp (v : Variant) : actsAtOnce v E.keycmdOp = true := by cases v <;> decide +kernel
theorem State.odAct_keycmdOp (s : State) (sess row : Nat) (b : Bytes) : s.odAct sess E.keycmdOp row b = s.keyOp sess (leNat b) := rfl

/-- A key operation that nothing stops either makes its change or answers 0x0A (R366). -/
theorem State.keyOp_done {s u : State} {sess op : Nat} (hst : s.keyOpStatus sess op = 0) (hr : s.keyOpRun sess op (s.keyCmd sess) = some u) :
    s.keyOp sess op = (s.keyOpDone u sess op (s.keyCmd sess), 0) := by
  simp [State.keyOp, hst, hr]

theorem State.keyOp_refused {s : State} {sess op : Nat} (hst : s.keyOpStatus sess op = 0) (hr : s.keyOpRun sess op (s.keyCmd sess) = none) :
    s.keyOp sess op = (s.setLive sess E.keycmdStatus 0x0A, 0x0A) := by
  simp [State.keyOp, hst, hr]

theorem State.keyOp_stopped {s : State} {sess op : Nat} (hst : s.keyOpStatus sess op ≠ 0) :
    s.keyOp sess op = (s.setLive sess E.keycmdStatus (s.keyOpStatus sess op), s.keyOpStatus sess op) := by
  simp [State.keyOp, hst]

/-- A completed operation keeps the records, the generations and the failed checks that its change left (R366). -/
theorem State.keyOpDone_keys (s u : State) (sess op : Nat) (c : KeyCmd) : (s.keyOpDone u sess op c).keys = u.purgeKeys.keys := State.keep_keys (by simp [State.keyOpDone])

theorem State.keyOpDone_live (s u : State) (sess op : Nat) (c : KeyCmd) : (s.keyOpDone u sess op c).live sess E.keycmdStatus = 0 := State.live_setLive _ sess _ 0

/-! ### Records -/

/-- The record that a wrap stores: its fields with fresh wrapping (Table 12-6). -/
def State.wrapped (s : State) (slot : Nat) (r : KeyRecord) (key : Bytes) : KeyRecord :=
  let iv := toLE 12 (Config.trng s.fresh).toNat
  let boxed : KeyRecord := { r with iv := iv, boxed := gcmSeal s.fuses.dukBytes iv (r.header slot) (pad 32 key), intact := true }
  { boxed with crc := boxed.check slot }

theorem State.wrap_record (s : State) (slot : Nat) (r : KeyRecord) (key : Bytes) : mfind (s.wrap slot r key).keys.records slot = some (s.wrapped slot r key) :=
  mfind_mput_same _ _ _

theorem State.wrap_other (s : State) {slot k : Nat} (r : KeyRecord) (key : Bytes) (hk : k ≠ slot) : mfind (s.wrap slot r key).keys.records k = mfind s.keys.records k :=
  mfind_mput_other _ _ hk

theorem mget_none_map {α : Type} (m : NMap α) (k : Nat) : mget none (m.map (fun p => (p.1, some p.2))) k = mfind m k := by
  induction m with
  | nil => rfl
  | cons x m ih => simp only [List.map_cons, mget, mfind, ih]

/-! ### The end of the access points' sessions (R368) -/

theorem State.sess_endSession_same (s : State) {row : Nat} (h : row < 5) : (s.endSession row).sess row = {} := by
  simp [State.endSession, State.sess, show ¬ 5 ≤ row by omega]

theorem State.sess_endSession_other (s : State) {row r : Nat} (h : row < 5) (hr : r ≠ row) : (s.endSession row).sess r = s.sess r := by
  simp only [State.endSession, show ¬ 5 ≤ row by omega, if_false, State.sess]
  rw [mget_mdel_other _ _ hr, State.keep_sessions (State.releaseStaging_rest (by decide) s row)]

theorem State.endAccessPoint_keys (s : State) (ap : Nat) : (s.endAccessPoint ap).keys = s.keys := State.keep_keys (by simp [State.endAccessPoint])

/-- The service channel and the Anise sessions are rows 0 to 4. -/
theorem State.endAccessPoints_eq (s : State) : (s.endAccessPoint 1).endAccessPoint 2 = ((((s.endSession 0).endSession 1).endSession 2).endSession 3).endSession 4 := by
  have h1 : (List.range 5).filter (fun r => apCode r == 1) = [0] := by decide
  have h2 : (List.range 5).filter (fun r => apCode r == 2) = [1, 2, 3, 4] := by decide
  simp only [State.endAccessPoint, h1, h2, List.foldl_cons, List.foldl_nil]

theorem State.endAccessPoints_sess (s : State) {row : Nat} (h : row < 5) : ((s.endAccessPoint 1).endAccessPoint 2).sess row = {} := by
  rw [State.endAccessPoints_eq]
  obtain rfl | rfl | rfl | rfl | rfl : row = 0 ∨ row = 1 ∨ row = 2 ∨ row = 3 ∨ row = 4 := by omega
  · rw [State.sess_endSession_other _ (by decide) (by decide), State.sess_endSession_other _ (by decide) (by decide), State.sess_endSession_other _ (by decide) (by decide),
      State.sess_endSession_other _ (by decide) (by decide), State.sess_endSession_same _ (by decide)]
  · rw [State.sess_endSession_other _ (by decide) (by decide), State.sess_endSession_other _ (by decide) (by decide), State.sess_endSession_other _ (by decide) (by decide),
      State.sess_endSession_same _ (by decide)]
  · rw [State.sess_endSession_other _ (by decide) (by decide), State.sess_endSession_other _ (by decide) (by decide), State.sess_endSession_same _ (by decide)]
  · rw [State.sess_endSession_other _ (by decide) (by decide), State.sess_endSession_same _ (by decide)]
  · exact State.sess_endSession_same _ (by decide)

theorem KeyStore.advance_records (k : KeyStore) (root : Nat) : (k.advance root).records = k.records := by
  unfold KeyStore.advance
  split_ifs <;> rfl

theorem KeyStore.gen_advance (k : KeyStore) (root : Nat) : (k.advance root).gen root = (k.gen root + 1) % 2 ^ 32 := by
  unfold KeyStore.advance KeyStore.gen
  split_ifs <;> rfl

section operations
variable {s : State} {c : KeyCmd}

theorem State.derive_taken (h : (mfind s.keys.records c.slot).isSome = true) : s.derive c = none := by simp [State.derive, h]

theorem State.derive_family (hfree : mfind s.keys.records c.slot = none) (hroot : selectedRoot s.life.state ≠ 0) (hkind : c.kind = 0) (hok : c.familyOk = true)
    (hnew : s.familyTaken (selectedRoot s.life.state) c.parent = false) :
    s.derive c = some (s.wrap c.slot { c.record (selectedRoot s.life.state) (s.keys.gen (selectedRoot s.life.state)) 0 with
      kcv := keyCheck (Config.kdf (s.rootBytes (selectedRoot s.life.state)) (ascii "AZ8100-FAMILY") (toLE 1 c.parent ++ toLE 4 (s.keys.gen (selectedRoot s.life.state)) ++ serialBytes) 32) }
      (Config.kdf (s.rootBytes (selectedRoot s.life.state)) (ascii "AZ8100-FAMILY") (toLE 1 c.parent ++ toLE 4 (s.keys.gen (selectedRoot s.life.state)) ++ serialBytes) 32)) := by
  simp [State.derive, hfree, hroot, hkind, hok, hnew]

theorem State.derive_leaf (hfree : mfind s.keys.records c.slot = none) (hroot : selectedRoot s.life.state ≠ 0) (hkind : c.kind = 1) (hok : c.leafOk = true)
    (hparent : s.parentOk c.parent = true) :
    s.derive c = some (s.wrap c.slot { c.record (selectedRoot s.life.state) (s.familyGen c.parent) 0 with
      kcv := keyCheck (Config.kdf (s.keyBytes c.parent) (ascii "AZ8100-LEAF") (toLE 4 (s.familyGen c.parent) ++ toLE 16 c.label ++ serialBytes) c.length) }
      (Config.kdf (s.keyBytes c.parent) (ascii "AZ8100-LEAF") (toLE 4 (s.familyGen c.parent) ++ toLE 16 c.label ++ serialBytes) c.length)) := by
  simp [State.derive, hfree, hroot, hkind, hok, hparent]

/-- DERIVE makes one record, in its slot (R366). -/
theorem State.derive_wraps {u : State} (h : s.derive c = some u) : ∃ r key, u = s.wrap c.slot r key := by
  unfold State.derive at h
  dsimp only at h
  split at h
  · cases h
  · split at h
    · split at h
      · cases h
      · exact ⟨_, _, (Option.some.inj h).symm⟩
    · split at h
      · cases h
      · exact ⟨_, _, (Option.some.inj h).symm⟩

/-- IMPORT makes one record, in its slot, of the leaf that the command describes (R367). -/
theorem State.importKey_wraps {u : State} {blob : Bytes} (h : s.importKey c blob = some u) :
    ∃ k key, u = s.wrap c.slot { c.record (selectedRoot s.life.state) (s.familyGen c.parent) 1 with kcv := k } key ∧ c.kind = 1 := by
  unfold State.importKey at h
  dsimp only at h
  split at h
  · cases h
  · next hfits =>
    split at h
    · split at h
      · exact ⟨_, _, (Option.some.inj h).symm, by simp_all⟩
      · cases h
    · cases h

theorem State.invalidate_root (hslot : c.slot = 0xFF) (hroot : selectedRoot s.life.state ≠ 0) :
    s.invalidate c = some ((({ s with keys := { s.keys.advance (selectedRoot s.life.state) with failed := [] } } : State).endAccessPoint 1).endAccessPoint 2) := by
  simp [State.invalidate, hslot, hroot]

/-- INVALIDATE of the root advances its generation and ends the access points' sessions (R368). -/
theorem State.invalidate_root_leaves {u : State} (hslot : c.slot = 0xFF) (hroot : selectedRoot s.life.state ≠ 0) (h : s.invalidate c = some u) :
    u.keys.records = s.keys.records ∧ u.keys.gen (selectedRoot s.life.state) = (s.keys.gen (selectedRoot s.life.state) + 1) % 2 ^ 32 ∧ ∀ row, row < 5 → u.sess row = {} := by
  obtain rfl := Option.some.inj ((State.invalidate_root hslot hroot).symm.trans h)
  refine ⟨?_, ?_, fun row hrow => State.endAccessPoints_sess _ hrow⟩
  · rw [State.endAccessPoint_keys, State.endAccessPoint_keys, KeyStore.advance_records]
  · rw [State.endAccessPoint_keys, State.endAccessPoint_keys]
    exact KeyStore.gen_advance s.keys _

/-- INVALIDATE of a family advances its generation and wraps its record anew where it can (R368). -/
theorem State.invalidate_family {r : KeyRecord} (hslot : c.slot ≠ 0xFF) (hr : mfind s.keys.records c.slot = some r) (hkind : r.kind = 0) :
    ∃ u r1, s.invalidate c = some u ∧ mfind u.keys.records c.slot = some r1 ∧ r1 = { r with ownGen := (r.ownGen + 1) % 2 ^ 32, iv := r1.iv, boxed := r1.boxed, crc := r1.crc } ∧
      u.keys.failed = [] ∧ ∀ k, k ≠ c.slot → mfind u.keys.records k = mfind s.keys.records k := by
  unfold State.invalidate
  rw [if_neg (by simpa using hslot), hr]
  dsimp only
  rw [if_neg (by simp [hkind])]
  have hplain : ∃ r1, mfind (mput s.keys.records c.slot { r with ownGen := (r.ownGen + 1) % 2 ^ 32 }) c.slot = some r1 ∧
      r1 = { r with ownGen := (r.ownGen + 1) % 2 ^ 32, iv := r1.iv, boxed := r1.boxed, crc := r1.crc } := ⟨_, mfind_mput_same _ _ _, rfl⟩
  split
  · next key _ =>
    split
    · next hsane =>
      have hintact : r.intact = true := by
        simp only [KeyRecord.sane, Bool.and_eq_true] at hsane
        exact hsane.1
      refine ⟨_, _, rfl, s.wrap_record c.slot _ key, ?_, rfl, fun k hk => s.wrap_other _ key hk⟩
      simp [State.wrapped, hintact]
    · exact ⟨_, hplain.choose, rfl, hplain.choose_spec.1, hplain.choose_spec.2, rfl, fun k hk => mfind_mput_other _ _ hk⟩
  · exact ⟨_, hplain.choose, rfl, hplain.choose_spec.1, hplain.choose_spec.2, rfl, fun k hk => mfind_mput_other _ _ hk⟩

/-- INVALIDATE changes no record but the one it names (R368). -/
theorem State.invalidate_other {u : State} (h : s.invalidate c = some u) {k : Nat} (hk : k ≠ c.slot) : mfind u.keys.records k = mfind s.keys.records k := by
  by_cases hslot : c.slot = 0xFF
  · by_cases hroot : selectedRoot s.life.state = 0
    · simp [State.invalidate, hslot, hroot] at h
    · rw [(State.invalidate_root_leaves hslot hroot h).1]
  · cases hr : mfind s.keys.records c.slot with
    | none => simp [State.invalidate, hslot, hr] at h
    | some r =>
      by_cases hkind : r.kind = 0
      · obtain ⟨v, r1, hv, -, -, -, hother⟩ := State.invalidate_family hslot hr hkind
        obtain rfl := Option.some.inj (hv.symm.trans h)
        exact hother k hk
      · simp [State.invalidate, hslot, hr, hkind] at h

end operations

/-! ### A key operation as the session's write -/

theorem State.keyOpDone_sess_other (s u : State) {sess r : Nat} (op : Nat) (c : KeyCmd) (hr : r ≠ sess) : (s.keyOpDone u sess op c).sess r = u.sess r := by
  rw [State.keyOpDone, State.setLive, State.updSess, State.setSess, State.sess, mget_mset_other _ _ _ hr]
  exact congrArg (fun m => mget {} m r) (State.keep_sessions (s := u) (t := (u.purgeKeys.keyEvidence c.slot op (s.genAfter u op c))) (by simp))

section write
variable {s : State} {sess op row : Nat} {b : Bytes}

theorem State.keyOp_written (ha : s.accepts sess (E.keycmdOp / 256) (E.keycmdOp % 256) row b = true) (hop : leNat b = op) :
    s.odWrite sess (E.keycmdOp / 256) (E.keycmdOp % 256) row b = s.keyOp sess op :=
  hop ▸ (State.odWrite_acts ha (actsAtOnce_keycmdOp _)).trans (State.odAct_keycmdOp s sess _ _)

/-- What a key operation that completes leaves (R366). -/
theorem State.keyWrite_done {u : State} (ha : s.accepts sess (E.keycmdOp / 256) (E.keycmdOp % 256) row b = true) (hop : leNat b = op) (hst : s.keyOpStatus sess op = 0)
    (hr : s.keyOpRun sess op (s.keyCmd sess) = some u) (t : State) (ht : t = (s.sessionWrite sess (E.keycmdOp / 256) (E.keycmdOp % 256) row b).settle) :
    t.keys = u.purgeKeys.keys ∧ t.live sess E.keycmdStatus = 0 ∧ (t.sess sess).lastStatus = 0 ∧ ∀ r, r ≠ sess → t.sess r = u.sess r := by
  have hw := (State.keyOp_written ha hop).trans (State.keyOp_done hst hr)
  have hh := State.accepts_serves ha
  subst ht
  exact ⟨(State.keep_keys (State.rest_weaken (by decide) (State.sessionWrite_settled hh hw (by decide) (by decide)))).trans (State.keyOpDone_keys s u sess op _),
    (State.sessionWrite_live hh hw (by decide) (by decide) _).trans (State.keyOpDone_live s u sess op _), State.sessionWrite_status hh hw (by decide) (by decide),
    fun r hne => (State.sessionWrite_sess_other hh hw (by decide) (by decide) hne).trans (State.keyOpDone_sess_other s u op _ hne)⟩

/-- What a key operation that is refused with a status leaves (R366). -/
theorem State.keyWrite_stopped {st : Nat} (ha : s.accepts sess (E.keycmdOp / 256) (E.keycmdOp % 256) row b = true) (hop : leNat b = op)
    (hw : s.keyOp sess op = (s.setLive sess E.keycmdStatus st, st)) (h6 : st ≠ 0x06) (h100 : st ≠ 0x100) (t : State)
    (ht : t = (s.sessionWrite sess (E.keycmdOp / 256) (E.keycmdOp % 256) row b).settle) :
    t.keys = s.keys ∧ t.live sess E.keycmdStatus = st ∧ (t.sess sess).lastStatus = st := by
  have hw := (State.keyOp_written ha hop).trans hw
  have hh := State.accepts_serves ha
  subst ht
  exact ⟨(State.keep_keys (State.rest_weaken (by decide) (State.sessionWrite_settled hh hw h6 h100))).trans rfl,
    (State.sessionWrite_live hh hw h6 h100 _).trans (State.live_setLive s sess _ st), State.sessionWrite_status hh hw h6 h100⟩

theorem State.keyOpStatus_cases (s : State) (sess op : Nat) :
    s.keyOpStatus sess op = 0 ∨ s.keyOpStatus sess op = 0x0A ∨ s.keyOpStatus sess op = 0x0C ∨ s.keyOpStatus sess op = 0x37 := by
  unfold State.keyOpStatus State.keyOpStop
  split_ifs <;> simp

theorem State.keyOp_status_cases (s : State) (sess op : Nat) :
    (s.keyOp sess op).2 = 0 ∨ (s.keyOp sess op).2 = 0x0A ∨ (s.keyOp sess op).2 = 0x0C ∨ (s.keyOp sess op).2 = 0x37 := by
  by_cases hst : s.keyOpStatus sess op = 0
  · cases hr : s.keyOpRun sess op (s.keyCmd sess) with
    | none => simp [State.keyOp_refused hst hr]
    | some u => simp [State.keyOp_done hst hr]
  · simpa [State.keyOp_stopped hst] using s.keyOpStatus_cases sess op

/-- What no key operation touches. -/
theorem State.keyWrite_frame (ha : s.accepts sess (E.keycmdOp / 256) (E.keycmdOp % 256) row b = true) (hop : leNat b = op) :
    (s.sessionWrite sess (E.keycmdOp / 256) (E.keycmdOp % 256) row b).settle.rest 15479062186444 = s.rest 15479062186444 := by
  have hne : (s.keyOp sess op).2 ≠ 0x06 ∧ (s.keyOp sess op).2 ≠ 0x100 := by
    obtain h | h | h | h := s.keyOp_status_cases sess op <;> simp [h]
  have hw : s.odWrite sess (E.keycmdOp / 256) (E.keycmdOp % 256) row b = ((s.keyOp sess op).1, (s.keyOp sess op).2) := State.keyOp_written ha hop
  rw [State.rest_weaken (by decide) (State.sessionWrite_settled (State.accepts_serves ha) hw hne.1 hne.2)]
  simp

end write

/-- Settles O45: each operation by what its run makes of the records. -/
theorem keyOperations : Obligations.KeyOperations := by
  unfold Obligations.KeyOperations
  intro s sess
  refine ⟨fun ha hstop => ?derive, fun ha hstop => ?imported, fun ha hstop => ?invalidate, fun ha hstop => ?erase⟩
  case derive =>
    have hx : exec (.keyDerive sess) s = .next (s.sessionWrite sess (E.keycmdOp / 256) (E.keycmdOp % 256) (s.cursorRow sess (E.keycmdOp / 256)) [1]).settle :=
      doneIf_present (State.accepts_serves ha).1
    have hst : s.keyOpStatus sess 1 = 0 := by simp [State.keyOpStatus, hstop]
    have hframe := State.eq_mix (State.keyWrite_frame (op := 1) ha rfl)
    refine State.leads_of_exec hx ?_
    cases hr : s.derive (s.keyCmd sess) with
    | none =>
      obtain ⟨hkeys, hlive, hlast⟩ := State.keyWrite_stopped ha rfl (State.keyOp_refused hst hr) (by decide) (by decide) _ rfl
      refine ⟨fun hfree hroot hkind hok hnew => ?_, fun hfree hroot hkind hok hp => ?_, fun _ => ⟨hkeys, hlive, hlast⟩, fun k _ => by rw [hkeys], hframe⟩
      · rw [State.derive_family hfree hroot hkind hok hnew] at hr
        cases hr
      · rw [State.derive_leaf hfree hroot hkind hok hp] at hr
        cases hr
    | some u =>
      obtain ⟨hkeys, hlive, hlast, -⟩ := State.keyWrite_done ha rfl hst hr _ rfl
      refine ⟨fun hfree hroot hkind hok hnew => ⟨?_, hlive, hlast⟩, fun hfree hroot hkind hok hp => ⟨?_, hlive, hlast⟩, fun htaken => ?_, fun k hk => ?_, hframe⟩
      · obtain rfl := Option.some.inj (hr.symm.trans (State.derive_family hfree hroot hkind hok hnew))
        exact ⟨_, (congrArg (mfind ·.records _) hkeys).trans (s.wrap_record _ _ _), hkind, rfl, rfl, rfl, rfl, rfl, rfl, rfl⟩
      · obtain rfl := Option.some.inj (hr.symm.trans (State.derive_leaf hfree hroot hkind hok hp))
        exact ⟨_, (congrArg (mfind ·.records _) hkeys).trans (s.wrap_record _ _ _), hkind, rfl, rfl, rfl, rfl, rfl, rfl, rfl⟩
      · rw [State.derive_taken htaken] at hr
        cases hr
      · obtain ⟨r, key, rfl⟩ := State.derive_wraps hr
        rw [mget_none_map, mget_none_map, hkeys]
        exact s.wrap_other r key hk
  case imported =>
    have hx : exec (.keyImport sess) s = .next (s.sessionWrite sess (E.keycmdOp / 256) (E.keycmdOp % 256) (s.cursorRow sess (E.keycmdOp / 256)) [2]).settle :=
      doneIf_present (State.accepts_serves ha).1
    have hst : s.keyOpStatus sess 2 = 0 := by simp [State.keyOpStatus, hstop]
    have hframe := State.eq_mix (State.keyWrite_frame (op := 2) ha rfl)
    refine State.leads_of_exec hx ?_
    cases hr : s.importKey (s.keyCmd sess) (toLE 60 (s.live sess E.keycmdBlob)) with
    | none =>
      obtain ⟨hkeys, hlive, hlast⟩ := State.keyWrite_stopped ha rfl (State.keyOp_refused hst hr) (by decide) (by decide) _ rfl
      exact ⟨fun u hu => (Option.some_ne_none u hu.symm).elim, fun _ => ⟨hkeys, hlive, hlast⟩, fun k _ => by rw [hkeys], hframe⟩
    | some u =>
      obtain ⟨hkeys, hlive, hlast, -⟩ := State.keyWrite_done ha rfl hst hr _ rfl
      obtain ⟨kcv, key, hu, hkind⟩ := State.importKey_wraps hr
      refine ⟨fun v hv => ?_, fun h => (Option.some_ne_none u h).elim, fun k hk => ?_, hframe⟩
      · obtain rfl := Option.some.inj hv
        refine ⟨congrArg (·.records) hkeys, ⟨_, (congrArg (mfind ·.records _) hkeys).trans (hu ▸ s.wrap_record _ _ _), hkind, rfl, ?_, rfl⟩, hlive, hlast⟩
        simp [State.wrapped, KeyCmd.record]
      · rw [hkeys, hu]
        exact s.wrap_other _ key hk
  case invalidate =>
    have hx : exec (.keyInvalidate sess) s = .next (s.sessionWrite sess (E.keycmdOp / 256) (E.keycmdOp % 256) (s.cursorRow sess (E.keycmdOp / 256)) [3]).settle :=
      doneIf_present (State.accepts_serves ha).1
    have hframe := State.eq_mix (State.keyWrite_frame (op := 3) ha rfl)
    refine State.leads_of_exec hx ?_
    by_cases haes : s.safe.noAes = true ∧ (s.keyCmd sess).slot ≠ 0xFF
    · have hst : s.keyOpStatus sess 3 = 0x37 := by simp [State.keyOpStatus, hstop, haes]
      obtain ⟨hkeys, hlive, hlast⟩ := State.keyWrite_stopped ha rfl (hst ▸ State.keyOp_stopped (by simp [hst])) (by decide) (by decide) _ rfl
      exact ⟨fun r _ h => absurd haes.1 (by simp [h]), fun _ _ => ⟨hkeys, hlive, hlast⟩, fun h => absurd h haes.2, fun k _ => by rw [hkeys], hframe⟩
    · have hst : s.keyOpStatus sess 3 = 0 := by
        rw [State.keyOpStatus, hstop, if_neg]
        simpa using haes
      cases hr : s.invalidate (s.keyCmd sess) with
      | none =>
        obtain ⟨hkeys, hlive, hlast⟩ := State.keyWrite_stopped ha rfl (State.keyOp_refused hst hr) (by decide) (by decide) _ rfl
        refine ⟨fun r hslot _ hrec hkind => ?_, fun hslot hno => absurd ⟨hno, hslot⟩ haes, fun hslot hroot => ?_, fun k _ => by rw [hkeys], hframe⟩
        · obtain ⟨v, -, hv, -⟩ := State.invalidate_family hslot hrec hkind
          cases hv.symm.trans hr
        · cases (State.invalidate_root hslot hroot).symm.trans hr
      | some u =>
        obtain ⟨hkeys, hlive, hlast, hsess⟩ := State.keyWrite_done ha rfl hst hr _ rfl
        refine ⟨fun r hslot _ hrec hkind => ?_, fun hslot hno => absurd ⟨hno, hslot⟩ haes, fun hslot hroot => ?_, fun k hk => ?_, hframe⟩
        · obtain ⟨v, r1, hv, hr1, heq, hfailed, -⟩ := State.invalidate_family hslot hrec hkind
          obtain rfl := Option.some.inj (hv.symm.trans hr)
          exact ⟨⟨r1, (congrArg (mfind ·.records _) hkeys).trans hr1, heq⟩, (congrArg (·.failed) hkeys).trans hfailed, hlive, hlast⟩
        · obtain ⟨hrecords, hgen, hends⟩ := State.invalidate_root_leaves hslot hroot hr
          exact ⟨(congrArg (·.records) hkeys).trans hrecords, (congrArg (·.gen (selectedRoot s.life.state)) hkeys).trans hgen, fun row hrow hne => by rw [hsess row hne, hends row hrow], hlast⟩
        · rw [hkeys]
          exact State.invalidate_other hr hk
  case erase =>
    have hx : exec (.keyErase sess) s = .next (s.sessionWrite sess (E.keycmdOp / 256) (E.keycmdOp % 256) (s.cursorRow sess (E.keycmdOp / 256)) [4]).settle :=
      doneIf_present (State.accepts_serves ha).1
    have hst : s.keyOpStatus sess 4 = 0 := by simp [State.keyOpStatus, hstop]
    obtain ⟨hkeys, hlive, hlast, -⟩ := State.keyWrite_done ha rfl hst (u := s.eraseKey (s.keyCmd sess)) rfl _ rfl
    exact State.leads_of_exec hx ⟨congrArg (·.records) hkeys, congrArg (·.failed) hkeys, hlive, hlast, State.eq_mix (State.keyWrite_frame (op := 4) ha rfl)⟩

end Sys2Proof.Machine
end

section
/-! A trial that falls back while a disabled port holds a copy of a group outside its table (R230, R445). -/

namespace Sys2Proof.Machine
open Sys2Proof
set_option Elab.async false

/-- A copy of an ATOMIC group whose row of the counters is the status of the update. -/
def statusGroupCopy : Copy := { frame := { fmt := .eth }, ingress := 0, atomic := okey E.updateStatus noRow - okey E.groupCntPartialLoss 0 + 1 }

/-- Part 1 is in trial, and slot 0 is ENABLING with that copy in its queue of class 0. -/
def trialHoldingState : State :=
  { State.reset with
    power := { State.reset.power with mode := .run }
    update := { State.reset.update with state := 5, part := 1, trial := some 1, window := true }
    dies := mset {} State.reset.dies 1 { image := true, inReset := false, supplied := true, runtimeUp := true, state := 1 }
    queues := mset [] State.reset.queues (queueRow 1 0 0) [statusGroupCopy] }.setPortState 0 1

/-- The entry to the fallback boot drains the port, and the copy counts at the status that the fallback has set. -/
theorem trialHoldingState_status : (trialHoldingState.fallBackNow 0x4E).settle.st E.updateStatus = 0x4F := by decide +kernel

/-- Refutes O46: a held copy whose ATOMIC group lies outside the groups counts at the status of the update when its port drains. -/
theorem not_updateSequence : ¬ Obligations.UpdateSequence := by
  unfold Obligations.UpdateSequence
  intro h
  obtain ⟨-, -, -, -, -, -, -, -, hwindow, -⟩ := h trialHoldingState 0
  have hx : exec .trialWindowEnd trialHoldingState = .next (trialHoldingState.fallBackNow 0x4E).settle := congrArg done (if_pos (by decide))
  obtain ⟨-, -, hstatus, -⟩ := State.of_leads hx (hwindow 1 (by decide) (by decide) (by decide))
  rw [trialHoldingState_status] at hstatus
  exact absurd hstatus (by decide)

end Sys2Proof.Machine
end

section
/-! Plausibility rules move by their verdict and timers (R309 to R313, Table 10-4): what an evaluation leaves alone, and each move. -/

namespace Sys2Proof.Machine
open Sys2Proof
set_option Elab.async false

/-! ### What an evaluation leaves alone -/

/-- The measurement front end but for the rules' own states. -/
def State.readings (s : State) : Measure := { s.measure with rules := [] }

/-- The entries of the dictionary that an evaluation of a rule writes. -/
def ruleEntry (e : Nat) : Bool :=
  [E.ruleStA, E.ruleStB, E.ruleStInputStale, E.ruleStSince, E.ruleStOffendingSlot, E.ruleCntStaleEntries, E.ruleCntFired, E.ruleCntReleased].contains e

/-- Two states agree in the readings, in every status entry, of every row there is, that rules do not write, and in the messages that wait on lane 2. -/
structure State.SameReadings (s t : State) : Prop where
  readings : t.readings = s.readings
  entries : ∀ e r, ruleEntry e = false → r < 4294967296 → t.stRow e r = s.stRow e r
  lanes : ∀ n, (t.die n).lane2 = (s.die n).lane2

theorem State.SameReadings.rfl {s : State} : s.SameReadings s := ⟨Eq.refl _, fun _ _ _ _ => Eq.refl _, fun _ => Eq.refl _⟩

theorem State.SameReadings.trans {s t u : State} (h : s.SameReadings t) (h' : t.SameReadings u) : s.SameReadings u :=
  ⟨h'.readings.trans h.readings, fun e r he hr => (h'.entries e r he hr).trans (h.entries e r he hr), fun n => (h'.lanes n).trans (h.lanes n)⟩

theorem State.SameReadings.of_kept {s t : State} (h : t.rest 17454747090938 = s.rest 17454747090938) (hl : ∀ n, (t.die n).lane2 = (s.die n).lane2) : s.SameReadings t := by
  refine ⟨?_, fun e r _ _ => ?_, hl⟩
  · rw [State.readings, State.keep_measure (State.rest_weaken (by decide) h), State.readings]
  · rw [State.stRow, State.keep_variant (State.rest_weaken (by decide) h), State.keep_od (State.rest_weaken (by decide) h), State.stRow]

theorem State.SameReadings.of_rest {s t : State} (h : t.rest 17454747058170 = s.rest 17454747058170) : s.SameReadings t :=
  .of_kept (State.rest_weaken (by decide) h) (fun n => by rw [State.die, State.keep_dies (State.rest_weaken (by decide) h), State.die])

theorem State.SameReadings.when {s : State} {f : State → State} (h : s.SameReadings (f s)) (c : Bool) : s.SameReadings (s.when c f) := by
  cases c
  · exact .rfl
  · exact h

theorem State.SameReadings.forAll {f : State → Nat → State} (h : ∀ (s : State) (n : Nat), s.SameReadings (f s n)) (s : State) (l : List Nat) : s.SameReadings (s.forAll l f) := by
  induction l generalizing s with
  | nil => exact .rfl
  | cons n l ih => exact (h s n).trans (ih (f s n))

/-- A doorbell waits at a die of its own (R407), and no message of lane 2 with it. -/
theorem State.sameReadings_doorbell (s : State) (src : Nat) : s.SameReadings (s.doorbell src) := by
  refine .of_kept (State.doorbell_rest (by decide) s src) (State.SameReadings.forAll (fun u m => ?_) s _).lanes
  split
  · refine .of_kept (State.updDie_rest (by decide) _ _ _) (fun n => ?_)
    by_cases hn : n = m
    · subst hn
      rw [State.die_updDie]
    · rw [State.die_updDie_other _ _ hn]
  · exact .of_rest (by simp)

theorem State.sameReadings_evidence (s : State) (type unit : Nat) (p : Bytes) : s.SameReadings (s.evidence 0 type unit p) := by
  refine .of_kept (State.evidence_rest (by decide) s 0 type unit p _) (fun n => ?_)
  simp only [State.evidence, State.requestD0, beq_self_eq_true, if_true]
  split <;> rfl

theorem State.sameReadings_setRow (s : State) {e row : Nat} (v : Nat) (he : ruleEntry e = true) (hrow : row < 4294967296) : s.SameReadings (s.setRow e row v) := by
  refine ⟨Eq.refl _, fun f r hf hr => mget_mset_of_ne _ _ s.od.stat v ?_, fun _ => Eq.refl _⟩
  have hne : f ≠ e := by
    rintro rfl
    exact absurd he (by simp [hf])
  simp only [okey]
  omega

theorem State.sameReadings_countRow (s : State) {e row : Nat} (he : ruleEntry e = true) (hrow : row < 4294967296) : s.SameReadings (s.countRow e row) :=
  s.sameReadings_setRow _ he hrow

theorem State.sameReadings_setRule (s : State) (row : Nat) (r : RuleSt) : s.SameReadings (s.setRule row r) := ⟨Eq.refl _, fun _ _ _ _ => Eq.refl _, fun _ => Eq.refl _⟩

section evaluation
variable {row : Nat} (hrow : row < 4294967296)
include hrow

theorem State.sameReadings_ruleTo (s : State) (state : Nat) (timer : Bool) : s.SameReadings (s.ruleTo row state timer) := by
  unfold State.ruleTo
  dsimp only
  have hset := s.sameReadings_setRule row { s.rule row with state := state, timer := timer, pendingAt := if state == 3 then s.gptp else (s.rule row).pendingAt }
  split
  · exact hset
  · refine ((hset.trans (State.sameReadings_setRow _ _ (by decide) hrow)).trans (.when (State.sameReadings_countRow _ (by decide) hrow) _)).trans (.when ?_ _)
    exact .of_rest (by simp)

theorem State.sameReadings_ruleFires (s : State) : s.SameReadings (s.ruleFires row) := by
  unfold State.ruleFires
  dsimp only
  refine (((((s.sameReadings_setRule row _).trans (State.sameReadings_setRow _ _ (by decide) hrow)).trans (State.sameReadings_ruleTo hrow _ 4 false)).trans
    (.when ?_ _)).trans (.when ?_ _)).trans ((State.SameReadings.when ?_ _).trans (State.sameReadings_countRow _ (by decide) hrow))
  · exact State.sameReadings_evidence _ _ _ _
  · exact State.sameReadings_doorbell _ 66
  · exact .of_rest (by simp)

theorem State.sameReadings_ruleReleases (s : State) : s.SameReadings (s.ruleReleases row) := by
  unfold State.ruleReleases
  dsimp only
  refine (((s.sameReadings_ruleTo hrow 2 false).trans (.when ?_ _)).trans (.when ?_ _)).trans ((State.SameReadings.when ?_ _).trans (State.sameReadings_countRow _ (by decide) hrow))
  · exact State.sameReadings_evidence _ _ _ _
  · exact .of_rest (by simp)
  · exact State.sameReadings_doorbell _ 66

theorem State.sameReadings_ruleMove (s : State) (v : RuleVerdict) (expired : Bool) : s.SameReadings (s.ruleMove row v expired) := by
  have hto := State.sameReadings_ruleTo hrow
  have hfires := State.sameReadings_ruleFires hrow
  have hreleases := State.sameReadings_ruleReleases hrow
  have hpend : s.SameReadings (if s.cfgRow E.rulePersistence row == 0 then (s.ruleTo row 3 false).ruleFires row else s.ruleTo row 3 true) := by
    split
    · exact (hto s 3 false).trans (hfires _)
    · exact hto s 3 true
  unfold State.ruleMove
  dsimp only
  split
  · exact hto s 2 false
  · exact hpend
  · exact hto s 1 false
  · exact hpend
  · exact hto s 2 false
  · exact hto s 1 false
  · split
    · exact hfires s
    · exact .rfl
  · split
    · exact (hto s 5 false).trans (hreleases _)
    · exact hto s 5 true
  · split
    · exact hreleases s
    · exact .rfl
  · exact hto s 4 false
  · exact .rfl

theorem State.sameReadings_evalRule (s : State) (expired : Bool) : s.SameReadings (s.evalRule row expired) :=
  (((s.sameReadings_setRow _ (by decide) hrow).trans (State.sameReadings_setRow _ _ (by decide) hrow)).trans (State.sameReadings_setRow _ _ (by decide) hrow)).trans
    (State.sameReadings_ruleMove hrow _ _ expired)

end evaluation

theorem State.lt_of_mem_validRows {s : State} {e r : Nat} (h : r ∈ s.validRows e) : r < 4294967296 := by
  simp only [State.validRows, List.mem_filterMap] at h
  obtain ⟨p, -, hp⟩ := h
  split at hp
  · cases hp
    exact Nat.mod_lt _ (by decide)
  · cases hp

/-- Rules that read a source leave the readings and every status entry but their own. -/
theorem State.sameReadings_evalReading (s : State) (codes : List Nat) : s.SameReadings (s.evalReading codes) := by
  unfold State.evalReading
  split
  · have hbelow : ∀ r ∈ (s.validRows E.ruleValid).filter (fun r => codes.contains (s.cfgRow E.ruleA r) || codes.contains (s.cfgRow E.ruleB r)), r < 4294967296 :=
      fun r hr => State.lt_of_mem_validRows (List.mem_of_mem_filter hr)
    revert hbelow
    generalize (s.validRows E.ruleValid).filter _ = l
    intro hbelow
    clear * - hbelow
    induction l generalizing s with
    | nil => exact .rfl
    | cons r l ih => exact (State.sameReadings_evalRule (hbelow r List.mem_cons_self) s false).trans (ih _ (fun q hq => hbelow q (List.mem_cons_of_mem r hq)))
  · exact .rfl

/-! ### Each move -/

theorem State.rule_of_measure {s t : State} (h : t.measure = s.measure) (row : Nat) : t.rule row = s.rule row := by rw [State.rule, h, State.rule]

/-- A rule takes a state: its time of PENDING begins with it (R310). -/
theorem State.rule_ruleTo (s : State) (row state : Nat) (timer : Bool) :
    (s.ruleTo row state timer).rule row = { s.rule row with state := state, timer := timer, pendingAt := if state == 3 then s.gptp else (s.rule row).pendingAt } := by
  unfold State.ruleTo
  dsimp only
  split
  · exact s.rule_setRule row _
  · refine (State.rule_of_measure (State.keep_measure (s := s.setRule row { s.rule row with
      state := state, timer := timer, pendingAt := if state == 3 then s.gptp else (s.rule row).pendingAt }) ?_) row).trans (s.rule_setRule row _)
    simp

/-- A rule fires: it is VIOLATED, with the offending slot of its tap (R311). -/
theorem State.rule_ruleFires (s : State) (row : Nat) : (s.ruleFires row).rule row = { s.rule row with slot := s.offender row, state := 4, timer := false } := by
  refine (State.rule_of_measure (State.keep_measure (s := ((s.setRule row { (s.rule row) with slot := s.offender row }).setRow E.ruleStOffendingSlot row (s.offender row)).ruleTo row 4 false) ?_) row).trans ?_
  · simp [State.ruleFires]
  · have hslot : ((s.setRule row { (s.rule row) with slot := s.offender row }).setRow E.ruleStOffendingSlot row (s.offender row)).rule row = { (s.rule row) with slot := s.offender row } :=
      s.rule_setRule row _
    rw [State.rule_ruleTo, hslot]
    rfl

/-- An evaluation first notes both operands and whether they are stale (R309). -/
def State.noted (s : State) (row : Nat) : State :=
  ((s.setRow E.ruleStA row (s.ruleA row).1).setRow E.ruleStB row (s.ruleB row).1).setRow E.ruleStInputStale row (if s.verdict row == .stale then 1 else 0)

theorem State.noted_rest {fs : Nat} (hfs : 4 &&& fs = 4) (s : State) (row : Nat) : (s.noted row).rest fs = s.rest fs := by
  simp [State.noted, hfs]

theorem State.evalRule_eq (s : State) (row : Nat) (expired : Bool) : s.evalRule row expired = (s.noted row).ruleMove row (s.verdict row) expired := rfl

section moves
variable {s : State} {row : Nat}

theorem State.evalRule_pends (hstate : (s.rule row).state = 2) (hv : s.verdict row = .disagree) (hp : s.cfgRow E.rulePersistence row ≠ 0) :
    s.evalRule row false = (s.noted row).ruleTo row 3 true := by
  have hrule : ((s.noted row).rule row).state = 2 := hstate
  have hcfg : (s.noted row).cfgRow E.rulePersistence row ≠ 0 := hp
  simp [State.evalRule_eq, State.ruleMove, hv, hrule, hcfg]

theorem State.evalRule_readies (hstate : (s.rule row).state = 3) (hv : s.verdict row = .stale) : s.evalRule row false = (s.noted row).ruleTo row 1 false := by
  have hrule : ((s.noted row).rule row).state = 3 := hstate
  simp [State.evalRule_eq, State.ruleMove, hv, hrule]

theorem State.evalRule_fires (hstate : (s.rule row).state = 3) (hv : s.verdict row = .disagree) : s.evalRule row true = (s.noted row).ruleFires row := by
  have hrule : ((s.noted row).rule row).state = 3 := hstate
  simp [State.evalRule_eq, State.ruleMove, hv, hrule]

theorem State.evalRule_agrees (hstate : (s.rule row).state = 3) (hv : s.verdict row = .agree) (expired : Bool) : s.evalRule row expired = (s.noted row).ruleTo row 2 false := by
  have hrule : ((s.noted row).rule row).state = 3 := hstate
  simp [State.evalRule_eq, State.ruleMove, hv, hrule]

end moves

@[simp] theorem State.rule_settle (s : State) (row : Nat) : s.settle.rule row = s.rule row := by simp [State.rule]

/-- The verdict reads no state of a rule. -/
theorem State.verdict_setRule (s : State) (row : Nat) (r : RuleSt) : (s.setRule row r).verdict row = s.verdict row := rfl

/-- Settles O38: each clause is one move of Table 10-4. -/
theorem rulesMoveByTheirVerdict : Obligations.RulesMoveByTheirVerdict := by
  unfold Obligations.RulesMoveByTheirVerdict
  intro s hon
  have heval : exec .ruleEvaluation s = .next (s.forAll (s.validRows E.ruleValid) (fun s r => s.evalRule r false)).settle := congrArg done (if_pos hon)
  have hframe : ∀ l, (s.forAll l (fun s r => s.evalRule r false)).rest 8934140184580 = s.rest 8934140184580 := fun l => by simp
  refine ⟨fun hnone => ?none, ?all, fun row hvalid htimer hstate hv => ?fires, fun row hvalid htimer hstate hv => ?agrees⟩
  case none =>
    refine State.leads_of_exec heval (State.eq_mix (fs := 2199023271936) ?_)
    rw [hnone, State.settle_rest (by decide)]
    rfl
  case all =>
    refine State.leads_of_exec heval ⟨rfl, fun row hone hstate hv hp => ?_, fun row hone hstate hv => ?_, State.eq_mix (fs := 11133163456516) ?_⟩
    · have hmove : s.forAll [row] (fun s r => s.evalRule r false) = (s.noted row).ruleTo row 3 true := State.evalRule_pends hstate hv hp
      rw [State.rule_settle, hone, hmove, State.rule_ruleTo]
      exact ⟨rfl, rfl⟩
    · have hmove : s.forAll [row] (fun s r => s.evalRule r false) = (s.noted row).ruleTo row 1 false := State.evalRule_readies hstate hv
      rw [State.rule_settle, hone, hmove, State.rule_ruleTo]
    · rw [State.settle_rest (by decide), State.rest_weaken (by decide) (hframe _)]
  case fires =>
    have hx : exec (.ruleTimerExpiry row) s = .next ((s.setRule row { (s.rule row) with timer := false }).evalRule row true).settle :=
      congrArg done (if_pos (by simp [hon, hvalid, htimer]))
    rw [State.evalRule_fires (by simpa using hstate) ((s.verdict_setRule row _).trans hv)] at hx
    refine State.leads_of_exec hx ⟨?_, ?_, ?_, State.eq_mix (fs := 11133163456516) ?_⟩
    · rw [State.rule_settle, State.rule_ruleFires]
    · rw [State.rule_settle, State.rule_ruleFires]
    · rw [State.rule_settle, State.rule_ruleFires]
      rfl
    · rw [State.settle_rest (by decide), State.ruleFires_rest (by decide)]
      rw [State.noted_rest (by decide), State.setRule_rest (by decide)]
  case agrees =>
    have hx : exec (.ruleTimerExpiry row) s = .next ((s.setRule row { (s.rule row) with timer := false }).evalRule row true).settle :=
      congrArg done (if_pos (by simp [hon, hvalid, htimer]))
    rw [State.evalRule_agrees (by simpa using hstate) ((s.verdict_setRule row _).trans hv)] at hx
    refine State.leads_of_exec hx ⟨?_, ?_, State.eq_mix (fs := 11133163456516) ?_⟩
    · rw [State.rule_settle, State.rule_ruleTo]
    · rw [State.rule_settle, State.rule_ruleTo]
    · rw [State.settle_rest (by decide), State.ruleTo_rest (by decide)]
      rw [State.noted_rest (by decide), State.setRule_rest (by decide)]

end Sys2Proof.Machine
end

section
/-! Speed inputs, distance counters and freshness values (R122, R298, R299, R301, R302). -/

namespace Sys2Proof.Machine
open Sys2Proof
set_option Elab.async false

/-! ### What readings show -/

section readings
variable {s t : State} (h : s.SameReadings t)
include h

theorem State.SameReadings.spd (k : Nat) : t.spd k = s.spd k := congrArg (fun m : Measure => mget ({} : SpdInput) m.spd k) (a₁ := t.readings) (a₂ := s.readings) h.readings

theorem State.SameReadings.mi (i : Nat) : t.mi i = s.mi i := congrArg (fun m : Measure => mget ({} : MiInput) m.mi i) (a₁ := t.readings) (a₂ := s.readings) h.readings

theorem State.SameReadings.stSlot {e : Nat} (k : Nat) (he : ruleEntry (e + k * 256) = false) : t.stSlot e k = s.stSlot e k := h.entries _ _ he (by decide)

end readings

/-- No entry of a speed input is one that rules write. -/
theorem ruleEntry_spd {e : Nat} (he : e ∈ [E.spdSpeed, E.spdFrequency, E.spdLastEdge]) {k : Nat} (hk : k < 4) : ruleEntry (e + k * 256) = false := by
  have hall : ∀ e ∈ [E.spdSpeed, E.spdFrequency, E.spdLastEdge], ∀ k ∈ List.range 4, ruleEntry (e + k * 256) = false := by decide
  exact hall e he k (List.mem_range.mpr hk)

theorem State.spd_of_measure {s t : State} (h : t.measure = s.measure) (k : Nat) : t.spd k = s.spd k := by rw [State.spd, h, State.spd]

theorem State.stSlot_of_od {s t : State} (hv : t.variant = s.variant) (h : t.od = s.od) (e k : Nat) : t.stSlot e k = s.stSlot e k := by
  rw [State.stSlot, State.st, State.stRow, hv, h]
  rfl

theorem State.stSlot_countSlot_of_ne (s : State) {e f : Nat} (slot n : Nat) (h : f ≠ e) : (s.countSlot e slot n).stSlot f slot = s.stSlot f slot :=
  s.stSlot_setSlot_of_ne slot _ h

/-! ### A counted edge (R298) -/

/-- The edge after a reversal only marks its time (R300). -/
theorem State.spdEdge_ref {s : State} {k : Nat} (h : (s.spd k).refNext = true) (high : Nat) :
    s.spdEdge k high = s.setSpd k { s.spd k with refNext := false, ref := some s.clock.ticks } := by
  simp [State.spdEdge, h]

/-- The count of a speed input and the time of its last edge stand. -/
def State.SameCount (k : Nat) (s t : State) : Prop := (t.spd k).count = (s.spd k).count ∧ t.stSlot E.spdLastEdge k = s.stSlot E.spdLastEdge k

theorem State.SameCount.trans {k : Nat} {s t u : State} (h : State.SameCount k s t) (h' : State.SameCount k t u) : State.SameCount k s u :=
  ⟨h'.1.trans h.1, h'.2.trans h.2⟩

theorem State.SameCount.when {k : Nat} {s : State} {f : State → State} (h : State.SameCount k s (f s)) (c : Bool) : State.SameCount k s (s.when c f) := by
  cases c
  · exact ⟨rfl, rfl⟩
  · exact h

theorem State.SameCount.of_rest {k : Nat} {s t : State} (h : t.rest 17454747090938 = s.rest 17454747090938) : State.SameCount k s t :=
  ⟨congrArg _ (State.spd_of_measure (State.keep_measure (State.rest_weaken (by decide) h)) k),
    State.stSlot_of_od (State.keep_variant (State.rest_weaken (by decide) h)) (State.keep_od (State.rest_weaken (by decide) h)) _ k⟩

/-- The direction changes (R300). -/
theorem State.spdReverse_count (s : State) (k : Nat) : State.SameCount k s (s.spdReverse k) := by
  unfold State.spdReverse
  dsimp only
  refine .trans (t := (s.setSpd k { s.spd k with reversed := !(s.spd k).reversed, longRun := 0, refNext := true }).countSlot E.spdCntReversals k) ⟨?_, ?_⟩ (.of_rest (by simp))
  · rw [State.spd_of_measure (State.keep_measure (State.countSlot_rest (by decide) _ _ _ _)), State.spd_setSpd]
  · exact State.stSlot_countSlot_of_ne _ k 1 (by decide)

theorem State.setSlot_count (s : State) {e : Nat} (k v : Nat) (h : E.spdLastEdge ≠ e) : State.SameCount k s (s.setSlot e k v) :=
  ⟨rfl, s.stSlot_setSlot_of_ne k v h⟩

theorem State.spdValues_count (s : State) (k m span : Nat) : State.SameCount k s (s.spdValues k m span) := by
  unfold State.spdValues
  exact (s.setSlot_count k _ (by decide)).trans (State.setSlot_count _ k _ (by decide))

theorem State.spdEdge_counts {s : State} {k : Nat} (h : (s.spd k).refNext = false) (high : Nat) :
    ∃ y : SpdInput, y.count = ((s.spd k).count + 1) % 2 ^ 48 ∧ State.SameCount k ((s.setSpd k y).setSlot E.spdLastEdge k s.gptp) (s.spdEdge k high) := by
  unfold State.spdEdge
  dsimp only
  rw [if_neg (by simp [h])]
  refine ⟨_, rfl, ((State.SameCount.when ⟨rfl, ?_⟩ _).trans (.when ?_ _)).trans (.when ?_ _)⟩
  · exact State.stSlot_countSlot_of_ne _ k 1 (by decide)
  · exact State.spdValues_count _ k _ _
  · exact State.spdReverse_count _ k

/-! ### What D0 writes to MRAM (R300, R302) -/

/-- One bit for each of the first `n` inputs. -/
theorem bitAt_foldl_marks_below (p : Nat → Bool) (m : Nat) {n k : Nat} (h : k < n) :
    bitAt ((List.range n).foldl (fun r k => if p k then setBit r k else clearBit r k) m) k = p k := by
  induction n with
  | zero => omega
  | succ n ih =>
    rw [List.range_succ, List.foldl_append, List.foldl_cons, List.foldl_nil]
    by_cases hk : k = n
    · subst hk
      cases hp : p k
      · exact bitAt_clearBit_same _ k
      · exact bitAt_setBit_same _ k
    · have hkeep := ih (by omega)
      cases p n
      · exact (bitAt_clearBit_of_ne hk).trans hkeep
      · exact (bitAt_setBit_of_ne hk).trans hkeep

theorem mget_foldl_mset (f : Nat → Nat) (m : NMap Nat) {n k : Nat} (h : k < n) : mget 0 ((List.range n).foldl (fun c k => mset 0 c k (f k)) m) k = f k := by
  induction n with
  | zero => omega
  | succ n ih =>
    rw [List.range_succ, List.foldl_append, List.foldl_cons, List.foldl_nil]
    by_cases hk : k = n
    · subst hk
      exact mget_mset_same _ _ _ _
    · exact (mget_mset_other _ _ _ hk).trans (ih (by omega))

theorem State.storeDistance_mram (s : State) :
    s.storeDistance.mram.spdRtc = s.rtc ∧
      ∀ k, k < 4 → mget 0 s.storeDistance.mram.spdCounts k = (s.spd k).count ∧ bitAt s.storeDistance.mram.spdReversed k = (s.spd k).reversed :=
  ⟨rfl, fun _ hk => ⟨mget_foldl_mset (fun k => (s.spd k).count) s.mram.spdCounts hk, bitAt_foldl_marks_below (fun k => (s.spd k).reversed) s.mram.spdReversed hk⟩⟩

/-! ### The inputs that rules read -/

/-- A reading of a speed input leads to what its own step and the rules that read it make of the state. -/
theorem State.onSpeed {s : State} {k : Nat} {f : State → State} {on : Bool} (hk : k < 4) (hm : s.measureOn = true) (hon : on = true) :
    s.onInput 4 k on f = .next (f s).settle := doneIf_when (by simpa using hk) (by simp [hm, hon])

theorem State.spd_evalReading (s : State) (codes : List Nat) (k : Nat) : (s.evalReading codes).settle.spd k = s.spd k := by
  rw [State.spd_settle, (s.sameReadings_evalReading codes).spd]

theorem State.stSlot_evalReading (s : State) (codes : List Nat) {e k : Nat} (he : ruleEntry (e + k * 256) = false) : (s.evalReading codes).settle.stSlot e k = s.stSlot e k := by
  rw [State.stSlot_settle, (s.sameReadings_evalReading codes).stSlot k he]

theorem State.settled_evalReading {s u : State} (codes : List Nat) (h : u.rest 11133163456516 = s.rest 11133163456516) :
    (u.evalReading codes).settle.rest 11133163456516 = s.rest 11133163456516 := by
  rw [State.settle_rest (by decide), State.evalReading_rest (by decide), h]

/-- Settles O36: each command is its own step on the input, which the rules that read it leave. -/
theorem speedInputs : Obligations.SpeedInputs := by
  unfold Obligations.SpeedInputs
  intro s
  refine ⟨fun k h hk hm hmode href => ?edge, fun k h hk hm hmode href => ?reference, fun k hk hm hmode => ?zero, fun k hk hm hmode hvalid hspan hlate hnotyet => ?decelerates,
    fun k b hk hm hmode => ?opens, fun hrun => ?distance, fun hrun => ?freshness⟩
  case edge =>
    obtain ⟨y, hy, hcount, hlast⟩ := State.spdEdge_counts href h
    refine State.leads_of_exec (State.onSpeed hk hm (by simpa using hmode)) ⟨?_, ?_, State.eq_mix (fs := 11133163456516) (State.settled_evalReading _ (by simp))⟩
    · rw [State.spd_evalReading, hcount]
      exact (congrArg (·.count) (s.spd_setSpd k y)).trans hy
    · rw [State.stSlot_evalReading _ _ (ruleEntry_spd (by decide) hk), hlast, State.stSlot_setSlot_same]
  case reference =>
    refine State.leads_of_exec (State.onSpeed hk hm (by simpa using hmode)) ⟨?_, ?_, State.eq_mix (fs := 11133163456516) (State.settled_evalReading _ (by simp))⟩
    · rw [State.spd_evalReading, State.spdEdge_ref href, State.spd_setSpd]
    · rw [State.spd_evalReading, State.spdEdge_ref href, State.spd_setSpd]
  case zero =>
    have hspd : (s.spdStandstill k).spd k = { s.spd k with valid := !(s.spd k).overrange, edges := if (s.spd k).valid then (s.spd k).edges else (s.spd k).edges.take 1 } :=
      s.spd_setSpd k _
    refine State.leads_of_exec (State.onSpeed hk hm (by simpa using hmode))
      ⟨?_, ?_, ?_, ?_, ?_, State.eq_mix (fs := 11133163456516) (State.settled_evalReading _ (by simp))⟩
    · rw [State.spd_evalReading, hspd]
    · rw [State.spd_evalReading, hspd]
    · rw [State.spd_evalReading, hspd]
    · rw [State.stSlot_evalReading _ _ (ruleEntry_spd (by decide) hk), State.spdStandstill]
      exact (State.stSlot_setSlot_of_ne _ k _ (by decide)).trans (State.stSlot_setSlot_same _ _ _ _)
    · rw [State.stSlot_evalReading _ _ (ruleEntry_spd (by decide) hk)]
      exact State.stSlot_setSlot_same _ _ _ _
  case decelerates =>
    have hstep : s.spdDecelerate k = s.setSlot E.spdSpeed k (encodeF32 (ratio (3600 * 40000000) (s.cfgMi E.spdPulsesPerKm k * (s.clock.ticks - (s.spd k).edges.headD 0)))) := by
      unfold State.spdDecelerate
      dsimp only
      rw [if_neg]
      simp only [hvalid, Bool.not_true, Bool.false_or, Bool.or_eq_true, beq_iff_eq, decide_eq_true_eq]
      omega
    refine State.leads_of_exec (State.onSpeed hk hm (by simpa using hmode)) ⟨?_, ?_, State.eq_mix (fs := 11133163456516) (State.settled_evalReading _ (by simp))⟩
    · rw [State.stSlot_evalReading _ _ (ruleEntry_spd (by decide) hk), hstep, State.stSlot_setSlot_same]
    · rw [State.spd_evalReading, hstep]
      rfl
  case opens =>
    refine State.leads_of_exec (State.onSpeed hk hm (by simpa using hmode)) ⟨?_, fun hb hopen => ?_, State.eq_mix (fs := 2336462225412) ?_⟩
    · rw [State.spd_settle, State.spdOpen, State.spd_of_measure (State.keep_measure (s := s.setSpd k
        { s.spd k with isOpen := b, edges := if b == (s.spd k).isOpen then (s.spd k).edges else [] }) (by simp)), State.spd_setSpd]
      simp
    · rw [State.stSlot_settle, State.spdOpen]
      simp only [State.when, hb, hopen, Bool.not_false, Bool.and_self, if_true]
      rfl
    · rw [State.settle_rest (by decide), State.spdOpen_rest (by decide)]
  case distance =>
    obtain ⟨hrtc, hcounts⟩ := s.storeDistance_mram
    refine State.leads_of_exec (congrArg done (if_pos hrun)) ⟨?_, ?_, State.eq_mix (fs := 2199090380800) ?_⟩
    · rw [State.settle_mram, hrtc]
    · rw [State.settle_mram]
      exact hcounts
    · rw [State.settle_rest (by decide), State.storeDistance_rest (by decide)]
  case freshness =>
    refine State.leads_of_exec (congrArg done (if_pos hrun)) ⟨State.settle_mram _, State.eq_mix (fs := 2199090380800) ?_⟩
    rw [State.settle_rest (by decide), State.storeFreshness_rest (by decide)]

end Sys2Proof.Machine
end

section
/-! VBATP conversions, WK levels and tap values (R303, R304, R307, R309). -/

namespace Sys2Proof.Machine
open Sys2Proof
set_option Elab.async false

/-! ### What rules leave of the readings -/

theorem State.readings_evalReading (s : State) (codes : List Nat) : (s.evalReading codes).settle.readings = s.readings := by
  rw [State.readings, State.settle_measure]
  exact (s.sameReadings_evalReading codes).readings

theorem State.stRow_evalReading (s : State) (codes : List Nat) {e r : Nat} (he : ruleEntry e = false) (hr : r < 4294967296) :
    (s.evalReading codes).settle.stRow e r = s.stRow e r := by
  rw [State.stRow_settle, (s.sameReadings_evalReading codes).entries e r he hr]

theorem State.st_of_od {s t : State} (hv : t.variant = s.variant) (h : t.od = s.od) (e : Nat) : t.st e = s.st e := by
  rw [State.st, State.stRow, hv, h]
  rfl

/-- The sum of the last conversions becomes the voltage once there are 16 (R303). -/
theorem State.vbatConvert_measure (s : State) (v : Int) :
    (s.vbatConvert v).measure.vbat = (v :: s.measure.vbat).take 16 ∧ (s.vbatConvert v).measure.vbatCount = s.measure.vbatCount + 1 := by
  unfold State.vbatConvert
  dsimp only
  rw [State.keep_measure (State.when_rest (fs := 17454747090942) _ _ _ (by simp))]
  split <;> exact ⟨rfl, rfl⟩

theorem State.vbatConvert_voltage {s : State} (v : Int) (h : 15 ≤ s.measure.vbat.length) :
    (s.vbatConvert v).st E.vbatVoltage = encodeF32 ⟨((v :: s.measure.vbat).take 16).sum, 16000000⟩ ∧ (s.vbatConvert v).st E.vbatTimestamp = s.gptp := by
  have hlen : ((v :: s.measure.vbat).take 16).length = 16 := by
    rw [List.length_take, List.length_cons]
    omega
  have hwhen : ∀ (u : State) (c : Bool) (x : Nat), (u.when c (·.set E.vbatSystem x)).st E.vbatVoltage = u.st E.vbatVoltage ∧
      (u.when c (·.set E.vbatSystem x)).st E.vbatTimestamp = u.st E.vbatTimestamp := fun u c x => by
    cases c
    · exact ⟨rfl, rfl⟩
    · exact ⟨State.st_setRow_of_ne _ x (okey_noRow_ne (by decide)), State.st_setRow_of_ne _ x (okey_noRow_ne (by decide))⟩
  unfold State.vbatConvert
  dsimp only
  rw [(hwhen _ _ _).1, (hwhen _ _ _).2, if_pos (beq_iff_eq.mpr hlen)]
  exact ⟨(State.st_setRow_of_ne _ _ (okey_noRow_ne (by decide))).trans (State.st_set _ _ _), State.st_set _ _ _⟩

/-! ### Tap values (R307) -/

theorem State.tapIntervalEnd_held {s : State} {n row : Nat} {v : Nat × Nat × Nat} (h : (mget {} (s.die n).taps row).held = some v) : s.tapIntervalEnd n row = s.sendTap n row v := by
  simp [State.tapIntervalEnd, h]

/-- A value with room on lane 2 goes there, and is held no more. -/
theorem State.sendTap_die {s : State} {n : Nat} (row : Nat) (v : Nat × Nat × Nat) (h : s.laneRoom n = true) :
    ((s.sendTap n row v).die n).lane2 = (s.die n).lane2 ++ [.tap row v.1 v.2.1 v.2.2] ∧ (mget {} ((s.sendTap n row v).die n).taps row).held = none := by
  rw [State.sendTap, if_pos h, State.die_updDie]
  exact ⟨rfl, congrArg TapHold.held (mget_mput_same _ _ _ _)⟩

theorem State.tapFrom_takes {s : State} {n row v ts slot : Nat} {l : List Lane2} (hl : (s.die n).lane2 = .tap row v ts slot :: l) (hvalid : s.cfgRowOn E.tapValid row = true) :
    s.tapFrom n = (s.updDie n (fun d => { d with lane2 := l })).takeTap row (v, ts, slot) := by
  rw [State.tapFrom, hl]
  exact if_pos hvalid

theorem State.takeTap_newer {s : State} {row : Nat} {v : Nat × Nat × Nat} (h : ∀ y, mfind s.measure.taps row = some y → y.2.1 < v.2.1) :
    s.takeTap row v = ({ s with measure := { s.measure with taps := mput s.measure.taps row v } }.countRow E.tapCntValues row).evalReading [0x1000 + row] := by
  unfold State.takeTap
  cases hy : mfind s.measure.taps row with
  | none => rfl
  | some y => simp [h y hy]

theorem State.takeTap_older {s : State} {row : Nat} {v y : Nat × Nat × Nat} (hy : mfind s.measure.taps row = some y) (h : v.2.1 ≤ y.2.1) :
    s.takeTap row v = s.countRow E.tapCntSuperseded row := by
  simp [State.takeTap, hy, Nat.not_lt.mpr h]

/-- A newer value is the tap's, and lane 2 stands (R307). -/
theorem State.takeTap_newer_leaves {s : State} {row : Nat} {v : Nat × Nat × Nat} (h : ∀ y, mfind s.measure.taps row = some y → y.2.1 < v.2.1) (n : Nat) :
    mfind (s.takeTap row v).settle.measure.taps row = some v ∧ ((s.takeTap row v).settle.die n).lane2 = (s.die n).lane2 := by
  rw [State.takeTap_newer h]
  refine ⟨?_, ?_⟩
  · exact (congrArg (fun m : Measure => mfind m.taps row) (State.readings_evalReading _ _)).trans (mfind_mput_same _ _ _)
  · rw [State.die_settle, (State.sameReadings_evalReading _ _).lanes]
    rfl

/-- Settles O37: a conversion, a level sample and a tap value are what the rules that read them leave. -/
theorem suppliesLevelsAndTaps : Obligations.SuppliesLevelsAndTaps := by
  unfold Obligations.SuppliesLevelsAndTaps
  intro s
  refine ⟨fun v hm => ?vbat, fun w hm => ?wk, fun n row v hn hrun hdie hheld => ?interval, fun n row v ts slot l hn hon hlink hlane hvalid hnone => ?first,
    fun n row v ts slot l y hn hon hlink hlane hvalid hy => ?later⟩
  case vbat =>
    obtain ⟨hvbat, hcount⟩ := s.vbatConvert_measure v
    refine State.leads_of_exec (congrArg done (if_pos hm)) ⟨?_, ?_, fun hfull => ⟨?_, ?_⟩, State.eq_mix (fs := 11133163456516) (State.settled_evalReading _ (by simp))⟩
    · exact (congrArg (fun m : Measure => m.vbat) (State.readings_evalReading _ _)).trans hvbat
    · exact (congrArg (fun m : Measure => m.vbatCount) (State.readings_evalReading _ _)).trans hcount
    · exact (State.stRow_evalReading _ _ (by decide) (by decide)).trans (State.vbatConvert_voltage v hfull).1
    · exact (State.stRow_evalReading _ _ (by decide) (by decide)).trans (State.vbatConvert_voltage v hfull).2
  case wk =>
    refine State.leads_of_exec (congrArg done (if_pos hm)) ⟨?_, ?_, State.eq_mix (fs := 11133163460612) ?_⟩
    · refine (congrArg (fun m : Measure => m.wk) (State.readings_evalReading _ _)).trans ?_
      exact congrArg (fun m : Measure => m.wk) (State.keep_measure (s := ({ s with measure := { s.measure with wk := some (w % 256) } } : State).set E.wkLevels (w % 256)) (by simp))
    · refine (State.stRow_evalReading _ _ (by decide) (by decide)).trans ?_
      refine (State.st_of_od (State.keep_variant (State.when_rest _ _ _ (fun u => State.stirred_rest (by decide) u))) (State.keep_od (State.when_rest _ _ _ (fun u => State.stirred_rest (by decide) u))) _).trans ?_
      exact State.st_set _ _ _
    · rw [State.settle_rest (by decide), State.evalReading_rest (by decide)]
      simp
  case interval =>
    have hx : exec (.tapIntervalEnd n row) s = .next (s.tapIntervalEnd n row).settle := doneIf_when hn (by simp [hrun, hdie])
    rw [State.tapIntervalEnd_held hheld] at hx
    refine State.leads_of_exec hx ⟨rfl, fun hroom => ?_, State.eq_mix (fs := 2199023304704) ?_⟩
    · rw [State.die_settle]
      exact State.sendTap_die row v hroom
    · rw [State.settle_rest (by decide), State.sendTap_rest (by decide)]
  case first =>
    have hx : exec (.tapValueReceive n) s = .next (s.tapFrom n).settle := doneIf_when hn (by simp [hon, hlink])
    rw [State.tapFrom_takes hlane hvalid] at hx
    obtain ⟨htap, hlane2⟩ := State.takeTap_newer_leaves (s := s.updDie n (fun d => { d with lane2 := l })) (row := row) (v := (v, ts, slot))
      (fun y hy => absurd (hnone.symm.trans hy) (by simp)) n
    refine State.leads_of_exec hx ⟨htap, by rw [hlane2, State.die_updDie], State.eq_mix (fs := 11133163456516) ?_⟩
    rw [State.settle_rest (by decide), State.takeTap_rest (by decide), State.updDie_rest (by decide)]
  case later =>
    have hx : exec (.tapValueReceive n) s = .next (s.tapFrom n).settle := doneIf_when hn (by simp [hon, hlink])
    rw [State.tapFrom_takes hlane hvalid] at hx
    have hframe : ((s.updDie n (fun d => { d with lane2 := l })).takeTap row (v, ts, slot)).settle.rest 11133163456516 = s.rest 11133163456516 := by
      rw [State.settle_rest (by decide), State.takeTap_rest (by decide), State.updDie_rest (by decide)]
    by_cases hnewer : y.2.1 < ts
    · obtain ⟨htap, hlane2⟩ := State.takeTap_newer_leaves (s := s.updDie n (fun d => { d with lane2 := l })) (row := row) (v := (v, ts, slot))
        (fun x hx => Option.some.inj (hy.symm.trans hx) ▸ hnewer) n
      exact State.leads_of_exec hx ⟨by rw [hlane2, State.die_updDie], fun _ => htap, fun h => absurd hnewer (by omega), State.eq_mix hframe⟩
    · have holder := State.takeTap_older (s := s.updDie n (fun d => { d with lane2 := l })) (row := row) (v := (v, ts, slot)) hy (Nat.le_of_not_lt hnewer)
      refine State.leads_of_exec hx ⟨?_, fun h => absurd h hnewer, fun _ => ⟨?_, ?_⟩, State.eq_mix hframe⟩
      · rw [State.die_settle, holder]
        exact congrArg Die.lane2 (State.die_updDie s n (fun d => { d with lane2 := l }))
      · rw [State.settle_measure, holder]
        exact hy
      · rw [State.stRow_settle, holder]
        rfl

end Sys2Proof.Machine
end

section
/-! Wake events start the return to RUN, and the always-on island samples its loops (R380 to R388, R391). -/

namespace Sys2Proof.Machine
open Sys2Proof
set_option Elab.async false

/-! ### Events that the island holds (R387) -/

/-- The island holds an entry of this type and unit. -/
def State.holds (s : State) (type unit : Nat) : Prop := ∃ x ∈ s.island.held, x.type = type ∧ x.unit = unit

theorem State.cfg_of_active {s t : State} (hv : t.variant = s.variant) (h : t.od.active = s.od.active) (e : Nat) : t.cfg e = s.cfg e := by
  rw [State.cfg, State.cfgRow, h, hv]
  rfl

/-- Beyond the island and the count of entries that found no room nothing changes. -/
theorem State.holdEvent_leaves (s : State) (type unit : Nat) (p : Bytes) :
    (s.holdEvent type unit p).od.active = s.od.active ∧ ∀ f, f ≠ E.powerCntHeldOverflow → (s.holdEvent type unit p).st f = s.st f := by
  have hcount : ∀ (i : Island) f, f ≠ E.powerCntHeldOverflow → (({ s with island := i } : State).count E.powerCntHeldOverflow).st f = s.st f := fun i f hf =>
    State.st_setRow_of_ne _ _ (okey_noRow_ne hf)
  unfold State.holdEvent
  dsimp only
  split
  · generalize s.island.held.any _ = full
    cases full
    · exact ⟨rfl, fun f _ => rfl⟩
    · exact ⟨rfl, hcount _⟩
  · split
    · exact ⟨rfl, fun f _ => rfl⟩
    · exact ⟨rfl, hcount _⟩

theorem State.when_island {s : State} {f : State → State} (h : (f s).island = s.island) (c : Bool) : (s.when c f).island = s.island := by
  cases c
  · rfl
  · exact h

/-- The entry of its type and unit where there is one, else a new one where there is room. -/
theorem State.holdEvent_holds {s : State} {type unit : Nat} (p : Bytes) (hroom : s.island.held.length < islandSize) : (s.holdEvent type unit p).holds type unit := by
  unfold State.holdEvent State.holds
  dsimp only
  split
  · next h =>
    rw [State.when_island rfl]
    simp only [List.any_eq_true, Bool.and_eq_true, beq_iff_eq] at h
    obtain ⟨x, hx, htype, hunit⟩ := h
    refine ⟨_, List.mem_map_of_mem hx, ?_⟩
    simp [htype, hunit]
  · exact ⟨_, List.mem_append_right _ (List.mem_singleton_self _), rfl, rfl⟩

/-- No entry leaves the island with an event. -/
theorem State.holdEvent_keeps {s : State} {type unit : Nat} (t u : Nat) (p : Bytes) (h : s.holds type unit) : (s.holdEvent t u p).holds type unit := by
  obtain ⟨x, hx, htype, hunit⟩ := h
  unfold State.holdEvent State.holds
  dsimp only
  split
  · rw [State.when_island rfl]
    refine ⟨_, List.mem_map_of_mem hx, ?_⟩
    split <;> exact ⟨htype, hunit⟩
  · split
    · exact ⟨x, List.mem_append_left _ hx, htype, hunit⟩
    · exact ⟨x, hx, htype, hunit⟩

theorem State.holdEvent_loops (s : State) (type unit : Nat) (p : Bytes) : (s.holdEvent type unit p).island.loops = s.island.loops := by
  unfold State.holdEvent
  dsimp only
  split
  · rw [State.when_island rfl]
  · split <;> rfl

/-! ### The return to RUN begins (R381) -/

theorem State.beginReturn_power (s : State) (code detail port : Nat) :
    (s.beginReturn code detail port).power = s.returning (if s.power.mode == .listen then 1 else 2) port := by
  unfold State.beginReturn
  dsimp only
  rw [State.keep_power (State.holdEvent_rest (by decide) _ _ _ _)]
  rfl

theorem State.beginReturn_leaves (s : State) (code detail port : Nat) :
    (s.beginReturn code detail port).od.active = s.od.active ∧
      ∀ f, f ∉ [E.powerLastWakeSource, E.powerLastWakeDetail, E.powerCntWakeEvents, E.powerCntHeldOverflow] → (s.beginReturn code detail port).st f = s.st f := by
  refine ⟨(State.holdEvent_leaves _ _ _ _).1, fun f hf => ?_⟩
  simp only [List.mem_cons, List.not_mem_nil, or_false, not_or] at hf
  obtain ⟨hsource, hdetail, hevents, hover⟩ := hf
  unfold State.beginReturn
  dsimp only
  rw [(State.holdEvent_leaves _ _ _ _).2 f hover]
  exact ((State.st_setRow_of_ne _ _ (okey_noRow_ne hevents)).trans (State.st_setRow_of_ne _ _ (okey_noRow_ne hdetail))).trans (State.st_setRow_of_ne _ _ (okey_noRow_ne hsource))

theorem State.beginReturn_holds {s : State} {type unit : Nat} (code detail port : Nat) (h : s.holds type unit) : (s.beginReturn code detail port).holds type unit :=
  State.holdEvent_keeps _ _ _ h

theorem State.beginReturn_loops (s : State) (code detail port : Nat) : (s.beginReturn code detail port).island.loops = s.island.loops := State.holdEvent_loops _ _ _ _

/-- A source that works in the mode begins the return (R380). -/
theorem State.wakeOn_standby {s : State} (hmode : s.power.mode = .standby) (code detail port : Nat) : s.wakeOn true true code detail port = s.beginReturn code detail port := by
  simp [State.wakeOn, State.wakeOpen, State.wakeEvent, hmode, State.when]

theorem State.wakeOn_listen {s : State} (hmode : s.power.mode = .listen) (standby : Bool) (code detail port : Nat) :
    s.wakeOn standby true code detail port = s.beginReturn code detail port := by
  simp [State.wakeOn, State.wakeOpen, State.wakeEvent, hmode, State.when]

/-- What every wake event from STANDBY leaves. -/
theorem State.standby_returns {s u : State} (hmode : u.power = s.power) (hstandby : s.power.mode = .standby) (hu : u.rest 10995120601092 = s.rest 10995120601092) (code detail port : Nat) :
    (u.wakeOn true true code detail port).settle.power = s.returning 2 port ∧ (u.wakeOn true true code detail port).settle.rest 10995120601092 = s.rest 10995120601092 := by
  rw [State.wakeOn_standby (by rw [hmode, hstandby]), State.settle_power, State.beginReturn_power, State.settle_rest (by decide), State.beginReturn_rest (by decide), hu, hmode, hstandby,
    State.returning, hmode]
  exact ⟨rfl, rfl⟩

/-- What every wake event from LISTEN leaves. -/
theorem State.listen_returns {s u : State} (hmode : u.power = s.power) (hlisten : s.power.mode = .listen) (standby : Bool) (code detail port : Nat) :
    (u.wakeOn standby true code detail port).settle.power = s.returning 1 port := by
  rw [State.wakeOn_listen (by rw [hmode, hlisten]), State.settle_power, State.beginReturn_power, hmode, hlisten, State.returning, hmode]
  rfl

/-! ### Tamper loops (R384) -/

/-- Two samples in a row that differ from the driven bit confirm an event. -/
theorem TamperLoop.sample_confirms {l : TamperLoop} {a b : Bool} (hmatch : l.lastMatch = false) (hstate : l.state = 0) (hb : b ≠ a) :
    l.sample a b = ({ state := if b && l.lastB then 1 else if !b && !l.lastB then 2 else 3, lastMatch := false, lastB := b },
      if b && l.lastB then 1 else if !b && !l.lastB then 2 else 3) := by
  obtain ⟨state, lastMatch, lastB⟩ := l
  obtain rfl : lastMatch = false := hmatch
  obtain rfl : state = 0 := hstate
  revert hb
  revert a b lastB
  decide

/-- Two samples in a row that match end an event. -/
theorem TamperLoop.sample_ends {l : TamperLoop} (a : Bool) (hmatch : l.lastMatch = true) (hstate : l.state ≠ 0) : l.sample a a = ({ state := 0, lastMatch := true, lastB := a }, 4) := by
  simp [TamperLoop.sample, hmatch, hstate]

/-- A loop at rest shows no event. -/
theorem TamperLoop.sample_rests (a : Bool) : ({} : TamperLoop).sample a a = ({ lastB := a }, 0) := by
  revert a
  decide

theorem State.tamperCode_pos (s : State) (k : Nat) (b : Bool) : s.tamperCode k b ≠ 0 ∧ s.tamperCode k b < 4 := by
  unfold State.tamperCode
  split_ifs <;> decide

/-- A loop after its sample. -/
def State.sampled (s : State) (k : Nat) (l : TamperLoop) : State :=
  { s with island := { s.island with loops := mset {} s.island.loops k l, tamperIndex := s.island.tamperIndex + 1 } }

theorem State.tamperLook_quiet {s : State} {k : Nat} {b : Bool} {l : TamperLoop}
    (h : (mget {} s.island.loops k).sample (Config.tamperBit s.island.tamperSeed s.island.tamperIndex) b = (l, 0)) : s.tamperLook k b = s.sampled k l := by
  simp [State.tamperLook, h, State.when, State.sampled]

theorem State.tamperLook_event {s : State} {k ev : Nat} {b : Bool} {l : TamperLoop}
    (h : (mget {} s.island.loops k).sample (Config.tamperBit s.island.tamperSeed s.island.tamperIndex) b = (l, ev)) (hev : ev ≠ 0) :
    s.tamperLook k b = (s.sampled k l).tamperEvent k ev := by
  simp [State.tamperLook, h, State.when, State.sampled, hev]

/-- A sample that confirms an event of a loop at rest. -/
theorem State.tamperLook_confirms {s : State} {k : Nat} {b : Bool} (hmatch : (mget {} s.island.loops k).lastMatch = false) (hstate : (mget {} s.island.loops k).state = 0)
    (hb : b ≠ Config.tamperBit s.island.tamperSeed s.island.tamperIndex) :
    s.tamperLook k b = (s.sampled k { state := s.tamperCode k b, lastMatch := false, lastB := b }).tamperEvent k (s.tamperCode k b) :=
  State.tamperLook_event (TamperLoop.sample_confirms hmatch hstate hb) (s.tamperCode_pos k b).1

/-- An event's record, and its count (R384). -/
def State.tamperCounted (s : State) (k ev : Nat) : State := (s.islandEvent 0x1C k ([BitVec.ofNat 8 ev, 0, 0, 0] ++ toLE 4 s.rtc)).count E.tamperCntEvents

theorem State.tamperEvent_eq (s : State) (k ev : Nat) : s.tamperEvent k ev =
    if (s.tamperCounted k ev).power.mode == .run then (s.tamperCounted k ev).doorbell 68
    else ((s.tamperCounted k ev).when ((s.tamperCounted k ev).power.mode == .entering) (·.doorbell 68)).wakeOn true
      (decide (ev < 4) && ((s.tamperCounted k ev).when ((s.tamperCounted k ev).power.mode == .entering) (·.doorbell 68)).cfgOn E.tamperWake) 6 k 0xFFFF := rfl

theorem State.tamperEvent_run {s : State} (hmode : s.power.mode = .run) (k ev : Nat) : s.tamperEvent k ev = (s.tamperCounted k ev).doorbell 68 := by
  have hpower : (s.tamperCounted k ev).power.mode = .run := by rw [State.tamperCounted, State.keep_power (s := s) (by simp), hmode]
  rw [State.tamperEvent_eq, if_pos (beq_iff_eq.mpr hpower)]

theorem State.islandEvent_leaves (s : State) (type unit : Nat) (p : Bytes) :
    (s.islandEvent type unit p).od.active = s.od.active ∧ ∀ f, f ≠ E.powerCntHeldOverflow → (s.islandEvent type unit p).st f = s.st f := by
  unfold State.islandEvent
  split
  · have hod := State.keep_od (State.evidence_rest (by decide) s 0 type unit p 1)
    exact ⟨congrArg (·.active) hod, fun f _ => State.st_of_od (State.keep_variant (State.evidence_rest (by decide) s 0 type unit p 1)) hod f⟩
  · exact s.holdEvent_leaves type unit p

theorem State.islandEvent_loops (s : State) (type unit : Nat) (p : Bytes) : (s.islandEvent type unit p).island.loops = s.island.loops := by
  unfold State.islandEvent
  split
  · rw [State.keep_island (State.evidence_rest (by decide) s 0 type unit p 1)]
  · exact s.holdEvent_loops type unit p

theorem State.tamperCounted_rest {fs : Nat} (hfs : 43012 &&& fs = 43012) (s : State) (k ev : Nat) : (s.tamperCounted k ev).rest fs = s.rest fs := by
  refine State.rest_weaken hfs ?_
  rw [State.tamperCounted, State.count_rest (by decide), State.islandEvent_rest (by decide)]

/-- The count of events, the samples and the dictionary in use after an event's record. -/
theorem State.tamperCounted_leaves (s : State) (k ev : Nat) : (s.tamperCounted k ev).st E.tamperCntEvents = (s.count E.tamperCntEvents).st E.tamperCntEvents ∧
    (s.tamperCounted k ev).island.loops = s.island.loops ∧ (s.tamperCounted k ev).od.active = s.od.active ∧ (s.tamperCounted k ev).power = s.power := by
  obtain ⟨hactive, hst⟩ := s.islandEvent_leaves 0x1C k ([BitVec.ofNat 8 ev, 0, 0, 0] ++ toLE 4 s.rtc)
  refine ⟨?_, s.islandEvent_loops _ _ _, hactive, State.keep_power (by simp [State.tamperCounted])⟩
  have hv : (s.islandEvent 0x1C k ([BitVec.ofNat 8 ev, 0, 0, 0] ++ toLE 4 s.rtc)).variant = s.variant := State.keep_variant (State.islandEvent_rest (by decide) s _ _ _)
  unfold State.tamperCounted State.count State.countRow
  rw [State.st, State.st, State.stRow_setRow, State.stRow_setRow, hv]
  exact congrArg (fun x => (x + 1) % _) (hst _ (by decide))

/-- The record is the last request while Saffron runs and the queue has room (R324). -/
theorem State.tamperCounted_request {s : State} (hrun : s.ev.running = true) (hcoal : s.ev.coal = {}) (hroom : s.ev.queue.length < 256) (k ev : Nat) :
    (s.tamperCounted k ev).ev.queue = s.ev.queue ++ [s.evReq 0 0x1C k ([BitVec.ofNat 8 ev, 0, 0, 0] ++ toLE 4 s.rtc) 1] := by
  have hidle : s.ev.coal.idle = true := by rw [hcoal]; rfl
  simp [State.tamperCounted, State.islandEvent, hrun, State.evidence, State.requestD0, hidle, hroom, State.count, State.countRow, State.setRow]

/-- Without Saffron the island holds the event (R387). -/
theorem State.tamperCounted_holds {s : State} (hrun : s.ev.running = false) (hroom : s.island.held.length < islandSize) (k ev : Nat) : (s.tamperCounted k ev).holds 0x1C k := by
  rw [State.tamperCounted, State.islandEvent, if_neg (by simp [hrun])]
  exact State.holdEvent_holds ([BitVec.ofNat 8 ev, 0, 0, 0] ++ toLE 4 s.rtc) hroom

/-! ### A doorbell rings at every die that runs (R407) -/

/-- A doorbell at one die: it waits at an ISOLATED one. -/
def State.bell (src : Nat) (s : State) (n : Nat) : State :=
  if (s.die n).state == 3 then s.updDie n (fun d => { d with bells := d.bells ++ [src] }) else (s.raiseSource n src).emit (.doorbell n src)

theorem State.bell_out_suffix (src : Nat) (s : State) (n : Nat) : s.out <:+ (s.bell src n).out := by
  unfold State.bell
  split
  · exact List.suffix_refl _
  · rw [State.emit_out, State.raiseSource_out]
    exact List.suffix_cons _ _

theorem State.bell_state (src : Nat) (s : State) {m n : Nat} (h : n ≠ m) : ((s.bell src m).die n) = s.die n := by
  unfold State.bell
  split
  · exact s.die_updDie_other _ h
  · exact congrArg (fun d => mget {} d n) (State.keep_dies (s := s) (t := (s.raiseSource m src).emit (.doorbell m src)) (by simp))

theorem State.doorbell_rings {s : State} {n : Nat} (hn : n ∈ s.dieList) (hruns : s.dieRuns n = true) (hst : (s.die n).state ≠ 3) (src : Nat) :
    Out.doorbell n src ∈ (s.doorbell src).out := by
  have hmem : n ∈ s.dieList.filter s.dieRuns := List.mem_filter.mpr ⟨hn, hruns⟩
  show Out.doorbell n src ∈ (s.forAll (s.dieList.filter s.dieRuns) (State.bell src)).out
  clear hn hruns
  generalize s.dieList.filter s.dieRuns = l at hmem
  induction l generalizing s with
  | nil => cases hmem
  | cons m l ih =>
    by_cases hnm : n = m
    · subst hnm
      have hhere : Out.doorbell n src ∈ (s.bell src n).out := by
        rw [State.bell, if_neg (by simpa using hst)]
        exact List.mem_cons_self
      exact (State.forAll_out_suffix l (State.bell_out_suffix src) (s.bell src n)).subset hhere
    · exact ih (by rwa [State.bell_state src s hnm]) ((List.mem_cons.mp hmem).resolve_left hnm)

/-! ### What a wake event leaves -/

theorem State.tamperEvent_standby {s : State} {k ev : Nat} (hmode : s.power.mode = .standby) (hev : ev < 4) (hwake : s.cfgOn E.tamperWake = true) :
    s.tamperEvent k ev = (s.tamperCounted k ev).beginReturn 6 k 0xFFFF := by
  obtain ⟨-, -, hactive, hpower⟩ := s.tamperCounted_leaves k ev
  have hmode' : (s.tamperCounted k ev).power.mode = .standby := by rw [hpower, hmode]
  have hon : (s.tamperCounted k ev).cfgOn E.tamperWake = true := by
    rw [State.cfgOn, State.cfg_of_active (State.keep_variant (State.tamperCounted_rest (by decide) s k ev)) hactive]
    exact hwake
  rw [State.tamperEvent_eq, if_neg (by simp [hmode']), hmode']
  show (s.tamperCounted k ev).wakeOn true (decide (ev < 4) && (s.tamperCounted k ev).cfgOn E.tamperWake) 6 k 0xFFFF = _
  rw [hon, decide_eq_true hev]
  exact State.wakeOn_standby hmode' 6 k 0xFFFF

/-- What a confirmed event leaves in STANDBY where it may wake the device (R384). -/
theorem State.tamperEvent_returns {s : State} {k ev : Nat} (hmode : s.power.mode = .standby) (hev : ev < 4) (hwake : s.cfgOn E.tamperWake = true) :
    (s.tamperEvent k ev).settle.power = s.returning 2 0xFFFF ∧ (s.tamperEvent k ev).settle.island.loops = s.island.loops ∧
      (s.tamperEvent k ev).settle.st E.tamperCntEvents = (s.count E.tamperCntEvents).st E.tamperCntEvents ∧
      (s.ev.running = false → s.island.held.length < islandSize → (s.tamperEvent k ev).settle.holds 0x1C k) ∧
      (s.tamperEvent k ev).settle.rest 10995657472004 = s.rest 10995657472004 := by
  obtain ⟨hst, hloops, -, hpower⟩ := s.tamperCounted_leaves k ev
  rw [State.tamperEvent_standby hmode hev hwake]
  refine ⟨?_, ?_, ?_, fun hrun hroom => ?_, ?_⟩
  · rw [State.settle_power, State.beginReturn_power, State.returning, hpower, hmode]
    rfl
  · rw [State.settle_island, State.beginReturn_loops, hloops]
  · exact (State.stRow_settle _ _ _).trans (((State.beginReturn_leaves _ _ _ _).2 _ (by decide)).trans hst)
  · rw [State.holds, State.settle_island]
    exact State.beginReturn_holds 6 k 0xFFFF (State.tamperCounted_holds hrun hroom k ev)
  · rw [State.settle_rest (by decide), State.beginReturn_rest (by decide), State.tamperCounted_rest (by decide)]

theorem State.sampled_rest {fs : Nat} (hfs : 8192 &&& fs = 8192) (s : State) (k : Nat) (l : TamperLoop) : (s.sampled k l).rest fs = s.rest fs := by
  refine State.rest_weaken hfs ?_
  rfl

/-- The digital value of an input before the wake that its change may be (R294). -/
@[irreducible] def State.miDebounced (s : State) (i : Nat) : State :=
  (s.setMi i { s.mi i with has := true, debounce := false }).miSet i (encodeF32 (Exact.ofNat (if (s.mi i).level then 1 else 0)))

theorem State.mi_of_measure {s t : State} (h : t.measure = s.measure) (i : Nat) : t.mi i = s.mi i := by rw [State.mi, h, State.mi]

theorem State.miSet_value (s : State) (i v : Nat) : (s.miSet i v).stSlot E.miValue i = v := by
  unfold State.miSet
  rw [State.stSlot_setSlot_of_ne _ i _ (by decide), State.stSlot_setSlot_same]

theorem State.miSet_measure (s : State) (i v : Nat) : (s.miSet i v).measure = s.measure := rfl

theorem State.miSet_active (s : State) (i v : Nat) : (s.miSet i v).od.active = s.od.active := rfl

theorem State.miSet_power (s : State) (i v : Nat) : (s.miSet i v).power = s.power := rfl

theorem State.miSet_variant (s : State) (i v : Nat) : (s.miSet i v).variant = s.variant := rfl

theorem State.miDebounced_cfg (s : State) (i e : Nat) : (s.miDebounced i).cfg e = s.cfg e := by
  rw [State.miDebounced, State.cfg_of_active (State.miSet_variant _ i _) (State.miSet_active _ i _)]
  rfl

theorem State.miDebounced_power (s : State) (i : Nat) : (s.miDebounced i).power = s.power := by
  rw [State.miDebounced, State.miSet_power]
  rfl

theorem State.miDebounced_mi (s : State) (i : Nat) : (s.miDebounced i).mi i = { s.mi i with has := true, debounce := false } := by
  rw [State.miDebounced, State.mi_of_measure (State.miSet_measure _ i _), State.mi_setMi]

theorem State.miDebounced_value (s : State) (i : Nat) : (s.miDebounced i).stSlot E.miValue i = encodeF32 (Exact.ofNat (if (s.mi i).level then 1 else 0)) := by
  rw [State.miDebounced, State.miSet_value]

theorem State.miDigital_eq (s : State) (i : Nat) : s.miDigital i = (s.miDebounced i).wakeOn false
    (((s.mi i).has && s.stSlot E.miValue i != encodeF32 (Exact.ofNat (if (s.mi i).level then 1 else 0))) && bitAt ((s.miDebounced i).cfg E.powerMiWakeMask) i) 5 i 0xFFFF := by
  rw [State.miDebounced]
  rfl

theorem State.miDigital_wakes {s : State} {i : Nat} (hhas : (s.mi i).has = true) (hval : s.stSlot E.miValue i ≠ encodeF32 (Exact.ofNat (if (s.mi i).level then 1 else 0)))
    (hmask : bitAt (s.cfg E.powerMiWakeMask) i = true) : s.miDigital i = (s.miDebounced i).wakeOn false true 5 i 0xFFFF := by
  rw [State.miDigital_eq, hhas, State.miDebounced_cfg, hmask, bne_iff_ne.mpr hval]
  rfl

/-- No entry of an input's value is one that a wake event or a rule writes. -/
theorem miValue_free {i : Nat} (hi : i < 16) : ruleEntry (E.miValue + i * 256) = false ∧
    E.miValue + i * 256 ∉ [E.powerLastWakeSource, E.powerLastWakeDetail, E.powerCntWakeEvents, E.powerCntHeldOverflow] := by
  have hall : ∀ i ∈ List.range 16, ruleEntry (E.miValue + i * 256) = false ∧
      E.miValue + i * 256 ∉ [E.powerLastWakeSource, E.powerLastWakeDetail, E.powerCntWakeEvents, E.powerCntHeldOverflow] := by decide
  exact hall i (List.mem_range.mpr hi)

/-- A decoder's event is a wake event of its port where the decoder is on. -/
theorem State.wakes_standby {s : State} {k code : Nat} (hslot : s.variant.hasSlot k = true) (hcan : isCan k = true) {on : Bool} (hon : on = true) :
    s.onCanSlot k (s.wakeOn true on code k k) = .next (s.wakeOn true true code k k).settle := by
  subst hon
  exact doneIf_present (by simp [hslot, hcan])

/-- Settles O16: each source that works in its mode begins the return. -/
theorem wakeEventsStartTheReturn : Obligations.WakeEventsStartTheReturn := by
  unfold Obligations.WakeEventsStartTheReturn
  intro s
  refine ⟨fun hmode => ⟨fun k hk hcan hdec => ?pattern, fun k hk hcan hdec => ?rxd, fun k f hk hcan hdec hfmt hfits => ?frame, fun i r hi hedge => ?wk, fun hrtc halarm => ?alarm,
    fun hrtc hperiod => ?period⟩, fun hmode => ⟨fun k hk hlin hdie hvalid hdetect => ?lin, fun k p hk hreport => ?report⟩,
    fun k b hmode hk hen hwake hmatch hstate hb => ?tamper, fun i hmode hi hmi hdeb hhas hmask hval => ?input⟩
  case pattern =>
    obtain ⟨hpower, hframe⟩ := State.standby_returns rfl hmode rfl 1 k k
    exact State.leads_of_exec (State.wakes_standby hk hcan (by simp [hdec])) ⟨hpower, State.eq_mix hframe⟩
  case rxd =>
    obtain ⟨hpower, hframe⟩ := State.standby_returns rfl hmode rfl 3 k k
    exact State.leads_of_exec (State.wakes_standby hk hcan (by simp [hdec])) ⟨hpower, State.eq_mix hframe⟩
  case frame =>
    have hstep : s.decoderFrame k f false =
        ({ s with island := { s.island with decErr := mset 0 s.island.decErr k (mget 0 s.island.decErr k - 1) } } : State).wakeOn true true 2 k k := by
      have hfits' : ({ s with island := { s.island with decErr := mset 0 s.island.decErr k (mget 0 s.island.decErr k - 1) } } : State).wakeFrameFits k f = true := hfits
      simp [State.decoderFrame, hdec, hfmt, State.wakeOpen, hmode, hfits']
    have hx : exec (.canDecoderFrame k f false) s = .next (s.decoderFrame k f false).settle := doneIf_present (by simp [hk, hcan])
    rw [hstep] at hx
    obtain ⟨hpower, hframe⟩ := State.standby_returns (s := s)
      (u := { s with island := { s.island with decErr := mset 0 s.island.decErr k (mget 0 s.island.decErr k - 1) } }) rfl hmode rfl 2 k k
    exact State.leads_of_exec hx ⟨hpower, State.eq_mix hframe⟩
  case wk =>
    have hx : exec (.wkEdge i r) s =
        .next (s.wakeOn true (bitAt (s.cfg E.wkEdges) (2 * i + (if r then 0 else 1))) 4 (i + (if r then 256 else 0)) 0xFFFF).settle := doneIf_present (decide_eq_true hi)
    rw [hedge] at hx
    obtain ⟨hpower, hframe⟩ := State.standby_returns rfl hmode rfl 4 (i + (if r then 256 else 0)) 0xFFFF
    exact State.leads_of_exec hx ⟨hpower, State.eq_mix hframe⟩
  case alarm =>
    have hx : exec .rtcAlarm s = .next ((s.setCfg E.powerRtcAlarm 0).wakeOn true true 7 0 0xFFFF).settle :=
      congrArg done (if_pos (by simp [State.rtcActs, hmode, hrtc, halarm]))
    obtain ⟨hpower, hframe⟩ := State.standby_returns (s := s) (u := s.setCfg E.powerRtcAlarm 0) rfl hmode (by simp) 7 0 0xFFFF
    refine State.leads_of_exec hx ⟨hpower, ?_, State.eq_mix hframe⟩
    have hactive : ((s.setCfg E.powerRtcAlarm 0).wakeOn true true 7 0 0xFFFF).settle.od.active = (s.setCfg E.powerRtcAlarm 0).od.active := by
      rw [State.settle_od, State.wakeOn_standby (s := s.setCfg E.powerRtcAlarm 0) hmode, (State.beginReturn_leaves _ _ _ _).1]
    rw [State.cfg_of_active (s := s.setCfg E.powerRtcAlarm 0) (State.keep_variant (State.rest_weaken (by decide) hframe)) hactive]
    exact State.cfgRow_setCfgRow s _ _ 0
  case period =>
    have hx : exec .rtcPeriod s = .next (s.wakeOn true true 7 1 0xFFFF).settle := by
      have hon : (s.rtcActs && s.cfg E.powerRtcPeriod != 0) = true := by simp [State.rtcActs, hmode, hrtc, hperiod]
      show done (s.wakeOn true (s.rtcActs && s.cfg E.powerRtcPeriod != 0) 7 1 0xFFFF) = _
      rw [hon]
      rfl
    obtain ⟨hpower, hframe⟩ := State.standby_returns rfl hmode rfl 7 1 0xFFFF
    exact State.leads_of_exec hx ⟨hpower, State.eq_mix hframe⟩
  case lin =>
    have hx : exec (.linWakePulse k) s = .next (s.wakeOn false true 9 k k).settle := by
      have hon : (s.dieRuns (slotDie k) && s.cfgRowOn E.pwrValid k && s.cfgRowOn E.linWakeDetect k) = true := by simp [hdie, hvalid, hdetect]
      rw [← hon]
      exact doneIf_present (by simp [hk, hlin])
    refine State.leads_of_exec hx ⟨State.listen_returns rfl hmode false 9 k k, State.eq_mix (fs := 10995120601092) ?_⟩
    rw [State.settle_rest (by decide), State.wakeOn_rest (by decide)]
  case report =>
    have hstep : s.takeWakeReport k p =
        (s.updDie (slotDie k) (fun d => { d with wakeReports := d.wakeReports.erase (k, p) })).wakeOn false true 8 (k + p * 65536) k := by
      simp [State.takeWakeReport, hreport]
    have hx : exec (.wakePatternReport k p) s = .next (s.takeWakeReport k p).settle := doneIf_present hk
    rw [hstep] at hx
    refine State.leads_of_exec hx ⟨State.listen_returns (s := s) (u := s.updDie (slotDie k) (fun d => { d with wakeReports := d.wakeReports.erase (k, p) })) rfl hmode false 8 _ k, ?_, State.eq_mix (fs := 10995120601092) ?_⟩
    · rw [State.wakeOn_listen (s := s.updDie (slotDie k) _) hmode, State.die_settle, State.die, State.keep_dies (State.beginReturn_rest (by decide) _ _ _ _)]
      exact congrArg (·.wakeReports) (State.die_updDie s (slotDie k) (fun d => { d with wakeReports := d.wakeReports.erase (k, p) }))
    · rw [State.settle_rest (by decide), State.wakeOn_rest (by decide), State.updDie_rest (by decide)]
  case tamper =>
    have hcode := s.tamperCode_pos k b
    have hx : exec (.tamperSample k b) s = .next (s.tamperLook k b).settle :=
      doneIf_when (f := fun s => s.tamperLook k b) (decide_eq_true hk) (by simp [hmode, hen])
    rw [State.tamperLook_confirms hmatch hstate hb] at hx
    obtain ⟨hpower, hloops, hst, hholds, hframe⟩ :=
      State.tamperEvent_returns (s := s.sampled k { state := s.tamperCode k b, lastMatch := false, lastB := b }) (k := k) hmode hcode.2 hwake
    refine State.leads_of_exec hx ⟨hpower, ?_, hst, hholds, State.eq_mix (fs := 10995657472004) (hframe.trans (State.sampled_rest (by decide) s k _))⟩
    rw [hloops]
    exact congrArg TamperLoop.state (mget_mset_same _ _ _ _)
  case input =>
    have hx : exec (.miDebounceExpiry i) s = .next ((s.miDigital i).evalReading [0x2000 + i]).settle :=
      doneIf_when (f := fun s => (s.miDigital i).evalReading [0x2000 + i]) (decide_eq_true hi) (by simp [State.measureOn, hmode, hmi, hdeb])
    rw [State.miDigital_wakes hhas hval hmask, State.wakeOn_listen (s := s.miDebounced i) (by rw [State.miDebounced_power, hmode])] at hx
    refine State.leads_of_exec hx ⟨?_, ?_, ?_, State.eq_mix (fs := 11133163534340) ?_⟩
    · rw [State.settle_power, State.keep_power (State.evalReading_rest (by decide) _ _), State.beginReturn_power, State.returning, State.miDebounced_power, hmode]
      rfl
    · rw [State.stSlot_evalReading _ _ (miValue_free hi).1]
      exact ((State.beginReturn_leaves _ _ _ _).2 _ (miValue_free hi).2).trans (s.miDebounced_value i)
    · rw [State.mi_of_measure (State.settle_measure _), (State.sameReadings_evalReading _ _).mi, State.mi_of_measure (State.keep_measure (State.beginReturn_rest (by decide) _ _ _ _)),
        State.miDebounced_mi]
    · rw [State.settle_rest (by decide), State.evalReading_rest (by decide), State.beginReturn_rest (by decide)]
      simp [State.miDebounced]

end Sys2Proof.Machine
end

section
/-! The always-on island in RUN: tamper loops, the calibration of the delay line and the end of a wake pulse (R384, R388, R391). -/

namespace Sys2Proof.Machine
open Sys2Proof
set_option Elab.async false

theorem State.dieList_of_variant {s t : State} (h : t.variant = s.variant) : t.dieList = s.dieList := by rw [State.dieList, h, State.dieList]

theorem State.die_of_dies {s t : State} (h : t.dies = s.dies) (n : Nat) : t.die n = s.die n := by rw [State.die, h, State.die]

theorem State.dieRuns_of_dies {s t : State} (hv : t.variant = s.variant) (h : t.dies = s.dies) (n : Nat) : t.dieRuns n = s.dieRuns n := by
  rw [State.dieRuns, State.lostDie, hv, State.die_of_dies h, State.dieRuns, State.lostDie]

/-- The guard die's own requests touch no switch die. -/
theorem State.tamperCounted_dies (s : State) (k ev : Nat) : (s.tamperCounted k ev).dies = s.dies := by
  rw [State.tamperCounted, State.keep_dies (State.count_rest (by decide) _ _ _), State.islandEvent]
  split
  · exact State.keep_dies (State.requestD0_rest (by decide) s _)
  · exact State.keep_dies (State.holdEvent_rest (by decide) s _ _ _)

/-- What a confirmed event leaves in RUN (R384): its count, its record and doorbell 68. -/
theorem State.tamperEvent_rings {s : State} (hmode : s.power.mode = .run) (k ev : Nat) :
    (s.tamperEvent k ev).settle.island.loops = s.island.loops ∧
      (s.tamperEvent k ev).settle.st E.tamperCntEvents = (s.count E.tamperCntEvents).st E.tamperCntEvents ∧
      (s.ev.running = true → s.ev.coal = {} → s.ev.queue.length < 256 →
        (s.tamperEvent k ev).settle.ev.queue = s.ev.queue ++ [s.evReq 0 0x1C k ([BitVec.ofNat 8 ev, 0, 0, 0] ++ toLE 4 s.rtc) 1]) ∧
      (∀ n ∈ s.dieList, s.dieRuns n = true → (s.die n).state ≠ 3 → Out.doorbell n 68 ∈ (s.tamperEvent k ev).settle.out) ∧
      (s.tamperEvent k ev).settle.rest 10995657472004 = s.rest 10995657472004 := by
  obtain ⟨hst, hloops, -, -⟩ := s.tamperCounted_leaves k ev
  rw [State.tamperEvent_run hmode]
  refine ⟨?_, ?_, fun hrun hcoal hroom => ?_, fun n hn hruns hstate => ?_, ?_⟩
  · rw [State.settle_island, State.keep_island (State.doorbell_rest (by decide) _ _), hloops]
  · rw [State.st, State.stRow_settle]
    exact (State.st_of_od (State.keep_variant (State.doorbell_rest (by decide) _ 68)) (State.keep_od (State.doorbell_rest (by decide) _ 68)) _).trans hst
  · rw [State.settle_ev, State.doorbell_ev, State.tamperCounted_request hrun hcoal hroom]
  · have hv : (s.tamperCounted k ev).variant = s.variant := State.keep_variant (State.tamperCounted_rest (by decide) s k ev)
    have hdies := s.tamperCounted_dies k ev
    rw [State.settle_out]
    exact State.doorbell_rings (by rwa [State.dieList_of_variant hv]) (by rwa [State.dieRuns_of_dies hv hdies]) (by rwa [State.die_of_dies hdies]) 68
  · rw [State.settle_rest (by decide), State.doorbell_rest (by decide), State.tamperCounted_rest (by decide)]

/-- Settles O17: each sample by what it says of its loop. -/
theorem islandSamplesLoops : Obligations.IslandSamplesLoops := by
  unfold Obligations.IslandSamplesLoops
  intro s hoff
  refine ⟨fun k hk hen hloop => ?rests, ?calibrates, fun k b hmode hk hen hmatch hstate hb => ?confirms, fun k hmode hk hen hmatch hstate => ?ends, fun k hk hlin hbus hpulse => ?pulse⟩
  case rests =>
    have hx : exec (.tamperSample k (Config.tamperBit s.island.tamperSeed s.island.tamperIndex)) s =
        .next (s.tamperLook k (Config.tamperBit s.island.tamperSeed s.island.tamperIndex)).settle :=
      doneIf_when (f := fun s => s.tamperLook k (Config.tamperBit s.island.tamperSeed s.island.tamperIndex)) (decide_eq_true hk) (by simp [hoff, hen])
    rw [State.tamperLook_quiet (by rw [hloop, TamperLoop.sample_rests])] at hx
    have hself := mget_mset_same ({} : TamperLoop) s.island.loops k { lastB := Config.tamperBit s.island.tamperSeed s.island.tamperIndex }
    refine State.leads_of_exec hx ⟨?_, ?_, ?_, ?_, State.eq_mix (fs := 2199023280128) ?_⟩
    · rw [State.settle_island]
      rfl
    · rw [State.settle_island]
      exact congrArg TamperLoop.state hself
    · rw [State.settle_island]
      exact congrArg TamperLoop.lastMatch hself
    · rw [State.settle_island]
      rfl
    · rw [State.settle_rest (by decide), State.sampled_rest (by decide)]
  case calibrates =>
    refine State.leads_of_exec (congrArg done (if_pos (by simpa using hoff))) ⟨State.settle_island _, State.eq_mix (fs := 2199023280128) ?_⟩
    rw [State.settle_rest (by decide)]
    rfl
  case confirms =>
    have hx : exec (.tamperSample k b) s = .next (s.tamperLook k b).settle :=
      doneIf_when (f := fun s => s.tamperLook k b) (decide_eq_true hk) (by simp [hoff, hen])
    rw [State.tamperLook_confirms hmatch hstate hb] at hx
    obtain ⟨hloops, hst, hqueue, hrings, hframe⟩ :=
      State.tamperEvent_rings (s := s.sampled k { state := s.tamperCode k b, lastMatch := false, lastB := b }) hmode k (s.tamperCode k b)
    refine State.leads_of_exec hx ⟨?_, hst, fun hrun hcoal hroom => ?_, hrings, State.eq_mix (fs := 10995657472004) (hframe.trans (State.sampled_rest (by decide) s k _))⟩
    · rw [hloops]
      exact congrArg TamperLoop.state (mget_mset_same _ _ _ _)
    · rw [hqueue hrun hcoal hroom]
      refine ⟨_, List.mem_append_right _ (List.mem_singleton_self _), rfl, Nat.mod_eq_of_lt (by omega), ?_⟩
      simp [State.evReq, pad]
  case ends =>
    have hx : exec (.tamperSample k (Config.tamperBit s.island.tamperSeed s.island.tamperIndex)) s =
        .next (s.tamperLook k (Config.tamperBit s.island.tamperSeed s.island.tamperIndex)).settle :=
      doneIf_when (f := fun s => s.tamperLook k (Config.tamperBit s.island.tamperSeed s.island.tamperIndex)) (decide_eq_true hk) (by simp [hoff, hen])
    rw [State.tamperLook_event (TamperLoop.sample_ends _ hmatch hstate) (by decide)] at hx
    obtain ⟨hloops, hst, -, hrings, hframe⟩ := State.tamperEvent_rings
      (s := s.sampled k { state := 0, lastMatch := true, lastB := Config.tamperBit s.island.tamperSeed s.island.tamperIndex }) hmode k 4
    refine State.leads_of_exec hx ⟨?_, hst, hrings, State.eq_mix (fs := 10995657472004) (hframe.trans (State.sampled_rest (by decide) s k _))⟩
    rw [hloops]
    exact congrArg TamperLoop.state (mget_mset_same _ _ _ _)
  case pulse =>
    have hx : exec (.wakePulseEnd k) s = .next (s.wakePulseEnd k).settle :=
      doneIf_when (f := fun s => s.wakePulseEnd k) (by simp [hk, hlin]) (by simp [hbus, hpulse])
    refine State.leads_of_exec hx ⟨?_, ?_, fun j hj => ?_, State.eq_mix (fs := 2199027466240) ?_⟩
    · rw [State.port_settle, State.wakePulseEnd, State.port_updPort]
    · rw [State.port_settle, State.wakePulseEnd, State.port_updPort]
      rfl
    · rw [State.port_settle]
      exact mget_mset_other _ s.ports _ hj
    · rw [State.settle_rest (by decide), State.wakePulseEnd_rest (by decide)]

end Sys2Proof.Machine
end

section
/-! Leaving RUN for LISTEN or STANDBY (R378, R379, Table 13-2). -/

namespace Sys2Proof.Machine
open Sys2Proof
set_option Elab.async false

/-! ### What evidence leaves in MRAM -/

/-- The MRAM's content but for the time of its last write. -/
def State.keptMram (s : State) : Mram := { s.mram with lastWriteRtc := 0 }

theorem State.stored_of_mram {s t : State} (h : t.mram = s.mram) : t.keptMram = s.keptMram := by rw [State.keptMram, h, State.keptMram]

@[simp] theorem State.mramWrite_keptMram (s : State) : s.mramWrite.keptMram = s.keptMram := rfl
@[simp] theorem State.updEv_keptMram (s : State) (f : Evidence → Evidence) : (s.updEv f).keptMram = s.keptMram := rfl
@[simp] theorem State.count_keptMram (s : State) (e n : Nat) : (s.count e n).keptMram = s.keptMram := rfl
@[simp] theorem State.doorbell_keptMram (s : State) (src : Nat) : (s.doorbell src).keptMram = s.keptMram := State.stored_of_mram (State.keep_mram (State.doorbell_rest (by decide) s src))
@[simp] theorem State.offer_keptMram (s : State) (ws : List Word) (seq : Nat) (n : Option Nat) : (s.offer ws seq n).keptMram = s.keptMram :=
  State.stored_of_mram (State.keep_mram (State.offer_rest (by decide) s ws seq n))

theorem State.when_keptMram {s : State} {f : State → State} (h : (f s).keptMram = s.keptMram) (c : Bool) : (s.when c f).keptMram = s.keptMram := by
  cases c
  · rfl
  · exact h

@[simp] theorem State.reserveSeal_keptMram (s : State) : s.reserveSeal.keptMram = s.keptMram := by
  unfold State.reserveSeal
  dsimp only
  by_cases hlimit : s.ev.sealLimit ≤ s.ev.nextSeal
  · simp only [hlimit, if_true]
    split <;> simp
  · simp only [hlimit, if_false]
    split <;> simp

@[simp] theorem State.sealTry_keptMram (s : State) : s.sealTry.keptMram = s.keptMram := by
  unfold State.sealTry
  dsimp only
  split
  · rfl
  · split <;> simp

@[simp] theorem State.trigger_keptMram (s : State) (code : Nat) : (s.trigger code).keptMram = s.keptMram := by
  unfold State.trigger
  dsimp only
  split
  · rfl
  · rw [State.sealTry_keptMram, State.updEv_keptMram]
    split <;> rfl

@[simp] theorem State.journalStep_keptMram (s : State) (r : EvReq) : (s.journalStep r).keptMram = s.keptMram := by
  unfold State.journalStep
  dsimp only
  rw [State.mramWrite_keptMram, State.updEv_keptMram]
  split
  · split <;> rfl
  · rfl

@[simp] theorem State.appendOne_keptMram (s : State) (r : EvReq) : (s.appendOne r).keptMram = s.keptMram := by
  unfold State.appendOne
  dsimp only
  rw [State.when_keptMram (State.doorbell_keptMram _ 65), State.when_keptMram (State.trigger_keptMram _ 1), State.offer_keptMram, State.when_keptMram (State.count_keptMram _ _ 1)]
  simp

@[simp] theorem State.closeLoss_keptMram (s : State) : s.closeLoss.keptMram = s.keptMram := by
  unfold State.closeLoss
  split
  · rfl
  · simp

@[simp] theorem State.append_keptMram (s : State) (r : EvReq) : (s.append r).keptMram = s.keptMram := by
  unfold State.append
  dsimp only
  split <;> split <;> simp

@[simp] theorem State.appendNext_keptMram (s : State) : s.appendNext.keptMram = s.keptMram := by
  unfold State.appendNext
  split
  · split
    · rfl
    · split <;> simp
  · rfl

theorem State.forAll_keptMram (l : List Nat) {f : State → Nat → State} (h : ∀ s n, (f s n).keptMram = s.keptMram) (s : State) : (s.forAll l f).keptMram = s.keptMram := by
  induction l generalizing s with
  | nil => rfl
  | cons n l ih => exact (ih (f s n)).trans (h s n)

@[simp] theorem State.flushQueue_keptMram (s : State) : s.flushQueue.keptMram = s.keptMram := by
  have happend := fun l s => State.forAll_keptMram l (f := fun s _ => s.appendNext) (fun s _ => State.appendNext_keptMram s) s
  unfold State.flushQueue
  dsimp only
  split
  · rw [happend]
  · rw [happend, State.updEv_keptMram, happend]

/-! ### The steps of the entry (R379) -/

/-- With nothing waiting there is nothing to flush. -/
theorem State.flushQueue_idle {s : State} (hq : s.ev.queue = []) (hc : s.ev.coal = {}) : s.flushQueue = s := by
  have hidle : s.ev.coal.idle = true := by rw [hc]; rfl
  simp [State.flushQueue, hq, State.forAll, hidle]

/-- t1 stores distances and freshness values; the records and the seal that follow leave them (R302, R122). -/
theorem State.portsDisabled_keptMram (s : State) :
    s.portsDisabled.keptMram = ((({ s with power := { s.power with halted := true } } : State).storeDistance).storeFreshness).keptMram := by
  unfold State.portsDisabled
  dsimp only
  rw [State.when_keptMram (State.trigger_keptMram _ 3), State.flushQueue_keptMram]
  exact State.stored_of_mram (State.keep_mram (State.islandEvent_rest (by decide) _ _ _ _))

theorem State.portsDisabled_power (s : State) : s.portsDisabled.power = { s.power with halted := true } := by
  refine (State.keep_power (s := (({ s with power := { s.power with halted := true } } : State).storeDistance).storeFreshness) ?_).trans rfl
  simp [State.portsDisabled]

/-- Outside RUN the ball shows SAFE_N low (R286). -/
theorem State.settle_low {s : State} (hrun : s.power.mode ≠ .run) (hentering : s.power.mode ≠ .entering) : s.settle.pins.safeLow = true := by
  have hpins : s.settle.pins = s.settle.pinsNow := s.settle_pinsFollow
  rw [hpins]
  refine (State.safeLow_iff s.settle).mpr (Or.inr (Or.inr (Or.inr ?_)))
  rw [State.settle_power]
  exact ⟨hrun, hentering⟩

/-- Settles O15: t0, t1 and t2 of Table 13-2 in turn. -/
theorem powerModesAreEntered : Obligations.PowerModesAreEntered := by
  unfold Obligations.PowerModesAreEntered
  intro s
  refine ⟨fun hrun hauto hstatus hidle => ?sleep, fun hmode hhalted htarget hports => ?disabled, fun hmode hhalted hseal => ?waits, fun hmode hhalted hseal hq hc htarget => ?enters⟩
  case sleep =>
    have hx : exec .autoSleepCheck s = .next (s.enterFrom (s.cfg E.powerAutoSleepMode)).settle := by
      have hstep : s.autoSleep = s.enterFrom (s.cfg E.powerAutoSleepMode) := if_pos (by simp [hauto, hstatus, hidle])
      rw [← hstep]
      exact congrArg done (if_pos hrun)
    refine State.leads_of_exec hx ⟨?_, ?_, ?_, State.eq_mix (fs := 12099464974340) ?_⟩
    · rw [State.settle_power, State.enterFrom_power]
    · rw [State.settle_power, State.enterFrom_power]
    · rw [State.settle_power, State.enterFrom_power]
    · rw [State.settle_rest (by decide), State.enterFrom_rest (by decide)]
  case disabled =>
    have hall : (s.slotList.filter s.portRuns).all (fun p => s.portState p == 0) = true := List.all_eq_true.mpr (fun p hp => beq_iff_eq.mpr (hports p hp))
    have hx : exec .powerEntryPortsDisabled s = .next s.portsDisabled.settle := congrArg done (if_pos (by simp only [hmode, hhalted, hall]; rfl))
    have hkept := s.portsDisabled_keptMram
    obtain ⟨-, hcounts⟩ := ({ s with power := { s.power with halted := true } } : State).storeDistance_mram
    refine State.leads_of_exec hx ⟨?_, ?_, ?_, ?_, State.eq_mix (fs := 10995720321028) ?_⟩
    · rw [State.settle_power, State.portsDisabled_power]
    · rw [State.settle_mram]
      exact congrArg Mram.latest hkept
    · rw [State.settle_mram]
      exact congrArg Mram.spdRtc hkept
    · rw [State.settle_mram]
      intro k hk
      obtain ⟨hcount, hreversed⟩ := hcounts k hk
      exact ⟨(congrArg (fun m : Mram => mget 0 m.spdCounts k) hkept).trans hcount, (congrArg (fun m : Mram => bitAt m.spdReversed k) hkept).trans hreversed⟩
    · rw [State.settle_rest (by decide), State.portsDisabled_rest (by decide)]
  case waits =>
    refine State.leads_of_exec (congrArg done (if_neg (by simp [hseal]))) (State.eq_mix (fs := 2199023271936) ?_)
    rw [State.settle_rest (by decide)]
  case enters =>
    have hx : exec .powerEntryComplete s = .next (s.enterMode s.power.target).settle := by
      have hstep : s.flushQueue.enterMode s.power.target = s.enterMode s.power.target := by rw [State.flushQueue_idle hq hc]
      rw [← hstep]
      exact congrArg done (if_pos (by simp only [hmode, hhalted, hseal]; rfl))
    have hpower1 : s.power.target = 1 → (s.enterMode s.power.target).power = { s.power with mode := .listen, vsel := false, halted := false } := fun h => by
      rw [h]
      rfl
    have hpower2 : s.power.target = 2 → (s.enterMode s.power.target).power =
        { s.power with mode := .standby, inh := false, vsel := false, guardSupplied := false, vioM := false, flash8D := false, noGuard := false, halted := false } := fun h => by
      rw [h]
      rfl
    have hkept : (s.enterMode s.power.target).ev.running = false ∧ (s.enterMode s.power.target).mram = s.mram ∧ (s.enterMode s.power.target).fuses = s.fuses ∧
        (s.enterMode s.power.target).keys.records = s.keys.records ∧ (s.enterMode s.power.target).ev.journal = s.ev.journal ∧
        (s.enterMode s.power.target).bankStore = s.bankStore ∧ (s.enterMode s.power.target).od.active = s.od.active := by
      obtain h | h := htarget <;> rw [h] <;> exact ⟨rfl, rfl, rfl, rfl, rfl, rfl, rfl⟩
    obtain ⟨hrunning, hmram, hfuses, hkeys, hjournal, hbank, hactive⟩ := hkept
    refine State.leads_of_exec hx ⟨fun h => ?_, fun h => ?_, ?_, ?_, ?_, ?_, ?_, ?_, ?_, State.settle_low ?_ ?_⟩
    · rw [State.settle_power, hpower1 h]
    · rw [State.settle_power, hpower2 h]
    · rw [State.settle_ev, hrunning]
    · rw [State.settle_mram, hmram]
    · rw [State.settle_fuses, hfuses]
    · rw [State.settle_keys, hkeys]
    · rw [State.settle_ev, hjournal]
    · rw [State.settle_bankStore, hbank]
    · rw [State.settle_od, hactive]
    · obtain h | h := htarget
      · simp [hpower1 h]
      · simp [hpower2 h]
    · obtain h | h := htarget
      · simp [hpower1 h]
      · simp [hpower2 h]

end Sys2Proof.Machine
end

section
/-! Multifunction inputs in analog, digital, frequency and duty mode (R294 to R296). -/

namespace Sys2Proof.Machine
open Sys2Proof
set_option Elab.async false

/-! ### What the operations of ports leave of the other status entries -/

/-- The status entries beyond those of the ports stand. -/
def State.SameBeyondPorts (s t : State) : Prop := ∀ f, 0x300000 ≤ f → t.st f = s.st f

theorem State.SameBeyondPorts.rfl {s : State} : s.SameBeyondPorts s := fun _ _ => Eq.refl _

theorem State.SameBeyondPorts.trans {s t u : State} (h : s.SameBeyondPorts t) (h' : t.SameBeyondPorts u) : s.SameBeyondPorts u :=
  fun f hf => (h' f hf).trans (h f hf)

theorem State.SameBeyondPorts.when {s : State} {f : State → State} (h : s.SameBeyondPorts (f s)) (c : Bool) : s.SameBeyondPorts (s.when c f) := by
  cases c
  · exact .rfl
  · exact h

theorem State.SameBeyondPorts.of_rest {s t : State} (h : t.rest 17592186044410 = s.rest 17592186044410) : s.SameBeyondPorts t :=
  fun f _ => State.st_of_od (State.keep_variant (State.rest_weaken (by decide) h)) (State.keep_od h) f

theorem State.SameBeyondPorts.forAll {f : State → Nat → State} {l : List Nat} (h : ∀ (s : State), ∀ n ∈ l, s.SameBeyondPorts (f s n)) (s : State) : s.SameBeyondPorts (s.forAll l f) := by
  induction l generalizing s with
  | nil => exact .rfl
  | cons n l ih => exact (h s n List.mem_cons_self).trans (ih (fun u m hm => h u m (List.mem_cons_of_mem n hm)) (f s n))

section port
variable {p : Nat} (hp : p < 256)
include hp

theorem State.sameBeyondPorts_setSlot (s : State) {e : Nat} (he : e < 0x220000) (v : Nat) : s.SameBeyondPorts (s.setSlot e p v) :=
  fun f hf => State.st_setRow_of_ne s v (okey_noRow_ne (by omega))

theorem State.sameBeyondPorts_portUp (s : State) (hlin : isLin p = true) : s.SameBeyondPorts (s.portUp p) := by
  have heth : isEth p = false := by
    simp only [isLin, isEth, Bool.and_eq_true, decide_eq_true_eq, Bool.and_eq_false_iff, decide_eq_false_iff_not] at hlin ⊢
    omega
  have hpropagate : ∀ u : State, u.SameBeyondPorts (u.propagate p) := fun u => by
    unfold State.propagate
    dsimp only
    split
    · exact .rfl
    · split
      · exact .of_rest (by simp)
      · split
        · exact .of_rest (by simp)
        · exact (State.SameBeyondPorts.of_rest (t := (u.updPort p (fun x => { x with wakePending := false, pulse := true })).emit (.linPulse p)) (by simp)).trans
            (State.sameBeyondPorts_setSlot hp _ (by decide) _)
  unfold State.portUp
  dsimp only
  rw [heth]
  have hstate : s.SameBeyondPorts (s.setPortState p 2) := s.sameBeyondPorts_setSlot hp (e := E.portCanState) (by decide) 2
  have hunpark : (s.setPortState p 2).SameBeyondPorts ((s.setPortState p 2).unpark p) := .of_rest (by simp)
  refine ((hstate.trans hunpark).trans (hpropagate _)).trans (.when (f := (·.linRun p 0)) ?_ _)
  exact .of_rest (by simp)

theorem State.sameBeyondPorts_enablingEth (s : State) : s.SameBeyondPorts (s.enablingEth p) := by
  unfold State.enablingEth
  dsimp only
  generalize hu : (s.advertise p).updPort p (fun x => { x with upTimer := x.linkUp && !x.halfDuplex }) = u
  have hsame : s.SameBeyondPorts u := hu ▸ .of_rest (by simp)
  refine (hsame.trans (u.sameBeyondPorts_setSlot hp (e := E.portEthLinkRate) (by decide) (if (u.port p).linkUp then u.linkRate p else 0))).trans ?_
  exact .of_rest (State.signalFault_rest (by decide) _ _ _)

theorem State.sameBeyondPorts_enabling (s : State) : s.SameBeyondPorts (s.enabling p) := by
  have hset := fun (u : State) (e v : Nat) (he : e < 0x220000) => u.sameBeyondPorts_setSlot hp he v
  unfold State.enabling
  dsimp only
  have hcan : ∀ u : State, u.SameBeyondPorts (if isCan p then ((u.setSlot E.portCanTec p 0).setSlot E.portCanRec p 0).setSlot E.portCanErrorState p 0 else u) := fun u => by
    split
    · exact ((hset u _ 0 (by decide)).trans (hset _ _ 0 (by decide))).trans (hset _ _ 0 (by decide))
    · exact .rfl
  generalize hw : s.updPort p _ = w
  have hsame : s.SameBeyondPorts w := hw ▸ .of_rest (by simp)
  have hcanned := (hsame.trans (hset w E.portCanState 1 (by decide))).trans (hcan (w.setPortState p 1))
  revert hcanned
  generalize (if isCan p then _ else _ : State) = u
  intro hcanned
  refine hcanned.trans ?_
  split
  · next h =>
    exact State.sameBeyondPorts_portUp hp u (Bool.and_eq_true_iff.mp h).1
  · exact .when (f := (·.enablingEth p)) (u.sameBeyondPorts_enablingEth hp) _

end port

/-- Only ports of dies that the part has run. -/
theorem State.portRuns_lt {s : State} {p : Nat} (h : s.portRuns p = true) : p < 256 := by
  have hnc : s.variant.nc ≤ 8 := by cases s.variant <;> decide
  simp only [State.portRuns, State.dieRuns, Bool.and_eq_true] at h
  obtain ⟨-, ⟨⟨hdie, -⟩, -⟩, -⟩ := h
  obtain ⟨-, hle⟩ := Bool.and_eq_true_iff.mp hdie
  have hslot := of_decide_eq_true hle
  rw [slotDie] at hslot
  omega

/-- A wake event writes its own entries and those of ports alone (R380). -/
theorem State.wakeEvent_st {s : State} {f : Nat} (hf : 0x300000 ≤ f)
    (hown : f ∉ [E.powerLastWakeSource, E.powerLastWakeDetail, E.powerCntWakeEvents, E.powerCntEntriesAborted, E.powerCntHeldOverflow]) (code detail port : Nat) :
    (s.wakeEvent code detail port).st f = s.st f := by
  simp only [List.mem_cons, List.not_mem_nil, or_false, not_or] at hown
  obtain ⟨hsource, hdetail, hevents, haborted, hover⟩ := hown
  have hreturn : (s.beginReturn code detail port).st f = s.st f := (s.beginReturn_leaves code detail port).2 f (by simp [hsource, hdetail, hevents, hover])
  have hhold : ∀ p, (s.holdEvent 0x1B 0 p).st f = s.st f := fun p => (s.holdEvent_leaves 0x1B 0 p).2 f hover
  unfold State.wakeEvent
  split
  · exact hreturn
  · exact hreturn
  · split
    · exact hhold _
    · unfold State.abortEntry
      dsimp only
      rw [State.st_of_od (State.keep_variant (State.evidence_rest (by decide) _ _ _ _ _ _)) (State.keep_od (State.evidence_rest (by decide) _ _ _ _ _ _))]
      refine (State.st_setRow_of_ne _ _ (okey_noRow_ne haborted)).trans ?_
      refine (State.SameBeyondPorts.forAll (fun u p hp => ?_) _ f hf).trans rfl
      have hlt : p < 256 := State.portRuns_lt (List.mem_filter.mp hp).2
      split
      · exact u.sameBeyondPorts_setSlot hlt (by decide) 1
      · exact .when (f := (·.enabling p)) (u.sameBeyondPorts_enabling hlt) _
  · split
    · exact hhold _
    · exact State.st_setRow_of_ne _ _ (okey_noRow_ne hevents)
  · rfl

/-! ### What diagnostics leave of an input (R295) -/

/-- An input but for its diagnostics, and its value. -/
def State.SameInput (i : Nat) (s t : State) : Prop := (∃ d, t.mi i = { s.mi i with diags := d }) ∧ t.stSlot E.miValue i = s.stSlot E.miValue i

theorem State.SameInput.rfl {i : Nat} {s : State} : State.SameInput i s s := ⟨⟨(s.mi i).diags, Eq.refl _⟩, Eq.refl _⟩

theorem State.SameInput.trans {i : Nat} {s t u : State} (h : State.SameInput i s t) (h' : State.SameInput i t u) : State.SameInput i s u := by
  obtain ⟨⟨d, hd⟩, hv⟩ := h
  obtain ⟨⟨d', hd'⟩, hv'⟩ := h'
  exact ⟨⟨d', by rw [hd', hd]⟩, hv'.trans hv⟩

section input
variable {i : Nat} (hi : i < 16)
include hi

/-- The value of an input is no entry of the wake sources, and none of its own diagnostics. -/
theorem miValue_own : 0x300000 ≤ E.miValue + i * 256 ∧
    E.miValue + i * 256 ∉ [E.powerLastWakeSource, E.powerLastWakeDetail, E.powerCntWakeEvents, E.powerCntEntriesAborted, E.powerCntHeldOverflow] := by
  have hall : ∀ i ∈ List.range 16, 0x300000 ≤ E.miValue + i * 256 ∧
      E.miValue + i * 256 ∉ [E.powerLastWakeSource, E.powerLastWakeDetail, E.powerCntWakeEvents, E.powerCntEntriesAborted, E.powerCntHeldOverflow] := by decide
  exact hall i (List.mem_range.mpr hi)

theorem State.diagEvent_value (s : State) (code : Nat) (on : Bool) : (s.diagEvent i code on).stSlot E.miValue i = s.stSlot E.miValue i := by
  have hcount : (s.countSlot E.miCntDiagEvents i).stSlot E.miValue i = s.stSlot E.miValue i := s.stSlot_countSlot_of_ne i 1 (by decide)
  have hnotover : E.miValue + i * 256 ≠ E.powerCntHeldOverflow := fun h => (miValue_own hi).2 (by rw [h]; decide)
  unfold State.diagEvent
  dsimp only
  split
  · rw [State.stSlot_of_od (State.keep_variant (State.doorbell_rest (by decide) _ _)) (State.keep_od (State.doorbell_rest (by decide) _ _)),
      State.stSlot_of_od (State.keep_variant (State.evidence_rest (by decide) _ _ _ _ _ _)) (State.keep_od (State.evidence_rest (by decide) _ _ _ _ _ _)), hcount]
  · exact ((State.islandEvent_leaves _ _ _ _).2 _ hnotover).trans hcount

theorem State.miLook_input (s : State) (code : Nat) (obs : Bool) (need span : Nat) : State.SameInput i s (s.miLook i code obs need span) := by
  unfold State.miLook
  dsimp only
  have hset : ∀ d, State.SameInput i s (s.setMi i { s.mi i with diags := d }) := fun d => ⟨⟨d, s.mi_setMi i _⟩, Eq.refl _⟩
  have hevent : ∀ u : State, State.SameInput i u (u.diagEvent i code obs) := fun u =>
    ⟨⟨(u.mi i).diags, State.mi_of_measure (State.keep_measure (State.diagEvent_rest (by decide) u i code obs)) i⟩, u.diagEvent_value hi code obs⟩
  generalize (DiagCond.look _ _ _ _ _).2 = c
  cases c
  · exact hset _
  · exact (hset _).trans (hevent _)

theorem State.miDiagnose_input (s : State) (v : Int) : State.SameInput i s (s.miDiagnose i v) := by
  unfold State.miDiagnose
  exact (((s.miLook_input hi 2 _ 1 _).trans (State.miLook_input hi _ 3 _ 1 _)).trans (State.miLook_input hi _ 4 _ 2 0)).trans (State.miLook_input hi _ 5 _ 2 0)

/-! ### The values (R294) -/

omit hi in
/-- The analog value, of the mean of one conversion. -/
theorem State.miAnalog_one {s : State} {v : Int} (havg : s.cfgMi E.miAverage i = 0) (hconvs : (s.mi i).convs = [v]) :
    s.miAnalog i = (s.setMi i { s.mi i with has := true }).miSet i (encodeF32 ⟨v, 1000000⟩) := by
  have htake : List.take 1 [v] = [v] := rfl
  simp [State.miAnalog, havg, hconvs, htake]

/-- An analog conversion that is not averaged becomes the value. -/
theorem State.miConvert_analog {s : State} (v : Int) (hmode : s.cfgMi E.miMode i = 1) (havg : s.cfgMi E.miAverage i = 0) :
    (∃ d, (s.miConvert i v).mi i = { s.mi i with lastConv := v, convs := [v], has := true, diags := d }) ∧ (s.miConvert i v).stSlot E.miValue i = encodeF32 ⟨v, 1000000⟩ := by
  have hstep : s.miConvert i v = ((s.setMi i { s.mi i with lastConv := v, convs := [v] }).miAnalog i).miDiagnose i v := by
    have htake : ∀ l : List Int, List.take 1 (v :: l) = [v] := fun _ => rfl
    simp [State.miConvert, hmode, havg, htake]
  have hmi := s.mi_setMi i { s.mi i with lastConv := v, convs := [v] }
  rw [hstep, State.miAnalog_one (s := s.setMi i { s.mi i with lastConv := v, convs := [v] }) havg (by rw [hmi]), hmi]
  generalize hu : ((s.setMi i { s.mi i with lastConv := v, convs := [v] }).setMi i _).miSet i (encodeF32 ⟨v, 1000000⟩) = u
  have humi : u.mi i = { s.mi i with lastConv := v, convs := [v], has := true } := by
    rw [← hu, State.mi_of_measure (State.miSet_measure _ i _), State.mi_setMi]
  have huval : u.stSlot E.miValue i = encodeF32 ⟨v, 1000000⟩ := by rw [← hu, State.miSet_value]
  obtain ⟨⟨d, hd⟩, hvalue⟩ := u.miDiagnose_input hi v
  exact ⟨⟨d, by rw [hd, humi]⟩, hvalue.trans huval⟩

/-- The debounced level is the value, whatever the wake event of its change does (R294, R383). -/
theorem State.miDigital_input (s : State) : (s.miDigital i).mi i = { s.mi i with has := true, debounce := false } ∧
    (s.miDigital i).stSlot E.miValue i = encodeF32 (Exact.ofNat (if (s.mi i).level then 1 else 0)) := by
  rw [State.miDigital_eq]
  refine ⟨?_, ?_⟩
  · rw [State.mi_of_measure (State.keep_measure (State.wakeOn_rest (by decide) _ _ _ _ _ _)), State.miDebounced_mi]
  · refine Eq.trans ?_ (s.miDebounced_value i)
    unfold State.wakeOn
    generalize ((_ : Bool) && _) = c
    cases c
    · rfl
    · exact State.wakeEvent_st (miValue_own hi).1 (miValue_own hi).2 _ _ _

omit hi in
/-- A gate's end (R294). -/
theorem State.miGate_input {s : State} {tn : Nat} {rest : List Nat} (h : (s.mi i).rises = tn :: rest) :
    ((s.miGate i).mi i).ref = some tn ∧ ((s.miGate i).mi i).rises = [] ∧
      ∀ v, (s.mi i).gateValue (s.cfgMi E.miMode i == 4) = some v → (s.miGate i).stSlot E.miValue i = v ∧ ((s.miGate i).mi i).has = true := by
  have hnext : ((s.mi i).nextGate).ref = some tn ∧ ((s.mi i).nextGate).rises = [] := by simp [MiInput.nextGate, h]
  cases hv : (s.mi i).gateValue (s.cfgMi E.miMode i == 4) with
  | none =>
    have hstep : s.miGate i = s.setMi i { (s.mi i).nextGate with has := (s.mi i).has || false } := by simp [State.miGate, hv]
    rw [hstep, State.mi_setMi]
    exact ⟨hnext.1, hnext.2, fun v hv' => by cases hv'⟩
  | some w =>
    have hstep : s.miGate i = (s.setMi i { (s.mi i).nextGate with has := (s.mi i).has || true }).miSet i w := by simp [State.miGate, hv]
    rw [hstep, State.mi_of_measure (State.miSet_measure _ i w), State.mi_setMi]
    exact ⟨hnext.1, hnext.2, fun v hv' => ⟨(State.miSet_value _ i w).trans (Option.some.inj hv'), Bool.or_true _⟩⟩

end input

theorem State.mi_evalReading (s : State) (codes : List Nat) (i : Nat) : (s.evalReading codes).settle.mi i = s.mi i := by
  rw [State.mi_of_measure (State.settle_measure _), (s.sameReadings_evalReading codes).mi]

/-- A command of an input on a front end that works. -/
theorem State.onMulti {s : State} {i : Nat} {f : State → State} {on : Bool} (hi : i < 16) (hm : s.measureOn = true) (hon : on = true) :
    s.onInput 16 i on f = .next (f s).settle := doneIf_when (decide_eq_true hi) (by simp [hm, hon])

/-- Settles O35: the input after its own step, which the rules that read it leave. -/
theorem multifunctionInputs : Obligations.MultifunctionInputs := by
  unfold Obligations.MultifunctionInputs
  intro s i hi hm
  refine ⟨fun v hmode havg => ?analog, fun r hmode => ?edge, fun hmode hdeb => ?debounced, fun tn rest hmode hrises => ?gate, fun v hmode hopen => ?slot⟩
  case analog =>
    obtain ⟨⟨d, hd⟩, hvalue⟩ := State.miConvert_analog hi v hmode havg
    refine State.leads_of_exec (State.onMulti hi hm (by simp [hmode])) ⟨?_, ?_, ?_, ?_, State.eq_mix (fs := 11133163534340) ?_⟩
    · rw [State.mi_evalReading, hd]
    · rw [State.mi_evalReading, hd]
    · rw [State.mi_evalReading, hd]
    · rw [State.stSlot_evalReading _ _ (miValue_free hi).1, hvalue]
    · rw [State.settle_rest (by decide), State.evalReading_rest (by decide), State.miConvert_rest (by decide)]
  case edge =>
    have hx : exec (.miEdge i r) s = .next ((s.miEdge i r).when (s.cfgMi E.miMode i == 2) (·.evalReading [0x2000 + i])).settle :=
      State.onMulti hi hm (by obtain h | h := hmode <;> simp [h])
    have hstep : (s.miEdge i r).when (s.cfgMi E.miMode i == 2) (·.evalReading [0x2000 + i]) = s.setMi i ((s.mi i).edge r s.clock.ticks) := by
      obtain h | h := hmode <;> simp [State.miEdge, h, State.when]
    rw [hstep] at hx
    refine State.leads_of_exec hx ⟨?_, State.eq_mix (fs := 2336462225408) ?_⟩
    · rw [State.mi_of_measure (State.settle_measure _), State.mi_setMi]
    · rw [State.settle_rest (by decide), State.setMi_rest (by decide)]
  case debounced =>
    obtain ⟨hmi, hvalue⟩ := s.miDigital_input hi
    refine State.leads_of_exec (State.onMulti hi hm (by simp [hmode, hdeb])) ⟨?_, ?_, ?_, State.eq_mix (fs := 11133163534340) ?_⟩
    · rw [State.mi_evalReading, hmi]
    · rw [State.mi_evalReading, hmi]
    · rw [State.stSlot_evalReading _ _ (miValue_free hi).1, hvalue]
    · rw [State.settle_rest (by decide), State.evalReading_rest (by decide), State.miDigital_rest (by decide)]
  case gate =>
    obtain ⟨href, hnone, hvalue⟩ := State.miGate_input hrises
    refine State.leads_of_exec (State.onMulti hi hm (by obtain h | h := hmode <;> simp [h])) ⟨?_, ?_, fun v hv => ?_, State.eq_mix (fs := 11133163456516) ?_⟩
    · rw [State.mi_evalReading, href]
    · rw [State.mi_evalReading, hnone]
    · rw [State.mi_evalReading, State.stSlot_evalReading _ _ (miValue_free hi).1]
      exact hvalue v hv
    · rw [State.settle_rest (by decide), State.evalReading_rest (by decide), State.miGate_rest (by decide)]
  case slot =>
    obtain ⟨⟨d, hd⟩, -⟩ := (s.setMi i { (s.mi i) with lastConv := v }).miLook_input hi 1 ((s.cfgMi E.miDiagOpenThreshold i : Int) * 1000 < v) 3 0
    rw [State.mi_setMi] at hd
    refine State.leads_of_exec (State.onMulti hi hm (by simp [hmode, hopen])) ⟨?_, ?_, State.eq_mix (fs := 11133092161540) ?_⟩
    · rw [State.mi_of_measure (State.settle_measure _), hd]
    · rw [State.mi_of_measure (State.settle_measure _), hd]
    · rw [State.settle_rest (by decide), State.miLook_rest (by decide), State.setMi_rest (by decide)]

end Sys2Proof.Machine
end

section
/-! Scrubbing of tables and restarts of runtime pairs (R278, R285). -/

namespace Sys2Proof.Machine
open Sys2Proof
set_option Elab.async false

/-! ### What the health map and the runtime pair of a die hold, through everything that moves copies

Admission, forwarding and the ports change of a die only its draws, its held copies and its learning queue. -/

/-- The health state of a die, its causes in force, whether its runtime pair runs and the words of its tables that are damaged. -/
def State.dieBasis (s : State) (n : Nat) : Nat × List Nat × Bool × List Nat := ((s.die n).state, (s.die n).causes, (s.die n).runtimeUp, (s.die n).damaged)

theorem State.dieBasis_of_dies {s t : State} (h : t.dies = s.dies) (n : Nat) : t.dieBasis n = s.dieBasis n := by
  unfold State.dieBasis
  rw [State.die_of_dies h]

@[simp] theorem State.updDie_dieBasis (s : State) (m n : Nat) (f : Die → Die) (hf : ∀ d, (f d).state = d.state ∧ (f d).causes = d.causes ∧ (f d).runtimeUp = d.runtimeUp ∧ (f d).damaged = d.damaged) :
    (s.updDie m f).dieBasis n = s.dieBasis n := by
  unfold State.dieBasis
  by_cases h : n = m
  · subst h
    obtain ⟨hstate, hcauses, hup, hdamaged⟩ := hf (s.die n)
    rw [State.die_updDie, hstate, hcauses, hup, hdamaged]
  · rw [State.die_updDie_other s f h]

@[simp] theorem foldl_dieBasis {α : Type} {n : Nat} (l : List α) (f : State → α → State) (h : ∀ s a, (f s a).dieBasis n = s.dieBasis n) (s : State) :
    (l.foldl f s).dieBasis n = s.dieBasis n := by
  induction l generalizing s with
  | nil => rfl
  | cons a l ih => rw [List.foldl_cons, ih, h]

theorem State.forAll_dieBasis {n : Nat} (l : List Nat) (f : State → Nat → State) (h : ∀ s a, (f s a).dieBasis n = s.dieBasis n) (s : State) :
    (s.forAll l f).dieBasis n = s.dieBasis n := foldl_dieBasis l f h s

theorem State.when_dieBasis {n : Nat} (s : State) (c : Bool) (f : State → State) (h : ∀ s, (f s).dieBasis n = s.dieBasis n) : (s.when c f).dieBasis n = s.dieBasis n := by
  unfold State.when
  split
  · exact h s
  · rfl

@[simp] theorem State.store_dieBasis (s : State) (n row : Nat) (cp : Copy) (ch : Charge) : (s.store row cp ch).dieBasis n = s.dieBasis n :=
  State.dieBasis_of_dies (State.keep_dies (by simp)) n

@[simp] theorem State.bpAct_dieBasis (s : State) (n m row : Nat) (cp : Copy) (l : Bool) : (s.bpAct m row cp l).1.dieBasis n = s.dieBasis n :=
  State.dieBasis_of_dies (State.keep_dies (by simp)) n

@[simp] theorem State.countRow_dieBasis (s : State) (n e row k : Nat) : (s.countRow e row k).dieBasis n = s.dieBasis n := rfl

@[simp] theorem State.red_dieBasis (s : State) (n m row : Nat) (cp : Copy) : (s.red m row cp).1.dieBasis n = s.dieBasis n := by
  have hd : ∀ v : Nat, ((s.setRow E.queueStAvg row v).updDie m (fun d => { d with redDraws := d.redDraws + 1 })).dieBasis n = s.dieBasis n := fun v =>
    State.updDie_dieBasis (s.setRow E.queueStAvg row v) m n _ (fun _ => ⟨rfl, rfl, rfl, rfl⟩)
  unfold State.red
  dsimp only
  repeat' split
  · exact hd _
  · exact hd _
  · rfl

@[simp] theorem State.enqueue_dieBasis (s : State) (n m q : Nat) (cp : Copy) : (s.enqueue m q cp).1.dieBasis n = s.dieBasis n := by
  have hr : (if s.lossless cp then (s, false) else s.red m (queueRow m q cp.cls) cp).1.dieBasis n = s.dieBasis n := by
    split
    · rfl
    · exact State.red_dieBasis s n m _ cp
  unfold State.enqueue
  dsimp only
  repeat' split
  all_goals simp_all

theorem State.admitHold_dieBasis (s : State) (n m q : Nat) (cp : Copy) : (s.admitHold m q cp).dieBasis n = s.dieBasis n := by
  have h := State.enqueue_dieBasis s n m q cp
  unfold State.admitHold
  split
  next s1 he =>
    rw [he] at h
    refine Eq.trans ?_ h
    exact State.updDie_dieBasis s1 m n _ (fun _ => ⟨rfl, rfl, rfl, rfl⟩)
  next s1 he =>
    rw [he] at h
    refine Eq.trans ?_ h
    exact State.when_dieBasis s1 _ _ (fun _ => rfl)
  next s1 he => rwa [he] at h

theorem State.loseCopy_dieBasis (s : State) (n : Nat) (cp : Copy) : (s.loseCopy cp).dieBasis n = s.dieBasis n :=
  State.dieBasis_of_dies (State.keep_dies (by simp)) n

theorem State.sendTo_dieBasis (s : State) (n m d : Nat) (cp : Copy) : (s.sendTo m d cp).dieBasis n = s.dieBasis n := by
  unfold State.sendTo
  dsimp only
  repeat' split
  · exact State.loseCopy_dieBasis s n cp
  · exact State.admitHold_dieBasis s n m _ _
  · exact State.loseCopy_dieBasis s n cp

theorem State.deliver_dieBasis (s : State) (n m code : Nat) (cp : Copy) : (s.deliver m code cp).dieBasis n = s.dieBasis n := by
  have hcount : (s.countTxRefused code).dieBasis n = s.dieBasis n := State.dieBasis_of_dies (State.keep_dies (by simp)) n
  unfold State.deliver
  dsimp only
  repeat' split
  · exact hcount
  · exact hcount
  · exact State.admitHold_dieBasis s n m _ _
  · exact State.admitHold_dieBasis s n m _ _
  · rfl
  · exact State.admitHold_dieBasis s n m _ _
  · rfl
  · exact State.admitHold_dieBasis s n m _ _
  · exact State.loseCopy_dieBasis s n _
  · exact State.sendTo_dieBasis s n m _ _

theorem State.replicatePlain_dieBasis (s : State) (n m : Nat) (cp : Copy) (l : List Nat) : (s.replicatePlain m cp l).dieBasis n = s.dieBasis n :=
  (State.forAll_dieBasis _ _ (fun _ _ => State.sendTo_dieBasis ..) _).trans
    ((State.forAll_dieBasis _ _ (fun _ _ => State.deliver_dieBasis ..) _).trans (State.when_dieBasis s _ _ (fun _ => rfl)))

theorem State.replicateAtomic_dieBasis (s : State) (n m : Nat) (cp : Copy) (g : Nat) (l : List Nat) : (s.replicateAtomic m cp g l).dieBasis n = s.dieBasis n := by
  unfold State.replicateAtomic
  split
  · rfl
  · split
    · refine (State.replicatePlain_dieBasis _ n m _ l).trans ?_
      exact State.forAll_dieBasis l (fun s x => s.chargeAcct g x (s.hostOf m x) cp.cells) (fun _ _ => rfl) s
    · rfl

theorem State.replicate_dieBasis (s : State) (n m : Nat) (cp : Copy) (b : Batch) : (s.replicate m cp b).dieBasis n = s.dieBasis n := by
  unfold State.replicate
  repeat' split
  · exact State.replicatePlain_dieBasis s n m cp _
  · rfl
  · exact State.replicateAtomic_dieBasis s n m cp _ _
  · exact State.sendTo_dieBasis s n m _ _

theorem State.stage5_dieBasis (s : State) (n m : Nat) (cp : Copy) (bs : List Batch) : (s.stage5 m cp bs).dieBasis n = s.dieBasis n := by
  have hall : ∀ (t : State) (x : Copy), (t.replicateAll m x bs).dieBasis n = t.dieBasis n := fun t x =>
    foldl_dieBasis (joinPlain bs) (fun s b => s.replicate m x b) (fun _ _ => State.replicate_dieBasis ..) t
  have hpolice : (s.police cp).1.dieBasis n = s.dieBasis n := State.dieBasis_of_dies (State.keep_dies (by simp)) n
  unfold State.stage5
  repeat' split
  · rfl
  · exact hall s cp
  · rfl
  next s1 cp1 he => exact (hall s1 cp1).trans (by rwa [he] at hpolice)
  next s1 he => rwa [he] at hpolice
  · exact State.sendTo_dieBasis s n m _ _

theorem State.learnFrom_dieBasis (s : State) (n m realm src dest : Nat) (b : Bool) : (s.learnFrom m realm src dest b).dieBasis n = s.dieBasis n := by
  refine State.when_dieBasis s _ _ (fun t => ?_)
  unfold State.learnEnqueue
  split
  · exact State.updDie_dieBasis t m n _ (fun _ => ⟨rfl, rfl, rfl, rfl⟩)
  · rfl

theorem State.forwardEth_dieBasis (s : State) (n m port code own : Nat) (cp : Copy) (learn : Bool) : (s.forwardEth m port code own cp learn).dieBasis n = s.dieBasis n := by
  have hdecide := State.dieBasis_of_dies (State.keep_dies (s := s) (t := (s.ethDecide m port code own cp.realm cp.vid cp.pcp cp.frame.data).1) (by simp)) n
  have hlearn := (State.when_dieBasis (s.ethDecide m port code own cp.realm cp.vid cp.pcp cp.frame.data).1
    (learn && (s.ethDecide m port code own cp.realm cp.vid cp.pcp cp.frame.data).2.2) (·.learnFrom m cp.realm (ethSrc cp.frame.data) own false)
    (fun _ => State.learnFrom_dieBasis ..)).trans hdecide
  unfold State.forwardEth
  dsimp only
  repeat' split
  · rfl
  · exact (State.stage5_dieBasis _ n m _ _).trans hlearn
  · exact hlearn

theorem State.sendInternal_dieBasis (s : State) (n m k realm : Nat) (d : Bytes) : (s.sendInternal m k realm d).dieBasis n = s.dieBasis n := by
  unfold State.sendInternal
  split
  · exact State.updDie_dieBasis s m n _ (fun _ => ⟨rfl, rfl, rfl, rfl⟩)
  · exact State.forwardEth_dieBasis { s with nextFid := s.nextFid + 1 } n m _ _ _ _ _

theorem State.retryOne_dieBasis (s : State) (n m : Nat) (x : Nat × Copy) : (s.retryOne m x).dieBasis n = s.dieBasis n := by
  unfold State.retryOne
  repeat' split
  · exact State.updDie_dieBasis s m n _ (fun _ => ⟨rfl, rfl, rfl, rfl⟩)
  · exact State.sendTo_dieBasis s n m _ _
  · exact State.admitHold_dieBasis s n m _ _

theorem State.retryHeld_dieBasis (s : State) (n m : Nat) : (s.retryHeld m).dieBasis n = s.dieBasis n := by
  have hwait : ∀ t : State, (t.retryWaiting m).dieBasis n = t.dieBasis n := by
    intro t
    unfold State.retryWaiting
    dsimp only
    split
    · rfl
    · exact (foldl_dieBasis _ _ (fun _ _ => State.sendInternal_dieBasis ..) _).trans (State.updDie_dieBasis t m n _ (fun _ => ⟨rfl, rfl, rfl, rfl⟩))
  refine (hwait _).trans ?_
  split
  · rfl
  · exact (foldl_dieBasis _ _ (fun _ _ => State.retryOne_dieBasis ..) _).trans (State.updDie_dieBasis s m n _ (fun _ => ⟨rfl, rfl, rfl, rfl⟩))

theorem State.freed_dieBasis (s : State) (n m : Nat) : (s.freed m).dieBasis n = s.dieBasis n :=
  (State.retryHeld_dieBasis _ n m).trans (State.dieBasis_of_dies (State.keep_dies (by simp)) n)

/-! ### The ports of a die, from FAULT back -/

theorem State.flushPort_dieBasis (s : State) (n slot : Nat) (count : State → Nat → Nat → State) (hc : ∀ s a b, (count s a b).dieBasis n = s.dieBasis n) :
    (s.flushPort slot count).dieBasis n = s.dieBasis n := by
  refine (State.freed_dieBasis _ n _).trans (foldl_dieBasis _ _ (fun t row => ?_) s)
  dsimp only
  split
  · rfl
  · exact (foldl_dieBasis _ _ (fun u cp => State.loseCopy_dieBasis u n cp) _).trans (hc _ _ _)

theorem State.enabling_dieBasis (s : State) (n slot : Nat) : (s.enabling slot).dieBasis n = s.dieBasis n := State.dieBasis_of_dies (State.keep_dies (by simp)) n

theorem State.disable_dieBasis (s : State) (n slot : Nat) : (s.disable slot).dieBasis n = s.dieBasis n := by
  have hflush : (s.flushPort slot (fun s _ k => s.countDrainFlushed slot k)).dieBasis n = s.dieBasis n := State.flushPort_dieBasis s n slot _ (fun _ _ _ => rfl)
  unfold State.disable
  generalize s.flushPort slot (fun s _ k => s.countDrainFlushed slot k) = t at hflush ⊢
  rw [← hflush]
  exact State.dieBasis_of_dies (State.keep_dies (by simp)) n

theorem State.rewritePort_dieBasis (s : State) (n slot : Nat) : (s.rewritePort slot).dieBasis n = s.dieBasis n := by
  have hleave : ∀ t : State, (t.leaveFault slot).dieBasis n = t.dieBasis n := by
    intro t
    unfold State.leaveFault
    dsimp only
    split
    · exact State.enabling_dieBasis _ n slot
    · exact State.disable_dieBasis _ n slot
  exact State.when_dieBasis _ _ _ hleave

/-! ### Causes that come and go -/

theorem Die.implied_ne (d : Die) : d.implied ≠ 3 := by
  unfold Die.implied
  split <;> decide

/-- A cause that comes into force changes of its die the causes and the state, which never becomes ISOLATED by it (Table 9-3). -/
theorem State.addCause_die (s : State) (n cls : Nat) :
    ∃ st, (s.addCause n cls).die n = { s.die n with causes := if (s.die n).causes.contains cls then (s.die n).causes else (s.die n).causes ++ [cls], state := st } ∧
      ((s.die n).state ≠ 3 → st ≠ 3) := by
  unfold State.addCause
  dsimp only
  split
  · exact ⟨_, (State.setHealth_die _ n _).trans (by rw [State.die_updDie]), fun _ => Die.implied_ne _⟩
  · exact ⟨_, State.die_updDie s n _, id⟩

theorem State.dropCause_die (s : State) (n cls : Nat) :
    ∃ st, (s.dropCause n cls).die n = { s.die n with causes := (s.die n).causes.filter (· != cls), state := st } := by
  unfold State.dropCause
  dsimp only
  split
  · exact ⟨_, (State.setHealth_die _ n _).trans (by rw [State.die_updDie])⟩
  · exact ⟨_, State.die_updDie s n _⟩

theorem State.setHealth_faultSeq (s : State) (n st : Nat) : (s.setHealth n st).safe.faultSeq = s.safe.faultSeq := by
  have hdrive : ∀ u : State, (u.driveSafe 0x100).safe.faultSeq = u.safe.faultSeq := fun _ => rfl
  have hrow : ∀ (u : State) (e row v : Nat), (u.setRow e row v).safe = u.safe := fun _ _ _ _ => rfl
  have hchange : ∀ u : State, u.healthChange.safe = u.safe := fun u => State.keep_safe (by simp)
  have hset : ∀ d : Die, (s.setDieState n d).safe = s.safe := fun _ => rfl
  simp only [State.setHealth, apply_ite (fun u : State => u.safe.faultSeq), hdrive, hchange, hrow, hset, ite_self]

theorem State.addCause_faultSeq (s : State) (n cls : Nat) : (s.addCause n cls).safe.faultSeq = s.safe.faultSeq := by
  unfold State.addCause
  dsimp only
  split
  · exact State.setHealth_faultSeq _ n _
  · rfl

/-- A fault that is logged takes the next sequence number and leaves the dies as they are (R273). -/
theorem State.logFault_faultSeq (s : State) (cls die unit : Nat) : (s.logFault cls die unit).safe.faultSeq = s.safe.faultSeq + 1 := by
  have hsafe : ∀ (u : State) (r : List (BitVec 8)), ((u.doorbell 69).evidence 0 0x10 cls r).safe = u.safe := fun u r => State.keep_safe (by simp)
  have hlow : ∀ b : Bool, (if b then s.driveSafe cls else s).safe.faultSeq = s.safe.faultSeq := fun b => by cases b <;> rfl
  unfold State.logFault
  dsimp only
  rw [hsafe]
  exact congrArg (· + 1) rfl

theorem State.stRow_of_od {s t : State} (hv : t.variant = s.variant) (ho : t.od = s.od) (e row : Nat) : t.stRow e row = s.stRow e row := by simp [State.stRow, hv, ho]

theorem State.stRow_setRow_of_ne (s : State) {e f row k : Nat} (v : Nat) (h : okey f k ≠ okey e row) : (s.setRow e row v).stRow f k = s.stRow f k :=
  mget_mset_of_ne _ _ s.od.stat v h

theorem okey_row_ne {e f row : Nat} (h : f ≠ e) (_ : row < 2 ^ 32) : okey f row ≠ okey e row := by
  simp only [okey]
  omega

/-- The row of the fault log that a fault writes (R273): the class, the die and the unit. -/
theorem State.logFault_row (s : State) (cls die unit : Nat) :
    (s.logFault cls die unit).stRow E.faultClass (s.safe.faultSeq % 64) = cls ∧ (s.logFault cls die unit).stRow E.faultDie (s.safe.faultSeq % 64) = die ∧
      (s.logFault cls die unit).stRow E.faultUnit (s.safe.faultSeq % 64) = unit % 65536 := by
  have hod : ∀ (u : State) (r : List (BitVec 8)) (e row : Nat), ((u.doorbell 69).evidence 0 0x10 cls r).stRow e row = u.stRow e row := fun u r e row =>
    State.stRow_of_od (State.keep_variant (by simp)) (State.keep_od (by simp)) e row
  have hne : ∀ (u : State) {e f : Nat} (v : Nat), f ≠ e → (u.setRow e (s.safe.faultSeq % 64) v).stRow f (s.safe.faultSeq % 64) = u.stRow f (s.safe.faultSeq % 64) :=
    fun u e f v h => State.stRow_setRow_of_ne u v (okey_row_ne h (by omega))
  unfold State.logFault
  dsimp only
  simp only [hod, Nat.add_sub_cancel]
  refine ⟨?_, ?_, ?_⟩
  · rw [hne _ _ (by decide), hne _ _ (by decide), hne _ _ (by decide), hne _ _ (by decide), hne _ _ (by decide), State.stRow_setRow]
  · rw [hne _ _ (by decide), hne _ _ (by decide), hne _ _ (by decide), hne _ _ (by decide), State.stRow_setRow]
  · rw [hne _ _ (by decide), hne _ _ (by decide), hne _ _ (by decide), State.stRow_setRow]

/-- A request of D0 changes only Saffron's record of requests. -/
theorem State.requestD0_eq (s : State) (r : EvReq) : ∃ ev, s.requestD0 r = { s with ev := ev } := by
  unfold State.requestD0
  split <;> exact ⟨_, rfl⟩

theorem State.doorbell_dieBasis (s : State) (n src : Nat) : (s.doorbell src).dieBasis n = s.dieBasis n := by
  refine State.forAll_dieBasis _ _ (fun t m => ?_) s
  split
  · exact State.updDie_dieBasis t m n _ (fun _ => ⟨rfl, rfl, rfl, rfl⟩)
  · exact State.dieBasis_of_dies (State.keep_dies (by simp)) n

theorem State.logFault_dieBasis (s : State) (n cls die unit : Nat) : (s.logFault cls die unit).dieBasis n = s.dieBasis n := by
  have hev : ∀ (u : State) (r : List (BitVec 8)), (u.evidence 0 0x10 cls r).dies = u.dies := fun u r => by
    obtain ⟨ev, hx⟩ : ∃ ev, u.evidence 0 0x10 cls r = { u with ev := ev } := State.requestD0_eq u _
    rw [hx]
  have hend : ∀ (u : State) (r : List (BitVec 8)), ((u.doorbell 69).evidence 0 0x10 cls r).dieBasis n = u.dieBasis n := fun u r =>
    (State.dieBasis_of_dies (hev _ r) n).trans (State.doorbell_dieBasis u n 69)
  have hlow : ∀ b : Bool, (if b then s.driveSafe cls else s).dieBasis n = s.dieBasis n := fun b => by cases b <;> rfl
  have hrow : ∀ (u : State) (e row v : Nat), (u.setRow e row v).dieBasis n = u.dieBasis n := fun _ _ _ _ => rfl
  have hsafe : ∀ (u : State) (x : Safe), ({ u with safe := x } : State).dieBasis n = u.dieBasis n := fun _ _ => rfl
  unfold State.logFault
  dsimp only
  simp only [hend, hrow, State.count, State.countRow_dieBasis, hsafe, hlow]

/-- A single-bit error only counts (R276): it changes no die and takes no sequence number of the fault log. -/
theorem State.maskedFault_counts (s : State) : (s.maskedFault 1).dies = s.dies ∧ (s.maskedFault 1).safe.faultSeq = s.safe.faultSeq ∧
    (s.maskedFault 1).st E.faultCntClass = (s.count E.faultCntClass).st E.faultCntClass := by
  have hdriven : ∀ b : Bool, (s.when b (·.driveSafe 1)).dies = s.dies ∧ (s.when b (·.driveSafe 1)).safe.faultSeq = s.safe.faultSeq ∧
      ((s.when b (·.driveSafe 1)).count E.faultCntClass).st E.faultCntClass = (s.count E.faultCntClass).st E.faultCntClass := fun b => by
    cases b <;> exact ⟨rfl, rfl, rfl⟩
  have hev : ∀ (u : State) (r : List (BitVec 8)), (u.evidence 0 0x10 0 r).dies = u.dies ∧ (u.evidence 0 0x10 0 r).safe = u.safe ∧
      (u.evidence 0 0x10 0 r).st E.faultCntClass = u.st E.faultCntClass := fun u r => by
    obtain ⟨ev, hx⟩ : ∃ ev, u.evidence 0 0x10 0 r = { u with ev := ev } := State.requestD0_eq u _
    rw [hx]
    exact ⟨rfl, rfl, rfl⟩
  unfold State.maskedFault
  dsimp only
  obtain ⟨hdies, hseq, hcount⟩ := hdriven (s.policyActs 1 0)
  split
  · exact ⟨hdies, hseq, hcount⟩
  · rw [(hev _ _).1, (hev _ _).2.1, (hev _ _).2.2]
    exact ⟨hdies, hseq, hcount⟩

/-! ### The table scrub and the restart of a pair -/

/-- A word that scrubbing cannot correct is remembered, degrades its die and is one fault of class 0x03 (R278, R285). -/
theorem State.tableDamaged_die {s : State} {n : Nat} (w : Nat) (h3 : (s.die n).state ≠ 3) :
    w ∈ ((s.tableDamaged n w).die n).damaged ∧ 3 ∈ ((s.tableDamaged n w).die n).causes ∧ (s.tableDamaged n w).safe.faultSeq = s.safe.faultSeq + 1 := by
  let s1 := s.updDie n (fun d => { d with damaged := if d.damaged.contains w then d.damaged else d.damaged ++ [w] })
  have h1 : s1.die n = { s.die n with damaged := if (s.die n).damaged.contains w then (s.die n).damaged else (s.die n).damaged ++ [w] } := State.die_updDie s n _
  obtain ⟨st, hd, hst⟩ := s1.addCause_die n 3
  have hraise : ((s1.addCause n 3).raiseSource n 49).dies = (s1.addCause n 3).dies := State.keep_dies (by simp)
  have hstep : s.tableDamaged n w = ((s1.addCause n 3).raiseSource n 49).logFault 3 n (tableUnit n w) := by
    have hne : ((((s1.addCause n 3).raiseSource n 49).die n).state == 3) = false := by
      rw [State.die_of_dies hraise, hd, beq_eq_false_iff_ne]
      exact hst (by rw [h1]; exact h3)
    show ((s1.addCause n 3).raiseSource n 49).fault 3 n (tableUnit n w) = _
    unfold State.fault
    rw [hne]
    rfl
  have hbasis : (s.tableDamaged n w).dieBasis n = (s1.addCause n 3).dieBasis n := by
    rw [hstep, State.logFault_dieBasis, State.dieBasis_of_dies hraise]
  have hsafe : ((s1.addCause n 3).raiseSource n 49).safe = (s1.addCause n 3).safe := State.keep_safe (by simp)
  have hd3 : (s.tableDamaged n w).dieBasis n = (((s1.addCause n 3).die n).state, ((s1.addCause n 3).die n).causes, ((s1.addCause n 3).die n).runtimeUp, ((s1.addCause n 3).die n).damaged) := hbasis
  rw [hd, h1] at hd3
  simp only [State.dieBasis, Prod.mk.injEq] at hd3
  obtain ⟨-, hcauses, -, hdamaged⟩ := hd3
  refine ⟨?_, ?_, ?_⟩
  · rw [hdamaged]
    split <;> simp_all
  · rw [hcauses]
    split <;> simp_all
  · rw [hstep, State.logFault_faultSeq, hsafe, State.addCause_faultSeq]
    rfl

/-- A rewrite of a table ends its damage; without damage left the cause of class 0x03 is gone (R285). -/
theorem State.rewriteTable_die (s : State) (n k : Nat) :
    (∀ w ∈ ((s.rewriteTable n k).die n).damaged, w % 64 ≠ k) ∧ (((s.rewriteTable n k).die n).damaged = [] → 3 ∉ ((s.rewriteTable n k).die n).causes) := by
  unfold State.rewriteTable
  dsimp only
  generalize s.when _ _ = t
  generalize hdef : t.updDie n (fun d => { d with damaged := d.damaged.filter (fun x => x % 64 != k) }) = u
  have hu : ∀ w ∈ (u.die n).damaged, w % 64 ≠ k := by
    rw [← hdef, State.die_updDie]
    intro w hw
    simpa using (List.mem_filter.mp hw).2
  obtain ⟨st, hd⟩ := u.dropCause_die n 3
  unfold State.when
  split
  case isTrue he =>
    rw [hd]
    exact ⟨hu, fun _ => by simp⟩
  case isFalse he => exact ⟨hu, fun h => absurd (List.isEmpty_iff.mpr h) he⟩

/-- A pair that has restarted runs, and the cause of class 0x06 is gone, whatever the ports that leave FAULT do (R278). -/
theorem State.runtimeBack_die (s : State) (n : Nat) : ((s.runtimeBack n).die n).runtimeUp = true ∧ 6 ∉ ((s.runtimeBack n).die n).causes := by
  obtain ⟨st, hd⟩ := (s.updDie n (fun d => { d with runtimeUp := true })).dropCause_die n 6
  have hbasis : (s.runtimeBack n).dieBasis n = ((s.updDie n (fun d => { d with runtimeUp := true })).dropCause n 6).dieBasis n :=
    State.forAll_dieBasis _ State.rewritePort (fun t slot => State.rewritePort_dieBasis t n slot) _
  simp only [State.dieBasis, hd, State.die_updDie, Prod.mk.injEq] at hbasis
  obtain ⟨-, hcauses, hup, -⟩ := hbasis
  exact ⟨hup, by simp [hcauses]⟩

theorem State.settle_faultSeq (s : State) : s.settle.safe.faultSeq = s.safe.faultSeq := by
  unfold State.settle State.autoRelease
  split <;> rfl

/-- Settles O22: the damage and the causes of the die after each command; what the ports of the die do with the copies that wait changes neither. -/
theorem tablesAreScrubbed : Obligations.TablesAreScrubbed := by
  unfold Obligations.TablesAreScrubbed
  intro s n hn hrun hd
  have hruns : (s.inRun && s.dieRuns n) = true := by simp [hrun, hd]
  refine ⟨fun w => ?clean, fun w h3 => ?single, fun w h3 => ?multi, fun k hup => ?rewrite, fun hup => ?back⟩
  case clean =>
    have hx : exec (.tableScrub n w .clean) s = .next s.settle := doneIf_when (f := fun s => s) hn hruns
    exact State.leads_of_exec hx (State.eq_mix (fs := 2199023271936) (State.settle_rest (by decide) s))
  case single =>
    have hstep : s.fault 1 n 0 = s.maskedFault 1 := by simp [State.fault, h3, State.takeFault, maskedClass]
    have hx : exec (.tableScrub n w .single) s = .next (s.maskedFault 1).settle :=
      (doneIf_when (f := fun s => s.fault 1 n 0) hn hruns).trans (congrArg (fun t : State => done t) hstep)
    obtain ⟨hdies, hseq, hcount⟩ := s.maskedFault_counts
    refine State.leads_of_exec hx ⟨?_, ?_, ?_, State.eq_mix (fs := 10995921635332) (execTableScrub_rest (by decide) n w .single s hx)⟩
    · rw [State.settle_dies, hdies]
    · rw [State.settle_faultSeq, hseq]
    · rw [State.st, State.stRow_settle]
      exact hcount
  case multi =>
    have hx : exec (.tableScrub n w .multi) s = .next (s.tableDamaged n w).settle := doneIf_when (f := fun s => s.tableDamaged n w) hn hruns
    obtain ⟨hdamaged, hcauses, hseq⟩ := State.tableDamaged_die w h3
    refine State.leads_of_exec hx ⟨?_, ?_, ?_, State.eq_mix (fs := 10995921635332) (execTableScrub_rest (by decide) n w .multi s hx)⟩
    · rwa [State.die_settle]
    · rwa [State.die_settle]
    · rw [State.settle_faultSeq, hseq]
  case rewrite =>
    have hx : exec (.tableHalfRewrite n k) s = .next (s.rewriteTable n k).settle := doneIf_when (f := (·.rewriteTable n k)) hn (by simp [hrun, hd, hup])
    obtain ⟨hgone, hcause⟩ := s.rewriteTable_die n k
    refine State.leads_of_exec hx ⟨?_, ?_, State.eq_mix (fs := 2199291740164) (execTableHalfRewrite_rest (by decide) n k s hx)⟩
    · rwa [State.die_settle]
    · rwa [State.die_settle]
  case back =>
    have hx : exec (.runtimePairRestartComplete n) s = .next (s.runtimeBack n).settle := doneIf_when (f := (·.runtimeBack n)) hn (by simp [hrun, hd, hup])
    obtain ⟨hruns, hcause⟩ := s.runtimeBack_die n
    refine State.leads_of_exec hx ⟨?_, ?_, State.eq_mix (fs := 12099196534788) (execRuntimePairRestartComplete_rest (by decide) n s hx)⟩
    · rwa [State.die_settle]
    · rwa [State.die_settle]

end Sys2Proof.Machine
end

section
/-! Recomputed placements and readmission of a die (R273, R278, R280, R283). -/

namespace Sys2Proof.Machine
open Sys2Proof
set_option Elab.async false

/-! ### The placement in force, through what an apply does after it -/

theorem State.setHealth_inForce (s : State) (n st : Nat) : (s.setHealth n st).sumac.inForce = s.sumac.inForce := by
  have hdrive : ∀ u : State, (u.driveSafe 0x100).sumac = u.sumac := fun _ => rfl
  have hrow : ∀ (u : State) (e row v : Nat), (u.setRow e row v).sumac = u.sumac := fun _ _ _ _ => rfl
  have hset : ∀ d : Die, (s.setDieState n d).sumac = s.sumac := fun _ => rfl
  have hchange : ∀ u : State, u.healthChange.sumac.inForce = u.sumac.inForce := fun u => by
    unfold State.healthChange
    dsimp only
    repeat' split
    all_goals rfl
  simp only [State.setHealth, apply_ite (fun u : State => u.sumac.inForce), hdrive, hchange, hrow, hset, ite_self]

theorem State.addCause_inForce (s : State) (n cls : Nat) : (s.addCause n cls).sumac.inForce = s.sumac.inForce := by
  unfold State.addCause
  dsimp only
  split
  · exact State.setHealth_inForce _ n _
  · rfl

theorem State.dropCause_inForce (s : State) (n cls : Nat) : (s.dropCause n cls).sumac.inForce = s.sumac.inForce := by
  unfold State.dropCause
  dsimp only
  split
  · exact State.setHealth_inForce _ n _
  · rfl

theorem State.bankStopped_inForce (s : State) (n : Nat) : (s.bankStopped n).sumac.inForce = s.sumac.inForce := by
  have hfault : ∀ u : State, (u.detectedFault 0x0D n 0xFFFF).sumac = u.sumac := fun u => State.keep_sumac (by simp)
  have hports : ∀ u : State, (u.forAll (u.bankPorts n) (fun s p => (s.toFault p).updPort p (fun x => { x with clockStopped := true }))).sumac = u.sumac := fun u =>
    State.keep_sumac (by simp)
  unfold State.bankStopped
  dsimp only
  rw [hfault, State.addCause_inForce, hports]

theorem foldl_inForce {α : Type} (l : List α) (f : State → α → State) (h : ∀ s a, (f s a).sumac.inForce = s.sumac.inForce) (s : State) :
    (l.foldl f s).sumac.inForce = s.sumac.inForce := by
  induction l generalizing s with
  | nil => rfl
  | cons a l ih => rw [List.foldl_cons, ih, h]

theorem State.when_inForce (s : State) (c : Bool) (f : State → State) (h : ∀ s, (f s).sumac.inForce = s.sumac.inForce) : (s.when c f).sumac.inForce = s.sumac.inForce := by
  unfold State.when
  split
  · exact h s
  · rfl

theorem State.appRuns_inForce (s : State) (n row : Nat) : (s.appRuns n row).sumac.inForce = s.sumac.inForce := by
  refine Eq.trans (State.when_inForce _ _ _ fun _ => rfl) ((State.dropCause_inForce _ n 7).trans ?_)
  exact congrArg Sumac.inForce (State.keep_sumac (State.setAppState_rest (by decide) _ _ _))

theorem State.appLoaded_inForce (s : State) (n : Nat) : (s.appLoaded n).sumac.inForce = s.sumac.inForce := by
  have hother : ∀ (u : State) (x : Update) (a b : Nat), (({ u with update := x } : State).updateRecord 8 0x4D 2 a b).sumac = u.sumac := fun u x a b =>
    State.keep_sumac (by simp)
  have hnone : ∀ (u : State) (x : Update), (((({ u with update := x } : State).updApp n (fun a => { a with reloading := false })).setAppState n 0).set E.versionApplication 0).sumac =
    u.sumac := fun u x => State.keep_sumac (by simp)
  unfold State.appLoaded
  dsimp only
  repeat' split
  · exact s.appRuns_inForce n _
  · exact congrArg Sumac.inForce (State.keep_sumac (State.fallBack_rest (by decide) s 2 0x4D))
  · rw [State.appRuns_inForce, hother]
  · rw [hnone]

theorem State.dieJoins_inForce (s : State) (n : Nat) : (s.dieJoins n).sumac.inForce = s.sumac.inForce := by
  have hport : ∀ (u : State) (slot : Nat), (u.enabling slot).sumac = u.sumac := fun u slot => State.keep_sumac (by simp)
  have hports : ∀ (u : State) (l : List Nat), (u.forAll l State.enabling).sumac.inForce = u.sumac.inForce := fun u l =>
    foldl_inForce l State.enabling (fun t slot => congrArg Sumac.inForce (hport t slot)) u
  have happ : ∀ u : State, (u.setAppState n 4).sumac = u.sumac := fun u => State.keep_sumac (by simp)
  unfold State.dieJoins
  dsimp only
  split
  · rw [State.appLoaded_inForce]
    exact (State.when_inForce _ _ _ (fun t => t.bankStopped_inForce n)).trans (hports _ _)
  · rw [happ]
    exact (State.when_inForce _ _ _ (fun t => t.bankStopped_inForce n)).trans (hports _ _)

/-- An apply puts its placement in force and into MRAM (R280). -/
theorem State.applyPlacement_inForce (s : State) (pl : Placement) : (s.applyPlacement pl).sumac.inForce = pl := by
  have hfollow : ∀ (u : State) (n : Nat), (u.followTunnels n).sumac = u.sumac := fun u n => State.keep_sumac (by simp)
  have hstatics : ∀ (u : State) (n : Nat) (rows : List Nat), (u.applyStatics n rows).sumac = u.sumac := fun u n rows => State.keep_sumac (by simp)
  unfold State.applyPlacement
  dsimp only
  generalize State.switchAll _ pl = s2
  show (State.when _ _ _).sumac.inForce = pl
  refine Eq.trans (State.when_inForce _ _ _ fun t => ?ring) (Eq.trans (foldl_inForce _ State.dieJoins State.dieJoins_inForce _) (Eq.trans (foldl_inForce _ _ (fun t n => ?tables) _) ?base))
  case ring => rfl
  case base => rfl
  case tables =>
    rw [hfollow]
    refine Eq.trans (State.when_inForce _ _ _ fun u => ?_) (Eq.trans (State.when_inForce _ _ _ fun u => ?_) ?_)
    · exact congrArg Sumac.inForce (hstatics u n _)
    · exact u.dropCause_inForce n 3
    · rfl

theorem State.placementApplied_sets (s : State) (pl : Placement) (trigger : Nat) :
    (s.placementApplied pl trigger).sumac.inForce = pl ∧ (s.placementApplied pl trigger).mram.placement = pl := ⟨s.applyPlacement_inForce pl, rfl⟩

/-! ### Readmission -/

/-- A failed step leaves the die LOST, with one row of class 0x0B whose unit is the step (R283). -/
theorem State.readmitFails_logs (s : State) {n step : Nat} (hstep : step < 65536) :
    ((s.readmitFails n step).die n).state = 4 ∧ (s.readmitFails n step).safe.faultSeq = s.safe.faultSeq + 1 ∧
      (s.readmitFails n step).stRow E.faultClass (s.safe.faultSeq % 64) = 0x0B ∧ (s.readmitFails n step).stRow E.faultDie (s.safe.faultSeq % 64) = n ∧
      (s.readmitFails n step).stRow E.faultUnit (s.safe.faultSeq % 64) = step := by
  have hfails : s.readmitFails n step = ((s.clearDie n).setHealth n 4).logFault 0x0B n step := by
    unfold State.readmitFails State.detectedFault State.fault
    exact (if_neg (by simp)).trans rfl
  have hseq : ((s.clearDie n).setHealth n 4).safe.faultSeq = s.safe.faultSeq := State.setHealth_faultSeq (s.clearDie n) n 4
  obtain ⟨hclass, hdie, hunit⟩ := ((s.clearDie n).setHealth n 4).logFault_row 0x0B n step
  rw [hseq] at hclass hdie hunit
  rw [hfails]
  refine ⟨?_, by rw [State.logFault_faultSeq, hseq], hclass, hdie, hunit.trans (Nat.mod_eq_of_lt hstep)⟩
  have hbasis := congrArg Prod.fst (((s.clearDie n).setHealth n 4).logFault_dieBasis n 0x0B n step)
  exact hbasis.trans (congrArg Die.state (State.setHealth_die _ n 4))

/-- A die whose images and self test succeed runs again, in the state that its lasting causes imply (R283). -/
theorem State.readmitted_die (s : State) (n : Nat) :
    ((s.readmitted n).die n).causes = s.lastingCauses n ∧ ((s.readmitted n).die n).state = ((s.readmitted n).die n).implied ∧
      ((s.readmitted n).die n).runtimeUp = true ∧ ((s.readmitted n).die n).inReset = false := by
  generalize hs0 : s.updDie n (fun d => { d with inReset := false, runtimeUp := true, joining := true, causes := s.lastingCauses n }) = s0
  have hvsel : (s0.when (n == 1) State.claimVsel).dies = s0.dies := State.keep_dies (by simp)
  have hd0 : s0.die n = { s.die n with inReset := false, runtimeUp := true, joining := true, causes := s.lastingCauses n } := by rw [← hs0, State.die_updDie]
  have hd : (s.readmitted n).die n = { s0.die n with state := (s0.die n).implied } := by
    unfold State.readmitted
    dsimp only
    rw [hs0]
    exact (State.setHealth_die _ n _).trans (by rw [State.die_of_dies hvsel])
  rw [hd, hd0]
  exact ⟨rfl, rfl, rfl, rfl⟩

/-- Settles O23: each command's own record, which the placement that an apply brings in and the fault that a failed step logs leave. -/
theorem recomputationAndReadmission : Obligations.RecomputationAndReadmission := by
  unfold Obligations.RecomputationAndReadmission
  intro s
  refine ⟨fun hsum hzero => ?summary, fun hrun hcomp => ?recomputed, fun pl hrun hwait => ?applied, fun n hn hrun h5 => ?readmit⟩
  case summary =>
    have hx : exec .healthSummaryIntervalEnd s = .next { s with safe := { s.safe with summaryRunning := false } }.settle :=
      congrArg (fun t : State => done t) ((if_pos hsum).trans (if_pos (by simp [hzero])))
    refine State.leads_of_exec hx ⟨?_, State.eq_mix (fs := 2199023306752) (execHealthSummaryIntervalEnd_rest (by decide) s hx)⟩
    unfold State.settle State.autoRelease
    split <;> rfl
  case recomputed =>
    have hx : exec .recomputationComplete s = .next { s with sumac := { s.sumac with computing := false, waiting := some s.place.pl } }.settle :=
      congrArg (fun t : State => done t) (if_pos (by simp [hrun, hcomp]))
    exact State.leads_of_exec hx ⟨State.settle_sumac _, State.eq_mix (fs := 2199291707392) (execRecomputationComplete_rest (by decide) s hx)⟩
  case applied =>
    have hx : exec .placementApply s = .next ({ s with sumac := { s.sumac with waiting := none } }.placementApplied pl s.sumac.trigger).settle :=
      congrArg (fun t : State => done t) ((if_pos hrun).trans (by simp only [State.applyWaiting, hwait]))
    obtain ⟨hforce, hmram⟩ := ({ s with sumac := { s.sumac with waiting := none } } : State).placementApplied_sets pl s.sumac.trigger
    refine State.leads_of_exec hx ⟨?_, ?_, State.eq_mix (fs := 12377901746564) (execPlacementApply_rest (by decide) s hx)⟩
    · rw [State.settle_sumac, hforce]
    · rw [State.settle_mram, hmram]
  case readmit =>
    have hon : (s.inRun && (s.die n).state == 5) = true := by simp [hrun, h5]
    refine ⟨?sent, ?unsent, fun himage => ?passed, fun himage => ?failed⟩
    case sent =>
      have hx : exec (.readmitImagesSent n true) s = .next ((s.updDie n (fun d => { d with image := true })).redSeeded n).settle := doneIf_when hn hon
      refine State.leads_of_exec hx ⟨?_, State.eq_mix (fs := 15397194811396) (execReadmitImagesSent_rest (by decide) n true s hx)⟩
      rw [State.die_settle]
      exact (State.die_updDie (s.updDie n (fun d => { d with image := true })) n (fun d => { d with redSeed := Config.trng s.fresh, redDraws := 0 })).trans
        (by rw [State.die_updDie])
    case unsent =>
      have hx : exec (.readmitImagesSent n false) s = .next (s.readmitFails n 2).settle := doneIf_when hn hon
      obtain ⟨hstate, hseq, hclass, hdie, hunit⟩ := s.readmitFails_logs (n := n) (step := 2) (by decide)
      refine State.leads_of_exec hx ⟨?_, ?_, ?_, ?_, ?_, State.eq_mix (fs := 15397194811396) (execReadmitImagesSent_rest (by decide) n false s hx)⟩
      · rw [State.die_settle, hstate]
      · rw [State.settle_faultSeq, hseq]
      · exact (State.stRow_settle _ _ _).trans hclass
      · exact (State.stRow_settle _ _ _).trans hdie
      · exact (State.stRow_settle _ _ _).trans hunit
    case passed =>
      have hx : exec (.readmitSelfTestComplete n true) s = .next (s.readmitted n).settle := doneIf_when hn (by simp [hon, himage])
      obtain ⟨hcauses, hstate, hup, hreset⟩ := s.readmitted_die n
      refine State.leads_of_exec hx ⟨?_, ?_, ?_, ?_, ?_, State.eq_mix (fs := 10999148300292) (execReadmitSelfTestComplete_rest (by decide) n true s hx)⟩
      · rwa [State.die_settle]
      · rwa [State.die_settle]
      · rwa [State.die_settle]
      · rwa [State.die_settle]
      · rw [State.settle_sumac]
        rfl
    case failed =>
      have hx : exec (.readmitSelfTestComplete n false) s = .next (s.readmitFails n 3).settle := doneIf_when hn (by simp [hon, himage])
      obtain ⟨hstate, hseq, hclass, hdie, hunit⟩ := s.readmitFails_logs (n := n) (step := 3) (by decide)
      refine State.leads_of_exec hx ⟨?_, ?_, ?_, ?_, ?_, State.eq_mix (fs := 10999148300292) (execReadmitSelfTestComplete_rest (by decide) n false s hx)⟩
      · rw [State.die_settle, hstate]
      · rw [State.settle_faultSeq, hseq]
      · exact (State.stRow_settle _ _ _).trans hclass
      · exact (State.stRow_settle _ _ _).trans hdie
      · exact (State.stRow_settle _ _ _).trans hunit

end Sys2Proof.Machine
end

section
/-! Sessions of the service channel: levels, proofs, lockouts and ends (R69, R72, R73, R78). -/

namespace Sys2Proof.Machine
open Sys2Proof
set_option Elab.async false

/-! ### The entries -/

theorem actsAtOnce_sdoRequestLevel (v : Variant) : actsAtOnce v E.sessionSdoRequestLevel = true := by cases v <;> decide +kernel
theorem actsAtOnce_sdoClientNonce (v : Variant) : actsAtOnce v E.sessionSdoClientNonce = true := by cases v <;> decide +kernel
theorem actsAtOnce_sdoProof (v : Variant) : actsAtOnce v E.sessionSdoProof = true := by cases v <;> decide +kernel
theorem actsAtOnce_sdoClose (v : Variant) : actsAtOnce v E.sessionSdoClose = true := by cases v <;> decide +kernel

theorem State.odAct_sdoRequestLevel (s : State) (row : Nat) (b : Bytes) : s.odAct 0 E.sessionSdoRequestLevel row b = s.requestLevel (leNat b) := rfl
theorem State.odAct_sdoClientNonce (s : State) (row : Nat) (b : Bytes) :
    s.odAct 0 E.sessionSdoClientNonce row b = (s.updSess 0 (fun x => { x with nc := leNat b }), 0) := rfl
theorem State.odAct_sdoProof (s : State) (row : Nat) (b : Bytes) : s.odAct 0 E.sessionSdoProof row b = s.sdoProof b := rfl
theorem State.odAct_sdoClose (s : State) (row : Nat) (b : Bytes) : s.odAct 0 E.sessionSdoClose row b = (s.endSession 0, 0) := rfl

/-! ### The states after the service channel's own writes -/

/-- The pending opening of the service channel goes (R73, R78). -/
def State.unpended (s : State) : State := s.updSess 0 (fun x => { x with pending := false, nd := 0 })

/-- A pending opening at a level, with its device nonce drawn (R69, R78). -/
def State.opened (s : State) (level : Nat) : State :=
  s.unpended.drawNonce.2.updSess 0 (fun x => { x with pending := true, reqLevel := level, nd := (Config.trng s.fresh).toNat })

/-- What a request of a level answers (R73, R78, log 139). -/
theorem State.requestLevel_cases (s : State) (level : Nat) :
    (s.requestLevel level = (s.unpended, 0x13) ∧ (s.lockout 1).locked = true) ∨
      (s.requestLevel level = (s.unpended, 0x0C) ∧ (s.lockout 1).locked = false ∧ s.life.barred = true) ∨
      (s.lockout 1).locked = false ∧ s.life.barred = false ∧
        ((s.requestLevel level = (s.unpended, 0x0A) ∧ (s.safe.noTrng = true ∨ s.safe.noSha = true)) ∨ s.requestLevel level = (s.opened level, 0)) := by
  unfold State.requestLevel
  dsimp only
  split
  case isTrue hlock => exact .inl ⟨rfl, hlock⟩
  case isFalse hlock =>
    split
    case isTrue hbar => exact .inr (.inl ⟨rfl, by simpa using hlock, hbar⟩)
    case isFalse hbar =>
      refine .inr (.inr ⟨by simpa using hlock, by simpa using hbar, ?_⟩)
      split
      case isTrue hengine => exact .inl ⟨rfl, by simpa using hengine⟩
      case isFalse hengine => exact .inr rfl

/-- The right proof replaces the channel's session by one at the level asked for (R69, R78). -/
theorem State.sdoProof_right {s : State} {b : Bytes} (hp : (s.sess 0).pending = true) (hl : (s.lockout 1).locked = false) (hsha : s.safe.noSha = false) (hok : s.proofOk 0 1 b = true) :
    s.sdoProof b = (((s.unpended.endSession 0).setSess 0 { valid := true, level := (s.sess 0).reqLevel, last := s.clock.ticks }).openDone 1 (s.sess 0).reqLevel 0 0, 0) := by
  simp [State.sdoProof, State.unpended, hp, hl, hsha, hok]

theorem State.sdoProof_wrong {s : State} {b : Bytes} (hp : (s.sess 0).pending = true) (hl : (s.lockout 1).locked = false) (hsha : s.safe.noSha = false) (hok : s.proofOk 0 1 b = false) :
    s.sdoProof b = (s.unpended.openFailed 1 (s.sess 0).reqLevel 0 0, 0x12) := by
  simp [State.sdoProof, State.unpended, hp, hl, hsha, hok]

theorem State.sdoProof_locked {s : State} {b : Bytes} (hp : (s.sess 0).pending = true) (hl : (s.lockout 1).locked = true) : s.sdoProof b = (s, 0x13) := by
  simp [State.sdoProof, hp, hl]

theorem State.sdoProof_none {s : State} {b : Bytes} (hp : (s.sess 0).pending = false) : s.sdoProof b = (s, 0x0A) := by
  simp [State.sdoProof, hp]

/-- No proof is answered for want of clearance, or later. -/
theorem State.sdoProof_status (s : State) (b : Bytes) : (s.sdoProof b).2 ≠ 0x06 ∧ (s.sdoProof b).2 ≠ 0x100 := by
  unfold State.sdoProof
  dsimp only
  repeat' split
  all_goals simp

/-! ### Openings that fail and succeed -/

theorem State.evidence_lockouts (s : State) (type unit : Nat) (p : Bytes) : (s.evidence 0 type unit p).lockouts = s.lockouts := by
  obtain ⟨ev, hx⟩ : ∃ ev, s.evidence 0 type unit p = { s with ev := ev } := State.requestD0_eq s _
  rw [hx]

theorem State.evidence_sessions (s : State) (type unit : Nat) (p : Bytes) : (s.evidence 0 type unit p).sessions = s.sessions := by
  obtain ⟨ev, hx⟩ : ∃ ev, s.evidence 0 type unit p = { s with ev := ev } := State.requestD0_eq s _
  rw [hx]

theorem State.openFailed_lockout (s : State) (ap level peer sid : Nat) :
    ((s.openFailed ap level peer sid).lockout ap).fails = (s.lockout ap).fails + 1 ∧
      (s.cfg E.sessionFailLimit ≤ (s.lockout ap).fails + 1 → ((s.openFailed ap level peer sid).lockout ap).locked = true) := by
  have hcount : ∀ (u : State) (l : NMap Lockout), (({ u with lockouts := l } : State).count E.accessCntAuthFail).lockouts = l := fun _ _ => rfl
  unfold State.openFailed State.lockout
  dsimp only
  rw [State.evidence_lockouts, hcount, mget_mset_same]
  split
  case isTrue h => exact ⟨rfl, fun _ => rfl⟩
  case isFalse h => exact ⟨rfl, fun h' => absurd h' (by simpa using h)⟩

theorem State.openFailed_sess (s : State) (ap level peer sid k : Nat) : (s.openFailed ap level peer sid).sess k = s.sess k := by
  have hcount : ∀ (u : State) (l : NMap Lockout), (({ u with lockouts := l } : State).count E.accessCntAuthFail).sessions = u.sessions := fun _ _ => rfl
  unfold State.openFailed State.sess
  dsimp only
  rw [State.evidence_sessions, hcount]

theorem State.openDone_lockout (s : State) (ap level peer sid : Nat) : (s.openDone ap level peer sid).lockout ap = {} := by
  unfold State.openDone State.lockout State.when
  split
  · rw [State.evidence_lockouts]
    exact mget_mset_same ({} : Lockout) s.lockouts ap {}
  · exact mget_mset_same ({} : Lockout) s.lockouts ap {}

theorem State.openDone_sess (s : State) (ap level peer sid k : Nat) : (s.openDone ap level peer sid).sess k = s.sess k := by
  unfold State.openDone State.sess State.when
  split
  · rw [State.evidence_sessions]
  · rfl

theorem State.sess_unpended (s : State) : s.unpended.sess 0 = { s.sess 0 with pending := false, nd := 0 } := State.sess_updSess s 0 _

/-- The end of a session whose staging image no commit uses drops it, with its lock (R72). -/
theorem State.endSession_staging {s : State} {row : Nat} (hl : s.lockHolder = some row) (hc : s.committing = false) :
    (s.endSession row).lockHolder = none ∧ (s.endSession row).od.staging = [] := by
  have hrelease : s.releaseStaging row = s.dropStaging := by simp [State.releaseStaging, hl, hc]
  unfold State.endSession
  rw [hrelease]
  dsimp only
  split <;> exact ⟨rfl, rfl⟩

theorem State.endSession_mailbox (s : State) {row : Nat} (h : 5 ≤ row) : (s.endSession row).sessions = s.sessions := by
  unfold State.endSession
  simp only [h, if_true]
  exact State.keep_sessions (State.releaseStaging_rest (by decide) s row)

/-- Settles O48: each write of the channel by its outcome, and the ends of sessions, openings and lockouts. -/
theorem sessionOpenings : Obligations.SessionOpenings := by
  unfold Obligations.SessionOpenings
  intro s
  refine ⟨fun v ha => ?level, fun b ha => ?nonce, fun b ha => ?proof, fun v ha => ?close, fun row h1 h5 hp => ?lapse, fun row h5 hv => ?idle, fun row h5 => ?mailbox, fun ap hl => ?lockout⟩
  case level =>
    have hw : s.odWrite 0 (E.sessionSdoRequestLevel / 256) (E.sessionSdoRequestLevel % 256) (s.cursorRow 0 (E.sessionSdoRequestLevel / 256)) (toLE 1 v) = s.requestLevel (v % 256) :=
      ((State.odWrite_acts ha (actsAtOnce_sdoRequestLevel _)).trans (State.odAct_sdoRequestLevel s _ _)).trans (congrArg s.requestLevel (leNat_toLE 1 v))
    have hh := State.accepts_serves ha
    have hx : exec (.sdoRequestLevel 0 v) s = .next (s.sessionWrite 0 (E.sessionSdoRequestLevel / 256) (E.sessionSdoRequestLevel % 256) _ (toLE 1 v)).settle := doneIf_present hh.1
    have hframe : (s.requestLevel (v % 256)).1.rest 15393162805320 = s.rest 15393162805320 := State.requestLevel_rest (by decide) s _
    obtain ⟨hr, hlock⟩ | ⟨hr, hlock, hbar⟩ | ⟨hlock, hbar, ⟨hr, hengine⟩ | hr⟩ := s.requestLevel_cases (v % 256)
    all_goals
      rw [hr] at hw hframe
      have hsess := State.sessionWrite_sess hh hw (by decide) (by decide)
      have hrest := State.sessionWrite_settled hh hw (by decide) (by decide)
      have hfresh := State.keep_fresh (State.rest_weaken (by decide) hrest)
      have hmix := State.eq_mix (fs := 15393162805320) ((State.rest_weaken (by decide) hrest).trans hframe)
    · rw [State.sess_unpended] at hsess
      exact State.leads_of_exec hx ⟨fun h => by simp [h] at hlock, fun _ => ⟨by rw [hsess], by rw [hsess], hfresh⟩, fun h => by simp [h] at hlock, by rw [hsess], by rw [hsess], hmix⟩
    · rw [State.sess_unpended] at hsess
      exact State.leads_of_exec hx ⟨fun _ h => by simp [h] at hbar, fun h => by simp [h] at hlock, fun _ _ => ⟨by rw [hsess], by rw [hsess], hfresh⟩, by rw [hsess], by rw [hsess], hmix⟩
    · rw [State.sess_unpended] at hsess
      exact State.leads_of_exec hx ⟨fun _ _ htrng hsha => by simp [htrng, hsha] at hengine, fun h => by simp [h] at hlock, fun _ h => by simp [h] at hbar, by rw [hsess], by rw [hsess], hmix⟩
    · have hopened : (s.opened (v % 256)).sess 0 = { s.sess 0 with pending := true, reqLevel := v % 256, nd := (Config.trng s.fresh).toNat } :=
        (State.sess_updSess _ 0 _).trans (by rw [show s.unpended.drawNonce.2.sess 0 = s.unpended.sess 0 from rfl, State.sess_unpended])
      rw [hopened] at hsess
      exact State.leads_of_exec hx ⟨fun _ _ _ _ => ⟨by rw [hsess], by rw [hsess], by rw [hsess], hfresh, by rw [hsess]⟩, fun h => by simp [h] at hlock, fun _ h => by simp [h] at hbar,
        by rw [hsess], by rw [hsess], hmix⟩
  case nonce =>
    have hw : s.odWrite 0 (E.sessionSdoClientNonce / 256) (E.sessionSdoClientNonce % 256) (s.cursorRow 0 (E.sessionSdoClientNonce / 256)) b =
        (s.updSess 0 (fun x => { x with nc := leNat b }), 0) := (State.odWrite_acts ha (actsAtOnce_sdoClientNonce _)).trans (State.odAct_sdoClientNonce s _ b)
    have hh := State.accepts_serves ha
    have hx : exec (.sdoClientNonce 0 b) s = .next (s.sessionWrite 0 (E.sessionSdoClientNonce / 256) (E.sessionSdoClientNonce % 256) _ b).settle := doneIf_present hh.1
    refine State.leads_of_exec hx ⟨?_, State.eq_mix (fs := 10995116294216) ?_⟩
    · rw [State.sessionWrite_sess hh hw (by decide) (by decide), State.sess_updSess]
      rfl
    · rw [State.rest_weaken (by decide) (State.sessionWrite_settled hh hw (by decide) (by decide))]
      simp
  case proof =>
    have hw : s.odWrite 0 (E.sessionSdoProof / 256) (E.sessionSdoProof % 256) (s.cursorRow 0 (E.sessionSdoProof / 256)) b = s.sdoProof b :=
      (State.odWrite_acts ha (actsAtOnce_sdoProof _)).trans (State.odAct_sdoProof s _ b)
    have hh := State.accepts_serves ha
    have hx : exec (.sdoProof 0 b) s = .next (s.sessionWrite 0 (E.sessionSdoProof / 256) (E.sessionSdoProof % 256) _ b).settle := doneIf_present hh.1
    obtain ⟨h6, h100⟩ := s.sdoProof_status b
    have hsess := State.sessionWrite_sess hh (st := (s.sdoProof b).2) (u := (s.sdoProof b).1) hw h6 h100
    have hrest := State.sessionWrite_settled hh (st := (s.sdoProof b).2) (u := (s.sdoProof b).1) hw h6 h100
    have hlocks := State.keep_lockouts (State.rest_weaken (by decide) hrest)
    have hlock := congrArg (fun m : NMap Lockout => mget {} m 1) hlocks
    refine State.leads_of_exec hx ⟨fun hp hl hsha hok => ?right, fun hp hl hsha hok => ?wrong, fun hp hl => ?locked, fun hp => ?nothing, State.eq_mix (fs := 11063835806172) ?frame⟩
    case right =>
      rw [State.sdoProof_right hp hl hsha hok] at hsess hlock
      dsimp only at hsess hlock
      rw [State.openDone_sess, State.sess_setSess] at hsess
      exact ⟨by rw [hsess], by rw [hsess], by rw [hsess], hlock.trans (State.openDone_lockout ..), by rw [hsess]⟩
    case wrong =>
      rw [State.sdoProof_wrong hp hl hsha hok] at hsess hlock
      dsimp only at hsess hlock
      rw [State.openFailed_sess, State.sess_unpended] at hsess
      obtain ⟨hfails, hstarts⟩ := s.unpended.openFailed_lockout 1 (s.sess 0).reqLevel 0 0
      exact ⟨by rw [hsess], by rw [hsess], (congrArg Lockout.fails hlock).trans hfails, fun h => (congrArg Lockout.locked hlock).trans (hstarts h), by rw [hsess]⟩
    case locked =>
      rw [State.sdoProof_locked hp hl] at hsess hlocks
      exact ⟨hsess, hlocks⟩
    case nothing =>
      rw [State.sdoProof_none hp] at hsess hlock
      exact ⟨hlock, by rw [hsess]⟩
    case frame => rw [State.rest_weaken (by decide) hrest, State.sdoProof_rest (by decide)]
  case close =>
    have hw : s.odWrite 0 (E.sessionSdoClose / 256) (E.sessionSdoClose % 256) (s.cursorRow 0 (E.sessionSdoClose / 256)) (toLE 1 v) = (s.endSession 0, 0) :=
      (State.odWrite_acts ha (actsAtOnce_sdoClose _)).trans (State.odAct_sdoClose s _ _)
    have hh := State.accepts_serves ha
    have hx : exec (.sdoClose 0 v) s = .next (s.sessionWrite 0 (E.sessionSdoClose / 256) (E.sessionSdoClose % 256) _ (toLE 1 v)).settle := doneIf_present hh.1
    have hrest := State.sessionWrite_settled hh hw (by decide) (by decide)
    have hclock : (s.endSession 0).clock = s.clock := State.keep_clock (State.endSession_rest (by decide) s 0)
    refine State.leads_of_exec hx ⟨?_, fun hl hc => ?_, fun k hk => ?_, State.eq_mix (fs := 11063835771340) ?_⟩
    · rw [State.sessionWrite_sess hh hw (by decide) (by decide), State.sess_endSession_same _ (by decide), hclock]
    · obtain ⟨hholder, hstaging⟩ := State.endSession_staging hl hc
      exact ⟨(State.keep_lockHolder (State.rest_weaken (by decide) hrest)).trans hholder, (congrArg OdStore.staging (State.keep_od (State.rest_weaken (by decide) hrest))).trans hstaging⟩
    · rw [State.sessionWrite_sess_other hh hw (by decide) (by decide) hk, State.sess_endSession_other _ (by decide) hk]
    · rw [State.rest_weaken (by decide) hrest, State.endSession_rest (by decide)]
  case lapse =>
    have hx : exec (.pendingSessionLapse row) s = .next ({ s with sessions := mdel s.sessions row } : State).settle :=
      congrArg (fun t : State => done t) (if_pos (by simp [h1, h5, hp]))
    refine State.leads_of_exec hx ⟨?_, fun k hk => ?_, State.eq_mix (fs := 2199023271944) (execPendingSessionLapse_rest (by decide) row s hx)⟩
    · rw [State.sess_settle]
      exact mget_mdel_same _ _ _
    · rw [State.sess_settle]
      exact mget_mdel_other _ _ hk
  case idle =>
    have hx : exec (.sessionIdleTimeout row) s = .next (s.endSession row).settle := congrArg (fun t : State => done t) (if_pos (by simp [hv]))
    refine State.leads_of_exec hx ⟨?_, fun k hk => ?_, fun hl hc => ?_, State.eq_mix (fs := 2267742749068) (execSessionIdleTimeout_rest (by decide) row s hx)⟩
    · rw [State.sess_settle, State.sess_endSession_same _ h5]
    · rw [State.sess_settle, State.sess_endSession_other _ h5 hk]
    · rw [State.settle_lockHolder, State.settle_od]
      exact State.endSession_staging hl hc
  case mailbox =>
    have hx : exec (.sessionIdleTimeout row) s = .next (s.endSession row).settle := congrArg (fun t : State => done t) (if_pos (by simp [h5]))
    refine State.leads_of_exec hx ⟨?_, fun hl hc => ?_, State.eq_mix (fs := 2267742749068) (execSessionIdleTimeout_rest (by decide) row s hx)⟩
    · rw [State.settle_sessions, s.endSession_mailbox h5]
    · rw [State.settle_lockHolder, State.settle_od]
      exact State.endSession_staging hl hc
  case lockout =>
    have hx : exec (.lockoutEnd ap) s = .next ({ s with lockouts := mset {} s.lockouts ap { (s.lockout ap) with fails := 0, locked := false, untilTick := 0 } } : State).settle :=
      congrArg (fun t : State => done t) (if_pos hl)
    refine State.leads_of_exec hx ⟨?_, fun k hk => ?_, State.eq_mix (fs := 2199023271952) (execLockoutEnd_rest (by decide) ap s hx)⟩
    · rw [State.lockout, State.settle_lockouts]
      exact mget_mset_same ({} : Lockout) s.lockouts ap _
    · rw [State.lockout, State.settle_lockouts]
      exact mget_mset_other _ s.lockouts _ hk

end Sys2Proof.Machine
end

section
/-! Writes of the object dictionary: staged, live, of a row cursor, of a row's fields and of counters (R63 to R65, R67, R86, R137). -/

namespace Sys2Proof.Machine
open Sys2Proof
set_option Elab.async false

/-! ### Writes that are staged -/

/-- No writable entry is a DOMAIN, and each has a size (Annex A). -/
theorem odAll_rw : ∀ o ∈ odAll, ∀ x ∈ o.entries, x.acc = .rw → x.isDom = false ∧ (x.ty.size.any (· ≤ 1024)) = true := by decide +kernel

theorem odEntry_rw {v : Variant} {e : Nat} {x : OdEntry} (h : odEntry v e = some x) (hacc : x.acc = .rw) : x.isDom = false ∧ (x.ty.size.any (· ≤ 1024)) = true := by
  unfold odEntry at h
  split at h
  next => cases h
  next o ho =>
    split at h
    · exact odAll_rw o (List.mem_of_find?_eq_some ho) x (List.mem_of_find?_eq_some h) hacc
    · cases h

/-- The state after a staged write of several values: they stand in the staging image, whose lock the session holds (R86). -/
def State.staged (s : State) (sess : Nat) (l : List (Nat × Nat)) : State :=
  { s with od := { s.od with staging := l.foldl (fun m x => mput m x.1 x.2) s.od.staging }, lockHolder := some sess }

theorem State.stage_free {s : State} {sess : Nat} {l : List (Nat × Nat)} (hfree : s.mayStage sess = true) (hroom : s.hasRoom l = true) :
    s.stage sess l = (s.staged sess l, 0) := by
  simp only [State.mayStage, Bool.and_eq_true, Bool.not_eq_true'] at hfree
  obtain ⟨hc, hl⟩ := hfree
  have hl' : (s.lockHolder.isSome && s.lockHolder != some sess) = false := by
    cases hh : s.lockHolder with
    | none => rfl
    | some k => simpa [hh] using hl
  have hroom' : ¬ stagingRoom < (s.staged sess l).stagedBytes := Nat.not_lt.mpr (of_decide_eq_true hroom)
  unfold State.stage
  dsimp only
  rw [hc, hl']
  exact if_neg hroom'

theorem State.stage_committing {s : State} (sess : Nat) (l : List (Nat × Nat)) (hc : s.committing = true) : s.stage sess l = (s, 0x0C) := by
  simp [State.stage, hc]

section staging
variable {s : State} {sess idx sub row : Nat} {b : Bytes} {o : OdObject} {x : OdEntry} (ha : s.accepts sess idx sub row b = true) (ho : odObject s.variant idx = some o)
  (hx : odEntry s.variant (idx * 256 + sub) = some x) (hacc : x.acc = .rw) (hlive : x.live = false)
include ha ho hx hacc hlive

/-- A write of a staged entry is its staging (R63). -/
theorem State.odWrite_stage : s.odWrite sess idx sub row b = s.stage sess [(okey (idx * 256 + sub) (o.keyRow row), leNat b)] := by
  rw [State.odWrite_accepts ha ho hx]
  simp [hacc, hlive, (odEntry_rw hx hacc).1]

theorem State.odWrite_staged (hfree : s.mayStage sess = true) (hroom : s.hasRoom [(okey (idx * 256 + sub) (o.keyRow row), leNat b)] = true) :
    s.odWrite sess idx sub row b = (s.staged sess [(okey (idx * 256 + sub) (o.keyRow row), leNat b)], 0) :=
  (State.odWrite_stage ha ho hx hacc hlive).trans (State.stage_free hfree hroom)

end staging

@[simp] theorem State.staged_lockHolder (s : State) (sess : Nat) (l : List (Nat × Nat)) : (s.staged sess l).lockHolder = some sess := rfl

theorem State.staged_one (s : State) (sess k v : Nat) : mfind (s.staged sess [(k, v)]).od.staging k = some v := mfind_mput_same _ _ _

theorem State.staged_other (s : State) (sess k v : Nat) {j : Nat} (h : j ≠ k) : mget 0 (s.staged sess [(k, v)]).od.staging j = mget 0 s.od.staging j :=
  mget_mput_other 0 _ _ _ _ h

section several
variable {key : Nat → Nat} (hinj : ∀ a b, key a = key b → a = b) (val : Nat → Nat)
include hinj

theorem mfind_foldl_mput_other (l : List Nat) (m : NMap Nat) {f : Nat} (hf : f ∉ l) :
    mfind ((l.map (fun f => (key f, val f))).foldl (fun m x => mput m x.1 x.2) m) (key f) = mfind m (key f) := by
  induction l generalizing m with
  | nil => rfl
  | cons a l ih =>
    rw [List.map_cons, List.foldl_cons, ih _ (fun h => hf (List.mem_cons_of_mem _ h))]
    exact mfind_mput_other m _ (fun h => hf (List.mem_cons.mpr (.inl (hinj _ _ h))))

/-- A list of values staged one after the other, each at a key of its own. -/
theorem mfind_foldl_mput (l : List Nat) (m : NMap Nat) {f : Nat} (hf : f ∈ l) :
    mfind ((l.map (fun f => (key f, val f))).foldl (fun m x => mput m x.1 x.2) m) (key f) = some (val f) := by
  induction l generalizing m with
  | nil => cases hf
  | cons a l ih =>
    rw [List.map_cons, List.foldl_cons]
    by_cases hl : f ∈ l
    · exact ih _ hl
    · obtain rfl : f = a := by simpa [hl] using hf
      exact (mfind_foldl_mput_other hinj val l _ hl).trans (mfind_mput_same _ _ _)

end several

theorem mget_foldl_mput_other (l : List (Nat × Nat)) (m : NMap Nat) {k : Nat} (h : ∀ x ∈ l, k ≠ x.1) : mget 0 (l.foldl (fun m x => mput m x.1 x.2) m) k = mget 0 m k := by
  induction l generalizing m with
  | nil => rfl
  | cons a l ih =>
    rw [List.foldl_cons, ih _ (fun x hx => h x (List.mem_cons_of_mem _ hx))]
    exact mget_mput_other 0 _ _ _ _ (h a List.mem_cons_self)

/-- What a taken write to the staging image leaves beyond it, its lock, the session and the answer (R63). -/
theorem State.staged_mix {s t : State} {sess : Nat} {l : List (Nat × Nat)} (h : t.rest 10995116294216 = (s.staged sess l).rest 10995116294216) :
    t = { s with od := { s.od with staging := t.od.staging }, lockHolder := some sess, sessions := t.sessions, relays := t.relays, safe := t.safe, pins := t.pins, out := t.out } := by
  have hod : t.od = (s.staged sess l).od := State.keep_od (State.rest_weaken (by decide) h)
  have hst : t.od.staging = (s.staged sess l).od.staging := congrArg OdStore.staging hod
  rw [hst]
  exact State.eq_mix h

/-! ### Live entries of the session -/

/-- The entries that belong to a session. -/
def sessionEntries : List Nat :=
  [E.commitReadView, E.journalSelect, E.sealStoreSelect, E.attestRelation, E.attestResponse, E.keycmdStatus] ++
    (List.range (E.keycmdBlob + 1 - E.keycmdSlot)).map (E.keycmdSlot + ·)

theorem sessionEntries_complete {e : Nat} (h : sessionEntry e = true) : e ∈ sessionEntries := by
  simp only [sessionEntry, Bool.or_eq_true, Bool.and_eq_true, beq_iff_eq, decide_eq_true_eq] at h
  simp only [sessionEntries, List.mem_append, List.mem_cons, List.not_mem_nil, List.mem_map, List.mem_range, or_false]
  obtain (((((h | h) | h) | h) | h) | ⟨hlo, hhi⟩) | h := h
  · exact .inl (.inl h)
  · exact .inl (.inr (.inl h))
  · exact .inl (.inr (.inr (.inl h)))
  · exact .inl (.inr (.inr (.inr (.inl h))))
  · exact .inl (.inr (.inr (.inr (.inr (.inl h)))))
  · exact .inr ⟨e - E.keycmdSlot, by omega, by omega⟩
  · exact .inl (.inr (.inr (.inr (.inr (.inr h)))))

/-- Those that a session may write act at once, and none clears counters (Annex A). -/
theorem sessionEntries_act : ∀ v : Variant, ∀ e ∈ sessionEntries,
    (odEntry v e).all (fun x => x.acc == .ro || ((x.acc == .wo || x.live) && !x.isDom)) = true ∧ clearRanges (e / 256) (e % 256) = [] := by
  intro v
  cases v <;> decide +kernel

theorem State.accepts_open {s : State} {sess idx sub row : Nat} {b : Bytes} {o : OdObject} {x : OdEntry} (h : s.accepts sess idx sub row b = true) (ho : odObject s.variant idx = some o)
    (hx : odEntry s.variant (idx * 256 + sub) = some x) : s.writeClosed (idx * 256 + sub) x = false := by
  simp only [State.accepts, ho, hx, Bool.and_eq_true, Bool.not_eq_true'] at h
  obtain ⟨-, ⟨⟨⟨-, hopen⟩, -⟩, -⟩, -⟩ := h
  exact hopen

theorem State.odWrite_session {s : State} {sess idx sub row : Nat} {b : Bytes} (ha : s.accepts sess idx sub row b = true) (he : sessionEntry (idx * 256 + sub) = true) :
    s.odWrite sess idx sub row b = (s.setLive sess (idx * 256 + sub) (leNat b), 0) := by
  obtain ⟨o, x, ho, hx⟩ := State.accepts_found ha
  obtain ⟨hact, hclear⟩ := sessionEntries_act s.variant _ (sessionEntries_complete he)
  have hopen := State.accepts_open ha ho hx
  have hacts : actsAtOnce s.variant (idx * 256 + sub) = true := by
    rw [hx, Option.all_some] at hact
    simp only [State.writeClosed, Bool.or_eq_false_iff, beq_eq_false_iff_ne] at hopen
    obtain ⟨⟨⟨-, hro⟩, -⟩, -⟩ := hopen
    simpa [actsAtOnce, hx, hro] using hact
  rw [State.odWrite_acts ha hacts, State.odAct, hclear, he]
  rfl

theorem State.live_setLive_other (s : State) (sess v : Nat) {e f : Nat} (h : f ≠ e) : (s.setLive sess e v).live sess f = s.live sess f := by
  simp only [State.live, State.setLive, State.sess_updSess]
  exact mget_mset_of_ne _ _ (s.sess sess).live v h

/-! ### Counters -/

/-- The entries that a counter's clearing sets to 0. -/
def clearedEntries (idx sub : Nat) : List Nat := (clearRanges idx sub).flatMap (fun r => (List.range (r.2 + 1 - r.1)).map (idx * 256 + r.1 + ·))

theorem mem_clearedEntries {idx sub e : Nat} : e ∈ clearedEntries idx sub ↔ ∃ r ∈ clearRanges idx sub, ∃ k, r.1 ≤ k ∧ k ≤ r.2 ∧ e = idx * 256 + k := by
  simp only [clearedEntries, List.mem_flatMap, List.mem_map, List.mem_range]
  constructor
  · rintro ⟨r, hr, a, ha, rfl⟩
    exact ⟨r, hr, r.1 + a, by omega, by omega, by omega⟩
  · rintro ⟨r, hr, k, hlo, hhi, rfl⟩
    exact ⟨r, hr, k - r.1, by omega, by omega⟩

theorem State.clearCounters_eq (s : State) (idx sub row : Nat) : s.clearCounters idx sub row = (clearedEntries idx sub).foldl (fun s e => s.setRow e row 0) s := by
  unfold State.clearCounters clearedEntries
  generalize clearRanges idx sub = l
  induction l generalizing s with
  | nil => rfl
  | cons r l ih => rw [List.foldl_cons, List.flatMap_cons, List.foldl_append, List.foldl_map, ih]

theorem State.foldl_setRow_other (l : List Nat) (row : Nat) {f k : Nat} (h : ∀ e ∈ l, okey f k ≠ okey e row) (s : State) :
    (l.foldl (fun s e => s.setRow e row 0) s).stRow f k = s.stRow f k := by
  induction l generalizing s with
  | nil => rfl
  | cons a l ih =>
    rw [List.foldl_cons, ih (fun e he => h e (List.mem_cons_of_mem _ he))]
    exact State.stRow_setRow_of_ne s 0 (h a List.mem_cons_self)

theorem State.foldl_setRow_zero (l : List Nat) (row : Nat) {f : Nat} (h : f ∈ l) (s : State) : (l.foldl (fun s e => s.setRow e row 0) s).stRow f row = 0 := by
  induction l generalizing s with
  | nil => cases h
  | cons a l ih =>
    rw [List.foldl_cons]
    by_cases hl : f ∈ l
    · exact ih hl _
    · obtain rfl : f = a := by simpa [hl] using h
      have hother : ∀ e ∈ l, okey f row ≠ okey e row := by
        intro e he heq
        obtain rfl : f = e := by simp only [okey] at heq; omega
        exact hl he
      exact (State.foldl_setRow_other l row hother _).trans (State.stRow_setRow s f row 0)

/-- The state after counters are cleared differs in the values of the dictionary alone. -/
theorem State.clearCounters_mix (s : State) (idx sub row : Nat) : s.clearCounters idx sub row = { s with od := { s.od with stat := (s.clearCounters idx sub row).od.stat } } := by
  rw [State.clearCounters_eq]
  generalize clearedEntries idx sub = l
  induction l generalizing s with
  | nil => rfl
  | cons a l ih => exact ih (s.setRow a row 0)

theorem State.clearCounters_zero (s : State) {idx sub : Nat} (row : Nat) {r : Nat × Nat} {k : Nat} (hr : r ∈ clearRanges idx sub) (hlo : r.1 ≤ k) (hhi : k ≤ r.2) :
    (s.clearCounters idx sub row).stRow (idx * 256 + k) row = 0 := by
  rw [State.clearCounters_eq]
  exact State.foldl_setRow_zero _ row (mem_clearedEntries.mpr ⟨r, hr, k, hlo, hhi, rfl⟩) s

theorem State.clearCounters_other (s : State) {idx sub : Nat} (row : Nat) {e j : Nat} (h : ∀ r k, r ∈ clearRanges idx sub → r.1 ≤ k → k ≤ r.2 → okey e j ≠ okey (idx * 256 + k) row) :
    (s.clearCounters idx sub row).stRow e j = s.stRow e j := by
  rw [State.clearCounters_eq]
  refine State.foldl_setRow_other _ row (fun f hf => ?_) s
  obtain ⟨r, hr, k, hlo, hhi, rfl⟩ := mem_clearedEntries.mp hf
  exact h r k hr hlo hhi

/-- The objects with a counter clearing. -/
def clearObjects : List Nat :=
  [0x2511, 0x2528, 0x2722, 0x2540, 0x3402, 0x2559, 0x2601, 0x3101, 0x3111, 0x3330, 0x3400, 0x3201] ++ (List.range 0x100).map (0x2100 + ·) ++ (List.range 8).map (0x2450 + ·) ++
    (List.range 8).map (0x2548 + ·) ++ (List.range 16).map (0x3010 + ·) ++ (List.range 4).map (0x3028 + ·) ++ (List.range 8).map (0x3610 + ·)

theorem clearObjects_complete {idx sub : Nat} (h : clearRanges idx sub ≠ []) : idx ∈ clearObjects ∧ sub ∈ [0x06, 0x07, 0x0F, 0x1F] := by
  have hmem : ∀ a n, (∃ k, k < n ∧ a + k = idx) ↔ a ≤ idx ∧ idx < a + n := fun a n =>
    ⟨by rintro ⟨k, hk, rfl⟩; omega, fun hidx => ⟨idx - a, by omega, by omega⟩⟩
  simp only [clearObjects, List.mem_append, List.mem_cons, List.not_mem_nil, List.mem_map, List.mem_range, or_false, hmem]
  contrapose! h
  simp only [clearRanges, beq_iff_eq, bne_iff_ne, Bool.and_eq_true, Bool.or_eq_true, decide_eq_true_eq]
  repeat rw [if_neg (by omega)]
  by_cases hsub : sub = 0x0F
  · rw [if_neg (not_not.mpr hsub)]
    repeat rw [if_neg (by omega)]
  · exact if_pos hsub

/-- A write that clears counters acts at once (Annex A). -/
theorem clearObjects_act : ∀ v : Variant, ∀ idx ∈ clearObjects, ∀ sub ∈ [0x06, 0x07, 0x0F, 0x1F], clearRanges idx sub ≠ [] →
    (odEntry v (idx * 256 + sub)).all (fun x => (x.acc == .wo || x.live) && !x.isDom) = true := by
  intro v
  cases v <;> decide +kernel

theorem clearRanges_acts {v : Variant} {idx sub : Nat} (hx : (odEntry v (idx * 256 + sub)).isSome = true) (h : clearRanges idx sub ≠ []) : actsAtOnce v (idx * 256 + sub) = true := by
  obtain ⟨x, hx⟩ := Option.isSome_iff_exists.mp hx
  obtain ⟨hidx, hsub⟩ := clearObjects_complete h
  have hact := clearObjects_act v idx hidx sub hsub h
  simpa [actsAtOnce, hx] using hact

theorem State.odWrite_clears {s : State} {sess idx sub row : Nat} {b : Bytes} {o : OdObject} (ha : s.accepts sess idx sub row b = true) (ho : odObject s.variant idx = some o)
    (h : clearRanges idx sub ≠ []) : s.odWrite sess idx sub row b = (s.clearCounters idx sub (o.keyRow row), 0) := by
  obtain ⟨-, x, -, hx⟩ := State.accepts_found ha
  have hsub : sub < 256 := by
    have h4 := (clearObjects_complete h).2
    simp only [List.mem_cons, List.not_mem_nil, or_false] at h4
    omega
  have hdiv : (idx * 256 + sub) / 256 = idx := by omega
  have hmod : (idx * 256 + sub) % 256 = sub := by omega
  have hsome : (clearRanges idx sub).isEmpty = false := by simpa using h
  rw [State.odWrite_acts ha (clearRanges_acts (by simp [hx]) h), State.odAct, hdiv, hmod, hsome, actRow, ho]
  rfl

/-! ### The reserved subindexes of a table object -/

section reserved
variable {s : State} {sess idx row : Nat} {o : OdObject} (ho : odObject s.variant idx = some o) (hcap : o.cap ≠ 0)
include ho hcap

theorem State.odWrite_cursor {b : Bytes} (hreach : s.reachStatus sess idx 0xFE row o = 0) (hlevel : o.rowRead ≤ s.sessLevel sess) (hlen : b.length = 4) (hrow : leNat b < o.rows s.variant) :
    s.odWrite sess idx 0xFE row b = (s.updSess sess (fun x => { x with cursors := mset 0 x.cursors idx (leNat b) }), 0) := by
  simp [State.odWrite, ho, hreach, OdObject.reserved, hcap, State.writeReserved, Nat.not_lt.mpr hlevel, hlen, Nat.not_le.mpr hrow]

theorem State.odWrite_rowAction (hw9 : o.rowWrite ≠ 9) (hreach : s.reachStatus sess idx 0xFF row o = 0) (hlevel : o.rowWrite ≤ s.sessLevel sess) :
    s.odWrite sess idx 0xFF row (toLE 1 1) = s.stageRow sess idx row o := by
  have hb : toLE 1 1 = [1] := rfl
  simp [State.odWrite, ho, hreach, OdObject.reserved, hcap, State.writeReserved, hw9, Nat.not_lt.mpr hlevel, hb, leNat]

end reserved

/-! ### The commands -/

section commands
variable {s : State} {sess : Nat} (hh : s.hasSess sess = true ∧ s.serves sess = true)
include hh

/-- A taken write whose action changes the session alone, or nothing (R63). -/
theorem State.sessionWrite_sessionMix {u : State} {idx sub row st : Nat} {b : Bytes} (hw : s.odWrite sess idx sub row b = (u, st)) (h6 : st ≠ 0x06) (h100 : st ≠ 0x100)
    (hu : u.rest 8 = s.rest 8) :
    (s.sessionWrite sess idx sub row b).settle =
      { s with sessions := (s.sessionWrite sess idx sub row b).settle.sessions, relays := (s.sessionWrite sess idx sub row b).settle.relays,
               safe := (s.sessionWrite sess idx sub row b).settle.safe, pins := (s.sessionWrite sess idx sub row b).settle.pins,
               out := (s.sessionWrite sess idx sub row b).settle.out } :=
  State.eq_mix (fs := 10995116294216) ((State.sessionWrite_settled hh hw h6 h100).trans (State.rest_weaken (by decide) hu))

theorem State.sessionWrite_stagedMix {idx sub row : Nat} {b : Bytes} {l : List (Nat × Nat)} (hw : s.odWrite sess idx sub row b = (s.staged sess l, 0)) :
    (s.sessionWrite sess idx sub row b).settle =
      { s with od := { s.od with staging := (s.sessionWrite sess idx sub row b).settle.od.staging }, lockHolder := some sess,
               sessions := (s.sessionWrite sess idx sub row b).settle.sessions, relays := (s.sessionWrite sess idx sub row b).settle.relays,
               safe := (s.sessionWrite sess idx sub row b).settle.safe, pins := (s.sessionWrite sess idx sub row b).settle.pins,
               out := (s.sessionWrite sess idx sub row b).settle.out } :=
  State.staged_mix (State.sessionWrite_settled hh hw (by decide) (by decide))

theorem State.sessionWrite_staging {idx sub row : Nat} {b : Bytes} {l : List (Nat × Nat)} (hw : s.odWrite sess idx sub row b = (s.staged sess l, 0)) :
    (s.sessionWrite sess idx sub row b).settle.od.staging = l.foldl (fun m x => mput m x.1 x.2) s.od.staging ∧ (s.sessionWrite sess idx sub row b).settle.lockHolder = some sess := by
  have h := State.sessionWrite_settled hh hw (by decide) (by decide)
  exact ⟨congrArg OdStore.staging (State.keep_od (State.rest_weaken (by decide) h)), State.keep_lockHolder (State.rest_weaken (by decide) h)⟩

end commands

theorem odEntryWrite_next {s : State} {sess idx sub : Nat} {b : Bytes} (hs : s.hasSess sess = true) :
    exec (.odEntryWrite sess idx sub b) s = .next (s.sessionWrite sess idx sub (s.cursorRow sess idx) b).settle := doneIf_present hs

theorem odWrite_staged_leads (s : State) (sess index sub : Nat) (b : Bytes) (o : OdObject) (x : OdEntry) (ho : odObject s.variant index = some o)
    (ha : s.accepts sess index sub (s.cursorRow sess index) b = true) (hx : odEntry s.variant (index * 256 + sub) = some x) (hacc : x.acc = .rw) (hlive : x.live = false)
    (hfree : s.mayStage sess = true) (hroom : s.hasRoom [(okey (index * 256 + sub) (o.keyRow (s.cursorRow sess index)), leNat b)] = true) :
    s.leads (.odEntryWrite sess index sub b) (fun t =>
      t.lockHolder = some sess ∧ mfind t.od.staging (okey (index * 256 + sub) (o.keyRow (s.cursorRow sess index))) = some (leNat b) ∧
      (∀ k, k ≠ okey (index * 256 + sub) (o.keyRow (s.cursorRow sess index)) → mget 0 t.od.staging k = mget 0 s.od.staging k) ∧ (t.sess sess).lastStatus = 0 ∧
      t = { s with od := { s.od with staging := t.od.staging }, lockHolder := some sess, sessions := t.sessions, relays := t.relays, safe := t.safe, pins := t.pins, out := t.out }) := by
  have hh := State.accepts_serves ha
  have hw := State.odWrite_staged ha ho hx hacc hlive hfree hroom
  obtain ⟨hstg, hlock⟩ := State.sessionWrite_staging hh hw
  refine State.leads_of_exec (odEntryWrite_next hh.1) ⟨hlock, ?_, fun k hk => ?_, State.sessionWrite_status hh hw (by decide) (by decide), State.sessionWrite_stagedMix hh hw⟩
  · rw [hstg]
    exact State.staged_one s sess _ _
  · rw [hstg]
    exact State.staged_other s sess _ _ hk

theorem rowAction_leads (s : State) (sess index : Nat) (o : OdObject) (ho : odObject s.variant index = some o) (hh : s.hasSess sess = true ∧ s.serves sess = true) (hcap : o.cap ≠ 0)
    (hw9 : o.rowWrite ≠ 9) (hreach : s.reachStatus sess index 0xFF (s.cursorRow sess index) o = 0) (hlevel : o.rowWrite ≤ s.sessLevel sess) (hfree : s.mayStage sess = true)
    (hroom : s.hasRoom (o.fields.map (fun f => (okey (index * 256 + f) (s.cursorRow sess index), if f == 1 then 0 else s.effDefault (okey (index * 256 + f) (s.cursorRow sess index))))) = true) :
    s.leads (.rowAction sess index 1) (fun t => t.lockHolder = some sess ∧
      (∀ f, f ∈ o.fields → mfind t.od.staging (okey (index * 256 + f) (s.cursorRow sess index)) = some (if f = 1 then 0 else s.effDefault (okey (index * 256 + f) (s.cursorRow sess index)))) ∧
      (∀ k, (∀ f, f ∈ o.fields → k ≠ okey (index * 256 + f) (s.cursorRow sess index)) → mget 0 t.od.staging k = mget 0 s.od.staging k) ∧ (t.sess sess).lastStatus = 0 ∧
      t = { s with od := { s.od with staging := t.od.staging }, lockHolder := some sess, sessions := t.sessions, relays := t.relays, safe := t.safe, pins := t.pins, out := t.out }) := by
  have hw := (State.odWrite_rowAction (s := s) (sess := sess) ho hcap hw9 hreach hlevel).trans (State.stage_free hfree hroom)
  obtain ⟨hstg, hlock⟩ := State.sessionWrite_staging hh hw
  refine State.leads_of_exec (doneIf_present hh.1) ⟨hlock, fun f hf => ?_, fun k hk => ?_, State.sessionWrite_status hh hw (by decide) (by decide), State.sessionWrite_stagedMix hh hw⟩
  · rw [hstg, mfind_foldl_mput (key := fun f => okey (index * 256 + f) (s.cursorRow sess index)) (fun a b h => by simp only [okey] at h; omega) _ _ _ hf]
    simp
  · rw [hstg]
    refine mget_foldl_mput_other _ _ (fun x hx => ?_)
    obtain ⟨f, hf, rfl⟩ := List.mem_map.mp hx
    exact hk f hf

theorem counterClear_leads (s : State) (sess index sub : Nat) (o : OdObject) (ho : odObject s.variant index = some o) (ha : s.accepts sess index sub (s.cursorRow sess index) [1] = true)
    (hclear : clearRanges index sub ≠ []) : s.leads (.counterClear sess index sub) (fun t =>
      (∀ r k, r ∈ clearRanges index sub → r.1 ≤ k → k ≤ r.2 → t.stRow (index * 256 + k) (o.keyRow (s.cursorRow sess index)) = 0) ∧
      (∀ e row, (∀ r k, r ∈ clearRanges index sub → r.1 ≤ k → k ≤ r.2 → okey e row ≠ okey (index * 256 + k) (o.keyRow (s.cursorRow sess index))) → t.stRow e row = s.stRow e row) ∧
      (t.sess sess).lastStatus = 0 ∧
      t = { s with od := { s.od with stat := t.od.stat }, sessions := t.sessions, relays := t.relays, safe := t.safe, pins := t.pins, out := t.out }) := by
  have hh := State.accepts_serves ha
  have hw := State.odWrite_clears ha ho hclear
  have hrest := State.sessionWrite_settled hh hw (by decide) (by decide)
  have hod := State.keep_od (State.rest_weaken (by decide) hrest)
  have hvar := State.keep_variant (State.rest_weaken (by decide) hrest)
  have hsome : (!(clearRanges index sub).isEmpty) = true := by simpa using hclear
  refine State.leads_of_exec (doneIf_when (f := fun s => s.sessionWrite sess index sub (s.cursorRow sess index) [1]) hh.1 hsome)
    ⟨fun r k hr hlo hhi => ?_, fun e row h => ?_, State.sessionWrite_status hh hw (by decide) (by decide), ?_⟩
  · exact (State.stRow_of_od hvar hod _ _).trans (s.clearCounters_zero _ hr hlo hhi)
  · exact (State.stRow_of_od hvar hod _ _).trans (s.clearCounters_other _ h)
  · rw [s.clearCounters_mix] at hrest
    rw [show (s.sessionWrite sess index sub (s.cursorRow sess index) [1]).settle.od.stat = _ from congrArg OdStore.stat hod]
    exact State.eq_mix hrest

theorem State.send_emits {s : State} {a : Out} (h : (match a with | .anise _ _ => false | _ => true) = true) : s.send a = s.emit a := by
  unfold State.send
  split
  · cases h
  · rfl

theorem State.relayed_sends {s : State} {sess : Nat} {a : Out} {l : List Out} (h : mget [] s.relays sess = a :: l) :
    s.relayed sess = { s with relays := mset [] s.relays sess l }.send a := by simp [State.relayed, h]

theorem relayResponse_leads (s : State) (sess : Nat) (a : Out) (l : List Out) (h : mget [] s.relays sess = a :: l) :
    s.leads (.odRelayResponse sess) (fun t => t = ({ s with relays := mset [] s.relays sess l }.send a).settle ∧ t = { s with od := t.od, relays := t.relays, safe := t.safe, dies := t.dies, queues := t.queues, bp := t.bp, policers := t.policers, credits := t.credits, ports := t.ports, creditDue := t.creditDue, nextFid := t.nextFid, pins := t.pins, fresh := t.fresh, out := t.out }) := by
  have hexec : exec (.odRelayResponse sess) s = .next (s.relayed sess).settle := rfl
  refine State.leads_of_exec hexec ⟨congrArg State.settle (State.relayed_sends h), ?_⟩
  exact State.eq_mix (execOdRelayResponse_rest (fs := 16496974610500) (by decide) sess s hexec)

theorem relayEmits_leads (s : State) (sess : Nat) (a : Out) (l : List Out) (ha : (match a with | .anise _ _ => false | _ => true) = true) (h : mget [] s.relays sess = a :: l) :
    s.leads (.odRelayResponse sess) (fun t => t.out = a :: s.out ∧ mget [] t.relays sess = l ∧ (∀ x, x ≠ sess → mget [] t.relays x = mget [] s.relays x) ∧
      t = { s with relays := t.relays, out := t.out, safe := t.safe, pins := t.pins }) := by
  have hexec : exec (.odRelayResponse sess) s = .next ({ s with relays := mset [] s.relays sess l }.emit a).settle :=
    congrArg (fun t : State => done t) ((State.relayed_sends h).trans (State.send_emits ha))
  refine State.leads_of_exec hexec ⟨?_, ?_, fun x hx => ?_, State.eq_mix (fs := 10995116294208) ?_⟩
  · simp [State.emit]
  · simp [State.emit]
  · simp only [State.settle_relays, State.emit]
    exact mget_mset_other [] s.relays l hx
  · rw [State.settle_rest (by decide)]
    rfl

/-- Settles O40: a staged write is the one value in the staging image, a write of a session entry is in the session alone, and a counter's clearing sets its entries to 0 one by one (R63 to R67, R86). -/
theorem dictionaryWrites : Obligations.DictionaryWrites := by
  unfold Obligations.DictionaryWrites
  intro s sess index sub o ho
  refine ⟨fun b x ha hx hacc hlive hfree hroom => odWrite_staged_leads s sess index sub b o x ho ha hx hacc hlive hfree hroom, ?committing, ?live, ?cursor,
    fun hs hv hcap hw9 hreach hlevel hfree hroom => rowAction_leads s sess index o ho ⟨hs, hv⟩ hcap hw9 hreach hlevel hfree hroom,
    fun ha hclear => counterClear_leads s sess index sub o ho ha hclear, fun a l h => relayResponse_leads s sess a l h, fun a l h ha => relayEmits_leads s sess a l ha h⟩
  case committing =>
    intro b x ha hx hacc hlive hc
    have hh := State.accepts_serves ha
    have hw := (State.odWrite_stage ha ho hx hacc hlive).trans (State.stage_committing sess _ hc)
    exact State.leads_of_exec (odEntryWrite_next hh.1)
      ⟨State.sessionWrite_status hh hw (by decide) (by decide), State.sessionWrite_sessionMix hh hw (by decide) (by decide) rfl⟩
  case live =>
    intro b ha he
    have hh := State.accepts_serves ha
    have hw := State.odWrite_session ha he
    refine State.leads_of_exec (odEntryWrite_next hh.1)
      ⟨?_, fun e hne => ?_, State.sessionWrite_status hh hw (by decide) (by decide), State.sessionWrite_sessionMix hh hw (by decide) (by decide) rfl⟩
    · rw [State.sessionWrite_live hh hw (by decide) (by decide), State.live_setLive]
    · rw [State.sessionWrite_live hh hw (by decide) (by decide), State.live_setLive_other _ _ _ hne]
  case cursor =>
    intro b hs hv hcap hreach hlevel hlen hrow
    have hw := State.odWrite_cursor (sess := sess) ho hcap hreach hlevel hlen hrow
    refine State.leads_of_exec (odEntryWrite_next hs)
      ⟨?_, State.sessionWrite_status ⟨hs, hv⟩ hw (by decide) (by decide), State.sessionWrite_sessionMix ⟨hs, hv⟩ hw (by decide) (by decide) rfl⟩
    rw [State.sessionWrite_sess ⟨hs, hv⟩ hw (by decide) (by decide), State.sess_updSess]
    exact mget_mset_same _ _ _ _

end Sys2Proof.Machine
end

section
/-! The SDO server of the service channel: downloads, uploads, blocks and their aborts (R74 to R77, R85). -/

namespace Sys2Proof.Machine
open Sys2Proof
set_option Elab.async false

/-! ### A request reaches its service -/

section request
variable {s : State} {slot : Nat} {m : Bytes} (hslot : s.variant.hasSlot slot = true) (hcan : isCan slot = true) (hserves : s.sdoServes slot m = true)
include hslot hcan hserves

theorem State.sdoRequest_next {k : SdoKind} (hk : s.sdoKind m = k) (f : State → State) : s.sdoRequest slot m k f = .next (f s).settle := by
  unfold State.sdoRequest
  rw [doneIf_present (by simp [hslot, hcan]), hserves]
  simp [State.when, hk]

/-- The client's abort ends the transfer, whichever service's command brings it (R76). -/
theorem State.sdoRequest_abort {k : SdoKind} (hk : s.sdoKind m = .clientAbort) (hne : k ≠ .clientAbort) (f : State → State) :
    s.sdoRequest slot m k f = .next ({ s with sdo := .none } : State).settle := by
  unfold State.sdoRequest
  rw [doneIf_present (by simp [hslot, hcan]), hserves]
  simp [State.when, hk, hne.symm]

end request

/-! ### What the server sends -/

@[simp] theorem State.sdoSend_out (s : State) (slot b0 : Nat) (rest : Bytes) : (s.sdoSend slot b0 rest).out = s.sdoFrame slot b0 rest :: s.out := rfl
@[simp] theorem State.sdoSend_sdo (s : State) (slot b0 : Nat) (rest : Bytes) : (s.sdoSend slot b0 rest).sdo = s.sdo := rfl
@[simp] theorem State.sdoSend_sess (s : State) (slot b0 : Nat) (rest : Bytes) : (s.sdoSend slot b0 rest).sess 0 = { s.sess 0 with last := s.clock.ticks } :=
  State.sess_updSess s 0 (fun x => { x with last := s.clock.ticks })

/-- An abort with a code of the protocol itself counts nothing (R85). -/
theorem State.sdoFailed_sessions (s : State) (code : Nat) : (s.sdoFailed code).rest 8 = s.rest 8 := by
  unfold State.sdoFailed
  split_ifs
  · rw [State.requestDone_plain s (by decide) (by decide)]; rfl
  · rw [State.requestDone_plain s (by decide) (by decide)]; rfl
  · rfl

@[simp] theorem State.sdoAbort_sdo (s : State) (slot mux code : Nat) : (s.sdoAbort slot mux code).sdo = .none :=
  State.keep_sdo (State.rest_weaken (by decide) (State.sdoFailed_sessions _ code))

@[simp] theorem State.sdoAbort_out (s : State) (slot mux code : Nat) : (s.sdoAbort slot mux code).out = s.sdoAbortFrame slot mux code :: s.out := by
  have h : (({ s with sdo := .none }.touch 0).sdoFailed code).out = ({ s with sdo := .none }.touch 0).out := State.keep_out (State.rest_weaken (by decide) (State.sdoFailed_sessions ({ s with sdo := .none }.touch 0) code))
  exact congrArg (s.sdoAbortFrame slot mux code :: ·) h

theorem State.sdoAbort_mix (s : State) (slot mux code : Nat) : (s.sdoAbort slot mux code).rest 8796093023240 = s.rest 8796093023240 := by
  have h : (({ s with sdo := .none }.touch 0).sdoFailed code).rest 8796093023240 = ({ s with sdo := .none }.touch 0).rest 8796093023240 :=
    State.rest_weaken (by decide) (State.sdoFailed_sessions _ code)
  unfold State.sdoAbort
  rw [State.emit_rest (by decide), h, State.touch_rest (by decide)]
  rfl

theorem State.sdoSent_out (s : State) (slot b0 : Nat) (rest : Bytes) (x : SdoTransfer) : ({ s with sdo := x }.sdoSend slot b0 rest).settle.out = s.sdoFrame slot b0 rest :: s.out := State.settle_out _

theorem State.sdoSent_sess (s : State) (slot b0 : Nat) (rest : Bytes) (x : SdoTransfer) :
    ({ s with sdo := x }.sdoSend slot b0 rest).settle.sess 0 = { s.sess 0 with last := s.clock.ticks } := by
  rw [State.sess_settle, State.sdoSend_sess]
  rfl

/-- After a step of the protocol: the transfer, the session, the outputs and the balls with the state they follow. -/
theorem State.sdoStep_mix {s u : State} (h : u.rest 8796093023240 = s.rest 8796093023240) :
    u.settle = { s with sdo := u.settle.sdo, sessions := u.settle.sessions, out := u.settle.out, safe := u.settle.safe, pins := u.settle.pins } := by
  refine State.eq_mix (fs := 10995116295176) ?_
  rw [State.settle_rest (by decide)]
  exact State.rest_weaken (by decide) h

theorem State.sdoAborted_mix (s : State) (slot mux code : Nat) :
    (s.sdoAbort slot mux code).settle =
      { s with sdo := .none, sessions := (s.sdoAbort slot mux code).settle.sessions, out := (s.sdoAbort slot mux code).settle.out, safe := (s.sdoAbort slot mux code).settle.safe,
               pins := (s.sdoAbort slot mux code).settle.pins } := by
  have hsdo : (s.sdoAbort slot mux code).settle.sdo = .none := by simp
  exact (State.sdoStep_mix (s.sdoAbort_mix slot mux code)).trans (by rw [hsdo])

/-- An answer of the server to a request that it took. -/
theorem State.reply_sdo (s : State) (server slot b0 : Nat) (rest : Bytes) (u : State) :
    s.reply 0 server 0 (u.sdoFrame slot b0 rest) =
      if s.carrier 0 = server then s.emit (u.sdoFrame slot b0 rest) else { s with relays := mset [] s.relays 0 (mget [] s.relays 0 ++ [u.sdoFrame slot b0 rest]) } := by
  simp [State.reply, State.send, State.sdoFrame]

/-! ### The end of a download -/

section finish
variable {s : State} {mux : Nat} {data : Bytes} {o : OdObject} {x : OdEntry} (ho : odObject s.variant (mux % 65536) = some o) (hx : odEntry s.variant (mux % 65536 * 256 + mux / 65536) = some x)
  (hacc : x.acc = .rw) (hlive : x.live = false) (ha : s.accepts 0 (mux % 65536) (mux / 65536) (s.cursorRow 0 (mux % 65536)) data = true) (hfree : s.mayStage 0 = true)
  (hroom : s.hasRoom [(okey (mux % 65536 * 256 + mux / 65536) (o.keyRow (s.cursorRow 0 (mux % 65536))), leNat data)] = true)
include ho hx hacc hlive ha hfree hroom

/-- A complete download of a staged entry is staged and answered (R76, R86). -/
theorem State.sdoFinish_staged (slot b0 : Nat) (rest : Bytes) :
    s.sdoFinish slot mux data b0 rest =
      ((({ s with sdo := .none } : State).staged 0 [(okey (mux % 65536 * 256 + mux / 65536) (o.keyRow (s.cursorRow 0 (mux % 65536))), leNat data)]).updSess 0
        (fun y => { y with lastStatus := 0, last := s.clock.ticks })).reply 0 (servingDie (mux % 65536) (mux / 65536) (s.cursorRow 0 (mux % 65536))) 0 (s.sdoFrame slot b0 rest) := by
  have hw := State.odWrite_staged (s := { s with sdo := .none }) ha ho hx hacc hlive hfree hroom
  have hrow : ({ s with sdo := .none } : State).cursorRow 0 (mux % 65536) = s.cursorRow 0 (mux % 65536) := rfl
  unfold State.sdoFinish
  simp only [hrow]
  rw [hw]
  unfold State.writeDone
  rw [State.requestDone_plain _ (by decide) (by decide)]
  rfl

end finish

/-- What a session's answer leaves: it stands among the outputs, or waits for its relay where another die serves. -/
theorem State.reply_sdo_sends (s u : State) (server slot b0 : Nat) (rest : Bytes) :
    (s.carrier 0 ≠ server → mget [] (s.reply 0 server 0 (u.sdoFrame slot b0 rest)).relays 0 = mget [] s.relays 0 ++ [u.sdoFrame slot b0 rest] ∧ (s.reply 0 server 0 (u.sdoFrame slot b0 rest)).out = s.out) ∧
    (u.sdoFrame slot b0 rest ∈ (s.reply 0 server 0 (u.sdoFrame slot b0 rest)).out ∨ u.sdoFrame slot b0 rest ∈ mget [] (s.reply 0 server 0 (u.sdoFrame slot b0 rest)).relays 0) := by
  rw [State.reply_sdo]
  by_cases h : s.carrier 0 = server
  · rw [if_pos h]
    exact ⟨fun hne => absurd h hne, .inl List.mem_cons_self⟩
  · rw [if_neg h]
    have hsame : mget [] (mset [] s.relays 0 (mget [] s.relays 0 ++ [u.sdoFrame slot b0 rest])) 0 = mget [] s.relays 0 ++ [u.sdoFrame slot b0 rest] := mget_mset_same _ _ _ _
    refine ⟨fun _ => ⟨hsame, rfl⟩, .inr ?_⟩
    rw [hsame]
    exact List.mem_append_right _ List.mem_cons_self

theorem State.reply_sdo_rest (s u : State) (server slot b0 : Nat) (rest : Bytes) : (s.reply 0 server 0 (u.sdoFrame slot b0 rest)).rest 8796093022272 = s.rest 8796093022272 := by
  rw [State.reply_sdo]
  split <;> rfl

/-- The state in which a completed download leaves its transfer, its value and its answer. -/
theorem State.sdoStaged_leaves (s u : State) (server slot b0 : Nat) (rest : Bytes) (k v : Nat) {t : State}
    (ht : t = (((({ s with sdo := .none } : State).staged 0 [(k, v)]).updSess 0 (fun y => { y with lastStatus := 0, last := s.clock.ticks })).reply 0 server 0 (u.sdoFrame slot b0 rest)).settle) :
    t.sdo = .none ∧ t.lockHolder = some 0 ∧ (t.sess 0).lastStatus = 0 ∧ mfind t.od.staging k = some v ∧
    (s.carrier 0 ≠ server → mget [] t.relays 0 = mget [] s.relays 0 ++ [u.sdoFrame slot b0 rest] ∧ t.out = s.out) ∧ (u.sdoFrame slot b0 rest ∈ t.out ∨ u.sdoFrame slot b0 rest ∈ mget [] t.relays 0) ∧
    t = { s with sdo := .none, od := { s.od with staging := t.od.staging }, lockHolder := some 0, sessions := t.sessions, relays := t.relays, out := t.out, safe := t.safe, pins := t.pins } := by
  generalize hw : (({ s with sdo := .none } : State).staged 0 [(k, v)]).updSess 0 (fun y => { y with lastStatus := 0, last := s.clock.ticks }) = w at ht
  have hsends := State.reply_sdo_sends w u server slot b0 rest
  have hreply := State.reply_sdo_rest w u server slot b0 rest
  have hrest : t.rest 10995116294208 = w.rest 10995116294208 := by
    rw [ht, State.settle_rest (by decide)]
    exact State.rest_weaken (by decide) hreply
  have hrel : t.relays = (w.reply 0 server 0 (u.sdoFrame slot b0 rest)).relays := by rw [ht, State.settle_relays]
  have hout : t.out = (w.reply 0 server 0 (u.sdoFrame slot b0 rest)).out := by rw [ht, State.settle_out]
  have hcar : w.carrier 0 = s.carrier 0 := by rw [← hw]; rfl
  have hwrel : w.relays = s.relays := by rw [← hw]; rfl
  have hwout : w.out = s.out := by rw [← hw]; rfl
  have hsess : t.sessions = w.sessions := State.keep_sessions (State.rest_weaken (by decide) hrest)
  have hod : t.od = w.od := State.keep_od (State.rest_weaken (by decide) hrest)
  rw [← hrel, ← hout, hcar, hwrel, hwout] at hsends
  obtain ⟨hrelayed, hsent⟩ := hsends
  refine ⟨(State.keep_sdo (State.rest_weaken (by decide) hrest)).trans (by rw [← hw]; rfl), (State.keep_lockHolder (State.rest_weaken (by decide) hrest)).trans (by rw [← hw]; rfl), ?status, ?value, hrelayed, hsent, ?frame⟩
  case status =>
    have hs0 : t.sess 0 = w.sess 0 := congrArg (fun m => mget ({} : Session) m 0) hsess
    rw [hs0, ← hw, State.sess_updSess]
  case value =>
    rw [hod, ← hw]
    exact State.staged_one { s with sdo := .none } 0 k v
  case frame =>
    refine State.staged_mix (s := { s with sdo := .none }) (sess := 0) (l := [(k, v)]) ((State.rest_weaken (by decide) hrest).trans ?_)
    rw [← hw, State.updSess_rest (by decide)]

/-! ### Uploads -/

theorem State.readFinds_found (s : State) (sess idx sub : Nat) : s.readFinds sess idx sub 0 = s := by simp [State.readFinds]

/-- The state after an upload's read: no transfer is left, and the session holds status 0. -/
def State.uploaded (s : State) : State := ({ s with sdo := .none } : State).updSess 0 (fun y => { y with lastStatus := 0, last := s.clock.ticks })

theorem State.uploaded_status (s : State) : (s.uploaded.sess 0).lastStatus = 0 := by simp [State.uploaded]

theorem State.reply_carrier {s : State} {server : Nat} (h : s.carrier 0 = server) (o : Out) : s.reply 0 server 0 o = s.send o := by simp [State.reply, h]

/-- An upload's read that finds a value, at an entry that the carrier serves itself (R76). -/
theorem State.sdoRead_found {s : State} {slot mux : Nat} {v : Bytes} (hread : s.odRead 0 (mux % 65536) (mux / 65536) (s.cursorRow 0 (mux % 65536)) false true = (0, v))
    (hserved : s.carrier 0 = servingDie (mux % 65536) (mux / 65536) (s.cursorRow 0 (mux % 65536))) (go : State → Bytes → SdoTransfer × Out) :
    s.sdoRead slot mux go = ({ s.uploaded with sdo := (go s.uploaded v).1 } : State).send (go s.uploaded v).2 := by
  unfold State.sdoRead
  simp only [hread, State.readFinds_found]
  rw [State.requestDone_plain _ (by decide) (by decide)]
  exact State.reply_carrier (s := { s.uploaded with sdo := (go s.uploaded v).1 }) hserved _

theorem State.foldl_emit (l : List Out) (s : State) : l.foldl State.emit s = { s with out := l.reverse ++ s.out } := by
  induction l generalizing s with
  | nil => rfl
  | cons a l ih =>
    rw [List.foldl_cons, ih, List.reverse_cons, List.append_assoc]
    rfl

/-! ### The services -/

section services
variable {s : State} {slot : Nat} {m : Bytes}

theorem State.sdoDownInit_segmented (h : bitAt (byteAt m 0) 1 = false) :
    s.sdoDownInit slot m = { s with sdo := .segDown (sdoMux m) (if bitAt (byteAt m 0) 0 then some (leNat (m.drop 4)) else none) [] false }.sdoSend slot 0x60 (toLE 3 (sdoMux m)) := by
  simp [State.sdoDownInit, h]

theorem State.sdoDownInit_expedited (h : bitAt (byteAt m 0) 1 = true) (h0 : bitAt (byteAt m 0) 0 = true) :
    s.sdoDownInit slot m = s.sdoFinish slot (sdoMux m) ((m.drop 4).take (4 - byteAt m 0 / 4 % 4)) 0x60 (toLE 3 (sdoMux m)) := by
  simp [State.sdoDownInit, h, h0]

section segment
variable {mux : Nat} {size : Option Nat} {data : Bytes} {toggle : Bool} (hs : s.sdo = .segDown mux size data toggle)
include hs

theorem State.sdoDownSeg_toggle (h : bitAt (byteAt m 0) 4 ≠ toggle) : s.sdoDownSeg slot m = s.sdoAbort slot mux 0x05030000 := by
  simp [State.sdoDownSeg, hs, h]

theorem State.sdoDownSeg_more (h : bitAt (byteAt m 0) 4 = toggle) (h0 : bitAt (byteAt m 0) 0 = false) :
    s.sdoDownSeg slot m =
      { s with sdo := .segDown mux size (data ++ (m.drop 1).take (7 - byteAt m 0 / 2 % 8)) (!toggle) }.sdoSend slot (0x20 + 16 * flagNat toggle) [] := by
  simp [State.sdoDownSeg, hs, h, h0]

theorem State.sdoDownSeg_last (h : bitAt (byteAt m 0) 4 = toggle) (h0 : bitAt (byteAt m 0) 0 = true) (hsize : sizeWrong size (data ++ (m.drop 1).take (7 - byteAt m 0 / 2 % 8)) = false) :
    s.sdoDownSeg slot m = s.sdoFinish slot mux (data ++ (m.drop 1).take (7 - byteAt m 0 / 2 % 8)) (0x20 + 16 * flagNat toggle) [] := by
  simp [State.sdoDownSeg, hs, h, h0, hsize, -List.drop_one]

theorem State.sdoDownSeg_wrongSize (h : bitAt (byteAt m 0) 4 = toggle) (h0 : bitAt (byteAt m 0) 0 = true) (hsize : sizeWrong size (data ++ (m.drop 1).take (7 - byteAt m 0 / 2 % 8)) = true) :
    s.sdoDownSeg slot m = s.sdoAbort slot mux 0x06070010 := by
  simp [State.sdoDownSeg, hs, h, h0, hsize, -List.drop_one]

end segment

theorem State.sdoBlockDown_starts (h : s.sdo.receiving = false) (h0 : bitAt (byteAt m 0) 0 = false) :
    s.sdoBlockDown slot m =
      { s with sdo := .blkDown (sdoMux m) (if bitAt (byteAt m 0) 1 then some (leNat (m.drop 4)) else none) [] 0 s.blockSize (bitAt (byteAt m 0) 2) false }.sdoSend slot 0xA4
        (toLE 3 (sdoMux m) ++ toLE 1 s.blockSize) := by
  unfold State.sdoBlockDown
  split
  next heq => simp [heq, SdoTransfer.receiving] at h
  next heq => simp [heq, SdoTransfer.receiving] at h
  next => simp [h0]

theorem State.sdoBlockDown_more {mux : Nat} {size : Option Nat} {data : Bytes} {n k : Nat} {crc : Bool} (hs : s.sdo = .blkDown mux size data n k crc false) (hb : byteAt m 0 = n + 1)
    (hk : n + 1 < k) (hn : n + 1 < 128) : s.sdoBlockDown slot m = { s with sdo := .blkDown mux size (data ++ m.drop 1) (n + 1) k crc false } := by
  simp [State.sdoBlockDown, hs, hb, Nat.mod_eq_of_lt hn, Nat.not_le.mpr hn, Nat.ne_of_lt hk]

theorem State.sdoUpSeg_answers {mux : Nat} {rest : Bytes} {toggle : Bool} (hs : s.sdo = .segUp mux rest toggle) (h : bitAt (byteAt m 0) 4 = toggle) :
    s.sdoUpSeg slot m =
      { s with sdo := if rest.length ≤ 7 then .none else .segUp mux (rest.drop 7) (!toggle) }.sdoSend slot
        (16 * flagNat toggle + 2 * (7 - min 7 rest.length) + (if rest.length ≤ 7 then 1 else 0)) (rest.take 7) := by
  simp [State.sdoUpSeg, hs, h, flagNat]

theorem State.sdoBlockUp_starts {mux pos k sent : Nat} {data : Bytes} {crc : Bool} (hb : byteAt m 0 % 4 = 3) (hs : s.sdo = .blkUp mux data pos k sent crc 0) :
    s.sdoBlockUp slot m = s.sdoBlock slot mux data pos k crc := by
  simp [State.sdoBlockUp, hb, hs]

theorem State.sdoBlock_eq (s : State) (slot mux : Nat) (data : Bytes) (pos k : Nat) (crc : Bool) :
    s.sdoBlock slot mux data pos k crc =
      { { s with sdo := .blkUp mux data pos k (s.blockSegments slot data k 1 pos).length crc 1 }.touch 0 with
          out := (s.blockSegments slot data k 1 pos).reverse ++ s.out } := by
  unfold State.sdoBlock
  exact State.foldl_emit _ _

end services

/-- Settles O49: each service's frame is one step of the transfer, and a complete download is one staged write (R76, R85, R86). -/
theorem serviceTransfers : Obligations.ServiceTransfers := by
  unfold Obligations.ServiceTransfers
  intro s slot m
  refine ⟨fun hslot hcan hserves => ⟨?segmented, ?expedited, ?segment, ?toggle, ?block, ?blockSegment, ?upload, ?uploadSegment, ?uploadBlock, ?abort⟩, ?last, ?wrongSize, ?timeout⟩
  case segmented =>
    intro hk h
    have hx : exec (.sdoDownloadInitiate slot m) s = .next (s.sdoDownInit slot m).settle := State.sdoRequest_next hslot hcan hserves hk _
    rw [State.sdoDownInit_segmented h] at hx
    exact State.leads_of_exec hx ⟨by simp, s.sdoSent_out slot _ _ _, s.sdoSent_sess slot _ _ _, State.sdoStep_mix rfl⟩
  case expedited =>
    intro o x hk h h0 ho hxe hacc hlive ha hfree hroom
    have hx : exec (.sdoDownloadInitiate slot m) s = .next (s.sdoDownInit slot m).settle := State.sdoRequest_next hslot hcan hserves hk _
    rw [State.sdoDownInit_expedited h h0, State.sdoFinish_staged ho hxe hacc hlive ha hfree hroom] at hx
    obtain ⟨hnone, hlock, hstatus, hvalue, hrelayed, -, hmix⟩ := State.sdoStaged_leaves s s _ slot _ _ _ _ rfl
    exact State.leads_of_exec hx ⟨hnone, hlock, hstatus, hvalue, hrelayed, hmix⟩
  case segment =>
    intro mux size data toggle hk hs h h0
    have hx : exec (.sdoDownloadSegment slot m) s = .next (s.sdoDownSeg slot m).settle := State.sdoRequest_next hslot hcan hserves hk _
    rw [State.sdoDownSeg_more hs h h0] at hx
    exact State.leads_of_exec hx ⟨by simp, s.sdoSent_out slot _ _ _, State.sdoStep_mix rfl⟩
  case toggle =>
    intro mux size data toggle hk hs h
    have hx : exec (.sdoDownloadSegment slot m) s = .next (s.sdoDownSeg slot m).settle := State.sdoRequest_next hslot hcan hserves hk _
    rw [State.sdoDownSeg_toggle hs h] at hx
    exact State.leads_of_exec hx ⟨by simp, by simp, s.sdoAborted_mix slot mux _⟩
  case block =>
    intro hk hrec h0
    have hx : exec (.sdoBlockDownload slot m) s = .next (s.sdoBlockDown slot m).settle := State.sdoRequest_next hslot hcan hserves hk _
    rw [State.sdoBlockDown_starts hrec h0] at hx
    exact State.leads_of_exec hx ⟨by simp, s.sdoSent_out slot _ _ _, State.sdoStep_mix rfl⟩
  case blockSegment =>
    intro mux size data n k crc hk hs hb hnk hn
    have hx : exec (.sdoBlockDownload slot m) s = .next (s.sdoBlockDown slot m).settle := State.sdoRequest_next hslot hcan hserves hk _
    rw [State.sdoBlockDown_more hs hb hnk hn] at hx
    refine State.leads_of_exec hx ⟨by simp, by simp, State.eq_mix (fs := 2199023272960) ?_⟩
    rw [State.settle_rest (by decide)]
    rfl
  case upload =>
    intro v hk hread hserved
    have hx : exec (.sdoUploadInitiate slot m) s = .next (s.sdoUpInit slot m).settle := State.sdoRequest_next hslot hcan hserves hk _
    unfold State.sdoUpInit at hx
    rw [State.sdoRead_found hread hserved] at hx
    by_cases hv : (decide (1 ≤ v.length) && decide (v.length ≤ 4)) = true
    · simp only [hv, if_true] at hx
      have hlen : 1 ≤ v.length ∧ v.length ≤ 4 := by simpa using hv
      refine State.leads_of_exec hx ⟨fun _ _ => ⟨by simp [State.send, State.sdoFrame, State.emit], by simp [State.send, State.sdoFrame, State.emit, State.uploaded, State.updSess, State.setSess]⟩, fun h => absurd hlen.2 (by omega), ?_, State.sdoStep_mix rfl⟩
      rw [State.sess_settle]
      exact s.uploaded_status
    · simp only [hv] at hx
      have hlen : ¬ (1 ≤ v.length ∧ v.length ≤ 4) := by simpa using hv
      refine State.leads_of_exec hx ⟨fun h1 h4 => absurd ⟨h1, h4⟩ hlen, fun _ => ⟨by simp [State.send, State.sdoFrame, State.emit], by simp [State.send, State.sdoFrame, State.emit, State.uploaded, State.updSess, State.setSess]⟩, ?_, State.sdoStep_mix rfl⟩
      rw [State.sess_settle]
      exact s.uploaded_status
  case uploadSegment =>
    intro mux rest toggle hk hs h
    have hx : exec (.sdoUploadSegment slot m) s = .next (s.sdoUpSeg slot m).settle := State.sdoRequest_next hslot hcan hserves hk _
    rw [State.sdoUpSeg_answers hs h] at hx
    exact State.leads_of_exec hx ⟨by simp, s.sdoSent_out slot _ _ _, State.sdoStep_mix rfl⟩
  case uploadBlock =>
    intro mux data pos k sent crc hk hb hs
    have hx : exec (.sdoBlockUpload slot m) s = .next (s.sdoBlockUp slot m).settle := State.sdoRequest_next hslot hcan hserves hk _
    rw [State.sdoBlockUp_starts hb hs, State.sdoBlock_eq] at hx
    exact State.leads_of_exec hx ⟨by simp [State.touch, State.updSess, State.setSess], by simp, State.sdoStep_mix rfl⟩
  case abort =>
    intro c hc hk
    have hx : exec c s = .next ({ s with sdo := .none } : State).settle := by
      simp only [List.mem_cons, List.not_mem_nil, or_false] at hc
      obtain rfl | rfl | rfl | rfl | rfl | rfl := hc <;> exact State.sdoRequest_abort hslot hcan hserves hk (by decide) _
    exact State.leads_of_exec hx (State.eq_mix (fs := 2199023271936) (s := { s with sdo := .none }) (State.settle_rest (by decide) _))
  case last =>
    intro mux size data toggle o x hslot hcan hserves hk hs h h0 hsize ho hxe hacc hlive ha hfree hroom
    have hx : exec (.sdoDownloadSegment slot m) s = .next (s.sdoDownSeg slot m).settle := State.sdoRequest_next hslot hcan hserves hk _
    rw [State.sdoDownSeg_last hs h h0 hsize, State.sdoFinish_staged ho hxe hacc hlive ha hfree hroom] at hx
    obtain ⟨hnone, hlock, hstatus, hvalue, -, hsent, hmix⟩ := State.sdoStaged_leaves s s _ slot _ _ _ _ rfl
    exact State.leads_of_exec hx ⟨hnone, hlock, hstatus, hvalue, hsent, hmix⟩
  case wrongSize =>
    intro mux size data toggle hslot hcan hserves hk hs h h0 hsize
    have hx : exec (.sdoDownloadSegment slot m) s = .next (s.sdoDownSeg slot m).settle := State.sdoRequest_next hslot hcan hserves hk _
    rw [State.sdoDownSeg_wrongSize hs h h0 hsize] at hx
    exact State.leads_of_exec hx ⟨by simp, by simp, s.sdoAborted_mix slot mux _⟩
  case timeout =>
    intro mux hserves hmux
    have hx : exec .sdoSegmentTimeout s = .next ({ s with sdo := .none }.emit (s.sdoAbortFrame (s.cfg E.accessSdoPortSlot) mux 0x05040000)).settle := by
      show done (s.when (s.serves 0) State.sdoTimeout) = _
      rw [hserves]
      simp [State.when, State.sdoTimeout, hmux, done]
    refine State.leads_of_exec hx ⟨by simp [State.emit], by simp [State.emit], State.eq_mix (fs := 10995116295168) ?_⟩
    rw [State.settle_rest (by decide)]
    rfl

end Sys2Proof.Machine
end

section
/-! The mailbox: its requests, the bytes in its words and its results (R419). -/

namespace Sys2Proof.Machine
open Sys2Proof
set_option Elab.async false

/-! ### A value in the words of the mailbox -/

theorem toLE_length (n v : Nat) : (toLE n v).length = n := by
  induction n generalizing v with
  | zero => rfl
  | succ n ih => exact congrArg (· + 1) (ih (v / 256))

theorem toLE_zero (n : Nat) : toLE n 0 = List.replicate n 0 := by
  induction n with
  | zero => rfl
  | succ n ih => exact congrArg (0 :: ·) ih

/-- The little-endian word of some bytes: the bytes, then zeros. -/
theorem toLE_leNat {n : Nat} {b : Bytes} (h : b.length ≤ n) : toLE n (leNat b) = b ++ List.replicate (n - b.length) 0 := by
  induction b generalizing n with
  | nil => exact toLE_zero n
  | cons a b ih =>
    obtain ⟨n, rfl⟩ : ∃ k, n = k + 1 := ⟨n - 1, by simp at h; omega⟩
    have hlow : BitVec.ofNat 8 (a.toNat + 256 * leNat b) = a := by
      apply BitVec.eq_of_toNat_eq
      have ha : a.toNat < 256 := a.isLt
      simp
      omega
    have hhigh : (a.toNat + 256 * leNat b) / 256 = leNat b := by
      have ha : a.toNat < 256 := a.isLt
      omega
    have hlen : n + 1 - (b.length + 1) = n - b.length := by omega
    rw [leNat, toLE, hlow, hhigh, ih (by simpa using h), List.length_cons, hlen]
    rfl

/-- The bytes of the words that hold a value: each word 4 bytes of it. -/
theorem words_take (k : Nat) (v : Bytes) (h : v.length ≤ 4 * k) : ((List.range k).flatMap (fun i => toLE 4 (leNat ((v.drop (4 * i)).take 4)))).take v.length = v := by
  induction k generalizing v with
  | zero => simp [List.length_eq_zero_iff.mp (Nat.le_zero.mp h)]
  | succ k ih =>
    have hrest : (List.map Nat.succ (List.range k)).flatMap (fun i => toLE 4 (leNat ((v.drop (4 * i)).take 4))) =
        (List.range k).flatMap (fun i => toLE 4 (leNat (((v.drop 4).drop (4 * i)).take 4))) := by
      rw [List.flatMap_map]
      refine List.flatMap_congr (fun i _ => ?_)
      rw [List.drop_drop, Nat.mul_succ, Nat.add_comm]
    rw [List.range_succ_eq_map, List.flatMap_cons, hrest, toLE_leNat (by simp), Nat.mul_zero, List.drop_zero]
    by_cases hv : v.length ≤ 4
    · rw [List.take_of_length_le hv, List.append_assoc, List.take_left]
    · have hfour : (v.take 4).length = 4 := by rw [List.length_take]; omega
      have hlen : v.length = (v.take 4).length + (v.drop 4).length := by rw [hfour, List.length_drop]; omega
      rw [hfour, List.replicate_zero, List.append_nil, hlen, List.take_append, List.take_of_length_le (by omega), Nat.add_sub_cancel_left, ih (v.drop 4) (by rw [List.length_drop]; omega), List.take_append_drop]

@[simp] theorem Mailbox.withBytes_len (m : Mailbox) (b : Bytes) : (m.withBytes b).len = b.length := rfl

/-- A value in the words reads back (Table 14-8). -/
theorem Mailbox.withBytes_bytes (m : Mailbox) (b : Bytes) : (m.withBytes b).bytes = b := by
  unfold Mailbox.bytes
  rw [Mailbox.withBytes_len]
  have hword : (List.range ((b.length + 3) / 4)).flatMap (fun i => toLE 4 (mget 0 (m.withBytes b).data i)) =
      (List.range ((b.length + 3) / 4)).flatMap (fun i => toLE 4 (leNat ((b.drop (4 * i)).take 4))) :=
    List.flatMap_congr (fun i hi => congrArg (toLE 4) (mget_foldl_mset (fun i => leNat ((b.drop (4 * i)).take 4)) _ (List.mem_range.mp hi)))
  rw [hword]
  exact words_take _ b (by omega)

theorem Mailbox.bytes_length (m : Mailbox) : m.bytes.length = m.len := by
  unfold Mailbox.bytes
  rw [List.length_take, List.length_flatMap]
  simp only [toLE_length, List.map_const', List.sum_replicate, List.length_range, smul_eq_mul]
  omega

/-! ### A request is served -/

/-- The mailbox after a request: BUSY is clear, DONE set, and a value read stands in its words (R419). -/
def Mailbox.served (m : Mailbox) (st : Nat) (v : Option Bytes) : Mailbox :=
  { (match v with
    | some b => m.withBytes b
    | none => m) with busy := false, done := true, result := st }

theorem State.mailboxDone_eq (s : State) (n st : Nat) (v : Option Bytes) :
    s.mailboxDone n st v = ((s.updApp n (fun a => { a with mbx := a.mbx.served st v })).requestDone (n + 4) st).when (s.app n).mbx.ie (·.raiseSource n 41) := rfl

theorem State.mailboxDone_app (s : State) (n st : Nat) (v : Option Bytes) (m : Nat) :
    (s.mailboxDone n st v).app m = (s.updApp n (fun a => { a with mbx := a.mbx.served st v })).app m := by
  refine State.app_of_apps ?_ m
  rw [State.mailboxDone_eq]
  generalize s.updApp n _ = u
  exact State.keep_apps (by simp)

theorem State.mailboxDone_mbx (s : State) (n st : Nat) (v : Option Bytes) : ((s.mailboxDone n st v).app n).mbx = (s.app n).mbx.served st v := by
  rw [State.mailboxDone_app, State.app_updApp]

theorem State.mailboxDone_appsElse (s : State) (n st : Nat) (v : Option Bytes) : (s.mailboxDone n st v).appsElse s n := fun m hm =>
  (State.mailboxDone_app s n st v m).trans (State.app_updApp_other s _ hm)

theorem State.mailboxDone_status (s : State) {n st : Nat} (v : Option Bytes) (h6 : st ≠ 0x06) (hn : n + 4 ≠ noSession) : ((s.mailboxDone n st v).sess (n + 4)).lastStatus = st := by
  rw [State.mailboxDone_eq]
  generalize s.updApp n _ = u
  rw [State.requestDone_plain _ h6 hn]
  have hsess : ((u.updSess (n + 4) (fun x => { x with lastStatus := st, last := u.clock.ticks })).when (s.app n).mbx.ie (·.raiseSource n 41)).sessions =
      (u.updSess (n + 4) (fun x => { x with lastStatus := st, last := u.clock.ticks })).sessions := State.keep_sessions (by simp)
  unfold State.sess
  rw [hsess]
  exact congrArg Session.lastStatus (State.sess_updSess u (n + 4) _)

/-- A result that is no refusal of a level changes the session, the pair and its interrupts (R419). -/
theorem State.mailboxDone_mix (s : State) {n st : Nat} (v : Option Bytes) (h6 : st ≠ 0x06) (hn : n + 4 ≠ noSession) : (s.mailboxDone n st v).rest 1610612744 = s.rest 1610612744 := by
  rw [State.mailboxDone_eq, State.requestDone_plain _ h6 hn]
  simp

theorem State.mbxStart_app (s : State) (n op : Nat) (staged : Bool) (hop : op = 1 ∨ op = 2) :
    ((s.app n).mbx.blk.en = true → (s.app n).mbx.busy = false → ((s.mbxStart n op staged).app n).mbx = { (s.app n).mbx with busy := true, op := op, staged := staged }) ∧
    ((s.app n).mbx.busy = true → ((s.mbxStart n op staged).app n).mbx = { (s.app n).mbx with coll := true }) ∧
    ((s.app n).mbx.blk.en = false → (s.app n).mbx.busy = false → ((s.mbxStart n op staged).app n).mbx = (s.app n).mbx) ∧ (s.mbxStart n op staged).appsElse s n := by
  refine ⟨fun hen hbusy => ?_, fun hbusy => ?_, fun hen hbusy => ?_, ?_⟩
  · simp [State.mbxStart, State.mbxWrite, hen, hbusy, hop]
  · simp [State.mbxStart, State.mbxWrite, hbusy]
  · simp [State.mbxStart, hen, hbusy]
  · unfold State.mbxStart State.mbxWrite
    dsimp only
    split
    · exact fun _ _ => rfl
    · exact State.appsElse_updApp s n _

section serve
variable {s : State} {d : Nat} (hd : s.variant.hasDie d = true)
include hd

theorem mailboxSession_ne : d + 4 ≠ noSession := by
  simp only [Variant.hasDie, Bool.and_eq_true, decide_eq_true_eq] at hd
  have hnc : s.variant.nc ≤ 8 := by cases s.variant <;> decide
  unfold noSession
  omega

/-- What a served request leaves: its result in the mailbox and in the session, and nothing of another pair (R419). -/
theorem State.mailboxDone_leaves (u : State) (st : Nat) (v : Option Bytes) (h6 : st ≠ 0x06) {t : State} (ht : t = (u.mailboxDone d st v).settle) :
    (t.app d).mbx = (u.app d).mbx.served st v ∧ (t.sess (d + 4)).lastStatus = st ∧ t.appsElse u d ∧ t.rest 2200633884680 = u.rest 2200633884680 := by
  have happ : ∀ m, t.app m = (u.mailboxDone d st v).app m := fun m => State.app_of_apps (by rw [ht, State.settle_apps]) m
  refine ⟨?_, ?_, fun m hm => (happ m).trans (State.mailboxDone_appsElse u d st v m hm), ?_⟩
  · rw [happ, State.mailboxDone_mbx]
  · rw [ht, State.sess_settle, State.mailboxDone_status u v h6 (mailboxSession_ne hd)]
  · rw [ht, State.settle_rest (by decide)]
    exact State.rest_weaken (by decide) (State.mailboxDone_mix u v h6 (mailboxSession_ne hd))

variable (hp : s.pairsRun d = true)
include hp

theorem mailboxComplete_next (hrun : s.inRun = true) (hbusy : (s.app d).mbx.busy = true) : exec (.mailboxComplete d) s = .next (s.mailboxServe d).settle := by
  have hx : exec (.mailboxComplete d) s = .next (s.when (s.inRun && (s.app d).mbx.busy) (·.mailboxServe d)).settle := State.onDie_runs hd hp _
  rw [hx, hrun, hbusy]
  rfl

end serve

theorem State.mailboxServe_down {s : State} {d : Nat} (h : s.pairRuns d = false) : s.mailboxServe d = s.mailboxDone d 0x0D none := by simp [State.mailboxServe, h]

theorem State.mailboxServe_read {s : State} {d : Nat} {v : Bytes} (hrun : s.pairRuns d = true) (hop : (s.app d).mbx.op = 1)
    (hread : s.odRead (d + 4) ((s.app d).mbx.index % 65536) ((s.app d).mbx.index / 65536) (s.app d).mbx.row (s.app d).mbx.staged false = (0, v)) :
    s.mailboxServe d = s.mailboxDone d 0 (some v) := by
  simp [State.mailboxServe, hrun, hop, hread, State.readFinds_found]

theorem State.mailboxServe_write {s u : State} {d : Nat} (hrun : s.pairRuns d = true) (hop : (s.app d).mbx.op = 2) (hlen : (s.app d).mbx.len ≤ 1024)
    (hw : s.odWrite (d + 4) ((s.app d).mbx.index % 65536) ((s.app d).mbx.index / 65536) (s.app d).mbx.row (s.app d).mbx.bytes = (u, 0)) :
    s.mailboxServe d = u.mailboxDone d 0 none := by
  simp [State.mailboxServe, hrun, hop, Nat.not_lt.mpr hlen, hw]

/-- A value that an entry accepts is no longer than the mailbox's words (Annex A). -/
theorem State.accepts_length {s : State} {sess idx sub row : Nat} {b : Bytes} {o : OdObject} {x : OdEntry} (ha : s.accepts sess idx sub row b = true) (ho : odObject s.variant idx = some o)
    (hx : odEntry s.variant (idx * 256 + sub) = some x) (hacc : x.acc = .rw) : b.length ≤ 1024 := by
  simp only [State.accepts, ho, hx, Bool.and_eq_true, beq_iff_eq] at ha
  obtain ⟨-, -, hvalue⟩ := ha
  obtain ⟨-, hsize⟩ := odEntry_rw hx hacc
  unfold OdEntry.valueStatus at hvalue
  cases hn : x.ty.size with
  | none => simp [hn] at hsize
  | some n =>
    simp only [hn, Option.any_some, decide_eq_true_eq] at hvalue hsize
    by_cases hlen : b.length = n
    · omega
    · simp [hlen] at hvalue

/-- Settles O56: a request waits in the mailbox until it is served, and its result, and a value read, stand there afterwards (R419). -/
theorem mailboxRequests : Obligations.MailboxRequests := by
  unfold Obligations.MailboxRequests
  intro s d hd hp
  refine ⟨fun staged c op hc => ?start, fun v hrun hbusy hop hruns hread => ?read, fun hrun hbusy hdown => ?down, fun i u row b o x hrun hbusy hop hruns hi hu hrow hb ho hx hacc hlive ha hfree hroom => ?write⟩
  case start =>
    obtain ⟨hexec, hop⟩ : exec c s = .next (s.mbxStart d op staged).settle ∧ (op = 1 ∨ op = 2) := by
      simp only [List.contains_cons, List.contains_nil, Bool.or_false, Bool.or_eq_true, beq_iff_eq, Prod.mk.injEq] at hc
      obtain ⟨rfl, rfl⟩ | ⟨rfl, rfl⟩ := hc
      · exact ⟨State.onDie_runs hd hp _, .inl rfl⟩
      · exact ⟨State.onDie_runs hd hp _, .inr rfl⟩
    have happ : ∀ m, (s.mbxStart d op staged).settle.app m = (s.mbxStart d op staged).app m := fun m => State.app_of_apps (by simp) m
    obtain ⟨hfree, hcoll, hoff, helse⟩ := s.mbxStart_app d op staged hop
    refine State.leads_of_exec hexec ⟨?_, ?_, ?_, fun m hm => (happ m).trans (helse m hm), State.eq_mix (fs := 2200097013760) ?_⟩
    · rwa [happ]
    · rwa [happ]
    · rwa [happ]
    · rw [State.settle_rest (by decide), State.mbxStart_rest (by decide)]
  case read =>
    obtain ⟨hmbx, hstatus, helse, hrest⟩ := State.mailboxDone_leaves hd s 0 (some v) (by decide) rfl
    have hexec := mailboxComplete_next hd hp hrun hbusy
    rw [State.mailboxServe_read hruns hop hread] at hexec
    refine State.leads_of_exec hexec ⟨?_, ?_, ?_, ?_, ?_, hstatus, helse, State.eq_mix hrest⟩ <;> rw [hmbx]
    · rfl
    · rfl
    · rfl
    · rfl
    · exact (s.app d).mbx.withBytes_bytes v
  case down =>
    obtain ⟨hmbx, hstatus, -, hrest⟩ := State.mailboxDone_leaves hd s 0x0D none (by decide) rfl
    have hexec := mailboxComplete_next hd hp hrun hbusy
    rw [State.mailboxServe_down hdown] at hexec
    refine State.leads_of_exec hexec ⟨?_, ?_, ?_, ?_, hstatus, State.eq_mix hrest⟩ <;> rw [hmbx] <;> rfl
  case write =>
    subst hi hu hrow hb
    have hlen : (s.app d).mbx.len ≤ 1024 := (s.app d).mbx.bytes_length ▸ State.accepts_length ha ho hx hacc
    have hw := State.odWrite_staged ha ho hx hacc hlive hfree hroom
    obtain ⟨hmbx, hstatus, helse, hrest⟩ := State.mailboxDone_leaves hd (s.staged (d + 4) [(okey ((s.app d).mbx.index % 65536 * 256 + (s.app d).mbx.index / 65536) (o.keyRow (s.app d).mbx.row), leNat (s.app d).mbx.bytes)]) 0 none (by decide) rfl
    have hexec := mailboxComplete_next hd hp hrun hbusy
    rw [State.mailboxServe_write hruns hop hlen hw] at hexec
    have hod := State.keep_od (State.rest_weaken (by decide) hrest)
    have hlock := State.keep_lockHolder (State.rest_weaken (by decide) hrest)
    refine State.leads_of_exec hexec ⟨?_, ?_, ?_, ?_, hlock, ?_, hstatus, helse, ?_⟩
    · rw [hmbx]; rfl
    · rw [hmbx]; rfl
    · rw [hmbx]; rfl
    · rw [hmbx]; rfl
    · rw [hod]
      exact State.staged_one s _ _ _
    · rw [congrArg OdStore.staging hod]
      exact State.eq_mix hrest

end Sys2Proof.Machine
end

section
/-! Requests and confirmations of the life cycle, provisioning and attestation (R355 to R359, R370 to R373). -/

namespace Sys2Proof.Machine
open Sys2Proof
set_option Elab.async false

/-! ### What appending a record and asking for a seal leave alone -/

/-- Saffron's own steps: outside the counters of chapter 11 the dictionary reads as before, the chain stays open or closed, and the copy of the life cycle stands. -/
structure State.EvidenceStep (s t : State) : Prop where
  variant : t.variant = s.variant
  entry : ∀ e, e / 65536 ≠ 0x32 → t.st e = s.st e
  chainOpen : t.ev.chainOpen = s.ev.chainOpen
  lifecycle : t.mram.lifecycle = s.mram.lifecycle

namespace State.EvidenceStep

theorem refl (s : State) : s.EvidenceStep s := ⟨rfl, fun _ _ => rfl, rfl, rfl⟩

theorem trans {s t u : State} (h : s.EvidenceStep t) (k : t.EvidenceStep u) : s.EvidenceStep u :=
  ⟨k.variant.trans h.variant, fun e he => (k.entry e he).trans (h.entry e he), k.chainOpen.trans h.chainOpen, k.lifecycle.trans h.lifecycle⟩

/-- A step that touches none of them. -/
theorem of_same {s t : State} (hv : t.variant = s.variant) (hod : t.od = s.od) (hev : t.ev.chainOpen = s.ev.chainOpen) (hm : t.mram.lifecycle = s.mram.lifecycle) : s.EvidenceStep t :=
  ⟨hv, fun e _ => State.stRow_of_od hv hod e noRow, hev, hm⟩

theorem updEv (s : State) {f : Evidence → Evidence} (hf : (f s.ev).chainOpen = s.ev.chainOpen) : s.EvidenceStep (s.updEv f) := of_same rfl rfl hf rfl

theorem mramWrite (s : State) : s.EvidenceStep s.mramWrite := of_same rfl rfl rfl rfl

theorem doorbell (s : State) (src : Nat) : s.EvidenceStep (s.doorbell src) := by
  have hev : (s.doorbell src).ev = s.ev := State.keep_ev (by simp)
  have hm : (s.doorbell src).mram = s.mram := State.keep_mram (by simp)
  exact of_same (State.keep_variant (by simp)) (State.keep_od (by simp)) (congrArg Evidence.chainOpen hev) (congrArg (·.lifecycle) hm)

theorem count (s : State) {e : Nat} (he : e / 65536 = 0x32) : s.EvidenceStep (s.count e) := by
  refine ⟨rfl, fun f hf => ?_, rfl, rfl⟩
  have hne : f ≠ e := fun h => hf (h ▸ he)
  exact State.stRow_setRow_of_ne s _ (by simp only [okey]; omega)

theorem when {s : State} (c : Bool) {f : State → State} (h : s.EvidenceStep (f s)) : s.EvidenceStep (s.when c f) := by
  cases c
  · exact refl s
  · exact h

theorem ite {s t u : State} {p : Prop} [Decidable p] (ht : s.EvidenceStep t) (hu : s.EvidenceStep u) : s.EvidenceStep (if p then t else u) := by
  split
  · exact ht
  · exact hu

theorem fifoFlow (s : State) : s.EvidenceStep s.fifoFlow :=
  ite (ite ((updEv s rfl).trans (doorbell _ 65)) (ite (updEv s rfl) (refl s))) (updEv s rfl)

theorem notWritten (s : State) (seq : Nat) (sealNo : Option Nat) : s.EvidenceStep (s.notWritten seq sealNo) := by
  unfold State.notWritten
  refine ((count s rfl).trans (ite (refl _) ((updEv _ rfl).trans (doorbell _ 65)))).trans (updEv _ ?_)
  cases sealNo <;> rfl

theorem offer (s : State) (ws : List Word) (seq : Nat) (sealNo : Option Nat) : s.EvidenceStep (s.offer ws seq sealNo) := by
  unfold State.offer
  refine ite (updEv s (by cases sealNo <;> rfl)) (ite (notWritten s seq sealNo) ?_)
  exact ((ite ((updEv s rfl).trans (count _ rfl)) (refl s)).trans (updEv _ rfl)).trans (fifoFlow _)

theorem reserveSeal (s : State) : s.EvidenceStep s.reserveSeal := by
  unfold State.reserveSeal
  have hreserved : s.EvidenceStep (if s.ev.sealLimit ≤ s.ev.nextSeal then (s.updEv (fun e => { e with sealLimit := sealBlockEnd s.ev.nextSeal })).mramWrite else s) :=
    ite ((updEv s rfl).trans (mramWrite _)) (refl s)
  exact ite ((hreserved.trans (updEv _ rfl)).trans (doorbell _ 65)) hreserved

theorem sealTry (s : State) : s.EvidenceStep s.sealTry := ite (refl s) (ite (refl s) ((updEv s rfl).trans (reserveSeal _)))

theorem trigger (s : State) (code : Nat) : s.EvidenceStep (s.trigger code) :=
  ite (refl s) (((ite (count s rfl) (refl s)).trans (updEv _ rfl)).trans (sealTry _))

theorem journalStep (s : State) (r : EvReq) : s.EvidenceStep (s.journalStep r) := by
  unfold State.journalStep
  refine EvidenceStep.trans ?_ ((updEv _ rfl).trans (mramWrite _))
  split
  · exact ite (refl s) (updEv s rfl)
  · exact refl s

theorem appendOne (s : State) (r : EvReq) : s.EvidenceStep (s.appendOne r) := by
  unfold State.appendOne
  refine EvidenceStep.trans ?_ (when _ (doorbell _ 65))
  refine EvidenceStep.trans ?_ (when _ (trigger _ 1))
  refine EvidenceStep.trans ?_ (offer _ _ _ _)
  exact (((journalStep s r).trans (updEv _ rfl)).trans (count _ rfl)).trans (when _ (count _ rfl))

theorem closeLoss (s : State) : s.EvidenceStep s.closeLoss := ite (refl s) ((updEv s rfl).trans (appendOne _ _))

theorem append (s : State) (r : EvReq) : s.EvidenceStep (s.append r) := ite ((appendOne s r).trans (closeLoss _)) (appendOne s r)

theorem appendNext (s : State) : s.EvidenceStep s.appendNext := by
  unfold State.appendNext
  split
  · exact ite (refl s) (ite (updEv s rfl) ((updEv s rfl).trans (append _ _)))
  · exact refl s

theorem forAll (l : List Nat) {f : State → Nat → State} (hf : ∀ (s : State) (n : Nat), s.EvidenceStep (f s n)) (s : State) : s.EvidenceStep (s.forAll l f) := by
  unfold State.forAll
  induction l generalizing s with
  | nil => exact refl s
  | cons n l ih => exact (hf s n).trans (ih (f s n))

theorem flushQueue (s : State) : s.EvidenceStep s.flushQueue := by
  unfold State.flushQueue
  have hqueue : s.EvidenceStep (s.forAll (List.range s.ev.queue.length) (fun s _ => s.appendNext)) := forAll _ (fun s _ => appendNext s) s
  exact ite hqueue ((hqueue.trans (updEv _ rfl)).trans (forAll _ (fun s _ => appendNext s) _))

theorem requestD0 (s : State) (r : EvReq) : s.EvidenceStep (s.requestD0 r) := ite (of_same rfl rfl rfl rfl) (of_same rfl rfl rfl rfl)

theorem endSessions (s : State) : s.EvidenceStep s.endSessions := by
  have hone : ∀ (s : State) (row : Nat), s.EvidenceStep (s.endSession row) := fun s row => by
    have hstaging : s.EvidenceStep (s.releaseStaging row) := by
      unfold State.releaseStaging
      exact ite (refl s) (ite (of_same rfl rfl rfl rfl) ⟨rfl, fun _ _ => rfl, rfl, rfl⟩)
    unfold State.endSession
    exact ite hstaging (hstaging.trans (of_same rfl rfl rfl rfl))
  exact forAll (List.range 12) hone s

end State.EvidenceStep

/-! ### A taken write, whatever its status -/

section taken
variable {s u : State} {sess idx sub row st : Nat} {b : Bytes} (hh : s.hasSess sess = true ∧ s.serves sess = true) (hw : s.odWrite sess idx sub row b = (u, st)) (h100 : st ≠ 0x100)
include hh hw h100

theorem State.sessionWrite_done : s.sessionWrite sess idx sub row b = (u.requestDone sess st).reply sess (servingDie idx sub row) st (answer sess [] st) := by
  rw [State.sessionWrite_serves hh.2 (by rw [hw]; exact h100), hw]

theorem State.sessionWrite_lastStatus : ((s.sessionWrite sess idx sub row b).settle.sess sess).lastStatus = st := by
  have hne : (sess != noSession) = true := by simpa using State.hasSess_lt hh.1
  rw [State.sess_settle, State.sessionWrite_done hh hw h100, State.reply_answer]
  simp [State.requestDone, State.when, hne, State.sess, State.updSess, State.setSess]

/-- Beyond the count of refused levels, the session, its answer and the balls it leaves what its action leaves. -/
theorem State.sessionWrite_leaves :
    (s.sessionWrite sess idx sub row b).settle.rest 10995116294220 = u.rest 10995116294220 ∧ ∀ f, f ≠ E.accessCntClearance → (s.sessionWrite sess idx sub row b).settle.st f = u.st f := by
  have hdone : (s.sessionWrite sess idx sub row b).rest 8796093022276 = (u.requestDone sess st).rest 8796093022276 := by
    rw [State.sessionWrite_done hh hw h100, State.reply_answer]
    rfl
  refine ⟨?_, fun f hf => ?_⟩
  · rw [State.settle_rest (by decide), State.rest_weaken (by decide) hdone, State.requestDone_rest (by decide)]
  · have hod : (s.sessionWrite sess idx sub row b).settle.od = (u.requestDone sess st).od := by
      rw [State.settle_od, State.sessionWrite_done hh hw h100, State.reply_answer]
    have hvar : (s.sessionWrite sess idx sub row b).settle.variant = (u.requestDone sess st).variant := by
      rw [State.settle_variant, State.sessionWrite_done hh hw h100, State.reply_answer]
    refine (State.st_of_od hvar hod f).trans ?_
    have hcount : ∀ c, (u.when c (·.count E.accessCntClearance)).st f = u.st f := fun c => by
      cases c
      · rfl
      · exact State.st_setRow_of_ne u _ (by simp only [okey]; omega)
    unfold State.requestDone
    generalize hv : u.when (st == 0x06) (·.count E.accessCntClearance) = v
    refine Eq.trans ?_ ((congrArg (fun t : State => t.st f) hv.symm).trans (hcount _))
    cases sess != noSession <;> rfl

end taken

theorem entryWrite_next {s : State} {sess e : Nat} {b : Bytes} (ht : s.takes sess e b = true) :
    s.entryWrite sess e b = .next (s.sessionWrite sess (e / 256) (e % 256) (s.cursorRow sess (e / 256)) b).settle := doneIf_present (State.accepts_serves ht).1

/-! ### Requests of a transition (R358) -/

theorem actsAtOnce_lifecycleRequest (v : Variant) : actsAtOnce v E.lifecycleRequest = true := by cases v <;> decide +kernel
theorem actsAtOnce_lifecycleConfirm (v : Variant) : actsAtOnce v E.lifecycleConfirm = true := by cases v <;> decide +kernel
theorem actsAtOnce_provisionBlob (v : Variant) : actsAtOnce v E.lifecycleProvisionBlob = true := by cases v <;> decide +kernel
theorem actsAtOnce_attestChallenge (v : Variant) : actsAtOnce v E.attestChallenge = true := by cases v <;> decide +kernel

theorem State.odAct_lifecycleRequest (s : State) (sess row : Nat) (b : Bytes) : s.odAct sess E.lifecycleRequest row b = s.requestLife sess (leNat b) := rfl
theorem State.odAct_lifecycleConfirm (s : State) (sess row : Nat) (b : Bytes) : s.odAct sess E.lifecycleConfirm row b = s.confirmLife sess (leNat b) := rfl
theorem State.odAct_provisionBlob (s : State) (sess row : Nat) (b : Bytes) : s.odAct sess E.lifecycleProvisionBlob row b = s.provisionWrite sess b := rfl
theorem State.odAct_attestChallenge (s : State) (sess row : Nat) (b : Bytes) : s.odAct sess E.attestChallenge row b = s.attest sess b := rfl

theorem State.requestLife_granted {s : State} {target : Nat} (hl : transitionLevel s.life.state target ≠ 0) (hc : s.life.change = none) (ht : s.safe.noTrng = false) (sess : Nat) :
    s.requestLife sess target =
      ({ s with life := { s.life with request := some ⟨sess, target, (Config.trng s.fresh).toNat % 2 ^ 32, s.clock.ticks⟩ }, fresh := s.fresh + 1 }, 0) := by
  simp [State.requestLife, hl, hc, ht, State.draw]

theorem State.requestLife_refused {s : State} {target : Nat} (h : transitionLevel s.life.state target = 0) (sess : Nat) :
    s.requestLife sess target = ({ s with life := { s.life with request := none } }, 0x0A) := by simp [State.requestLife, h]

theorem State.requestLife_status (s : State) (sess target : Nat) : (s.requestLife sess target).2 ≠ 0x100 := by
  unfold State.requestLife
  dsimp only
  split <;> simp

theorem lifecycleRequest_leads (s : State) (sess v : Nat) (ht : s.takes sess E.lifecycleRequest (toLE 1 v) = true) : s.leads (.lifecycleRequest sess v) (fun t =>
    (transitionLevel s.life.state (v % 256) ≠ 0 → s.life.change = none → s.safe.noTrng = false →
      t.life = { s.life with request := some ⟨sess, v % 256, (Config.trng s.fresh).toNat % 2 ^ 32, s.clock.ticks⟩ } ∧ t.fresh = s.fresh + 1 ∧ (t.sess sess).lastStatus = 0) ∧
    (transitionLevel s.life.state (v % 256) = 0 → t.life = { s.life with request := none } ∧ (t.sess sess).lastStatus = 0x0A) ∧
    t = { s with sessions := t.sessions, relays := t.relays, safe := t.safe, life := t.life, pins := t.pins, fresh := t.fresh, out := t.out }) := by
  have hh := State.accepts_serves ht
  have hbyte : leNat (toLE 1 v) = v % 256 := leNat_toLE 1 v
  have hw : s.odWrite sess (E.lifecycleRequest / 256) (E.lifecycleRequest % 256) (s.cursorRow sess (E.lifecycleRequest / 256)) (toLE 1 v) =
      ((s.requestLife sess (v % 256)).1, (s.requestLife sess (v % 256)).2) := by
    rw [← hbyte]
    exact (State.odWrite_acts ht (actsAtOnce_lifecycleRequest _)).trans (State.odAct_lifecycleRequest s sess _ _)
  have h100 := s.requestLife_status sess (v % 256)
  have hplain : (s.requestLife sess (v % 256)).2 ≠ 0x06 := by
    unfold State.requestLife
    dsimp only
    split <;> simp
  have hrest := State.sessionWrite_settled hh hw hplain h100
  have hstatus := State.sessionWrite_lastStatus hh hw h100
  have hlife := State.keep_life (State.rest_weaken (by decide) hrest)
  have hfresh := State.keep_fresh (State.rest_weaken (by decide) hrest)
  refine State.leads_of_exec (entryWrite_next ht) ⟨fun hl hc htrng => ?_, fun hl => ?_, State.eq_mix (fs := 15461882282056) ?_⟩
  · rw [State.requestLife_granted hl hc htrng] at hstatus hlife hfresh
    exact ⟨hlife, hfresh, hstatus⟩
  · rw [State.requestLife_refused hl] at hstatus hlife
    exact ⟨hlife, hstatus⟩
  · refine (State.rest_weaken (by decide) hrest).trans ?_
    unfold State.requestLife
    dsimp only
    split <;> rfl

/-! ### Confirmations and transitions (R358, R359) -/

theorem State.endSessions_life {s : State} (h : s.life.request = none) : s.endSessions.life = s.life := by
  unfold State.endSessions
  generalize List.range 12 = l
  induction l generalizing s with
  | nil => rfl
  | cons row l ih =>
    have hstaging : (s.releaseStaging row).life = s.life := State.keep_life (by simp)
    have hone : (s.endSession row).life = s.life := by
      unfold State.endSession
      dsimp only
      split
      · exact hstaging
      · show ({ (s.releaseStaging row).life with request := (s.releaseStaging row).life.request.filter _ } : Life) = s.life
        rw [hstaging, h]
        exact congrArg (fun r => { s.life with request := r }) h.symm
    exact (ih (by rw [hone, h])).trans hone

theorem State.lifeGo_life (s : State) (dst ap level : Nat) :
    (s.lifeGo dst ap level).life = s.life.enter dst ((s.fuses.transition s.life.state dst).agreeing dst) s.clock.xrtc (60 * s.cfg E.lifecycleServiceTimeout) := by
  unfold State.lifeGo
  dsimp only
  rw [State.keep_life (State.purgeKeys_rest (by decide) _)]
  generalize hu : State.when _ _ State.chainOver = u
  have hlife : u.life = s.life.enter dst ((s.fuses.transition s.life.state dst).agreeing dst) s.clock.xrtc (60 * s.cfg E.lifecycleServiceTimeout) := by
    rw [← hu]
    refine (State.keep_life (s := ({ s with
      fuses := s.fuses.transition s.life.state dst
      life := s.life.enter dst ((s.fuses.transition s.life.state dst).agreeing dst) s.clock.xrtc (60 * s.cfg E.lifecycleServiceTimeout) } : State)) ?_).trans rfl
    simp
  exact (State.endSessions_life (by rw [hlife]; rfl)).trans hlife

theorem State.lifeRecord_st (s : State) (before after copies ap level : Nat) {e : Nat} (he : e / 65536 ≠ 0x32) : (s.lifeRecord before after copies ap level).st e = s.st e := by
  unfold State.lifeRecord
  exact ((State.EvidenceStep.requestD0 s _).trans (State.EvidenceStep.flushQueue _)).entry e he

theorem State.lifeGo_st (s : State) (dst ap level : Nat) {e : Nat} (he : e / 65536 ≠ 0x32) : (s.lifeGo dst ap level).st e = s.st e := by
  have herased : ∀ {u v : State}, v.rest 120259119104 = u.rest 120259119104 → v.st e = u.st e := fun h =>
    State.st_of_od (State.keep_variant (State.rest_weaken (by decide) h)) (State.keep_od (State.rest_weaken (by decide) h)) e
  unfold State.lifeGo
  dsimp only
  refine (herased (State.purgeKeys_rest (by decide) _)).trans (((State.EvidenceStep.endSessions _).entry e he).trans ?_)
  have hclosed : ∀ (u : State) (c : Bool), (u.when c State.chainOver).st e = u.st e := fun u c => by cases c <;> rfl
  refine (hclosed _ _).trans (((State.EvidenceStep.trigger _ 4).entry e he).trans ((State.lifeRecord_st _ _ _ _ _ _ he).trans ?_))
  split
  · exact herased ((State.eraseRecords_rest (by decide) _ _).trans rfl)
  · exact herased ((State.when_rest _ _ _ (fun u => State.eraseRecords_rest (by decide) u _)).trans rfl)

section confirm
variable {s : State} {r : LifeRequest} {sess token : Nat} (hr : s.life.request = some r)
include hr

theorem State.confirmLife_wrong (h : r.token ≠ token ∨ r.sess ≠ sess ∨ msTicks 10000 < s.clock.ticks - r.since) :
    s.confirmLife sess token = ({ s with life := { s.life with request := none } }.set E.lifecycleLastResult 0x0A, 0x0A) := by
  have hwrong : (r.sess != sess || r.token != token || decide (msTicks 10000 < s.clock.ticks - r.since)) = true := by
    simp only [Bool.or_eq_true, bne_iff_ne, decide_eq_true_eq]
    tauto
  simp [State.confirmLife, hr, hwrong]

variable (hs : r.sess = sess) (htoken : r.token = token) (htime : s.clock.ticks - r.since ≤ msTicks 10000)
include hs htoken htime

theorem State.confirmLife_refused (hst : s.confirmStatus r (s.sessLevel sess) ≠ 0) :
    s.confirmLife sess token = (s.set E.lifecycleLastResult (s.confirmStatus r (s.sessLevel sess)), s.confirmStatus r (s.sessLevel sess)) := by
  simp [State.confirmLife, hr, hs, htoken, Nat.not_lt.mpr htime, hst]

theorem State.confirmLife_begins (hst : s.confirmStatus r (s.sessLevel sess) = 0) :
    s.confirmLife sess token = ((s.set E.lifecycleLastResult 0).lifeStart r.target (apCode sess) (s.sessLevel sess), 0) := by
  simp [State.confirmLife, hr, hs, htoken, Nat.not_lt.mpr htime, hst]

end confirm

theorem State.confirmLife_status (s : State) (sess token : Nat) : (s.confirmLife sess token).2 ≠ 0x100 := by
  have hstatus : ∀ r l, s.confirmStatus r l ≠ 0x100 := fun r l => by
    unfold State.confirmStatus
    split_ifs <;> decide
  unfold State.confirmLife
  dsimp only
  split
  · simp
  next r _ =>
    split_ifs
    · simp
    · simp
    · exact hstatus r _

theorem lifecycleConfirm_leads (s : State) (sess : Nat) (value : Bytes) (r : LifeRequest) (ht : s.takes sess E.lifecycleConfirm value = true) (hr : s.life.request = some r) :
    s.leads (.lifecycleConfirm sess value) (fun t =>
      (r.sess = sess → r.token = leNat value → s.clock.ticks - r.since ≤ msTicks 10000 → s.confirmStatus r (s.sessLevel sess) = 0 → s.ev.nextSeal < sealNumbers →
        t.life = { s.life with change := some ⟨r.target, apCode sess, s.sessLevel sess⟩, request := none } ∧ t.fuses = s.fuses ∧ t.st E.lifecycleLastResult = 0 ∧ (t.sess sess).lastStatus = 0) ∧
      (r.sess = sess → r.token = leNat value → s.clock.ticks - r.since ≤ msTicks 10000 → s.confirmStatus r (s.sessLevel sess) = 0 → sealNumbers ≤ s.ev.nextSeal →
        t.life = s.life.enter r.target ((s.fuses.transition s.life.state r.target).agreeing r.target) s.clock.xrtc (60 * s.cfg E.lifecycleServiceTimeout) ∧
        t.fuses = s.fuses.transition s.life.state r.target ∧ t.st E.lifecycleLastResult = 0) ∧
      (r.token ≠ leNat value ∨ r.sess ≠ sess ∨ msTicks 10000 < s.clock.ticks - r.since → t.life = { s.life with request := none } ∧ t.fuses = s.fuses ∧ t.st E.lifecycleLastResult = 0x0A ∧ (t.sess sess).lastStatus = 0x0A) ∧
      (r.sess = sess → r.token = leNat value → s.clock.ticks - r.since ≤ msTicks 10000 → s.confirmStatus r (s.sessLevel sess) ≠ 0 → t.life = s.life ∧ t.fuses = s.fuses ∧
        t.st E.lifecycleLastResult = s.confirmStatus r (s.sessLevel sess) ∧ (t.sess sess).lastStatus = s.confirmStatus r (s.sessLevel sess)) ∧
      t = { s with od := t.od, sessions := t.sessions, relays := t.relays, lockHolder := t.lockHolder, commit := t.commit, ev := t.ev, safe := t.safe, dies := t.dies, mram := t.mram, intc := t.intc, keys := t.keys, fuses := t.fuses, life := t.life, pins := t.pins, out := t.out }) := by
  have hh := State.accepts_serves ht
  have hw : s.odWrite sess (E.lifecycleConfirm / 256) (E.lifecycleConfirm % 256) (s.cursorRow sess (E.lifecycleConfirm / 256)) value =
      ((s.confirmLife sess (leNat value)).1, (s.confirmLife sess (leNat value)).2) :=
    (State.odWrite_acts ht (actsAtOnce_lifecycleConfirm _)).trans (State.odAct_lifecycleConfirm s sess _ _)
  have h100 := s.confirmLife_status sess (leNat value)
  obtain ⟨hrest, hst⟩ := State.sessionWrite_leaves hh hw h100
  have hstatus := State.sessionWrite_lastStatus hh hw h100
  have hlife := State.keep_life (State.rest_weaken (by decide) hrest)
  have hfuses := State.keep_fuses (State.rest_weaken (by decide) hrest)
  have hresult := hst E.lifecycleLastResult (by decide)
  refine State.leads_of_exec (entryWrite_next ht) ⟨fun hs htoken htime hok hseal => ?_, fun hs htoken htime hok hseal => ?_, fun hwrong => ?_, fun hs htoken htime hbad => ?_, State.eq_mix (fs := 11115979393484) ?_⟩
  · rw [State.confirmLife_begins hr hs htoken htime hok, State.lifeStart_sealed (s := s.set E.lifecycleLastResult 0) hseal] at hstatus hlife hfuses hresult
    refine ⟨hlife.trans (State.keep_life (State.trigger_rest (by decide) _ 4)), hfuses.trans (State.keep_fuses (State.trigger_rest (by decide) _ 4)), hresult.trans ?_, hstatus⟩
    exact ((State.EvidenceStep.trigger _ 4).entry E.lifecycleLastResult (by decide)).trans (State.st_set s _ 0)
  · rw [State.confirmLife_begins hr hs htoken htime hok, State.lifeStart_unsealed (s := s.set E.lifecycleLastResult 0) hseal] at hlife hfuses hresult
    exact ⟨hlife.trans (State.lifeGo_life _ _ _ _), hfuses.trans (State.lifeGo_fuses _ _ _ _), hresult.trans ((State.lifeGo_st _ _ _ _ (by decide)).trans (State.st_set s _ 0))⟩
  · rw [State.confirmLife_wrong hr hwrong] at hstatus hlife hfuses hresult
    exact ⟨hlife, hfuses, hresult.trans (State.st_set _ _ _), hstatus⟩
  · rw [State.confirmLife_refused hr hs htoken htime hbad] at hstatus hlife hfuses hresult
    exact ⟨hlife, hfuses, hresult.trans (State.st_set _ _ _), hstatus⟩
  · exact (State.rest_weaken (by decide) hrest).trans (State.confirmLife_rest (by decide) s sess _)

/-! ### Provisioning (R370, R371) -/

/-- The fuses after a provisioning: the roots and the first bit of each copy (R371). -/
def State.provisioned (s : State) (roots : Bytes) : Fuses :=
  { s.fuses with
    mfgRoot := leNat ((roots.drop 0).take 32), fieldRoot := leNat ((roots.drop (32 * 1)).take 32), serviceRoot := leNat ((roots.drop (32 * 2)).take 32), rootsWritten := true,
    seed := if s.fuses.seedWritten then s.fuses.seed else (Config.trng s.fresh).toNat + 2 ^ 256 * ((Config.trng (s.fresh + 1)).toNat % 2 ^ 128), seedWritten := true }.transition 0 1

/-- What a provisioning does before its record: fuses, the life cycle and the opened chain (R371). -/
def State.provisionBegun (s : State) (roots : Bytes) : State :=
  ((({ s.draw.draw with fuses := s.provisioned roots, life := s.life.enter 1 ((s.provisioned roots).agreeing 1) s.clock.xrtc 0 } : State).set E.identityHssPublicKey
    (leNat (hssPublic (s.provisioned roots).identity))).set E.commitGeneration 0).openChain

/-- Its LIFECYCLE record. -/
def State.provisionRecord (s : State) (roots : Bytes) (ap level : Nat) : EvReq :=
  (s.provisionBegun roots).evReq 0 0x19 0 [0, 1, BitVec.ofNat 8 ((s.provisioned roots).agreeing 1), BitVec.ofNat 8 ap, BitVec.ofNat 8 level]

/-- The record is appended, and the state of the life cycle stands in MRAM. -/
def State.provisionAppended (s : State) (roots : Bytes) (ap level : Nat) : State :=
  let u := (s.provisionBegun roots).append (s.provisionRecord roots ap level)
  { u with mram := { u.mram with lifecycle := 1, lifecycleCopies := (s.provisioned roots).agreeing 1 } }

theorem State.provision_eq (s : State) (roots : Bytes) (ap level : Nat) : s.provision roots ap level = ((s.provisionAppended roots ap level).trigger 4).endSessions := rfl

theorem State.provision_leaves (s : State) (roots : Bytes) (ap level : Nat) :
    (s.provision roots ap level).fuses = s.provisioned roots ∧ (s.provision roots ap level).life = s.life.enter 1 ((s.provisioned roots).agreeing 1) s.clock.xrtc 0 ∧
    (s.provision roots ap level).ev.chainOpen = true ∧ (s.provision roots ap level).mram.lifecycle = 1 ∧ (s.provision roots ap level).st E.commitGeneration = 0 := by
  have hend : (s.provisionAppended roots ap level).EvidenceStep (s.provision roots ap level) := (State.EvidenceStep.trigger _ 4).trans (State.EvidenceStep.endSessions _)
  have happend := State.EvidenceStep.append (s.provisionBegun roots) (s.provisionRecord roots ap level)
  have hfuses : (s.provisionAppended roots ap level).fuses = s.provisioned roots := State.keep_fuses (s := s.provisionBegun roots) (State.append_rest (by decide) _ _)
  have hlife : (s.provisionAppended roots ap level).life = s.life.enter 1 ((s.provisioned roots).agreeing 1) s.clock.xrtc 0 :=
    State.keep_life (s := s.provisionBegun roots) (State.append_rest (by decide) _ _)
  have htrigger : ((s.provisionAppended roots ap level).trigger 4).life = s.life.enter 1 ((s.provisioned roots).agreeing 1) s.clock.xrtc 0 :=
    (State.keep_life (State.trigger_rest (by decide) _ 4)).trans hlife
  refine ⟨?_, ?_, hend.chainOpen.trans (happend.chainOpen.trans rfl), hend.lifecycle, ?_⟩
  · rw [State.provision_eq, State.keep_fuses (State.endSessions_rest (by decide) _), State.keep_fuses (State.trigger_rest (by decide) _ 4), hfuses]
  · rw [State.provision_eq]
    exact (State.endSessions_life (by rw [htrigger]; rfl)).trans htrigger
  · have hopened : ∀ u : State, (u.set E.commitGeneration 0).openChain.st E.commitGeneration = 0 := fun u => State.st_set u _ 0
    exact (hend.entry E.commitGeneration (by decide)).trans ((happend.entry E.commitGeneration (by decide)).trans (hopened _))

/-- How many of the root keys a blob must repeat: those burnt (R371). -/
def Fuses.rootsBurnt (f : Fuses) : Nat := if f.rootsWritten = true then 3 else min 3 f.burnt

theorem State.provisionWrite_eq (s : State) (sess : Nat) (b : Bytes) :
    s.provisionWrite sess b =
      if s.life.state ≠ 0 then (s, 0x0A)
      else if (s.safe.noAes || s.safe.noSha) = true then (s, 0x37)
      else if s.safe.noTrng = true then (s, 0x0A)
      else match s.fuses.openBlob b with
        | none => (s, 0x0A)
        | some roots => if leNat (roots.take (32 * s.fuses.rootsBurnt)) ≠ s.fuses.rootsHeld s.fuses.rootsBurnt then (s, 0x0A) else (s.provision roots (apCode sess) (s.sessLevel sess), 0) := by
  have hn : min 3 (if s.fuses.rootsWritten = true then 3 else s.fuses.burnt) = s.fuses.rootsBurnt := by
    unfold Fuses.rootsBurnt
    split <;> rfl
  unfold State.provisionWrite
  dsimp only
  rw [hn]
  generalize s.fuses.rootsHeld s.fuses.rootsBurnt = held
  simp only [bne_iff_ne] <;> rfl

theorem State.provisionWrite_status (s : State) (sess : Nat) (b : Bytes) : (s.provisionWrite sess b).2 ≠ 0x06 ∧ (s.provisionWrite sess b).2 ≠ 0x100 := by
  rw [State.provisionWrite_eq]
  split
  · simp
  · split
    · simp
    · split
      · simp
      · split
        · simp
        · split <;> simp

/-- A blob that is not taken burns nothing (R370). -/
theorem State.provisionWrite_refused {s : State} {b : Bytes} (sess : Nat)
    (h : s.life.state ≠ 0 ∨ s.fuses.openBlob b = none ∨ ∃ roots, s.fuses.openBlob b = some roots ∧ leNat (roots.take (32 * s.fuses.rootsBurnt)) ≠ s.fuses.rootsHeld s.fuses.rootsBurnt) :
    (s.provisionWrite sess b).1 = s ∧ (s.provisionWrite sess b).2 ≠ 0 := by
  rw [State.provisionWrite_eq]
  split
  · exact ⟨rfl, by simp⟩
  next hstate =>
    split
    · exact ⟨rfl, by simp⟩
    · split
      · exact ⟨rfl, by simp⟩
      · obtain h | h | ⟨roots, hopen, hroots⟩ := h
        · exact absurd h hstate
        · rw [h]
          exact ⟨rfl, by simp⟩
        · rw [hopen]
          dsimp only
          rw [if_pos hroots]
          exact ⟨rfl, by simp⟩

theorem State.provisionWrite_taken {s : State} {b roots : Bytes} (sess : Nat) (hstate : s.life.state = 0) (haes : s.safe.noAes = false) (hsha : s.safe.noSha = false) (htrng : s.safe.noTrng = false)
    (hopen : s.fuses.openBlob b = some roots) (hroots : leNat (roots.take (32 * s.fuses.rootsBurnt)) = s.fuses.rootsHeld s.fuses.rootsBurnt) :
    s.provisionWrite sess b = (s.provision roots (apCode sess) (s.sessLevel sess), 0) := by
  rw [State.provisionWrite_eq, if_neg (not_not.mpr hstate), if_neg (by simp [haes, hsha]), if_neg (by simp [htrng]), hopen]
  exact if_neg (not_not.mpr hroots)

theorem provisionBlob_leads (s : State) (sess : Nat) (blob : Bytes) (ht : s.takes sess E.lifecycleProvisionBlob blob = true) : s.leads (.provisionBlob sess blob) (fun t =>
    (∀ roots n, s.life.state = 0 → s.safe.noAes = false → s.safe.noSha = false → s.safe.noTrng = false → s.fuses.openBlob blob = some roots →
      n = (if s.fuses.rootsWritten = true then 3 else min 3 s.fuses.burnt) → leNat (roots.take (32 * n)) = s.fuses.rootsHeld n →
      t.life = s.life.enter 1 (t.fuses.agreeing 1) s.clock.xrtc 0 ∧ t.fuses.mfgRoot = leNat (roots.take 32) ∧ t.fuses.fieldRoot = leNat ((roots.drop 32).take 32) ∧
      t.fuses.serviceRoot = leNat ((roots.drop 64).take 32) ∧ t.fuses.rootsWritten = true ∧ t.fuses.copy1 = s.fuses.copy1 ||| 1 ∧ t.fuses.copy2 = s.fuses.copy2 ||| 1 ∧
      t.fuses.copy3 = s.fuses.copy3 ||| 1 ∧ t.ev.chainOpen = true ∧ t.mram.lifecycle = 1 ∧ t.st E.commitGeneration = 0 ∧ (t.sess sess).lastStatus = 0) ∧
    (s.life.state ≠ 0 ∨ s.fuses.openBlob blob = none → t.life = s.life ∧ t.fuses = s.fuses ∧ (t.sess sess).lastStatus ≠ 0) ∧
    (∀ roots n, s.fuses.openBlob blob = some roots → n = (if s.fuses.rootsWritten = true then 3 else min 3 s.fuses.burnt) → leNat (roots.take (32 * n)) ≠ s.fuses.rootsHeld n →
      t.life = s.life ∧ t.fuses = s.fuses ∧ (t.sess sess).lastStatus ≠ 0) ∧
    t = { s with od := t.od, sessions := t.sessions, relays := t.relays, lockHolder := t.lockHolder, commit := t.commit, ev := t.ev, safe := t.safe, dies := t.dies, mram := t.mram, intc := t.intc, fuses := t.fuses, life := t.life, pins := t.pins, fresh := t.fresh, out := t.out }) := by
  have hh := State.accepts_serves ht
  have hw : s.odWrite sess (E.lifecycleProvisionBlob / 256) (E.lifecycleProvisionBlob % 256) (s.cursorRow sess (E.lifecycleProvisionBlob / 256)) blob =
      ((s.provisionWrite sess blob).1, (s.provisionWrite sess blob).2) :=
    (State.odWrite_acts ht (actsAtOnce_provisionBlob _)).trans (State.odAct_provisionBlob s sess _ _)
  obtain ⟨h6, h100⟩ := s.provisionWrite_status sess blob
  obtain ⟨-, hst⟩ := State.sessionWrite_leaves hh hw h100
  have hrest := State.sessionWrite_settled hh hw h6 h100
  have hstatus := State.sessionWrite_lastStatus hh hw h100
  have hlife := State.keep_life (State.rest_weaken (by decide) hrest)
  have hfuses := State.keep_fuses (State.rest_weaken (by decide) hrest)
  have hev := State.keep_ev (State.rest_weaken (by decide) hrest)
  have hmram := State.keep_mram (State.rest_weaken (by decide) hrest)
  have hgen := hst E.commitGeneration (by decide)
  refine State.leads_of_exec (entryWrite_next ht) ⟨fun roots n hstate haes hsha htrng hopen hn hroots => ?_, fun hbad => ?_, fun roots n hopen hn hroots => ?_, State.eq_mix (fs := 15496846035404) ?_⟩
  · subst hn
    rw [State.provisionWrite_taken sess hstate haes hsha htrng hopen hroots] at hstatus hlife hfuses hev hmram hgen
    obtain ⟨pfuses, plife, popen, plc, pgen⟩ := s.provision_leaves roots (apCode sess) (s.sessLevel sess)
    rw [hlife, hfuses, hev, hmram, hgen, plife, pfuses]
    exact ⟨rfl, rfl, rfl, rfl, rfl, rfl, rfl, rfl, popen, plc, pgen, hstatus⟩
  · obtain ⟨hsame, hne⟩ := State.provisionWrite_refused sess (s := s) (b := blob) (hbad.imp_right .inl)
    rw [hsame] at hlife hfuses
    exact ⟨hlife, hfuses, by rwa [hstatus]⟩
  · subst hn
    obtain ⟨hsame, hne⟩ := State.provisionWrite_refused sess (s := s) (b := blob) (.inr (.inr ⟨roots, hopen, hroots⟩))
    rw [hsame] at hlife hfuses
    exact ⟨hlife, hfuses, by rwa [hstatus]⟩
  · exact (State.rest_weaken (by decide) hrest).trans (State.provisionWrite_rest (by decide) s sess blob)

/-! ### Attestation (R372, R373) -/

theorem State.attest_answered {s : State} {slot : Nat} (sess : Nat) (b : Bytes) (hlo : 1 ≤ s.life.state) (hhi : s.life.state ≤ 3) (hsha : s.safe.noSha = false)
    (hrecent : (s.life.challenges.filter (fun x => s.clock.ticks - x < 40000000)).length < 10) (hslot : slot < 256) (hfits : s.attestFits (s.live sess E.attestRelation) slot = true)
    (hlow : ∀ k, k < slot → s.attestFits (s.live sess E.attestRelation) k = false) :
    s.attest sess b =
      ((({ s with life := { s.life with challenges := s.clock.ticks :: s.life.challenges.filter (fun x => s.clock.ticks - x < 40000000) } } : State).setLive sess E.attestResponse
        (leNat (s.attestBody (s.live sess E.attestRelation) slot ++ bytes256 (Config.hmacSha256 (s.keyBytes slot) (b ++ s.attestBody (s.live sess E.attestRelation) slot))))).count E.attestCntResponses, 0) := by
  have hfind : s.attestSlot (s.live sess E.attestRelation) = some slot := by
    unfold State.attestSlot
    rw [List.find?_range_eq_some]
    exact ⟨hfits, List.mem_range.mpr hslot, fun k hk => by simp [hlow k hk]⟩
  unfold State.attest
  dsimp only
  rw [hfind]
  simp [hlo, hhi, hsha, Nat.not_le.mpr hrecent]

theorem State.attest_excess {s : State} (sess : Nat) (b : Bytes) (h : 10 ≤ (s.life.challenges.filter (fun x => s.clock.ticks - x < 40000000)).length) :
    ∃ st, s.attest sess b = s.attestRefused st ∧ st ≠ 0 := by
  unfold State.attest
  dsimp only
  split_ifs
  · exact ⟨_, rfl, by decide⟩
  · exact ⟨_, rfl, by decide⟩
  · exact ⟨_, rfl, by decide⟩

theorem State.attest_status (s : State) (sess : Nat) (b : Bytes) : (s.attest sess b).2 ≠ 0x06 ∧ (s.attest sess b).2 ≠ 0x100 := by
  unfold State.attest State.attestRefused
  dsimp only
  split_ifs
  · simp
  · simp
  · simp
  · split <;> simp

theorem attestChallenge_leads (s : State) (sess : Nat) (b : Bytes) (ht : s.takes sess E.attestChallenge b = true) : s.leads (.attestChallenge sess b) (fun t =>
    (∀ slot, 1 ≤ s.life.state → s.life.state ≤ 3 → s.safe.noSha = false → (s.life.challenges.filter (fun x => s.clock.ticks - x < 40000000)).length < 10 →
      slot < 256 → s.attestFits (s.live sess E.attestRelation) slot = true → (∀ k, k < slot → s.attestFits (s.live sess E.attestRelation) k = false) →
      t.live sess E.attestResponse = leNat (s.attestBody (s.live sess E.attestRelation) slot ++
        bytes256 (Config.hmacSha256 (s.keyBytes slot) (b ++ s.attestBody (s.live sess E.attestRelation) slot))) ∧
      t.life = { s.life with challenges := s.clock.ticks :: s.life.challenges.filter (fun x => s.clock.ticks - x < 40000000) } ∧ (t.sess sess).lastStatus = 0) ∧
    (10 ≤ (s.life.challenges.filter (fun x => s.clock.ticks - x < 40000000)).length → t.life = s.life ∧ (t.sess sess).lastStatus ≠ 0) ∧
    t = { s with od := t.od, sessions := t.sessions, relays := t.relays, safe := t.safe, life := t.life, pins := t.pins, out := t.out }) := by
  have hh := State.accepts_serves ht
  have hw : s.odWrite sess (E.attestChallenge / 256) (E.attestChallenge % 256) (s.cursorRow sess (E.attestChallenge / 256)) b = ((s.attest sess b).1, (s.attest sess b).2) :=
    (State.odWrite_acts ht (actsAtOnce_attestChallenge _)).trans (State.odAct_attestChallenge s sess _ _)
  obtain ⟨h6, h100⟩ := s.attest_status sess b
  have hrest := State.sessionWrite_settled hh hw h6 h100
  have hstatus := State.sessionWrite_lastStatus hh hw h100
  have hlive := State.sessionWrite_live hh hw h6 h100 E.attestResponse
  have hlife := State.keep_life (State.rest_weaken (by decide) hrest)
  refine State.leads_of_exec (entryWrite_next ht) ⟨fun slot hlo hhi hsha hrecent hslot hfits hlow => ?_, fun hexcess => ?_, State.eq_mix (fs := 11063835770956) ?_⟩
  · rw [State.attest_answered sess b hlo hhi hsha hrecent hslot hfits hlow] at hstatus hlive hlife
    have hcount : ∀ u : State, (u.count E.attestCntResponses).live sess E.attestResponse = u.live sess E.attestResponse := fun _ => rfl
    exact ⟨hlive.trans ((hcount _).trans (State.live_setLive _ _ _ _)), hlife, hstatus⟩
  · obtain ⟨st, heq, hne⟩ := State.attest_excess sess b hexcess
    rw [heq] at hstatus hlife
    exact ⟨hlife, fun h => hne (hstatus.symm.trans h)⟩
  · exact (State.rest_weaken (by decide) hrest).trans (State.attest_rest (by decide) s sess b)

/-- Settles O44: each write by its outcome; the later steps of a transition and of a provisioning leave what it burnt and answered (R355, R359, R371). -/
theorem lifeCycleWrites : Obligations.LifeCycleWrites := by
  unfold Obligations.LifeCycleWrites
  exact fun s sess => ⟨fun v ht => lifecycleRequest_leads s sess v ht, fun value r ht hr => lifecycleConfirm_leads s sess value r ht hr, fun blob ht => provisionBlob_leads s sess blob ht,
    fun b ht => attestChallenge_leads s sess b ht⟩

end Sys2Proof.Machine
end

section
/-! The register map: SRAM, aliases, latched reads, DISABLING and parity (R397 to R404). -/

namespace Sys2Proof.Machine
open Sys2Proof
set_option Elab.async false

/-! ### A block's common bits -/

@[simp] theorem State.blockOf_updBlock (s : State) (n : Nat) (b : BlockId) (f : Block → Block) : (s.updBlock n b f).blockOf n b = f (s.blockOf n b) := by
  cases b <;> simp [State.blockOf, State.updBlock]

theorem State.updBlock_appsElse (s : State) (n : Nat) (b : BlockId) (f : Block → Block) : (s.updBlock n b f).appsElse s n := by
  cases b with
  | intc => exact fun _ _ => rfl
  | sys => exact State.appsElse_updApp s n _
  | mbx => exact State.appsElse_updApp s n _
  | bridge => exact State.appsElse_updApp s n _
  | cap => exact State.appsElse_updApp s n _
  | qp k => exact State.appsElse_updApp s n _
  | timer t => exact State.appsElse_updApp s n _
  | pin p => exact State.appsElse_updApp s n _

@[simp] theorem State.blockOf_settle (s : State) (n : Nat) (b : BlockId) : s.settle.blockOf n b = s.blockOf n b := by
  cases b <;> simp [State.blockOf, State.app, State.qp, State.intcTarget]

/-! ### CTRL registers -/

theorem State.app_qp (s : State) (n k : Nat) : (s.app n).qp k = s.qp n k := rfl

/-- What reading a CTRL register shows of its block is EN alone (Table 14-2). -/
theorem State.regPeek_updBlock_ctrl (s : State) (n core who : Nat) {r : Reg} {id : BlockId} {f : Block → Block} (hr : r.ctrlOf = some id) (hf : (f (s.blockOf n id)).en = (s.blockOf n id).en) :
    (s.updBlock n id f).regPeek n core who r = s.regPeek n core who r := by
  cases r <;> cases hr <;> simp only [State.blockOf] at hf <;> simp [State.regPeek, State.updBlock, hf, State.app_qp, Qp.ctrlWord]

/-- Cfg registers other than CTRL show nothing of their block. -/
theorem State.regPeek_updBlock_cfg (s : State) (n core who : Nat) {r : Reg} {id : BlockId} (f : Block → Block) (hcfg : r.isCfg = true) (hctrl : r.ctrlOf = none) (hr : r.block = some id) :
    (s.updBlock n id f).regPeek n core who r = s.regPeek n core who r := by
  cases r <;> simp [Reg.isCfg] at hcfg <;> simp [Reg.ctrlOf] at hctrl <;> cases hr <;> simp [State.regPeek, State.updBlock, State.app_qp]

theorem flags_bits (a b c : Bool) : bitAt (flag a 2 + flag b 1 + flag c 0) 0 = c ∧ bitAt (flag a 2 + flag b 1 + flag c 0) 1 = b ∧ bitAt (flag a 2 + flag b 1 + flag c 0) 2 = a := by
  revert a b c
  decide

theorem flags_low (a b : Bool) : bitAt (flag a 1 + flag b 0) 0 = b ∧ bitAt (flag a 1 + flag b 0) 1 = a := by
  revert a b
  decide

theorem bitAt_flag (a : Bool) : bitAt (flag a 0) 0 = a := by cases a <;> rfl

/-- The word of a PINS_CTRL register (Table 14-7). -/
def Pin.ctrlWord (x : Pin) : Nat := x.timer * 256 + x.slew * 64 + x.pull * 16 + x.func * 2 + flag x.blk.en 0

theorem bitAt_even_add_flag (k : Nat) (a : Bool) : bitAt (k * 2 + flag a 0) 0 = a := by
  cases a <;> simp [bitAt, flag, Nat.add_mod]

theorem Pin.ctrlWord_en (x : Pin) : bitAt x.ctrlWord 0 = x.blk.en := by
  have h : x.ctrlWord = (x.timer * 128 + x.slew * 32 + x.pull * 8 + x.func) * 2 + flag x.blk.en 0 := by unfold Pin.ctrlWord; omega
  rw [h, bitAt_even_add_flag]

/-- Bit 0 of a CTRL register is its block's EN (R398). -/
theorem State.regPeek_ctrl_en (s : State) (n core who : Nat) {r : Reg} {id : BlockId} (hr : r.ctrlOf = some id) : bitAt (s.regPeek n core who r) 0 = (s.blockOf n id).en := by
  cases r <;> cases hr
  case sysCtrl => exact bitAt_flag _
  case intcCtrl => exact bitAt_flag _
  case brCtrl => exact bitAt_flag _
  case capCtrl => exact bitAt_flag _
  case tmrCtrl t => exact (flags_bits _ _ _).1
  case mbxCtrl => exact (flags_low _ _).1
  case qpCtrl k => exact (Qp.ctrlWord_bits _ _).1
  case pinCtrl p => exact Pin.ctrlWord_en _

/-- The fields of a PINS_CTRL word, at their widths, are the word without EN (Table 14-7). -/
theorem pinFields_sum (v : Nat) : bitsOf v 11 8 * 256 + bitsOf v 7 6 * 64 + bitsOf v 5 4 * 16 + bitsOf v 3 1 * 2 + v % 2 = v % 4096 := by
  simp only [bitsOf]
  omega

theorem bitAt_of_rwMask {m k b : Nat} (hm : m = 2 ^ k - 1) (h : bitAt m b = true) : b < k := by
  rw [bitAt_eq_testBit, hm, Nat.testBit_two_pow_sub_one] at h
  simpa using h

/-! ### A CTRL word while the block is off (R398, R402) -/

theorem Block.ctrl_off {b : Block} (h : b.en = false) (changed : Bool) : b.ctrl false changed = ({ b with again := false }, .fields) := by simp [Block.ctrl, h]

/-- Registers whose writes act on a timer or a pin of the application pair alone. -/
theorem State.foreign_timer {s : State} {n owner t : Nat} (h : s.foreign n owner (.timer t) = false) : ((s.app n).timer t).owner = owner := by simpa [State.foreign] using h
theorem State.foreign_pin {s : State} {n owner p : Nat} (h : s.foreign n owner (.pin p) = false) : ((s.app n).pin p).owner = owner := by simpa [State.foreign] using h

section off
variable {s : State} {n who v : Nat}

theorem State.timerCtrl_fields {t : Nat} (ho : ((s.app n).timer t).owner = 2) (he : ((s.app n).timer t).blk.en = false) (hv : bitAt v 0 = false) :
    s.timerCtrl n t 2 v = s.updTimer n t (fun x => { x with blk := { ((s.app n).timer t).blk with again := false }, ie := bitAt v 2, periodic := bitAt v 1 }) := by
  simp [State.timerCtrl, ho, hv, Block.ctrl_off he]

theorem State.pinCtrl_fields {p : Nat} (ho : ((s.app n).pin p).owner = 2) (he : ((s.app n).pin p).blk.en = false) (hv : bitAt v 0 = false) :
    s.pinCtrl n p 2 v = s.updPin n p (fun x => { x with blk := { ((s.app n).pin p).blk with again := false }, timer := bitsOf v 11 8, slew := bitsOf v 7 6, pull := bitsOf v 5 4, func := bitsOf v 3 1 }) := by
  simp [State.pinCtrl, ho, hv, Block.ctrl_off he]

theorem State.qpCtrl_fields {k : Nat} (he : (s.qp n k).blk.en = false) (hv : bitAt v 0 = false) :
    s.qpCtrl n k v = s.updQp n k (fun q => { q with blk := { (s.qp n k).blk with again := false }, itemIe := bitAt v 3, holdIe := bitAt v 2, txIe := bitAt v 1 }) := by
  simp [State.qpCtrl, hv, Block.ctrl_off he]

theorem State.mbxCtrl_fields (he : (s.app n).mbx.blk.en = false) (hv : bitAt v 0 = false) :
    s.mbxCtrl n v = s.updApp n (fun a => { a with mbx := { a.mbx with blk := { (s.app n).mbx.blk with again := false }, ie := bitAt v 1 } }) := by
  simp [State.mbxCtrl, hv, Block.ctrl_off he]

/-- A CTRL word with EN 0 to a block that is off sets its Cfg fields, and the block stays off. -/
theorem State.regWrite_ctrl_off {r : Reg} {id : BlockId} {b : Nat} (hr : r.ctrlOf = some id) (hb : bitAt r.rwMask b = true) (h0 : 0 < b) (hf : s.foreign n 2 id = false)
    (he : (s.blockOf n id).en = false) (hv : bitAt v 0 = false) :
    bitAt ((s.regWrite n 1 who r v).regPeek n 1 who r) b = bitAt v b ∧ ((s.regWrite n 1 who r v).blockOf n id).en = false ∧ (s.regWrite n 1 who r v).appsElse s n := by
  cases r <;> cases hr
  case sysCtrl => exact absurd (bitAt_of_rwMask (k := 1) rfl hb) (by omega)
  case intcCtrl => exact absurd (bitAt_of_rwMask (k := 1) rfl hb) (by omega)
  case brCtrl => exact absurd (bitAt_of_rwMask (k := 1) rfl hb) (by omega)
  case capCtrl => exact absurd (bitAt_of_rwMask (k := 1) rfl hb) (by omega)
  case tmrCtrl t =>
    have hlt : b < 3 := bitAt_of_rwMask (k := 3) rfl hb
    have hw : s.regWrite n 1 who (.tmrCtrl t) v = s.timerCtrl n t 2 v := rfl
    rw [hw, State.timerCtrl_fields (State.foreign_timer hf) he hv]
    refine ⟨?_, ?_, State.appsElse_updApp s n _⟩
    · have hpeek : ∀ u : State, u.regPeek n 1 who (.tmrCtrl t) = flag ((u.app n).timer t).ie 2 + flag ((u.app n).timer t).periodic 1 + flag ((u.app n).timer t).blk.en 0 := fun _ => rfl
      rw [hpeek, State.timer_updTimer]
      obtain rfl | rfl : b = 1 ∨ b = 2 := by omega
      · exact (flags_bits _ _ _).2.1
      · exact (flags_bits _ _ _).2.2
    · have hblk : ∀ u : State, u.blockOf n (.timer t) = ((u.app n).timer t).blk := fun _ => rfl
      rw [hblk, State.timer_updTimer]
      exact he
  case mbxCtrl =>
    have hlt : b < 2 := bitAt_of_rwMask (k := 2) rfl hb
    have hw : s.regWrite n 1 who .mbxCtrl v = s.mbxCtrl n v := rfl
    rw [hw, State.mbxCtrl_fields he hv]
    refine ⟨?_, ?_, State.appsElse_updApp s n _⟩
    · have hpeek : ∀ u : State, u.regPeek n 1 who .mbxCtrl = flag (u.app n).mbx.ie 1 + flag (u.app n).mbx.blk.en 0 := fun _ => rfl
      rw [hpeek, State.app_updApp]
      obtain rfl : b = 1 := by omega
      exact (flags_low _ _).2
    · have hblk : ∀ u : State, u.blockOf n .mbx = (u.app n).mbx.blk := fun _ => rfl
      rw [hblk, State.app_updApp]
      exact he
  case qpCtrl k =>
    have hlt : b < 4 := bitAt_of_rwMask (k := 4) rfl hb
    have hw : s.regWrite n 1 who (.qpCtrl k) v = s.qpCtrl n k v := rfl
    rw [hw, State.qpCtrl_fields he hv]
    refine ⟨?_, ?_, State.appsElse_updApp s n _⟩
    · have hpeek : ∀ u : State, u.regPeek n 1 who (.qpCtrl k) = (u.qp n k).ctrlWord (u.qp n k).blk.en := fun _ => rfl
      rw [hpeek, State.qp_updQp]
      obtain ⟨-, h1, h2, h3⟩ := Qp.ctrlWord_bits { s.qp n k with blk := { (s.qp n k).blk with again := false }, itemIe := bitAt v 3, holdIe := bitAt v 2, txIe := bitAt v 1 } (s.qp n k).blk.en
      obtain rfl | rfl | rfl : b = 1 ∨ b = 2 ∨ b = 3 := by omega
      · exact h1
      · exact h2
      · exact h3
    · have hblk : ∀ u : State, u.blockOf n (.qp k) = (u.qp n k).blk := fun _ => rfl
      rw [hblk, State.qp_updQp]
      exact he
  case pinCtrl p =>
    have hlt : b < 12 := bitAt_of_rwMask (k := 12) rfl hb
    have hw : s.regWrite n 1 who (.pinCtrl p) v = s.pinCtrl n p 2 v := rfl
    rw [hw, State.pinCtrl_fields (State.foreign_pin hf) he hv]
    refine ⟨?_, ?_, State.appsElse_updApp s n _⟩
    · have hpeek : ∀ u : State, u.regPeek n 1 who (.pinCtrl p) = ((u.app n).pin p).ctrlWord := fun _ => rfl
      have hen : ((s.app n).pin p).blk.en = false := he
      have hlow : v % 2 = 0 := by simp [bitAt] at hv; omega
      have hword : Pin.ctrlWord { (s.app n).pin p with blk := { ((s.app n).pin p).blk with again := false }, timer := bitsOf v 11 8, slew := bitsOf v 7 6, pull := bitsOf v 5 4, func := bitsOf v 3 1 } =
          v % 2 ^ 12 := by
        have hsum := pinFields_sum v
        simp only [Pin.ctrlWord, hen, flag]
        simpa [hlow] using hsum
      rw [hpeek, State.pin_updPin, hword, bitAt_mod_two_pow hlt]
    · have hblk : ∀ u : State, u.blockOf n (.pin p) = ((u.app n).pin p).blk := fun _ => rfl
      rw [hblk, State.pin_updPin]
      exact he

end off

/-! ### A CTRL word that changes a Cfg field while the block is on (R398) -/

theorem Block.ctrl_on_changed {b : Block} (h : b.en = true) : b.ctrl true true = ({ b with cfgIgn := true }, .ignored) := by simp [Block.ctrl, h]

/-- A field of PINS_CTRL that holds no more bits than its place in the word. -/
theorem Pin.ctrlWord_of_fields {x : Pin} {v : Nat} (ht : x.timer = bitsOf v 11 8) (hs : x.slew = bitsOf v 7 6) (hp : x.pull = bitsOf v 5 4) (hf : x.func = bitsOf v 3 1) (hen : flag x.blk.en 0 = v % 2) :
    x.ctrlWord = v % 2 ^ 12 := by
  rw [Pin.ctrlWord, ht, hs, hp, hf, hen]
  exact pinFields_sum v

section changed
variable {s : State} {n who v b : Nat} {r : Reg} {id : BlockId}

/-- A CTRL word that keeps EN and changes another field of a block that is on is ignored and sets CFG_IGN. -/
theorem State.regWrite_ctrl_changed (hr : r.ctrlOf = some id) (hb : bitAt r.rwMask b = true) (h0 : 0 < b) (hf : s.foreign n 2 id = false) (he : (s.blockOf n id).en = true) (hv : bitAt v 0 = true)
    (hne : bitAt v b ≠ bitAt (s.regPeek n 1 who r) b) :
    ∃ f : Block → Block, (s.regWrite n 1 who r v) = s.updBlock n id f ∧ f (s.blockOf n id) = { s.blockOf n id with cfgIgn := true } := by
  cases r <;> cases hr
  case sysCtrl => exact absurd (bitAt_of_rwMask (k := 1) rfl hb) (by omega)
  case intcCtrl => exact absurd (bitAt_of_rwMask (k := 1) rfl hb) (by omega)
  case brCtrl => exact absurd (bitAt_of_rwMask (k := 1) rfl hb) (by omega)
  case capCtrl => exact absurd (bitAt_of_rwMask (k := 1) rfl hb) (by omega)
  case tmrCtrl t =>
    have hlt : b < 3 := bitAt_of_rwMask (k := 3) rfl hb
    have hen : ((s.app n).timer t).blk.en = true := he
    obtain ⟨-, h1, h2⟩ := flags_bits ((s.app n).timer t).ie ((s.app n).timer t).periodic ((s.app n).timer t).blk.en
    have hchanged : (((s.app n).timer t).ie != bitAt v 2 || ((s.app n).timer t).periodic != bitAt v 1) = true := by
      obtain rfl | rfl : b = 1 ∨ b = 2 := by omega
      · have hp : bitAt v 1 ≠ ((s.app n).timer t).periodic := fun h => hne (h.trans h1.symm)
        simp [hp.symm]
      · have hi : bitAt v 2 ≠ ((s.app n).timer t).ie := fun h => hne (h.trans h2.symm)
        simp [hi.symm]
    have hsame : (((s.app n).timer t).blk.en && !((s.app n).timer t).blk.parErr && bitAt v 2 == ((s.app n).timer t).ie && bitAt v 1 == ((s.app n).timer t).periodic) = false := by
      cases hpar : ((s.app n).timer t).blk.parErr
      · revert hchanged
        cases bitAt v 1 <;> cases bitAt v 2 <;> cases ((s.app n).timer t).ie <;> cases ((s.app n).timer t).periodic <;> simp
      · simp
    refine ⟨fun _ => { ((s.app n).timer t).blk with cfgIgn := true }, ?_, rfl⟩
    have hw : s.regWrite n 1 who (.tmrCtrl t) v = s.timerCtrl n t 2 v := rfl
    have howner := State.foreign_timer hf
    rw [hw, State.timerCtrl]
    simp only [howner, bne_self_eq_false, Bool.false_eq_true, if_false, hv, hchanged, Block.ctrl_on_changed hen, hsame]
    rfl
  case mbxCtrl =>
    have hlt : b < 2 := bitAt_of_rwMask (k := 2) rfl hb
    obtain rfl : b = 1 := by omega
    have hen : (s.app n).mbx.blk.en = true := he
    have hie : bitAt v 1 ≠ (s.app n).mbx.ie := fun h => hne (h.trans (flags_low _ _).2.symm)
    refine ⟨fun _ => { (s.app n).mbx.blk with cfgIgn := true }, ?_, rfl⟩
    have hw : s.regWrite n 1 who .mbxCtrl v = s.mbxCtrl n v := rfl
    have hchanged : ((s.app n).mbx.ie != bitAt v 1) = true := by simpa using hie.symm
    rw [hw, State.mbxCtrl]
    simp only [hv, hchanged, Block.ctrl_on_changed hen]
    rfl
  case qpCtrl k =>
    have hlt : b < 4 := bitAt_of_rwMask (k := 4) rfl hb
    have hen : (s.qp n k).blk.en = true := he
    obtain ⟨-, h1, h2, h3⟩ := Qp.ctrlWord_bits (s.qp n k) (s.qp n k).blk.en
    have hchanged : ((s.qp n k).itemIe != bitAt v 3 || (s.qp n k).holdIe != bitAt v 2 || (s.qp n k).txIe != bitAt v 1) = true := by
      obtain rfl | rfl | rfl : b = 1 ∨ b = 2 ∨ b = 3 := by omega
      · have h : bitAt v 1 ≠ (s.qp n k).txIe := fun h => hne (h.trans h1.symm)
        simp [h.symm]
      · have h : bitAt v 2 ≠ (s.qp n k).holdIe := fun h => hne (h.trans h2.symm)
        simp [h.symm]
      · have h : bitAt v 3 ≠ (s.qp n k).itemIe := fun h => hne (h.trans h3.symm)
        simp [h.symm]
    refine ⟨fun _ => { (s.qp n k).blk with cfgIgn := true }, ?_, rfl⟩
    have hw : s.regWrite n 1 who (.qpCtrl k) v = s.qpCtrl n k v := rfl
    rw [hw, State.qpCtrl]
    simp only [hv, hchanged, Block.ctrl_on_changed hen]
    rfl
  case pinCtrl p =>
    have hlt : b < 12 := bitAt_of_rwMask (k := 12) rfl hb
    have hen : ((s.app n).pin p).blk.en = true := he
    have hodd : flag ((s.app n).pin p).blk.en 0 = v % 2 := by
      have : v % 2 = 1 := by simpa [bitAt] using hv
      simp [flag, hen, this]
    have hchanged : (((s.app n).pin p).timer != bitsOf v 11 8 || ((s.app n).pin p).slew != bitsOf v 7 6 || ((s.app n).pin p).pull != bitsOf v 5 4 || ((s.app n).pin p).func != bitsOf v 3 1) = true := by
      by_contra h
      simp only [Bool.or_eq_true, bne_iff_ne, not_or, not_not] at h
      obtain ⟨⟨⟨ht, hs⟩, hp⟩, hfunc⟩ := h
      have hpeek : s.regPeek n 1 who (.pinCtrl p) = v % 2 ^ 12 := Pin.ctrlWord_of_fields ht hs hp hfunc hodd
      exact hne (by rw [hpeek, bitAt_mod_two_pow hlt])
    refine ⟨fun _ => { ((s.app n).pin p).blk with cfgIgn := true }, ?_, rfl⟩
    have hw : s.regWrite n 1 who (.pinCtrl p) v = s.pinCtrl n p 2 v := rfl
    have howner := State.foreign_pin hf
    rw [hw, State.pinCtrl]
    simp only [howner, bne_self_eq_false, Bool.false_eq_true, if_false, hv, hchanged, Block.ctrl_on_changed hen]
    rfl

end changed

/-! ### Aliases (R402) -/

/-- An address of bit plane `b` of the register at an offset. -/
structure PlaneAddr (addr b reg : Nat) : Prop where
  low : 0x48000000 ≤ addr
  high : addr < 0x4A000000
  register : (addr - 0x48000000) % 0x100000 = reg
  bit : (addr - 0x48000000) / 0x100000 = b

theorem planeAddr {b reg : Nat} (hb : b < 32) (hreg : reg < 0x100000) : PlaneAddr (0x48000000 + b * 0x100000 + reg) b reg := by
  constructor <;> omega

theorem State.planeWrite_alias (s : State) (n v : Nat) {r : Reg} {addr b reg : Nat} (h : PlaneAddr addr b reg) (hr : regOf (0x40000000 + reg) = some r) :
    s.planeWrite n addr v = s.aliasWrite n 1 r b v := by
  obtain ⟨hlow, hhigh, rfl, rfl⟩ := h
  have hin : (decide (0x48000000 ≤ addr) && decide (addr < 0x4A000000)) = true := by rw [decide_eq_true hlow, decide_eq_true hhigh]; rfl
  unfold State.planeWrite
  dsimp only
  rw [if_pos hin, hr]

theorem regOf_aligned {a : Nat} {r : Reg} (h : regOf a = some r) : a % 4 = 0 := by
  by_contra hne
  have hbad : (a % 4 != 0 || decide (a < 0x40000000) || decide (0x40100000 ≤ a)) = true := by simp [hne]
  rw [regOf, if_pos hbad] at h
  cases h

/-- The value of a register with one bit as a bit-plane write asks for it. -/
def withBit (v b : Nat) (x : Bool) : Nat := if x = true then setBit v b else clearBit v b

theorem bitAt_withBit (v b : Nat) (x : Bool) : bitAt (withBit v b x) b = x := by
  cases x
  · exact bitAt_clearBit_same v b
  · exact bitAt_setBit_same v b

theorem bitAt_withBit_of_ne {v i b : Nat} (x : Bool) (h : i ≠ b) : bitAt (withBit v b x) i = bitAt v i := by
  cases x
  · exact bitAt_clearBit_of_ne h
  · exact bitAt_setBit_of_ne h

theorem withBit_same {v b : Nat} {x : Bool} (h : x = bitAt v b) : withBit v b x = v := by
  cases x
  · simp [withBit, clearBit, h.symm]
  · simp [withBit, setBit, h.symm]

section aliases
variable {s : State} {n b v : Nat} {r : Reg}

theorem State.aliasWrite_plain (hm : bitAt r.rwMask b = true) (h : r.ctrlOf = none ∨ b = 0) :
    s.aliasWrite n 1 r b v = s.regWrite n 1 (n * 16 + 1) r (withBit (s.regPeek n 1 (n * 16 + 1) r) b (bitAt v 0)) := by
  unfold State.aliasWrite withBit
  simp only [hm, if_true]
  obtain h | rfl := h
  · rw [h]
  · split <;> rfl

theorem State.aliasWrite_one (hm : bitAt r.rwMask b = false) (ho : bitAt r.oneMask b = true) (hv : bitAt v 0 = true) : s.aliasWrite n 1 r b v = s.regWrite n 1 (n * 16 + 1) r (2 ^ b) := by
  simp [State.aliasWrite, hm, ho, hv, State.when]

theorem State.aliasWrite_none (hm : bitAt r.rwMask b = false) (h : bitAt r.oneMask b = false ∨ bitAt v 0 = false) : s.aliasWrite n 1 r b v = s := by
  obtain h | h := h <;> simp [State.aliasWrite, hm, h, State.when]

section ctrl
variable {id : BlockId} (hm : bitAt r.rwMask b = true) (hr : r.ctrlOf = some id) (h0 : 0 < b) (hf : s.foreign n 2 id = false)
include hm hr h0 hf

theorem State.aliasWrite_same (he : (s.blockOf n id).en = true) (hv : bitAt v 0 = bitAt (s.regPeek n 1 (n * 16 + 1) r) b) : s.aliasWrite n 1 r b v = s := by
  have hsame := withBit_same hv
  unfold withBit at hsame
  simp [State.aliasWrite, hm, hr, Nat.ne_of_gt h0, State.ctrlBit, hf, he, hsame]

theorem State.aliasWrite_ignored (he : (s.blockOf n id).en = true) (hv : bitAt v 0 ≠ bitAt (s.regPeek n 1 (n * 16 + 1) r) b) :
    s.aliasWrite n 1 r b v = s.updBlock n id (fun x => { x with cfgIgn := true }) := by
  have hne : withBit (s.regPeek n 1 (n * 16 + 1) r) b (bitAt v 0) ≠ s.regPeek n 1 (n * 16 + 1) r := fun h => hv (by rw [← bitAt_withBit (s.regPeek n 1 (n * 16 + 1) r) b (bitAt v 0), h])
  unfold withBit at hne
  simp [State.aliasWrite, hm, hr, Nat.ne_of_gt h0, State.ctrlBit, hf, he, hne]

omit hf in
theorem State.aliasWrite_off (he : (s.blockOf n id).en = false) :
    s.aliasWrite n 1 r b v =
      (s.regWrite n 1 (n * 16 + 1) r (withBit (s.regPeek n 1 (n * 16 + 1) r) b (bitAt v 0))).updBlock n id (fun x => { x with again := (s.blockOf n id).again }) := by
  simp [State.aliasWrite, hm, hr, Nat.ne_of_gt h0, State.ctrlBit, he, withBit]

end ctrl

end aliases

theorem State.appsElse_trans {s t u : State} {d : Nat} (h : u.appsElse t d) (k : t.appsElse s d) : u.appsElse s d := fun m hm => (h m hm).trans (k m hm)

theorem bitPlaneAliasWrite_leads (s : State) (d : Nat) (hd : s.variant.hasDie d = true) (hp : s.pairsRun d = true) (r : Reg) (b reg : Nat) (w : Word) (hb : b < 32) (hreg : reg < 0x100000)
    (hr : regOf (0x40000000 + reg) = some r) : s.leads (.bitPlaneAliasWrite d (0x48000000 + b * 0x100000 + reg) w) (fun t =>
      (bitAt r.rwMask b = true → r.ctrlOf = none ∨ b = 0 → t = (s.regWrite d 1 (d * 16 + 1) r (if w.getLsbD 0 = true then setBit (s.regPeek d 1 (d * 16 + 1) r) b else clearBit (s.regPeek d 1 (d * 16 + 1) r) b)).settle) ∧
      (∀ id, bitAt r.rwMask b = true → r.ctrlOf = some id → 0 < b → s.foreign d 2 id = false → (s.blockOf d id).en = true →
        (w.getLsbD 0 = bitAt (s.regPeek d 1 (d * 16 + 1) r) b → t = { s with safe := t.safe, pins := t.pins }) ∧
        (w.getLsbD 0 ≠ bitAt (s.regPeek d 1 (d * 16 + 1) r) b → t.blockOf d id = { s.blockOf d id with cfgIgn := true } ∧ t.regPeek d 1 (d * 16 + 1) r = s.regPeek d 1 (d * 16 + 1) r ∧ t.appsElse s d)) ∧
      (∀ id, bitAt r.rwMask b = true → r.ctrlOf = some id → 0 < b → s.foreign d 2 id = false → (s.blockOf d id).en = false →
        bitAt (t.regPeek d 1 (d * 16 + 1) r) b = w.getLsbD 0 ∧ (t.blockOf d id).en = false ∧ (t.blockOf d id).again = (s.blockOf d id).again ∧ t.appsElse s d) ∧
      (bitAt r.rwMask b = false → bitAt r.oneMask b = true → w.getLsbD 0 = true → t = (s.regWrite d 1 (d * 16 + 1) r (2 ^ b)).settle) ∧
      (bitAt r.rwMask b = false → bitAt r.oneMask b = false ∨ w.getLsbD 0 = false → t = { s with safe := t.safe, pins := t.pins })) := by
  have hx : exec (.bitPlaneAliasWrite d (0x48000000 + b * 0x100000 + reg) w) s = .next (s.aliasWrite d 1 r b w.toNat).settle := by
    have hgo : exec (.bitPlaneAliasWrite d (0x48000000 + b * 0x100000 + reg) w) s = .next (s.planeWrite d (0x48000000 + b * 0x100000 + reg) w.toNat).settle := State.onDie_runs hd hp _
    rw [hgo, State.planeWrite_alias s d _ (planeAddr hb hreg) hr]
  have hbit : bitAt w.toNat 0 = w.getLsbD 0 := bitAt_toNat w 0
  have hpeek : ∀ u : State, u.settle.regPeek d 1 (d * 16 + 1) r = u.regPeek d 1 (d * 16 + 1) r := fun u => by
    have hsame : u.settle.rest 2199023271936 = u.rest 2199023271936 := State.settle_rest (by decide) u
    rw [State.eq_mix hsame]
    cases r <;> rfl
  refine State.leads_of_exec hx ⟨fun hm h => ?_, fun id hm hc h0 hf he => ⟨fun hw => ?_, fun hw => ?_⟩, fun id hm hc h0 hf he => ?_, fun hm ho hw => ?_, fun hm h => ?_⟩
  · rw [State.aliasWrite_plain hm h, hbit]
    rfl
  · rw [State.aliasWrite_same hm hc h0 hf he (hbit.trans hw)]
    exact State.eq_mix (fs := 2199023271936) (State.settle_rest (by decide) s)
  · rw [State.aliasWrite_ignored hm hc h0 hf he (by rwa [hbit])]
    refine ⟨by rw [State.blockOf_settle, State.blockOf_updBlock], ?_, State.settle_appsElse (State.updBlock_appsElse s d id _)⟩
    rw [hpeek, State.regPeek_updBlock_ctrl s d 1 _ hc rfl]
  · rw [State.aliasWrite_off hm hc h0 he]
    have hzero : bitAt (withBit (s.regPeek d 1 (d * 16 + 1) r) b (bitAt w.toNat 0)) 0 = false := by
      rw [bitAt_withBit_of_ne _ (by omega), State.regPeek_ctrl_en s d 1 _ hc, he]
    obtain ⟨hset, hoff, helse⟩ := State.regWrite_ctrl_off (who := d * 16 + 1) hc hm h0 hf he hzero
    refine ⟨?_, ?_, ?_, State.settle_appsElse (State.appsElse_trans (State.updBlock_appsElse _ d id _) helse)⟩
    · rw [hpeek, State.regPeek_updBlock_ctrl _ d 1 _ hc rfl, hset, bitAt_withBit, hbit]
    · rw [State.blockOf_settle, State.blockOf_updBlock]
      exact hoff
    · rw [State.blockOf_settle, State.blockOf_updBlock]
  · rw [State.aliasWrite_one hm ho (hbit.trans hw)]
  · rw [State.aliasWrite_none hm (h.imp_right hbit.trans)]
    exact State.eq_mix (fs := 2199023271936) (State.settle_rest (by decide) s)

/-! ### Parity (R400) -/

/-- The application target's common bits, on every die. -/
def State.SameBlocks (s t : State) : Prop := ∀ n, (t.intcTarget n 1).blk = (s.intcTarget n 1).blk

namespace State.SameBlocks

theorem refl (s : State) : s.SameBlocks s := fun _ => rfl

theorem trans {s t u : State} (h : s.SameBlocks t) (k : t.SameBlocks u) : s.SameBlocks u := fun n => (k n).trans (h n)

theorem of_intc {s t : State} (h : t.intc = s.intc) : s.SameBlocks t := fun n => by rw [State.intcTarget, State.intcTarget, h]

theorem fire (s : State) (die k src : Nat) : s.SameBlocks (s.fire die k src) := fun n => by
  rw [State.fire_eq]
  by_cases hkey : n * 2 + 1 = die * 2 + k
  · have hn : ∀ u : State, u.intcTarget n 1 = u.intcTarget die k := fun u => by rw [State.intcTarget, State.intcTarget, hkey]
    rw [hn, hn, State.intcTarget_updIntc]
    unfold IntcTarget.fired
    split <;> rfl
  · have hsame : (s.updIntc die k (·.fired src)).intcTarget n 1 = s.intcTarget n 1 := by
      unfold State.updIntc State.setIntc State.intcTarget
      exact mget_mset_of_ne _ _ _ _ hkey
    rw [hsame]

theorem raiseSource (s : State) (die src : Nat) : s.SameBlocks (s.raiseSource die src) := by
  unfold State.raiseSource
  dsimp only
  split
  · exact (fire s die 0 src).trans (fire _ die 1 src)
  · exact fire s die 0 src

theorem forAll (l : List Nat) {f : State → Nat → State} (hf : ∀ (s : State) (n : Nat), s.SameBlocks (f s n)) (s : State) : s.SameBlocks (s.forAll l f) := by
  unfold State.forAll
  induction l generalizing s with
  | nil => exact refl s
  | cons n l ih => exact (hf s n).trans (ih (f s n))

theorem doorbell (s : State) (src : Nat) : s.SameBlocks (s.doorbell src) := by
  refine forAll _ (fun s n => ?_) s
  split
  · exact of_intc rfl
  · exact (raiseSource s n src).trans (of_intc rfl)

theorem logFault (s : State) (cls die unit : Nat) : s.SameBlocks (s.logFault cls die unit) := fun n => by
  have hend : ∀ (u : State) (p : Bytes), (((u.doorbell 69).evidence 0 0x10 cls p).intcTarget n 1).blk = (u.intcTarget n 1).blk := fun u p =>
    (of_intc (s := u.doorbell 69) (State.keep_intc (by simp)) n).trans (doorbell u 69 n)
  have hlow : ∀ c : Bool, ((if c then s.driveSafe cls else s).intcTarget n 1).blk = (s.intcTarget n 1).blk := fun c => by cases c <;> rfl
  have hrow : ∀ (u : State) (e row v : Nat), ((u.setRow e row v).intcTarget n 1).blk = (u.intcTarget n 1).blk := fun _ _ _ _ => rfl
  have hcount : ∀ (u : State) (e row k : Nat), ((u.countRow e row k).intcTarget n 1).blk = (u.intcTarget n 1).blk := fun _ _ _ _ => rfl
  have hsafe : ∀ (u : State) (x : Safe), (({ u with safe := x } : State).intcTarget n 1).blk = (u.intcTarget n 1).blk := fun _ _ => rfl
  unfold State.logFault
  dsimp only
  simp only [hend, hrow, State.count, hcount, hsafe, hlow]

end State.SameBlocks

/-- The block after a parity fault: stopped, with what stopping it empties or holds (R400). -/
def State.parityStopped (s : State) (n : Nat) (b : BlockId) : State :=
  match b with
  | .qp k => (s.updBlock n b Block.parity).qpEmptied n k
  | .timer t => (s.updBlock n b Block.parity).updTimer n t (fun x => { x with count := s.timerCount ((s.app n).timer t) })
  | _ => s.updBlock n b Block.parity

theorem State.regParity_eq (s : State) (n : Nat) (b : BlockId) : s.regParity n b = ((s.parityStopped n b).raiseSource n 48).fault 5 n 1 := by cases b <;> rfl

theorem State.parityStopped_blockOf (s : State) (n : Nat) (b : BlockId) : (s.parityStopped n b).blockOf n b = (s.blockOf n b).parity := by
  cases b with
  | qp k =>
    show (((s.updBlock n (.qp k) Block.parity).qpEmptied n k).qp n k).blk = _
    rw [State.qp_of_apps (State.qpEmptied_apps _ n k), State.qp_updQp]
    exact State.blockOf_updBlock s n (.qp k) _
  | timer t =>
    show ((((s.updBlock n (.timer t) Block.parity).updTimer n t _).app n).timer t).blk = _
    rw [State.timer_updTimer]
    exact State.blockOf_updBlock s n (.timer t) _
  | sys => exact State.blockOf_updBlock s n .sys Block.parity
  | intc => exact State.blockOf_updBlock s n .intc Block.parity
  | mbx => exact State.blockOf_updBlock s n .mbx Block.parity
  | bridge => exact State.blockOf_updBlock s n .bridge Block.parity
  | cap => exact State.blockOf_updBlock s n .cap Block.parity
  | pin p => exact State.blockOf_updBlock s n (.pin p) Block.parity

theorem State.parityStopped_appsElse (s : State) (n : Nat) (b : BlockId) : (s.parityStopped n b).appsElse s n := by
  cases b with
  | qp k => exact State.appsElse_trans (State.appsElse_of_apps (State.qpEmptied_apps _ n k) (State.appsElse_updApp _ n _)) (State.updBlock_appsElse s n _ _)
  | timer t => exact State.appsElse_trans (State.appsElse_updApp _ n _) (State.updBlock_appsElse s n _ _)
  | sys => exact State.updBlock_appsElse s n _ _
  | intc => exact State.updBlock_appsElse s n _ _
  | mbx => exact State.updBlock_appsElse s n _ _
  | bridge => exact State.updBlock_appsElse s n _ _
  | cap => exact State.updBlock_appsElse s n _ _
  | pin p => exact State.updBlock_appsElse s n _ _

theorem State.parityStopped_rest (s : State) (n : Nat) (b : BlockId) : (s.parityStopped n b).rest 1610612736 = s.rest 1610612736 := by
  cases b with
  | qp k => exact (State.qpEmptied_rest (by decide) _ n k).trans (State.updBlock_rest (by decide) s n _ _)
  | timer t => exact (State.updTimer_rest (by decide) _ n t _).trans (State.updBlock_rest (by decide) s n _ _)
  | sys => exact State.updBlock_rest (by decide) s n _ _
  | intc => exact State.updBlock_rest (by decide) s n _ _
  | mbx => exact State.updBlock_rest (by decide) s n _ _
  | bridge => exact State.updBlock_rest (by decide) s n _ _
  | cap => exact State.updBlock_rest (by decide) s n _ _
  | pin p => exact State.updBlock_rest (by decide) s n _ _

/-- A block's bits where the application pairs and the targets' bits are the same. -/
theorem State.blockOf_congr {s t : State} (ha : t.apps = s.apps) (hi : s.SameBlocks t) (n : Nat) (b : BlockId) : t.blockOf n b = s.blockOf n b := by
  cases b with
  | intc => exact hi n
  | sys => exact congrArg App.sys (State.app_of_apps ha n)
  | mbx => exact congrArg (fun a : App => a.mbx.blk) (State.app_of_apps ha n)
  | bridge => exact congrArg (fun a : App => a.bridge.blk) (State.app_of_apps ha n)
  | cap => exact congrArg (fun a : App => a.cap.blk) (State.app_of_apps ha n)
  | qp k => exact congrArg Qp.blk (State.qp_of_apps ha n k)
  | timer t => exact congrArg (fun a : App => (a.timer t).blk) (State.app_of_apps ha n)
  | pin p => exact congrArg (fun a : App => (a.pin p).blk) (State.app_of_apps ha n)

theorem registerParityMismatch_leads (s : State) (d : Nat) (hd : s.variant.hasDie d = true) (hp : s.pairsRun d = true) (addr : Nat) (r : Reg) (b : BlockId) (hr : regOf addr = some r)
    (hcfg : r.isCfg = true) (hb : r.block = some b) (hstate : (s.die d).state ≠ 3) : s.leads (.registerParityMismatch d addr) (fun t =>
      t.blockOf d b = (s.blockOf d b).parity ∧ t.safe.faultSeq = s.safe.faultSeq + 1 ∧ t.appsElse s d ∧
      t = { s with od := t.od, ev := t.ev, safe := t.safe, dies := t.dies, intc := t.intc, apps := t.apps, pins := t.pins, out := t.out }) := by
  generalize hv : (s.parityStopped d b).raiseSource d 48 = v
  have hvrest : v.rest 1610612736 = s.rest 1610612736 := by
    rw [← hv, State.raiseSource_rest (by decide)]
    exact s.parityStopped_rest d b
  have hvstate : (v.die d).state ≠ 3 := by rwa [State.die_of_dies (State.keep_dies (State.rest_weaken (by decide) hvrest)) d]
  have hfault : s.regParity d b = v.logFault 5 d 1 := by
    rw [State.regParity_eq, hv]
    simp [State.fault, hvstate, State.takeFault, maskedClass]
  have hx : exec (.registerParityMismatch d addr) s = .next (v.logFault 5 d 1).settle := by
    have hgo : exec (.registerParityMismatch d addr) s = .next _ := State.onDie_runs hd hp _
    rw [hgo]
    simp only [hr, hb, hcfg, State.when, if_true, hfault]
  have hlogapps : (v.logFault 5 d 1).apps = v.apps := State.keep_apps (by simp)
  have hvapps : v.apps = (s.parityStopped d b).apps := by rw [← hv]; exact State.raiseSource_apps _ d 48
  have hblocks : (s.parityStopped d b).SameBlocks v := by rw [← hv]; exact State.SameBlocks.raiseSource _ d 48
  refine State.leads_of_exec hx ⟨?_, ?_, ?_, State.eq_mix (fs := 10996726941700) ?_⟩
  · rw [State.blockOf_settle, State.blockOf_congr hlogapps (State.SameBlocks.logFault v 5 d 1), State.blockOf_congr hvapps hblocks, State.parityStopped_blockOf]
  · rw [State.settle_faultSeq, State.logFault_faultSeq, State.keep_safe (State.rest_weaken (by decide) hvrest)]
  · exact State.settle_appsElse (State.appsElse_of_apps (hlogapps.trans hvapps) (s.parityStopped_appsElse d b))
  · rw [State.settle_rest (by decide), State.logFault_rest (by decide), State.rest_weaken (by decide) hvrest]

/-! ### Stores and loads (R397, R401) -/

theorem State.settle_mix (u : State) : u.settle = { u with safe := u.settle.safe, pins := u.settle.pins } := State.eq_mix (fs := 2199023271936) (State.settle_rest (by decide) u)

/-- After an access that changes nothing but what leaves the die. -/
theorem State.emit_mix (s : State) (o : Out) : (s.emit o).settle = { s with out := o :: s.out, safe := (s.emit o).settle.safe, pins := (s.emit o).settle.pins } := State.settle_mix (s.emit o)

/-- After an access that changes the application pairs and what leaves the die. -/
theorem State.apps_out_mix {s u : State} (h : u.rest 8797166764032 = s.rest 8797166764032) :
    u.settle = { s with apps := u.settle.apps, out := u.settle.out, safe := u.settle.safe, pins := u.settle.pins } := by
  refine State.eq_mix (fs := 10996190035968) ?_
  rw [State.settle_rest (by decide)]
  exact State.rest_weaken (by decide) h

theorem farSram_of_lt {a : Nat} (h : a < 0xC0000) : farSram a = true := decide_eq_true h

section store
variable {s : State} {d addr v : Nat}

theorem State.storeWord_unaligned (h : addr % 4 ≠ 0) : s.storeWord d addr v = s.accessFault d addr := by
  unfold State.storeWord
  exact if_pos (by simpa using h)

theorem State.storeWord_sram (h : addr % 4 = 0) (hs : addr < 0xC0000) : s.storeWord d addr v = s.updApp d (fun a => a.setWord (addr / 4) v) := by
  simp [State.storeWord, h, farSram_of_lt hs]

section register
variable (h : addr % 4 = 0) (hlo : 0x40000000 ≤ addr) (hhi : addr < 0x40100000)
include h hlo hhi

/-- An aligned store to the registers' addresses is neither one of SRAM, of a bit plane nor of a window. -/
theorem State.storeWord_map : s.storeWord d addr v = match regOf addr with
    | some r => s.regWrite d 1 (d * 16 + 1) r v
    | none => s.accessFault d addr := by
  have hsram : farSram addr = false := decide_eq_false (by omega)
  have halias : (decide (0x48000000 ≤ addr) && decide (addr < 0x4A000000)) = false := by rw [decide_eq_false (by omega)]; rfl
  have hwindow : (decide (0x60000000 ≤ addr) && decide (addr < 0x70000000)) = false := by rw [decide_eq_false (by omega)]; rfl
  simp only [State.storeWord, h, hsram, halias, hwindow]
  rfl

theorem State.storeWord_register {r : Reg} (hr : regOf addr = some r) : s.storeWord d addr v = s.regWrite d 1 (d * 16 + 1) r v := by rw [State.storeWord_map h hlo hhi, hr]

theorem State.storeWord_unnamed (hr : regOf addr = none) : s.storeWord d addr v = s.accessFault d addr := by rw [State.storeWord_map h hlo hhi, hr]

end register
end store

theorem registerWrite_next {s : State} {d : Nat} (hd : s.variant.hasDie d = true) (hp : s.pairsRun d = true) (addr : Nat) (w : Word) :
    exec (.registerWrite d addr w) s = .next (s.storeWord d addr w.toNat).settle := State.onDie_runs hd hp _

theorem registerWrite_leads (s : State) (d : Nat) (hd : s.variant.hasDie d = true) (hp : s.pairsRun d = true) (addr : Nat) (w : Word) : s.leads (.registerWrite d addr w) (fun t =>
      (addr % 4 ≠ 0 → t = { s with out := .accessFault d 1 addr :: s.out, safe := t.safe, pins := t.pins }) ∧
      (addr % 4 = 0 → addr < 0xC0000 → (t.app d).word (addr / 4) = w.toNat ∧ (∀ a, a ≠ addr / 4 → (t.app d).word a = (s.app d).word a) ∧ t.appsElse s d ∧
        t = { s with apps := t.apps, safe := t.safe, pins := t.pins }) ∧
      (∀ r, addr % 4 = 0 → 0x40000000 ≤ addr → addr < 0x40100000 → regOf addr = some r → t = (s.regWrite d 1 (d * 16 + 1) r w.toNat).settle) ∧
      (addr % 4 = 0 → 0x40000000 ≤ addr → addr < 0x40100000 → regOf addr = none → t = { s with out := .accessFault d 1 addr :: s.out, safe := t.safe, pins := t.pins })) := by
  refine State.leads_of_exec (registerWrite_next hd hp addr w) ⟨fun h => ?_, fun h hs => ?_, fun r h hlo hhi hr => ?_, fun h hlo hhi hr => ?_⟩
  · rw [State.storeWord_unaligned h]
    exact s.emit_mix _
  · rw [State.storeWord_sram h hs]
    have happ : (s.updApp d (fun a => a.setWord (addr / 4) w.toNat)).settle.app d = (s.app d).setWord (addr / 4) w.toNat := by
      rw [State.app_settle, State.app_updApp]
    refine ⟨?_, fun a ha => ?_, State.settle_appsElse (State.appsElse_updApp s d _), State.eq_mix (fs := 2200097013760) ?_⟩
    · rw [happ, App.word_setWord]
      exact Nat.mod_eq_of_lt w.isLt
    · rw [happ, App.word_setWord_other _ _ ha]
    · rw [State.settle_rest (by decide), State.updApp_rest (by decide)]
  · rw [State.storeWord_register h hlo hhi hr]
  · rw [State.storeWord_unnamed h hlo hhi hr]
    exact s.emit_mix _

/-! ### Loads -/

section load
variable {s : State} {d core : Nat}

theorem lowWordRead_next (hd : s.variant.hasDie d = true) (hp : s.pairsRun d = true) (addr : Nat) : exec (.lowWordRead d addr core) s = .next (s.loadWord d core addr).settle :=
  State.onDie_runs hd hp _

theorem State.loadWord_now : s.loadWord d core 0x40000020 =
    (s.updApp d (fun a => { a with shadows := mput a.shadows (shadowKey 0x40000020 (d * 16 + core)) (s.gptp / 2 ^ 32) })).give d core 0x40000020 (s.gptp % 2 ^ 32) := rfl

theorem State.loadWord_ticks : s.loadWord d core 0x40002000 =
    (s.updApp d (fun a => { a with shadows := mput a.shadows (shadowKey 0x40002000 (d * 16 + core)) (s.dieTicks d / 2 ^ 32 % 2 ^ 32) })).give d core 0x40002000 (s.dieTicks d % 2 ^ 32) := rfl

theorem State.loadWord_alias {r : Reg} {addr b reg : Nat} (h : PlaneAddr addr b reg) (h4 : addr % 4 = 0) (hr : regOf (0x40000000 + reg) = some r) :
    s.loadWord d core addr = s.give d core addr (if bitAt (s.regPeek d core (d * 16 + core) r) b = true then 1 else 0) := by
  obtain ⟨hlow, hhigh, rfl, rfl⟩ := h
  have hsram : farSram addr = false := decide_eq_false (by omega)
  have hin : (decide (0x48000000 ≤ addr) && decide (addr < 0x4A000000)) = true := by rw [decide_eq_true hlow, decide_eq_true hhigh]; rfl
  simp only [State.loadWord, h4, hsram, hin, hr]
  rfl

theorem State.loadWord_sram {addr : Nat} (h : addr % 4 = 0) (hs : addr < 0xC0000) : s.loadWord d core addr = s.give d core addr ((s.app d).word (addr / 4)) := by
  simp [State.loadWord, h, farSram_of_lt hs]

/-- A read that latches the high word in the reader's shadow (R401). -/
theorem State.latched_leaves (s : State) (d core addr k lo hi : Nat) {t : State}
    (ht : t = ((s.updApp d (fun a => { a with shadows := mput a.shadows k hi })).give d core addr lo).settle) :
    t.out = .regRead d core addr lo :: s.out ∧ mfind (t.app d).shadows k = some hi ∧ t.appsElse s d ∧ t = { s with apps := t.apps, out := t.out, safe := t.safe, pins := t.pins } := by
  have happ : t.app d = { s.app d with shadows := mput (s.app d).shadows k hi } := by
    rw [ht, State.app_settle]
    exact State.app_updApp s d (fun a => { a with shadows := mput a.shadows k hi })
  have hout : t.out = .regRead d core addr lo :: s.out := by rw [ht, State.settle_out]; rfl
  refine ⟨hout, ?_, ?_, ?_⟩
  · rw [happ]
    exact mfind_mput_same _ _ _
  · rw [ht]
    exact State.settle_appsElse (State.appsElse_updApp s d (fun a => { a with shadows := mput a.shadows k hi }))
  · rw [ht]
    exact State.apps_out_mix rfl

end load

/-! ### Writes that are ignored (R398) -/

theorem State.cfgWrite_closed {s : State} {n : Nat} {b : BlockId} (h : (s.blockOf n b).en = true ∨ (s.blockOf n b).disabling = true) (f : State → State) :
    s.cfgWrite n b f = s.updBlock n b (fun x => { x with cfgIgn := true }) := by
  have hclosed : (s.blockOf n b).open1 = false := by
    unfold Block.open1
    obtain h | h := h <;> simp [h]
  simp [State.cfgWrite, hclosed]

/-- A Cfg register's write to a block that is enabled or in DISABLING sets CFG_IGN alone. -/
theorem State.regWrite_cfg_closed {s : State} {n who v : Nat} {r : Reg} {b : BlockId} (hcfg : r.isCfg = true) (hctrl : r.ctrlOf = none) (hb : r.block = some b)
    (h : (s.blockOf n b).en = true ∨ (s.blockOf n b).disabling = true) : s.regWrite n 1 who r v = s.updBlock n b (fun x => { x with cfgIgn := true }) := by
  cases r <;> simp [Reg.isCfg] at hcfg <;> simp [Reg.ctrlOf] at hctrl <;> cases hb <;> simp only [State.regWrite] <;> exact State.cfgWrite_closed h _

/-- What a write that only sets CFG_IGN leaves. -/
theorem State.ignored_leaves {s u : State} {d : Nat} {r : Reg} {b : BlockId} {f : Block → Block} (hu : u = s.updBlock d b f) (hf : f (s.blockOf d b) = { s.blockOf d b with cfgIgn := true })
    (hpeek : (s.updBlock d b f).regPeek d 1 (d * 16 + 1) r = s.regPeek d 1 (d * 16 + 1) r) {t : State} (ht : t = u.settle) :
    t.blockOf d b = { s.blockOf d b with cfgIgn := true } ∧ t.regPeek d 1 (d * 16 + 1) r = s.regPeek d 1 (d * 16 + 1) r ∧ t.appsElse s d ∧
      t = { s with safe := t.safe, intc := t.intc, apps := t.apps, pins := t.pins } := by
  have hsettled : ∀ v : State, v.settle.regPeek d 1 (d * 16 + 1) r = v.regPeek d 1 (d * 16 + 1) r := fun v => by
    rw [v.settle_mix]
    cases r <;> rfl
  subst hu ht
  refine ⟨by rw [State.blockOf_settle, State.blockOf_updBlock, hf], by rw [hsettled, hpeek], State.settle_appsElse (State.updBlock_appsElse s d b f), State.eq_mix (fs := 2200633884672) ?_⟩
  rw [State.settle_rest (by decide), State.updBlock_rest (by decide)]

/-- The end of DISABLING of a block with no queue (R399). -/
theorem State.blockEnd_ends {s : State} {d : Nat} {b : BlockId} (hq : b.isQueue = false) (hdis : (s.blockOf d b).disabling = true) (hidle : s.blockIdle d b = true) :
    s.blockEnd d b = s.updBlock d b (fun x => { x with disabling := false, again := false, en := x.again }) := by
  cases b <;> simp [BlockId.isQueue] at hq <;> simp [State.blockEnd, hdis, hidle]

/-- Settles O59: each access by the map's case for its address, and a write's effect as one step of its block (R397 to R402). -/
theorem registerMap : Obligations.RegisterMap := by
  unfold Obligations.RegisterMap
  intro s d hd hp
  refine ⟨fun addr w => registerWrite_leads s d hd hp addr w, fun r b reg w hb hreg hr => bitPlaneAliasWrite_leads s d hd hp r b reg w hb hreg hr, fun core => ?now, fun core => ?ticks,
    fun r b reg core hb hreg hr => ?aliasRead, fun addr core h hs => ?sramRead, ?ecc, fun addr b hb hq hdis hidle => ?disabling,
    fun addr r b hr hcfg hb hstate => registerParityMismatch_leads s d hd hp addr r b hr hcfg hb hstate, fun addr r b w h hlo hhi hr hcfg hctrl hb hclosed hf => ?cfg,
    fun addr r id w b h hlo hhi hr hc hf he hw h0 hb hm hne => ?ctrl⟩
  case now => exact State.leads_of_exec (lowWordRead_next hd hp _) (State.latched_leaves s d core _ _ _ _ (congrArg State.settle State.loadWord_now))
  case ticks => exact State.leads_of_exec (lowWordRead_next hd hp _) (State.latched_leaves s d core _ _ _ _ (congrArg State.settle State.loadWord_ticks))
  case aliasRead =>
    have h4 : (0x48000000 + b * 0x100000 + reg) % 4 = 0 := by
      have := regOf_aligned hr
      omega
    refine State.leads_of_exec (lowWordRead_next hd hp _) ?_
    rw [State.loadWord_alias (planeAddr hb hreg) h4 hr, State.give]
    exact s.emit_mix _
  case sramRead =>
    refine State.leads_of_exec (lowWordRead_next hd hp _) ?_
    rw [State.loadWord_sram h hs, State.give]
    exact s.emit_mix _
  case ecc =>
    have hx : exec (.sysEccCorrRead d) s = .next ((s.updApp d (fun a => { a with eccCorr := 0 })).give d 1 0x40000018 (s.app d).eccCorr).settle := State.onDie_runs hd hp _
    refine State.leads_of_exec hx ⟨by rw [State.settle_out]; rfl, ?_, State.settle_appsElse (State.appsElse_updApp s d (fun a => { a with eccCorr := 0 })), State.apps_out_mix rfl⟩
    rw [State.app_settle]
    exact State.app_updApp s d (fun a => { a with eccCorr := 0 })
  case disabling =>
    have hx : exec (.blockDisablingEnd d addr) s = .next (s.updBlock d b (fun x => { x with disabling := false, again := false, en := x.again })).settle := by
      have hgo : exec (.blockDisablingEnd d addr) s = .next _ := State.onDie_runs hd hp _
      rw [hgo]
      simp only [hb, State.blockEnd_ends hq hdis hidle]
    refine State.leads_of_exec hx ⟨by rw [State.blockOf_settle, State.blockOf_updBlock], State.settle_appsElse (State.updBlock_appsElse s d b _), State.eq_mix (fs := 2200633884672) ?_⟩
    rw [State.settle_rest (by decide), State.updBlock_rest (by decide)]
  case cfg =>
    have hx := registerWrite_next hd hp addr w
    rw [State.storeWord_register h hlo hhi hr] at hx
    exact State.leads_of_exec hx (State.ignored_leaves (State.regWrite_cfg_closed hcfg hctrl hb hclosed) rfl (State.regPeek_updBlock_cfg s d 1 _ _ hcfg hctrl hb) rfl)
  case ctrl =>
    have hx := registerWrite_next hd hp addr w
    rw [State.storeWord_register h hlo hhi hr] at hx
    obtain ⟨f, hwrite, hign⟩ := State.regWrite_ctrl_changed (who := d * 16 + 1) hc hm h0 hf he (by rwa [bitAt_toNat]) (by rwa [bitAt_toNat])
    exact State.leads_of_exec hx (State.ignored_leaves hwrite hign (State.regPeek_updBlock_ctrl s d 1 _ hc (by rw [hign])) rfl)

end Sys2Proof.Machine
end

section
/-! What admission and forwarding leave alone: the dictionary below the ports' objects, what has left, and the operations of the PHYs. -/

namespace Sys2Proof.Machine
open Sys2Proof
set_option Elab.async false

/-- Entries that no step which moves copies writes: the general objects, and a port's but its refusals, its asserted classes and its pause frames. -/
def steadyEntry (e : Nat) : Bool :=
  decide (e < 0x200000) || decide (e < 0x220000) && !([0x05, 0x19, 0x1B, 0x1C].contains (e % 256)) && (e % 256 != 0x21 || isCan (e / 256))

/-- A step of what moves copies: configuration and staged values stand, steady entries read as before, what has left stays, frame numbers do not
fall, every die keeps its MDIO operations, and every port what it owes of a new configuration. -/
structure State.Forwards (s t : State) : Prop where
  variant : t.variant = s.variant
  stores : t.od = { s.od with stat := t.od.stat }
  entry : ∀ e, steadyEntry e = true → t.st e = s.st e
  out : ∀ o, o ∈ s.out → o ∈ t.out
  fid : s.nextFid ≤ t.nextFid
  mdio : ∀ n, (t.die n).mdio = (s.die n).mdio
  owed : ∀ k, (t.port k).reconfigure = (s.port k).reconfigure

namespace State.Forwards

theorem refl (s : State) : s.Forwards s := ⟨rfl, rfl, fun _ _ => rfl, fun _ h => h, Nat.le_refl _, fun _ => rfl, fun _ => rfl⟩

theorem trans {s t u : State} (h : s.Forwards t) (k : t.Forwards u) : s.Forwards u := by
  refine ⟨k.variant.trans h.variant, ?_, fun e he => (k.entry e he).trans (h.entry e he), fun o ho => k.out o (h.out o ho), Nat.le_trans h.fid k.fid, fun n => (k.mdio n).trans (h.mdio n), fun n => (k.owed n).trans (h.owed n)⟩
  have hstores := k.stores
  rw [h.stores] at hstores
  exact hstores

/-- A step that touches none of them. -/
theorem of_same {s t : State} (hv : t.variant = s.variant) (ho : t.od = s.od) (hout : t.out = s.out) (hf : t.nextFid = s.nextFid) (hd : ∀ n, (t.die n).mdio = (s.die n).mdio) (hp : t.ports = s.ports) : s.Forwards t :=
  ⟨hv, by rw [ho], fun e _ => State.st_of_od hv ho e, fun o h => by rwa [hout], Nat.le_of_eq hf.symm, hd, fun k => by rw [State.port, hp, State.port]⟩

theorem steadyEntry_lt {e : Nat} (h : steadyEntry e = true) : e < 0x220000 := by
  simp only [steadyEntry, Bool.or_eq_true, Bool.and_eq_true, decide_eq_true_eq] at h
  omega

theorem setRow (s : State) {e : Nat} (row v : Nat) (he : 0x220000 ≤ e) : s.Forwards (s.setRow e row v) := by
  refine ⟨rfl, rfl, fun f hf => State.st_setRow_of_ne s v ?_, fun _ h => h, Nat.le_refl _, fun _ => rfl, fun _ => rfl⟩
  have hlt := steadyEntry_lt hf
  simp only [okey, noRow]
  omega

theorem countRow (s : State) {e : Nat} (row k : Nat) (he : 0x220000 ≤ e) : s.Forwards (s.countRow e row k) := setRow s row _ he

theorem count (s : State) {e : Nat} (k : Nat) (he : 0x220000 ≤ e) : s.Forwards (s.count e k) := countRow s noRow k he

theorem countDie (s : State) {e : Nat} (n : Nat) (he : 0x220000 ≤ e) : s.Forwards (s.countDie e n) := count s 1 (Nat.le_trans he (Nat.le_add_right _ _))

/-- An entry of a port that is not steady. -/
theorem setSlot (s : State) {e slot : Nat} (v : Nat) (he : steadyEntry (e + slot * 256) = false) : s.Forwards (s.setSlot e slot v) := by
  refine ⟨rfl, rfl, fun f hf => State.st_setRow_of_ne s v ?_, fun _ h => h, Nat.le_refl _, fun _ => rfl, fun _ => rfl⟩
  have hne : f ≠ e + slot * 256 := fun h => by rw [h, he] at hf; cases hf
  simp only [okey, noRow]
  omega

theorem countSlot (s : State) {e slot : Nat} (k : Nat) (he : steadyEntry (e + slot * 256) = false) : s.Forwards (s.countSlot e slot k) := setSlot s _ he

theorem steadyEntry_port {e slot : Nat} (h : 0x200000 ≤ e) (hb : [0x05, 0x19, 0x1B, 0x1C].contains (e % 256) = true) : steadyEntry (e + slot * 256) = false := by
  have hlow : ¬ e + slot * 256 < 0x200000 := by omega
  have hbyte : (e + slot * 256) % 256 = e % 256 := by omega
  unfold steadyEntry
  rw [hbyte, hb, decide_eq_false hlow]
  simp

theorem updDie (s : State) (n : Nat) {f : Die → Die} (hf : ∀ d, (f d).mdio = d.mdio) : s.Forwards (s.updDie n f) := by
  refine of_same rfl rfl rfl rfl (fun m => ?_) rfl
  by_cases h : m = n
  · rw [h, State.die_updDie, hf]
  · rw [State.die_updDie_other s f h]

theorem emit (s : State) (o : Out) : s.Forwards (s.emit o) := ⟨rfl, rfl, fun _ _ => rfl, fun _ h => List.mem_cons_of_mem _ h, Nat.le_refl _, fun _ => rfl, fun _ => rfl⟩

theorem ite {s t u : State} {p : Prop} [Decidable p] (ht : s.Forwards t) (hu : s.Forwards u) : s.Forwards (if p then t else u) := by
  split
  · exact ht
  · exact hu

/-- The state of a step that answers with a result. -/
theorem ite_fst {α : Type} {s : State} {t u : State × α} {p : Prop} [Decidable p] (ht : s.Forwards t.1) (hu : s.Forwards u.1) : s.Forwards (if p then t else u).1 := by
  split
  · exact ht
  · exact hu

theorem when {s : State} (c : Bool) {f : State → State} (h : s.Forwards (f s)) : s.Forwards (s.when c f) := ite h (refl s)

theorem foldl {α : Type} (l : List α) {f : State → α → State} (hf : ∀ (s : State) (a : α), s.Forwards (f s a)) (s : State) : s.Forwards (l.foldl f s) := by
  induction l generalizing s with
  | nil => exact refl s
  | cons a l ih => exact (hf s a).trans (ih (f s a))

theorem forAll (l : List Nat) {f : State → Nat → State} (hf : ∀ (s : State) (n : Nat), s.Forwards (f s n)) (s : State) : s.Forwards (s.forAll l f) := foldl l hf s

/-! ### Queues and back-pressure -/

theorem setQueue (s : State) (row : Nat) (l : List Copy) : s.Forwards (s.setQueue row l) := of_same rfl rfl rfl rfl (fun _ => rfl) rfl

theorem store (s : State) (row : Nat) (cp : Copy) (ch : Charge) : s.Forwards (s.store row cp ch) := (setQueue s row _).trans (countRow _ row 1 (by decide))

theorem updPort (s : State) (slot : Nat) {f : Port → Port} (hf : ∀ p, (f p).reconfigure = p.reconfigure) : s.Forwards (s.updPort slot f) := by
  refine ⟨rfl, rfl, fun _ _ => rfl, fun _ h => h, Nat.le_refl _, fun _ => rfl, fun k => ?_⟩
  by_cases h : k = slot
  · rw [h, State.port_updPort, hf]
  · rw [State.port_updPort_other s f h]

theorem sendPause (s : State) (slot v q : Nat) : s.Forwards (s.sendPause slot v q) := by
  have hemit : ∀ d, s.Forwards (s.emitPause slot d) := fun d => (emit s _).trans (countSlot _ 1 (steadyEntry_port (by decide) (by decide)))
  unfold State.sendPause
  exact ite (refl s) (ite (updPort s slot (fun _ => rfl)) (hemit _))

theorem setAsserted (s : State) (slot classes : Nat) : s.Forwards (s.setAsserted slot classes) := by
  unfold State.setAsserted
  have hset : s.Forwards ((s.updPort slot (fun p => { p with asserted := classes })).setSlot E.portEthPausingClasses slot classes) := (updPort s slot (f := fun p => { p with asserted := classes }) (fun _ => rfl)).trans (setSlot (e := E.portEthPausingClasses) _ classes (steadyEntry_port (by decide) (by decide)))
  refine ite (refl s) (ite (ite (hset.trans (sendPause _ _ _ _)) (ite (hset.trans (sendPause _ _ _ _)) hset)) ?_)
  exact (hset.trans (when _ (sendPause _ _ _ _))).trans (when _ (sendPause _ _ _ _))

theorem bpAssert (s : State) (src c row : Nat) (byLimit : Bool) : s.Forwards (s.bpAssert src c row byLimit) := by
  unfold State.bpAssert
  have hheld : ∀ b, s.Forwards { s with bp := b } := fun _ => of_same rfl rfl rfl rfl (fun _ => rfl) rfl
  have hcounted := fun b => (hheld b).trans (countRow { s with bp := b } (queueRow (sourceDie src) (sourcePoint src) c) 1 (e := E.queueCntBpAssertions) (by decide))
  exact ite (hheld _) (ite ((hcounted _).trans (setAsserted _ _ _)) (hcounted _))

theorem bpAct (s : State) (n row : Nat) (cp : Copy) (byLimit : Bool) : s.Forwards (s.bpAct n row cp byLimit).1 := by
  unfold State.bpAct
  have hbp := bpAssert s cp.source cp.cls row byLimit
  exact ite_fst (ite_fst (hbp.trans (store _ _ _ _)) (hbp.trans (countRow _ row 1 (by decide)))) hbp

theorem red (s : State) (n row : Nat) (cp : Copy) : s.Forwards (s.red n row cp).1 := by
  have hdrawn : ∀ v, s.Forwards ((s.setRow E.queueStAvg row v).updDie n (fun d => { d with redDraws := d.redDraws + 1 })) := fun v => (setRow s row v (by decide)).trans (updDie _ n (fun _ => rfl))
  unfold State.red
  dsimp only
  exact ite_fst (ite_fst ((hdrawn _).trans (countRow _ row 1 (Nat.le_trans (by decide) (Nat.le_add_right E.queueCntRedDropGreen cp.colour)))) (hdrawn _)) (refl s)

theorem enqueue (s : State) (n q : Nat) (cp : Copy) : s.Forwards (s.enqueue n q cp).1 := by
  unfold State.enqueue
  dsimp only
  refine ite_fst (store s _ _ _) ?_
  split
  · exact store s _ _ _
  · have hred : s.Forwards (if s.lossless cp then (s, false) else s.red n (queueRow n q cp.cls) cp).1 := ite_fst (refl s) (red s n _ cp)
    refine ite_fst (bpAct s n _ cp false) (ite_fst (store s _ _ _) (ite_fst (ite_fst (bpAct s n _ cp true) (countRow s _ 1 (by decide))) (ite_fst hred ?_)))
    exact ite_fst (hred.trans (store _ _ _ _)) (ite_fst (hred.trans (bpAct _ n _ cp false)) (hred.trans (countRow _ _ 1 (by decide))))

theorem admitHold (s : State) (n q : Nat) (cp : Copy) : s.Forwards (s.admitHold n q cp) := by
  have h := enqueue s n q cp
  unfold State.admitHold
  split
  next s1 he =>
    rw [he] at h
    exact h.trans (updDie s1 n (fun _ => rfl))
  next s1 he =>
    rw [he] at h
    exact h.trans (when _ (count s1 1 (by decide)))
  next s1 he => rwa [he] at h

/-! ### Copies that are lost, sent on and delivered -/

theorem owe (s : State) (g m d c : Nat) : s.Forwards (s.owe g m d c) := of_same rfl rfl rfl rfl (fun _ => rfl) rfl

theorem oweCopy (s : State) (cp : Copy) : s.Forwards (s.oweCopy cp) := ite (refl s) (forAll _ (fun t m => owe t _ m _ _) _)

theorem loseCopy (s : State) (cp : Copy) : s.Forwards (s.loseCopy cp) := by
  have hloss : s.Forwards (s.lossOf cp) := ite (refl s) (countRow s _ 1 (by decide))
  exact hloss.trans (oweCopy _ cp)

theorem countUnreachable (s : State) (n k : Nat) : s.Forwards (s.countUnreachable n k) := countRow s n k (by decide)

theorem sendTo (s : State) (n d : Nat) (cp : Copy) : s.Forwards (s.sendTo n d cp) := by
  unfold State.sendTo
  dsimp only
  split
  · exact ite ((loseCopy s cp).trans (countUnreachable _ n 1)) (admitHold s n _ _)
  · exact (loseCopy s cp).trans (countUnreachable _ n 1)

/-- A refused frame counts at its port (R106, R128, R147). -/
theorem countTxRefused (s : State) (slot : Nat) : s.Forwards (s.countTxRefused slot) := by
  refine countSlot s 1 ?_
  split
  · exact steadyEntry_port (by decide) (by decide)
  · split
    · exact steadyEntry_port (by decide) (by decide)
    next hcan _ =>
      have hslot : isCan ((E.portEthCntTxRefused + slot * 256) / 256) = false := by
        have hlocal : (E.portEthCntTxRefused + slot * 256) / 256 % 32 = slot % 32 := by simp only [E.portEthCntTxRefused]; omega
        have hnot : ¬ slot % 32 < 8 := of_decide_eq_false (Bool.eq_false_iff.mpr hcan)
        exact decide_eq_false (show ¬ (E.portEthCntTxRefused + slot * 256) / 256 % 32 < 8 by rwa [hlocal])
      have hbyte : (E.portEthCntTxRefused + slot * 256) % 256 = 0x21 := by simp only [E.portEthCntTxRefused]; omega
      have hlow : ¬ E.portEthCntTxRefused + slot * 256 < 0x200000 := by simp only [E.portEthCntTxRefused]; omega
      unfold steadyEntry
      rw [hslot, hbyte, decide_eq_false hlow]
      simp

theorem deliver (s : State) (n code : Nat) (cp : Copy) : s.Forwards (s.deliver n code cp) := by
  have hrefused : s.Forwards (s.countTxRefused code) := countTxRefused s code
  have hlimit : ∀ q c, s.Forwards (s.countLimit n q c) := fun q c => countRow s _ 1 (by decide)
  unfold State.deliver
  dsimp only
  refine ite (ite hrefused (ite (hrefused.trans (owe _ _ _ _ _)) (admitHold s n _ _))) (ite (ite (ite (admitHold s n _ _) (hlimit _ _)) (ite (admitHold s n _ _) (hlimit _ _))) ?_)
  exact ite (admitHold s n _ _) (ite ((loseCopy s _).trans (countUnreachable _ n 1)) (sendTo s n _ _))

theorem replicatePlain (s : State) (n : Nat) (cp : Copy) (l : List Nat) : s.Forwards (s.replicatePlain n cp l) :=
  ((when _ (countUnreachable s n _)).trans (forAll _ (fun s m => deliver s n m _) _)).trans (forAll _ (fun s d => sendTo s n d _) _)

theorem chargeAcct (s : State) (g m d c : Nat) : s.Forwards (s.chargeAcct g m d c) := of_same rfl rfl rfl rfl (fun _ => rfl) rfl

theorem replicateAtomic (s : State) (n : Nat) (cp : Copy) (g : Nat) (l : List Nat) : s.Forwards (s.replicateAtomic n cp g l) := by
  have hcharged : s.Forwards (s.forAll l (fun t m => t.chargeAcct g m (t.hostOf n m) cp.cells)) := forAll l (fun t m => chargeAcct t g m _ _) s
  unfold State.replicateAtomic
  refine ite (refl s) (ite ?_ (countRow s g 1 (by decide)))
  exact (hcharged.trans (countRow _ g 1 (by decide))).trans (replicatePlain _ n _ l)

theorem replicate (s : State) (n : Nat) (cp : Copy) (b : Batch) : s.Forwards (s.replicate n cp b) := by
  unfold State.replicate
  refine ite (replicatePlain s n cp _) ?_
  split
  · exact countUnreachable s n 1
  · exact ite (replicateAtomic s n cp _ _) (sendTo s n _ _)

theorem replicateAll (s : State) (n : Nat) (cp : Copy) (bs : List Batch) : s.Forwards (s.replicateAll n cp bs) := foldl _ (fun s b => replicate s n cp b) s

theorem police (s : State) (cp : Copy) : s.Forwards (s.police cp).1 := by
  have hmarked : ∀ (p : NMap Policer) (r : Nat), s.Forwards (({ s with policers := p } : State).countRow (E.policerCntGreen + r) cp.policer) := fun p r =>
    by
    have hheld : s.Forwards { s with policers := p } := of_same rfl rfl rfl rfl (fun _ => rfl) rfl
    have hrow : 0x220000 ≤ E.policerCntGreen + r := Nat.le_trans (by decide) (Nat.le_add_right E.policerCntGreen r)
    exact hheld.trans (countRow _ cp.policer 1 hrow)
  unfold State.police
  dsimp only
  generalize mark2698 _ _ _ = r
  refine ite_fst (refl s) ?_
  exact ite_fst ((hmarked _ _).trans (countRow _ cp.policer 1 (by decide))) (hmarked _ _)

theorem stage5 (s : State) (n : Nat) (cp : Copy) (bs : List Batch) : s.Forwards (s.stage5 n cp bs) := by
  have hpolice := police s cp
  unfold State.stage5
  refine ite (refl s) (ite (replicateAll s n cp bs) ?_)
  split
  · exact countUnreachable s n 1
  · refine ite ?_ (sendTo s n _ _)
    split
    next s1 cp1 he =>
      rw [he] at hpolice
      exact hpolice.trans (replicateAll s1 n cp1 bs)
    next s1 he => rwa [he] at hpolice

/-! ### Decisions -/

theorem learnFrom (s : State) (n realm src dest : Nat) (b : Bool) : s.Forwards (s.learnFrom n realm src dest b) := by
  refine when _ ?_
  exact ite (updDie s n (fun _ => rfl)) (countDie s n (by decide))

theorem ownOutAll (s : State) (n own : Nat) (l : List Batch) : s.Forwards (s.ownOutAll n own l).1 := ite_fst (countDie s n (by decide)) (refl s)

theorem flood (s : State) (n realm : Nat) : s.Forwards (s.flood n realm).1 := by
  unfold State.flood
  split
  · exact countDie s n (by decide)
  · exact countDie s n (by decide)

theorem bridge (s : State) (n realm dst : Nat) : s.Forwards (s.bridge n realm dst).1 := by
  unfold State.bridge
  refine ite_fst ?_ (ite_fst (countUnreachable s n 1) ?_)
  · split
    · exact refl s
    · exact flood s n realm
  · split
    · exact ite_fst (countDie s n (by decide)) (refl s)
    · exact flood s n realm

theorem ownOut (s : State) (n own : Nat) (b : Batch) : s.Forwards (s.ownOut n own b).1 := ite_fst (countDie s n (by decide)) (refl s)

theorem decide1 (s : State) (n own : Nat) (r : Route) : s.Forwards (s.decide1 n own r).1 :=
  ite_fst (countDie s n (by decide)) (ite_fst (refl s) (ownOut s n own _))

theorem byRoute (s : State) (n port code own realm kind value : Nat) : s.Forwards (s.byRoute n port code own realm kind value).1 := by
  unfold State.byRoute
  split
  · exact countUnreachable s n 1
  · exact countUnreachable s n 1
  · exact decide1 s n own _
  · exact (countDie s n (by decide)).trans (decide1 _ n own _)

theorem bridged (s : State) (n port code own realm vid pcp : Nat) (d : Bytes) : s.Forwards (s.bridged n port code own realm vid pcp d).1 := by
  have hplain := bridge s n realm (ethDst d)
  unfold State.bridged
  refine ite_fst (countUnreachable s n 1) ?_
  split
  · exact countUnreachable s n 1
  · exact hplain.trans (ownOutAll _ n own _)
  · exact ite_fst (countUnreachable s n 1) ((hplain.trans (ownOutAll _ n own _)).trans (when (f := fun t => t.countUnreachable n) _ (countUnreachable _ n 1)))
  · exact ite_fst (countDie s n (by decide)) (hplain.trans (ownOutAll _ n own _))

theorem ethDecide (s : State) (n port code own realm vid pcp : Nat) (d : Bytes) : s.Forwards (s.ethDecide n port code own realm vid pcp d).1 := by
  unfold State.ethDecide
  have hip : ∀ chk kind value, s.Forwards (if chk == 1 then (s.countDie E.dieCntIpHeaderDrop n, none, false) else if chk == 2 then (s.countDie E.dieCntTtlDrop n, none, false)
      else ((s.byRoute n port code own realm kind value).1, (s.byRoute n port code own realm kind value).2.map (fun y => { y with routed := true }), false) : State × Option Decision × Bool).1 :=
    fun chk kind value => ite_fst (countDie s n (by decide)) (ite_fst (countDie s n (by decide)) (byRoute s n port code own realm kind value))
  exact ite_fst (ite_fst (hip _ _ _) (ite_fst (hip _ _ _) (ownOutAll s n own _))) (bridged s n port code own realm vid pcp d)

theorem decided (s : State) (n : Nat) (cp : Copy) (d : Decision) : s.Forwards (s.decided n cp d) := stage5 s n _ _

theorem forwardEth (s : State) (n port code own : Nat) (cp : Copy) (learn : Bool) : s.Forwards (s.forwardEth n port code own cp learn) := by
  have hdecide := ethDecide s n port code own cp.realm cp.vid cp.pcp cp.frame.data
  unfold State.forwardEth
  refine ite (countDie s n (by decide)) ?_
  dsimp only
  have hlearn := hdecide.trans (when (learn && (s.ethDecide n port code own cp.realm cp.vid cp.pcp cp.frame.data).2.2) (learnFrom _ n cp.realm (ethSrc cp.frame.data) own false))
  split
  · exact hlearn.trans (decided _ n _ _)
  · exact hlearn

/-- A new frame takes the next number. -/
theorem numbered (s : State) : s.Forwards { s with nextFid := s.nextFid + 1 } :=
  ⟨rfl, rfl, fun _ _ => rfl, fun _ h => h, Nat.le_succ _, fun _ => rfl, fun _ => rfl⟩

theorem enterInternal (s : State) (n k realm : Nat) (d : Bytes) : s.Forwards (s.enterInternal n k realm d) :=
  (numbered s).trans (forwardEth _ n _ _ _ _ false)

theorem sendInternal (s : State) (n k realm : Nat) (d : Bytes) : s.Forwards (s.sendInternal n k realm d) :=
  ite (updDie s n (fun _ => rfl)) (enterInternal s n k realm d)

/-! ### Queues that have room again -/

theorem retryOne (s : State) (n : Nat) (x : Nat × Copy) : s.Forwards (s.retryOne n x) :=
  ite (updDie s n (fun _ => rfl)) (ite (sendTo s n _ _) (admitHold s n _ _))

theorem retryWaiting (s : State) (n : Nat) : s.Forwards (s.retryWaiting n) :=
  ite (refl s) ((updDie s n (f := fun d => { d with prcWait := [] }) (fun _ => rfl)).trans (foldl (s.die n).prcWait (fun s (x : Nat × Nat × Bytes) => sendInternal s n x.1 x.2.1 x.2.2) _))

theorem retryHeld (s : State) (n : Nat) : s.Forwards (s.retryHeld n) := by
  refine trans ?_ (retryWaiting _ n)
  exact ite (refl s) ((updDie s n (f := fun d => { d with held := [] }) (fun _ => rfl)).trans (foldl (s.die n).held (fun s (x : Nat × Copy) => retryOne s n x) _))

theorem bpSettle (s : State) (n : Nat) : s.Forwards (s.bpSettle n) := by
  refine foldl _ (fun s p => ite ?_ (refl s)) s
  have hended : s.Forwards { s with bp := mdel s.bp p.1 } := of_same rfl rfl rfl rfl (fun _ => rfl) rfl
  exact ite (hended.trans (setAsserted _ _ _)) hended

theorem freed (s : State) (n : Nat) : s.Forwards (s.freed n) := (bpSettle s n).trans (retryHeld _ n)

end State.Forwards

end Sys2Proof.Machine
end

section
/-! Operations of the PHYs over MDIO, one at a time per die (R174). -/

namespace Sys2Proof.Machine
open Sys2Proof
set_option Elab.async false

/-! ### What forwarding and answers leave of them -/

theorem State.Forwards.active {s t : State} (h : s.Forwards t) : t.od.active = s.od.active := by rw [h.stores]

/-- A new value drawn. -/
theorem State.Forwards.draw (s : State) : s.Forwards s.draw := ⟨rfl, rfl, fun _ _ => rfl, fun _ h => h, Nat.le_refl _, fun _ => rfl, fun _ => rfl⟩

theorem State.Forwards.send (s : State) (o : Out) : s.Forwards (s.send o) := by
  unfold State.send
  split
  · exact ((State.Forwards.emit s _).trans (State.Forwards.sendInternal _ _ _ _ _)).trans (State.Forwards.draw _)
  · exact State.Forwards.emit s _

theorem State.Forwards.reply (s : State) (sess server status : Nat) (o : Out) : s.Forwards (s.reply sess server status o) :=
  State.Forwards.ite (State.Forwards.send s o) ⟨rfl, rfl, fun _ _ => rfl, fun _ h => h, Nat.le_refl _, fun _ => rfl, fun _ => rfl⟩

theorem State.cfgRow_of_active {s t : State} (hv : t.variant = s.variant) (h : t.od.active = s.od.active) (e row : Nat) : t.cfgRow e row = s.cfgRow e row := by
  simp only [State.cfgRow, hv, h]

theorem State.cfgRow_setCfgRow_of_ne (s : State) {e row f q : Nat} (v : Nat) (h : okey f q ≠ okey e row) : (s.setCfgRow e row v).cfgRow f q = s.cfgRow f q := by
  have hget : mget (odDefault s.variant f) (s.setCfgRow e row v).od.active (okey f q) = mget (odDefault s.variant f) s.od.active (okey f q) := mget_mset_of_ne _ _ _ _ h
  rw [mget_eq_mfind, mget_eq_mfind] at hget
  unfold State.cfgRow
  split <;> split <;> simp_all [State.setCfgRow]

/-! ### A write of `phy.mdio.op` -/

/-- The operation that a write of `phy.mdio.op` asks for, with the port's fields. -/
def State.mdioAsked (s : State) (sess slot op : Nat) (answer : Option Out) : MdioOp :=
  ⟨slot, op, s.cfg (E.portEthPhyMdioPhyAddress + slot * 256), s.cfg (E.portEthPhyMdioDevad + slot * 256), s.cfg (E.portEthPhyMdioRegister + slot * 256),
    s.cfg (E.portEthPhyMdioData + slot * 256), sess, answer⟩

theorem actsAtOnce_mdio {v : Variant} {k : Nat} (hs : v.hasSlot k = true) (he : isEth k = true) : actsAtOnce v ((0x2000 + k) * 256 + 0x64) = true := by
  have hall : ∀ k, k < 256 → v.hasSlot k = true → isEth k = true → actsAtOnce v ((0x2000 + k) * 256 + 0x64) = true := by cases v <;> decide +kernel
  exact hall k (Variant.hasSlot_lt hs) hs he

theorem State.odAct_mdio (s : State) {k : Nat} (hk : k < 256) (he : isEth k = true) (sess row : Nat) (b : Bytes) :
    s.odAct sess ((0x2000 + k) * 256 + 0x64) row b = s.mdioStart sess k (leNat b) := by
  have hd : ((0x2000 + k) * 256 + 0x64) / 256 = 0x2000 + k := by omega
  have hm : ((0x2000 + k) * 256 + 0x64) % 256 = 0x64 := by omega
  have hr : clearRanges (0x2000 + k) 0x64 = [] := by simp [clearRanges]
  have hse : sessionEntry ((0x2000 + k) * 256 + 0x64) = false := by
    simp [sessionEntry, E.commitReadView, E.journalSelect, E.sealStoreSelect, E.attestRelation, E.attestResponse, E.keycmdSlot, E.keycmdBlob, E.keycmdStatus]; omega
  have h1 : (0x2000 + k == 0x1122) = false := by simp; omega
  have h2 : ((0x2000 + k) / 256 == 0x20) = true := by simp; omega
  have h3 : ((0x2000 + k) / 256 == 0x22) = false := by simp; omega
  have h4 : (0x2000 + k) % 256 = k := by omega
  have hc : isCan k = false := by
    simp only [isEth, Bool.and_eq_true, decide_eq_true_eq] at he
    simp [isCan]
    omega
  simp [State.odAct, hd, hm, hr, hse, h1, h2, h3, State.portWrite, h4, hc]

/-- An operation joins its die's; it is sent where none is under way. -/
theorem State.mdioStart_joins {s : State} {sess slot op : Nat} (ha : s.answers (slotDie slot) = true) (hr : op < 3 → s.cfg (E.portEthPhyMdioRegister + slot * 256) ≤ 31) :
    s.mdioStart sess slot op = ((s.updDie (slotDie slot) (fun d => { d with mdio := d.mdio ++ [s.mdioAsked sess slot op none] })).when ((s.die (slotDie slot)).mdio.isEmpty) (·.mdioSend (slotDie slot)), 0x100) := by
  have hreg : (decide (op < 3) && decide (31 < s.cfg (E.portEthPhyMdioRegister + slot * 256))) = false := by
    simp only [Bool.and_eq_false_iff, decide_eq_false_iff_not]
    by_cases h : op < 3
    · exact .inr (Nat.not_lt.mpr (hr h))
    · exact .inl h
  simp only [State.mdioStart, hreg, ha, Bool.not_true]
  rfl

@[simp] theorem State.mdioSend_dies (s : State) (n : Nat) : (s.mdioSend n).dies = s.dies := State.keep_dies (by simp)

theorem State.mdioSend_out {s : State} {n : Nat} {x : MdioOp} {l : List MdioOp} (h : (s.die n).mdio = x :: l) :
    (s.mdioSend n).out = .mdio x.slot x.op x.phy x.devad x.reg x.data :: s.out := by
  unfold State.mdioSend
  rw [h]
  rfl

section asked
variable {s t : State} {sess slot op : Nat} (hs : s.variant.hasSlot slot = true) (he : isEth slot = true)
  (ha : s.accepts sess (0x2000 + slot) 0x64 noRow [BitVec.ofNat 8 op] = true) (hans : s.answers (slotDie slot) = true)
  (hr : op < 3 → s.cfg (E.portEthPhyMdioRegister + slot * 256) ≤ 31) (hop : op < 256)
include hs he ha hans hr hop

/-- The write waits with its answer, which the session is given at the end of the operation. -/
theorem State.sessionWrite_mdio : s.sessionWrite sess (0x2000 + slot) 0x64 noRow [BitVec.ofNat 8 op] =
    (((s.mdioStart sess slot op).1.mdioReply (slotDie slot) (some (.odResponse sess 0 []))).requestDone sess 0) := by
  have hk := Variant.hasSlot_lt hs
  have hv : leNat [BitVec.ofNat 8 op] = op := by simp [leNat]; omega
  have hw : s.odWrite sess (0x2000 + slot) 0x64 noRow [BitVec.ofNat 8 op] = s.mdioStart sess slot op := by
    rw [State.odWrite_acts ha (actsAtOnce_mdio hs he), State.odAct_mdio s hk he, hv]
  have h100 : (s.mdioStart sess slot op).2 = 0x100 := by rw [State.mdioStart_joins hans hr]
  have hslot : (0x2000 + slot) % 256 = slot := by omega
  simp only [State.sessionWrite, (State.accepts_serves ha).2, hw, State.writeDone, h100, hslot, answer]
  rfl

end asked

section taken
variable {s : State} {sess slot op : Nat} (ha : s.accepts sess (0x2000 + slot) 0x64 noRow [BitVec.ofNat 8 op] = true) (hans : s.answers (slotDie slot) = true)
  (hr : op < 3 → s.cfg (E.portEthPhyMdioRegister + slot * 256) ≤ 31)

/-- What a taken write of `phy.mdio.op` leaves. -/
def State.mdioAsks (s : State) (sess slot op : Nat) : State :=
  ((s.mdioStart sess slot op).1.mdioReply (slotDie slot) (some (.odResponse sess 0 []))).requestDone sess 0

theorem State.mdioWrite_exec {c : Instr} (hc : exec c s = s.mdioWrite sess slot op) (hs : s.variant.hasSlot slot = true) (he : isEth slot = true)
    (ha : s.accepts sess (0x2000 + slot) 0x64 noRow [BitVec.ofNat 8 op] = true) (hans : s.answers (slotDie slot) = true)
    (hr : op < 3 → s.cfg (E.portEthPhyMdioRegister + slot * 256) ≤ 31) (hop : op < 256) : exec c s = .next (s.mdioAsks sess slot op).settle := by
  rw [hc, State.mdioAsks, ← State.sessionWrite_mdio hs he ha hans hr hop]
  exact doneIf_present (by simp [(State.accepts_serves ha).1, Variant.hasSlot_lt hs])

include ha

theorem State.mdioAsks_mix : (s.mdioAsks sess slot op).rest 8796093054984 = s.rest 8796093054984 := by
  rw [State.mdioAsks, State.requestDone_plain _ (by decide) (State.hasSess_lt (State.accepts_serves ha).1)]
  have h := State.mdioStart_rest (fs := 8796093054984) (by decide) s sess slot op
  simp [h]

include hans hr

/-- The operation stands last among its die's, with the answer that its end gives. -/
theorem State.mdioAsks_die (n : Nat) : (s.mdioAsks sess slot op).die n =
    if n = slotDie slot then { s.die n with mdio := (s.die n).mdio ++ [s.mdioAsked sess slot op (some (.odResponse sess 0 []))] } else s.die n := by
  have hstart : (s.mdioStart sess slot op).1.dies = (s.updDie (slotDie slot) (fun d => { d with mdio := d.mdio ++ [s.mdioAsked sess slot op none] })).dies := by
    rw [State.mdioStart_joins hans hr]
    exact State.keep_dies (by simp)
  have hkeep : (s.mdioAsks sess slot op).dies = ((s.mdioStart sess slot op).1.mdioReply (slotDie slot) (some (.odResponse sess 0 []))).dies := by
    rw [State.mdioAsks, State.requestDone_plain _ (by decide) (State.hasSess_lt (State.accepts_serves ha).1)]
    rfl
  rw [State.die_of_dies hkeep]
  unfold State.mdioReply
  split
  next hn =>
    subst hn
    rw [State.die_updDie, State.die_of_dies hstart, State.die_updDie]
    simp [State.mdioAsked]
  next hn => rw [State.die_updDie_other _ _ hn, State.die_of_dies hstart, State.die_updDie_other _ _ hn]

theorem State.mdioAsks_out : (s.mdioAsks sess slot op).out =
    (if (s.die (slotDie slot)).mdio = [] then [Out.mdio slot op (s.cfg (E.portEthPhyMdioPhyAddress + slot * 256)) (s.cfg (E.portEthPhyMdioDevad + slot * 256))
          (s.cfg (E.portEthPhyMdioRegister + slot * 256)) (s.cfg (E.portEthPhyMdioData + slot * 256))] else []) ++ s.out := by
  have hkeep : (s.mdioAsks sess slot op).out = (s.mdioStart sess slot op).1.out := by
    rw [State.mdioAsks, State.requestDone_plain _ (by decide) (State.hasSess_lt (State.accepts_serves ha).1)]
    rfl
  rw [hkeep, State.mdioStart_joins hans hr]
  cases h : (s.die (slotDie slot)).mdio with
  | nil =>
    have hfirst : ((s.updDie (slotDie slot) (fun d => { d with mdio := d.mdio ++ [s.mdioAsked sess slot op none] })).die (slotDie slot)).mdio = s.mdioAsked sess slot op none :: [] := by
      rw [State.die_updDie, h]
      rfl
    exact State.mdioSend_out hfirst
  | cons x l => rfl

end taken

/-! ### The end of an operation -/

/-- What the end of an operation leaves of `phy.mdio.data`. -/
def State.mdioTaken (s : State) (n : Nat) (x : MdioOp) (rest : List MdioOp) (data : Nat) (answered : Bool) : State :=
  (s.updDie n (fun d => { d with mdio := rest })).when (x.op % 2 == 1) (·.setCfg (E.portEthPhyMdioData + x.slot * 256) (if x.op == 1 && !answered then 0xFFFF else data % 65536))

/-- The answer that the operation's write waited for. -/
def State.mdioAnswered (s : State) (x : MdioOp) : State :=
  match x.answer with
  | some o => s.reply x.sess 0 0 o
  | none => s.when (5 ≤ x.sess && (s.app (x.sess - 4)).mbx.busy && (s.app (x.sess - 4)).mbx.op == 3) (·.mailboxDone (x.sess - 4) 0 none)

theorem State.mdioDone_cons {s : State} {n : Nat} {x : MdioOp} {rest : List MdioOp} (h : (s.die n).mdio = x :: rest) (data : Nat) (answered : Bool) :
    s.mdioDone n data answered = (((s.mdioTaken n x rest data answered).mdioAnswered x).raiseSource n 15).mdioSend n := by
  unfold State.mdioDone
  rw [h]
  rfl

theorem State.Forwards.raiseSource (s : State) (n src : Nat) : s.Forwards (s.raiseSource n src) := by
  have hdies : (s.raiseSource n src).dies = s.dies := State.keep_dies (by simp)
  exact State.Forwards.of_same (State.keep_variant (by simp)) (State.keep_od (by simp)) (State.keep_out (by simp)) (State.keep_nextFid (by simp)) (fun m => by rw [State.die_of_dies hdies]) (State.keep_ports (by simp))

theorem State.Forwards.mailboxDone (s : State) (n : Nat) (v : Option Bytes) : s.Forwards (s.mailboxDone n 0 v) := by
  have hdone : ∀ t : State, t.Forwards (t.requestDone (n + 4) 0) := fun t => State.Forwards.ite ⟨rfl, rfl, fun _ _ => rfl, fun _ h => h, Nat.le_refl _, fun _ => rfl, fun _ => rfl⟩ (State.Forwards.refl t)
  have hraise : ∀ t : State, t.Forwards (t.raiseSource n 41) := fun t => State.Forwards.raiseSource t n 41
  have happ : ∀ f, s.Forwards (s.updApp n f) := fun f => ⟨rfl, rfl, fun _ _ => rfl, fun _ h => h, Nat.le_refl _, fun _ => rfl, fun _ => rfl⟩
  unfold State.mailboxDone
  exact ((happ _).trans (hdone _)).trans (State.Forwards.when (f := fun t => t.raiseSource n 41) _ (hraise _))

theorem State.Forwards.mdioSend (s : State) (n : Nat) : s.Forwards (s.mdioSend n) := by
  unfold State.mdioSend
  split
  · exact State.Forwards.emit s _
  · exact State.Forwards.refl s

theorem State.Forwards.settled (s : State) : s.Forwards s.settle :=
  State.Forwards.of_same (State.keep_variant (by simp)) (State.settle_od s) (State.settle_out s) (State.keep_nextFid (by simp)) (fun m => by rw [State.die_settle]) (State.keep_ports (by simp))

theorem State.Forwards.mdioAnswered (s : State) (x : MdioOp) : s.Forwards (s.mdioAnswered x) := by
  unfold State.mdioAnswered
  split
  · exact State.Forwards.reply s _ _ _ _
  · exact State.Forwards.when _ (State.Forwards.mailboxDone s _ _)

section ended
variable (s : State) (n : Nat) (x : MdioOp) (rest : List MdioOp) (data : Nat) (answered : Bool)

theorem State.mdioTaken_mdio : ((s.mdioTaken n x rest data answered).die n).mdio = rest := by
  unfold State.mdioTaken State.when
  split
  · exact congrArg Die.mdio (State.die_updDie s n (fun d => { d with mdio := rest }))
  · rw [State.die_updDie]

theorem State.mdioTaken_cfg : (s.mdioTaken n x rest data answered).cfg (E.portEthPhyMdioData + x.slot * 256) =
    if x.op % 2 = 1 then (if x.op = 1 ∧ answered = false then 0xFFFF else data % 65536) else s.cfg (E.portEthPhyMdioData + x.slot * 256) := by
  unfold State.mdioTaken State.when
  by_cases h : x.op % 2 = 1
  · simp [h, State.cfg, State.setCfg]
  · simp only [h, beq_iff_eq, if_false]
    rfl

theorem State.mdioTaken_cfgRow {e row : Nat} (h : okey e row ≠ okey (E.portEthPhyMdioData + x.slot * 256) noRow) : (s.mdioTaken n x rest data answered).cfgRow e row = s.cfgRow e row := by
  unfold State.mdioTaken State.when
  split
  · exact State.cfgRow_setCfgRow_of_ne _ _ h
  · rfl

end ended

/-- A session's answer leaves, or waits for its relay (R67). -/
theorem State.mdioAnswered_reaches (s : State) {x : MdioOp} {st : Nat} {d : Bytes} (h : x.answer = some (.odResponse x.sess st d)) :
    Out.odResponse x.sess st d ∈ (s.mdioAnswered x).out ∨ Out.odResponse x.sess st d ∈ mget [] (s.mdioAnswered x).relays x.sess := by
  unfold State.mdioAnswered
  rw [h]
  dsimp only
  unfold State.reply
  split
  · exact .inl (List.mem_cons_self)
  · refine .inr ?_
    rw [mget_mset_same]
    exact List.mem_append_right _ (List.mem_singleton_self _)

theorem mdioComplete_leads (s : State) (n data : Nat) (answered : Bool) (x : MdioOp) (rest : List MdioOp) (hd : s.variant.hasDie n = true) (hrun : s.inRun = true) (hdie : s.dieRuns n = true)
    (h : (s.die n).mdio = x :: rest) : s.leads (.mdioOperationComplete n data answered) (fun t =>
      (t.die n).mdio = rest ∧
      t.cfg (E.portEthPhyMdioData + x.slot * 256) = (if x.op % 2 = 1 then (if x.op = 1 ∧ answered = false then 0xFFFF else data % 65536) else s.cfg (E.portEthPhyMdioData + x.slot * 256)) ∧
      (∀ e row, okey e row ≠ okey (E.portEthPhyMdioData + x.slot * 256) noRow → t.cfgRow e row = s.cfgRow e row) ∧
      (∀ st d, x.answer = some (Out.odResponse x.sess st d) → Out.odResponse x.sess st d ∈ t.out ∨ Out.odResponse x.sess st d ∈ mget [] t.relays x.sess) ∧
      (∀ y l, rest = y :: l → t.out.head? = some (.mdio y.slot y.op y.phy y.devad y.reg y.data)) ∧ t = { s with od := t.od, sessions := t.sessions, relays := t.relays, safe := t.safe, dies := t.dies, queues := t.queues, bp := t.bp, policers := t.policers, credits := t.credits, ports := t.ports, intc := t.intc, apps := t.apps, creditDue := t.creditDue, nextFid := t.nextFid, pins := t.pins, fresh := t.fresh, out := t.out }) := by
  have hx : exec (.mdioOperationComplete n data answered) s = .next (s.mdioDone n data answered).settle := doneIf_when hd (by simp [hrun, hdie])
  refine State.leads_of_exec hx ?_
  have hlast := (State.Forwards.mdioAnswered (s.mdioTaken n x rest data answered) x).trans (State.Forwards.raiseSource _ n 15)
  have hpassed := ((State.Forwards.raiseSource ((s.mdioTaken n x rest data answered).mdioAnswered x) n 15).trans (State.Forwards.mdioSend _ n)).trans (State.Forwards.settled _)
  have hsent := (State.Forwards.mdioAnswered (s.mdioTaken n x rest data answered) x).trans hpassed
  have hmix := State.eq_mix (execMdioOperationComplete_rest (fs := 16498585223244) (by decide) n data answered s hx)
  refine ⟨?_, ?_, fun e row hk => ?_, fun st d ha => ?_, fun y l hl => ?_, hmix⟩
  all_goals rw [State.mdioDone_cons h]
  · rw [State.die_settle, State.die_of_dies (State.mdioSend_dies _ n), (hlast.mdio n), State.mdioTaken_mdio]
  · rw [← State.mdioTaken_cfg s n x rest data answered]
    exact State.cfgRow_of_active (hsent.variant) hsent.active _ _
  · rw [← State.mdioTaken_cfgRow s n x rest data answered hk]
    exact State.cfgRow_of_active (hsent.variant) hsent.active _ _
  · refine (State.mdioAnswered_reaches (s.mdioTaken n x rest data answered) ha).imp (fun ho => hpassed.out _ ho) (fun ho => ?_)
    have hrelays : ((((s.mdioTaken n x rest data answered).mdioAnswered x).raiseSource n 15).mdioSend n).settle.relays = ((s.mdioTaken n x rest data answered).mdioAnswered x).relays := State.keep_relays (by simp)
    rwa [hrelays]
  · rw [State.settle_out, State.mdioSend_out (x := y) (l := l) ((hlast.mdio n).trans ((State.mdioTaken_mdio s n x rest data answered).trans hl)), List.head?_cons]

/-- Settles O41: the operations of a die stand in a list whose first is under way; a write joins it, and the end of the first answers its write and sends the next. -/
theorem phyManagement : Obligations.PhyManagement := by
  unfold Obligations.PhyManagement
  intro s
  refine ⟨fun sess slot c op hc he hs ha hans hr => ?_, fun n data answered x rest hd hrun hdie h => mdioComplete_leads s n data answered x rest hd hrun hdie h⟩
  obtain ⟨hexec, hop⟩ : exec c s = s.mdioWrite sess slot op ∧ op < 256 := by
    simp only [List.contains_iff_mem, List.mem_cons, List.not_mem_nil, or_false, Prod.mk.injEq] at hc
    obtain ⟨rfl, rfl⟩ | ⟨rfl, rfl⟩ | ⟨rfl, rfl⟩ | ⟨rfl, rfl⟩ := hc
    all_goals exact ⟨rfl, by decide⟩
  refine State.leads_of_exec (State.mdioWrite_exec hexec hs he ha hans hr hop) ⟨?_, ?_, fun n hn => ?_, State.eq_mix (fs := 10995116326920) ?_⟩
  · rw [State.die_settle, State.mdioAsks_die ha hans hr, if_pos rfl]
    rfl
  · rw [State.settle_out, State.mdioAsks_out ha hans hr]
  · rw [State.die_settle, State.mdioAsks_die ha hans hr, if_neg hn]
  · rw [State.settle_rest (by decide), State.rest_weaken (by decide) (State.mdioAsks_mix ha)]

end Sys2Proof.Machine
end

section
/-! Requests of the Anise endpoint: sequence, answers, openings and their ends (R69, R70, R79 to R84). -/

namespace Sys2Proof.Machine
open Sys2Proof
set_option Elab.async false

/-! ### Messages that reach their session -/

theorem State.aniseIn_runs {s : State} {m : AniseMsg} (hs : s.variant.hasSlot m.env.slot = true) (he : isEth m.env.slot = true) (hr : s.endpointRuns = true) (hf : s.forEndpoint m.env = true)
    (hb : m.bad = false) (f : State → State) : s.aniseIn m f = .next (f s).settle := by
  unfold State.aniseIn
  rw [doneIf_when (by simp [hs, he]) (by simp [hr, hf]), hb]
  rfl

theorem State.sidRow_ne_noSession {s : State} {sid row : Nat} {want : Session → Bool} (h : s.sidRow sid want = some row) : row ≠ noSession := by
  unfold State.sidRow at h
  split at h
  · cases h
  · have hmem := List.mem_of_find?_eq_some h
    simp only [List.mem_cons, List.not_mem_nil, or_false] at hmem
    simp only [noSession]
    omega

/-- An authentic request whose sequence number is accepted is served (R83). -/
theorem State.aniseSession_serves {s : State} {m : AniseMsg} {op row a b : Nat} (hrow : s.sidRow m.sid (·.valid) = some row) (hseq : m.seq ≠ 0)
    (htag : aniseTag (s.sess row).ks (m.bytes op) = m.tag) (hrep : (s.sess row).replay m.seq (m.bytes op ++ m.tag) = .accept a b) (f : State → Nat → Bytes → State) :
    s.aniseSession m op f = f (s.aniseAccept row a b) row (s.sess row).ks := by
  unfold State.aniseSession
  simp [hrow, htag, hrep, hseq]

theorem State.aniseSession_drops {s : State} {m : AniseMsg} {op row : Nat} (hrow : s.sidRow m.sid (·.valid) = some row) (htag : aniseTag (s.sess row).ks (m.bytes op) ≠ m.tag)
    (f : State → Nat → Bytes → State) : s.aniseSession m op f = s.aniseDrop := by
  unfold State.aniseSession
  simp [hrow, htag]

/-! ### An accepted request (R83) -/

section accepted
variable (s : State) (row a b : Nat)

theorem State.aniseAccept_sess : (s.aniseAccept row a b).sess row = { s.sess row with sMax := a, window := b, last := s.clock.ticks } := State.sess_updSess _ row _

theorem State.aniseAccept_sessElse {k : Nat} (h : k ≠ row) : (s.aniseAccept row a b).sess k = s.sess k := mget_mset_other _ _ _ h

theorem State.aniseAccept_st : (s.aniseAccept row a b).st E.accessCntAccepted = (s.st E.accessCntAccepted + 1) % odModulus s.variant E.accessCntAccepted :=
  State.stRow_setRow s _ _ _

theorem State.aniseAccept_sessLevel (k : Nat) : (s.aniseAccept row a b).sessLevel k = s.sessLevel k := by
  unfold State.sessLevel
  by_cases h : k = row
  · subst h
    rw [State.aniseAccept_sess]
    rfl
  · rw [State.aniseAccept_sessElse s row a b h]
    rfl

theorem State.aniseAccept_serves (k : Nat) : (s.aniseAccept row a b).serves k = s.serves k := by
  unfold State.serves
  by_cases h : k = row
  · subst h
    rw [State.aniseAccept_sess]
    rfl
  · rw [State.aniseAccept_sessElse s row a b h]
    rfl

/-- An accepted request leaves the rights of its session as they were. -/
theorem State.aniseAccept_accepts (idx sub r : Nat) (v : Bytes) : (s.aniseAccept row a b).accepts row idx sub r v = s.accepts row idx sub r v := by
  unfold State.accepts
  rw [State.aniseAccept_serves, State.aniseAccept_sessLevel]
  rfl

end accepted

/-! ### Answers -/

/-- The session's note of an answered request and its answer, kept for a repetition. -/
def State.aniseNoted (s : State) (row status : Nat) (request answer : Bytes) : State :=
  (s.updSess row (fun x => { x with lastStatus := status, last := s.clock.ticks })).aniseCache row request answer

theorem State.aniseNoted_sess (s : State) (row status : Nat) (request answer : Bytes) :
    ∃ c, (s.aniseNoted row status request answer).sess row = { s.sess row with lastStatus := status, last := s.clock.ticks, cache := c } := by
  unfold State.aniseNoted State.aniseCache State.when
  split
  · exact ⟨_, by rw [State.sess_updSess, State.sess_updSess]⟩
  · exact ⟨_, State.sess_updSess _ row _⟩

theorem State.aniseNoted_sessElse (s : State) {row k : Nat} (h : k ≠ row) (status : Nat) (request answer : Bytes) : (s.aniseNoted row status request answer).sess k = s.sess k := by
  unfold State.aniseNoted State.aniseCache State.when
  split
  · exact (mget_mset_other _ _ _ h).trans (mget_mset_other _ _ _ h)
  · exact mget_mset_other _ _ _ h

theorem State.Forwards.aniseNoted (s : State) (row status : Nat) (request answer : Bytes) : s.Forwards (s.aniseNoted row status request answer) := by
  have hupd : ∀ (t : State) (f : Session → Session), t.Forwards (t.updSess row f) := fun _ _ => ⟨rfl, rfl, fun _ _ => rfl, fun _ h => h, Nat.le_refl _, fun _ => rfl, fun _ => rfl⟩
  unfold State.aniseNoted State.aniseCache
  exact (hupd _ _).trans (State.Forwards.when _ (hupd _ _))

theorem State.Forwards.carrier {s t : State} (h : s.Forwards t) (sess : Nat) : t.carrier sess = s.carrier sess := by
  simp only [State.carrier, State.cfg_of_active h.variant h.active]

@[simp] theorem State.reply_sess (s : State) (sess server status : Nat) (o : Out) (k : Nat) : (s.reply sess server status o).sess k = s.sess k := by
  have h : (s.reply sess server status o).sessions = s.sessions := State.keep_sessions (by simp)
  rw [State.sess, h, State.sess]

@[simp] theorem State.send_sess (s : State) (o : Out) (k : Nat) : (s.send o).sess k = s.sess k := by
  have h : (s.send o).sessions = s.sessions := State.keep_sessions (by simp)
  rw [State.sess, h, State.sess]

theorem State.send_leaves (s : State) (o : Out) : o ∈ (s.send o).out := by
  unfold State.send
  split
  · exact ((State.Forwards.sendInternal _ _ _ _ _).trans (State.Forwards.draw _)).out _ List.mem_cons_self
  · exact List.mem_cons_self

/-- An answer leaves where its carrier serves it, and waits for its relay otherwise (R67). -/
theorem State.reply_reaches (s : State) {sess server status : Nat} (hst : status ≠ 0x0D) (o : Out) :
    if s.carrier sess = server then o ∈ (s.reply sess server status o).out else o ∈ mget [] (s.reply sess server status o).relays sess := by
  unfold State.reply
  by_cases h : s.carrier sess = server
  · simpa [h] using State.send_leaves s o
  · simp [h, hst]

section answered
variable (s : State) (m : AniseMsg) (op row server status : Nat) (data ks : Bytes) (h6 : status ≠ 0x06) (hs : row ≠ noSession)
include h6 hs

theorem State.aniseReply_eq : s.aniseReply m op row server status data ks =
    (s.aniseNoted row status (m.bytes op ++ m.tag) (m.response op status data (some ks))).reply row server status (.anise m.env (m.response op status data (some ks))) := by
  unfold State.aniseReply
  rw [State.requestDone_plain _ h6 hs]
  rfl

theorem State.Forwards.aniseReply : s.Forwards (s.aniseReply m op row server status data ks) := by
  rw [State.aniseReply_eq s m op row server status data ks h6 hs]
  exact (State.Forwards.aniseNoted s _ _ _ _).trans (State.Forwards.reply _ _ _ _ _)

theorem State.aniseReply_sess : ∃ c, (s.aniseReply m op row server status data ks).sess row = { s.sess row with lastStatus := status, last := s.clock.ticks, cache := c } := by
  rw [State.aniseReply_eq s m op row server status data ks h6 hs, State.reply_sess]
  exact State.aniseNoted_sess s _ _ _ _

theorem State.aniseReply_sessElse {k : Nat} (hk : k ≠ row) : (s.aniseReply m op row server status data ks).sess k = s.sess k := by
  rw [State.aniseReply_eq s m op row server status data ks h6 hs, State.reply_sess, State.aniseNoted_sessElse s hk]

end answered

/-- What an accepted request that is answered with status 0 leaves of its session and the counters. -/
structure State.AniseServed (s t : State) (row a b : Nat) : Prop where
  sMax : (t.sess row).sMax = a
  window : (t.sess row).window = b
  last : (t.sess row).last = s.clock.ticks
  status : (t.sess row).lastStatus = 0
  counted : t.st E.accessCntAccepted = (s.st E.accessCntAccepted + 1) % odModulus s.variant E.accessCntAccepted
  others : t.sessElse s row

section served
variable {s u : State} (m : AniseMsg) (op server : Nat) {row : Nat} (data ks : Bytes) (hs : row ≠ noSession)
include hs

/-- An answer leaves the request accepted, whatever served it. -/
theorem State.aniseReply_served {a b : Nat} (hu : (u.sess row).sMax = a ∧ (u.sess row).window = b) (hclock : u.clock = s.clock)
    (hst : u.st E.accessCntAccepted = (s.st E.accessCntAccepted + 1) % odModulus s.variant E.accessCntAccepted) (helse : ∀ k, k ≠ row → u.sess k = s.sess k) :
    s.AniseServed (u.aniseReply m op row server 0 data ks).settle row a b := by
  obtain ⟨c, hc⟩ := State.aniseReply_sess u m op row server 0 data ks (by decide) hs
  have hforward := (State.Forwards.aniseReply u m op row server 0 data ks (by decide) hs).trans (State.Forwards.settled _)
  refine ⟨?_, ?_, ?_, ?_, (hforward.entry _ (by decide)).trans hst, fun k hk => ?_⟩
  · rw [State.sess_settle, hc, hu.1]
  · rw [State.sess_settle, hc, hu.2]
  · rw [State.sess_settle, hc, hclock]
  · rw [State.sess_settle, hc]
  · rw [State.sess_settle, State.aniseReply_sessElse u m op row server 0 data ks (by decide) hs hk, helse k hk]

theorem State.aniseReply_reaches : if u.carrier row = server then Out.anise m.env (m.response op 0 data (some ks)) ∈ (u.aniseReply m op row server 0 data ks).settle.out
    else Out.anise m.env (m.response op 0 data (some ks)) ∈ mget [] (u.aniseReply m op row server 0 data ks).settle.relays row := by
  have hrelays : (u.aniseReply m op row server 0 data ks).settle.relays = (u.aniseReply m op row server 0 data ks).relays := State.keep_relays (by simp)
  rw [State.settle_out, hrelays, State.aniseReply_eq u m op row server 0 data ks (by decide) hs]
  rw [← (State.Forwards.aniseNoted u row 0 (m.bytes op ++ m.tag) (m.response op 0 data (some ks))).carrier row]
  exact State.reply_reaches _ (status := 0) (by decide) _

end served

theorem State.endSession_st (s : State) (row e : Nat) : (s.endSession row).st e = s.st e := by
  have hrelease : (s.releaseStaging row).st e = s.st e := by
    unfold State.releaseStaging
    repeat' split
    all_goals rfl
  unfold State.endSession
  dsimp only
  split
  · exact hrelease
  · exact hrelease

/-! ### The requests of a session -/

section requests
variable {s : State} {m : AniseMsg} {row a b : Nat} (hs : s.variant.hasSlot m.env.slot = true) (he : isEth m.env.slot = true) (hr : s.endpointRuns = true)
  (hf : s.forEndpoint m.env = true) (hb : m.bad = false) (hrow : s.sidRow m.sid (·.valid) = some row) (hseq : m.seq ≠ 0)
include hs he hr hf hb hrow hseq

theorem aniseEcho_leads (htag : aniseTag (s.sess row).ks (m.bytes 6) = m.tag) (hrep : (s.sess row).replay m.seq (m.bytes 6 ++ m.tag) = .accept a b) (hok : m.flagsOk = true) :
    s.leads (.aniseEcho m) (fun t => .anise m.env (m.response 6 0 m.data (some (s.sess row).ks)) ∈ t.out ∧ s.AniseServed t row a b ∧
      t = { s with od := t.od, sessions := t.sessions, relays := t.relays, safe := t.safe, dies := t.dies, queues := t.queues, bp := t.bp, policers := t.policers, credits := t.credits, ports := t.ports, creditDue := t.creditDue, nextFid := t.nextFid, pins := t.pins, fresh := t.fresh, out := t.out }) := by
  have hsess := State.sidRow_ne_noSession hrow
  have hx : exec (.aniseEcho m) s = .next ((s.aniseAccept row a b).aniseReply m 6 row (s.carrier row) 0 m.data (s.sess row).ks).settle := by
    refine (State.aniseIn_runs hs he hr hf hb _).trans (congrArg (fun t : State => Host.Outcome.next t.settle) ?_)
    rw [State.aniseSession_serves hrow hseq htag hrep, hok]
    rfl
  refine State.leads_of_exec hx ⟨?_, ?_, State.eq_mix (execAniseEcho_rest (fs := 16496974610508) (by decide) m s hx)⟩
  · exact (if_pos rfl).mp (State.aniseReply_reaches (u := s.aniseAccept row a b) m 6 (s.carrier row) m.data (s.sess row).ks hsess)
  · exact State.aniseReply_served m 6 _ m.data _ hsess (by rw [State.aniseAccept_sess]; exact ⟨rfl, rfl⟩) rfl (State.aniseAccept_st s row a b) (fun k hk => State.aniseAccept_sessElse s row a b hk)

theorem aniseRead_leads (v : Bytes) (htag : aniseTag (s.sess row).ks (m.bytes 1) = m.tag) (hrep : (s.sess row).replay m.seq (m.bytes 1 ++ m.tag) = .accept a b) (hok : m.flagsOk = true)
    (hdata : m.data = []) (hsid : m.sid ≠ 0) (hread : (s.aniseAccept row a b).odRead row m.index m.sub m.offset (bitAt m.flags 1) false = (0, v))
    (hserved : s.carrier row = servingDie m.index m.sub m.offset) :
    s.leads (.aniseRead m) (fun t => .anise m.env (m.response 1 0 v (some (s.sess row).ks)) ∈ t.out ∧ s.AniseServed t row a b ∧
      t = { s with od := t.od, sessions := t.sessions, sidZero := t.sidZero, relays := t.relays, ev := t.ev, safe := t.safe, dies := t.dies, queues := t.queues, bp := t.bp, policers := t.policers, credits := t.credits, ports := t.ports, mram := t.mram, intc := t.intc, creditDue := t.creditDue, nextFid := t.nextFid, pins := t.pins, fresh := t.fresh, out := t.out }) := by
  have hsess := State.sidRow_ne_noSession hrow
  have hx : exec (.aniseRead m) s = .next ((s.aniseAccept row a b).aniseReply m 1 row (servingDie m.index m.sub m.offset) 0 v (s.sess row).ks).settle := by
    refine (State.aniseIn_runs hs he hr hf hb _).trans (congrArg (fun t : State => Host.Outcome.next t.settle) ?_)
    rw [beq_false_of_ne hsid, if_neg (by decide), State.aniseSession_serves hrow hseq htag hrep, State.aniseRead, hok, hdata, hread, State.readFinds_found]
    rfl
  refine State.leads_of_exec hx ⟨?_, ?_, State.eq_mix (execAniseRead_rest (fs := 16497578592364) (by decide) m s hx)⟩
  · exact (if_pos hserved).mp (State.aniseReply_reaches (u := s.aniseAccept row a b) m 1 (servingDie m.index m.sub m.offset) v (s.sess row).ks hsess)
  · exact State.aniseReply_served m 1 _ v _ hsess (by rw [State.aniseAccept_sess]; exact ⟨rfl, rfl⟩) rfl (State.aniseAccept_st s row a b) (fun k hk => State.aniseAccept_sessElse s row a b hk)

theorem aniseWrite_leads (o : OdObject) (x : OdEntry) (htag : aniseTag (s.sess row).ks (m.bytes 2) = m.tag) (hrep : (s.sess row).replay m.seq (m.bytes 2 ++ m.tag) = .accept a b) (hok : m.flagsOk = true)
    (ho : odObject s.variant m.index = some o) (hx : odEntry s.variant (m.index * 256 + m.sub) = some x) (hacc : x.acc = .rw) (hlive : x.live = false)
    (ha : s.accepts row m.index m.sub m.offset m.data = true) (hfree : s.mayStage row = true) (hroom : s.hasRoom [(okey (m.index * 256 + m.sub) (o.keyRow m.offset), leNat m.data)] = true) :
    s.leads (.aniseWrite m) (fun t =>
      mfind t.od.staging (okey (m.index * 256 + m.sub) (o.keyRow m.offset)) = some (leNat m.data) ∧ t.lockHolder = some row ∧ t.od.active = s.od.active ∧ s.AniseServed t row a b ∧
      (if s.carrier row = servingDie m.index m.sub m.offset then Out.anise m.env (m.response 2 0 [] (some (s.sess row).ks)) ∈ t.out
        else Out.anise m.env (m.response 2 0 [] (some (s.sess row).ks)) ∈ mget [] t.relays row) ∧
      t = { s with od := t.od, sessions := t.sessions, relays := t.relays, lockHolder := t.lockHolder, safe := t.safe, dies := t.dies, queues := t.queues, bp := t.bp, policers := t.policers, credits := t.credits, ports := t.ports, creditDue := t.creditDue, nextFid := t.nextFid, pins := t.pins, fresh := t.fresh, out := t.out }) := by
  have hsess := State.sidRow_ne_noSession hrow
  have hw : (s.aniseAccept row a b).odWrite row m.index m.sub m.offset m.data = ((s.aniseAccept row a b).staged row [(okey (m.index * 256 + m.sub) (o.keyRow m.offset), leNat m.data)], 0) :=
    State.odWrite_staged ((State.aniseAccept_accepts s row a b _ _ _ _).trans ha) ho hx hacc hlive hfree hroom
  have hexec : exec (.aniseWrite m) s = .next (((s.aniseAccept row a b).staged row [(okey (m.index * 256 + m.sub) (o.keyRow m.offset), leNat m.data)]).aniseReply m 2 row (servingDie m.index m.sub m.offset) 0 [] (s.sess row).ks).settle := by
    refine (State.aniseIn_runs hs he hr hf hb _).trans (congrArg (fun t : State => Host.Outcome.next t.settle) ?_)
    rw [State.aniseSession_serves hrow hseq htag hrep, State.aniseWrite, hok, hw]
    rfl
  generalize hu : (s.aniseAccept row a b).staged row [(okey (m.index * 256 + m.sub) (o.keyRow m.offset), leNat m.data)] = u at hexec
  have hsessions : u.sessions = (s.aniseAccept row a b).sessions := by rw [← hu]; rfl
  have hforward := (State.Forwards.aniseReply u m 2 row (servingDie m.index m.sub m.offset) 0 [] (s.sess row).ks (by decide) hsess).trans (State.Forwards.settled _)
  have hlock : (u.aniseReply m 2 row (servingDie m.index m.sub m.offset) 0 [] (s.sess row).ks).settle.lockHolder = u.lockHolder := by
    rw [State.aniseReply_eq u m 2 row _ 0 [] _ (by decide) hsess]
    exact State.keep_lockHolder (by simp [State.aniseNoted, State.aniseCache])
  refine State.leads_of_exec hexec ⟨?_, ?_, ?_, ?_, ?_, State.eq_mix (fs := 16496974610636) ?_⟩
  · rw [hforward.stores, ← hu]
    exact State.staged_one _ row _ _
  · rw [hlock, ← hu]
    rfl
  · rw [hforward.stores, ← hu]
    rfl
  · refine State.aniseReply_served m 2 _ [] _ hsess ?_ (by rw [← hu]; rfl) ?_ (fun k hk => ?_)
    · rw [State.sess, hsessions, ← State.sess, State.aniseAccept_sess]
      exact ⟨rfl, rfl⟩
    · rw [← State.aniseAccept_st s row a b, ← hu]
      rfl
    · rw [State.sess, hsessions, ← State.sess, State.aniseAccept_sessElse s row a b hk]
  · have hcarrier : u.carrier row = s.carrier row := by rw [← hu]; rfl
    rw [← hcarrier]
    exact State.aniseReply_reaches (u := u) m 2 _ [] _ hsess
  · rw [State.settle_rest (by decide), State.aniseReply_eq u m 2 row _ 0 [] _ (by decide) hsess, ← hu]
    simp [State.aniseNoted, State.aniseCache, State.staged, State.aniseAccept]

theorem aniseClose_leads (hlt : row < 5) (htag : aniseTag (s.sess row).ks (m.bytes 5) = m.tag) (hrep : (s.sess row).replay m.seq (m.bytes 5 ++ m.tag) = .accept a b) (hok : m.flagsOk = true) (hdata : m.data = []) :
    s.leads (.aniseClose m) (fun t => t.sess row = {} ∧ .anise m.env (m.response 5 0 [] (some (s.sess row).ks)) ∈ t.out ∧ t.sessElse s row ∧
      t.st E.accessCntAccepted = (s.st E.accessCntAccepted + 1) % odModulus s.variant E.accessCntAccepted ∧
      t = { s with od := t.od, sessions := t.sessions, relays := t.relays, lockHolder := t.lockHolder, commit := t.commit, safe := t.safe, dies := t.dies, queues := t.queues, bp := t.bp, policers := t.policers, credits := t.credits, ports := t.ports, creditDue := t.creditDue, life := t.life, nextFid := t.nextFid, pins := t.pins, fresh := t.fresh, out := t.out }) := by
  have hx : exec (.aniseClose m) s = .next (((s.aniseAccept row a b).endSession row).send (.anise m.env (m.response 5 0 [] (some (s.sess row).ks)))).settle := by
    refine (State.aniseIn_runs hs he hr hf hb _).trans (congrArg (fun t : State => Host.Outcome.next t.settle) ?_)
    rw [State.aniseSession_serves hrow hseq htag hrep, State.aniseClose, hok, hdata]
    rfl
  refine State.leads_of_exec hx ⟨?_, ?_, fun k hk => ?_, ?_, State.eq_mix (execAniseClose_rest (fs := 16565694087628) (by decide) m s hx)⟩
  · rw [State.sess_settle, State.send_sess, State.sess_endSession_same _ hlt]
  · rw [State.settle_out]
    exact State.send_leaves _ _
  · rw [State.sess_settle, State.send_sess, State.sess_endSession_other _ hlt hk, State.aniseAccept_sessElse s row a b hk]
  · rw [((State.Forwards.send _ _).trans (State.Forwards.settled _)).entry _ (by decide), ← State.aniseAccept_st s row a b, State.endSession_st]

end requests

/-! ### Openings -/

theorem State.sess_setSess_other (s : State) {row k : Nat} (h : k ≠ row) (x : Session) : (s.setSess row x).sess k = s.sess k := mget_mset_other ({} : Session) s.sessions x h

/-- The opening that OPEN leaves pending, and its answer (R81). -/
def State.anisePending (s : State) (m : AniseMsg) (row : Nat) : State :=
  (s.draw.draw.setSess row { pending := true, sid := s.newSid, peer := m.env.srcIp, reqLevel := leNat (m.data.take 1), nd := (Config.trng (s.fresh + 1)).toNat, nc := leNat (m.data.drop 1), last := s.clock.ticks }).openAnswer m 0 (toLE 4 s.newSid ++ toLE 32 (Config.trng (s.fresh + 1)).toNat)

theorem State.anisePending_sess (s : State) (m : AniseMsg) (row : Nat) : (s.anisePending m row).sess row =
    { pending := true, sid := s.newSid, peer := m.env.srcIp, reqLevel := leNat (m.data.take 1), nd := (Config.trng (s.fresh + 1)).toNat, nc := leNat (m.data.drop 1), last := s.clock.ticks } :=
  (State.send_sess _ _ _).trans (State.sess_setSess _ _ _)

theorem State.anisePending_sessElse (s : State) (m : AniseMsg) {row k : Nat} (hk : k ≠ row) : (s.anisePending m row).sess k = s.sess k :=
  (State.send_sess _ _ _).trans (State.sess_setSess_other s.draw.draw hk _)

theorem State.anisePending_sidZero (s : State) (m : AniseMsg) (row : Nat) : (s.anisePending m row).sidZero = s.sidZero := State.keep_sidZero (by simp [State.anisePending])

/-- OPEN draws an opening where nothing stops it (R69, R73, R81). -/
structure State.MayOpen (s : State) (m : AniseMsg) (row : Nat) : Prop where
  free : [1, 2, 3, 4].find? (fun r => !(s.sess r).valid && !(s.sess r).pending) = some row
  reach : s.reachesServer row 0 = true
  lockout : (s.lockout 2).locked = false
  barred : s.life.barred = false
  room : s.aniseHeld < s.cfg E.accessAniseMaxSessions
  trng : s.safe.noTrng = false
  sha : s.safe.noSha = false

theorem State.aniseOpen_pends {s : State} {m : AniseMsg} {row : Nat} (h : s.MayOpen m row) (hok : m.flagsOk = true) (hlen : m.data.length = 33) (hlevel : rangeStatus 1 4 (leNat (m.data.take 1)) = 0) :
    s.aniseOpen m = s.anisePending m row := by
  obtain ⟨hfree, hreach, hlock, hbar, hroom, htrng, hsha⟩ := h
  unfold State.aniseOpen
  rw [hfree]
  simp only [hok, hlen, hlevel, hreach, hlock, hbar, htrng, hsha, Nat.not_le.mpr hroom, Bool.not_true, Bool.or_false, Bool.false_eq_true, if_false, bne_self_eq_false]
  rfl

/-- An accepted request without a session (R82). -/
def State.aniseCounted (s : State) : State :=
  ({ s with sidZero := s.clock.ticks :: s.sidZero.filter (fun x => s.clock.ticks - x < 40000000) } : State).count E.accessCntAccepted

theorem State.withoutSession_serves {s : State} (h : (s.sidZero.filter (fun x => s.clock.ticks - x < 40000000)).length < 100) (f : State → State) : s.withoutSession f = f s.aniseCounted :=
  if_neg (Nat.not_le.mpr h)

/-- The session that an opening's right proof opens (R70, R81). -/
def State.aniseOpened (s : State) (m : AniseMsg) (row : Nat) (ks : Bytes) : State :=
  let x := s.sess row
  let opened : Session := { valid := true, level := x.reqLevel, sid := x.sid, peer := x.peer, last := s.clock.ticks, ks := ks, sMax := 1, window := 1, cache := [(m.bytes 4 ++ m.tag, m.response 4 0 [] (some ks))] }
  ((s.count E.accessCntAccepted).setSess row opened).openDone 2 x.reqLevel x.peer x.sid

/-- The opening of a wrong proof is gone, and counted (R73). -/
def State.aniseFailed (s : State) (row : Nat) : State :=
  ({ s with sessions := mdel s.sessions row } : State).openFailed 2 (s.sess row).reqLevel (s.sess row).peer (s.sess row).sid

theorem State.aniseOpened_sess (s : State) (m : AniseMsg) (row : Nat) (ks : Bytes) : (s.aniseOpened m row ks).sess row =
    { valid := true, level := (s.sess row).reqLevel, sid := (s.sess row).sid, peer := (s.sess row).peer, last := s.clock.ticks, ks := ks, sMax := 1, window := 1, cache := [(m.bytes 4 ++ m.tag, m.response 4 0 [] (some ks))] } :=
  (State.openDone_sess _ _ _ _ _ _).trans (State.sess_setSess _ _ _)

theorem State.aniseOpened_sessElse (s : State) (m : AniseMsg) {row k : Nat} (hk : k ≠ row) (ks : Bytes) : (s.aniseOpened m row ks).sess k = s.sess k :=
  (State.openDone_sess _ _ _ _ _ _).trans (State.sess_setSess_other (s.count E.accessCntAccepted) hk _)

theorem State.aniseFailed_sess (s : State) (row : Nat) : (s.aniseFailed row).sess row = {} :=
  (State.openFailed_sess _ _ _ _ _ _).trans (mget_mdel_same ({} : Session) s.sessions row)

theorem State.aniseFailed_sessElse (s : State) {row k : Nat} (hk : k ≠ row) : (s.aniseFailed row).sess k = s.sess k :=
  (State.openFailed_sess _ _ _ _ _ _).trans (mget_mdel_other ({} : Session) s.sessions hk)

/-- An authentic proof is judged, but for a lockout (R70, R73). -/
theorem State.aniseAuth_judged {s : State} {m : AniseMsg} {row : Nat} {key : Bytes} (hkey : s.accessKey (s.sess row).reqLevel = some key)
    (htag : aniseTag (sessionKey key (s.sess row).sid (s.sess row).nd (s.sess row).nc) (m.bytes 4) = m.tag) (hok : m.flagsOk = true) (hseq : m.seq = 1) (hlen : m.data.length = 32)
    (hsha : s.safe.noSha = false) : s.aniseAuth m row =
      if (s.lockout 2).locked then s.send (.anise m.env (m.response 4 0x13 [] (some (sessionKey key (s.sess row).sid (s.sess row).nd (s.sess row).nc))))
      else if s.proofOk row 2 m.data then (s.aniseOpened m row (sessionKey key (s.sess row).sid (s.sess row).nd (s.sess row).nc)).send
        (.anise m.env (m.response 4 0 [] (some (sessionKey key (s.sess row).sid (s.sess row).nd (s.sess row).nc))))
      else (s.aniseFailed row).send (.anise m.env (m.response 4 0x12 [] none)) := by
  unfold State.aniseAuth
  dsimp only
  rw [hkey]
  simp only [htag, hok, hseq, hlen, hsha, bne_self_eq_false, Bool.not_true, Bool.or_false, Bool.false_eq_true, if_false]
  rfl

/-! ### Messages that are dropped (R84) -/

theorem anise_drops {s : State} {c : Instr} (hx : exec c s = .next s.aniseDrop.settle) : s.leads c (fun t => t.st E.accessCntDropped = (s.st E.accessCntDropped + 1) % odModulus s.variant E.accessCntDropped ∧
    t.sessions = s.sessions ∧ t.out = s.out ∧ t = { s with od := { s.od with stat := t.od.stat }, safe := t.safe, pins := t.pins }) := by
  refine State.leads_of_exec hx ⟨?_, State.keep_sessions ?_, State.settle_out _, ?_⟩
  · rw [State.st_of_od (State.keep_variant (State.settle_rest (by decide) _)) (State.settle_od s.aniseDrop)]
    exact State.stRow_setRow s _ _ _
  · rw [State.settle_rest (by decide)]
    rfl
  · rw [State.settle_od]
    exact State.settle_mix _

section messages
variable {s : State} {m : AniseMsg} {row : Nat} (hs : s.variant.hasSlot m.env.slot = true) (he : isEth m.env.slot = true) (hr : s.endpointRuns = true)
  (hf : s.forEndpoint m.env = true) (hb : m.bad = false)
include hs he hr hf hb

theorem aniseTag_wrong {k : Nat} (hk : k ∈ [1, 2, 5]) (hsid : m.sid ≠ 0) (hrow : s.sidRow m.sid (·.valid) = some row) (htag : aniseTag (s.sess row).ks (m.bytes k) ≠ m.tag) :
    exec (if k = 1 then .aniseRead m else if k = 2 then .aniseWrite m else .aniseClose m) s = .next s.aniseDrop.settle := by
  have hexec : ∀ f : State → State, f s = s.aniseDrop → s.aniseIn m f = .next s.aniseDrop.settle := fun f h => by rw [State.aniseIn_runs hs he hr hf hb, h]
  simp only [List.mem_cons, List.not_mem_nil, or_false] at hk
  obtain rfl | rfl | rfl := hk
  · exact hexec _ ((if_neg (by simp [hsid])).trans (State.aniseSession_drops hrow htag _))
  · exact hexec _ (State.aniseSession_drops hrow htag _)
  · exact hexec _ (State.aniseSession_drops hrow htag _)

theorem aniseOpen_leads (hsid : m.sid = 0) (hrow : [1, 2, 3, 4].find? (fun r => !(s.sess r).valid && !(s.sess r).pending) = some row)
    (hrate : (s.sidZero.filter (fun x => s.clock.ticks - x < 40000000)).length < 100) (hok : m.flagsOk = true) (hlen : m.data.length = 33) (hlevel : rangeStatus 1 4 (leNat (m.data.take 1)) = 0)
    (hreach : s.reachesServer row 0 = true) (hlock : (s.lockout 2).locked = false) (hbar : s.life.barred = false) (hroom : s.aniseHeld < s.cfg E.accessAniseMaxSessions)
    (htrng : s.safe.noTrng = false) (hsha : s.safe.noSha = false) : s.leads (.aniseOpen m) (fun t =>
      t.sess row = { ({} : Session) with pending := true, sid := s.newSid, peer := m.env.srcIp, reqLevel := leNat (m.data.take 1), nd := (Config.trng (s.fresh + 1)).toNat, nc := leNat (m.data.drop 1), last := s.clock.ticks } ∧
      .anise m.env (m.response 3 0 (toLE 4 s.newSid ++ toLE 32 (Config.trng (s.fresh + 1)).toNat) none) ∈ t.out ∧
      t.sidZero = s.clock.ticks :: s.sidZero.filter (fun x => s.clock.ticks - x < 40000000) ∧ t.sessElse s row ∧
      t = { s with od := t.od, sessions := t.sessions, sidZero := t.sidZero, relays := t.relays, safe := t.safe, dies := t.dies, queues := t.queues, bp := t.bp, policers := t.policers, credits := t.credits, ports := t.ports, creditDue := t.creditDue, nextFid := t.nextFid, pins := t.pins, fresh := t.fresh, out := t.out }) := by
  have hx : exec (.aniseOpen m) s = .next (s.aniseCounted.anisePending m row).settle := by
    refine (State.aniseIn_runs hs he hr hf hb _).trans (congrArg (fun t : State => Host.Outcome.next t.settle) ?_)
    have hpends : s.aniseCounted.MayOpen m row := ⟨hrow, hreach, hlock, hbar, hroom, htrng, hsha⟩
    rw [hsid, if_pos (by rfl), State.withoutSession_serves hrate]
    exact State.aniseOpen_pends hpends hok hlen hlevel
  have hmix := State.eq_mix (execAniseOpen_rest (fs := 16496974610540) (by decide) m s hx)
  have hsid0 : s.aniseCounted.sidZero = s.clock.ticks :: s.sidZero.filter (fun x => s.clock.ticks - x < 40000000) := rfl
  have hsessions : s.aniseCounted.sessions = s.sessions := rfl
  have hsame : s.aniseCounted.newSid = s.newSid ∧ s.aniseCounted.fresh = s.fresh ∧ s.aniseCounted.clock = s.clock := ⟨rfl, rfl, rfl⟩
  generalize s.aniseCounted = u at hx hmix hsid0 hsessions hsame
  obtain ⟨hnew, hfresh, hclock⟩ := hsame
  refine State.leads_of_exec hx ⟨?_, ?_, ?_, fun k hk => ?_, hmix⟩
  · rw [State.sess_settle, State.anisePending_sess, hnew, hfresh, hclock]
  · rw [State.settle_out, ← hnew, ← hfresh]
    exact State.send_leaves _ _
  · rw [State.keep_sidZero (State.settle_rest (by decide) _), State.anisePending_sidZero, hsid0]
  · rw [State.sess_settle, State.anisePending_sessElse u m hk, State.sess, hsessions, State.sess]

/-! ### Proofs of a pending opening -/

theorem aniseAuth_leads {key : Bytes} (hrow : s.sidRow m.sid (·.pending) = some row) (hkey : s.accessKey (s.sess row).reqLevel = some key)
    (htag : aniseTag (sessionKey key (s.sess row).sid (s.sess row).nd (s.sess row).nc) (m.bytes 4) = m.tag) (hok : m.flagsOk = true) (hseq : m.seq = 1) (hlen : m.data.length = 32)
    (hsha : s.safe.noSha = false) :
    s.leads (.aniseAuth m) (fun t =>
      ((s.lockout 2).locked = true → t.sessions = s.sessions ∧ t.lockouts = s.lockouts) ∧ ((s.lockout 2).locked = false →
        (s.proofOk row 2 m.data = true → (t.sess row).valid = true ∧ (t.sess row).pending = false ∧ (t.sess row).level = (s.sess row).reqLevel ∧
        (t.sess row).ks = sessionKey key (s.sess row).sid (s.sess row).nd (s.sess row).nc ∧ (t.sess row).sMax = 1 ∧ t.lockout 2 = {}) ∧
      (s.proofOk row 2 m.data = false → t.sess row = {} ∧ (t.lockout 2).fails = (s.lockout 2).fails + 1 ∧ .anise m.env (m.response 4 0x12 [] none) ∈ t.out)) ∧
      t.sessElse s row ∧ t = { s with od := t.od, sessions := t.sessions, lockouts := t.lockouts, relays := t.relays, ev := t.ev, safe := t.safe, dies := t.dies, queues := t.queues, bp := t.bp, policers := t.policers, credits := t.credits, ports := t.ports, creditDue := t.creditDue, nextFid := t.nextFid, pins := t.pins, fresh := t.fresh, out := t.out }) := by
  have hx : exec (.aniseAuth m) s = .next (s.aniseAuth m row).settle := by
    refine (State.aniseIn_runs hs he hr hf hb _).trans ?_
    rw [hrow]
  have hmix := State.eq_mix (execAniseAuth_rest (fs := 16496974612572) (by decide) m s hx)
  have hjudged := State.aniseAuth_judged hkey htag hok hseq hlen hsha
  refine State.leads_of_exec hx ⟨fun hl => ?_, fun hl => ⟨fun hp => ?_, fun hp => ?_⟩, fun k hk => ?_, hmix⟩
  · rw [hjudged, if_pos hl]
    exact ⟨State.keep_sessions (by simp), State.keep_lockouts (by simp)⟩
  · rw [hjudged, if_neg (by simp [hl]), if_pos hp, State.sess_settle, State.send_sess, State.aniseOpened_sess]
    have hlockouts : ∀ u : State, ∀ o, (u.send o).settle.lockouts = u.lockouts := fun u o => State.keep_lockouts (by simp)
    refine ⟨rfl, rfl, rfl, rfl, rfl, ?_⟩
    rw [State.lockout, hlockouts]
    exact State.openDone_lockout _ 2 _ _ _
  · rw [hjudged, if_neg (by simp [hl]), if_neg (by simp [hp]), State.sess_settle, State.send_sess]
    have hlockouts : ∀ u : State, ∀ o, (u.send o).settle.lockouts = u.lockouts := fun u o => State.keep_lockouts (by simp)
    refine ⟨State.aniseFailed_sess s row, ?_, ?_⟩
    · rw [State.lockout, hlockouts]
      exact (State.openFailed_lockout _ 2 _ _ _).1
    · rw [State.settle_out]
      exact State.send_leaves _ _
  · rw [hjudged, State.sess_settle]
    repeat' split
    · rw [State.send_sess]
    · rw [State.send_sess, State.aniseOpened_sessElse s m hk]
    · rw [State.send_sess, State.aniseFailed_sessElse s hk]

end messages

/-- Settles O50: a message is authentic and in sequence, or dropped; an accepted one is counted, moves its session's record, is served and answered. -/
theorem aniseRequests : Obligations.AniseRequests := by
  unfold Obligations.AniseRequests
  intro s m hs he hr hf hb
  refine ⟨fun row a b hlt hrow hseq _ => ⟨fun htag _ hrep hok => ?_, fun v htag hrep hok hdata hsid hread hserved => ?_, fun o x htag hrep hok ho hx hacc hlive ha hfree hroom => ?_,
    fun htag hrep hok hdata => aniseClose_leads hs he hr hf hb hrow hseq hlt htag hrep hok hdata,
    fun k hk hsid htag => anise_drops (aniseTag_wrong hs he hr hf hb hk hsid hrow htag)⟩,
    fun row hsid hrow hrate hok hlen hlevel hreach hlock hbar hroom htrng hsha => aniseOpen_leads hs he hr hf hb hsid hrow hrate hok hlen hlevel hreach hlock hbar hroom htrng hsha,
    fun row key _ hrow hkey htag hok hseq hlen hsha => aniseAuth_leads hs he hr hf hb hrow hkey htag hok hseq hlen hsha⟩
  · obtain ⟨t, hexec, hout, hserved, hmix⟩ := (aniseEcho_leads hs he hr hf hb hrow hseq htag hrep hok)
    exact ⟨t, hexec, hout, hserved.sMax, hserved.window, hserved.last, hserved.status, hserved.counted, hserved.others, hmix⟩
  · obtain ⟨t, hexec, hout, hserved, hmix⟩ := (aniseRead_leads hs he hr hf hb hrow hseq v htag hrep hok hdata hsid hread hserved)
    exact ⟨t, hexec, hout, hserved.sMax, hserved.window, hserved.status, hserved.counted, hserved.others, hmix⟩
  · obtain ⟨t, hexec, hstaged, hholder, hactive, hserved, hout, hmix⟩ := (aniseWrite_leads hs he hr hf hb hrow hseq o x htag hrep hok ho hx hacc hlive ha hfree hroom)
    exact ⟨t, hexec, hstaged, hholder, hactive, hserved.sMax, hserved.window, hserved.status, hserved.others, hserved.counted, hout, hmix⟩

end Sys2Proof.Machine
end

section
/-! Ethernet reception: checks, counters, the group filter and what enters the switch (R143 to R148, Table 5-2). -/

namespace Sys2Proof.Machine
open Sys2Proof
set_option Elab.async false

/-! ### Frame numbers do not fall -/

theorem nextFid_when {s u : State} {c : Bool} {f : State → State} (h : s.nextFid ≤ u.nextFid) (hf : ∀ t : State, t.nextFid ≤ (f t).nextFid) : s.nextFid ≤ (u.when c f).nextFid := by
  unfold State.when
  split
  · exact Nat.le_trans h (hf u)
  · exact h

theorem nextFid_foldl {α : Type} (l : List α) {f : State → α → State} (h : ∀ (s : State) (a : α), s.nextFid ≤ (f s a).nextFid) (s : State) : s.nextFid ≤ (l.foldl f s).nextFid := by
  induction l generalizing s with
  | nil => exact Nat.le_refl _
  | cons a l ih => exact Nat.le_trans (h s a) (ih (f s a))

@[simp] theorem State.ringWrite_nextFid (s : State) (n : Nat) (r : Bytes) : (s.ringWrite n r).nextFid = s.nextFid := State.keep_nextFid (by simp)

theorem State.sampleOut_nextFid (s : State) (n slot : Nat) (r : Bytes) : s.nextFid ≤ (s.sampleOut n slot r).nextFid := by
  have hstored : ∀ row cp, s.nextFid ≤ (({ s with nextFid := s.nextFid + 1 } : State).store row cp .sampler).nextFid := fun _ _ => Nat.le_succ _
  unfold State.sampleOut
  dsimp only
  split
  · exact Nat.le_of_eq (State.ringWrite_nextFid s n r).symm
  · split
    · exact Nat.le_refl _
    · split
      · split
        · exact Nat.le_refl _
        · split
          · exact Nat.le_refl _
          · exact hstored _ _
      · exact Nat.le_refl _

theorem State.mirrorOut_nextFid (s : State) (n slot : Nat) (r : Bytes) (payload : Nat) : s.nextFid ≤ (s.mirrorOut n slot r payload).nextFid := by
  have hdelivered : ∀ (t : State) cp, (t.mirrorDeliver n cp).nextFid = t.nextFid := fun t cp => State.keep_nextFid (by simp)
  have hsent : ∀ (t : State) d cp, (t.sendTo n d cp).nextFid = t.nextFid := fun t d cp => State.keep_nextFid (by simp)
  unfold State.mirrorOut
  dsimp only
  split
  · exact Nat.le_refl _
  · split
    · rw [hdelivered]
      exact Nat.le_succ _
    · rw [hsent]
      exact Nat.le_succ _

theorem State.samplePoint_nextFid (s : State) (slot dir : Nat) (f : Frame) (fcs ts colour cls : Nat) : s.nextFid ≤ (s.samplePoint slot dir f fcs ts colour cls).nextFid := by
  have hout : ∀ (l : NMap Nat) q r, s.nextFid ≤ ((({ s with samples := l } : State).setRow E.sampleSequence (slot * 2 + dir) q).sampleOut (slotDie slot) slot r).nextFid :=
    fun l q r => State.sampleOut_nextFid (({ s with samples := l } : State).setRow E.sampleSequence (slot * 2 + dir) q) (slotDie slot) slot r
  unfold State.samplePoint
  dsimp only
  split
  · exact Nat.le_refl _
  · split
    · exact Nat.le_refl _
    · refine nextFid_when ?_ (fun t => State.mirrorOut_nextFid t _ _ _ _)
      exact hout _ _ _

/-- A frame that enters the switch takes a number (R146). -/
theorem State.enterEth_nextFid (s : State) (slot fcs : Nat) (d : Bytes) (v : VlanClass) (toApp : Bool) : s.nextFid < (s.enterEth slot fcs d v toApp).nextFid := by
  have hsteer : ∀ (t : State) n row cp, (t.steer n row cp).nextFid = t.nextFid := fun t n row cp => State.keep_nextFid (by simp)
  have htaps : ∀ (t : State) n k ts key b, (t.tapsRead n k ts key b).nextFid = t.nextFid := fun t n k ts key b => State.keep_nextFid (by simp)
  have hdirect : ∀ (t : State) n code cp, (t.ethDirect n code cp).nextFid = t.nextFid := fun t n code cp => State.keep_nextFid (by simp)
  have hsampled := State.samplePoint_nextFid { s with nextFid := s.nextFid + 1 } slot 0 (s.ethCopy slot fcs d v).frame (s.ethCopy slot fcs d v).fcs (s.ethCopy slot fcs d v).ts 0 v.cls
  unfold State.enterEth
  dsimp only
  split
  · rw [hsteer]
    exact hsampled
  · split
    · rw [hdirect, htaps]
      exact hsampled
    · refine Nat.lt_of_lt_of_le (Nat.lt_of_lt_of_eq hsampled (htaps _ _ _ _ _ _).symm) (State.Forwards.forwardEth _ _ _ _ _ _ _).fid

theorem State.endpointTook_nextFid (s : State) (n row : Nat) (took : List Copy) :
    s.nextFid ≤ ((took.foldl State.oweCopy (s.setQueue row ((s.queue row).drop took.length))).freed n).nextFid := by
  have howed : ∀ (t : State) (cp : Copy), t.nextFid ≤ (t.oweCopy cp).nextFid := fun t cp => Nat.le_of_eq (State.keep_nextFid (by simp)).symm
  exact Nat.le_trans (nextFid_foldl took howed (s.setQueue row ((s.queue row).drop took.length))) (State.Forwards.freed _ n).fid

/-- What the endpoint answers for a copy at the head of its queue: the last of the three kinds only counts. -/
theorem State.endpointAnswers_nextFid (s t : State) (n row : Nat) (cp : Copy) :
    t.nextFid ≤ (if s.aged cp then (t.countRow E.queueCntResidenceExpired row).lossOf cp
        else if s.endpointTakes cp == 1 then t.sendInternal n 0 cp.realm (s.arpReply cp.frame.data) else t.count E.accessCntDropped).nextFid := by
  have hlost : ((t.countRow E.queueCntResidenceExpired row).lossOf cp).nextFid = t.nextFid := State.keep_nextFid (by simp)
  split
  · exact Nat.le_of_eq hlost.symm
  · split
    · exact (State.Forwards.sendInternal t n 0 _ _).fid
    · exact Nat.le_refl _

theorem State.endpoint_nextFid (s : State) : s.nextFid ≤ s.endpoint.nextFid := by
  unfold State.endpoint
  dsimp only
  split
  · exact Nat.le_refl _
  · refine nextFid_foldl _ (fun s c => ?_) s
    split
    · exact Nat.le_refl _
    · exact Nat.le_trans (State.endpointTook_nextFid s _ _ _) (nextFid_foldl _ (fun t cp => State.endpointAnswers_nextFid s t _ _ cp) _)

/-! ### Frames that fail a check -/

/-- A frame that a check drops is counted, and nothing else changes. -/
theorem countSlot_leads {s : State} {c : Instr} {e k : Nat} (hx : exec c s = .next (s.countSlot e k).settle) :
    s.leads c (fun t => t.stSlot e k = (s.stSlot e k + 1) % odModulus s.variant (e + k * 256) ∧ t = { s with od := t.od, safe := t.safe, pins := t.pins }) := by
  refine State.leads_of_exec hx ⟨?_, State.eq_mix (fs := 2199023271940) (by simp)⟩
  have hst : (s.countSlot e k).settle.stSlot e k = (s.countSlot e k).stSlot e k := State.st_of_od (State.keep_variant (by simp)) (State.settle_od _) _
  exact hst.trans (State.stRow_setRow s _ _ _)

section received
variable {s : State} {k : Nat} (hs : s.variant.hasSlot k = true) (he : isEth k = true) (hl : s.listens k = false) (ho : s.ethOnLink k = true)
include hs he hl ho

theorem State.ethReceive_fails {d : Bytes} {ok : Bool} {e : Nat} (h : s.ethLengthFcs k (d.length + 4) ok = some e) : exec (.ethFrameReceive k d ok) s = .next (s.countSlot e k).settle := by
  have hx : exec (.ethFrameReceive k d ok) s = .next (s.ethReceive k d ok).settle := doneIf_present (by simp [hs, he])
  rw [hx, State.ethReceive]
  simp [hl, ho, h]

/-- A frame of the right length and FCS goes on to checks 6 to 8. -/
theorem State.ethReceive_checked {d : Bytes} (h : s.ethLengthFcs k (d.length + 4) true = none) (hm : s.macsecVerify k d = (s, some d)) :
    exec (.ethFrameReceive k d true) s = .next (s.ethCheck6 k (d.length + 4) (crc32 d) d).settle := by
  have hx : exec (.ethFrameReceive k d true) s = .next (s.ethReceive k d true).settle := doneIf_present (by simp [hs, he])
  rw [hx, State.ethReceive]
  simp [hl, ho, h, hm]

end received

/-! ### Checks 6 to 8 (R147 to R149) -/

theorem State.ethCheck6_filtered {s : State} {k wire fcs : Nat} {d : Bytes} (hr : beNat (d.take 6) / 16 ≠ 0x0180C200000) (hg : s.groupPasses k d = false) :
    s.ethCheck6 k wire fcs d = s.countSlot E.portEthCntRxGroupFiltered k := by
  unfold State.ethCheck6
  simp [hr, hg]

theorem State.ethCheck6_passes {s : State} {k wire fcs : Nat} {d : Bytes} (hr : beNat (d.take 6) / 16 ≠ 0x0180C200000) (hg : s.groupPasses k d = true)
    (hv : s.cfgSlotOn E.portEthVlanIngressFilter k = false) : s.ethCheck6 k wire fcs d = s.ethAccept k wire fcs d false := by
  unfold State.ethCheck6
  simp [hr, hg, hv]

/-- A frame taken by an enabled port takes a number and is activity of the device (R146, R378). -/
theorem State.ethAccept_enters {s : State} {k : Nat} (hp : s.portState k = 2) (wire fcs : Nat) (d : Bytes) :
    s.nextFid < (s.ethAccept k wire fcs d false).nextFid ∧ (s.ethAccept k wire fcs d false).power.idleFrom = s.clock.ticks := by
  have heq : s.ethAccept k wire fcs d false =
      (((((s.countSlot E.portEthCntRxFrames k).countSlot E.portEthCntRxOctets k wire).stirred).enterEth k fcs d (s.classify k d) false).endpoint) := by
    unfold State.ethAccept
    rw [hp]
    rfl
  have hfid : (((s.countSlot E.portEthCntRxFrames k).countSlot E.portEthCntRxOctets k wire).stirred).nextFid = s.nextFid := rfl
  have hidle : (((s.countSlot E.portEthCntRxFrames k).countSlot E.portEthCntRxOctets k wire).stirred).power.idleFrom = s.clock.ticks := rfl
  rw [heq]
  generalize ((s.countSlot E.portEthCntRxFrames k).countSlot E.portEthCntRxOctets k wire).stirred = u at hfid hidle
  have hpower : (u.enterEth k fcs d (s.classify k d) false).endpoint.power = u.power := State.keep_power (by simp)
  refine ⟨?_, by rw [hpower, hidle]⟩
  rw [← hfid]
  exact Nat.lt_of_lt_of_le (State.enterEth_nextFid u k fcs d _ false) (State.endpoint_nextFid _)

/-- Settles O29: the first check that a frame fails counts it; one that passes them all takes a number in the switch. -/
theorem ethernetReception : Obligations.EthernetReception := by
  unfold Obligations.EthernetReception
  intro s k hs he hl ho
  refine ⟨fun d ok e h => countSlot_leads (State.ethReceive_fails hs he hl ho h), fun d ok => ?_, fun d h hm hr hg => ?_, fun d h hm hr hg hv hp => ?_⟩
  · have hlen : (d.length + 4 < 64) = (d.length < 60) := by simp only [eq_iff_iff]; omega
    cases ok <;> simp [State.ethLengthFcs, hlen]
  · refine countSlot_leads ((State.ethReceive_checked hs he hl ho h hm).trans ?_)
    rw [State.ethCheck6_filtered hr hg]
  · have hx := State.ethReceive_checked hs he hl ho h hm
    have hmix := State.eq_mix (execEthFrameReceive_rest (fs := 16524480862214) (by decide) k d true s hx)
    have henters := State.ethAccept_enters hp (d.length + 4) (crc32 d) d
    rw [← State.ethCheck6_passes hr hg hv] at henters
    refine State.leads_of_exec hx ⟨?_, ?_, hmix⟩
    · rw [State.keep_nextFid (State.settle_rest (by decide) _)]
      exact henters.1
    · rw [State.keep_power (State.settle_rest (by decide) _)]
      exact henters.2

end Sys2Proof.Machine
end

section
/-! Items in the rings of a queue pair and the read counter of the capture ring (R413 to R418). -/

namespace Sys2Proof.Machine
open Sys2Proof
set_option Elab.async false

/-! ### An item in a ring (R415) -/

theorem mod_add_ne {p k size : Nat} (h0 : 0 < k) (hk : k < size) : (p + k) % size ≠ p % size := by
  intro h
  have hdvd := Nat.sub_mod_eq_zero_of_mod_eq h
  rw [Nat.add_sub_cancel_left, Nat.mod_eq_of_lt hk] at hdvd
  omega

theorem App.ringStore_cons (a : App) (base size p w : Nat) (ws : List Nat) :
    a.ringStore base size p (w :: ws) = (a.setWord (ringWord base size p) w).ringStore base size (add32 p 1) ws := rfl

theorem add32_lt (a b : Nat) : add32 a b < 2 ^ 32 := Nat.mod_lt _ (by decide)

theorem add32_add (p j : Nat) : (add32 p 1 + j) % 2 ^ 32 = (p + (j + 1)) % 2 ^ 32 := by
  unfold add32
  omega

theorem App.ringStore_qps (base size : Nat) (ws : List Nat) : ∀ (a : App) (p : Nat), (a.ringStore base size p ws).qps = a.qps := by
  induction ws with
  | nil => exact fun _ _ => rfl
  | cons w ws ih => exact fun a p => ih _ _

/-- A word that lies at none of the item's positions stays. -/
theorem App.ringStore_other (base size x : Nat) (ws : List Nat) : ∀ (a : App) (p : Nat), p < 2 ^ 32 → (∀ i, i < ws.length → x ≠ ringWord base size ((p + i) % 2 ^ 32)) →
    (a.ringStore base size p ws).word x = a.word x := by
  induction ws with
  | nil => exact fun _ _ _ _ => rfl
  | cons w ws ih =>
    intro a p hp h
    have hfirst := h 0 (Nat.succ_pos _)
    rw [Nat.add_zero, Nat.mod_eq_of_lt hp] at hfirst
    rw [App.ringStore_cons, ih _ _ (add32_lt p 1) (fun i hi => by rw [add32_add]; exact h (i + 1) (Nat.succ_lt_succ hi)), App.word_setWord_other _ _ hfirst]

/-- An item no longer than its ring stands in it whole, word by word. -/
theorem App.ringStore_word (base size : Nat) (ws : List Nat) : ∀ (a : App) (p : Nat), p < 2 ^ 32 → ws.length ≤ size → p + ws.length ≤ 2 ^ 32 → ∀ i, i < ws.length →
    (a.ringStore base size p ws).word (ringWord base size (p + i)) = ws.getD i 0 % 2 ^ 32 := by
  induction ws with
  | nil => exact fun _ _ _ _ _ i hi => absurd hi (Nat.not_lt_zero i)
  | cons w ws ih =>
    intro a p hp hsize hend i hi
    rw [List.length_cons] at hsize hend hi
    rw [App.ringStore_cons]
    cases i with
    | zero =>
      have hapart : ∀ j, j < ws.length → ringWord base size (p + 0) ≠ ringWord base size ((add32 p 1 + j) % 2 ^ 32) := fun j hj heq => by
        rw [add32_add, Nat.mod_eq_of_lt (show p + (j + 1) < 2 ^ 32 by omega)] at heq
        exact mod_add_ne (Nat.succ_pos j) (show j + 1 < size by omega) (Nat.add_left_cancel heq).symm
      rw [App.ringStore_other base size _ ws _ _ (add32_lt p 1) hapart]
      exact App.word_setWord a _ w
    | succ j =>
      have hnext : add32 p 1 = p + 1 := Nat.mod_eq_of_lt (show p + 1 < 2 ^ 32 by omega)
      have hword := ih (a.setWord (ringWord base size p) w) (add32 p 1) (add32_lt p 1) (by omega) (by rw [hnext]; omega) j (by omega)
      rw [hnext, show p + 1 + j = p + (j + 1) by omega] at hword
      rw [hnext, hword]
      rfl

/-! ### The copy that a queue pair takes -/

theorem State.Forwards.purgeTaken (s : State) (row : Nat) (may : Copy → Bool) : s.Forwards (s.purgeTaken row may) := by
  have hlost : ∀ l : List Copy, s.Forwards (l.foldl State.loseCopy ((s.setQueue row ((s.queue row).drop l.length)).countRow E.queueCntResidenceExpired row l.length)) := fun l =>
    ((State.Forwards.setQueue s row _).trans (State.Forwards.countRow _ row _ (by decide))).trans (State.Forwards.foldl l State.Forwards.loseCopy _)
  unfold State.purgeTaken
  exact State.Forwards.ite (State.Forwards.refl s) ((hlost _).trans (State.Forwards.freed _ _))

/-- One class of the choice of a queue pair's copy (R226). -/
def qpPickClass (n : Nat) (r : State × Option (Nat × Copy)) (c : Nat) : State × Option (Nat × Copy) :=
  if r.2.isSome then r
  else
    let s1 := r.1.purgeTaken (queueRow n 23 c) (r.1.qpTakes n (r.1.qpOf c))
    match s1.queue (queueRow n 23 c) with
    | cp :: _ => if s1.qpTakes n (s1.qpOf c) cp then (s1, some (c, cp)) else (s1, none)
    | [] => (s1, none)

theorem State.qpPick_eq (s : State) (n : Nat) : s.qpPick n = (List.range 8).reverse.foldl (qpPickClass n) (s, none) := rfl

theorem State.Forwards.qpPickClass (n : Nat) (r : State × Option (Nat × Copy)) (c : Nat) : r.1.Forwards (qpPickClass n r c).1 := by
  have hpurged := State.Forwards.purgeTaken r.1 (queueRow n 23 c) (r.1.qpTakes n (r.1.qpOf c))
  unfold Machine.qpPickClass
  refine State.Forwards.ite_fst (State.Forwards.refl _) ?_
  dsimp only
  split
  · exact State.Forwards.ite_fst hpurged hpurged
  · exact hpurged

theorem State.Forwards.qpPick (s : State) (n : Nat) : s.Forwards (s.qpPick n).1 := by
  have hfold : ∀ (l : List Nat) (r : State × Option (Nat × Copy)), r.1.Forwards (l.foldl (Machine.qpPickClass n) r).1 := by
    intro l
    induction l with
    | nil => exact fun r => State.Forwards.refl r.1
    | cons c l ih => exact fun r => (State.Forwards.qpPickClass n r c).trans (ih _)
  exact hfold _ (s, none)

theorem State.qpPick_apps (s : State) (n : Nat) : (s.qpPick n).1.apps = s.apps := State.keep_apps (by simp)

theorem State.Forwards.qpOf {s t : State} (h : s.Forwards t) (c : Nat) : t.qpOf c = s.qpOf c := State.cfg_of_active h.variant h.active _

/-! ### Items to the consumer (R415) -/

section taken
variable (u : State) (n c : Nat) (cp : Copy)

/-- The pair after an item has been written to a ring of its. -/
def App.itemStored (a : App) (k : Nat) (item : List Nat) : App :=
  (a.ringStore (a.qp k).rxBase (a.qp k).rxSize (a.qp k).rxWr item).setQp k { a.qp k with rxWr := add32 (a.qp k).rxWr item.length }

/-- A taken copy is written whole, and its ring's flow follows. -/
theorem State.rxWrite_apps : ∃ v : State, v.apps = (u.updApp n (fun a => a.itemStored (u.qpOf c) (rxItem cp))).apps ∧ (u.rxWrite n c cp).apps = (v.qpFlow n (u.qpOf c)).apps :=
  ⟨((u.updApp n (fun a => a.itemStored (u.qpOf c) (rxItem cp))).countDie E.appCntRxItems n).when ((u.qp n (u.qpOf c)).itemIe && (u.qp n (u.qpOf c)).rxUnread == 0) (·.raiseSource n (16 + u.qpOf c)),
    State.when_raiseSource_apps _ _ _ _, State.keep_apps (State.dropHead_rest (by decide) _ _)⟩

theorem State.rxWrite_qp : ((u.rxWrite n c cp).qp n (u.qpOf c)).rxWr = ((u.qp n (u.qpOf c)).rxWr + (rxItem cp).length) % 2 ^ 32 ∧
    ((u.rxWrite n c cp).qp n (u.qpOf c)).rxRd = (u.qp n (u.qpOf c)).rxRd ∧ ((u.rxWrite n c cp).qp n (u.qpOf c)).rxRel = (u.qp n (u.qpOf c)).rxRel := by
  obtain ⟨v, hv, hflow⟩ := State.rxWrite_apps u n c cp
  rw [State.qp_of_apps hflow, State.qpFlow_qp, State.qp_of_apps hv, State.qp, State.app_updApp, App.itemStored, App.qp_setQp]
  exact ⟨rfl, rfl, rfl⟩

theorem State.rxWrite_word (a : Nat) : ((u.rxWrite n c cp).app n).word a =
    ((u.app n).ringStore (u.qp n (u.qpOf c)).rxBase (u.qp n (u.qpOf c)).rxSize (u.qp n (u.qpOf c)).rxWr (rxItem cp)).word a := by
  obtain ⟨v, hv, hflow⟩ := State.rxWrite_apps u n c cp
  rw [State.app_of_apps hflow, State.qpFlow_app_word, State.app_of_apps hv, State.app_updApp]
  rfl

theorem State.rxWrite_qpsElse : (u.rxWrite n c cp).qpsElse u n (u.qpOf c) := by
  obtain ⟨v, hv, hflow⟩ := State.rxWrite_apps u n c cp
  refine State.qpsElse_of_apps hflow (State.qpsElse_trans (State.qpFlow_qpsElse v n _) (State.qpsElse_of_apps hv (State.updApp_qpsElse u fun a j hj => ?_)))
  rw [App.itemStored, App.qp_setQp_other _ _ hj, App.qp, App.ringStore_qps]
  rfl

end taken

theorem qpRxItemWrite_leads {s s1 : State} {d c : Nat} {cp : Copy} (hd : s.variant.hasDie d = true) (hp : s.pairsRun d = true) (hrun : (s.app d).running = true) (hpick : s.qpPick d = (s1, some (c, cp)))
    (hwr : (s.qp d (s.qpOf c)).rxWr < 2 ^ 32) : s.leads (.qpRxItemWrite d) (fun t =>
      (t.qp d (s.qpOf c)).rxWr = ((s.qp d (s.qpOf c)).rxWr + (rxItem cp).length) % 2 ^ 32 ∧
      (t.qp d (s.qpOf c)).rxRd = (s.qp d (s.qpOf c)).rxRd ∧ (t.qp d (s.qpOf c)).rxRel = (s.qp d (s.qpOf c)).rxRel ∧
      ((rxItem cp).length ≤ (s.qp d (s.qpOf c)).rxSize → (s.qp d (s.qpOf c)).rxWr + (rxItem cp).length ≤ 2 ^ 32 → ∀ i, i < (rxItem cp).length →
        (t.app d).word (ringWord (s.qp d (s.qpOf c)).rxBase (s.qp d (s.qpOf c)).rxSize ((s.qp d (s.qpOf c)).rxWr + i)) = (rxItem cp).getD i 0 % 2 ^ 32) ∧
      (∀ a, (∀ i, i < (rxItem cp).length → a ≠ ringWord (s.qp d (s.qpOf c)).rxBase (s.qp d (s.qpOf c)).rxSize (((s.qp d (s.qpOf c)).rxWr + i) % 2 ^ 32)) → (t.app d).word a = (s.app d).word a) ∧
      t.qpsElse s d (s.qpOf c) ∧ t = { s with od := t.od, safe := t.safe, dies := t.dies, queues := t.queues, bp := t.bp, policers := t.policers, credits := t.credits, ports := t.ports, intc := t.intc, apps := t.apps, creditDue := t.creditDue, nextFid := t.nextFid, pins := t.pins, out := t.out }) := by
  have hx : exec (.qpRxItemWrite d) s = .next (s1.rxWrite d c cp).settle := by
    refine (State.onDie_runs hd hp _).trans (congrArg (fun t : State => Host.Outcome.next t.settle) ?_)
    unfold State.rxItemWrite
    rw [hrun, hpick]
    rfl
  have hmix := State.eq_mix (execQpRxItemWrite_rest (fs := 12100538712068) (by decide) d s hx)
  have hforward := State.Forwards.qpPick s d
  have happs := State.qpPick_apps s d
  rw [hpick] at hforward happs
  have hk := hforward.qpOf c
  have hqp := State.qp_of_apps happs d (s.qpOf c)
  have hwritten := State.rxWrite_qp s1 d c cp
  have hword := State.rxWrite_word s1 d c cp
  have helse := State.rxWrite_qpsElse s1 d c cp
  rw [hk, hqp] at hwritten hword
  rw [State.app_of_apps happs] at hword
  obtain ⟨hnext, hrd, hrel⟩ := hwritten
  refine State.leads_of_exec hx ⟨?_, ?_, ?_, fun hsize hend i hi => ?_, fun a ha => ?_, ?_, hmix⟩
  · rw [State.qp_settle, hnext]
  · rw [State.qp_settle, hrd]
  · rw [State.qp_settle, hrel]
  · rw [State.app_settle, hword]
    exact App.ringStore_word _ _ _ _ _ hwr hsize hend i hi
  · rw [State.app_settle, hword]
    exact App.ringStore_other _ _ _ _ _ _ hwr ha
  · rw [hk] at helse
    exact State.settle_qpsElse (fun m j hmj => (helse m j hmj).trans (State.qp_of_apps happs m j))

/-! ### Items from the consumer (R414) -/

section sent
variable (s : State) (n k words : Nat)

/-- What an item that breaks R414 leaves of its queue pair. -/
def Qp.discarded (q : Qp) (words : Nat) : Qp := { q with txErrs := add32 q.txErrs 1, txErr := true, txTaken := add32 q.txTaken words }

theorem State.txDiscard_apps : (s.txDiscard n k).apps = (s.updQp n k (fun q => { q with txErrs := add32 q.txErrs 1, txErr := true })).apps := State.when_raiseSource_apps _ _ n _

theorem State.txDiscarded_qp : ((s.txDiscard n k).txFree n k words).qp n k = (s.qp n k).discarded words := by
  rw [State.txFree, State.qp_updQp, State.qp_of_apps (State.txDiscard_apps s n k), State.qp_updQp]
  rfl

theorem State.txDiscarded_qpsElse : ((s.txDiscard n k).txFree n k words).qpsElse s n k :=
  State.qpsElse_trans (State.updQp_qpsElse _ n k _) (State.qpsElse_of_apps (State.txDiscard_apps s n k) (State.updQp_qpsElse s n k _))

theorem State.updQp_sram (f : Qp → Qp) : ((s.updQp n k f).app n).sram = (s.app n).sram := by
  rw [State.updQp, State.app_updApp]
  rfl

theorem State.txDiscarded_sram : (((s.txDiscard n k).txFree n k words).app n).sram = (s.app n).sram := by
  rw [State.txFree, State.updQp_sram, State.app_of_apps (State.txDiscard_apps s n k), State.updQp_sram]

theorem State.qpFlow_sram : ((s.qpFlow n k).app n).sram = (s.app n).sram := by
  simp only [State.qpFlow]
  rw [State.app_of_apps (State.when_raiseSource_apps _ _ n _), State.updQp_sram]

/-- The header words of the item at the head of a ring. -/
def State.txHeader : List Nat := ((List.range (s.txItemWords n k)).map (s.txWord n k)).take 8

theorem State.txTake_bad (hfits : s.txItemWords n k ≤ (s.qp n k).txSize) (hbad : txHeaderOk (s.txHeader n k) = false) :
    s.txTake n k = (((s.countDie E.appCntTxItems n).txDiscard n k).txFree n k (s.txItemWords n k)).qpFlow n k := by
  unfold State.txHeader at hbad
  unfold State.txTake
  dsimp only
  rw [if_neg (Nat.not_lt.mpr hfits), hbad]
  rfl

/-- An item with a good header enters the switch, which reaches no application pair. -/
theorem State.txTake_good (hfits : s.txItemWords n k ≤ (s.qp n k).txSize) (hok : txHeaderOk (s.txHeader n k) = true) :
    ∃ v : State, v.apps = s.apps ∧ s.txTake n k = (v.txFree n k (s.txItemWords n k)).qpFlow n k := by
  unfold State.txHeader at hok
  unfold State.txTake
  dsimp only
  rw [if_neg (Nat.not_lt.mpr hfits), hok]
  exact ⟨_, State.keep_apps ((State.enterItem_rest (by decide) _ _ _ _ _).trans (State.countDie_rest (by decide) _ _ _)), rfl⟩

/-- What the taking of an item leaves of the pair, whether its header is good or not. -/
structure State.TxTaken (s t : State) (n k words : Nat) : Prop where
  taken : (t.qp n k).txTaken = ((s.qp n k).txTaken + words) % 2 ^ 32
  write : (t.qp n k).txWr = (s.qp n k).txWr
  sram : (t.app n).sram = (s.app n).sram
  others : t.qpsElse s n k

theorem State.txTake_taken_bad (hfits : s.txItemWords n k ≤ (s.qp n k).txSize) (hbad : txHeaderOk (s.txHeader n k) = false) :
    s.TxTaken (s.txTake n k) n k (s.txItemWords n k) ∧ ((s.txTake n k).qp n k).txErrs = ((s.qp n k).txErrs + 1) % 2 ^ 32 ∧ ((s.txTake n k).qp n k).txErr = true ∧ (s.txTake n k).queues = s.queues := by
  have hcount : (s.countDie E.appCntTxItems n).apps = s.apps := rfl
  have hqueues : (s.countDie E.appCntTxItems n).queues = s.queues := rfl
  rw [State.txTake_bad s n k hfits hbad]
  generalize s.countDie E.appCntTxItems n = u at hcount hqueues
  generalize s.txItemWords n k = words
  have hqp : (((u.txDiscard n k).txFree n k words).qpFlow n k).qp n k = _ := State.qpFlow_qp _ n k
  rw [State.txDiscarded_qp, State.qp_of_apps hcount] at hqp
  refine ⟨⟨by rw [hqp]; rfl, by rw [hqp]; rfl, ?_, ?_⟩, by rw [hqp]; rfl, by rw [hqp]; rfl, ?_⟩
  · rw [State.qpFlow_sram, State.txDiscarded_sram, State.app_of_apps hcount]
  · have helse := State.qpsElse_trans (State.qpFlow_qpsElse _ n k) (State.txDiscarded_qpsElse u n k words)
    exact fun m j hmj => (helse m j hmj).trans (State.qp_of_apps hcount m j)
  · rw [← hqueues]
    exact State.keep_queues (by simp)

theorem State.txTake_taken_good (hfits : s.txItemWords n k ≤ (s.qp n k).txSize) (hok : txHeaderOk (s.txHeader n k) = true) :
    s.TxTaken (s.txTake n k) n k (s.txItemWords n k) ∧ ((s.txTake n k).qp n k).txErrs = (s.qp n k).txErrs := by
  obtain ⟨v, hv, htake⟩ := State.txTake_good s n k hfits hok
  rw [htake]
  generalize s.txItemWords n k = words
  have hqp : ((v.txFree n k words).qpFlow n k).qp n k = _ := State.qpFlow_qp _ n k
  rw [State.txFree, State.qp_updQp, State.qp_of_apps hv] at hqp
  refine ⟨⟨by rw [State.txFree, hqp]; rfl, by rw [State.txFree, hqp], ?_, ?_⟩, by rw [State.txFree, hqp]⟩
  · rw [State.qpFlow_sram, State.txFree, State.updQp_sram, State.app_of_apps hv]
  · have helse := State.qpsElse_trans (State.qpFlow_qpsElse _ n k) (State.updQp_qpsElse v n k (fun q => { q with txTaken := add32 q.txTaken words }))
    exact fun m j hmj => (helse m j hmj).trans (State.qp_of_apps hv m j)

end sent

/-! ### The commands -/

/-- The round of the rings goes on behind the one whose item was taken. -/
def State.turned (s : State) (n k : Nat) : State := s.updApp n (fun a => { a with turn := (k + 1) % 16 })

theorem State.turned_qp (s : State) (n k j : Nat) : (s.turned n k).qp n j = s.qp n j := by
  rw [State.qp, State.turned, State.app_updApp]
  rfl

theorem State.turned_qpsElse (s : State) (n k : Nat) : (s.turned n k).qpsElse s n k := State.updApp_qpsElse s (fun _ _ _ => rfl)

theorem State.turned_taken {s t : State} {n k words : Nat} (h : s.TxTaken t n k words) : s.TxTaken (t.turned n k).settle n k words := by
  refine ⟨?_, ?_, ?_, State.settle_qpsElse (State.qpsElse_trans (State.turned_qpsElse t n k) h.others)⟩
  · rw [State.qp_settle, State.turned_qp, h.taken]
  · rw [State.qp_settle, State.turned_qp, h.write]
  · rw [State.app_settle, State.turned, State.app_updApp]
    exact h.sram

theorem qpTxItemTake_leads {s : State} {d k : Nat} (hd : s.variant.hasDie d = true) (hp : s.pairsRun d = true)
    (hready : ((List.range 16).map (fun i => ((s.app d).turn + i) % 16)).find? (s.txReady d) = some k) (hfits : s.txItemWords d k ≤ (s.qp d k).txSize) : s.leads (.qpTxItemTake d) (fun t =>
      (t.app d).turn = (k + 1) % 16 ∧ s.TxTaken t d k (s.txItemWords d k) ∧
      (txHeaderOk (s.txHeader d k) = false → (t.qp d k).txErrs = ((s.qp d k).txErrs + 1) % 2 ^ 32 ∧ (t.qp d k).txErr = true ∧ t.queues = s.queues) ∧
      (txHeaderOk (s.txHeader d k) = true → (t.qp d k).txErrs = (s.qp d k).txErrs) ∧
      t = { s with od := t.od, safe := t.safe, dies := t.dies, queues := t.queues, bp := t.bp, policers := t.policers, credits := t.credits, ports := t.ports, intc := t.intc, apps := t.apps, creditDue := t.creditDue, nextFid := t.nextFid, pins := t.pins, out := t.out }) := by
  have hx : exec (.qpTxItemTake d) s = .next ((s.txTake d k).turned d k).settle := by
    refine (State.onDie_runs hd hp _).trans (congrArg (fun t : State => Host.Outcome.next t.settle) ?_)
    unfold State.txItemTake
    rw [hready]
    rfl
  have hmix := State.eq_mix (execQpTxItemTake_rest (fs := 12100538712068) (by decide) d s hx)
  refine State.leads_of_exec hx ⟨?_, ?_, fun hbad => ?_, fun hok => ?_, hmix⟩
  · rw [State.app_settle, State.turned, State.app_updApp]
  · cases hok : txHeaderOk (s.txHeader d k) with
    | false => exact State.turned_taken (State.txTake_taken_bad s d k hfits hok).1
    | true => exact State.turned_taken (State.txTake_taken_good s d k hfits hok).1
  · obtain ⟨_, herrs, herr, hqueues⟩ := State.txTake_taken_bad s d k hfits hbad
    have hkeep : ((s.txTake d k).turned d k).settle.queues = (s.txTake d k).queues := State.keep_queues (State.settle_rest (by decide) _)
    rw [State.qp_settle, State.turned_qp, hkeep]
    exact ⟨herrs, herr, hqueues⟩
  · rw [State.qp_settle, State.turned_qp]
    exact (State.txTake_taken_good s d k hfits hok).2

/-- Settles O55: a taken copy stands in its ring whole, an item leaves its ring whole whether its header is good or not, and CAP_RDCNT moves within the fill. -/
theorem queuePairItems : Obligations.QueuePairItems := by
  unfold Obligations.QueuePairItems
  intro s d hd hp
  refine ⟨fun s1 c cp hrun hpick hwr => qpRxItemWrite_leads hd hp hrun hpick hwr, fun k hready hfits => ?_, fun w => ?_⟩
  · obtain ⟨t, hx, hturn, htaken, hbad, hok, hmix⟩ := qpTxItemTake_leads hd hp hready hfits
    exact ⟨t, hx, hturn, htaken.taken, htaken.write, htaken.sram, hbad, hok, htaken.others, hmix⟩
  · have hx : exec (.capRdcntWrite d w) s = .next (s.capRead d w.toNat).settle := State.onDie_runs hd hp _
    refine State.leads_of_exec hx ⟨?_, fun m hm => ?_, State.eq_mix (fs := 2200097013760) (by simp [State.capRead])⟩
    · rw [State.app_settle, State.capRead, State.app_updApp]
    · rw [State.app_settle, State.capRead, State.app_updApp_other s _ hm]

end Sys2Proof.Machine
end

section
/-! What a CAN port's transmissions leave of its counters and of what has left: the end of a frame, bus-off, draining, parking and a new configuration (R111 to R113). -/

namespace Sys2Proof.Machine
open Sys2Proof
set_option Elab.async false

/-- An entry reads as before, and what has left stays. -/
structure State.Keeps (e : Nat) (s t : State) : Prop where
  entry : t.st e = s.st e
  out : ∀ o, o ∈ s.out → o ∈ t.out

namespace State.Keeps

theorem refl (e : Nat) (s : State) : State.Keeps e s s := ⟨rfl, fun _ h => h⟩

theorem trans {e : Nat} {s t u : State} (h : State.Keeps e s t) (k : State.Keeps e t u) : State.Keeps e s u := ⟨k.entry.trans h.entry, fun o ho => k.out o (h.out o ho)⟩

theorem of_forwards {e : Nat} {s t : State} (he : steadyEntry e = true) (h : s.Forwards t) : State.Keeps e s t := ⟨h.entry e he, h.out⟩

theorem of_same {e : Nat} {s t : State} (hv : t.variant = s.variant) (ho : t.od = s.od) (hout : t.out = s.out) : State.Keeps e s t :=
  ⟨State.st_of_od hv ho e, fun o h => by rwa [hout]⟩

theorem emit (e : Nat) (s : State) (o : Out) : State.Keeps e s (s.emit o) := ⟨rfl, fun _ h => List.mem_cons_of_mem _ h⟩

theorem setRow {e f : Nat} (s : State) (row v : Nat) (h : okey e noRow ≠ okey f row) : State.Keeps e s (s.setRow f row v) := ⟨State.st_setRow_of_ne s v h, fun _ ho => ho⟩

theorem countRow {e f : Nat} (s : State) (row k : Nat) (he : steadyEntry e = true) (hf : 0x220000 ≤ f) : State.Keeps e s (s.countRow f row k) :=
  of_forwards he (State.Forwards.countRow s row k hf)

/-- Another entry of a port. -/
theorem setSlot {e f k : Nat} (s : State) (v : Nat) (h : e ≠ f) : State.Keeps (e + k * 256) s (s.setSlot f k v) := ⟨State.stSlot_setSlot_of_ne s k v h, fun _ ho => ho⟩

theorem countSlot {e f k : Nat} (s : State) (n : Nat) (h : e ≠ f) : State.Keeps (e + k * 256) s (s.countSlot f k n) := setSlot s _ h

theorem ite {e : Nat} {s t u : State} {p : Prop} [Decidable p] (ht : State.Keeps e s t) (hu : State.Keeps e s u) : State.Keeps e s (if p then t else u) := by
  split
  · exact ht
  · exact hu

theorem when {e : Nat} {s u : State} {c : Bool} {f : State → State} (hu : State.Keeps e s u) (hf : State.Keeps e u (f u)) : State.Keeps e s (u.when c f) := ite (hu.trans hf) hu

theorem foldl {e : Nat} {α : Type} (l : List α) {f : State → α → State} (hf : ∀ (s : State) (a : α), State.Keeps e s (f s a)) (s : State) : State.Keeps e s (l.foldl f s) := by
  induction l generalizing s with
  | nil => exact refl e s
  | cons a l ih => exact (hf s a).trans (ih (f s a))

theorem updPort (e : Nat) (s : State) (k : Nat) (f : Port → Port) : State.Keeps e s (s.updPort k f) := of_same rfl rfl rfl

theorem setQueue (e : Nat) (s : State) (row : Nat) (l : List Copy) : State.Keeps e s (s.setQueue row l) := of_same rfl rfl rfl

theorem unsend (e : Nat) (s : State) (k : Nat) (b : Bool) : State.Keeps e s (s.unsend k b) := of_same (State.keep_variant (by simp)) (State.keep_od (by simp)) (State.keep_out (by simp))

theorem unprepare (e : Nat) (s : State) (k : Nat) : State.Keeps e s (s.unprepare k) := of_same (State.keep_variant (by simp)) (State.keep_od (by simp)) (State.keep_out (by simp))

theorem raisePort (e : Nat) (s : State) (k : Nat) : State.Keeps e s (s.raisePort k) := of_same (State.keep_variant (by simp)) (State.keep_od (by simp)) (State.keep_out (by simp))

theorem portEvidence (e : Nat) (s : State) (k cause cls n : Nat) : State.Keeps e s (s.portEvidence k cause cls n) := of_same (State.keep_variant (by simp)) (State.keep_od (by simp)) (State.keep_out (by simp))

section port
variable {k x : Nat} (hk : isCan k = true) (he : steadyEntry (x + k * 256) = true)

/-! ### Sampling -/

include he

theorem ringWrite (s : State) (n : Nat) (r : Bytes) : State.Keeps (x + k * 256) s (s.ringWrite n r) := by
  have hupd : ∀ f, State.Keeps (x + k * 256) s (s.updApp n f) := fun f => of_same rfl rfl rfl
  have hraise : ∀ t : State, State.Keeps (x + k * 256) t (t.raiseSource n 32) := fun t => of_forwards he (State.Forwards.raiseSource t n 32)
  unfold State.ringWrite
  exact ite (countRow s noRow 1 he (by decide)) (when ((hupd _).trans (countRow _ noRow 1 he (by decide))) (hraise _))

theorem sampleOut (s : State) (n slot : Nat) (r : Bytes) : State.Keeps (x + k * 256) s (s.sampleOut n slot r) := by
  have hlost : State.Keeps (x + k * 256) s (s.countUnreachable n) := of_forwards he (State.Forwards.countUnreachable s n 1)
  have hstored : ∀ row cp, State.Keeps (x + k * 256) s (({ s with nextFid := s.nextFid + 1 } : State).store row cp .sampler) := fun row cp =>
    of_forwards he ((State.Forwards.numbered s).trans (State.Forwards.store _ row cp .sampler))
  have hfull : State.Keeps (x + k * 256) s (s.count E.captureCntReserveDrop) := countRow s noRow 1 he (by decide)
  unfold State.sampleOut
  dsimp only
  refine ite (ringWrite he s n r) (ite hlost ?_)
  split
  · exact ite hlost (ite hfull (hstored _ _))
  · exact hlost

theorem mirrorOut (s : State) (n slot : Nat) (r : Bytes) (payload : Nat) : State.Keeps (x + k * 256) s (s.mirrorOut n slot r payload) := by
  have hdelivered : ∀ cp, State.Keeps (x + k * 256) s (({ s with nextFid := s.nextFid + 1 } : State).mirrorDeliver n cp) := fun cp =>
    of_forwards he ((State.Forwards.numbered s).trans (State.Forwards.ite (State.Forwards.countTxRefused _ _) (State.Forwards.admitHold _ n _ _)))
  have hsent : ∀ d cp, State.Keeps (x + k * 256) s (({ s with nextFid := s.nextFid + 1 } : State).sendTo n d cp) := fun d cp =>
    of_forwards he ((State.Forwards.numbered s).trans (State.Forwards.sendTo _ n d cp))
  unfold State.mirrorOut
  exact ite (refl _ s) (ite (hdelivered _) (hsent _ _))

theorem samplePoint (s : State) (slot dir : Nat) (f : Frame) (fcs ts colour cls : Nat) : State.Keeps (x + k * 256) s (s.samplePoint slot dir f fcs ts colour cls) := by
  have hnumbered : ∀ (l : NMap Nat) q, State.Keeps (x + k * 256) s (({ s with samples := l } : State).setRow E.sampleSequence (slot * 2 + dir) q) := fun l q =>
    (of_same (s := s) (t := { s with samples := l }) rfl rfl rfl).trans (of_forwards he (State.Forwards.setRow (e := E.sampleSequence) { s with samples := l } (slot * 2 + dir) q (by decide)))
  have hout := fun l q r => (hnumbered l q).trans (sampleOut he _ (slotDie slot) slot r)
  unfold State.samplePoint
  exact ite (refl _ s) (ite (of_same rfl rfl rfl) (when (hout _ _ _) (mirrorOut he _ _ _ _ _)))

/-! ### Flushing, parking and disabling -/

theorem oweLost (s : State) (cp : Copy) : State.Keeps (x + k * 256) s ((s.lossOf cp).oweCopy cp) := of_forwards he (State.Forwards.loseCopy s cp)

theorem flushPort (s : State) (slot : Nat) {count : State → Nat → Nat → State} (hcount : ∀ (t : State) row n, State.Keeps (x + k * 256) t (count t row n)) :
    State.Keeps (x + k * 256) s (s.flushPort slot count) := by
  unfold State.flushPort
  refine trans (foldl _ (fun s row => ?_) s) (of_forwards he (State.Forwards.freed _ _))
  refine ite (refl _ s) ?_
  exact ((setQueue _ s row _).trans (hcount _ _ _)).trans (foldl _ (fun s cp => oweLost he s cp) _)

theorem endHold (s : State) (slot : Nat) : State.Keeps (x + k * 256) s (s.endHold slot) :=
  (updPort _ s slot _).trans (flushPort he _ slot (fun t row n => countRow t row n he (by decide)))

theorem park (s : State) (slot : Nat) : State.Keeps (x + k * 256) s (s.park slot) := by
  have hprepared := (unsend (x + k * 256) s slot false).trans (unprepare _ _ slot)
  unfold State.park
  exact ite hprepared (ite ((hprepared.trans (updPort _ _ slot _)).trans (endHold he _ slot)) (hprepared.trans (updPort _ _ slot _)))

end port

/-! ### A CAN port's own steps -/

section can
variable {k : Nat} (hk : isCan k = true) (he : steadyEntry (E.portCanCntTxFrames + k * 256) = true)
include hk

theorem enabling (s : State) : State.Keeps (E.portCanCntTxFrames + k * 256) s (s.enabling k) := by
  have heth : isEth k = false := isEth_of_isCan hk
  have hlin : isLin k = false := isLin_of_isCan hk
  unfold State.enabling
  simp only [hk, heth, hlin, Bool.false_and, Bool.false_eq_true, if_false, if_true, State.when]
  exact ((((updPort _ s k _).trans (setSlot _ 1 (by decide))).trans (setSlot _ 0 (by decide))).trans (setSlot _ 0 (by decide))).trans (setSlot _ 0 (by decide))

include he

omit he in
theorem countDrainFlushed (s : State) (n : Nat) : State.Keeps (E.portCanCntTxFrames + k * 256) s (s.countDrainFlushed k n) := by
  unfold State.countDrainFlushed State.countPort
  rw [hk, if_pos rfl]
  exact countSlot s n (by decide)

theorem disable (s : State) : State.Keeps (E.portCanCntTxFrames + k * 256) s (s.disable k) := by
  have heth : isEth k = false := isEth_of_isCan hk
  have hflushed : ∀ f, State.Keeps (E.portCanCntTxFrames + k * 256) s (((s.flushPort k (fun s _ n => s.countDrainFlushed k n)).setPortState k 0).updPort k f) := fun f =>
    ((flushPort he s k (fun t _ n => countDrainFlushed hk t n)).trans (setSlot (f := E.portCanState) _ 0 (by decide))).trans (updPort _ _ k f)
  unfold State.disable
  simp only [heth, Bool.false_eq_true, if_false, State.when]
  exact ite (((hflushed _).trans (setSlot _ 0 (by decide))).trans (enabling hk _)) (hflushed _)

theorem busOff (s : State) : State.Keeps (E.portCanCntTxFrames + k * 256) s (s.busOff k) := by
  have hcounted := (unsend (E.portCanCntTxFrames + k * 256) s k false).trans (countSlot (f := E.portCanCntBusOff) _ 1 (by decide))
  have hparked : ∀ u : State, State.Keeps (E.portCanCntTxFrames + k * 256) s u → State.Keeps (E.portCanCntTxFrames + k * 256) s
      (((((u.updPort k (fun p => { p with rxBusy := false })).setPortState k 4).park k).updPort k (fun p => { p with restartArmed := true, recovering := false }))) := fun u hu =>
    ((((hu.trans (updPort _ _ k _)).trans (setSlot _ 4 (by decide))).trans (park he _ k)).trans (updPort _ _ k _))
  unfold State.busOff
  refine trans (trans (ite (hcounted.trans (disable hk he _)) (hparked _ (when hcounted (updPort _ _ k _)))) (raisePort _ _ k)) (portEvidence _ _ k _ _ _)

theorem errors (s : State) (tec rec_ : Nat) : State.Keeps (E.portCanCntTxFrames + k * 256) s (s.errors k tec rec_) := by
  have hset : State.Keeps (E.portCanCntTxFrames + k * 256) s (s.setErrors k tec rec_) := ((setSlot s _ (by decide)).trans (setSlot _ _ (by decide))).trans (setSlot _ _ (by decide))
  exact when hset (busOff hk he _)

omit hk he in
theorem loopDelay (s : State) (delay : Nat) (f : Frame) : State.Keeps (E.portCanCntTxFrames + k * 256) s (s.loopDelay k delay f) := by
  unfold State.loopDelay
  exact ite (refl _ s) (ite (when (updPort _ s k _) (setSlot _ _ (by decide))) (updPort _ s k _))

theorem reconfigureNow (s : State) : State.Keeps (E.portCanCntTxFrames + k * 256) s (s.reconfigureNow k) := by
  have heth : isEth k = false := isEth_of_isCan hk
  have hdone : State.Keeps (E.portCanCntTxFrames + k * 256) s (s.reconfigured k) := by
    unfold State.reconfigured
    simp only [heth, Bool.false_eq_true, if_false, State.when]
    exact ((updPort _ s k _).trans (park he _ k)).trans (enabling hk _)
  exact when (refl _ s) hdone

theorem drainCheck (s : State) : State.Keeps (E.portCanCntTxFrames + k * 256) s (s.drainCheck k) := by
  have hsleep : s.goToSleep k = s := by
    unfold State.goToSleep
    simp [isLin_of_isCan hk, State.when]
  unfold State.drainCheck
  refine when (refl _ s) ?_
  rw [hsleep]
  exact disable hk he s

theorem sentCopy (s : State) (row : Nat) : State.Keeps (E.portCanCntTxFrames + k * 256) s (s.sentCopy k row) := by
  unfold State.sentCopy State.takeSending
  cases (s.queue row).find? (·.sending) with
  | none => exact refl _ s
  | some cp =>
    have howed : ∀ t : State, State.Keeps (E.portCanCntTxFrames + k * 256) t (t.oweCopy cp) := fun t => of_forwards he (State.Forwards.oweCopy t cp)
    have hfreed := ((setQueue (E.portCanCntTxFrames + k * 256) s row ((s.queue row).eraseIdx (((s.queue row).findIdx? (·.sending)).getD 0))).trans (howed _)).trans (of_forwards he (State.Forwards.freed _ (slotDie k)))
    exact ite (hfreed.trans (drainCheck hk he _)) (hfreed.trans (reconfigureNow hk he _))

end can

end State.Keeps

end Sys2Proof.Machine
end

section
/-! Ethernet frames that a die sends itself never reach a CAN port's queues (R106, R147). -/

namespace Sys2Proof.Machine
open Sys2Proof
set_option Elab.async false

theorem State.queue_of_queues {s t : State} (h : t.queues = s.queues) (row : Nat) : t.queue row = s.queue row := by rw [State.queue, h, State.queue]

theorem State.queue_store_other (s : State) {r row : Nat} (cp : Copy) (ch : Charge) (h : row ≠ r) : (s.store r cp ch).queue row = s.queue row :=
  mget_mset_other ([] : List Copy) s.queues _ h

/-- The rows of a die's queue points behind its CAN ports'. -/
theorem queueRow_ne {n q row : Nat} (hrow : row < (n - 1) * 256 + 64) (hq : 8 ≤ q) (c : Nat) : row ≠ queueRow n q c := by
  unfold queueRow
  omega

/-- Policing marks a copy and leaves its frame (R221). -/
theorem State.police_frame (s : State) (cp : Copy) : ∀ c, (s.police cp).2 = some c → c.frame = cp.frame := by
  intro c h
  unfold State.police at h
  dsimp only at h
  repeat' split at h
  all_goals cases h
  all_goals rfl

theorem formatFits_can {s : State} {k : Nat} (hk : isCan k = true) {f : Frame} (hf : f.fmt = .eth) : s.formatFits k f = false := by
  unfold State.formatFits
  simp [hk, hf]

/-- A step that leaves a row of the queues as it was. -/
def State.OffRow (row : Nat) (s t : State) : Prop := t.queue row = s.queue row

namespace State.OffRow

theorem refl (row : Nat) (s : State) : State.OffRow row s s := rfl

theorem trans {row : Nat} {s t u : State} (h : State.OffRow row s t) (k : State.OffRow row t u) : State.OffRow row s u := Eq.trans k h

theorem of_queues {row : Nat} {s t : State} (h : t.queues = s.queues) : State.OffRow row s t := State.queue_of_queues h row

theorem store {row r : Nat} (s : State) (cp : Copy) (ch : Charge) (h : row ≠ r) : State.OffRow row s (s.store r cp ch) := State.queue_store_other s cp ch h

theorem ite {row : Nat} {s t u : State} {p : Prop} [Decidable p] (ht : State.OffRow row s t) (hu : State.OffRow row s u) : State.OffRow row s (if p then t else u) := by
  split
  · exact ht
  · exact hu

theorem ite_fst {row : Nat} {α : Type} {s : State} {t u : State × α} {p : Prop} [Decidable p] (ht : State.OffRow row s t.1) (hu : State.OffRow row s u.1) : State.OffRow row s (if p then t else u).1 := by
  split
  · exact ht
  · exact hu

theorem foldl {row : Nat} {α : Type} (l : List α) {f : State → α → State} (hf : ∀ (s : State) (a : α), State.OffRow row s (f s a)) (s : State) : State.OffRow row s (l.foldl f s) := by
  induction l generalizing s with
  | nil => exact refl row s
  | cons a l ih => exact (hf s a).trans (ih (f s a))

theorem forAll {row : Nat} (l : List Nat) {f : State → Nat → State} (hf : ∀ (s : State) (n : Nat), State.OffRow row s (f s n)) (s : State) : State.OffRow row s (s.forAll l f) := foldl l hf s

theorem when {row : Nat} {s : State} (c : Bool) {f : State → State} (h : State.OffRow row s (f s)) : State.OffRow row s (s.when c f) := ite h (refl row s)

theorem bpAct {row r : Nat} (h : row ≠ r) (s : State) (n : Nat) (cp : Copy) (b : Bool) : State.OffRow row s (s.bpAct n r cp b).1 := by
  have hbp : State.OffRow row s (s.bpAssert cp.source cp.cls r b) := of_queues (State.keep_queues (by simp))
  have hcount : ∀ t : State, State.OffRow row t (t.countRow E.queueCntHeadroomDrop r) := fun t => of_queues rfl
  unfold State.bpAct
  exact ite_fst (ite_fst (hbp.trans (store _ _ _ h)) (hbp.trans (hcount _))) hbp

section off
variable {n row : Nat} (hrow : row < (n - 1) * 256 + 64)
include hrow

theorem enqueue {q : Nat} (hq : 8 ≤ q) (s : State) (cp : Copy) : State.OffRow row s (s.enqueue n q cp).1 := by
  have h := queueRow_ne hrow hq cp.cls
  have hred : State.OffRow row s (if s.lossless cp then (s, false) else s.red n (queueRow n q cp.cls) cp).1 := ite_fst (refl row s) (of_queues (State.keep_queues (by simp)))
  have hdrop : ∀ t : State, State.OffRow row t (t.countRow E.queueCntLimitDrop (queueRow n q cp.cls)) := fun t => of_queues rfl
  unfold State.enqueue
  dsimp only
  refine ite_fst (store s _ _ h) ?_
  split
  · exact store s _ _ h
  · refine ite_fst (bpAct h s n cp false) (ite_fst (store s _ _ h) (ite_fst (ite_fst (bpAct h s n cp true) (hdrop s)) (ite_fst hred ?_)))
    exact ite_fst (hred.trans (store _ _ _ h)) (ite_fst (hred.trans (bpAct h _ n cp false)) (hred.trans (hdrop _)))

theorem admitHold {q : Nat} (hq : 8 ≤ q) (s : State) (cp : Copy) : State.OffRow row s (s.admitHold n q cp) := by
  have h := enqueue hrow hq s cp
  unfold State.admitHold
  split
  next s1 he =>
    rw [he] at h
    exact h.trans (of_queues rfl)
  next s1 he =>
    rw [he] at h
    exact h.trans (ite (of_queues rfl) (refl row _))
  next s1 he => rwa [he] at h

theorem sendTo (s : State) (d : Nat) (cp : Copy) : State.OffRow row s (s.sendTo n d cp) := by
  have hlost : State.OffRow row s ((s.loseCopy cp).countUnreachable n) := of_queues (State.keep_queues (by simp))
  unfold State.sendTo
  dsimp only
  split
  next e _ _ => exact ite hlost (admitHold hrow (show 8 ≤ 24 + e by omega) s _)
  · exact hlost

/-- An Ethernet frame is refused at a CAN port; every other destination queues behind the CAN ports' rows. -/
theorem deliver (s : State) (code : Nat) {cp : Copy} (hcp : cp.frame.fmt = .eth) : State.OffRow row s (s.deliver n code cp) := by
  have hrefused : State.OffRow row s (s.countTxRefused code) := of_queues rfl
  have howed : ∀ g m d c, State.OffRow row s ((s.countTxRefused code).owe g m d c) := fun _ _ _ _ => of_queues rfl
  have hlimit : ∀ q c, State.OffRow row s (s.countLimit n q c) := fun _ _ => of_queues rfl
  have hlost : ∀ c : Copy, State.OffRow row s ((s.loseCopy c).countUnreachable n) := fun c => of_queues (State.keep_queues (by simp))
  unfold State.deliver
  dsimp only
  refine ite ?_ (ite (ite (ite (admitHold hrow (by decide) s _) (hlimit _ _)) (ite (admitHold hrow (by decide) s _) (hlimit _ _))) ?_)
  · cases hcan : isCan code with
    | true =>
      have hfits := formatFits_can (s := s) hcan hcp
      by_cases ha : cp.atomic = 0
      · rw [if_pos (by simp [ha, State.portRefuses, hfits])]
        exact hrefused
      · rw [if_neg (by simp [ha]), if_pos (by simp [ha, hfits])]
        exact howed _ _ _ _
    | false =>
      have hlocal : 8 ≤ slotLocal code := Nat.not_lt.mp (of_decide_eq_false hcan)
      exact ite hrefused (ite (howed _ _ _ _) (admitHold hrow hlocal s _))
  · exact ite (admitHold hrow (by decide) s _) (ite (hlost _) (sendTo hrow s _ _))

theorem replicatePlain (s : State) {cp : Copy} (hcp : cp.frame.fmt = .eth) (l : List Nat) : State.OffRow row s (s.replicatePlain n cp l) := by
  have hlost : ∀ k, State.OffRow row s (s.countUnreachable n k) := fun _ => of_queues rfl
  exact ((when _ (hlost _)).trans (forAll _ (fun t m => deliver hrow t m (cp := { cp with acct := n }) hcp) _)).trans (forAll _ (fun t d => sendTo hrow t d _) _)

theorem replicateAtomic (s : State) {cp : Copy} (hcp : cp.frame.fmt = .eth) (g : Nat) (l : List Nat) : State.OffRow row s (s.replicateAtomic n cp g l) := by
  have hcharge : ∀ (t : State) (m d c : Nat), State.OffRow row t (t.chargeAcct g m d c) := fun _ _ _ _ => of_queues rfl
  have hcharged : State.OffRow row s (s.forAll l (fun t m => t.chargeAcct g m (t.hostOf n m) cp.cells)) := forAll l (fun t m => hcharge t m _ _) s
  have hcount : ∀ (t : State) e, State.OffRow row t (t.countRow e g) := fun _ _ => of_queues rfl
  unfold State.replicateAtomic
  refine ite (refl row s) (ite ?_ (hcount s _))
  exact (hcharged.trans (hcount _ _)).trans (replicatePlain hrow _ (cp := { cp with atomic := g + 1 }) hcp l)

theorem replicate (s : State) {cp : Copy} (hcp : cp.frame.fmt = .eth) (b : Batch) : State.OffRow row s (s.replicate n cp b) := by
  have hlost : State.OffRow row s (s.countUnreachable n) := of_queues rfl
  unfold State.replicate
  refine ite (replicatePlain hrow s hcp _) ?_
  split
  · exact hlost
  · exact ite (replicateAtomic hrow s hcp _ _) (sendTo hrow s _ _)

theorem replicateAll (s : State) {cp : Copy} (hcp : cp.frame.fmt = .eth) (bs : List Batch) : State.OffRow row s (s.replicateAll n cp bs) := foldl _ (fun s b => replicate hrow s hcp b) s

theorem stage5 (s : State) {cp : Copy} (hcp : cp.frame.fmt = .eth) (bs : List Batch) : State.OffRow row s (s.stage5 n cp bs) := by
  have hlost : State.OffRow row s (s.countUnreachable n) := of_queues rfl
  have hpolice : State.OffRow row s (s.police cp).1 := of_queues (State.keep_queues (by simp))
  have hframe := State.police_frame s cp
  unfold State.stage5
  refine ite (refl row s) (ite (replicateAll hrow s hcp bs) ?_)
  split
  · exact hlost
  · refine ite ?_ (sendTo hrow s _ _)
    split
    next s1 cp1 he =>
      rw [he] at hpolice hframe
      exact hpolice.trans (replicateAll hrow s1 ((congrArg Frame.fmt (hframe cp1 rfl)).trans hcp) bs)
    next s1 he => rwa [he] at hpolice

theorem decided (s : State) {cp : Copy} (hcp : cp.frame.fmt = .eth) (d : Decision) : State.OffRow row s (s.decided n cp d) := by
  unfold State.decided
  refine stage5 hrow s ?_ _
  exact hcp

theorem forwardEth (s : State) (port code own : Nat) {cp : Copy} (hcp : cp.frame.fmt = .eth) (learn : Bool) : State.OffRow row s (s.forwardEth n port code own cp learn) := by
  have hdrop : State.OffRow row s (s.countDie E.dieCntLockedSourceDrop n) := of_queues rfl
  have hdecided : ∀ c : Bool, State.OffRow row s ((s.ethDecide n port code own cp.realm cp.vid cp.pcp cp.frame.data).1.when c (·.learnFrom n cp.realm (ethSrc cp.frame.data) own false)) := fun c =>
    of_queues (State.keep_queues (by simp))
  unfold State.forwardEth
  refine ite hdrop ?_
  dsimp only
  split
  · refine (hdecided _).trans (decided hrow _ ?_ _)
    exact hcp
  · exact hdecided _

theorem enterInternal (s : State) (k realm : Nat) (d : Bytes) : State.OffRow row s (s.enterInternal n k realm d) := by
  have hnumbered : State.OffRow row s { s with nextFid := s.nextFid + 1 } := of_queues rfl
  refine hnumbered.trans (forwardEth hrow _ _ _ _ ?_ false)
  rfl

theorem sendInternal (s : State) (k realm : Nat) (d : Bytes) : State.OffRow row s (s.sendInternal n k realm d) := ite (of_queues rfl) (enterInternal hrow s k realm d)

theorem retryWaiting (s : State) : State.OffRow row s (s.retryWaiting n) := by
  have hcleared : State.OffRow row s (s.updDie n (fun d => { d with prcWait := [] })) := of_queues rfl
  exact ite (refl row s) (hcleared.trans (foldl (s.die n).prcWait (fun s (x : Nat × Nat × Bytes) => sendInternal hrow s x.1 x.2.1 x.2.2) _))

/-- With no copy held back, room in a die's queues lets only its own frames enter. -/
theorem freed {s : State} (hheld : (s.die n).held = []) : State.OffRow row s (s.freed n) := by
  have hsettled : State.OffRow row s (s.bpSettle n) := of_queues (State.keep_queues (by simp))
  have hdies : (s.bpSettle n).dies = s.dies := State.keep_dies (by simp)
  refine hsettled.trans ?_
  show State.OffRow row (s.bpSettle n) ((s.bpSettle n).retryHeld n)
  unfold State.retryHeld
  rw [State.die_of_dies hdies, hheld]
  exact retryWaiting hrow _

end off

end State.OffRow

end Sys2Proof.Machine
end

section
/-! CAN transmission: completion, lost arbitration, errors and a port's turn with nothing to send (R104, R108, R111 to R113). -/

namespace Sys2Proof.Machine
open Sys2Proof
set_option Elab.async false

/-! ### The row of the frame in transmission -/

theorem State.sendingRow_sends {s : State} {k row : Nat} (h : s.sendingRow k = some row) : (s.queue row).any (·.sending) = true := by
  have := List.find?_some h
  simpa using this

theorem State.sendingRow_bound {s : State} {k row : Nat} (hk : isCan k = true) (h : s.sendingRow k = some row) : row < (slotDie k - 1) * 256 + 64 := by
  have hlocal : slotLocal k < 8 := of_decide_eq_true hk
  obtain ⟨c, hc, rfl⟩ := List.mem_map.mp (List.mem_of_find?_eq_some h)
  have hc8 : c < 8 := by simpa using hc
  unfold queueRow
  omega

theorem State.sendingRow_of_queues {s t : State} (h : t.queues = s.queues) (k : Nat) : t.sendingRow k = s.sendingRow k := by
  unfold State.sendingRow
  congr 1
  funext row
  rw [State.queue_of_queues h]

/-- The frame in transmission returns to its queue, with what was prepared of it. -/
theorem State.unsend_keeping {s : State} {k row : Nat} (h : s.sendingRow k = some row) :
    s.unsend k true = s.setQueue row ((s.queue row).map (fun cp => if cp.sending then { cp with sending := false } else cp)) := by
  unfold State.unsend
  rw [h]
  rfl

theorem eraseIdx_sending (l : List Copy) {cp : Copy} (h : l.find? (·.sending) = some cp) : l.eraseIdx ((l.findIdx? (·.sending)).getD 0) = l.eraseP (·.sending) := by
  rw [List.eraseP_eq_eraseIdx]
  cases hi : l.findIdx? (·.sending) with
  | none =>
    have hnone := List.findIdx?_eq_none_iff.mp hi cp (List.mem_of_find?_eq_some h)
    exact absurd (List.find?_some h) (by simp [hnone])
  | some i => rfl

theorem State.sendingRow_find {s : State} {k row : Nat} (h : s.sendingRow k = some row) : ∃ cp, (s.queue row).find? (·.sending) = some cp := by
  obtain ⟨cp, hmem, hsend⟩ := List.any_eq_true.mp (State.sendingRow_sends h)
  cases hf : (s.queue row).find? (·.sending) with
  | none => exact absurd hsend (by simpa using List.find?_eq_none.mp hf cp hmem)
  | some x => exact ⟨x, rfl⟩

theorem State.portState_setQueue (s : State) (row : Nat) (l : List Copy) (k : Nat) : (s.setQueue row l).portState k = s.portState k :=
  State.st_of_od (State.setQueue_variant s row l) (State.setQueue_od s row l) _

theorem State.port_setQueue (s : State) (row : Nat) (l : List Copy) (k : Nat) : (s.setQueue row l).port k = s.port k := by
  rw [State.port, State.setQueue_ports, State.port]

theorem State.stSlot_setQueue_settle (s : State) (row : Nat) (l : List Copy) (x k : Nat) : (s.setQueue row l).settle.stSlot x k = s.stSlot x k :=
  State.st_of_od (State.keep_variant (by simp)) (State.settle_od _) _

/-! ### What ends an attempt -/

theorem State.reconfigureNow_idle {s : State} {k : Nat} (h : (s.port k).reconfigure = false) : s.reconfigureNow k = s := by
  unfold State.reconfigureNow State.when
  simp [h]

theorem State.drainOver_idle {s : State} {k : Nat} (h : s.portState k ≠ 3) : s.drainOver k = s := by
  unfold State.drainOver State.when
  simp [h]

theorem State.drainCheck_idle {s : State} {k : Nat} (h : s.portState k ≠ 3) : s.drainCheck k = s := by
  unfold State.drainCheck State.when
  simp [h]

theorem State.attemptOver_idle {s : State} {k : Nat} (hstate : s.portState k ≠ 3) (h : (s.port k).reconfigure = false) : s.attemptOver k = s := by
  unfold State.attemptOver
  rw [State.drainOver_idle hstate, State.reconfigureNow_idle h]

/-! ### Errors in transmission -/

theorem State.stSlot_countSlot (s : State) (e k : Nat) : (s.countSlot e k).stSlot e k = (s.stSlot e k + 1) % odModulus s.variant (e + k * 256) := State.stRow_setRow s _ _ _

/-- What an error in transmission counts, before the frame goes (R112, R113). -/
def State.canErred (s : State) (k : Nat) (err : CanTxError) : State :=
  ((s.when (err == .bit || err == .ack || err == .loopDelay) (·.countSlot E.portCanCntTxError k)).when (err == .loopDelay) (·.countSlot E.portCanCntTdcFail k)).setErrors k
    (s.stSlot E.portCanTec k + (if err == .ack && s.stSlot E.portCanErrorState k == 1 then 0 else 8)) (s.stSlot E.portCanRec k)

section erred
variable (s : State) (k : Nat) (err : CanTxError)

theorem State.canErred_rest : (s.canErred k err).rest 4 = s.rest 4 := by simp [State.canErred, State.setErrors]

theorem State.canErred_queues : (s.canErred k err).queues = s.queues := State.keep_queues (State.rest_weaken (by decide) (State.canErred_rest s k err))

theorem State.canErred_port (j : Nat) : (s.canErred k err).port j = s.port j := by
  have h : (s.canErred k err).ports = s.ports := State.keep_ports (State.rest_weaken (by decide) (State.canErred_rest s k err))
  rw [State.port, h, State.port]

theorem State.canErred_dies : (s.canErred k err).dies = s.dies := State.keep_dies (State.rest_weaken (by decide) (State.canErred_rest s k err))

theorem State.canErred_variant : (s.canErred k err).variant = s.variant := State.keep_variant (State.rest_weaken (by decide) (State.canErred_rest s k err))

/-- Another entry of the port is not touched by an error. -/
theorem State.canErred_other {x : Nat} (h : x ≠ E.portCanCntTxError ∧ x ≠ E.portCanCntTdcFail ∧ x ≠ E.portCanTec ∧ x ≠ E.portCanRec ∧ x ≠ E.portCanErrorState) : (s.canErred k err).stSlot x k = s.stSlot x k := by
  obtain ⟨h1, h2, h3, h4, h5⟩ := h
  have hcount : State.Keeps (x + k * 256) s ((s.when (err == .bit || err == .ack || err == .loopDelay) (·.countSlot E.portCanCntTxError k)).when (err == .loopDelay) (·.countSlot E.portCanCntTdcFail k)) :=
    .when (.when (.refl _ s) (.countSlot _ 1 h1)) (.countSlot _ 1 h2)
  exact (((hcount.trans (.setSlot _ _ h3)).trans (.setSlot _ _ h4)).trans (.setSlot _ _ h5)).entry

/-- The error counter rises, but for a missing acknowledgement in error-passive (log 11). -/
theorem State.canErred_tec {s : State} {k : Nat} {err : CanTxError} (htec : s.stSlot E.portCanTec k ≤ 247) (hack : err = .ack → s.stSlot E.portCanErrorState k ≠ 1) :
    (s.canErred k err).stSlot E.portCanTec k = s.stSlot E.portCanTec k + 8 := by
  have hadd : (if err == .ack && s.stSlot E.portCanErrorState k == 1 then 0 else 8) = 8 := by
    refine if_neg ?_
    simp only [Bool.and_eq_true, beq_iff_eq, not_and]
    exact hack
  unfold State.canErred State.setErrors
  rw [State.stSlot_setSlot_of_ne _ _ _ (by decide), State.stSlot_setSlot_of_ne _ _ _ (by decide), State.stSlot_setSlot_same, hadd]
  omega

/-- A frame error, and a missing acknowledgement, count as such (R112). -/
theorem State.canErred_txError {s : State} {k : Nat} {err : CanTxError} (hloop : err ≠ .loopDelay) : (s.canErred k err).stSlot E.portCanCntTxError k =
    if err = .bit ∨ err = .ack then (s.countSlot E.portCanCntTxError k).stSlot E.portCanCntTxError k else s.stSlot E.portCanCntTxError k := by
  unfold State.canErred State.setErrors
  rw [State.stSlot_setSlot_of_ne _ _ _ (by decide), State.stSlot_setSlot_of_ne _ _ _ (by decide), State.stSlot_setSlot_of_ne _ _ _ (by decide)]
  cases err with
  | loopDelay => exact absurd rfl hloop
  | bit | stuff | form | ack => simp [State.when]

theorem State.canErred_tdcFail {s : State} {k : Nat} : (s.canErred k .loopDelay).stSlot E.portCanCntTdcFail k = (s.countSlot E.portCanCntTdcFail k).stSlot E.portCanCntTdcFail k := by
  have hother : (s.countSlot E.portCanCntTxError k).stSlot E.portCanCntTdcFail k = s.stSlot E.portCanCntTdcFail k := State.stSlot_setSlot_of_ne s k _ (by decide)
  have hvariant : (s.countSlot E.portCanCntTxError k).variant = s.variant := rfl
  unfold State.canErred State.setErrors
  rw [State.stSlot_setSlot_of_ne _ _ _ (by decide), State.stSlot_setSlot_of_ne _ _ _ (by decide), State.stSlot_setSlot_of_ne _ _ _ (by decide), State.stSlot_countSlot s]
  simp only [State.when, beq_self_eq_true, Bool.or_true, if_true]
  rw [State.stSlot_countSlot, hother, hvariant]

end erred

section attempt
variable {s : State} {k row : Nat} {err : CanTxError} (hp : s.canPort k = true) (hrow : s.sendingRow k = some row) (htec : s.stSlot E.portCanTec k ≤ 247)
  (hloop : err = .loopDelay → s.tdcMeasures k (s.sentFrame row) = true)
include hp hrow htec hloop

/-- An error that does not reach bus-off is counted, and its frame sent again or dropped (R112). -/
theorem State.canTxError_eq : s.canTxError k err = if s.cfgSlotOn E.portCanAutoRetransmit k then (s.canErred k err).unsend k true else (s.canErred k err).oneShot k row := by
  have hguard : (err == .loopDelay && !s.tdcMeasures k (s.sentFrame row)) = false := by
    cases err with
    | loopDelay => simp [hloop rfl]
    | bit | stuff | form | ack => rfl
  have hlow : decide (255 < s.stSlot E.portCanTec k + (if err == .ack && s.stSlot E.portCanErrorState k == 1 then 0 else 8)) = false := by
    refine decide_eq_false ?_
    split
    · omega
    · omega
  unfold State.canTxError
  rw [hp, hrow]
  simp only [hguard, State.errors, hlow, State.when, Bool.not_true, Bool.false_eq_true, if_false]
  rw [if_neg (of_decide_eq_false hlow)]
  rfl

/-- Sent again, the frame stands in its row no longer sending (R111, R112). -/
theorem State.canTxError_again (hauto : s.cfgSlotOn E.portCanAutoRetransmit k = true) : s.canTxError k err =
    (s.canErred k err).setQueue row ((s.queue row).map (fun cp => if cp.sending then { cp with sending := false } else cp)) := by
  rw [State.canTxError_eq hp hrow htec hloop, if_pos hauto, State.unsend_keeping (row := row), State.queue_of_queues (State.canErred_queues s k err)]
  rw [State.sendingRow_of_queues (State.canErred_queues s k err), hrow]

end attempt

/-! ### Errors: the frame sent again, and dropped -/

theorem State.canSent_aborts {s : State} {k row d : Nat} {cp : Copy} (hp : s.canPort k = true) (hrow : s.sendingRow k = some row) (hcp : (s.queue row).find? (·.sending) = some cp) (hd : 127 < d)
    (hm : s.tdcMeasures k (cp.prepared.getD cp.frame) = true) : s.canSent k d = (s.canTxError k .loopDelay).attemptOver k := by
  have habort : (s.tdcMeasures k (cp.prepared.getD cp.frame) && decide (127 < d)) = true := by simp [hm, hd]
  unfold State.canSent
  rw [hp, hrow]
  dsimp only
  rw [hcp]
  exact if_pos habort

/-- The abort of a frame, and the end of the attempt with nothing else due. -/
theorem State.canSent_aborted {s u : State} {k row d : Nat} {cp : Copy} (hp : s.canPort k = true) (hrow : s.sendingRow k = some row) (hcp : (s.queue row).find? (·.sending) = some cp) (hd : 127 < d)
    (hm : s.tdcMeasures k (cp.prepared.getD cp.frame) = true) (herr : s.canTxError k .loopDelay = u) (hstate : u.portState k ≠ 3) (hre : (u.port k).reconfigure = false) : s.canSent k d = u := by
  rw [State.canSent_aborts hp hrow hcp hd hm, herr]
  exact State.attemptOver_idle hstate hre

theorem canTransmitComplete_exec {s u : State} {k d : Nat} (hs : s.variant.hasSlot k = true) (hk : isCan k = true) (h : s.canSent k d = u) : exec (.canTransmitComplete k d) s = .next u.settle :=
  (doneIf_present (by simp [hs, hk])).trans (congrArg (fun t : State => Host.Outcome.next t.settle) h)

section ended
variable {s : State} {k row : Nat} (hs : s.variant.hasSlot k = true) (hk : isCan k = true) (hp : s.canPort k = true) (hrow : s.sendingRow k = some row)
  (hre : (s.port k).reconfigure = false) (htec : s.stSlot E.portCanTec k ≤ 247)
include hs hk hp hrow hre htec

theorem canTransmitError_again {err : CanTxError} (herr : err ∈ [.bit, .stuff, .form, .ack]) (hack : err = .ack → s.stSlot E.portCanErrorState k ≠ 1) (hstate : s.portState k ≠ 3)
    (hauto : s.cfgSlotOn E.portCanAutoRetransmit k = true) : s.leads (.canTransmitError k err) (fun t => t.queue row = (s.queue row).map (fun cp => if cp.sending then { cp with sending := false } else cp) ∧
        t.stSlot E.portCanCntTxError k = (if err = .bit ∨ err = .ack then (s.countSlot E.portCanCntTxError k).stSlot E.portCanCntTxError k else s.stSlot E.portCanCntTxError k) ∧
        t.stSlot E.portCanTec k = s.stSlot E.portCanTec k + 8 ∧ t = { s with od := t.od, queues := t.queues, safe := t.safe, pins := t.pins }) := by
  have hloop : err ≠ .loopDelay := fun h => by rw [h] at herr; simp at herr
  have hagain := State.canTxError_again (err := err) hp hrow htec (fun h => absurd h hloop) hauto
  have hrest := State.canErred_rest s k err
  have hstate' : (s.canErred k err).portState k ≠ 3 := by
    rw [State.portState, State.canErred_other s k err (by decide)]
    exact hstate
  have hport := congrArg Port.reconfigure (State.canErred_port s k err k)
  have htx := State.canErred_txError (s := s) (k := k) hloop
  have hcounted := State.canErred_tec htec hack
  generalize s.canErred k err = u at hagain hrest hstate' hport htx hcounted
  generalize (s.queue row).map (fun cp => if cp.sending then { cp with sending := false } else cp) = l at hagain ⊢
  have hidle : (s.canTxError k err).attemptOver k = u.setQueue row l := by
    rw [hagain]
    exact State.attemptOver_idle (by rwa [State.portState_setQueue]) (by rw [State.port_setQueue, hport, hre])
  have hx : exec (.canTransmitError k err) s = .next (u.setQueue row l).settle := (doneIf_present (by simp [hs, hk])).trans (congrArg (fun t : State => Host.Outcome.next t.settle) hidle)
  refine State.leads_of_exec hx ⟨?_, ?_, ?_, State.eq_mix (fs := 2199023337476) ?_⟩
  · rw [State.queue_settle, State.queue_setQueue]
  · rw [State.stSlot_setQueue_settle, htx]
  · rw [State.stSlot_setQueue_settle, hcounted]
  · rw [State.settle_rest (by decide), State.setQueue_rest (by decide), State.rest_weaken (by decide) hrest]

/-- A loop delay that is too long aborts the frame, which is sent again (R108). -/
theorem canTransmitComplete_aborts {cp : Copy} {d : Nat} (hcp : (s.queue row).find? (·.sending) = some cp) (hd : 127 < d) (hm : s.tdcMeasures k (cp.prepared.getD cp.frame) = true) (hstate : s.portState k = 2)
    (hauto : s.cfgSlotOn E.portCanAutoRetransmit k = true) : s.leads (.canTransmitComplete k d) (fun t =>
      t.out = s.out ∧ t.stSlot E.portCanCntTdcFail k = (s.countSlot E.portCanCntTdcFail k).stSlot E.portCanCntTdcFail k ∧
      t.queue row = (s.queue row).map (fun cp => if cp.sending then { cp with sending := false } else cp) ∧ t = { s with od := t.od, ev := t.ev, safe := t.safe, dies := t.dies, queues := t.queues, bp := t.bp, policers := t.policers, credits := t.credits, ports := t.ports, intc := t.intc, apps := t.apps, creditDue := t.creditDue, samples := t.samples, nextFid := t.nextFid, pins := t.pins, out := t.out }) := by
  have hsent : s.sentFrame row = cp.prepared.getD cp.frame := by rw [State.sentFrame, hcp]
  have hagain := State.canTxError_again (err := .loopDelay) hp hrow htec (fun _ => by rw [hsent, hm]) hauto
  have hrest := State.canErred_rest s k .loopDelay
  have hstate' : (s.canErred k .loopDelay).portState k ≠ 3 := by
    rw [State.portState, State.canErred_other s k .loopDelay (by decide), ← State.portState, hstate]
    decide
  have hport := congrArg Port.reconfigure (State.canErred_port s k .loopDelay k)
  have hfail := State.canErred_tdcFail (s := s) (k := k)
  generalize s.canErred k .loopDelay = u at hagain hrest hstate' hport hfail
  generalize (s.queue row).map (fun cp => if cp.sending then { cp with sending := false } else cp) = l at hagain ⊢
  have hx := canTransmitComplete_exec hs hk (State.canSent_aborted hp hrow hcp hd hm hagain (by rwa [State.portState_setQueue]) (by rw [State.port_setQueue, hport, hre]))
  refine State.leads_of_exec hx ⟨?_, ?_, ?_, State.eq_mix (execCanTransmitComplete_rest (fs := 12109128648708) (by decide) k d s hx)⟩
  · rw [State.settle_out, State.setQueue_out]
    exact State.keep_out (State.rest_weaken (by decide) hrest)
  · rw [State.stSlot_setQueue_settle, hfail]
  · rw [State.queue_settle, State.queue_setQueue]

end ended

/-! ### A frame that leaves its row -/

theorem State.takeSending_eq {s : State} {row : Nat} {cp : Copy} (h : (s.queue row).find? (·.sending) = some cp) : s.takeSending row = some (cp, s.setQueue row ((s.queue row).eraseP (·.sending))) := by
  unfold State.takeSending
  rw [h, eraseIdx_sending _ h]
  rfl

/-- The room that a frame leaves behind lets nothing into the port's own rows, and no port's state or configuration changes with it. -/
theorem State.freed_leaves {s t : State} {k row : Nat} (hrow : row < (slotDie k - 1) * 256 + 64) (hf : s.Forwards t) (hq : t.queues = s.queues) (hd : t.dies = s.dies) (hheld : (s.die (slotDie k)).held = []) :
    (t.freed (slotDie k)).queue row = s.queue row ∧ s.Forwards (t.freed (slotDie k)) := by
  have hheld' : (t.die (slotDie k)).held = [] := by rw [State.die_of_dies hd, hheld]
  exact ⟨Eq.trans (State.OffRow.freed hrow hheld') (State.queue_of_queues hq row), hf.trans (State.Forwards.freed t _)⟩

/-- A CAN port's state, error counters and counters of frames are steady. -/
theorem steadyEntry_can {e k : Nat} (h : e ∈ [E.portCanState, E.portCanTec, E.portCanCntTxFrames, E.portCanCntOneShotDrop]) (hk : isCan k = true) (hlt : k < 256) : steadyEntry (e + k * 256) = true := by
  have hblock : ∀ b, b < 256 → [0x05, 0x19, 0x1B, 0x1C].contains b = false → steadyEntry (0x210000 + b + k * 256) = true := by
    intro b hb hc
    have hbyte : (0x210000 + b + k * 256) % 256 = b := by omega
    have hlow : 0x210000 + b + k * 256 < 0x220000 := by omega
    unfold steadyEntry
    rw [hbyte, hc, decide_eq_true hlow]
    by_cases hb21 : b = 0x21
    · have hslot : isCan ((0x210000 + b + k * 256) / 256) = true := by
        have hdiv : (0x210000 + b + k * 256) / 256 = 0x2100 + k := by omega
        rw [hdiv]
        have hlocal : k % 32 < 8 := of_decide_eq_true hk
        exact decide_eq_true (show (0x2100 + k) % 32 < 8 by omega)
      simp [hslot]
    · simp [hb21]
  simp only [List.mem_cons, List.not_mem_nil, or_false] at h
  obtain rfl | rfl | rfl | rfl := h
  · exact hblock 0x01 (by decide) (by decide)
  · exact hblock 0x04 (by decide) (by decide)
  · exact hblock 0x11 (by decide) (by decide)
  · exact hblock 0x21 (by decide) (by decide)

/-- Without automatic retransmission the frame leaves its row and counts (R112). -/
theorem State.oneShot_leaves {s : State} {k row : Nat} (hk : isCan k = true) (hlt : k < 256) (hrow : s.sendingRow k = some row) (hstate : s.portState k = 2) (hre : (s.port k).reconfigure = false) (hheld : (s.die (slotDie k)).held = []) :
    ((s.oneShot k row).attemptOver k).queue row = (s.queue row).eraseP (·.sending) ∧ ((s.oneShot k row).attemptOver k).stSlot E.portCanTec k = s.stSlot E.portCanTec k ∧
      ((s.oneShot k row).attemptOver k).stSlot E.portCanCntOneShotDrop k = (s.countSlot E.portCanCntOneShotDrop k).stSlot E.portCanCntOneShotDrop k := by
  obtain ⟨cp, hcp⟩ := State.sendingRow_find hrow
  have hdrop : s.oneShot k row = (((((s.countSlot E.portCanCntOneShotDrop k).setQueue row ((s.queue row).eraseP (·.sending))).loseCopy cp).freed (slotDie k)).drainCheck k) := by
    unfold State.oneShot
    rw [State.takeSending_eq hcp]
    rfl
  have hdies : (s.countSlot E.portCanCntOneShotDrop k).dies = s.dies := rfl
  have hports : (s.countSlot E.portCanCntOneShotDrop k).port k = s.port k := rfl
  have hother : ∀ e, e ≠ E.portCanCntOneShotDrop → (s.countSlot E.portCanCntOneShotDrop k).stSlot e k = s.stSlot e k := fun e he => State.stSlot_setSlot_of_ne s k _ he
  generalize s.countSlot E.portCanCntOneShotDrop k = c at *
  generalize (s.queue row).eraseP (·.sending) = l at *
  have hheld' : ((c.setQueue row l).die (slotDie k)).held = [] := by rw [State.die_of_dies (State.setQueue_dies c row l), State.die_of_dies hdies, hheld]
  obtain ⟨hqueue, hfreed⟩ := State.freed_leaves (State.sendingRow_bound hk hrow) (State.Forwards.loseCopy (c.setQueue row l) cp) (State.keep_queues (by simp)) (State.keep_dies (by simp)) hheld'
  generalize ((c.setQueue row l).loseCopy cp).freed (slotDie k) = u at *
  have hentry : ∀ e, e ∈ [E.portCanState, E.portCanTec, E.portCanCntTxFrames, E.portCanCntOneShotDrop] → u.stSlot e k = c.stSlot e k := fun e he =>
    (hfreed.entry _ (steadyEntry_can he hk hlt)).trans (State.st_of_od (State.setQueue_variant c row l) (State.setQueue_od c row l) _)
  have hstate' : u.portState k ≠ 3 := by
    rw [State.portState, hentry _ (by simp), hother _ (by decide), ← State.portState, hstate]
    decide
  have hre' : (u.port k).reconfigure = false := by rw [hfreed.owed, State.port_setQueue, hports, hre]
  rw [hdrop, State.drainCheck_idle hstate', State.attemptOver_idle hstate' hre', hqueue, State.queue_setQueue]
  exact ⟨rfl, (hentry _ (by simp)).trans (hother _ (by decide)), hentry _ (by simp)⟩

section dropped
variable {s : State} {k row : Nat} (hs : s.variant.hasSlot k = true) (hk : isCan k = true) (hp : s.canPort k = true) (hrow : s.sendingRow k = some row)
  (hre : (s.port k).reconfigure = false) (htec : s.stSlot E.portCanTec k ≤ 247)
include hs hk hp hrow hre htec

theorem canTransmitError_drops {err : CanTxError} (herr : err ∈ [.bit, .stuff, .form]) (hstate : s.portState k = 2) (hauto : s.cfgSlotOn E.portCanAutoRetransmit k = false) (hheld : (s.die (slotDie k)).held = []) :
    s.leads (.canTransmitError k err) (fun t =>
        t.queue row = (s.queue row).eraseP (·.sending) ∧ t.stSlot E.portCanTec k = s.stSlot E.portCanTec k + 8 ∧
        t.stSlot E.portCanCntOneShotDrop k = (s.countSlot E.portCanCntOneShotDrop k).stSlot E.portCanCntOneShotDrop k ∧ t = { s with od := t.od, ev := t.ev, safe := t.safe, dies := t.dies, queues := t.queues, bp := t.bp, policers := t.policers, credits := t.credits, ports := t.ports, intc := t.intc, creditDue := t.creditDue, nextFid := t.nextFid, pins := t.pins, out := t.out }) := by
  have hloop : err ≠ .loopDelay := fun h => by rw [h] at herr; simp at herr
  have hack : err = .ack → s.stSlot E.portCanErrorState k ≠ 1 := fun h => by rw [h] at herr; simp at herr
  have hdropped := State.canTxError_eq (err := err) hp hrow htec (fun h => absurd h hloop)
  rw [hauto, if_neg Bool.false_ne_true] at hdropped
  have hrow' : (s.canErred k err).sendingRow k = some row := (State.sendingRow_of_queues (State.canErred_queues s k err) k).trans hrow
  have hstate' : (s.canErred k err).portState k = 2 := (State.canErred_other s k err (by decide)).trans hstate
  have hre' : ((s.canErred k err).port k).reconfigure = false := (congrArg Port.reconfigure (State.canErred_port s k err k)).trans hre
  have hheld' : ((s.canErred k err).die (slotDie k)).held = [] := by rw [State.die_of_dies (State.canErred_dies s k err), hheld]
  obtain ⟨hqueue, htecs, hdrops⟩ := State.oneShot_leaves hk (Variant.hasSlot_lt hs) hrow' hstate' hre' hheld'
  have hcounted := State.canErred_tec htec hack
  have hdropsCount := State.canErred_other s k err (x := E.portCanCntOneShotDrop) (by decide)
  have hvariant := State.canErred_variant s k err
  rw [State.queue_of_queues (State.canErred_queues s k err)] at hqueue
  rw [State.stSlot_countSlot, hdropsCount, hvariant, ← State.stSlot_countSlot] at hdrops
  generalize s.canErred k err = u at *
  have hx : exec (.canTransmitError k err) s = .next ((u.oneShot k row).attemptOver k).settle := by
    rw [← hdropped]
    exact doneIf_present (by simp [hs, hk])
  refine State.leads_of_exec hx ⟨?_, ?_, ?_, State.eq_mix (execCanTransmitError_rest (fs := 12099464972292) (by decide) k err s hx)⟩
  · rw [State.queue_settle, hqueue]
  · rw [State.stSlot_settle, htecs, hcounted]
  · rw [State.stSlot_settle, hdrops]

end dropped

/-! ### A frame that completes -/

/-- Queues, dies, the configuration in use, the port's state and what it owes of a new configuration stand. -/
structure State.PortSteady (k : Nat) (s t : State) : Prop where
  variant : t.variant = s.variant
  queues : t.queues = s.queues
  dies : t.dies = s.dies
  active : t.od.active = s.od.active
  owed : (t.port k).reconfigure = (s.port k).reconfigure
  state : t.portState k = s.portState k

namespace State.PortSteady
variable {k : Nat}

theorem refl (s : State) : State.PortSteady k s s := ⟨rfl, rfl, rfl, rfl, rfl, rfl⟩

theorem trans {s t u : State} (h : State.PortSteady k s t) (g : State.PortSteady k t u) : State.PortSteady k s u :=
  ⟨g.variant.trans h.variant, g.queues.trans h.queues, g.dies.trans h.dies, g.active.trans h.active, g.owed.trans h.owed, g.state.trans h.state⟩

theorem ite {s t u : State} {p : Prop} [Decidable p] (ht : State.PortSteady k s t) (hu : State.PortSteady k s u) : State.PortSteady k s (if p then t else u) := by
  split
  · exact ht
  · exact hu

theorem when {s u : State} {c : Bool} {f : State → State} (hu : State.PortSteady k s u) (hf : State.PortSteady k u (f u)) : State.PortSteady k s (u.when c f) := ite (hu.trans hf) hu

theorem emit (s : State) (o : Out) : State.PortSteady k s (s.emit o) := ⟨rfl, rfl, rfl, rfl, rfl, rfl⟩

theorem setSlot (s : State) {e : Nat} (v : Nat) (h : E.portCanState ≠ e) : State.PortSteady k s (s.setSlot e k v) := ⟨rfl, rfl, rfl, rfl, rfl, State.stSlot_setSlot_of_ne s k v h⟩

theorem updPort (s : State) {f : Port → Port} (hf : ∀ p, (f p).reconfigure = p.reconfigure) : State.PortSteady k s (s.updPort k f) :=
  ⟨rfl, rfl, rfl, rfl, by rw [State.port_updPort, hf], rfl⟩

theorem loopDelay (s : State) (d : Nat) (f : Frame) : State.PortSteady k s (s.loopDelay k d f) := by
  unfold State.loopDelay
  exact ite (refl s) (ite (when (updPort s (fun _ => rfl)) (setSlot _ _ (by decide))) (updPort s (fun _ => rfl)))

/-- Below bus-off the error counters are all that errors change (R113). -/
theorem errors (s : State) {tec : Nat} (h : tec ≤ 255) (rec_ : Nat) : State.PortSteady k s (s.errors k tec rec_) := by
  have hnot : decide (255 < tec) = false := decide_eq_false (by omega)
  unfold State.errors State.setErrors
  rw [hnot]
  exact ((setSlot s _ (by decide)).trans (setSlot _ _ (by decide))).trans (setSlot _ _ (by decide))

theorem samplePoint (s : State) (dir : Nat) (f : Frame) (fcs ts colour cls : Nat) (h : s.cfgOn E.captureEnable = false) : State.PortSteady k s (s.samplePoint k dir f fcs ts colour cls) := by
  unfold State.samplePoint
  rw [h]
  exact refl s

end State.PortSteady

/-- A copy that is sent leaves its row, and no other copy enters it (R104). -/
theorem State.sentCopy_row {s : State} {k row : Nat} (hrow : row < (slotDie k - 1) * 256 + 64) (hk : isCan k = true) (hlt : k < 256) {cp : Copy} (hcp : (s.queue row).find? (·.sending) = some cp)
    (hstate : s.portState k = 2) (hre : (s.port k).reconfigure = false) (hheld : (s.die (slotDie k)).held = []) : (s.sentCopy k row).queue row = (s.queue row).eraseP (·.sending) := by
  obtain ⟨hqueue, hfreed⟩ := State.freed_leaves (s := s.setQueue row ((s.queue row).eraseP (·.sending))) hrow (State.Forwards.oweCopy _ cp) (State.keep_queues (by simp)) (State.keep_dies (by simp)) (by rw [State.die_of_dies (State.setQueue_dies s row _), hheld])
  have hstate' : (((s.setQueue row ((s.queue row).eraseP (·.sending))).oweCopy cp).freed (slotDie k)).portState k = 2 :=
    (hfreed.entry _ (steadyEntry_can (e := E.portCanState) (by simp) hk hlt)).trans ((State.portState_setQueue s row _ k).trans hstate)
  have hre' : ((((s.setQueue row ((s.queue row).eraseP (·.sending))).oweCopy cp).freed (slotDie k)).port k).reconfigure = false := by rw [hfreed.owed, State.port_setQueue, hre]
  unfold State.sentCopy
  rw [State.takeSending_eq hcp]
  dsimp only
  generalize ((s.setQueue row ((s.queue row).eraseP (·.sending))).oweCopy cp).freed (slotDie k) = u at *
  rw [if_neg (by simp [hstate']), State.reconfigureNow_idle hre', hqueue, State.queue_setQueue]

/-- What a completed frame does before it leaves its row (R104, R108, R113). -/
def State.canCompletes (s : State) (k d : Nat) (cp : Copy) : State :=
  let f := cp.prepared.getD cp.frame
  (((((s.pwmCode k f).emit (.canTx k f)).countSlot E.portCanCntTxFrames k).loopDelay k d f).txSuccess k).when (cp.kind == .frame) (·.samplePoint k 1 f 0 cp.started cp.colour cp.cls)

theorem State.canSent_completes {s : State} {k row d : Nat} {cp : Copy} (hp : s.canPort k = true) (hrow : s.sendingRow k = some row) (hcp : (s.queue row).find? (·.sending) = some cp) (hd : d ≤ 127) :
    s.canSent k d = (s.canCompletes k d cp).sentCopy k row := by
  have hlate : decide (127 < d) = false := decide_eq_false (by omega)
  unfold State.canSent
  rw [hp, hrow]
  dsimp only
  rw [hcp]
  dsimp only
  rw [hlate, Bool.and_false]
  rfl

theorem State.Keeps.txSuccess {k : Nat} (hk : isCan k = true) (he : steadyEntry (E.portCanCntTxFrames + k * 256) = true) (s : State) : State.Keeps (E.portCanCntTxFrames + k * 256) s (s.txSuccess k) :=
  State.Keeps.errors hk he s _ _

theorem State.PortSteady.txSuccess {s : State} {k : Nat} (h : s.stSlot E.portCanTec k ≤ 256) : State.PortSteady k s (s.txSuccess k) := State.PortSteady.errors s (by omega) _

/-- The sent frame and its count stand through the rest of its completion. -/
theorem State.canCompletes_keeps {k : Nat} (hk : isCan k = true) (hlt : k < 256) (s : State) (d : Nat) (cp : Copy) :
    State.Keeps (E.portCanCntTxFrames + k * 256) (((s.pwmCode k (cp.prepared.getD cp.frame)).emit (.canTx k (cp.prepared.getD cp.frame))).countSlot E.portCanCntTxFrames k) (s.canCompletes k d cp) := by
  have he := steadyEntry_can (e := E.portCanCntTxFrames) (by simp) hk hlt
  have hdone := (State.Keeps.loopDelay (k := k) (((s.pwmCode k (cp.prepared.getD cp.frame)).emit (.canTx k (cp.prepared.getD cp.frame))).countSlot E.portCanCntTxFrames k) d (cp.prepared.getD cp.frame)).trans (State.Keeps.txSuccess hk he _)
  unfold State.canCompletes
  exact .when hdone (.samplePoint he _ k 1 _ 0 _ _ _)

theorem State.pwmCode_counted (s : State) (k : Nat) (f : Frame) : (((s.pwmCode k f).emit (.canTx k f)).countSlot E.portCanCntTxFrames k).stSlot E.portCanCntTxFrames k = (s.countSlot E.portCanCntTxFrames k).stSlot E.portCanCntTxFrames k := by
  unfold State.pwmCode State.when
  split
  · rfl
  · rfl

/-- Below bus-off, with no capture, the completed frame leaves the port as it was (R113). -/
theorem State.canCompletes_steady {s : State} {k : Nat} (d : Nat) (cp : Copy) (htec : s.stSlot E.portCanTec k ≤ 256) (hcapture : s.cfgOn E.captureEnable = false) : State.PortSteady k s (s.canCompletes k d cp) := by
  have hsent : State.PortSteady k s (((s.pwmCode k (cp.prepared.getD cp.frame)).emit (.canTx k (cp.prepared.getD cp.frame))).countSlot E.portCanCntTxFrames k) :=
    (State.PortSteady.when (.refl s) (.emit s _)).trans ((State.PortSteady.emit _ _).trans (.setSlot _ _ (by decide)))
  have hcounter : (((s.pwmCode k (cp.prepared.getD cp.frame)).emit (.canTx k (cp.prepared.getD cp.frame))).countSlot E.portCanCntTxFrames k).stSlot E.portCanTec k = s.stSlot E.portCanTec k :=
    ((State.Keeps.when (.refl _ s) (.emit _ s _)).trans ((State.Keeps.emit _ _ _).trans (.countSlot (e := E.portCanTec) _ 1 (by decide)))).entry
  unfold State.canCompletes
  dsimp only
  generalize ((s.pwmCode k (cp.prepared.getD cp.frame)).emit (.canTx k (cp.prepared.getD cp.frame))).countSlot E.portCanCntTxFrames k = u at *
  have hmeasured : (u.loopDelay k d (cp.prepared.getD cp.frame)).stSlot E.portCanTec k = u.stSlot E.portCanTec k := by
    refine State.Keeps.entry (e := E.portCanTec + k * 256) ?_
    unfold State.loopDelay
    exact .ite (.refl _ u) (.ite (.when (.updPort _ u k _) (.setSlot _ _ (by decide))) (.updPort _ u k _))
  have herrors := (hsent.trans (State.PortSteady.loopDelay u d (cp.prepared.getD cp.frame))).trans (State.PortSteady.txSuccess (by omega))
  refine State.PortSteady.when herrors (State.PortSteady.samplePoint _ 1 _ 0 _ _ _ ?_)
  rw [State.cfgOn, State.cfg_of_active herrors.variant herrors.active, ← State.cfgOn, hcapture]

theorem canTransmitComplete_leaves {s : State} {k row d : Nat} {cp : Copy} (hs : s.variant.hasSlot k = true) (hk : isCan k = true) (hp : s.canPort k = true) (hrow : s.sendingRow k = some row)
    (hcp : (s.queue row).find? (·.sending) = some cp) (hd : d ≤ 127) : s.leads (.canTransmitComplete k d) (fun t =>
      Out.canTx k (cp.prepared.getD cp.frame) ∈ t.out ∧ t.stSlot E.portCanCntTxFrames k = (s.countSlot E.portCanCntTxFrames k).stSlot E.portCanCntTxFrames k ∧
      (s.portState k = 2 → s.stSlot E.portCanTec k ≤ 256 → (s.port k).reconfigure = false → (s.die (slotDie k)).held = [] → s.cfgOn E.captureEnable = false →
        t.queue row = (s.queue row).eraseIdx (((s.queue row).findIdx? (·.sending)).getD 0)) ∧ t = { s with od := t.od, ev := t.ev, safe := t.safe, dies := t.dies, queues := t.queues, bp := t.bp, policers := t.policers, credits := t.credits, ports := t.ports, intc := t.intc, apps := t.apps, creditDue := t.creditDue, samples := t.samples, nextFid := t.nextFid, pins := t.pins, out := t.out }) := by
  have hlt := Variant.hasSlot_lt hs
  have hsent := State.canSent_completes hp hrow hcp hd
  have hcount := State.pwmCode_counted s k (cp.prepared.getD cp.frame)
  have hkeeps := (State.canCompletes_keeps hk hlt s d cp).trans (State.Keeps.sentCopy hk (steadyEntry_can (e := E.portCanCntTxFrames) (by simp) hk hlt) (s.canCompletes k d cp) row)
  have hout : Out.canTx k (cp.prepared.getD cp.frame) ∈ (((s.pwmCode k (cp.prepared.getD cp.frame)).emit (.canTx k (cp.prepared.getD cp.frame))).countSlot E.portCanCntTxFrames k).out := List.mem_cons_self
  have hqueue : s.portState k = 2 → s.stSlot E.portCanTec k ≤ 256 → (s.port k).reconfigure = false → (s.die (slotDie k)).held = [] → s.cfgOn E.captureEnable = false →
      ((s.canCompletes k d cp).sentCopy k row).queue row = (s.queue row).eraseP (·.sending) := by
    intro hstate htec hre hheld hcapture
    have hsteady := State.canCompletes_steady d cp htec hcapture
    have hsame := State.queue_of_queues hsteady.queues row
    rw [State.sentCopy_row (State.sendingRow_bound hk hrow) hk hlt (cp := cp) (by rw [hsame, hcp]) (hsteady.state.trans hstate) (hsteady.owed.trans hre) (by rw [State.die_of_dies hsteady.dies, hheld]), hsame]
  generalize (s.canCompletes k d cp).sentCopy k row = t at *
  generalize ((s.pwmCode k (cp.prepared.getD cp.frame)).emit (.canTx k (cp.prepared.getD cp.frame))).countSlot E.portCanCntTxFrames k = u at *
  have hx := canTransmitComplete_exec hs hk hsent
  refine State.leads_of_exec hx ⟨?_, ?_, ?_, State.eq_mix (execCanTransmitComplete_rest (fs := 12109128648708) (by decide) k d s hx)⟩
  · rw [State.settle_out]
    exact hkeeps.out _ hout
  · rw [State.stSlot_settle, State.stSlot, hkeeps.entry, ← hcount, State.stSlot]
  · intro hstate htec hre hheld hcapture
    rw [State.queue_settle, hqueue hstate htec hre hheld hcapture, eraseIdx_sending _ hcp]

/-! ### Lost arbitration -/

theorem canArbitrationLost_leads {s : State} {k row : Nat} (hs : s.variant.hasSlot k = true) (hk : isCan k = true) (hp : s.canPort k = true) (hrow : s.sendingRow k = some row) (hstate : s.portState k ≠ 3) :
    s.leads (.canArbitrationLost k) (fun t =>
      t.queue row = (s.queue row).map (fun cp => if cp.sending then { cp with sending := false } else cp) ∧ t.port k = { s.port k with rxBusy := true } ∧
      t.stSlot E.portCanCntArbLost k = (s.countSlot E.portCanCntArbLost k).stSlot E.portCanCntArbLost k ∧
      t = { s with od := t.od, ports := t.ports, queues := t.queues, safe := t.safe, pins := t.pins }) := by
  have hqueues : (s.countSlot E.portCanCntArbLost k).queues = s.queues := rfl
  have hports : (s.countSlot E.portCanCntArbLost k).ports = s.ports := rfl
  have hrest : (s.countSlot E.portCanCntArbLost k).rest 4 = s.rest 4 := by simp
  have hother : (s.countSlot E.portCanCntArbLost k).portState k = s.portState k := State.stSlot_setSlot_of_ne s k _ (by decide)
  generalize hu : s.countSlot E.portCanCntArbLost k = u at hqueues hports hrest hother ⊢
  have hrow' : u.sendingRow k = some row := (State.sendingRow_of_queues hqueues k).trans hrow
  have hlost : s.arbLost k = (u.setQueue row ((s.queue row).map (fun cp => if cp.sending then { cp with sending := false } else cp))).updPort k (fun p => { p with rxBusy := true }) := by
    unfold State.arbLost
    rw [hu, State.unsend_keeping hrow', State.queue_of_queues hqueues]
    exact State.drainOver_idle (by rw [← hother] at hstate; exact hstate)
  generalize (s.queue row).map (fun cp => if cp.sending then { cp with sending := false } else cp) = l at hlost ⊢
  have hx : exec (.canArbitrationLost k) s = .next ((u.setQueue row l).updPort k (fun p => { p with rxBusy := true })).settle := by
    rw [← hlost]
    exact doneIf_when (by simp [hs, hk]) (by simp [hp, hrow])
  refine State.leads_of_exec hx ⟨?_, ?_, ?_, State.eq_mix (fs := 2199027531780) ?_⟩
  · rw [State.queue_settle]
    exact State.queue_setQueue u row l
  · rw [State.port_settle, State.port_updPort, State.port, State.setQueue_ports, hports, State.port]
  · exact State.st_of_od (State.keep_variant (by simp)) (State.settle_od _) _
  · rw [State.settle_rest (by decide), State.updPort_rest (by decide), State.setQueue_rest (by decide), State.rest_weaken (by decide) hrest]

/-! ### A turn with nothing to send -/

theorem State.canDequeue_sending {s : State} {k : Nat} (h : (s.sendingRow k).isSome = true) : s.canDequeue k = s := by
  unfold State.canDequeue
  simp [h]

theorem State.purge_empty {s : State} {row : Nat} (h : s.queue row = []) : s.purge row = s := by
  unfold State.purge State.purgeWhere
  simp [h, dropAged]

/-- One class of a port's turn (R226). -/
def selectClass (n q : Nat) (ok : State → Nat → Bool) (r : State × Option Nat) (c : Nat) : State × Option Nat :=
  if r.2.isSome || !ok r.1 c then r
  else
    let s1 := r.1.purge (queueRow n q c)
    if (s1.queue (queueRow n q c)).isEmpty then (s1, none) else (s1, some c)

theorem State.select_eq (s : State) (n q : Nat) (ok : State → Nat → Bool) : s.select n q ok = (List.range 8).reverse.foldl (selectClass n q ok) (s, none) := rfl

theorem selectClass_empty {s : State} {n q c : Nat} (h : s.queue (queueRow n q c) = []) (ok : State → Nat → Bool) : selectClass n q ok (s, none) c = (s, none) := by
  unfold selectClass
  dsimp only
  rw [State.purge_empty h, h]
  simp

/-- No class of a point with empty queues is selected, and none of its queues changes. -/
theorem State.select_empty {s : State} {n q : Nat} (h : ∀ c, c < 8 → s.queue (queueRow n q c) = []) (ok : State → Nat → Bool) : s.select n q ok = (s, none) := by
  have hfold : ∀ l : List Nat, (∀ c ∈ l, c < 8) → l.foldl (selectClass n q ok) (s, none) = (s, none) := by
    intro l
    induction l with
    | nil => exact fun _ => rfl
    | cons c l ih =>
      intro hl
      rw [List.foldl_cons, selectClass_empty (h c (hl c List.mem_cons_self))]
      exact ih (fun c hc => hl c (List.mem_cons_of_mem _ hc))
  exact hfold _ (fun c hc => by simpa using hc)

theorem State.canDequeue_empty {s : State} {k : Nat} (hstate : s.portState k ≠ 3) (h : ∀ c, c < 8 → s.queue (queueRow (slotDie k) (slotLocal k) c) = []) : s.canDequeue k = s := by
  unfold State.canDequeue
  split
  · rfl
  · dsimp only
    rw [State.select_empty h]
    exact State.drainCheck_idle hstate

theorem portDequeue_idle {s : State} {k n q : Nat} (hk : isCan k = true) (hp : s.canPort k = true) (hn : n = slotDie k) (hslot : (n - 1) * 32 + q = k) (hq : q < 21) (hd : s.variant.hasDie n = true)
    (hidle : s.canDequeue k = s) : s.leads (.portDequeue n q) (fun t => t = { s with safe := t.safe, pins := t.pins }) := by
  have hruns : s.dieRuns n = true ∧ s.inRun = true := by
    simp only [State.canPort, State.portRuns, Bool.and_eq_true] at hp
    rw [hn]
    exact ⟨hp.1.2, hp.1.1⟩
  have hdequeue : s.dequeue n q = s := by
    unfold State.dequeue
    simp only [hslot, hruns.1, hruns.2, hq, hk, hidle, Bool.not_true, Bool.or_self, Bool.false_eq_true, if_false, if_true]
  have hx : exec (.portDequeue n q) s = .next s.settle := (doneIf_present (by simp [hd]; omega)).trans (congrArg (fun t : State => Host.Outcome.next t.settle) hdequeue)
  exact State.leads_of_exec hx (State.settle_mix s)

/-! ### The error state -/

/-- The error state follows the counters at ISO 11898-1's limits (R113). -/
theorem State.setErrors_state (s : State) (k tec rec_ : Nat) : (s.setErrors k tec rec_).stSlot E.portCanErrorState k = if 255 < tec then 2 else if 127 < tec ∨ 127 < rec_ then 1 else 0 := by
  unfold State.setErrors
  rw [State.stSlot_setSlot_same]
  simp only [Bool.or_eq_true, decide_eq_true_eq]

/-- Settles O26, by what a completed, aborted, retransmitted and dropped frame each leave of their row. -/
theorem canTransmission : Obligations.CanTransmission := by
  unfold Obligations.CanTransmission
  intro s k hs hk hp
  refine ⟨fun row cp d hrow hcp hd => canTransmitComplete_leaves hs hk hp hrow hcp hd, fun row cp d hrow hcp hd hm hre hstate htec hauto => canTransmitComplete_aborts hs hk hp hrow hre htec hcp hd hm hstate hauto,
    fun row hrow hstate => canArbitrationLost_leads hs hk hp hrow hstate, fun row err herr hack hrow hre hstate htec hauto => canTransmitError_again hs hk hp hrow hre htec herr hack hstate hauto,
    ?_, ?_, fun row err herr hrow hre hstate htec hauto hheld _ => canTransmitError_drops hs hk hp hrow hre htec herr hstate hauto hheld, State.setErrors_state s k⟩
  · intro n q hn _ hslot hq hd _ _ hsending
    exact portDequeue_idle hk hp hn hslot hq hd (State.canDequeue_sending hsending)
  · intro n q hn hql hslot hq hd _ hstate hempty
    rw [hn, hql] at hempty
    exact portDequeue_idle hk hp hn hslot hq hd (State.canDequeue_empty hstate hempty)

end Sys2Proof.Machine
end

section
/-! The actions of `commit.action`: validate, commit, discard, defaults and the discard of another's staging image (R88, R89, Table 3-10). -/

namespace Sys2Proof.Machine
open Sys2Proof
set_option Elab.async false

theorem State.st_set_of_ne (s : State) {e f : Nat} (v : Nat) (h : e ≠ f) : (s.set f v).st e = s.st e := State.st_setRow_of_ne s v (okey_noRow_ne h)

theorem State.commitTo_st (s : State) (ph : CommitPhase) (code : Nat) {e : Nat} (h : e ≠ E.commitState) : (s.commitTo ph code).st e = s.st e :=
  (State.st_set_of_ne _ code h).trans (State.st_of_od rfl rfl e)

/-! ### The entry and its actions -/

theorem actsAtOnce_commitAction (v : Variant) : actsAtOnce v E.commitAction = true := by cases v <;> decide +kernel

theorem State.odAct_commitAction (s : State) (sess row : Nat) (b : Bytes) : s.odAct sess E.commitAction row b = s.commitAction sess (leNat b) := rfl

/-- A taken action of `commit.action` leaves what the action leaves, its status with the session, and the answer. -/
theorem commitAction_taken {s u : State} {c : Instr} {sess st : Nat} {b : Bytes} (hc : exec c s = s.entryWrite sess E.commitAction b) (ha : s.takes sess E.commitAction b = true)
    (hact : s.commitAction sess (leNat b) = (u, st)) (h6 : st ≠ 0x06) (h100 : st ≠ 0x100) :
    ∃ t, exec c s = .next t ∧ (t.sess sess).lastStatus = st ∧ t.rest 10995116294216 = u.rest 10995116294216 := by
  have hw := (State.odWrite_acts ha (actsAtOnce_commitAction s.variant)).trans (State.odAct_commitAction s sess _ _)
  rw [hact] at hw
  refine ⟨(s.sessionWrite sess (E.commitAction / 256) (E.commitAction % 256) (s.cursorRow sess (E.commitAction / 256)) b).settle, ?_, ?_, ?_⟩
  · rw [hc]
    exact doneIf_present (State.accepts_serves ha).1
  · exact State.sessionWrite_status (State.accepts_serves ha) hw h6 h100
  · exact State.sessionWrite_settled (State.accepts_serves ha) hw h6 h100

section allowed
variable {s : State} {sess : Nat} (hidle : s.committing = false) (hlevel : s.stagedLevel ≤ s.sessLevel sess)
include hidle hlevel

theorem State.commitAction_begins (hmine : s.lockHolder = some sess) (only : Bool) : s.commitAction sess (if only then 1 else 2) = (s.commitBegin sess only, 0) := by
  unfold State.commitAction
  cases only <;> simp [hidle, hmine, Nat.not_lt.mpr hlevel]

theorem State.commitAction_discards (hmine : s.lockHolder = some sess) : s.commitAction sess 3 = (s.dropStaging, 0) := by
  unfold State.commitAction
  simp [hidle, hmine, Nat.not_lt.mpr hlevel]

theorem State.commitAction_defaults (hfree : s.lockHolder = none ∨ s.lockHolder = some sess) : s.commitAction sess 4 = s.stageDefaults sess := by
  unfold State.commitAction
  obtain h | h := hfree <;> simp [hidle, h, Nat.not_lt.mpr hlevel]

theorem State.commitAction_discardsOther (hheld : s.lockHolder.isSome = true) (hmay : s.lockHolder = some sess ∨ 3 ≤ s.sessLevel sess) : s.commitAction sess 5 = (s.dropStaging, 0) := by
  have hsome : s.lockHolder.isNone = false := by
    cases h : s.lockHolder with
    | none => simp [h] at hheld
    | some x => rfl
  have hother : ((5 : Nat) == 5 && !(s.lockHolder == some sess) && decide (s.sessLevel sess < 3)) = false := by
    obtain h | h := hmay
    · simp [h]
    · simp [Nat.not_lt.mpr h]
  unfold State.commitAction
  dsimp only
  rw [hother]
  simp [hidle, hsome, Nat.not_lt.mpr hlevel]

end allowed

/-! ### The start of a commit -/

section begins
variable (s : State) (sess : Nat) (only : Bool)

/-- What the start of a commit leaves (R89 t0). -/
theorem State.commitBegin_leaves : (s.commitBegin sess only).commit = ⟨.validating, only, sess, s.sessLevel sess, s.od.staging, false⟩ ∧ (s.commitBegin sess only).st E.commitState = 1 ∧
    (s.commitBegin sess only).st E.commitResult = 0 ∧ (s.commitBegin sess only).st E.commitFailEntry = 0 ∧ (s.commitBegin sess only).st E.commitFailRow = noRow ∧
    (only = false → (s.commitBegin sess only).mram.commitPhase = true) ∧ (only = true → (s.commitBegin sess only).mram = s.mram) ∧
    (s.commitBegin sess only).od.active = s.od.active ∧ (s.commitBegin sess only).od.staging = s.od.staging := by
  unfold State.commitBegin
  refine ⟨?_, State.st_set _ _ _, ?_, ?_, ?_, ?_, ?_, ?_, ?_⟩
  · cases only <;> rfl
  · rw [State.commitTo_st _ _ _ (by decide), State.st_set_of_ne _ _ (by decide), State.st_set_of_ne _ _ (by decide), State.st_set]
  · rw [State.commitTo_st _ _ _ (by decide), State.st_set_of_ne _ _ (by decide), State.st_set]
  · rw [State.commitTo_st _ _ _ (by decide), State.st_set]
  · rintro rfl
    rfl
  · rintro rfl
    rfl
  · cases only <;> rfl
  · cases only <;> rfl

end begins

/-! ### Action 4 -/

/-- Every key of a list stands at its own value once each has been put (Table 3-10). -/
theorem mfind_foldl_mput_mem (val : Nat → Nat) {k : Nat} (l : List Nat) (m : NMap Nat) (h : k ∈ l) : mfind (l.foldl (fun m x => mput m x (val x)) m) k = some (val k) := by
  have := mfind_foldl_mput (key := fun x => x) (fun _ _ h => h) val l m h
  rwa [List.foldl_map] at this

theorem State.mem_defaultsDue {s : State} {k : Nat} (hk : k ∈ (s.od.active ++ s.od.defaultsImg).map (·.1)) (hp : odPersistent s.variant (keyEntry k) = true) (hv : imageValue s.variant s.od.active k ≠ s.effDefault k) :
    k ∈ s.defaultsDue := by
  have hdeparts : s.departs s.od.active k = true := by
    unfold State.departs
    rw [hp, Bool.true_and]
    exact bne_iff_ne.mpr hv
  unfold State.defaultsDue
  refine List.mem_filter.mpr ⟨?_, hdeparts⟩
  rw [List.map_append, List.mem_append] at hk
  rw [List.mem_append]
  obtain h | h := hk
  · exact .inl h
  · cases hf : mfind s.od.active k with
    | none => exact .inr (List.mem_filter.mpr ⟨h, by simp [hf]⟩)
    | some x => exact .inl (List.mem_map_of_mem (f := Prod.fst) (mem_of_mfind hf))

theorem State.stageDefaults_fits {s : State} {sess : Nat} (h : ({ s with od := { s.od with staging := s.defaultsStaged } } : State).stagedBytes ≤ stagingRoom) :
    s.stageDefaults sess = ({ s with od := { s.od with staging := s.defaultsStaged }, lockHolder := if s.defaultsDue.isEmpty then s.lockHolder else some sess }, 0) := if_neg (Nat.not_lt.mpr h)

theorem State.stageDefaults_full {s : State} {sess : Nat} (h : stagingRoom < ({ s with od := { s.od with staging := s.defaultsStaged } } : State).stagedBytes) : s.stageDefaults sess = (s, 0x0E) := if_pos h

/-! ### What each action leaves -/

section actions
variable {s : State} {sess : Nat} (hidle : s.committing = false) (hlevel : s.stagedLevel ≤ s.sessLevel sess)
include hidle hlevel

theorem commitBegin_leads (only : Bool) {c : Instr} (hc : exec c s = s.entryWrite sess E.commitAction [if only then 1 else 2]) (ha : s.takes sess E.commitAction [if only then 1 else 2] = true) (hmine : s.lockHolder = some sess) :
    s.leads c (fun t => t.commit = ⟨.validating, only, sess, s.sessLevel sess, s.od.staging, false⟩ ∧
        t.st E.commitState = 1 ∧ t.st E.commitResult = 0 ∧ t.st E.commitFailEntry = 0 ∧ t.st E.commitFailRow = noRow ∧ (only = false → t.mram.commitPhase = true) ∧ (only = true → t.mram = s.mram) ∧
        (t.sess sess).lastStatus = 0 ∧ t.od.active = s.od.active ∧ t.od.staging = s.od.staging ∧ t = { s with od := t.od, sessions := t.sessions, relays := t.relays, commit := t.commit, safe := t.safe, mram := t.mram, pins := t.pins, out := t.out }) := by
  have hact : s.commitAction sess (leNat [if only then 1 else 2]) = (s.commitBegin sess only, 0) := by
    rw [← State.commitAction_begins hidle hlevel hmine only]
    cases only <;> rfl
  have hbegin : (s.commitBegin sess only).rest 67109124 = s.rest 67109124 := by simp
  obtain ⟨hcommit, hstate, hresult, hentry, hrow, hphase, hmram, hactive, hstaging⟩ := State.commitBegin_leaves s sess only
  generalize s.commitBegin sess only = u at *
  obtain ⟨t, hx, hstatus, hrest⟩ := commitAction_taken hc ha hact (by decide) (by decide)
  have hod := State.keep_od (State.rest_weaken (by decide) hrest)
  have hst := fun e => State.st_of_od (State.keep_variant (State.rest_weaken (by decide) hrest)) hod e
  have hm := State.keep_mram (State.rest_weaken (by decide) hrest)
  refine State.leads_of_exec hx ⟨(State.keep_commit (State.rest_weaken (by decide) hrest)).trans hcommit, (hst _).trans hstate, (hst _).trans hresult, (hst _).trans hentry, (hst _).trans hrow, fun h => ?_, fun h => ?_, hstatus, ?_, ?_,
    State.eq_mix (fs := 10995183403340) ((State.rest_weaken (by decide) hrest).trans (State.rest_weaken (by decide) hbegin))⟩
  · rw [hm, hphase h]
  · rw [hm, hmram h]
  · rw [hod, hactive]
  · rw [hod, hstaging]

omit hidle hlevel in
/-- An action that drops the staging image lets its lock go (R88). -/
theorem dropStaging_leads {c : Instr} {b : Bytes} (hc : exec c s = s.entryWrite sess E.commitAction b) (ha : s.takes sess E.commitAction b = true) (hact : s.commitAction sess (leNat b) = (s.dropStaging, 0)) :
    s.leads c (fun t => t.od = { s.od with staging := [] } ∧ t.lockHolder = none ∧ (t.sess sess).lastStatus = 0 ∧
      t = { s with od := t.od, sessions := t.sessions, relays := t.relays, lockHolder := t.lockHolder, safe := t.safe, pins := t.pins, out := t.out }) := by
  obtain ⟨t, hx, hstatus, hrest⟩ := commitAction_taken hc ha hact (by decide) (by decide)
  have hdrop : s.dropStaging.rest 10995116294348 = s.rest 10995116294348 := by simp
  exact State.leads_of_exec hx ⟨State.keep_od (State.rest_weaken (by decide) hrest), State.keep_lockHolder (State.rest_weaken (by decide) hrest), hstatus,
    State.eq_mix (fs := 10995116294348) ((State.rest_weaken (by decide) hrest).trans hdrop)⟩

theorem restoreDefaults_leads (ha : s.takes sess E.commitAction [4] = true) (hfree : s.lockHolder = none ∨ s.lockHolder = some sess)
    (hroom : ({ s with od := { s.od with staging := s.defaultsStaged } } : State).stagedBytes ≤ stagingRoom) : s.leads (.restoreDefaults sess) (fun t => (∀ k, k ∈ (s.od.active ++ s.od.defaultsImg).map (·.1) → odPersistent s.variant (keyEntry k) = true →
        imageValue s.variant s.od.active k ≠ s.effDefault k → mfind t.od.staging k = some (s.effDefault k) ∧ t.lockHolder = some sess) ∧
      t.od = { s.od with staging := s.defaultsStaged } ∧ (t.sess sess).lastStatus = 0 ∧ t = { s with od := t.od, sessions := t.sessions, relays := t.relays, lockHolder := t.lockHolder, safe := t.safe, pins := t.pins, out := t.out }) := by
  have hact : s.commitAction sess (leNat [4]) = _ := (State.commitAction_defaults hidle hlevel hfree).trans (State.stageDefaults_fits hroom)
  obtain ⟨t, hx, hstatus, hrest⟩ := commitAction_taken (c := .restoreDefaults sess) rfl ha hact (by decide) (by decide)
  have hod : t.od = { s.od with staging := s.defaultsStaged } := State.keep_od (State.rest_weaken (by decide) hrest)
  have hlock : t.lockHolder = if s.defaultsDue.isEmpty then s.lockHolder else some sess := State.keep_lockHolder (State.rest_weaken (by decide) hrest)
  have hkeep : t.rest 10995116294348 = s.rest 10995116294348 := (State.rest_weaken (fs := 10995116294348) (by decide) hrest).trans rfl
  refine State.leads_of_exec hx ⟨fun k hk hp hv => ?_, hod, hstatus, State.eq_mix hkeep⟩
  have hdue := State.mem_defaultsDue hk hp hv
  rw [hod, hlock, if_neg (by simpa using List.ne_nil_of_mem hdue)]
  exact ⟨mfind_foldl_mput_mem s.effDefault _ _ hdue, rfl⟩

theorem restoreDefaults_full (ha : s.takes sess E.commitAction [4] = true) (hfree : s.lockHolder = none ∨ s.lockHolder = some sess)
    (hroom : stagingRoom < ({ s with od := { s.od with staging := s.defaultsStaged } } : State).stagedBytes) : s.leads (.restoreDefaults sess) (fun t =>
        (t.sess sess).lastStatus = 0x0E ∧ t.od = s.od ∧ t.lockHolder = s.lockHolder ∧ t = { s with sessions := t.sessions, relays := t.relays, safe := t.safe, pins := t.pins, out := t.out }) := by
  have hact : s.commitAction sess (leNat [4]) = _ := (State.commitAction_defaults hidle hlevel hfree).trans (State.stageDefaults_full hroom)
  obtain ⟨t, hx, hstatus, hrest⟩ := commitAction_taken (c := .restoreDefaults sess) rfl ha hact (by decide) (by decide)
  exact State.leads_of_exec hx ⟨hstatus, State.keep_od (State.rest_weaken (by decide) hrest), State.keep_lockHolder (State.rest_weaken (by decide) hrest), State.eq_mix hrest⟩

end actions

end Sys2Proof.Machine
end

section
/-! The phases of a commit up to its store write, and its end (R89, R90, R272). -/

namespace Sys2Proof.Machine
open Sys2Proof
set_option Elab.async false

theorem State.st_settle (s : State) (e : Nat) : s.settle.st e = s.st e := State.st_of_od (State.settle_variant s) (State.settle_od s) e

/-- A completion that has an effect settles what it leaves. -/
theorem done_when {s : State} {c : Bool} {f : State → State} (hc : c = true) : done (s.when c f) = .next (f s).settle := by
  rw [hc]
  rfl

/-! ### Steps that leave the active image -/

/-- The configuration in use, the running commit and the entries but some stand. -/
structure State.CommitStands (l : List Nat) (s t : State) : Prop where
  commit : t.commit = s.commit
  active : t.od.active = s.od.active
  entry : ∀ e, e ∉ l → t.st e = s.st e

namespace State.CommitStands

theorem refl (l : List Nat) (s : State) : State.CommitStands l s s := ⟨rfl, rfl, fun _ _ => rfl⟩

theorem trans {l : List Nat} {s t u : State} (h : State.CommitStands l s t) (k : State.CommitStands l t u) : State.CommitStands l s u :=
  ⟨k.commit.trans h.commit, k.active.trans h.active, fun e he => (k.entry e he).trans (h.entry e he)⟩

theorem set {l : List Nat} (s : State) {e : Nat} (v : Nat) (h : e ∈ l) : State.CommitStands l s (s.set e v) :=
  ⟨rfl, rfl, fun _ hf => State.st_set_of_ne s v (fun heq => hf (heq ▸ h))⟩

/-- An apply that is not taken leaves the placement's state alone (R89 t3, Table 9-5). -/
theorem placementKept (s : State) : State.CommitStands [E.placementState] s s.placementKept := by
  unfold State.placementKept State.when
  split
  · exact set s _ (by simp)
  · exact refl _ s

theorem recomputeAgain (s : State) : State.CommitStands [E.placementState] s s.recomputeAgain := by
  unfold State.recomputeAgain
  split
  · exact ⟨rfl, rfl, fun e he => (State.st_set_of_ne _ 1 (by simpa using he)).trans (State.st_of_od rfl rfl e)⟩
  · exact refl _ s

end State.CommitStands

/-! ### The end of a commit -/

theorem State.commitOver_leaves (s : State) (code result : Nat) (drop : Bool) : (s.commitOver code result drop).commit = { s.commit with phase := .idle, sessionEnded := false, image := [] } ∧
    (s.commitOver code result drop).st E.commitState = code ∧ (s.commitOver code result drop).st E.commitResult = result ∧ (s.commitOver code result drop).od.active = s.od.active ∧
    ∀ e, e ∉ [E.commitState, E.commitResult] → (s.commitOver code result drop).st e = s.st e := by
  have hdrop : ∀ (u : State) (c : Bool) (e : Nat), (u.when c State.dropStaging).st e = u.st e := fun u c e => by cases c <;> rfl
  have hactive : ∀ (u : State) (c : Bool), (u.when c State.dropStaging).od.active = u.od.active := fun u c => by cases c <;> rfl
  have hcommit : ∀ (u : State) (c : Bool), (u.when c State.dropStaging).commit = u.commit := fun u c => by cases c <;> rfl
  unfold State.commitOver
  refine ⟨hcommit _ _, ?_, ?_, hactive _ _, fun e he => ?_⟩
  · rw [hdrop, State.st_set]
  · rw [hdrop, State.st_set_of_ne _ _ (by decide), State.st_set]
  · obtain ⟨hstate, hresult⟩ : e ≠ E.commitState ∧ e ≠ E.commitResult := by simpa using he
    rw [hdrop, State.st_set_of_ne _ _ hstate, State.st_set_of_ne _ _ hresult]
    exact State.st_of_od rfl rfl e

/-- A refused commit is over with its result and its first failure, and nothing in use has changed (R89). -/
theorem State.commitRefused_leaves (s : State) (result entry row : Nat) : (s.commitRefused result entry row).commit.phase = .idle ∧ (s.commitRefused result entry row).st E.commitState = 6 ∧
    (s.commitRefused result entry row).st E.commitResult = result ∧ (s.commitRefused result entry row).st E.commitFailEntry = entry ∧ (s.commitRefused result entry row).st E.commitFailRow = row ∧
    (s.commitRefused result entry row).od.active = s.od.active ∧
    ∀ e, e ∉ [E.commitState, E.commitResult, E.commitFailEntry, E.commitFailRow, E.placementState] → (s.commitRefused result entry row).st e = s.st e := by
  unfold State.commitRefused
  have hkept := State.CommitStands.placementKept s
  generalize s.placementKept = p at *
  obtain ⟨hcommit, hstate, hresult, hactive, hother⟩ := State.commitOver_leaves ((p.set E.commitFailEntry entry).set E.commitFailRow row) 6 result false
  generalize ((p.set E.commitFailEntry entry).set E.commitFailRow row).commitOver 6 result false = u at *
  have hagain := State.CommitStands.recomputeAgain u
  refine ⟨?_, ?_, ?_, ?_, ?_, ?_, fun e he => ?_⟩
  · rw [hagain.commit, hcommit]
  · rw [hagain.entry _ (by decide), hstate]
  · rw [hagain.entry _ (by decide), hresult]
  · rw [hagain.entry _ (by decide), hother _ (by decide), State.st_set_of_ne _ _ (by decide), State.st_set]
  · rw [hagain.entry _ (by decide), hother _ (by decide), State.st_set]
  · exact (hagain.active.trans hactive).trans hkept.active
  · simp only [List.mem_cons, List.not_mem_nil, or_false, not_or] at he
    obtain ⟨h1, h2, h3, h4, h5⟩ := he
    rw [hagain.entry _ (by simpa using h5), hother _ (by simp [h1, h2]), State.st_set_of_ne _ _ h4, State.st_set_of_ne _ _ h3, hkept.entry _ (by simpa using h5)]

theorem State.placementRefused_leaves (s : State) (cause index row : Nat) : (s.placementRefused cause index row).commit.phase = .idle ∧ (s.placementRefused cause index row).st E.commitState = 6 ∧
    (s.placementRefused cause index row).st E.commitResult = 0x20 ∧ (s.placementRefused cause index row).st E.placementRefusalCause = cause ∧ (s.placementRefused cause index row).st E.placementRefusalIndex = index ∧
    (s.placementRefused cause index row).st E.placementRefusalRow = row ∧ (s.placementRefused cause index row).od.active = s.od.active := by
  unfold State.placementRefused
  obtain ⟨hphase, hstate, hresult, -, -, hactive, hother⟩ := State.commitRefused_leaves ((((s.set E.placementState 4).set E.placementRefusalCause cause).set E.placementRefusalIndex index).set E.placementRefusalRow row) 0x20 0 noRow
  refine ⟨hphase, hstate, hresult, ?_, ?_, ?_, hactive⟩
  · rw [hother _ (by decide), State.st_set_of_ne _ _ (by decide), State.st_set_of_ne _ _ (by decide), State.st_set]
  · rw [hother _ (by decide), State.st_set_of_ne _ _ (by decide), State.st_set]
  · rw [hother _ (by decide), State.st_set]

/-! ### Validation and placement -/

theorem State.validated_leaves {s : State} (h3 : s.update.state ≠ 3) (h5 : s.update.state ≠ 5) :
    (s.validate s.commit.image = none → s.commit.validateOnly = false → s.validated.commit.phase = .placing ∧ s.validated.st E.commitState = 2) ∧
    (s.validate s.commit.image = none → s.commit.validateOnly = true → s.validated.commit.phase = .idle ∧ s.validated.st E.commitState = 5 ∧ s.validated.st E.commitResult = 0) ∧
    (∀ f, s.validate s.commit.image = some f → s.validated.commit.phase = .idle ∧ s.validated.st E.commitState = 6 ∧ s.validated.st E.commitResult = f.2 ∧
      s.validated.st E.commitFailEntry = f.entry ∧ s.validated.st E.commitFailRow = f.row) := by
  have hfree : (s.update.state == 3 || s.update.state == 5) = false := by simp [h3, h5]
  refine ⟨fun hv honly => ?_, fun hv honly => ?_, fun f hf => ?_⟩
  · unfold State.validated
    rw [hfree, hv]
    dsimp only
    rw [honly]
    exact ⟨rfl, State.st_set _ _ _⟩
  · have hdone : s.validated = s.commitOver 5 0 false := by
      unfold State.validated
      rw [hfree, hv]
      dsimp only
      rw [honly]
      rfl
    obtain ⟨hcommit, hstate, hresult, -, -⟩ := State.commitOver_leaves s 5 0 false
    rw [hdone, hcommit]
    exact ⟨rfl, hstate, hresult⟩
  · have hrefused : s.validated = s.commitRefused f.2 f.entry f.row := by
      unfold State.validated
      rw [hfree, hf]
      rfl
    obtain ⟨hphase, hstate, hresult, hentry, hrow, -, -⟩ := State.commitRefused_leaves s f.2 f.entry f.row
    rw [hrefused]
    exact ⟨hphase, hstate, hresult, hentry, hrow⟩

theorem State.validated_active (s : State) : s.validated.od.active = s.od.active := by
  have hrefused : ∀ result entry row, (s.commitRefused result entry row).od.active = s.od.active := fun result entry row => by
    obtain ⟨-, -, -, -, -, hactive, -⟩ := State.commitRefused_leaves s result entry row
    exact hactive
  unfold State.validated
  split
  · exact hrefused _ _ _
  · split
    · exact hrefused _ _ _
    · split
      · obtain ⟨-, -, -, hactive, -⟩ := State.commitOver_leaves s 5 0 false
        exact hactive
      · rfl

theorem validationComplete_leads {s : State} (hrun : s.inRun = true) (hphase : s.commit.phase = .validating) : s.leads .validationComplete (fun t =>
      (s.update.state ≠ 3 → s.update.state ≠ 5 → s.validate s.commit.image = none → s.commit.validateOnly = false → t.commit.phase = .placing ∧ t.st E.commitState = 2) ∧
      (s.update.state ≠ 3 → s.update.state ≠ 5 → s.validate s.commit.image = none → s.commit.validateOnly = true → t.commit.phase = .idle ∧ t.st E.commitState = 5 ∧ t.st E.commitResult = 0) ∧
      (∀ f, s.update.state ≠ 3 → s.update.state ≠ 5 → s.validate s.commit.image = some f → t.commit.phase = .idle ∧ t.st E.commitState = 6 ∧ t.st E.commitResult = f.2 ∧
        t.st E.commitFailEntry = f.entry ∧ t.st E.commitFailRow = f.row) ∧
      t.od.active = s.od.active ∧ t = { s with od := t.od, lockHolder := t.lockHolder, commit := t.commit, safe := t.safe, mram := t.mram, sumac := t.sumac, pins := t.pins }) := by
  have hx : exec .validationComplete s = .next s.validated.settle := done_when (by simp [hrun, hphase])
  have hleaves := fun h3 h5 => State.validated_leaves (s := s) h3 h5
  have hactive := State.validated_active s
  generalize s.validated = u at *
  refine State.leads_of_exec hx ⟨?_, ?_, ?_, ?_, State.eq_mix (execValidationComplete_rest (fs := 2199358816644) (by decide) s hx)⟩
  · intro h3 h5 hv honly
    rw [State.settle_commit, State.st_settle]
    obtain ⟨hplacing, -, -⟩ := hleaves h3 h5
    exact hplacing hv honly
  · intro h3 h5 hv honly
    rw [State.settle_commit, State.st_settle, State.st_settle]
    obtain ⟨-, hdone, -⟩ := hleaves h3 h5
    exact hdone hv honly
  · intro f h3 h5 hv
    rw [State.settle_commit]
    simp only [State.st_settle]
    obtain ⟨-, -, hrefused⟩ := hleaves h3 h5
    exact hrefused f hv
  · rw [State.settle_od, hactive]

theorem State.placedNow_placed {s : State} (hh : s.sumac.healthChanged = false) (hfail : (s.withImage s.commitImage).place.fail = none)
    (hcut : s.isolatedItem (s.withImage s.commitImage) (s.withImage s.commitImage).place.pl = none) : s.placedNow = (s.set E.placementRefusalCause 0).commitTo .storing 3 := by
  unfold State.placedNow
  dsimp only
  rw [hh, hfail]
  dsimp only
  rw [hcut]
  rfl

theorem State.placedNow_refused {s : State} {c i r : Nat} (hh : s.sumac.healthChanged = false) (hfail : (s.withImage s.commitImage).place.fail = some (c, i, r)) : s.placedNow = s.placementRefused c i r := by
  unfold State.placedNow
  dsimp only
  rw [hh, hfail]
  rfl

theorem State.placementRefused_active (s : State) (cause index row : Nat) : (s.placementRefused cause index row).od.active = s.od.active := by
  obtain ⟨-, -, -, -, -, -, hactive⟩ := State.placementRefused_leaves s cause index row
  exact hactive

theorem State.placedNow_active (s : State) : s.placedNow.od.active = s.od.active := by
  unfold State.placedNow
  dsimp only
  split
  · exact State.placementRefused_active s _ _ _
  · split
    · exact State.placementRefused_active s _ _ _
    · split
      · exact State.placementRefused_active s _ _ _
      · rfl

theorem placementComplete_leads {s : State} (hrun : s.inRun = true) (hphase : s.commit.phase = .placing) (hh : s.sumac.healthChanged = false) : s.leads .placementComplete (fun t =>
      ((s.withImage s.commitImage).place.fail = none → s.isolatedItem (s.withImage s.commitImage) (s.withImage s.commitImage).place.pl = none → t.commit.phase = .storing ∧ t.st E.commitState = 3 ∧
        t.st E.placementRefusalCause = 0) ∧
      (∀ c i r, (s.withImage s.commitImage).place.fail = some (c, i, r) → t.commit.phase = .idle ∧ t.st E.commitState = 6 ∧ t.st E.commitResult = 0x20 ∧ t.st E.placementRefusalCause = c ∧
        t.st E.placementRefusalIndex = i ∧ t.st E.placementRefusalRow = r) ∧
      t.od.active = s.od.active ∧ t = { s with od := t.od, lockHolder := t.lockHolder, commit := t.commit, safe := t.safe, mram := t.mram, sumac := t.sumac, pins := t.pins }) := by
  have hx : exec .placementComplete s = .next s.placedNow.settle := done_when (by simp [hrun, hphase])
  have hactive := State.placedNow_active s
  have hplaced := State.placedNow_placed hh
  have hrefused := fun c i r => State.placedNow_refused (c := c) (i := i) (r := r) hh
  generalize s.placedNow = u at *
  refine State.leads_of_exec hx ⟨fun hfail hcut => ?_, fun c i r hfail => ?_, ?_, State.eq_mix (execPlacementComplete_rest (fs := 2199358816644) (by decide) s hx)⟩
  · rw [State.settle_commit, State.st_settle, State.st_settle, hplaced hfail hcut]
    exact ⟨rfl, State.st_set _ _ _, (State.commitTo_st _ _ _ (by decide)).trans (State.st_set _ _ _)⟩
  · obtain ⟨hidle, hstate, hresult, hcause, hindex, hrow, -⟩ := State.placementRefused_leaves s c i r
    rw [State.settle_commit, State.st_settle, State.st_settle, State.st_settle, State.st_settle, State.st_settle, hrefused c i r hfail]
    exact ⟨hidle, hstate, hresult, hcause, hindex, hrow⟩
  · rw [State.settle_od, hactive]

/-! ### The last phase -/

theorem commitDone_leads {s : State} (hphase : s.commit.phase = .applied) : s.leads .commitDone (fun t => t.commit = { s.commit with phase := .idle, sessionEnded := false, image := [] } ∧ t.st E.commitState = 5 ∧ t.st E.commitResult = 0 ∧
      t.od.staging = [] ∧ t.lockHolder = none ∧ t.od.active = s.od.active ∧ t = { s with od := t.od, lockHolder := t.lockHolder, commit := t.commit, safe := t.safe, mram := t.mram, pins := t.pins }) := by
  have hx : exec .commitDone s = .next (s.commitOver 5 0 true).settle := done_when (f := (·.commitOver 5 0 true)) (by simp [hphase])
  obtain ⟨hcommit, hstate, hresult, hactive, -⟩ := State.commitOver_leaves s 5 0 true
  have hdropped : (s.commitOver 5 0 true).od.staging = [] ∧ (s.commitOver 5 0 true).lockHolder = none := ⟨rfl, rfl⟩
  generalize s.commitOver 5 0 true = u at *
  refine State.leads_of_exec hx ⟨?_, ?_, ?_, ?_, ?_, ?_, State.eq_mix (execCommitDone_rest (fs := 2199090381188) (by decide) s hx)⟩
  · rw [State.settle_commit, hcommit]
  · rw [State.st_settle, hstate]
  · rw [State.st_settle, hresult]
  · rw [State.settle_od, hdropped.1]
  · rw [State.settle_lockHolder, hdropped.2]
  · rw [State.settle_od, hactive]

/-! ### The store write -/

theorem storeCopy_crc (v : Variant) (bank n layout wseq : Nat) (payload : NMap Nat) : (storeCopy v bank n layout wseq payload).crc = (storeCopy v bank n layout wseq payload).crcOf v := rfl

theorem storeCopy_intact {v : Variant} {payload : NMap Nat} (h : payloadSize v payload ≤ storeCapacity) (bank n layout wseq : Nat) : (storeCopy v bank n layout wseq payload).intact v bank n = true := by
  unfold StoreCopy.intact
  rw [← storeCopy_crc]
  have hlen : decide ((storeCopy v bank n layout wseq payload).plen ≤ storeCapacity) = true := decide_eq_true h
  simp only [hlen, beq_self_eq_true, Bool.and_true]
  simp [storeCopy]

/-- The three copies of a bank, as they were put there (R93). -/
theorem State.putCopies_find (s : State) (bank : Nat) (c : StoreCopy) {i : Nat} (hi : i < 3) :
    mfind (s.putCopies bank c).bankStore (3 * bank + i) = some (storeCopy s.variant bank (i + 1) c.layout c.wseq c.payload) := by
  have hput : (s.putCopies bank c).bankStore = mput (mput (mput s.bankStore (3 * bank + 0) (storeCopy s.variant bank (0 + 1) c.layout c.wseq c.payload)) (3 * bank + 1)
      (storeCopy s.variant bank (1 + 1) c.layout c.wseq c.payload)) (3 * bank + 2) (storeCopy s.variant bank (2 + 1) c.layout c.wseq c.payload) := rfl
  rw [hput]
  obtain rfl | rfl | rfl : i = 0 ∨ i = 1 ∨ i = 2 := by omega
  · rw [mfind_mput_other _ _ (by omega), mfind_mput_other _ _ (by omega), mfind_mput_same]
  · rw [mfind_mput_other _ _ (by omega), mfind_mput_same]
  · rw [mfind_mput_same]

/-- Three equal copies of a content that fits are resolved to the first of them (R94, Table 3-14). -/
theorem State.intactCopies_equal {s : State} {bank : Nat} {layout wseq : Nat} {payload : NMap Nat} (hfit : payloadSize s.variant payload ≤ storeCapacity)
    (h : ∀ i, i < 3 → mfind s.bankStore (3 * bank + i) = some (storeCopy s.variant bank (i + 1) layout wseq payload)) : (chooseCopy (s.intactCopies bank)).2 = 0 := by
  have hintact := fun n => storeCopy_intact hfit bank n layout wseq
  have hlist : s.intactCopies bank = [(0, storeCopy s.variant bank 1 layout wseq payload), (1, storeCopy s.variant bank 2 layout wseq payload), (2, storeCopy s.variant bank 3 layout wseq payload)] := by
    have hcopy : ∀ i, i < 3 → ((mfind s.bankStore (3 * bank + i)).bind (fun x => if x.intact s.variant bank (i + 1) then some (i, x) else none)) = some (i, storeCopy s.variant bank (i + 1) layout wseq payload) := by
      intro i hi
      rw [h i hi]
      exact if_pos (hintact _)
    unfold State.intactCopies
    exact List.filterMap_congr (fun c hc => hcopy c (by simp at hc; omega))
  have hagrees : ∀ m n, (storeCopy s.variant bank m layout wseq payload).agrees (storeCopy s.variant bank n layout wseq payload) = true := by simp [StoreCopy.agrees, storeCopy]
  rw [hlist]
  simp [chooseCopy, hagrees]

/-- A write that reads back leaves the three copies, resolved as equal (R94, R95). -/
theorem State.writeStore_eq {s : State} {img : NMap Nat} (hfit : payloadSize s.variant (s.payloadOf img) ≤ storeCapacity) :
    s.writeStore img = ((s.putCopies s.activeBank (s.nextCopy img)).mramWrite).set E.storeLastResolution 0 := by
  have hcopies := fun i hi => State.putCopies_find s s.activeBank (s.nextCopy img) (i := i) hi
  have hbank : ((s.putCopies s.activeBank (s.nextCopy img)).mramWrite).activeBank = s.activeBank := rfl
  have hresolved : (chooseCopy (((s.putCopies s.activeBank (s.nextCopy img)).mramWrite).intactCopies s.activeBank)).2 = 0 := State.intactCopies_equal (s := (s.putCopies s.activeBank (s.nextCopy img)).mramWrite) hfit hcopies
  unfold State.writeStore State.resolveStore
  dsimp only
  rw [hbank, hresolved]
  exact if_pos rfl

/-- The masked fault of a resolution changes no configuration (Table 9-4). -/
theorem State.maskedFault_active (s : State) (cls : Nat) : (s.maskedFault cls).od.active = s.od.active := by
  have hdriven : (s.when (s.policyActs cls 0) (·.driveSafe cls)).od.active = s.od.active := by
    cases s.policyActs cls 0 <;> rfl
  have hevidence : ∀ (u : State) (die type unit : Nat) (b : Bytes) (n : Nat), (u.evidence die type unit b n).od = u.od := fun u die type unit b n => State.keep_od (by simp)
  unfold State.maskedFault
  dsimp only
  split
  · exact hdriven
  · exact (congrArg OdStore.active (hevidence _ 0 0x10 0 _ 1)).trans hdriven

theorem State.resolveStore_active (s : State) : s.resolveStore.od.active = s.od.active := by
  have hrecord : ∀ (u : State) (outcome bank used w1 w2 w3 : Nat), (u.storeRecord outcome bank used w1 w2 w3).od = u.od := fun u outcome bank used w1 w2 w3 => State.keep_od (by simp)
  unfold State.resolveStore
  dsimp only
  split
  · rfl
  · exact (congrArg OdStore.active (hrecord _ _ _ _ _ _ _)).trans (State.maskedFault_active (s.set E.storeLastResolution _) 0x12)

theorem State.storeFailed_active (s : State) (img : NMap Nat) : (s.storeFailed img).od.active = s.od.active := by
  have hwritten : ∀ (u : State) (img : NMap Nat), (u.writeStore img).od.active = u.od.active := fun u img => State.resolveStore_active _
  have hpart : ∀ (n : Nat) (torn : Bool), (s.partStore img n torn).od.active = s.od.active := fun n torn => by cases torn <;> rfl
  unfold State.storeFailed
  rw [hwritten, State.resolveStore_active]
  exact hpart _ _

section stored
variable {s : State} (hh : s.sumac.healthChanged = false) (hdown : s.runtimeDown = false) (hfit : payloadSize s.variant (s.payloadOf s.commitImage) ≤ storeCapacity)
include hh hdown hfit

theorem State.stored_written : s.stored true = ({ (s.writeStore s.commitImage) with mram := { (s.writeStore s.commitImage).mram with commitWseq := (s.nextCopy s.commitImage).wseq } } : State).commitTo .applying 4 := by
  unfold State.stored
  rw [hh, hdown, if_neg (by decide), if_neg (Nat.not_lt.mpr hfit)]
  rfl

theorem State.stored_failed : s.stored false = (s.storeFailed s.commitImage).commitRefused 0x21 0 noRow := by
  unfold State.stored
  rw [hh, hdown, if_neg (by decide), if_neg (Nat.not_lt.mpr hfit)]
  rfl

theorem storeWriteComplete_leads (ok : Bool) (hrun : s.inRun = true) (hphase : s.commit.phase = .storing) : s.leads (.storeWriteComplete ok) (fun t =>
        (ok = true → t.commit.phase = .applying ∧ t.st E.commitState = 4 ∧ t.mram.commitWseq = (s.nextCopy s.commitImage).wseq ∧
          ∀ i, i < 3 → mfind t.bankStore (3 * s.activeBank + i) =
            some (storeCopy s.variant s.activeBank (i + 1) (s.nextCopy s.commitImage).layout (s.nextCopy s.commitImage).wseq (s.payloadOf s.commitImage))) ∧
        (ok = false → t.commit.phase = .idle ∧ t.st E.commitState = 6 ∧ t.st E.commitResult = 0x21) ∧ t.od.active = s.od.active ∧
        t = { s with od := t.od, lockHolder := t.lockHolder, commit := t.commit, bankStore := t.bankStore, ev := t.ev, safe := t.safe, dies := t.dies, mram := t.mram, sumac := t.sumac, pins := t.pins, fresh := t.fresh }) := by
  have hx : exec (.storeWriteComplete ok) s = .next (s.stored ok).settle := done_when (f := (·.stored ok)) (by simp [hrun, hphase])
  have hframe := State.eq_mix (execStoreWriteComplete_rest (fs := 6597405363076) (by decide) ok s hx)
  cases ok with
  | true =>
    have hwritten := (State.stored_written hh hdown hfit).trans (by rw [State.writeStore_eq hfit])
    have hcopies := fun i hi => State.putCopies_find s s.activeBank (s.nextCopy s.commitImage) (i := i) hi
    refine State.leads_of_exec hx ⟨fun _ => ⟨?_, ?_, ?_, fun i hi => ?_⟩, (fun h => by cases h), ?_, hframe⟩
    · rw [State.settle_commit, hwritten]
      rfl
    · rw [State.st_settle, hwritten]
      exact State.st_set _ _ _
    · rw [State.settle_mram, hwritten]
      rfl
    · rw [State.settle_bankStore, hwritten]
      exact hcopies i hi
    · rw [State.settle_od, hwritten]
      rfl
  | false =>
    obtain ⟨hidle, hstate, hresult, -, -, hactive, -⟩ := State.commitRefused_leaves (s.storeFailed s.commitImage) 0x21 0 noRow
    have hfailed := State.stored_failed hh hdown hfit
    refine State.leads_of_exec hx ⟨(fun h => by cases h), fun _ => ⟨?_, ?_, ?_⟩, ?_, hframe⟩
    · rw [State.settle_commit, hfailed, hidle]
    · rw [State.st_settle, hfailed, hstate]
    · rw [State.st_settle, hfailed, hresult]
    · rw [State.settle_od, hfailed, hactive, State.storeFailed_active]

end stored

end Sys2Proof.Machine
end

section
/-! What an apply leaves of the commit that it ends: the configuration in use, the generation and the mark in MRAM. The ports and the health map (R89, R131 to R134, R158, R276). -/

namespace Sys2Proof.Machine
open Sys2Proof
set_option Elab.async false

/-- The configuration in use, the generation of commits and the mark of a running commit stand. -/
structure State.ApplyStands (s t : State) : Prop where
  variant : t.variant = s.variant
  active : t.od.active = s.od.active
  generation : t.st E.commitGeneration = s.st E.commitGeneration
  begun : t.mram.commitPhase = s.mram.commitPhase

namespace State.ApplyStands

theorem refl (s : State) : s.ApplyStands s := ⟨rfl, rfl, rfl, rfl⟩

theorem trans {s t u : State} (h : s.ApplyStands t) (k : t.ApplyStands u) : s.ApplyStands u :=
  ⟨k.variant.trans h.variant, k.active.trans h.active, k.generation.trans h.generation, k.begun.trans h.begun⟩

theorem of_same {s t : State} (hv : t.variant = s.variant) (ho : t.od = s.od) (hm : t.mram = s.mram) : s.ApplyStands t :=
  ⟨hv, congrArg OdStore.active ho, State.st_of_od hv ho _, congrArg Mram.commitPhase hm⟩

/-- A step that leaves the variant, the dictionary and MRAM. -/
theorem of_keep {s t : State} (h : t.rest 17592118935546 = s.rest 17592118935546) : s.ApplyStands t :=
  of_same (State.keep_variant (State.rest_weaken (by decide) h)) (State.keep_od (State.rest_weaken (by decide) h)) (State.keep_mram (State.rest_weaken (by decide) h))

theorem of_forwards {s t : State} (h : s.Forwards t) (hm : t.mram = s.mram) : s.ApplyStands t :=
  ⟨h.variant, h.active, h.entry _ (by decide), congrArg Mram.commitPhase hm⟩

theorem ite {s t u : State} {p : Prop} [Decidable p] (ht : s.ApplyStands t) (hu : s.ApplyStands u) : s.ApplyStands (if p then t else u) := by
  split
  · exact ht
  · exact hu

theorem when {s u : State} {c : Bool} {f : State → State} (hu : s.ApplyStands u) (hf : u.ApplyStands (f u)) : s.ApplyStands (u.when c f) := ite (hu.trans hf) hu

theorem foldl {α : Type} (l : List α) {f : State → α → State} (hf : ∀ (s : State) (a : α), s.ApplyStands (f s a)) (s : State) : s.ApplyStands (l.foldl f s) := by
  induction l generalizing s with
  | nil => exact refl s
  | cons a l ih => exact (hf s a).trans (ih (f s a))

theorem forAll (l : List Nat) {f : State → Nat → State} (hf : ∀ (s : State) (n : Nat), s.ApplyStands (f s n)) (s : State) : s.ApplyStands (s.forAll l f) := foldl l hf s

/-! ### Single entries -/

theorem setRow (s : State) {e : Nat} (row v : Nat) (h : E.commitGeneration < e) : s.ApplyStands (s.setRow e row v) := ⟨rfl, rfl, State.st_setRow_of_ne s v (okey_noRow_ne_of_lt row h), rfl⟩

theorem countRow (s : State) {e : Nat} (row k : Nat) (h : E.commitGeneration < e) : s.ApplyStands (s.countRow e row k) := setRow s row _ h

theorem set (s : State) {e : Nat} (v : Nat) (h : E.commitGeneration ≠ e) : s.ApplyStands (s.set e v) := ⟨rfl, rfl, State.st_set_of_ne s v h, rfl⟩

theorem count (s : State) {e : Nat} (k : Nat) (h : E.commitGeneration < e) : s.ApplyStands (s.count e k) := setRow s noRow _ h

theorem setSlot (s : State) {e : Nat} (k v : Nat) (h : E.commitGeneration < e) : s.ApplyStands (s.setSlot e k v) := setRow s noRow v (Nat.lt_of_lt_of_le h (Nat.le_add_right _ _))

theorem countSlot (s : State) {e : Nat} (k n : Nat) (h : E.commitGeneration < e) : s.ApplyStands (s.countSlot e k n) := setSlot s k _ h

theorem setDie (s : State) {e : Nat} (n v : Nat) (h : E.commitGeneration < e) : s.ApplyStands (s.setDie e n v) := setRow s noRow v (Nat.lt_of_lt_of_le h (Nat.le_add_right _ _))

theorem countDie (s : State) {e : Nat} (n k : Nat) (h : E.commitGeneration < e) : s.ApplyStands (s.countDie e n k) := setRow s noRow _ (Nat.lt_of_lt_of_le h (Nat.le_add_right _ _))

theorem updPort (s : State) (k : Nat) (f : Port → Port) : s.ApplyStands (s.updPort k f) := of_same rfl rfl rfl

theorem updDie (s : State) (n : Nat) (f : Die → Die) : s.ApplyStands (s.updDie n f) := of_same rfl rfl rfl

theorem setPortState (s : State) (slot v : Nat) : s.ApplyStands (s.setPortState slot v) := setSlot s slot v (by decide)

/-! ### A port's pauses, its lane and its queues -/

theorem releasePaused (s : State) (slot : Nat) : s.ApplyStands (s.releasePaused slot) := when (refl s) (of_forwards (State.Forwards.sendPause s slot _ _) (State.keep_mram (by simp)))

theorem clearPause (s : State) (slot : Nat) : s.ApplyStands (s.clearPause slot) := (updPort s slot _).trans (setSlot _ slot 0 (by decide))

theorem ptpAnew (s : State) (slot : Nat) : s.ApplyStands (s.ptpAnew slot) := (updPort s slot _).trans (setSlot _ slot 0 (by decide))

theorem laneIdle (s : State) (slot : Nat) : s.ApplyStands (s.laneIdle slot) := ite (refl s) ((updPort s slot _).trans (setSlot _ slot 0 (by decide)))

theorem setAsserted (s : State) (slot classes : Nat) : s.ApplyStands (s.setAsserted slot classes) := of_forwards (State.Forwards.setAsserted s slot classes) (State.keep_mram (by simp))

theorem assertAnew (s : State) (slot : Nat) : s.ApplyStands (s.assertAnew slot) := ((updPort s slot _).trans (setSlot _ slot 0 (by decide))).trans (setAsserted _ slot _)

theorem releaseAll (s : State) (slot : Nat) : s.ApplyStands (s.releaseAll slot) := (((releasePaused s slot).trans (clearPause _ slot)).trans (updPort _ slot _)).trans (setSlot _ slot 0 (by decide))

theorem freed (s : State) (n : Nat) : s.ApplyStands (s.freed n) := of_forwards (State.Forwards.freed s n) (State.keep_mram (by simp))

theorem loseCopy (s : State) (cp : Copy) : s.ApplyStands (s.loseCopy cp) := of_forwards (State.Forwards.loseCopy s cp) (State.keep_mram (by simp))

theorem flushPort (s : State) (slot : Nat) {count : State → Nat → Nat → State} (hcount : ∀ (t : State) row n, t.ApplyStands (count t row n)) : s.ApplyStands (s.flushPort slot count) := by
  have hset : ∀ (t : State) row l, t.ApplyStands (t.setQueue row l) := fun t row l => of_same rfl rfl rfl
  unfold State.flushPort
  refine trans (foldl _ (fun s row => ite (refl s) ?_) s) (freed _ _)
  exact ((hset s row _).trans (hcount _ _ _)).trans (foldl _ (fun s cp => loseCopy s cp) _)

theorem endHold (s : State) (slot : Nat) : s.ApplyStands (s.endHold slot) := (updPort s slot _).trans (flushPort _ slot (fun t row n => countRow t row n (by decide)))

theorem park (s : State) (slot : Nat) : s.ApplyStands (s.park slot) := by
  unfold State.park
  extract_lets s1
  have hunsent : s.ApplyStands (s.unsend slot false) := of_keep (by simp)
  have h1 : s.ApplyStands s1 := hunsent.trans (of_keep (t := (s.unsend slot false).unprepare slot) (by simp))
  exact ite h1 (ite ((h1.trans (updPort _ slot _)).trans (endHold _ slot)) (h1.trans (updPort _ slot _)))

theorem countPort (s : State) (slot n : Nat) {can lin eth : Nat} (hcan : E.commitGeneration < can) (hlin : E.commitGeneration < lin) (heth : E.commitGeneration < eth) : s.ApplyStands (s.countPort slot can lin eth n) := by
  unfold State.countPort
  refine countSlot s slot n ?_
  split
  · exact hcan
  · split
    · exact hlin
    · exact heth

/-! ### A port's states -/

theorem propagate (s : State) (slot : Nat) : s.ApplyStands (s.propagate slot) := by
  have hwoken := updPort s slot (fun p => { p with wakePending := false })
  have hset : ∀ (t : State) row l, t.ApplyStands (t.setQueue row l) := fun t row l => of_same rfl rfl rfl
  have hpulse : ∀ t : State, t.ApplyStands ((t.updPort slot (fun p => { p with pulse := true })).emit (.linPulse slot)) := fun t => of_same rfl rfl rfl
  unfold State.propagate
  exact ite (refl s) (ite hwoken (ite (hwoken.trans (hset _ _ _)) (hwoken.trans ((hpulse _).trans (countSlot _ slot 1 (by decide))))))

theorem portUp (s : State) (slot : Nat) : s.ApplyStands (s.portUp slot) := by
  have hunpark : ∀ t : State, t.ApplyStands (t.unpark slot) := fun t => updPort t slot _
  unfold State.portUp
  extract_lets s1
  have h1 : s.ApplyStands s1 := when (((setPortState s slot 2).trans (hunpark _)).trans (propagate _ slot)) (assertAnew _ slot)
  exact when h1 (of_keep (by simp))

theorem signalFault (s : State) (slot n : Nat) : s.ApplyStands (s.signalFault slot n) := of_keep (by simp)

theorem enablingEth (s : State) (slot : Nat) : s.ApplyStands (s.enablingEth slot) := by
  have hadvertise : s.ApplyStands (s.advertise slot) := of_keep (by simp)
  unfold State.enablingEth
  exact ((hadvertise.trans (updPort _ slot _)).trans (setSlot _ slot _ (by decide))).trans (signalFault _ slot _)

theorem enabling (s : State) (slot : Nat) : s.ApplyStands (s.enabling slot) := by
  unfold State.enabling
  extract_lets s1 s2
  have h1 : s.ApplyStands s1 := (updPort s slot _).trans (setPortState _ slot 1)
  have h2 : s.ApplyStands s2 := ite (h1.trans (((setSlot _ slot 0 (by decide)).trans (setSlot _ slot 0 (by decide))).trans (setSlot _ slot 0 (by decide)))) h1
  exact ite (h2.trans (portUp _ slot)) (when h2 (enablingEth _ slot))

theorem countDrainFlushed (s : State) (slot n : Nat) : s.ApplyStands (s.countDrainFlushed slot n) := countPort s slot n (by decide) (by decide) (by decide)

theorem disable (s : State) (slot : Nat) : s.ApplyStands (s.disable slot) := by
  unfold State.disable
  extract_lets s1 s2 s3
  have h1 : s.ApplyStands s1 := (flushPort s slot (fun t _ n => countDrainFlushed t slot n)).trans (setPortState _ slot 0)
  have h2 : s.ApplyStands s2 := h1.trans (updPort _ slot _)
  have h3 : s.ApplyStands s3 := when h2 (((((clearPause s2 slot).trans (setSlot (e := E.portEthPausingClasses) _ slot 0 (by decide))).trans (ptpAnew _ slot)).trans (laneIdle _ slot)).trans (signalFault _ slot 0))
  exact ite (h3.trans ((setSlot _ slot 0 (by decide)).trans (enabling _ slot))) h3

theorem drainCheck (s : State) (slot : Nat) : s.ApplyStands (s.drainCheck slot) := by
  have hsleep : s.ApplyStands (s.goToSleep slot) := of_keep (by simp)
  exact when (refl s) (hsleep.trans (disable _ slot))

theorem drain (s : State) (slot : Nat) : s.ApplyStands (s.drain slot) := by
  unfold State.drain
  extract_lets st s1 s2
  have h1 : s.ApplyStands s1 := when (refl s) ((releaseAll s slot).trans (ptpAnew _ slot))
  have h2 : s.ApplyStands s2 := (h1.trans (setPortState _ slot 3)).trans (updPort _ slot _)
  have hover : s.ApplyStands ((s1.setPortState slot 3).disable slot) := (h1.trans (setPortState _ slot 3)).trans (disable _ slot)
  exact ite hover (ite (h2.trans (drainCheck _ slot)) (ite hover (ite (h1.trans (disable _ slot)) h1)))

theorem toFault (s : State) (slot : Nat) : s.ApplyStands (s.toFault slot) := by
  unfold State.toFault
  extract_lets s1 s2
  have h1 : s.ApplyStands s1 := updPort s slot _
  have h2 : s.ApplyStands s2 := when h1 ((((clearPause s1 slot).trans (setSlot (e := E.portEthPausingClasses) _ slot 0 (by decide))).trans (ptpAnew _ slot)).trans (laneIdle _ slot))
  exact ((h2.trans (park _ slot)).trans (setPortState _ slot 5)).trans (signalFault _ slot 0)

theorem reconfigured (s : State) (slot : Nat) : s.ApplyStands (s.reconfigured slot) := by
  unfold State.reconfigured
  extract_lets s1
  have h1 : s.ApplyStands s1 := (updPort s slot _).trans (park _ slot)
  exact (when h1 ((clearPause s1 slot).trans (ptpAnew _ slot))).trans (enabling _ slot)

theorem retrain (s : State) (slot : Nat) : s.ApplyStands (s.retrain slot) := (updPort s slot _).trans (enablingEth _ slot)

/-! ### The health map -/

theorem driveSafe (s : State) (k : Nat) : s.ApplyStands (s.driveSafe k) := of_same rfl rfl rfl

theorem healthChange (s : State) : s.ApplyStands s.healthChange := by
  unfold State.healthChange
  extract_lets s1
  have h1 : s.ApplyStands s1 := count s 1 (by decide)
  have hsumac : ∀ x, s1.ApplyStands { s1 with sumac := x } := fun x => of_same rfl rfl rfl
  exact ite h1 (ite (h1.trans (hsumac _)) (ite (h1.trans (hsumac _)) ((h1.trans (hsumac _)).trans (set _ 1 (by decide)))))

theorem setHealth (s : State) (n st : Nat) : s.ApplyStands (s.setHealth n st) := by
  unfold State.setHealth
  extract_lets d s1 s2
  have hdie : s.ApplyStands (s.setDieState n { d with state := st }) := of_same rfl rfl rfl
  have h1 : s.ApplyStands s1 := hdie.trans (setRow _ n _ (by decide))
  have h2 : s.ApplyStands s2 := (h1.trans (setRow _ n _ (by decide))).trans (healthChange _)
  exact ite (setRow s n _ (by decide)) (ite (h2.trans (driveSafe _ _)) h2)

theorem dropCause (s : State) (n cls : Nat) : s.ApplyStands (s.dropCause n cls) := ite ((updDie s n _).trans (setHealth _ n _)) (updDie s n _)

theorem addCause (s : State) (n cls : Nat) : s.ApplyStands (s.addCause n cls) := ite ((updDie s n _).trans (setHealth _ n _)) (updDie s n _)

theorem evidence (s : State) (die type unit : Nat) (b : Bytes) (n : Nat) : s.ApplyStands (s.evidence die type unit b n) := of_keep (by simp)

theorem maskedFault (s : State) (cls : Nat) : s.ApplyStands (s.maskedFault cls) := by
  unfold State.maskedFault
  extract_lets s1
  have h1 : s.ApplyStands s1 := (when (refl s) (driveSafe s cls)).trans (count _ 1 (Nat.lt_of_lt_of_le (by decide) (Nat.le_add_right _ _)))
  have hsafe : ∀ x, s1.ApplyStands { s1 with safe := x } := fun x => of_same rfl rfl rfl
  exact ite (h1.trans (hsafe _)) ((h1.trans (hsafe _)).trans (evidence _ 0 0x10 0 _ 1))

theorem logFault (s : State) (cls die unit : Nat) : s.ApplyStands (s.logFault cls die unit) := by
  unfold State.logFault
  extract_lets low s1 q row safe s2 s3
  have h1 : s.ApplyStands s1 := ite (driveSafe s cls) (refl s)
  have hsafe : ∀ x, s1.ApplyStands { s1 with safe := x } := fun x => of_same rfl rfl rfl
  have h2 : s.ApplyStands s2 := ((h1.trans (hsafe _)).trans (count _ 1 (Nat.lt_of_lt_of_le (by decide) (Nat.le_add_right _ _)))).trans (countRow _ die 1 (by decide))
  have h3 : s.ApplyStands s3 := (((((((h2.trans (setRow _ row _ (by decide))).trans (setRow _ row _ (by decide))).trans (setRow _ row _ (by decide))).trans (setRow _ row _ (by decide))).trans
    (setRow _ row _ (by decide))).trans (setRow _ row _ (by decide))).trans (setRow _ row _ (by decide))).trans (setRow _ row _ (by decide))
  exact (h3.trans (of_keep (t := s3.doorbell 69) (by simp))).trans (evidence _ 0 0x10 cls _ 1)

theorem fault (s : State) (cls die unit : Nat) : s.ApplyStands (s.fault cls die unit) := ite (updDie s die _) (ite (maskedFault s cls) (logFault s cls die unit))

theorem leaveFault (s : State) (slot : Nat) : s.ApplyStands (s.leaveFault slot) := by
  unfold State.leaveFault
  extract_lets s1
  have h1 : s.ApplyStands s1 := setSlot s slot 0 (by decide)
  exact ite (h1.trans (enabling _ slot)) (h1.trans (disable _ slot))

theorem parityCleared (s : State) (slot : Nat) : s.ApplyStands (s.parityCleared slot) := by
  have hrewritten : s.ApplyStands (s.rewritePort slot) := by
    unfold State.rewritePort
    exact when (updPort s slot _) (leaveFault _ slot)
  unfold State.parityCleared
  exact ite (refl s) (when hrewritten (dropCause _ _ 5))

/-! ### A commit at one port -/

theorem keepOld (old s : State) (slot : Nat) (ks : List Change) : s.ApplyStands (old.keepOld s slot ks) := updPort s slot _

theorem reconfigure (old s : State) (slot : Nat) (ks : List Change) : s.ApplyStands (old.reconfigure s slot ks) := ite ((keepOld old s slot ks).trans (updPort _ slot _)) (reconfigured s slot)

theorem portApply (old s : State) (chg : List Change) (slot : Nat) : s.ApplyStands (old.portApply s chg slot) := by
  unfold State.portApply
  extract_lets ks other was on st s1 lane
  have h1 : s.ApplyStands s1 := ite (refl s) (setSlot s slot _ (by decide))
  have hignored : s1.ApplyStands ((old.keepOld s1 slot other).countPort slot E.portCanCntCfgIgnored E.portLinCntCfgIgnored E.portEthCntCfgIgnored) :=
    (keepOld old s1 slot other).trans (countPort _ slot 1 (by decide) (by decide) (by decide))
  have hstarts : s.ApplyStands ((if (s.port slot).clockStopped then (·.toFault slot) else (·.enabling slot) : State → State) s) := by
    split
    · exact toFault s slot
    · exact enabling s slot
  exact ite (refl s) (ite (ite h1 (h1.trans hignored)) (ite (drain s slot) (ite (parityCleared s slot) (ite (when (refl s) hstarts) (ite (when (refl s) (reconfigure old s slot other)) (when (refl s) (retrain s slot)))))))

theorem pauseBefore (s : State) (chg : List Change) (slot : Nat) : s.ApplyStands (s.pauseBefore chg slot) := when (refl s) (releasePaused s slot)

theorem pauseAfter (s : State) (chg : List Change) (slot : Nat) : s.ApplyStands (s.pauseAfter chg slot) := by
  unfold State.pauseAfter
  exact when (when (when (refl s) (clearPause s slot)) (assertAnew _ slot)) (ptpAnew _ slot)

end State.ApplyStands

end Sys2Proof.Machine
end

section
/-! What an apply leaves of the commit that it ends: tunnels, rules, inputs, seals, the application pairs and the placement; the apply instant (R89, R91, R273 to R276). -/

namespace Sys2Proof.Machine
open Sys2Proof
set_option Elab.async false

namespace State.ApplyStands

/-! ### Tunnels, rules and inputs -/

theorem setTunnel (s : State) (row : Nat) (x : Tunnel) : s.ApplyStands (s.setTunnel row x) := of_same rfl rfl rfl

theorem replicatePlain (s : State) (n : Nat) (cp : Copy) (l : List Nat) : s.ApplyStands (s.replicatePlain n cp l) := of_forwards (State.Forwards.replicatePlain s n cp l) (State.keep_mram (by simp))

theorem deliver (s : State) (n code : Nat) (cp : Copy) : s.ApplyStands (s.deliver n code cp) := of_forwards (State.Forwards.deliver s n code cp) (State.keep_mram (by simp))

theorem closePdu (s : State) (n row : Nat) : s.ApplyStands (s.closePdu n row) := by
  unfold State.closePdu
  extract_lets t d cls cp s1
  have h1 : s.ApplyStands s1 := of_same rfl rfl rfl
  exact ite (refl s) (((h1.trans (countRow _ row 1 (by decide))).trans (countRow _ row _ (by decide))).trans (replicatePlain _ n _ _))

theorem tunnelBefore (s : State) (row : Nat) : s.ApplyStands (s.tunnelBefore row) := by
  unfold State.tunnelBefore
  split
  · exact when (refl s) (closePdu s _ row)
  · exact refl s

theorem tunnelAfter (old s : State) (row : Nat) : s.ApplyStands (old.tunnelAfter s row) := setTunnel s row _

theorem tapRestart (s : State) (row : Nat) : s.ApplyStands (s.tapRestart row) := of_keep (by simp)

theorem mramWrite (s : State) : s.ApplyStands s.mramWrite := ⟨rfl, rfl, rfl, rfl⟩

theorem ruleTo (s : State) (row state : Nat) (timer : Bool) : s.ApplyStands (s.ruleTo row state timer) := by
  unfold State.ruleTo
  extract_lets r s1 s2
  have h1 : s.ApplyStands s1 := of_same rfl rfl rfl
  have h2 : s.ApplyStands s2 := when (h1.trans (setRow _ row _ (by decide))) (countRow _ row 1 (by decide))
  have hstored : s2.ApplyStands ({ s2 with mram := { s2.mram with rules := mput s2.mram.rules row (state, (s2.rule row).slot) } } : State).mramWrite := ⟨rfl, rfl, rfl, rfl⟩
  exact ite h1 (when h2 hstored)

theorem ruleRestart (old s : State) (row : Nat) : s.ApplyStands (old.ruleRestart s row) := by
  unfold State.ruleRestart
  extract_lets s1 s2
  have h1 : s.ApplyStands s1 := of_keep (t := s.liftBlock row) (by simp)
  have h2 : s.ApplyStands s2 := when h1 (evidence _ 0 0x16 row _ 1)
  have hrule : ∀ x, s2.ApplyStands (s2.setRule row x) := fun x => of_same rfl rfl rfl
  exact ((h2.trans (hrule _)).trans (setRow _ row _ (by decide))).trans (ruleTo _ row _ false)

theorem miRestart (s : State) (modeToo : Bool) (i : Nat) : s.ApplyStands (s.miRestart modeToo i) := by
  have hfresh : s.ApplyStands (s.setMi i {}) := of_same rfl rfl rfl
  unfold State.miRestart
  exact when hfresh ((setSlot _ i 0 (by decide)).trans (setSlot _ i 0 (by decide)))

theorem inputsApply (s : State) (chg : List Change) : s.ApplyStands (s.inputsApply chg) := by
  have hspd : ∀ (t : State) k, t.ApplyStands (t.spdRestart k) := fun t k => of_same rfl rfl rfl
  exact (forAll _ (fun t i => miRestart t _ i) s).trans (forAll _ hspd _)

theorem captureApply (s : State) (chg : List Change) : s.ApplyStands (s.captureApply chg) := of_keep (by simp)

theorem keysApply (s : State) : s.ApplyStands s.keysApply := of_same rfl rfl rfl

/-! ### Seals, time and the application pairs -/

theorem sealTry (s : State) : s.ApplyStands s.sealTry := by
  have hbell : ∀ t : State, t.ApplyStands (t.doorbell 65) := fun t => of_keep (by simp)
  have hupd : ∀ (t : State) f, t.ApplyStands (t.updEv f) := fun t f => of_same rfl rfl rfl
  have hreserve : ∀ t : State, t.ApplyStands t.reserveSeal := by
    intro t
    unfold State.reserveSeal
    extract_lets n t1
    have h1 : t.ApplyStands t1 := ite ((hupd t _).trans (mramWrite _)) (refl t)
    exact ite ((h1.trans (hupd _ _)).trans (hbell _)) h1
  exact ite (refl s) (ite (refl s) ((hupd s _).trans (hreserve _)))

theorem trigger (s : State) (code : Nat) : s.ApplyStands (s.trigger code) := by
  unfold State.trigger
  extract_lets s1
  have h1 : s.ApplyStands s1 := ite (count s 1 (by decide)) (refl s)
  have hdue : ∀ f, s1.ApplyStands (s1.updEv f) := fun f => of_same rfl rfl rfl
  exact ite (refl s) ((h1.trans (hdue _)).trans (sealTry _))

theorem sealPeriodApply (s : State) : s.ApplyStands s.sealPeriodApply := by
  have hupd : ∀ f, s.ApplyStands (s.updEv f) := fun f => of_same rfl rfl rfl
  exact when (refl s) ((hupd _).trans (trigger _ 0))

theorem gptpOff (s : State) : s.ApplyStands s.gptpOff := by
  have hclock : ∀ (t : State) x, t.ApplyStands { t with clock := x } := fun t x => of_same rfl rfl rfl
  have hrecord : ∀ (t : State) a b c, t.ApplyStands (t.timeRecord a b c) := fun t a b c => evidence t 0 0x06 0 _ 1
  unfold State.gptpOff
  extract_lets s1 clock s2 s3
  have h1 : s.ApplyStands s1 := forAll _ (fun t p => ptpAnew t p) s
  have h3 : s.ApplyStands s3 := when (h1.trans (hclock s1 _)) (hrecord s2 3 s.rtc s.rtc)
  exact h3.trans (hclock s3 _)

theorem releaseStaging (s : State) (row : Nat) : s.ApplyStands (s.releaseStaging row) := ite (refl s) (ite (of_same rfl rfl rfl) ⟨rfl, rfl, rfl, rfl⟩)

theorem appHalt (s : State) (n cause : Nat) : s.ApplyStands (s.appHalt n cause) := by
  have hfalls : ∀ (t : State) k, t.ApplyStands (t.txFalls n k) := fun t k => of_keep (by simp)
  have hupd : ∀ (t : State) f, t.ApplyStands (t.updApp n f) := fun t f => of_same rfl rfl rfl
  have hcore : ∀ t : State, t.ApplyStands ((t.updCore n 1 (fun b => { b with read := none, fencing := false })).orphanPair (n * 16 + 1)) := fun t => of_keep (by simp)
  unfold State.appHalt
  extract_lets s1
  have h1 : s.ApplyStands s1 := ((releaseStaging s _).trans (forAll _ hfalls _)).trans (hupd _ _)
  exact (h1.trans (hcore s1)).trans (setDie _ n cause (by decide))

theorem setAppState (s : State) (n v : Nat) : s.ApplyStands (s.setAppState n v) := setDie s n v (by decide)

theorem updApp (s : State) (n : Nat) (f : App → App) : s.ApplyStands (s.updApp n f) := of_same rfl rfl rfl

theorem fallBack (s : State) (part status : Nat) : s.ApplyStands (s.fallBack part status) := by
  have hended : s.ApplyStands (s.trialEnded part status) := by
    unfold State.trialEnded
    extract_lets s0 update s1
    have h0 : s.ApplyStands s0 := when (refl s) (set s _ (by decide))
    have h1 : s.ApplyStands s1 := h0.trans (of_same rfl rfl rfl)
    have hto : s1.ApplyStands (s1.updateTo 0 0xFF) := of_keep (by simp)
    exact ((h1.trans hto).trans (set _ status (by decide))).trans (evidence _ 0 0x18 part _ 1)
  have hreload : ∀ t : State, t.ApplyStands t.appReloadAll := fun t =>
    forAll _ (fun u n => when (refl u) (((appHalt u n 4).trans (updApp _ n _)).trans (setAppState _ n 2))) t
  exact when hended (hreload _)

theorem appReset (s : State) (n cause : Nat) : s.ApplyStands (s.appReset n cause) := by
  unfold State.appReset
  extract_lets s1
  have h1 : s.ApplyStands s1 := ((appHalt s n cause).trans (updApp _ n _)).trans (setAppState _ n 2)
  exact when h1 (fallBack s1 2 0x4F)

theorem appEnableChanged (s : State) : s.ApplyStands s.appEnableChanged :=
  forAll _ (fun t n => ite (when (refl t) (appReset t n 4)) (when (refl t) (((appHalt t n 4).trans (updApp _ n _)).trans (setAppState _ n 4)))) s

theorem endAccessPoint (s : State) (ap : Nat) : s.ApplyStands (s.endAccessPoint ap) := by
  have hend : ∀ (t : State) row, t.ApplyStands (t.endSession row) := by
    intro t row
    unfold State.endSession
    extract_lets t1
    have h1 : t.ApplyStands t1 := releaseStaging t row
    exact ite h1 (h1.trans (of_same rfl rfl rfl))
  exact foldl _ hend s

theorem systemApply (s : State) (chg : List Change) : s.ApplyStands (s.systemApply chg) := by
  have hgap : ∀ (t : State) f, t.ApplyStands (t.updEv f) := fun t f => of_same rfl rfl rfl
  have hflow : ∀ t : State, t.ApplyStands t.fifoFlow := fun t => of_keep (by simp)
  have hvsel : ∀ t : State, t.ApplyStands t.claimVsel := fun t => of_keep (by simp)
  unfold State.systemApply
  extract_lets s0 s1 s2 s3 s4 s5
  have h0 : s.ApplyStands s0 := when (refl s) (gptpOff s)
  have h1 : s.ApplyStands s1 := when h0 (sealPeriodApply s0)
  have h2 : s.ApplyStands s2 := when (when h1 (hgap s1 _)) (hflow _)
  have h3 : s.ApplyStands s3 := when h2 (appEnableChanged s2)
  have h4 : s.ApplyStands s4 := when h3 (hvsel s3)
  have h5 : s.ApplyStands s5 := when h4 ((endAccessPoint s4 1).trans (of_same rfl rfl rfl))
  exact when h5 (endAccessPoint s5 2)

/-! ### The placement -/

theorem switchTo (s : State) (pl : Placement) (a b : Nat) : s.ApplyStands (s.switchTo pl a b) := by
  unfold State.switchTo
  extract_lets row new act s1
  have h1 : s.ApplyStands s1 := ((setRow s row act (by decide)).trans (countRow _ row 1 (by decide))).trans (countRow _ row 1 (by decide))
  exact ite (refl s) (ite (setRow s row act (by decide)) (ite h1 (h1.trans (of_same rfl rfl rfl))))

theorem switchAll (s : State) (pl : Placement) : s.ApplyStands (s.switchAll pl) := forAll _ (fun t a => forAll _ (fun u b => switchTo u pl a b) t) s

theorem leaveEngine (s : State) (pl : Placement) (x : Nat × Nat × Nat) : s.ApplyStands (s.leaveEngine pl x) :=
  ite (refl s) (ite ((closePdu s x.2.1 x.1).trans (setTunnel _ x.1 _)) (setTunnel s x.1 _))

theorem setFdb (s : State) (n : Nat) (t : Fdb) (moves : Nat) : s.ApplyStands (s.setFdb n t moves) := (updDie s n _).trans (countDie _ n moves (by decide))

theorem applyStatics (s : State) (n : Nat) (rows : List Nat) : s.ApplyStands (s.applyStatics n rows) := (setFdb s n _ _).trans (countDie _ n _ (by decide))

theorem followTunnels (s : State) (n : Nat) : s.ApplyStands (s.followTunnels n) := by
  have hset : ∀ (t : State) row l, t.ApplyStands (t.setQueue row l) := fun t row l => of_same rfl rfl rfl
  exact foldl _ (fun t c => ite (refl t) (((hset t _ _).trans (foldl _ (fun u cp => deliver u n _ cp) _)).trans (freed _ n))) s

theorem bankStopped (s : State) (n : Nat) : s.ApplyStands (s.bankStopped n) := by
  unfold State.bankStopped
  extract_lets s1
  have h1 : s.ApplyStands s1 := forAll _ (fun t p => (toFault t p).trans (updPort _ p _)) s
  exact (h1.trans (addCause _ n 0x0D)).trans (fault _ 0x0D n 0xFFFF)

theorem appStart (s : State) (n : Nat) : s.ApplyStands (s.appStart n) := by
  unfold State.appStart
  extract_lets s1
  have h1 : s.ApplyStands s1 := ((updApp s n _).trans (setAppState _ n 1)).trans (dropCause _ n 7)
  exact when h1 (of_same rfl rfl rfl)

theorem appRuns (s : State) (n row : Nat) : s.ApplyStands (s.appRuns n row) := by
  have hloaded : s.ApplyStands (s.addLoaded row) := of_same rfl rfl rfl
  exact (hloaded.trans (set _ _ (by decide))).trans (appStart _ n)

theorem appLoaded (s : State) (n : Nat) : s.ApplyStands (s.appLoaded n) := by
  have hupdate : ∀ x, s.ApplyStands { s with update := x } := fun x => of_same rfl rfl rfl
  have hrecord : ∀ (t : State) e st p old new, t.ApplyStands (t.updateRecord e st p old new) := fun t e st p old new => evidence t 0 0x18 p _ 1
  exact ite (appRuns s n _) (ite (fallBack s 2 0x4D) (ite (((hupdate _).trans (hrecord _ 8 0x4D 2 _ _)).trans (appRuns _ n _))
    ((((hupdate _).trans (updApp _ n _)).trans (setAppState _ n 0)).trans (set _ 0 (by decide)))))

theorem dieJoins (s : State) (n : Nat) : s.ApplyStands (s.dieJoins n) := by
  unfold State.dieJoins
  extract_lets s1 runs s2 s3 s4
  have h1 : s.ApplyStands s1 := updDie s n _
  have h2 : s.ApplyStands s2 := when (h1.trans (forAll _ enabling _)) (bankStopped _ n)
  have h4 : s.ApplyStands s4 := (h2.trans (updApp _ n _)).trans (setDie _ n 1 (by decide))
  exact ite (h4.trans (appLoaded _ n)) (h4.trans (setAppState _ n 4))

theorem applyPlacement (s : State) (pl : Placement) : s.ApplyStands (s.applyPlacement pl) := by
  unfold State.applyPlacement
  extract_lets s1 s2 moved ringMoves sumac s3 live s4 s4' s5
  have h1 : s.ApplyStands s1 := foldl _ (fun t x => leaveEngine t pl x) s
  have h2 : s.ApplyStands s2 := h1.trans (switchAll s1 pl)
  have h3 : s.ApplyStands s3 := h2.trans (of_same rfl rfl rfl)
  have h4 : s.ApplyStands s4 := h3.trans (forAll _ (fun t n => (when (when (updDie t n _) (dropCause _ n 3)) (applyStatics _ n _)).trans (followTunnels _ n)) s3)
  have h4' : s.ApplyStands s4' := h4.trans (forAll _ dieJoins s4)
  have h5 : s.ApplyStands s5 := when h4' (updApp s4' _ _)
  exact h5.trans ⟨rfl, rfl, rfl, rfl⟩

theorem placementApplied (s : State) (pl : Placement) (cause : Nat) : s.ApplyStands (s.placementApplied pl cause) := by
  unfold State.placementApplied
  extract_lets s1
  have h1 : s.ApplyStands s1 := applyPlacement s pl
  exact (((((h1.trans (set _ _ (by decide))).trans (count _ 1 (by decide))).trans (set _ _ (by decide))).trans (set _ _ (by decide))).trans (set _ _ (by decide))).trans (set _ cause (by decide))

/-! ### The switch -/

theorem effects (old s : State) (chg : List Change) : s.ApplyStands (old.effects s chg) := by
  unfold State.effects
  extract_lets s1 s2 s3 s4 s5
  have h1 : s.ApplyStands s1 := forAll _ (fun t p => (portApply old t chg p).trans (pauseAfter _ chg p)) s
  have hpolicer : ∀ (t : State) (r : Nat), t.ApplyStands { t with policers := mdel t.policers r } := fun t r => of_same rfl rfl rfl
  have h2 : s.ApplyStands s2 := h1.trans (forAll _ hpolicer s1)
  have h3 : s.ApplyStands s3 := h2.trans (forAll _ (fun t r => tunnelAfter old t r) s2)
  have h4 : s.ApplyStands s4 := h3.trans (forAll _ tapRestart s3)
  have h5 : s.ApplyStands s5 := h4.trans (forAll _ (fun t r => ruleRestart old t r) s4)
  exact (((h5.trans (inputsApply s5 chg)).trans (captureApply _ chg)).trans (keysApply _)).trans (systemApply _ chg)

theorem oemApply (s : State) (staged : NMap Nat) : s.ApplyStands (s.oemApply staged) := by
  unfold State.oemApply
  split
  · exact when (refl s) ⟨rfl, rfl, rfl, rfl⟩
  · exact refl s

end State.ApplyStands

/-- A switch puts the new image in force, and leaves the generation and the mark of the commit (R89, R91). -/
theorem State.switchImage_leaves (s : State) (staged : NMap Nat) (pl : Placement) (cause : Nat) : (s.switchImage staged pl cause).variant = s.variant ∧
    (s.switchImage staged pl cause).od.active = mdel (layOver s.variant s.od.active staged) (okey E.updateOemKey noRow) ∧
    (s.switchImage staged pl cause).st E.commitGeneration = s.st E.commitGeneration ∧ (s.switchImage staged pl cause).mram.commitPhase = s.mram.commitPhase := by
  unfold State.switchImage
  extract_lets chg s1 old new
  have hold : s.ApplyStands old := (State.ApplyStands.forAll _ (fun t p => State.ApplyStands.pauseBefore t chg p) s).trans (State.ApplyStands.forAll _ State.ApplyStands.tunnelBefore s1)
  have hnew := ((State.ApplyStands.placementApplied (old.withImage new) pl cause).trans (State.ApplyStands.effects old _ chg)).trans (State.ApplyStands.oemApply _ staged)
  have himage : (old.withImage new).st E.commitGeneration = old.st E.commitGeneration := rfl
  exact ⟨hnew.variant.trans hold.variant, hnew.active, (hnew.generation.trans himage).trans hold.generation, hnew.begun.trans hold.begun⟩

/-- The apply instant (R89 t4). -/
theorem State.applyCommit_leaves {s : State} (hh : s.sumac.healthChanged = false) : s.applyCommit.od.active = s.commitImage ∧ s.applyCommit.commit.phase = .applied ∧ s.applyCommit.st E.commitState = 4 ∧
    s.applyCommit.st E.commitGeneration = (s.st E.commitGeneration + 1) % odModulus s.variant E.commitGeneration ∧ s.applyCommit.mram.commitPhase = false := by
  unfold State.applyCommit
  rw [if_neg (by simp [hh])]
  extract_lets sumac mram s1 s2
  obtain ⟨-, hactive, hgeneration, hbegun⟩ := State.switchImage_leaves s1 s.commit.image (s.withImage s.commitImage).place.pl 0
  have hrecord : s2.ApplyStands s2.configRecord := State.ApplyStands.evidence s2 0 0x02 0 _ 1
  have hcounted : s1.st E.commitGeneration = (s.st E.commitGeneration + 1) % odModulus s.variant E.commitGeneration := State.stRow_setRow _ E.commitGeneration noRow _
  refine ⟨hrecord.active.trans hactive, rfl, State.st_set _ _ _, ?_, hrecord.begun.trans hbegun⟩
  rw [State.commitTo_st _ _ _ (by decide), hrecord.generation, hgeneration, hcounted]

theorem applyInstant_leads {s : State} (hrun : s.inRun = true) (hphase : s.commit.phase = .applying) (hh : s.sumac.healthChanged = false) : s.leads .applyInstant (fun t =>
      t.od.active = s.commitImage ∧ t.commit.phase = .applied ∧ t.st E.commitState = 4 ∧ t.st E.commitGeneration = (s.st E.commitGeneration + 1) % odModulus s.variant E.commitGeneration ∧
      t.mram.commitPhase = false ∧ t = { s with clock := t.clock, od := t.od, sessions := t.sessions, lockHolder := t.lockHolder, commit := t.commit, bankStore := t.bankStore, sdo := t.sdo, ev := t.ev, safe := t.safe, dies := t.dies, queues := t.queues, bp := t.bp, policers := t.policers, credits := t.credits, markers := t.markers, ports := t.ports, mram := t.mram, sumac := t.sumac, intc := t.intc, apps := t.apps, tunnels := t.tunnels, creditDue := t.creditDue, keys := t.keys, life := t.life, measure := t.measure, update := t.update, nextFid := t.nextFid, pins := t.pins, out := t.out }) := by
  have hx : exec .applyInstant s = .next s.applyCommit.settle := done_when (by simp [hrun, hphase])
  obtain ⟨hactive, happlied, hstate, hgeneration, hbegun⟩ := State.applyCommit_leaves hh
  generalize s.applyCommit = u at *
  refine State.leads_of_exec hx ⟨?_, ?_, ?_, ?_, ?_, State.eq_mix (execApplyInstant_rest (fs := 12601240047502) (by decide) s hx)⟩
  · rw [State.settle_od, hactive]
  · rw [State.settle_commit, happlied]
  · rw [State.st_settle, hstate]
  · rw [State.st_settle, hgeneration]
  · rw [State.settle_mram, hbegun]

/-- Settles O47, by what each action and each phase of a commit leaves of the image in use. -/
theorem commitSequence : Obligations.CommitSequence := by
  unfold Obligations.CommitSequence
  intro s
  refine ⟨?_, fun sess ha hidle hmine hlevel => dropStaging_leads (c := .commitDiscard sess) rfl ha (State.commitAction_discards hidle hlevel hmine),
    fun sess ha hidle hfree hlevel hroom => restoreDefaults_leads hidle hlevel ha hfree hroom,
    fun sess ha hidle hheld hmay hlevel => dropStaging_leads (c := .discardLockHolder sess) rfl ha (State.commitAction_discardsOther hidle hlevel hheld hmay),
    validationComplete_leads, placementComplete_leads, fun ok hrun hphase hh hdown hfit => storeWriteComplete_leads hh hdown hfit ok hrun hphase, applyInstant_leads, commitDone_leads,
    fun sess ha hidle hfree hlevel hroom => restoreDefaults_full hidle hlevel ha hfree hroom⟩
  intro sess c only hc ha hidle hmine hlevel
  obtain ⟨rfl, rfl⟩ | ⟨rfl, rfl⟩ : (c = .commitValidate sess ∧ only = true) ∨ (c = .commitStart sess ∧ only = false) := by simpa using hc
  · exact commitBegin_leads hidle hlevel true rfl ha hmine
  · exact commitBegin_leads hidle hlevel false rfl ha hmine

end Sys2Proof.Machine
end
